-- ==== Sys2Proof/Word.lean ====
section
/-! DEFINITION.  The word types of the device: 32-bit registers (R7), 64-bit words and bytes, little endian, and the
8-bit master identity (R30). -/

set_option Elab.async false

namespace Sys2Proof

/-- A 32-bit register value (R7). -/
abbrev Word32 := BitVec 32
/-- A 64-bit word: lane words (R248), turn numbers (R112), raw counts (R344). -/
abbrev Word64 := BitVec 64
/-- A byte of a memory, a frame or a stream. -/
abbrev Byte := BitVec 8
/-- A master identity (R30). -/
abbrev Mid := BitVec 8

end Sys2Proof
end

