-- ==== Sys2Proof/Config.lean ====
section
/-! DEFINITION.  What one chip fixes and no command changes: event severities (R499), and the free values and uninterpreted
functions that stand for what the manual leaves open. -/

namespace Sys2Proof

/-- The value of the `n`-th choice that the manual leaves open.  It has no body: nothing can evaluate it.
(DESIGN CHOICE, log 122.) -/
opaque Config.freeValue : Nat → BitVec 64

/-- ML-DSA-65 verification (FIPS 204, R411, R414): context string, public key, message, signature.  Not interpreted.
(DESIGN CHOICE, log 112.) -/
opaque Config.mldsaVerify : List Byte → List Byte → List Byte → List Byte → Bool

/-- ML-DSA-65 signing (R421, R424): the 32 bytes ξ of the key, context string, message.  Not interpreted.
(DESIGN CHOICE, log 112.) -/
opaque Config.mldsaSign : List Byte → List Byte → List Byte → List Byte

/-- The ML-DSA-65 public key that KeyGen gives for ξ (R421).  Not interpreted.
(DESIGN CHOICE, log 112.) -/
opaque Config.mldsaPublic : List Byte → List Byte

/-- The 32-byte identity seed fused into the device (R421).
(DESIGN CHOICE, log 112.) -/
opaque Config.identitySeed : List Byte

/-- The multiplier that the bytes of a CLOCK section give (R21, R163).  The manual does not lay the section out.
(DESIGN CHOICE, log 112.) -/
opaque Config.clockMult : List Byte → Nat

/-- SEQ_CFG and SEQ_CFG1 that the bytes of a SEQUENCER section give, and the lanes of the parent's and the children's link groups
of its barrier tree (R134, R163).  The manual does not lay the section out.
(DESIGN CHOICE, log 112.) -/
opaque Config.seqSection : List Byte → Word32 × Word32 × Option Nat × List Nat

/-- Bits [11:1] of the identification register, which the manual leaves to the BSDL file (R612). -/
opaque Config.bsdlId : BitVec 11

/-- The words of the boot ROM (R453, R458), which the manual does not give.
(DESIGN CHOICE, log 65.) -/
opaque Config.romWord : Nat → Word32

/-- The frequency in Hz that the board feeds to the reference pair LREFj (R219); 0 for none.  Not fixed by the device.
(DESIGN CHOICE, log 33.) -/
opaque Config.lrefHz : Nat → Nat

/-- The severity of an event (R499). -/
inductive Severity where
  | info | warn | error | fatal
  deriving DecidableEq, Repr

/-- The severity's code in EVT_SEVj and in a log record: 0 INFO, 1 WARN, 2 ERROR, 3 FATAL (R499). -/
def Severity.code : Severity → Nat
  | .info => 0
  | .warn => 1
  | .error => 2
  | .fatal => 3

/-- The severity of event `n`, as the chapter of its source gives it (R499, R505): the array's EV(2n) is an ERROR and
EV(2n+1) a WARN, lanes, link engines, nodes and banks are ERRORs and carrels INFO; the others stand one by one.
A reserved event never rises, and reads INFO here. -/
def Config.eventSeverity (n : Nat) : Severity :=
  if n < 68 then (if n % 2 = 0 then .error else .warn)
  else if n < 77 then
    (if n = 69 ∨ n = 74 ∨ n = 75 then .warn else if n = 72 ∨ n = 76 then .info else .error)
  else if n < 100 then .info
  else if n < 340 then .error
  else if n < 372 then
    (if n ∈ [340, 341, 342, 347, 348, 351] then .error
     else if n ∈ [343, 344, 345, 346, 352, 354] then .warn else .info)
  else if n < 388 then
    (if n = 378 then .fatal else if n ∈ [372, 375, 376] then .error else if n ∈ [374, 377] then .warn else .info)
  else if n < 404 then
    (if n ≤ 389 then .error else if n ∈ [390, 392, 393, 394, 395, 396] then .warn else .info)
  else if n < 420 then
    (if n = 404 then .fatal else if n ∈ [405, 406, 408, 410, 416, 417] then .error
     else if n ∈ [407, 412, 413, 414, 418] then .warn else .info)
  else if n < 436 then
    (if n ∈ [420, 422, 426] then .error else if n ∈ [423, 424, 425, 427, 429] then .warn else .info)
  else if n < 468 then .info
  else if n < 484 then
    (if n ∈ [478, 479] then .fatal else if n ∈ [468, 469, 472, 473, 481] then .error
     else if n ∈ [470, 471, 475, 477, 480] then .warn else .info)
  else if n < 496 then
    (if n ∈ [487, 488, 492, 495] then .error else if n ∈ [485, 486, 489, 493, 494] then .warn else .info)
  else if n < 504 then
    (if n ∈ [496, 500, 502, 503] then .error else if n ∈ [497, 498] then .warn else .info)
  else if n < 512 then .error
  else .info

/-- Status codes of R33 and of the chapters, each a 6-bit value. -/
abbrev Status := BitVec 6

namespace Code
abbrev ok : Status := 0x00
abbrev domainOff : Status := 0x01
abbrev wakeTimeout : Status := 0x02
abbrev conflict : Status := 0x03
abbrev overQuota : Status := 0x04
abbrev denied : Status := 0x05
abbrev eccFatal : Status := 0x06
abbrev timeout : Status := 0x07
abbrev discard : Status := 0x08
abbrev regionFault : Status := 0x09
abbrev imageConflict : Status := 0x0A
abbrev sigFail : Status := 0x0B
abbrev rollback : Status := 0x0C
abbrev arrBusy : Status := 0x20
abbrev seqState : Status := 0x24
abbrev seqBusy : Status := 0x25
abbrev seqLocked : Status := 0x26
abbrev seqLate : Status := 0x27
abbrev rzNoroute : Status := 0x28
abbrev rzMalformed : Status := 0x29
abbrev rzTableBusy : Status := 0x2A
abbrev lnDown : Status := 0x2C
abbrev lnMode : Status := 0x2D
abbrev lnFull : Status := 0x2E
abbrev lnMtu : Status := 0x2F
abbrev acqBusy : Status := 0x30
abbrev acqRange : Status := 0x31
abbrev acqStopped : Status := 0x32
abbrev acqCfg : Status := 0x33
abbrev hbmNotReady : Status := 0x34
abbrev imgFormat : Status := 0x38
abbrev ldrBusy : Status := 0x39
abbrev ldrLate : Status := 0x3A
abbrev ldrSorus : Status := 0x3B
abbrev crlFull : Status := 0x3C
abbrev twnState : Status := 0x3D
abbrev twnNopair : Status := 0x3E
abbrev ringNodev : Status := 0x3F
end Code

end Sys2Proof
end

