-- ==== Sys2Proof/Syntax.lean ====
section
/-! DEFINITION.  The commands of the block: one constructor for each row of spec/opcode_table.json, with the operands that come
from outside.  What a command needs that the device itself holds (a register, a memory word, a queue) is read from the state.
The docstring of a constructor gives its row's rule and what happens.  -/

namespace Sys2Proof

/-- A record held under a VALID bit (R618). -/
inductive RecordId where
  | arrFlt (n : Fin 34) | rzSpFlt (node : Fin 48) | seqOvr | hbmErr | acqViol | acqEccCtx | libBerr (core : Fin 2) | hstWerr
  deriving DecidableEq, Repr

/-- A block that has RWL fields and a LOCK bit (R11): CNS_CTRL.LOCK, LIB_CTRL.LOCK and CRL_CTRL.LOCK. -/
inductive LockBlock where
  | conservator | librarian | carrels
  deriving DecidableEq, Repr

/-- What a core does with an SRAM word (R457): fetch, load, word store, or a byte or halfword store. -/
inductive SramAccess where
  | fetch | load | partStore (byteMask : BitVec 4) (value : Word32)
  deriving DecidableEq, Repr

/-- What a debug transaction asks of a debug module (R455): to halt the core, to let it run on, or to read or write a word at an
address of what the halted core can reach (R453). -/
inductive DebugOp where
  | halt | resume | read (addr : Word32) | write (addr value : Word32)
  deriving DecidableEq, Repr

/-- A sensor of R463. -/
inductive Sensor where
  | ts (i : Fin 48) | vm (j : Fin 24) | cm (k : Fin 8)
  deriving DecidableEq, Repr

/-- The BAR of a host request (R566): BAR0 registers, BAR2 ring window, BAR4 HBM. -/
inductive Bar where
  | regs | ring | hbm
  deriving DecidableEq, Repr

/-- What resets the host interface (R570). -/
inductive HostResetCause where
  | perstN | hotReset | flr | linkLoss
  deriving DecidableEq, Repr

/-- The fields of a ring frame header that the receiver acts on (R571), and the trailer's HOPS. -/
structure RingHeader where
  dst : Fin 64
  src : Fin 64
  bcast : Bool
  tag : BitVec 8
  hops : Fin 64
  deriving DecidableEq, Repr

/-- A Boolean processor: physical sorus, frond and number in the frond. -/
structure BpId where
  sorus : Fin 34
  frond : Fin 16
  bp : Fin 64
  deriving DecidableEq, Repr

/-- What an error check of stored data finds: nothing, a single-bit error, or an error it cannot correct (R338, R457). -/
inductive EccFind where
  | clean | corrected | uncorrectable
  deriving DecidableEq, Repr

/-- A 32-bit word of a sorus's data-memory window or block-memory window (R103). -/
inductive MemWord where
  | slots (word : Fin 8192) | block (word : Fin 65536)
  deriving DecidableEq, Repr

/-- A general-plane packet: the header of R194 and its data units of 256 bits. -/
structure Packet where
  dnode : BitVec 6
  dep : BitVec 3
  snode : BitVec 6
  sep : BitVec 3
  mid : Mid
  cls : BitVec 2
  opc : BitVec 4
  tag : BitVec 10
  status : BitVec 6
  rdlen : BitVec 4
  addr : Word64
  firstBe : Word32
  lastBe : Word32
  data : List (BitVec 256)
  deriving DecidableEq, Repr

/-- What a node's check of a scheduled-plane unit on one of its inputs finds (R187): the node, the input (0 north, 1 east,
2 south, 3 west), the sideband or the payload, and whether it is uncorrectable. -/
structure UnitError where
  node : Fin 48
  input : Fin 4
  sideband : Bool
  fatal : Bool
  deriving DecidableEq, Repr

/-- A frame of a Quire link as it arrives (R255): TURN and FIRST of its header, its words with whether their blocks arrived
intact, its SEQ, whether its CRC matches (R262, R263), and whether the header itself arrived. -/
structure QuireFrame where
  turn : Word32
  first : BitVec 12
  words : List (Word64 × Bool)
  seq : BitVec 12
  crcOk : Bool
  headerOk : Bool
  deriving DecidableEq, Repr

/-- A REG frame of the mirror port (R561): a request to read or write a register, or the answer to one. -/
inductive RegFrame where
  | request (addr : BitVec 28) (write : Option Word32)
  | answer (status : Status) (data : Word32)
  deriving DecidableEq, Repr

/-- The commands of the GH9640, in the order of the table. -/
inductive Instr where
  /-- PORST_N (R588): Assertion of the device reset pin returns every block to its reset state. -/
  | porstN
  /-- POWER_ON_RESET (R589): The internal power-on reset in PDAON acts as PORST_N low while VDD_AON or VAUX is low. -/
  | powerOnReset
  /-- PORST_N_RELEASE (R19): At release of PORST_N the straps are sampled and REFCLK0 is measured to choose the RPLL multiplier. -/
  | porstNRelease (bootsel : BitVec 3) (devnum : BitVec 6) (role : Bool) (refKhz : Nat)
  /-- RPLL_LOCK (R350): The RPLL locks, the time counter starts and PNOM is set from the class frequency. -/
  | rpllLock (phase : BitVec 8)
  /-- REFCLK0_LOSS (R22): REFCLK0 fails while running and the clock unit enters holdover with EV468. -/
  | refclk0Loss
  /-- RELOCK (R23): A write of CLK_CTRL.RELOCK relocks the RPLL to REFCLK0. -/
  | relock (mid : Mid)
  /-- NOP (R39): A BP executes NOP and leaves its frond-bus bit undriven. -/
  | bpNop (bp : BpId)
  /-- EVAL (R41): A BP evaluates its truth table, writes slot DST and drives its own frond-bus bit. -/
  | bpEval (bp : BpId)
  /-- EVALX (R50): A BP evaluates its truth table and drives the frond-bus bit selected by DST. -/
  | bpEvalx (bp : BpId)
  /-- ADD (R59): A gang group adds X, Y and carry-in and writes the result word bit by bit. -/
  | gangAdd (bp : BpId)
  /-- SUB (R59): A gang group subtracts Y and carry-in from X. -/
  | gangSub (bp : BpId)
  /-- CMPLT (R59): A gang group writes X < Y to every bit. -/
  | gangCmplt (bp : BpId)
  /-- CMPLE (R59): A gang group writes X <= Y to every bit. -/
  | gangCmple (bp : BpId)
  /-- CMPEQ (R59): A gang group writes X = Y to every bit. -/
  | gangCmpeq (bp : BpId)
  /-- MIN (R59): A gang group writes the lesser of X and Y. -/
  | gangMin (bp : BpId)
  /-- MAX (R59): A gang group writes the greater of X and Y. -/
  | gangMax (bp : BpId)
  /-- ABSDIFF (R59): A gang group writes the magnitude of X - Y. -/
  | gangAbsdiff (bp : BpId)
  /-- MRD (R54): A BP contributes a bit to a read-port field of an assigned block memory. -/
  | bpMrd (bp : BpId)
  /-- MWR (R54): A BP contributes a bit to a write-port field of an assigned block memory. -/
  | bpMwr (bp : BpId)
  /-- PORT (R52): A BP drives an outbound sorus-lane source or an outbound port bit. -/
  | bpPort (bp : BpId)
  /-- PROBE (R55): A BP records its result into a probe channel of its frond. -/
  | bpProbe (bp : BpId)
  /-- BARRIER (R56): A BP casts its result as its turn-barrier vote. -/
  | bpBarrier (bp : BpId)
  /-- ILL_OP (R39): A reserved opcode executes as NOP and records an ILL_OP fault. -/
  | bpIllOp (bp : BpId)
  /-- BLOCK_MEMORY_ACCESS (R94): A port access issued in the previous step is performed in a block memory. -/
  | blockMemoryAccess (sorus : Fin 34) (mem : Fin 32)
  /-- SORUS_LANE_DELIVERY (R79): A value driven on a sorus-lane source two steps earlier reaches its crossbar inputs. -/
  | sorusLaneDelivery (sorus : Fin 34) (frond : Fin 16) (lane : Fin 64)
  /-- PIN_OUTPUT_LOAD (R88): The pin output register loads the value taken three pipeline stages earlier and drives the pad. -/
  | pinOutputLoad (bank : Fin 8) (pin : Fin 24)
  /-- TURN_BOUNDARY (R116): Step L - 1 completes and the boundary actions run in their fixed order. -/
  | turnBoundary (refEdge : Bool)
  /-- ARR_IM_LO_READ (R108): A read of ARR_IM_LO fetches the selected instruction word into the staging word. -/
  | arrImLoRead (mid : Mid) (sorus : Fin 34)
  /-- ARR_IM_HI_READ (R108): A read of ARR_IM_HI returns the upper staging bits and advances WORD under AUTOINC. -/
  | arrImHiRead (mid : Mid) (sorus : Fin 34)
  /-- ARR_IM_HI_WRITE (R108): A write of ARR_IM_HI commits the staging word with generated check bits. -/
  | arrImHiWrite (mid : Mid) (sorus : Fin 34) (value : Word32)
  /-- CONFIG_WINDOW_WRITE (R104): A crossbar, port-map or safe-value window write is accepted with MODIFIED or refused. -/
  | configWindowWrite (mid : Mid) (sorus : Fin 34) (word : Fin 4224) (value : Word32)
  /-- MEMORY_WINDOW_WRITE (R105): A data-memory or block-memory window write is accepted or refused with ARR_BUSY. -/
  | memoryWindowWrite (mid : Mid) (sorus : Fin 34) (word : MemWord) (value : Word32)
  /-- RECORD_CLEAR (R618): A write of 1 to a record's VALID bit clears and re-arms the record. -/
  | recordClear (mid : Mid) (rec : RecordId)
  /-- STICKY_CLEAR (R10): A write of 1 to an RW1C bit clears it unless its condition persists or a set coincides. -/
  | stickyClear (mid : Mid) (addr : BitVec 28) (mask : Word32)
  /-- COUNTER_READ (R9): A read of an RC register returns its value and clears it. -/
  | counterRead (mid : Mid) (addr : BitVec 28)
  /-- REGISTER_WRITE (R9): A write to a register without behaviour of its own stores under its access codes. -/
  | registerWrite (mid : Mid) (addr : BitVec 28) (value : Word32)
  /-- LOCK (R11): A write of 1 to a block's LOCK bit locks its RWL fields until PORST_N. -/
  | lockBlock (mid : Mid) (blk : LockBlock)
  /-- START (R138): The START command meets the start condition in ARMED or re-arms from STOPPED. -/
  | seqStart (mid : Mid) (value : Word32)
  /-- STOP (R138): The STOP command stops the sequencer at once or at the named boundary. -/
  | seqStop (mid : Mid) (value : Word32)
  /-- PAUSE (R138): The PAUSE command pauses an elastic schedule at the named boundary. -/
  | seqPause (mid : Mid) (value : Word32)
  /-- RESUME (R138): The RESUME command leaves PAUSED at once. -/
  | seqResume (mid : Mid) (value : Word32)
  /-- STEP (R138): The STEP command runs COUNT turns and pauses again. -/
  | seqStep (mid : Mid) (value : Word32)
  /-- LEVEL (R128): The LEVEL command changes the performance level at a named elastic boundary. -/
  | seqLevel (mid : Mid) (value : Word32)
  /-- CAPTURE (R142): The CAPTURE command names a boundary at which a snapshot is recorded. -/
  | seqCapture (mid : Mid) (value : Word32)
  /-- START_CONDITION (R119): The start condition of START_SRC is met by AUTO, comparator, pin edge or first GO. -/
  | startCondition
  /-- TURN_ZERO (R118): Turn 0 begins on the REFCLK0 edge or step-clock edge after the start condition. -/
  | turnZero
  /-- STALL_END (R114): The last stall cause clears or GO arrives and the stalled boundary completes. -/
  | stallEnd
  /-- STALL_LONG (R129): A stall outlasts SEQ_STALL_WARN and raises EV069. -/
  | stallLong
  /-- BAR_TMO (R136): The wait for GO exceeds SEQ_BAR_TMO and raises EV071. -/
  | barTmo
  /-- BAR_READY (R134): A READY BAR frame from a child carries its votes toward the root. -/
  | barReady (lane : Fin 103) (turn : Word32) (vote : Bool)
  /-- BAR_GO (R134): A GO BAR frame lets the device complete its boundary and forward GO. -/
  | barGo (lane : Fin 103) (turn : Word32) (vote : Bool)
  /-- CAPTURE_COPY_DONE (R146): The snapshot copy completes and raises EV072. -/
  | captureCopyDone
  /-- CAPTURE_COPY_FAIL (R146): An HBM write of the snapshot copy fails, stopping the copy with EV073. -/
  | captureCopyFail (code : Status)
  /-- SEQ_TURN_LO_READ (R112): A read of SEQ_TURN_LO latches the upper turn bits into SEQ_TURN_HI. -/
  | seqTurnLoRead (mid : Mid)
  /-- LDR_CLAIM (R173): A claim through LDR_CLAIM takes a free resource for the writer's MID or is refused. -/
  | ldrClaim (mid : Mid) (cls : Byte) (idx : BitVec 16)
  /-- LDR_RELEASE (R173): A release through LDR_CLAIM frees a resource held by the writer's MID. -/
  | ldrRelease (mid : Mid) (cls : Byte) (idx : BitVec 16)
  /-- SCHEDULED_PLANE_ADVANCE (R190): In each executed step every scheduled unit crosses at most one link by its slot entry. -/
  | scheduledPlaneAdvance (errs : List UnitError)
  /-- UNIT_RELEASE (R191): A unit in the landing buffer reaches AGE 15 and is released. -/
  | unitRelease (node : Fin 48)
  /-- PACKET_INJECTION (R204): A waiting packet gains its tokens and is injected into the general plane. -/
  | packetInjection (node : Fin 48) (ep : Fin 5) (pkt : Option Packet)
  /-- PACKET_HOP (R196): A general-plane packet arrives at a node and is routed by its epoch's table. -/
  | packetHop (id : Nat) (hdr data : EccFind)
  /-- RD (R195): A read request arrives at its destination and is answered by RDRSP. -/
  | rzRd (id : Nat) (ecc : List EccFind)
  /-- WR (R195): A write request arrives at its destination and is answered by WRRSP. -/
  | rzWr (id : Nat) (ecc : List EccFind)
  /-- RDRSP (R195): A read response arrives and completes its request. -/
  | rzRdrsp (id : Nat)
  /-- WRRSP (R195): A write response arrives and completes its request. -/
  | rzWrrsp (id : Nat)
  /-- MSG (R195): A management message arrives and the receiving block acts on it. -/
  | rzMsg (id : Nat)
  /-- RSP_TMO (R203): No response within RZ_RSP_TMO completes the request with TIMEOUT. -/
  | rspTmo (node : Fin 48) (ep : Fin 5) (tag : BitVec 10)
  /-- HELD_TMO (R210): A packet held at a fence beyond PWR_HOLD_TMO is answered WAKE_TIMEOUT or dropped. -/
  | heldTmo (dom : Fin 88)
  /-- GP_SWITCH (R208): A general-plane epoch switch flips every injection epoch and starts retirement. -/
  | gpSwitch (mid : Mid)
  /-- SP_SWITCH (R208): A scheduled-plane epoch switch is set for the next boundary or flips at once. -/
  | spSwitch (mid : Mid)
  /-- EPOCH_RETIRE (R209): The old-epoch in-flight count reaches 0 and the copy becomes writable. -/
  | epochRetire (general : Bool)
  /-- TABLE_WRITE (R207): A write to a route or slot table copy is performed or refused as in use. -/
  | tableWrite (mid : Mid) (node : Fin 48) (slots : Bool) (epoch : Fin 2) (entry : Fin 1024) (high : Bool) (value : Word32)
  /-- LN_CFG_WRITE (R227): A write of LN_CFG configures the lane and restarts it where rate or loopback changes. -/
  | lnCfgWrite (mid : Mid) (lane : Fin 103) (value : Word32)
  /-- LN_PLL_WRITE (R219): A write of LN_PLL sets the quad PLL and restarts its lanes. -/
  | lnPllWrite (mid : Mid) (pll : Fin 28) (value : Word32)
  /-- PLL_LOCK (R227): The lane PLL locks and the transmitter may leave idle. -/
  | pllLock (pll : Fin 28)
  /-- SIGDET (R227): A differential input above threshold sets SIGDET. -/
  | sigdet (lane : Fin 103)
  /-- CDR_LOCK (R227): The CDR locks and the receive buffer is centred. -/
  | cdrLock (lane : Fin 103)
  /-- ADAPT_DONE (R227): Initial adaptation converges and the lane becomes READY. -/
  | adaptDone (lane : Fin 103)
  /-- LOS (R228): SIGDET falls on an enabled lane, clearing READY. -/
  | los (lane : Fin 103)
  /-- LOL (R228): CDR lock is lost on an enabled lane. -/
  | lol (lane : Fin 103)
  /-- PLL_LOST (R228): The lane's PLL loses lock. -/
  | pllLost (pll : Fin 28)
  /-- SLIP (R229): The receive buffer fill passes its limits and re-centres, shifting latency. -/
  | slip (lane : Fin 103)
  /-- FE_SLIP (R236): The far-end loopback buffer overflows or underflows and re-centres. -/
  | feSlip (lane : Fin 103)
  /-- LN_TXFIR_WRITE (R232): A write of LN_TXFIR sets the taps or, when over 63, keeps them with FIR_BAD. -/
  | lnTxfirWrite (mid : Mid) (lane : Fin 103) (value : Word32)
  /-- EYE_SCAN_START (R234): A write of START begins an eye scan at the chosen point. -/
  | eyeScanStart (mid : Mid) (lane : Fin 103) (value : Word32)
  /-- EYE_SCAN_DONE (R235): The scan count ends and DONE is set. -/
  | eyeScanDone (lane : Fin 103) (errors : Word32)
  /-- PRBS_LOCK (R237): The PRBS checker locks after 64 error-free bits. -/
  | prbsLock (lane : Fin 103)
  /-- LN_LE_CFG_WRITE (R245): A write of LN_LE_CFG sets the link mode or is refused with CFG_BAD. -/
  | lnLeCfgWrite (mid : Mid) (lane : Fin 103) (value : Word32)
  /-- BLOCK_LOCK (R253): A lane gains or loses block lock on its sync headers. -/
  | blockLock (lane : Fin 103)
  /-- LINK_UP (R258): Every member has block lock and deskew succeeds, so UP sets. -/
  | linkUp (lane : Fin 103) (skew : Nat)
  /-- LINK_DOWN (R252): UP falls, setting DOWN and discarding the reliable replay buffer. -/
  | linkDown (lane : Fin 103)
  /-- WORD_AVAILABLE (R249): A received word becomes available and is passed on or queued for release. -/
  | wordAvailable (lane : Fin 103) (word : Word64) (valid cut : Bool)
  /-- WORD_RELEASE (R250): A word is released into the lane's output register at its release step. -/
  | wordRelease (lane : Fin 103)
  /-- XDEV_FRAME (R255): A cross-device frame is received and its words delivered with arrival tags. -/
  | xdevFrame (lane : Fin 103) (frame : QuireFrame)
  /-- FEED_FRAME (R255): A FEED frame is received and its words delivered. -/
  | feedFrame (lane : Fin 103) (frame : QuireFrame)
  /-- TRIG_FRAME (R255): A TRIG frame is received and its words delivered. -/
  | trigFrame (lane : Fin 103) (frame : QuireFrame)
  /-- READOUT_FRAME (R309): A READOUT frame is received and forwarded or dropped. -/
  | readoutFrame (lane : Fin 103) (frame : QuireFrame)
  /-- ACK (R263): An ACK block acknowledges frames and returns credit. -/
  | qlAck (lane : Fin 103) (ackseq credit : BitVec 12)
  /-- NAK (R264): An ACK with NAK asks the sender to replay unacknowledged frames. -/
  | qlNak (lane : Fin 103) (ackseq credit : BitVec 12)
  /-- REPLAY_TIMEOUT (R264): No ACK progress within the replay timeout resends every unacknowledged frame. -/
  | replayTimeout (lane : Fin 103)
  /-- FRAME_SEND (R264): A reliable frame waiting for credit gains it and is sent. -/
  | frameSend (lane : Fin 103)
  /-- TX_WORD_TAKE (R259): At a plan step the engine takes words from the scheduled plane into frames. -/
  | txWordTake (lane : Fin 103)
  /-- ALIGNMENT_WINDOW_END (R261): The alignment window ends and XLAT and ALIGNED are set. -/
  | alignmentWindowEnd (lane : Fin 103)
  /-- UDP_DATAGRAM (R272): The acquisition engine hands a payload and the engine builds and sends a datagram or refuses it. -/
  | udpDatagram (lane : Fin 103) (dest : Fin 8) (payload : List Byte)
  /-- ETHERNET_FRAME_RECEIVE (R274): A received Ethernet frame is delivered as words, forwarded or dropped. -/
  | ethernetFrameReceive (lane : Fin 103) (bytes : List Byte) (fcsOk : Bool) (count : Word64) (frac : Byte)
  /-- FRAME_TRANSMIT_REQUEST (R275): Firmware hands a frame to send by MGT MSG, or it is refused. -/
  | frameTransmitRequest (lane : Fin 103) (core : Fin 2) (tag : BitVec 16) (wantTs : Bool) (bytes : List Byte)
  /-- FRAME_SENT (R275): A firmware frame is sent and answered with its status and timestamp. -/
  | frameSent (lane : Fin 103) (count : Word64) (frac : Byte)
  /-- CAPTURE_WORD (R283): A delivered word enters the acquisition engine and is calibrated, reduced and archived. -/
  | captureWord (eccs : List EccFind)
  /-- ARCHIVE_DROP (R298): An archive word finding a full buffer or a refused write is dropped. -/
  | archiveDrop
  /-- ACQ_ENABLE (R283): A rise of ACQ_CTRL.EN restarts word indices and record numbering. -/
  | acqEnable (mid : Mid) (value : Word32)
  /-- LANE_DESCRIPTOR_WRITE (R288): A lane descriptor is checked and admitted or refused. -/
  | laneDescriptorWrite (mid : Mid) (lane : Fin 96) (word : Fin 3) (value : Word32)
  /-- RECORD_TRIGGER (R301): A class's trigger source fires, a SEQ is assigned and windows are latched. -/
  | recordTrigger (cls : Fin 16)
  /-- TRIGGER (R314): The TRIGGER command triggers a class whose source is the command. -/
  | acqTrigger (mid : Mid) (cls : Fin 16)
  /-- RESTART (R299): The RESTART command clears every archive stop. -/
  | acqRestart (mid : Mid)
  /-- DUMP (R294): The DUMP command copies context banks into HBM. -/
  | acqDump (mid : Mid)
  /-- CLEAR (R294): The CLEAR command returns context banks to the empty state. -/
  | acqClear (mid : Mid)
  /-- PRB_REARM (R313): The PRB_REARM command ends a probe-ring freeze. -/
  | prbRearm (mid : Mid)
  /-- DUMP_DONE (R294): A dump or clear completes and raises EV350. -/
  | dumpDone
  /-- DUMP_FAIL (R294): An HBM write fails and ends the dump with EV351. -/
  | dumpFail (copied : Nat)
  /-- RECORD_COMPLETE (R303): Every lane has delivered the last index a record needs. -/
  | recordComplete (seq : Word32)
  /-- RECORD_TIMEOUT (R303): A record not complete within ACQ_REC_TMO is sent INCOMPLETE. -/
  | recordTimeout (seq : Word32)
  /-- RECORD_SEND (R308): A record's archive reads return and it is sent in fragments or frames. -/
  | recordSend (seq : Word32)
  /-- CONTEXT_WINDOW_READ (R296): A read of bytes 0-3 of a context latches the whole context. -/
  | contextWindowRead (mid : Mid) (word : Fin 2097152) (ecc : EccFind)
  /-- CONTEXT_WINDOW_WRITE (R296): A write of bytes 60-63 commits the staged context. -/
  | contextWindowWrite (mid : Mid) (word : Fin 2097152) (value : Word32)
  /-- PROBE_BUFFER_FREE (R312): A probe buffer's HBM writes complete and it is free again. -/
  | probeBufferFree (failed : Bool)
  /-- ISSUE_ENTRY_FIRE (R330): A memory-port issue entry fires and injects a request. -/
  | issueEntryFire (sorus : Fin 34) (entry : Fin 16) (ecc : EccFind)
  /-- MEMORY_PORT_RELEASE (R331): A locked response is released onto its positions at s + RLAT - 1. -/
  | memoryPortRelease (sorus : Fin 34) (entry : Fin 16)
  /-- REFRESH (R336): The controller issues per-bank refresh in a quiet window or as it needs. -/
  | refresh (pc : Fin 16)
  /-- PHY_TRAINING_DONE (R339): HBM PHY training succeeds and the controller becomes ready. -/
  | phyTrainingDone
  /-- TRAIN_FAIL (R339): Training has not succeeded within 20 ms and is declared failed. -/
  | trainFail
  /-- STACK_TEMPERATURE_POLL (R339): The stack temperature is polled and TEMP_HI set above 85 °C. -/
  | stackTemperaturePoll (temp : BitVec 8)
  /-- TU_RAW_LO_READ (R351): A read of TU_RAW_LO latches the count and its PTP time. -/
  | tuRawLoRead (mid : Mid)
  /-- SET (R357): The SET command writes the time and resets the servo to FREE. -/
  | tuSet (mid : Mid)
  /-- TU_STEP (R357): The time-unit STEP command adds a signed delta to T0. -/
  | tuStep (mid : Mid)
  /-- CONV (R352): The CONV command converts a count to PTP time. -/
  | tuConv (mid : Mid)
  /-- HOLD (R356): The HOLD command puts the time unit into HOLDOVER. -/
  | tuHold (mid : Mid)
  /-- SERVO_MEASUREMENT (R355): A write of TU_SRV_OFS_HI commits an offset that steps or slews the period. -/
  | servoMeasurement (mid : Mid) (hi : Word32)
  /-- HOLDOVER_TIMEOUT (R356): No measurement for TMO_MS puts the time unit into HOLDOVER. -/
  | holdoverTimeout
  /-- PNOM_COMMIT (R349): A write of TU_PNOM_HI commits PNOM and re-anchors time. -/
  | pnomCommit (mid : Mid) (hi : Word32)
  /-- TIMING_PORT_CONFIG (R359): A write of TU_TP_CFGp sets the timing port's mode and PLL. -/
  | timingPortConfig (mid : Mid) (port : Fin 2) (value : Word32)
  /-- ARM (R362): ARM copies the staged target and period into a comparator and arms it. -/
  | tcArm (mid : Mid) (tc : Fin 16)
  /-- DISARM (R362): DISARM disarms a comparator. -/
  | tcDisarm (mid : Mid) (tc : Fin 16)
  /-- COMPARATOR_FIRE (R363): An armed comparator reaches its target and fires to its consumers. -/
  | comparatorFire (tc : Fin 16)
  /-- PULSE_END (R366): A comparator pin pulse ends after PW µs. -/
  | pulseEnd (tc : Fin 16)
  /-- DISPATCHER_TICK (R369): The time unit sends the dispatcher a tick. -/
  | dispatcherTick
  /-- DIRECTORY_READ (R376): The flash directory copies are read and one is chosen. -/
  | directoryRead (first second : List Byte)
  /-- FIRMWARE_LOADED (R458): A firmware image is taken, checked, verified and started. -/
  | firmwareLoaded (bytes : List Byte)
  /-- FIRMWARE_ARRIVAL (R460): After a boot failure, firmware arriving on the FIFO or ring is verified and started. -/
  | firmwareArrival
  /-- HEADER_PHASE (R383): The image header and section table are read and checked. -/
  | headerPhase (bytes : List Byte)
  /-- CLOCK_PHASE (R21): The CLOCK section is checked, its multiplier applied and the RPLL relocked. -/
  | clockPhase (bytes : List Byte)
  /-- CHECK_PHASE (R386): Sequencer, grid and ownership are checked and virtual sori are mapped. -/
  | checkPhase (bytes : List Byte)
  /-- HBM_PHASE (R340): The HBM section is checked, the PHY trained and regions written. -/
  | hbmPhase (bytes : List Byte)
  /-- IMAGE_FRAME (R385): A frame is taken whole, checked and its units written. -/
  | imageFrame (bytes : List Byte)
  /-- VERIFY_PHASE (R387): The START section, signature and version are verified and the image identity recorded. -/
  | verifyPhase (bytes : List Byte)
  /-- END (R390): The END entry ends the start-up program. -/
  | progEnd
  /-- WAIT_QUADS (R390): The WAIT_QUADS entry completes when the named quads' lanes are READY. -/
  | waitQuads
  /-- WAIT_TU (R390): The WAIT_TU entry completes when the time unit is LOCKED. -/
  | waitTu
  /-- WAIT_PIN (R390): The WAIT_PIN entry completes when an event bit reads the named level. -/
  | waitPin
  /-- WAIT_TWIN (R390): The WAIT_TWIN entry completes when the twin pair forms. -/
  | waitTwin
  /-- PROGRAM_DELAY (R390): The DELAY entry completes after ARG µs. -/
  | programDelay
  /-- SYNC_DONE (R390): The SYNC_DONE entry releases DONE and completes when the pin reads high. -/
  | syncDone
  /-- OUT (R392): The OUT entry releases pins, lanes, capture and the sequencer. -/
  | progOut
  /-- START_SEQ (R390): The START_SEQ entry gives the sequencer a START command. -/
  | progStartSeq
  /-- ENTRY_TIMEOUT (R390): A program entry exceeds TMO and fails the load or continues. -/
  | entryTimeout
  /-- LOAD_FULL (R395): The LOAD_FULL command unloads the device and reloads a full image. -/
  | loadFull (mid : Mid) (value : Word32)
  /-- LOAD_PARTIAL (R398): The LOAD_PARTIAL command loads a paged or full-depth region. -/
  | loadPartial (mid : Mid) (value : Word32)
  /-- REPAIR (R406): The REPAIR command loads a virtual sorus onto a spare for a remap. -/
  | ldrRepair (mid : Mid) (value : Word32)
  /-- SWAP (R405): The SWAP command sets a page swap without a load. -/
  | ldrSwap (mid : Mid) (value : Word32)
  /-- ABORT (R404): The ABORT command ends a pending partial load, swap or repair. -/
  | ldrAbort (mid : Mid) (value : Word32)
  /-- PARTIAL_LOAD_COMPLETE (R402): A partial load or repair completes and its change is set for a boundary. -/
  | partialLoadComplete (bytes : List Byte)
  /-- LDR_FIFO_WRITE (R382): A write to the loader FIFO appends its bytes or is discarded. -/
  | ldrFifoWrite (mid : Mid) (bytes : List Byte)
  /-- VERIFY (R426): The security VERIFY command checks a flash entry without loading it. -/
  | secVerify (mid : Mid)
  /-- VERIFY_DONE (R426): The read of a VERIFY completes with its status. -/
  | verifyDone (bytes : List Byte)
  /-- ATTEST (R424): The ATTEST command takes the state for a signed report. -/
  | secAttest (mid : Mid)
  /-- ATTEST_DONE (R425): Signing completes and the report buffer holds the new report. -/
  | attestDone
  /-- EXTEND (R423): The EXTEND command extends MR6 or MR7 with SEC_EXT. -/
  | secExtend (mid : Mid)
  /-- REVOKE (R418): The REVOKE command sets a key slot's revocation bit. -/
  | secRevoke (mid : Mid)
  /-- ADVANCE (R420): The ADVANCE command blows thermometer bits up to N - 1. -/
  | secAdvance (mid : Mid)
  /-- KEYPROG (R418): The KEYPROG command programs a key slot's digest and USE. -/
  | secKeyprog (mid : Mid)
  /-- FUSE_BURN_DONE (R427): A fuse command completes and raises EV419. -/
  | fuseBurnDone
  /-- SCRUB_READ (R435): The scrub port reads one instruction word every 16 cycles and checks it. -/
  | scrubRead (bp : BpId)
  /-- SCRUB_WRITEBACK (R436): A corrected instruction word is written back in the scrub port's next slot. -/
  | scrubWriteback (bp : BpId) (word : Fin 1024)
  /-- GOLDEN_RESTORE (R437): An uncorrectable word is restored from its golden copy, or HBM_FAIL is raised. -/
  | goldenRestore (bp : BpId) (word : Fin 1024) (ecc : EccFind)
  /-- FRAME_COMPARE (R439): A guarded configuration word is compared with its golden copy and rewritten on difference. -/
  | frameCompare (ecc : EccFind)
  /-- INJECT (R448): A write of CNS_INJ_CHK injects an error or is refused. -/
  | cnsInject (mid : Mid) (value : Word32)
  /-- SELF_UPSET (R445): A disagreeing copy of Conservator state is overwritten by the vote. -/
  | selfUpset
  /-- PASS_RESTART (R446): A pass-state disagreement restarts the pass from frame 0. -/
  | passRestart
  /-- CNS_CTRL_WRITE (R438): A write of CNS_CTRL ends or restarts the pass as COMPARE and EN change. -/
  | cnsCtrlWrite (mid : Mid) (value : Word32)
  /-- CNS_REC3_READ (R450): A read of CNS_REC3 removes the oldest record. -/
  | cnsRec3Read (mid : Mid)
  /-- C1_RUN (R452): A write of C1_RUN starts or resets and holds core 1. -/
  | c1Run (mid : Mid) (run : Bool)
  /-- CORE_RESET (R452): RST0 or RST1 resets one core and restarts it at its entry. -/
  | coreReset (mid : Mid) (core : Fin 2)
  /-- FW_RELOAD (R461): FW_RELOAD restarts the firmware through the ROM while the image runs. -/
  | fwReload (mid : Mid)
  /-- BUS_ERROR (R456): A core access completes with a non-OK status and is recorded and faulted. -/
  | busError (core : Fin 2) (isStore : Bool) (addr : Word32) (code : Status)
  /-- SRAM_ERROR (R457): An SRAM word with an error is corrected or faults the core. -/
  | sramError (core : Fin 2) (access : SramAccess) (word : Fin 131072) (unc : Bool)
  /-- DEBUG_TRANSACTION (R455): A JTAG debug transaction is accepted or returns failed. -/
  | debugTransaction (core : Fin 2) (op : DebugOp)
  /-- TIMER_INTERRUPT (R454): The raw count reaches a core's MTIMECMP and MTIP rises. -/
  | timerInterrupt (core : Fin 2)
  /-- MTIME_LO_READ (R454): A read of MTIME_LO latches the upper count bits. -/
  | mtimeLoRead (core : Fin 2)
  /-- WATCHDOG_EXPIRY (R462): A core watchdog expires, raising EV473 and optionally resetting the core. -/
  | watchdogExpiry (core : Fin 2)
  /-- WDT_KICK (R462): A write to LIB_WDT_KICKk restarts the watchdog count. -/
  | wdtKick (mid : Mid) (core : Fin 2)
  /-- SENSOR_SAMPLE (R463): A sensor is sampled and its value updated. -/
  | sensorSample (sensor : Sensor) (value : BitVec 16)
  /-- SENSOR_READ_WORD (R466): An SMBus Read Word returns a sensor value. -/
  | sensorReadWord (cmd : Byte)
  /-- STATUS_READ_WORD (R466): SMBus command 0x50 returns alarm and load status. -/
  | statusReadWord
  /-- IDENTITY_BLOCK_READ (R466): SMBus command 0x51 returns the device identity. -/
  | identityBlockRead
  /-- SMB_OUT_BLOCK_READ (R466): SMBus command 0x60 returns LIB_SMB_OUT. -/
  | smbOutBlockRead
  /-- SMB_IN_BLOCK_WRITE (R466): SMBus command 0x61 writes LIB_SMB_IN and raises EV474, or is not acknowledged. -/
  | smbInBlockWrite (bytes : List Byte) (pecOk : Bool)
  /-- ALERT_RESPONSE (R465): The target answers the Alert Response Address with its address. -/
  | alertResponse
  /-- CLOCK_LOW_TIMEOUT (R465): SCL held low for 30 ms makes the target release the bus. -/
  | clockLowTimeout
  /-- FLASH_READ (R467): GO with KIND READ sends a flash read command. -/
  | flashRead (mid : Mid) (ctrl : Word32)
  /-- FLASH_PROGRAM (R467): GO with KIND PROGRAM programs flash outside protected blocks. -/
  | flashProgram (mid : Mid) (ctrl : Word32)
  /-- FLASH_ERASE (R467): GO with KIND ERASE erases a flash block outside protected blocks. -/
  | flashErase (mid : Mid) (ctrl : Word32)
  /-- FLASH_OTHER (R467): GO with KIND OTHER sends any other flash command. -/
  | flashOther (mid : Mid) (ctrl : Word32)
  /-- FLASH_COMMAND_DONE (R467): A waiting or running flash command completes with OK. -/
  | flashCommandDone (bytes : List Byte)
  /-- LOG_COMMIT (R469): A write of LIB_LOG_COMMIT appends a firmware log record. -/
  | logCommit (mid : Mid) (value : Word32)
  /-- LOG_RP_WRITE (R470): A write of LIB_LOG_RP frees log records. -/
  | logRpWrite (mid : Mid) (value : Word32)
  /-- BIND (R479): BIND sets a task's core, priority, mode and CONSUME. -/
  | dspBind (mid : Mid) (task : Fin 64) (core : Fin 2) (prio : Fin 16) (all : Bool) (consume : Bool)
  /-- ACTIVATE (R476): ACTIVATE makes a dormant task active. -/
  | dspActivate (mid : Mid) (task : Fin 64)
  /-- CANCEL (R476): CANCEL makes a task dormant. -/
  | dspCancel (mid : Mid) (task : Fin 64)
  /-- SET_FLAGS (R479): SET_FLAGS ORs ARG into a task's flags. -/
  | dspSetFlags (mid : Mid) (task : Fin 64)
  /-- CLR_FLAGS (R479): CLR_FLAGS clears ARG bits of a task's flags. -/
  | dspClrFlags (mid : Mid) (task : Fin 64)
  /-- SET_MASK (R479): SET_MASK sets a task's mask. -/
  | dspSetMask (mid : Mid) (task : Fin 64)
  /-- DELAY (R474): DELAY places a task in the delay list under SLEEP or TIMEOUT. -/
  | dspDelay (mid : Mid) (task : Fin 64) (timeout : Bool)
  /-- UNDELAY (R474): UNDELAY removes a task from the delay list. -/
  | dspUndelay (mid : Mid) (task : Fin 64)
  /-- WAIT (R475): WAIT ends the running task of the core and takes. -/
  | dspWait (mid : Mid)
  /-- TAKE (R475): TAKE dispatches the highest ready task or reports SAME. -/
  | dspTake (mid : Mid)
  /-- RESET (R479): The dispatcher RESET returns every task to its PORST_N state. -/
  | dspReset (mid : Mid)
  /-- DELAY_EXPIRY (R474): A task's delay count reaches 0 and it leaves the delay list. -/
  | delayExpiry (task : Fin 64)
  /-- CRL_BIND_WRITE (R485): A write of CRL_BINDc binds carrel ends or is refused. -/
  | crlBindWrite (mid : Mid) (carrel : Fin 32) (value : Word32)
  /-- CRL_TXD_WRITE (R489): A write of CRL_TXDn fills the slot or is rejected with CRL_FULL. -/
  | crlTxdWrite (mid : Mid) (carrel : Fin 32) (word : Fin 16) (value : Word32)
  /-- POST (R488): A post marks the slot FULL, starts its timer and rings the receiver. -/
  | crlPost (mid : Mid) (carrel : Fin 32) (len : BitVec 5) (tag : BitVec 16)
  /-- WITHDRAW (R493): A withdrawal empties the sender's slot and rings the receiver. -/
  | crlWithdraw (mid : Mid) (carrel : Fin 32)
  /-- CRL_ACK (R490): A write of CRL_ACK releases the slot and rings the sender. -/
  | crlAck (mid : Mid) (carrel : Fin 32) (reply : BitVec 16)
  /-- END_RESET (R494): A reset of a carrel end discards its receive slot and advances its epoch. -/
  | endReset (mid : Mid) (carrel : Fin 32)
  /-- CARREL_TIMEOUT (R492): A FULL slot unreleased within CRL_TMO gives the sender a timeout doorbell. -/
  | carrelTimeout (carrel : Fin 32) (fromB : Bool)
  /-- DOMAIN_SHUTDOWN (R515): A write of REQ 0 with no hold starts a domain's shutdown, or is refused. -/
  | domainShutdown (mid : Mid) (dom : Fin 88)
  /-- DOMAIN_ENABLE (R518): A write of REQ 1 keeps a domain on, abandoning or following a shutdown. -/
  | domainEnable (mid : Mid) (dom : Fin 88)
  /-- FIRST_ACCESS (R512): An access or rising hold to an off domain wakes it. -/
  | firstAccess (mid : Mid) (dom : Fin 88)
  /-- DRAIN_COMPLETE (R515): Every request of a draining domain completes and its clocks stop and isolate. -/
  | drainComplete (dom : Fin 88)
  /-- SWITCH_OPEN (R515): The domain's rail falls and it reaches OFF. -/
  | switchOpen (dom : Fin 88)
  /-- WAKE_COMPLETE (R516): A waking domain reaches RUN and held requests are delivered. -/
  | wakeComplete (dom : Fin 88)
  /-- WAKE_FAIL (R516): A rail not up within 100 µs reopens the switch and raises EV481. -/
  | wakeFail (dom : Fin 88)
  /-- RUN (R525): PWR_CMD requesting RUN returns the device from IDLE or SLEEP. -/
  | pwrRun (mid : Mid)
  /-- IDLE (R523): PWR_CMD requesting IDLE gates the step clock. -/
  | pwrIdle (mid : Mid)
  /-- SLEEP (R523): PWR_CMD requesting SLEEP takes the device into SLEEP. -/
  | pwrSleep (mid : Mid)
  /-- DEEP (R523): PWR_CMD requesting DEEP takes the device into DEEP. -/
  | pwrDeep (mid : Mid)
  /-- OFF (R523): PWR_CMD requesting OFF takes the device into OFF. -/
  | pwrOff (mid : Mid)
  /-- STATE_ENTERED (R524): The device completes entry into the requested state. -/
  | stateEntered
  /-- WAKE_N (R525): WAKE_N held low makes the device leave a sleep state or OFF. -/
  | wakeN (suppliesOk : Bool)
  /-- EXIT_COMPLETE (R525): Every domain has returned to its RUN standing and the exit is recorded. -/
  | exitComplete
  /-- VOLTAGE_IN_FORCE (R529): VDD_CORE reaches the target level and the level change completes. -/
  | voltageInForce
  /-- VOLTAGE_TIMEOUT (R530): The voltage is not in force within PWR_VSETTLE and raises EV481. -/
  | voltageTimeout
  /-- THROTTLE_END (R531): The throttle stall of PWR_THROT.US ends. -/
  | throttleEnd
  /-- PAIR (R542): A PAIR frame arrives and the pair is formed or refused. -/
  | twinPair (ident straps : Word32) (mode : BitVec 2) (own en disc : Bool) (seq : BitVec 3) (identity : List Byte)
  /-- HB (R551): A heartbeat arrives and its digest is compared in LOCKSTEP. -/
  | twinHb (turn digest : Word64) (health own : Bool) (mode : BitVec 2) (dvalid : Bool)
  /-- HB_SEND (R541): The HB frame of a turn is sent 16 steps after its boundary. -/
  | twinHbSend
  /-- HB_LOSS (R550): The third consecutive heartbeat miss loses the pairing. -/
  | twinHbLoss
  /-- RESYNC (R554): The RESYNC command asks the partner to bring this twin level. -/
  | twinResync (mid : Mid)
  /-- HANDOVER (R552): The HANDOVER command offers ownership to the partner at turn J. -/
  | twinHandover (mid : Mid)
  /-- TWIN_ABORT (R559): The twin ABORT command fails a resynchronisation on both twins. -/
  | twinAbort (mid : Mid)
  /-- CLAIM (R545): CLAIM makes an unpaired twin own the outputs at the next boundary. -/
  | twinClaim (mid : Mid)
  /-- RS_REQ (R554): A resync request arrives and the sender accepts or refuses it. -/
  | twinRsReq
  /-- TSTART (R555): A TSTART arrives and the receiver sets its turn and start edge. -/
  | twinTstart (j0 d2 : Word64)
  /-- JOIN (R555): A JOIN arrives naming turn J for the end of suppression. -/
  | twinJoin (turn : Word64)
  /-- CTRL_HANDOVER (R552): A HANDOVER frame arrives and the partner answers HO_ACK or REFUSE. -/
  | ctrlHandover (turn : Word64)
  /-- HO_ACK (R552): An HO_ACK arrives and the owner schedules its release. -/
  | twinHoAck (turn : Word64)
  /-- REFUSE (R552): A REFUSE arrives and the pending twin operation fails. -/
  | twinRefuse (code : Status)
  /-- CTRL_ABORT (R559): An ABORT frame arrives and fails the resynchronisation. -/
  | ctrlAbort (cause : BitVec 3)
  /-- LOADREQ (R560): A LOADREQ arrives and the partner streams the requested image or refuses. -/
  | twinLoadreq (bytes : List Byte)
  /-- SNAP (R556): A SNAP frame delivers part of the state stream to the receiver. -/
  | twinSnap (offset : Nat) (bytes : List Byte)
  /-- LOG (R557): A LOG frame delivers log entries that the receiver applies. -/
  | twinLog (entries : List (Word64 × Word64))
  /-- HBMCOPY (R555): An HBMCOPY frame writes mirrored HBM words. -/
  | twinHbmcopy (block : BitVec 24) (words : List Word64)
  /-- NOTICE (R541): A NOTICE frame queues a partner event and raises EV491. -/
  | twinNotice (event : Fin 512) (sev : BitVec 2)
  /-- REG (R561): A REG frame carries a remote register access or its answer. -/
  | twinReg (frame : RegFrame)
  /-- LOAD (R560): A LOAD frame delivers image bytes from the partner. -/
  | twinLoad (bytes : List Byte)
  /-- PING (R555): A PING arrives and is answered by ECHO after 64 counts. -/
  | twinPing (count : Word32)
  /-- ECHO (R555): An ECHO arrives and the link latency is measured. -/
  | twinEcho (arg : Word32)
  /-- RACC_GO (R561): A write of TWN_RACC_CTRL.GO sends a remote register access. -/
  | raccGo (mid : Mid) (value : Word32)
  /-- RACC_TIMEOUT (R561): No answer within 100 µs completes the remote access with TIMEOUT. -/
  | raccTimeout
  /-- MATCH_TIMEOUT (R559): MATCH_N matches not reached within TWN_MATCH_WAIT fails the resync. -/
  | matchTimeout
  /-- TWN_NOTICE_READ (R541): A read of TWN_NOTICE removes the oldest notice. -/
  | twnNoticeRead (mid : Mid)
  /-- MEMORY_READ (R567): A PCIe read through a BAR is carried out as MID 0x08. -/
  | memoryRead (bar : Bar) (offset : BitVec 34) (len : Nat) (ecc : List EccFind)
  /-- MEMORY_WRITE (R567): A PCIe write through a BAR is carried out as MID 0x08. -/
  | memoryWrite (bar : Bar) (offset : BitVec 34) (be : List Bool) (bytes : List Byte) (ecc : List EccFind)
  /-- MSIX_UNMASK (R569): Clearing a vector mask sends one message for its pending bit. -/
  | msixUnmask (vec : Fin 64)
  /-- HOST_RESET (R570): PERST_N, hot reset, FLR or link loss resets the host interface. -/
  | hostReset (cause : HostResetCause)
  /-- ENUM (R575): A write of LRG_CTRL.ENUM makes the device head and enumerates the ring. -/
  | ringEnumStart (mid : Mid)
  /-- RING_ENUM (R575): An ENUM frame assigns a device number or returns to the head. -/
  | ringEnum (arg : Word32) (own : Bool) (hops : BitVec 6) (crcOk : Bool)
  /-- ENUM_TIMEOUT (R576): The ENUM frame not returned within LRG_TMO fails the enumeration. -/
  | enumTimeout
  /-- RING_RD (R577): A ring RD frame reaches its target, which reads as MID 0x09 and answers. -/
  | ringRd (hdr : RingHeader) (addr : BitVec 28) (crcOk : Bool)
  /-- RING_WR (R577): A ring WR frame reaches its target, which writes as MID 0x09 and answers. -/
  | ringWr (hdr : RingHeader) (addr : BitVec 28) (value : Word32) (crcOk : Bool)
  /-- RING_RSP (R577): A ring RSP reaches the head and completes the BAR2 access. -/
  | ringRsp (hdr : RingHeader) (status : Status) (value : Word32) (crcOk : Bool)
  /-- RING_EVENT (R578): An EVENT frame reaches the head, which sends MSI-X and queues it. -/
  | ringEvent (hdr : RingHeader) (event : Fin 512) (sev : BitVec 2) (vec : Fin 64) (crcOk : Bool)
  /-- RING_LOAD (R579): A LOAD frame is taken into the FIFO, passed on, or stalled. -/
  | ringLoad (hdr : RingHeader) (seq : Word32) (bytes : List Byte) (stall : Bool) (crcOk : Bool)
  /-- RING_TIMEOUT (R577): No RSP within LRG_TMO completes the ring access with TIMEOUT. -/
  | ringTimeout (tag : BitVec 8)
  /-- LRG_LOAD_WRITE (R579): A write to the LRG_LOAD aperture queues bytes for broadcast. -/
  | lrgLoadWrite (mid : Mid) (bytes : List Byte)
  /-- LRG_EVTQ_READ (R578): A read of LRG_EVTQ removes the oldest ring event. -/
  | lrgEvtqRead (mid : Mid)
  /-- IOB_PIN_WRITE (R591): A write of IOB_PINp configures a pin or holds it disabled. -/
  | iobPinWrite (mid : Mid) (bank : Fin 8) (pin : Fin 24) (value : Word32)
  /-- IOB_OUT_WRITE (R596): A write of IOB_OUT sets output bits except image-owned pins. -/
  | iobOutWrite (mid : Mid) (bank : Fin 8) (value : Word32)
  /-- IDCODE (R612): The IDCODE instruction selects the identification register. -/
  | tapIdcode
  /-- SAMPLE_PRELOAD (R612): The SAMPLE/PRELOAD instruction samples and preloads the boundary cells. -/
  | tapSamplePreload (cells : BitVec 192)
  /-- EXTEST (R613): EXTEST takes the pins, or loads BYPASS while the image runs. -/
  | tapExtest
  /-- EXTEST_PULSE (R613): EXTEST_PULSE drives IEEE 1149.6 pulses, or BYPASS while the image runs. -/
  | tapExtestPulse
  /-- EXTEST_TRAIN (R613): EXTEST_TRAIN drives IEEE 1149.6 trains, or BYPASS while the image runs. -/
  | tapExtestTrain
  /-- HIGHZ (R613): HIGHZ places the pins at high impedance, or BYPASS while the image runs. -/
  | tapHighz
  /-- CLAMP (R613): CLAMP holds the pins from the boundary register, or BYPASS while the image runs. -/
  | tapClamp
  /-- BYPASS (R612): BYPASS selects the one-bit bypass register. -/
  | tapBypass
  /-- TAP_RESET (R613): TRST_N low resets the TAP. -/
  | tapReset
  /-- LINK_IN_L0 (R566): PCIe link training completes and the link enters L0, setting LINK_UP, SPEED and WIDTH. -/
  | linkInL0 (speed : Fin 5) (width : Fin 9) (msix master : Bool)
  /-- TAG_FREE (R203): A further RZ_RSP_TMO after a timed-out request passes with no late response, and its tag becomes usable again. -/
  | tagFree (node : Fin 48) (ep : Fin 5) (tag : BitVec 10)
  /-- ECHO_SEND (R555): 64 counts after a PING arrives, the partner sends its ECHO. -/
  | echoSend
  /-- LEADER_PAUSE_END (R380): The flash leader's 500 µs pause after CLOCK or 25 ms pause after HBM ends and it resumes reading the bus. -/
  | leaderPauseEnd
  deriving DecidableEq, Repr

end Sys2Proof
end

