-- ==== Sys2Proof/Decode.lean ====
section
/-! DEFINITION.  Commands spelled by a word.  spec/opcode_table.json gives no row any bits: a command of this block is a
happening (an access, a packet, a pin, an elapsed time) and no encoding of it is defined, so no word spells one. -/

namespace Sys2Proof

/-- The command that a word of `nbits` bits spells by the table's bits: none, since no row of the table has bits. -/
def decodeTableWord (_nbits _w : Nat) : Option Instr := none

end Sys2Proof
end

