-- ==== Sys2Proof/Machine/Registers.lean ====
section
/-! DEFINITION.  The names of the device registers (R7, R25-R29 and every register table of the manual) and of their fields.
`Reg.<NAME>` is a register address; where the manual numbers a register over a window, the address is a function of the
numbers.  `Fld.<NAME>_<FIELD>` is a field: its register, its lowest bit and its width.  The register table
`Reg.table` says for each register what its bits do on a write (the access codes of R9) and its reset value.
Registers that several windows show (SEQ_, R151) have one address here; carrel end windows (R509) and core-local registers (R454)
are fields of the state. -/

namespace Sys2Proof.Machine

/-- A field of a register: the register's address, the lowest bit and the width. -/
structure Field where
  addr : Nat
  lo : Nat
  width : Nat
  deriving DecidableEq, Repr

/-- A row of the register table.  `dims` gives count and stride of every index of a numbered register; the masks say
which bits a write stores (`rw`), clears on 1 (`w1c`), sets on 1 (`w1s`) and stores while unlocked (`rwl`); `rc` marks a
register whose read clears it (R9). -/
structure RegRow where
  base : Nat
  dims : List (Nat × Nat)
  reset : Nat
  rw : Nat
  w1c : Nat
  w1s : Nat
  rwl : Nat
  rc : Bool
  deriving DecidableEq, Repr

abbrev Reg.CLK_CTRL : Nat := 0x300000
abbrev Reg.CLK_STATUS : Nat := 0x300004
abbrev Reg.CLK_RPLL : Nat := 0x300008
abbrev Reg.DEV_IDENT : Nat := 0x0
abbrev Reg.DEV_UID_LO : Nat := 0x4
abbrev Reg.DEV_UID_HI : Nat := 0x8
abbrev Reg.DEV_STRAPS : Nat := 0xC
abbrev Reg.DEV_SCRATCH : Nat := 0x10
abbrev Reg.ARR_CTRL (n : Nat) : Nat := 0xC000000 + n * 0x100000
abbrev Reg.ARR_STATUS (n : Nat) : Nat := 0xC000004 + n * 0x100000
abbrev Reg.ARR_FLT_CAUSE (n : Nat) : Nat := 0xC000008 + n * 0x100000
abbrev Reg.ARR_FLT_LOC (n : Nat) : Nat := 0xC00000C + n * 0x100000
abbrev Reg.ARR_FLT_TURN (n : Nat) : Nat := 0xC000010 + n * 0x100000
abbrev Reg.ARR_FLT_DETAIL (n : Nat) : Nat := 0xC000014 + n * 0x100000
abbrev Reg.ARR_FLT_COUNT (n : Nat) : Nat := 0xC000018 + n * 0x100000
abbrev Reg.ARR_ECC_COUNT (n : Nat) : Nat := 0xC00001C + n * 0x100000
abbrev Reg.ARR_PAGE (n : Nat) : Nat := 0xC000020 + n * 0x100000
abbrev Reg.ARR_WIN_STAT (n : Nat) : Nat := 0xC000024 + n * 0x100000
abbrev Reg.ARR_IM_ADDR (n : Nat) : Nat := 0xC000100 + n * 0x100000
abbrev Reg.ARR_IM_LO (n : Nat) : Nat := 0xC000104 + n * 0x100000
abbrev Reg.ARR_IM_HI (n : Nat) : Nat := 0xC000108 + n * 0x100000
abbrev Reg.ARR_IM_CHK (n : Nat) : Nat := 0xC00010C + n * 0x100000
abbrev Reg.ARR_BM_CFG (n m : Nat) : Nat := 0xC006000 + n * 0x100000 + m * 0x4
abbrev Reg.SEQ_CFG : Nat := 0xC000080
abbrev Reg.SEQ_CFG1 : Nat := 0xC000084
abbrev Reg.SEQ_STATUS : Nat := 0xC000088
abbrev Reg.SEQ_TURN_LO : Nat := 0xC00008C
abbrev Reg.SEQ_TURN_HI : Nat := 0xC000090
abbrev Reg.SEQ_CMD : Nat := 0xC000094
abbrev Reg.SEQ_CMD_TURN : Nat := 0xC000098
abbrev Reg.SEQ_CMD_STAT : Nat := 0xC00009C
abbrev Reg.SEQ_OVR_CAUSE : Nat := 0xC0000A0
abbrev Reg.SEQ_OVR_TURN : Nat := 0xC0000A4
abbrev Reg.SEQ_OVR_COUNT : Nat := 0xC0000A8
abbrev Reg.SEQ_STALL_WARN : Nat := 0xC0000AC
abbrev Reg.SEQ_BAR_TMO : Nat := 0xC0000B0
abbrev Reg.SEQ_CAP_CFG : Nat := 0xC0000B4
abbrev Reg.SEQ_CAP_STAT : Nat := 0xC0000B8
abbrev Reg.SEQ_CAP_TURN : Nat := 0xC0000BC
abbrev Reg.SEQ_STALL_CYC : Nat := 0xC0000C0
abbrev Reg.SEQ_STALL_CNT (i : Nat) : Nat := 0xC0000E0 + i * 0x4
abbrev Reg.LDR_CHK_STAT : Nat := 0x2000E00
abbrev Reg.LDR_CHK_INFO : Nat := 0x2000E04
abbrev Reg.LDR_OWN_Q : Nat := 0x2000E08
abbrev Reg.LDR_OWN_R : Nat := 0x2000E0C
abbrev Reg.LDR_CLAIM : Nat := 0x2000E10
abbrev Reg.LDR_CLAIM_STAT : Nat := 0x2000E14
abbrev Reg.RZ_EPOCH : Nat := 0x4000000
abbrev Reg.RZ_SWITCH : Nat := 0x4000004
abbrev Reg.RZ_SWITCH_STAT : Nat := 0x4000008
abbrev Reg.RZ_OLD_CNT : Nat := 0x400000C
abbrev Reg.RZ_CHK : Nat := 0x4000010
abbrev Reg.RZ_RSP_TMO : Nat := 0x4000014
abbrev Reg.RZ_NODE_STAT (n : Nat) : Nat := 0x4010000 + n * 0x10000
abbrev Reg.RZ_NODE_CORR (n : Nat) : Nat := 0x4010004 + n * 0x10000
abbrev Reg.RZ_NODE_DROP (n : Nat) : Nat := 0x4010008 + n * 0x10000
abbrev Reg.RZ_SP_FLT (n : Nat) : Nat := 0x401000C + n * 0x10000
abbrev Reg.RZ_SP_FLT_TURN (n : Nat) : Nat := 0x4010010 + n * 0x10000
abbrev Reg.RZ_TB_REQ (n e : Nat) : Nat := 0x4010100 + n * 0x10000 + e * 0x20
abbrev Reg.RZ_TB_MGT (n e : Nat) : Nat := 0x4010104 + n * 0x10000 + e * 0x20
abbrev Reg.RZ_TB_LEVEL (n e : Nat) : Nat := 0x4010108 + n * 0x10000 + e * 0x20
abbrev Reg.RZ_QUOTA (n e : Nat) : Nat := 0x401010C + n * 0x10000 + e * 0x20
abbrev Reg.RZ_OUTST (n e : Nat) : Nat := 0x4010110 + n * 0x10000 + e * 0x20
abbrev Reg.LN_CFG (i : Nat) : Nat := 0x5000000 + i * 0x10000
abbrev Reg.LN_STAT (i : Nat) : Nat := 0x5000004 + i * 0x10000
abbrev Reg.LN_TXFIR (i : Nat) : Nat := 0x5000008 + i * 0x10000
abbrev Reg.LN_RXEQ (i : Nat) : Nat := 0x500000C + i * 0x10000
abbrev Reg.LN_RXEQ_ST (i : Nat) : Nat := 0x5000010 + i * 0x10000
abbrev Reg.LN_DFE_SET (i x : Nat) : Nat := 0x5000020 + i * 0x10000 + x * 0x4
abbrev Reg.LN_DFE_ST (i x : Nat) : Nat := 0x5000030 + i * 0x10000 + x * 0x4
abbrev Reg.LN_LAT (i : Nat) : Nat := 0x5000040 + i * 0x10000
abbrev Reg.LN_PHASE (i : Nat) : Nat := 0x5000044 + i * 0x10000
abbrev Reg.LN_ES_CTRL (i : Nat) : Nat := 0x5000050 + i * 0x10000
abbrev Reg.LN_ES_STAT (i : Nat) : Nat := 0x5000054 + i * 0x10000
abbrev Reg.LN_ES_ERR (i : Nat) : Nat := 0x5000058 + i * 0x10000
abbrev Reg.LN_PRBS_CTRL (i : Nat) : Nat := 0x5000060 + i * 0x10000
abbrev Reg.LN_PRBS_ERR (i : Nat) : Nat := 0x5000064 + i * 0x10000
abbrev Reg.LN_PLL (q : Nat) : Nat := 0x5F00000 + q * 0x100
abbrev Reg.LN_PLL_STAT (q : Nat) : Nat := 0x5F00004 + q * 0x100
abbrev Reg.LN_LE_CFG (i : Nat) : Nat := 0x5001000 + i * 0x10000
abbrev Reg.LN_LE_STAT (i : Nat) : Nat := 0x5001004 + i * 0x10000
abbrev Reg.LN_LE_DELAY (i : Nat) : Nat := 0x5001008 + i * 0x10000
abbrev Reg.LN_LE_XLAT (i : Nat) : Nat := 0x500100C + i * 0x10000
abbrev Reg.LN_RAW_CFG (i : Nat) : Nat := 0x5001010 + i * 0x10000
abbrev Reg.QL_CFG (i : Nat) : Nat := 0x5001014 + i * 0x10000
abbrev Reg.QL_REL_CFG (i : Nat) : Nat := 0x5001018 + i * 0x10000
abbrev Reg.QL_REL_STAT (i : Nat) : Nat := 0x500101C + i * 0x10000
abbrev Reg.ETH_CFG (i : Nat) : Nat := 0x5001020 + i * 0x10000
abbrev Reg.ETH_MAC_LO (i : Nat) : Nat := 0x5001024 + i * 0x10000
abbrev Reg.ETH_MAC_HI (i : Nat) : Nat := 0x5001028 + i * 0x10000
abbrev Reg.ETH_IP4 (i : Nat) : Nat := 0x500102C + i * 0x10000
abbrev Reg.ETH_TS_ADJ (i : Nat) : Nat := 0x5001030 + i * 0x10000
abbrev Reg.ETH_IP6 (i j : Nat) : Nat := 0x5001040 + i * 0x10000 + j * 0x4
abbrev Reg.LN_LE_WORDS (i : Nat) : Nat := 0x5001050 + i * 0x10000
abbrev Reg.LN_LE_INV (i : Nat) : Nat := 0x5001054 + i * 0x10000
abbrev Reg.LN_LE_FEC_CORR (i : Nat) : Nat := 0x5001058 + i * 0x10000
abbrev Reg.LN_LE_DROP (i : Nat) : Nat := 0x500105C + i * 0x10000
abbrev Reg.QL_RETRY (i : Nat) : Nat := 0x5001060 + i * 0x10000
abbrev Reg.QL_PLAN (i j : Nat) : Nat := 0x5001080 + i * 0x10000 + j * 0x4
abbrev Reg.ACQ_CTRL : Nat := 0x6000000
abbrev Reg.ACQ_STATUS : Nat := 0x6000004
abbrev Reg.ACQ_CMD : Nat := 0x6000008
abbrev Reg.ACQ_CMD_STAT : Nat := 0x600000C
abbrev Reg.ACQ_DUMP_CFG : Nat := 0x6000010
abbrev Reg.ACQ_DUMP_BASE : Nat := 0x6000014
abbrev Reg.ACQ_VIOL : Nat := 0x6000018
abbrev Reg.ACQ_VIOL_VAL : Nat := 0x600001C
abbrev Reg.ACQ_REC_STAT : Nat := 0x6000020
abbrev Reg.ACQ_ECC_CTX : Nat := 0x6000024
abbrev Reg.ACQ_BUDGET : Nat := 0x6000028
abbrev Reg.ACQ_CTX_WIN : Nat := 0x600002C
abbrev Reg.ACQ_PRB_CFG : Nat := 0x6000030
abbrev Reg.ACQ_PRB_BASE : Nat := 0x6000034
abbrev Reg.ACQ_PRB_NREC : Nat := 0x6000038
abbrev Reg.ACQ_PRB_STAT : Nat := 0x600003C
abbrev Reg.ACQ_REC_TMO : Nat := 0x6000080
abbrev Reg.ACQ_FWD : Nat := 0x6000084
abbrev Reg.ACQ_LN_CFG (i : Nat) : Nat := 0x6001000 + i * 0x20
abbrev Reg.ACQ_LN_MAP (i : Nat) : Nat := 0x6001004 + i * 0x20
abbrev Reg.ACQ_LN_RING (i : Nat) : Nat := 0x6001008 + i * 0x20
abbrev Reg.ACQ_LN_DELAY (i : Nat) : Nat := 0x600100C + i * 0x20
abbrev Reg.ACQ_LN_STAT (i : Nat) : Nat := 0x6001010 + i * 0x20
abbrev Reg.ACQ_LN_IDX_LO (i : Nat) : Nat := 0x6001014 + i * 0x20
abbrev Reg.ACQ_LN_IDX_HI (i : Nat) : Nat := 0x6001018 + i * 0x20
abbrev Reg.HBM_STATUS : Nat := 0x7000000
abbrev Reg.HBM_ERR_INFO : Nat := 0x7000004
abbrev Reg.HBM_ERR_ADDR_LO : Nat := 0x7000008
abbrev Reg.HBM_ERR_ADDR_HI : Nat := 0x700000C
abbrev Reg.HBM_CORR_CNT : Nat := 0x7000010
abbrev Reg.HBM_UNC_CNT : Nat := 0x7000014
abbrev Reg.HBM_TEMP : Nat := 0x7000018
abbrev Reg.HBM_RGN_BASE (r : Nat) : Nat := 0x7001000 + r * 0x20
abbrev Reg.HBM_RGN_SIZE (r : Nat) : Nat := 0x7001004 + r * 0x20
abbrev Reg.HBM_RGN_OWN (r : Nat) : Nat := 0x7001008 + r * 0x20
abbrev Reg.HBM_RGN_CFG (r : Nat) : Nat := 0x700100C + r * 0x20
abbrev Reg.HBM_RGN_STAT (r : Nat) : Nat := 0x7001010 + r * 0x20
abbrev Reg.TU_STATUS : Nat := 0x3000000
abbrev Reg.TU_CMD : Nat := 0x3000004
abbrev Reg.TU_RAW_LO : Nat := 0x3000008
abbrev Reg.TU_RAW_HI : Nat := 0x300000C
abbrev Reg.TU_TIME_FNS : Nat := 0x3000010
abbrev Reg.TU_TIME_NS : Nat := 0x3000014
abbrev Reg.TU_TIME_S_LO : Nat := 0x3000018
abbrev Reg.TU_TIME_S_HI : Nat := 0x300001C
abbrev Reg.TU_PNOM_LO : Nat := 0x3000020
abbrev Reg.TU_PNOM_HI : Nat := 0x3000024
abbrev Reg.TU_PER_LO : Nat := 0x3000028
abbrev Reg.TU_PER_HI : Nat := 0x300002C
abbrev Reg.TU_ARG (j : Nat) : Nat := 0x3000030 + j * 0x4
abbrev Reg.TU_CONV_FNS : Nat := 0x3000040
abbrev Reg.TU_CONV_NS : Nat := 0x3000044
abbrev Reg.TU_CONV_S_LO : Nat := 0x3000048
abbrev Reg.TU_CONV_S_HI : Nat := 0x300004C
abbrev Reg.TU_TICK : Nat := 0x3000050
abbrev Reg.TU_REFPH : Nat := 0x3000054
abbrev Reg.TU_SRV_CFG : Nat := 0x3000100
abbrev Reg.TU_SRV_GAIN : Nat := 0x3000104
abbrev Reg.TU_SRV_MAX : Nat := 0x3000108
abbrev Reg.TU_SRV_STEP : Nat := 0x300010C
abbrev Reg.TU_SRV_LOCK : Nat := 0x3000110
abbrev Reg.TU_SRV_OFS_LO : Nat := 0x3000114
abbrev Reg.TU_SRV_OFS_HI : Nat := 0x3000118
abbrev Reg.TU_SRV_I : Nat := 0x300011C
abbrev Reg.TU_SRV_Y : Nat := 0x3000120
abbrev Reg.TU_SRV_CNT : Nat := 0x3000124
abbrev Reg.TU_TP_CFG (p : Nat) : Nat := 0x3000200 + p * 0x10
abbrev Reg.TU_TC_CFG (n : Nat) : Nat := 0x3001000 + n * 0x40
abbrev Reg.TU_TC_CTRL (n : Nat) : Nat := 0x3001004 + n * 0x40
abbrev Reg.TU_TC_TGT (n k : Nat) : Nat := 0x3001008 + n * 0x40 + k * 0x4
abbrev Reg.TU_TC_PER (n k : Nat) : Nat := 0x3001018 + n * 0x40 + k * 0x4
abbrev Reg.TU_TC_PW (n : Nat) : Nat := 0x3001020 + n * 0x40
abbrev Reg.TU_TC_COUNT (n : Nat) : Nat := 0x3001024 + n * 0x40
abbrev Reg.LDR_STATUS : Nat := 0x2000000
abbrev Reg.LDR_CMD : Nat := 0x2000004
abbrev Reg.LDR_CMD_ARG : Nat := 0x2000008
abbrev Reg.LDR_CMD_TURN : Nat := 0x200000C
abbrev Reg.LDR_CMD_STAT : Nat := 0x2000010
abbrev Reg.LDR_FAIL : Nat := 0x2000014
abbrev Reg.LDR_BAD_LO : Nat := 0x2000018
abbrev Reg.LDR_BAD_HI : Nat := 0x200001C
abbrev Reg.LDR_PR_STAT : Nat := 0x2000020
abbrev Reg.LDR_PR_MASK : Nat := 0x2000024
abbrev Reg.LDR_IMG_SRC : Nat := 0x2000028
abbrev Reg.LDR_XSPI : Nat := 0x200002C
abbrev Reg.LDR_FIFO_FREE : Nat := 0x2000030
abbrev Reg.LDR_MAP (j : Nat) : Nat := 0x2000040 + j * 0x4
abbrev Reg.LDR_OVR (j : Nat) : Nat := 0x2000060 + j * 0x4
abbrev Reg.LDR_SETTLE (j : Nat) : Nat := 0x2000080 + j * 0x4
abbrev Reg.LDR_ID (j : Nat) : Nat := 0x2000100 + j * 0x4
abbrev Reg.SEC_STATUS : Nat := 0x2020000
abbrev Reg.SEC_CMD : Nat := 0x2020004
abbrev Reg.SEC_CMD_ARG : Nat := 0x2020008
abbrev Reg.SEC_CMD_STAT : Nat := 0x202000C
abbrev Reg.SEC_THERM : Nat := 0x2020010
abbrev Reg.SEC_SLOTS : Nat := 0x2020014
abbrev Reg.SEC_RUN : Nat := 0x2020018
abbrev Reg.SEC_SLOT_DIG (k j : Nat) : Nat := 0x2020100 + k * 0x40 + j * 0x4
abbrev Reg.SEC_MR (i j : Nat) : Nat := 0x2020200 + i * 0x40 + j * 0x4
abbrev Reg.CNS_CTRL : Nat := 0x2030000
abbrev Reg.CNS_STATUS : Nat := 0x2030004
abbrev Reg.CNS_CFG : Nat := 0x2030008
abbrev Reg.CNS_PASS : Nat := 0x203000C
abbrev Reg.CNS_PASS_TIME : Nat := 0x2030010
abbrev Reg.CNS_FRAME : Nat := 0x2030014
abbrev Reg.CNS_SKIP_LO : Nat := 0x2030018
abbrev Reg.CNS_SKIP_HI : Nat := 0x203001C
abbrev Reg.CNS_NODE_LO : Nat := 0x2030020
abbrev Reg.CNS_NODE_HI : Nat := 0x2030024
abbrev Reg.CNS_REC0 : Nat := 0x2030030
abbrev Reg.CNS_REC1 : Nat := 0x2030034
abbrev Reg.CNS_REC2 : Nat := 0x2030038
abbrev Reg.CNS_REC3 : Nat := 0x203003C
abbrev Reg.CNS_RECUR_LOC : Nat := 0x2030050
abbrev Reg.CNS_INJ_SEL : Nat := 0x2030060
abbrev Reg.CNS_INJ_LO : Nat := 0x2030064
abbrev Reg.CNS_INJ_HI : Nat := 0x2030068
abbrev Reg.CNS_INJ_CHK : Nat := 0x203006C
abbrev Reg.CNS_INJ_STAT : Nat := 0x2030070
abbrev Reg.LIB_CTRL : Nat := 0x1000000
abbrev Reg.LIB_STATUS : Nat := 0x1000004
abbrev Reg.LIB_RST_CAUSE : Nat := 0x1000008
abbrev Reg.LIB_C0_ENTRY : Nat := 0x100000C
abbrev Reg.LIB_C1_ENTRY : Nat := 0x1000010
abbrev Reg.LIB_ECC_CNT : Nat := 0x1000014
abbrev Reg.LIB_BERR (k : Nat) : Nat := 0x1000020 + k * 0x8
abbrev Reg.LIB_BERR_ADDR (k : Nat) : Nat := 0x1000024 + k * 0x8
abbrev Reg.LIB_WDT (k : Nat) : Nat := 0x1000030 + k * 0x4
abbrev Reg.LIB_WDT_KICK (k : Nat) : Nat := 0x1000038 + k * 0x4
abbrev Reg.LIB_HBMWIN (k : Nat) : Nat := 0x1000040 + k * 0x4
abbrev Reg.LIB_FL_CTRL : Nat := 0x1000100
abbrev Reg.LIB_FL_ADDR : Nat := 0x1000104
abbrev Reg.LIB_FL_STAT : Nat := 0x1000108
abbrev Reg.LIB_FL_BUF (j : Nat) : Nat := 0x1000200 + j * 0x4
abbrev Reg.LIB_LOG_CFG : Nat := 0x1000400
abbrev Reg.LIB_LOG_WP : Nat := 0x1000404
abbrev Reg.LIB_LOG_RP : Nat := 0x1000408
abbrev Reg.LIB_LOG_DROP : Nat := 0x100040C
abbrev Reg.LIB_LOG_WR (j : Nat) : Nat := 0x1000440 + j * 0x4
abbrev Reg.LIB_LOG_COMMIT : Nat := 0x1000460
abbrev Reg.LIB_SMB_CFG : Nat := 0x1000500
abbrev Reg.LIB_SMB_STAT : Nat := 0x1000504
abbrev Reg.LIB_SMB_OUT (j : Nat) : Nat := 0x1000540 + j * 0x4
abbrev Reg.LIB_SMB_IN (j : Nat) : Nat := 0x1000560 + j * 0x4
abbrev Reg.LIB_TS (i : Nat) : Nat := 0x1000800 + i * 0x4
abbrev Reg.LIB_VM (j : Nat) : Nat := 0x1000900 + j * 0x4
abbrev Reg.LIB_CM (k : Nat) : Nat := 0x1000980 + k * 0x4
abbrev Reg.LIB_TS_HI (i : Nat) : Nat := 0x1000A00 + i * 0x4
abbrev Reg.LIB_VM_WIN (j : Nat) : Nat := 0x1000B00 + j * 0x4
abbrev Reg.LIB_CM_HI (k : Nat) : Nat := 0x1000B80 + k * 0x4
abbrev Reg.LIB_ALM0 : Nat := 0x1000C00
abbrev Reg.LIB_ALM1 : Nat := 0x1000C04
abbrev Reg.LIB_ALM2 : Nat := 0x1000C08
abbrev Reg.DSP_CMD : Nat := 0x1100000
abbrev Reg.DSP_ARG : Nat := 0x1100004
abbrev Reg.DSP_STAT : Nat := 0x1100008
abbrev Reg.DSP_NEXT : Nat := 0x1100010
abbrev Reg.DSP_NEXT_FLAGS : Nat := 0x1100014
abbrev Reg.CRL_CTRL : Nat := 0x1200000
abbrev Reg.CRL_TMO : Nat := 0x1200004
abbrev Reg.CRL_BIND (c : Nat) : Nat := 0x1200100 + c * 0x4
abbrev Reg.CRL_NOTIFY (c e : Nat) : Nat := 0x1200200 + c * 0x8 + e * 0x4
abbrev Reg.CRL_STAT (c : Nat) : Nat := 0x1200400 + c * 0x4
abbrev Reg.EVT_STICKY (j : Nat) : Nat := 0x100000 + j * 0x4
abbrev Reg.EVT_TOP (k : Nat) : Nat := 0x100080 + k * 0x4
abbrev Reg.EVT_SEV (j : Nat) : Nat := 0x100100 + j * 0x4
abbrev Reg.EVT_ROUTE (n : Nat) : Nat := 0x101000 + n * 0x4
abbrev Reg.PWR_STATUS : Nat := 0x200000
abbrev Reg.PWR_CMD : Nat := 0x200004
abbrev Reg.PWR_CMD_STAT : Nat := 0x200008
abbrev Reg.PWR_WAKE : Nat := 0x20000C
abbrev Reg.PWR_WAKE_EN : Nat := 0x200010
abbrev Reg.PWR_HOLD_TMO : Nat := 0x200014
abbrev Reg.PWR_THROT : Nat := 0x200018
abbrev Reg.PWR_TMAX : Nat := 0x20001C
abbrev Reg.PWR_VSETTLE : Nat := 0x200020
abbrev Reg.PWR_REWAKE_CNT : Nat := 0x200024
abbrev Reg.PWR_DCTL (d : Nat) : Nat := 0x201000 + d * 0x4
abbrev Reg.PWR_DSTAT (d : Nat) : Nat := 0x201200 + d * 0x4
abbrev Reg.TWN_CFG : Nat := 0x8000000
abbrev Reg.TWN_STATUS : Nat := 0x8000004
abbrev Reg.TWN_CMD : Nat := 0x8000008
abbrev Reg.TWN_CMD_TURN : Nat := 0x800000C
abbrev Reg.TWN_CMD_STAT : Nat := 0x8000010
abbrev Reg.TWN_LAG : Nat := 0x8000014
abbrev Reg.TWN_MATCH_WAIT : Nat := 0x8000018
abbrev Reg.TWN_PAIR_INFO : Nat := 0x800001C
abbrev Reg.TWN_DIG_LO : Nat := 0x8000020
abbrev Reg.TWN_DIG_HI : Nat := 0x8000024
abbrev Reg.TWN_DIV_TURN : Nat := 0x8000028
abbrev Reg.TWN_RS_STAT : Nat := 0x8000030
abbrev Reg.TWN_RS_BYTES : Nat := 0x8000034
abbrev Reg.TWN_LOG_LEVEL : Nat := 0x8000038
abbrev Reg.TWN_NOTICE : Nat := 0x8000050
abbrev Reg.TWN_RACC_ADDR : Nat := 0x8000060
abbrev Reg.TWN_RACC_DATA : Nat := 0x8000064
abbrev Reg.TWN_RACC_CTRL : Nat := 0x8000068
abbrev Reg.HST_STATUS : Nat := 0x8100000
abbrev Reg.HST_WERR : Nat := 0x8100004
abbrev Reg.HST_WERR_ADDR_LO : Nat := 0x8100008
abbrev Reg.HST_WERR_ADDR_HI : Nat := 0x810000C
abbrev Reg.HST_MAL_CNT : Nat := 0x8100010
abbrev Reg.LRG_CTRL : Nat := 0x8200000
abbrev Reg.LRG_STATUS : Nat := 0x8200004
abbrev Reg.LRG_TMO : Nat := 0x8200008
abbrev Reg.LRG_EVTQ : Nat := 0x820000C
abbrev Reg.LRG_CRC_CNT : Nat := 0x8200010
abbrev Reg.LRG_EVT_DROP : Nat := 0x8200014
abbrev Reg.LRG_LOAD_FREE : Nat := 0x8200018
abbrev Reg.IOB_PIN (b p : Nat) : Nat := 0x8300000 + b * 0x100 + p * 0x4
abbrev Reg.IOB_BANK (b : Nat) : Nat := 0x8300060 + b * 0x100
abbrev Reg.IOB_STAT (b : Nat) : Nat := 0x8300064 + b * 0x100
abbrev Reg.IOB_IN (b : Nat) : Nat := 0x8300068 + b * 0x100
abbrev Reg.IOB_OUT (b : Nat) : Nat := 0x830006C + b * 0x100
abbrev Reg.IOB_BAD (b : Nat) : Nat := 0x8300070 + b * 0x100
abbrev Reg.RZ_ROUTE (n ep d : Nat) : Nat := 0x4010400 + n * 0x10000 + ep * 0x100 + d * 0x4
abbrev Reg.RZ_SLOT (n ep st h : Nat) : Nat := 0x4014000 + n * 0x10000 + ep * 0x2000 + st * 0x8 + h * 0x4
abbrev Reg.ACQ_REC_SENT : Nat := 0x6000040
abbrev Reg.ACQ_REC_LOST : Nat := 0x6000044
abbrev Reg.ACQ_VIOL_CNT : Nat := 0x6000048
abbrev Reg.ACQ_ECC_CORR : Nat := 0x600004C
abbrev Reg.ACQ_CTX_SKIP : Nat := 0x6000050
abbrev Reg.ACQ_ARCH_DROP : Nat := 0x6000054
abbrev Reg.ACQ_PRB_LOST : Nat := 0x6000058
abbrev Reg.ACQ_CLS_CFG (c : Nat) : Nat := 0x6002000 + c * 0x20
abbrev Reg.ACQ_CLS_WIN (c : Nat) : Nat := 0x6002004 + c * 0x20
abbrev Reg.ACQ_CLS_MEAS (c : Nat) : Nat := 0x6002014 + c * 0x20
abbrev Reg.ACQ_CLS_LANE (c j : Nat) : Nat := 0x6002008 + c * 0x20 + j * 0x4
abbrev Reg.ACQ_DEST (d : Nat) : Nat := 0x6003000 + d * 0x4
abbrev Reg.ACQ_PAT_CFG (u : Nat) : Nat := 0x6004000 + u * 0x100
abbrev Reg.ACQ_PAT_TURN (u : Nat) : Nat := 0x6004004 + u * 0x100
abbrev Reg.ACQ_PAT_MASK (u h : Nat) : Nat := 0x6004008 + u * 0x100 + h * 0x4
abbrev Reg.ACQ_PAT_VAL (u h : Nat) : Nat := 0x6004010 + u * 0x100 + h * 0x4
abbrev Reg.ACQ_PAT_SEL (u j : Nat) : Nat := 0x6004040 + u * 0x100 + j * 0x4
abbrev Reg.ACQ_ENV (bk x h : Nat) : Nat := 0x6080000 + bk * 0x2000 + x * 0x8 + h * 0x4
abbrev Reg.HBM_ISSUE (n e h : Nat) : Nat := 0x7004000 + n * 0x80 + e * 0x8 + h * 0x4
abbrev Reg.HBM_QUIET (w h : Nat) : Nat := 0x7006000 + w * 0x8 + h * 0x4
abbrev Reg.ETH_DST (i e j : Nat) : Nat := 0x5001100 + i * 0x10000 + e * 0x20 + j * 0x4
abbrev Reg.CNS_ESS_CNT : Nat := 0x2030040
abbrev Reg.CNS_BEN_CNT : Nat := 0x2030044
abbrev Reg.CNS_UNC_CNT : Nat := 0x2030048
abbrev Reg.CNS_SELF_CNT : Nat := 0x203004C
abbrev Reg.TWN_MISS_CNT : Nat := 0x8000040
abbrev Reg.TWN_DIV_CNT : Nat := 0x8000044
abbrev Reg.TWN_LOG_CNT : Nat := 0x8000048
abbrev Reg.TWN_NOTICE_CNT : Nat := 0x800004C
abbrev Reg.SEC_NONCE (j : Nat) : Nat := 0x2020400 + j * 0x4
abbrev Reg.SEC_EXT (j : Nat) : Nat := 0x2020440 + j * 0x4
abbrev Reg.SEC_REPORT (j : Nat) : Nat := 0x2021000 + j * 0x4
abbrev Reg.SEC_CERT (j : Nat) : Nat := 0x2024000 + j * 0x4
abbrev Reg.LIB_LOG_BUF (j : Nat) : Nat := 0x1001000 + j * 0x4
abbrev Reg.HST_MSIX_TBL (j : Nat) : Nat := 0x8101000 + j * 0x4
abbrev Reg.HST_MSIX_PBA (j : Nat) : Nat := 0x8102000 + j * 0x4
abbrev Reg.ARR_XBAR (n pg j : Nat) : Nat := 0xC001000 + n * 0x100000 + pg * 0x1000 + j * 0x4
abbrev Reg.ARR_PORTMAP (n pg j : Nat) : Nat := 0xC003000 + n * 0x100000 + pg * 0x1000 + j * 0x4
abbrev Reg.ARR_SAFE (n pg j : Nat) : Nat := 0xC005000 + n * 0x100000 + pg * 0x100 + j * 0x4

abbrev Fld.CLK_CTRL_OBS_SEL : Field := ⟨Reg.CLK_CTRL, 1, 2⟩
abbrev Fld.CLK_CTRL_RELOCK : Field := ⟨Reg.CLK_CTRL, 0, 1⟩
abbrev Fld.CLK_STATUS_RELOCK_DENIED : Field := ⟨Reg.CLK_STATUS, 4, 1⟩
abbrev Fld.CLK_STATUS_REF_UNSUP : Field := ⟨Reg.CLK_STATUS, 3, 1⟩
abbrev Fld.CLK_STATUS_REF_LOSS : Field := ⟨Reg.CLK_STATUS, 2, 1⟩
abbrev Fld.CLK_STATUS_HOLDOVER : Field := ⟨Reg.CLK_STATUS, 1, 1⟩
abbrev Fld.CLK_STATUS_LOCK : Field := ⟨Reg.CLK_STATUS, 0, 1⟩
/-- DEDUCED, log 118. -/
abbrev Fld.CLK_RPLL_REF_KHZ : Field := ⟨Reg.CLK_RPLL, 8, 16⟩
abbrev Fld.CLK_RPLL_MULT : Field := ⟨Reg.CLK_RPLL, 0, 8⟩
abbrev Fld.DEV_IDENT_PART : Field := ⟨Reg.DEV_IDENT, 16, 16⟩
abbrev Fld.DEV_IDENT_STEP : Field := ⟨Reg.DEV_IDENT, 8, 8⟩
abbrev Fld.DEV_IDENT_GRADE : Field := ⟨Reg.DEV_IDENT, 4, 4⟩
abbrev Fld.DEV_IDENT_BGEN : Field := ⟨Reg.DEV_IDENT, 0, 4⟩
abbrev Fld.DEV_STRAPS_TWIN_ROLE : Field := ⟨Reg.DEV_STRAPS, 9, 1⟩
abbrev Fld.DEV_STRAPS_DEVNUM : Field := ⟨Reg.DEV_STRAPS, 3, 6⟩
abbrev Fld.DEV_STRAPS_BOOTSEL : Field := ⟨Reg.DEV_STRAPS, 0, 3⟩
abbrev Fld.ARR_CTRL_FPOLICY (n : Nat) : Field := ⟨(Reg.ARR_CTRL n), 1, 1⟩
abbrev Fld.ARR_CTRL_POISON_EN (n : Nat) : Field := ⟨(Reg.ARR_CTRL n), 0, 1⟩
abbrev Fld.ARR_STATUS_BUSY_REFUSED (n : Nat) : Field := ⟨(Reg.ARR_STATUS n), 3, 1⟩
abbrev Fld.ARR_STATUS_FROZEN (n : Nat) : Field := ⟨(Reg.ARR_STATUS n), 2, 1⟩
abbrev Fld.ARR_STATUS_RUN (n : Nat) : Field := ⟨(Reg.ARR_STATUS n), 1, 1⟩
abbrev Fld.ARR_STATUS_MAPPED (n : Nat) : Field := ⟨(Reg.ARR_STATUS n), 0, 1⟩
abbrev Fld.ARR_FLT_CAUSE_OVF (n : Nat) : Field := ⟨(Reg.ARR_FLT_CAUSE n), 5, 1⟩
abbrev Fld.ARR_FLT_CAUSE_VALID (n : Nat) : Field := ⟨(Reg.ARR_FLT_CAUSE n), 4, 1⟩
abbrev Fld.ARR_FLT_CAUSE_CAUSE (n : Nat) : Field := ⟨(Reg.ARR_FLT_CAUSE n), 0, 4⟩
abbrev Fld.ARR_FLT_LOC_PAGE (n : Nat) : Field := ⟨(Reg.ARR_FLT_LOC n), 20, 1⟩
abbrev Fld.ARR_FLT_LOC_FROND (n : Nat) : Field := ⟨(Reg.ARR_FLT_LOC n), 16, 4⟩
abbrev Fld.ARR_FLT_LOC_BP (n : Nat) : Field := ⟨(Reg.ARR_FLT_LOC n), 10, 6⟩
abbrev Fld.ARR_FLT_LOC_STEP (n : Nat) : Field := ⟨(Reg.ARR_FLT_LOC n), 0, 10⟩
abbrev Fld.ARR_FLT_TURN_TURN (n : Nat) : Field := ⟨(Reg.ARR_FLT_TURN n), 0, 32⟩
abbrev Fld.ARR_FLT_DETAIL_FIELD (n : Nat) : Field := ⟨(Reg.ARR_FLT_DETAIL n), 9, 3⟩
abbrev Fld.ARR_FLT_DETAIL_VALUE (n : Nat) : Field := ⟨(Reg.ARR_FLT_DETAIL n), 0, 9⟩
abbrev Fld.ARR_FLT_COUNT_COUNT (n : Nat) : Field := ⟨(Reg.ARR_FLT_COUNT n), 0, 32⟩
abbrev Fld.ARR_ECC_COUNT_COUNT (n : Nat) : Field := ⟨(Reg.ARR_ECC_COUNT n), 0, 32⟩
abbrev Fld.ARR_PAGE_PENDING (n : Nat) : Field := ⟨(Reg.ARR_PAGE n), 3, 1⟩
abbrev Fld.ARR_PAGE_READY (n : Nat) : Field := ⟨(Reg.ARR_PAGE n), 2, 1⟩
abbrev Fld.ARR_PAGE_ACTIVE (n : Nat) : Field := ⟨(Reg.ARR_PAGE n), 1, 1⟩
abbrev Fld.ARR_PAGE_PAGED (n : Nat) : Field := ⟨(Reg.ARR_PAGE n), 0, 1⟩
abbrev Fld.ARR_WIN_STAT_MODIFIED (n : Nat) : Field := ⟨(Reg.ARR_WIN_STAT n), 0, 1⟩
abbrev Fld.ARR_IM_ADDR_AUTOINC (n : Nat) : Field := ⟨(Reg.ARR_IM_ADDR n), 31, 1⟩
abbrev Fld.ARR_IM_ADDR_FROND (n : Nat) : Field := ⟨(Reg.ARR_IM_ADDR n), 16, 4⟩
abbrev Fld.ARR_IM_ADDR_BP (n : Nat) : Field := ⟨(Reg.ARR_IM_ADDR n), 10, 6⟩
abbrev Fld.ARR_IM_ADDR_WORD (n : Nat) : Field := ⟨(Reg.ARR_IM_ADDR n), 0, 10⟩
abbrev Fld.ARR_IM_LO_DATA (n : Nat) : Field := ⟨(Reg.ARR_IM_LO n), 0, 32⟩
abbrev Fld.ARR_IM_HI_DATA (n : Nat) : Field := ⟨(Reg.ARR_IM_HI n), 0, 32⟩
abbrev Fld.ARR_IM_CHK_CHK (n : Nat) : Field := ⟨(Reg.ARR_IM_CHK n), 0, 8⟩
abbrev Fld.ARR_BM_CFG_RATIO (n m : Nat) : Field := ⟨(Reg.ARR_BM_CFG n m), 0, 3⟩
abbrev Fld.SEQ_CFG_PIN_SEL : Field := ⟨Reg.SEQ_CFG, 23, 8⟩
abbrev Fld.SEQ_CFG_TC_SEL : Field := ⟨Reg.SEQ_CFG, 19, 4⟩
abbrev Fld.SEQ_CFG_START_SRC : Field := ⟨Reg.SEQ_CFG, 16, 3⟩
abbrev Fld.SEQ_CFG_STROBE_SRC : Field := ⟨Reg.SEQ_CFG, 14, 2⟩
abbrev Fld.SEQ_CFG_LEVEL : Field := ⟨Reg.SEQ_CFG, 12, 2⟩
abbrev Fld.SEQ_CFG_DISC : Field := ⟨Reg.SEQ_CFG, 11, 1⟩
abbrev Fld.SEQ_CFG_L : Field := ⟨Reg.SEQ_CFG, 0, 11⟩
abbrev Fld.SEQ_CFG1_XROOT : Field := ⟨Reg.SEQ_CFG1, 15, 1⟩
abbrev Fld.SEQ_CFG1_XCOUNT : Field := ⟨Reg.SEQ_CFG1, 9, 6⟩
abbrev Fld.SEQ_CFG1_XIDX : Field := ⟨Reg.SEQ_CFG1, 3, 6⟩
abbrev Fld.SEQ_CFG1_XDEV : Field := ⟨Reg.SEQ_CFG1, 2, 1⟩
abbrev Fld.SEQ_CFG1_VOTE_ACT : Field := ⟨Reg.SEQ_CFG1, 1, 1⟩
abbrev Fld.SEQ_CFG1_OVR_ACT : Field := ⟨Reg.SEQ_CFG1, 0, 1⟩
abbrev Fld.SEQ_STATUS_STALL_CAUSE : Field := ⟨Reg.SEQ_STATUS, 16, 8⟩
abbrev Fld.SEQ_STATUS_STALL_LONG : Field := ⟨Reg.SEQ_STATUS, 15, 1⟩
abbrev Fld.SEQ_STATUS_BAR_TMO : Field := ⟨Reg.SEQ_STATUS, 14, 1⟩
abbrev Fld.SEQ_STATUS_CMD_REFUSED : Field := ⟨Reg.SEQ_STATUS, 13, 1⟩
abbrev Fld.SEQ_STATUS_STROBE_SLIP : Field := ⟨Reg.SEQ_STATUS, 12, 1⟩
abbrev Fld.SEQ_STATUS_VOTE0 : Field := ⟨Reg.SEQ_STATUS, 11, 1⟩
abbrev Fld.SEQ_STATUS_OVR : Field := ⟨Reg.SEQ_STATUS, 10, 1⟩
abbrev Fld.SEQ_STATUS_PAUSE_CAUSE : Field := ⟨Reg.SEQ_STATUS, 8, 2⟩
abbrev Fld.SEQ_STATUS_STOP_CAUSE : Field := ⟨Reg.SEQ_STATUS, 4, 4⟩
abbrev Fld.SEQ_STATUS_STATE : Field := ⟨Reg.SEQ_STATUS, 0, 3⟩
abbrev Fld.SEQ_CMD_COUNT : Field := ⟨Reg.SEQ_CMD, 16, 16⟩
abbrev Fld.SEQ_CMD_LEVEL : Field := ⟨Reg.SEQ_CMD, 9, 2⟩
abbrev Fld.SEQ_CMD_AT : Field := ⟨Reg.SEQ_CMD, 8, 1⟩
abbrev Fld.SEQ_CMD_CMD : Field := ⟨Reg.SEQ_CMD, 0, 4⟩
abbrev Fld.SEQ_CMD_TURN_TURN : Field := ⟨Reg.SEQ_CMD_TURN, 0, 32⟩
abbrev Fld.SEQ_CMD_STAT_PENDING : Field := ⟨Reg.SEQ_CMD_STAT, 8, 1⟩
abbrev Fld.SEQ_CMD_STAT_CODE : Field := ⟨Reg.SEQ_CMD_STAT, 0, 6⟩
abbrev Fld.SEQ_OVR_CAUSE_OVF : Field := ⟨Reg.SEQ_OVR_CAUSE, 12, 1⟩
abbrev Fld.SEQ_OVR_CAUSE_VALID : Field := ⟨Reg.SEQ_OVR_CAUSE, 11, 1⟩
abbrev Fld.SEQ_OVR_CAUSE_SVALID : Field := ⟨Reg.SEQ_OVR_CAUSE, 10, 1⟩
abbrev Fld.SEQ_OVR_CAUSE_SORUS : Field := ⟨Reg.SEQ_OVR_CAUSE, 4, 6⟩
abbrev Fld.SEQ_OVR_CAUSE_CAUSE : Field := ⟨Reg.SEQ_OVR_CAUSE, 0, 4⟩
abbrev Fld.SEQ_STALL_WARN_US : Field := ⟨Reg.SEQ_STALL_WARN, 0, 20⟩
abbrev Fld.SEQ_BAR_TMO_US : Field := ⟨Reg.SEQ_BAR_TMO, 0, 24⟩
abbrev Fld.SEQ_CAP_CFG_PAUSE_AFTER : Field := ⟨Reg.SEQ_CAP_CFG, 7, 1⟩
abbrev Fld.SEQ_CAP_CFG_CTX : Field := ⟨Reg.SEQ_CAP_CFG, 4, 1⟩
abbrev Fld.SEQ_CAP_CFG_SLOT : Field := ⟨Reg.SEQ_CAP_CFG, 0, 4⟩
abbrev Fld.SEQ_CAP_STAT_CODE : Field := ⟨Reg.SEQ_CAP_STAT, 4, 6⟩
abbrev Fld.SEQ_CAP_STAT_FAIL : Field := ⟨Reg.SEQ_CAP_STAT, 2, 1⟩
abbrev Fld.SEQ_CAP_STAT_DONE : Field := ⟨Reg.SEQ_CAP_STAT, 1, 1⟩
abbrev Fld.SEQ_CAP_STAT_BUSY : Field := ⟨Reg.SEQ_CAP_STAT, 0, 1⟩
abbrev Fld.SEQ_CAP_TURN_TURN : Field := ⟨Reg.SEQ_CAP_TURN, 0, 32⟩
abbrev Fld.SEQ_STALL_CNT_COUNT (i : Nat) : Field := ⟨(Reg.SEQ_STALL_CNT i), 0, 32⟩
abbrev Fld.LDR_CHK_STAT_CHECK : Field := ⟨Reg.LDR_CHK_STAT, 16, 8⟩
abbrev Fld.LDR_CHK_STAT_SECTION : Field := ⟨Reg.LDR_CHK_STAT, 4, 12⟩
abbrev Fld.LDR_CHK_STAT_CLAIM_CONFLICT : Field := ⟨Reg.LDR_CHK_STAT, 2, 1⟩
abbrev Fld.LDR_CHK_STAT_IMG_CONFLICT : Field := ⟨Reg.LDR_CHK_STAT, 1, 1⟩
abbrev Fld.LDR_CHK_STAT_FORMAT : Field := ⟨Reg.LDR_CHK_STAT, 0, 1⟩
abbrev Fld.LDR_CHK_INFO_SEQ : Field := ⟨Reg.LDR_CHK_INFO, 0, 32⟩
abbrev Fld.LDR_OWN_Q_CLASS : Field := ⟨Reg.LDR_OWN_Q, 16, 8⟩
abbrev Fld.LDR_OWN_Q_INDEX : Field := ⟨Reg.LDR_OWN_Q, 0, 16⟩
abbrev Fld.LDR_OWN_R_SHARED : Field := ⟨Reg.LDR_OWN_R, 8, 1⟩
abbrev Fld.LDR_OWN_R_OWNER : Field := ⟨Reg.LDR_OWN_R, 0, 8⟩
abbrev Fld.LDR_CLAIM_OP : Field := ⟨Reg.LDR_CLAIM, 31, 1⟩
abbrev Fld.LDR_CLAIM_CLASS : Field := ⟨Reg.LDR_CLAIM, 16, 8⟩
abbrev Fld.LDR_CLAIM_INDEX : Field := ⟨Reg.LDR_CLAIM, 0, 16⟩
abbrev Fld.LDR_CLAIM_STAT_CODE : Field := ⟨Reg.LDR_CLAIM_STAT, 0, 6⟩
abbrev Fld.RZ_EPOCH_SW_REFUSED : Field := ⟨Reg.RZ_EPOCH, 5, 1⟩
abbrev Fld.RZ_EPOCH_SP_PENDING : Field := ⟨Reg.RZ_EPOCH, 4, 1⟩
abbrev Fld.RZ_EPOCH_SP_RETIRING : Field := ⟨Reg.RZ_EPOCH, 3, 1⟩
abbrev Fld.RZ_EPOCH_GP_RETIRING : Field := ⟨Reg.RZ_EPOCH, 2, 1⟩
abbrev Fld.RZ_EPOCH_SP_EPOCH : Field := ⟨Reg.RZ_EPOCH, 1, 1⟩
abbrev Fld.RZ_EPOCH_GP_EPOCH : Field := ⟨Reg.RZ_EPOCH, 0, 1⟩
abbrev Fld.RZ_SWITCH_SP : Field := ⟨Reg.RZ_SWITCH, 1, 1⟩
abbrev Fld.RZ_SWITCH_GP : Field := ⟨Reg.RZ_SWITCH, 0, 1⟩
abbrev Fld.RZ_SWITCH_STAT_CODE : Field := ⟨Reg.RZ_SWITCH_STAT, 0, 6⟩
abbrev Fld.RZ_OLD_CNT_SP : Field := ⟨Reg.RZ_OLD_CNT, 16, 16⟩
abbrev Fld.RZ_OLD_CNT_GP : Field := ⟨Reg.RZ_OLD_CNT, 0, 16⟩
abbrev Fld.RZ_CHK_MGT : Field := ⟨Reg.RZ_CHK, 2, 1⟩
abbrev Fld.RZ_CHK_RSP : Field := ⟨Reg.RZ_CHK, 1, 1⟩
abbrev Fld.RZ_CHK_REQ : Field := ⟨Reg.RZ_CHK, 0, 1⟩
abbrev Fld.RZ_RSP_TMO_US : Field := ⟨Reg.RZ_RSP_TMO, 0, 24⟩
abbrev Fld.RZ_NODE_STAT_HOLDING (n : Nat) : Field := ⟨(Reg.RZ_NODE_STAT n), 17, 1⟩
abbrev Fld.RZ_NODE_STAT_FENCED (n : Nat) : Field := ⟨(Reg.RZ_NODE_STAT n), 16, 1⟩
abbrev Fld.RZ_NODE_STAT_RSP_TMO (n : Nat) : Field := ⟨(Reg.RZ_NODE_STAT n), 11, 1⟩
abbrev Fld.RZ_NODE_STAT_DENIED (n : Nat) : Field := ⟨(Reg.RZ_NODE_STAT n), 10, 1⟩
abbrev Fld.RZ_NODE_STAT_TBL_REFUSED (n : Nat) : Field := ⟨(Reg.RZ_NODE_STAT n), 9, 1⟩
abbrev Fld.RZ_NODE_STAT_HELD_TMO (n : Nat) : Field := ⟨(Reg.RZ_NODE_STAT n), 8, 1⟩
abbrev Fld.RZ_NODE_STAT_HELD_OFF (n : Nat) : Field := ⟨(Reg.RZ_NODE_STAT n), 7, 1⟩
abbrev Fld.RZ_NODE_STAT_OVER_QUOTA (n : Nat) : Field := ⟨(Reg.RZ_NODE_STAT n), 6, 1⟩
abbrev Fld.RZ_NODE_STAT_SP_UNC (n : Nat) : Field := ⟨(Reg.RZ_NODE_STAT n), 5, 1⟩
abbrev Fld.RZ_NODE_STAT_SP_COLL (n : Nat) : Field := ⟨(Reg.RZ_NODE_STAT n), 4, 1⟩
abbrev Fld.RZ_NODE_STAT_MALFORMED (n : Nat) : Field := ⟨(Reg.RZ_NODE_STAT n), 3, 1⟩
abbrev Fld.RZ_NODE_STAT_NOROUTE (n : Nat) : Field := ⟨(Reg.RZ_NODE_STAT n), 2, 1⟩
abbrev Fld.RZ_NODE_STAT_DATA_UNC (n : Nat) : Field := ⟨(Reg.RZ_NODE_STAT n), 1, 1⟩
abbrev Fld.RZ_NODE_STAT_HDR_UNC (n : Nat) : Field := ⟨(Reg.RZ_NODE_STAT n), 0, 1⟩
abbrev Fld.RZ_SP_FLT_VALID (n : Nat) : Field := ⟨(Reg.RZ_SP_FLT n), 17, 1⟩
abbrev Fld.RZ_SP_FLT_EPOCH (n : Nat) : Field := ⟨(Reg.RZ_SP_FLT n), 16, 1⟩
abbrev Fld.RZ_SP_FLT_CASE (n : Nat) : Field := ⟨(Reg.RZ_SP_FLT n), 13, 3⟩
abbrev Fld.RZ_SP_FLT_INPUT (n : Nat) : Field := ⟨(Reg.RZ_SP_FLT n), 10, 3⟩
abbrev Fld.RZ_SP_FLT_STEP (n : Nat) : Field := ⟨(Reg.RZ_SP_FLT n), 0, 10⟩
abbrev Fld.RZ_TB_REQ_DEPTH (n e : Nat) : Field := ⟨(Reg.RZ_TB_REQ n e), 16, 16⟩
abbrev Fld.RZ_TB_REQ_RATE (n e : Nat) : Field := ⟨(Reg.RZ_TB_REQ n e), 0, 16⟩
abbrev Fld.RZ_TB_MGT_DEPTH (n e : Nat) : Field := ⟨(Reg.RZ_TB_MGT n e), 16, 16⟩
abbrev Fld.RZ_TB_MGT_RATE (n e : Nat) : Field := ⟨(Reg.RZ_TB_MGT n e), 0, 16⟩
abbrev Fld.RZ_TB_LEVEL_MGT (n e : Nat) : Field := ⟨(Reg.RZ_TB_LEVEL n e), 16, 16⟩
abbrev Fld.RZ_TB_LEVEL_REQ (n e : Nat) : Field := ⟨(Reg.RZ_TB_LEVEL n e), 0, 16⟩
abbrev Fld.RZ_QUOTA_QUOTA (n e : Nat) : Field := ⟨(Reg.RZ_QUOTA n e), 0, 6⟩
abbrev Fld.RZ_OUTST_COUNT (n e : Nat) : Field := ⟨(Reg.RZ_OUTST n e), 0, 7⟩
abbrev Fld.LN_CFG_TX_IDLE (i : Nat) : Field := ⟨(Reg.LN_CFG i), 13, 1⟩
abbrev Fld.LN_CFG_ADAPT (i : Nat) : Field := ⟨(Reg.LN_CFG i), 11, 2⟩
abbrev Fld.LN_CFG_LPBK (i : Nat) : Field := ⟨(Reg.LN_CFG i), 9, 2⟩
abbrev Fld.LN_CFG_RX_INV (i : Nat) : Field := ⟨(Reg.LN_CFG i), 8, 1⟩
abbrev Fld.LN_CFG_TX_INV (i : Nat) : Field := ⟨(Reg.LN_CFG i), 7, 1⟩
abbrev Fld.LN_CFG_RX_PRE (i : Nat) : Field := ⟨(Reg.LN_CFG i), 6, 1⟩
abbrev Fld.LN_CFG_TX_PRE (i : Nat) : Field := ⟨(Reg.LN_CFG i), 5, 1⟩
abbrev Fld.LN_CFG_DIV (i : Nat) : Field := ⟨(Reg.LN_CFG i), 2, 3⟩
abbrev Fld.LN_CFG_MOD (i : Nat) : Field := ⟨(Reg.LN_CFG i), 1, 1⟩
abbrev Fld.LN_CFG_EN (i : Nat) : Field := ⟨(Reg.LN_CFG i), 0, 1⟩
abbrev Fld.LN_STAT_FIR_BAD (i : Nat) : Field := ⟨(Reg.LN_STAT i), 14, 1⟩
abbrev Fld.LN_STAT_CFG_BAD (i : Nat) : Field := ⟨(Reg.LN_STAT i), 13, 1⟩
abbrev Fld.LN_STAT_FE_SLIP (i : Nat) : Field := ⟨(Reg.LN_STAT i), 12, 1⟩
abbrev Fld.LN_STAT_SLIP (i : Nat) : Field := ⟨(Reg.LN_STAT i), 11, 1⟩
abbrev Fld.LN_STAT_PLL_LOST (i : Nat) : Field := ⟨(Reg.LN_STAT i), 10, 1⟩
abbrev Fld.LN_STAT_LOL (i : Nat) : Field := ⟨(Reg.LN_STAT i), 9, 1⟩
abbrev Fld.LN_STAT_LOS (i : Nat) : Field := ⟨(Reg.LN_STAT i), 8, 1⟩
abbrev Fld.LN_STAT_PRBS_LOCK (i : Nat) : Field := ⟨(Reg.LN_STAT i), 5, 1⟩
abbrev Fld.LN_STAT_READY (i : Nat) : Field := ⟨(Reg.LN_STAT i), 4, 1⟩
abbrev Fld.LN_STAT_ADAPT_DONE (i : Nat) : Field := ⟨(Reg.LN_STAT i), 3, 1⟩
abbrev Fld.LN_STAT_CDR_LOCK (i : Nat) : Field := ⟨(Reg.LN_STAT i), 2, 1⟩
abbrev Fld.LN_STAT_SIGDET (i : Nat) : Field := ⟨(Reg.LN_STAT i), 1, 1⟩
abbrev Fld.LN_STAT_PLL_OK (i : Nat) : Field := ⟨(Reg.LN_STAT i), 0, 1⟩
abbrev Fld.LN_TXFIR_POST2 (i : Nat) : Field := ⟨(Reg.LN_TXFIR i), 18, 3⟩
abbrev Fld.LN_TXFIR_POST1 (i : Nat) : Field := ⟨(Reg.LN_TXFIR i), 13, 5⟩
abbrev Fld.LN_TXFIR_MAIN (i : Nat) : Field := ⟨(Reg.LN_TXFIR i), 7, 6⟩
abbrev Fld.LN_TXFIR_PRE1 (i : Nat) : Field := ⟨(Reg.LN_TXFIR i), 3, 4⟩
abbrev Fld.LN_TXFIR_PRE2 (i : Nat) : Field := ⟨(Reg.LN_TXFIR i), 0, 3⟩
abbrev Fld.LN_RXEQ_VGA (i : Nat) : Field := ⟨(Reg.LN_RXEQ i), 4, 6⟩
abbrev Fld.LN_RXEQ_CTLE (i : Nat) : Field := ⟨(Reg.LN_RXEQ i), 0, 4⟩
abbrev Fld.LN_RXEQ_ST_VGA (i : Nat) : Field := ⟨(Reg.LN_RXEQ_ST i), 4, 6⟩
abbrev Fld.LN_RXEQ_ST_CTLE (i : Nat) : Field := ⟨(Reg.LN_RXEQ_ST i), 0, 4⟩
abbrev Fld.LN_LAT_VALID (i : Nat) : Field := ⟨(Reg.LN_LAT i), 16, 1⟩
abbrev Fld.LN_LAT_TX (i : Nat) : Field := ⟨(Reg.LN_LAT i), 8, 8⟩
abbrev Fld.LN_LAT_RX (i : Nat) : Field := ⟨(Reg.LN_LAT i), 0, 8⟩
abbrev Fld.LN_PHASE_VALID (i : Nat) : Field := ⟨(Reg.LN_PHASE i), 31, 1⟩
abbrev Fld.LN_PHASE_FILL (i : Nat) : Field := ⟨(Reg.LN_PHASE i), 5, 4⟩
abbrev Fld.LN_PHASE_UI32 (i : Nat) : Field := ⟨(Reg.LN_PHASE i), 0, 5⟩
abbrev Fld.LN_ES_CTRL_PRESCALE (i : Nat) : Field := ⟨(Reg.LN_ES_CTRL i), 17, 4⟩
abbrev Fld.LN_ES_CTRL_EYE (i : Nat) : Field := ⟨(Reg.LN_ES_CTRL i), 15, 2⟩
abbrev Fld.LN_ES_CTRL_VOFF (i : Nat) : Field := ⟨(Reg.LN_ES_CTRL i), 8, 7⟩
abbrev Fld.LN_ES_CTRL_PHASE (i : Nat) : Field := ⟨(Reg.LN_ES_CTRL i), 2, 6⟩
abbrev Fld.LN_ES_CTRL_START (i : Nat) : Field := ⟨(Reg.LN_ES_CTRL i), 0, 1⟩
abbrev Fld.LN_ES_STAT_ABORTED (i : Nat) : Field := ⟨(Reg.LN_ES_STAT i), 1, 1⟩
abbrev Fld.LN_ES_STAT_DONE (i : Nat) : Field := ⟨(Reg.LN_ES_STAT i), 0, 1⟩
abbrev Fld.LN_ES_ERR_COUNT (i : Nat) : Field := ⟨(Reg.LN_ES_ERR i), 0, 32⟩
abbrev Fld.LN_PRBS_CTRL_RX_PAT (i : Nat) : Field := ⟨(Reg.LN_PRBS_CTRL i), 3, 3⟩
abbrev Fld.LN_PRBS_CTRL_TX_PAT (i : Nat) : Field := ⟨(Reg.LN_PRBS_CTRL i), 0, 3⟩
abbrev Fld.LN_PRBS_ERR_COUNT (i : Nat) : Field := ⟨(Reg.LN_PRBS_ERR i), 0, 32⟩
abbrev Fld.LN_PLL_FRAC (q : Nat) : Field := ⟨(Reg.LN_PLL q), 16, 16⟩
abbrev Fld.LN_PLL_N (q : Nat) : Field := ⟨(Reg.LN_PLL q), 8, 8⟩
abbrev Fld.LN_PLL_R_M1 (q : Nat) : Field := ⟨(Reg.LN_PLL q), 2, 6⟩
abbrev Fld.LN_PLL_REFSEL (q : Nat) : Field := ⟨(Reg.LN_PLL q), 1, 1⟩
abbrev Fld.LN_PLL_EN (q : Nat) : Field := ⟨(Reg.LN_PLL q), 0, 1⟩
abbrev Fld.LN_PLL_STAT_RANGE (q : Nat) : Field := ⟨(Reg.LN_PLL_STAT q), 2, 1⟩
abbrev Fld.LN_PLL_STAT_REF_FORCED (q : Nat) : Field := ⟨(Reg.LN_PLL_STAT q), 1, 1⟩
abbrev Fld.LN_PLL_STAT_LOCK (q : Nat) : Field := ⟨(Reg.LN_PLL_STAT q), 0, 1⟩
abbrev Fld.LN_LE_CFG_TX_FTYPE (i : Nat) : Field := ⟨(Reg.LN_LE_CFG i), 13, 3⟩
abbrev Fld.LN_LE_CFG_TX_SRC (i : Nat) : Field := ⟨(Reg.LN_LE_CFG i), 11, 2⟩
abbrev Fld.LN_LE_CFG_RELEASE (i : Nat) : Field := ⟨(Reg.LN_LE_CFG i), 10, 1⟩
abbrev Fld.LN_LE_CFG_TO_ACQ (i : Nat) : Field := ⟨(Reg.LN_LE_CFG i), 9, 1⟩
abbrev Fld.LN_LE_CFG_TO_ARR (i : Nat) : Field := ⟨(Reg.LN_LE_CFG i), 8, 1⟩
abbrev Fld.LN_LE_CFG_SCR (i : Nat) : Field := ⟨(Reg.LN_LE_CFG i), 7, 1⟩
abbrev Fld.LN_LE_CFG_FEC (i : Nat) : Field := ⟨(Reg.LN_LE_CFG i), 6, 1⟩
abbrev Fld.LN_LE_CFG_GROUP (i : Nat) : Field := ⟨(Reg.LN_LE_CFG i), 4, 2⟩
abbrev Fld.LN_LE_CFG_MODE (i : Nat) : Field := ⟨(Reg.LN_LE_CFG i), 0, 4⟩
abbrev Fld.LN_LE_STAT_TX_CODE (i : Nat) : Field := ⟨(Reg.LN_LE_STAT i), 24, 6⟩
abbrev Fld.LN_LE_STAT_TX_REFUSED (i : Nat) : Field := ⟨(Reg.LN_LE_STAT i), 13, 1⟩
abbrev Fld.LN_LE_STAT_RETRY_FAIL (i : Nat) : Field := ⟨(Reg.LN_LE_STAT i), 12, 1⟩
abbrev Fld.LN_LE_STAT_DESKEW (i : Nat) : Field := ⟨(Reg.LN_LE_STAT i), 11, 1⟩
abbrev Fld.LN_LE_STAT_PROTO (i : Nat) : Field := ⟨(Reg.LN_LE_STAT i), 10, 1⟩
abbrev Fld.LN_LE_STAT_MISALIGN (i : Nat) : Field := ⟨(Reg.LN_LE_STAT i), 9, 1⟩
abbrev Fld.LN_LE_STAT_OVF (i : Nat) : Field := ⟨(Reg.LN_LE_STAT i), 8, 1⟩
abbrev Fld.LN_LE_STAT_LATE (i : Nat) : Field := ⟨(Reg.LN_LE_STAT i), 7, 1⟩
abbrev Fld.LN_LE_STAT_UNC (i : Nat) : Field := ⟨(Reg.LN_LE_STAT i), 6, 1⟩
abbrev Fld.LN_LE_STAT_DOWN (i : Nat) : Field := ⟨(Reg.LN_LE_STAT i), 5, 1⟩
abbrev Fld.LN_LE_STAT_CFG_BAD (i : Nat) : Field := ⟨(Reg.LN_LE_STAT i), 4, 1⟩
abbrev Fld.LN_LE_STAT_RETRYING (i : Nat) : Field := ⟨(Reg.LN_LE_STAT i), 2, 1⟩
abbrev Fld.LN_LE_STAT_ALIGNED (i : Nat) : Field := ⟨(Reg.LN_LE_STAT i), 1, 1⟩
abbrev Fld.LN_LE_STAT_UP (i : Nat) : Field := ⟨(Reg.LN_LE_STAT i), 0, 1⟩
abbrev Fld.LN_LE_DELAY_DELAY (i : Nat) : Field := ⟨(Reg.LN_LE_DELAY i), 0, 12⟩
abbrev Fld.LN_LE_XLAT_VALID (i : Nat) : Field := ⟨(Reg.LN_LE_XLAT i), 31, 1⟩
abbrev Fld.LN_LE_XLAT_XLAT (i : Nat) : Field := ⟨(Reg.LN_LE_XLAT i), 0, 12⟩
abbrev Fld.LN_RAW_CFG_SWAP (i : Nat) : Field := ⟨(Reg.LN_RAW_CFG i), 2, 1⟩
abbrev Fld.LN_RAW_CFG_COMMA (i : Nat) : Field := ⟨(Reg.LN_RAW_CFG i), 0, 2⟩
abbrev Fld.QL_CFG_ALIGN_EXP (i : Nat) : Field := ⟨(Reg.QL_CFG i), 0, 4⟩
abbrev Fld.QL_REL_CFG_MAXRETRY (i : Nat) : Field := ⟨(Reg.QL_REL_CFG i), 8, 5⟩
abbrev Fld.QL_REL_CFG_TMO (i : Nat) : Field := ⟨(Reg.QL_REL_CFG i), 0, 8⟩
abbrev Fld.QL_REL_STAT_UNACK (i : Nat) : Field := ⟨(Reg.QL_REL_STAT i), 24, 7⟩
abbrev Fld.QL_REL_STAT_CREDIT (i : Nat) : Field := ⟨(Reg.QL_REL_STAT i), 12, 12⟩
abbrev Fld.QL_REL_STAT_TXSEQ (i : Nat) : Field := ⟨(Reg.QL_REL_STAT i), 0, 12⟩
abbrev Fld.ETH_CFG_RX_PORT (i : Nat) : Field := ⟨(Reg.ETH_CFG i), 16, 16⟩
abbrev Fld.ETH_CFG_RX_CORE (i : Nat) : Field := ⟨(Reg.ETH_CFG i), 15, 1⟩
abbrev Fld.ETH_CFG_MCAST (i : Nat) : Field := ⟨(Reg.ETH_CFG i), 14, 1⟩
abbrev Fld.ETH_CFG_MTU (i : Nat) : Field := ⟨(Reg.ETH_CFG i), 0, 14⟩
abbrev Fld.ETH_MAC_HI_MAC (i : Nat) : Field := ⟨(Reg.ETH_MAC_HI i), 0, 16⟩
abbrev Fld.ETH_TS_ADJ_PS (i : Nat) : Field := ⟨(Reg.ETH_TS_ADJ i), 0, 16⟩
abbrev Fld.ETH_IP6_DATA (i j : Nat) : Field := ⟨(Reg.ETH_IP6 i j), 0, 32⟩
abbrev Fld.QL_PLAN_PLAN (i j : Nat) : Field := ⟨(Reg.QL_PLAN i j), 0, 32⟩
abbrev Fld.ACQ_CTRL_STOP_POST : Field := ⟨Reg.ACQ_CTRL, 16, 16⟩
abbrev Fld.ACQ_CTRL_STOP_ALL : Field := ⟨Reg.ACQ_CTRL, 1, 1⟩
abbrev Fld.ACQ_CTRL_EN : Field := ⟨Reg.ACQ_CTRL, 0, 1⟩
abbrev Fld.ACQ_STATUS_STOPPED : Field := ⟨Reg.ACQ_STATUS, 17, 1⟩
abbrev Fld.ACQ_STATUS_RUN : Field := ⟨Reg.ACQ_STATUS, 16, 1⟩
abbrev Fld.ACQ_STATUS_CMD_REFUSED : Field := ⟨Reg.ACQ_STATUS, 14, 1⟩
abbrev Fld.ACQ_STATUS_SAT : Field := ⟨Reg.ACQ_STATUS, 13, 1⟩
abbrev Fld.ACQ_STATUS_CFG_REFUSED : Field := ⟨Reg.ACQ_STATUS, 12, 1⟩
abbrev Fld.ACQ_STATUS_DUMP_FAIL : Field := ⟨Reg.ACQ_STATUS, 11, 1⟩
abbrev Fld.ACQ_STATUS_DUMP_DONE : Field := ⟨Reg.ACQ_STATUS, 10, 1⟩
abbrev Fld.ACQ_STATUS_PAT_MATCH : Field := ⟨Reg.ACQ_STATUS, 9, 1⟩
abbrev Fld.ACQ_STATUS_PRB_LOST : Field := ⟨Reg.ACQ_STATUS, 8, 1⟩
abbrev Fld.ACQ_STATUS_TX_REFUSED : Field := ⟨Reg.ACQ_STATUS, 7, 1⟩
abbrev Fld.ACQ_STATUS_REC_INCOMPLETE : Field := ⟨Reg.ACQ_STATUS, 6, 1⟩
abbrev Fld.ACQ_STATUS_REC_REFUSED : Field := ⟨Reg.ACQ_STATUS, 5, 1⟩
abbrev Fld.ACQ_STATUS_ARCH_STOP : Field := ⟨Reg.ACQ_STATUS, 4, 1⟩
abbrev Fld.ACQ_STATUS_VIOL : Field := ⟨Reg.ACQ_STATUS, 3, 1⟩
abbrev Fld.ACQ_STATUS_ECC_UNC : Field := ⟨Reg.ACQ_STATUS, 2, 1⟩
abbrev Fld.ACQ_STATUS_ARCH_DROP : Field := ⟨Reg.ACQ_STATUS, 1, 1⟩
abbrev Fld.ACQ_STATUS_CAP_OVF : Field := ⟨Reg.ACQ_STATUS, 0, 1⟩
abbrev Fld.ACQ_CMD_CLASS : Field := ⟨Reg.ACQ_CMD, 8, 4⟩
abbrev Fld.ACQ_CMD_CMD : Field := ⟨Reg.ACQ_CMD, 0, 4⟩
abbrev Fld.ACQ_CMD_STAT_PENDING : Field := ⟨Reg.ACQ_CMD_STAT, 8, 1⟩
abbrev Fld.ACQ_CMD_STAT_CODE : Field := ⟨Reg.ACQ_CMD_STAT, 0, 6⟩
abbrev Fld.ACQ_DUMP_CFG_TC_EN : Field := ⟨Reg.ACQ_DUMP_CFG, 31, 1⟩
abbrev Fld.ACQ_DUMP_CFG_TC_SEL : Field := ⟨Reg.ACQ_DUMP_CFG, 27, 4⟩
abbrev Fld.ACQ_DUMP_CFG_CLR : Field := ⟨Reg.ACQ_DUMP_CFG, 17, 1⟩
abbrev Fld.ACQ_DUMP_CFG_NBANKS_M1 : Field := ⟨Reg.ACQ_DUMP_CFG, 11, 6⟩
abbrev Fld.ACQ_DUMP_CFG_FIRST_BANK : Field := ⟨Reg.ACQ_DUMP_CFG, 5, 6⟩
abbrev Fld.ACQ_DUMP_CFG_REGION : Field := ⟨Reg.ACQ_DUMP_CFG, 0, 5⟩
abbrev Fld.ACQ_DUMP_BASE_BASE : Field := ⟨Reg.ACQ_DUMP_BASE, 0, 18⟩
abbrev Fld.ACQ_VIOL_VALID : Field := ⟨Reg.ACQ_VIOL, 31, 1⟩
abbrev Fld.ACQ_VIOL_CTX : Field := ⟨Reg.ACQ_VIOL, 0, 18⟩
abbrev Fld.ACQ_VIOL_VAL_V : Field := ⟨Reg.ACQ_VIOL_VAL, 0, 24⟩
abbrev Fld.ACQ_REC_STAT_CLASS : Field := ⟨Reg.ACQ_REC_STAT, 8, 4⟩
abbrev Fld.ACQ_REC_STAT_CODE : Field := ⟨Reg.ACQ_REC_STAT, 0, 6⟩
abbrev Fld.ACQ_ECC_CTX_VALID : Field := ⟨Reg.ACQ_ECC_CTX, 31, 1⟩
abbrev Fld.ACQ_ECC_CTX_CTX : Field := ⟨Reg.ACQ_ECC_CTX, 0, 18⟩
abbrev Fld.ACQ_BUDGET_MBPS : Field := ⟨Reg.ACQ_BUDGET, 0, 21⟩
abbrev Fld.ACQ_CTX_WIN_HALF : Field := ⟨Reg.ACQ_CTX_WIN, 0, 1⟩
abbrev Fld.ACQ_PRB_CFG_POST : Field := ⟨Reg.ACQ_PRB_CFG, 16, 16⟩
abbrev Fld.ACQ_PRB_CFG_FREEZE_EN : Field := ⟨Reg.ACQ_PRB_CFG, 10, 1⟩
abbrev Fld.ACQ_PRB_CFG_REGION : Field := ⟨Reg.ACQ_PRB_CFG, 5, 5⟩
abbrev Fld.ACQ_PRB_CFG_DECIM : Field := ⟨Reg.ACQ_PRB_CFG, 1, 4⟩
abbrev Fld.ACQ_PRB_CFG_EN : Field := ⟨Reg.ACQ_PRB_CFG, 0, 1⟩
abbrev Fld.ACQ_PRB_BASE_BASE : Field := ⟨Reg.ACQ_PRB_BASE, 0, 18⟩
abbrev Fld.ACQ_PRB_NREC_N : Field := ⟨Reg.ACQ_PRB_NREC, 0, 20⟩
abbrev Fld.ACQ_PRB_STAT_UNIT : Field := ⟨Reg.ACQ_PRB_STAT, 6, 2⟩
abbrev Fld.ACQ_PRB_STAT_FREE : Field := ⟨Reg.ACQ_PRB_STAT, 2, 4⟩
abbrev Fld.ACQ_PRB_STAT_FROZEN : Field := ⟨Reg.ACQ_PRB_STAT, 0, 1⟩
abbrev Fld.ACQ_REC_TMO_US : Field := ⟨Reg.ACQ_REC_TMO, 0, 24⟩
abbrev Fld.ACQ_FWD_DEST : Field := ⟨Reg.ACQ_FWD, 1, 4⟩
abbrev Fld.ACQ_FWD_EN : Field := ⟨Reg.ACQ_FWD, 0, 1⟩
abbrev Fld.ACQ_LN_CFG_BANK (i : Nat) : Field := ⟨(Reg.ACQ_LN_CFG i), 16, 6⟩
abbrev Fld.ACQ_LN_CFG_MBIT (i : Nat) : Field := ⟨(Reg.ACQ_LN_CFG i), 10, 6⟩
abbrev Fld.ACQ_LN_CFG_SYNC (i : Nat) : Field := ⟨(Reg.ACQ_LN_CFG i), 9, 1⟩
abbrev Fld.ACQ_LN_CFG_ARCH (i : Nat) : Field := ⟨(Reg.ACQ_LN_CFG i), 8, 1⟩
abbrev Fld.ACQ_LN_CFG_SIGNED (i : Nat) : Field := ⟨(Reg.ACQ_LN_CFG i), 7, 1⟩
abbrev Fld.ACQ_LN_CFG_W (i : Nat) : Field := ⟨(Reg.ACQ_LN_CFG i), 4, 3⟩
abbrev Fld.ACQ_LN_CFG_SPW (i : Nat) : Field := ⟨(Reg.ACQ_LN_CFG i), 0, 4⟩
abbrev Fld.ACQ_LN_MAP_CYCLE_M1 (i : Nat) : Field := ⟨(Reg.ACQ_LN_MAP i), 16, 12⟩
abbrev Fld.ACQ_LN_MAP_OFFSET (i : Nat) : Field := ⟨(Reg.ACQ_LN_MAP i), 0, 12⟩
abbrev Fld.ACQ_LN_RING_BASE (i : Nat) : Field := ⟨(Reg.ACQ_LN_RING i), 10, 18⟩
abbrev Fld.ACQ_LN_RING_SIZE (i : Nat) : Field := ⟨(Reg.ACQ_LN_RING i), 5, 5⟩
abbrev Fld.ACQ_LN_RING_REGION (i : Nat) : Field := ⟨(Reg.ACQ_LN_RING i), 0, 5⟩
abbrev Fld.ACQ_LN_DELAY_DL (i : Nat) : Field := ⟨(Reg.ACQ_LN_DELAY i), 0, 12⟩
abbrev Fld.ACQ_LN_STAT_CODE (i : Nat) : Field := ⟨(Reg.ACQ_LN_STAT i), 8, 6⟩
abbrev Fld.ACQ_LN_STAT_REFUSED (i : Nat) : Field := ⟨(Reg.ACQ_LN_STAT i), 3, 1⟩
abbrev Fld.ACQ_LN_STAT_STOPPED (i : Nat) : Field := ⟨(Reg.ACQ_LN_STAT i), 2, 1⟩
abbrev Fld.ACQ_LN_STAT_SYNCED (i : Nat) : Field := ⟨(Reg.ACQ_LN_STAT i), 1, 1⟩
abbrev Fld.ACQ_LN_STAT_ADMITTED (i : Nat) : Field := ⟨(Reg.ACQ_LN_STAT i), 0, 1⟩
abbrev Fld.ACQ_LN_IDX_HI_IDX (i : Nat) : Field := ⟨(Reg.ACQ_LN_IDX_HI i), 0, 16⟩
abbrev Fld.HBM_STATUS_READY : Field := ⟨Reg.HBM_STATUS, 8, 1⟩
abbrev Fld.HBM_STATUS_TRAIN_FAIL : Field := ⟨Reg.HBM_STATUS, 6, 1⟩
abbrev Fld.HBM_STATUS_TEMP_HI : Field := ⟨Reg.HBM_STATUS, 5, 1⟩
abbrev Fld.HBM_STATUS_NOT_READY : Field := ⟨Reg.HBM_STATUS, 4, 1⟩
abbrev Fld.HBM_STATUS_DENIED : Field := ⟨Reg.HBM_STATUS, 3, 1⟩
abbrev Fld.HBM_STATUS_OVER_QUOTA : Field := ⟨Reg.HBM_STATUS, 2, 1⟩
abbrev Fld.HBM_STATUS_ECC_CORR : Field := ⟨Reg.HBM_STATUS, 1, 1⟩
abbrev Fld.HBM_STATUS_ECC_UNC : Field := ⟨Reg.HBM_STATUS, 0, 1⟩
abbrev Fld.HBM_ERR_INFO_VALID : Field := ⟨Reg.HBM_ERR_INFO, 31, 1⟩
abbrev Fld.HBM_ERR_INFO_MID : Field := ⟨Reg.HBM_ERR_INFO, 0, 8⟩
abbrev Fld.HBM_TEMP_T : Field := ⟨Reg.HBM_TEMP, 0, 8⟩
abbrev Fld.HBM_RGN_BASE_BASE (r : Nat) : Field := ⟨(Reg.HBM_RGN_BASE r), 0, 18⟩
abbrev Fld.HBM_RGN_SIZE_SIZE (r : Nat) : Field := ⟨(Reg.HBM_RGN_SIZE r), 0, 19⟩
abbrev Fld.HBM_RGN_OWN_MIRROR (r : Nat) : Field := ⟨(Reg.HBM_RGN_OWN r), 13, 1⟩
abbrev Fld.HBM_RGN_OWN_EN (r : Nat) : Field := ⟨(Reg.HBM_RGN_OWN r), 12, 1⟩
abbrev Fld.HBM_RGN_OWN_KIND (r : Nat) : Field := ⟨(Reg.HBM_RGN_OWN r), 8, 4⟩
abbrev Fld.HBM_RGN_OWN_OWNER (r : Nat) : Field := ⟨(Reg.HBM_RGN_OWN r), 0, 8⟩
abbrev Fld.HBM_RGN_CFG_MGTACC (r : Nat) : Field := ⟨(Reg.HBM_RGN_CFG r), 10, 2⟩
abbrev Fld.HBM_RGN_CFG_PRIO (r : Nat) : Field := ⟨(Reg.HBM_RGN_CFG r), 8, 2⟩
abbrev Fld.HBM_RGN_CFG_QUOTA (r : Nat) : Field := ⟨(Reg.HBM_RGN_CFG r), 0, 8⟩
abbrev Fld.HBM_RGN_STAT_OVER_QUOTA (r : Nat) : Field := ⟨(Reg.HBM_RGN_STAT r), 8, 1⟩
abbrev Fld.HBM_RGN_STAT_OUTST (r : Nat) : Field := ⟨(Reg.HBM_RGN_STAT r), 0, 8⟩
abbrev Fld.TU_STATUS_DENIED : Field := ⟨Reg.TU_STATUS, 10, 1⟩
abbrev Fld.TU_STATUS_CMD_BAD : Field := ⟨Reg.TU_STATUS, 9, 1⟩
abbrev Fld.TU_STATUS_TC_LATE : Field := ⟨Reg.TU_STATUS, 8, 1⟩
abbrev Fld.TU_STATUS_CLAMP : Field := ⟨Reg.TU_STATUS, 7, 1⟩
abbrev Fld.TU_STATUS_STEPPED : Field := ⟨Reg.TU_STATUS, 6, 1⟩
abbrev Fld.TU_STATUS_LOCK_ENT : Field := ⟨Reg.TU_STATUS, 5, 1⟩
abbrev Fld.TU_STATUS_HOLDOVER_ENT : Field := ⟨Reg.TU_STATUS, 4, 1⟩
abbrev Fld.TU_STATUS_STATE : Field := ⟨Reg.TU_STATUS, 0, 2⟩
abbrev Fld.TU_CMD_CMD : Field := ⟨Reg.TU_CMD, 0, 4⟩
abbrev Fld.TU_PNOM_HI_P : Field := ⟨Reg.TU_PNOM_HI, 0, 16⟩
abbrev Fld.TU_TICK_US : Field := ⟨Reg.TU_TICK, 0, 10⟩
abbrev Fld.TU_REFPH_VALID : Field := ⟨Reg.TU_REFPH, 31, 1⟩
abbrev Fld.TU_REFPH_PHASE : Field := ⟨Reg.TU_REFPH, 0, 8⟩
abbrev Fld.TU_SRV_CFG_TMO_MS : Field := ⟨Reg.TU_SRV_CFG, 17, 15⟩
abbrev Fld.TU_SRV_CFG_KI_S : Field := ⟨Reg.TU_SRV_CFG, 11, 6⟩
abbrev Fld.TU_SRV_CFG_KP_S : Field := ⟨Reg.TU_SRV_CFG, 5, 6⟩
abbrev Fld.TU_SRV_CFG_LOCK_N : Field := ⟨Reg.TU_SRV_CFG, 1, 4⟩
abbrev Fld.TU_SRV_CFG_EN : Field := ⟨Reg.TU_SRV_CFG, 0, 1⟩
abbrev Fld.TU_SRV_GAIN_KP : Field := ⟨Reg.TU_SRV_GAIN, 0, 16⟩
abbrev Fld.TU_SRV_GAIN_KI : Field := ⟨Reg.TU_SRV_GAIN, 16, 16⟩
abbrev Fld.TU_SRV_MAX_MAXADJ : Field := ⟨Reg.TU_SRV_MAX, 0, 31⟩
abbrev Fld.TU_SRV_LOCK_LOCK_NS : Field := ⟨Reg.TU_SRV_LOCK, 0, 24⟩
abbrev Fld.TU_SRV_OFS_HI_E : Field := ⟨Reg.TU_SRV_OFS_HI, 0, 16⟩
abbrev Fld.TU_TP_CFG_STD (p : Nat) : Field := ⟨(Reg.TU_TP_CFG p), 0, 2⟩
abbrev Fld.TU_TC_CFG_PIN (n : Nat) : Field := ⟨(Reg.TU_TC_CFG n), 8, 8⟩
abbrev Fld.TU_TC_CFG_WAKE_EN (n : Nat) : Field := ⟨(Reg.TU_TC_CFG n), 3, 1⟩
abbrev Fld.TU_TC_CFG_PIN_EN (n : Nat) : Field := ⟨(Reg.TU_TC_CFG n), 2, 1⟩
abbrev Fld.TU_TC_CFG_PERIODIC (n : Nat) : Field := ⟨(Reg.TU_TC_CFG n), 1, 1⟩
abbrev Fld.TU_TC_CFG_MODE (n : Nat) : Field := ⟨(Reg.TU_TC_CFG n), 0, 1⟩
abbrev Fld.TU_TC_CTRL_LATE (n : Nat) : Field := ⟨(Reg.TU_TC_CTRL n), 4, 1⟩
abbrev Fld.TU_TC_CTRL_FIRED (n : Nat) : Field := ⟨(Reg.TU_TC_CTRL n), 3, 1⟩
abbrev Fld.TU_TC_CTRL_ARMED (n : Nat) : Field := ⟨(Reg.TU_TC_CTRL n), 2, 1⟩
abbrev Fld.TU_TC_CTRL_DISARM (n : Nat) : Field := ⟨(Reg.TU_TC_CTRL n), 1, 1⟩
abbrev Fld.TU_TC_CTRL_ARM (n : Nat) : Field := ⟨(Reg.TU_TC_CTRL n), 0, 1⟩
abbrev Fld.TU_TC_PW_PW (n : Nat) : Field := ⟨(Reg.TU_TC_PW n), 0, 20⟩
abbrev Fld.LDR_STATUS_DENIED : Field := ⟨Reg.LDR_STATUS, 14, 1⟩
abbrev Fld.LDR_STATUS_FALLBACK : Field := ⟨Reg.LDR_STATUS, 13, 1⟩
abbrev Fld.LDR_STATUS_WAIT_TMO : Field := ⟨Reg.LDR_STATUS, 12, 1⟩
abbrev Fld.LDR_STATUS_CMD_BAD : Field := ⟨Reg.LDR_STATUS, 11, 1⟩
abbrev Fld.LDR_STATUS_CMD_REFUSED : Field := ⟨Reg.LDR_STATUS, 10, 1⟩
abbrev Fld.LDR_STATUS_OUT_DONE : Field := ⟨Reg.LDR_STATUS, 9, 1⟩
abbrev Fld.LDR_STATUS_FAIL : Field := ⟨Reg.LDR_STATUS, 8, 1⟩
abbrev Fld.LDR_STATUS_PHASE : Field := ⟨Reg.LDR_STATUS, 0, 4⟩
abbrev Fld.LDR_CMD_INDEX : Field := ⟨Reg.LDR_CMD, 27, 5⟩
abbrev Fld.LDR_CMD_TARGET : Field := ⟨Reg.LDR_CMD, 21, 6⟩
abbrev Fld.LDR_CMD_VS : Field := ⟨Reg.LDR_CMD, 16, 5⟩
abbrev Fld.LDR_CMD_MARK : Field := ⟨Reg.LDR_CMD, 9, 1⟩
abbrev Fld.LDR_CMD_HOLD : Field := ⟨Reg.LDR_CMD, 8, 1⟩
abbrev Fld.LDR_CMD_PAGED : Field := ⟨Reg.LDR_CMD, 7, 1⟩
abbrev Fld.LDR_CMD_AT : Field := ⟨Reg.LDR_CMD, 6, 1⟩
abbrev Fld.LDR_CMD_SRC : Field := ⟨Reg.LDR_CMD, 4, 2⟩
abbrev Fld.LDR_CMD_CMD : Field := ⟨Reg.LDR_CMD, 0, 4⟩
abbrev Fld.LDR_CMD_ARG_MASK : Field := ⟨Reg.LDR_CMD_ARG, 0, 32⟩
abbrev Fld.LDR_CMD_TURN_TURN : Field := ⟨Reg.LDR_CMD_TURN, 0, 32⟩
abbrev Fld.LDR_CMD_STAT_PENDING : Field := ⟨Reg.LDR_CMD_STAT, 8, 1⟩
abbrev Fld.LDR_CMD_STAT_CODE : Field := ⟨Reg.LDR_CMD_STAT, 0, 6⟩
abbrev Fld.LDR_FAIL_CODE : Field := ⟨Reg.LDR_FAIL, 8, 6⟩
abbrev Fld.LDR_FAIL_PHASE : Field := ⟨Reg.LDR_FAIL, 0, 4⟩
abbrev Fld.LDR_BAD_LO_BAD : Field := ⟨Reg.LDR_BAD_LO, 0, 32⟩
abbrev Fld.LDR_BAD_HI_BAD : Field := ⟨Reg.LDR_BAD_HI, 0, 2⟩
abbrev Fld.LDR_PR_STAT_VS : Field := ⟨Reg.LDR_PR_STAT, 12, 5⟩
abbrev Fld.LDR_PR_STAT_CAUSE : Field := ⟨Reg.LDR_PR_STAT, 9, 3⟩
abbrev Fld.LDR_PR_STAT_HALTED : Field := ⟨Reg.LDR_PR_STAT, 8, 1⟩
abbrev Fld.LDR_PR_STAT_DEFERRED : Field := ⟨Reg.LDR_PR_STAT, 6, 1⟩
abbrev Fld.LDR_PR_STAT_REGION_FAULT : Field := ⟨Reg.LDR_PR_STAT, 5, 1⟩
abbrev Fld.LDR_PR_STAT_DONE : Field := ⟨Reg.LDR_PR_STAT, 4, 1⟩
abbrev Fld.LDR_PR_STAT_REPAIR : Field := ⟨Reg.LDR_PR_STAT, 2, 1⟩
abbrev Fld.LDR_PR_STAT_PAGED : Field := ⟨Reg.LDR_PR_STAT, 1, 1⟩
abbrev Fld.LDR_PR_STAT_BUSY : Field := ⟨Reg.LDR_PR_STAT, 0, 1⟩
abbrev Fld.LDR_PR_MASK_MASK : Field := ⟨Reg.LDR_PR_MASK, 0, 32⟩
abbrev Fld.LDR_IMG_SRC_INDEX : Field := ⟨Reg.LDR_IMG_SRC, 4, 5⟩
abbrev Fld.LDR_IMG_SRC_FALLBACK : Field := ⟨Reg.LDR_IMG_SRC, 3, 1⟩
abbrev Fld.LDR_IMG_SRC_SLOT : Field := ⟨Reg.LDR_IMG_SRC, 2, 1⟩
abbrev Fld.LDR_IMG_SRC_SRC : Field := ⟨Reg.LDR_IMG_SRC, 0, 2⟩
abbrev Fld.LDR_XSPI_ROLE : Field := ⟨Reg.LDR_XSPI, 14, 2⟩
abbrev Fld.LDR_XSPI_DUMMY : Field := ⟨Reg.LDR_XSPI, 8, 6⟩
abbrev Fld.LDR_XSPI_XDIV : Field := ⟨Reg.LDR_XSPI, 4, 2⟩
abbrev Fld.LDR_XSPI_OCTAL : Field := ⟨Reg.LDR_XSPI, 3, 1⟩
abbrev Fld.LDR_XSPI_STRIPE : Field := ⟨Reg.LDR_XSPI, 2, 1⟩
abbrev Fld.LDR_XSPI_PORT1 : Field := ⟨Reg.LDR_XSPI, 1, 1⟩
abbrev Fld.LDR_XSPI_PORT0 : Field := ⟨Reg.LDR_XSPI, 0, 1⟩
abbrev Fld.LDR_FIFO_FREE_FREE : Field := ⟨Reg.LDR_FIFO_FREE, 0, 17⟩
abbrev Fld.SEC_STATUS_FAIL_STEP : Field := ⟨Reg.SEC_STATUS, 8, 3⟩
abbrev Fld.SEC_STATUS_OPEN : Field := ⟨Reg.SEC_STATUS, 6, 1⟩
abbrev Fld.SEC_STATUS_BUSY : Field := ⟨Reg.SEC_STATUS, 5, 1⟩
abbrev Fld.SEC_STATUS_FUSED : Field := ⟨Reg.SEC_STATUS, 4, 1⟩
abbrev Fld.SEC_STATUS_CMD_REFUSED : Field := ⟨Reg.SEC_STATUS, 3, 1⟩
abbrev Fld.SEC_STATUS_ROLLBACK : Field := ⟨Reg.SEC_STATUS, 1, 1⟩
abbrev Fld.SEC_STATUS_SIG_FAIL : Field := ⟨Reg.SEC_STATUS, 0, 1⟩
abbrev Fld.SEC_CMD_CMD : Field := ⟨Reg.SEC_CMD, 0, 4⟩
abbrev Fld.SEC_CMD_ARG_N : Field := ⟨Reg.SEC_CMD_ARG, 13, 7⟩
abbrev Fld.SEC_CMD_ARG_MR : Field := ⟨Reg.SEC_CMD_ARG, 12, 1⟩
abbrev Fld.SEC_CMD_ARG_USE : Field := ⟨Reg.SEC_CMD_ARG, 10, 2⟩
abbrev Fld.SEC_CMD_ARG_SLOT : Field := ⟨Reg.SEC_CMD_ARG, 8, 2⟩
abbrev Fld.SEC_CMD_ARG_INDEX : Field := ⟨Reg.SEC_CMD_ARG, 0, 5⟩
abbrev Fld.SEC_CMD_STAT_PENDING : Field := ⟨Reg.SEC_CMD_STAT, 8, 1⟩
abbrev Fld.SEC_CMD_STAT_CODE : Field := ⟨Reg.SEC_CMD_STAT, 0, 6⟩
abbrev Fld.SEC_THERM_N : Field := ⟨Reg.SEC_THERM, 0, 7⟩
abbrev Fld.CNS_CTRL_LOCK : Field := ⟨Reg.CNS_CTRL, 4, 1⟩
abbrev Fld.CNS_CTRL_INJ_EN : Field := ⟨Reg.CNS_CTRL, 3, 1⟩
abbrev Fld.CNS_CTRL_ESS_ACT : Field := ⟨Reg.CNS_CTRL, 2, 1⟩
abbrev Fld.CNS_CTRL_COMPARE : Field := ⟨Reg.CNS_CTRL, 1, 1⟩
abbrev Fld.CNS_CTRL_EN : Field := ⟨Reg.CNS_CTRL, 0, 1⟩
abbrev Fld.CNS_STATUS_RUN : Field := ⟨Reg.CNS_STATUS, 16, 1⟩
abbrev Fld.CNS_STATUS_REFUSED : Field := ⟨Reg.CNS_STATUS, 9, 1⟩
abbrev Fld.CNS_STATUS_PASS_DONE : Field := ⟨Reg.CNS_STATUS, 8, 1⟩
abbrev Fld.CNS_STATUS_REC_OVF : Field := ⟨Reg.CNS_STATUS, 7, 1⟩
abbrev Fld.CNS_STATUS_HBM_FAIL : Field := ⟨Reg.CNS_STATUS, 6, 1⟩
abbrev Fld.CNS_STATUS_RESTART : Field := ⟨Reg.CNS_STATUS, 5, 1⟩
abbrev Fld.CNS_STATUS_SELF : Field := ⟨Reg.CNS_STATUS, 4, 1⟩
abbrev Fld.CNS_STATUS_RECUR : Field := ⟨Reg.CNS_STATUS, 3, 1⟩
abbrev Fld.CNS_STATUS_UNC : Field := ⟨Reg.CNS_STATUS, 2, 1⟩
abbrev Fld.CNS_STATUS_BEN : Field := ⟨Reg.CNS_STATUS, 1, 1⟩
abbrev Fld.CNS_STATUS_ESS : Field := ⟨Reg.CNS_STATUS, 0, 1⟩
abbrev Fld.CNS_CFG_RECUR_N : Field := ⟨Reg.CNS_CFG, 16, 4⟩
abbrev Fld.CNS_CFG_RATE : Field := ⟨Reg.CNS_CFG, 0, 7⟩
abbrev Fld.CNS_REC0_VALID : Field := ⟨Reg.CNS_REC0, 31, 1⟩
abbrev Fld.CNS_REC0_INJ : Field := ⟨Reg.CNS_REC0, 30, 1⟩
abbrev Fld.CNS_REC0_RESTORED : Field := ⟨Reg.CNS_REC0, 29, 1⟩
abbrev Fld.CNS_REC0_HBM_FAIL : Field := ⟨Reg.CNS_REC0, 28, 1⟩
abbrev Fld.CNS_REC0_CLASS : Field := ⟨Reg.CNS_REC0, 27, 1⟩
abbrev Fld.CNS_REC0_UNC : Field := ⟨Reg.CNS_REC0, 26, 1⟩
abbrev Fld.CNS_REC0_TARGET : Field := ⟨Reg.CNS_REC0, 22, 4⟩
abbrev Fld.CNS_REC0_SORUS : Field := ⟨Reg.CNS_REC0, 16, 6⟩
abbrev Fld.CNS_REC0_FROND : Field := ⟨Reg.CNS_REC0, 12, 4⟩
abbrev Fld.CNS_REC0_BP : Field := ⟨Reg.CNS_REC0, 6, 6⟩
abbrev Fld.CNS_REC0_MULTI : Field := ⟨Reg.CNS_REC0, 5, 1⟩
abbrev Fld.CNS_REC1_BIT : Field := ⟨Reg.CNS_REC1, 25, 7⟩
abbrev Fld.CNS_REC1_OFFSET : Field := ⟨Reg.CNS_REC1, 0, 24⟩
abbrev Fld.CNS_RECUR_LOC_SORUS : Field := ⟨Reg.CNS_RECUR_LOC, 0, 6⟩
abbrev Fld.CNS_INJ_SEL_KIND : Field := ⟨Reg.CNS_INJ_SEL, 30, 2⟩
abbrev Fld.CNS_INJ_SEL_SORUS : Field := ⟨Reg.CNS_INJ_SEL, 24, 6⟩
abbrev Fld.CNS_INJ_SEL_FROND : Field := ⟨Reg.CNS_INJ_SEL, 20, 4⟩
abbrev Fld.CNS_INJ_SEL_INDEX : Field := ⟨Reg.CNS_INJ_SEL, 0, 16⟩
abbrev Fld.CNS_INJ_CHK_CHK : Field := ⟨Reg.CNS_INJ_CHK, 0, 8⟩
abbrev Fld.CNS_INJ_STAT_CODE : Field := ⟨Reg.CNS_INJ_STAT, 0, 6⟩
abbrev Fld.LIB_CTRL_LOCK : Field := ⟨Reg.LIB_CTRL, 31, 1⟩
abbrev Fld.LIB_CTRL_DBG_EN : Field := ⟨Reg.LIB_CTRL, 30, 1⟩
abbrev Fld.LIB_CTRL_FW_RELOAD : Field := ⟨Reg.LIB_CTRL, 5, 1⟩
abbrev Fld.LIB_CTRL_QUIET1 : Field := ⟨Reg.LIB_CTRL, 4, 1⟩
abbrev Fld.LIB_CTRL_QUIET0 : Field := ⟨Reg.LIB_CTRL, 3, 1⟩
abbrev Fld.LIB_CTRL_RST1 : Field := ⟨Reg.LIB_CTRL, 2, 1⟩
abbrev Fld.LIB_CTRL_RST0 : Field := ⟨Reg.LIB_CTRL, 1, 1⟩
abbrev Fld.LIB_CTRL_C1_RUN : Field := ⟨Reg.LIB_CTRL, 0, 1⟩
abbrev Fld.LIB_STATUS_LOG_DROP : Field := ⟨Reg.LIB_STATUS, 7, 1⟩
abbrev Fld.LIB_STATUS_REFUSED : Field := ⟨Reg.LIB_STATUS, 6, 1⟩
abbrev Fld.LIB_STATUS_SMB_IN : Field := ⟨Reg.LIB_STATUS, 5, 1⟩
abbrev Fld.LIB_STATUS_WDT1 : Field := ⟨Reg.LIB_STATUS, 4, 1⟩
abbrev Fld.LIB_STATUS_WDT0 : Field := ⟨Reg.LIB_STATUS, 3, 1⟩
abbrev Fld.LIB_STATUS_SRAM_UNC : Field := ⟨Reg.LIB_STATUS, 2, 1⟩
abbrev Fld.LIB_STATUS_SNS_ALM : Field := ⟨Reg.LIB_STATUS, 1, 1⟩
abbrev Fld.LIB_RST_CAUSE_C1 : Field := ⟨Reg.LIB_RST_CAUSE, 4, 3⟩
abbrev Fld.LIB_RST_CAUSE_C0 : Field := ⟨Reg.LIB_RST_CAUSE, 0, 3⟩
abbrev Fld.LIB_BERR_VALID (k : Nat) : Field := ⟨(Reg.LIB_BERR k), 31, 1⟩
abbrev Fld.LIB_BERR_WRITE (k : Nat) : Field := ⟨(Reg.LIB_BERR k), 8, 1⟩
abbrev Fld.LIB_BERR_CODE (k : Nat) : Field := ⟨(Reg.LIB_BERR k), 0, 6⟩
abbrev Fld.LIB_WDT_ACT (k : Nat) : Field := ⟨(Reg.LIB_WDT k), 31, 1⟩
abbrev Fld.LIB_WDT_US (k : Nat) : Field := ⟨(Reg.LIB_WDT k), 0, 24⟩
abbrev Fld.LIB_HBMWIN_BASE (k : Nat) : Field := ⟨(Reg.LIB_HBMWIN k), 0, 4⟩
abbrev Fld.LIB_FL_CTRL_GO : Field := ⟨Reg.LIB_FL_CTRL, 31, 1⟩
abbrev Fld.LIB_FL_CTRL_KIND : Field := ⟨Reg.LIB_FL_CTRL, 29, 2⟩
abbrev Fld.LIB_FL_CTRL_ERSZ : Field := ⟨Reg.LIB_FL_CTRL, 28, 1⟩
abbrev Fld.LIB_FL_CTRL_PROTO : Field := ⟨Reg.LIB_FL_CTRL, 27, 1⟩
abbrev Fld.LIB_FL_CTRL_PORT : Field := ⟨Reg.LIB_FL_CTRL, 26, 1⟩
abbrev Fld.LIB_FL_CTRL_DUMMY : Field := ⟨Reg.LIB_FL_CTRL, 21, 5⟩
abbrev Fld.LIB_FL_CTRL_ADDR_EN : Field := ⟨Reg.LIB_FL_CTRL, 20, 1⟩
abbrev Fld.LIB_FL_CTRL_LEN : Field := ⟨Reg.LIB_FL_CTRL, 8, 9⟩
abbrev Fld.LIB_FL_CTRL_OPCODE : Field := ⟨Reg.LIB_FL_CTRL, 0, 8⟩
abbrev Fld.LIB_FL_ADDR_ADDR : Field := ⟨Reg.LIB_FL_ADDR, 0, 32⟩
abbrev Fld.LIB_FL_STAT_WAITING : Field := ⟨Reg.LIB_FL_STAT, 8, 1⟩
abbrev Fld.LIB_FL_STAT_CODE : Field := ⟨Reg.LIB_FL_STAT, 0, 6⟩
abbrev Fld.LIB_LOG_CFG_EN : Field := ⟨Reg.LIB_LOG_CFG, 2, 1⟩
abbrev Fld.LIB_LOG_CFG_MINSEV : Field := ⟨Reg.LIB_LOG_CFG, 0, 2⟩
abbrev Fld.LIB_LOG_COMMIT_SEV : Field := ⟨Reg.LIB_LOG_COMMIT, 16, 2⟩
abbrev Fld.LIB_LOG_COMMIT_CODE : Field := ⟨Reg.LIB_LOG_COMMIT, 0, 16⟩
abbrev Fld.LIB_SMB_CFG_ALERT_EN : Field := ⟨Reg.LIB_SMB_CFG, 9, 1⟩
abbrev Fld.LIB_SMB_CFG_PEC : Field := ⟨Reg.LIB_SMB_CFG, 8, 1⟩
abbrev Fld.LIB_SMB_CFG_ADDR : Field := ⟨Reg.LIB_SMB_CFG, 0, 7⟩
abbrev Fld.LIB_SMB_STAT_NACKS : Field := ⟨Reg.LIB_SMB_STAT, 0, 16⟩
abbrev Fld.LIB_TS_VALID (i : Nat) : Field := ⟨(Reg.LIB_TS i), 31, 1⟩
abbrev Fld.LIB_TS_VALUE (i : Nat) : Field := ⟨(Reg.LIB_TS i), 0, 16⟩
abbrev Fld.LIB_VM_VALID (j : Nat) : Field := ⟨(Reg.LIB_VM j), 31, 1⟩
abbrev Fld.LIB_VM_VALUE (j : Nat) : Field := ⟨(Reg.LIB_VM j), 0, 16⟩
abbrev Fld.LIB_CM_VALID (k : Nat) : Field := ⟨(Reg.LIB_CM k), 31, 1⟩
abbrev Fld.LIB_CM_VALUE (k : Nat) : Field := ⟨(Reg.LIB_CM k), 0, 16⟩
abbrev Fld.LIB_TS_HI_VALUE (i : Nat) : Field := ⟨(Reg.LIB_TS_HI i), 0, 16⟩
abbrev Fld.LIB_VM_WIN_HI (j : Nat) : Field := ⟨(Reg.LIB_VM_WIN j), 16, 16⟩
abbrev Fld.LIB_VM_WIN_LO (j : Nat) : Field := ⟨(Reg.LIB_VM_WIN j), 0, 16⟩
abbrev Fld.LIB_CM_HI_VALUE (k : Nat) : Field := ⟨(Reg.LIB_CM_HI k), 0, 16⟩
abbrev Fld.DSP_CMD_DMODE : Field := ⟨Reg.DSP_CMD, 17, 1⟩
abbrev Fld.DSP_CMD_CONSUME : Field := ⟨Reg.DSP_CMD, 16, 1⟩
abbrev Fld.DSP_CMD_MODE : Field := ⟨Reg.DSP_CMD, 15, 1⟩
abbrev Fld.DSP_CMD_PRIO : Field := ⟨Reg.DSP_CMD, 11, 4⟩
abbrev Fld.DSP_CMD_CORE : Field := ⟨Reg.DSP_CMD, 10, 1⟩
abbrev Fld.DSP_CMD_TASK : Field := ⟨Reg.DSP_CMD, 4, 6⟩
abbrev Fld.DSP_CMD_OP : Field := ⟨Reg.DSP_CMD, 0, 4⟩
abbrev Fld.DSP_STAT_CODE : Field := ⟨Reg.DSP_STAT, 0, 6⟩
abbrev Fld.DSP_NEXT_VALID : Field := ⟨Reg.DSP_NEXT, 31, 1⟩
abbrev Fld.DSP_NEXT_SAME : Field := ⟨Reg.DSP_NEXT, 30, 1⟩
abbrev Fld.DSP_NEXT_EXPIRED : Field := ⟨Reg.DSP_NEXT, 29, 1⟩
abbrev Fld.DSP_NEXT_RESUMED : Field := ⟨Reg.DSP_NEXT, 28, 1⟩
abbrev Fld.DSP_NEXT_TASK : Field := ⟨Reg.DSP_NEXT, 0, 6⟩
abbrev Fld.DSP_NEXT_FLAGS_FLAGS : Field := ⟨Reg.DSP_NEXT_FLAGS, 0, 32⟩
abbrev Fld.CRL_CTRL_LOCK : Field := ⟨Reg.CRL_CTRL, 0, 1⟩
abbrev Fld.CRL_TMO_US : Field := ⟨Reg.CRL_TMO, 0, 24⟩
abbrev Fld.CRL_BIND_MID_B (c : Nat) : Field := ⟨(Reg.CRL_BIND c), 8, 8⟩
abbrev Fld.CRL_BIND_MID_A (c : Nat) : Field := ⟨(Reg.CRL_BIND c), 0, 8⟩
abbrev Fld.CRL_NOTIFY_EN (c e : Nat) : Field := ⟨(Reg.CRL_NOTIFY c e), 31, 1⟩
abbrev Fld.CRL_NOTIFY_WAKE (c e : Nat) : Field := ⟨(Reg.CRL_NOTIFY c e), 30, 1⟩
abbrev Fld.CRL_NOTIFY_TASK (c e : Nat) : Field := ⟨(Reg.CRL_NOTIFY c e), 16, 6⟩
abbrev Fld.CRL_NOTIFY_ACKFLAG (c e : Nat) : Field := ⟨(Reg.CRL_NOTIFY c e), 8, 5⟩
abbrev Fld.CRL_NOTIFY_RXFLAG (c e : Nat) : Field := ⟨(Reg.CRL_NOTIFY c e), 0, 5⟩
abbrev Fld.CRL_STAT_DENIED (c : Nat) : Field := ⟨(Reg.CRL_STAT c), 16, 1⟩
abbrev Fld.CRL_STAT_WDRAWN_B (c : Nat) : Field := ⟨(Reg.CRL_STAT c), 13, 1⟩
abbrev Fld.CRL_STAT_FULL_B (c : Nat) : Field := ⟨(Reg.CRL_STAT c), 12, 1⟩
abbrev Fld.CRL_STAT_DISCARD_B (c : Nat) : Field := ⟨(Reg.CRL_STAT c), 11, 1⟩
abbrev Fld.CRL_STAT_TMO_B (c : Nat) : Field := ⟨(Reg.CRL_STAT c), 10, 1⟩
abbrev Fld.CRL_STAT_ACKDB_B (c : Nat) : Field := ⟨(Reg.CRL_STAT c), 9, 1⟩
abbrev Fld.CRL_STAT_RXDB_B (c : Nat) : Field := ⟨(Reg.CRL_STAT c), 8, 1⟩
abbrev Fld.CRL_STAT_WDRAWN_A (c : Nat) : Field := ⟨(Reg.CRL_STAT c), 5, 1⟩
abbrev Fld.CRL_STAT_FULL_A (c : Nat) : Field := ⟨(Reg.CRL_STAT c), 4, 1⟩
abbrev Fld.CRL_STAT_DISCARD_A (c : Nat) : Field := ⟨(Reg.CRL_STAT c), 3, 1⟩
abbrev Fld.CRL_STAT_TMO_A (c : Nat) : Field := ⟨(Reg.CRL_STAT c), 2, 1⟩
abbrev Fld.CRL_STAT_ACKDB_A (c : Nat) : Field := ⟨(Reg.CRL_STAT c), 1, 1⟩
abbrev Fld.CRL_STAT_RXDB_A (c : Nat) : Field := ⟨(Reg.CRL_STAT c), 0, 1⟩
abbrev Fld.EVT_TOP_VALID (k : Nat) : Field := ⟨(Reg.EVT_TOP k), 31, 1⟩
abbrev Fld.EVT_TOP_SEV (k : Nat) : Field := ⟨(Reg.EVT_TOP k), 16, 2⟩
abbrev Fld.EVT_TOP_EVENT (k : Nat) : Field := ⟨(Reg.EVT_TOP k), 0, 9⟩
abbrev Fld.EVT_ROUTE_FLAG (n : Nat) : Field := ⟨(Reg.EVT_ROUTE n), 22, 5⟩
abbrev Fld.EVT_ROUTE_TASK (n : Nat) : Field := ⟨(Reg.EVT_ROUTE n), 16, 6⟩
abbrev Fld.EVT_ROUTE_DSP (n : Nat) : Field := ⟨(Reg.EVT_ROUTE n), 15, 1⟩
abbrev Fld.EVT_ROUTE_VEC (n : Nat) : Field := ⟨(Reg.EVT_ROUTE n), 8, 6⟩
abbrev Fld.EVT_ROUTE_PIN (n : Nat) : Field := ⟨(Reg.EVT_ROUTE n), 4, 1⟩
abbrev Fld.EVT_ROUTE_TWIN (n : Nat) : Field := ⟨(Reg.EVT_ROUTE n), 3, 1⟩
abbrev Fld.EVT_ROUTE_MSIX (n : Nat) : Field := ⟨(Reg.EVT_ROUTE n), 2, 1⟩
abbrev Fld.EVT_ROUTE_C1 (n : Nat) : Field := ⟨(Reg.EVT_ROUTE n), 1, 1⟩
abbrev Fld.EVT_ROUTE_C0 (n : Nat) : Field := ⟨(Reg.EVT_ROUTE n), 0, 1⟩
abbrev Fld.PWR_STATUS_REWAKE : Field := ⟨Reg.PWR_STATUS, 15, 1⟩
abbrev Fld.PWR_STATUS_WAKE : Field := ⟨Reg.PWR_STATUS, 14, 1⟩
abbrev Fld.PWR_STATUS_VTMO : Field := ⟨Reg.PWR_STATUS, 13, 1⟩
abbrev Fld.PWR_STATUS_WAKE_FAIL : Field := ⟨Reg.PWR_STATUS, 12, 1⟩
abbrev Fld.PWR_STATUS_REFUSED : Field := ⟨Reg.PWR_STATUS, 11, 1⟩
abbrev Fld.PWR_STATUS_TTRIP : Field := ⟨Reg.PWR_STATUS, 10, 1⟩
abbrev Fld.PWR_STATUS_TSHUT : Field := ⟨Reg.PWR_STATUS, 9, 1⟩
abbrev Fld.PWR_STATUS_TALARM : Field := ⟨Reg.PWR_STATUS, 8, 1⟩
abbrev Fld.PWR_STATUS_THROTTLING : Field := ⟨Reg.PWR_STATUS, 7, 1⟩
abbrev Fld.PWR_STATUS_LEVEL_BUSY : Field := ⟨Reg.PWR_STATUS, 6, 1⟩
abbrev Fld.PWR_STATUS_LEVEL : Field := ⟨Reg.PWR_STATUS, 4, 2⟩
abbrev Fld.PWR_STATUS_STATE : Field := ⟨Reg.PWR_STATUS, 0, 3⟩
abbrev Fld.PWR_CMD_STATE : Field := ⟨Reg.PWR_CMD, 0, 3⟩
abbrev Fld.PWR_CMD_STAT_PENDING : Field := ⟨Reg.PWR_CMD_STAT, 11, 1⟩
abbrev Fld.PWR_CMD_STAT_CAUSE : Field := ⟨Reg.PWR_CMD_STAT, 8, 3⟩
abbrev Fld.PWR_CMD_STAT_CODE : Field := ⟨Reg.PWR_CMD_STAT, 0, 6⟩
abbrev Fld.PWR_WAKE_FROM : Field := ⟨Reg.PWR_WAKE, 24, 3⟩
abbrev Fld.PWR_WAKE_SRC : Field := ⟨Reg.PWR_WAKE, 16, 5⟩
abbrev Fld.PWR_WAKE_IDX : Field := ⟨Reg.PWR_WAKE, 0, 9⟩
abbrev Fld.PWR_WAKE_EN_RING : Field := ⟨Reg.PWR_WAKE_EN, 4, 1⟩
abbrev Fld.PWR_WAKE_EN_DISPATCH : Field := ⟨Reg.PWR_WAKE_EN, 3, 1⟩
abbrev Fld.PWR_WAKE_EN_EVENT : Field := ⟨Reg.PWR_WAKE_EN, 2, 1⟩
abbrev Fld.PWR_WAKE_EN_CARREL : Field := ⟨Reg.PWR_WAKE_EN, 1, 1⟩
abbrev Fld.PWR_WAKE_EN_TC : Field := ⟨Reg.PWR_WAKE_EN, 0, 1⟩
abbrev Fld.PWR_HOLD_TMO_US : Field := ⟨Reg.PWR_HOLD_TMO, 0, 24⟩
abbrev Fld.PWR_THROT_EN : Field := ⟨Reg.PWR_THROT, 31, 1⟩
abbrev Fld.PWR_THROT_US : Field := ⟨Reg.PWR_THROT, 8, 16⟩
abbrev Fld.PWR_THROT_TEMP : Field := ⟨Reg.PWR_THROT, 0, 8⟩
abbrev Fld.PWR_TMAX_SENSOR : Field := ⟨Reg.PWR_TMAX, 16, 8⟩
abbrev Fld.PWR_TMAX_VALUE : Field := ⟨Reg.PWR_TMAX, 0, 16⟩
abbrev Fld.PWR_VSETTLE_US : Field := ⟨Reg.PWR_VSETTLE, 0, 16⟩
abbrev Fld.PWR_DCTL_LOCKOFF (d : Nat) : Field := ⟨(Reg.PWR_DCTL d), 1, 1⟩
abbrev Fld.PWR_DCTL_REQ (d : Nat) : Field := ⟨(Reg.PWR_DCTL d), 0, 1⟩
abbrev Fld.PWR_DSTAT_WAKE_IDX (d : Nat) : Field := ⟨(Reg.PWR_DSTAT d), 16, 9⟩
abbrev Fld.PWR_DSTAT_WAKE_SRC (d : Nat) : Field := ⟨(Reg.PWR_DSTAT d), 8, 5⟩
abbrev Fld.PWR_DSTAT_REWAKE (d : Nat) : Field := ⟨(Reg.PWR_DSTAT d), 5, 1⟩
abbrev Fld.PWR_DSTAT_HELD (d : Nat) : Field := ⟨(Reg.PWR_DSTAT d), 4, 1⟩
abbrev Fld.PWR_DSTAT_HOLD (d : Nat) : Field := ⟨(Reg.PWR_DSTAT d), 3, 1⟩
abbrev Fld.PWR_DSTAT_STATE (d : Nat) : Field := ⟨(Reg.PWR_DSTAT d), 0, 3⟩
abbrev Fld.TWN_CFG_MATCH_N : Field := ⟨Reg.TWN_CFG, 24, 8⟩
abbrev Fld.TWN_CFG_HB_WAIT : Field := ⟨Reg.TWN_CFG, 6, 6⟩
abbrev Fld.TWN_CFG_NOUT : Field := ⟨Reg.TWN_CFG, 2, 1⟩
abbrev Fld.TWN_CFG_LS_START : Field := ⟨Reg.TWN_CFG, 1, 1⟩
abbrev Fld.TWN_CFG_EN : Field := ⟨Reg.TWN_CFG, 0, 1⟩
abbrev Fld.TWN_STATUS_SENDING : Field := ⟨Reg.TWN_STATUS, 17, 1⟩
abbrev Fld.TWN_STATUS_OWN : Field := ⟨Reg.TWN_STATUS, 16, 1⟩
abbrev Fld.TWN_STATUS_PAIRED : Field := ⟨Reg.TWN_STATUS, 15, 1⟩
abbrev Fld.TWN_STATUS_MODE : Field := ⟨Reg.TWN_STATUS, 12, 2⟩
abbrev Fld.TWN_STATUS_CMD_REFUSED : Field := ⟨Reg.TWN_STATUS, 10, 1⟩
abbrev Fld.TWN_STATUS_HB_LATE : Field := ⟨Reg.TWN_STATUS, 9, 1⟩
abbrev Fld.TWN_STATUS_RS_FAIL : Field := ⟨Reg.TWN_STATUS, 8, 1⟩
abbrev Fld.TWN_STATUS_NOTICE : Field := ⟨Reg.TWN_STATUS, 7, 1⟩
abbrev Fld.TWN_STATUS_LS_ENT : Field := ⟨Reg.TWN_STATUS, 6, 1⟩
abbrev Fld.TWN_STATUS_OWN_CHG : Field := ⟨Reg.TWN_STATUS, 5, 1⟩
abbrev Fld.TWN_STATUS_HB_LOSS : Field := ⟨Reg.TWN_STATUS, 4, 1⟩
abbrev Fld.TWN_STATUS_DIVERGE : Field := ⟨Reg.TWN_STATUS, 3, 1⟩
abbrev Fld.TWN_STATUS_LOST : Field := ⟨Reg.TWN_STATUS, 2, 1⟩
abbrev Fld.TWN_STATUS_PAIR_REF : Field := ⟨Reg.TWN_STATUS, 1, 1⟩
abbrev Fld.TWN_STATUS_PAIR_UP : Field := ⟨Reg.TWN_STATUS, 0, 1⟩
abbrev Fld.TWN_CMD_CMD : Field := ⟨Reg.TWN_CMD, 0, 4⟩
abbrev Fld.TWN_CMD_STAT_PENDING : Field := ⟨Reg.TWN_CMD_STAT, 8, 1⟩
abbrev Fld.TWN_CMD_STAT_CODE : Field := ⟨Reg.TWN_CMD_STAT, 0, 6⟩
abbrev Fld.TWN_LAG_VALID : Field := ⟨Reg.TWN_LAG, 31, 1⟩
abbrev Fld.TWN_LAG_MAX : Field := ⟨Reg.TWN_LAG, 16, 6⟩
abbrev Fld.TWN_LAG_LAT : Field := ⟨Reg.TWN_LAG, 0, 16⟩
abbrev Fld.TWN_MATCH_WAIT_TURNS : Field := ⟨Reg.TWN_MATCH_WAIT, 0, 24⟩
abbrev Fld.TWN_PAIR_INFO_CAUSE : Field := ⟨Reg.TWN_PAIR_INFO, 16, 3⟩
abbrev Fld.TWN_PAIR_INFO_P_STEP : Field := ⟨Reg.TWN_PAIR_INFO, 8, 8⟩
abbrev Fld.TWN_PAIR_INFO_P_OWN : Field := ⟨Reg.TWN_PAIR_INFO, 4, 1⟩
abbrev Fld.TWN_PAIR_INFO_P_MODE : Field := ⟨Reg.TWN_PAIR_INFO, 2, 2⟩
abbrev Fld.TWN_PAIR_INFO_P_ROLE : Field := ⟨Reg.TWN_PAIR_INFO, 1, 1⟩
abbrev Fld.TWN_PAIR_INFO_VALID : Field := ⟨Reg.TWN_PAIR_INFO, 0, 1⟩
abbrev Fld.TWN_RS_STAT_CAUSE : Field := ⟨Reg.TWN_RS_STAT, 8, 3⟩
abbrev Fld.TWN_RS_STAT_PHASE : Field := ⟨Reg.TWN_RS_STAT, 0, 3⟩
abbrev Fld.TWN_LOG_LEVEL_BYTES : Field := ⟨Reg.TWN_LOG_LEVEL, 0, 21⟩
abbrev Fld.TWN_NOTICE_VALID : Field := ⟨Reg.TWN_NOTICE, 31, 1⟩
abbrev Fld.TWN_NOTICE_SEV : Field := ⟨Reg.TWN_NOTICE, 16, 2⟩
abbrev Fld.TWN_NOTICE_EVENT : Field := ⟨Reg.TWN_NOTICE, 0, 9⟩
abbrev Fld.TWN_RACC_CTRL_GO : Field := ⟨Reg.TWN_RACC_CTRL, 31, 1⟩
abbrev Fld.TWN_RACC_CTRL_WRITE : Field := ⟨Reg.TWN_RACC_CTRL, 30, 1⟩
abbrev Fld.TWN_RACC_CTRL_CODE : Field := ⟨Reg.TWN_RACC_CTRL, 0, 6⟩
abbrev Fld.HST_STATUS_WIDTH : Field := ⟨Reg.HST_STATUS, 12, 4⟩
abbrev Fld.HST_STATUS_SPEED : Field := ⟨Reg.HST_STATUS, 9, 3⟩
abbrev Fld.HST_STATUS_LINK_UP : Field := ⟨Reg.HST_STATUS, 8, 1⟩
abbrev Fld.HST_STATUS_HRESET : Field := ⟨Reg.HST_STATUS, 3, 1⟩
abbrev Fld.HST_STATUS_LINK_DOWN : Field := ⟨Reg.HST_STATUS, 2, 1⟩
abbrev Fld.HST_STATUS_MALFORMED : Field := ⟨Reg.HST_STATUS, 1, 1⟩
abbrev Fld.HST_STATUS_WERR : Field := ⟨Reg.HST_STATUS, 0, 1⟩
abbrev Fld.HST_WERR_VALID : Field := ⟨Reg.HST_WERR, 31, 1⟩
abbrev Fld.HST_WERR_CODE : Field := ⟨Reg.HST_WERR, 0, 6⟩
abbrev Fld.HST_WERR_ADDR_HI_BAR : Field := ⟨Reg.HST_WERR_ADDR_HI, 28, 3⟩
abbrev Fld.HST_WERR_ADDR_HI_HI : Field := ⟨Reg.HST_WERR_ADDR_HI, 0, 2⟩
abbrev Fld.LRG_CTRL_ENUM : Field := ⟨Reg.LRG_CTRL, 0, 1⟩
abbrev Fld.LRG_STATUS_DENIED : Field := ⟨Reg.LRG_STATUS, 21, 1⟩
abbrev Fld.LRG_STATUS_ENUM_FAIL : Field := ⟨Reg.LRG_STATUS, 20, 1⟩
abbrev Fld.LRG_STATUS_CONFLICT : Field := ⟨Reg.LRG_STATUS, 19, 1⟩
abbrev Fld.LRG_STATUS_RTMO : Field := ⟨Reg.LRG_STATUS, 18, 1⟩
abbrev Fld.LRG_STATUS_ENUM_DONE : Field := ⟨Reg.LRG_STATUS, 17, 1⟩
abbrev Fld.LRG_STATUS_CRC : Field := ⟨Reg.LRG_STATUS, 16, 1⟩
abbrev Fld.LRG_STATUS_COUNT : Field := ⟨Reg.LRG_STATUS, 8, 6⟩
abbrev Fld.LRG_STATUS_ENUMERATED : Field := ⟨Reg.LRG_STATUS, 7, 1⟩
abbrev Fld.LRG_STATUS_HEAD : Field := ⟨Reg.LRG_STATUS, 6, 1⟩
abbrev Fld.LRG_STATUS_NUM : Field := ⟨Reg.LRG_STATUS, 0, 6⟩
abbrev Fld.LRG_TMO_US : Field := ⟨Reg.LRG_TMO, 0, 24⟩
abbrev Fld.LRG_EVTQ_VALID : Field := ⟨Reg.LRG_EVTQ, 31, 1⟩
abbrev Fld.LRG_EVTQ_DEV : Field := ⟨Reg.LRG_EVTQ, 24, 6⟩
abbrev Fld.LRG_EVTQ_SEV : Field := ⟨Reg.LRG_EVTQ, 16, 2⟩
abbrev Fld.LRG_EVTQ_EVENT : Field := ⟨Reg.LRG_EVTQ, 0, 9⟩
abbrev Fld.LRG_LOAD_FREE_FREE : Field := ⟨Reg.LRG_LOAD_FREE, 0, 17⟩
abbrev Fld.IOB_PIN_SAFE (b p : Nat) : Field := ⟨(Reg.IOB_PIN b p), 12, 2⟩
abbrev Fld.IOB_PIN_TERM (b p : Nat) : Field := ⟨(Reg.IOB_PIN b p), 11, 1⟩
abbrev Fld.IOB_PIN_PULL (b p : Nat) : Field := ⟨(Reg.IOB_PIN b p), 9, 2⟩
abbrev Fld.IOB_PIN_SLEW (b p : Nat) : Field := ⟨(Reg.IOB_PIN b p), 8, 1⟩
abbrev Fld.IOB_PIN_DRIVE (b p : Nat) : Field := ⟨(Reg.IOB_PIN b p), 6, 2⟩
abbrev Fld.IOB_PIN_DIR (b p : Nat) : Field := ⟨(Reg.IOB_PIN b p), 4, 2⟩
abbrev Fld.IOB_PIN_STD (b p : Nat) : Field := ⟨(Reg.IOB_PIN b p), 0, 3⟩
abbrev Fld.IOB_BANK_VNOM (b : Nat) : Field := ⟨(Reg.IOB_BANK b), 0, 3⟩
abbrev Fld.IOB_STAT_VOK (b : Nat) : Field := ⟨(Reg.IOB_STAT b), 8, 1⟩
abbrev Fld.IOB_STAT_VBAD (b : Nat) : Field := ⟨(Reg.IOB_STAT b), 1, 1⟩
abbrev Fld.IOB_STAT_CFG_BAD (b : Nat) : Field := ⟨(Reg.IOB_STAT b), 0, 1⟩
abbrev Fld.ACQ_CLS_CFG_MEAS (c : Nat) : Field := ⟨(Reg.ACQ_CLS_CFG c), 28, 1⟩
abbrev Fld.ACQ_CLS_CFG_DEST (c : Nat) : Field := ⟨(Reg.ACQ_CLS_CFG c), 24, 4⟩
abbrev Fld.ACQ_CLS_CFG_FMT (c : Nat) : Field := ⟨(Reg.ACQ_CLS_CFG c), 23, 1⟩
abbrev Fld.ACQ_CLS_CFG_ACC_STEP (c : Nat) : Field := ⟨(Reg.ACQ_CLS_CFG c), 13, 10⟩
abbrev Fld.ACQ_CLS_CFG_EDGE (c : Nat) : Field := ⟨(Reg.ACQ_CLS_CFG c), 12, 1⟩
abbrev Fld.ACQ_CLS_CFG_SEL (c : Nat) : Field := ⟨(Reg.ACQ_CLS_CFG c), 4, 8⟩
abbrev Fld.ACQ_CLS_CFG_SRC (c : Nat) : Field := ⟨(Reg.ACQ_CLS_CFG c), 1, 3⟩
abbrev Fld.ACQ_CLS_CFG_EN (c : Nat) : Field := ⟨(Reg.ACQ_CLS_CFG c), 0, 1⟩
abbrev Fld.ACQ_CLS_WIN_POST (c : Nat) : Field := ⟨(Reg.ACQ_CLS_WIN c), 16, 16⟩
abbrev Fld.ACQ_CLS_WIN_PRE (c : Nat) : Field := ⟨(Reg.ACQ_CLS_WIN c), 0, 16⟩
abbrev Fld.ACQ_CLS_MEAS_CTX (c : Nat) : Field := ⟨(Reg.ACQ_CLS_MEAS c), 0, 18⟩
abbrev Fld.ACQ_DEST_ETH (d : Nat) : Field := ⟨(Reg.ACQ_DEST d), 9, 3⟩
abbrev Fld.ACQ_DEST_LANE (d : Nat) : Field := ⟨(Reg.ACQ_DEST d), 2, 7⟩
abbrev Fld.ACQ_DEST_KIND (d : Nat) : Field := ⟨(Reg.ACQ_DEST d), 1, 1⟩
abbrev Fld.ACQ_DEST_EN (d : Nat) : Field := ⟨(Reg.ACQ_DEST d), 0, 1⟩
abbrev Fld.ACQ_PAT_CFG_FREEZE (u : Nat) : Field := ⟨(Reg.ACQ_PAT_CFG u), 2, 1⟩
abbrev Fld.ACQ_PAT_CFG_NE (u : Nat) : Field := ⟨(Reg.ACQ_PAT_CFG u), 1, 1⟩
abbrev Fld.ACQ_PAT_CFG_EN (u : Nat) : Field := ⟨(Reg.ACQ_PAT_CFG u), 0, 1⟩

/-- Rows 0 and on of the register table, in the order of the manual's chapters. -/
def Reg.rows0 : List RegRow := [
  ⟨0x300000, [], 0x0, 0x6, 0x0, 0x0, 0x0, false⟩ /- CLK_CTRL -/,
  ⟨0x300004, [], 0x0, 0x0, 0x14, 0x0, 0x0, false⟩ /- CLK_STATUS -/,
  ⟨0x300008, [], 0x0, 0x0, 0x0, 0x0, 0x0, false⟩ /- CLK_RPLL -/,
  ⟨0x0, [], 0x96402111, 0x0, 0x0, 0x0, 0x0, false⟩ /- DEV_IDENT -/,
  ⟨0x4, [], 0x0, 0x0, 0x0, 0x0, 0x0, false⟩ /- DEV_UID_LO -/,
  ⟨0x8, [], 0x0, 0x0, 0x0, 0x0, 0x0, false⟩ /- DEV_UID_HI -/,
  ⟨0xC, [], 0x0, 0x0, 0x0, 0x0, 0x0, false⟩ /- DEV_STRAPS -/,
  ⟨0x10, [], 0x0, 0xFFFFFFFF, 0x0, 0x0, 0x0, false⟩ /- DEV_SCRATCH -/,
  ⟨0xC000000, [(34, 0x100000)], 0x0, 0x0, 0x0, 0x0, 0x0, false⟩ /- ARR_CTRL -/,
  ⟨0xC000004, [(34, 0x100000)], 0x0, 0x0, 0x8, 0x0, 0x0, false⟩ /- ARR_STATUS -/,
  ⟨0xC000008, [(34, 0x100000)], 0x0, 0x0, 0x30, 0x0, 0x0, false⟩ /- ARR_FLT_CAUSE -/,
  ⟨0xC00000C, [(34, 0x100000)], 0x0, 0x0, 0x0, 0x0, 0x0, false⟩ /- ARR_FLT_LOC -/,
  ⟨0xC000010, [(34, 0x100000)], 0x0, 0x0, 0x0, 0x0, 0x0, false⟩ /- ARR_FLT_TURN -/,
  ⟨0xC000014, [(34, 0x100000)], 0x0, 0x0, 0x0, 0x0, 0x0, false⟩ /- ARR_FLT_DETAIL -/,
  ⟨0xC000018, [(34, 0x100000)], 0x0, 0x0, 0x0, 0x0, 0x0, true⟩ /- ARR_FLT_COUNT -/,
  ⟨0xC00001C, [(34, 0x100000)], 0x0, 0x0, 0x0, 0x0, 0x0, true⟩ /- ARR_ECC_COUNT -/,
  ⟨0xC000020, [(34, 0x100000)], 0x0, 0x0, 0x0, 0x0, 0x0, false⟩ /- ARR_PAGE -/,
  ⟨0xC000024, [(34, 0x100000)], 0x0, 0x0, 0x0, 0x0, 0x0, false⟩ /- ARR_WIN_STAT -/,
  ⟨0xC000100, [(34, 0x100000)], 0x0, 0x800FFFFF, 0x0, 0x0, 0x0, false⟩ /- ARR_IM_ADDR -/,
  ⟨0xC000104, [(34, 0x100000)], 0x0, 0xFFFFFFFF, 0x0, 0x0, 0x0, false⟩ /- ARR_IM_LO -/,
  ⟨0xC000108, [(34, 0x100000)], 0x0, 0xFFFFFFFF, 0x0, 0x0, 0x0, false⟩ /- ARR_IM_HI -/,
  ⟨0xC00010C, [(34, 0x100000)], 0x0, 0x0, 0x0, 0x0, 0x0, false⟩ /- ARR_IM_CHK -/,
  ⟨0xC006000, [(34, 0x100000), (32, 0x4)], 0x0, 0x0, 0x0, 0x0, 0x0, false⟩ /- ARR_BM_CFG -/,
  ⟨0xC000080, [], 0x0, 0x0, 0x0, 0x0, 0x0, false⟩ /- SEQ_CFG -/,
  ⟨0xC000084, [], 0x0, 0x0, 0x0, 0x0, 0x0, false⟩ /- SEQ_CFG1 -/,
  ⟨0xC000088, [], 0x0, 0x0, 0xFC00, 0x0, 0x0, false⟩ /- SEQ_STATUS -/,
  ⟨0xC00008C, [], 0x0, 0x0, 0x0, 0x0, 0x0, false⟩ /- SEQ_TURN_LO -/,
  ⟨0xC000090, [], 0x0, 0x0, 0x0, 0x0, 0x0, false⟩ /- SEQ_TURN_HI -/,
  ⟨0xC000094, [], 0x0, 0x0, 0x0, 0x0, 0x0, false⟩ /- SEQ_CMD -/,
  ⟨0xC000098, [], 0x0, 0xFFFFFFFF, 0x0, 0x0, 0x0, false⟩ /- SEQ_CMD_TURN -/,
  ⟨0xC00009C, [], 0x0, 0x0, 0x0, 0x0, 0x0, false⟩ /- SEQ_CMD_STAT -/,
  ⟨0xC0000A0, [], 0x0, 0x0, 0x1800, 0x0, 0x0, false⟩ /- SEQ_OVR_CAUSE -/,
  ⟨0xC0000A4, [], 0x0, 0x0, 0x0, 0x0, 0x0, false⟩ /- SEQ_OVR_TURN -/,
  ⟨0xC0000A8, [], 0x0, 0x0, 0x0, 0x0, 0x0, true⟩ /- SEQ_OVR_COUNT -/,
  ⟨0xC0000AC, [], 0x3E8, 0xFFFFF, 0x0, 0x0, 0x0, false⟩ /- SEQ_STALL_WARN -/,
  ⟨0xC0000B0, [], 0x2710, 0xFFFFFF, 0x0, 0x0, 0x0, false⟩ /- SEQ_BAR_TMO -/,
  ⟨0xC0000B4, [], 0x0, 0x9F, 0x0, 0x0, 0x0, false⟩ /- SEQ_CAP_CFG -/,
  ⟨0xC0000B8, [], 0x0, 0x0, 0x6, 0x0, 0x0, false⟩ /- SEQ_CAP_STAT -/,
  ⟨0xC0000BC, [], 0x0, 0x0, 0x0, 0x0, 0x0, false⟩ /- SEQ_CAP_TURN -/,
  ⟨0xC0000C0, [], 0x0, 0x0, 0x0, 0x0, 0x0, true⟩ /- SEQ_STALL_CYC -/]

/-- Rows 40 and on of the register table, in the order of the manual's chapters. -/
def Reg.rows1 : List RegRow := [
  ⟨0xC0000E0, [(8, 0x4)], 0x0, 0x0, 0x0, 0x0, 0x0, true⟩ /- SEQ_STALL_CNT -/,
  ⟨0x2000E00, [], 0x0, 0x0, 0x7, 0x0, 0x0, false⟩ /- LDR_CHK_STAT -/,
  ⟨0x2000E04, [], 0x0, 0x0, 0x0, 0x0, 0x0, false⟩ /- LDR_CHK_INFO -/,
  ⟨0x2000E08, [], 0x0, 0xFFFFFF, 0x0, 0x0, 0x0, false⟩ /- LDR_OWN_Q -/,
  ⟨0x2000E0C, [], 0x0, 0x0, 0x0, 0x0, 0x0, false⟩ /- LDR_OWN_R -/,
  ⟨0x2000E10, [], 0x0, 0x0, 0x0, 0x0, 0x0, false⟩ /- LDR_CLAIM -/,
  ⟨0x2000E14, [], 0x0, 0x0, 0x0, 0x0, 0x0, false⟩ /- LDR_CLAIM_STAT -/,
  ⟨0x4000000, [], 0x0, 0x0, 0x20, 0x0, 0x0, false⟩ /- RZ_EPOCH -/,
  ⟨0x4000004, [], 0x0, 0x0, 0x0, 0x0, 0x0, false⟩ /- RZ_SWITCH -/,
  ⟨0x4000008, [], 0x0, 0x0, 0x0, 0x0, 0x0, false⟩ /- RZ_SWITCH_STAT -/,
  ⟨0x400000C, [], 0x0, 0x0, 0x0, 0x0, 0x0, false⟩ /- RZ_OLD_CNT -/,
  ⟨0x4000010, [], 0x4, 0x7, 0x0, 0x0, 0x0, false⟩ /- RZ_CHK -/,
  ⟨0x4000014, [], 0x7D0, 0xFFFFFF, 0x0, 0x0, 0x0, false⟩ /- RZ_RSP_TMO -/,
  ⟨0x4010000, [(48, 0x10000)], 0x0, 0x0, 0xFFF, 0x0, 0x0, false⟩ /- RZ_NODE_STAT -/,
  ⟨0x4010004, [(48, 0x10000)], 0x0, 0x0, 0x0, 0x0, 0x0, true⟩ /- RZ_NODE_CORR -/,
  ⟨0x4010008, [(48, 0x10000)], 0x0, 0x0, 0x0, 0x0, 0x0, true⟩ /- RZ_NODE_DROP -/,
  ⟨0x401000C, [(48, 0x10000)], 0x0, 0x0, 0x20000, 0x0, 0x0, false⟩ /- RZ_SP_FLT -/,
  ⟨0x4010010, [(48, 0x10000)], 0x0, 0x0, 0x0, 0x0, 0x0, false⟩ /- RZ_SP_FLT_TURN -/,
  ⟨0x4010100, [(48, 0x10000), (5, 0x20)], 0xFFFF0000, 0xFFFFFFFF, 0x0, 0x0, 0x0, false⟩ /- RZ_TB_REQ -/,
  ⟨0x4010104, [(48, 0x10000), (5, 0x20)], 0xFFFF0000, 0xFFFFFFFF, 0x0, 0x0, 0x0, false⟩ /- RZ_TB_MGT -/,
  ⟨0x4010108, [(48, 0x10000), (5, 0x20)], 0xFFFFFFFF, 0x0, 0x0, 0x0, 0x0, false⟩ /- RZ_TB_LEVEL -/,
  ⟨0x401010C, [(48, 0x10000), (5, 0x20)], 0x0, 0x3F, 0x0, 0x0, 0x0, false⟩ /- RZ_QUOTA -/,
  ⟨0x4010110, [(48, 0x10000), (5, 0x20)], 0x0, 0x0, 0x0, 0x0, 0x0, false⟩ /- RZ_OUTST -/,
  ⟨0x5000000, [(103, 0x10000)], 0x0, 0x3FFF, 0x0, 0x0, 0x0, false⟩ /- LN_CFG -/,
  ⟨0x5000004, [(103, 0x10000)], 0x0, 0x0, 0x7F00, 0x0, 0x0, false⟩ /- LN_STAT -/,
  ⟨0x5000008, [(103, 0x10000)], 0x1F80, 0x1FFFFF, 0x0, 0x0, 0x0, false⟩ /- LN_TXFIR -/,
  ⟨0x500000C, [(103, 0x10000)], 0x0, 0x3FF, 0x0, 0x0, 0x0, false⟩ /- LN_RXEQ -/,
  ⟨0x5000010, [(103, 0x10000)], 0x0, 0x0, 0x0, 0x0, 0x0, false⟩ /- LN_RXEQ_ST -/,
  ⟨0x5000020, [(103, 0x10000), (3, 0x4)], 0x0, 0xFFFFFFFF, 0x0, 0x0, 0x0, false⟩ /- LN_DFE_SET -/,
  ⟨0x5000030, [(103, 0x10000), (3, 0x4)], 0x0, 0x0, 0x0, 0x0, 0x0, false⟩ /- LN_DFE_ST -/,
  ⟨0x5000040, [(103, 0x10000)], 0x0, 0x0, 0x0, 0x0, 0x0, false⟩ /- LN_LAT -/,
  ⟨0x5000044, [(103, 0x10000)], 0x0, 0x0, 0x0, 0x0, 0x0, false⟩ /- LN_PHASE -/,
  ⟨0x5000050, [(103, 0x10000)], 0x0, 0x1FFFFC, 0x0, 0x0, 0x0, false⟩ /- LN_ES_CTRL -/,
  ⟨0x5000054, [(103, 0x10000)], 0x0, 0x0, 0x3, 0x0, 0x0, false⟩ /- LN_ES_STAT -/,
  ⟨0x5000058, [(103, 0x10000)], 0x0, 0x0, 0x0, 0x0, 0x0, false⟩ /- LN_ES_ERR -/,
  ⟨0x5000060, [(103, 0x10000)], 0x0, 0x3F, 0x0, 0x0, 0x0, false⟩ /- LN_PRBS_CTRL -/,
  ⟨0x5000064, [(103, 0x10000)], 0x0, 0x0, 0x0, 0x0, 0x0, true⟩ /- LN_PRBS_ERR -/,
  ⟨0x5F00000, [(28, 0x100)], 0x0, 0xFFFFFFFF, 0x0, 0x0, 0x0, false⟩ /- LN_PLL -/,
  ⟨0x5F00004, [(28, 0x100)], 0x0, 0x0, 0x4, 0x0, 0x0, false⟩ /- LN_PLL_STAT -/,
  ⟨0x5001000, [(103, 0x10000)], 0x0, 0xFFFF, 0x0, 0x0, 0x0, false⟩ /- LN_LE_CFG -/]

/-- Rows 80 and on of the register table, in the order of the manual's chapters. -/
def Reg.rows2 : List RegRow := [
  ⟨0x5001004, [(103, 0x10000)], 0x0, 0x0, 0x3FF0, 0x0, 0x0, false⟩ /- LN_LE_STAT -/,
  ⟨0x5001008, [(103, 0x10000)], 0x0, 0xFFF, 0x0, 0x0, 0x0, false⟩ /- LN_LE_DELAY -/,
  ⟨0x500100C, [(103, 0x10000)], 0x0, 0x0, 0x0, 0x0, 0x0, false⟩ /- LN_LE_XLAT -/,
  ⟨0x5001010, [(103, 0x10000)], 0x0, 0x7, 0x0, 0x0, 0x0, false⟩ /- LN_RAW_CFG -/,
  ⟨0x5001014, [(103, 0x10000)], 0x8, 0xF, 0x0, 0x0, 0x0, false⟩ /- QL_CFG -/,
  ⟨0x5001018, [(103, 0x10000)], 0x1020, 0x1FFF, 0x0, 0x0, 0x0, false⟩ /- QL_REL_CFG -/,
  ⟨0x500101C, [(103, 0x10000)], 0x0, 0x0, 0x0, 0x0, 0x0, false⟩ /- QL_REL_STAT -/,
  ⟨0x5001020, [(103, 0x10000)], 0x5DC, 0xFFFFFFFF, 0x0, 0x0, 0x0, false⟩ /- ETH_CFG -/,
  ⟨0x5001024, [(103, 0x10000)], 0x0, 0xFFFFFFFF, 0x0, 0x0, 0x0, false⟩ /- ETH_MAC_LO -/,
  ⟨0x5001028, [(103, 0x10000)], 0x0, 0xFFFF, 0x0, 0x0, 0x0, false⟩ /- ETH_MAC_HI -/,
  ⟨0x500102C, [(103, 0x10000)], 0x0, 0xFFFFFFFF, 0x0, 0x0, 0x0, false⟩ /- ETH_IP4 -/,
  ⟨0x5001030, [(103, 0x10000)], 0x0, 0xFFFF, 0x0, 0x0, 0x0, false⟩ /- ETH_TS_ADJ -/,
  ⟨0x5001040, [(103, 0x10000), (4, 0x4)], 0x0, 0xFFFFFFFF, 0x0, 0x0, 0x0, false⟩ /- ETH_IP6 -/,
  ⟨0x5001050, [(103, 0x10000)], 0x0, 0x0, 0x0, 0x0, 0x0, true⟩ /- LN_LE_WORDS -/,
  ⟨0x5001054, [(103, 0x10000)], 0x0, 0x0, 0x0, 0x0, 0x0, true⟩ /- LN_LE_INV -/,
  ⟨0x5001058, [(103, 0x10000)], 0x0, 0x0, 0x0, 0x0, 0x0, true⟩ /- LN_LE_FEC_CORR -/,
  ⟨0x500105C, [(103, 0x10000)], 0x0, 0x0, 0x0, 0x0, 0x0, true⟩ /- LN_LE_DROP -/,
  ⟨0x5001060, [(103, 0x10000)], 0x0, 0x0, 0x0, 0x0, 0x0, true⟩ /- QL_RETRY -/,
  ⟨0x5001080, [(103, 0x10000), (32, 0x4)], 0x0, 0xFFFFFFFF, 0x0, 0x0, 0x0, false⟩ /- QL_PLAN -/,
  ⟨0x6000000, [], 0x0, 0xFFFF0003, 0x0, 0x0, 0x0, false⟩ /- ACQ_CTRL -/,
  ⟨0x6000004, [], 0x0, 0x0, 0x7FFF, 0x0, 0x0, false⟩ /- ACQ_STATUS -/,
  ⟨0x6000008, [], 0x0, 0x0, 0x0, 0x0, 0x0, false⟩ /- ACQ_CMD -/,
  ⟨0x600000C, [], 0x0, 0x0, 0x0, 0x0, 0x0, false⟩ /- ACQ_CMD_STAT -/,
  ⟨0x6000010, [], 0x0, 0xF803FFFF, 0x0, 0x0, 0x0, false⟩ /- ACQ_DUMP_CFG -/,
  ⟨0x6000014, [], 0x0, 0x3FFFF, 0x0, 0x0, 0x0, false⟩ /- ACQ_DUMP_BASE -/,
  ⟨0x6000018, [], 0x0, 0x0, 0x80000000, 0x0, 0x0, false⟩ /- ACQ_VIOL -/,
  ⟨0x600001C, [], 0x0, 0x0, 0x0, 0x0, 0x0, false⟩ /- ACQ_VIOL_VAL -/,
  ⟨0x6000020, [], 0x0, 0x0, 0x0, 0x0, 0x0, false⟩ /- ACQ_REC_STAT -/,
  ⟨0x6000024, [], 0x0, 0x0, 0x80000000, 0x0, 0x0, false⟩ /- ACQ_ECC_CTX -/,
  ⟨0x6000028, [], 0x0, 0x0, 0x0, 0x0, 0x0, false⟩ /- ACQ_BUDGET -/,
  ⟨0x600002C, [], 0x0, 0x1, 0x0, 0x0, 0x0, false⟩ /- ACQ_CTX_WIN -/,
  ⟨0x6000030, [], 0x0, 0xFFFF07FF, 0x0, 0x0, 0x0, false⟩ /- ACQ_PRB_CFG -/,
  ⟨0x6000034, [], 0x0, 0x3FFFF, 0x0, 0x0, 0x0, false⟩ /- ACQ_PRB_BASE -/,
  ⟨0x6000038, [], 0x1, 0xFFFFF, 0x0, 0x0, 0x0, false⟩ /- ACQ_PRB_NREC -/,
  ⟨0x600003C, [], 0x20, 0x0, 0x0, 0x0, 0x0, false⟩ /- ACQ_PRB_STAT -/,
  ⟨0x6000080, [], 0x3E8, 0xFFFFFF, 0x0, 0x0, 0x0, false⟩ /- ACQ_REC_TMO -/,
  ⟨0x6000084, [], 0x0, 0x1F, 0x0, 0x0, 0x0, false⟩ /- ACQ_FWD -/,
  ⟨0x6001000, [(96, 0x20)], 0x0, 0x3FFFFF, 0x0, 0x0, 0x0, false⟩ /- ACQ_LN_CFG -/,
  ⟨0x6001004, [(96, 0x20)], 0x0, 0xFFF0FFF, 0x0, 0x0, 0x0, false⟩ /- ACQ_LN_MAP -/,
  ⟨0x6001008, [(96, 0x20)], 0x0, 0xFFFFFFF, 0x0, 0x0, 0x0, false⟩ /- ACQ_LN_RING -/]

/-- Rows 120 and on of the register table, in the order of the manual's chapters. -/
def Reg.rows3 : List RegRow := [
  ⟨0x600100C, [(96, 0x20)], 0x0, 0xFFF, 0x0, 0x0, 0x0, false⟩ /- ACQ_LN_DELAY -/,
  ⟨0x6001010, [(96, 0x20)], 0x0, 0x0, 0x8, 0x0, 0x0, false⟩ /- ACQ_LN_STAT -/,
  ⟨0x6001014, [(96, 0x20)], 0x0, 0x0, 0x0, 0x0, 0x0, false⟩ /- ACQ_LN_IDX_LO -/,
  ⟨0x6001018, [(96, 0x20)], 0x0, 0x0, 0x0, 0x0, 0x0, false⟩ /- ACQ_LN_IDX_HI -/,
  ⟨0x7000000, [], 0x0, 0x0, 0x7F, 0x0, 0x0, false⟩ /- HBM_STATUS -/,
  ⟨0x7000004, [], 0x0, 0x0, 0x80000000, 0x0, 0x0, false⟩ /- HBM_ERR_INFO -/,
  ⟨0x7000008, [], 0x0, 0x0, 0x0, 0x0, 0x0, false⟩ /- HBM_ERR_ADDR_LO -/,
  ⟨0x700000C, [], 0x0, 0x0, 0x0, 0x0, 0x0, false⟩ /- HBM_ERR_ADDR_HI -/,
  ⟨0x7000010, [], 0x0, 0x0, 0x0, 0x0, 0x0, true⟩ /- HBM_CORR_CNT -/,
  ⟨0x7000014, [], 0x0, 0x0, 0x0, 0x0, 0x0, true⟩ /- HBM_UNC_CNT -/,
  ⟨0x7000018, [], 0x0, 0x0, 0x0, 0x0, 0x0, false⟩ /- HBM_TEMP -/,
  ⟨0x7001000, [(32, 0x20)], 0x0, 0x0, 0x0, 0x0, 0x0, false⟩ /- HBM_RGN_BASE -/,
  ⟨0x7001004, [(32, 0x20)], 0x0, 0x0, 0x0, 0x0, 0x0, false⟩ /- HBM_RGN_SIZE -/,
  ⟨0x7001008, [(32, 0x20)], 0x0, 0x0, 0x0, 0x0, 0x0, false⟩ /- HBM_RGN_OWN -/,
  ⟨0x700100C, [(32, 0x20)], 0x0, 0xFFF, 0x0, 0x0, 0x0, false⟩ /- HBM_RGN_CFG -/,
  ⟨0x7001010, [(32, 0x20)], 0x0, 0x0, 0x100, 0x0, 0x0, false⟩ /- HBM_RGN_STAT -/,
  ⟨0x3000000, [], 0x0, 0x0, 0x7F0, 0x0, 0x0, false⟩ /- TU_STATUS -/,
  ⟨0x3000004, [], 0x0, 0x0, 0x0, 0x0, 0x0, false⟩ /- TU_CMD -/,
  ⟨0x3000008, [], 0x0, 0x0, 0x0, 0x0, 0x0, false⟩ /- TU_RAW_LO -/,
  ⟨0x300000C, [], 0x0, 0x0, 0x0, 0x0, 0x0, false⟩ /- TU_RAW_HI -/,
  ⟨0x3000010, [], 0x0, 0x0, 0x0, 0x0, 0x0, false⟩ /- TU_TIME_FNS -/,
  ⟨0x3000014, [], 0x0, 0x0, 0x0, 0x0, 0x0, false⟩ /- TU_TIME_NS -/,
  ⟨0x3000018, [], 0x0, 0x0, 0x0, 0x0, 0x0, false⟩ /- TU_TIME_S_LO -/,
  ⟨0x300001C, [], 0x0, 0x0, 0x0, 0x0, 0x0, false⟩ /- TU_TIME_S_HI -/,
  ⟨0x3000020, [], 0x0, 0xFFFFFFFF, 0x0, 0x0, 0x0, false⟩ /- TU_PNOM_LO -/,
  ⟨0x3000024, [], 0x0, 0xFFFF, 0x0, 0x0, 0x0, false⟩ /- TU_PNOM_HI -/,
  ⟨0x3000028, [], 0x0, 0x0, 0x0, 0x0, 0x0, false⟩ /- TU_PER_LO -/,
  ⟨0x300002C, [], 0x0, 0x0, 0x0, 0x0, 0x0, false⟩ /- TU_PER_HI -/,
  ⟨0x3000030, [(4, 0x4)], 0x0, 0xFFFFFFFF, 0x0, 0x0, 0x0, false⟩ /- TU_ARG -/,
  ⟨0x3000040, [], 0x0, 0x0, 0x0, 0x0, 0x0, false⟩ /- TU_CONV_FNS -/,
  ⟨0x3000044, [], 0x0, 0x0, 0x0, 0x0, 0x0, false⟩ /- TU_CONV_NS -/,
  ⟨0x3000048, [], 0x0, 0x0, 0x0, 0x0, 0x0, false⟩ /- TU_CONV_S_LO -/,
  ⟨0x300004C, [], 0x0, 0x0, 0x0, 0x0, 0x0, false⟩ /- TU_CONV_S_HI -/,
  ⟨0x3000050, [], 0x3E8, 0x3FF, 0x0, 0x0, 0x0, false⟩ /- TU_TICK -/,
  ⟨0x3000054, [], 0x0, 0x0, 0x0, 0x0, 0x0, false⟩ /- TU_REFPH -/,
  ⟨0x3000100, [], 0x60000, 0xFFFFFFFF, 0x0, 0x0, 0x0, false⟩ /- TU_SRV_CFG -/,
  ⟨0x3000104, [], 0x0, 0xFFFFFFFF, 0x0, 0x0, 0x0, false⟩ /- TU_SRV_GAIN -/,
  ⟨0x3000108, [], 0x0, 0x7FFFFFFF, 0x0, 0x0, 0x0, false⟩ /- TU_SRV_MAX -/,
  ⟨0x300010C, [], 0x0, 0xFFFFFFFF, 0x0, 0x0, 0x0, false⟩ /- TU_SRV_STEP -/,
  ⟨0x3000110, [], 0x64, 0xFFFFFF, 0x0, 0x0, 0x0, false⟩ /- TU_SRV_LOCK -/]

/-- Rows 160 and on of the register table, in the order of the manual's chapters. -/
def Reg.rows4 : List RegRow := [
  ⟨0x3000114, [], 0x0, 0xFFFFFFFF, 0x0, 0x0, 0x0, false⟩ /- TU_SRV_OFS_LO -/,
  ⟨0x3000118, [], 0x0, 0xFFFF, 0x0, 0x0, 0x0, false⟩ /- TU_SRV_OFS_HI -/,
  ⟨0x300011C, [], 0x0, 0x0, 0x0, 0x0, 0x0, false⟩ /- TU_SRV_I -/,
  ⟨0x3000120, [], 0x0, 0x0, 0x0, 0x0, 0x0, false⟩ /- TU_SRV_Y -/,
  ⟨0x3000124, [], 0x0, 0x0, 0x0, 0x0, 0x0, true⟩ /- TU_SRV_CNT -/,
  ⟨0x3000200, [(2, 0x10)], 0x0, 0x3, 0x0, 0x0, 0x0, false⟩ /- TU_TP_CFG -/,
  ⟨0x3001000, [(16, 0x40)], 0x0, 0xFF0F, 0x0, 0x0, 0x0, false⟩ /- TU_TC_CFG -/,
  ⟨0x3001004, [(16, 0x40)], 0x0, 0x0, 0x18, 0x0, 0x0, false⟩ /- TU_TC_CTRL -/,
  ⟨0x3001008, [(16, 0x40), (4, 0x4)], 0x0, 0xFFFFFFFF, 0x0, 0x0, 0x0, false⟩ /- TU_TC_TGT -/,
  ⟨0x3001018, [(16, 0x40), (2, 0x4)], 0x0, 0xFFFFFFFF, 0x0, 0x0, 0x0, false⟩ /- TU_TC_PER -/,
  ⟨0x3001020, [(16, 0x40)], 0x0, 0xFFFFF, 0x0, 0x0, 0x0, false⟩ /- TU_TC_PW -/,
  ⟨0x3001024, [(16, 0x40)], 0x0, 0x0, 0x0, 0x0, 0x0, true⟩ /- TU_TC_COUNT -/,
  ⟨0x2000000, [], 0x0, 0x0, 0x7F00, 0x0, 0x0, false⟩ /- LDR_STATUS -/,
  ⟨0x2000004, [], 0x0, 0x0, 0x0, 0x0, 0x0, false⟩ /- LDR_CMD -/,
  ⟨0x2000008, [], 0x0, 0xFFFFFFFF, 0x0, 0x0, 0x0, false⟩ /- LDR_CMD_ARG -/,
  ⟨0x200000C, [], 0x0, 0xFFFFFFFF, 0x0, 0x0, 0x0, false⟩ /- LDR_CMD_TURN -/,
  ⟨0x2000010, [], 0x0, 0x0, 0x0, 0x0, 0x0, false⟩ /- LDR_CMD_STAT -/,
  ⟨0x2000014, [], 0x0, 0x0, 0x0, 0x0, 0x0, false⟩ /- LDR_FAIL -/,
  ⟨0x2000018, [], 0x0, 0x0, 0x0, 0xFFFFFFFF, 0x0, false⟩ /- LDR_BAD_LO -/,
  ⟨0x200001C, [], 0x0, 0x0, 0x0, 0x3, 0x0, false⟩ /- LDR_BAD_HI -/,
  ⟨0x2000020, [], 0x0, 0x0, 0x70, 0x0, 0x0, false⟩ /- LDR_PR_STAT -/,
  ⟨0x2000024, [], 0x0, 0x0, 0x0, 0x0, 0x0, false⟩ /- LDR_PR_MASK -/,
  ⟨0x2000028, [], 0x0, 0x0, 0x0, 0x0, 0x0, false⟩ /- LDR_IMG_SRC -/,
  ⟨0x200002C, [], 0x0, 0x0, 0x0, 0x0, 0x0, false⟩ /- LDR_XSPI -/,
  ⟨0x2000030, [], 0x10000, 0x0, 0x0, 0x0, 0x0, false⟩ /- LDR_FIFO_FREE -/,
  ⟨0x2000040, [(8, 0x4)], 0xFFFFFFFF, 0x0, 0x0, 0x0, 0x0, false⟩ /- LDR_MAP -/,
  ⟨0x2000060, [(8, 0x4)], 0xFFFFFFFF, 0xFFFFFFFF, 0x0, 0x0, 0x0, false⟩ /- LDR_OVR -/,
  ⟨0x2000080, [(8, 0x4)], 0x0, 0x0, 0x0, 0x0, 0x0, false⟩ /- LDR_SETTLE -/,
  ⟨0x2000100, [(16, 0x4)], 0x0, 0x0, 0x0, 0x0, 0x0, false⟩ /- LDR_ID -/,
  ⟨0x2020000, [], 0x0, 0x0, 0x1B, 0x0, 0x0, false⟩ /- SEC_STATUS -/,
  ⟨0x2020004, [], 0x0, 0x0, 0x0, 0x0, 0x0, false⟩ /- SEC_CMD -/,
  ⟨0x2020008, [], 0x0, 0xFFF1F, 0x0, 0x0, 0x0, false⟩ /- SEC_CMD_ARG -/,
  ⟨0x202000C, [], 0x0, 0x0, 0x0, 0x0, 0x0, false⟩ /- SEC_CMD_STAT -/,
  ⟨0x2020010, [], 0x0, 0x0, 0x0, 0x0, 0x0, false⟩ /- SEC_THERM -/,
  ⟨0x2020014, [], 0x0, 0x0, 0x0, 0x0, 0x0, false⟩ /- SEC_SLOTS -/,
  ⟨0x2020018, [], 0x0, 0x0, 0x0, 0x0, 0x0, false⟩ /- SEC_RUN -/,
  ⟨0x2020100, [(4, 0x40), (16, 0x4)], 0x0, 0x0, 0x0, 0x0, 0x0, false⟩ /- SEC_SLOT_DIG -/,
  ⟨0x2020200, [(8, 0x40), (16, 0x4)], 0x0, 0x0, 0x0, 0x0, 0x0, false⟩ /- SEC_MR -/,
  ⟨0x2030000, [], 0x3, 0x7, 0x0, 0x10, 0x8, false⟩ /- CNS_CTRL -/,
  ⟨0x2030004, [], 0x0, 0x0, 0x3FF, 0x0, 0x0, false⟩ /- CNS_STATUS -/]

/-- Rows 200 and on of the register table, in the order of the manual's chapters. -/
def Reg.rows5 : List RegRow := [
  ⟨0x2030008, [], 0x30010, 0xF007F, 0x0, 0x0, 0x0, false⟩ /- CNS_CFG -/,
  ⟨0x203000C, [], 0x0, 0x0, 0x0, 0x0, 0x0, false⟩ /- CNS_PASS -/,
  ⟨0x2030010, [], 0x0, 0x0, 0x0, 0x0, 0x0, false⟩ /- CNS_PASS_TIME -/,
  ⟨0x2030014, [], 0x0, 0x0, 0x0, 0x0, 0x0, false⟩ /- CNS_FRAME -/,
  ⟨0x2030018, [], 0x0, 0x0, 0x0, 0x0, 0x0, false⟩ /- CNS_SKIP_LO -/,
  ⟨0x203001C, [], 0x0, 0x0, 0x0, 0x0, 0x0, false⟩ /- CNS_SKIP_HI -/,
  ⟨0x2030020, [], 0x0, 0x0, 0x0, 0x0, 0x0, false⟩ /- CNS_NODE_LO -/,
  ⟨0x2030024, [], 0x0, 0x0, 0x0, 0x0, 0x0, false⟩ /- CNS_NODE_HI -/,
  ⟨0x2030030, [], 0x0, 0x0, 0x0, 0x0, 0x0, false⟩ /- CNS_REC0 -/,
  ⟨0x2030034, [], 0x0, 0x0, 0x0, 0x0, 0x0, false⟩ /- CNS_REC1 -/,
  ⟨0x2030038, [], 0x0, 0x0, 0x0, 0x0, 0x0, false⟩ /- CNS_REC2 -/,
  ⟨0x203003C, [], 0x0, 0x0, 0x0, 0x0, 0x0, false⟩ /- CNS_REC3 -/,
  ⟨0x2030050, [], 0x0, 0x0, 0x0, 0x0, 0x0, false⟩ /- CNS_RECUR_LOC -/,
  ⟨0x2030060, [], 0x0, 0xFFF0FFFF, 0x0, 0x0, 0x0, false⟩ /- CNS_INJ_SEL -/,
  ⟨0x2030064, [], 0x0, 0xFFFFFFFF, 0x0, 0x0, 0x0, false⟩ /- CNS_INJ_LO -/,
  ⟨0x2030068, [], 0x0, 0xFFFFFFFF, 0x0, 0x0, 0x0, false⟩ /- CNS_INJ_HI -/,
  ⟨0x203006C, [], 0x0, 0xFF, 0x0, 0x0, 0x0, false⟩ /- CNS_INJ_CHK -/,
  ⟨0x2030070, [], 0x0, 0x0, 0x0, 0x0, 0x0, false⟩ /- CNS_INJ_STAT -/,
  ⟨0x1000000, [], 0x0, 0x19, 0x0, 0x80000000, 0x40000000, false⟩ /- LIB_CTRL -/,
  ⟨0x1000004, [], 0x0, 0x0, 0xFE, 0x0, 0x0, false⟩ /- LIB_STATUS -/,
  ⟨0x1000008, [], 0x0, 0x0, 0x0, 0x0, 0x0, false⟩ /- LIB_RST_CAUSE -/,
  ⟨0x100000C, [], 0x0, 0xFFFFFFFF, 0x0, 0x0, 0x0, false⟩ /- LIB_C0_ENTRY -/,
  ⟨0x1000010, [], 0x10000000, 0xFFFFFFFF, 0x0, 0x0, 0x0, false⟩ /- LIB_C1_ENTRY -/,
  ⟨0x1000014, [], 0x0, 0x0, 0x0, 0x0, 0x0, true⟩ /- LIB_ECC_CNT -/,
  ⟨0x1000020, [(2, 0x8)], 0x0, 0x0, 0x80000000, 0x0, 0x0, false⟩ /- LIB_BERR -/,
  ⟨0x1000024, [(2, 0x8)], 0x0, 0x0, 0x0, 0x0, 0x0, false⟩ /- LIB_BERR_ADDR -/,
  ⟨0x1000030, [(2, 0x4)], 0x0, 0x80FFFFFF, 0x0, 0x0, 0x0, false⟩ /- LIB_WDT -/,
  ⟨0x1000038, [(2, 0x4)], 0x0, 0x0, 0x0, 0x0, 0x0, false⟩ /- LIB_WDT_KICK -/,
  ⟨0x1000040, [(2, 0x4)], 0x0, 0xF, 0x0, 0x0, 0x0, false⟩ /- LIB_HBMWIN -/,
  ⟨0x1000100, [], 0x0, 0x7FF1FFFF, 0x0, 0x0, 0x0, false⟩ /- LIB_FL_CTRL -/,
  ⟨0x1000104, [], 0x0, 0xFFFFFFFF, 0x0, 0x0, 0x0, false⟩ /- LIB_FL_ADDR -/,
  ⟨0x1000108, [], 0x0, 0x0, 0x0, 0x0, 0x0, false⟩ /- LIB_FL_STAT -/,
  ⟨0x1000200, [(64, 0x4)], 0x0, 0xFFFFFFFF, 0x0, 0x0, 0x0, false⟩ /- LIB_FL_BUF -/,
  ⟨0x1000400, [], 0x5, 0x7, 0x0, 0x0, 0x0, false⟩ /- LIB_LOG_CFG -/]

/-- Rows 240 and on of the register table, in the order of the manual's chapters. -/
def Reg.rows6 : List RegRow := [
  ⟨0x1000404, [], 0x0, 0x0, 0x0, 0x0, 0x0, false⟩ /- LIB_LOG_WP -/,
  ⟨0x1000408, [], 0x0, 0xFFFFFFFF, 0x0, 0x0, 0x0, false⟩ /- LIB_LOG_RP -/,
  ⟨0x100040C, [], 0x0, 0x0, 0x0, 0x0, 0x0, true⟩ /- LIB_LOG_DROP -/,
  ⟨0x1000440, [(8, 0x4)], 0x0, 0x0, 0x0, 0x0, 0x0, false⟩ /- LIB_LOG_WR -/,
  ⟨0x1000460, [], 0x0, 0x0, 0x0, 0x0, 0x0, false⟩ /- LIB_LOG_COMMIT -/,
  ⟨0x1000500, [], 0x48, 0x37F, 0x0, 0x0, 0x0, false⟩ /- LIB_SMB_CFG -/,
  ⟨0x1000504, [], 0x0, 0x0, 0x0, 0x0, 0x0, true⟩ /- LIB_SMB_STAT -/,
  ⟨0x1000540, [(8, 0x4)], 0x0, 0xFFFFFFFF, 0x0, 0x0, 0x0, false⟩ /- LIB_SMB_OUT -/,
  ⟨0x1000560, [(8, 0x4)], 0x0, 0x0, 0x0, 0x0, 0x0, false⟩ /- LIB_SMB_IN -/,
  ⟨0x1000800, [(48, 0x4)], 0x8000, 0x0, 0x0, 0x0, 0x0, false⟩ /- LIB_TS -/,
  ⟨0x1000900, [(24, 0x4)], 0x8000, 0x0, 0x0, 0x0, 0x0, false⟩ /- LIB_VM -/,
  ⟨0x1000980, [(8, 0x4)], 0x8000, 0x0, 0x0, 0x0, 0x0, false⟩ /- LIB_CM -/,
  ⟨0x1000A00, [(48, 0x4)], 0x7FFF, 0xFFFF, 0x0, 0x0, 0x0, false⟩ /- LIB_TS_HI -/,
  ⟨0x1000B00, [(24, 0x4)], 0xFFFF0000, 0xFFFFFFFF, 0x0, 0x0, 0x0, false⟩ /- LIB_VM_WIN -/,
  ⟨0x1000B80, [(8, 0x4)], 0xFFFF, 0xFFFF, 0x0, 0x0, 0x0, false⟩ /- LIB_CM_HI -/,
  ⟨0x1000C00, [], 0x0, 0x0, 0xFFFFFFFF, 0x0, 0x0, false⟩ /- LIB_ALM0 -/,
  ⟨0x1000C04, [], 0x0, 0x0, 0xFFFF, 0x0, 0x0, false⟩ /- LIB_ALM1 -/,
  ⟨0x1000C08, [], 0x0, 0x0, 0xFFFFFFFF, 0x0, 0x0, false⟩ /- LIB_ALM2 -/,
  ⟨0x1100000, [], 0x0, 0x0, 0x0, 0x0, 0x0, false⟩ /- DSP_CMD -/,
  ⟨0x1100004, [], 0x0, 0x0, 0x0, 0x0, 0x0, false⟩ /- DSP_ARG -/,
  ⟨0x1100008, [], 0x0, 0x0, 0x0, 0x0, 0x0, false⟩ /- DSP_STAT -/,
  ⟨0x1100010, [], 0x0, 0x0, 0x0, 0x0, 0x0, false⟩ /- DSP_NEXT -/,
  ⟨0x1100014, [], 0x0, 0x0, 0x0, 0x0, 0x0, false⟩ /- DSP_NEXT_FLAGS -/,
  ⟨0x1200000, [], 0x0, 0x0, 0x0, 0x1, 0x0, false⟩ /- CRL_CTRL -/,
  ⟨0x1200004, [], 0x2710, 0xFFFFFF, 0x0, 0x0, 0x0, false⟩ /- CRL_TMO -/,
  ⟨0x1200100, [(32, 0x4)], 0xFFFF, 0x0, 0x0, 0x0, 0xFFFF, false⟩ /- CRL_BIND -/,
  ⟨0x1200200, [(32, 0x8), (2, 0x4)], 0x0, 0xC03F1F1F, 0x0, 0x0, 0x0, false⟩ /- CRL_NOTIFY -/,
  ⟨0x1200400, [(32, 0x4)], 0x0, 0x0, 0x13F3F, 0x0, 0x0, false⟩ /- CRL_STAT -/,
  ⟨0x100000, [(16, 0x4)], 0x0, 0x0, 0xFFFFFFFF, 0x0, 0x0, false⟩ /- EVT_STICKY -/,
  ⟨0x100080, [(2, 0x4)], 0x0, 0x0, 0x0, 0x0, 0x0, false⟩ /- EVT_TOP -/,
  ⟨0x100100, [(32, 0x4)], 0x0, 0x0, 0x0, 0x0, 0x0, false⟩ /- EVT_SEV -/,
  ⟨0x101000, [(512, 0x4)], 0x10, 0x7FFBF1F, 0x0, 0x0, 0x0, false⟩ /- EVT_ROUTE -/]

/-- Rows 280 and on of the register table, in the order of the manual's chapters. -/
def Reg.rows7 : List RegRow := [
  ⟨0x200000, [], 0x0, 0x0, 0xFF00, 0x0, 0x0, false⟩ /- PWR_STATUS -/,
  ⟨0x200004, [], 0x0, 0x0, 0x0, 0x0, 0x0, false⟩ /- PWR_CMD -/,
  ⟨0x200008, [], 0x0, 0x0, 0x0, 0x0, 0x0, false⟩ /- PWR_CMD_STAT -/,
  ⟨0x20000C, [], 0x100, 0x0, 0x0, 0x0, 0x0, false⟩ /- PWR_WAKE -/,
  ⟨0x200010, [], 0x1F, 0x1F, 0x0, 0x0, 0x0, false⟩ /- PWR_WAKE_EN -/,
  ⟨0x200014, [], 0x3E8, 0xFFFFFF, 0x0, 0x0, 0x0, false⟩ /- PWR_HOLD_TMO -/,
  ⟨0x200018, [], 0x80000A5F, 0x80FFFFFF, 0x0, 0x0, 0x0, false⟩ /- PWR_THROT -/,
  ⟨0x20001C, [], 0x8000, 0x0, 0x0, 0x0, 0x0, false⟩ /- PWR_TMAX -/,
  ⟨0x200020, [], 0xC8, 0xFFFF, 0x0, 0x0, 0x0, false⟩ /- PWR_VSETTLE -/,
  ⟨0x200024, [], 0x0, 0x0, 0x0, 0x0, 0x0, true⟩ /- PWR_REWAKE_CNT -/,
  ⟨0x201000, [(88, 0x4)], 0x0, 0x3, 0x0, 0x0, 0x0, false⟩ /- PWR_DCTL -/,
  ⟨0x201200, [(88, 0x4)], 0x0, 0x0, 0x20, 0x0, 0x0, false⟩ /- PWR_DSTAT -/,
  ⟨0x8000000, [], 0x40000403, 0xFF000FC7, 0x0, 0x0, 0x0, false⟩ /- TWN_CFG -/,
  ⟨0x8000004, [], 0x0, 0x0, 0x7FF, 0x0, 0x0, false⟩ /- TWN_STATUS -/,
  ⟨0x8000008, [], 0x0, 0x0, 0x0, 0x0, 0x0, false⟩ /- TWN_CMD -/,
  ⟨0x800000C, [], 0x0, 0xFFFFFFFF, 0x0, 0x0, 0x0, false⟩ /- TWN_CMD_TURN -/,
  ⟨0x8000010, [], 0x0, 0x0, 0x0, 0x0, 0x0, false⟩ /- TWN_CMD_STAT -/,
  ⟨0x8000014, [], 0x0, 0x0, 0x0, 0x0, 0x0, false⟩ /- TWN_LAG -/,
  ⟨0x8000018, [], 0x2710, 0xFFFFFF, 0x0, 0x0, 0x0, false⟩ /- TWN_MATCH_WAIT -/,
  ⟨0x800001C, [], 0x0, 0x0, 0x0, 0x0, 0x0, false⟩ /- TWN_PAIR_INFO -/,
  ⟨0x8000020, [], 0x0, 0x0, 0x0, 0x0, 0x0, false⟩ /- TWN_DIG_LO -/,
  ⟨0x8000024, [], 0x0, 0x0, 0x0, 0x0, 0x0, false⟩ /- TWN_DIG_HI -/,
  ⟨0x8000028, [], 0x0, 0x0, 0x0, 0x0, 0x0, false⟩ /- TWN_DIV_TURN -/,
  ⟨0x8000030, [], 0x0, 0x0, 0x0, 0x0, 0x0, false⟩ /- TWN_RS_STAT -/,
  ⟨0x8000034, [], 0x0, 0x0, 0x0, 0x0, 0x0, false⟩ /- TWN_RS_BYTES -/,
  ⟨0x8000038, [], 0x0, 0x0, 0x0, 0x0, 0x0, false⟩ /- TWN_LOG_LEVEL -/,
  ⟨0x8000050, [], 0x0, 0x0, 0x0, 0x0, 0x0, false⟩ /- TWN_NOTICE -/,
  ⟨0x8000060, [], 0x0, 0xFFFFFFFF, 0x0, 0x0, 0x0, false⟩ /- TWN_RACC_ADDR -/,
  ⟨0x8000064, [], 0x0, 0xFFFFFFFF, 0x0, 0x0, 0x0, false⟩ /- TWN_RACC_DATA -/,
  ⟨0x8000068, [], 0x0, 0x40000000, 0x0, 0x0, 0x0, false⟩ /- TWN_RACC_CTRL -/,
  ⟨0x8100000, [], 0x0, 0x0, 0xF, 0x0, 0x0, false⟩ /- HST_STATUS -/,
  ⟨0x8100004, [], 0x0, 0x0, 0x80000000, 0x0, 0x0, false⟩ /- HST_WERR -/,
  ⟨0x8100008, [], 0x0, 0x0, 0x0, 0x0, 0x0, false⟩ /- HST_WERR_ADDR_LO -/,
  ⟨0x810000C, [], 0x0, 0x0, 0x0, 0x0, 0x0, false⟩ /- HST_WERR_ADDR_HI -/,
  ⟨0x8100010, [], 0x0, 0x0, 0x0, 0x0, 0x0, true⟩ /- HST_MAL_CNT -/,
  ⟨0x8200000, [], 0x0, 0x0, 0x0, 0x0, 0x0, false⟩ /- LRG_CTRL -/,
  ⟨0x8200004, [], 0x0, 0x0, 0x3F0000, 0x0, 0x0, false⟩ /- LRG_STATUS -/,
  ⟨0x8200008, [], 0x1388, 0xFFFFFF, 0x0, 0x0, 0x0, false⟩ /- LRG_TMO -/,
  ⟨0x820000C, [], 0x0, 0x0, 0x0, 0x0, 0x0, false⟩ /- LRG_EVTQ -/,
  ⟨0x8200010, [], 0x0, 0x0, 0x0, 0x0, 0x0, true⟩ /- LRG_CRC_CNT -/]

/-- Rows 320 and on of the register table, in the order of the manual's chapters. -/
def Reg.rows8 : List RegRow := [
  ⟨0x8200014, [], 0x0, 0x0, 0x0, 0x0, 0x0, true⟩ /- LRG_EVT_DROP -/,
  ⟨0x8200018, [], 0x10000, 0x0, 0x0, 0x0, 0x0, false⟩ /- LRG_LOAD_FREE -/,
  ⟨0x8300000, [(8, 0x100), (24, 0x4)], 0x0, 0x3FF7, 0x0, 0x0, 0x0, false⟩ /- IOB_PIN -/,
  ⟨0x8300060, [(8, 0x100)], 0x0, 0x7, 0x0, 0x0, 0x0, false⟩ /- IOB_BANK -/,
  ⟨0x8300064, [(8, 0x100)], 0x0, 0x0, 0x3, 0x0, 0x0, false⟩ /- IOB_STAT -/,
  ⟨0x8300068, [(8, 0x100)], 0x0, 0x0, 0x0, 0x0, 0x0, false⟩ /- IOB_IN -/,
  ⟨0x830006C, [(8, 0x100)], 0x0, 0xFFFFFFFF, 0x0, 0x0, 0x0, false⟩ /- IOB_OUT -/,
  ⟨0x8300070, [(8, 0x100)], 0x0, 0x0, 0x0, 0x0, 0x0, false⟩ /- IOB_BAD -/,
  ⟨0x4010400, [(48, 0x10000), (2, 0x100), (48, 0x4)], 0x0, 0xFFFFFFFF, 0x0, 0x0, 0x0, false⟩ /- RZ_ROUTE -/,
  ⟨0x4014000, [(48, 0x10000), (2, 0x2000), (1024, 0x8), (2, 0x4)], 0x0, 0xFFFFFFFF, 0x0, 0x0, 0x0, false⟩ /- RZ_SLOT -/,
  ⟨0x6000040, [], 0x0, 0x0, 0x0, 0x0, 0x0, true⟩ /- ACQ_REC_SENT -/,
  ⟨0x6000044, [], 0x0, 0x0, 0x0, 0x0, 0x0, true⟩ /- ACQ_REC_LOST -/,
  ⟨0x6000048, [], 0x0, 0x0, 0x0, 0x0, 0x0, true⟩ /- ACQ_VIOL_CNT -/,
  ⟨0x600004C, [], 0x0, 0x0, 0x0, 0x0, 0x0, true⟩ /- ACQ_ECC_CORR -/,
  ⟨0x6000050, [], 0x0, 0x0, 0x0, 0x0, 0x0, true⟩ /- ACQ_CTX_SKIP -/,
  ⟨0x6000054, [], 0x0, 0x0, 0x0, 0x0, 0x0, true⟩ /- ACQ_ARCH_DROP -/,
  ⟨0x6000058, [], 0x0, 0x0, 0x0, 0x0, 0x0, true⟩ /- ACQ_PRB_LOST -/,
  ⟨0x6002000, [(16, 0x20)], 0x0, 0x1FFFFFFF, 0x0, 0x0, 0x0, false⟩ /- ACQ_CLS_CFG -/,
  ⟨0x6002004, [(16, 0x20)], 0x0, 0xFFFFFFFF, 0x0, 0x0, 0x0, false⟩ /- ACQ_CLS_WIN -/,
  ⟨0x6002014, [(16, 0x20)], 0x0, 0x3FFFF, 0x0, 0x0, 0x0, false⟩ /- ACQ_CLS_MEAS -/,
  ⟨0x6002008, [(16, 0x20), (3, 0x4)], 0x0, 0xFFFFFFFF, 0x0, 0x0, 0x0, false⟩ /- ACQ_CLS_LANE -/,
  ⟨0x6003000, [(16, 0x4)], 0x0, 0xFFF, 0x0, 0x0, 0x0, false⟩ /- ACQ_DEST -/,
  ⟨0x6004000, [(4, 0x100)], 0x0, 0x7, 0x0, 0x0, 0x0, false⟩ /- ACQ_PAT_CFG -/,
  ⟨0x6004004, [(4, 0x100)], 0x0, 0x0, 0x0, 0x0, 0x0, false⟩ /- ACQ_PAT_TURN -/,
  ⟨0x6004008, [(4, 0x100), (2, 0x4)], 0x0, 0xFFFFFFFF, 0x0, 0x0, 0x0, false⟩ /- ACQ_PAT_MASK -/,
  ⟨0x6004010, [(4, 0x100), (2, 0x4)], 0x0, 0xFFFFFFFF, 0x0, 0x0, 0x0, false⟩ /- ACQ_PAT_VAL -/,
  ⟨0x6004040, [(4, 0x100), (32, 0x4)], 0x0, 0xFFFFFFFF, 0x0, 0x0, 0x0, false⟩ /- ACQ_PAT_SEL -/,
  ⟨0x6080000, [(64, 0x2000), (1024, 0x8), (2, 0x4)], 0x0, 0xFFFFFFFF, 0x0, 0x0, 0x0, false⟩ /- ACQ_ENV -/,
  ⟨0x7004000, [(34, 0x80), (16, 0x8), (2, 0x4)], 0x0, 0x0, 0x0, 0x0, 0x0, false⟩ /- HBM_ISSUE -/,
  ⟨0x7006000, [(64, 0x8), (2, 0x4)], 0x0, 0x0, 0x0, 0x0, 0x0, false⟩ /- HBM_QUIET -/,
  ⟨0x5001100, [(103, 0x10000), (8, 0x20), (8, 0x4)], 0x0, 0xFFFFFFFF, 0x0, 0x0, 0x0, false⟩ /- ETH_DST -/,
  ⟨0x2030040, [], 0x0, 0x0, 0x0, 0x0, 0x0, true⟩ /- CNS_ESS_CNT -/,
  ⟨0x2030044, [], 0x0, 0x0, 0x0, 0x0, 0x0, true⟩ /- CNS_BEN_CNT -/,
  ⟨0x2030048, [], 0x0, 0x0, 0x0, 0x0, 0x0, true⟩ /- CNS_UNC_CNT -/,
  ⟨0x203004C, [], 0x0, 0x0, 0x0, 0x0, 0x0, true⟩ /- CNS_SELF_CNT -/,
  ⟨0x8000040, [], 0x0, 0x0, 0x0, 0x0, 0x0, true⟩ /- TWN_MISS_CNT -/,
  ⟨0x8000044, [], 0x0, 0x0, 0x0, 0x0, 0x0, true⟩ /- TWN_DIV_CNT -/,
  ⟨0x8000048, [], 0x0, 0x0, 0x0, 0x0, 0x0, true⟩ /- TWN_LOG_CNT -/,
  ⟨0x800004C, [], 0x0, 0x0, 0x0, 0x0, 0x0, true⟩ /- TWN_NOTICE_CNT -/,
  ⟨0x2020400, [(8, 0x4)], 0x0, 0xFFFFFFFF, 0x0, 0x0, 0x0, false⟩ /- SEC_NONCE -/]

/-- Rows 360 and on of the register table, in the order of the manual's chapters. -/
def Reg.rows9 : List RegRow := [
  ⟨0x2020440, [(16, 0x4)], 0x0, 0xFFFFFFFF, 0x0, 0x0, 0x0, false⟩ /- SEC_EXT -/,
  ⟨0x2021000, [(1024, 0x4)], 0x0, 0x0, 0x0, 0x0, 0x0, false⟩ /- SEC_REPORT -/,
  ⟨0x2024000, [(4096, 0x4)], 0x0, 0x0, 0x0, 0x0, 0x0, false⟩ /- SEC_CERT -/,
  ⟨0x1001000, [(4096, 0x4)], 0x0, 0x0, 0x0, 0x0, 0x0, false⟩ /- LIB_LOG_BUF -/,
  ⟨0x8101000, [(256, 0x4)], 0x0, 0xFFFFFFFF, 0x0, 0x0, 0x0, false⟩ /- HST_MSIX_TBL -/,
  ⟨0x8102000, [(2, 0x4)], 0x0, 0x0, 0x0, 0x0, 0x0, false⟩ /- HST_MSIX_PBA -/,
  ⟨0xC001000, [(34, 0x100000), (2, 0x1000), (1024, 0x4)], 0x0, 0xFFFFFFFF, 0x0, 0x0, 0x0, false⟩ /- ARR_XBAR -/,
  ⟨0xC003000, [(34, 0x100000), (2, 0x1000), (1024, 0x4)], 0x0, 0xFFFFFFFF, 0x0, 0x0, 0x0, false⟩ /- ARR_PORTMAP -/,
  ⟨0xC005000, [(34, 0x100000), (2, 0x100), (64, 0x4)], 0x0, 0xFFFFFFFF, 0x0, 0x0, 0x0, false⟩ /- ARR_SAFE -/]

/-- The register table of the device register space (R9 and the register tables of the chapters). -/
def Reg.table : List RegRow :=
  Reg.rows0 ++ Reg.rows1 ++ Reg.rows2 ++ Reg.rows3 ++ Reg.rows4 ++ Reg.rows5 ++ Reg.rows6 ++ Reg.rows7 ++ Reg.rows8 ++ Reg.rows9

/-- The offset is reached by the indices of the remaining dimensions. -/
def RegRow.reaches : List (Nat × Nat) → Nat → Bool
  | [], off => off == 0
  | (c, st) :: r, off => decide (off / st < c) && RegRow.reaches r (off % st)

/-- The row describes the register at an address. -/
def RegRow.covers (r : RegRow) (a : Nat) : Bool := decide (r.base ≤ a) && RegRow.reaches r.dims (a - r.base)

/-- The rows whose reset value is not 0. -/
def Reg.resets : List RegRow := [
  ⟨0x0, [], 0x96402111, 0x0, 0x0, 0x0, 0x0, false⟩ /- DEV_IDENT -/,
  ⟨0xC0000AC, [], 0x3E8, 0xFFFFF, 0x0, 0x0, 0x0, false⟩ /- SEQ_STALL_WARN -/,
  ⟨0xC0000B0, [], 0x2710, 0xFFFFFF, 0x0, 0x0, 0x0, false⟩ /- SEQ_BAR_TMO -/,
  ⟨0x4000010, [], 0x4, 0x7, 0x0, 0x0, 0x0, false⟩ /- RZ_CHK -/,
  ⟨0x4000014, [], 0x7D0, 0xFFFFFF, 0x0, 0x0, 0x0, false⟩ /- RZ_RSP_TMO -/,
  ⟨0x4010100, [(48, 0x10000), (5, 0x20)], 0xFFFF0000, 0xFFFFFFFF, 0x0, 0x0, 0x0, false⟩ /- RZ_TB_REQ -/,
  ⟨0x4010104, [(48, 0x10000), (5, 0x20)], 0xFFFF0000, 0xFFFFFFFF, 0x0, 0x0, 0x0, false⟩ /- RZ_TB_MGT -/,
  ⟨0x4010108, [(48, 0x10000), (5, 0x20)], 0xFFFFFFFF, 0x0, 0x0, 0x0, 0x0, false⟩ /- RZ_TB_LEVEL -/,
  ⟨0x5000008, [(103, 0x10000)], 0x1F80, 0x1FFFFF, 0x0, 0x0, 0x0, false⟩ /- LN_TXFIR -/,
  ⟨0x5001014, [(103, 0x10000)], 0x8, 0xF, 0x0, 0x0, 0x0, false⟩ /- QL_CFG -/,
  ⟨0x5001018, [(103, 0x10000)], 0x1020, 0x1FFF, 0x0, 0x0, 0x0, false⟩ /- QL_REL_CFG -/,
  ⟨0x5001020, [(103, 0x10000)], 0x5DC, 0xFFFFFFFF, 0x0, 0x0, 0x0, false⟩ /- ETH_CFG -/,
  ⟨0x6000038, [], 0x1, 0xFFFFF, 0x0, 0x0, 0x0, false⟩ /- ACQ_PRB_NREC -/,
  ⟨0x600003C, [], 0x20, 0x0, 0x0, 0x0, 0x0, false⟩ /- ACQ_PRB_STAT -/,
  ⟨0x6000080, [], 0x3E8, 0xFFFFFF, 0x0, 0x0, 0x0, false⟩ /- ACQ_REC_TMO -/,
  ⟨0x3000050, [], 0x3E8, 0x3FF, 0x0, 0x0, 0x0, false⟩ /- TU_TICK -/,
  ⟨0x3000100, [], 0x60000, 0xFFFFFFFF, 0x0, 0x0, 0x0, false⟩ /- TU_SRV_CFG -/,
  ⟨0x3000110, [], 0x64, 0xFFFFFF, 0x0, 0x0, 0x0, false⟩ /- TU_SRV_LOCK -/,
  ⟨0x2000030, [], 0x10000, 0x0, 0x0, 0x0, 0x0, false⟩ /- LDR_FIFO_FREE -/,
  ⟨0x2000040, [(8, 0x4)], 0xFFFFFFFF, 0x0, 0x0, 0x0, 0x0, false⟩ /- LDR_MAP -/,
  ⟨0x2000060, [(8, 0x4)], 0xFFFFFFFF, 0xFFFFFFFF, 0x0, 0x0, 0x0, false⟩ /- LDR_OVR -/,
  ⟨0x2030000, [], 0x3, 0x7, 0x0, 0x10, 0x8, false⟩ /- CNS_CTRL -/,
  ⟨0x2030008, [], 0x30010, 0xF007F, 0x0, 0x0, 0x0, false⟩ /- CNS_CFG -/,
  ⟨0x1000010, [], 0x10000000, 0xFFFFFFFF, 0x0, 0x0, 0x0, false⟩ /- LIB_C1_ENTRY -/,
  ⟨0x1000400, [], 0x5, 0x7, 0x0, 0x0, 0x0, false⟩ /- LIB_LOG_CFG -/,
  ⟨0x1000500, [], 0x48, 0x37F, 0x0, 0x0, 0x0, false⟩ /- LIB_SMB_CFG -/,
  ⟨0x1000800, [(48, 0x4)], 0x8000, 0x0, 0x0, 0x0, 0x0, false⟩ /- LIB_TS -/,
  ⟨0x1000900, [(24, 0x4)], 0x8000, 0x0, 0x0, 0x0, 0x0, false⟩ /- LIB_VM -/,
  ⟨0x1000980, [(8, 0x4)], 0x8000, 0x0, 0x0, 0x0, 0x0, false⟩ /- LIB_CM -/,
  ⟨0x1000A00, [(48, 0x4)], 0x7FFF, 0xFFFF, 0x0, 0x0, 0x0, false⟩ /- LIB_TS_HI -/,
  ⟨0x1000B00, [(24, 0x4)], 0xFFFF0000, 0xFFFFFFFF, 0x0, 0x0, 0x0, false⟩ /- LIB_VM_WIN -/,
  ⟨0x1000B80, [(8, 0x4)], 0xFFFF, 0xFFFF, 0x0, 0x0, 0x0, false⟩ /- LIB_CM_HI -/,
  ⟨0x1200004, [], 0x2710, 0xFFFFFF, 0x0, 0x0, 0x0, false⟩ /- CRL_TMO -/,
  ⟨0x1200100, [(32, 0x4)], 0xFFFF, 0x0, 0x0, 0x0, 0xFFFF, false⟩ /- CRL_BIND -/,
  ⟨0x20000C, [], 0x100, 0x0, 0x0, 0x0, 0x0, false⟩ /- PWR_WAKE -/,
  ⟨0x200010, [], 0x1F, 0x1F, 0x0, 0x0, 0x0, false⟩ /- PWR_WAKE_EN -/,
  ⟨0x200014, [], 0x3E8, 0xFFFFFF, 0x0, 0x0, 0x0, false⟩ /- PWR_HOLD_TMO -/,
  ⟨0x200018, [], 0x80000A5F, 0x80FFFFFF, 0x0, 0x0, 0x0, false⟩ /- PWR_THROT -/,
  ⟨0x20001C, [], 0x8000, 0x0, 0x0, 0x0, 0x0, false⟩ /- PWR_TMAX -/,
  ⟨0x200020, [], 0xC8, 0xFFFF, 0x0, 0x0, 0x0, false⟩ /- PWR_VSETTLE -/,
  ⟨0x8000000, [], 0x40000403, 0xFF000FC7, 0x0, 0x0, 0x0, false⟩ /- TWN_CFG -/,
  ⟨0x8000018, [], 0x2710, 0xFFFFFF, 0x0, 0x0, 0x0, false⟩ /- TWN_MATCH_WAIT -/,
  ⟨0x8200008, [], 0x1388, 0xFFFFFF, 0x0, 0x0, 0x0, false⟩ /- LRG_TMO -/,
  ⟨0x8200018, [], 0x10000, 0x0, 0x0, 0x0, 0x0, false⟩ /- LRG_LOAD_FREE -/]

/-- The row of the register at an address, if the manual gives it one. -/
def Reg.row (a : Nat) : Option RegRow := Reg.table.find? (fun r => r.covers a)

end Sys2Proof.Machine
end

