-- ==== Sys2Proof/Machine/Sparse.lean ====
section
/-! DEFINITION.  A memory kept as a list of (key, value) pairs in one canonical form: keys strictly rising, and no entry that
holds what an unlisted key reads as.  The register file, the array's memories, the HBM and the buffers of the device are
all kept in this form. -/

namespace Sys2Proof.Machine

/-- The value listed at key `k`, if any. -/
def Sparse.find {α : Type} : List (Nat × α) → Nat → Option α
  | [], _ => none
  | (a, v) :: r, k => if a = k then some v else Sparse.find r k

/-- The value at key `k`; an unlisted key reads as `d`. -/
def Sparse.get {α : Type} (d : α) (l : List (Nat × α)) (k : Nat) : α := (Sparse.find l k).getD d

/-- The list without key `k`. -/
def Sparse.erase {α : Type} (l : List (Nat × α)) (k : Nat) : List (Nat × α) := l.filter (fun e => e.1 != k)

/-- The pair `(k, v)` put before the first greater key. -/
def Sparse.insert {α : Type} : List (Nat × α) → Nat → α → List (Nat × α)
  | [], k, v => [(k, v)]
  | (a, u) :: r, k, v => if k < a then (k, v) :: (a, u) :: r else (a, u) :: Sparse.insert r k v

/-- Key `k` set to `v`, where an unlisted key reads as `d`. -/
def Sparse.put {α : Type} [DecidableEq α] (d : α) (l : List (Nat × α)) (k : Nat) (v : α) : List (Nat × α) :=
  if v = d then Sparse.erase l k else Sparse.insert (Sparse.erase l k) k v

/-- The keys rise strictly. -/
def Sparse.sorted {α : Type} : List (Nat × α) → Bool
  | [] => true
  | (a, _) :: r => r.all (fun e => decide (a < e.1)) && Sparse.sorted r

/-- The canonical form: keys strictly rising, and no entry equal to what its key reads as when it is not listed. -/
def Sparse.wf {α : Type} [DecidableEq α] (d : Nat → α) (l : List (Nat × α)) : Bool :=
  Sparse.sorted l && l.all (fun e => decide (e.2 ≠ d e.1))

/-- Keys `k`, `k + 1`, … set to the values of a list. -/
def Sparse.putList {α : Type} [DecidableEq α] (d : α) (l : List (Nat × α)) (k : Nat) : List α → List (Nat × α)
  | [] => l
  | v :: r => Sparse.putList d (Sparse.put d l k v) (k + 1) r

/-- The `n` values from key `k` on. -/
def Sparse.getList {α : Type} (d : α) (l : List (Nat × α)) (k n : Nat) : List α :=
  (List.range n).map (fun i => Sparse.get d l (k + i))

end Sys2Proof.Machine
end

