-- ==== Sys2Proof/Machine/State.lean ====
section
/-! DEFINITION.  The state of the block: the register file, every memory, buffer, counter, mode and pin that the manual
gives the device, and the queue of commands that wait.  All of it is plain data.  A part of the state that the manual
numbers sparsely (registers, memories, tables of like things) is kept as a canonical list of (key, value) pairs. -/

namespace Sys2Proof.Machine

/-- Why a run stops.  No meaning of this model faults: the constructor exists because the interface asks for a type, and
nothing raises it (safe). -/
inductive Fault where
  /-- Raised by nothing. -/
  | none
  deriving DecidableEq, Repr

/-- Why a command has no effect in this model. -/
inductive Refusal where
  /-- Raised by an arm of `exec` whose command has no meaning yet (safe). -/
  | notModelled (mnemonic : String)
  deriving DecidableEq, Repr

/-- A numbered family of values: a canonical list of pairs. -/
abbrev Pairs (α : Type) := List (Nat × α)

/-- What the device gives to the outside in answer to a command, in the order given. -/
inductive Output where
  /-- An MSI-X message of a vector (R502, R569). -/
  | msix (vec : Nat)
  /-- The completion of a read through a BAR: its data, or Completer Abort (R567, R568). -/
  | barData (data : List Byte)
  | completerAbort
  /-- A ring frame: TYPE, DST, SRC, BCAST, ARG and the data words (R571, R572). -/
  | ringFrame (type dst src : Nat) (bcast : Bool) (arg : Nat) (data : List Nat)
  /-- A frame passed on round the ring with STALL as it stands (R573, R579). -/
  | ringLoad (seq : Nat) (bytes : List Byte) (stall : Bool)
  /-- A general-plane request completes at its injection point: node, endpoint, tag, status and data units (R200, R203). -/
  | packetDone (node ep tag : Nat) (status : Status) (data : List (BitVec 256))
  /-- A general-plane MSG reaches its block: node, endpoint, MID, status and data units (R195, R199). -/
  | packetMsg (node ep : Nat) (mid : Mid) (status : Status) (data : List (BitVec 256))
  /-- An SMBus answer (R466). -/
  | smbus (bytes : List Byte)
  /-- An SMBus command or address that is not acknowledged (R466). -/
  | smbusNack
  /-- The SMBus target lets go of the bus (R465). -/
  | smbusRelease
  /-- A flash command sent on a port: opcode, address if any, dummy cycles, data sent (R467). -/
  | flash (port opcode : Nat) (addr : Option Nat) (dummy : Nat) (data : List Byte)
  /-- A debug transaction's answer: status "failed" or success with data (R455). -/
  | debug (ok : Bool) (data : Nat)
  /-- The identification or bypass bit shifted out by the TAP (R583 on). -/
  | tap (value : Nat)
  /-- A frame that a link engine sends: lane, FTYPE, SEQ, TURN, FIRST, KIND, VOTE and words (R255, R259, R262). -/
  | quireFrame (lane ftype seq turn first : Nat) (kind vote : Bool) (words : List Word64)
  /-- An ACK block: lane, ACKSEQ, NAK and CREDIT (R263). -/
  | quireAck (lane ackseq : Nat) (nak : Bool) (credit : Nat)
  /-- A word sent by a raw-mode engine (R267, R268). -/
  | rawWord (lane : Nat) (word : Word64)
  /-- An Ethernet frame without its FCS (R272, R275). -/
  | ethFrame (lane : Nat) (bytes : List Byte)
  /-- An MGT MSG delivered to a Librarian core: its bytes (R274, R275). -/
  | coreMsg (core : Nat) (bytes : List Byte)
  /-- A frame of the mirror port: KIND, ARG and data words (R539, R540). -/
  | twinFrame (kind arg : Nat) (words : List Word64)
  /-- A NOTICE for the twin partner: event and severity (R500, R541). -/
  | twinNotice (event sev : Nat)
  /-- An interrupt that rises at a core: its cause number (R454). -/
  | coreInterrupt (core cause : Nat)
  /-- A REG frame of the mirror port: a request or an answer (R561). -/
  | twinReg (frame : RegFrame)
  /-- An access fault or other exception a core takes: core, mcause, mtval (R456, R457). -/
  | coreException (core mcause mtval : Nat)
  deriving DecidableEq, Repr

/-- Chapter 1: clocks and pins of the device as a whole. -/
structure ClockSt where
  /-- Root clock cycles since the RPLL first locked (R344); C is a quarter of it. -/
  rootCnt : Nat
  /-- The RPLL runs (R18, R20). -/
  rpllOn : Bool
  /-- f_nom of the matched class of R19, in Hz; 0 for none. -/
  fnom : Nat
  /-- REFCLK0 is present and in the lock range (R22). -/
  refOk : Bool
  /-- PORST_N is low (R588). -/
  porst : Bool
  /-- The CFG_ERR_N pin is driven low (R20, R384). -/
  cfgErr : Bool
  /-- The boot ROM has stopped before loading (R29). -/
  bootStop : Bool
  /-- Core 0 has been through the RPLL lock of boot (R458 order 2). -/
  everLocked : Bool
  deriving DecidableEq, Repr

/-- A live comparator of the time unit (R362): the mode, the target and the period that ARM copied.  In TIME mode both
are in 2^-40 ns, in RAW mode in counts. -/
structure Comparator where
  raw : Bool
  periodic : Bool
  target : Int
  period : Nat
  deriving DecidableEq, Repr

/-- Chapter 11: the time unit's state beside its registers. -/
structure TimeSt where
  /-- Anchor time T0 in 2^-40 ns (R347). -/
  t0 : Int
  /-- Anchor count C0 (R347). -/
  c0 : Nat
  /-- PNOM in force in 2^-40 ns (R350); the period P in force stands in TU_PER_LO and TU_PER_HI. -/
  pnom : Nat
  /-- The servo's lock count (R355). -/
  lockCnt : Nat
  /-- Comparators armed since reset, by number; a comparator is live while its ARMED bit is 1. -/
  live : Pairs Comparator
  /-- Comparators that fired since the time bits were last latched (R86, R366). -/
  firedSince : BitVec 16
  /-- Comparator pin pulses now high: comparator to pin b × 24 + p (R366). -/
  pulses : Pairs Nat
  /-- The dispatcher tick's period in counts (R369). -/
  tickCounts : Nat
  /-- C mod (MULT ÷ 4) at REFCLK0's rising edges (R361). -/
  refPhase : Nat
  deriving DecidableEq, Repr

/-- A binding of a dispatcher task (R472, R479). -/
structure TaskBind where
  core : Nat
  prio : Nat
  all : Bool
  consume : Bool
  deriving DecidableEq, Repr

/-- A place in the delay list: under TIMEOUT or SLEEP, and the ticks left (R474). -/
structure TaskDelay where
  timeout : Bool
  count : Nat
  deriving DecidableEq, Repr

/-- A dispatcher task (R472). -/
structure Task where
  bind : TaskBind
  /-- A BIND of the running task, in force when it stops running (R476). -/
  nextBind : Option TaskBind
  active : Bool
  flags : Word32
  mask : Word32
  delay : Option TaskDelay
  /-- Its TIMEOUT delay expired, to be reported as EXPIRED at its next take (R474). -/
  expired : Bool
  /-- It was preempted, to be reported as RESUMED at its next take (R475). -/
  resumed : Bool
  deriving DecidableEq, Repr

/-- A task after PORST_N and after RESET (R472). -/
def Task.reset : Task :=
  { bind := { core := 0, prio := 15, all := true, consume := false }, nextBind := none, active := false,
    flags := 0, mask := 0, delay := none, expired := false, resumed := false }

/-- Chapter 15: the task dispatcher (R472 to R479). -/
structure DispatcherSt where
  tasks : Pairs Task
  /-- Ready tasks in order of entry; a core's queue of a priority is the part bound to both. -/
  queue : List Nat
  /-- The delay list in order of entry (R474). -/
  delayList : List Nat
  /-- The running task of core 0 and of core 1. -/
  running : Pairs (Option Nat)
  /-- DSP_ARG and the last status of each of the four MIDs (R479). -/
  arg : Pairs Word32
  stat : Pairs Status
  /-- DSP_NEXT and DSP_NEXT_FLAGS of each core. -/
  next : Pairs Word32
  nextFlags : Pairs Word32
  deriving DecidableEq, Repr

/-- A record of the trouble log (R468). -/
structure LogRec where
  kind : Nat
  sev : Nat
  seq : Nat
  count : Nat
  time : Int
  code : Nat
  mid : Nat
  payload : List Nat
  deriving DecidableEq, Repr

/-- A flash command that waits or runs (R467). -/
structure FlashCmd where
  ctrl : Word32
  addr : Nat
  deriving DecidableEq, Repr

/-- Chapter 15: the Librarian's cores, memories, log and flash engine beside their registers. -/
structure LibrarianSt where
  /-- Core 1 is held in reset (R452). -/
  c1Held : Bool
  /-- Address at which each core last started (R452). -/
  entry : Pairs Nat
  /-- A core is halted in debug mode (R455). -/
  halted : Pairs Bool
  /-- Core 0 is in the ROM, waiting for firmware to arrive (R460). -/
  romWait : Bool
  /-- SRAM words (R453). -/
  sram : Pairs Word32
  /-- The trouble log's records by SEQ mod 256 (R470). -/
  log : Pairs LogRec
  /-- Records dropped since the last record appended (R470). -/
  dropped : Nat
  flash : Option FlashCmd
  /-- Physical flash ranges protected under R467: port, first byte and length. -/
  flashGuard : List (Nat × Nat × Nat)
  /-- Raw count at which each watchdog's count started (R462), and what it had counted when its core was halted (R455). -/
  wdtStart : Pairs Nat
  wdtUsed : Pairs Nat
  /-- A bit of each sensor's present alarm condition (R464): TS00–TS47, VM00–VM23, CM0–CM7. -/
  alarm : Pairs Bool
  /-- VERSION of the firmware now running (R459, R468). -/
  fwVersion : Nat
  /-- Core 0 takes firmware from the FALLBACK entry, after the ACTIVE one failed (R458 order 6); firmware bytes that have come
  through the FIFO or the ring. -/
  fwSecond : Bool
  fwBuf : List Byte
  /-- The raw count's upper half as each core latched it, the compare values and the software interrupts (R454). -/
  mtimeHi : Pairs Word32
  mtimecmp : Pairs Word64
  msip : Pairs Bool
  deriving DecidableEq, Repr

/-- One direction's slot of a carrel (R484). -/
structure Slot where
  words : Pairs Word32
  len : Nat
  tag : BitVec 16
  epoch : BitVec 8
  full : Bool
  /-- CRL_TMO as it stood at the post, and whether this post has timed out (R492). -/
  tmo : Nat
  timed : Bool
  deriving DecidableEq, Repr

/-- An empty slot (R484). -/
def Slot.reset : Slot := { words := [], len := 0, tag := 0, epoch := 0, full := false, tmo := 0, timed := false }

/-- One end of a carrel: its epoch (R494) and the CODE and REPLY of its last post (R490, R492). -/
structure CarrelEnd where
  epoch : BitVec 8
  code : Status
  reply : BitVec 16
  deriving DecidableEq, Repr

/-- An end after PORST_N. -/
def CarrelEnd.reset : CarrelEnd := { epoch := 0, code := 0, reply := 0 }

/-- Chapter 16: the carrels.  End 2c is end A of carrel c and end 2c + 1 its end B; slot 2c is the slot end A fills and
slot 2c + 1 the slot end B fills. -/
structure CarrelSt where
  slots : Pairs Slot
  ends : Pairs CarrelEnd
  deriving DecidableEq, Repr

/-- Who waits for the completion of an access: the sender of a command that names its MID itself, a host request through a BAR,
a ring request of another device by tag and source, the twin partner, or a debug transaction. -/
inductive Origin where
  | direct | bar (id : Nat) | ring (tag src : Nat) | twin | debug
  deriving DecidableEq, Repr

/-- What a held request asks for: nothing more than the wake, a register access, an access to the HBM with what the controller
will find in its words, or the passage of a general-plane packet. -/
inductive HeldAccess where
  | bare
  | reg (addr : Nat) (write : Option Word32)
  | hbmRead (addr count : Nat) (ecc : List EccFind)
  | hbmWrite (addr : Nat) (bytes : List (Byte × Bool)) (ecc : List EccFind)
  | packet (id : Nat)
  deriving DecidableEq, Repr

/-- An access held at the fence of a domain that is off (R28, R210, R517). -/
structure HeldReq where
  dom : Nat
  mid : Mid
  access : HeldAccess
  origin : Origin
  deriving DecidableEq, Repr

/-- Chapter 17: the power manager beside its registers. -/
structure PowerSt where
  /-- The device state being entered, or the state being left (R521). -/
  target : Nat
  source : Nat
  /-- Domains re-enabled in ISOLATED, to be woken when they reach OFF (R518), with the MID of the enable. -/
  rewake : Pairs (Option Mid)
  /-- Domains whose REQ was written 0 while they were waking (R518). -/
  shutAfter : List Nat
  held : List HeldReq
  /-- A level change waits for the voltage: the level before it (R529). -/
  oldLevel : Option Nat
  /-- VSEL[1:0] (R528), and the level it returns to after DEEP or OFF. -/
  vsel : Nat
  /-- The step clock's gate of R527 is closed. -/
  gated : Bool
  /-- The exit source and its index, while the device is LEAVING (R525). -/
  exitSrc : Nat
  exitIdx : Nat
  /-- The temperature conditions of R531 now present: at or above 95, 105, 115 °C. -/
  talarm : Bool
  tshut : Bool
  /-- SEQ_CFG.LEVEL's divider in force. -/
  divider : Nat
  deriving DecidableEq, Repr

/-- A ring request that waits for its RSP, or for the end of an enumeration (R575, R577): its tag, target and register, the value
of a write, and the BAR request it belongs to. -/
structure RingReq where
  tag : Nat
  dst : Nat
  addr : Nat
  write : Option Word32
  bar : Nat
  deriving DecidableEq, Repr

/-- A host request inside the device (R567, R568, R570): its number, BAR and offset, whether it writes, the parts still to complete,
and the first failing status and the data of those that have. -/
structure BarReq where
  id : Nat
  bar : Nat
  offset : Nat
  write : Bool
  parts : Nat
  status : Status
  data : List Byte
  deriving DecidableEq, Repr

/-- Chapter 19: the host interface and the Ledger ring beside their registers. -/
structure HostSt where
  /-- MSI-X enabled in the capability, and Bus Master Enable (R569). -/
  msixEnable : Bool
  busMaster : Bool
  /-- Host requests inside the device, and the number of the next. -/
  bars : List BarReq
  nextBar : Nat
  /-- The request that AER has logged, by BAR and offset (R568). -/
  aer : Option (Nat × Nat)
  /-- Ring requests outstanding, oldest first, and BAR2 requests held (R575, R577). -/
  reqs : List RingReq
  heldBar2 : List RingReq
  /-- LRG_EVTQ: device, severity, event (R578). -/
  evtq : List (Nat × Nat × Nat)
  /-- An enumeration of this head waits for its requests, or its ENUM frame is on the ring (R575). -/
  enumWait : Bool
  enumSent : Bool
  /-- The number this device last held (R574). -/
  lastNum : Nat
  /-- Broadcast load of the head: bytes waiting in the aperture, next SEQ, frames unreturned (R579). -/
  loadBuf : List Byte
  loadSeq : Nat
  loadSent : List (Nat × List Byte)
  /-- The SEQ expected next by a device that takes LOAD frames (R579). -/
  loadExp : Nat
  deriving DecidableEq, Repr

/-- A live entry of the ownership table (R170): class, owner code, SHARED, first index and count. -/
structure OwnEntry where
  cls : Nat
  owner : Nat
  shared : Bool
  first : Nat
  count : Nat
  deriving DecidableEq, Repr

/-- Chapter 5: the ownership table in force and the run-time claims (R170 to R173). -/
structure OwnSt where
  table : List OwnEntry
  /-- Run-time claims: class × 65,536 + index to the holder's MID. -/
  claims : Pairs (Option Mid)
  /-- The physical sorus behind each virtual one (R72, R74); 0xFF for none.  LDR_MAP shows it while the loader's domain
  keeps its registers (R513). -/
  map : Pairs Nat
  deriving DecidableEq, Repr

/-- An entry of the section table (R162). -/
structure ImgSection where
  kind : Nat
  vsorus : Nat
  dtag : Nat
  offset : Nat
  length : Nat
  deriving DecidableEq, Repr

/-- An entry of the flash directory (R376). -/
structure DirEntry where
  kind : Nat
  slot : Nat
  active : Bool
  fallback : Bool
  offset : Nat
  length : Nat
  deriving DecidableEq, Repr

/-- An entry of a start-up program (R388). -/
structure ProgEntry where
  op : Nat
  goOn : Bool
  tmo : Nat
  arg : Nat
  deriving DecidableEq, Repr

/-- A partial load, swap or repair under way (R397 to R407): its kind (1 paged, 2 full-depth, 3 swap, 4 repair, as MR3 numbers
them), region, named turn, HOLD, virtual sorus and MARK; the stage it has reached (phases of R383: 2, 4, 6, 7, 8, and 9 once its
change is set for a boundary); the identity or folio digest; its ownership entries; whether its region has halted; and what a
paged load holds for the swap: slot-patch units and SORCFG units by sorus. -/
structure Change where
  kind : Nat
  mask : Nat
  due : Option Nat
  hold : Bool
  vs : Nat
  mark : Bool
  stage : Nat
  identity : List Byte
  own : List OwnEntry
  halted : Bool
  patches : List (Bool × Nat × Nat × Word64)
  offsets : List (Nat × Nat × Word64)
  deriving DecidableEq, Repr

/-- Chapter 12: the loader beside its registers. -/
structure LoaderSt where
  /-- The phase of R383 that the loader is in; LDR_STATUS.PHASE shows it. -/
  phase : Nat
  /-- The physical sorus a repair writes (R406). -/
  target : Option Nat
  change : Option Change
  /-- Source of the stream being taken, directory entry, and a fallback already made (R394, R397). -/
  src : Nat
  index : Nat
  fellBack : Bool
  /-- Bytes of the stream taken so far, the place of the next frame and the SEQ it should have (R160, R165). -/
  image : List Byte
  pos : Nat
  nextSeq : Nat
  sections : List ImgSection
  /-- The flash directory in use (R376). -/
  entries : List DirEntry
  /-- Bytes that have arrived and have not been taken: 1 the FIFO, 2 the ring, 3 the twin partner (R382, R579, R560). -/
  stream : Pairs (List Byte)
  /-- The start-up program, the entry reached, and DONE released (R384, R390). -/
  prog : List ProgEntry
  progAt : Nat
  doneOut : Bool
  /-- The leader pauses the flash bus, or its listener waits with it (R380). -/
  paused : Bool
  /-- The HBM section is checked and the PHY trains (R339, R383). -/
  training : Bool
  /-- The bank configuration held for OUT (R599), and ACQ_CTRL as the image gives it (R321). -/
  iobHeld : List (Nat × Word32)
  acqCtrl : Word32
  /-- FOLIO digests by virtual sorus (R387), and the lengths of the sections. -/
  folios : Pairs (List Byte)
  folioLen : Pairs Nat
  /-- Nodes whose route table ROUTE frames of this load have written (R197). -/
  routed : Pairs Bool
  deriving DecidableEq, Repr

/-- Chapter 13: the security block beside its registers. -/
structure SecSt where
  /-- The thermometer's fuses (R419). -/
  therm : BitVec 64
  /-- Key slot and VERSION of the running firmware and full image; slot 0xFF in the open state (R424). -/
  fw : Option (Nat × Nat)
  img : Option (Nat × Nat)
  /-- The command that runs, its SEC_CMD_ARG and the SEC_EXT it took (R427). -/
  cmd : Option (Nat × Word32 × List Byte)
  /-- The report being signed, and the report counter (R424, R425). -/
  report : List Byte
  counter : Nat
  deriving DecidableEq, Repr

/-- Chapter 20: the pins of the I/O banks and the test access port beside their registers.  Pin p of bank b is bit
b × 24 + p. -/
structure IobSt where
  /-- The loader has applied the banks' configuration at OUT and no load has begun since (R384, R599). -/
  active : Bool
  /-- The level at each ball at the last sample (R598). -/
  ball : BitVec 192
  /-- The last captures of the input registers, newest first (R90). -/
  captures : List (BitVec 192)
  /-- The three stages of the output pipeline and the pin output registers (R88): values, and the pins in their safe state
  (R594). -/
  stage1 : BitVec 192
  stage2 : BitVec 192
  stage3 : BitVec 192
  outReg : BitVec 192
  safe1 : BitVec 192
  safe2 : BitVec 192
  safe3 : BitVec 192
  safeReg : BitVec 192
  /-- The accept registers ACC0 to ACC15, and as they stood one step earlier (R88, R290). -/
  accept : BitVec 16
  acceptOld : BitVec 16
  /-- Consecutive samples of VCCIOn outside ±8 % of VNOM, by bank (R595). -/
  badRun : Pairs Nat
  /-- The TAP's instruction, whether an instruction that takes the pins was turned into BYPASS and Capture-IR has not yet
  reported it, and the boundary register's cells of the user pins (R612, R613). -/
  tapIr : Nat
  tapBlocked : Bool
  cells : BitVec 192
  deriving DecidableEq, Repr

/-- A drive of one wire in the step being executed (R50 to R55): the wire's number in its frond, the driving BP, the value
and the DST field.  Wires 0–63 are the frond bus, 64–127 the sorus-lane sources, 128–191 the outbound port bits, 192–319 the
probe channels, and 320 + (memory × 2 + port) × 64 + field the fields of the memory ports. -/
structure Drive where
  wire : Nat
  bp : Nat
  val : Bool
  dst : Nat
  deriving DecidableEq, Repr

/-- A slot write that takes effect at the end of the step (R45). -/
structure SlotWrite where
  sorus : Nat
  frond : Nat
  bp : Nat
  slot : Nat
  val : Bool
  deriving DecidableEq, Repr

/-- A fault detected in the step being executed (R64, R65, R71). -/
structure FaultRec where
  sorus : Nat
  cause : Nat
  frond : Nat
  bp : Nat
  step : Nat
  turn : Nat
  page : Bool
  field : Nat
  value : Nat
  deriving DecidableEq, Repr

/-- An access that a block-memory port issued in the previous step (R93, R94), and the page of its step. -/
structure BmAccess where
  addr : Nat
  re : Bool
  we : Bool
  data : BitVec 36
  page : Bool
  deriving DecidableEq, Repr

/-- Chapters 2 and 3: the array beside its register windows.  Sorus Sn, frond Ff has number n × 16 + f; BP b of it has
number (n × 16 + f) × 64 + b; memory m, port p of Sn has number n × 64 + m × 2 + p. -/
structure ArraySt where
  /-- Instruction words with their check bits in [71:64], by BP × 1,024 + word (R36, R37). -/
  imem : Pairs (BitVec 72)
  /-- The frond bus as driven in the last executed step, by frond (R50, R51). -/
  bus : Pairs Word64
  /-- Sorus-lane sources driven in the last step and in the one before (R79), and the page of the last step (R80). -/
  laneSrc : Pairs Word64
  laneOld : Pairs Word64
  lanePage : Pairs Bool
  /-- Sorus lane inputs as they read in this step, and those delivered for the next (R79). -/
  laneIn : Pairs Word64
  laneNext : Pairs Word64
  /-- Outbound port bits (R53) and inbound port bits (R84), by frond; the valid bits are window registers. -/
  outBits : Pairs Word64
  portIn : Pairs Word64
  /-- Arrival tag of inbound position n × 256 + p, and the turn offset the folio gives it (R133). -/
  posTag : Pairs (Option (BitVec 8))
  xoff : Pairs (Option Nat)
  /-- Bits of inbound positions as last landed, by sorus n × 4 + group (R192). -/
  posBits : Pairs Word64
  /-- The probe map: n × 4,096 + page × 2,048 + f × 128 + c (R55, R167), and the probe channels of this turn by frond. -/
  probeMap : Pairs Word32
  probe : Pairs (BitVec 128)
  /-- Sori that voted 0 in this turn (R56), that recorded a fault in this turn (R67), that the Conservator asks to freeze
  (R442), and sori halted for a full-depth load with their HOLD (R401). -/
  voted0 : Pairs Bool
  faulted : Pairs Bool
  essFreeze : Pairs Bool
  halted : Pairs (Option Bool)
  /-- BPs that have executed in the step being executed, the drives of each frond in it, slot writes and faults. -/
  ran : Pairs Bool
  drives : Pairs (List Drive)
  slotWrites : List SlotWrite
  faults : List FaultRec
  /-- Block-memory accesses issued in the previous step, read-data registers, and reads performed in this step. -/
  bmPend : Pairs (Option BmAccess)
  rdReg : Pairs (BitVec 36)
  landed : List (Nat × Bool)
  /-- The staging word of each sorus window (R108). -/
  staging : Pairs (BitVec 72)
  /-- SORCFG words as the loader wrote them, by sorus × 80 + word (R167). -/
  sorcfg : Pairs Word32
  /-- The consumer table's slots (R169). -/
  consumers : Pairs Word64
  deriving DecidableEq, Repr

/-- The array after PORST_N.
(DESIGN CHOICE, log 123.) -/
def ArraySt.reset : ArraySt :=
  { imem := [], bus := [], laneSrc := [], laneOld := [], lanePage := [], laneIn := [], laneNext := [], outBits := [],
    portIn := [], posTag := [], xoff := [], posBits := [], probeMap := [], probe := [], voted0 := [], faulted := [], essFreeze := [],
    halted := [], ran := [], drives := [], slotWrites := [], faults := [], bmPend := [], rdReg := [], landed := [],
    staging := [], sorcfg := [], consumers := [] }

/-- A command that waits for its boundary (R138, R139): its code, the turn whose beginning it names (none for the next
boundary), and its level. -/
structure SeqCmd where
  code : Nat
  turn : Option Nat
  level : Nat
  deriving DecidableEq, Repr

/-- Chapter 4: the sequencer beside its registers. -/
structure SeqSt where
  turn : Nat
  step : Nat
  cmd : Option SeqCmd
  /-- Turns that a STEP has still to run (R138); none outside a stepped run. -/
  stepLeft : Option Nat
  /-- The start condition has been met and turn 0, or the first turn after a stop, has not begun (R118, R119). -/
  startMet : Bool
  /-- An overrun was detected in this turn (R123), and the vote of the whole turn was 0 (R124, R127). -/
  overrun : Bool
  vote0 : Bool
  /-- A stop asked for by the thermal shutdown waits for its boundary (R141). -/
  thermal : Bool
  /-- Cause bits that held during this stall, and that the long-stall event was raised for it (R129). -/
  heldCauses : Nat
  longSeen : Bool
  /-- GO of this turn has arrived, with its vote; READY of children, with their votes, by link (R134). -/
  go : Option Bool
  ready : Pairs (Option Bool)
  /-- READY of this turn was sent (R134). -/
  sentReady : Bool
  /-- The link groups of the barrier tree: the parent's and the children's (R134, R255). -/
  parent : Option Nat
  children : List Nat
  /-- The capture's data as recorded at its boundary, not yet copied: byte offset in the slot and bytes (R142 to R146). -/
  snap : List (Nat × List Byte)
  snapTurn : Nat
  snapSlot : Nat
  /-- Cross-device words sent in this turn and not yet acknowledged (R126 LINK). -/
  unacked : Nat
  /-- A throttle stall is requested (R126 THROTTLE, R531). -/
  throttle : Bool
  /-- The probe record of this turn has not been accepted (R126 PROBE). -/
  probeWait : Bool
  deriving DecidableEq, Repr

/-- The sequencer after PORST_N (R113: UNLOADED).
(DESIGN CHOICE, log 123.) -/
def SeqSt.reset : SeqSt :=
  { turn := 0, step := 0, cmd := none, stepLeft := none, startMet := false, overrun := false, vote0 := false,
    thermal := false, heldCauses := 0, longSeen := false, go := none, ready := [], sentReady := false,
    parent := none, children := [], snap := [], snapTurn := 0, snapSlot := 0, unacked := 0, throttle := false,
    probeWait := false }

/-- A request of a sorus memory port (R329 to R335): the port's sorus and issue entry, the virtual sorus it fired for, the turn,
step and page of the issue, executed steps since then, its tag while it crosses the Rhizome as a packet (elastic mode), what the
controller will find in its word, and the response once present. -/
structure PortReq where
  sorus : Nat
  entry : Nat
  virt : Nat
  turn : Nat
  step : Nat
  page : Bool
  age : Nat
  write : Option Word64
  addr : Nat
  tag : Option Nat
  ecc : EccFind
  /-- Its sorus stopped executing: the response is discarded (R329). -/
  dead : Bool
  /-- Its command slot has passed (R334). -/
  served : Bool
  /-- It was injected, and counts in RZ_OUTST until it leaves the port (R200). -/
  counted : Bool
  /-- The region whose OUTST counts it (R327). -/
  region : Option Nat
  resp : Option (Status × Word64)
  deriving DecidableEq, Repr

/-- Chapter 10: the HBM stack and controller beside the registers.  Words are 8 bytes, by address ÷ 8. -/
structure HbmSt where
  words : Pairs Word64
  reqs : List PortReq
  /-- Refreshes issued to each pseudo-channel (R336). -/
  refreshes : Pairs Nat
  deriving DecidableEq, Repr

/-- The stack and the controller after PORST_N. -/
def HbmSt.reset : HbmSt := { words := [], reqs := [], refreshes := [] }

/-- A scheduled-plane unit (R186): where it stands (input 0 north, 1 east, 2 south, 3 west of its node, or 4 in the landing
buffer), its payload words and its sideband. -/
structure SpUnit where
  node : Nat
  input : Nat
  kind : Nat
  words : Nat
  valid : Nat
  quad : Nat
  tag : Word32
  age : Nat
  epoch : Nat
  w0 : Word64
  w1 : Word64
  w2 : Word64
  w3 : Word64
  deriving DecidableEq, Repr

/-- What is to land at the end of the step (R192, R331). -/
inductive Landing where
  /-- Bits of an inbound group of a virtual sorus: the positions, their bits, the tag, and whether a memory port releases them. -/
  | group (v g : Nat) (mask bits : Word64) (tag : Option (BitVec 8)) (port : Bool) (epoch : Nat)
  /-- A lane word at the gateway of a virtual sorus. -/
  | lane (v lane : Nat) (word : Word64) (valid : Bool) (epoch : Nat)
  /-- A word for the transmit side of lane 4q + w. -/
  | engine (lane : Nat) (word : Word64) (valid : Bool) (epoch : Nat)
  deriving DecidableEq, Repr

/-- A general-plane packet in flight (R194): the node it stands at, links crossed, its epoch, an uncorrectable data unit
found (R199), whether it is held at a fence (R210), and whether it has reached its endpoint. -/
structure Flight where
  pkt : Packet
  node : Nat
  hops : Nat
  epoch : Nat
  marked : Bool
  held : Bool
  arrived : Bool
  deriving DecidableEq, Repr

/-- A request that an endpoint holds outstanding (R200, R203). -/
structure RzTag where
  mid : Mid
  addr : Nat
  write : Bool
  timedOut : Bool
  deriving DecidableEq, Repr

/-- Chapter 6: the Rhizome beside its registers. -/
structure RzSt where
  units : List SpUnit
  /-- The scheduled plane has advanced in this step. -/
  advanced : Bool
  landings : List Landing
  flights : Pairs (Option Flight)
  nextId : Nat
  /-- Outstanding requests by (node × 8 + endpoint) × 1,024 + tag. -/
  tags : Pairs (Option RzTag)
  /-- Packets that wait at an injection point for tokens: node × 8 + endpoint, and the packet (R204). -/
  waiting : List (Nat × Packet)
  /-- Raw count of the last refill of a bucket, by (node × 8 + endpoint) × 2, REQ then MGT (R204). -/
  refilled : Pairs Nat
  deriving DecidableEq, Repr

/-- The Rhizome after PORST_N.
(DESIGN CHOICE, log 123.) -/
def RzSt.reset : RzSt :=
  { units := [], advanced := false, landings := [], flights := [], nextId := 0, tags := [], waiting := [], refilled := [] }

/-- Chapter 7: the serial lanes beside their registers, by window. -/
structure LaneSt where
  /-- The transmit taps in use, as LN_TXFIR lays them out (R232). -/
  taps : Pairs Word32
  /-- An eye scan runs (R234). -/
  scan : Pairs Bool
  /-- The receive buffer has slipped since it was centred at CDR lock (R229, R230). -/
  slipped : Pairs Bool
  deriving DecidableEq, Repr

/-- The lanes after PORST_N. -/
def LaneSt.reset : LaneSt := { taps := [], scan := [], slipped := [] }

/-- A delivered word that waits for its release, and the executed steps left until it (R249). -/
structure LinkWord where
  value : Word64
  valid : Bool
  tag : Option (BitVec 8)
  wait : Nat
  deriving DecidableEq, Repr

/-- A word of a group received for PLAN release, by turn and index (R250). -/
structure PlanWord where
  turn : Nat
  index : Nat
  value : Word64
  intact : Bool
  deriving DecidableEq, Repr

/-- A word taken for transmission, by turn and index (R259). -/
structure TxWord where
  turn : Nat
  index : Nat
  value : Word64
  deriving DecidableEq, Repr

/-- A frame sent and kept until it is acknowledged (R264): FTYPE, the header's bits [63:12], its words, and the turn it was
sent in. -/
structure TxFrame where
  ftype : Nat
  seq : Nat
  turn : Nat
  first : Nat
  kind : Bool
  vote : Bool
  words : List Word64
  deriving DecidableEq, Repr

/-- An Ethernet frame of the firmware that waits to be sent (R275). -/
structure EthJob where
  core : Nat
  tag : Nat
  wantTs : Bool
  bytes : List Byte
  deriving DecidableEq, Repr

/-- A link engine beside its registers; of a bonded group, the base lane's engine holds the group's state (R246). -/
structure LinkEng where
  /-- Block lock, or a comma found, on this lane (R253, R267). -/
  blockLock : Bool
  /-- The output register (R248): the last word released, its flag and its arrival tag. -/
  outWord : Word64
  outValid : Bool
  outTag : Option (BitVec 8)
  /-- Words that wait for release under ARRIVAL, and words of the plan under PLAN. -/
  waiting : List LinkWord
  plan : List PlanWord
  /-- A release has been made in this step, and the word of this step has been taken. -/
  released : Bool
  took : Bool
  /-- UP fell in this step: the output register's flag clears from the next (R252). -/
  fell : Bool
  /-- A word has landed for transmission and has not been taken. -/
  txNew : Bool
  /-- The word the next frame should begin with (R260); none before the first frame after UP. -/
  rxNext : Option (Nat × Nat)
  /-- First turn of the measurement, and the largest latency so far (R261). -/
  alignFrom : Nat
  maxLat : Nat
  /-- The word last landed for transmission (R192), its flag, and the words taken (R259). -/
  txIn : Word64
  txValid : Bool
  txWords : List TxWord
  /-- BAR frames that wait: KIND, VOTE and turn (R266). -/
  bars : List (Bool × Bool × Nat)
  /-- Reliable mode: frames not acknowledged, replays without progress, the SEQ expected, a NAK sent, blocks freed since the
  last ACK (R263, R264). -/
  replay : List TxFrame
  retries : Nat
  rxSeq : Nat
  refused : Bool
  freed : Nat
  /-- The IPv4 identification of the next datagram (R272), and firmware's frames that wait (R275). -/
  ipId : Nat
  jobs : List EthJob
  deriving DecidableEq, Repr

/-- A link engine after PORST_N.
(DESIGN CHOICE, log 123.) -/
def LinkEng.reset : LinkEng :=
  { blockLock := false, outWord := 0, outValid := false, outTag := none, waiting := [], plan := [], released := false,
    took := false, fell := false, txNew := false, rxNext := none, alignFrom := 0, maxLat := 0, txIn := 0, txValid := false, txWords := [], bars := [],
    replay := [], retries := 0, rxSeq := 0, refused := false, freed := 0, ipId := 0, jobs := [] }

/-- A word handed to the acquisition engine (R248, R255): the lane, the word, its flag, whether it found the lane's input queue
full (R287), and the turn of the READOUT frame that brought it, if one did. -/
structure AcqWord where
  lane : Nat
  value : Word64
  valid : Bool
  full : Bool
  readout : Option Nat
  deriving DecidableEq, Repr

/-- A lane in the acquisition engine (R283, R286, R298, R299): words delivered since EN rose, the last cycle position, the stop
index, the last four runs of dropped words, newest first, and the first index that this twin holds (R558). -/
structure AcqLane where
  count : Nat
  pos : Option Nat
  stop : Option Nat
  gaps : List (Nat × Nat)
  since : Nat
  deriving DecidableEq, Repr

/-- A lane after PORST_N. -/
def AcqLane.reset : AcqLane := { count := 0, pos := none, stop := none, gaps := [], since := 0 }

/-- A pending record (R301 to R303): its class with the class's registers as latched, SEQ, trigger turn, step and time, and for
each lane the index N_T and the residual phase. -/
structure AcqRec where
  cls : Nat
  seq : Nat
  turn : Nat
  step : Nat
  time : Int
  cfg : Word32
  win : Word32
  meas : Nat
  lanes : List (Nat × Nat × Nat)
  complete : Bool
  incomplete : Bool
  deriving DecidableEq, Repr

/-- A probe buffer (R312): the HBM address of the record and of its turn word, none where the ring was frozen, the turn and
the record's bits. -/
structure ProbeBuf where
  place : Option (Nat × Nat)
  turn : Nat
  bits : Nat
  deriving DecidableEq, Repr

/-- A dump or clear that runs (R294): whether it copies, ACQ_DUMP_CFG and ACQ_DUMP_BASE. -/
structure AcqJob where
  copy : Bool
  cfg : Word32
  base : Nat
  deriving DecidableEq, Repr

/-- Chapter 9: the acquisition engine beside its registers. -/
structure AcqSt where
  /-- Words handed over and not yet captured. -/
  inbox : List AcqWord
  lanes : Pairs AcqLane
  /-- The context store (R285, R289). -/
  ctx : Pairs (BitVec 512)
  /-- The context that a window read latched, and the staged bytes of window writes (R296). -/
  latch : Option (Nat × BitVec 512)
  staged : BitVec 512
  job : Option AcqJob
  nextSeq : Nat
  recs : List AcqRec
  /-- READOUT frames that wait for credit: base lane, turn and words (R309). -/
  readout : List (Nat × Nat × List Word64)
  /-- Classes that have triggered in this step. -/
  triggered : Pairs Bool
  probes : List ProbeBuf
  /-- Records until the ring freezes, and the unit (R313). -/
  freeze : Option (Nat × Nat)
  deriving DecidableEq, Repr

/-- The acquisition engine after PORST_N.
(DESIGN CHOICE, log 60 and 123.) -/
def AcqSt.reset : AcqSt :=
  { inbox := [], lanes := [], ctx := [], latch := none, staged := 0, job := none, nextSeq := 0, recs := [], readout := [],
    triggered := [], probes := [], freeze := none }

/-- A record of the Conservator's queue (R443, R450). -/
structure CnsRec where
  w0 : Word32
  w1 : Word32
  w2 : Word32
  w3 : Word32
  deriving DecidableEq, Repr

/-- An entry of the recurrence table (R444): location, count, and whether it was corrected since its pass or walk began. -/
structure Recur where
  loc : Nat
  count : Nat
  seen : Bool
  deriving DecidableEq, Repr

/-- Chapter 14: the Conservator beside its registers. -/
structure CnsSt where
  /-- It has started at an OUT phase (R433). -/
  started : Bool
  recs : List CnsRec
  /-- Words whose correction waits for the port's next slot, by imem key: true for a restoration (R436, R437). -/
  pend : Pairs (Option Bool)
  /-- Locations with an injected error not yet found (R448). -/
  injected : Pairs Bool
  /-- Turn of the last clean check of a location (R443). -/
  clean : Pairs Nat
  /-- Word that the scrub port of a BP reads next (R435). -/
  walk : Pairs Nat
  recur : List Recur
  /-- Raw count at which the pass began, and the sori skipped or changed within it (R438, R446). -/
  passStart : Nat
  /-- Nodes whose slot tables, and at 64 + n whose route tables, an agent other than the loader has written (R432). -/
  touched : Pairs Bool
  deriving DecidableEq, Repr

/-- The Conservator after PORST_N.
(DESIGN CHOICE, log 123.) -/
def CnsSt.reset : CnsSt :=
  { started := false, recs := [], pend := [], injected := [], clean := [], walk := [], recur := [], passStart := 0, touched := [] }

/-- A turn in the twin unit's history (R547, R548): its number, digest and HEALTH, and whether its HB has arrived (R550). -/
structure TwinTurn where
  turn : Nat
  digest : Word64
  health : Bool
  met : Bool
  deriving DecidableEq, Repr

/-- Chapter 18: the twin unit beside its registers. -/
structure TwinSt where
  /-- Coverage of the digest and persistent words, by v × 16 + f, (v × 16 + f) × 4 + j and v (R546). -/
  outMask : Pairs Word64
  pslot : Pairs Word64
  pbm : Pairs Word32
  /-- The digest of this turn as folded so far, the last 64 turns, newest first, and HEALTH of this turn fallen (R547, R548). -/
  crc : Word64
  hist : List TwinTurn
  sick : Bool
  /-- The twin refused the pair; it stays unpaired until the link falls and rises (R542). -/
  refused : Bool
  /-- A change of ownership that is set: taken or released from the beginning of this turn on (R551, R552). -/
  ownPlan : Option (Bool × Nat)
  /-- The OWNER output: its level, and the steps until it loads OWN (R536). -/
  pin : Bool
  pinWait : Option Nat
  /-- Turn of the last HB arrival, or of the pairing, and the miss count (R550); the turn whose HB was last sent (R541). -/
  heard : Nat
  miss : Nat
  hbSent : Option Nat
  /-- TWN_NOTICE: event and severity (R541). -/
  notices : List (Nat × Nat)
  /-- A HANDOVER of the owner waits for HO_ACK, for this turn (R552). -/
  handover : Option Nat
  /-- A PING that waits for its ECHO: its ARG and the count at its arrival (R555). -/
  ping : Option (Word32 × Nat)
  /-- The receiver waits for the edge of turn J0: the turn and the count (R555); J0, J, and whether its writes to persistent words
  are suppressed. -/
  align : Option (Nat × Nat)
  j0 : Nat
  joinAt : Option Nat
  suppress : Bool
  agreed : Nat
  /-- Sender: bytes of the SNAP stream and mirrored blocks not yet sent; receiver: bytes of the stream received (R556). -/
  snap : List Byte
  blocks : List Nat
  /-- Log entries not yet sent (R553, R557). -/
  log : List (Word64 × Word64)
  /-- Persistent words that the receiver wrote at or after J, by KIND and the place in the entry (R557). -/
  wrote : Pairs Bool
  /-- Offsets that the receiver's acquisition engine adds to SEQ and to word indices (R558). -/
  seqOff : Int
  idxOff : Pairs Int
  /-- A partner register access waits for its answer (R561). -/
  racc : Bool
  deriving DecidableEq, Repr

/-- The twin unit after PORST_N (R545: SOLO).
(DESIGN CHOICE, log 123.) -/
def TwinSt.reset : TwinSt :=
  { outMask := [], pslot := [], pbm := [], crc := BitVec.allOnes 64, hist := [], sick := false, refused := false,
    ownPlan := none, pin := false, pinWait := none, heard := 0, miss := 0, hbSent := none, notices := [], handover := none,
    ping := none, align := none, j0 := 0, joinAt := none, suppress := false, agreed := 0, snap := [], blocks := [], log := [],
    wrote := [], seqOff := 0, idxOff := [], racc := false }

/-- The last completion given to a register or memory access (R33): the model's own record of what the requester sees. -/
structure Completion where
  status : Status
  data : Word32
  deriving DecidableEq, Repr

/-- The state of the block. -/
structure State where
  /-- The commands that wait, first in first out. -/
  pending : List Instr
  /-- The register file of the device register space (R7, R25): address to value; an unlisted register holds its reset value. -/
  regs : Pairs Word32
  clock : ClockSt
  time : TimeSt
  dsp : DispatcherSt
  lib : LibrarianSt
  crl : CarrelSt
  pwr : PowerSt
  host : HostSt
  own : OwnSt
  ldr : LoaderSt
  sec : SecSt
  iob : IobSt
  arr : ArraySt
  seq : SeqSt
  hbm : HbmSt
  cns : CnsSt
  rz : RzSt
  lane : LaneSt
  /-- Link engines by lane (chapter 8). -/
  eng : Pairs LinkEng
  acq : AcqSt
  twin : TwinSt
  /-- The completion of the last access, and who waits for that of the access being carried out: the model's own fields. -/
  done : Completion
  caller : Origin
  /-- What the device has given to the outside, oldest first. -/
  out : List Output
  /-- How many free values have been used: the model's own field. -/
  freeIdx : Nat
  deriving DecidableEq, Repr

/-- The reset value of a register.  The routes of FATAL events select the pin (R500); an MSI-X vector's mask is set, as PCIe
gives it (R569; PRESUMED, log entry 5); every other register starts at the value of the register table.
(PRESUMED, log 5; DESIGN CHOICE, log 68.) -/
def Reg.resetOf (a : Nat) : Word32 :=
  if 0x00101000 ≤ a ∧ a < 0x00101800 then
    (if Config.eventSeverity ((a - 0x00101000) / 4) = .fatal then 0x10 else 0)
  else if 0x08101000 ≤ a ∧ a < 0x08101400 then
    (if a % 16 = 12 then 1 else 0)
  else match Reg.resets.find? (fun r => RegRow.covers r a) with
    | some r => BitVec.ofNat 32 r.reset
    | none => 0

/-- The clocks after PORST_N (R18, R344).
(DESIGN CHOICE, log 70.) -/
def ClockSt.reset : ClockSt :=
  { rootCnt := 0, rpllOn := false, fnom := 0, refOk := true, porst := true, cfgErr := false, bootStop := false,
    everLocked := false }

/-- The time unit after PORST_N (R344, R347). -/
def TimeSt.reset : TimeSt :=
  { t0 := 0, c0 := 0, pnom := 0, lockCnt := 0, live := [], firedSince := 0, pulses := [], tickCounts := 0, refPhase := 0 }

/-- The dispatcher after PORST_N (R472).
(DESIGN CHOICE, log 123.) -/
def DispatcherSt.reset : DispatcherSt :=
  { tasks := [], queue := [], delayList := [], running := [], arg := [], stat := [], next := [], nextFlags := [] }

/-- The Librarian after PORST_N: core 0 in the ROM, core 1 held (R452).
(DESIGN CHOICE, log 123.) -/
def LibrarianSt.reset : LibrarianSt :=
  { c1Held := true, entry := [], halted := [], romWait := false, sram := [], log := [], dropped := 0, flash := none,
    flashGuard := [], wdtStart := [], wdtUsed := [], alarm := [], fwVersion := 0, fwSecond := false, fwBuf := [],
    mtimeHi := [], mtimecmp := [], msip := [] }

/-- The carrels after PORST_N (R484). -/
def CarrelSt.reset : CarrelSt := { slots := [], ends := [] }

/-- The power manager after PORST_N (R528: VSEL reads 0b00). -/
def PowerSt.reset : PowerSt :=
  { target := 0, source := 0, rewake := [], shutAfter := [], held := [], oldLevel := none, vsel := 0, gated := false,
    exitSrc := 0, exitIdx := 0, talarm := false, tshut := false, divider := 0 }

/-- The host interface and the ring after PORST_N. -/
def HostSt.reset : HostSt :=
  { msixEnable := false, busMaster := false, bars := [], nextBar := 0, aer := none, reqs := [], heldBar2 := [], evtq := [],
    enumWait := false, enumSent := false, lastNum := 0, loadBuf := [], loadSeq := 0, loadSent := [], loadExp := 0 }

/-- The loader after PORST_N (R383). -/
def LoaderSt.reset : LoaderSt :=
  { phase := 0, target := none, change := none, src := 0, index := 0, fellBack := false, image := [], pos := 0, nextSeq := 0,
    sections := [], entries := [], stream := [], prog := [], progAt := 0, doneOut := false, paused := false, training := false,
    iobHeld := [], acqCtrl := 0, folios := [], folioLen := [], routed := [] }

/-- The security block of a device whose fuses are all unblown, after PORST_N. -/
def SecSt.reset : SecSt := { therm := 0, fw := none, img := none, cmd := none, report := [], counter := 0 }

/-- The banks and the TAP after PORST_N and TRST_N.
(DESIGN CHOICE, log 123.) -/
def IobSt.reset : IobSt :=
  { active := false, ball := 0, captures := [], stage1 := 0, stage2 := 0, stage3 := 0, outReg := 0, safe1 := 0, safe2 := 0,
    safe3 := 0, safeReg := 0, accept := 0, acceptOld := 0, badRun := [], tapIr := 1, tapBlocked := false, cells := 0 }

/-- The machine right after reset: every register at its reset value, every memory with nothing listed, no command
waiting.
(DESIGN CHOICE, log 68 and 69 and 70 and 123.) -/
def State.reset : State :=
  { pending := [], regs := [], clock := ClockSt.reset, time := TimeSt.reset, dsp := DispatcherSt.reset,
    lib := LibrarianSt.reset, crl := CarrelSt.reset, pwr := PowerSt.reset, host := HostSt.reset,
    own := { table := [], claims := [], map := [] }, ldr := LoaderSt.reset, sec := SecSt.reset, iob := IobSt.reset,
    arr := ArraySt.reset, seq := SeqSt.reset, hbm := HbmSt.reset, cns := CnsSt.reset, rz := RzSt.reset, lane := LaneSt.reset, eng := [], acq := AcqSt.reset, twin := TwinSt.reset,
    done := { status := 0, data := 0 }, caller := .direct, out := [], freeIdx := 0 }

end Sys2Proof.Machine
end

