-- ==== Sys2Proof/Machine/Ops.lean ====
section
/-! DEFINITION.  The named operations every meaning is written with: reading and writing registers and their fields,
completions, outputs, free values, the raw count and PTP time, ownership claims, and leaving a device state. -/

namespace Sys2Proof.Machine

/-- A command that completes with a next state. -/
abbrev Result := Host.Outcome State Fault Refusal

/-- The field's value in a register value. -/
def Field.get (f : Field) (w : Word32) : Nat := (w.toNat >>> f.lo) % 2 ^ f.width

/-- The bits of a field. -/
def Field.mask (f : Field) : Word32 := BitVec.ofNat 32 ((2 ^ f.width - 1) <<< f.lo)

/-- A register value with the field set to a number, taken modulo 2^width. -/
def Field.put (f : Field) (w : Word32) (n : Nat) : Word32 :=
  (w &&& ~~~ f.mask) ||| BitVec.ofNat 32 ((n % 2 ^ f.width) <<< f.lo)

/-- The register at an address. -/
def State.reg (s : State) (a : Nat) : Word32 := Sparse.get (Reg.resetOf a) s.regs a

/-- The register at an address set to a value. -/
def State.setReg (s : State) (a : Nat) (v : Word32) : State :=
  { s with regs := Sparse.put (Reg.resetOf a) s.regs a v }

/-- A field of the register file. -/
def State.fld (s : State) (f : Field) : Nat := f.get (s.reg f.addr)

/-- A one-bit field, or a field taken as a flag: not 0. -/
def State.flag (s : State) (f : Field) : Bool := s.fld f != 0

/-- A field of the register file set to a number. -/
def State.setFld (s : State) (f : Field) (n : Nat) : State := s.setReg f.addr (f.put (s.reg f.addr) n)

/-- A one-bit field set or cleared. -/
def State.setFlag (s : State) (f : Field) (b : Bool) : State := s.setFld f (if b then 1 else 0)

/-- A counter register increased by 1; it stops at 0xFFFF_FFFF and does not wrap. -/
def State.countReg (s : State) (a : Nat) : State :=
  if s.reg a = 0xFFFFFFFF then s else s.setReg a (s.reg a + 1)

/-- A counter register increased by `n`; it stops at 0xFFFF_FFFF. -/
def State.addReg (s : State) (a n : Nat) : State :=
  s.setReg a (BitVec.ofNat 32 (min (0xFFFFFFFF) ((s.reg a).toNat + n)))

/-- Registers `a`, `a + 4`, … set to the values of a list. -/
def State.setRegs (s : State) (a : Nat) : List Word32 → State
  | [] => s
  | v :: r => State.setRegs (s.setReg a v) (a + 4) r

/-- The `n` registers from address `a` on. -/
def State.getRegs (s : State) (a n : Nat) : List Word32 := (List.range n).map (fun i => s.reg (a + 4 * i))

/-- The bytes of a 32-bit value, lowest first (R7). -/
def bytesOf32 (v : Word32) : List Byte := (List.range 4).map (fun i => BitVec.ofNat 8 (v.toNat >>> (8 * i)))

/-- The number that a list of bytes spells, lowest first. -/
def natOfBytes : List Byte → Nat
  | [] => 0
  | b :: r => b.toNat + 256 * natOfBytes r

/-- The `n` low bytes of a number, lowest first. -/
def bytesOfNat (n v : Nat) : List Byte := (List.range n).map (fun i => BitVec.ofNat 8 (v >>> (8 * i)))

/-- Bit `i` of a number. -/
def bitOf (v i : Nat) : Bool := v.testBit i

/-- A number read as a signed value of `w` bits. -/
def signedOf (w v : Nat) : Int := if v % 2 ^ w < 2 ^ (w - 1) then (v % 2 ^ w : Nat) else ((v % 2 ^ w : Nat) : Int) - 2 ^ w

/-- The low `w` bits of an integer. -/
def natOfInt (w : Nat) (v : Int) : Nat := (v % (2 ^ w : Int)).toNat

/-- The access completes with a status and data (R33).
(DESIGN CHOICE, log 121.) -/
def State.reply (s : State) (code : Status) (data : Word32 := 0) : State := { s with done := { status := code, data := data } }

/-- Something given to the outside.
(DESIGN CHOICE, log 121.) -/
def State.emit (s : State) (o : Output) : State := { s with out := s.out ++ [o] }

/-- A free value, and the state with it used up.
(DESIGN CHOICE, log 122.) -/
def State.takeFree (s : State) : BitVec 64 × State := (Config.freeValue s.freeIdx, { s with freeIdx := s.freeIdx + 1 })

/-- An update made only under a condition. -/
def State.when (s : State) (c : Bool) (f : State → State) : State := if c then f s else s

/-- Something happened in this turn that HEALTH of R548 names. -/
def State.ill (s : State) : State := { s with twin := { s.twin with sick := true } }

/-- The index of an address in a numbered family of `n` registers from `base`, `stride` apart. -/
def indexOf (base stride n addr : Nat) : Option Nat :=
  if base ≤ addr ∧ (addr - base) % stride = 0 ∧ (addr - base) / stride < n then some ((addr - base) / stride) else none

/-! ## Raw count and PTP time (R344 to R348) -/

/-- The raw counter C (R344). -/
def State.count (s : State) : Nat := (s.clock.rootCnt / 4) % 2 ^ 64

/-- The period P in force, in 2^-40 ns (R347). -/
def State.period (s : State) : Nat :=
  (s.reg Reg.TU_PER_LO).toNat + ((s.reg Reg.TU_PER_HI).toNat % 2 ^ 16) * 2 ^ 32

/-- The PTP time in 2^-40 ns of a count and a fraction of f/256 of a count (R348), before rounding. -/
def State.timeOf (s : State) (c f : Nat) : Int :=
  s.time.t0 + ((((c : Int) - (s.time.c0 : Int)) * 256 + (f : Int)) * (s.period : Int)) / 256

/-- The PTP time now, in 2^-40 ns. -/
def State.now (s : State) : Int := s.timeOf s.count 0

/-- Fractional nanoseconds, in 2^-16 ns, of a time in 2^-40 ns (R347, R348). -/
def timeFns (t : Int) : Nat := ((t / 2 ^ 24) % 2 ^ 16).toNat

/-- Nanoseconds, 0 to 999,999,999, of a time in 2^-40 ns (R347). -/
def timeNs (t : Int) : Nat := ((t / 2 ^ 40) % 1000000000).toNat

/-- Seconds, 48 bits, of a time in 2^-40 ns (R347). -/
def timeSec (t : Int) : Nat := (((t / 2 ^ 40) / 1000000000) % 2 ^ 48).toNat

/-- A time in 2^-40 ns from fractional nanoseconds, nanoseconds and seconds. -/
def timeFrom (fns ns sec : Nat) : Int := (((sec : Int) * 1000000000 + ns) * 2 ^ 16 + fns) * 2 ^ 24

/-- A PTP time in the 12-byte layout of R145: seconds, nanoseconds and fractional nanoseconds. -/
def timeBytes (t : Int) : List Byte := bytesOfNat 6 (timeSec t) ++ bytesOfNat 4 (timeNs t) ++ bytesOfNat 2 (timeFns t)

/-- A number of microseconds in raw counts at PNOM (R369). -/
def State.countsOfUs (s : State) (us : Nat) : Nat := if s.time.pnom = 0 then 0 else us * 1000 * 2 ^ 40 / s.time.pnom

/-! ## Power states that other blocks read (R514, R521) -/

/-- The state of a domain (R514). -/
def State.domState (s : State) (d : Nat) : Nat := s.fld (Fld.PWR_DSTAT_STATE d)

/-- The domain answers requests: it is in RUN, DRAIN or GATED (R514). -/
def State.domOn (s : State) (d : Nat) : Bool := s.domState d == 0 || s.domState d == 1 || s.domState d == 5

/-- The device state (R521). -/
def State.devState (s : State) : Nat := s.fld Fld.PWR_STATUS_STATE

/-- An exit source arrives (R524, R525): in IDLE, SLEEP or DEEP, or while one of them is being entered, the device turns to
LEAVING.  `idle`, `sleep` and `deep` say in which state the source acts; `enabled` is its bit of PWR_WAKE_EN. -/
def State.exitSource (s : State) (src idx : Nat) (enabled sleepOk deepOk : Bool) : State :=
  let here := if s.devState = 5 then s.pwr.target else s.devState
  let acts := enabled && (here == 1 || (here == 2 && sleepOk) || (here == 3 && deepOk))
  if acts && s.devState != 6 then
    { (s.setFld Fld.PWR_STATUS_STATE 6) with
      pwr := { s.pwr with source := here, target := 0, exitSrc := src, exitIdx := idx } }
  else s

/-! ## Ownership and claims (R170 to R173) -/

/-- The key of a resource among the claims. -/
def claimKey (cls idx : Nat) : Nat := cls * 65536 + idx

/-- How many indices a resource class has (R170); 0 for a reserved class. -/
def classSize (cls : Nat) : Nat :=
  match cls with
  | 0x01 => 192 | 0x02 => 16 | 0x03 => 16 | 0x04 => 96 | 0x05 => 24 | 0x06 => 8192 | 0x07 => 49152
  | 0x08 => 32 | 0x09 => 64 | 0x0A => 32 | 0x0B => 64 | 0x0C => 2 | _ => 0

/-- The entries of the ownership table that cover a resource. -/
def State.ownEntries (s : State) (cls idx : Nat) : List OwnEntry :=
  s.own.table.filter (fun e => decide (e.cls = cls ∧ e.first ≤ idx ∧ idx < e.first + e.count))

/-- The lowest owner code the image gives a resource; 0 where it gives none. -/
def State.imageOwner (s : State) (cls idx : Nat) : Nat :=
  ((s.ownEntries cls idx).map (fun e => e.owner)).foldl (fun m o => if m = 0 ∨ o < m then o else m) 0

/-- The holder of a run-time claim. -/
def State.claimant (s : State) (cls idx : Nat) : Option Mid := Sparse.get none s.own.claims (claimKey cls idx)

/-- The owner code of LDR_OWN_R: 0 free, the image's owner, or 0x80 + MID of a claim; 0xFF outside the classes (R180). -/
def State.ownerCode (s : State) (cls idx : Nat) : Nat :=
  if classSize cls ≤ idx then 0xFF
  else if s.imageOwner cls idx ≠ 0 then s.imageOwner cls idx
  else match s.claimant cls idx with
    | some m => 0x80 + m.toNat
    | none => 0

/-- A master may assign a resource: the loader always; cores 0 and 1 a resource reserved for firmware; its holder; and any
master a free one (R173). -/
def State.mayAssign (s : State) (mid : Mid) (cls idx : Nat) : Bool :=
  if mid = 0x10 then true
  else if s.imageOwner cls idx = 0x22 then mid == 0x00 || mid == 0x01
  else if s.imageOwner cls idx ≠ 0 then false
  else match s.claimant cls idx with
    | some m => m == mid
    | none => true

/-- The claim an assigning write makes: a free resource takes its writer as holder (R173). -/
def State.takeClaim (s : State) (mid : Mid) (cls idx : Nat) : State :=
  if mid = 0x10 ∨ s.imageOwner cls idx ≠ 0 then s
  else { s with own := { s.own with claims := Sparse.put none s.own.claims (claimKey cls idx) (some mid) } }

end Sys2Proof.Machine
end

