-- ==== Sys2Proof/Machine/Hash.lean ====
section
/-! DEFINITION.  The checks and digests over bytes: CRC-32C (R165, R376), the CRC-64 of the twin digest (R547) and SHAKE256 of
FIPS 202 (R164, R411). -/

namespace Sys2Proof.Machine

/-! ## Cyclic checks -/

/-- One bit of the reflected CRC-32C division. -/
def crc32cBit (c : Word32) : Word32 := if c.getLsbD 0 then (c >>> 1) ^^^ 0x82F63B78 else c >>> 1

/-- A byte folded into a CRC-32C. -/
def crc32cByte (c : Word32) (b : Byte) : Word32 :=
  (List.range 8).foldl (fun c _ => crc32cBit c) (c ^^^ b.setWidth 32)

/-- The CRC-32C of a list of bytes.
(PRESUMED, log 111.) -/
def crc32c (l : List Byte) : Word32 := ~~~ (l.foldl crc32cByte 0xFFFFFFFF)

/-- A 64-bit value folded into the digest, bit 63 first (R547).
(PRESUMED, log 111.) -/
def crc64Fold (c x : Word64) : Word64 :=
  (List.range 64).foldl (fun c i =>
    let b := c.getLsbD 63 != x.getLsbD (63 - i)
    if b then (c <<< 1) ^^^ 0x42F0E1EBA9EA3693 else c <<< 1) c

/-! ## SHAKE256 -/

/-- The round constants of Keccak-f[1600]. -/
def keccakRc : List Word64 :=
  [0x0000000000000001, 0x0000000000008082, 0x800000000000808A, 0x8000000080008000, 0x000000000000808B, 0x0000000080000001,
   0x8000000080008081, 0x8000000000008009, 0x000000000000008A, 0x0000000000000088, 0x0000000080008009, 0x000000008000000A,
   0x000000008000808B, 0x800000000000008B, 0x8000000000008089, 0x8000000000008003, 0x8000000000008002, 0x8000000000000080,
   0x000000000000800A, 0x800000008000000A, 0x8000000080008081, 0x8000000000008080, 0x0000000080000001, 0x8000000080008008]

/-- The rotation of lane x + 5y. -/
def keccakRot : List Nat :=
  [0, 1, 62, 28, 27, 36, 44, 6, 55, 20, 3, 10, 43, 25, 39, 41, 45, 15, 21, 8, 18, 2, 61, 56, 14]

/-- A round of Keccak-f[1600] over the lanes x + 5y. -/
def keccakRound (a : List Word64) (rc : Word64) : List Word64 :=
  let lane := fun (l : List Word64) (i : Nat) => l.getD i 0
  let c := (List.range 5).map (fun x =>
    lane a x ^^^ lane a (x + 5) ^^^ lane a (x + 10) ^^^ lane a (x + 15) ^^^ lane a (x + 20))
  let d := (List.range 5).map (fun x => lane c ((x + 4) % 5) ^^^ (lane c ((x + 1) % 5)).rotateLeft 1)
  let t := (List.range 25).map (fun i => lane a i ^^^ lane d (i % 5))
  let b := (List.range 25).map (fun j =>
    let src := (j % 5 + 3 * (j / 5)) % 5 + 5 * (j % 5)
    (lane t src).rotateLeft (keccakRot.getD src 0))
  let e := (List.range 25).map (fun j =>
    lane b j ^^^ (~~~ (lane b ((j % 5 + 1) % 5 + 5 * (j / 5))) &&& lane b ((j % 5 + 2) % 5 + 5 * (j / 5))))
  match e with
  | x :: r => (x ^^^ rc) :: r
  | [] => []

/-- The permutation Keccak-f[1600]. -/
def keccakF (a : List Word64) : List Word64 := keccakRc.foldl keccakRound a

/-- A block of 136 bytes absorbed. -/
def shakeAbsorb (a : List Word64) (block : List Byte) : List Word64 :=
  keccakF ((List.range 25).map (fun i =>
    if i < 17 then a.getD i 0 ^^^ BitVec.ofNat 64 (natOfBytes ((block.drop (8 * i)).take 8)) else a.getD i 0))

/-- The padding of SHAKE256 after `n` bytes: 0x1F, zeros, and bit 7 of the last byte. -/
def shakePad (n : Nat) : List Byte :=
  let k := 136 - n % 136
  if k = 1 then [0x9F] else [0x1F] ++ List.replicate (k - 2) 0 ++ [0x80]

/-- Blocks absorbed in turn. -/
def shakeBlocks (a : List Word64) (l : List Byte) : Nat → List Word64
  | 0 => a
  | n + 1 => shakeBlocks (shakeAbsorb a (l.take 136)) (l.drop 136) n

/-- The first `n` bytes, at most 136, of SHAKE256 of a message (FIPS 202).
(PRESUMED, log 111.) -/
def shake256 (l : List Byte) (n : Nat) : List Byte :=
  let m := l ++ shakePad l.length
  let a := shakeBlocks (List.replicate 25 0) m (m.length / 136)
  ((a.take 17).flatMap (fun w => bytesOfNat 8 w.toNat)).take n

/-- The 64-byte digest that the device uses throughout (R411). -/
def digest64 (l : List Byte) : List Byte := shake256 l 64

/-! ## Bytes of registers, and the measurement registers -/

/-- The bytes of registers from address `a` on. -/
def State.regBytes (s : State) (a n : Nat) : List Byte := (s.getRegs a n).flatMap bytesOf32

/-- Registers from address `a` on set to bytes, four to a register. -/
def State.setRegBytes (s : State) (a : Nat) (l : List Byte) : State :=
  (List.range ((l.length + 3) / 4)).foldl (fun s j => s.setReg (a + 4 * j) (BitVec.ofNat 32 (natOfBytes ((l.drop (4 * j)).take 4)))) s

/-- MRi extended with a 64-byte record (R423). -/
def State.extendMr (s : State) (i : Nat) (x : List Byte) : State :=
  s.setRegBytes (Reg.SEC_MR i 0) (digest64 (s.regBytes (Reg.SEC_MR i 0) 16 ++ x))

end Sys2Proof.Machine
end

