-- ==== Sys2Proof/Machine/Ecc.lean ====
section
/-! DEFINITION.  The SECDED code of an instruction word: an extended Hamming code over 72 bits (R37, R617). -/

namespace Sys2Proof.Machine

/-- The codeword positions of the data bits: every number from 3 to 71 that is no power of two, rising (R617). -/
def eccPositions : List Nat :=
  (List.range 72).filter (fun p => decide (3 ≤ p) && !([4, 8, 16, 32, 64].contains p))

/-- The XOR of a list of bits. -/
def xorAll (l : List Bool) : Bool := l.foldl (fun a b => xor a b) false

/-- Hamming check bit `j` of a data word (R617). -/
def eccHamming (w : Word64) (j : Nat) : Bool :=
  xorAll ((List.range 64).map (fun d => w.getLsbD d && (eccPositions.getD d 0).testBit j))

/-- Check bits 0 to 6 of a data word, as a number. -/
def eccLow (w : Word64) : Nat := (List.range 7).foldl (fun a j => if eccHamming w j then a + 2 ^ j else a) 0

/-- The eight check bits of a data word (R617): bit 7 makes the parity of all 72 bits even. -/
def eccChk (w : Word64) : BitVec 8 :=
  let low := eccLow w
  let p := xorAll ((List.range 64).map (fun d => w.getLsbD d) ++ (List.range 7).map (fun j => low.testBit j))
  BitVec.ofNat 8 (low + (if p then 128 else 0))

/-- A data word with its check bits in [71:64]. -/
def eccJoin (w : Word64) (chk : BitVec 8) : BitVec 72 := chk ++ w

/-- What the check of a stored word finds (R617). -/
inductive EccKind where
  | clean
  /-- A single-bit error: the bit, 64 + j for check bit j (R450). -/
  | corrected (bit : Nat)
  | uncorrectable
  deriving DecidableEq, Repr

/-- The check of a stored word: the word to execute and what was found (R37, R617). -/
def eccFix (w : BitVec 72) : Word64 × EccKind :=
  let data : Word64 := w.setWidth 64
  let stored := (w.toNat / 2 ^ 64) % 128
  let s := eccLow data ^^^ stored
  let p := xorAll ((List.range 72).map (fun i => w.getLsbD i))
  if s = 0 then (data, if p then .corrected 71 else .clean)
  else if !p then (data, .uncorrectable)
  else if 72 ≤ s then (data, .uncorrectable)
  else match (List.range 7).find? (fun j => 2 ^ j == s) with
    | some j => (data, .corrected (64 + j))
    | none =>
      match eccPositions.findIdx? (fun q => q == s) with
      | some d => (data ^^^ BitVec.ofNat 64 (2 ^ d), .corrected d)
      | none => (data, .uncorrectable)

end Sys2Proof.Machine
end

