-- ==== Sys2Proof/Machine/Dispatcher.lean ====
section
/-! DEFINITION.  The task dispatcher's own operations (R472 to R477): readiness, queues, the delay list, takes.  The
commands of R479 are in Dispatching.lean. -/

namespace Sys2Proof.Machine

/-- Task `n` (R472). -/
def State.task (s : State) (n : Nat) : Task := Sparse.get Task.reset s.dsp.tasks n

/-- Task `n` replaced. -/
def State.setTask (s : State) (n : Nat) (t : Task) : State :=
  { s with dsp := { s.dsp with tasks := Sparse.put Task.reset s.dsp.tasks n t } }

/-- The running task of a core. -/
def State.runningOn (s : State) (k : Nat) : Option Nat := Sparse.get none s.dsp.running k

/-- The running task of a core replaced. -/
def State.setRunning (s : State) (k : Nat) (t : Option Nat) : State :=
  { s with dsp := { s.dsp with running := Sparse.put none s.dsp.running k t } }

/-- The flags and mask of a task match (R473). -/
def Task.matched (t : Task) : Bool :=
  if t.bind.all then (t.flags &&& t.mask) == t.mask else (t.flags &&& t.mask) != 0

/-- The task stands in the delay list under SLEEP. -/
def Task.asleep (t : Task) : Bool :=
  match t.delay with
  | some d => !d.timeout
  | none => false

/-- The task runs on a core. -/
def State.isRunning (s : State) (n : Nat) : Bool := s.runningOn 0 == some n || s.runningOn 1 == some n

/-- A task is ready (R473).  A preempted task stays ready until it is taken again, as the example after R479 shows
(DEDUCED, log entry 11).
(DEDUCED, log 11.) -/
def State.taskReady (s : State) (n : Nat) : Bool :=
  let t := s.task n
  t.active && !s.isRunning n && !t.asleep && (t.matched || t.expired || t.resumed)

/-- A task leaves the delay list. -/
def State.undelayTask (s : State) (n : Nat) : State :=
  let s1 := s.setTask n { s.task n with delay := none }
  { s1 with dsp := { s1.dsp with delayList := s1.dsp.delayList.filter (fun m => m != n) } }

/-- An active task whose flags match leaves the delay list under TIMEOUT (R474). -/
def State.timeoutMatched (s : State) (n : Nat) : State :=
  let t := s.task n
  match t.delay with
  | some d => if d.timeout && t.active && t.matched then s.undelayTask n else s
  | none => s

/-- The task numbers of the dispatcher, T00 to T63. -/
def taskNumbers : List Nat := List.range 64

/-- The highest-priority ready task of a core, the head of its queue within a priority (R475). -/
def State.bestReady (s : State) (k : Nat) : Option Nat :=
  s.dsp.queue.foldl (fun best n =>
    if (s.task n).bind.core = k then
      match best with
      | none => some n
      | some b => if (s.task n).bind.prio < (s.task b).bind.prio then some n else best
    else best) none

/-- The dispatch interrupt of a core: a take would change its running task (R477). -/
def State.dispatchIrq (s : State) (k : Nat) : Bool :=
  match s.bestReady k, s.runningOn k with
  | none, _ => false
  | some _, none => true
  | some x, some r => decide ((s.task x).bind.prio < (s.task r).bind.prio)

/-- Order 4 of R476: readiness of every task.  Tasks no longer ready leave their queues; newly ready tasks enter at the
tail in ascending number.  A dispatch interrupt is an exit source of the device states (R525). -/
def State.dspSettle (s : State) : State :=
  let s1 := taskNumbers.foldl State.timeoutMatched s
  let kept := s1.dsp.queue.filter (fun n => s1.taskReady n)
  let fresh := taskNumbers.filter (fun n => s1.taskReady n && !kept.contains n)
  let s2 := { s1 with dsp := { s1.dsp with queue := kept ++ fresh } }
  let en := s2.flag Fld.PWR_WAKE_EN_DISPATCH
  let s3 := if s2.dispatchIrq 0 then s2.exitSource 8 0 en true false else s2
  if s3.dispatchIrq 1 then s3.exitSource 8 1 en true false else s3

/-- Flags set in a task (orders 2 and 3 of R476). -/
def State.dspFlags (s : State) (n : Nat) (bits : Word32) : State :=
  (s.setTask n { s.task n with flags := (s.task n).flags ||| bits }).dspSettle

/-- A task stops running: a BIND made while it ran takes effect (R476). -/
def State.stopTask (s : State) (n : Nat) : State :=
  match (s.task n).nextBind with
  | some b => s.setTask n { s.task n with bind := b, nextBind := none }
  | none => s

/-- The result of a take in DSP_NEXT and DSP_NEXT_FLAGS (R475, R483).
(DEDUCED, log 120.) -/
def State.takeResult (s : State) (k : Nat) (valid same expired resumed : Bool) (task : Nat) (flags : Word32) : State :=
  let w := (if valid then 2 ^ 31 else 0) + (if same then 2 ^ 30 else 0) + (if expired then 2 ^ 29 else 0)
    + (if resumed then 2 ^ 28 else 0) + task
  { s with dsp := { s.dsp with next := Sparse.put 0 s.dsp.next k (BitVec.ofNat 32 w),
                               nextFlags := Sparse.put 0 s.dsp.nextFlags k flags } }

/-- Task `n` becomes the running task of core `k` (R475). -/
def State.runTask (s : State) (k n : Nat) : State :=
  let t := s.task n
  let got := if t.bind.consume then t.flags &&& t.mask else 0
  let s1 := s.setTask n { t with flags := t.flags &&& ~~~ got, expired := false, resumed := false }
  let s2 := (s1.setRunning k (some n))
  let s3 := { s2 with dsp := { s2.dsp with queue := s2.dsp.queue.filter (fun m => m != n) } }
  s3.takeResult k true false t.expired t.resumed n got

/-- A running task preempted by a take: it returns to the head of its queue, unless it sleeps, and its next take reports
RESUMED (R475).
(DEDUCED, log 11.) -/
def State.preempt (s : State) (n : Nat) : State :=
  let s1 := s.stopTask n
  let s2 := s1.setTask n { s1.task n with resumed := true }
  if (s2.task n).asleep then s2 else { s2 with dsp := { s2.dsp with queue := n :: s2.dsp.queue } }

/-- A take by core `k` (R475). -/
def State.take (s : State) (k : Nat) : State :=
  match s.bestReady k, s.runningOn k with
  | some x, none => s.runTask k x
  | some x, some r =>
    if (s.task x).bind.prio < (s.task r).bind.prio then (s.runTask k x).preempt r
    else s.takeResult k true true false false r 0
  | none, some r => s.takeResult k true true false false r 0
  | none, none => s.takeResult k false true false false 0 0

/-- The running task of core `k` ends (R475). -/
def State.endRunning (s : State) (k : Nat) : State :=
  match s.runningOn k with
  | some r => ((s.setRunning k none).stopTask r).dspSettle
  | none => s

/-- A task's delay expires (R474): it leaves the list; an active task under TIMEOUT becomes ready and its next take reports
EXPIRED. -/
def State.expireTask (s : State) (n : Nat) : State :=
  match (s.task n).delay with
  | none => s
  | some d =>
    let s1 := s.undelayTask n
    if d.timeout && (s1.task n).active then s1.setTask n { s1.task n with expired := true } else s1

/-- A tick: every count falls by 1, and tasks whose count reaches 0 leave the list in order of entry (R474). -/
def State.dspTick (s : State) : State :=
  let s1 := s.dsp.delayList.foldl (fun s n =>
    match (s.task n).delay with
    | some d => s.setTask n { s.task n with delay := some { d with count := d.count - 1 } }
    | none => s) s
  (s1.dsp.delayList.foldl (fun s n =>
    match (s.task n).delay with
    | some d => if d.count = 0 then s.expireTask n else s
    | none => s) s1).dspSettle

/-- Every task returns to its PORST_N state and both cores run none (R479 RESET, R461). -/
def State.dspClear (s : State) : State :=
  { s with dsp := { s.dsp with tasks := [], queue := [], delayList := [], running := [] } }

/-- CANCEL: order 5 of R476. -/
def State.cancelTask (s : State) (n : Nat) : State :=
  let s1 := s.dspSettle
  let s2 := if s1.runningOn 0 = some n then s1.setRunning 0 none else s1
  let s3 := if s2.runningOn 1 = some n then s2.setRunning 1 none else s2
  let s4 := (s3.stopTask n).undelayTask n
  let s5 := s4.setTask n { s4.task n with active := false, expired := false, resumed := false }
  ({ s5 with dsp := { s5.dsp with queue := s5.dsp.queue.filter (fun m => m != n) } } : State).dspSettle

/-- BIND: a queued task moves to the tail of its new queue; a running task takes the binding when it stops (R476). -/
def State.bindTask (s : State) (n : Nat) (b : TaskBind) : State :=
  if s.isRunning n then s.setTask n { s.task n with nextBind := some b }
  else
    let s1 := s.setTask n { s.task n with bind := b }
    ({ s1 with dsp := { s1.dsp with queue := s1.dsp.queue.filter (fun m => m != n) } } : State).dspSettle

/-- DELAY: a place in the delay list, replacing an earlier one (R474). -/
def State.delayTask (s : State) (n : Nat) (timeout : Bool) (count : Nat) : State :=
  let s1 := s.undelayTask n
  let s2 := s1.setTask n { s1.task n with delay := some { timeout := timeout, count := count } }
  ({ s2 with dsp := { s2.dsp with delayList := s2.dsp.delayList ++ [n] } } : State).dspSettle

end Sys2Proof.Machine
end

