-- ==== Sys2Proof/Machine/Events.lean ====
section
/-! DEFINITION.  Raising an event (R498 to R503): the sticky bit, the trouble log (R468 to R470) and the routes. -/

namespace Sys2Proof.Machine

/-- The sticky bit of event `n`. -/
def State.sticky (s : State) (n : Nat) : Bool := bitOf (s.reg (Reg.EVT_STICKY (n / 32))).toNat (n % 32)

/-- The sticky bit of event `n` set. -/
def State.setSticky (s : State) (n : Nat) : State :=
  s.setReg (Reg.EVT_STICKY (n / 32)) (s.reg (Reg.EVT_STICKY (n / 32)) ||| BitVec.ofNat 32 (2 ^ (n % 32)))

/-- A log record put at the write pointer (R470). -/
def State.logPut (s : State) (kind sev code mid : Nat) (payload : List Nat) : State :=
  let wp := (s.reg Reg.LIB_LOG_WP).toNat
  let r : LogRec :=
    { kind := kind, sev := sev, seq := wp, count := s.count, time := s.now, code := code, mid := mid, payload := payload }
  let s1 := { s with lib := { s.lib with
    log := Sparse.insert (Sparse.erase s.lib.log (wp % 256)) (wp % 256) r } }
  s1.setReg Reg.LIB_LOG_WP (BitVec.ofNat 32 (wp + 1))

/-- The log buffer is full: WP − RP is 256 (R470). -/
def State.logFull (s : State) : Bool := decide (256 ≤ (s.reg Reg.LIB_LOG_WP - s.reg Reg.LIB_LOG_RP).toNat)

/-- A record is dropped (R470); `alarm` raises EV476. -/
def State.logDrop (alarm : State → State) (s : State) : State :=
  alarm ((({ s with lib := { s.lib with dropped := s.lib.dropped + 1 } } : State).countReg Reg.LIB_LOG_DROP).setFlag
    Fld.LIB_STATUS_LOG_DROP true)

/-- A record is appended, after a KIND 3 record when records were dropped before it, or it is dropped (R469, R470). -/
def State.logAppend (alarm : State → State) (s : State) (kind sev code mid : Nat) (payload : List Nat) : State :=
  if s.logFull then s.logDrop alarm
  else
    let s1 := if s.lib.dropped = 0 then s
      else ({ s with lib := { s.lib with dropped := 0 } } : State).logPut 3 0 0 0 [s.lib.dropped]
    if s1.logFull then s1.logDrop alarm else s1.logPut kind sev code mid payload

/-- An MSI-X request for a vector: a message, or the pending bit while the vector is masked, MSI-X is disabled or bus
mastering is off (R569).
(DEDUCED, log 120.) -/
def State.msixFire (s : State) (vec : Nat) : State :=
  let masked := bitOf (s.reg (Reg.HST_MSIX_TBL (4 * vec + 3))).toNat 0
  if masked || !s.host.msixEnable || !s.host.busMaster then
    s.setReg (Reg.HST_MSIX_PBA (vec / 32)) (s.reg (Reg.HST_MSIX_PBA (vec / 32)) ||| BitVec.ofNat 32 (2 ^ (vec % 32)))
  else s.emit (.msix vec)

/-- The device holds a ring number and is not the head (R578). -/
def State.ringMember (s : State) : Bool := s.flag Fld.LRG_STATUS_ENUMERATED && !s.flag Fld.LRG_STATUS_HEAD

/-- The delivery of a rise of event `n` on the routes of EVT_ROUTEn (R500). -/
def State.deliver (s : State) (n : Nat) : State :=
  let sev := (Config.eventSeverity n).code
  let vec := s.fld (Fld.EVT_ROUTE_VEC n)
  let s1 := if s.flag (Fld.EVT_ROUTE_DSP n) then
      s.dspFlags (s.fld (Fld.EVT_ROUTE_TASK n)) (BitVec.ofNat 32 (2 ^ s.fld (Fld.EVT_ROUTE_FLAG n))) else s
  let s2 := if s.flag (Fld.EVT_ROUTE_MSIX n) then
      (if s1.ringMember then
        s1.emit (.ringFrame 5 0 (s1.fld Fld.LRG_STATUS_NUM) false (n + sev * 2 ^ 16 + vec * 2 ^ 24) [])
       else s1.msixFire vec) else s1
  let s3 := if s.flag (Fld.EVT_ROUTE_TWIN n) && s.flag Fld.TWN_STATUS_PAIRED then s2.emit (.twinNotice n sev) else s2
  if s.flag (Fld.EVT_ROUTE_C0 n) || s.flag (Fld.EVT_ROUTE_C1 n) then
    s3.exitSource 7 n (s3.flag Fld.PWR_WAKE_EN_EVENT) true false else s3

/-- Event `n` is raised: nothing where its sticky bit is already 1; else the bit rises, the log takes a record where its
severity is at or above MINSEV, and the routes deliver it (R469, R498, R500).  `alarm` is what a dropped record raises. -/
def State.raiseWith (alarm : State → State) (s : State) (n : Nat) : State :=
  if s.sticky n then s
  else
    let s1 := s.setSticky n
    let sev := (Config.eventSeverity n).code
    let s2 := if s1.flag Fld.LIB_LOG_CFG_EN && decide (s1.fld Fld.LIB_LOG_CFG_MINSEV ≤ sev) then
        s1.logAppend alarm 1 sev n 0 [] else s1
    s2.deliver n

/-- EV476 raised by a dropped record (R470); its own record, dropped in turn, raises nothing more, since its sticky bit
is set. -/
def State.raiseDrop (s : State) : State := State.raiseWith id s 476

/-- Event `n` is raised (R498). -/
def State.raise (s : State) (n : Nat) : State := State.raiseWith State.raiseDrop s n

/-- A block's sticky bit is set and its event raised. -/
def State.raiseBit (s : State) (f : Field) (n : Nat) : State := (s.setFlag f true).raise n

/-- A refusal by the Librarian: LIB_STATUS.REFUSED and EV475; the access completes with DENIED (R479, R482, R504, R508). -/
def State.libRefuse (s : State) : State := (s.raiseBit Fld.LIB_STATUS_REFUSED 475).reply Code.denied

/-- MEIP of core `k`: some sticky bit whose route selects the core is 1 (R501). -/
def State.routedTo (s : State) (k n : Nat) : Bool :=
  s.sticky n && (if k = 0 then s.flag (Fld.EVT_ROUTE_C0 n) else s.flag (Fld.EVT_ROUTE_C1 n))

/-- EVT_TOPk: the highest severity among the events routed to core `k`, and the lowest number within it (R501). -/
def State.evtTop (s : State) (k : Nat) : Word32 :=
  let best := (List.range 512).foldl (fun b n =>
    if s.routedTo k n then
      match b with
      | none => some n
      | some m => if (Config.eventSeverity m).code < (Config.eventSeverity n).code then some n else b
    else b) (none : Option Nat)
  match best with
  | none => 0
  | some n => BitVec.ofNat 32 (2 ^ 31 + (Config.eventSeverity n).code * 2 ^ 16 + n)

/-- EVT_SEVj: the severities of events 16j to 16j + 15 (R499). -/
def evtSev (j : Nat) : Word32 :=
  BitVec.ofNat 32 ((List.range 16).foldl (fun a i => a + (Config.eventSeverity (16 * j + i)).code * 4 ^ i) 0)

/-- The EVT_OUT_N pin is driven low: a sticky bit whose route selects PIN is 1, and PORST_N is not low (R503). -/
def State.evtOutLow (s : State) : Bool :=
  !s.clock.porst && (List.range 512).any (fun n => s.sticky n && s.flag (Fld.EVT_ROUTE_PIN n))

/-- A claim, release or assigning write that is refused: CONFLICT, LDR_CHK_STAT.CLAIM_CONFLICT and EV407 (R173). -/
def State.claimRefuse (s : State) : State :=
  (s.raiseBit Fld.LDR_CHK_STAT_CLAIM_CONFLICT 407).reply Code.conflict

/-- An assigning write (R173): performed, with the claim it makes, or refused with CONFLICT. -/
def State.assign (s : State) (mid : Mid) (cls idx : Nat) (write : State → State) : State :=
  if s.mayAssign mid cls idx then write (s.takeClaim mid cls idx) else s.claimRefuse

end Sys2Proof.Machine
end

