-- ==== Sys2Proof/Machine/Topology.lean ====
section
/-! DEFINITION.  Which node, domain and window belongs to what (R25, R181 to R183, R511), and the loader's mapping of virtual
onto physical sori (R72, R410). -/

namespace Sys2Proof.Machine

/-- Node N(c,r) (R181). -/
def nodeAt (c r : Nat) : Nat := r * 8 + c

/-- The node of the gateway of virtual sorus Vk (R182). -/
def nodeOfVirtual (k : Nat) : Nat :=
  if k < 24 then nodeAt (1 + k % 6) (1 + k / 6) else if k < 28 then nodeAt (k - 22) 0 else nodeAt (k - 26) 5

/-- The node of the link engines of quad q (R182). -/
def nodeOfQuad (q : Nat) : Nat :=
  if q < 8 then nodeAt q 0 else if q < 12 then nodeAt 7 (q - 7) else if q < 20 then nodeAt (19 - q) 5
  else nodeAt 0 (24 - q)

/-- The physical sorus of Vv; 0xFF for none (R72, R410). -/
def State.physOf (s : State) (v : Nat) : Nat := Sparse.get 0xFF s.own.map v

/-- Vv mapped onto physical sorus `n`, and LDR_MAP's byte of it (R410). -/
def State.setPhysOf (s : State) (v n : Nat) : State :=
  ({ s with own := { s.own with map := Sparse.put 0xFF s.own.map v n } } : State).setFld
    ⟨Reg.LDR_MAP (v / 4), 8 * (v % 4), 8⟩ n

/-- The virtual sorus mapped onto physical sorus `n`. -/
def State.virtOf (s : State) (n : Nat) : Option Nat := (List.range 32).find? (fun v => s.physOf v == n)

/-- The nodes whose endpoint belongs to domain `d` (R182, R183, R511). -/
def State.nodesOfDomain (s : State) (d : Nat) : List Nat :=
  if d < 34 then (match s.virtOf d with
    | some v => [nodeOfVirtual v]
    | none => [nodeAt 0 5])
  else if d < 58 then [nodeOfQuad (d - 34)]
  else if d < 66 then (List.range 6).map (fun r => nodeAt (d - 58) r)
  else if d < 70 then [nodeAt 7 (2 + (d - 66) % 2)]
  else if d < 72 then (List.range 4).map (fun p => nodeAt 0 (1 + p))
  else match d with
    | 72 => [nodeAt 7 5]
    | 73 => [nodeAt 0 0]
    | 74 => [nodeAt 1 0]
    | 75 => [nodeAt 6 5]
    | 76 => [nodeAt 0 5]
    | 77 => [nodeAt 1 5]
    | 78 => [nodeAt 6 0]
    | 79 => [nodeAt 7 0]
    | _ => []

/-- The domain of the block that holds a register; none for PDAON and for the blocks that always answer (R28, R511). -/
def domainOfAddr (a : Nat) : Option Nat :=
  if a < 0x00100000 then none
  else if a < 0x00400000 then none
  else if a < 0x01000000 then none
  else if a < 0x02000000 then some 78
  else if a < 0x02020000 then some 76
  else if a < 0x02030000 then some 76
  else if a < 0x03000000 then some 77
  else if a < 0x04000000 then none
  else if a < 0x05000000 then (if a < 0x04010000 then some 58 else some (58 + ((a - 0x04010000) / 0x10000) % 8))
  else if a < 0x06000000 then
    (if 0x05F00000 ≤ a then
      (let k := (a - 0x05F00000) / 0x100
       if k < 24 then some (34 + k) else if k = 24 then some 72 else if k < 27 then some 75 else some 74)
     else
      (let i := (a - 0x05000000) / 0x10000
       if i < 96 then some (34 + i / 4) else if i < 100 then some 72 else if i < 102 then some 75 else some 74))
  else if a < 0x07000000 then
    (if 0x06800000 ≤ a then some 68 else some 66)
  else if a < 0x08000000 then some 70
  else if a < 0x08100000 then some 72
  else if a < 0x08200000 then some 73
  else if a < 0x08300000 then some 74
  else if a < 0x08400000 then some (80 + ((a - 0x08300000) / 0x100) % 8)
  else if 0x0C000000 ≤ a ∧ a < 0x0E200000 then
    (if 0x80 ≤ (a - 0x0C000000) % 0x100000 ∧ (a - 0x0C000000) % 0x100000 < 0x100 then none
     else some ((a - 0x0C000000) / 0x100000))
  else none

/-- The event of a lane window's LN_STAT conditions (R240, R360, R563, R581). -/
def laneEvent (i : Nat) : Nat :=
  if i < 96 then 100 + i else if i < 100 then 495 else if i = 100 then 388 else if i = 101 then 389 else 503

/-- The event of a link engine's LN_LE_STAT conditions (R278). -/
def linkEvent (i : Nat) : Nat :=
  if i < 96 then 196 + i else if i < 100 then 495 else if i = 100 then 388 else if i = 101 then 389 else 503

/-- The quad PLL that clocks a lane window (R218): PLL 24 the mirror lanes, 25 and 26 the timing ports, 27 the ring. -/
def pllOfLane (i : Nat) : Nat := if i < 96 then i / 4 else if i < 100 then 24 else if i < 102 then 25 + (i - 100) else 27

/-- A condition of node `n`: its sticky bit and EV292 + n (R213). -/
def State.nodeRaise (s : State) (f : Field) (n : Nat) : State := s.raiseBit f (292 + n)

end Sys2Proof.Machine
end

