-- ==== Sys2Proof/Machine/Carrels.lean ====
section
/-! DEFINITION.  Carrels (R484 to R497): bindings, posts, acknowledgements, withdrawals, resets of an end and timeouts. -/

namespace Sys2Proof.Machine

/-- The MID bound to end `e` (0 A, 1 B) of carrel `c`; 0xFF for none (R485). -/
def State.boundTo (s : State) (c e : Nat) : Nat := if e = 0 then s.fld (Fld.CRL_BIND_MID_A c) else s.fld (Fld.CRL_BIND_MID_B c)

/-- The end of carrel `c` that a MID is bound to (R487). -/
def State.endOf (s : State) (c : Nat) (mid : Mid) : Option Nat :=
  if s.boundTo c 0 = mid.toNat then some 0 else if s.boundTo c 1 = mid.toNat then some 1 else none

/-- The slot that end `e` of carrel `c` fills. -/
def State.slot (s : State) (c e : Nat) : Slot := Sparse.get Slot.reset s.crl.slots (2 * c + e)

/-- That slot replaced. -/
def State.setSlot (s : State) (c e : Nat) (v : Slot) : State :=
  { s with crl := { s.crl with slots := Sparse.put Slot.reset s.crl.slots (2 * c + e) v } }

/-- End `e` of carrel `c`. -/
def State.cEnd (s : State) (c e : Nat) : CarrelEnd := Sparse.get CarrelEnd.reset s.crl.ends (2 * c + e)

/-- That end replaced. -/
def State.setCEnd (s : State) (c e : Nat) (v : CarrelEnd) : State :=
  { s with crl := { s.crl with ends := Sparse.put CarrelEnd.reset s.crl.ends (2 * c + e) v } }

/-- A sticky bit of CRL_STATc set; EV436 + c is raised when it rises (R491). -/
def State.carrelBit (s : State) (c bit : Nat) : State :=
  let f : Field := ⟨Reg.CRL_STAT c, bit, 1⟩
  if s.flag f then s else s.raiseBit f (436 + c)

/-- A refusal recorded by carrel `c`: DENIED (R485, R487, R508). -/
def State.carrelDeny (s : State) (c : Nat) : State :=
  ((s.setFlag (Fld.CRL_STAT_DENIED c) true).raise (436 + c)).reply Code.denied

/-- A domain's wake begins or is asked for (R517, R519): in OFF it starts with its source recorded, in DRAIN or ISOLATED it
follows the shutdown; a locked-off domain does not wake. -/
def State.wakeDomain (s : State) (d src idx : Nat) : State :=
  if s.flag (Fld.PWR_DCTL_LOCKOFF d) then s
  else if s.domState d = 3 then
    ((s.setFld (Fld.PWR_DSTAT_STATE d) 4).setFld (Fld.PWR_DSTAT_WAKE_SRC d) src).setFld (Fld.PWR_DSTAT_WAKE_IDX d) idx
  else s

/-- A doorbell to end `e` of carrel `c` (R491): the sticky bits, the dispatcher flag when the end is a core that asks for
it, and the wake of the core's domain or of the device when its CRL_NOTIFY.WAKE is 1. -/
def State.doorbell (s : State) (c e : Nat) (bits : List Nat) (flag : Option Nat) : State :=
  let s1 := bits.foldl (fun s b => s.carrelBit c (b + 8 * e)) s
  let mid := s1.boundTo c e
  if mid ≤ 1 then
    let s2 := match flag with
      | some fl =>
        if s1.flag (Fld.CRL_NOTIFY_EN c e) then s1.dspFlags (s1.fld (Fld.CRL_NOTIFY_TASK c e)) (BitVec.ofNat 32 (2 ^ fl)) else s1
      | none => s1
    if flag.isSome && s2.flag (Fld.CRL_NOTIFY_WAKE c e) then
      ((s2.wakeDomain (78 + mid) 6 c).exitSource 6 c (s2.flag Fld.PWR_WAKE_EN_CARREL) true true)
    else s2
  else s1

/-- The acknowledge flag of an end: ACKFLAG of its CRL_NOTIFY. -/
def State.ackFlag (s : State) (c e : Nat) : Option Nat := some (s.fld (Fld.CRL_NOTIFY_ACKFLAG c e))

/-- A reset of end `e` of carrel `c` (R494): a full slot that the end reads is cleared unread with a discard doorbell to its
sender, the slot it fills is unchanged, and the end's epoch advances. -/
def State.resetEnd (s : State) (c e : Nat) : State :=
  let o := 1 - e
  let s1 := if (s.slot c o).full then
      let s' := s.setSlot c o { s.slot c o with full := false, timed := false }
      let s'' := s'.setCEnd c o { s'.cEnd c o with code := Code.discard }
      s''.doorbell c o [3, 2] (s''.ackFlag c o)
    else s
  s1.setCEnd c e { s1.cEnd c e with epoch := (s1.cEnd c e).epoch + 1 }

/-- A reset of every end bound to a MID (R495).
(DESIGN CHOICE, log 81.) -/
def State.resetEndsOf (s : State) (mid : Nat) : State :=
  (List.range 32).foldl (fun s c =>
    let s1 := if s.boundTo c 0 = mid then s.resetEnd c 0 else s
    if s1.boundTo c 1 = mid then s1.resetEnd c 1 else s1) s

/-- A MID that may be bound to an end (R485). -/
def bindable (m : Nat) : Bool := m == 0x00 || m == 0x01 || m == 0x08 || m == 0x09 || m == 0x0A || m == 0xFF

/-- A write of CRL_BINDc (R485, R486). -/
def State.carrelBind (s : State) (mid : Mid) (c : Nat) (v : Word32) : State :=
  let a := (Fld.CRL_BIND_MID_A c).get v
  let b := (Fld.CRL_BIND_MID_B c).get v
  let oa := s.boundTo c 0
  let ob := s.boundTo c 1
  if !bindable a || !bindable b || (a == b && a != 0xFF) then s.carrelDeny c
  else if s.flag Fld.CRL_CTRL_LOCK && (a != oa || b != ob) then s.carrelDeny c
  else if s.flag Fld.CRL_CTRL_LOCK then s.reply Code.ok
  else s.assign mid 0x0A c (fun s =>
    let s1 := (s.setFld (Fld.CRL_BIND_MID_A c) a).setFld (Fld.CRL_BIND_MID_B c) b
    let s2 := if a != oa then s1.resetEnd c 0 else s1
    let s3 := if b != ob then s2.resetEnd c 1 else s2
    s3.reply Code.ok)

/-- A write of CRL_TXDn by a MID (R487, R489). -/
def State.carrelTxd (s : State) (mid : Mid) (c n : Nat) (v : Word32) : State :=
  match s.endOf c mid with
  | none => s.carrelDeny c
  | some e =>
    if (s.slot c e).full then
      ((s.setFlag ⟨Reg.CRL_STAT c, 4 + 8 * e, 1⟩ true).raise (436 + c)).reply Code.crlFull
    else
      (s.setSlot c e { s.slot c e with words := Sparse.put 0 (s.slot c e).words n v }).reply Code.ok

/-- A post (R488, R489): the slot is marked FULL with LEN, TAG and the sender's epoch, its timer starts, and the other end
gets a receive doorbell.  LEN 0 and above 16 act as 16 (R509). -/
def State.carrelPost (s : State) (mid : Mid) (c : Nat) (len : Nat) (tag : BitVec 16) : State :=
  match s.endOf c mid with
  | none => s.carrelDeny c
  | some e =>
    if (s.slot c e).full then
      ((s.setFlag ⟨Reg.CRL_STAT c, 4 + 8 * e, 1⟩ true).raise (436 + c)).reply Code.crlFull
    else
      let n := if len = 0 ∨ 16 < len then 16 else len
      let s1 := s.setSlot c e { s.slot c e with
        len := n, tag := tag, epoch := (s.cEnd c e).epoch, full := true, tmo := s.fld Fld.CRL_TMO_US, timed := false }
      (s1.doorbell c (1 - e) [0] (some (s1.fld (Fld.CRL_NOTIFY_RXFLAG c (1 - e))))).reply Code.ok

/-- A withdrawal (R493). -/
def State.carrelWithdraw (s : State) (mid : Mid) (c : Nat) : State :=
  match s.endOf c mid with
  | none => s.carrelDeny c
  | some e =>
    if (s.slot c e).full then
      let s1 := s.setSlot c e { s.slot c e with full := false, timed := false }
      (s1.doorbell c (1 - e) [5] none).reply Code.ok
    else s.reply Code.ok

/-- A release by a write of CRL_ACK (R490). -/
def State.carrelAck (s : State) (mid : Mid) (c : Nat) (reply : BitVec 16) : State :=
  match s.endOf c mid with
  | none => s.carrelDeny c
  | some e =>
    let o := 1 - e
    if (s.slot c o).full then
      let s1 := s.setSlot c o { s.slot c o with full := false, timed := false }
      let s2 := s1.setCEnd c o { s1.cEnd c o with code := Code.ok, reply := reply }
      (s2.doorbell c o [1] (s2.ackFlag c o)).reply Code.ok
    else s.reply Code.ok

/-- A write of 1 to CRL_END_CTRL.RESET by an end (R495). -/
def State.carrelEndReset (s : State) (mid : Mid) (c : Nat) : State :=
  match s.endOf c mid with
  | none => s.carrelDeny c
  | some e => (s.resetEnd c e).reply Code.ok

/-- The time of a post runs out (R492): once for each post, with CRL_TMO not 0 when it was made. -/
def State.carrelTimeout (s : State) (c e : Nat) : State :=
  let sl := s.slot c e
  if sl.full && !sl.timed && sl.tmo != 0 then
    let s1 := s.setSlot c e { sl with timed := true }
    let s2 := s1.setCEnd c e { s1.cEnd c e with code := Code.timeout }
    s2.doorbell c e [2] (s2.ackFlag c e)
  else s

/-- CRL_TXSTAT of end `e` (R509). -/
def State.crlTxStat (s : State) (c e : Nat) : Word32 :=
  BitVec.ofNat 32 ((if (s.slot c e).full then 2 ^ 31 else 0) + (s.cEnd c e).code.toNat * 2 ^ 24 + (s.cEnd c e).reply.toNat)

/-- CRL_RXSTAT of end `e` (R509). -/
def State.crlRxStat (s : State) (c e : Nat) : Word32 :=
  let sl := s.slot c (1 - e)
  BitVec.ofNat 32 ((if sl.full then 2 ^ 31 else 0) + sl.len * 2 ^ 24 + sl.epoch.toNat * 2 ^ 16 + sl.tag.toNat)

/-- CRL_EPOCH of end `e` (R509). -/
def State.crlEpoch (s : State) (c e : Nat) : Word32 :=
  BitVec.ofNat 32 (e * 2 ^ 16 + (s.cEnd c (1 - e)).epoch.toNat * 2 ^ 8 + (s.cEnd c e).epoch.toNat)

/-- A read in the end window of carrel `c` at offset `off` (R487, R509). -/
def State.carrelRead (s : State) (mid : Mid) (c off : Nat) : State :=
  match s.endOf c mid with
  | none => s.carrelDeny c
  | some e =>
    s.reply Code.ok (
      if off < 0x40 then Sparse.get 0 (s.slot c e).words (off / 4)
      else if off < 0x80 then Sparse.get 0 (s.slot c (1 - e)).words ((off - 0x40) / 4)
      else if off = 0x88 then s.crlTxStat c e
      else if off = 0x8C then s.crlRxStat c e
      else if off = 0x90 then s.crlEpoch c e
      else 0)

end Sys2Proof.Machine
end

