-- ==== Sys2Proof/Machine/RegAccess.lean ====
section
/-! DEFINITION.  Register writes and reads under the access codes of R9 to R11, for registers without behaviour of their own,
and the conditions that set a cleared bit again (R10). -/

namespace Sys2Proof.Machine

/-- The LOCK bit that governs a register's RWL fields (R11). -/
def lockOf (a : Nat) : Field :=
  if 0x02030000 ≤ a ∧ a < 0x02040000 then Fld.CNS_CTRL_LOCK
  else if 0x01200000 ≤ a ∧ a < 0x01300000 then Fld.CRL_CTRL_LOCK
  else Fld.LIB_CTRL_LOCK

/-- The value a write leaves in a register, field by field under the access codes (R9): `old` and `v` are the register's value
and the value written, `locked` says that the block's LOCK bit is 1 (R11). -/
def RegRow.written (r : RegRow) (locked : Bool) (old v : Word32) : Word32 :=
  let stored := BitVec.ofNat 32 (if locked then r.rw else r.rw ||| r.rwl)
  let cleared := BitVec.ofNat 32 r.w1c &&& v
  let set := BitVec.ofNat 32 r.w1s &&& v
  ((old &&& ~~~ stored &&& ~~~ cleared) ||| (v &&& stored)) ||| set

/-- A locked RWL field would change (R11). -/
def RegRow.attempt (r : RegRow) (locked : Bool) (old v : Word32) : Bool :=
  locked && ((old ^^^ v) &&& BitVec.ofNat 32 r.rwl) != 0

/-- The record of an attempt on a locked RWL field in its block (R11, R447, R455, R485). -/
def State.lockViolation (s : State) (a : Nat) : State :=
  if 0x02030000 ≤ a ∧ a < 0x02040000 then s.raiseBit Fld.CNS_STATUS_REFUSED 429
  else if 0x01200000 ≤ a ∧ a < 0x01300000 then s.raiseBit (Fld.CRL_STAT_DENIED ((a - 0x01200100) / 4 % 32)) (436 + (a - 0x01200100) / 4 % 32)
  else s.raiseBit Fld.LIB_STATUS_REFUSED 475

/-- A temperature in 1/4 °C as the power manager holds it in PWR_TMAX, signed. -/
def State.hottest (s : State) : Int := signedOf 16 (s.fld Fld.PWR_TMAX_VALUE)

/-- A sensor's condition of R464 is present: index 0–47 a temperature sensor, 48–71 a voltage, 72–79 a current monitor. -/
def State.alarming (s : State) (i : Nat) : Bool := Sparse.get false s.lib.alarm i

/-- The bit of sensor `i` in LIB_ALM0 to LIB_ALM2 (R482). -/
def alarmField (i : Nat) : Field :=
  if i < 32 then ⟨Reg.LIB_ALM0, i, 1⟩ else if i < 48 then ⟨Reg.LIB_ALM1, i - 32, 1⟩ else ⟨Reg.LIB_ALM2, i - 48, 1⟩

/-- A bit cleared while its condition persists sets again (R10, R498): the sensor alarms, the thermal alarms and the event
bits that record them. -/
def State.persist (s : State) : State :=
  let s1 := (List.range 80).foldl (fun s i => if s.alarming i then s.setFlag (alarmField i) true else s) s
  let s2 := if (List.range 80).any (fun i => s1.alarming i) then s1.raiseBit Fld.LIB_STATUS_SNS_ALM 471 else s1
  let s3 := if s2.pwr.talarm then s2.raiseBit Fld.PWR_STATUS_TALARM 477 else s2
  if s3.pwr.tshut then s3.raiseBit Fld.PWR_STATUS_TSHUT 478 else s3

/-- A write under the access codes alone; a reserved register ignores it, and a cleared bit whose condition persists sets again
(R7, R9, R10, R11). -/
def State.storeReg (s : State) (a : Nat) (v : Word32) : State :=
  match Reg.row a with
  | none => s.reply Code.ok
  | some r =>
    let locked := s.flag (lockOf a)
    let s0 := s.setReg a (r.written locked (s.reg a) v)
    let s1 := if r.w1c = 0 then s0 else s0.persist
    if r.attempt locked (s.reg a) v then (s1.lockViolation a).reply Code.denied else s1.reply Code.ok

/-- A read under the access codes alone: an RC register clears as it is read, a WO register and a reserved one read 0 (R7,
R9). -/
def State.loadReg (s : State) (a : Nat) : State :=
  match Reg.row a with
  | none => s.reply Code.ok
  | some r => if r.rc then (s.setReg a 0).reply Code.ok (s.reg a) else s.reply Code.ok (s.reg a)

/-- A write of 1s to RW1C bits (R9, R10). -/
def State.clearBits (s : State) (a : Nat) (mask : Word32) : State :=
  match Reg.row a with
  | none => s.reply Code.ok
  | some r => ((s.setReg a (s.reg a &&& ~~~ (mask &&& BitVec.ofNat 32 r.w1c))).persist).reply Code.ok

/-- The VALID bit, the registers and the fields other than OVF of a record of R618. -/
def recordParts : RecordId → Field × List Nat
  | .arrFlt n => (Fld.ARR_FLT_CAUSE_VALID n, [Reg.ARR_FLT_LOC n, Reg.ARR_FLT_TURN n, Reg.ARR_FLT_DETAIL n])
  | .rzSpFlt n => (Fld.RZ_SP_FLT_VALID n, [Reg.RZ_SP_FLT_TURN n])
  | .seqOvr => (Fld.SEQ_OVR_CAUSE_VALID, [Reg.SEQ_OVR_TURN])
  | .hbmErr => (Fld.HBM_ERR_INFO_VALID, [Reg.HBM_ERR_ADDR_LO, Reg.HBM_ERR_ADDR_HI])
  | .acqViol => (Fld.ACQ_VIOL_VALID, [Reg.ACQ_VIOL_VAL])
  | .acqEccCtx => (Fld.ACQ_ECC_CTX_VALID, [])
  | .libBerr k => (Fld.LIB_BERR_VALID k, [Reg.LIB_BERR_ADDR k])
  | .hstWerr => (Fld.HST_WERR_VALID, [Reg.HST_WERR_ADDR_LO, Reg.HST_WERR_ADDR_HI])

/-- The OVF bits of a record's first register, which a clear of VALID keeps (R618). -/
def recordKept : RecordId → Word32
  | .arrFlt n => (Fld.ARR_FLT_CAUSE_OVF n).mask
  | .seqOvr => Fld.SEQ_OVR_CAUSE_OVF.mask
  | _ => 0

/-- The record whose VALID bit lies in a register (R618). -/
def recordAt (a : Nat) : Option RecordId :=
  if a = Reg.SEQ_OVR_CAUSE then some .seqOvr
  else if a = Reg.HBM_ERR_INFO then some .hbmErr
  else if a = Reg.ACQ_VIOL then some .acqViol
  else if a = Reg.ACQ_ECC_CTX then some .acqEccCtx
  else if a = Reg.LIB_BERR 0 then some (.libBerr 0)
  else if a = Reg.LIB_BERR 1 then some (.libBerr 1)
  else if a = Reg.HST_WERR then some .hstWerr
  else match indexOf (Reg.ARR_FLT_CAUSE 0) 0x100000 34 a with
    | some n => if h : n < 34 then some (.arrFlt ⟨n, h⟩) else none
    | none => match indexOf (Reg.RZ_SP_FLT 0) 0x10000 48 a with
      | some n => if h : n < 48 then some (.rzSpFlt ⟨n, h⟩) else none
      | none => none

/-- A write of 1 to a record's VALID bit: every field of the record but OVF returns to 0 and the record is re-armed (R618). -/
def State.clearRecord (s : State) (r : RecordId) : State :=
  let p := recordParts r
  let s1 := s.setReg p.1.addr (s.reg p.1.addr &&& recordKept r)
  (p.2.foldl (fun s a => s.setReg a 0) s1).reply Code.ok

/-- LOCK (R11): a block's LOCK bit set; only PORST_N clears it.  CRL_CTRL and LIB_CTRL take writes from MIDs 0x00, 0x01, 0x08
and 0x09 (R482, R508), CNS_CTRL also from 0x10 (R447). -/
def lockBitOf : LockBlock → Field
  | .conservator => Fld.CNS_CTRL_LOCK
  | .librarian => Fld.LIB_CTRL_LOCK
  | .carrels => Fld.CRL_CTRL_LOCK

/-- Firmware on either core, the host and the ring (R504, R508, R482). -/
def isManager (mid : Mid) : Bool := mid == 0x00 || mid == 0x01 || mid == 0x08 || mid == 0x09

/-- LOCK: the write that sets the bit, or its refusal. -/
def execLockBlock (mid : Mid) (blk : LockBlock) (s : State) : Result :=
  .next (match blk with
    | .conservator =>
      if isManager mid || mid == 0x10 then (s.setFlag (lockBitOf blk) true).reply Code.ok
      else (s.raiseBit Fld.CNS_STATUS_REFUSED 429).reply Code.denied
    | _ => if isManager mid then (s.setFlag (lockBitOf blk) true).reply Code.ok else s.libRefuse)

/-- RECORD_CLEAR (R618). -/
def execRecordClear (_mid : Mid) (rec : RecordId) (s : State) : Result := .next (s.clearRecord rec)

end Sys2Proof.Machine
end

