-- ==== Sys2Proof/Machine/Time.lean ====
section
/-! DEFINITION.  The time unit (R344 to R372): reads of the count, commands, the servo, comparators and the tick. -/

namespace Sys2Proof.Machine

/-- The period in force set, without a new anchor. -/
def State.setPeriodRegs (s : State) (p : Nat) : State :=
  (s.setReg Reg.TU_PER_LO (BitVec.ofNat 32 p)).setReg Reg.TU_PER_HI (BitVec.ofNat 32 (p / 2 ^ 32 % 2 ^ 16))

/-- A change of P (R349): T0 becomes the time of C under the old period, C0 becomes C, then P changes. -/
def State.setPeriod (s : State) (p : Nat) : State :=
  ({ s with time := { s.time with t0 := s.now, c0 := s.count } } : State).setPeriodRegs p

/-- The integral I and the correction y, signed, in 2^-40 ns per count (R355). -/
def State.servoI (s : State) : Int := signedOf 32 (s.reg Reg.TU_SRV_I).toNat
def State.servoY (s : State) : Int := signedOf 32 (s.reg Reg.TU_SRV_Y).toNat

/-- The period that the state of R353 puts in force; PNOM with the servo disabled (R350). -/
def State.periodByState (s : State) : Nat :=
  if !s.flag Fld.TU_SRV_CFG_EN then s.time.pnom
  else match s.fld Fld.TU_STATUS_STATE with
    | 1 => natOfInt 48 ((s.time.pnom : Int) - s.servoY)
    | 2 => natOfInt 48 ((s.time.pnom : Int) - s.servoY)
    | 3 => natOfInt 48 ((s.time.pnom : Int) - s.servoI)
    | _ => s.time.pnom

/-- The dispatcher tick's period in counts, taken again (R369): US from 1 to 1,000, 0 stops it. -/
def State.retick (s : State) : State :=
  { s with time := { s.time with tickCounts := s.countsOfUs (min 1000 (s.reg Reg.TU_TICK).toNat) } }

/-- A MID that may write the time unit (R368). -/
def tuWriter (mid : Mid) : Bool := isManager mid || mid == 0x10

/-- A write of the time unit by a MID: performed, or refused with DENIED and EV396 (R368). -/
def State.tuWrite (s : State) (mid : Mid) (f : State → State) : State :=
  if tuWriter mid then f s else (s.raiseBit Fld.TU_STATUS_DENIED 396).reply Code.denied

/-- A read of TU_RAW_LO: C and its PTP time are latched (R351). -/
def State.tuLatch (s : State) : State :=
  let c := s.count
  let t := s.now
  (((((s.setReg Reg.TU_RAW_LO (BitVec.ofNat 32 c)).setReg Reg.TU_RAW_HI (BitVec.ofNat 32 (c / 2 ^ 32))).setReg
    Reg.TU_TIME_FNS (BitVec.ofNat 32 (timeFns t))).setReg Reg.TU_TIME_NS (BitVec.ofNat 32 (timeNs t))).setReg
    Reg.TU_TIME_S_LO (BitVec.ofNat 32 (timeSec t))).setReg Reg.TU_TIME_S_HI (BitVec.ofNat 32 (timeSec t / 2 ^ 32))

/-- Command argument `j`. -/
def State.tuArg (s : State) (j : Nat) : Nat := (s.reg (Reg.TU_ARG j)).toNat

/-- The command SET (R357). -/
def State.tuSetTime (s : State) : State :=
  let t := timeFrom (s.tuArg 0 % 65536) (s.tuArg 1 % 1000000000) (s.tuArg 2 + s.tuArg 3 % 65536 * 2 ^ 32)
  let s1 : State := { s with time := { s.time with t0 := t, c0 := s.count, lockCnt := 0 } }
  (((s1.setFld Fld.TU_STATUS_STATE 0).setReg Reg.TU_SRV_I 0).setReg Reg.TU_SRV_Y 0).setPeriodRegs s.time.pnom

/-- The command STEP (R357): a signed delta added to T0. -/
def State.tuStepTime (s : State) : State :=
  let d : Int := signedOf 64 (s.tuArg 1 + s.tuArg 2 * 2 ^ 32) * 2 ^ 40 + ((s.tuArg 0 % 65536 : Nat) : Int) * 2 ^ 24
  ({ s with time := { s.time with t0 := s.time.t0 + d } } : State).raiseBit Fld.TU_STATUS_STEPPED 392

/-- The command CONV (R352). -/
def State.tuConvert (s : State) : State :=
  let t := s.timeOf (s.tuArg 1 + s.tuArg 2 * 2 ^ 32) (s.tuArg 0 % 256)
  (((s.setReg Reg.TU_CONV_FNS (BitVec.ofNat 32 (timeFns t))).setReg Reg.TU_CONV_NS (BitVec.ofNat 32 (timeNs t))).setReg
    Reg.TU_CONV_S_LO (BitVec.ofNat 32 (timeSec t))).setReg Reg.TU_CONV_S_HI (BitVec.ofNat 32 (timeSec t / 2 ^ 32))

/-- Entry into HOLDOVER from LOCKING or LOCKED (R356). -/
def State.tuHoldover (s : State) : State :=
  if s.fld Fld.TU_STATUS_STATE = 1 ∨ s.fld Fld.TU_STATUS_STATE = 2 then
    let s1 := s.setPeriod (natOfInt 48 ((s.time.pnom : Int) - s.servoI))
    let s2 : State := { s1 with time := { s1.time with lockCnt := 0 } }
    (s2.setFld Fld.TU_STATUS_STATE 3).raiseBit Fld.TU_STATUS_HOLDOVER_ENT 390
  else s

/-- A write of TU_CMD (R368): the command, or CMD_BAD for a reserved code. -/
def State.tuCommand (s : State) (code : Nat) : State :=
  match code with
  | 0 => s
  | 1 => s.tuSetTime
  | 2 => s.tuStepTime
  | 3 => s.tuConvert
  | 4 => s.tuHoldover
  | _ => s.raiseBit Fld.TU_STATUS_CMD_BAD 395

/-- A value kept within −m and m. -/
def clampTo (m v : Int) : Int := if v < -m then -m else if m < v then m else v

/-- The measurement e in 2^-16 ns, signed 48 bits (R354). -/
def State.servoE (s : State) : Int :=
  signedOf 48 ((s.reg Reg.TU_SRV_OFS_LO).toNat + (s.reg Reg.TU_SRV_OFS_HI).toNat % 65536 * 2 ^ 32)

/-- Order 1 of R355: a step of time. -/
def State.servoStep (s : State) (e : Int) : State :=
  let s1 : State := { s with time := { s.time with t0 := s.time.t0 - e * 2 ^ 24, lockCnt := 0 } }
  (s1.setFld Fld.TU_STATUS_STATE 1).raiseBit Fld.TU_STATUS_STEPPED 392

/-- Orders 2 to 4 of R355: the integral, the correction and the new period. -/
def State.servoSlew (s : State) (e : Int) : State :=
  let m : Int := (s.fld Fld.TU_SRV_MAX_MAXADJ : Nat)
  let i0 := s.servoI + (e * (s.fld Fld.TU_SRV_GAIN_KI : Nat)) / 2 ^ s.fld Fld.TU_SRV_CFG_KI_S
  let i1 := clampTo m i0
  let y0 := (e * (s.fld Fld.TU_SRV_GAIN_KP : Nat)) / 2 ^ s.fld Fld.TU_SRV_CFG_KP_S + i1
  let y1 := clampTo m y0
  let s1 := (s.setReg Reg.TU_SRV_I (BitVec.ofInt 32 i1)).setReg Reg.TU_SRV_Y (BitVec.ofInt 32 y1)
  let s2 := s1.setPeriod (natOfInt 48 ((s1.time.pnom : Int) - y1))
  if i1 ≠ i0 ∨ y1 ≠ y0 then s2.raiseBit Fld.TU_STATUS_CLAMP 393 else s2

/-- Orders 5 and 6 of R355: the lock count and the state. -/
def State.servoLock (s : State) (e : Int) : State :=
  let small := decide (e.natAbs < s.fld Fld.TU_SRV_LOCK_LOCK_NS * 2 ^ 16)
  let n := if small then s.time.lockCnt + 1 else 0
  let s1 : State := { s with time := { s.time with lockCnt := n } }
  let st := s1.fld Fld.TU_STATUS_STATE
  let st1 := if st = 2 ∧ n = 0 then 1 else if st = 0 ∨ st = 3 then 1 else st
  let s2 := s1.setFld Fld.TU_STATUS_STATE st1
  if st1 ≠ 2 ∧ max 1 (s2.fld Fld.TU_SRV_CFG_LOCK_N) ≤ n then
    (s2.setFld Fld.TU_STATUS_STATE 2).raiseBit Fld.TU_STATUS_LOCK_ENT 391
  else s2

/-- A write of TU_SRV_OFS_HI: the measurement is committed, and applied when EN is 1 (R354, R355). -/
def State.servoCommit (s : State) (hi : Word32) : State :=
  let s1 := s.setReg Reg.TU_SRV_OFS_HI (hi &&& 0xFFFF)
  if !s1.flag Fld.TU_SRV_CFG_EN then s1
  else
    let e := s1.servoE
    let big := s1.reg Reg.TU_SRV_STEP ≠ 0 ∧ (s1.reg Reg.TU_SRV_STEP).toNat * 2 ^ 16 ≤ e.natAbs
    let s2 := s1.countReg Reg.TU_SRV_CNT
    let s3 := if big then s2.servoStep e else s2.servoSlew e
    s3.servoLock e

/-- A write of TU_PNOM_HI: PNOM is committed and time re-anchored (R349, R350, R369). -/
def State.pnomCommit (s : State) (hi : Word32) : State :=
  let s1 := s.setReg Reg.TU_PNOM_HI (hi &&& 0xFFFF)
  let p := (s1.reg Reg.TU_PNOM_LO).toNat + hi.toNat % 65536 * 2 ^ 32
  let s2 : State := { s1 with time := { s1.time with pnom := p } }
  (s2.setPeriod s2.periodByState).retick

/-- The staged comparator of window `n`, as ARM copies it (R362, R370). -/
def State.staged (s : State) (n : Nat) : Comparator :=
  let tgt := fun k => (s.reg (Reg.TU_TC_TGT n k)).toNat
  let per := fun k => (s.reg (Reg.TU_TC_PER n k)).toNat
  if s.flag (Fld.TU_TC_CFG_MODE n) then
    { raw := true, periodic := s.flag (Fld.TU_TC_CFG_PERIODIC n), target := ((tgt 1 + tgt 2 * 2 ^ 32 : Nat) : Int), period := per 1 }
  else
    { raw := false, periodic := s.flag (Fld.TU_TC_CFG_PERIODIC n),
      target := timeFrom (tgt 0 % 65536) (tgt 1 % 1000000000) (tgt 2 + tgt 3 % 65536 * 2 ^ 32),
      period := (per 1 * 65536 + per 0 % 65536) * 2 ^ 24 }

/-- ARM (R362). -/
def State.armTc (s : State) (n : Nat) : State :=
  let c := s.staged n
  let s1 : State := { s with time := { s.time with live := Sparse.insert (Sparse.erase s.time.live n) n c } }
  s1.setFlag (Fld.TU_TC_CTRL_ARMED n) true

/-- DISARM (R362). -/
def State.disarmTc (s : State) (n : Nat) : State := s.setFlag (Fld.TU_TC_CTRL_ARMED n) false

/-- A write of TU_TC_CTRL: clears, then DISARM before ARM (R362). -/
def State.tcCtrl (s : State) (n : Nat) (v : Word32) : State :=
  let s1 := s.clearBits (Reg.TU_TC_CTRL n) v
  if bitOf v.toNat 1 then s1.disarmTc n else if bitOf v.toNat 0 then s1.armTc n else s1

/-- The compare value of a live comparator (R363). -/
def State.compareValue (s : State) (c : Comparator) : Int := if c.raw then (s.count : Int) else s.now

/-- The target of a periodic comparator after a fire: the first addition that lies past the compare value (R363). -/
def nextTarget (target value : Int) (period : Nat) : Int :=
  target + ((value - target) / period + 1) * period

/-- An armed comparator at or past its target fires (R363, R364, R366): FIRED and COUNT, LATE where its compare value exceeds
the target by more than a time-clock period, the target advanced or the comparator disarmed, the time bit, the pin pulse and
the power manager's exit source. -/
def State.fireTc (s : State) (n : Nat) : State :=
  match Sparse.find s.time.live n with
  | none => s
  | some c =>
    let v := s.compareValue c
    if !s.flag (Fld.TU_TC_CTRL_ARMED n) || decide (v < c.target) then s
    else
      let late := decide ((if c.raw then (1 : Int) else (s.period : Int)) < v - c.target)
      let s1 := (s.setFlag (Fld.TU_TC_CTRL_FIRED n) true).countReg (Reg.TU_TC_COUNT n)
      let s2 := if c.periodic && c.period != 0 then
          let c' := { c with target := nextTarget c.target v c.period }
          { s1 with time := { s1.time with live := Sparse.insert (Sparse.erase s1.time.live n) n c' } }
        else s1.disarmTc n
      let s3 := if late then (s2.setFlag (Fld.TU_TC_CTRL_LATE n) true).raiseBit Fld.TU_STATUS_TC_LATE 394 else s2
      let pin := s3.fld (Fld.TU_TC_CFG_PIN n)
      let s4 : State := { s3 with time := { s3.time with firedSince := s3.time.firedSince ||| BitVec.ofNat 16 (2 ^ n) } }
      let s5 : State := if s4.flag (Fld.TU_TC_CFG_PIN_EN n) && decide (pin < 192) && s4.fld (Fld.TU_TC_PW_PW n) != 0 then
          { s4 with time := { s4.time with pulses := Sparse.insert (Sparse.erase s4.time.pulses n) n pin } } else s4
      if s5.flag (Fld.TU_TC_CFG_WAKE_EN n) then s5.exitSource 4 n (s5.flag Fld.PWR_WAKE_EN_TC) true true else s5

/-- A write to a comparator's configuration, staged registers or control (R362, R367): an assigning write where the image
owns the comparator. -/
def State.tcWrite (s : State) (mid : Mid) (n : Nat) (f : State → State) : State :=
  s.tuWrite mid (fun s => s.assign mid 0x03 n (fun s => (f s).reply Code.ok))

/-- A write to the time-unit range (R370). -/
def State.tuRegWrite (s : State) (mid : Mid) (a : Nat) (v : Word32) : State :=
  s.tuWrite mid (fun s =>
    if a = Reg.TU_CMD then (s.tuCommand (v.toNat % 16)).reply Code.ok
    else if a = Reg.TU_PNOM_HI then (s.pnomCommit v).reply Code.ok
    else if a = Reg.TU_SRV_OFS_HI then (s.servoCommit v).reply Code.ok
    else if a = Reg.TU_TICK then ((s.storeReg a v).retick).reply Code.ok
    else if a = Reg.TU_SRV_CFG then
      let s1 := s.storeReg a v
      if s.flag Fld.TU_SRV_CFG_EN && !s1.flag Fld.TU_SRV_CFG_EN then (s1.setPeriod s1.time.pnom).reply Code.ok else s1
    else if Reg.TU_TC_CFG 0 ≤ a ∧ a < Reg.TU_TC_CFG 16 then
      let n := (a - Reg.TU_TC_CFG 0) / 0x40
      s.assign mid 0x03 n (fun s => if a = Reg.TU_TC_CTRL n then (s.tcCtrl n v).reply Code.ok else s.storeReg a v)
    else s.storeReg a v)

/-- TU_REFPH (R361). -/
def State.refPhaseReg (s : State) : Word32 :=
  let mult := s.fld Fld.CLK_RPLL_MULT
  if mult % 4 = 0 ∧ s.flag Fld.CLK_STATUS_LOCK then BitVec.ofNat 32 (2 ^ 31 + s.time.refPhase % 256) else 0

/-- A read in the time-unit range (R351, R361, R370). -/
def State.tuRegRead (s : State) (a : Nat) : State :=
  if a = Reg.TU_RAW_LO then
    let s1 := s.tuLatch
    s1.reply Code.ok (s1.reg Reg.TU_RAW_LO)
  else if a = Reg.TU_REFPH then s.reply Code.ok s.refPhaseReg
  else s.loadReg a

/-- TU_RAW_LO_READ (R351). -/
def execTuRawLoRead (_mid : Mid) (s : State) : Result := .next (s.tuRegRead Reg.TU_RAW_LO)

/-- SET (R357). -/
def execTuSet (mid : Mid) (s : State) : Result := .next (s.tuWrite mid (fun s => s.tuSetTime.reply Code.ok))

/-- STEP of the time unit (R357). -/
def execTuStep (mid : Mid) (s : State) : Result := .next (s.tuWrite mid (fun s => s.tuStepTime.reply Code.ok))

/-- CONV (R352). -/
def execTuConv (mid : Mid) (s : State) : Result := .next (s.tuWrite mid (fun s => s.tuConvert.reply Code.ok))

/-- HOLD (R356). -/
def execTuHold (mid : Mid) (s : State) : Result := .next (s.tuWrite mid (fun s => s.tuHoldover.reply Code.ok))

/-- SERVO_MEASUREMENT (R355). -/
def execServoMeasurement (mid : Mid) (hi : Word32) (s : State) : Result :=
  .next (s.tuWrite mid (fun s => (s.servoCommit hi).reply Code.ok))

/-- HOLDOVER_TIMEOUT (R356): a TMO_MS of 0 disables it. -/
def execHoldoverTimeout (s : State) : Result :=
  .next (if s.fld Fld.TU_SRV_CFG_TMO_MS = 0 then s else s.tuHoldover)

/-- PNOM_COMMIT (R349). -/
def execPnomCommit (mid : Mid) (hi : Word32) (s : State) : Result :=
  .next (s.tuWrite mid (fun s => (s.pnomCommit hi).reply Code.ok))

/-- ARM (R362). -/
def execTcArm (mid : Mid) (tc : Fin 16) (s : State) : Result := .next (s.tcWrite mid tc (fun s => s.armTc tc))

/-- DISARM (R362). -/
def execTcDisarm (mid : Mid) (tc : Fin 16) (s : State) : Result := .next (s.tcWrite mid tc (fun s => s.disarmTc tc))

/-- PULSE_END (R366): the comparator's pin pulse ends. -/
def execPulseEnd (tc : Fin 16) (s : State) : Result :=
  .next { s with time := { s.time with pulses := Sparse.erase s.time.pulses tc } }

/-- DISPATCHER_TICK (R369, R474): none while the tick is stopped. -/
def execDispatcherTick (s : State) : Result :=
  .next (if (s.reg Reg.TU_TICK).toNat = 0 then s else s.dspTick)

/-- DELAY_EXPIRY (R474): a task whose count is 0 leaves the delay list. -/
def execDelayExpiry (task : Fin 64) (s : State) : Result :=
  .next (match (s.task task).delay with
    | some d => if d.count = 0 then (s.expireTask task).dspSettle else s
    | none => s)

end Sys2Proof.Machine
end

