-- ==== Sys2Proof/Machine/Requests.lean ====
section
/-! DEFINITION.  The completion of an access to whoever waits for it (R455, R561, R567, R568, R577). -/

namespace Sys2Proof.Machine

/-- A posted write that fails (R568): the record, WERR and EV496.  `bar` and `offset` are those of the request. -/
def State.writeError (s : State) (bar offset : Nat) (code : Status) : State :=
  let s1 := if s.flag Fld.HST_WERR_VALID then s
    else (((s.setReg Reg.HST_WERR_ADDR_LO (BitVec.ofNat 32 offset)).setReg Reg.HST_WERR_ADDR_HI
      (BitVec.ofNat 32 (bar * 2 ^ 28 + offset / 2 ^ 32 % 4))).setFld Fld.HST_WERR_CODE code.toNat).setFlag Fld.HST_WERR_VALID true
  s1.raiseBit Fld.HST_STATUS_WERR 496

/-- A read through a BAR that is aborted (R567, R568): the completion, and the header that AER logs when it holds none. -/
def State.abortRead (s : State) (bar offset : Nat) : State :=
  ({ s with host := { s.host with aer := match s.host.aer with
      | some x => some x
      | none => some (bar, offset) } } : State).emit .completerAbort

/-- A host request whose every part is complete (R567, R568): a read is answered, and a write that failed is recorded. -/
def State.barDone (s : State) (b : BarReq) : State :=
  if b.write then (if b.status = Code.ok then s else s.writeError b.bar b.offset b.status)
  else if b.status = Code.ok then s.emit (.barData b.data) else s.abortRead b.bar b.offset

/-- A part of a host request completes; of one that a reset of the interface took away the completion is discarded (R570). -/
def State.barPart (s : State) (id : Nat) (code : Status) (data : List Byte) : State :=
  match s.host.bars.find? (fun b => b.id == id) with
  | none => s
  | some b =>
    let b1 := { b with parts := b.parts - 1, status := if b.status = Code.ok then code else b.status, data := b.data ++ data }
    if b1.parts = 0 then
      ({ s with host := { s.host with bars := s.host.bars.filter (fun x => x.id != id) } } : State).barDone b1
    else { s with host := { s.host with bars := s.host.bars.map (fun x => if x.id = id then b1 else x) } }

/-- A packet put on the general plane, with the injection epoch (R194, R204). -/
def State.sendFlight (s : State) (node : Nat) (p : Packet) : State :=
  { s with rz := { s.rz with
      flights := Sparse.put none s.rz.flights s.rz.nextId
        (some { pkt := p, node := node, hops := 0, epoch := s.fld Fld.RZ_EPOCH_GP_EPOCH, marked := false, held := false,
                arrived := false }),
      nextId := s.rz.nextId + 1 } }

/-- A packet leaves the general plane. -/
def State.dropFlight (s : State) (id : Nat) : State :=
  { s with rz := { s.rz with flights := Sparse.put none s.rz.flights id none } }

/-- The answer to a request: an RDRSP or WRRSP from a node and endpoint to the request's source (R194, R195). -/
def packetAnswer (p : Packet) (node ep : Nat) (code : Status) (data : List (BitVec 256)) : Packet :=
  { dnode := p.snode, dep := p.sep, snode := BitVec.ofNat 6 node, sep := BitVec.ofNat 3 ep, mid := p.mid, cls := 1,
    opc := if p.opc = 0 then 2 else 3, tag := p.tag, status := code, rdlen := 0, addr := p.addr, firstBe := 0, lastBe := 0,
    data := data }

/-- A packet is done with at a node: a REQ is answered, and any other packet is dropped. -/
def State.endPacket (s : State) (id node : Nat) (p : Packet) (code : Status) (data : List (BitVec 256)) : State :=
  let s1 := s.dropFlight id
  if p.cls = 0 then s1.sendFlight node (packetAnswer p node p.dep.toNat code data) else s1

/-- A packet held at a fence is answered with a status, or dropped (R210 orders 4 and 5). -/
def State.answerPacket (s : State) (id : Nat) (code : Status) : State :=
  match Sparse.get none s.rz.flights id with
  | some f => s.endPacket id f.pkt.dnode.toNat f.pkt code []
  | none => s

/-- An access is complete with a status and data: its origin is answered, and the next access has none. -/
def State.finish (s : State) (o : Origin) (code : Status) (data : List Byte) : State :=
  let s1 : State := { s with caller := .direct }
  match o with
  | .direct => s1
  | .bar id => s1.barPart id code data
  | .ring tag src => s1.emit (.ringFrame 4 src (s.fld Fld.LRG_STATUS_NUM) false (tag + code.toNat * 256) [natOfBytes data])
  | .twin => s1.emit (.twinReg (.answer code (BitVec.ofNat 32 (natOfBytes data))))
  | .debug => s1.emit (.debug (code == Code.ok) (natOfBytes data))

/-- A register access is complete: its status and data stand in `done` (R33). -/
def State.finishReg (s : State) (o : Origin) : State :=
  s.finish o s.done.status (if s.done.status = Code.ok then bytesOf32 s.done.data else bytesOf32 0)

/-- A held request is answered with a status (R210 orders 4 and 5). -/
def State.answerReq (s : State) (h : HeldReq) (code : Status) : State :=
  match h.access with
  | .packet id => s.answerPacket id code
  | _ => (s.reply code).finishReg h.origin

/-- An access made for an origin: where it was not held on the way, it completes at once.
(DESIGN CHOICE, log 73.) -/
def State.access (s : State) (o : Origin) (f : State → State) : State :=
  let s1 := f { s with caller := o }
  if s1.caller = o then s1.finishReg o else s1

end Sys2Proof.Machine
end

