-- ==== Sys2Proof/Machine/Power.lean ====
section
/-! DEFINITION.  Power domains and device states (R511 to R527): holds, shutdown, wake, requests for a state, entry and
exit. -/

namespace Sys2Proof.Machine

/-- The register at address `a` lies in the slot table of node `n` and is not 0 (R188, R211). -/
def slotUsed (n : Nat) (e : Nat × Word32) : Bool :=
  decide (0x04014000 + n * 0x10000 ≤ e.1 ∧ e.1 < 0x04018000 + n * 0x10000) && e.2 != 0

/-- The loader writes a sorus: it belongs to the region of a partial load under way, it is the target of a repair, or a full
load is in its FRAMES phases (R383, R398, R406, R511). -/
def State.loaderWrites (s : State) (n : Nat) : Bool :=
  s.ldr.target == some n ||
  (match s.ldr.change, s.virtOf n with
   | some c, some v => (c.kind == 1 || c.kind == 2) && bitOf c.mask v
   | _, _ => false)

/-- The hold condition of a domain (R211, R282, R433, R511, R535). -/
def State.holds (s : State) (d : Nat) : Bool :=
  if d < 34 then s.flag (Fld.ARR_STATUS_MAPPED d) || s.loaderWrites d
  else if d < 58 then
    s.flag (Fld.LN_PLL_EN (d - 34)) || (List.range 4).any (fun k => s.flag (Fld.LN_CFG_EN (4 * (d - 34) + k)))
  else if d < 66 then
    (List.range 6).any (fun r =>
      (List.range 32).any (fun v => decide (nodeOfVirtual v = nodeAt (d - 58) r) && s.physOf v != 0xFF) ||
      s.regs.any (slotUsed (nodeAt (d - 58) r)))
  else if d < 70 then
    s.flag Fld.ACQ_CTRL_EN || (List.range 48).any (fun k => s.flag (Fld.LN_LE_CFG_TO_ACQ (48 * ((d - 66) % 2) + k)))
  else if d < 72 then (List.range 32).any (fun r => s.flag (Fld.HBM_RGN_OWN_EN r))
  else match d with
    | 72 => s.flag Fld.TWN_CFG_EN
    | 73 => s.flag Fld.HST_STATUS_LINK_UP
    | 74 => s.flag Fld.LRG_STATUS_ENUMERATED || s.fld Fld.DEV_STRAPS_BOOTSEL == 3
    | 75 => (List.range 2).any (fun p => s.fld (Fld.TU_TP_CFG_STD p) == 1 || s.fld (Fld.TU_TP_CFG_STD p) == 2)
    | 76 => (s.ldr.phase != 10 && s.ldr.phase != 11) || s.flag Fld.LDR_CMD_STAT_PENDING
    | 77 => s.flag Fld.CNS_CTRL_EN
    | 78 => s.devState == 0
    | 79 => s.flag Fld.LIB_CTRL_C1_RUN
    | _ => (List.range 24).any (fun p => s.fld (Fld.IOB_PIN_STD (d - 80) p) != 0)

/-- A MID that may write the power manager (R520). -/
def pwrWriter (mid : Mid) : Bool := isManager mid || mid == 0x10

/-- A refused write or request: its cause and DENIED in PWR_CMD_STAT, PWR_STATUS.REFUSED and EV480 (R520, R523). -/
def State.pwrRefuse (s : State) (cause : Nat) : State :=
  (((s.setFld Fld.PWR_CMD_STAT_CAUSE cause).setFld Fld.PWR_CMD_STAT_CODE Code.denied.toNat).raiseBit
    Fld.PWR_STATUS_REFUSED 480).reply Code.denied

/-- The endpoint of a domain fenced, or its fence lifted (R210).
(DESIGN CHOICE, log 104.) -/
def State.fence (s : State) (d : Nat) (on : Bool) : State :=
  (s.nodesOfDomain d).foldl (fun s n => s.setFlag (Fld.RZ_NODE_STAT_FENCED n) on) s

/-- A domain's shutdown begins: DRAIN, its endpoint fenced (R515). -/
def State.startShutdown (s : State) (d : Nat) : State :=
  if s.domState d = 0 then (s.setFld (Fld.PWR_DSTAT_STATE d) 1).fence d true else s

/-- A write of REQ 0 (R512, R518, R520). -/
def State.domainOff (s : State) (d : Nat) : State :=
  if s.holds d then s.pwrRefuse 7
  else
    let s1 := s.setFlag (Fld.PWR_DCTL_REQ d) false
    if s1.domState d = 4 then
      ({ s1 with pwr := { s1.pwr with shutAfter := s1.pwr.shutAfter ++ [d] } } : State).reply Code.ok
    else (s1.startShutdown d).reply Code.ok

/-- A write of REQ 1 (R512, R518, R519).
(DESIGN CHOICE, log 104.) -/
def State.domainOnReq (s : State) (mid : Mid) (d : Nat) : State :=
  let s1 := s.setFlag (Fld.PWR_DCTL_REQ d) true
  let s2 : State := match s1.domState d with
    | 1 => (s1.setFld (Fld.PWR_DSTAT_STATE d) 0).fence d false
    | 2 => { s1 with pwr := { s1.pwr with rewake := Sparse.put none s1.pwr.rewake d (some mid) } }
    | 3 => s1.wakeDomain d 2 mid.toNat
    | _ => { s1 with pwr := { s1.pwr with shutAfter := s1.pwr.shutAfter.filter (fun x => x != d) } }
  s2.reply Code.ok

/-- A write of PWR_DCTLd: LOCKOFF as written, then REQ (R517, R518). -/
def State.dctlWrite (s : State) (mid : Mid) (d : Nat) (v : Word32) : State :=
  if !pwrWriter mid then s.pwrRefuse 6
  else
    let s1 := s.setFlag (Fld.PWR_DCTL_LOCKOFF d) (bitOf v.toNat 1)
    if bitOf v.toNat 0 then s1.domainOnReq mid d else s1.domainOff d

/-- Held requests of a domain answered, in order of arrival (R210 orders 4 and 5): they complete with a status, and the nodes
of the domain record the condition. -/
def State.answerHeld (s : State) (d : Nat) (code : Status) (f : Nat → Field) : State :=
  if s.pwr.held.any (fun h => h.dom == d) then
    let s1 : State := { s with pwr := { s.pwr with held := s.pwr.held.filter (fun h => h.dom != d) } }
    let s2 := (s.pwr.held.filter (fun h => h.dom == d)).foldl (fun s h => s.answerReq h code)
      (s1.setFlag (Fld.PWR_DSTAT_HELD d) false)
    (s2.nodesOfDomain d).foldl (fun s n => (s.setFlag (Fld.RZ_NODE_STAT_HOLDING n) false).nodeRaise (f n) n) s2
  else s

/-- A request held at the fence of a domain (R210 order 2, R517): its caller waits on.
(DESIGN CHOICE, log 104.) -/
def State.holdAt (s : State) (h : HeldReq) : State :=
  let s1 : State := { s with pwr := { s.pwr with held := s.pwr.held ++ [h] }, caller := .direct }
  (s1.nodesOfDomain h.dom).foldl (fun s n => s.setFlag (Fld.RZ_NODE_STAT_HOLDING n) true)
    (s1.setFlag (Fld.PWR_DSTAT_HELD h.dom) true)

/-- A first access to a domain (R28, R210, R512, R517): to a domain that is locked off and OFF it is answered DOMAIN_OFF;
else it is held, an OFF domain wakes with source ACCESS, and any MID but the loader's sets REQ. -/
def State.firstAccess (s : State) (mid : Mid) (d : Nat) (access : HeldAccess) : State :=
  if s.domState d = 0 ∨ s.domState d = 5 then s
  else
    let s1 := s.holdAt { dom := d, mid := mid, access := access, origin := s.caller }
    if s1.domState d = 3 ∧ s1.flag (Fld.PWR_DCTL_LOCKOFF d) then
      s1.answerHeld d Code.domainOff Fld.RZ_NODE_STAT_HELD_OFF
    else
      let s2 := if mid = 0x10 then s1 else s1.setFlag (Fld.PWR_DCTL_REQ d) true
      s2.wakeDomain d 3 mid.toNat

/-- A write that its block refuses for its MID: it is answered DENIED before the domain is asked, and never wakes it (R35,
R207, R447, R482).
(DEDUCED, log 59.) -/
def midRefused (mid : Mid) (a : Nat) (write : Bool) : Bool :=
  write && !(isManager mid || mid == 0x10) &&
    (decide (0x04010100 ≤ a ∧ a < 0x04310000 ∧
      ((0x0100 ≤ (a - 0x04010000) % 0x10000 ∧ (a - 0x04010000) % 0x10000 < 0x01A0) ∨ 0x0400 ≤ (a - 0x04010000) % 0x10000)) ||
     decide (0x02030000 ≤ a ∧ a < 0x03000000))

/-- The domain of the block that an access reaches: the context window shows the half that ACQ_CTX_WIN selects, and the
envelope entries of a bank lie in its half (R282, R296, R317). -/
def State.domainAt (s : State) (a : Nat) : Option Nat :=
  if 0x06800000 ≤ a ∧ a < 0x07000000 then some (68 + s.fld Fld.ACQ_CTX_WIN_HALF)
  else if 0x06080000 ≤ a ∧ a < 0x06100000 then some (68 + (a - 0x06080000) / 0x40000)
  else domainOfAddr a

/-- A register access that reaches its block, or is held at the fence of the block's domain (R28, R210, R517).
(DEDUCED, log 59.) -/
def State.gate (s : State) (mid : Mid) (a : Nat) (write : Option Word32) (f : State → State) : State :=
  match s.domainAt a with
  | none => f s
  | some d =>
    if s.domState d = 0 ∨ s.domState d = 5 ∨ midRefused mid a write.isSome then f s
    else s.firstAccess mid d (.reg a write)

/-- The registers of a switched domain after a wake from OFF (R513): RW, RWL and W1S bits are kept, the others return to
their reset values; the windows of a sorus's memories return to 0.
(DEDUCED, log 105.) -/
def State.resetRegsOf (s : State) (inDomain : Nat → Bool) : State :=
  (s.regs.map (fun e => e.1)).foldl (fun s a =>
    if inDomain a then
      match Reg.row a with
      | none => s.setReg a (Reg.resetOf a)
      | some r =>
        if 0x0C001000 ≤ a ∧ a < 0x0E200000 ∧ 0x1000 ≤ a % 0x100000 then s.setReg a 0
        else
          let keep := BitVec.ofNat 32 (r.rw ||| r.rwl ||| r.w1s)
          s.setReg a ((s.reg a &&& keep) ||| (Reg.resetOf a &&& ~~~ keep))
    else s) s

/-- Sensors of a domain that stand in R511's held-on list again; the fence lifted and RUN reported (R516 step 4).
(DESIGN CHOICE, log 104.) -/
def State.toRun (s : State) (d : Nat) : State :=
  let s1 := (s.setFld (Fld.PWR_DSTAT_STATE d) 0).fence d false
  if s1.pwr.shutAfter.contains d && !s1.holds d then
    (({ s1 with pwr := { s1.pwr with shutAfter := s1.pwr.shutAfter.filter (fun x => x != d) } } : State).startShutdown d)
  else { s1 with pwr := { s1.pwr with shutAfter := s1.pwr.shutAfter.filter (fun x => x != d) } }

/-- The stack's power falls with PD71, and its PHY must be trained again (R339, R511). -/
def State.stackOff (s : State) (d : Nat) : State := s.when (d == 71) (fun s => s.setFlag Fld.HBM_STATUS_READY false)

/-- A domain reaches OFF (R515, R518): a re-enable in ISOLATED wakes it at once with REWAKE and EV483; a held request wakes
it, or is answered DOMAIN_OFF when the domain is locked off. -/
def State.reachOff (s : State) (d : Nat) : State :=
  let s1 := (s.setFld (Fld.PWR_DSTAT_STATE d) 3).stackOff d
  match Sparse.get none s1.pwr.rewake d with
  | some mid =>
    let s2 : State := { s1 with pwr := { s1.pwr with rewake := Sparse.put none s1.pwr.rewake d none } }
    ((((s2.setFlag (Fld.PWR_DSTAT_REWAKE d) true).countReg Reg.PWR_REWAKE_CNT).raiseBit Fld.PWR_STATUS_REWAKE 483).wakeDomain
      d 2 mid.toNat)
  | none =>
    match s1.pwr.held.find? (fun h => h.dom == d) with
    | none => s1
    | some h =>
      if s1.flag (Fld.PWR_DCTL_LOCKOFF d) then s1.answerHeld d Code.domainOff Fld.RZ_NODE_STAT_HELD_OFF
      else s1.wakeDomain d 3 h.mid.toNat

/-- The sequencer's state (R114). -/
def State.seqState (s : State) : Nat := s.fld Fld.SEQ_STATUS_STATE

/-- The first cause for which a request for device state `st` by a MID is refused (R523); none where it is accepted. -/
def State.stateRefusal (s : State) (mid : Mid) (st : Nat) : Option Nat :=
  let deep := st == 2 || st == 3 || st == 4
  if !isManager mid then some 6
  else if 4 < st ∨ (st ≠ 0 ∧ st < s.devState) ∨ s.devState = 5 ∨ s.devState = 6 then some 1
  else if (st = 1 ∧ (s.seqState = 2 ∨ s.seqState = 3)) ∨ (deep ∧ s.seqState ≠ 0 ∧ s.seqState ≠ 5) then some 2
  else if deep ∧ ((1 ≤ s.ldr.phase ∧ s.ldr.phase ≤ 9) ∨ s.flag Fld.LDR_CMD_STAT_PENDING) then some 3
  else if deep ∧ s.flag Fld.ACQ_CTRL_EN then some 4
  else if deep ∧ s.fld Fld.TWN_STATUS_MODE ≠ 0 then some 5
  else none

/-- Where R522 puts a domain in a device state; none where REQ and the holds govern. -/
def State.standing (s : State) (st d : Nat) : Option Nat :=
  if st = 4 then some 3
  else if d < 34 then
    (if s.flag (Fld.ARR_STATUS_MAPPED d) then (if st = 3 then some 6 else some 5)
     else if st = 1 then none else some 3)
  else if st = 1 then none
  else if d = 58 ∨ d = 59 ∨ d = 64 ∨ d = 65 then (if st = 2 then some 0 else some 3)
  else if d = 68 ∨ d = 69 then (if st = 2 then some 5 else some 3)
  else if d = 73 ∨ d = 74 then (if st = 2 then none else some 3)
  else if d = 78 ∨ d = 79 then (if st = 2 then some 5 else some 6)
  else some 3

/-- Every domain put where R522 puts it in device state `st`. -/
def State.enterStanding (s : State) (st : Nat) : State :=
  (List.range 88).foldl (fun s d =>
    match s.standing st d with
    | some x => (s.setFld (Fld.PWR_DSTAT_STATE d) x).when (x == 3) (fun s => s.stackOff d)
    | none => s) s

/-- Entry into a device state is complete (R522, R524): the domains stand as the table says, the step clock's gate closes,
and VSEL reads 0b11 in DEEP and OFF (R528).  In OFF the RPLL stops. -/
def State.entered (s : State) (st : Nat) : State :=
  let s1 := ((s.enterStanding st).setFld Fld.PWR_STATUS_STATE st).setFlag Fld.PWR_CMD_STAT_PENDING false
  let s2 : State := { s1 with pwr := { s1.pwr with gated := true, vsel := if st = 3 ∨ st = 4 then 3 else s1.pwr.vsel } }
  if st = 4 then
    ({ s2 with clock := { s2.clock with rpllOn := false, cfgErr := false } } : State).setFlag Fld.CLK_STATUS_LOCK false
  else s2

/-- An accepted request for a device state (R523, R524): the current state does nothing, RUN is an exit source, IDLE is
entered in the same cycle, and the others are entered when STATE_ENTERED comes. -/
def State.stateRequest (s : State) (mid : Mid) (st : Nat) : State :=
  match s.stateRefusal mid st with
  | some cause => s.pwrRefuse cause
  | none =>
    let s1 := (s.setFld Fld.PWR_CMD_STAT_CAUSE 0).setFld Fld.PWR_CMD_STAT_CODE 0
    if st = s1.devState then s1.reply Code.ok
    else if st = 0 then (s1.exitSource 11 mid.toNat true true false).reply Code.ok
    else if st = 1 then (s1.entered 1).reply Code.ok
    else
      let s2 : State := { s1 with pwr := { s1.pwr with target := st, source := s1.devState } }
      ((s2.setFld Fld.PWR_STATUS_STATE 5).setFlag Fld.PWR_CMD_STAT_PENDING true).reply Code.ok

/-- The hold or request that keeps a domain on in RUN (R512). -/
def State.wanted (s : State) (d : Nat) : Bool := s.flag (Fld.PWR_DCTL_REQ d) || s.holds d || d == 78

/-- A write in the power manager's range (R534). -/
def State.pwrRegWrite (s : State) (mid : Mid) (a : Nat) (v : Word32) : State :=
  if a = Reg.PWR_CMD then s.stateRequest mid (v.toNat % 8)
  else if !pwrWriter mid then s.pwrRefuse 6
  else match indexOf (Reg.PWR_DCTL 0) 4 88 a with
    | some d => s.dctlWrite mid d v
    | none => s.storeReg a v

/-- A read in the power manager's range: HOLD of PWR_DSTATd is the hold condition now (R534). -/
def State.pwrRegRead (s : State) (a : Nat) : State :=
  match indexOf (Reg.PWR_DSTAT 0) 4 88 a with
  | some d => s.reply Code.ok ((Fld.PWR_DSTAT_HOLD d).put (s.reg a) (if s.holds d then 1 else 0))
  | none => s.loadReg a

/-- DOMAIN_SHUTDOWN (R515, R520). -/
def execDomainShutdown (mid : Mid) (dom : Fin 88) (s : State) : Result :=
  .next (if pwrWriter mid then s.domainOff dom else s.pwrRefuse 6)

/-- DOMAIN_ENABLE (R518). -/
def execDomainEnable (mid : Mid) (dom : Fin 88) (s : State) : Result :=
  .next (if pwrWriter mid then s.domainOnReq mid dom else s.pwrRefuse 6)

/-- FIRST_ACCESS (R28, R512). -/
def execFirstAccess (mid : Mid) (dom : Fin 88) (s : State) : Result := .next (s.firstAccess mid dom .bare)

/-- DRAIN_COMPLETE (R515): clocks stop and isolation clamps the domain's signals. -/
def execDrainComplete (dom : Fin 88) (s : State) : Result :=
  .next (if s.domState dom = 1 then s.setFld (Fld.PWR_DSTAT_STATE dom) 2 else s)

/-- SWITCH_OPEN (R515, R518). -/
def execSwitchOpen (dom : Fin 88) (s : State) : Result := .next (if s.domState dom = 2 then s.reachOff dom else s)

/-- WAKE_FAIL (R516): the switch opens again, WAKE_FAIL and EV481, and held requests are answered WAKE_TIMEOUT. -/
def execWakeFail (dom : Fin 88) (s : State) : Result :=
  .next (if s.domState dom = 4 then
    ((s.setFld (Fld.PWR_DSTAT_STATE dom) 3).raiseBit Fld.PWR_STATUS_WAKE_FAIL 481).answerHeld dom Code.wakeTimeout
      Fld.RZ_NODE_STAT_HELD_TMO
   else s)

/-- RUN: PWR_CMD requests RUN (R523, R525). -/
def execPwrRun (mid : Mid) (s : State) : Result := .next (s.stateRequest mid 0)

/-- IDLE: PWR_CMD requests IDLE (R523). -/
def execPwrIdle (mid : Mid) (s : State) : Result := .next (s.stateRequest mid 1)

/-- SLEEP: PWR_CMD requests SLEEP (R523). -/
def execPwrSleep (mid : Mid) (s : State) : Result := .next (s.stateRequest mid 2)

/-- DEEP: PWR_CMD requests DEEP (R523). -/
def execPwrDeep (mid : Mid) (s : State) : Result := .next (s.stateRequest mid 3)

/-- OFF: PWR_CMD requests OFF (R523). -/
def execPwrOff (mid : Mid) (s : State) : Result := .next (s.stateRequest mid 4)

/-- STATE_ENTERED (R524). -/
def execStateEntered (s : State) : Result := .next (if s.devState = 5 then s.entered s.pwr.target else s)

end Sys2Proof.Machine
end

