-- ==== Sys2Proof/Machine/HbmStore.lean ====
section
/-! DEFINITION.  The HBM stack: its words, regions and access rights, and the conditions a request meets (R323 to R328, R338,
R339). -/

namespace Sys2Proof.Machine

/-- The 8-byte word at address ÷ 8.  A word that nothing has written reads as 0 (log entry 6).
(DESIGN CHOICE, log 6.) -/
def State.hbmWord (s : State) (w : Nat) : Word64 := Sparse.get 0 s.hbm.words w

/-- The byte at an HBM address. -/
def State.hbmByte (s : State) (a : Nat) : Byte := BitVec.ofNat 8 ((s.hbmWord (a / 8)).toNat >>> (8 * (a % 8)))

/-- The 32-bit word at an HBM address that is a multiple of 4. -/
def State.hbmWord32 (s : State) (a : Nat) : Word32 := BitVec.ofNat 32 ((s.hbmWord (a / 8)).toNat >>> (8 * (a % 8)))

/-- A word of the stack set. -/
def State.setHbmWord (s : State) (w : Nat) (v : Word64) : State :=
  { s with hbm := { s.hbm with words := Sparse.put 0 s.hbm.words w v } }

/-- A byte of the stack set. -/
def State.setHbmByte (s : State) (a : Nat) (v : Byte) : State :=
  let old := s.hbmWord (a / 8)
  let sh := 8 * (a % 8)
  s.setHbmWord (a / 8) ((old &&& ~~~ BitVec.ofNat 64 (255 <<< sh)) ||| BitVec.ofNat 64 (v.toNat <<< sh))

/-- Bytes stored from an address on. -/
def State.setHbmBytes (s : State) (a : Nat) : List Byte → State
  | [] => s
  | v :: r => State.setHbmBytes (s.setHbmByte a v) (a + 1) r

/-- The bytes from an address on. -/
def State.hbmBytes (s : State) (a n : Nat) : List Byte := (List.range n).map (fun i => s.hbmByte (a + i))

/-- Region `r` is defined and holds the byte at an address (R325). -/
def State.inRegion (s : State) (r a : Nat) : Bool :=
  s.flag (Fld.HBM_RGN_OWN_EN r) && decide (s.fld (Fld.HBM_RGN_BASE_BASE r) ≤ a / 65536) &&
    decide (a / 65536 < s.fld (Fld.HBM_RGN_BASE_BASE r) + s.fld (Fld.HBM_RGN_SIZE_SIZE r))

/-- The region that holds the byte at an address. -/
def State.regionOf (s : State) (a : Nat) : Option Nat := (List.range 32).find? (fun r => s.inRegion r a)

/-- The base address of the first defined region of a kind. -/
def State.regionBase (s : State) (kind : Nat) : Option Nat :=
  match (List.range 32).find? (fun r => s.flag (Fld.HBM_RGN_OWN_EN r) && s.fld (Fld.HBM_RGN_OWN_KIND r) == kind) with
  | some r => some (s.fld (Fld.HBM_RGN_BASE_BASE r) * 65536)
  | none => none

/-- The five MIDs that a region's MGTACC governs (R326). -/
def hbmManager (mid : Mid) : Bool := isManager mid || mid == 0x10

/-- A MID may read, or write, the byte at an address (R326). -/
def State.hbmMay (s : State) (mid : Mid) (a : Nat) (write : Bool) : Bool :=
  match s.regionOf a with
  | none => hbmManager mid
  | some r =>
    if s.fld (Fld.HBM_RGN_OWN_OWNER r) = mid.toNat then true
    else if mid = 0x0A then s.flag (Fld.HBM_RGN_OWN_MIRROR r)
    else if hbmManager mid then
      (let g := s.fld (Fld.HBM_RGN_CFG_MGTACC r)
       g == 2 || (g == 1 && !write))
    else false

/-- The region of an address is at its quota (R327). -/
def State.atQuota (s : State) (a : Nat) : Option Nat :=
  match s.regionOf a with
  | none => none
  | some r =>
    let q := s.fld (Fld.HBM_RGN_CFG_QUOTA r)
    if q ≠ 0 ∧ q ≤ s.fld (Fld.HBM_RGN_STAT_OUTST r) then some r else none

/-- The conditions that refuse a request (R326, R327, R339), each recorded, and the first applicable code in the order of
R35.  A sorus memory port's breach is recorded by the port; `held` says that the quota was judged when the request arrived. -/
def State.hbmConditions (s : State) (mid : Mid) (a n : Nat) (write : Bool) (held : Bool := false) : State × Option Status :=
  let denied := !(s.hbmMay mid a write && s.hbmMay mid (a + n - 1) write) || decide (2 ^ 34 < a + n)
  let quota := if held then none else s.atQuota a
  let cold := !s.flag Fld.HBM_STATUS_READY
  let s1 := if denied && decide (mid.toNat < 0x20) then s.raiseBit Fld.HBM_STATUS_DENIED 375 else s
  let s2 := match quota with
    | some r => (s1.setFlag (Fld.HBM_RGN_STAT_OVER_QUOTA r) true).raiseBit Fld.HBM_STATUS_OVER_QUOTA 374
    | none => s1
  let s3 := if cold then s2.raiseBit Fld.HBM_STATUS_NOT_READY 376 else s2
  (s3, if denied then some Code.denied else if quota.isSome then some Code.overQuota
       else if cold then some Code.hbmNotReady else none)

/-- What the controller's check of the words of a request finds (R338). -/
def State.hbmEcc (s : State) (mid : Mid) (a : Nat) : EccFind → State × Bool
  | .clean => (s, true)
  | .corrected => ((s.countReg Reg.HBM_CORR_CNT).raiseBit Fld.HBM_STATUS_ECC_CORR 373, true)
  | .uncorrectable =>
    let s1 := s.countReg Reg.HBM_UNC_CNT
    let s2 := if s1.flag Fld.HBM_ERR_INFO_VALID then s1
      else (((s1.setReg Reg.HBM_ERR_ADDR_LO (BitVec.ofNat 32 a)).setReg Reg.HBM_ERR_ADDR_HI
        (BitVec.ofNat 32 (a / 2 ^ 32 % 4))).setFld Fld.HBM_ERR_INFO_MID mid.toNat).setFlag Fld.HBM_ERR_INFO_VALID true
    ((s2.raiseBit Fld.HBM_STATUS_ECC_UNC 372).ill, false)

/-- A read request at the controller (R326, R327, R338, R339).
(DESIGN CHOICE, log 6.) -/
def State.hbmRead (s : State) (mid : Mid) (a n : Nat) (ecc : EccFind) (held : Bool := false) : State × Status × List Byte :=
  match s.hbmConditions mid a n false held with
  | (s1, some c) => (s1, c, [])
  | (s1, none) =>
    match s1.hbmEcc mid a ecc with
    | (s2, true) => (s2, Code.ok, s2.hbmBytes a n)
    | (s2, false) => (s2, Code.eccFatal, [])

/-- The bytes of a write whose byte enables are 1. -/
def State.hbmStore (s : State) (a : Nat) : List (Byte × Bool) → State
  | [] => s
  | (v, en) :: r => State.hbmStore (if en then s.setHbmByte a v else s) (a + 1) r

/-- The byte at an address lies in a MIRROR region (R325). -/
def State.mirrored (s : State) (a : Nat) : Bool :=
  match s.regionOf a with
  | some r => s.flag (Fld.HBM_RGN_OWN_MIRROR r)
  | none => false

/-- A log entry for the twin partner (R553, R557).  Of 1 MiB of unsent entries one more ends the resynchronisation that this twin
sends, and its partner hears of it with the cause LOG. -/
def State.twinLog (s : State) (w0 w1 : Word64) : State :=
  if s.twin.log.length < 65536 then { s with twin := { s.twin with log := s.twin.log ++ [(w0, w1)] } }
  else if s.flag Fld.TWN_STATUS_SENDING then
    (({ s with twin := { s.twin with log := [], snap := [], blocks := [] } } : State).setFlag Fld.TWN_STATUS_SENDING
      false).emit (.twinFrame 3 0 [6, 2])
  else s

/-- A write by a sorus memory port or the acquisition engine (R553, R555). -/
def ownWriter (mid : Mid) : Bool := decide (0x20 ≤ mid.toNat) || mid == 0x12

/-- The words of a write to a MIRROR region logged as KIND 2: in LOCKSTEP those of every writer but the memory ports, the
acquisition engine and the partner; while this twin sends, those of a block already sent (R553, R555, R557). -/
def State.twinMirror (s : State) (mid : Mid) (a n : Nat) : State :=
  let lock := s.fld Fld.TWN_STATUS_MODE == 3 && !ownWriter mid && mid != 0x0A
  let sent := s.flag Fld.TWN_STATUS_SENDING && s.twin.snap.isEmpty && !s.twin.blocks.contains (a / 1024)
  if s.mirrored a && (lock || sent) then
    (List.range ((a + n + 7) / 8 - a / 8)).foldl (fun s k =>
      let w := a / 8 + k
      s.twinLog (BitVec.ofNat 64 (2 + w * 4)) (s.hbmWord w)) s
  else s

/-- A write request at the controller; only a write of a part of an 8-byte word reads first, and an uncorrectable read then
leaves the word unwritten (R338).  A twin being brought level discards its own writes to MIRROR regions with OK (R555). -/
def State.hbmWrite (s : State) (mid : Mid) (a : Nat) (bytes : List (Byte × Bool)) (ecc : EccFind)
    (held : Bool := false) : State × Status :=
  match s.hbmConditions mid a bytes.length true held with
  | (s1, some c) => (s1, c)
  | (s1, none) =>
    if s1.twin.suppress && ownWriter mid && s1.mirrored a then (s1, Code.ok)
    else
      let whole := a % 8 == 0 && bytes.length % 8 == 0 && bytes.all (fun b => b.2)
      if whole then ((s1.hbmStore a bytes).twinMirror mid a bytes.length, Code.ok)
      else match s1.hbmEcc mid a ecc with
        | (s2, true) => ((s2.hbmStore a bytes).twinMirror mid a bytes.length, Code.ok)
        | (s2, false) => (s2, Code.eccFatal)

end Sys2Proof.Machine
end

