-- ==== Sys2Proof/Machine/TwinBase.lean ====
section
/-! DEFINITION.  The twin unit's moves that other blocks set off: modes and ownership (R536, R545), the end of a resynchronisation
(R559), loss of pairing (R543), and the writes to persistent words (R546, R555, R557). -/

namespace Sys2Proof.Machine

/-! ## Modes, ownership, failure -/

/-- The twin's mode (R544). -/
def State.twinMode (s : State) : Nat := s.fld Fld.TWN_STATUS_MODE

/-- Ownership changed, with the OWNER output to load at the end of step 3 (R536, R545). -/
def State.setOwn (s : State) (b : Bool) : State :=
  if s.flag Fld.TWN_STATUS_OWN = b then s
  else
    ({ s with twin := { s.twin with pinWait := some 4 } } : State).setFlag Fld.TWN_STATUS_OWN b |>.raiseBit
      Fld.TWN_STATUS_OWN_CHG 489

/-- A mode entered; LOCKSTEP is recorded (R545). -/
def State.setMode (s : State) (m : Nat) : State :=
  let s1 := s.setFld Fld.TWN_STATUS_MODE m
  if m = 3 ∧ s.twinMode ≠ 3 then s1.raiseBit Fld.TWN_STATUS_LS_ENT 490 else s1

/-- What a resynchronisation holds, given up: nothing is suppressed, sent or logged any longer. -/
def State.rsClear (s : State) : State :=
  ({ s with twin := { s.twin with
      ping := none, align := none, joinAt := none, suppress := false, agreed := 0, snap := [], blocks := [], log := [],
      wrote := [] } } : State).setFld Fld.TWN_RS_STAT_PHASE 0

/-- The receiver's resynchronisation fails (R559). -/
def State.rsFail (s : State) (cause : Nat) : State :=
  if s.twinMode = 2 then
    ((s.rsClear.setMode 1).setFld Fld.TWN_RS_STAT_CAUSE cause).raiseBit Fld.TWN_STATUS_RS_FAIL 492
  else s

/-- The sender's part ends (R559). -/
def State.sendEnd (s : State) : State :=
  if s.flag Fld.TWN_STATUS_SENDING then s.rsClear.setFlag Fld.TWN_STATUS_SENDING false else s

/-- The sender fails the resynchronisation, and its partner hears of the cause (R557, R559). -/
def State.sendFail (s : State) (cause : Nat) : State :=
  if s.flag Fld.TWN_STATUS_SENDING then s.sendEnd.emit (.twinFrame 3 0 [6, BitVec.ofNat 64 cause]) else s

/-- Pairing is lost (R543, R545, R551): a LOCKSTEP twin that does not own takes ownership at the boundary that ends this turn. -/
def State.twinLost (s : State) : State :=
  if s.flag Fld.TWN_STATUS_PAIRED then
    let take := s.twinMode == 3 && !s.flag Fld.TWN_STATUS_OWN
    let s1 := ((s.setFlag Fld.TWN_STATUS_PAIRED false).raiseBit Fld.TWN_STATUS_LOST 486).resetEndsOf 0x0A
    let s2 := (s1.rsFail 3).sendEnd.setMode 0
    { s2 with twin := { s2.twin with
      handover := none, miss := 0, ownPlan := if take then some (true, s.seq.turn + 1) else s2.twin.ownPlan } }
  else s

/-- UP of the mirror group falls (R542, R543): the pairing is lost, and a refused partner may pair again. -/
def State.mirrorDown (s : State) : State :=
  let s1 := s.twinLost
  { s1 with twin := { s1.twin with refused := false } }

/-- The PAIR frame (R540, R542). -/
def State.pairFrame (s : State) : Output :=
  let d1 := (s.reg Reg.DEV_STRAPS).toNat + s.twinMode * 2 ^ 32 + s.fld Fld.TWN_STATUS_OWN * 2 ^ 34 + s.fld Fld.TWN_CFG_EN * 2 ^ 35 +
    s.fld Fld.SEQ_CFG_DISC * 2 ^ 36 + s.seqState * 2 ^ 37
  let id := (List.range 8).map (fun k =>
    BitVec.ofNat 64 ((s.reg (Reg.LDR_ID (2 * k))).toNat + (s.reg (Reg.LDR_ID (2 * k + 1))).toNat * 2 ^ 32))
  .twinFrame 2 0 (BitVec.ofNat 64 (s.reg Reg.DEV_IDENT).toNat :: BitVec.ofNat 64 d1 :: id)

/-! ## Persistent words -/

/-- Slot `k` of frond Ff of Sn is persistent (R546). -/
def State.slotKept (s : State) (n f k : Nat) : Bool :=
  match s.virtOf n with
  | some v => (Sparse.get 0 s.twin.pslot ((v * 16 + f) * 4 + k / 64)).getLsbD (k % 64)
  | none => false

/-- Block memory `m` of Sn is persistent (R546). -/
def State.memKept (s : State) (n m : Nat) : Bool :=
  match s.virtOf n with
  | some v => (Sparse.get 0 s.twin.pbm v).getLsbD m
  | none => false

/-- This twin sends, and its state has been recorded (R555 phase 2): writes to persistent words are logged, up to turn J − 1.
(DEDUCED, log 96.) -/
def State.twinLogs (s : State) : Bool :=
  s.flag Fld.TWN_STATUS_SENDING && decide (2 ≤ s.fld Fld.TWN_RS_STAT_PHASE) &&
  (match s.twin.joinAt with
   | some j => decide (s.seq.turn < j)
   | none => true)

/-- The receiver is at or after its turn J (R557). -/
def State.twinJoined (s : State) : Bool :=
  s.twinMode == 2 &&
  (match s.twin.joinAt with
   | some j => decide (j ≤ s.seq.turn)
   | none => false)

/-- Keys of a slot of a frond and of a word of a block memory among the receiver's own writes (R557). -/
def wroteSlot (v f k : Nat) : Nat := (v * 16 + f) * 256 + k
def wroteMem (v m w : Nat) : Nat := 2 ^ 20 + (v * 32 + m) * 1024 + w

/-- Step and turn of a log entry (R557). -/
def State.logStamp (s : State) (lo : Nat) : Nat := lo + s.seq.turn % 2 ^ 32 * 2 ^ 32

/-- A write to a slot of a frond of Sn noted for the twin (R555, R557): `word` is the slot of BPs 0–63 after the write. -/
def State.noteSlot (s : State) (n f k : Nat) (word : Word64) : State :=
  if s.slotKept n f k then
    match s.virtOf n with
    | some v =>
      let s1 := if s.twinLogs then
          s.twinLog (BitVec.ofNat 64 (s.logStamp (v * 4 + f * 128 + k * 2048 + s.seq.step * 2 ^ 19))) word else s
      if s1.twinJoined then { s1 with twin := { s1.twin with wrote := Sparse.put false s1.twin.wrote (wroteSlot v f k) true } } else s1
    | none => s
  else s

/-- A write to a physical word of a block memory of Sn noted for the twin (R555, R557). -/
def State.noteMem (s : State) (n m w data : Nat) : State :=
  if s.memKept n m then
    match s.virtOf n with
    | some v =>
      let s1 := if s.twinLogs then
          s.twinLog (BitVec.ofNat 64 (s.logStamp (1 + v * 4 + m * 128 + w * 4096 + s.seq.step * 2 ^ 22))) (BitVec.ofNat 64 data)
        else s
      if s1.twinJoined then { s1 with twin := { s1.twin with wrote := Sparse.put false s1.twin.wrote (wroteMem v m w) true } } else s1
    | none => s
  else s

end Sys2Proof.Machine
end

