-- ==== Sys2Proof/Machine/Upsets.lean ====
section
/-! DEFINITION.  Upsets as the Conservator classes, counts and records them (R174, R175, R437, R441 to R444). -/

namespace Sys2Proof.Machine

/-- An upset found (R443, R450): its target, place, differing bits, and how it was handled.  `loc` numbers the location for
the recurrence table and the clean checks. -/
structure Upset where
  target : Nat
  sorus : Nat
  frond : Nat
  bp : Nat
  offset : Nat
  bits : List Nat
  unc : Bool
  restored : Bool
  hbmFail : Bool
  loc : Nat
  deriving DecidableEq, Repr

/-- The location number of an instruction word, of configuration word `i` of a sorus window, and of word `i` of a device
table. -/
def imemLoc (n f b w : Nat) : Nat := (((n * 16 + f) * 64) + b) * 1024 + w
def cfgLoc (n i : Nat) : Nat := 2 ^ 26 + n * 65536 + i
def devLoc (target i : Nat) : Nat := 2 ^ 27 + target * 1048576 + i

/-- The Conservator reports and writes back: it has started, EN is 1 and its domain is on (R433). -/
def State.cnsOn (s : State) : Bool := s.cns.started && s.flag Fld.CNS_CTRL_EN && s.domOn 77

/-- The byte of the essential map for a virtual sorus (R174); none where the read fails. -/
def State.essByte (s : State) (v off : Nat) : Option Nat :=
  if !s.flag Fld.HBM_STATUS_READY then none
  else match s.regionBase 3 with
    | none => none
    | some base => some (s.hbmByte (base + v * 0x140000 + off)).toNat

/-- The bit of the essential map that governs bit `i` of an instruction word's field (R174). -/
def fieldBit (i : Nat) : Nat :=
  if 60 ≤ i then 6 else if 44 ≤ i then 5 else if 35 ≤ i then 4 else if 26 ≤ i then 3 else if 17 ≤ i then 2
  else if 8 ≤ i then 1 else 0

/-- Byte and bit of the essential map for one differing bit of a configuration word of targets 2 to 6 (R174). -/
def essPlace (target offset bit : Nat) : Option (Nat × Nat) :=
  match target with
  | 2 => some (0x100000 + (offset / 1024) * 0x80 + offset % 1024 / 8, offset % 8)
  | 3 => some (0x100100 + (offset / 1024) * 0x80 + offset % 1024 / 8, offset % 8)
  | 4 => some (0x100200 + (offset / 64) * 0x100 + (offset % 64 * 32 + bit) / 8, bit % 8)
  | 5 => some (0x100400 + (offset / 2048) * 0x100 + offset % 2048 / 8, offset % 8)
  | 6 => if offset < 2 then some (0x100600 + (offset * 32 + bit) / 8, bit % 8) else none
  | _ => none

/-- The class of an upset, essential or benign, and whether a map read failed (R175, R441). -/
def State.classify (s : State) (u : Upset) : Bool × Bool :=
  if 7 ≤ u.target then (true, false)
  else match s.virtOf u.sorus with
    | none => (true, false)
    | some v =>
      if u.target ≤ 1 then
        match s.essByte v ((u.frond * 64 + u.bp) * 1024 + u.offset) with
        | none => (true, true)
        | some m =>
          let exec := bitOf m 7
          if u.unc then (exec, false)
          else (exec && u.bits.any (fun b => decide (b < 64) && bitOf m (fieldBit b)), false)
      else
        u.bits.foldl (fun r b =>
          match essPlace u.target u.offset b with
          | none => (true, r.2)
          | some (off, i) =>
            match s.essByte v off with
            | none => (true, true)
            | some m => (r.1 || bitOf m i, r.2)) (false, false)

/-- The recurrence table with a correction of a location (R444): the count, its entry last, the oldest replaced when the table
is full. -/
def recurTouch (t : List Recur) (loc : Nat) : List Recur × Nat :=
  let c := match t.find? (fun r => r.loc == loc) with
    | some r => r.count + 1
    | none => 1
  let rest := t.filter (fun r => r.loc != loc)
  let room := if 16 ≤ rest.length then rest.drop 1 else rest
  (room ++ [{ loc := loc, count := c, seen := true }], c)

/-- A correction counted in the recurrence table (R444). -/
def State.countCorrection (s : State) (loc sorus : Nat) : State :=
  let lim := s.fld Fld.CNS_CFG_RECUR_N
  if lim = 0 then s
  else
    let t := recurTouch s.cns.recur loc
    if lim ≤ t.2 then
      let s1 : State := { s with cns := { s.cns with
        recur := t.1.map (fun r => if r.loc = loc then { r with count := 0 } else r) } }
      (s1.setFld Fld.CNS_RECUR_LOC_SORUS sorus).raiseBit Fld.CNS_STATUS_RECUR 423
    else { s with cns := { s.cns with recur := t.1 } }

/-- The turns between the last clean check of a location and now (R443); it stops at 0xFFFF_FFFF. -/
def State.exposure (s : State) (loc : Nat) : Nat := min 0xFFFFFFFF (s.seq.turn - Sparse.get 0 s.cns.clean loc)

/-- A clean check of a location (R443). -/
def State.cleanCheck (s : State) (loc : Nat) : State :=
  { s with cns := { s.cns with clean := Sparse.put 0 s.cns.clean loc s.seq.turn } }

/-- The four words of a record (R450). -/
def State.recordOf (s : State) (u : Upset) (ess hbmFail : Bool) : CnsRec :=
  let b := fun (c : Bool) (k : Nat) => if c then 2 ^ k else 0
  let inj := Sparse.get false s.cns.injected u.loc
  let bit := if u.unc then 127 else u.bits.headD 0
  let multi := decide (2 ≤ u.target) && decide (1 < u.bits.length)
  { w0 := BitVec.ofNat 32 (2 ^ 31 + b inj 30 + b u.restored 29 + b hbmFail 28 + b ess 27 + b u.unc 26 + u.target * 2 ^ 22
      + u.sorus * 2 ^ 16 + (if u.target ≤ 5 then u.frond * 2 ^ 12 else 0)
      + (if u.target ≤ 1 then u.bp * 2 ^ 6 else 0) + b multi 5),
    w1 := BitVec.ofNat 32 (bit * 2 ^ 25 + u.offset),
    w2 := BitVec.ofNat 32 s.seq.turn, w3 := BitVec.ofNat 32 (s.exposure u.loc) }

/-- An upset classed, counted, recorded and acted on (R441 to R444). -/
def State.upset (s : State) (u : Upset) : State :=
  let cl := s.classify u
  let fail := u.hbmFail || cl.2
  let r := s.recordOf u cl.1 fail
  let s1 := if cl.1 then (s.countReg Reg.CNS_ESS_CNT).raiseBit Fld.CNS_STATUS_ESS 420
    else (s.countReg Reg.CNS_BEN_CNT).raiseBit Fld.CNS_STATUS_BEN 421
  let s2 := if u.unc then (s1.countReg Reg.CNS_UNC_CNT).raiseBit Fld.CNS_STATUS_UNC 422 else s1
  let s3 := if fail then s2.raiseBit Fld.CNS_STATUS_HBM_FAIL 426 else s2
  let s4 := if 64 ≤ s3.cns.recs.length then s3.raiseBit Fld.CNS_STATUS_REC_OVF 427
    else { s3 with cns := { s3.cns with recs := s3.cns.recs ++ [r] } }
  let s5 : State := { s4 with cns := { s4.cns with injected := Sparse.put false s4.cns.injected u.loc false } }
  let s6 := (if u.unc && !u.restored then s5 else s5.countCorrection u.loc u.sorus).when (cl.1 || u.unc) State.ill
  let seen := cl.1 && ((decide (2 ≤ u.target) && decide (u.target ≤ 6)) || u.unc)
  if seen && s6.flag Fld.CNS_CTRL_ESS_ACT then
    { s6 with arr := { s6.arr with essFreeze := Sparse.put false s6.arr.essFreeze u.sorus true } } else s6

/-- The golden copy of an instruction word of a physical sorus (R440); none where the read fails. -/
def State.goldenInstr (s : State) (n f b w : Nat) : Option Word64 :=
  if !s.flag Fld.HBM_STATUS_READY then none
  else match s.regionBase 4, s.virtOf n with
    | some base, some v => some (s.hbmWord ((base + v * 0x810000) / 8 + (f * 64 + b) * 1024 + w))
    | _, _ => none

/-- An instruction word's error found at fetch (target 0) or by the scrub port (target 1): reported once, and its correction
or restoration made to wait for the port's next slot (R436, R437). -/
def State.wordError (s : State) (target n f b w : Nat) (kind : EccKind) : State :=
  let loc := imemLoc n f b w
  match kind with
  | .clean => s.cleanCheck loc
  | .corrected bit =>
    if !s.cnsOn || (Sparse.get none s.cns.pend loc).isSome then s
    else
      let s1 := s.upset
        { target := target, sorus := n, frond := f, bp := b, offset := w, bits := [bit], unc := false,
          restored := false, hbmFail := false, loc := loc }
      { s1 with cns := { s1.cns with pend := Sparse.put none s1.cns.pend loc (some false) } }
  | .uncorrectable =>
    if !s.cnsOn || (Sparse.get none s.cns.pend loc).isSome then s
    else
      let ok := (s.goldenInstr n f b w).isSome
      let s1 := s.upset
        { target := target, sorus := n, frond := f, bp := b, offset := w, bits := [], unc := true,
          restored := ok, hbmFail := !ok, loc := loc }
      { s1 with cns := { s1.cns with pend := Sparse.put none s1.cns.pend loc (some true) } }

end Sys2Proof.Machine
end

