-- ==== Sys2Proof/Machine/Array.lean ====
section
/-! DEFINITION.  What the array holds and how a BP reads it: instruction words, slots, buses, port bits and their sources,
faults (R36 to R56, R64 to R68, R78 to R90, R133). -/

namespace Sys2Proof.Machine

/-! ## Instruction words -/

/-- The fields of an instruction word (R36). -/
structure Insn where
  op : Nat
  tt : Nat
  a : Nat
  b : Nat
  c : Nat
  d : Nat
  dst : Nat
  deriving DecidableEq, Repr

/-- An instruction word decoded (R36). -/
def Insn.decode (w : Word64) : Insn :=
  let n := w.toNat
  { op := n >>> 60, tt := (n >>> 44) % 65536, a := (n >>> 35) % 512, b := (n >>> 26) % 512, c := (n >>> 17) % 512,
    d := (n >>> 8) % 512, dst := n % 256 }

/-- The NOP that an uncorrectable word executes as (R37). -/
def Insn.nop : Insn := Insn.decode 0

/-- Page B is in force in a sorus (R99). -/
def State.pageB (s : State) (n : Nat) : Bool := s.flag (Fld.ARR_PAGE_PAGED n) && s.flag (Fld.ARR_PAGE_ACTIVE n)

/-- The page in force, 0 or 1. -/
def State.page (s : State) (n : Nat) : Nat := if s.pageB n then 1 else 0

/-- The word that every BP of a sorus fetches in this step (R38). -/
def State.fetchIndex (s : State) (n : Nat) : Nat := if s.pageB n then 512 + s.seq.step else s.seq.step

/-- A stored instruction word with its check bits. -/
def State.imemWord (s : State) (loc : Nat) : BitVec 72 := Sparse.get 0 s.arr.imem loc

/-- A stored instruction word replaced. -/
def State.setImem (s : State) (loc : Nat) (v : BitVec 72) : State :=
  { s with arr := { s.arr with imem := Sparse.put 0 s.arr.imem loc v } }

/-- The word a BP executes in this step, and what the check of it finds (R37, R38). -/
def State.fetch (s : State) (n f b : Nat) : Insn × EccKind :=
  match eccFix (s.imemWord (imemLoc n f b (s.fetchIndex n))) with
  | (_, .uncorrectable) => (Insn.nop, .uncorrectable)
  | (w, k) => (Insn.decode w, k)

/-- A sorus executes steps: it is mapped, the sequencer is in RUN, and it is neither frozen nor halted (R109, R67, R401). -/
def State.executes (s : State) (n : Nat) : Bool :=
  s.seqState == 2 && s.flag (Fld.ARR_STATUS_MAPPED n) && !s.flag (Fld.ARR_STATUS_FROZEN n) &&
    (Sparse.get none s.arr.halted n).isNone

/-! ## Slots and port bits -/

/-- The window bit of slot `k` of BP `b` of Ff, and its valid bit (R103). -/
def slotField (n f b k : Nat) : Field := ⟨0x0C010000 + n * 0x100000 + (f * 64 + b) * 0x20 + k / 32 * 4, k % 32, 1⟩
def slotValid (n f b k : Nat) : Field := ⟨0x0C018000 + n * 0x100000 + (f * 64 + b) * 0x20 + k / 32 * 4, k % 32, 1⟩

/-- The window bit of the valid bit of port bit `m` of Ff (R103). -/
def portValid (n f m : Nat) : Field := ⟨0x0C007000 + n * 0x100000 + f * 8 + m / 32 * 4, m % 32, 1⟩

/-- A slot written: its value and its valid bit (R45, R46). -/
def State.writeSlot (s : State) (n f b k : Nat) (v : Bool) : State :=
  (s.setFlag (slotField n f b k) v).setFlag (slotValid n f b k) true

/-- A family of 64-bit values by frond number. -/
def wordAt (l : Pairs Word64) (i : Nat) : Word64 := Sparse.get 0 l i

/-- Bit `m` of Ff of Sn in a family of 64-bit values. -/
def bitAt (l : Pairs Word64) (n f m : Nat) : Bool := (wordAt l (n * 16 + f)).getLsbD m

/-- A 64-bit value with one bit set or cleared. -/
def setBit64 (w : Word64) (m : Nat) (v : Bool) : Word64 :=
  if v then w ||| BitVec.ofNat 64 (2 ^ m) else w &&& ~~~ BitVec.ofNat 64 (2 ^ m)

/-- A family with one bit set or cleared. -/
def putBit (l : Pairs Word64) (n f m : Nat) (v : Bool) : Pairs Word64 :=
  Sparse.put 0 l (n * 16 + f) (setBit64 (wordAt l (n * 16 + f)) m v)

/-- The source of a port bit (R82, R83). -/
inductive PortSrc where
  | none
  | mem (index bit : Nat)
  | pos (p : Nat)
  | laneBit (lane bit : Nat)
  | laneValid (lane : Nat)
  | time (t : Nat)
  | event (e : Nat)
  deriving DecidableEq, Repr

/-- A port-map entry of a port bit of Ff decoded; a memory port is memory × 2 + port (R82, R83). -/
def PortSrc.decode (f : Nat) (w : Word32) : PortSrc :=
  let n := w.toNat
  match n >>> 28 with
  | 1 => if n % 64 ≤ 35 then .mem ((2 * f + (n >>> 7) % 2) * 2 + (n >>> 6) % 2) (n % 64) else .none
  | 2 => .pos (n % 256)
  | 3 =>
    let lane := (n >>> 8) % 128
    if 96 ≤ lane then .none else if bitOf n 6 then .laneValid lane else .laneBit lane (n % 64)
  | 4 => if n % 64 < 50 then .time (n % 64) else .none
  | 5 => if n % 256 < 193 then .event (n % 256) else .none
  | _ => .none

/-- The source of port bit (f, m) in a page. -/
def State.portSrc (s : State) (n pg i : Nat) : PortSrc := PortSrc.decode (i / 64) (s.reg (Reg.ARR_PORTMAP n pg i))

/-- The listed entries of the port map of a page: entry numbers f × 64 + m. -/
def State.portEntries (s : State) (n pg : Nat) : List Nat :=
  (s.regs.filter (fun e => decide (Reg.ARR_PORTMAP n pg 0 ≤ e.1 ∧ e.1 < Reg.ARR_PORTMAP n pg 1024))).map
    (fun e => (e.1 - Reg.ARR_PORTMAP n pg 0) / 4)

/-- Port bit `i` = f × 64 + m takes a value, and its valid bit sets (R84). -/
def State.setPort (s : State) (n i : Nat) (v : Bool) : State :=
  ({ s with arr := { s.arr with portIn := putBit s.arr.portIn n (i / 64) (i % 64) v } } : State).setFlag
    (portValid n (i / 64) (i % 64)) true

/-- A delivery to the port bits of a sorus: each listed entry of the page in force whose source gives a value takes it. -/
def State.landOn (s : State) (n : Nat) (value : PortSrc → Option Bool) : State :=
  (s.portEntries n (s.page n)).foldl (fun s i =>
    match value (s.portSrc n (s.page n) i) with
    | some v => s.setPort n i v
    | none => s) s

/-- Read data lands on the port bits assigned to a memory port (R84, R94); data of another page lands only on a bit with the
same source in both pages (R101). -/
def State.landMem (s : State) (n index : Nat) (pageB : Bool) : State :=
  let data := Sparse.get 0 s.arr.rdReg (n * 64 + index)
  let pg := s.page n
  let old := if pageB then 1 else 0
  (s.portEntries n pg).foldl (fun s i =>
    match s.portSrc n pg i with
    | .mem ix bit =>
      if ix = index ∧ (old = pg ∨ s.portSrc n old i = .mem ix bit) then s.setPort n i (data.getLsbD bit) else s
    | _ => s) s

/-- The 64 positions of an inbound group take bits and a tag (R133, R192, R331): `mask` says which of them. -/
def State.landGroup (s : State) (n g : Nat) (mask bits : Word64) (tag : Option (BitVec 8)) : State :=
  let old := wordAt s.arr.posBits (n * 4 + g)
  let s1 : State := { s with arr := { s.arr with
    posBits := Sparse.put 0 s.arr.posBits (n * 4 + g) ((old &&& ~~~ mask) ||| (bits &&& mask)),
    posTag := (List.range 64).foldl (fun l j =>
      if mask.getLsbD j then Sparse.put none l (n * 256 + g * 64 + j) tag else l) s.arr.posTag } }
  s1.landOn n (fun src => match src with
    | .pos p => if p / 64 = g ∧ mask.getLsbD (p % 64) then some (bits.getLsbD (p % 64)) else none
    | _ => none)

/-- A lane word lands at a gateway (R84, R85, R192). -/
def State.landLane (s : State) (n lane : Nat) (word : Word64) (valid : Bool) : State :=
  s.landOn n (fun src => match src with
    | .laneBit l b => if l = lane then some (word.getLsbD b) else none
    | .laneValid l => if l = lane then some valid else none
    | _ => none)

/-! ## Faults -/

/-- A fault of the step being executed, with the page in force (R64, R71). -/
def State.fault (s : State) (n cause f b field value : Nat) : State :=
  let r : FaultRec := { sorus := n, cause := cause, frond := f, bp := b, step := s.seq.step, turn := s.seq.turn,
                        page := s.pageB n, field := field, value := value }
  { s with arr := { s.arr with faults := s.arr.faults ++ [r] } }

/-- A fault of a BP: counted once per BP and cause in a step (R65). -/
def State.bpFault (s : State) (n cause f b field value : Nat) : State :=
  if s.arr.faults.any (fun r => decide (r.sorus = n ∧ r.cause = cause ∧ r.frond = f ∧ r.bp = b)) then s
  else s.fault n cause f b field value

/-- The first of two faults in the order of R66: lowest cause, then frond, then BP. -/
def FaultRec.before (x y : FaultRec) : Bool :=
  decide (x.cause < y.cause) || (x.cause == y.cause &&
    (decide (x.frond < y.frond) || (x.frond == y.frond && decide (x.bp < y.bp))))

/-- A fault recorded by its sorus (R65): the record filled, or OVF; the count; EV(2n). -/
def State.recordFault (s : State) (r : FaultRec) : State :=
  let n := r.sorus
  let s1 : State := { s with arr := { s.arr with faulted := Sparse.put false s.arr.faulted n true } }
  let s2 := s1.countReg (Reg.ARR_FLT_COUNT n)
  let s3 := if s2.flag (Fld.ARR_FLT_CAUSE_VALID n) then s2.setFlag (Fld.ARR_FLT_CAUSE_OVF n) true
    else
      let loc := (if r.page then 2 ^ 20 else 0) + r.frond * 2 ^ 16 + r.bp * 2 ^ 10 + r.step
      let det := r.field * 2 ^ 9 + (if 6 ≤ r.field then 0 else r.value)
      ((((s2.setFld (Fld.ARR_FLT_CAUSE_CAUSE n) r.cause).setFlag (Fld.ARR_FLT_CAUSE_VALID n) true).setReg
        (Reg.ARR_FLT_LOC n) (BitVec.ofNat 32 loc)).setReg (Reg.ARR_FLT_TURN n) (BitVec.ofNat 32 r.turn)).setReg
        (Reg.ARR_FLT_DETAIL n) (BitVec.ofNat 32 det)
  s3.raise (2 * n)

/-- Faults of one step put in the order of R66. -/
def faultInsert (r : FaultRec) : List FaultRec → List FaultRec
  | [] => [r]
  | x :: l => if r.before x then r :: x :: l else x :: faultInsert r l

/-- The faults of the step recorded, the first of R66 first. -/
def State.flushFaults (s : State) : State :=
  let l := s.arr.faults.foldl (fun l r => faultInsert r l) []
  l.foldl State.recordFault { s with arr := { s.arr with faults := [] } }

/-! ## Operands -/

/-- What the read of an operand finds: its value, and whether the selector is reserved, the bit invalid under the poison check,
or a cross-device position without its tag (R42, R43, R47, R133). -/
structure Operand where
  val : Bool
  reserved : Bool := false
  poison : Bool := false
  early : Bool := false
  deriving DecidableEq, Repr

/-- A port bit is fed by a cross-device position whose tag does not match (R133). -/
def State.xdevEarly (s : State) (n i : Nat) : Bool :=
  match s.portSrc n (s.page n) i with
  | .pos p =>
    match Sparse.get none s.arr.xoff (n * 256 + p) with
    | none => false
    | some d => Sparse.get none s.arr.posTag (n * 256 + p) != some (BitVec.ofInt 8 ((s.seq.turn : Int) - d))
  | _ => false

/-- An operand read by BP `b` of Ff (R42 to R47, R133). -/
def State.operand (s : State) (n f b sel : Nat) : Operand :=
  let poison := s.flag (Fld.ARR_CTRL_POISON_EN n)
  if sel < 256 then
    { val := s.flag (slotField n f b sel), poison := poison && !s.flag (slotValid n f b sel) }
  else if sel < 320 then { val := bitAt s.arr.bus n f (sel - 256) }
  else if sel < 384 then { val := bitAt s.arr.laneIn n f (sel - 320) }
  else if sel < 448 then
    let m := sel - 384
    { val := bitAt s.arr.portIn n f m, poison := poison && !s.flag (portValid n f m), early := s.xdevEarly n (f * 64 + m) }
  else if sel = 448 then { val := false }
  else if sel = 449 then { val := true }
  else if sel < 510 then { val := false, reserved := true }
  else if sel = 510 then { val := s.seq.step == 0 }
  else { val := s.flag Fld.DEV_STRAPS_TWIN_ROLE }

/-- The faults of an operand in field `field`: 1 A, 2 B, 3 C, 4 D (R43, R47, R71, R133). -/
def State.operandFaults (s : State) (n f b field sel : Nat) (o : Operand) : State :=
  let s1 := if o.reserved then s.bpFault n 2 f b field sel else s
  let s2 := if o.poison then s1.bpFault n 6 f b field sel else s1
  if o.early then s2.bpFault n 0xA f b 7 0 else s2

/-- The value of an operand, and the faults its read records. -/
def State.readOperand (s : State) (n f b field sel : Nat) : Bool × State :=
  let o := s.operand n f b sel
  (o.val, s.operandFaults n f b field sel o)

/-- The truth-table result of a BP (R41), and the faults its four operands record. -/
def State.truth (s : State) (n f b : Nat) (i : Insn) : Bool × State :=
  let ra := s.readOperand n f b 1 i.a
  let rb := ra.2.readOperand n f b 2 i.b
  let rc := rb.2.readOperand n f b 3 i.c
  let rd := rc.2.readOperand n f b 4 i.d
  let k := (if ra.1 then 1 else 0) + (if rb.1 then 2 else 0) + (if rc.1 then 4 else 0) + (if rd.1 then 8 else 0)
  (bitOf i.tt k, rd.2)

/-! ## What a BP gives in a step -/

/-- A wire of the frond driven in this step (R50 to R55). -/
def State.drive (s : State) (n f wire b : Nat) (v : Bool) (dst : Nat) : State :=
  let k := n * 16 + f
  { s with arr := { s.arr with
    drives := Sparse.put [] s.arr.drives k (Sparse.get [] s.arr.drives k ++ [{ wire := wire, bp := b, val := v, dst := dst }]) } }

/-- A slot write of this step (R45). -/
def State.slotWrite (s : State) (n f b k : Nat) (v : Bool) : State :=
  { s with arr := { s.arr with slotWrites := s.arr.slotWrites ++ [{ sorus := n, frond := f, bp := b, slot := k, val := v }] } }

/-- The number of a BP among all. -/
def bpKey (n f b : Nat) : Nat := (n * 16 + f) * 64 + b

/-- The BP has executed in this step. -/
def State.hasRun (s : State) (n f b : Nat) : Bool := Sparse.get false s.arr.ran (bpKey n f b)

/-- A BP executes in this step: it is marked, and the check of its word is acted on (R37). -/
def State.markRan (s : State) (n f b : Nat) : State :=
  let s1 : State := { s with arr := { s.arr with ran := Sparse.put false s.arr.ran (bpKey n f b) true } }
  match (s.fetch n f b).2 with
  | .clean => s1.wordError 0 n f b (s.fetchIndex n) .clean
  | .corrected bit => (s1.countReg (Reg.ARR_ECC_COUNT n)).wordError 0 n f b (s.fetchIndex n) (.corrected bit)
  | .uncorrectable => (s1.bpFault n 0xD f b 7 0).wordError 0 n f b (s.fetchIndex n) .uncorrectable

/-- The wire of a field of a memory port (R54): the memory and port of DST, and the field, 52 for write enable. -/
def memWire (dst field : Nat) : Nat := 320 + (dst / 64) * 64 + field

/-- EVAL (R41): slot DST and the BP's own bus bit. -/
def State.doEval (s : State) (n f b : Nat) (i : Insn) : State :=
  let r := s.truth n f b i
  (r.2.slotWrite n f b i.dst r.1).drive n f b b r.1 i.dst

/-- EVALX (R50): the bus bit that DST selects. -/
def State.doEvalx (s : State) (n f b : Nat) (i : Insn) : State :=
  let r := s.truth n f b i
  match i.dst / 64 with
  | 0 => r.2.drive n f b b r.1 i.dst
  | 1 => r.2.drive n f (i.dst % 64) b r.1 i.dst
  | _ => r.2.bpFault n 2 f b 5 i.dst

/-- MRD (R54): a read-port field. -/
def State.doMrd (s : State) (n f b : Nat) (i : Insn) : State :=
  let r := s.truth n f b i
  if i.dst % 64 ≤ 15 then r.2.drive n f (memWire i.dst (i.dst % 64)) b r.1 i.dst else r.2.bpFault n 2 f b 5 i.dst

/-- MWR (R54): a write-port field; field 15 is the write enable, kept apart from MRD's read enable. -/
def State.doMwr (s : State) (n f b : Nat) (i : Insn) : State :=
  let r := s.truth n f b i
  if i.dst % 64 = 15 then r.2.drive n f (memWire i.dst 52) b r.1 i.dst
  else if i.dst % 64 ≤ 51 then r.2.drive n f (memWire i.dst (i.dst % 64)) b r.1 i.dst
  else r.2.bpFault n 2 f b 5 i.dst

/-- PORT (R52): a sorus-lane source or an outbound port bit. -/
def State.doPort (s : State) (n f b : Nat) (i : Insn) : State :=
  let r := s.truth n f b i
  match i.dst / 64 with
  | 0 => r.2.drive n f (64 + i.dst % 64) b r.1 i.dst
  | 1 => r.2.drive n f (128 + i.dst % 64) b r.1 i.dst
  | _ => r.2.bpFault n 2 f b 5 i.dst

/-- PROBE (R55): a probe channel of the frond. -/
def State.doProbe (s : State) (n f b : Nat) (i : Insn) : State :=
  let r := s.truth n f b i
  if i.dst < 128 then r.2.drive n f (192 + i.dst) b r.1 i.dst else r.2.bpFault n 2 f b 5 i.dst

/-- BARRIER (R56): a result of 0 makes the vote of the turn 0. -/
def State.doBarrier (s : State) (n f b : Nat) (i : Insn) : State :=
  let r := s.truth n f b i
  if r.1 then r.2 else { r.2 with arr := { r.2.arr with voted0 := Sparse.put false r.2.arr.voted0 n true } }

/-- A reserved opcode (R39). -/
def State.doIllOp (s : State) (n f b : Nat) (i : Insn) : State := s.bpFault n 1 f b 0 i.op

/-! ## Gangs -/

/-- A gang group of a frond in a step (R57): its base, its width, and the BPs of its span that execute GANG. -/
structure Gang where
  base : Nat
  width : Nat
  tt : Nat
  members : List (Nat × Insn)
  deriving DecidableEq, Repr

/-- The width that a gang control gives (R58). -/
def gangWidth (tt : Nat) : Nat := 8 * 2 ^ ((tt >>> 10) % 4)

/-- The groups of a frond's GANG BPs, given in ascending order (R57); the current group is the head of the result. -/
def gangAdd (gs : List Gang) (m : Nat × Insn) : List Gang :=
  match gs with
  | g :: r =>
    if m.1 < g.base + g.width then { g with members := g.members ++ [m] } :: r
    else { base := m.1, width := gangWidth m.2.tt, tt := m.2.tt, members := [m] } :: g :: r
  | [] => [{ base := m.1, width := gangWidth m.2.tt, tt := m.2.tt, members := [m] }]

/-- The gang groups that a frond forms in this step (R57). -/
def State.gangs (s : State) (n f : Nat) : List Gang :=
  (((List.range 64).map (fun b => (b, (s.fetch n f b).1))).filter (fun m => m.2.op == 3)).foldl gangAdd []

/-- GOP of a gang control (R58). -/
def gangOp (tt : Nat) : Nat := (tt >>> 12) % 16

/-- A group is well formed (R57, R63). -/
def Gang.wellFormed (g : Gang) : Bool :=
  g.base % g.width == 0 && g.members.all (fun m => m.2.tt == g.tt) && !(bitOf g.tt 8 && decide (253 < g.tt % 256))

/-- The result word and the flags C, V and N of a gang operation on words of `w` bits (R59 to R61). -/
def gangResult (op w : Nat) (sgn : Bool) (x y c : Nat) : Nat × Bool × Bool × Bool :=
  let c' := if op ≤ 1 then c else 0
  let half : Int := 2 ^ (w - 1)
  let sx := signedOf w x
  let sy := signedOf w y
  let sum := (x + y + c') % 2 ^ w
  let diff := natOfInt w ((x : Int) - y - c')
  let sv : Int := sx + sy + c'
  let dv : Int := sx - sy - c'
  let out := fun (v : Int) => decide (v < -half) || decide (half ≤ v)
  let lt := if sgn then decide (sx < sy) else decide (x < y)
  let eq := x == y
  let all := fun (b : Bool) => if b then 2 ^ w - 1 else 0
  let r := match op with
    | 0 => sum
    | 1 => diff
    | 2 => all lt
    | 3 => all (lt || eq)
    | 4 => all eq
    | 5 => if lt || eq then x else y
    | 6 => if lt then y else x
    | _ => if sgn then natOfInt w (if sx < sy then sy - sx else sx - sy) else (if x < y then y - x else x - y)
  if op = 0 then (r, decide (2 ^ w ≤ x + y + c'), out sv, bitOf sum (w - 1))
  else (r, decide (x < y + c'), out dv, bitOf diff (w - 1))

/-- The reads of one operand field by the members of a group: bit i of the word is the operand of BP base + i. -/
def gangRead (n f : Nat) (g : Gang) (field : Nat) (sel : Insn → Nat) (r : Nat × State) : Nat × State :=
  g.members.foldl (fun r m =>
    let o := r.2.readOperand n f m.1 field (sel m.2)
    (r.1 + (if o.1 then 2 ^ (m.1 - g.base) else 0), o.2)) r

/-- C of a gang group, read by its lowest member (R60). -/
def gangCarry (n f : Nat) (g : Gang) (s : State) : Bool × State :=
  match g.members with
  | m :: _ => s.readOperand n f m.1 3 m.2.c
  | [] => (false, s)

/-- A gang group executes (R57 to R63).
(DEDUCED, log 115.) -/
def State.doGang (s : State) (n f : Nat) (g : Gang) : State :=
  let s0 := g.members.foldl (fun s m => s.markRan n f m.1) s
  let x := gangRead n f g 1 (fun i => i.a) (0, s0)
  let y := gangRead n f g 2 (fun i => i.b) (0, x.2)
  let c := gangCarry n f g y.2
  let op := gangOp g.tt
  if !g.wellFormed || decide (8 ≤ op) then
    let s1 := c.2.bpFault n 2 f g.base 6 0
    g.members.foldl (fun s m => (s.slotWrite n f m.1 m.2.dst false).drive n f m.1 m.1 false m.2.dst) s1
  else
    let r := gangResult op g.width (bitOf g.tt 9) x.1 y.1 (if c.1 then 1 else 0)
    let s1 := g.members.foldl (fun s m =>
      let v := bitOf r.1 (m.1 - g.base)
      (s.slotWrite n f m.1 m.2.dst v).drive n f m.1 m.1 v m.2.dst) c.2
    let top := g.base + g.width - 1
    let fs := g.tt % 256
    if bitOf g.tt 8 && g.members.any (fun m => m.1 == top) then
      ((s1.slotWrite n f top fs r.2.1).slotWrite n f top (fs + 1) r.2.2.1).slotWrite n f top (fs + 2) r.2.2.2
    else s1

/-! ## The execution of a BP's word -/

/-- A BP that executes its word in this step, whatever its opcode (R39); a GANG executes with its group's base. -/
def State.runBp (s : State) (n f b : Nat) : State :=
  if !s.executes n || s.hasRun n f b then s
  else
    let i := (s.fetch n f b).1
    match i.op with
    | 0 => s.markRan n f b
    | 1 => (s.markRan n f b).doEval n f b i
    | 2 => (s.markRan n f b).doEvalx n f b i
    | 3 => match (s.gangs n f).find? (fun g => g.base == b) with
      | some g => s.doGang n f g
      | none => s
    | 4 => (s.markRan n f b).doMrd n f b i
    | 5 => (s.markRan n f b).doMwr n f b i
    | 6 => (s.markRan n f b).doPort n f b i
    | 7 => (s.markRan n f b).doProbe n f b i
    | 8 => (s.markRan n f b).doBarrier n f b i
    | _ => (s.markRan n f b).doIllOp n f b i

/-- A command that names a BP and the opcode its word must hold. -/
def State.runOp (s : State) (p : BpId) (ok : Nat → Bool) : State :=
  if ok (s.fetch p.sorus p.frond p.bp).1.op then s.runBp p.sorus p.frond p.bp else s

/-- A command that names the base BP of a gang group and the GOP its control must hold.
(DEDUCED, log 115.) -/
def State.runGang (s : State) (p : BpId) (ok : Nat → Bool) : State :=
  let i := (s.fetch p.sorus p.frond p.bp).1
  if i.op = 3 ∧ ok (gangOp i.tt) then s.runBp p.sorus p.frond p.bp else s

/-- NOP (R39): the frond-bus bit stays undriven; a word that ECC cannot correct executes so (R37). -/
def execBpNop (bp : BpId) (s : State) : Result := .next (s.runOp bp (fun o => o == 0))

/-- EVAL (R41). -/
def execBpEval (bp : BpId) (s : State) : Result := .next (s.runOp bp (fun o => o == 1))

/-- EVALX (R50). -/
def execBpEvalx (bp : BpId) (s : State) : Result := .next (s.runOp bp (fun o => o == 2))

/-- ADD (R59); the gang commands name the base BP, and a reserved GOP (R59, R63) goes with ADD. -/
def execGangAdd (bp : BpId) (s : State) : Result := .next (s.runGang bp (fun g => g == 0 || decide (8 ≤ g)))

/-- SUB (R59). -/
def execGangSub (bp : BpId) (s : State) : Result := .next (s.runGang bp (fun g => g == 1))

/-- CMPLT (R59). -/
def execGangCmplt (bp : BpId) (s : State) : Result := .next (s.runGang bp (fun g => g == 2))

/-- CMPLE (R59). -/
def execGangCmple (bp : BpId) (s : State) : Result := .next (s.runGang bp (fun g => g == 3))

/-- CMPEQ (R59). -/
def execGangCmpeq (bp : BpId) (s : State) : Result := .next (s.runGang bp (fun g => g == 4))

/-- MIN (R59). -/
def execGangMin (bp : BpId) (s : State) : Result := .next (s.runGang bp (fun g => g == 5))

/-- MAX (R59). -/
def execGangMax (bp : BpId) (s : State) : Result := .next (s.runGang bp (fun g => g == 6))

/-- ABSDIFF (R59). -/
def execGangAbsdiff (bp : BpId) (s : State) : Result := .next (s.runGang bp (fun g => g == 7))

/-- MRD (R54). -/
def execBpMrd (bp : BpId) (s : State) : Result := .next (s.runOp bp (fun o => o == 4))

/-- MWR (R54). -/
def execBpMwr (bp : BpId) (s : State) : Result := .next (s.runOp bp (fun o => o == 5))

/-- PORT (R52). -/
def execBpPort (bp : BpId) (s : State) : Result := .next (s.runOp bp (fun o => o == 6))

/-- PROBE (R55). -/
def execBpProbe (bp : BpId) (s : State) : Result := .next (s.runOp bp (fun o => o == 7))

/-- BARRIER (R56). -/
def execBpBarrier (bp : BpId) (s : State) : Result := .next (s.runOp bp (fun o => o == 8))

/-- ILL_OP (R39). -/
def execBpIllOp (bp : BpId) (s : State) : Result := .next (s.runOp bp (fun o => decide (9 ≤ o)))

end Sys2Proof.Machine
end

