-- ==== Sys2Proof/Machine/Iob.lean ====
section
/-! DEFINITION.  The user pins (R88 to R90, R590 to R599) and the test access port (R612, R613). -/

namespace Sys2Proof.Machine

/-! ## Consumers -/

/-- The fields of a consumer-table entry (R169). -/
structure Consumer where
  kind : Nat
  target : Nat
  vsorus : Nat
  frond : Nat
  bit : Nat
  deriving DecidableEq, Repr

/-- A consumer-table entry decoded (R169). -/
def Consumer.decode (w : Word64) : Consumer :=
  let n := w.toNat
  { kind := n % 256, target := (n >>> 8) % 65536, vsorus := (n >>> 24) % 32, frond := (n >>> 32) % 16, bit := (n >>> 40) % 64 }

/-- The consumers bound. -/
def State.consumerList (s : State) : List Consumer := s.arr.consumers.map (fun e => Consumer.decode e.2)

/-- The consumer entry of a target; gateway positions belong to a virtual sorus (R88, R169). -/
def State.consumer (s : State) (kind target vsorus : Nat) : Option Consumer :=
  s.consumerList.find? (fun c => decide (c.kind = kind ∧ c.target = target ∧ (kind ≠ 1 ∨ c.vsorus = vsorus)))

/-- The outbound port bit that a consumer takes; 0 where its virtual sorus is not mapped. -/
def State.consumed (s : State) (c : Consumer) : Bool :=
  if s.physOf c.vsorus = 0xFF then false else bitAt s.arr.outBits (s.physOf c.vsorus) c.frond c.bit

/-- The source sorus of a consumer is frozen or halted for a full-depth load (R594). -/
def State.consumerSafe (s : State) (c : Consumer) : Bool :=
  let n := s.physOf c.vsorus
  n != 0xFF && (s.flag (Fld.ARR_STATUS_FROZEN n) || (Sparse.get none s.arr.halted n).isSome)

/-! ## Pin configuration -/

/-- The declared voltage of a bank; 6 and 7 act as 0 (R598). -/
def State.vnom (s : State) (b : Nat) : Nat := let v := s.fld (Fld.IOB_BANK_VNOM b); if 6 ≤ v then 0 else v

/-- A bank voltage permits a standard (R590). -/
def stdAllowed (std vnom : Nat) : Bool :=
  match std with
  | 0 => true
  | 6 => vnom == 3 || vnom == 4
  | 7 => vnom == 1 || vnom == 3
  | k => k == vnom

/-- A standard is differential (R590). -/
def differential (std : Nat) : Bool := std == 6 || std == 7

/-- Pin p's own configuration is one the device refuses (R591). -/
def State.pinRefused (s : State) (b p : Nat) : Bool :=
  let std := s.fld (Fld.IOB_PIN_STD b p)
  let dir := s.fld (Fld.IOB_PIN_DIR b p)
  !stdAllowed std (s.vnom b) || dir == 3 || (differential std && dir == 2)

/-- The other pin of a pair. -/
def pairOf (p : Nat) : Nat := if p % 2 = 0 then p + 1 else p - 1

/-- A pin is held disabled: its own configuration is refused, or its pair's two pins differ, or its pair's other pin is
refused, where one of the two carries a differential standard (R591). -/
def State.pinBad (s : State) (b p : Nat) : Bool :=
  let q := pairOf p
  let std := s.fld (Fld.IOB_PIN_STD b p)
  let std' := s.fld (Fld.IOB_PIN_STD b q)
  let pair := differential std || differential std'
  s.pinRefused b p || (pair && (std != std' || s.fld (Fld.IOB_PIN_DIR b p) != s.fld (Fld.IOB_PIN_DIR b q) || s.pinRefused b q))

/-- IOB_BAD taken again after a write: a newly refused pin sets CFG_BAD and raises EV504 + b (R591). -/
def State.checkBank (s : State) (b : Nat) : State :=
  let bad := (List.range 24).foldl (fun a p => if s.pinBad b p then a + 2 ^ p else a) 0
  let s1 := s.setReg (Reg.IOB_BAD b) (BitVec.ofNat 32 bad)
  if bad &&& (2 ^ 24 - 1 - (s.reg (Reg.IOB_BAD b)).toNat % 2 ^ 24) ≠ 0 then s1.raiseBit (Fld.IOB_STAT_CFG_BAD b) (504 + b) else s1

/-! ## What a pin does -/

/-- The user pins follow the banks' configuration: from the OUT phase on, outside FAILED and OFF (R384, R593). -/
def State.pinsLive (s : State) : Bool := s.iob.active && !s.clock.porst && s.devState != 4

/-- The drive of a pad: none, low or high. -/
inductive PinDrive where
  | z | low | high
  deriving DecidableEq, Repr

/-- The comparator that names a pin with PIN_EN 1 (R592). -/
def State.pinComparator (s : State) (i : Nat) : Option Nat :=
  (List.range 16).find? (fun n => s.flag (Fld.TU_TC_CFG_PIN_EN n) && s.fld (Fld.TU_TC_CFG_PIN n) == i)

/-- A value driven on a pin of direction `dir`: open drain releases for 1 (R592). -/
def driveOf (dir : Nat) (v : Bool) : PinDrive := if v then (if dir = 2 then .z else .high) else .low

/-- The boundary-scan instructions that take the pins (R613). -/
def State.tapTakes (s : State) : Bool := s.iob.tapIr == 3 || s.iob.tapIr == 4 || s.iob.tapIr == 5 || s.iob.tapIr == 7

/-- The drive of pin p of bank b by the sources of R592 and R594, its configuration in force; with NOUT a twin that does not own
the outputs leaves scheduled pins to their pull (R537). -/
def State.pinValue (s : State) (b p : Nat) : PinDrive :=
  let i := b * 24 + p
  let dir := s.fld (Fld.IOB_PIN_DIR b p)
  let outBit := bitOf (s.reg (Reg.IOB_OUT b)).toNat p
  match s.consumer 3 i 0 with
  | some _ =>
    if !s.twin.pin && s.flag Fld.TWN_CFG_NOUT then .z
    else if s.iob.safeReg.getLsbD i then
      match s.fld (Fld.IOB_PIN_SAFE b p) with
      | 0 => .low
      | 1 => .high
      | 2 => .z
      | _ => driveOf dir (s.iob.outReg.getLsbD i)
    else driveOf dir (s.iob.outReg.getLsbD i)
  | none =>
    match s.pinComparator i with
    | some n => driveOf dir (Sparse.find s.time.pulses n == some i || outBit)
    | none => driveOf dir outBit

/-- The drive of pin p of bank b; the second pin of a differential pair is driven with the first, and its own level is not
read (R590). -/
def State.pinDrive (s : State) (b p : Nat) : PinDrive :=
  if s.iob.tapIr = 6 then .z
  else if s.tapTakes then (if s.iob.cells.getLsbD (b * 24 + p) then .high else .low)
  else
    let std := s.fld (Fld.IOB_PIN_STD b p)
    if !s.pinsLive || std = 0 || s.fld (Fld.IOB_PIN_DIR b p) = 0 || s.pinBad b p then .z
    else if differential std && p % 2 = 1 then .z
    else s.pinValue b p

/-- The level that the input side of a pin sees, given the level from outside (R90, R590): the device's own drive where it
drives; 0 for pin 2k + 1 of a pair, and for a disabled pin of a bank with VNOM 0. -/
def State.pinLevel (s : State) (i : Nat) (outside : Bool) : Bool :=
  let b := i / 24
  let p := i % 24
  if differential (s.fld (Fld.IOB_PIN_STD b p)) && p % 2 = 1 then false
  else match s.pinDrive b p with
    | .low => false
    | .high => true
    | .z => if s.vnom b = 0 then false else outside

/-- A sample of every ball: the levels from outside are free values (log entry 20).
(DESIGN CHOICE, log 20.) -/
def State.sampleBalls (s : State) : State :=
  let a := s.takeFree
  let b := a.2.takeFree
  let c := b.2.takeFree
  let outside : BitVec 192 := c.1 ++ b.1 ++ a.1
  let lv := (List.range 192).foldl (fun n i => if s.pinLevel i (outside.getLsbD i) then n + 2 ^ i else n) 0
  { c.2 with iob := { c.2.iob with ball := BitVec.ofNat 192 lv } }

/-- The event bits of this step: pins captured four steps earlier, and the OWNER pin (R87, R90). -/
def State.eventBit (s : State) (e : Nat) : Bool :=
  if e = 192 then s.twin.pin else (s.iob.captures.getD 3 0).getLsbD e

/-! ## Pipelines -/

/-- The pins that the consumer map binds: the value the first stage takes, and the safe state (R88, R594). -/
def State.takePins (s : State) : BitVec 192 × BitVec 192 :=
  s.consumerList.foldl (fun r c =>
    if c.kind = 3 then
      (if s.consumed c then r.1 ||| BitVec.ofNat 192 (2 ^ c.target) else r.1,
       if s.consumerSafe c then r.2 ||| BitVec.ofNat 192 (2 ^ c.target) else r.2)
    else r) (0, 0)

/-- The pin output register of pin `i` loads the third stage (R88); while the pin enters its safe state, the register keeps
the value driven before it (R594). -/
def State.loadPin (s : State) (i : Nat) : State :=
  let m : BitVec 192 := BitVec.ofNat 192 (2 ^ i)
  if s.iob.safe3.getLsbD i then { s with iob := { s.iob with safeReg := s.iob.safeReg ||| m } }
  else { s with iob := { s.iob with safeReg := s.iob.safeReg &&& ~~~ m,
                                    outReg := (s.iob.outReg &&& ~~~ m) ||| (s.iob.stage3 &&& m) } }

/-- Every pin output register loads (R88). -/
def State.loadPins (s : State) : State :=
  { s with iob := { s.iob with safeReg := s.iob.safe3,
                               outReg := (s.iob.outReg &&& s.iob.safe3) ||| (s.iob.stage3 &&& ~~~ s.iob.safe3) } }

/-- The accept registers' bits (R88). -/
def State.takeAccepts (s : State) : BitVec 16 :=
  s.consumerList.foldl (fun r c =>
    if c.kind = 2 ∧ s.consumed c then r ||| BitVec.ofNat 16 (2 ^ c.target) else r) 0

/-- The output pipelines, the accept registers and the input registers advance by a step-clock cycle (R88, R90). -/
def State.pipelines (s : State) : State :=
  let t := s.takePins
  let s1 := s.loadPins
  { s1 with iob := { s1.iob with
      stage3 := s.iob.stage2, safe3 := s.iob.safe2, stage2 := s.iob.stage1, safe2 := s.iob.safe1, stage1 := t.1, safe1 := t.2,
      acceptOld := s.iob.accept, accept := s.takeAccepts, captures := (s.iob.ball :: s.iob.captures).take 4 } }

/-- PIN_OUTPUT_LOAD (R88): the register of pin b × 24 + p loads and drives the pad. -/
def execPinOutputLoad (bank : Fin 8) (pin : Fin 24) (s : State) : Result := .next (s.loadPin (bank * 24 + pin))

/-! ## Bank registers -/

/-- A write of IOB_PINp (R591, R596). -/
def State.iobPinWrite (s : State) (mid : Mid) (b p : Nat) (v : Word32) : State :=
  let f := fun (s : State) => ((s.storeReg (Reg.IOB_PIN b p) v).checkBank b).reply Code.ok
  if s.imageOwner 1 (b * 24 + p) = 0 then f s else s.assign mid 0x01 (b * 24 + p) f

/-- A write of IOB_OUT: bits of pins that the image owns keep their value, and a write that would change one completes with
CONFLICT (R596). -/
def State.iobOutWrite (s : State) (mid : Mid) (b : Nat) (v : Word32) : State :=
  let owned := (List.range 24).foldl (fun a p => if s.imageOwner 1 (b * 24 + p) ≠ 0 then a + 2 ^ p else a) 0
  let keep : Word32 := if mid = 0x10 then 0 else BitVec.ofNat 32 owned
  let old := s.reg (Reg.IOB_OUT b)
  let new := (old &&& keep) ||| (v &&& ~~~ keep &&& 0x00FFFFFF)
  let s1 := s.setReg (Reg.IOB_OUT b) new
  if (old ^^^ v) &&& keep ≠ 0 then s1.claimRefuse else s1.reply Code.ok

/-- A write in the I/O banks' range. -/
def State.iobRegWrite (s : State) (mid : Mid) (a : Nat) (v : Word32) : State :=
  let b := (a - 0x08300000) / 0x100
  let o := (a - 0x08300000) % 0x100
  if o < 0x60 then s.iobPinWrite mid b (o / 4) v
  else if o = 0x60 then (((s.storeReg a v).setFlag (Fld.IOB_STAT_VOK b) false).checkBank b).reply Code.ok
  else if o = 0x6C then s.iobOutWrite mid b v
  else s.storeReg a v

/-- A read in the I/O banks' range: IOB_IN shows the levels of the last sample (R598). -/
def State.iobRegRead (s : State) (a : Nat) : State :=
  let b := (a - 0x08300000) / 0x100
  if a = Reg.IOB_IN b then s.reply Code.ok (BitVec.ofNat 32 ((s.iob.ball.toNat >>> (24 * b)) % 2 ^ 24)) else s.loadReg a

/-- The nominal voltages of R598 in mV, the unit of the voltage monitors (R463). -/
def vnomValue (v : Nat) : Nat :=
  match v with
  | 1 => 1200
  | 2 => 1500
  | 3 => 1800
  | 4 => 2500
  | 5 => 3300
  | _ => 0

/-- A sample of VM13 + b compared with VNOM (R595). -/
def State.bankSample (s : State) (b : Nat) (value : Nat) : State :=
  let nom := vnomValue (s.vnom b)
  if nom = 0 then { (s.setFlag (Fld.IOB_STAT_VOK b) false) with iob := { s.iob with badRun := Sparse.put 0 s.iob.badRun b 0 } }
  else
    let ok := decide (nom * 92 ≤ value * 100 ∧ value * 100 ≤ nom * 108)
    let n := if ok then 0 else Sparse.get 0 s.iob.badRun b + 1
    let s1 := s.setFlag (Fld.IOB_STAT_VOK b) ok
    let s2 : State := { s1 with iob := { s1.iob with badRun := Sparse.put 0 s1.iob.badRun b n } }
    if 3 ≤ n then s2.raiseBit (Fld.IOB_STAT_VBAD b) (504 + b) else s2

/-- IOB_PIN_WRITE (R591, R596). -/
def execIobPinWrite (mid : Mid) (bank : Fin 8) (pin : Fin 24) (value : Word32) (s : State) : Result :=
  .next (s.iobPinWrite mid bank pin value)

/-- IOB_OUT_WRITE (R596). -/
def execIobOutWrite (mid : Mid) (bank : Fin 8) (value : Word32) (s : State) : Result := .next (s.iobOutWrite mid bank value)

/-! ## The test access port -/

/-- The loader's phase is OUT or USER (R613). -/
def State.imageRuns (s : State) : Bool := s.ldr.phase == 9 || s.ldr.phase == 10

/-- An instruction that takes the pins: BYPASS instead while the image runs, and the next Capture-IR tells (R613).
(PRESUMED, log 119.) -/
def State.tapTake (s : State) (ir : Nat) : State :=
  if s.imageRuns then { s with iob := { s.iob with tapIr := 0xFF, tapBlocked := true } }
  else { s with iob := { s.iob with tapIr := ir } }

/-- What Capture-IR captures before an instruction is loaded: 0x05 once after an instruction was turned into BYPASS, else
0x01 (R613). -/
def State.captureIr (s : State) : State :=
  { (s.emit (.tap (if s.iob.tapBlocked then 5 else 1))) with iob := { s.iob with tapBlocked := false } }

/-- IDCODE (R612): the identification register is selected and read. -/
def execTapIdcode (s : State) : Result :=
  let s1 := s.captureIr
  .next ({ s1 with iob := { s1.iob with tapIr := 1 } }.emit
    (.tap (0x1 * 2 ^ 28 + 0x9640 * 2 ^ 12 + Config.bsdlId.toNat * 2 + 1)))

/-- SAMPLE/PRELOAD (R612): the pins' levels are sampled and the boundary register's cells loaded. -/
def execTapSamplePreload (cells : BitVec 192) (s : State) : Result :=
  let s1 := s.captureIr
  .next ({ s1 with iob := { s1.iob with tapIr := 2, cells := cells } }.emit (.tap s1.iob.ball.toNat))

/-- EXTEST (R613). -/
def execTapExtest (s : State) : Result := .next (s.captureIr.tapTake 3)

/-- EXTEST_PULSE (R613). -/
def execTapExtestPulse (s : State) : Result := .next (s.captureIr.tapTake 4)

/-- EXTEST_TRAIN (R613). -/
def execTapExtestTrain (s : State) : Result := .next (s.captureIr.tapTake 5)

/-- HIGHZ (R613). -/
def execTapHighz (s : State) : Result := .next (s.captureIr.tapTake 6)

/-- CLAMP (R613). -/
def execTapClamp (s : State) : Result := .next (s.captureIr.tapTake 7)

/-- BYPASS (R612). -/
def execTapBypass (s : State) : Result :=
  let s1 := s.captureIr
  .next { s1 with iob := { s1.iob with tapIr := 0xFF } }

/-- TRST_N low (R613): the TAP is reset and IDCODE selected.
(PRESUMED, log 119.) -/
def execTapReset (s : State) : Result := .next { s with iob := { s.iob with tapIr := 1, tapBlocked := false } }

end Sys2Proof.Machine
end

