-- ==== Sys2Proof/Machine/ArrayStep.lean ====
section
/-! DEFINITION.  The end of a step in the array: lane delivery, block memories, contention, and what becomes visible (R45, R48 to
R56, R78 to R80, R91 to R98, R101), and the sorus windows (R103 to R108). -/

namespace Sys2Proof.Machine

/-! ## The sorus crossbar -/

/-- The listed crossbar entries of a page: input number f × 64 + m and entry. -/
def State.xbarEntries (s : State) (n pg : Nat) : List (Nat × Word32) :=
  (s.regs.filter (fun e => decide (Reg.ARR_XBAR n pg 0 ≤ e.1 ∧ e.1 < Reg.ARR_XBAR n pg 1024))).map
    (fun e => ((e.1 - Reg.ARR_XBAR n pg 0) / 4, e.2))

/-- The source that a crossbar entry routes: frond × 64 + lane (R81). -/
def xbarSource (w : Word32) : Option Nat := if bitOf w.toNat 10 then some (w.toNat % 1024) else none

/-- The page in force when the registered sources of a sorus were driven (R80). -/
def State.lanePageOf (s : State) (n : Nat) : Nat := if Sparse.get false s.arr.lanePage n then 1 else 0

/-- Inputs of a sorus that take a source: delivered for the next step (R79, R80). -/
def State.deliverLane (s : State) (n f m : Nat) : State :=
  (s.xbarEntries n (s.lanePageOf n)).foldl (fun s e =>
    if xbarSource e.2 = some (f * 64 + m) then
      { s with arr := { s.arr with laneNext := putBit s.arr.laneNext n (e.1 / 64) (e.1 % 64) (bitAt s.arr.laneSrc n f m) } }
    else s) s

/-- Every input of a sorus takes its source; an input whose entry is disabled reads 0 (R79). -/
def State.deliverSorus (s : State) (n : Nat) : State :=
  (s.xbarEntries n (s.lanePageOf n)).foldl (fun s e =>
    match xbarSource e.2 with
    | some k =>
      { s with arr := { s.arr with
        laneNext := putBit s.arr.laneNext n (e.1 / 64) (e.1 % 64) (bitAt s.arr.laneSrc n (k / 64) (k % 64)) } }
    | none => s) s

/-- SORUS_LANE_DELIVERY (R79): in the step after its drive, the second register of a source takes its value, for the inputs
that select it to read in the step after this one.
(DEDUCED, log 114.) -/
def execSorusLaneDelivery (sorus : Fin 34) (frond : Fin 16) (lane : Fin 64) (s : State) : Result :=
  .next (if s.seqState = 2 then s.deliverLane sorus frond lane else s)

/-! ## Block memories -/

/-- Address bits, width and words per physical word as a shift, of a ratio code (R92, R98). -/
def bmGeometry (ratio : Nat) : Nat × Nat × Nat :=
  match ratio with
  | 0 => (15, 1, 5)
  | 1 => (14, 2, 4)
  | 2 => (13, 4, 3)
  | 3 => (12, 9, 2)
  | 4 => (11, 18, 1)
  | _ => (10, 36, 0)

/-- The window address of a physical word (R103). -/
def bmAddr (n mem w : Nat) : Nat := 0x0C040000 + n * 0x100000 + mem * 0x2000 + w * 8

/-- A physical word of a block memory (R98). -/
def State.bmPhys (s : State) (n mem w : Nat) : Nat :=
  (s.reg (bmAddr n mem w)).toNat + ((s.reg (bmAddr n mem w + 4)).toNat % 16) * 2 ^ 32

/-- A physical word set. -/
def State.setBmPhys (s : State) (n mem w v : Nat) : State :=
  (s.setReg (bmAddr n mem w) (BitVec.ofNat 32 v)).setReg (bmAddr n mem w + 4) (BitVec.ofNat 32 (v / 2 ^ 32 % 16))

/-- The aspect ratio of a block memory. -/
def State.bmRatio (s : State) (n mem : Nat) : Nat := s.fld (Fld.ARR_BM_CFG_RATIO n mem)

/-- The logical word at an address (R92, R98). -/
def State.bmRead (s : State) (n mem a : Nat) : Nat :=
  let g := bmGeometry (s.bmRatio n mem)
  let la := a % 2 ^ g.1
  (s.bmPhys n mem (la >>> g.2.2) >>> (g.2.1 * (la % 2 ^ g.2.2))) % 2 ^ g.2.1

/-- The logical word at an address set. -/
def State.bmWrite (s : State) (n mem a v : Nat) : State :=
  let g := bmGeometry (s.bmRatio n mem)
  let la := a % 2 ^ g.1
  let w := la >>> g.2.2
  let sh := g.2.1 * (la % 2 ^ g.2.2)
  let old := s.bmPhys n mem w
  s.setBmPhys n mem w (old - ((old >>> sh) % 2 ^ g.2.1) * 2 ^ sh + (v % 2 ^ g.2.1) * 2 ^ sh)

/-- A port's write in a schedule (R94): one to a persistent memory is suppressed in a twin being brought level, and is noted for
the partner (R555, R557). -/
def State.bmStep (s : State) (n mem a v : Nat) : State :=
  if s.twin.suppress && s.memKept n mem then s
  else
    let g := bmGeometry (s.bmRatio n mem)
    let w := a % 2 ^ g.1 >>> g.2.2
    let s1 := s.bmWrite n mem a v
    s1.noteMem n mem w (s1.bmPhys n mem w)

/-- The read half of a port's access: its read-data register takes the word (R93, R94). -/
def State.bmReadPort (s : State) (n index : Nat) (data : Nat) (page : Bool) : State :=
  { s with arr := { s.arr with rdReg := Sparse.put 0 s.arr.rdReg (n * 64 + index) (BitVec.ofNat 36 data),
                               landed := s.arr.landed ++ [(n * 64 + index, page)] } }

/-- The accesses that the two ports of a memory issued in the previous step are performed (R94 to R96). -/
def State.performMem (s : State) (n mem : Nat) : State :=
  let k := n * 64 + mem * 2
  let pa := Sparse.get none s.arr.bmPend k
  let pb := Sparse.get none s.arr.bmPend (k + 1)
  let g := bmGeometry (s.bmRatio n mem)
  let s1 := match pa with
    | some x => if x.re then s.bmReadPort n (mem * 2) (s.bmRead n mem x.addr) x.page else s
    | none => s
  let s2 := match pb with
    | some x => if x.re then s1.bmReadPort n (mem * 2 + 1) (s.bmRead n mem x.addr) x.page else s1
    | none => s1
  let clash := match pa, pb with
    | some x, some y => x.we && y.we && x.addr % 2 ^ g.1 == y.addr % 2 ^ g.1
    | _, _ => false
  let s3 := match pa with
    | some x => if x.we then s2.bmStep n mem x.addr (if clash then 0 else x.data.toNat) else s2
    | none => s2
  let s4 := match pb with
    | some x => if x.we then s3.bmStep n mem x.addr (if clash then 0 else x.data.toNat) else s3
    | none => s3
  { s4 with arr := { s4.arr with bmPend := Sparse.put none (Sparse.put none s4.arr.bmPend k none) (k + 1) none } }

/-- Every access issued in the previous step and not yet performed is performed. -/
def State.performAll (s : State) : State :=
  (s.arr.bmPend.map (fun e => e.1)).foldl (fun s k => s.performMem (k / 64) (k % 64 / 2)) s

/-- BLOCK_MEMORY_ACCESS (R94): in the step after the issue. -/
def execBlockMemoryAccess (sorus : Fin 34) (mem : Fin 32) (s : State) : Result :=
  .next (if s.seqState = 2 then s.performMem sorus mem else s)

/-! ## The end of a step -/

/-- The values that a frond's drives give each wire, contention resolved to 0 (R51, R53 to R55): wire, value, and the
lowest-numbered driver when several drive it. -/
def resolveWire (ds : List Drive) (w : Nat) : Bool × Option Drive :=
  match ds.filter (fun d => d.wire == w) with
  | [d] => (d.val, none)
  | d :: r => (false, some (r.foldl (fun m x => if x.bp < m.bp then x else m) d))
  | [] => (false, none)

/-- The wires driven, each once. -/
def wiresOf (ds : List Drive) : List Nat :=
  ds.foldl (fun l d => if l.contains d.wire then l else l ++ [d.wire]) []

/-- The cause of a contention on a wire: 3 on the bus, 4 on a lane source, 5 elsewhere (R64). -/
def contCause (w : Nat) : Nat := if w < 64 then 3 else if w < 128 then 4 else 5

/-- The value of a wire at the end of the step (R51, R53, R55). -/
def State.settleWire (s : State) (n f : Nat) (ds : List Drive) (w : Nat) : State :=
  let r := resolveWire ds w
  let s1 := match r.2 with
    | some d => s.fault n (contCause w) f d.bp 5 d.dst
    | none => s
  if w < 64 then { s1 with arr := { s1.arr with bus := putBit s1.arr.bus n f w r.1 } }
  else if w < 128 then { s1 with arr := { s1.arr with laneSrc := putBit s1.arr.laneSrc n f (w - 64) r.1 } }
  else if w < 192 then { s1 with arr := { s1.arr with outBits := putBit s1.arr.outBits n f (w - 128) r.1 } }
  else if w < 320 then
    let k := n * 16 + f
    let m : BitVec 128 := BitVec.ofNat 128 (2 ^ (w - 192))
    let old := Sparse.get 0 s1.arr.probe k
    { s1 with arr := { s1.arr with probe := Sparse.put 0 s1.arr.probe k (if r.1 then old ||| m else old &&& ~~~ m) } }
  else s1

/-- The access that a memory port's contributions issue (R54, R93). -/
def portAccess (ds : List Drive) (index : Nat) (page : Bool) : Option BmAccess :=
  let field := fun k => (resolveWire ds (320 + index * 64 + k)).1
  let bits := fun lo n => (List.range n).foldl (fun a i => if field (lo + i) then a + 2 ^ i else a) 0
  if field 15 || field 52 then
    some { addr := bits 0 15, re := field 15, we := field 52, data := BitVec.ofNat 36 (bits 16 36), page := page }
  else none

/-- The BP that contributed the write enable of a port. -/
def writeEnableBp (ds : List Drive) (index : Nat) : Nat :=
  match ds.find? (fun d => d.wire == 320 + index * 64 + 52) with
  | some d => d.bp
  | none => 0

/-- The accesses that a frond issues in this step, and BM_DBLWR where both ports of a memory write one address (R54, R93,
R96).
(DEDUCED, log 114.) -/
def State.issueMem (s : State) (n f m : Nat) (ds : List Drive) : State :=
  let a := portAccess ds (2 * m) (s.pageB n)
  let b := portAccess ds (2 * m + 1) (s.pageB n)
  let mem := 2 * f + m
  let k := n * 64 + mem * 2
  let g := bmGeometry (s.bmRatio n mem)
  let s1 : State := { s with arr := { s.arr with
    bmPend := Sparse.put none (Sparse.put none s.arr.bmPend k a) (k + 1) b } }
  match a, b with
  | some x, some y =>
    if x.we && y.we && x.addr % 2 ^ g.1 == y.addr % 2 ^ g.1 then s1.fault n 7 f (writeEnableBp ds (2 * m)) 7 0 else s1
  | _, _ => s1

/-- The drives of a frond take effect (R48). -/
def State.commitFrond (s : State) (k : Nat) (ds : List Drive) : State :=
  let n := k / 16
  let f := k % 16
  let s1 := (wiresOf ds).foldl (fun s w => s.settleWire n f ds w) s
  (s1.issueMem n f 0 ds).issueMem n f 1 ds

/-- A family of values by frond kept for the sori that a condition names. -/
def keepSori (l : Pairs Word64) (p : Nat → Bool) : Pairs Word64 := l.filter (fun e => p (e.1 / 16))

/-- The BPs that have a word to execute in this step and have not executed it: the listed instruction words at the fetched
index of a sorus that executes steps (R38, R39). -/
def State.bpsToRun (s : State) : List (Nat × Nat × Nat) :=
  (s.arr.imem.map (fun e => e.1)).filterMap (fun l =>
    let n := l / 1048576
    if s.executes n && l % 1024 == s.fetchIndex n then some (n, l / 65536 % 16, l / 1024 % 64) else none)

/-- Every BP executes its word of this step (R38, R39). -/
def State.runAll (s : State) : State := s.bpsToRun.foldl (fun s p => s.runBp p.1 p.2.1 p.2.2) s

/-- Some source of a sorus was driven with 1 in the last step. -/
def State.laneSrcListed (s : State) (n : Nat) : Bool := s.arr.laneSrc.any (fun e => e.1 / 16 == n)

/-- Slot `k` of the 64 BPs of a frond. -/
def State.slotWord (s : State) (n f k : Nat) : Word64 :=
  BitVec.ofNat 64 ((List.range 64).foldl (fun a b => if s.flag (slotField n f b k) then a + 2 ^ b else a) 0)

/-- The slot writes of a step take effect (R45): those to persistent slots are suppressed in a twin being brought level, and are
noted for the partner (R555, R557). -/
def State.commitSlots (s : State) : State :=
  let ws := s.arr.slotWrites.filter (fun w => !(s.twin.suppress && s.slotKept w.sorus w.frond w.slot))
  let s1 := ws.foldl (fun s w => s.writeSlot w.sorus w.frond w.bp w.slot w.val) s
  let slots := (ws.map (fun w => (w.sorus, w.frond, w.slot))).foldl (fun a x => if a.contains x then a else a ++ [x])
    ([] : List (Nat × Nat × Nat))
  slots.foldl (fun s x => s.noteSlot x.1 x.2.1 x.2.2 (s.slotWord x.1 x.2.1 x.2.2)) s1

/-- The end of an executed step in the array, after every BP has executed: accesses of the step before are performed, lanes
are delivered, and slot writes, buses, sources and port bits take their values (R45, R48, R79, R94).
(DEDUCED, log 114.) -/
def State.endStep (s : State) : State :=
  let s1 := s.runAll
  let s2 := s1.performAll
  let s3 := (List.range 34).foldl (fun s n => if s.laneSrcListed n then s.deliverSorus n else s) s2
  let exec := fun n => s3.executes n
  let s4 : State := { s3 with arr := { s3.arr with
    laneIn := s3.arr.laneNext, laneNext := [], laneOld := s3.arr.laneSrc,
    laneSrc := keepSori s3.arr.laneSrc (fun n => !exec n),
    lanePage := (List.range 34).foldl (fun l n => Sparse.put false l n (s3.pageB n)) s3.arr.lanePage,
    bus := [] } }
  let s5 := s4.commitSlots
  let s6 := s5.arr.drives.foldl (fun s e => s.commitFrond e.1 e.2) s5
  let s7 := s6.flushFaults
  { s7 with arr := { s7.arr with slotWrites := [], drives := [], ran := [] } }

/-- Read data of the step lands on the port bits of its sorus, under the page in force (R84, R94, R101).
(DEDUCED, log 114.) -/
def State.landReads (s : State) : State :=
  s.arr.landed.foldl (fun s e => s.landMem (e.1 / 64) (e.1 % 64) e.2) { s with arr := { s.arr with landed := [] } }

/-- Event bits read their values of this step (R84, R87, R90).
(DEDUCED, log 114.) -/
def State.landEvents (s : State) : State :=
  (List.range 34).foldl (fun st n =>
    if s.flag (Fld.ARR_STATUS_MAPPED n) then
      st.landOn n (fun src => match src with
        | .event e => some (s.eventBit e)
        | _ => none)
    else st) s

/-! ## Safe values -/

/-- The safe value of a page for a frond's outbound port bits, and for its sorus-lane sources (R103). -/
def State.safePort (s : State) (n pg f : Nat) : Word64 :=
  (s.reg (Reg.ARR_SAFE n pg (2 * f + 1))) ++ (s.reg (Reg.ARR_SAFE n pg (2 * f)))
def State.safeLane (s : State) (n pg f : Nat) : Word64 :=
  (s.reg (Reg.ARR_SAFE n pg (32 + 2 * f + 1))) ++ (s.reg (Reg.ARR_SAFE n pg (32 + 2 * f)))

/-- Outbound port bits and sorus-lane sources of a sorus take the safe values of the page in force (R53, R67, R89, R140). -/
def State.setSafe (s : State) (n : Nat) : State :=
  (List.range 16).foldl (fun s f =>
    { s with arr := { s.arr with
      outBits := Sparse.put 0 s.arr.outBits (n * 16 + f) (s.safePort n (s.page n) f),
      laneSrc := Sparse.put 0 s.arr.laneSrc (n * 16 + f) (s.safeLane n (s.page n) f) } }) s

/-! ## Windows (R103 to R108) -/

/-- The sorus of a window address, and the offset. -/
def winSorus (a : Nat) : Nat := (a - 0x0C000000) / 0x100000
def winOff (a : Nat) : Nat := (a - 0x0C000000) % 0x100000

/-- A write refused with ARR_BUSY (R70). -/
def State.arrBusy (s : State) (n : Nat) : State :=
  (s.raiseBit (Fld.ARR_STATUS_BUSY_REFUSED n) (2 * n + 1)).reply Code.arrBusy

/-- The configuration of a sorus changed outside a folio by an accepted write (R104), which MR4 measures (R423). -/
def State.modified (s : State) (n off : Nat) (v : Word32) : State :=
  let s1 := s.raiseBit (Fld.ARR_WIN_STAT_MODIFIED n) (2 * n + 1)
  s1.extendMr 4 (digest64 (bytesOfNat 1 n ++ bytesOfNat 4 off ++ bytesOf32 v ++ bytesOfNat 8 s.seq.turn))

/-- A write to a crossbar, port-map or safe-value word (R104). -/
def State.configWrite (s : State) (a : Nat) (v : Word32) : State :=
  let n := winSorus a
  if s.flag (Fld.ARR_STATUS_RUN n) then s.arrBusy n else ((s.setReg a v).modified n (winOff a) v).reply Code.ok

/-- A write to a data-memory or block-memory word (R105): the slots written are valid.  The upper word of a physical word
holds 4 bits (R103). -/
def State.memoryWrite (s : State) (a : Nat) (v : Word32) : State :=
  let n := winSorus a
  if s.flag (Fld.ARR_STATUS_RUN n) then s.arrBusy n
  else if winOff a < 0x18000 then ((s.setReg a v).setReg (a + 0x8000) 0xFFFFFFFF).reply Code.ok
  else (s.setReg a (if a % 8 = 4 then v &&& 0xF else v)).reply Code.ok

/-- The instruction word that ARR_IM_ADDR selects (R107). -/
def State.imSelected (s : State) (n : Nat) : Nat :=
  imemLoc n (s.fld (Fld.ARR_IM_ADDR_FROND n)) (s.fld (Fld.ARR_IM_ADDR_BP n)) (s.fld (Fld.ARR_IM_ADDR_WORD n))

/-- The staging word of a sorus (R108). -/
def State.stagingOf (s : State) (n : Nat) : BitVec 72 := Sparse.get 0 s.arr.staging n
def State.setStaging (s : State) (n : Nat) (v : BitVec 72) : State :=
  { s with arr := { s.arr with staging := Sparse.put 0 s.arr.staging n v } }

/-- WORD advances under AUTOINC, wrapping from 1,023 to 0 (R107). -/
def State.imAdvance (s : State) (n : Nat) : State :=
  if s.flag (Fld.ARR_IM_ADDR_AUTOINC n) then s.setFld (Fld.ARR_IM_ADDR_WORD n) (s.fld (Fld.ARR_IM_ADDR_WORD n) + 1) else s

/-- A read of ARR_IM_LO (R108). -/
def State.imLoRead (s : State) (n : Nat) : State :=
  let w := s.imemWord (s.imSelected n)
  (s.setStaging n w).reply Code.ok (w.setWidth 32)

/-- A read of ARR_IM_HI (R108). -/
def State.imHiRead (s : State) (n : Nat) : State :=
  (s.imAdvance n).reply Code.ok (BitVec.ofNat 32 ((s.stagingOf n).toNat / 2 ^ 32))

/-- A write of ARR_IM_LO (R108). -/
def State.imLoWrite (s : State) (n : Nat) (v : Word32) : State :=
  let w := s.stagingOf n
  (s.setStaging n (BitVec.ofNat 72 (w.toNat / 2 ^ 32 * 2 ^ 32 + v.toNat))).reply Code.ok

/-- A write of ARR_IM_HI (R104, R108): the staging word is committed with generated check bits. -/
def State.imHiWrite (s : State) (n : Nat) (v : Word32) : State :=
  let w := s.stagingOf n
  let data : Word64 := v ++ (w.setWidth 32 : Word32)
  let held := s.setStaging n (eccJoin data (BitVec.ofNat 8 (w.toNat / 2 ^ 64)))
  if s.flag (Fld.ARR_STATUS_RUN n) then held.arrBusy n
  else
    let full := eccJoin data (eccChk data)
    ((((held.setStaging n full).setImem (s.imSelected n) full).modified n 0x108 v).imAdvance n).reply Code.ok

/-- A write in the window of a sorus, the sequencer's registers apart (R71, R103 to R108). -/
def State.arrRegWrite (s : State) (a : Nat) (v : Word32) : State :=
  let n := winSorus a
  let o := winOff a
  if o = 0x104 then s.imLoWrite n v
  else if o = 0x108 then s.imHiWrite n v
  else if o = 0x08 ∧ bitOf v.toNat 4 then
    match recordAt a with
    | some r => (s.clearRecord r).storeReg a (v &&& ~~~ (Fld.ARR_FLT_CAUSE_VALID n).mask)
    | none => s.storeReg a v
  else if 0x1000 ≤ o ∧ o < 0x5200 then s.configWrite a v
  else if (0x10000 ≤ o ∧ o < 0x18000) ∨ (0x40000 ≤ o ∧ o < 0x80000) then s.memoryWrite a v
  else s.storeReg a v

/-- A read in the window of a sorus (R103, R106, R108). -/
def State.arrRegRead (s : State) (a : Nat) : State :=
  let n := winSorus a
  let o := winOff a
  if o = 0x104 then s.imLoRead n
  else if o = 0x108 then s.imHiRead n
  else if o = 0x10C then s.reply Code.ok (BitVec.ofNat 32 ((s.stagingOf n).toNat / 2 ^ 64))
  else if 0x1000 ≤ o ∧ o < 0x80000 ∧ ¬ (0x6000 ≤ o ∧ o < 0x6080) then s.reply Code.ok (s.reg a)
  else s.loadReg a

/-- ARR_IM_LO_READ (R108). -/
def execArrImLoRead (mid : Mid) (sorus : Fin 34) (s : State) : Result :=
  .next (s.gate mid (Reg.ARR_IM_LO sorus) none (fun s => s.imLoRead sorus))

/-- ARR_IM_HI_READ (R108). -/
def execArrImHiRead (mid : Mid) (sorus : Fin 34) (s : State) : Result :=
  .next (s.gate mid (Reg.ARR_IM_HI sorus) none (fun s => s.imHiRead sorus))

/-- ARR_IM_HI_WRITE (R108). -/
def execArrImHiWrite (mid : Mid) (sorus : Fin 34) (value : Word32) (s : State) : Result :=
  .next (s.gate mid (Reg.ARR_IM_HI sorus) (some value) (fun s => s.imHiWrite sorus value))

/-- CONFIG_WINDOW_WRITE (R104): word `word` of the configuration windows, from offset 0x1000 on. -/
def execConfigWindowWrite (mid : Mid) (sorus : Fin 34) (word : Fin 4224) (value : Word32) (s : State) : Result :=
  let a := 0x0C001000 + sorus.val * 0x100000 + word.val * 4
  .next (s.gate mid a (some value) (fun s => s.configWrite a value))

/-- The address of a data-memory or block-memory word (R103). -/
def memWordAddr (n : Nat) : MemWord → Nat
  | .slots w => 0x0C010000 + n * 0x100000 + w.val * 4
  | .block w => 0x0C040000 + n * 0x100000 + w.val * 4

/-- MEMORY_WINDOW_WRITE (R105): a data-memory word, or a block-memory word. -/
def execMemoryWindowWrite (mid : Mid) (sorus : Fin 34) (word : MemWord) (value : Word32) (s : State) : Result :=
  let a := memWordAddr sorus word
  .next (s.gate mid a (some value) (fun s => s.memoryWrite a value))

end Sys2Proof.Machine
end

