-- ==== Sys2Proof/Machine/LaneRates.lean ====
section
/-! DEFINITION.  The rates of the serial lanes: PLL settings and what a lane configuration permits (R219 to R222). -/

namespace Sys2Proof.Machine

/-! ## Rates -/

/-- The schedule is locked (SEQ_CFG.DISC, R117). -/
def State.lockedSchedule (s : State) : Bool := !s.flag Fld.SEQ_CFG_DISC

/-- The root clock's frequency in Hz, in holdover the last one; 0 before the RPLL locks (R22). -/
def State.rootHz (s : State) : Nat :=
  if s.flag Fld.CLK_STATUS_LOCK || s.flag Fld.CLK_STATUS_HOLDOVER then s.clock.fnom * s.fld Fld.CLK_RPLL_MULT else 0

/-- The first lane window of PLL `k` and how many windows it clocks (R217). -/
def lanesOfPll (k : Nat) : List Nat :=
  if k < 24 then (List.range 4).map (fun j => 4 * k + j)
  else match k with
    | 24 => [96, 97, 98, 99]
    | 25 => [100]
    | 26 => [101]
    | _ => [102]

/-- A lane is bound to the scheduled plane or to array port bits (R221). -/
def State.laneScheduled (s : State) (i : Nat) : Bool := s.flag (Fld.LN_LE_CFG_TO_ARR i) || s.fld (Fld.LN_LE_CFG_TX_SRC i) == 1

/-- The PLL of a quad in the locked schedule takes the root and frac 0 (R221). -/
def State.refForced (s : State) (k : Nat) : Bool :=
  decide (k < 24) && s.lockedSchedule && (lanesOfPll k).any (fun i => s.laneScheduled i)

/-- The VCO frequency in Hz that the device sets a PLL of its own to (R222). -/
def State.systemVco (s : State) (k : Nat) : Nat :=
  match k with
  | 24 => 13281250000
  | 25 => if s.fld (Fld.TU_TP_CFG_STD 0) = 1 then 10000000000 else 10312500000
  | 26 => if s.fld (Fld.TU_TP_CFG_STD 1) = 1 then 10000000000 else 10312500000
  | _ => 10312500000

/-- An exact setting n + frac/65,536 for a VCO frequency at a divider r (R222). -/
def exactAt (root vco r : Nat) : Bool :=
  decide (root ≤ 800000000 * r) && (vco * r * 65536) % root == 0 && decide (12 * root ≤ vco * r) && decide (vco * r < 192 * root)

/-- The r, n and frac that the device takes for a PLL of its own (R222). -/
def systemSetting (root vco : Nat) : Nat × Nat × Nat :=
  let rs := (List.range 64).map (fun i => i + 1)
  match rs.find? (fun r => exactAt root vco r) with
  | some r => (r, vco * r / root, vco * r * 65536 / root % 65536)
  | none =>
    match rs.find? (fun r => decide (root ≤ 800000000 * r)) with
    | some r =>
      let m := (2 * vco * r * 65536 + root) / (2 * root)
      (r, m / 65536, m % 65536)
    | none => (64, 0, 0)

/-- Reference frequency, r, n and frac in use at PLL `k` (R219, R221, R222). -/
def State.pllSetting (s : State) (k : Nat) : Nat × Nat × Nat × Nat :=
  if 24 ≤ k then (s.rootHz, systemSetting s.rootHz (s.systemVco k))
  else
    let forced := s.refForced k
    let ref := if s.flag (Fld.LN_PLL_REFSEL k) && !forced then Config.lrefHz (k / 2) else s.rootHz
    (ref, s.fld (Fld.LN_PLL_R_M1 k) + 1, s.fld (Fld.LN_PLL_N k), if forced then 0 else s.fld (Fld.LN_PLL_FRAC k))

/-- The VCO frequency of PLL `k` as a fraction of integers (R219). -/
def State.pllVco (s : State) (k : Nat) : Nat × Nat :=
  let p := s.pllSetting k
  (p.1 * (p.2.2.1 * 65536 + p.2.2.2), p.2.1 * 65536)

/-- The phase detector and the VCO lie in range (R219).
(DEDUCED, log 32.) -/
def State.pllInRange (s : State) (k : Nat) : Bool :=
  let p := s.pllSetting k
  let v := s.pllVco k
  decide (75000000 * p.2.1 ≤ p.1) && decide (p.1 ≤ 800000000 * p.2.1) && decide (12 ≤ p.2.2.1) && decide (p.2.2.1 ≤ 191) &&
    decide (9800000000 * v.2 ≤ v.1) && decide (v.1 ≤ 14100000000 * v.2)

/-- The PLL takes the root with frac 0 (R230). -/
def State.pllFixed (s : State) (k : Nat) : Bool :=
  (s.pllSetting k).2.2.2 == 0 && (decide (24 ≤ k) || s.refForced k || !s.flag (Fld.LN_PLL_REFSEL k))

/-- The divider code and modulation in use on a lane: mirror, timing-port and ring lanes have theirs from their blocks (R222,
R238); codes above 4 are reserved (R241). -/
def State.laneDivCode (s : State) (i : Nat) : Nat :=
  if i < 96 then s.fld (Fld.LN_CFG_DIV i) else if i < 100 then 0
  else if i < 102 then (if s.fld (Fld.TU_TP_CFG_STD (i - 100)) = 1 then 4 else 1) else 1
def State.lanePam4 (s : State) (i : Nat) : Bool :=
  if i < 96 then s.flag (Fld.LN_CFG_MOD i) else decide (i < 100)

/-- The symbol rate of a lane lies from `lo` to `hi`, in Bd (R220). -/
def State.symbolsWithin (s : State) (i lo hi : Nat) : Bool :=
  let v := s.pllVco (pllOfLane i)
  let d := v.2 * 2 ^ s.laneDivCode i
  decide (lo * d ≤ 2 * v.1) && decide (2 * v.1 ≤ hi * d)

/-- A lane configuration that the lane does not accept (R220, R233).  The rate is judged while the PLL's setting is in range.
(DEDUCED, log 32.) -/
def State.laneBad (s : State) (i : Nat) : Bool :=
  let rated := s.pllInRange (pllOfLane i)
  s.fld (Fld.LN_CFG_ADAPT i) == 3 || decide (4 < s.laneDivCode i) ||
  (if s.lanePam4 i then
      decide (1 < s.laneDivCode i) || (rated && !s.symbolsWithin i 12890625000 28125000000)
    else rated && !s.symbolsWithin i 1250000000 28125000000)

/-- A lane condition: the sticky bit and the lane's event (R228, R240). -/
def State.laneRaise (s : State) (f : Field) (i : Nat) : State := s.raiseBit f (laneEvent i)

/-- The line rate of a lane in Hz (R220). -/
def State.lineHz (s : State) (i : Nat) : Nat :=
  let v := s.pllVco (pllOfLane i)
  if v.2 = 0 then 0 else (if s.lanePam4 i then 4 else 2) * v.1 / (v.2 * 2 ^ s.laneDivCode i)

end Sys2Proof.Machine
end

