-- ==== Sys2Proof/Machine/AcqLanes.lean ====
section
/-! DEFINITION.  Lane descriptors of the acquisition engine and their admission (R284 to R288, R318). -/

namespace Sys2Proof.Machine

/-- The sample width of a W code; 0 for a reserved code (R284). -/
def sampleWidth (w : Nat) : Nat := match w with | 0 => 8 | 1 => 10 | 2 => 12 | 3 => 14 | 4 => 16 | _ => 0

/-- CYCLE of a lane (R286, R318). -/
def State.acqCycle (s : State) (i : Nat) : Nat := s.fld (Fld.ACQ_LN_MAP_CYCLE_M1 i) + 1

/-- Ring size S in words (R297). -/
def State.acqRing (s : State) (i : Nat) : Nat := 2 ^ (12 + s.fld (Fld.ACQ_LN_RING_SIZE i))

/-- The byte address of a lane's ring (R297). -/
def State.acqRingBase (s : State) (i : Nat) : Nat :=
  (s.fld (Fld.HBM_RGN_BASE_BASE (s.fld (Fld.ACQ_LN_RING_REGION i))) + s.fld (Fld.ACQ_LN_RING_BASE i)) * 65536

/-- The contexts of two lanes overlap (R285, R288). -/
def State.ctxOverlap (s : State) (i j : Nat) : Bool :=
  let b := fun k => s.fld (Fld.ACQ_LN_CFG_BANK k)
  let w := fun k => s.fld (Fld.ACQ_LN_CFG_SPW k)
  let o := fun k => s.fld (Fld.ACQ_LN_MAP_OFFSET k)
  decide (b i < b j + w j) && decide (b j < b i + w i) && decide (o i < o j + s.acqCycle j) && decide (o j < o i + s.acqCycle i)

/-- The admitted lanes. -/
def State.admitted (s : State) (i : Nat) : Bool := s.flag (Fld.ACQ_LN_STAT_ADMITTED i)

/-- The lanes that count beside lane `i`: the other admitted ones. -/
def State.othersAdmitted (s : State) (i : Nat) : List Nat := (List.range 96).filter (fun j => j != i && s.admitted j)

/-- The sum of the line rates of some lanes, in Hz. -/
def State.rateSum (s : State) (l : List Nat) : Nat := l.foldl (fun a j => a + s.lineHz j) 0

/-- A range of bytes lies in a region of a MID (R288, R294). -/
def State.regionHolds (s : State) (r : Nat) (mid off len : Nat) : Bool :=
  s.flag (Fld.HBM_RGN_OWN_EN r) && s.fld (Fld.HBM_RGN_OWN_OWNER r) == mid &&
    decide (off + len ≤ s.fld (Fld.HBM_RGN_SIZE_SIZE r) * 65536)

/-- A descriptor that the engine refuses (R288). -/
def State.acqLaneBad (s : State) (i : Nat) : Bool :=
  let spw := s.fld (Fld.ACQ_LN_CFG_SPW i)
  let w := sampleWidth (s.fld (Fld.ACQ_LN_CFG_W i))
  let bank := s.fld (Fld.ACQ_LN_CFG_BANK i)
  let arch := s.flag (Fld.ACQ_LN_CFG_ARCH i)
  let others := s.othersAdmitted i
  let format := decide (8 < spw) || w == 0 || decide (64 < spw * w) || decide (19 < s.fld (Fld.ACQ_LN_RING_SIZE i))
  let layout := spw != 0 &&
    (decide (4096 < s.fld (Fld.ACQ_LN_MAP_OFFSET i) + s.acqCycle i) || bank / 32 != i / 48 || (bank + spw - 1) / 32 != i / 48)
  let overlap := others.any (fun j => s.ctxOverlap i j)
  let bankRate := (List.range spw).any (fun k =>
    decide (102400000000 < s.lineHz i + s.rateSum (others.filter (fun j =>
      decide (s.fld (Fld.ACQ_LN_CFG_BANK j) ≤ bank + k ∧ bank + k < s.fld (Fld.ACQ_LN_CFG_BANK j) + s.fld (Fld.ACQ_LN_CFG_SPW j))))))
  let capture := arch &&
    decide (1600000000000 < s.lineHz i + s.rateSum (others.filter (fun j => s.flag (Fld.ACQ_LN_CFG_ARCH j))))
  let ring := arch && !s.regionHolds (s.fld (Fld.ACQ_LN_RING_REGION i)) 0x12 (s.fld (Fld.ACQ_LN_RING_BASE i) * 65536)
    (s.acqRing i * 9 / 8)
  format || layout || overlap || bankRate || capture || ring

/-- The check of a descriptor (R288): admitted, or refused with ACQ_CFG and EV352.
(DEDUCED, log 107.) -/
def State.acqCheck (s : State) (i : Nat) : State :=
  if s.acqLaneBad i then
    ((((s.setFlag (Fld.ACQ_LN_STAT_ADMITTED i) false).setFld (Fld.ACQ_LN_STAT_CODE i) Code.acqCfg.toNat).setFlag
      (Fld.ACQ_LN_STAT_REFUSED i) true).raiseBit Fld.ACQ_STATUS_CFG_REFUSED 352).reply Code.acqCfg
  else (s.setFlag (Fld.ACQ_LN_STAT_ADMITTED i) true).reply Code.ok

/-- The check again when LN_CFG or LN_PLL of the lane changes (R288), of a descriptor that has been written. -/
def State.acqRecheck (s : State) (i : Nat) : State :=
  if decide (i < 96) && (s.admitted i || s.reg (Reg.ACQ_LN_CFG i) != 0 || s.reg (Reg.ACQ_LN_MAP i) != 0 ||
      s.reg (Reg.ACQ_LN_RING i) != 0) then s.acqCheck i else s

/-- A write of ACQ_LN_CFG, ACQ_LN_MAP or ACQ_LN_RING (register 0, 1 or 2): a change of an admitted lane's bank to one of
another owner is refused with CONFLICT (R288). -/
def State.acqLaneWrite (s : State) (mid : Mid) (i r : Nat) (v : Word32) : State :=
  let a := Reg.ACQ_LN_CFG i + 4 * r
  let bank := (Fld.ACQ_LN_CFG_BANK i).get v
  if r = 0 ∧ mid ≠ 0x10 ∧ s.admitted i ∧ bank ≠ s.fld (Fld.ACQ_LN_CFG_BANK i) ∧ s.mayAssign mid 0x09 bank = false then s.claimRefuse
  else (s.storeReg a v).acqCheck i

/-- LANE_DESCRIPTOR_WRITE (R288). -/
def execLaneDescriptorWrite (mid : Mid) (lane : Fin 96) (word : Fin 3) (value : Word32) (s : State) : Result :=
  .next (s.gate mid (Reg.ACQ_LN_CFG lane + 4 * word.val) (some value) (fun s => s.acqLaneWrite mid lane word value))

end Sys2Proof.Machine
end

