-- ==== Sys2Proof/Machine/Lanes.lean ====
section
/-! DEFINITION.  The serial lanes (R223 to R243): bring-up and restarts, transmit taps, latency and phase, eye scan and test
patterns. -/

namespace Sys2Proof.Machine

/-! ## Bring-up -/

/-- The register window of a lane answers: its domain is on; the ring lane's receiver lies in PDAON (R217). -/
def State.laneOn (s : State) (i : Nat) : Bool :=
  i == 102 || (match domainOfAddr (Reg.LN_CFG i) with
    | some d => s.domOn d
    | none => true)

/-- A lane is enabled and its configuration is accepted: its receiver runs. -/
def State.laneRuns (s : State) (i : Nat) : Bool := s.laneOn i && s.flag (Fld.LN_CFG_EN i) && !s.laneBad i

/-- A running eye scan is aborted (R235). -/
def State.abortScan (s : State) (i : Nat) : State :=
  if Sparse.get false s.lane.scan i then
    ({ s with lane := { s.lane with scan := Sparse.put false s.lane.scan i false } } : State).setFlag (Fld.LN_ES_STAT_ABORTED i) true
  else s

/-- The lane returns to the CDR row of R227.
(DEDUCED, log 34.) -/
def State.restartCdr (s : State) (i : Nat) : State :=
  ((((s.abortScan i).setFlag (Fld.LN_STAT_CDR_LOCK i) false).setFlag (Fld.LN_STAT_ADAPT_DONE i) false).setFlag
    (Fld.LN_STAT_READY i) false).setFlag (Fld.LN_STAT_PRBS_LOCK i) false

/-- The lane returns to the SIGDET row of R227.
(DEDUCED, log 34.) -/
def State.restartSig (s : State) (i : Nat) : State := (s.restartCdr i).setFlag (Fld.LN_STAT_SIGDET i) false

/-- The lane returns to the first row of R227.
(DEDUCED, log 34.) -/
def State.restartLane (s : State) (i : Nat) : State :=
  (s.restartCdr i).setFlag (Fld.LN_STAT_PLL_OK i) (s.flag (Fld.LN_PLL_STAT_LOCK (pllOfLane i)))

/-- A PLL runs: EN, or a lane of it is enabled (R242). -/
def State.pllRuns (s : State) (k : Nat) : Bool :=
  (decide (k < 24) && s.flag (Fld.LN_PLL_EN k)) || (lanesOfPll k).any (fun i => s.flag (Fld.LN_CFG_EN i))

/-- A running PLL out of range stays unlocked, and its lanes report it (R219). -/
def State.checkPll (s : State) (k : Nat) : State :=
  if s.pllRuns k && !s.pllInRange k then
    (lanesOfPll k).foldl (fun s i => (s.setFlag (Fld.LN_STAT_PLL_OK i) false).laneRaise (Fld.LN_STAT_PLL_LOST i) i)
      ((s.setFlag (Fld.LN_PLL_STAT_LOCK k) false).setFlag (Fld.LN_PLL_STAT_RANGE k) true)
  else s

/-- A configuration outside the limits: receiver off, CFG_BAD and the lane's event (R220).
(DEDUCED, log 32.) -/
def State.checkLane (s : State) (i : Nat) : State :=
  if s.laneBad i then (s.restartSig i).laneRaise (Fld.LN_STAT_CFG_BAD i) i else s

/-- The values of DIV, MOD and LPBK that the mirror and ring lanes show (R238).
(DEDUCED, log 30.) -/
def fixedLaneCfg (i : Nat) (v : Word32) : Word32 :=
  if 96 ≤ i ∧ i < 100 then (v &&& ~~~ (0x61E : Word32)) ||| 0x002
  else if i = 102 then (v &&& ~~~ (0x61E : Word32)) ||| 0x004
  else v

/-- A DFE tap value clipped to −64 … +63 (R241). -/
def dfeClip (w : Word32) : Word32 :=
  let tap := fun k =>
    let x := signedOf 8 (w.toNat >>> (8 * k))
    natOfInt 8 (if x < -64 then -64 else if 63 < x then 63 else x)
  BitVec.ofNat 32 (tap 0 + tap 1 * 2 ^ 8 + tap 2 * 2 ^ 16 + tap 3 * 2 ^ 24)

/-- Equaliser values as written come into use (ADAPT FIXED, R233). -/
def State.eqFixed (s : State) (i : Nat) : State :=
  (List.range 3).foldl (fun s x => s.setReg (Reg.LN_DFE_ST i x) (dfeClip (s.reg (Reg.LN_DFE_SET i x))))
    (s.setReg (Reg.LN_RXEQ_ST i) (s.reg (Reg.LN_RXEQ i) &&& 0x3FF))

/-- Adapted values come into use: free values, the DFE taps within their range (R233). -/
def State.eqAdapted (s : State) (i : Nat) : State :=
  let e := s.takeFree
  let s1 := e.2.setReg (Reg.LN_RXEQ_ST i) (BitVec.ofNat 32 (e.1.toNat % 1024))
  (List.range 3).foldl (fun s x =>
    let d := s.takeFree
    d.2.setReg (Reg.LN_DFE_ST i x) (dfeClip (d.1.setWidth 32))) s1

/-- Adaptation is complete: the values in use, ADAPT_DONE and READY (R227). -/
def State.adapted (s : State) (i : Nat) : State :=
  let s1 := if s.fld (Fld.LN_CFG_ADAPT i) = 2 then s.eqFixed i else s.eqAdapted i
  (s1.setFlag (Fld.LN_STAT_ADAPT_DONE i) true).setFlag (Fld.LN_STAT_READY i) true

/-- A write of LN_CFG (R220, R227, R235, R238). -/
def State.lnCfgStore (s : State) (i : Nat) (v : Word32) : State :=
  let old := s.reg (Reg.LN_CFG i)
  let new := fixedLaneCfg i (v &&& 0x3FFF)
  let s1 := (s.abortScan i).setReg (Reg.LN_CFG i) new
  let on := bitOf new.toNat 0
  let was := bitOf old.toNat 0
  let s2 :=
    if !on then (if was then (s1.restartSig i).setFlag (Fld.LN_STAT_PLL_OK i) false else s1)
    else if !was then (s1.restartLane i).checkPll (pllOfLane i)
    else if (old ^^^ new) &&& 0x61E ≠ 0 then s1.restartCdr i
    else s1
  let s3 := (s2.checkLane i).acqRecheck i
  if s3.laneRuns i && s3.flag (Fld.LN_STAT_CDR_LOCK i) && s3.fld (Fld.LN_CFG_ADAPT i) == 2 then s3.adapted i else s3

/-- A write to a lane register of a lane that the image owns is an assigning write (R238, R278). -/
def State.laneAssign (s : State) (mid : Mid) (i : Nat) (f : State → State) : State :=
  let r := if i < 96 then some (0x04, i) else if i = 100 ∨ i = 101 then some (0x0C, i - 100) else none
  match r with
  | some (cls, idx) => if mid ≠ 0x10 ∧ s.imageOwner cls idx ≠ 0 then s.assign mid cls idx f else f s
  | none => f s

/-- LN_CFG_WRITE as a register write. -/
def State.lnCfgWrite (s : State) (mid : Mid) (i : Nat) (v : Word32) : State :=
  s.laneAssign mid i (fun s => (s.lnCfgStore i v).reply Code.ok)

/-- A write of LN_TXFIR: the taps come into use unless they sum above 63 (R232). -/
def State.lnTxfirStore (s : State) (i : Nat) (v : Word32) : State :=
  let s1 := s.setReg (Reg.LN_TXFIR i) (v &&& 0x1FFFFF)
  let sum := s1.fld (Fld.LN_TXFIR_PRE2 i) + s1.fld (Fld.LN_TXFIR_PRE1 i) + s1.fld (Fld.LN_TXFIR_MAIN i) +
    s1.fld (Fld.LN_TXFIR_POST1 i) + s1.fld (Fld.LN_TXFIR_POST2 i)
  if 63 < sum then s1.laneRaise (Fld.LN_STAT_FIR_BAD i) i
  else { s1 with lane := { s1.lane with taps := Sparse.put 0x1F80 s1.lane.taps i (v &&& 0x1FFFFF) } }

/-- LN_TXFIR_WRITE as a register write. -/
def State.lnTxfirWrite (s : State) (mid : Mid) (i : Nat) (v : Word32) : State :=
  s.laneAssign mid i (fun s => (s.lnTxfirStore i v).reply Code.ok)

/-- A write of LN_PLL: every lane of the PLL restarts (R219, R227). -/
def State.lnPllStore (s : State) (k : Nat) (v : Word32) : State :=
  if 24 ≤ k then s
  else if s.reg (Reg.LN_PLL k) = v then s
  else
    let s1 := (s.setReg (Reg.LN_PLL k) v).setFlag (Fld.LN_PLL_STAT_LOCK k) false
    let s2 := (lanesOfPll k).foldl (fun s i => (s.restartLane i).checkLane i) s1
    (lanesOfPll k).foldl (fun s i => s.acqRecheck i) (s2.checkPll k)

/-- A write of LN_PLL of a quad: PLLs 24 to 27 ignore it (R222); of a quad the image owns it is an assigning write (R238). -/
def State.lnPllWrite (s : State) (mid : Mid) (k : Nat) (v : Word32) : State :=
  let f : State → State := fun s => (s.lnPllStore k v).reply Code.ok
  if k < 24 ∧ mid ≠ 0x10 ∧ s.imageOwner 0x05 k ≠ 0 then s.assign mid 0x05 k f else f s

/-- A write of LN_ES_CTRL (R234, R235): START begins a scan, is ignored while one runs, or aborts at once. -/
def State.lnEsCtrlWrite (s : State) (i : Nat) (v : Word32) : State :=
  let s1 := s.setReg (Reg.LN_ES_CTRL i) (v &&& 0x1FFFFC)
  if !bitOf v.toNat 0 || Sparse.get false s1.lane.scan i then s1.reply Code.ok
  else
    let eye := s1.fld (Fld.LN_ES_CTRL_EYE i)
    if eye = 3 ∨ (eye ≠ 0 ∧ s1.lanePam4 i = false) then (s1.setFlag (Fld.LN_ES_STAT_ABORTED i) true).reply Code.ok
    else
      ((({ s1 with lane := { s1.lane with scan := Sparse.put false s1.lane.scan i true } } : State).setReg
        (Reg.LN_ES_ERR i) 0)).reply Code.ok

/-! ## Latency and phase -/

/-- The receive and transmit latencies in steps by divider code and level (R230). -/
def laneLatency (div level : Nat) : Nat × Nat :=
  let row : List (Nat × Nat) := match div with
    | 0 => [(8, 7), (7, 6), (6, 5), (4, 4)]
    | 1 => [(9, 8), (8, 7), (6, 6), (5, 4)]
    | 2 => [(10, 9), (8, 8), (7, 6), (5, 5)]
    | 3 => [(12, 11), (10, 9), (8, 8), (6, 6)]
    | _ => [(20, 18), (16, 15), (14, 12), (10, 9)]
  row.getD level (0, 0)

/-- The latency of a lane is fixed (R230).
(DEDUCED, log 31.) -/
def State.laneFixed (s : State) (i : Nat) : Bool :=
  s.flag (Fld.LN_STAT_CDR_LOCK i) && s.pllFixed (pllOfLane i) && !Sparse.get false s.lane.slipped i

/-- LN_LAT as it reads (R230). -/
def State.lnLat (s : State) (i : Nat) : Word32 :=
  if s.laneFixed i then
    let l := laneLatency (s.laneDivCode i) (s.fld Fld.PWR_STATUS_LEVEL)
    BitVec.ofNat 32 (2 ^ 16 + l.2 * 2 ^ 8 + l.1)
  else 0

/-- A read of LN_PHASE: the measured phase and fill are free values within their ranges (R231). -/
def State.lnPhaseRead (s : State) (i : Nat) : State :=
  if s.laneFixed i then
    let f := s.takeFree
    f.2.reply Code.ok (BitVec.ofNat 32 (2 ^ 31 + (f.1.toNat / 32 % 9) * 2 ^ 5 + f.1.toNat % 32))
  else s.reply Code.ok

/-! ## Registers -/

/-- A write in a lane window's physical-layer part (R241). -/
def State.lnPhyWrite (s : State) (mid : Mid) (i o : Nat) (a : Nat) (v : Word32) : State :=
  if o = 0x00 then s.lnCfgWrite mid i v
  else if o = 0x08 then s.lnTxfirWrite mid i v
  else if o = 0x0C ∨ (0x20 ≤ o ∧ o < 0x2C) then
    s.laneAssign mid i (fun s =>
      let s1 := s.storeReg a v
      if s1.fld (Fld.LN_CFG_ADAPT i) = 2 ∧ s1.flag (Fld.LN_STAT_ADAPT_DONE i) then (s1.eqFixed i).reply Code.ok else s1)
  else if o = 0x50 then s.lnEsCtrlWrite i v
  else if o = 0x60 then
    s.laneAssign mid i (fun s =>
      let s1 := s.storeReg a v
      let p := s1.fld (Fld.LN_PRBS_CTRL_RX_PAT i)
      if p = 0 ∨ 5 < p then s1.setFlag (Fld.LN_STAT_PRBS_LOCK i) false else s1)
  else s.storeReg a v

/-- A read in a lane window's physical-layer part (R233, R241). -/
def State.lnPhyRead (s : State) (i o : Nat) (a : Nat) : State :=
  if o = 0x00 then s.reply Code.ok (fixedLaneCfg i (s.reg a))
  else if o = 0x40 then s.reply Code.ok (s.lnLat i)
  else if o = 0x44 then s.lnPhaseRead i
  else if (o = 0x10 ∨ (0x30 ≤ o ∧ o < 0x3C)) ∧ s.fld (Fld.LN_CFG_ADAPT i) = 0 ∧ s.flag (Fld.LN_STAT_ADAPT_DONE i) then
    (s.eqAdapted i).loadReg a
  else s.loadReg a

/-- A read in a PLL window: REF_FORCED as it stands (R221, R242). -/
def State.lnPllRead (s : State) (k a : Nat) : State :=
  if a = Reg.LN_PLL_STAT k then s.reply Code.ok ((Fld.LN_PLL_STAT_REF_FORCED k).put (s.reg a) (if s.refForced k then 1 else 0))
  else s.loadReg a

/-! ## Commands -/

/-- LN_CFG_WRITE (R227). -/
def execLnCfgWrite (mid : Mid) (lane : Fin 103) (value : Word32) (s : State) : Result :=
  .next (s.gate mid (Reg.LN_CFG lane) (some value) (fun s => s.lnCfgWrite mid lane value))

/-- LN_PLL_WRITE (R219). -/
def execLnPllWrite (mid : Mid) (pll : Fin 28) (value : Word32) (s : State) : Result :=
  .next (s.gate mid (Reg.LN_PLL pll) (some value) (fun s => s.lnPllWrite mid pll value))

/-- LN_TXFIR_WRITE (R232). -/
def execLnTxfirWrite (mid : Mid) (lane : Fin 103) (value : Word32) (s : State) : Result :=
  .next (s.gate mid (Reg.LN_TXFIR lane) (some value) (fun s => s.lnTxfirWrite mid lane value))

/-- PLL_LOCK (R227): a running PLL in range locks, and its enabled lanes report PLL_OK. -/
def execPllLock (pll : Fin 28) (s : State) : Result :=
  .next (if s.pllRuns pll && s.pllInRange pll then
    (lanesOfPll pll).foldl (fun s i => if s.laneRuns i then s.setFlag (Fld.LN_STAT_PLL_OK i) true else s)
      (s.setFlag (Fld.LN_PLL_STAT_LOCK pll) true)
   else s)

/-- SIGDET (R227). -/
def execSigdet (lane : Fin 103) (s : State) : Result :=
  .next (if s.laneRuns lane then s.setFlag (Fld.LN_STAT_SIGDET lane) true else s)

/-- CDR_LOCK (R227, R229): the receive buffer is centred; under ADAPT FIXED the lane is ready at once. -/
def execCdrLock (lane : Fin 103) (s : State) : Result :=
  .next (if s.laneRuns lane && s.flag (Fld.LN_STAT_PLL_OK lane) && s.flag (Fld.LN_STAT_SIGDET lane) then
    let s1 : State := { s with lane := { s.lane with slipped := Sparse.put false s.lane.slipped lane false } }
    let s2 := s1.setFlag (Fld.LN_STAT_CDR_LOCK lane) true
    if s2.fld (Fld.LN_CFG_ADAPT lane) = 2 then s2.adapted lane else s2
   else s)

/-- ADAPT_DONE (R227). -/
def execAdaptDone (lane : Fin 103) (s : State) : Result :=
  .next (if s.laneRuns lane && s.flag (Fld.LN_STAT_CDR_LOCK lane) then s.adapted lane else s)

/-- LOS (R228). -/
def execLos (lane : Fin 103) (s : State) : Result :=
  .next (if s.laneRuns lane then (s.restartSig lane).laneRaise (Fld.LN_STAT_LOS lane) lane else s)

/-- LOL (R228). -/
def execLol (lane : Fin 103) (s : State) : Result :=
  .next (if s.laneRuns lane then (s.restartCdr lane).laneRaise (Fld.LN_STAT_LOL lane) lane else s)

/-- PLL_LOST (R228): the PLL loses lock, and every enabled lane on it reports it. -/
def execPllLost (pll : Fin 28) (s : State) : Result :=
  .next ((lanesOfPll pll).foldl (fun s i =>
    if s.laneRuns i then (s.restartLane i).laneRaise (Fld.LN_STAT_PLL_LOST i) i else s)
    (s.setFlag (Fld.LN_PLL_STAT_LOCK pll) false))

/-- SLIP (R229): the receive buffer is centred again, which moves the latency by whole UI.
(DEDUCED, log 31.) -/
def execSlip (lane : Fin 103) (s : State) : Result :=
  .next (if s.laneRuns lane && s.flag (Fld.LN_STAT_CDR_LOCK lane) then
    (({ s with lane := { s.lane with slipped := Sparse.put false s.lane.slipped lane true } } : State).abortScan lane).laneRaise
      (Fld.LN_STAT_SLIP lane) lane
   else s)

/-- FE_SLIP (R236): the far-end loopback buffer is centred again. -/
def execFeSlip (lane : Fin 103) (s : State) : Result :=
  .next (if s.laneRuns lane && s.fld (Fld.LN_CFG_LPBK lane) == 3 && decide (lane.val < 96) then
    s.laneRaise (Fld.LN_STAT_FE_SLIP lane) lane else s)

/-- EYE_SCAN_START (R234): a write of LN_ES_CTRL with START 1. -/
def execEyeScanStart (mid : Mid) (lane : Fin 103) (value : Word32) (s : State) : Result :=
  .next (s.gate mid (Reg.LN_ES_CTRL lane) (some (value ||| 1)) (fun s => s.lnEsCtrlWrite lane (value ||| 1)))

/-- EYE_SCAN_DONE (R235): the count of the mismatches found. -/
def execEyeScanDone (lane : Fin 103) (errors : Word32) (s : State) : Result :=
  .next (if Sparse.get false s.lane.scan lane then
    (({ s with lane := { s.lane with scan := Sparse.put false s.lane.scan lane false } } : State).setReg (Reg.LN_ES_ERR lane)
      errors).setFlag (Fld.LN_ES_STAT_DONE lane) true
   else s)

/-- PRBS_LOCK (R237): 64 bits without error.
(DESIGN CHOICE, log 46.) -/
def execPrbsLock (lane : Fin 103) (s : State) : Result :=
  .next (if s.laneRuns lane && s.flag (Fld.LN_STAT_READY lane) && s.fld (Fld.LN_PRBS_CTRL_RX_PAT lane) != 0 &&
      decide (s.fld (Fld.LN_PRBS_CTRL_RX_PAT lane) < 6) then
    s.setFlag (Fld.LN_STAT_PRBS_LOCK lane) true else s)

end Sys2Proof.Machine
end

