-- ==== Sys2Proof/Machine/Links.lean ====
section
/-! DEFINITION.  The link engines (R244 to R280): configuration, link state, delivery and release of received words, the Quire
link's frames in both modes, raw words and the Ethernet subset. -/

namespace Sys2Proof.Machine

/-! ## Engines and groups -/

/-- The link engine of lane `i`. -/
def State.engOf (s : State) (i : Nat) : LinkEng := Sparse.get LinkEng.reset s.eng i

/-- A link engine set. -/
def State.setEng (s : State) (i : Nat) (e : LinkEng) : State := { s with eng := Sparse.put LinkEng.reset s.eng i e }

/-- The protocol of a lane is a Quire link (R244). -/
def State.quire (s : State) (i : Nat) : Bool := s.fld (Fld.LN_LE_CFG_MODE i) == 1 || s.fld (Fld.LN_LE_CFG_MODE i) == 2

/-- The protocol is the reliable Quire link. -/
def State.reliable (s : State) (i : Nat) : Bool := s.fld (Fld.LN_LE_CFG_MODE i) == 2

/-- The protocol is an Ethernet mode. -/
def State.ethernet (s : State) (i : Nat) : Bool :=
  decide (5 ≤ s.fld (Fld.LN_LE_CFG_MODE i)) && decide (s.fld (Fld.LN_LE_CFG_MODE i) ≤ 8)

/-- The size of the group a lane's registers name (R246). -/
def State.groupSize (s : State) (i : Nat) : Nat := if s.quire i then 2 ^ s.fld (Fld.LN_LE_CFG_GROUP i) else 1

/-- The base lane of a lane's group. -/
def State.baseOf (s : State) (i : Nat) : Nat := i / s.groupSize i * s.groupSize i

/-- The lanes of the group whose base lane is `b`. -/
def State.members (s : State) (b : Nat) : List Nat := (List.range (s.groupSize b)).map (fun m => b + m)

/-- The line rate of a lane lies from `lo` to `hi`, in Hz (R244). -/
def State.lineWithin (s : State) (i lo hi : Nat) : Bool :=
  if s.lanePam4 i then s.symbolsWithin i (lo / 2) (hi / 2) else s.symbolsWithin i lo hi

/-- The rate is within 100 ppm of a nominal one (R244). -/
def State.lineNear (s : State) (i rate : Nat) : Bool := s.lineWithin i (rate - rate / 10000) (rate + rate / 10000)

/-- The mode is not allowed on this lane, modulation or rate (R244). -/
def State.modeBad (s : State) (i : Nat) : Bool :=
  let data := decide (i < 96)
  let port := i == 100 || i == 101
  let pam := s.lanePam4 i
  match s.fld (Fld.LN_LE_CFG_MODE i) with
  | 0 => false
  | 1 => !data || !(if pam then s.lineWithin i 25781250000 56250000000 else s.lineWithin i 1250000000 28125000000)
  | 2 => !data || !(if pam then s.lineWithin i 25781250000 56250000000 else s.lineWithin i 1250000000 28125000000)
  | 3 => !data || pam || !s.lineWithin i 1250000000 10000000000
  | 4 => !data || !(if pam then s.lineWithin i 25781250000 56250000000 else s.lineWithin i 1250000000 28125000000)
  | 5 => !(data || port) || pam || !s.lineNear i 10312500000
  | 6 => !data || pam || !s.lineNear i 25781250000
  | 7 => !data || !pam || !s.lineNear i 53125000000
  | 8 => !port || pam || !s.lineNear i 1250000000
  | _ => true

/-- FEC is set where the mode does not take it (R253, R268, R271). -/
def State.fecBad (s : State) (i : Nat) : Bool :=
  s.flag (Fld.LN_LE_CFG_FEC i) &&
  (match s.fld (Fld.LN_LE_CFG_MODE i) with
   | 1 => !s.lanePam4 i
   | 2 => !s.lanePam4 i
   | 6 => false
   | 7 => false
   | _ => true)

/-- The quads whose engines the scheduled plane does not reach (R247). -/
def sharedQuad (q : Nat) : Bool := (decide (2 ≤ q) && decide (q ≤ 5)) || (decide (14 ≤ q) && decide (q ≤ 17))

/-- A lane's own configuration is one the engine refuses (R245 to R247).  An engine that is off is not checked.
(DEDUCED, log 35.) -/
def State.engineSelfBad (s : State) (i : Nat) : Bool :=
  let mode := s.fld (Fld.LN_LE_CFG_MODE i)
  let src := s.fld (Fld.LN_LE_CFG_TX_SRC i)
  let ft := s.fld (Fld.LN_LE_CFG_TX_FTYPE i)
  mode != 0 &&
  (s.modeBad i || s.fecBad i || s.fld (Fld.LN_LE_CFG_GROUP i) == 3 ||
   (!s.quire i && s.fld (Fld.LN_LE_CFG_GROUP i) != 0) || src == 3 || decide (3 < ft) || (s.quire i && src == 1 && ft == 0) ||
   (s.lockedSchedule && (s.flag (Fld.LN_LE_CFG_TO_ARR i) || src == 1) && !(mode == 1 || mode == 3 || mode == 4)) ||
   (src == 1 && sharedQuad (i / 4)))

/-- The engine of a lane is refused: its own configuration, or the group's (R245, R246). -/
def State.engineBad (s : State) (i : Nat) : Bool :=
  s.engineSelfBad i ||
  (s.quire i && (s.members (s.baseOf i)).any (fun j =>
    s.engineSelfBad j || s.fld (Fld.LN_LE_CFG_MODE j) != s.fld (Fld.LN_LE_CFG_MODE (s.baseOf i)) ||
      s.fld (Fld.LN_LE_CFG_GROUP j) != s.fld (Fld.LN_LE_CFG_GROUP (s.baseOf i))))

/-- A condition of a link engine: the sticky bit and the engine's event (R278). -/
def State.linkRaise (s : State) (f : Field) (i : Nat) : State := s.raiseBit f (linkEvent i)

/-- The link of a group is up. -/
def State.linkUp (s : State) (b : Nat) : Bool := s.flag (Fld.LN_LE_STAT_UP b)

/-! ## Link state -/

/-- What a fall of UP discards in an engine (R252, R261, R265); the flag of the output register clears in the next step.
(DEDUCED, log 37.) -/
def LinkEng.fallen (e : LinkEng) : LinkEng :=
  { e with waiting := [], plan := [], rxNext := none, maxLat := 0, replay := [], retries := 0, rxSeq := 0, refused := false,
           freed := 0, fell := true }

/-- UP falls (R252). -/
def State.linkDown (s : State) (b : Nat) : State :=
  if s.linkUp b then
    let s1 := (s.members b).foldl (fun s i => s.setEng i { (s.engOf i).fallen with blockLock := false }) s
    let s2 := ((((s1.setFlag (Fld.LN_LE_STAT_UP b) false).setFlag (Fld.LN_LE_STAT_ALIGNED b) false).setFlag
      (Fld.LN_LE_XLAT_VALID b) false).setFlag (Fld.LN_LE_STAT_RETRYING b) false).setReg (Reg.QL_REL_STAT b) 0
    (s2.linkRaise (Fld.LN_LE_STAT_DOWN b) b).when (b == 96) State.mirrorDown
  else s

/-- UP rises: sequence numbers and credits start, and the measurement begins with the next turn (R261, R262, R264). -/
def State.linkRise (s : State) (b : Nat) : State :=
  let e := s.engOf b
  let s1 := s.setEng b { e with rxNext := none, alignFrom := s.seq.turn + 1, maxLat := 0, replay := [], retries := 0, rxSeq := 0,
                                refused := false, freed := 0, fell := false }
  let s2 := if s1.reliable b then (s1.setReg (Reg.QL_REL_STAT b) 0).setFld (Fld.QL_REL_STAT_CREDIT b) 2048 else s1
  let s3 := s2.setFlag (Fld.LN_LE_STAT_UP b) true
  if b = 96 then s3.emit s3.pairFrame else s3

/-- A refused configuration leaves the engine off (R245). -/
def State.checkEngine (s : State) (i : Nat) : State :=
  if s.engineBad i then (s.linkDown (s.baseOf i)).linkRaise (Fld.LN_LE_STAT_CFG_BAD i) i else s

/-- A write of LN_LE_CFG (R244 to R247): a change of protocol, group or FEC takes the link down.  The MODE of a timing port is
the time unit's (R359). -/
def State.lnLeCfgStore (s : State) (i : Nat) (v : Word32) : State :=
  let old := s.reg (Reg.LN_LE_CFG i)
  let new := if i = 100 ∨ i = 101 then (v &&& 0xFFF0) ||| (old &&& 0xF) else v &&& 0xFFFF
  let s1 := if (old ^^^ new) &&& 0x7F ≠ 0 then s.linkDown (s.baseOf i) else s
  (s1.setReg (Reg.LN_LE_CFG i) new).checkEngine i

/-- LN_LE_CFG_WRITE as a register write (R278); of the mirror port's windows the twin unit's alone (R535). -/
def State.lnLeCfgWrite (s : State) (mid : Mid) (i : Nat) (v : Word32) : State :=
  if 96 ≤ i ∧ i < 100 then s.reply Code.ok else s.laneAssign mid i (fun s => (s.lnLeCfgStore i v).reply Code.ok)

/-! ## Positions in the schedule -/

/-- The turn length in steps (R112). -/
def State.turnLen (s : State) : Nat := s.fld Fld.SEQ_CFG_L

/-- Executed steps from the beginning of turn 0 to this step. -/
def State.stepIndex (s : State) : Nat := s.seq.turn * s.turnLen + s.seq.step

/-- The plan of a group has bit `p` (R250). -/
def State.planBit (s : State) (b p : Nat) : Bool := bitOf (s.reg (Reg.QL_PLAN b (p / 32))).toNat (p % 32)

/-- The plan's steps of a turn, rising. -/
def State.planSteps (s : State) (b : Nat) : List Nat := (List.range s.turnLen).filter (fun p => s.planBit b p)

/-- Words of a group in a turn. -/
def State.planWords (s : State) (b : Nat) : Nat := (s.planSteps b).length * s.groupSize b

/-- The step index of the plan step of word `k` of turn `t`. -/
def State.planIndex (s : State) (b t k : Nat) : Nat := t * s.turnLen + (s.planSteps b).getD (k / s.groupSize b) 0

/-- The turn and the row of words that a group releases in this step under PLAN (R250). -/
def State.planDue (s : State) (b : Nat) : Option (Nat × Nat) :=
  let d := s.fld (Fld.LN_LE_DELAY_DELAY b)
  if s.turnLen = 0 ∨ s.stepIndex < d then none
  else
    let x := s.stepIndex - d
    let p := x % s.turnLen
    if s.planBit b p then some (x / s.turnLen, ((List.range p).filter (fun q => s.planBit b q)).length) else none

/-- A group releases by its plan (R250): Quire modes only.
(DEDUCED, log 36.) -/
def State.byPlan (s : State) (b : Nat) : Bool := s.quire b && s.flag (Fld.LN_LE_CFG_RELEASE b)

/-! ## Delivery and release -/

/-- A word put among those that wait for release under ARRIVAL, or dropped as the 33rd (R249). -/
def State.queueWord (s : State) (b i : Nat) (w : Word64) (valid : Bool) (tag : Option (BitVec 8)) : State :=
  let e := s.engOf i
  if 32 ≤ e.waiting.length then (s.countReg (Reg.LN_LE_DROP b)).linkRaise (Fld.LN_LE_STAT_OVF b) b
  else s.setEng i { e with waiting := e.waiting ++ [{ value := w, valid := valid, tag := tag,
                                                      wait := s.fld (Fld.LN_LE_DELAY_DELAY b) }] }

/-- A word handed to the acquisition engine; the 513th of a lane finds its input queue full (R281, R287). -/
def State.toAcq (s : State) (i : Nat) (w : Word64) (valid : Bool) (readout : Option Nat) : State :=
  let full := decide (512 ≤ (s.acq.inbox.filter (fun x => x.lane == i)).length)
  { s with acq := { s.acq with
    inbox := s.acq.inbox ++ [{ lane := i, value := w, valid := valid, full := full, readout := readout }] } }

/-- A delivered word: counted, handed to the acquisition engine, and queued for its release under ARRIVAL (R248, R249, R251).
(DEDUCED, log 40.) -/
def State.deliverWord (s : State) (b i : Nat) (w : Word64) (valid : Bool) (tag : Option (BitVec 8)) : State :=
  let s1 := s.countReg (Reg.LN_LE_WORDS b)
  let planned := s1.byPlan b && s1.flag (Fld.LN_LE_CFG_TO_ARR b)
  let s2 := if valid || planned then s1 else s1.countReg (Reg.LN_LE_INV b)
  let s3 := if s2.flag (Fld.LN_LE_CFG_TO_ACQ b) then s2.toAcq i w valid none else s2
  if s3.flag (Fld.LN_LE_CFG_TO_ARR b) && !planned then s3.queueWord b i w valid tag else s3

/-- The output register of a lane takes a word (R248). -/
def State.release (s : State) (i : Nat) (w : Word64) (valid : Bool) (tag : Option (BitVec 8)) : State :=
  (s.setEng i { (s.engOf i) with outWord := w, outValid := valid, outTag := tag, released := true }).when
    (!valid && s.flag (Fld.LN_LE_CFG_TO_ARR i)) State.ill

/-- The release of word `k` of turn `t` by the plan, whether or not it has arrived (R250, R252).
(DEDUCED, log 39 and 40.) -/
def State.releasePlanned (s : State) (b i t k : Nat) : State :=
  let e := s.engOf b
  let found := e.plan.find? (fun w => w.turn == t && w.index == k)
  let s1 := s.setEng b { e with plan := e.plan.filter (fun w => !(w.turn == t && w.index == k)) }
  match found with
  | some w =>
    let s2 := if w.intact then s1 else s1.countReg (Reg.LN_LE_INV b)
    s2.release i w.value w.intact (some (BitVec.ofNat 8 t))
  | none => (s1.countReg (Reg.LN_LE_INV b)).release i 0 false (some (BitVec.ofNat 8 t))

/-- The release of this step on a lane, made once (R249, R250). -/
def State.releaseLane (s : State) (i : Nat) : State :=
  let b := s.baseOf i
  let e := s.engOf i
  if e.released || !s.flag (Fld.LN_LE_CFG_TO_ARR b) || s.engineBad i then s
  else if s.byPlan b then
    match s.planDue b with
    | some (t, row) => s.releasePlanned b i t (row * s.groupSize b + (i - b))
    | none => s
  else match e.waiting with
    | w :: rest => if w.wait = 0 then (s.setEng i { e with waiting := rest }).release i w.value w.valid w.tag else s
    | [] => s

/-! ## Received frames -/

/-- Words of a frame: from the first damaged block on every word is invalid (R257). -/
def frameWords : List (Word64 × Bool) → List (Word64 × Bool)
  | [] => []
  | (w, ok) :: r => if ok then (w, true) :: frameWords r else ((w, ok) :: r).map (fun x => (x.1, false))

/-- The most recent turn, not ahead of this device's own, whose low 32 bits are TURN (R260). -/
def State.resolveTurn (s : State) (turn : Nat) : Option Nat :=
  let back := (s.seq.turn + 2 ^ 32 - turn % 2 ^ 32) % 2 ^ 32
  if back ≤ s.seq.turn then some (s.seq.turn - back) else none

/-- The word after word `k` of turn `t` in a group's plan. -/
def State.planNext (s : State) (b t k : Nat) : Nat × Nat := if s.planWords b ≤ k then (t + 1, k - s.planWords b) else (t, k)

/-- One word of a frame under PLAN (R250, R261): kept for its release; late, it is dropped. -/
def State.plannedWord (s : State) (b t k : Nat) (w : Word64) (intact : Bool) : State :=
  let s1 := s.deliverWord b (b + k % s.groupSize b) w intact (some (BitVec.ofNat 8 t))
  let p := s1.planIndex b t k
  let now := s1.stepIndex
  let e := s1.engOf b
  let s2 := if intact && p ≤ now && !s1.flag (Fld.LN_LE_STAT_ALIGNED b) && decide (e.alignFrom ≤ s1.seq.turn) then
      s1.setEng b { e with maxLat := max e.maxLat (now - p) } else s1
  let due := p + s2.fld (Fld.LN_LE_DELAY_DELAY b)
  let e2 := s2.engOf b
  if now < due ∨ (now = due ∧ !e2.released) then
    s2.setEng b { e2 with plan := e2.plan ++ [{ turn := t, index := k, value := w, intact := intact }] }
  else if intact && s2.flag (Fld.LN_LE_STAT_ALIGNED b) then
    (s2.countReg (Reg.LN_LE_DROP b)).linkRaise (Fld.LN_LE_STAT_LATE b) b
  else s2

/-- The words of a frame of turn `t` that begins with word `first` (R250, R260). -/
def State.plannedAt (s : State) (b t first : Nat) (ws : List (Word64 × Bool)) : State :=
  let e := s.engOf b
  let fits := decide (first + ws.length ≤ s.planWords b)
  let s1 := s.setEng b { e with rxNext := if fits then some (s.planNext b t (first + ws.length)) else none }
  if fits && (e.rxNext.isNone || e.rxNext == some (t, first)) then
    ws.zipIdx.foldl (fun s w => s.plannedWord b t (first + w.2) w.1.1 w.1.2) s1
  else s1.linkRaise (Fld.LN_LE_STAT_MISALIGN b) b

/-- The words of a frame under PLAN: a frame that does not begin with the next words owed is discarded with MISALIGN, and the
words after it are owed next (R260).
(DEDUCED, log 38.) -/
def State.plannedFrame (s : State) (b turn first : Nat) (ws : List (Word64 × Bool)) : State :=
  (s.resolveTurn turn).elim (s.linkRaise (Fld.LN_LE_STAT_MISALIGN b) b) (fun t => s.plannedAt b t first ws)

/-- The words of a frame accepted on a group (R255): READOUT words go to the acquisition engine only; XDEV words carry the low
byte of their turn as arrival tag. -/
def State.frameDeliver (s : State) (b ftype turn first : Nat) (ws : List (Word64 × Bool)) : State :=
  if ftype = 4 then
    ws.foldl (fun s w =>
      ((s.countReg (Reg.LN_LE_WORDS b)).when (!w.2) (fun s => s.countReg (Reg.LN_LE_INV b))).toAcq b w.1 w.2 (some turn)) s
  else if s.byPlan b then s.plannedFrame b turn first ws
  else
    let tag := if ftype = 1 then some (BitVec.ofNat 8 turn) else none
    (List.range ws.length).foldl (fun s j =>
      let w := ws.getD j (0, false)
      s.deliverWord b (b + (first + j) % s.groupSize b) w.1 w.2 tag) s

/-- A damaged block (R251, R257). -/
def State.damaged (s : State) (b : Nat) : State := s.linkRaise (Fld.LN_LE_STAT_UNC b) b

/-- A frame refused in reliable mode: NAK is sent once (R263). -/
def State.frameNak (s : State) (b : Nat) : State :=
  let e := s.engOf b
  if e.refused then s
  else ((s.setEng b { e with refused := true, freed := 0 }).emit (.quireAck b ((e.rxSeq + 4095) % 4096) true e.freed))

/-- A frame in reliable mode (R263): accepted in order and acknowledged, or refused.
(DEDUCED, log 42.) -/
def State.reliableFrame (s : State) (b ftype : Nat) (f : QuireFrame) : State :=
  let e := s.engOf b
  let intact := f.headerOk && f.words.all (fun w => w.2)
  if intact && f.crcOk && f.seq.toNat == e.rxSeq then
    let s1 := s.setEng b { e with rxSeq := (e.rxSeq + 1) % 4096, refused := false, freed := 0 }
    (s1.frameDeliver b ftype f.turn.toNat f.first.toNat f.words).emit
      (.quireAck b e.rxSeq false (e.freed + 2 + f.words.length))
  else ((s.when (!intact) (fun s => s.damaged b)).frameNak b)

/-- A data frame arrives on a group (R255 to R257).
(DESIGN CHOICE, log 41.) -/
def State.quireFrame (s : State) (lane ftype : Nat) (f : QuireFrame) : State :=
  let b := s.baseOf lane
  if !s.quire b || !s.linkUp b then s
  else if f.headerOk && (f.words.length == 0 || decide (16 < f.words.length)) then
    (s.countReg (Reg.LN_LE_DROP b)).linkRaise (Fld.LN_LE_STAT_PROTO b) b
  else if s.reliable b then s.reliableFrame b ftype f
  else if !f.headerOk then ((s.addReg (Reg.LN_LE_DROP b) f.words.length).damaged b).linkRaise (Fld.LN_LE_STAT_PROTO b) b
  else
    let s1 := s.when (f.words.any (fun w => !w.2)) (fun s => s.damaged b)
    s1.frameDeliver b ftype f.turn.toNat f.first.toNat (frameWords f.words)

/-! ## Transmission -/

/-- The words of the plan taken for transmission in this step, from every member lane (R259). -/
def State.txTake (s : State) (b : Nat) : State :=
  let row := ((List.range s.seq.step).filter (fun q => s.planBit b q)).length
  (s.members b).foldl (fun s i =>
    let w := (s.engOf i).txIn
    let e := s.engOf b
    if 64 ≤ e.txWords.length then (s.countReg (Reg.LN_LE_DROP b)).linkRaise (Fld.LN_LE_STAT_OVF b) b
    else s.setEng b { e with txWords := e.txWords ++
      [{ turn := s.seq.turn, index := row * s.groupSize b + (i - b), value := w }] }) s

/-- The take of this step on a group, made once: by the plan on a Quire link, a landed word in the raw modes. -/
def State.takeLane (s : State) (lane : Nat) : State :=
  let b := s.baseOf lane
  let e := s.engOf b
  if e.took || s.fld (Fld.LN_LE_CFG_TX_SRC b) != 1 || s.engineBad b || s.seqState != 2 then s
  else if s.quire b then
    if decide (s.seq.step < s.turnLen) && s.planBit b s.seq.step then
      let s1 := s.txTake b
      s1.setEng b { (s1.engOf b) with took := true }
    else s
  else if e.txNew then (s.setEng b { e with took := true, txNew := false }).emit (.rawWord b e.txIn)
  else s

/-- Words at the head of the queue that follow one another in one turn, at most `n`. -/
def txRun : Nat → List TxWord → List TxWord
  | 0, _ => []
  | _, [] => []
  | _, [w] => [w]
  | n + 1, w :: x :: r =>
    if x.turn = w.turn ∧ x.index = w.index + 1 then w :: txRun n (x :: r) else [w]

/-- A frame put on the line; in reliable mode with its SEQ and credit, and kept until it is acknowledged (R262, R264). -/
def State.putFrame (s : State) (b ftype turn first : Nat) (kind vote : Bool) (ws : List Word64) : State :=
  if s.reliable b then
    let e := s.engOf b
    let seq := s.fld (Fld.QL_REL_STAT_TXSEQ b)
    let f : TxFrame := { ftype := ftype, seq := seq, turn := turn, first := first, kind := kind, vote := vote, words := ws }
    let s1 := s.setEng b { e with replay := e.replay ++ [f] }
    (((s1.setFld (Fld.QL_REL_STAT_TXSEQ b) (seq + 1)).setFld (Fld.QL_REL_STAT_CREDIT b)
      (s.fld (Fld.QL_REL_STAT_CREDIT b) - (2 + ws.length))).setFld (Fld.QL_REL_STAT_UNACK b) (e.replay.length + 1)).emit
      (.quireFrame b ftype seq turn first kind vote ws)
  else s.emit (.quireFrame b ftype 0 turn first kind vote ws)

/-- A frame of `n` words may be sent now: in reliable mode it needs credit and a place in the replay buffer (R264). -/
def State.mayFrame (s : State) (b n : Nat) : Bool :=
  !s.reliable b || (decide (2 + n ≤ s.fld (Fld.QL_REL_STAT_CREDIT b)) && decide ((s.engOf b).replay.length < 64))

/-- The next frame is sent: a BAR frame first (R266), else a frame of the words taken (R259).
(DEDUCED, log 89.) -/
def State.sendFrame (s : State) (b : Nat) : State :=
  let e := s.engOf b
  if !s.quire b || !s.linkUp b then s
  else match e.bars with
    | (kind, vote, turn) :: rest =>
      if s.mayFrame b 0 then (s.setEng b { e with bars := rest }).putFrame b 5 turn 0 kind vote [] else s
    | [] =>
      match e.txWords with
      | [] => s
      | w :: _ =>
        let owed := max 1 (min 16 (s.planWords b - w.index))
        let run := txRun owed e.txWords
        let rest := e.txWords.drop run.length
        if (run.length == owed || !rest.isEmpty) && s.mayFrame b run.length then
          (s.setEng b { e with txWords := rest }).putFrame b (s.fld (Fld.LN_LE_CFG_TX_FTYPE b)) w.turn
            (if s.byPlan b then w.index else 0) false false (run.map (fun x => x.value))
        else s

/-- Frames up to ACKSEQ leave the replay buffer, and credit is taken (R263, R264). -/
def State.ackFrames (s : State) (b ackseq credit : Nat) : State :=
  let e := s.engOf b
  let held := e.replay.any (fun f => f.seq == ackseq)
  let rest := if held then (e.replay.dropWhile (fun f => f.seq != ackseq)).drop 1 else e.replay
  let s1 := s.setEng b { e with replay := rest, retries := if held then 0 else e.retries }
  let s2 := (s1.setFld (Fld.QL_REL_STAT_CREDIT b) (min 2048 (s.fld (Fld.QL_REL_STAT_CREDIT b) + credit))).setFld
    (Fld.QL_REL_STAT_UNACK b) rest.length
  if held then s2.setFlag (Fld.LN_LE_STAT_RETRYING b) false else s2

/-- Every unacknowledged frame is sent again; after MAXRETRY replays without progress the link goes down and up (R264). -/
def State.replay (s : State) (b : Nat) : State :=
  let e := s.engOf b
  let limit := if s.fld (Fld.QL_REL_CFG_MAXRETRY b) = 0 then 16 else s.fld (Fld.QL_REL_CFG_MAXRETRY b)
  if e.replay.isEmpty then s
  else if limit ≤ e.retries then
    let s1 := (s.linkDown b).linkRaise (Fld.LN_LE_STAT_RETRY_FAIL b) b
    ((s1.members b).foldl (fun s i => s.setEng i { (s.engOf i) with blockLock := true }) s1).linkRise b
  else
    let s1 := (s.setEng b { e with retries := e.retries + 1 }).countReg (Reg.QL_RETRY b)
    e.replay.foldl (fun s f => s.emit (.quireFrame b f.ftype f.seq f.turn f.first f.kind f.vote f.words))
      (s1.setFlag (Fld.LN_LE_STAT_RETRYING b) true)

/-! ## Ethernet -/

/-- Two bytes of a number, highest first. -/
def be16 (v : Nat) : List Byte := [BitVec.ofNat 8 (v / 256), BitVec.ofNat 8 v]

/-- A two-byte number at an offset of a list of bytes, highest first. -/
def be16At (l : List Byte) (o : Nat) : Nat := (l.getD o 0).toNat * 256 + (l.getD (o + 1) 0).toNat

/-- The sum of 16-bit words, an odd byte padded with 0. -/
def sum16 : List Byte → Nat
  | [] => 0
  | [a] => a.toNat * 256
  | a :: b :: r => a.toNat * 256 + b.toNat + sum16 r

/-- The Internet checksum of a sum of 16-bit words. -/
def checksum (n : Nat) : Nat :=
  let f := fun x => x / 65536 + x % 65536
  65535 - f (f (f n))

/-- ETH_MAC, ETH_IP4 and ETH_IP6 in the order in which they are sent (R272, R279). -/
def State.ethMac (s : State) (i : Nat) : List Byte := bytesOf32 (s.reg (Reg.ETH_MAC_LO i)) ++ (bytesOf32 (s.reg (Reg.ETH_MAC_HI i))).take 2
def State.ethIp4 (s : State) (i : Nat) : List Byte := bytesOf32 (s.reg (Reg.ETH_IP4 i))
def State.ethIp6 (s : State) (i : Nat) : List Byte := (List.range 4).flatMap (fun j => bytesOf32 (s.reg (Reg.ETH_IP6 i j)))

/-- The 32 bytes of entry ETH_DST e (R273). -/
def State.ethDst (s : State) (i e : Nat) : List Byte := (List.range 8).flatMap (fun j => bytesOf32 (s.reg (Reg.ETH_DST i e j)))

/-- The MTU in force (R279). -/
def State.mtu (s : State) (i : Nat) : Nat :=
  let m := s.fld (Fld.ETH_CFG_MTU i)
  if m < 576 ∨ 9000 < m then 1500 else m

/-- A UDP segment with its checksum, over a pseudo-header's sum (R272). -/
def udpSegment (d : List Byte) (pseudo : Nat) (payload : List Byte) : List Byte :=
  let len := 8 + payload.length
  let head := (d.drop 10).take 2 ++ (d.drop 12).take 2 ++ be16 len
  let c := checksum (pseudo + 17 + len + sum16 head + sum16 payload)
  head ++ be16 (if c = 0 then 65535 else c) ++ payload

/-- The datagram of a UDP payload by entry ETH_DST e, without the FCS (R272).
(DEDUCED, log 43.) -/
def State.datagram (s : State) (i : Nat) (d payload : List Byte) : List Byte :=
  let v6 := bitOf (d.getD 6 0).toNat 1
  let vlan := if bitOf (d.getD 6 0).toNat 2 then be16 0x8100 ++ (d.drop 8).take 2 else []
  let mac := d.take 6 ++ s.ethMac i ++ vlan
  if v6 then
    let src := s.ethIp6 i
    let dst := (d.drop 16).take 16
    mac ++ be16 0x86DD ++ [0x60, 0, 0, 0] ++ be16 (8 + payload.length) ++ [17, 64] ++ src ++ dst ++
      udpSegment d (sum16 src + sum16 dst) payload
  else
    let src := s.ethIp4 i
    let dst := (d.drop 16).take 4
    let head := [0x45, 0] ++ be16 (28 + payload.length) ++ be16 (s.engOf i).ipId ++ [0x40, 0, 64, 17]
    let c := checksum (sum16 head + sum16 src + sum16 dst)
    mac ++ be16 0x0800 ++ head ++ be16 c ++ src ++ dst ++ udpSegment d (sum16 src + sum16 dst) payload

/-- A transmission refused (R272, R275): TX_CODE, TX_REFUSED and the event. -/
def State.txRefuse (s : State) (i : Nat) (code : Status) : State :=
  ((s.setFld (Fld.LN_LE_STAT_TX_CODE i) code.toNat).linkRaise (Fld.LN_LE_STAT_TX_REFUSED i) i).reply code

/-- A datagram of the acquisition engine, sent or refused (R272). -/
def State.sendDatagram (s : State) (i e : Nat) (payload : List Byte) : State :=
  let d := s.ethDst i e
  let ip := (if bitOf (d.getD 6 0).toNat 1 then 48 else 28) + payload.length
  if !(s.ethernet i && s.linkUp i) then s.txRefuse i Code.lnDown
  else if !bitOf (d.getD 6 0).toNat 0 then s.txRefuse i Code.lnMode
  else if s.mtu i < ip then s.txRefuse i Code.lnMtu
  else
    let s1 := s.emit (.ethFrame i (s.datagram i d payload))
    (s1.setEng i { (s1.engOf i) with ipId := ((s1.engOf i).ipId + 1) % 65536 }).reply Code.ok

/-- Corrections of a standard in picoseconds, receive and transmit (R276). -/
def State.tsCorrection (s : State) (i : Nat) : Nat × Nat :=
  match s.fld (Fld.LN_LE_CFG_MODE i) with
  | 8 => (14400, 12000)
  | 5 => (9600, 8000)
  | 6 => if s.flag (Fld.LN_LE_CFG_FEC i) then (7000, 5800) else (6200, 5400)
  | _ => (5100, 4600)

/-- Picoseconds as 1/256 raw counts (R276, R344).
(DEDUCED, log 44.) -/
def State.psCounts (s : State) (ps : Int) : Int := if s.period = 0 then 0 else ps * 256 * 2 ^ 40 / (1000 * s.period)

/-- A timestamp referred to the pin: the receive correction subtracted, the transmit correction added (R276); count and
fraction as nine bytes.
(DEDUCED, log 44.) -/
def State.tsBytes (s : State) (i : Nat) (transmit : Bool) (count : Word64) (frac : Byte) : List Byte :=
  let c := s.tsCorrection i
  let adj := signedOf 16 (s.fld (Fld.ETH_TS_ADJ_PS i))
  let t : Int := (count.toNat : Int) * 256 + frac.toNat
  let u := if transmit then t + s.psCounts ((c.2 : Int) + adj) else t - s.psCounts ((c.1 : Int) + adj)
  bytesOfNat 8 (natOfInt 64 (u / 256)) ++ bytesOfNat 1 (natOfInt 8 u)

/-- The EtherType's offset: 12, or 16 behind an 802.1Q tag. -/
def etherAt (f : List Byte) : Nat := if be16At f 12 = 0x8100 then 16 else 12

/-- The UDP part of a frame: destination address, destination port and payload; none where the frame holds no UDP datagram. -/
def udpOf (f : List Byte) : Option (List Byte × Nat × List Byte) :=
  let o := etherAt f + 2
  if be16At f (o - 2) = 0x0800 ∧ f.getD (o + 9) 0 = 17 then
    let u := o + 4 * ((f.getD o 0).toNat % 16)
    some ((f.drop (o + 16)).take 4, be16At f (u + 2), (f.drop (u + 8)).take (be16At f (u + 4) - 8))
  else if be16At f (o - 2) = 0x86DD ∧ f.getD (o + 6) 0 = 17 then
    let u := o + 40
    some ((f.drop (o + 24)).take 16, be16At f (u + 2), (f.drop (u + 8)).take (be16At f (u + 4) - 8))
  else none

/-- A PTP event message: messageType 0 to 3 in one of the three encapsulations (R276). -/
def ptpEvent (f : List Byte) : Bool :=
  let o := etherAt f
  if be16At f o = 0x88F7 then decide ((f.getD (o + 2) 0).toNat % 16 ≤ 3)
  else match udpOf f with
    | some (_, port, p) => port == 319 && decide ((p.getD 0 0).toNat % 16 ≤ 3)
    | none => false

/-- Eight-byte groups, first byte lowest, the last padded with 0 (R274). -/
def wordsOfBytes (l : List Byte) : List Word64 :=
  (List.range ((l.length + 7) / 8)).map (fun i => BitVec.ofNat 64 (natOfBytes ((l.drop (8 * i)).take 8)))

/-- A frame addressed to this lane's firmware (R274). -/
def State.forThis (s : State) (i : Nat) (f : List Byte) : Bool :=
  let m := f.take 6
  m == s.ethMac i || m == List.replicate 6 0xFF || (s.flag (Fld.ETH_CFG_MCAST i) && bitOf (f.getD 0 0).toNat 0)

/-- A list of bytes extended with 0 to a length. -/
def padTo (n : Nat) (l : List Byte) : List Byte := l ++ List.replicate (n - l.length) 0

/-- A received frame, without its FCS (R270, R274). -/
def State.ethReceive (s : State) (i : Nat) (f : List Byte) (fcsOk : Bool) (count : Word64) (frac : Byte) : State :=
  let drop := s.countReg (Reg.LN_LE_DROP i)
  if !(s.ethernet i && s.linkUp i) then s
  else if f.length < 60 ∨ 9212 < f.length then drop
  else
    let words := match udpOf f with
      | some (dst, port, p) =>
        if s.fld (Fld.ETH_CFG_RX_PORT i) ≠ 0 ∧ port = s.fld (Fld.ETH_CFG_RX_PORT i) ∧ (dst = s.ethIp4 i ∨ dst = s.ethIp6 i) then some p
        else none
      | none => none
    match words with
    | some p => (wordsOfBytes p).foldl (fun s w => s.deliverWord i i w fcsOk none) s
    | none =>
      if !fcsOk || be16At f (etherAt f) == 0x8808 || !s.forThis i f || decide (448 < f.length) then drop
      else
        let d := bytesOfNat 2 f.length ++ [BitVec.ofNat 8 (i % 4 + (if ptpEvent f then 4 else 0)), 0, 0, 0, 0, 0] ++
          s.tsBytes i false count frac
        s.emit (.coreMsg (s.fld (Fld.ETH_CFG_RX_CORE i)) (padTo 32 d ++ padTo (32 * ((f.length + 31) / 32)) f))

/-- The answer to a firmware frame: tag, status code and timestamp (R275). -/
def sentAnswer (tag code : Nat) (ts : List Byte) : List Byte :=
  padTo 32 ([0, 0, 0, BitVec.ofNat 8 code] ++ bytesOfNat 2 tag ++ [0, 0] ++ ts)

/-- A firmware frame taken into the queue, or refused (R275).
(DEDUCED, log 45.) -/
def State.ethRequest (s : State) (i : Nat) (j : EthJob) : State :=
  let e := s.engOf i
  let refuse := fun (c : Status) => (s.txRefuse i c).emit (.coreMsg j.core (sentAnswer j.tag c.toNat []))
  if !(s.ethernet i && s.linkUp i) then refuse Code.lnDown
  else if 8 ≤ e.jobs.length then refuse Code.lnFull
  else s.setEng i { e with jobs := e.jobs ++ [j] }

/-- The oldest firmware frame has been sent (R275). -/
def State.ethSent (s : State) (i : Nat) (count : Word64) (frac : Byte) : State :=
  let e := s.engOf i
  match e.jobs with
  | [] => s
  | j :: rest =>
    let ts := if j.wantTs then s.tsBytes i true count frac else []
    ((s.setEng i { e with jobs := rest }).emit (.ethFrame i (padTo 60 j.bytes))).emit
      (.coreMsg j.core (sentAnswer j.tag 0 ts))

/-! ## Registers and commands -/

/-- A write in a lane window's link-engine part (R278, R279). -/
def State.lnLinkWrite (s : State) (mid : Mid) (i o a : Nat) (v : Word32) : State :=
  if o = 0x1000 then s.lnLeCfgWrite mid i v
  else if o = 0x1004 then s.storeReg a v
  else s.laneAssign mid i (fun s => s.storeReg a v)

/-- LN_LE_CFG_WRITE (R244, R245). -/
def execLnLeCfgWrite (mid : Mid) (lane : Fin 103) (value : Word32) (s : State) : Result :=
  .next (s.gate mid (Reg.LN_LE_CFG lane) (some value) (fun s => s.lnLeCfgWrite mid lane value))

/-- BLOCK_LOCK (R253, R267): the receiver of a ready lane finds its blocks, or the first comma. -/
def execBlockLock (lane : Fin 103) (s : State) : Result :=
  .next (if s.laneRuns lane && s.flag (Fld.LN_STAT_READY lane) && !s.engineBad lane && s.fld (Fld.LN_LE_CFG_MODE lane) != 0 then
    s.setEng lane { (s.engOf lane) with blockLock := true } else s)

/-- LINK_UP (R258): every member has block lock and the skew of the group, in blocks, is within 16. -/
def execLinkUp (lane : Fin 103) (skew : Nat) (s : State) : Result :=
  let b := s.baseOf lane
  let ready := (s.members b).all (fun i => (s.engOf i).blockLock && s.flag (Fld.LN_STAT_READY i)) && !s.engineBad lane &&
    s.fld (Fld.LN_LE_CFG_MODE b) != 0
  .next (if !ready || s.linkUp b then s
    else if 1 < s.groupSize b ∧ 16 < skew then s.linkRaise (Fld.LN_LE_STAT_DESKEW b) b
    else s.linkRise b)

/-- LINK_DOWN (R252). -/
def execLinkDown (lane : Fin 103) (s : State) : Result := .next (s.linkDown (s.baseOf lane))

/-- WORD_AVAILABLE (R248, R249): a word of a raw mode is available; an invalid one was cut short by a control character, or has a
damaged character or header (R251, R267). -/
def execWordAvailable (lane : Fin 103) (word : Word64) (valid cut : Bool) (s : State) : Result :=
  .next (if s.linkUp lane && (s.fld (Fld.LN_LE_CFG_MODE lane) == 3 || s.fld (Fld.LN_LE_CFG_MODE lane) == 4) then
    let s1 := if valid then s
      else if cut && s.fld (Fld.LN_LE_CFG_MODE lane) == 3 then s.linkRaise (Fld.LN_LE_STAT_MISALIGN lane) lane
      else s.damaged lane
    s1.deliverWord lane lane word valid none
   else s)

/-- WORD_RELEASE (R249, R250). -/
def execWordRelease (lane : Fin 103) (s : State) : Result := .next (if s.seqState = 2 then s.releaseLane lane else s)

/-- XDEV_FRAME (R255). -/
def execXdevFrame (lane : Fin 103) (frame : QuireFrame) (s : State) : Result := .next (s.quireFrame lane 1 frame)

/-- FEED_FRAME (R255). -/
def execFeedFrame (lane : Fin 103) (frame : QuireFrame) (s : State) : Result := .next (s.quireFrame lane 2 frame)

/-- TRIG_FRAME (R255). -/
def execTrigFrame (lane : Fin 103) (frame : QuireFrame) (s : State) : Result := .next (s.quireFrame lane 3 frame)

/-- READOUT_FRAME (R255). -/
def execReadoutFrame (lane : Fin 103) (frame : QuireFrame) (s : State) : Result := .next (s.quireFrame lane 4 frame)

/-- ACK (R263, R264). -/
def execQlAck (lane : Fin 103) (ackseq credit : BitVec 12) (s : State) : Result :=
  let b := s.baseOf lane
  .next (if s.reliable b && s.linkUp b then s.ackFrames b ackseq.toNat credit.toNat else s)

/-- NAK (R263, R264): an ACK block with NAK 1. -/
def execQlNak (lane : Fin 103) (ackseq credit : BitVec 12) (s : State) : Result :=
  let b := s.baseOf lane
  .next (if s.reliable b && s.linkUp b then (s.ackFrames b ackseq.toNat credit.toNat).replay b else s)

/-- REPLAY_TIMEOUT (R264). -/
def execReplayTimeout (lane : Fin 103) (s : State) : Result :=
  let b := s.baseOf lane
  .next (if s.reliable b && s.linkUp b then s.replay b else s)

/-- FRAME_SEND (R259, R264, R266). -/
def execFrameSend (lane : Fin 103) (s : State) : Result := .next (s.sendFrame (s.baseOf lane))

/-- TX_WORD_TAKE (R259). -/
def execTxWordTake (lane : Fin 103) (s : State) : Result := .next (s.takeLane lane)

/-- ALIGNMENT_WINDOW_END (R261). -/
def execAlignmentWindowEnd (lane : Fin 103) (s : State) : Result :=
  let b := s.baseOf lane
  let e := s.engOf b
  .next (if s.byPlan b && s.linkUp b && !s.flag (Fld.LN_LE_STAT_ALIGNED b) &&
      decide (e.alignFrom + 2 ^ s.fld (Fld.QL_CFG_ALIGN_EXP b) ≤ s.seq.turn) then
    let s1 := ((s.setFld (Fld.LN_LE_XLAT_XLAT b) e.maxLat).setFlag (Fld.LN_LE_XLAT_VALID b) true).setFlag
      (Fld.LN_LE_STAT_ALIGNED b) true
    if s1.fld (Fld.LN_LE_DELAY_DELAY b) < e.maxLat then s1.linkRaise (Fld.LN_LE_STAT_LATE b) b else s1
   else s)

/-- UDP_DATAGRAM (R272). -/
def execUdpDatagram (lane : Fin 103) (dest : Fin 8) (payload : List Byte) (s : State) : Result :=
  .next (if s.fld (Fld.LN_LE_CFG_TX_SRC lane) = 2 ∧ 8 ≤ payload.length ∧ payload.length ≤ 8192 then
    s.sendDatagram lane dest payload else s)

/-- ETHERNET_FRAME_RECEIVE (R274). -/
def execEthernetFrameReceive (lane : Fin 103) (bytes : List Byte) (fcsOk : Bool) (count : Word64) (frac : Byte) (s : State) :
    Result := .next (s.ethReceive lane bytes fcsOk count frac)

/-- FRAME_TRANSMIT_REQUEST (R275). -/
def execFrameTransmitRequest (lane : Fin 103) (core : Fin 2) (tag : BitVec 16) (wantTs : Bool) (bytes : List Byte) (s : State) :
    Result := .next (s.ethRequest lane { core := core, tag := tag.toNat, wantTs := wantTs, bytes := bytes })

/-- FRAME_SENT (R275). -/
def execFrameSent (lane : Fin 103) (count : Word64) (frac : Byte) (s : State) : Result := .next (s.ethSent lane count frac)

end Sys2Proof.Machine
end

