-- ==== Sys2Proof/Machine/Rhizome.lean ====
section
/-! DEFINITION.  The Rhizome's scheduled plane (R185 to R193), its tables, epochs and regulators (R196, R204 to R209, R214,
R215). -/

namespace Sys2Proof.Machine

/-! ## Nodes -/

/-- The virtual sorus whose gateway stands at a node (R182). -/
def vOfNode (n : Nat) : Option Nat := (List.range 32).find? (fun v => nodeOfVirtual v == n)

/-- The quad whose link engines stand at a node (R182). -/
def quadOfNode (n : Nat) : Option Nat := (List.range 24).find? (fun q => nodeOfQuad q == n)

/-- The neighbour of a node: 1 north, 2 east, 3 south, 4 west (R181). -/
def neighbour (n dir : Nat) : Option Nat :=
  match dir with
  | 1 => if n < 8 then none else some (n - 8)
  | 2 => if n % 8 = 7 then none else some (n + 1)
  | 3 => if 40 ≤ n then none else some (n + 8)
  | _ => if n % 8 = 0 then none else some (n - 1)

/-- The input of the neighbour that a unit sent in a direction stands at (R190): 0 north, 1 east, 2 south, 3 west. -/
def facing (dir : Nat) : Nat :=
  match dir with
  | 1 => 2
  | 2 => 3
  | 3 => 0
  | _ => 1

/-- The slot entry of node `n`, epoch copy `ep` and step `st` (R188). -/
def State.slotEntry (s : State) (n ep st : Nat) : Nat :=
  (s.reg (Reg.RZ_SLOT n ep st 0)).toNat + (s.reg (Reg.RZ_SLOT n ep st 1)).toNat * 2 ^ 32

/-- The RT code of input `k` (4 the injected unit); reserved codes act as 0. -/
def rtCode (e k : Nat) : Nat := let c := (e >>> (3 * k)) % 8; if 5 < c then 0 else c

/-- Word `w` of a unit. -/
def SpUnit.word (u : SpUnit) (w : Nat) : Word64 := match w with | 0 => u.w0 | 1 => u.w1 | 2 => u.w2 | _ => u.w3

/-- The scheduled-plane injection epoch. -/
def State.spEpoch (s : State) : Nat := s.fld Fld.RZ_EPOCH_SP_EPOCH

/-! ## Collisions -/

/-- A slot collision at a node (R193): SP_COLL, the record, the node's event, and SLOT_COLL at its sorus. -/
def State.spColl (s : State) (n case input epoch : Nat) : State :=
  let s1 := if s.flag (Fld.RZ_SP_FLT_VALID n) then s
    else (s.setReg (Reg.RZ_SP_FLT n)
      (BitVec.ofNat 32 (2 ^ 17 + epoch * 2 ^ 16 + case * 2 ^ 13 + input * 2 ^ 10 + s.seq.step))).setReg (Reg.RZ_SP_FLT_TURN n)
        (BitVec.ofNat 32 s.seq.turn)
  let s2 := s1.nodeRaise (Fld.RZ_NODE_STAT_SP_COLL n) n
  match vOfNode n with
  | some v => if s2.physOf v = 0xFF then s2 else s2.fault (s2.physOf v) 8 0 0 7 0
  | none => s2

/-- Something discarded at a node (RZ_NODE_DROP). -/
def State.nodeDrop (s : State) (n : Nat) : State := s.countReg (Reg.RZ_NODE_DROP n)

/-! ## Release -/

/-- A landing put among those of this step. -/
def State.stage (s : State) (l : Landing) : State := { s with rz := { s.rz with landings := s.rz.landings ++ [l] } }

/-- The words of a unit whose LAND field is enabled, with group and rotation; a present word without it is dropped (R192, R193
case 5). -/
def landWords (e : Nat) (u : SpUnit) : List (Nat × Nat × Nat) :=
  (List.range 4).filterMap (fun w =>
    let f := (e >>> (22 + 9 * w)) % 512
    if bitOf u.words w && bitOf f 0 then some (w, (f >>> 1) % 4, f >>> 3) else none)

/-- Words Ww of one unit that name one group: which of them stays is a free value (R192 gives no order).
(DESIGN CHOICE, log 56.) -/
def State.stageGroup (s : State) (v g : Nat) (u : SpUnit) (ws : List (Nat × Nat × Nat)) : State :=
  let tag := fun (w : Nat) => if u.kind = 3 then some (BitVec.ofNat 8 (u.tag.toNat >>> (8 * w))) else none
  match ws.filter (fun x => x.2.1 == g) with
  | [] => s
  | [x] => s.stage (.group v g (BitVec.allOnes 64) ((u.word x.1).rotateLeft x.2.2) (tag x.1) false u.epoch)
  | x :: _ =>
    let f := s.takeFree
    f.2.stage (.group v g (BitVec.allOnes 64) f.1 (tag x.1) false u.epoch)

/-- A unit is released at its node (R191 to R193). -/
def State.releaseUnit (s : State) (u : SpUnit) : State :=
  let n := u.node
  let e := s.slotEntry n u.epoch s.seq.step
  let ws := landWords e u
  let s1 := (List.range 4).foldl (fun s w =>
    if bitOf u.words w && !ws.any (fun x => x.1 == w) then (s.nodeDrop n).spColl n 5 5 u.epoch else s) s
  match vOfNode n with
  | some v =>
    if u.kind = 2 then
      ws.foldl (fun s x => s.stage (.lane v (4 * u.quad + x.1) (u.word x.1) (bitOf u.valid x.1) u.epoch)) s1
    else (List.range 4).foldl (fun s g => s.stageGroup v g u ws) s1
  | none =>
    let q := (quadOfNode n).getD 0
    ws.foldl (fun s x => s.stage (.engine (4 * q + x.1) (u.word x.1) (u.kind != 2 || bitOf u.valid x.1) u.epoch)) s1

/-- The units of a node's landing buffer that are released in this step: those of AGE 15 (R191). -/
def State.releaseNode (s : State) (n : Nat) : State :=
  let due := s.rz.units.filter (fun u => u.node == n && u.input == 4 && u.age == 15)
  let s1 : State := { s with rz := { s.rz with units := s.rz.units.filter (fun u => !(u.node == n && u.input == 4 && u.age == 15)) } }
  due.foldl (fun s u => s.releaseUnit u) s1

/-- Where a landing lands: a group or a lane of a virtual sorus, or a lane's transmit side. -/
def Landing.place : Landing → Nat × Nat × Nat
  | .group v g _ _ _ _ _ => (0, v, g)
  | .lane v l _ _ _ => (1, v, l)
  | .engine l _ _ _ => (2, 0, l)

/-- The epoch of what lands. -/
def Landing.epochOf : Landing → Nat
  | .group _ _ _ _ _ _ ep => ep
  | .lane _ _ _ _ ep => ep
  | .engine _ _ _ ep => ep

/-- What a place reads after case 4 of R193: zeros. -/
def Landing.zero : Landing → Landing
  | .group v g _ _ _ p ep => .group v g (BitVec.allOnes 64) 0 (some 0) p ep
  | .lane v l _ _ ep => .lane v l 0 false ep
  | .engine l _ _ ep => .engine l 0 false ep

/-- A landing takes effect (R84, R192, R331). -/
def State.land (s : State) : Landing → State
  | .group v g mask bits tag _ _ => if s.physOf v = 0xFF then s else s.landGroup (s.physOf v) g mask bits tag
  | .lane v l w ok _ => if s.physOf v = 0xFF then s else s.landLane (s.physOf v) l w ok
  | .engine l w ok _ => s.setEng l { (s.engOf l) with txIn := w, txValid := ok, txNew := true }

/-- The node at which a landing is made. -/
def Landing.nodeOf : Landing → Nat
  | .group v _ _ _ _ _ _ => nodeOfVirtual v
  | .lane v _ _ _ _ => nodeOfVirtual v
  | .engine l _ _ _ => nodeOfQuad (l / 4)

/-- The landings of the step take effect; two on one place are case 4 of R193 (R333).
(DEDUCED, log 57.) -/
def State.commitLandings (s : State) : State :=
  let ls := s.rz.landings
  let s1 : State := { s with rz := { s.rz with landings := [] } }
  (List.range ls.length).foldl (fun s i =>
    match ls[i]? with
    | none => s
    | some l =>
      let others := (ls.filter (fun x => x.place == l.place)).length
      let first := ls.findIdx? (fun x => x.place == l.place) == some i
      if others = 1 then s.land l
      else if first then (s.land l.zero).spColl l.nodeOf 4 5 l.epochOf
      else s) s1

/-! ## Injection and advance -/

/-- Outbound positions 64w to 64w + 63 of a virtual sorus (R88, R189). -/
def State.outGroup (s : State) (v w : Nat) : Word64 :=
  (s.consumerList.filter (fun c => c.kind == 1 && c.vsorus == v && c.target / 64 == w)).foldl (fun x c =>
    if s.consumed c then x ||| BitVec.ofNat 64 (2 ^ (c.target % 64)) else x) 0

/-- The unit that a node injects in this step (R189); `none` also where INJ names a source the node does not have. -/
def State.injected (s : State) (n : Nat) : Option SpUnit :=
  let e := s.slotEntry n s.spEpoch s.seq.step
  let inj := (e >>> 16) % 4
  let injw := (e >>> 18) % 16
  if inj = 0 ∨ injw = 0 then none
  else
    let pick := fun (w : Nat) (x : Word64) => if bitOf injw w then x else 0
    if inj = 1 then
      match vOfNode n with
      | none => none
      | some v =>
        some { node := n, input := 4, kind := 1, words := injw, valid := 0, quad := 0, tag := 0, age := 0, epoch := s.spEpoch,
               w0 := pick 0 (s.outGroup v 0), w1 := pick 1 (s.outGroup v 1), w2 := pick 2 (s.outGroup v 2),
               w3 := pick 3 (s.outGroup v 3) }
    else
      match quadOfNode n with
      | none => none
      | some q =>
        let g := fun w => s.engOf (4 * q + w)
        let vb := (List.range 4).foldl (fun a w => if bitOf injw w && (g w).outValid then a + 2 ^ w else a) 0
        let tg := (List.range 4).foldl (fun a w => if bitOf injw w then a + ((g w).outTag.getD 0).toNat * 256 ^ w else a) 0
        some { node := n, input := 4, kind := inj, words := injw, valid := if inj = 2 then vb else 0, quad := q,
               tag := if inj = 3 then BitVec.ofNat 32 tg else 0, age := 0, epoch := s.spEpoch,
               w0 := pick 0 (g 0).outWord, w1 := pick 1 (g 1).outWord, w2 := pick 2 (g 2).outWord, w3 := pick 3 (g 3).outWord }

/-- Case 6 of R193: INJ names a source that the node does not have. -/
def State.injectedNone (s : State) (n : Nat) : Bool :=
  let e := s.slotEntry n s.spEpoch s.seq.step
  let inj := (e >>> 16) % 4
  decide ((e >>> 18) % 16 ≠ 0) &&
    ((inj == 1 && (vOfNode n).isNone) || (decide (2 ≤ inj) && (quadOfNode n).isNone))

/-- The check of the units on a node's inputs (R187): the units that go on. -/
def State.checkUnits (s : State) (n : Nat) (errs : List UnitError) : List SpUnit → List SpUnit × State
  | [] => ([], s)
  | u :: r =>
    let es := errs.filter (fun e => e.node.val == n && e.input.val == u.input)
    let s1 := (es.filter (fun e => !e.fatal)).foldl (fun s _ => s.countReg (Reg.RZ_NODE_CORR n)) s
    let s2 := if es.any (fun e => e.fatal) then s1.nodeRaise (Fld.RZ_NODE_STAT_SP_UNC n) n else s1
    if es.any (fun e => e.fatal && e.sideband) then State.checkUnits (s2.nodeDrop n) n errs r
    else
      let u1 := if es.any (fun e => e.fatal) && u.kind == 2 then { u with valid := 0 } else u
      let rest := State.checkUnits s2 n errs r
      (u1 :: rest.1, rest.2)

/-- The units that a node routes to a link in one direction: one goes on, and cases 1, 3 and 7 of R193 are dropped.
(DEDUCED, log 54.) -/
def State.routeLink (s : State) (n dir : Nat) (us : List SpUnit) : List SpUnit × State :=
  match us with
  | [] => ([], s)
  | [u] =>
    match neighbour n dir with
    | none => ([], (s.nodeDrop n).spColl n 7 u.input u.epoch)
    | some m =>
      if u.age = 15 then ([], (s.nodeDrop n).spColl n 3 u.input u.epoch)
      else ([{ u with node := m, input := facing dir, age := u.age + 1 }], s)
  | u :: r =>
    let low := r.foldl (fun a x => if x.input < a.input then x else a) u
    ([], ((u :: r).foldl (fun s _ => s.nodeDrop n) s).spColl n 1 low.input low.epoch)

/-- The units on the inputs of a node and its injected unit are routed (R189, R190, R193).
(DEDUCED, log 54 and 55.) -/
def State.routeNode (s : State) (n : Nat) (us : List SpUnit) (errs : List UnitError) : List SpUnit × State :=
  let c := s.checkUnits n errs us
  let s1 := if c.2.injectedNone n then c.2.spColl n 6 4 c.2.spEpoch else c.2
  let all := c.1 ++ (s1.injected n).toList
  let code := fun (u : SpUnit) => rtCode (s1.slotEntry n u.epoch s1.seq.step) u.input
  let r := [1, 2, 3, 4].foldl (fun (p : List SpUnit × State) dir =>
    let q := p.2.routeLink n dir (all.filter (fun u => code u == dir))
    (p.1 ++ q.1, q.2)) ([], s1)
  let s2 := (all.filter (fun u => code u == 0)).foldl (fun s u => (s.nodeDrop n).spColl n 2 u.input u.epoch) r.2
  let landing := all.filter (fun u => code u == 5)
  let s3 := (landing.filter (fun u => u.age == 15)).foldl (fun s u => s.releaseUnit u) s2
  (r.1 ++ (landing.filter (fun u => u.age != 15)).map (fun u => { u with input := 4, age := u.age + 1 }), s3)

/-- The nodes that have something to do: a unit on an input, or a slot entry whose INJ is not 0. -/
def State.activeNodes (s : State) : List Nat :=
  (List.range 48).filter (fun n => s.rz.units.any (fun u => u.node == n && u.input != 4) ||
    (s.slotEntry n s.spEpoch s.seq.step >>> 16) % 4 != 0)

/-- The scheduled plane advances by one step, once in an executed step (R185, R190). -/
def State.advance (s : State) (errs : List UnitError) : State :=
  if s.rz.advanced then s
  else
    let s1 := (List.range 48).foldl (fun s n => s.releaseNode n) s
    let held := (s1.rz.units.filter (fun u => u.input == 4)).map (fun u => { u with age := u.age + 1 })
    let moving := s1.rz.units.filter (fun u => u.input != 4)
    let r := s1.activeNodes.foldl (fun (p : List SpUnit × State) n =>
      let q := p.2.routeNode n (moving.filter (fun u => u.node == n)) errs
      (p.1 ++ q.1, q.2)) (held, s1)
    { r.2 with rz := { r.2.rz with units := r.1, advanced := true } }

/-- SCHEDULED_PLANE_ADVANCE (R185 to R190). -/
def execScheduledPlaneAdvance (errs : List UnitError) (s : State) : Result :=
  .next (if s.seqState = 2 then s.advance errs else s)

/-- UNIT_RELEASE (R191): the units of a node's landing buffer that reach AGE 15 in this step. -/
def execUnitRelease (node : Fin 48) (s : State) : Result :=
  .next (if s.seqState = 2 && !s.rz.advanced then s.releaseNode node else s)

/-! ## Epochs -/

/-- Old-epoch units and packets in flight (R209). -/
def State.oldUnits (s : State) : Nat := (s.rz.units.filter (fun u => u.epoch != s.spEpoch)).length
def State.oldPackets (s : State) : Nat :=
  (s.rz.flights.filter (fun f => match f.2 with
    | some p => p.epoch != s.fld Fld.RZ_EPOCH_GP_EPOCH
    | none => false)).length

/-- The scheduled plane's injection epoch flips, and the old copy starts retiring (R208). -/
def State.flipSp (s : State) : State :=
  ((s.setFld Fld.RZ_EPOCH_SP_EPOCH (1 - s.spEpoch)).setFlag Fld.RZ_EPOCH_SP_RETIRING true).setFlag Fld.RZ_EPOCH_SP_PENDING false

/-- The general plane's injection epoch flips (R208). -/
def State.flipGp (s : State) : State :=
  (s.setFld Fld.RZ_EPOCH_GP_EPOCH (1 - s.fld Fld.RZ_EPOCH_GP_EPOCH)).setFlag Fld.RZ_EPOCH_GP_RETIRING true

/-- A write of RZ_SWITCH that names planes (R208). -/
def State.rzSwitch (s : State) (gp sp : Bool) : State :=
  let bad := (gp && s.flag Fld.RZ_EPOCH_GP_RETIRING) ||
    (sp && (s.flag Fld.RZ_EPOCH_SP_RETIRING || s.flag Fld.RZ_EPOCH_SP_PENDING))
  if bad then
    (((s.setFld Fld.RZ_SWITCH_STAT_CODE Code.rzTableBusy.toNat).raiseBit Fld.RZ_EPOCH_SW_REFUSED 292)).reply Code.rzTableBusy
  else
    let s1 := (s.setFld Fld.RZ_SWITCH_STAT_CODE 0).when gp State.flipGp
    let s2 := s1.when sp (fun s =>
      if s.seqState = 2 ∨ s.seqState = 3 then s.setFlag Fld.RZ_EPOCH_SP_PENDING true else s.flipSp)
    s2.reply Code.ok

/-- A plane's old copy retires when nothing of its epoch is in flight (R209). -/
def State.retireGp (s : State) : State :=
  if s.flag Fld.RZ_EPOCH_GP_RETIRING && s.oldPackets == 0 then s.setFlag Fld.RZ_EPOCH_GP_RETIRING false else s
def State.retireSp (s : State) : State :=
  if s.flag Fld.RZ_EPOCH_SP_RETIRING && s.oldUnits == 0 then s.setFlag Fld.RZ_EPOCH_SP_RETIRING false else s

/-- GP_SWITCH (R208): RZ_SWITCH with GP alone. -/
def execGpSwitch (mid : Mid) (s : State) : Result :=
  .next (s.gate mid Reg.RZ_SWITCH (some 1) (fun s => s.rzSwitch true false))

/-- SP_SWITCH (R208): RZ_SWITCH with SP alone. -/
def execSpSwitch (mid : Mid) (s : State) : Result :=
  .next (s.gate mid Reg.RZ_SWITCH (some 2) (fun s => s.rzSwitch false true))

/-- EPOCH_RETIRE (R209): of the general plane or of the scheduled plane. -/
def execEpochRetire (general : Bool) (s : State) : Result := .next (if general then s.retireGp else s.retireSp)

/-! ## Regulators (R204 to R206) -/

/-- The RATE, DEPTH and LEVEL fields of a bucket: the REQ bucket, or the MGT bucket. -/
def rateField (n e : Nat) (mgt : Bool) : Field := if mgt then Fld.RZ_TB_MGT_RATE n e else Fld.RZ_TB_REQ_RATE n e
def depthField (n e : Nat) (mgt : Bool) : Field := if mgt then Fld.RZ_TB_MGT_DEPTH n e else Fld.RZ_TB_REQ_DEPTH n e
def levelField (n e : Nat) (mgt : Bool) : Field := if mgt then Fld.RZ_TB_LEVEL_MGT n e else Fld.RZ_TB_LEVEL_REQ n e

/-- The key of a bucket. -/
def bucketKey (n e : Nat) (mgt : Bool) : Nat := (n * 8 + e) * 2 + (if mgt then 1 else 0)

/-- LEVEL gains RATE tokens for each whole microsecond since the last refill, up to DEPTH (R204).
(DEDUCED, log 58.) -/
def State.refill (s : State) (n e : Nat) (mgt : Bool) : State :=
  let us := s.countsOfUs 1
  let last := Sparse.get 0 s.rz.refilled (bucketKey n e mgt)
  let k := if us = 0 then 0 else (s.count - last) / us
  let lv := s.fld (levelField n e mgt)
  let new := if s.fld (depthField n e mgt) ≤ lv then lv else min (s.fld (depthField n e mgt)) (lv + k * s.fld (rateField n e mgt))
  ({ s with rz := { s.rz with refilled := Sparse.put 0 s.rz.refilled (bucketKey n e mgt) (last + k * us) } } : State).setFld
    (levelField n e mgt) new

/-- A write of a bucket: LEVEL is clipped to a lower DEPTH at once, and a new RATE applies from the next refill (R206). -/
def State.bucketWrite (s : State) (n e : Nat) (mgt : Bool) (a : Nat) (v : Word32) : State :=
  let s1 := (s.refill n e mgt).setReg a v
  if s1.fld (depthField n e mgt) < s1.fld (levelField n e mgt) then
    s1.setFld (levelField n e mgt) (s1.fld (depthField n e mgt)) else s1

/-! ## Injection (R200, R204, R205) -/

/-- An endpoint's quota refuses a request (R205). -/
def State.rzOverQuota (s : State) (node e : Nat) : Bool :=
  s.fld (Fld.RZ_QUOTA_QUOTA node e) != 0 && decide (s.fld (Fld.RZ_QUOTA_QUOTA node e) ≤ s.fld (Fld.RZ_OUTST_COUNT node e))

/-- The lowest tag of an endpoint that no request holds (R200). -/
def State.freeTag (s : State) (n e : Nat) : Nat :=
  ((List.range 1024).find? (fun t => (Sparse.get none s.rz.tags ((n * 8 + e) * 1024 + t)).isNone)).getD 0

/-- A tag of an endpoint held by a request. -/
def State.holdTag (s : State) (n e t : Nat) (x : RzTag) : State :=
  { s with rz := { s.rz with tags := Sparse.put none s.rz.tags ((n * 8 + e) * 1024 + t) (some x) } }

/-- The bucket of a packet's class has the tokens it needs (R204): 1 + LEN, or all that the bucket holds. -/
def State.hasTokens (s : State) (n e : Nat) (p : Packet) : Bool :=
  let mgt := p.cls == 2
  (p.cls != 0 && p.cls != 2) || s.fld (rateField n e mgt) == 0 || decide (1 + p.data.length ≤ s.fld (levelField n e mgt)) ||
    s.fld (levelField n e mgt) == s.fld (depthField n e mgt)

/-- The tokens of a packet taken from its bucket (R204). -/
def State.takeTokens (s : State) (n e : Nat) (p : Packet) : State :=
  let mgt := p.cls == 2
  if (p.cls != 0 && p.cls != 2) || s.fld (rateField n e mgt) == 0 then s
  else s.setFld (levelField n e mgt) (s.fld (levelField n e mgt) - (1 + p.data.length))

/-- The first packet that waits at an endpoint is injected, if its bucket has the tokens for it (R204). -/
def State.injectPacket (s : State) (n e : Nat) : State :=
  let s0 := (s.refill n e false).refill n e true
  match s0.rz.waiting.find? (fun w => w.1 == n * 8 + e) with
  | none => s0
  | some w =>
    if s0.hasTokens n e w.2 then
      let s1 : State := { s0 with rz := { s0.rz with waiting := s0.rz.waiting.erase w } }
      (s1.takeTokens n e w.2).sendFlight n w.2
    else s0

/-- A packet joins those that wait at an endpoint, and is injected if it can be (R204).
(DEDUCED, log 83.) -/
def State.queuePacket (s : State) (n e : Nat) (p : Packet) : State :=
  ({ s with rz := { s.rz with waiting := s.rz.waiting ++ [(n * 8 + e, p)] } } : State).injectPacket n e

/-! ## Table and regulator writes (R207) -/

/-- A MID that may write tables or regulators (R207). -/
def rzWriter (mid : Mid) : Bool := isManager mid || mid == 0x10

/-- A write by another MID (R207). -/
def State.rzDenied (s : State) (n : Nat) : State := (s.nodeRaise (Fld.RZ_NODE_STAT_DENIED n) n).reply Code.denied

/-- A copy that is the injection epoch of its plane or is retiring (R207). -/
def State.copyBusy (s : State) (slots : Bool) (ep : Nat) : Bool :=
  if slots then s.spEpoch == ep || s.flag Fld.RZ_EPOCH_SP_RETIRING
  else s.fld Fld.RZ_EPOCH_GP_EPOCH == ep || s.flag Fld.RZ_EPOCH_GP_RETIRING

/-- A write to a table copy (R35, R207): by a MID without the right, to a slot entry of another owner (R173), or to a copy in
use, it is refused with the first of these; each raises its own condition. -/
def State.tableWrite (s : State) (mid : Mid) (n : Nat) (slots : Bool) (ep idx a : Nat) (v : Word32) : State :=
  let denied := !rzWriter mid
  let owned := slots && !s.mayAssign mid 0x07 (n * 1024 + idx)
  let busy := s.copyBusy slots ep
  let s1 := s.when busy (fun s => (s.nodeRaise (Fld.RZ_NODE_STAT_TBL_REFUSED n) n).reply Code.rzTableBusy)
  let s2 := s1.when owned State.claimRefuse
  let s3 := s2.when denied (fun s => s.rzDenied n)
  if denied || owned || busy then s3
  else
    let s4 : State := if mid = 0x10 then s
      else { s with cns := { s.cns with touched := Sparse.put false s.cns.touched (if slots then n else 64 + n) true } }
    (s4.when slots (fun s => s.takeClaim mid 0x07 (n * 1024 + idx))).storeReg a v

/-- A write in a node's window (R215). -/
def State.nodeWrite (s : State) (mid : Mid) (a : Nat) (v : Word32) : State :=
  let n := (a - 0x04010000) / 0x10000
  let o := (a - 0x04010000) % 0x10000
  if o = 0x000C ∧ bitOf v.toNat 17 then
    match recordAt a with
    | some r => s.clearRecord r
    | none => s.storeReg a v
  else if 0x0100 ≤ o ∧ o < 0x01A0 then
    let e := (o - 0x100) / 0x20
    let r := (o - 0x100) % 0x20
    if 0x10 < r then s.storeReg a v
    else if !rzWriter mid then s.rzDenied n
    else if r = 0 then (s.bucketWrite n e false a v).reply Code.ok
    else if r = 4 then (s.bucketWrite n e true a v).reply Code.ok
    else s.storeReg a v
  else if 0x0400 ≤ o ∧ o < 0x0600 ∧ (o - 0x400) % 0x100 < 0xC0 then
    s.tableWrite mid n false ((o - 0x400) / 0x100) ((o - 0x400) % 0x100 / 4) a v
  else if 0x4000 ≤ o ∧ o < 0x8000 then
    s.tableWrite mid n true ((o - 0x4000) / 0x2000) ((o - 0x4000) % 0x2000 / 8) a v
  else s.storeReg a v

/-- A write in the Rhizome's range (R214, R215). -/
def State.rzRegWrite (s : State) (mid : Mid) (a : Nat) (v : Word32) : State :=
  if a = Reg.RZ_SWITCH then s.rzSwitch (bitOf v.toNat 0) (bitOf v.toNat 1)
  else if 0x04010000 ≤ a ∧ a < 0x04310000 then s.nodeWrite mid a v
  else s.storeReg a v

/-- A read in the Rhizome's range: the old-epoch counts and the bucket levels as they stand. -/
def State.rzRegRead (s : State) (a : Nat) : State :=
  if a = Reg.RZ_OLD_CNT then s.reply Code.ok (BitVec.ofNat 32 (min 65535 s.oldUnits * 65536 + min 65535 s.oldPackets))
  else if 0x04010000 ≤ a ∧ a < 0x04310000 then
    let n := (a - 0x04010000) / 0x10000
    let o := (a - 0x04010000) % 0x10000
    if 0x0100 ≤ o ∧ o < 0x01A0 ∧ (o - 0x100) % 0x20 = 8 then
      ((s.refill n ((o - 0x100) / 0x20) false).refill n ((o - 0x100) / 0x20) true).loadReg a
    else s.loadReg a
  else s.loadReg a

/-- TABLE_WRITE (R207): word `word` of a node's window between the route tables and the slot tables' end. -/
def execTableWrite (mid : Mid) (node : Fin 48) (slots : Bool) (epoch : Fin 2) (entry : Fin 1024) (high : Bool) (value : Word32)
    (s : State) : Result :=
  let a := if slots then Reg.RZ_SLOT node epoch entry (if high then 1 else 0) else Reg.RZ_ROUTE node epoch (entry % 48)
  .next (s.gate mid a (some value) (fun s =>
    s.tableWrite mid node slots epoch (if slots then entry.val else entry.val % 48) a value))

end Sys2Proof.Machine
end

