-- ==== Sys2Proof/Machine/HbmPorts.lean ====
section
/-! DEFINITION.  The sorus memory ports and the controller's own happenings (R329 to R339). -/

namespace Sys2Proof.Machine

/-! ## Overruns -/

/-- A turn overrun (R122, R123): the record, the count, OVR and EV068, and OVERRUN at the attributed sorus. -/
def State.turnOverrun (s : State) (cause : Nat) (sorus : Option Nat) : State :=
  let s0 : State := { s with seq := { s.seq with overrun := true } }
  let s1 := if s0.flag Fld.SEQ_OVR_CAUSE_VALID then s0.setFlag Fld.SEQ_OVR_CAUSE_OVF true
    else
      let a := (s0.setFld Fld.SEQ_OVR_CAUSE_CAUSE cause).setFlag Fld.SEQ_OVR_CAUSE_VALID true
      let b := match sorus with
        | some n => (a.setFld Fld.SEQ_OVR_CAUSE_SORUS n).setFlag Fld.SEQ_OVR_CAUSE_SVALID true
        | none => a
      b.setReg Reg.SEQ_OVR_TURN (BitVec.ofNat 32 s0.seq.turn)
  let s2 := (s1.countReg Reg.SEQ_OVR_COUNT).raiseBit Fld.SEQ_STATUS_OVR 68
  match sorus with
  | some n => s2.fault n 0xC 0 0 7 0
  | none => s2

/-! ## Issue entries -/

/-- Issue entry `e` of Sn as a number (R329). -/
def State.issueEntry (s : State) (n e : Nat) : Nat :=
  (s.reg (Reg.HBM_ISSUE n e 0)).toNat + (s.reg (Reg.HBM_ISSUE n e 1)).toNat * 2 ^ 32

/-- An issue entry fires in the step being executed (R329). -/
def State.entryFires (s : State) (n e : Nat) : Bool :=
  let x := s.issueEntry n e
  let ex := (x >>> 36) % 16
  let phase := s.seq.turn % 2 ^ ex
  bitOf x 63 && decide (ex ≤ 8) && decide (x % 1024 = s.seq.step) && decide ((x >>> 40) % 256 ≤ phase) &&
    decide (phase ≤ (x >>> 48) % 256) && s.executes n

/-- The entry has fired in this step with GO 1. -/
def State.hasFired (s : State) (n e : Nat) : Bool :=
  s.hbm.reqs.any (fun r => r.sorus == n && r.entry == e && r.turn == s.seq.turn && r.step == s.seq.step)

/-- The packet of a port's request (R194, R195, R330): a read of one data unit, or a write of 8 bytes.
(DEDUCED, log 51.) -/
def portPacket (node : Nat) (r : PortReq) (tag : Nat) : Packet :=
  let pc := r.addr / 256 % 16
  let sh := r.addr % 32
  { dnode := BitVec.ofNat 6 (nodeAt 0 (1 + pc / 4)), dep := 2, snode := BitVec.ofNat 6 node, sep := 0,
    mid := BitVec.ofNat 8 (0x20 + r.sorus), cls := 0, opc := if r.write.isSome then 1 else 0, tag := BitVec.ofNat 10 tag,
    status := 0, rdlen := 0, addr := BitVec.ofNat 64 r.addr, firstBe := BitVec.ofNat 32 (255 <<< sh),
    lastBe := BitVec.ofNat 32 (255 <<< sh),
    data := match r.write with
      | some w => [BitVec.ofNat 256 (w.toNat <<< (8 * sh))]
      | none => [] }

/-- A region's count of the requests held in the controller, moved by one (R327). -/
def State.regionHold (s : State) (r : Nat) : State := s.setFld (Fld.HBM_RGN_STAT_OUTST r) (s.fld (Fld.HBM_RGN_STAT_OUTST r) + 1)
def State.regionFree (s : State) (r : Nat) : State := s.setFld (Fld.HBM_RGN_STAT_OUTST r) (s.fld (Fld.HBM_RGN_STAT_OUTST r) - 1)

/-- A request put among those of the ports. -/
def State.pushReq (s : State) (r : PortReq) : State := { s with hbm := { s.hbm with reqs := s.hbm.reqs ++ [r] } }

/-- A locked request reaches the controller, where it is held for its command slot, or refused over its region's quota (R327,
R334). -/
def State.portArrive (s : State) (r : PortReq) : State :=
  let may := s.hbmMay (BitVec.ofNat 8 (0x20 + r.sorus)) r.addr r.write.isSome
  match s.regionOf r.addr, s.atQuota r.addr with
  | some _, some q =>
    if may then (((s.setFlag (Fld.HBM_RGN_STAT_OVER_QUOTA q) true).raiseBit Fld.HBM_STATUS_OVER_QUOTA 374).pushReq
      { r with served := true, resp := some (Code.overQuota, 0) })
    else s.pushReq r
  | some g, none => if may then (s.regionHold g).pushReq { r with region := some g } else s.pushReq r
  | none, _ => s.pushReq r

/-- A request of the port (R205, R330): refused at injection over the quota, or sent; in elastic mode as a packet.
(DEDUCED, log 50 and 51.) -/
def State.portIssue (s : State) (r : PortReq) : State :=
  let node := nodeOfVirtual r.virt
  if s.rzOverQuota node 0 then
    (s.nodeRaise (Fld.RZ_NODE_STAT_OVER_QUOTA node) node).pushReq
      { r with served := true, resp := some (Code.overQuota, 0) }
  else
    let s1 := s.setFld (Fld.RZ_OUTST_COUNT node 0) (s.fld (Fld.RZ_OUTST_COUNT node 0) + 1)
    let r1 := { r with counted := true }
    if s1.lockedSchedule then s1.portArrive r1
    else
      let t := s1.freeTag node 0
      let s2 := s1.holdTag node 0 t { mid := BitVec.ofNat 8 (0x20 + r.sorus), addr := r.addr, write := r.write.isSome, timedOut := false }
      (s2.pushReq { r1 with tag := some t }).queuePacket node 0 (portPacket node r t)

/-- An issue entry fires once in its step (R329, R330): with GO 1 it issues a request. -/
def State.fireEntry (s : State) (n e : Nat) (ecc : EccFind) : State :=
  match s.virtOf n with
  | none => s
  | some v =>
    if !s.entryFires n e || s.hasFired n e then s
    else
      let x := s.issueEntry n e
      let q := (s.outGroup v ((x >>> 10) % 4)).toNat
      if !bitOf q 32 then s
      else s.portIssue
        { sorus := n, entry := e, virt := v, turn := s.seq.turn, step := s.seq.step, page := s.pageB n, age := 0,
          write := if bitOf q 31 then some (s.outGroup v ((x >>> 12) % 4)) else none, addr := q % 2 ^ 31 * 8, tag := none,
          ecc := ecc, dead := false, served := false, counted := false, region := none, resp := none }

/-- Every entry that fires in this step and has not fired. -/
def State.fireAll (s : State) : State :=
  (List.range 34).foldl (fun s n =>
    if s.executes n then (List.range 16).foldl (fun s e => s.fireEntry n e .clean) s else s) s

/-- ISSUE_ENTRY_FIRE (R329, R330): `ecc` is what the controller will find in the word. -/
def execIssueEntryFire (sorus : Fin 34) (entry : Fin 16) (ecc : EccFind) (s : State) : Result :=
  .next (s.fireEntry sorus entry ecc)

/-! ## Command slots -/

/-- A fault of a memory port, with the step, turn and page of the issue (R65, R326, R335). -/
def State.portFault (s : State) (r : PortReq) (cause : Nat) : State :=
  { s with arr := { s.arr with faults := s.arr.faults ++
    [{ sorus := r.sorus, cause := cause, frond := 0, bp := 0, step := r.step, turn := r.turn, page := r.page, field := 7,
       value := 0 }] } }

/-- The first claimant of a command slot (R335): the lowest virtual sorus, then the lowest entry. -/
def PortReq.before (x y : PortReq) : Bool := decide (x.virt < y.virt) || (x.virt == y.virt && decide (x.entry < y.entry))

/-- A request of a port at the controller (R326, R327, R338, R339): the response. -/
def State.portServe (s : State) (r : PortReq) : State × (Status × Word64) :=
  let mid : Mid := BitVec.ofNat 8 (0x20 + r.sorus)
  let s1 := if s.hbmMay mid r.addr r.write.isSome then s else s.portFault r 0xB
  match r.write with
  | none =>
    let x := s1.hbmRead mid r.addr 8 r.ecc true
    (x.1, (x.2.1, BitVec.ofNat 64 (natOfBytes x.2.2)))
  | some w =>
    let x := s1.hbmWrite mid r.addr ((bytesOfNat 8 w.toNat).map (fun b => (b, true))) r.ecc true
    (x.1, (x.2, 0))

/-- The command slot of a locked request (R334, R335): served, refused as an access outside its slot, or still held at the fence
of the controller's domain. -/
def State.commandSlot (s0 : State) (r : PortReq) (peers : List PortReq) : State × PortReq :=
  let s := match r.region with
    | some g => s0.regionFree g
    | none => s0
  let pc := (s.issueEntry r.sorus r.entry >>> 32) % 16
  let second := peers.any (fun x => (s.issueEntry x.sorus x.entry >>> 32) % 16 == pc && x.before r)
  if r.addr / 256 % 16 ≠ pc ∨ second then
    (s.portFault r 9, { r with served := true, resp := some (Code.denied, 0) })
  else if !s.domOn 70 then (s.firstAccess (BitVec.ofNat 8 (0x20 + r.sorus)) 70 .bare, { r with served := true })
  else
    let x := s.portServe r
    (x.1, { r with served := true, resp := some x.2 })

/-- The command slots of this step: locked requests of age 32 (R334).
(DEDUCED, log 50.) -/
def State.commandSlots (s : State) : State :=
  let due := s.hbm.reqs.filter (fun r => !r.served && r.age == 32 && r.tag.isNone)
  due.foldl (fun s r =>
    let x := s.commandSlot r due
    { x.1 with hbm := { x.1.hbm with reqs := x.1.hbm.reqs.map (fun y => if y = r then x.2 else y) } }) s

/-! ## Releases -/

/-- What a response lands (R331, R333): the read data on RG, and STPOS; an entry whose STPOS lies in its own RG group lands both
at once, the status on its position.
(DEDUCED, log 52.) -/
def State.stageResponse (s : State) (r : PortReq) : State :=
  let x := s.issueEntry r.sorus r.entry
  let rg := (x >>> 14) % 4
  let st := (x >>> 16) % 256
  let ok := match r.resp with
    | some (c, _) => c == Code.ok
    | none => false
  let data : Word64 := match r.resp with
    | some (c, d) => if c = Code.ok then d else 0
    | none => 0
  let stMask : Word64 := BitVec.ofNat 64 (2 ^ (st % 64))
  let stBits : Word64 := if ok then stMask else 0
  if r.write.isSome then s.stage (.group r.virt (st / 64) stMask stBits none true 0)
  else if st / 64 = rg then
    s.stage (.group r.virt rg (BitVec.allOnes 64) ((data &&& ~~~ stMask) ||| stBits) none true 0)
  else (s.stage (.group r.virt rg (BitVec.allOnes 64) data none true 0)).stage (.group r.virt (st / 64) stMask stBits none true 0)

/-- A request leaves the port: it is no longer outstanding. -/
def State.portDone (s : State) (r : PortReq) : State :=
  let node := nodeOfVirtual r.virt
  let s1 : State := { s with hbm := { s.hbm with reqs := s.hbm.reqs.filter (fun y => !decide (y = r)) } }
  if r.counted then s1.setFld (Fld.RZ_OUTST_COUNT node 0) (s1.fld (Fld.RZ_OUTST_COUNT node 0) - 1) else s1

/-- The release of a request (R331, R332): its response lands; a missing one is a MEM overrun in locked mode; a request of a
sorus that stopped lands nothing (R329). -/
def State.releaseReq (s : State) (r : PortReq) : State :=
  let s1 := s.portDone r
  if r.dead then s1
  else
    let s2 := if r.resp.isNone && s1.lockedSchedule then s1.turnOverrun 1 (some r.sorus) else s1
    s2.stageResponse r

/-- A locked request is due for release in this step: s + RLAT − 1 (R331). -/
def State.releaseDue (s : State) (r : PortReq) : Bool :=
  s.lockedSchedule && r.age + 1 == (s.issueEntry r.sorus r.entry >>> 24) % 256

/-- The releases of this step, of one entry or of every one (R331). -/
def State.releasePorts (s : State) (p : PortReq → Bool) : State :=
  (s.hbm.reqs.filter (fun r => s.releaseDue r && p r)).foldl (fun s r => s.releaseReq r) s

/-- The releases of a boundary in elastic mode (R332). -/
def State.releaseElastic (s : State) : State :=
  if s.lockedSchedule then s else s.hbm.reqs.foldl (fun s r => if r.resp.isSome || r.dead then s.releaseReq r else s) s

/-- A sorus stops executing: the responses still due to its port are discarded (R329).
(DEDUCED, log 106.) -/
def State.portsDead (s : State) (n : Nat) : State :=
  { s with hbm := { s.hbm with reqs := s.hbm.reqs.map (fun r => if r.sorus = n then { r with dead := true } else r) } }

/-- Requests grow older by an executed step. -/
def State.agePorts (s : State) : State :=
  { s with hbm := { s.hbm with reqs := s.hbm.reqs.map (fun r => { r with age := r.age + 1 }) } }

/-- A request of this turn still waits for its response (cause MEM, R126). -/
def State.memWaits (s : State) : Bool := s.hbm.reqs.any (fun r => r.resp.isNone && !r.dead)

/-- MEMORY_PORT_RELEASE (R331). -/
def execMemoryPortRelease (sorus : Fin 34) (entry : Fin 16) (s : State) : Result :=
  .next (if s.seqState = 2 then s.releasePorts (fun r => r.sorus == sorus.val && r.entry == entry.val) else s)

/-! ## Refresh, training and temperature -/

/-- A quiet window of a pseudo-channel is open (R336). -/
def State.quietNow (s : State) (pc : Nat) : Bool :=
  (List.range 64).any (fun w =>
    let x := (s.reg (Reg.HBM_QUIET w 0)).toNat + (s.reg (Reg.HBM_QUIET w 1)).toNat * 2 ^ 32
    let qe := (x >>> 16) % 16
    let cyc := 2 ^ qe * s.turnLen
    let o := (x >>> 20) % 256 % 2 ^ qe * s.turnLen + (x >>> 28) % 1024
    bitOf x 63 && bitOf x pc && decide (qe ≤ 8) && decide (0 < cyc) &&
      decide ((s.stepIndex % cyc + 2 * cyc - o % cyc) % cyc < (x >>> 38) % 4096))

/-- REFRESH (R336): in a locked run only inside a quiet window of the pseudo-channel.
(DEDUCED, log 53.) -/
def execRefresh (pc : Fin 16) (s : State) : Result :=
  .next (if s.flag Fld.HBM_STATUS_READY && (!s.lockedSchedule || s.seqState != 2 || s.quietNow pc) then
    { s with hbm := { s.hbm with refreshes := Sparse.put 0 s.hbm.refreshes pc (Sparse.get 0 s.hbm.refreshes pc + 1) } }
   else s)

/-- STACK_TEMPERATURE_POLL (R322, R339): the temperature in °C, signed. -/
def execStackTemperaturePoll (temp : BitVec 8) (s : State) : Result :=
  .next (if s.domOn 71 then
    let s1 := s.setReg Reg.HBM_TEMP (BitVec.ofNat 32 temp.toNat)
    if 85 < temp.toInt then s1.raiseBit Fld.HBM_STATUS_TEMP_HI 377 else s1
   else s)

/-- A write in the controller's range (R343). -/
def State.hbmRegWrite (s : State) (a : Nat) (v : Word32) : State :=
  if a = Reg.HBM_ERR_INFO ∧ bitOf v.toNat 31 then s.clearRecord .hbmErr
  else s.storeReg a v

end Sys2Proof.Machine
end

