-- ==== Sys2Proof/Machine/Acquisition.lean ====
section
/-! DEFINITION.  The acquisition engine (R281 to R321): capture, calibration and reductions, the archive, triggers and records,
dumps, the context window and probe capture. -/

namespace Sys2Proof.Machine

/-! ## Contexts (R289 to R295) -/

/-- Context `c`; a context that nothing has written reads 0 (log entry 60).
(DESIGN CHOICE, log 60.) -/
def State.ctxOf (s : State) (c : Nat) : BitVec 512 := Sparse.get 0 s.acq.ctx c

/-- A context set. -/
def State.setCtx (s : State) (c : Nat) (v : BitVec 512) : State := { s with acq := { s.acq with ctx := Sparse.put 0 s.acq.ctx c v } }

/-- The `w` bits from bit `lo` of a context. -/
def ctxGet (x : BitVec 512) (lo w : Nat) : Nat := (x.toNat >>> lo) % 2 ^ w

/-- The `w` bits from bit `lo` of a context set. -/
def ctxPut (x : BitVec 512) (lo w v : Nat) : BitVec 512 :=
  BitVec.ofNat 512 (x.toNat - ctxGet x lo w * 2 ^ lo + (v % 2 ^ w) * 2 ^ lo)

/-- The empty state of the reductions (R293). -/
def ctxEmpty (x : BitVec 512) : BitVec 512 :=
  BitVec.ofNat 512 (x.toNat % 2 ^ 88 + 0x7FFFFF * 2 ^ 88 + 0x800000 * 2 ^ 112)

/-- A sample as a number (R284). -/
def sampleOf (signed : Bool) (w : Nat) (word : Word64) (k : Nat) : Int :=
  let x := (word.toNat >>> (k * w)) % 2 ^ w
  if signed then signedOf w x else (x : Int)

/-- The calibrated value of a sample (R290). -/
def calibrate (x : BitVec 512) (v : Int) : Int := ((v - (ctxGet x 16 16 : Int)) * (ctxGet x 0 16 : Int)) / 4096

/-- The histogram bin of a value (R292). -/
def ctxBin (x : BitVec 512) (v : Int) : Nat :=
  let b := (v - signedOf 16 (ctxGet x 56 16)) / (2 ^ ctxGet x 52 4 : Int)
  if b < 0 then 0 else if 15 < b then 15 else b.toNat

/-- The reductions of a value, and whether one saturates (R292). -/
def ctxReduce (x : BitVec 512) (v : Int) : BitVec 512 × Bool :=
  let n := ctxGet x 256 32
  if n = 0xFFFFFFFF then (x, true)
  else
    let mn := signedOf 24 (ctxGet x 88 24)
    let mx := signedOf 24 (ctxGet x 112 24)
    let sum := signedOf 56 (ctxGet x 136 56)
    let sq := ctxGet x 192 64 + (v * v).toNat
    let b := ctxBin x v
    let h := ctxGet x (288 + 14 * b) 14
    let x1 := ctxPut x 88 24 (natOfInt 24 (if v < mn then v else mn))
    let x2 := ctxPut x1 112 24 (natOfInt 24 (if mx < v then v else mx))
    let x3 := ctxPut x2 136 56 (natOfInt 56 (sum + v))
    let x4 := ctxPut x3 192 64 (min sq (2 ^ 64 - 1))
    let x5 := ctxPut x4 256 32 (n + 1)
    (ctxPut x5 (288 + 14 * b) 14 (min (h + 1) 16383), decide (2 ^ 64 ≤ sq) || h == 16383)

/-- A value violates its context's envelope (R291). -/
def State.violates (s : State) (c : Nat) (x : BitVec 512) (v : Int) : Bool :=
  let env := ctxGet x 72 16
  if !bitOf (ctxGet x 50 1) 0 || decide (1024 ≤ env) then false
  else
    let lo := signedOf 24 (s.reg (Reg.ACQ_ENV (c / 4096) env 0)).toNat
    let hi := signedOf 24 (s.reg (Reg.ACQ_ENV (c / 4096) env 1)).toNat
    decide (v < lo) || decide (hi < v)

/-- An uncorrectable context (R295): written to 0, recorded, EV342.
(DEDUCED, log 109.) -/
def State.ctxUnc (s : State) (c : Nat) : State :=
  (((s.setCtx c 0).setFld Fld.ACQ_ECC_CTX_CTX c).setFlag Fld.ACQ_ECC_CTX_VALID true).raiseBit Fld.ACQ_STATUS_ECC_UNC 342

/-- What an access finds in a context (R295). -/
def State.ctxCheck (s : State) (c : Nat) : EccFind → State
  | .clean => s
  | .corrected => s.countReg Reg.ACQ_ECC_CORR
  | .uncorrectable => s.ctxUnc c

/-! ## Lanes and stops -/

/-- Lane `i` in the engine. -/
def State.acqLane (s : State) (i : Nat) : AcqLane := Sparse.get AcqLane.reset s.acq.lanes i

/-- A lane in the engine set. -/
def State.setAcqLane (s : State) (i : Nat) (v : AcqLane) : State :=
  { s with acq := { s.acq with lanes := Sparse.put AcqLane.reset s.acq.lanes i v } }

/-- The lane's archive is stopped (R299). -/
def State.acqStopped (s : State) (i : Nat) : Bool := s.flag (Fld.ACQ_LN_STAT_STOPPED i)

/-- Lane `i` stops after the word at its stop index (R299). -/
def State.stopReached (s : State) (i : Nat) : State :=
  let l := s.acqLane i
  match l.stop with
  | some x =>
    if !s.acqStopped i && decide (x < l.count) then
      ((s.setFlag (Fld.ACQ_LN_STAT_STOPPED i) true).setFlag Fld.ACQ_STATUS_STOPPED true).raiseBit Fld.ACQ_STATUS_ARCH_STOP 344
    else s
  | none => s

/-- A violation with STOP_EN sets stop indices where none is set (R299); `n` is the violating word's index.
(DEDUCED, log 108.) -/
def State.setStops (s : State) (i n : Nat) : State :=
  let post := s.fld Fld.ACQ_CTRL_STOP_POST
  let give := fun (s : State) (j x : Nat) =>
    if (s.acqLane j).stop.isSome || s.acqStopped j then s else s.setAcqLane j { s.acqLane j with stop := some x }
  if s.flag Fld.ACQ_CTRL_STOP_ALL then
    (List.range 96).foldl (fun s j =>
      if s.flag (Fld.ACQ_LN_CFG_ARCH j) && s.admitted j then
        (if j = i then give s j (n + post) else (give s j ((s.acqLane j).count - 1 + post)).stopReached j) else s) s
  else if s.flag (Fld.ACQ_LN_CFG_ARCH i) then give s i (n + post)
  else s

/-- A sample in its context (R289 to R292). -/
def State.sample (s : State) (i n c : Nat) (v : Int) : State :=
  let x := s.ctxOf c
  if !bitOf (ctxGet x 49 1) 0 then s
  else
    let y := calibrate x v
    let viol := s.violates c x y
    let s1 := if viol then
        let a := s.countReg Reg.ACQ_VIOL_CNT
        let b := if a.flag Fld.ACQ_VIOL_VALID then a
          else ((a.setFld Fld.ACQ_VIOL_CTX c).setReg Reg.ACQ_VIOL_VAL (BitVec.ofNat 32 (natOfInt 24 y))).setFlag
            Fld.ACQ_VIOL_VALID true
        b.raiseBit Fld.ACQ_STATUS_VIOL 343
      else s
    let s2 := if viol && bitOf (ctxGet x 51 1) 0 then s1.setStops i n else s1
    let r := ctxReduce x y
    let s3 := s2.setCtx c r.1
    if r.2 then s3.raiseBit Fld.ACQ_STATUS_SAT 353 else s3

/-- RPHASE of a context (R283 order 4): the lane's residual phase, a free value while it is valid. -/
def State.setRphase (s : State) (i c : Nat) : State :=
  if !bitOf (ctxGet (s.ctxOf c) 49 1) 0 then s
  else if s.laneFixed i then
    let f := s.takeFree
    f.2.setCtx c (ctxPut (f.2.ctxOf c) 44 5 (f.1.toNat % 32))
  else s.setCtx c (ctxPut (s.ctxOf c) 44 5 0)

/-- The word's samples in their contexts (R283 orders 3 and 4, R285). -/
def State.samples (s : State) (i n p : Nat) (w : Word64) (eccs : List EccFind) : State :=
  let width := sampleWidth (s.fld (Fld.ACQ_LN_CFG_W i))
  (List.range (s.fld (Fld.ACQ_LN_CFG_SPW i))).foldl (fun s k =>
    let c := (s.fld (Fld.ACQ_LN_CFG_BANK i) + k) * 4096 + s.fld (Fld.ACQ_LN_MAP_OFFSET i) + p
    ((s.ctxCheck c (eccs.getD k .clean)).sample i n c (sampleOf (s.flag (Fld.ACQ_LN_CFG_SIGNED i)) width w k)).setRphase i c) s

/-- The cycle position of a word (R286). -/
def State.acqPos (s : State) (i n : Nat) (w : Word64) (valid : Bool) : Option Nat :=
  let cyc := s.acqCycle i
  if !s.flag (Fld.ACQ_LN_CFG_SYNC i) then some (n % cyc)
  else if valid && w.getLsbD (s.fld (Fld.ACQ_LN_CFG_MBIT i)) then some 0
  else match (s.acqLane i).pos with
    | some p => some ((p + 1) % cyc)
    | none => none

/-! ## The archive (R297 to R299) -/

/-- The place of word `n` in a lane's ring: its address, and the byte and bit of its VALID flag. -/
def State.ringPlace (s : State) (i : Nat) (n : Int) : Nat × Nat × Nat :=
  let sz := s.acqRing i
  let m := (n % (sz : Int)).toNat
  (s.acqRingBase i + m * 8, s.acqRingBase i + sz * 8 + m / 8, m % 8)

/-- A run of dropped words grows, or a new one begins; four are kept (R298). -/
def gapAdd (n : Nat) : List (Nat × Nat) → List (Nat × Nat)
  | (a, b) :: r => if n = b + 1 then (a, n) :: r else ((n, n) :: (a, b) :: r).take 4
  | [] => [(n, n)]

/-- An archive word is dropped (R298). -/
def State.archiveDrop (s : State) (i n : Nat) : State :=
  let l := s.acqLane i
  ((s.setAcqLane i { l with gaps := gapAdd n l.gaps }).countReg Reg.ACQ_ARCH_DROP).raiseBit Fld.ACQ_STATUS_ARCH_DROP 341

/-- An archive word is written, or dropped where the controller refuses it (R297, R298). -/
def State.archiveWrite (s : State) (i n : Nat) (w : Word64) (valid : Bool) : State :=
  let p := s.ringPlace i n
  let r := s.hbmWrite 0x12 p.1 ((bytesOfNat 8 w.toNat).map (fun b => (b, true))) .clean
  if r.2 = Code.ok then
    let old := (r.1.hbmByte p.2.1).toNat
    let cleared := if bitOf old p.2.2 then old - 2 ^ p.2.2 else old
    r.1.setHbmByte p.2.1 (BitVec.ofNat 8 (if valid then cleared + 2 ^ p.2.2 else cleared))
  else r.1.archiveDrop i n

/-! ## Records -/

/-- The lanes of a class (R319). -/
def State.classLanes (s : State) (k : Nat) : List Nat :=
  (List.range 96).filter (fun i => bitOf (s.reg (Reg.ACQ_CLS_LANE k (i / 32))).toNat (i % 32))

/-- PRE, POST and FMT of a record. -/
def AcqRec.pre (r : AcqRec) : Nat := r.win.toNat % 65536
def AcqRec.post (r : AcqRec) : Nat := r.win.toNat / 65536
def AcqRec.samples (r : AcqRec) : Bool := bitOf r.cfg.toNat 23

/-- The contexts of a lane's slots, with CYCLE 1 (R302). -/
def State.laneCtxs (s : State) (i : Nat) : List Nat :=
  (List.range (s.fld (Fld.ACQ_LN_CFG_SPW i))).map (fun k =>
    (s.fld (Fld.ACQ_LN_CFG_BANK i) + k) * 4096 + s.fld (Fld.ACQ_LN_MAP_OFFSET i))

/-- The shifts of the windows of a lane: DL under WORDS, DELAY of each context under SAMPLES (R302). -/
def State.laneShifts (s : State) (r : AcqRec) (i : Nat) : List Nat :=
  if r.samples then (s.laneCtxs i).map (fun c => ctxGet (s.ctxOf c) 32 12) else [(s.reg (Reg.ACQ_LN_DELAY i)).toNat % 4096]

/-- First and last raw index that a lane's windows need (R302). -/
def State.laneSpan (s : State) (r : AcqRec) (i nt : Nat) : Int × Int :=
  let sh := s.laneShifts r i
  let lo := sh.foldl (fun a x => min a x) (sh.headD 0)
  let hi := sh.foldl (fun a x => max a x) 0
  ((nt : Int) + lo - r.pre, (nt : Int) + hi + r.post)

/-- The first condition of R304, or of R558, that refuses a record at its trigger. -/
def State.recRefusal (s : State) (r : AcqRec) : Option Status :=
  let dest := r.cfg.toNat / 2 ^ 24 % 16
  let bad := fun (l : Nat × Nat × Nat) => !s.admitted l.1 || !s.flag (Fld.ACQ_LN_CFG_ARCH l.1) || (r.samples && s.acqCycle l.1 != 1)
  let old := fun (l : Nat × Nat × Nat) =>
    let sp := s.laneSpan r l.1 l.2.1
    let sz : Int := s.acqRing l.1
    decide (sp.1 < ((s.acqLane l.1).since : Int)) && decide (0 < (s.acqLane l.1).since) ||
    decide (sp.1 < ((s.acqLane l.1).count : Int) - 1 - sz + 4096) || decide (sz - 4096 < sp.2 - sp.1 + 1)
  let past := fun (l : Nat × Nat × Nat) => match (s.acqLane l.1).stop with
    | some x => decide ((x : Int) < (s.laneSpan r l.1 l.2.1).2)
    | none => false
  if !s.flag Fld.ACQ_CTRL_EN then some Code.acqStopped
  else if 64 ≤ s.acq.recs.length then some Code.acqBusy
  else if !s.flag (Fld.ACQ_DEST_EN dest) || r.lanes.any bad then some Code.acqCfg
  else if r.lanes.any (fun l => (s.acqLane l.1).count == 0) then some Code.acqRange
  else if r.lanes.any old then some Code.acqRange
  else if r.lanes.any past then some Code.acqStopped
  else none

/-- A record lost (R304): the count, the code and the class, and EV345, or EV347 for a link refusal. -/
def State.recLost (s : State) (cls : Nat) (code : Status) (link : Bool) : State :=
  let s1 := ((s.countReg Reg.ACQ_REC_LOST).setFld Fld.ACQ_REC_STAT_CODE code.toNat).setFld Fld.ACQ_REC_STAT_CLASS cls
  if link then s1.raiseBit Fld.ACQ_STATUS_TX_REFUSED 347 else s1.raiseBit Fld.ACQ_STATUS_REC_REFUSED 345

/-- The residual phases of some lanes at the trigger: free values where they are valid (R231, R306). -/
def State.phases (s : State) : List Nat → List (Nat × Nat × Nat) × State
  | [] => ([], s)
  | i :: r =>
    let f := if s.laneFixed i then s.takeFree else (0, s)
    let rest := State.phases f.2 r
    ((i, (s.acqLane i).count - 1, f.1.toNat % 32) :: rest.1, rest.2)

/-- A trigger of an enabled class (R300, R301, R304).
(DEDUCED, log 107.) -/
def State.triggerClass (s : State) (k turn step : Nat) : State :=
  if !s.flag (Fld.ACQ_CLS_CFG_EN k) then s
  else
    let ph := s.phases (s.classLanes k)
    let s1 := ph.2
    let r : AcqRec :=
      { cls := k, seq := s1.acq.nextSeq, turn := turn, step := step, time := s1.now, cfg := s1.reg (Reg.ACQ_CLS_CFG k),
        win := s1.reg (Reg.ACQ_CLS_WIN k), meas := (s1.reg (Reg.ACQ_CLS_MEAS k)).toNat % 2 ^ 18, lanes := ph.1,
        complete := false, incomplete := false }
    let s2 : State := { s1 with acq := { s1.acq with nextSeq := (s1.acq.nextSeq + 1) % 2 ^ 32 } }
    match s2.recRefusal r with
    | some c => s2.recLost k c false
    | none => { s2 with acq := { s2.acq with recs := s2.acq.recs ++ [r] } }

/-- Every lane of a record has delivered the last index it needs (R303). -/
def State.recReady (s : State) (r : AcqRec) : Bool :=
  r.lanes.all (fun l => decide ((s.laneSpan r l.1 l.2.1).2 < (s.acqLane l.1).count))

/-- The refusals while records are built (R304): a needed word overwritten, or beyond a stop. -/
def State.recAbandon (s : State) (r : AcqRec) : Option Status :=
  let sz := fun (i : Nat) => ((s.acqRing i : Nat) : Int)
  if r.lanes.any (fun l => !s.acqStopped l.1 &&
      decide ((s.laneSpan r l.1 l.2.1).1 + sz l.1 - 4096 < (s.acqLane l.1).count)) then some Code.acqRange
  else if !r.complete && r.lanes.any (fun l => match (s.acqLane l.1).stop with
      | some x => decide ((x : Int) < (s.laneSpan r l.1 l.2.1).2)
      | none => false) then some Code.acqStopped
  else none

/-- The pending records checked after a captured word (R304). -/
def State.buildCheck (s : State) : State :=
  s.acq.recs.foldl (fun s r =>
    match s.recAbandon r with
    | some c => ({ s with acq := { s.acq with recs := s.acq.recs.filter (fun x => x.seq != r.seq) } } : State).recLost r.cls c false
    | none => s) s

/-! ## Capture -/

/-- A captured word (R283): index, position, samples, archive.
(DEDUCED, log 107.) -/
def State.captureWord (s : State) (x : AcqWord) (eccs : List EccFind) (drop : Bool) : State :=
  let i := x.lane
  if !s.flag Fld.ACQ_CTRL_EN || !s.admitted i then s
  else
    let l := s.acqLane i
    let n := l.count
    let pos := s.acqPos i n x.value x.valid
    let s1 := (s.setAcqLane i { l with count := n + 1, pos := pos }).when
      (s.flag (Fld.ACQ_LN_CFG_SYNC i) && pos.isSome) (fun s => s.setFlag (Fld.ACQ_LN_STAT_SYNCED i) true)
    let s2 := if x.full then (s1.countReg Reg.ACQ_CTX_SKIP).raiseBit Fld.ACQ_STATUS_CAP_OVF 340
      else if x.valid then
        match pos with
        | some p => s1.samples i n p x.value eccs
        | none => s1
      else s1
    let s3 := if s2.flag (Fld.ACQ_LN_CFG_ARCH i) && !s2.acqStopped i then
        (if drop then s2.archiveDrop i n else s2.archiveWrite i n x.value x.valid) else s2
    (s3.stopReached i).buildCheck

/-- A READOUT word (R309): sent onward when ACQ_FWD.EN is 1, else dropped. -/
def State.forward (s : State) (x : AcqWord) (turn : Nat) : State :=
  let d := s.fld Fld.ACQ_FWD_DEST
  if !s.flag Fld.ACQ_FWD_EN then s.countReg (Reg.LN_LE_DROP x.lane)
  else if !s.flag (Fld.ACQ_DEST_EN d) then s
  else if s.flag (Fld.ACQ_DEST_KIND d) then
    { s with acq := { s.acq with readout := s.acq.readout ++ [(s.fld (Fld.ACQ_DEST_LANE d), turn, [x.value])] } }
  else s.sendDatagram (s.fld (Fld.ACQ_DEST_LANE d)) (s.fld (Fld.ACQ_DEST_ETH d)) (bytesOfNat 8 x.value.toNat)

/-- The oldest word handed over is taken. -/
def State.captureNext (s : State) (eccs : List EccFind) (drop : Bool) : State :=
  match s.acq.inbox with
  | [] => s
  | x :: r =>
    let s1 : State := { s with acq := { s.acq with inbox := r } }
    match x.readout with
    | some t => s1.forward x t
    | none => s1.captureWord x eccs drop

/-- Every word handed over is taken. -/
def State.captureAll (s : State) : State := s.acq.inbox.foldl (fun s _ => s.captureNext [] false) s

/-- CAPTURE_WORD (R283): `eccs` is what the accesses of the word's contexts find. -/
def execCaptureWord (eccs : List EccFind) (s : State) : Result := .next (s.captureNext eccs false)

/-- ARCHIVE_DROP (R298): the oldest word is taken, and its archive write finds a full buffer or fails. -/
def execArchiveDrop (s : State) : Result := .next (s.captureNext [] true)

/-- A write of ACQ_CTRL (R283, R317): a rise of EN restarts indices, positions, stops and SEQ.
(DEDUCED, log 107.) -/
def State.acqCtrlWrite (s : State) (v : Word32) : State :=
  let rise := bitOf v.toNat 0 && !s.flag Fld.ACQ_CTRL_EN
  let s1 := (s.setReg Reg.ACQ_CTRL (v &&& 0xFFFF0003)).setFlag Fld.ACQ_STATUS_RUN (bitOf v.toNat 0)
  if rise then
    let s2 : State := { s1 with acq := { s1.acq with lanes := [], nextSeq := 0 } }
    ((List.range 96).foldl (fun s i => (s.setFlag (Fld.ACQ_LN_STAT_SYNCED i) false).setFlag (Fld.ACQ_LN_STAT_STOPPED i) false)
      (s2.setFlag Fld.ACQ_STATUS_STOPPED false))
  else s1

/-- ACQ_ENABLE (R283): a write of ACQ_CTRL with EN 1. -/
def execAcqEnable (mid : Mid) (value : Word32) (s : State) : Result :=
  .next (s.gate mid Reg.ACQ_CTRL (some (value ||| 1)) (fun s => (s.acqCtrlWrite (value ||| 1)).reply Code.ok))

/-- The trigger condition of a class in this step for accept lines and pins (R300). -/
def State.classFires (s : State) (k : Nat) : Bool :=
  let sel := s.fld (Fld.ACQ_CLS_CFG_SEL k)
  match s.fld (Fld.ACQ_CLS_CFG_SRC k) with
  | 1 =>
    let now := s.iob.accept.getLsbD (sel % 16)
    let was := s.iob.acceptOld.getLsbD (sel % 16)
    decide (sel < 16) && (if s.flag (Fld.ACQ_CLS_CFG_EDGE k) then now && !was
      else now && s.fld (Fld.ACQ_CLS_CFG_ACC_STEP k) == s.seq.step)
  | 3 => decide (sel < 192) && s.eventBit sel && !((s.iob.captures.getD 4 0).getLsbD sel)
  | _ => false

/-- A class triggers once in a step when its source fires (R300, R301). -/
def State.triggerStep (s : State) (k : Nat) : State :=
  if s.seqState = 2 ∧ s.classFires k ∧ Sparse.get false s.acq.triggered k = false then
    ({ s with acq := { s.acq with triggered := Sparse.put false s.acq.triggered k true } } : State).triggerClass k s.seq.turn s.seq.step
  else s

/-- Every class whose source fires in this step, in ascending order. -/
def State.triggerAll (s : State) : State := (List.range 16).foldl (fun s k => s.triggerStep k) s

/-- RECORD_TRIGGER (R300, R301). -/
def execRecordTrigger (cls : Fin 16) (s : State) : Result := .next (s.triggerStep cls)

/-- RECORD_COMPLETE (R303). -/
def execRecordComplete (seq : Word32) (s : State) : Result :=
  .next { s with acq := { s.acq with recs := s.acq.recs.map (fun r =>
    if r.seq = seq.toNat ∧ s.recReady r then { r with complete := true } else r) } }

/-- RECORD_TIMEOUT (R303). -/
def execRecordTimeout (seq : Word32) (s : State) : Result :=
  .next (if s.acq.recs.any (fun r => r.seq == seq.toNat && !r.complete && !s.recReady r) then
    ({ s with acq := { s.acq with recs := s.acq.recs.map (fun r =>
      if r.seq = seq.toNat then { r with complete := true, incomplete := true } else r) } } : State).raiseBit
      Fld.ACQ_STATUS_REC_INCOMPLETE 346
   else s)

/-! ## The record's bytes (R305 to R307) -/

/-- Word `n` of a lane and its VALID flag as the archive holds them; a word not delivered reads 0 with VALID 0 (R303). -/
def State.archived (s : State) (i : Nat) (n : Int) : Word64 × Bool :=
  if (((s.acqLane i).count : Nat) : Int) ≤ n then (0, false)
  else
    let p := s.ringPlace i n
    (BitVec.ofNat 64 (natOfBytes (s.hbmBytes p.1 8)), bitOf (s.hbmByte p.2.1).toNat p.2.2)

/-- VALID bits as 64-bit words (R306). -/
def validWords (l : List Bool) : List Byte :=
  (List.range ((l.length + 63) / 64)).flatMap (fun k =>
    bytesOfNat 8 ((List.range 64).foldl (fun a j => if l.getD (64 * k + j) false then a + 2 ^ j else a) 0))

/-- The words of a window: `NW` words from index `n` on.
(DEDUCED, log 110.) -/
def State.window (s : State) (i : Nat) (n : Int) (nw : Nat) : List (Word64 × Bool) :=
  (List.range nw).map (fun (j : Nat) => s.archived i (n + (j : Int)))

/-- The samples of slot `k` in a window, as sent: 16 bits each. -/
def State.windowSamples (s : State) (i k : Nat) (ws : List (Word64 × Bool)) : List (Int × Bool) :=
  let w := sampleWidth (s.fld (Fld.ACQ_LN_CFG_W i))
  ws.map (fun x => (sampleOf (s.flag (Fld.ACQ_LN_CFG_SIGNED i)) w x.1 k, x.2))

/-- A lane block, and whether some word or sample has VALID 0 (R306). -/
def State.laneBlock (s : State) (r : AcqRec) (l : Nat × Nat × Nat) : List Byte × Bool :=
  let i := l.1
  let nw := r.pre + r.post + 1
  let first : Int := if r.samples then (l.2.1 : Int) - r.pre else (s.laneSpan r i l.2.1).1
  let ctxs := if r.samples then s.laneCtxs i else []
  let flags := (if r.samples then 1 else 0) + 2 * s.fld (Fld.ACQ_LN_CFG_W i) + (if s.flag (Fld.ACQ_LN_CFG_SIGNED i) then 16 else 0)
  let head := bytesOfNat 1 i ++ bytesOfNat 1 flags ++ bytesOfNat 1 (s.fld (Fld.ACQ_LN_CFG_SPW i)) ++ bytesOfNat 1 l.2.2 ++
    bytesOfNat 2 nw ++ bytesOfNat 2 ctxs.length ++ bytesOfNat 8 (natOfInt 48 first)
  if r.samples then
    (List.range ctxs.length).foldl (fun b k =>
      let c := ctxs.getD k 0
      let ws := s.window i (first + (ctxGet (s.ctxOf c) 32 12 : Int)) nw
      let e := bytesOfNat 4 c ++ (s.windowSamples i k ws).flatMap (fun x => bytesOfNat 2 (natOfInt 16 x.1))
      (b.1 ++ padTo ((e.length + 7) / 8 * 8) e ++ validWords (ws.map (fun x => x.2)), b.2 || ws.any (fun x => !x.2)))
      (head, false)
  else
    let ws := s.window i first nw
    (head ++ ws.flatMap (fun x => bytesOfNat 8 x.1.toNat) ++ validWords (ws.map (fun x => x.2)), ws.any (fun x => !x.2))

/-- Some window of a record meets a run of dropped words (R298). -/
def State.recGap (s : State) (r : AcqRec) : Bool :=
  r.lanes.any (fun l =>
    let sp := s.laneSpan r l.1 l.2.1
    (s.acqLane l.1).gaps.any (fun g => decide ((g.1 : Int) ≤ sp.2 ∧ sp.1 ≤ (g.2 : Int))))

/-- The upward crossings of a level, in 1/256 sample, over values and their places in the window (R307). -/
def crossings (lvl : Int) : List (Nat × Int) → List Int
  | (_, a) :: (j, b) :: r =>
    (if a < lvl ∧ lvl ≤ b then [((j : Int) - 1) * 256 + 256 * (lvl - a) / (b - a)] else []) ++ crossings lvl ((j, b) :: r)
  | _ => []

/-- The measurement block (R307). -/
def State.measBlock (s : State) (r : AcqRec) : List Byte :=
  let place := if r.samples then r.lanes.findSome? (fun l =>
      ((s.laneCtxs l.1).findIdx? (fun c => c == r.meas)).map (fun k => (l, k))) else none
  match place with
  | none => List.replicate 0x1E 0 ++ [1, 0]
  | some (l, k) =>
    let x := s.ctxOf r.meas
    let ws := s.window l.1 ((l.2.1 : Int) - r.pre + (ctxGet x 32 12 : Int)) (r.pre + r.post + 1)
    let sm := s.windowSamples l.1 k ws
    let vs := (List.range sm.length).filterMap (fun j =>
      let y := sm.getD j (0, false)
      if y.2 then some (j, calibrate x y.1) else none)
    match vs with
    | [] => bytesOfNat 4 r.meas ++ List.replicate 0x10 0 ++ bytesOfNat 4 0xFFFFFFFF ++ List.replicate 8 0
    | v0 :: _ =>
      let mn := vs.foldl (fun a v => min a v.2) v0.2
      let mx := vs.foldl (fun a v => max a v.2) v0.2
      let am := mx - mn
      let area := vs.foldl (fun a v => a + (v.2 - mn)) 0
      let lo := crossings (mn + am / 10) vs
      let rise := match lo with
        | [] => 0xFFFFFFFF
        | a :: _ => match (crossings (mn + 9 * am / 10) vs).find? (fun b => decide (a ≤ b)) with
          | some b => natOfInt 32 (b - a)
          | none => 0xFFFFFFFF
      let mid := crossings (mn + am / 2) vs
      let period := match mid, mid.getLast? with
        | a :: _ :: _, some z => natOfInt 32 ((z - a) / ((mid.length : Int) - 1))
        | _, _ => 0
      bytesOfNat 4 r.meas ++ bytesOfNat 4 (natOfInt 32 am) ++ bytesOfNat 4 (natOfInt 32 mn) ++ bytesOfNat 8 (natOfInt 64 area) ++
        bytesOfNat 4 rise ++ bytesOfNat 4 period ++ bytesOfNat 2 vs.length ++ bytesOfNat 2 0

/-- The whole record (R305). -/
def State.recBytes (s : State) (r : AcqRec) : List Byte :=
  let blocks := r.lanes.map (fun l => s.laneBlock r l)
  let meas := bitOf r.cfg.toNat 28
  let body := blocks.flatMap (fun b => b.1) ++ (if meas then s.measBlock r else [])
  let bit := fun (c : Bool) (k : Nat) => if c then 2 ^ k else 0
  let flags := bit (s.recGap r) 0 + bit (blocks.any (fun b => b.2)) 1 + bit r.incomplete 2 + bit meas 3 + bit r.samples 4
  let src := r.cfg.toNat / 2 % 8 + (r.cfg.toNat / 16 % 256) * 256
  bytesOfNat 2 0x5A41 ++ [1] ++ bytesOfNat 1 flags ++ bytesOfNat 4 r.seq ++ bytesOfNat 1 r.cls ++
    bytesOfNat 1 (s.fld Fld.DEV_STRAPS_DEVNUM) ++ bytesOfNat 2 r.lanes.length ++ bytesOfNat 4 (64 + body.length) ++
    bytesOfNat 8 r.turn ++ bytesOfNat 2 r.step ++ bytesOfNat 2 src ++ bytesOfNat 4 0 ++ timeBytes r.time ++
    bytesOfNat 2 r.pre ++ bytesOfNat 2 r.post ++ List.replicate 16 0 ++ body

/-! ## Readout (R308 to R310) -/

/-- This twin's device hands records over: unpaired, or the owner of the outputs (R310). -/
def State.handsRecords (s : State) : Bool := s.fld Fld.TWN_STATUS_MODE == 0 || s.flag Fld.TWN_STATUS_OWN

/-- The bytes of a fragment (R308). -/
def State.fragmentLen (s : State) (lane e : Nat) : Nat :=
  let v6 := bitOf ((s.ethDst lane e).getD 6 0).toNat 1
  min 8176 (s.mtu lane - (if v6 then 64 else 44)) / 8 * 8

/-- A record sent as UDP datagrams (R308). -/
def State.sendUdp (s : State) (lane e seq : Nat) (bytes : List Byte) : State :=
  let p := s.fragmentLen lane e
  let n := (bytes.length + p - 1) / p
  (List.range n).foldl (fun s k =>
    s.sendDatagram lane e (bytesOfNat 4 seq ++ bytesOfNat 2 k ++ bytesOfNat 2 n ++ bytesOfNat 4 (k * p) ++
      bytesOfNat 4 bytes.length ++ (bytes.drop (k * p)).take p)) s

/-- The code with which the link engine refuses a record's datagrams (R272, R304).
(DEDUCED, log 110.) -/
def State.udpRefusal (s : State) (lane e : Nat) : Option Status :=
  if !(s.ethernet lane && s.linkUp lane) || s.fld (Fld.LN_LE_CFG_TX_SRC lane) != 2 then some Code.lnDown
  else if !bitOf ((s.ethDst lane e).getD 6 0).toNat 0 then some Code.lnMode
  else none

/-- A record's words as READOUT frames of at most 16 (R309). -/
def readoutFrames (lane turn : Nat) (ws : List Word64) : List (Nat × Nat × List Word64) :=
  (List.range ((ws.length + 15) / 16)).map (fun k => (lane, turn, (ws.drop (16 * k)).take 16))

/-- READOUT frames that have credit are sent, in order (R264, R309).
(DEDUCED, log 110.) -/
def State.pumpReadout (s : State) : State :=
  s.acq.readout.foldl (fun s f =>
    let first := s.acq.readout.find? (fun g => g.1 == f.1)
    if first == some f && s.linkUp f.1 && s.reliable f.1 && s.mayFrame f.1 f.2.2.length then
      ({ s with acq := { s.acq with readout := s.acq.readout.erase f } } : State).putFrame f.1 4 (f.2.1 % 2 ^ 32) 0 false false f.2.2
    else s) s

/-- A record leaves (R308 to R310): a refusal of the link engine loses it.
(DEDUCED, log 110.) -/
def State.sendRecord (s : State) (r : AcqRec) : State :=
  let d := r.cfg.toNat / 2 ^ 24 % 16
  let lane := s.fld (Fld.ACQ_DEST_LANE d)
  let e := s.fld (Fld.ACQ_DEST_ETH d)
  let s1 : State := { s with acq := { s.acq with recs := s.acq.recs.filter (fun x => x.seq != r.seq) } }
  if !s.handsRecords then s1.countReg Reg.ACQ_REC_SENT
  else if s.flag (Fld.ACQ_DEST_KIND d) then
    (({ s1 with acq := { s1.acq with
      readout := s1.acq.readout ++ readoutFrames lane r.turn (wordsOfBytes (s.recBytes r)) } } : State).pumpReadout).countReg
        Reg.ACQ_REC_SENT
  else match s.udpRefusal lane e with
    | some c => (s1.txRefuse lane c).recLost r.cls c true
    | none => (s1.sendUdp lane e r.seq (s.recBytes r)).countReg Reg.ACQ_REC_SENT

/-- RECORD_SEND (R308 to R310): a complete record that no earlier record of its destination precedes. -/
def execRecordSend (seq : Word32) (s : State) : Result :=
  .next (match s.acq.recs.find? (fun r => r.seq == seq.toNat) with
    | none => s.pumpReadout
    | some r =>
      let dest := fun (x : AcqRec) => x.cfg.toNat / 2 ^ 24 % 16
      let first := s.acq.recs.find? (fun x => dest x == dest r)
      if r.complete && first == some r then s.sendRecord r else s.pumpReadout)

/-! ## Commands (R294, R299, R313, R314) -/

/-- A command refused (R314). -/
def State.acqRefuse (s : State) (code : Status) : State :=
  ((s.setFld Fld.ACQ_CMD_STAT_CODE code.toNat).raiseBit Fld.ACQ_STATUS_CMD_REFUSED 354).reply code

/-- A command accepted. -/
def State.acqAccept (s : State) : State := (s.setFld Fld.ACQ_CMD_STAT_CODE 0).reply Code.ok

/-- First bank, banks and region of a dump (R294, R317). -/
def dumpFirst (cfg : Word32) : Nat := cfg.toNat / 32 % 64
def dumpBanks (cfg : Word32) : Nat := cfg.toNat / 2048 % 64 + 1
def dumpRegion (cfg : Word32) : Nat := cfg.toNat % 32

/-- DUMP or CLEAR begins, or is refused (R294, R314). -/
def State.startJob (s : State) (copy : Bool) : State :=
  let cfg := s.reg Reg.ACQ_DUMP_CFG
  let base := (s.reg Reg.ACQ_DUMP_BASE).toNat % 2 ^ 18
  if s.acq.job.isSome then s.acqRefuse Code.acqBusy
  else if copy && (!s.regionHolds (dumpRegion cfg) 0x12 (base * 65536) (dumpBanks cfg * 262144) ||
      decide (64 < dumpFirst cfg + dumpBanks cfg)) then
    (s.raiseBit Fld.ACQ_STATUS_DUMP_FAIL 351).acqRefuse Code.acqRange
  else
    (({ s with acq := { s.acq with job := some { copy := copy, cfg := cfg, base := base } } } : State).setFlag
      Fld.ACQ_CMD_STAT_PENDING true).acqAccept

/-- `n` contexts of a job's range are copied and, as CLR or CLEAR asks, returned to the empty state (R293, R294).
(DEDUCED, log 108.) -/
def State.runJob (s : State) (j : AcqJob) (n : Nat) : State :=
  let c0 := dumpFirst j.cfg * 4096
  let addr := (s.fld (Fld.HBM_RGN_BASE_BASE (dumpRegion j.cfg)) + j.base) * 65536
  (List.range (min n (dumpBanks j.cfg * 4096))).foldl (fun s k =>
    let x := s.ctxOf (c0 + k)
    let s1 := if j.copy then s.setHbmBytes (addr + k * 64) (bytesOfNat 64 x.toNat) else s
    if !j.copy || bitOf j.cfg.toNat 17 then s1.setCtx (c0 + k) (ctxEmpty x) else s1) s

/-- DUMP_DONE (R294).
(DEDUCED, log 108.) -/
def execDumpDone (s : State) : Result :=
  .next (match s.acq.job with
    | none => s
    | some j =>
      let s1 := s.runJob j 262144
      (({ s1 with acq := { s1.acq with job := none } } : State).setFlag Fld.ACQ_CMD_STAT_PENDING false).raiseBit
        Fld.ACQ_STATUS_DUMP_DONE 350)

/-- DUMP_FAIL (R294): an HBM write fails after `copied` contexts.
(DEDUCED, log 108.) -/
def execDumpFail (copied : Nat) (s : State) : Result :=
  .next (match s.acq.job with
    | none => s
    | some j =>
      if !j.copy then s
      else
        let s1 := s.runJob j copied
        (({ s1 with acq := { s1.acq with job := none } } : State).setFlag Fld.ACQ_CMD_STAT_PENDING false).raiseBit
          Fld.ACQ_STATUS_DUMP_FAIL 351)

/-- TRIGGER (R300, R314). -/
def State.acqTrigger (s : State) (k : Nat) : State :=
  if !s.flag (Fld.ACQ_CLS_CFG_EN k) || s.fld (Fld.ACQ_CLS_CFG_SRC k) != 0 then s.acqRefuse Code.acqCfg
  else (s.triggerClass k s.seq.turn s.seq.step).acqAccept

/-- RESTART (R299). -/
def State.acqRestart (s : State) : State :=
  (List.range 96).foldl (fun s i =>
    (s.setAcqLane i { s.acqLane i with stop := none }).setFlag (Fld.ACQ_LN_STAT_STOPPED i) false)
    (s.setFlag Fld.ACQ_STATUS_STOPPED false)

/-- PRB_REARM (R313). -/
def State.prbRearm (s : State) : State :=
  (({ s with acq := { s.acq with freeze := none } } : State).setFlag Fld.ACQ_PRB_STAT_FROZEN false)

/-- A write of ACQ_CMD (R314). -/
def State.acqCommand (s : State) (v : Word32) : State :=
  match v.toNat % 16 with
  | 0 => s.acqAccept
  | 1 => s.acqTrigger (v.toNat / 256 % 16)
  | 2 => s.acqRestart.acqAccept
  | 3 => s.startJob true
  | 4 => s.startJob false
  | 5 => s.prbRearm.acqAccept
  | _ => s.acqRefuse Code.acqCfg

/-- A firing of comparator `n` (R294, R300): it triggers the classes bound to it and may start a dump. -/
def State.acqComparator (s : State) (n : Nat) : State :=
  let s1 := (List.range 16).foldl (fun s k =>
    if s.fld (Fld.ACQ_CLS_CFG_SRC k) = 2 ∧ s.fld (Fld.ACQ_CLS_CFG_SEL k) = n then s.triggerClass k s.seq.turn s.seq.step else s) s
  if s1.flag Fld.ACQ_DUMP_CFG_TC_EN && s1.fld Fld.ACQ_DUMP_CFG_TC_SEL == n then s1.startJob true else s1

/-- TRIGGER as a command. -/
def execAcqTrigger (mid : Mid) (cls : Fin 16) (s : State) : Result :=
  .next (s.gate mid Reg.ACQ_CMD (some (BitVec.ofNat 32 (cls * 256 + 1))) (fun s => s.acqTrigger cls))

/-- RESTART as a command. -/
def execAcqRestart (mid : Mid) (s : State) : Result :=
  .next (s.gate mid Reg.ACQ_CMD (some 2) (fun s => s.acqRestart.acqAccept))

/-- DUMP as a command. -/
def execAcqDump (mid : Mid) (s : State) : Result := .next (s.gate mid Reg.ACQ_CMD (some 3) (fun s => s.startJob true))

/-- CLEAR as a command. -/
def execAcqClear (mid : Mid) (s : State) : Result := .next (s.gate mid Reg.ACQ_CMD (some 4) (fun s => s.startJob false))

/-- PRB_REARM as a command. -/
def execPrbRearm (mid : Mid) (s : State) : Result :=
  .next (s.gate mid Reg.ACQ_CMD (some 5) (fun s => s.prbRearm.acqAccept))

/-! ## The context window (R296) -/

/-- The context of a window offset. -/
def State.windowCtx (s : State) (o : Nat) : Nat := 131072 * s.fld Fld.ACQ_CTX_WIN_HALF + o / 64

/-- A read in the context window; a word of a context that no read has latched is a free value (R295, R296).
(DEDUCED, log 109.) -/
def State.ctxWindowRead (s : State) (o : Nat) (ecc : EccFind) : State :=
  let c := s.windowCtx o
  let part := fun (x : BitVec 512) => BitVec.ofNat 32 (x.toNat >>> (8 * (o % 64)))
  if o % 64 = 0 then
    let s1 := s.ctxCheck c ecc
    let s2 : State := { s1 with acq := { s1.acq with latch := some (c, s1.ctxOf c) } }
    if ecc = .uncorrectable then s2.reply Code.eccFatal else s2.reply Code.ok (part (s2.ctxOf c))
  else match s.acq.latch with
    | some (c', x) => if c' = c then s.reply Code.ok (part x)
      else (let f := s.takeFree; f.2.reply Code.ok (f.1.setWidth 32))
    | none => let f := s.takeFree; f.2.reply Code.ok (f.1.setWidth 32)

/-- A write in the context window: staged, and committed with bytes 60 to 63 (R296).
(DEDUCED, log 109.) -/
def State.ctxWindowWrite (s : State) (o : Nat) (v : Word32) : State :=
  let x := ctxPut s.acq.staged (8 * (o % 64 / 4 * 4)) 32 v.toNat
  let s1 : State := { s with acq := { s.acq with staged := x } }
  (if o % 64 = 60 then s1.setCtx (s.windowCtx o) x else s1).reply Code.ok

/-- CONTEXT_WINDOW_READ (R296): of word `word` of the window. -/
def execContextWindowRead (mid : Mid) (word : Fin 2097152) (ecc : EccFind) (s : State) : Result :=
  .next (s.gate mid (0x06800000 + 4 * word.val) none (fun s => s.ctxWindowRead (4 * word.val) ecc))

/-- CONTEXT_WINDOW_WRITE (R296). -/
def execContextWindowWrite (mid : Mid) (word : Fin 2097152) (value : Word32) (s : State) : Result :=
  .next (s.gate mid (0x06800000 + 4 * word.val) (some value) (fun s => s.ctxWindowWrite (4 * word.val) value))

/-! ## Probe capture (R311 to R313) -/

/-- The bits of the probe record of this turn: the OR of the channels assigned to each (R55, R311). -/
def State.probeRecord (s : State) : Nat :=
  s.arr.probeMap.foldl (fun a e =>
    let n := e.1 / 4096
    let f := e.1 % 2048 / 128
    let c := e.1 % 128
    let bit := e.2.toNat % 65536
    if s.flag (Fld.ARR_STATUS_MAPPED n) && e.1 / 2048 % 2 == s.page n && bitOf e.2.toNat 16 &&
        (Sparse.get 0 s.arr.probe (n * 16 + f)).getLsbD c && !bitOf a bit then a + 2 ^ bit else a) 0

/-- A record is formed for a turn (R311). -/
def State.probeTurn (s : State) (t : Nat) : Bool :=
  s.flag Fld.ACQ_PRB_CFG_EN && t % 2 ^ s.fld Fld.ACQ_PRB_CFG_DECIM == 0

/-- A probe buffer is free (R312). -/
def State.probeFree (s : State) : Bool := s.fld Fld.ACQ_PRB_STAT_FREE != 0

/-- The compare word of a pattern unit (R313, R320). -/
def State.patWord (s : State) (u bits : Nat) : Nat :=
  (List.range 64).foldl (fun a j =>
    let sel := ((s.reg (Reg.ACQ_PAT_SEL u (j / 2))).toNat / (if j % 2 = 0 then 1 else 65536)) % 65536
    if bitOf bits sel then a + 2 ^ j else a) 0

/-- A pattern unit matches a record (R313). -/
def State.patMatch (s : State) (u bits : Nat) : Bool :=
  let two := fun (r : Nat → Nat) => (s.reg (r 0)).toNat + (s.reg (r 1)).toNat * 2 ^ 32
  let eq := (s.patWord u bits &&& two (Reg.ACQ_PAT_MASK u)) == two (Reg.ACQ_PAT_VAL u)
  s.flag (Fld.ACQ_PAT_CFG_EN u) && (if s.flag (Fld.ACQ_PAT_CFG_NE u) then !eq else eq)

/-- What a match does (R313). -/
def State.matched (s : State) (u t : Nat) : State :=
  let s1 := (s.setReg (Reg.ACQ_PAT_TURN u) (BitVec.ofNat 32 t)).raiseBit Fld.ACQ_STATUS_PAT_MATCH 349
  let s2 := (List.range 16).foldl (fun s k =>
    if s.fld (Fld.ACQ_CLS_CFG_SRC k) = 4 ∧ s.fld (Fld.ACQ_CLS_CFG_SEL k) = u then s.triggerClass k (t + 1) 0 else s) s1
  if s2.flag (Fld.ACQ_PAT_CFG_FREEZE u) && !s2.flag Fld.ACQ_PRB_STAT_FROZEN && s2.flag Fld.ACQ_PRB_CFG_FREEZE_EN &&
      s2.acq.freeze.isNone then
    { s2 with acq := { s2.acq with freeze := some (s2.fld Fld.ACQ_PRB_CFG_POST, u) } } else s2

/-- The count to a freeze after an accepted record (R313).
(DEDUCED, log 110.) -/
def State.freezeCount (s : State) (before : Bool) : State :=
  match s.acq.freeze with
  | none => s
  | some (k, u) =>
    let left := if before then k - 1 else k
    if left = 0 then
      (({ s with acq := { s.acq with freeze := none } } : State).setFlag Fld.ACQ_PRB_STAT_FROZEN true).setFld Fld.ACQ_PRB_STAT_UNIT u
    else { s with acq := { s.acq with freeze := some (left, u) } }

/-- A record of turn `t` is accepted (R312, R313): into a buffer, or discarded while the ring is frozen. -/
def State.probeTake (s : State) (t bits : Nat) : State :=
  let nrec := max 1 ((s.reg Reg.ACQ_PRB_NREC).toNat % 2 ^ 20)
  let base := (s.fld (Fld.HBM_RGN_BASE_BASE (s.fld Fld.ACQ_PRB_CFG_REGION)) + (s.reg Reg.ACQ_PRB_BASE).toNat % 2 ^ 18) * 65536
  let slot := (t >>> s.fld Fld.ACQ_PRB_CFG_DECIM) % nrec
  let waiting := s.acq.freeze.isSome
  let s1 := if s.flag Fld.ACQ_PRB_STAT_FROZEN then s
    else
      let b : ProbeBuf := { place := some (base + slot * 8192, base + nrec * 8192 + slot * 8), turn := t, bits := bits }
      ({ s with acq := { s.acq with probes := s.acq.probes ++ [b] } } : State).setFld Fld.ACQ_PRB_STAT_FREE
        (s.fld Fld.ACQ_PRB_STAT_FREE - 1)
  let s2 := (List.range 4).foldl (fun s u => if s.patMatch u bits then s.matched u t else s) s1
  s2.freezeCount waiting

/-- A probe record is lost (R312). -/
def State.probeLost (s : State) : State := (s.countReg Reg.ACQ_PRB_LOST).raiseBit Fld.ACQ_STATUS_PRB_LOST 348

/-- PROBE_BUFFER_FREE (R312): the oldest buffer's HBM writes complete, or fail. -/
def execProbeBufferFree (failed : Bool) (s : State) : Result :=
  .next (match s.acq.probes with
    | [] => s
    | b :: r =>
      let s1 := ({ s with acq := { s.acq with probes := r } } : State).setFld Fld.ACQ_PRB_STAT_FREE
        (s.fld Fld.ACQ_PRB_STAT_FREE + 1)
      match b.place with
      | none => s1
      | some (a, w) =>
        if failed || !s1.hbmMay 0x12 a true then s1.probeLost
        else (s1.setHbmBytes a (bytesOfNat 8192 b.bits)).setHbmBytes w (bytesOfNat 8 b.turn))

/-! ## Registers (R317 to R320) -/

/-- The admitted archive line rate in Mb/s (ACQ_BUDGET). -/
def State.acqBudget (s : State) : Nat :=
  s.rateSum ((List.range 96).filter (fun i => s.admitted i && s.flag (Fld.ACQ_LN_CFG_ARCH i))) / 1000000

/-- A write in the acquisition engine's range. -/
def State.acqRegWrite (s : State) (mid : Mid) (a : Nat) (v : Word32) : State :=
  if a = Reg.ACQ_CTRL then (s.acqCtrlWrite v).reply Code.ok
  else if a = Reg.ACQ_CMD then s.acqCommand v
  else if a = Reg.ACQ_VIOL ∧ bitOf v.toNat 31 then s.clearRecord .acqViol
  else if a = Reg.ACQ_ECC_CTX ∧ bitOf v.toNat 31 then s.clearRecord .acqEccCtx
  else if 0x06001000 ≤ a ∧ a < 0x06001C00 ∧ (a - 0x06001000) % 0x20 < 12 then
    s.acqLaneWrite mid ((a - 0x06001000) / 0x20) ((a - 0x06001000) % 0x20 / 4) v
  else if 0x06800000 ≤ a ∧ a < 0x07000000 then s.ctxWindowWrite (a - 0x06800000) v
  else s.storeReg a v

/-- A read in the acquisition engine's range. -/
def State.acqRegRead (s : State) (a : Nat) : State :=
  if a = Reg.ACQ_BUDGET then s.reply Code.ok (BitVec.ofNat 32 s.acqBudget)
  else if 0x06001000 ≤ a ∧ a < 0x06001C00 ∧ (a - 0x06001000) % 0x20 = 0x14 then
    let i := (a - 0x06001000) / 0x20
    let n := ((s.acqLane i).count - 1) % 2 ^ 48
    (s.setReg (Reg.ACQ_LN_IDX_HI i) (BitVec.ofNat 32 (n / 2 ^ 32))).reply Code.ok (BitVec.ofNat 32 n)
  else if 0x06800000 ≤ a ∧ a < 0x07000000 then s.ctxWindowRead (a - 0x06800000) .clean
  else s.loadReg a

end Sys2Proof.Machine
end

