-- ==== Sys2Proof/Machine/Security.lean ====
section
/-! DEFINITION.  Signatures, key slots, measurement registers, attestation and the commands of the security block (R411 to R431). -/

namespace Sys2Proof.Machine

/-! ## Key slots and fuses -/

/-- USE of key slot `k`; 0 is not programmed (R416). -/
def State.slotUse (s : State) (k : Nat) : Nat := ((s.reg Reg.SEC_SLOTS).toNat >>> (2 * k)) % 4

/-- Key slot `k` is revoked (R416). -/
def State.slotRevoked (s : State) (k : Nat) : Bool := bitOf (s.reg Reg.SEC_SLOTS).toNat (8 + k)

/-- The open state: no slot is programmed (R417). -/
def State.openState (s : State) : Bool := (List.range 4).all (fun k => s.slotUse k == 0)

/-- The thermometer value: one more than the index of the highest blown bit (R419). -/
def State.thermValue (s : State) : Nat :=
  (List.range 64).foldl (fun a i => if s.sec.therm.getLsbD i then i + 1 else a) 0

/-- SEC_RUN: the slots and VERSIONs of the running firmware and image, 0xFF where none (R424, R430).
(DESIGN CHOICE, log 113.) -/
def State.setRun (s : State) : State :=
  let f := s.sec.fw.getD (0xFF, 0xFF)
  let g := s.sec.img.getD (0xFF, 0xFF)
  s.setReg Reg.SEC_RUN (BitVec.ofNat 32 (f.1 + f.2 * 2 ^ 8 + g.1 * 2 ^ 16 + g.2 * 2 ^ 24))

/-! ## Measurement registers -/

/-- The fuse shadow that MR0 measures: slot digests, USE and revocation bits, thermometer, grade (R423). -/
def State.fuseShadow (s : State) : List Byte :=
  s.regBytes (Reg.SEC_SLOT_DIG 0 0) 64 ++ bytesOf32 (s.reg Reg.SEC_SLOTS) ++ bytesOfNat 8 s.sec.therm.toNat ++
    bytesOfNat 1 (s.fld Fld.DEV_IDENT_GRADE)

/-! ## Signature blocks -/

/-- The bytes of an ASCII string. -/
def ascii (t : String) : List Byte := t.toList.map (fun c => BitVec.ofNat 8 c.toNat)

/-- Bytes `lo` to `lo + n − 1` of a list, as a number. -/
def numAt (l : List Byte) (lo n : Nat) : Nat := natOfBytes ((l.drop lo).take n)

/-- The step of R414 at which a signature block fails; 0 where it verifies.  `fw` says firmware rather than an image. -/
def State.sigStep (s : State) (fw : Bool) (msg : List Byte) (version : Nat) (block : List Byte) : Nat :=
  let slot := numAt block 4 1
  let pk := (block.drop 8).take 1952
  let sig := (block.drop 1960).take 3309
  let skip := fw && s.openState
  if block.length ≠ 5272 ∨ numAt block 0 4 ≠ 0x4749535A ∨ numAt block 5 1 ≠ 1 then 1
  else if !skip && (decide (4 ≤ slot) || !bitOf (s.slotUse slot) (if fw then 0 else 1)) then 2
  else if !skip && s.slotRevoked slot then 3
  else if !skip && digest64 pk != s.regBytes (Reg.SEC_SLOT_DIG slot 0) 16 then 4
  else if !Config.mldsaVerify (ascii (if fw then "GH9640FW" else "GH9640IM")) pk msg sig then 5
  else if version < s.thermValue then 6 else 0

/-- A failed verification recorded (R414): the step, and SIG_FAIL or ROLLBACK with its event. -/
def State.sigFailed (s : State) (step : Nat) : State :=
  let s1 := s.setFld Fld.SEC_STATUS_FAIL_STEP step
  if step = 6 then s1.raiseBit Fld.SEC_STATUS_ROLLBACK 417 else s1.raiseBit Fld.SEC_STATUS_SIG_FAIL 416

/-- The status of a failed verification (R414). -/
def sigCode (step : Nat) : Status := if step = 0 then Code.ok else if step = 6 then Code.rollback else Code.sigFail

/-- The key slot that a verified firmware block names; 0xFF in the open state, where no slot verified it (R417, R424). -/
def State.fwSlot (s : State) (block : List Byte) : Nat := if s.openState then 0xFF else numAt block 4 1

/-! ## Attestation -/

/-- The 32 bytes ξ from which the identity key pair derives (R421). -/
def State.identityXi (s : State) : List Byte :=
  shake256 (ascii "GH9640-ID" ++ Config.identitySeed ++ bytesOf32 (s.reg Reg.DEV_UID_LO) ++ bytesOf32 (s.reg Reg.DEV_UID_HI)) 32

/-- The signed part of a report: bytes 0x000 to 0x30F (R424).
(DESIGN CHOICE, log 113.) -/
def State.reportBody (s : State) : List Byte :=
  let flags := fun (n : Nat) (p : Nat → Bool) => (List.range n).foldl (fun a k => if p k then a + 2 ^ k else a) 0
  bytesOfNat 4 0x5441585A ++ bytesOfNat 2 1 ++ bytesOfNat 2 4093 ++ bytesOfNat 8 (s.sec.counter + 1) ++
    s.regBytes (Reg.SEC_NONCE 0) 8 ++ bytesOf32 (s.reg Reg.DEV_IDENT) ++ bytesOf32 (s.reg Reg.DEV_STRAPS) ++
    bytesOf32 (s.reg Reg.DEV_UID_LO) ++ bytesOf32 (s.reg Reg.DEV_UID_HI) ++ bytesOfNat 1 s.thermValue ++
    bytesOfNat 1 (flags 4 (fun k => s.slotUse k != 0) + 16 * flags 4 (fun k => s.slotRevoked k)) ++
    bytesOfNat 1 (s.sec.fw.getD (0xFF, 0xFF)).1 ++ bytesOfNat 1 (s.sec.fw.getD (0xFF, 0xFF)).2 ++
    bytesOfNat 1 (s.sec.img.getD (0xFF, 0xFF)).1 ++ bytesOfNat 1 (s.sec.img.getD (0xFF, 0xFF)).2 ++
    bytesOfNat 1 ((if s.openState then 1 else 0) + (if s.flag Fld.LDR_IMG_SRC_FALLBACK then 2 else 0)) ++
    bytesOfNat 1 s.ldr.phase ++
    bytesOfNat 8 ((s.reg Reg.LDR_BAD_LO).toNat + s.fld Fld.LDR_BAD_HI_BAD * 2 ^ 32) ++
    bytesOfNat 8 (flags 34 (fun n => s.flag (Fld.ARR_WIN_STAT_MODIFIED n))) ++ bytesOfNat 8 s.seq.turn ++
    timeBytes s.now ++ bytesOfNat 4 0 ++ s.regBytes (Reg.LDR_MAP 0) 8 ++ s.regBytes (Reg.LDR_ID 0) 16 ++
    digest64 (Config.mldsaPublic s.identityXi) ++ s.regBytes (Reg.SEC_MR 0 0) 128

/-! ## Commands -/

/-- A refused command or write (R427, R431): CMD_REFUSED and EV418, with DENIED. -/
def State.secRefuse (s : State) : State :=
  ((s.setFld Fld.SEC_CMD_STAT_CODE Code.denied.toNat).raiseBit Fld.SEC_STATUS_CMD_REFUSED 418).reply Code.denied

/-- Some other slot, programmed and not revoked, remains for every USE bit of slot `k` (R418). -/
def State.slotSpare (s : State) (k : Nat) : Bool :=
  (List.range 2).all (fun u => !bitOf (s.slotUse k) u ||
    (List.range 4).any (fun j => j != k && bitOf (s.slotUse j) u && !s.slotRevoked j))

/-- A slot verified what runs. -/
def runsBy (r : Option (Nat × Nat)) (k : Nat) : Bool :=
  match r with
  | some x => x.1 == k
  | none => false

/-- A VERSION that ADVANCE may not exceed (R420). -/
def State.advanceBad (s : State) (n : Nat) : Bool :=
  let beyond := fun (r : Option (Nat × Nat)) => match r with
    | some x => decide (x.2 < n)
    | none => false
  decide (64 < n) || decide (n ≤ s.thermValue) || beyond s.sec.fw || beyond s.sec.img

/-- A security command is refused (R418, R420, R426, R427). -/
def State.secBad (s : State) (mid : Mid) (code : Nat) : Bool :=
  let arg := s.fld Fld.SEC_CMD_ARG_SLOT
  let who := if code = 1 ∨ code = 2 then isManager mid else mid == 0x00 || mid == 0x01
  !who || decide (7 ≤ code) || s.flag Fld.SEC_CMD_STAT_PENDING ||
    (match code with
     | 4 => runsBy s.sec.fw arg || runsBy s.sec.img arg || !s.slotSpare arg
     | 5 => s.advanceBad (s.fld Fld.SEC_CMD_ARG_N)
     | 6 => s.slotUse arg != 0 || s.fld Fld.SEC_CMD_ARG_USE == 0
     | _ => false)

/-- An accepted command waits for its completion (R427). -/
def State.secBegin (s : State) (code : Nat) : State :=
  let s1 : State := { s with sec := { s.sec with
    cmd := some (code, s.reg Reg.SEC_CMD_ARG, s.regBytes (Reg.SEC_EXT 0) 16),
    report := if code = 2 then s.reportBody else s.sec.report,
    counter := if code = 2 then s.sec.counter + 1 else s.sec.counter } }
  (((s1.setFlag Fld.SEC_CMD_STAT_PENDING true).setFlag Fld.SEC_STATUS_BUSY true).setFld Fld.SEC_CMD_STAT_CODE 0).reply Code.ok

/-- A write of SEC_CMD (R426, R427). -/
def State.secCommand (s : State) (mid : Mid) (code : Nat) : State :=
  if code = 0 then s.reply Code.ok
  else if s.secBad mid code then s.secRefuse
  else if code = 3 then
    ((s.extendMr (6 + s.fld Fld.SEC_CMD_ARG_MR) (s.regBytes (Reg.SEC_EXT 0) 16)).setFld Fld.SEC_CMD_STAT_CODE 0).reply Code.ok
  else s.secBegin code

/-- The running command completes with a status (R427). -/
def State.secDone (s : State) (code : Status) : State :=
  (({ s with sec := { s.sec with cmd := none } } : State).setFlag Fld.SEC_CMD_STAT_PENDING false |>.setFlag Fld.SEC_STATUS_BUSY
    false).setFld Fld.SEC_CMD_STAT_CODE code.toNat

/-- A write in the security block's range (R430, R431). -/
def State.secRegWrite (s : State) (mid : Mid) (a : Nat) (v : Word32) : State :=
  if a = Reg.SEC_CMD then s.secCommand mid (v.toNat % 16)
  else if Reg.SEC_NONCE 0 ≤ a ∧ a < Reg.SEC_EXT 16 then
    (if isManager mid then s.storeReg a v else (s.raiseBit Fld.SEC_STATUS_CMD_REFUSED 418).reply Code.denied)
  else s.storeReg a v

/-- A read in the security block's range: OPEN follows the fuses (R417). -/
def State.secRegRead (s : State) (a : Nat) : State :=
  if a = Reg.SEC_STATUS then s.reply Code.ok (Fld.SEC_STATUS_OPEN.put (s.reg a) (if s.openState then 1 else 0))
  else s.loadReg a

/-- The write of a security command through the fence of the block's domain. -/
def State.secCmd (s : State) (mid : Mid) (code : Nat) : State :=
  s.gate mid Reg.SEC_CMD (some (BitVec.ofNat 32 code)) (fun s => s.secRegWrite mid Reg.SEC_CMD (BitVec.ofNat 32 code))

/-- VERIFY (R426). -/
def execSecVerify (mid : Mid) (s : State) : Result := .next (s.secCmd mid 1)

/-- ATTEST (R424, R425). -/
def execSecAttest (mid : Mid) (s : State) : Result := .next (s.secCmd mid 2)

/-- EXTEND (R423, R426). -/
def execSecExtend (mid : Mid) (s : State) : Result := .next (s.secCmd mid 3)

/-- REVOKE (R418). -/
def execSecRevoke (mid : Mid) (s : State) : Result := .next (s.secCmd mid 4)

/-- ADVANCE (R420). -/
def execSecAdvance (mid : Mid) (s : State) : Result := .next (s.secCmd mid 5)

/-- KEYPROG (R418). -/
def execSecKeyprog (mid : Mid) (s : State) : Result := .next (s.secCmd mid 6)

/-- What a flash entry of TYPE `kind` gives R414 (R413): whether it is firmware, the bytes before the block, VERSION, the block. -/
def entryParts (kind : Nat) (bytes : List Byte) : Bool × List Byte × Nat × List Byte :=
  let fw := kind == 1
  let n := bytes.length - 5272
  (fw, bytes.take n, numAt bytes (if fw then 6 else 0x18) 1, bytes.drop n)

/-- VERIFY_DONE (R426): the read of the entry ends, given its bytes; nothing is loaded. -/
def execVerifyDone (bytes : List Byte) (s : State) : Result :=
  .next (match s.sec.cmd with
    | some (1, arg, _) =>
      let kind := match s.ldr.entries[arg.toNat % 32]? with
        | some e => e.kind
        | none => 0
      let p := entryParts kind bytes
      let step := s.sigStep p.1 (digest64 p.2.1) p.2.2.1 p.2.2.2
      let s1 := if step = 0 then s else s.sigFailed step
      s1.secDone (sigCode step)
    | _ => s)

/-- ATTEST_DONE (R424, R425): the buffer takes the signed report. -/
def execAttestDone (s : State) : Result :=
  .next (match s.sec.cmd with
    | some (2, _, _) =>
      let body := s.sec.report
      let sig := Config.mldsaSign s.identityXi (ascii "GH9640AR") body
      (s.setRegBytes (Reg.SEC_REPORT 0) ((body ++ sig.take 3309 ++ List.replicate 3312 0).take 4096)).secDone Code.ok
    | _ => s)

/-- The fuses that a command burns (R416, R418, R420). -/
def State.burn (s : State) (code : Nat) (arg : Word32) (ext : List Byte) : State :=
  let slot := Fld.SEC_CMD_ARG_SLOT.get arg
  match code with
  | 4 => s.setReg Reg.SEC_SLOTS (s.reg Reg.SEC_SLOTS ||| BitVec.ofNat 32 (2 ^ (8 + slot)))
  | 5 =>
    let n := Fld.SEC_CMD_ARG_N.get arg
    let s1 : State := { s with sec := { s.sec with therm := s.sec.therm ||| BitVec.ofNat 64 (2 ^ n - 1) } }
    s1.setFld Fld.SEC_THERM_N s1.thermValue
  | 6 =>
    let s1 := s.setReg Reg.SEC_SLOTS (s.reg Reg.SEC_SLOTS ||| BitVec.ofNat 32 (Fld.SEC_CMD_ARG_USE.get arg * 2 ^ (2 * slot)))
    s1.setRegBytes (Reg.SEC_SLOT_DIG slot 0) ext
  | _ => s

/-- FUSE_BURN_DONE (R423, R427, R428): the fuses are blown, MR5 is extended, FUSED and EV419. -/
def execFuseBurnDone (s : State) : Result :=
  .next (match s.sec.cmd with
    | some (code, arg, ext) =>
      if 4 ≤ code then
        let s1 := (s.burn code arg ext).extendMr 5 (digest64 (bytesOfNat 1 code ++ bytesOf32 arg))
        (s1.secDone Code.ok).raiseBit Fld.SEC_STATUS_FUSED 419
      else s
    | none => s)

end Sys2Proof.Machine
end

