-- ==== Sys2Proof/Machine/Units.lean ====
section
/-! DEFINITION.  The target units that frames carry (R167, R216, R243, R280, R321, R340, R372, R546, R599): where each lies, the
loader's write of it, its place among the golden frames (R440) and its live words (R438). -/

namespace Sys2Proof.Machine

/-- The bits of a register that the loader sets (R243, R280, R321, R372, R546, R599). -/
def loaderMask (a : Nat) : Word32 :=
  match Reg.row a with
  | some r => BitVec.ofNat 32 (r.rw ||| r.rwl)
  | none => 0

/-- A register's stored bits written by the loader; other bits are ignored. -/
def State.loaderStore (s : State) (a : Nat) (v : Word32) : State :=
  let m := loaderMask a
  if m = 0 then s else s.setReg a ((s.reg a &&& ~~~ m) ||| (v &&& m))

/-- The two halves of a unit. -/
def unitLo (w : Word64) : Word32 := w.setWidth 32
def unitHi (w : Word64) : Word32 := (w >>> 32).setWidth 32

/-- A unit stored over two registers, by a write of each half. -/
def State.unitRegs (s : State) (a : Nat) (w : Word64) (f : State → Nat → Word32 → State) : State :=
  f (f s a (unitLo w)) (a + 4) (unitHi w)

/-! ## Target spaces -/

/-- Units of a frame type's target space (R167, R169, R216, R243, R280, R321, R340, R372, R546, R599). -/
def unitSpace (ftype : Nat) : Nat :=
  match ftype with
  | 0x01 => 1048576 | 0x02 => 4096 | 0x03 => 4096 | 0x04 => 32768 | 0x05 => 512 | 0x06 => 512 | 0x07 => 32
  | 0x08 => 1024 | 0x09 => 40 | 0x10 => 49152 | 0x11 => 1920 | 0x12 => 8400 | 0x13 => 10624 | 0x14 => 2228224
  | 0x15 => 2147483648 | 0x16 => 256 | 0x17 => 640 | 0x18 => 2608 | _ => 0

/-- The golden-frames offset of a FOLIO unit in the block of its virtual sorus (R440); none for a type that is not compared. -/
def goldenFolio (ftype page u : Nat) : Option Nat :=
  match ftype with
  | 0x01 => some (u * 8)
  | 0x05 => some (0x800000 + page * 0x1000 + u * 8)
  | 0x06 => some (0x802000 + page * 0x1000 + u * 8)
  | 0x07 => some (0x804000 + page * 0x100 + u * 8)
  | 0x08 => some (0x805000 + page * 0x2000 + u * 8)
  | 0x09 => some (0x809000 + u * 8)
  | _ => none

/-- The golden-frames offset of a DEVICE unit (R440). -/
def goldenDevice (ftype u : Nat) : Option Nat :=
  match ftype with
  | 0x10 => some (0x10200000 + u * 8)
  | 0x11 => some (0x10260000 + u * 8)
  | 0x12 => some (0x10270000 + u * 8)
  | 0x13 => some (0x10290000 + u * 8)
  | 0x16 => some (0x102B0000 + u * 8)
  | _ => none

/-- The HBM word of a golden-frames offset; none without such a region. -/
def State.goldenPlace (s : State) (off : Nat) : Option Nat :=
  match s.regionBase 4 with
  | some b => some ((b + off) / 8)
  | none => none

/-- A unit kept among the golden frames (R385, R440). -/
def State.keepGolden (s : State) (off : Option Nat) (w : Word64) : State :=
  match off with
  | some o => match s.goldenPlace o with
    | some k => s.setHbmWord k w
    | none => s
  | none => s

/-! ## FOLIO units -/

/-- The window address of a FOLIO unit of types 2 to 7 (R103, R167). -/
def folioAddr (n ftype page u : Nat) : Nat :=
  0x0C000000 + n * 0x100000 +
    (match ftype with
     | 0x02 => 0x10000 | 0x03 => 0x18000 | 0x04 => 0x40000
     | 0x05 => 0x1000 + page * 0x1000 | 0x06 => 0x3000 + page * 0x1000 | _ => 0x5000 + page * 0x100) + u * 8

/-- Byte `j` of a unit. -/
def unitByte (w : Word64) (j : Nat) : Nat := (w.toNat >>> (8 * j)) % 256

/-- A SORCFG unit in force (R167): policy and paging, ratios, turn offsets; `active` says whether unit 0 sets ARR_PAGE.ACTIVE. -/
def State.sorcfgWrite (s : State) (n u : Nat) (w : Word64) (active : Bool) : State :=
  let s1 : State := { s with arr := { s.arr with
    sorcfg := Sparse.put 0 (Sparse.put 0 s.arr.sorcfg (n * 80 + 2 * u) (unitLo w)) (n * 80 + 2 * u + 1) (unitHi w) } }
  if u = 0 then
    let s2 := ((s1.setFlag (Fld.ARR_CTRL_POISON_EN n) (bitOf w.toNat 0)).setFlag (Fld.ARR_CTRL_FPOLICY n) (bitOf w.toNat 1)).setFlag
      (Fld.ARR_PAGE_PAGED n) (bitOf w.toNat 2)
    if active then s2.setFlag (Fld.ARR_PAGE_ACTIVE n) (bitOf w.toNat 3) else s2
  else if u ≤ 4 then
    (List.range 8).foldl (fun s j => s.setFld (Fld.ARR_BM_CFG_RATIO n (8 * (u - 1) + j)) (unitByte w j)) s1
  else if 8 ≤ u then
    { s1 with arr := { s1.arr with xoff := (List.range 8).foldl (fun l j =>
        let b := unitByte w j
        Sparse.put none l (n * 256 + 8 * (u - 8) + j) (if bitOf b 4 then some (b % 16) else none)) s1.arr.xoff } }
  else s1

/-- The loader's write of a FOLIO unit into physical sorus `n` (R37, R167). -/
def State.folioWrite (s : State) (n ftype page u : Nat) (w : Word64) : State :=
  match ftype with
  | 0x01 => s.setImem (n * 1048576 + u) (eccJoin w (eccChk w))
  | 0x04 =>
    let a := folioAddr n ftype page u
    (s.setReg a (unitLo w)).setReg (a + 4) (unitHi w &&& 0xF)
  | 0x08 =>
    let k := n * 4096 + page * 2048 + 2 * u
    { s with arr := { s.arr with
      probeMap := Sparse.put 0 (Sparse.put 0 s.arr.probeMap k (unitLo w &&& 0x1FFFF)) (k + 1) (unitHi w &&& 0x1FFFF) } }
  | 0x09 => s.sorcfgWrite n u w true
  | _ =>
    let a := folioAddr n ftype page u
    (s.setReg a (unitLo w)).setReg (a + 4) (unitHi w)

/-! ## DEVICE units -/

/-- The register of half `h` of a ROUTE unit (R216). -/
def routeReg (u h : Nat) : Option Nat :=
  if u < 1152 then some (Reg.RZ_ROUTE (u / 24) 0 (2 * (u % 24) + h))
  else if u < 1536 then
    (if (u - 1152) % 8 < 5 then
      some (if h = 0 then Reg.RZ_TB_REQ ((u - 1152) / 8) ((u - 1152) % 8) else Reg.RZ_TB_MGT ((u - 1152) / 8) ((u - 1152) % 8))
     else none)
  else if u < 1920 then
    (if (u - 1536) % 8 < 5 ∧ h = 0 then some (Reg.RZ_QUOTA ((u - 1536) / 8) ((u - 1536) % 8)) else none)
  else none

/-- The register of half `h` of a LANE unit (R243, R280). -/
def laneReg (u h : Nat) : Option Nat :=
  if u < 2048 then (if u / 16 < 103 then some (0x05000000 + u / 16 * 0x10000 + u % 16 * 8 + h * 4) else none)
  else if u < 2072 then (if h = 0 then some (Reg.LN_PLL (u - 2048)) else none)
  else if 4096 ≤ u ∧ u < 10624 then
    (let i := (u - 4096) / 64
     if i < 96 ∨ i = 100 ∨ i = 101 then some (0x05001000 + i * 0x10000 + (u - 4096) % 64 * 8 + h * 4) else none)
  else none

/-- The register of half `h` of an IOB unit (R599). -/
def iobReg (u h : Nat) : Option Nat :=
  if u < 256 ∧ u % 32 < 14 then some (0x08300000 + u / 32 * 0x100 + u % 32 * 8 + h * 4) else none

/-- The loader's write of a lane register: LN_CFG, LN_TXFIR and the PLLs as their blocks take them, the link engines stored for
the check at the end of FRAMES (R219, R227, R232, R243, R245, R280). -/
def State.laneUnit (s : State) (a : Nat) (v : Word32) : State :=
  if 0x05F00000 ≤ a then s.lnPllWrite 0x10 ((a - 0x05F00000) / 0x100) v
  else if loaderMask a = 0 then s
  else
    let i := (a - 0x05000000) / 0x10000
    let o := (a - 0x05000000) % 0x10000
    if o < 0x1000 then s.lnPhyWrite 0x10 i o a (v &&& loaderMask a ||| (s.reg a &&& ~~~ loaderMask a)) else s.loaderStore a v

/-- The loader's write of half of a time-unit unit (R372): a 1 in ARM arms the comparator. -/
def State.timeUnit (s : State) (a : Nat) (v : Word32) : State :=
  match indexOf (Reg.TU_TC_CTRL 0) 0x40 16 a with
  | some n => if bitOf v.toNat 0 then s.armTc n else s
  | none =>
    if a = Reg.TU_PNOM_HI then s.pnomCommit v
    else if a = Reg.TU_TICK then (s.loaderStore a v).retick
    else s.loaderStore a v

/-- The loader's write of a TWIN unit (R546). -/
def State.twinUnit (s : State) (u : Nat) (w : Word64) : State :=
  if u < 512 then { s with twin := { s.twin with outMask := Sparse.put 0 s.twin.outMask u w } }
  else if u < 2560 then { s with twin := { s.twin with pslot := Sparse.put 0 s.twin.pslot (u - 512) w } }
  else if u < 2592 then { s with twin := { s.twin with pbm := Sparse.put 0 s.twin.pbm (u - 2560) (unitLo w) } }
  else s.unitRegs (0x08000000 + (u - 2592) * 8) w State.loaderStore

/-- The loader's write of a CTX unit (R321): a part of a context, or two registers; ACQ_CTRL is held for OUT. -/
def State.ctxUnit (s : State) (u : Nat) (w : Word64) : State :=
  if u < 2097152 then
    let c := u / 8
    let sh := u % 8 * 64
    let old := (Sparse.get 0 s.acq.ctx c).toNat
    let new : BitVec 512 := BitVec.ofNat 512 (old - ((old >>> sh) % 2 ^ 64) * 2 ^ sh + w.toNat * 2 ^ sh)
    { s with acq := { s.acq with ctx := Sparse.put 0 s.acq.ctx c new } }
  else
    s.unitRegs (0x06000000 + (u - 2097152) * 8) w (fun s a v =>
      if a = Reg.ACQ_CTRL then { s with ldr := { s.ldr with acqCtrl := v &&& loaderMask a } } else s.loaderStore a v)

/-- The loader's write of half of a unit where a register may stand. -/
def optReg (f : State → Nat → Word32 → State) (s : State) (a : Option Nat) (v : Word32) : State :=
  match a with
  | some x => f s x v
  | none => s

/-- The loader's write of a DEVICE unit.
(DEDUCED, log 102.) -/
def State.deviceWrite (s : State) (ftype u : Nat) (w : Word64) : State :=
  match ftype with
  | 0x10 => s.unitRegs (Reg.RZ_SLOT (u / 1024) 0 (u % 1024) 0) w State.setReg
  | 0x11 =>
    let s : State := if u < 1152 then { s with ldr := { s.ldr with routed := Sparse.put false s.ldr.routed (u / 24) true } } else s
    optReg State.loaderStore (optReg State.loaderStore s (routeReg u 0) (unitLo w)) (routeReg u 1) (unitHi w)
  | 0x12 => { s with arr := { s.arr with consumers := Sparse.put 0 s.arr.consumers u w } }
  | 0x13 => optReg State.laneUnit (optReg State.laneUnit s (laneReg u 0) (unitLo w)) (laneReg u 1) (unitHi w)
  | 0x14 => s.ctxUnit u w
  | 0x15 => s.setHbmWord u w
  | 0x16 =>
    let keep := fun (s : State) (a : Nat) (v : Word32) =>
      if loaderMask a = 0 then s else { s with ldr := { s.ldr with iobHeld := s.ldr.iobHeld ++ [(a, v &&& loaderMask a)] } }
    optReg keep (optReg keep s (iobReg u 0) (unitLo w)) (iobReg u 1) (unitHi w)
  | 0x17 => s.unitRegs (0x03000000 + u * 8) w State.timeUnit
  | 0x18 => s.twinUnit u w
  | _ => s

/-! ## Live words of the guarded tables (R432, R438) -/

/-- Where a 32-bit frame of the comparison pass stands (R438): target, physical sorus, table, page and index of the word in its
table. -/
structure PassWord where
  target : Nat
  sorus : Nat
  index : Nat
  golden : Nat
  deriving DecidableEq, Repr

/-- The words of a sorus in a pass, and of the device (R438, R440). -/
def passSorus : Nat := 8400
def passDevice : Nat := 184320

/-- Word `w` of the block of virtual sorus `v`, which `n` carries: its target, the index that a record gives it, and its golden
offset. -/
def passFolio (v n w : Nat) : PassWord :=
  let b := v * 0x810000
  if w < 2048 then ⟨2, n, w, b + 0x800000 + w * 4⟩
  else if w < 4096 then ⟨3, n, w - 2048, b + 0x802000 + (w - 2048) * 4⟩
  else if w < 4224 then ⟨4, n, w - 4096, b + 0x804000 + (w - 4096) * 4⟩
  else if w < 8320 then ⟨5, n, w - 4224, b + 0x805000 + (w - 4224) * 4⟩
  else ⟨6, n, w - 8320, b + 0x809000 + (w - 8320) * 4⟩

/-- Word `w` of the device blocks. -/
def passDev (w : Nat) : PassWord :=
  if w < 98304 then ⟨7, 63, w, 0x10200000 + w * 4⟩
  else if w < 102400 then ⟨8, 63, w - 98304, 0x10260000 + (w - 98304) * 4⟩
  else if w < 135168 then ⟨9, 63, w - 102400, 0x10270000 + (w - 102400) * 4⟩
  else if w < 167936 then ⟨10, 63, w - 135168, 0x10290000 + (w - 135168) * 4⟩
  else ⟨11, 63, w - 167936, 0x102B0000 + (w - 167936) * 4⟩

/-- The live value of a guarded word, and the bits of it that are compared. -/
def State.passLive (s : State) (p : PassWord) : Word32 × Word32 :=
  let all : Word32 := BitVec.allOnes 32
  let win := 0x0C000000 + p.sorus * 0x100000
  let ofReg := fun (a : Option Nat) => match a with
    | some x => (s.reg x, loaderMask x)
    | none => ((0 : Word32), (0 : Word32))
  match p.target with
  | 2 => (s.reg (win + 0x1000 + p.index * 4), all)
  | 3 => (s.reg (win + 0x3000 + p.index * 4), all)
  | 4 => (s.reg (win + 0x5000 + p.index * 4), all)
  | 5 => (Sparse.get 0 s.arr.probeMap (p.sorus * 4096 + p.index), 0x1FFFF)
  | 6 => (Sparse.get 0 s.arr.sorcfg (p.sorus * 80 + p.index), all)
  | 7 => (s.reg (Reg.RZ_SLOT (p.index / 2048) 0 (p.index % 2048 / 2) (p.index % 2)), all)
  | 8 => if p.index < 2304 then ofReg (routeReg (p.index / 2) (p.index % 2)) else (0, 0)
  | 9 =>
    let w := Sparse.get 0 s.arr.consumers (p.index / 2)
    (if p.index % 2 = 0 then unitLo w else unitHi w, all)
  | 10 => ofReg (laneReg (p.index / 2) (p.index % 2))
  | _ => ofReg (iobReg (p.index / 2) (p.index % 2))

/-- A guarded word rewritten from its golden copy (R439). -/
def State.passRewrite (s : State) (p : PassWord) (v : Word32) : State :=
  let win := 0x0C000000 + p.sorus * 0x100000
  match p.target with
  | 2 => s.setReg (win + 0x1000 + p.index * 4) v
  | 3 => s.setReg (win + 0x3000 + p.index * 4) v
  | 4 => s.setReg (win + 0x5000 + p.index * 4) v
  | 5 => { s with arr := { s.arr with probeMap := Sparse.put 0 s.arr.probeMap (p.sorus * 4096 + p.index) (v &&& 0x1FFFF) } }
  | 6 =>
    let u := p.index / 2
    let other := Sparse.get 0 s.arr.sorcfg (p.sorus * 80 + (if p.index % 2 = 0 then p.index + 1 else p.index - 1))
    s.sorcfgWrite p.sorus u (if p.index % 2 = 0 then other ++ v else v ++ other) false
  | 7 => s.setReg (Reg.RZ_SLOT (p.index / 2048) 0 (p.index % 2048 / 2) (p.index % 2)) v
  | 8 => optReg State.loaderStore s (routeReg (p.index / 2) (p.index % 2)) v
  | 9 =>
    let u := p.index / 2
    let w := Sparse.get 0 s.arr.consumers u
    { s with arr := { s.arr with
      consumers := Sparse.put 0 s.arr.consumers u (if p.index % 2 = 0 then unitHi w ++ v else v ++ unitLo w) } }
  | 10 => optReg (fun s a v => if a < 0x05F00000 ∧ (a - 0x05000000) % 0x10000 = 0x1000 then
        s.lnLeCfgStore ((a - 0x05000000) / 0x10000) v else s.laneUnit a v) s (laneReg (p.index / 2) (p.index % 2)) v
  | _ => optReg (fun s a v => (s.loaderStore a v).checkBank ((a - 0x08300000) / 0x100)) s (iobReg (p.index / 2) (p.index % 2)) v

end Sys2Proof.Machine
end

