-- ==== Sys2Proof/Machine/SeqState.lean ====
section
/-! DEFINITION.  The states of the sequencer and the moves between them (R113 to R115, R119, R138 to R141, R527), and the RPLL's
multiplier (R19, R21, R350). -/

namespace Sys2Proof.Machine

/-! ## Moves between states -/

/-- Sorus Sn is mapped. -/
def State.mapped (s : State) (n : Nat) : Bool := s.flag (Fld.ARR_STATUS_MAPPED n)

/-- ARR_STATUS.RUN of every sorus as the state of the sequencer gives it (R115): a mapped sorus that is neither frozen nor halted,
in RUN and STALL. -/
def State.runBits (s : State) : State :=
  let on := s.seqState == 2 || s.seqState == 3
  (List.range 34).foldl (fun s n =>
    s.setFlag (Fld.ARR_STATUS_RUN n)
      (on && s.mapped n && !s.flag (Fld.ARR_STATUS_FROZEN n) && (Sparse.get none s.arr.halted n).isNone)) s

/-- The sequencer enters a state (R113, R114): causes of the state it leaves return to 0, and EV076 is raised on a change into
RUN, PAUSED or STOPPED.  A twin that sends fails its resynchronisation as it leaves RUN (R559). -/
def State.seqEnter (s : State) (st : Nat) : State :=
  let s1 := s.setFld Fld.SEQ_STATUS_STATE st
  let s2 := if st = 3 then s1 else s1.setFld Fld.SEQ_STATUS_STALL_CAUSE 0
  let s3 := if st = 4 then s2 else s2.setFld Fld.SEQ_STATUS_PAUSE_CAUSE 0
  let s4 := (if st = 5 then s3 else s3.setFld Fld.SEQ_STATUS_STOP_CAUSE 0).runBits
  let s5 := if st = 2 then s4 else s4.sendFail 7
  if (st = 2 ∨ st = 4 ∨ st = 5) ∧ s.seqState ≠ st then s5.raise 76 else s5

/-- A command refused by the sequencer (R139). -/
def State.seqRefuse (s : State) (code : Status) : State :=
  ((s.setFld Fld.SEQ_CMD_STAT_CODE code.toNat).raiseBit Fld.SEQ_STATUS_CMD_REFUSED 74).reply code

/-- A pending command cancelled at an entry into STOPPED or UNLOADED (R139). -/
def State.seqCancel (s : State) : State :=
  if s.seq.cmd.isSome then
    ((({ s with seq := { s.seq with cmd := none } } : State).setFlag Fld.SEQ_CMD_STAT_PENDING false).setFld
      Fld.SEQ_CMD_STAT_CODE Code.seqState.toNat).raiseBit Fld.SEQ_STATUS_CMD_REFUSED 74
  else s

/-- Every mapped sorus takes its safe values (R140, R114). -/
def State.safeAll (s : State) : State :=
  (List.range 34).foldl (fun s n => if s.mapped n then s.setSafe n else s) s

/-- The memory ports of every mapped sorus discard what is due to them (R329).
(DEDUCED, log 106.) -/
def State.portsDeadAll (s : State) : State :=
  (List.range 34).foldl (fun s n => if s.mapped n then s.portsDead n else s) s

/-- A stop takes effect (R114, R140). -/
def State.seqStop (s : State) (cause : Nat) : State :=
  let s1 := ((s.seqCancel.seqEnter 5).setFld Fld.SEQ_STATUS_STOP_CAUSE cause).safeAll.portsDeadAll
  { s1 with seq := { s1.seq with stepLeft := none, startMet := false, thermal := false } }

/-- The sequencer enters ARMED (R114, R119); with START_SRC AUTO the start condition is met at once. -/
def State.seqArm (s : State) : State :=
  let s1 := (s.seqEnter 1).safeAll
  { s1 with seq := { s1.seq with startMet := s1.fld Fld.SEQ_CFG_START_SRC == 1, stepLeft := none, thermal := false } }

/-- The sequencer enters UNLOADED (R114, R395). -/
def State.seqUnload (s : State) : State :=
  let s1 := (s.seqCancel.seqEnter 0).portsDeadAll
  { s1 with seq := { s1.seq with startMet := false, stepLeft := none, thermal := false } }

/-- The step clock's gate lifts as the sequencer enters RUN in IDLE, and the device leaves for RUN (R527). -/
def State.liftGate (s : State) : State :=
  if s.devState = 1 then
    ({ s with pwr := { s.pwr with gated := false } } : State).exitSource 10 0 true true true
  else s

/-- Step 0 of a turn begins: the sequencer enters RUN (R114). -/
def State.seqRun (s : State) : State :=
  let s1 := s.liftGate.seqEnter 2
  { s1 with seq := { s1.seq with step := 0 } }

/-- The start condition is met (R119). -/
def State.seqMeet (s : State) : State := { s with seq := { s.seq with startMet := true } }

/-- START_SRC in use: 5 to 7 act as CMD (R119). -/
def State.startSrc (s : State) : Nat :=
  let c := s.fld Fld.SEQ_CFG_START_SRC
  if 5 ≤ c then 0 else c

/-- The turn length L (R110). -/
def State.turnLength (s : State) : Nat := s.fld Fld.SEQ_CFG_L

/-- The signed 32-bit difference of a named turn and the turn number (R139). -/
def State.turnAhead (s : State) (named : Nat) : Int := signedOf 32 (named + (2 ^ 32 - s.seq.turn % 2 ^ 32))

/-! ## The RPLL -/

/-- f_nom of the class that a measured frequency in kHz falls in (R19); 0 for none. -/
def refClass (khz : Nat) : Nat :=
  if 38000 ≤ khz ∧ khz ≤ 42000 then 40000000
  else if 95000 ≤ khz ∧ khz ≤ 105000 then 100000000
  else if 148437500 ≤ khz * 1000 ∧ khz * 1000 ≤ 164062500 then 156250000
  else 0

/-- The multiplier of a class (R19). -/
def classMult (fnom : Nat) : Nat := if fnom = 40000000 then 120 else if fnom = 100000000 then 48 else 30

/-- The PLLs of the mirror, the timing ports and the ring as the device sets them from the root (R222). -/
def State.systemPlls (s : State) : State :=
  [24, 25, 26, 27].foldl (fun s k =>
    let p := s.pllSetting k
    ((s.setFld (Fld.LN_PLL_R_M1 k) (p.2.1 - 1)).setFld (Fld.LN_PLL_N k) p.2.2.1).setFld (Fld.LN_PLL_FRAC k) p.2.2.2) s

/-- A multiplier in use: the RPLL locks, and PNOM and the device's own PLLs follow (R21, R222, R350). -/
def State.lockAt (s : State) (mult : Nat) : State :=
  let s1 := (s.setFld Fld.CLK_RPLL_MULT mult).setFlag Fld.CLK_STATUS_LOCK true
  let p := if s.clock.fnom * mult = 0 then 0 else 4000000000 * 2 ^ 40 / (s.clock.fnom * mult)
  let s2 := (s1.setReg Reg.TU_PNOM_LO (BitVec.ofNat 32 p)).setReg Reg.TU_PNOM_HI (BitVec.ofNat 32 (p / 2 ^ 32 % 65536))
  (({ s2 with time := { s2.time with pnom := p } } : State).setPeriod p).retick.systemPlls

/-- The step-clock divider of a level (R14, R528). -/
def levelDivider (level : Nat) : Nat :=
  match level with
  | 0 => 4
  | 1 => 5
  | 2 => 6
  | _ => 8

/-- A performance level in force: its divider, and PWR_STATUS.LEVEL (R528, R529). -/
def State.levelInForce (s : State) (level : Nat) : State :=
  ({ s with pwr := { s.pwr with divider := levelDivider level } } : State).setFld Fld.PWR_STATUS_LEVEL level

/-- Domains that a hold has risen for wake (R512), the wake recorded as an access by a MID. -/
def State.wakeHolds (s : State) (mid : Nat) : State :=
  if s.devState ≤ 1 then
    (List.range 88).foldl (fun s d => if s.domState d = 3 && s.holds d then s.wakeDomain d 3 mid else s) s
  else s

end Sys2Proof.Machine
end

