-- ==== Sys2Proof/Machine/Image.lean ====
section
/-! DEFINITION.  The Zherax image as the loader reads it: header, section table, frames, ownership entries, HBM section and start-up
program (R160 to R173, R329, R336, R337, R340, R386, R388 to R391, R619). -/

namespace Sys2Proof.Machine

/-! ## Bytes -/

/-- A list cut into pieces of `n`; a shorter rest is left out. -/
def pieces (n : Nat) (l : List Byte) : List (List Byte) := (List.range (l.length / n)).map (fun i => (l.drop (i * n)).take n)

/-- The 8-byte units of a payload. -/
def unitsOf (l : List Byte) : List Word64 := (pieces 8 l).map (fun b => BitVec.ofNat 64 (natOfBytes b))

/-- The units that a compressed payload expands to (R168); none where a record is cut short.  `fuel` is the payload's length. -/
def zrle : Nat → List Byte → Option (List Word64)
  | _, [] => some []
  | 0, _ => none
  | _, [_] => none
  | k + 1, a :: b :: r =>
    let n := a.toNat + 256 * b.toNat
    let m := n % 32768 + 1
    if n < 32768 then
      (if r.length < 8 * m then none else (zrle k (r.drop (8 * m))).map (fun t => unitsOf (r.take (8 * m)) ++ t))
    else (zrle k r).map (fun t => List.replicate m 0 ++ t)

/-- A length padded to a multiple of 8. -/
def pad8 (n : Nat) : Nat := (n + 7) / 8 * 8

/-- A DTAG that names this device (R166, R374). -/
def State.ownTag (s : State) (t : Nat) : Bool := t == 255 || t == s.fld Fld.DEV_STRAPS_DEVNUM

/-- A reserved DTAG (R166). -/
def tagReserved (t : Nat) : Bool := decide (64 ≤ t) && t != 255

/-! ## Header and section table -/

/-- The header's checks (R161, R176): the check that fails, or none.  `kind` is the KIND the load wants; `len` is the length that
the flash directory gives, where it gives one.
(DEDUCED, log 99.) -/
def State.headerCheck (s : State) (b : List Byte) (kind : Nat) (len : Option Nat) : Option Nat :=
  let n := numAt b 0x10 8
  let wrong := match len with
    | some k => k != n
    | none => false
  if numAt b 0 4 ≠ 0x3149585A ∨ numAt b 4 2 ≠ 1 ∨ numAt b 6 1 ≠ kind ∨ n < 256 ∨ wrong = true then some 1
  else if numAt b 8 2 ≠ 0x9640 ∨ numAt b 7 1 ≠ s.fld Fld.DEV_IDENT_BGEN then some 2
  else none

/-- Entries of the section table, and where it ends. -/
def secCount (b : List Byte) : Nat := numAt b 0x0A 2
def secEnd (b : List Byte) : Nat := numAt b 0x0C 4 + 24 * secCount b

/-- The section table (R162). -/
def sectionTable (b : List Byte) : List ImgSection :=
  (pieces 24 ((b.drop (numAt b 0x0C 4)).take (24 * secCount b))).map (fun e =>
    { kind := numAt e 0 1, vsorus := numAt e 1 1, dtag := numAt e 2 1, offset := numAt e 8 8, length := numAt e 16 8 })

/-- Two neighbours of the section table stand in order (R160, R163). -/
def ImgSection.inOrder (x y : ImgSection) : Bool := decide (x.kind ≤ y.kind) && decide (x.offset + x.length ≤ y.offset)

/-- Neighbours in order all through.
(DEDUCED, log 99.) -/
def tableInOrder : List ImgSection → Bool
  | x :: y :: r => x.inOrder y && tableInOrder (y :: r)
  | _ => true

/-- The sections of a kind for this device. -/
def State.sectionsOf (s : State) (t : List ImgSection) (kind : Nat) : List ImgSection :=
  t.filter (fun x => x.kind == kind && s.ownTag x.dtag)

/-- FOLIO sections rise in VSORUS within each DTAG (R163). -/
def foliosRise : List ImgSection → Bool
  | [] => true
  | x :: r =>
    (x.kind != 7 || r.all (fun y => y.kind != 7 || y.dtag != x.dtag || decide (x.vsorus < y.vsorus))) && foliosRise r

/-- The section table passes check 0x03 (R163, R176). -/
def State.tableGood (s : State) (b : List Byte) (full : Bool) : Bool :=
  let t := sectionTable b
  let n := fun k => (s.sectionsOf t k).length
  let vs := (s.sectionsOf t 7).map (fun x => x.vsorus)
  tableInOrder t && foliosRise t &&
    t.all (fun x => decide (1 ≤ x.kind) && decide (x.kind ≤ 10) && !tagReserved x.dtag && decide (secEnd b ≤ x.offset) &&
      decide (256 ≤ x.offset) && decide (x.offset + x.length ≤ numAt b 0x10 8) && (x.kind != 7 || decide (x.vsorus < 32))) &&
    (t.filter (fun x => x.kind == 10)).length == 1 && n 10 == 1 &&
    (if full then
      [1, 2, 3, 4, 5, 6, 8, 9].all (fun k => n k == 1) && n 7 == 32 && (List.range 32).all (fun v => vs.contains v)
     else
      [1, 2, 5, 6].all (fun k => n k == 0) && n 4 == 1 && n 8 == 1 && decide (n 3 ≤ 1) && decide (n 9 ≤ 1) && decide (1 ≤ n 7))

/-- The first section of a kind for this device with its index. -/
def State.ownSection (s : State) (kind : Nat) : Option (ImgSection × Nat) :=
  s.ldr.sections.zipIdx.find? (fun p => p.1.kind == kind && s.ownTag p.1.dtag)

/-- The bytes of a section, and whether they have all been taken. -/
def State.sectionBytes (s : State) (x : ImgSection) : List Byte := (s.ldr.image.drop x.offset).take x.length
def State.sectionIn (s : State) (x : ImgSection) : Bool := decide (x.offset + x.length ≤ s.ldr.image.length)

/-! ## Frames -/

/-- A frame header (R165). -/
structure FrameHdr where
  ftype : Nat
  dtag : Nat
  vs : Nat
  page : Nat
  packed : Bool
  offset : Nat
  ulen : Nat
  slen : Nat
  seq : Nat
  crc : Nat
  deriving DecidableEq, Repr

/-- A frame header read from its 24 bytes. -/
def FrameHdr.decode (b : List Byte) : FrameHdr :=
  { ftype := numAt b 0 1, dtag := numAt b 1 1, vs := numAt b 2 1, page := numAt b 3 1 % 2, packed := bitOf (numAt b 3 1) 1,
    offset := numAt b 4 4, ulen := numAt b 8 4, slen := numAt b 12 4, seq := numAt b 16 4, crc := numAt b 20 4 }

/-- The bytes of a frame, padding included. -/
def FrameHdr.size (h : FrameHdr) : Nat := 24 + pad8 h.slen

/-- The units of a frame (R165, R168); none where the payload does not give ULEN units. -/
def FrameHdr.units (h : FrameHdr) (b : List Byte) : Option (List Word64) :=
  let p := (b.drop 24).take h.slen
  let u := if h.packed then zrle p.length p else if h.slen % 8 = 0 then some (unitsOf p) else none
  match u with
  | some l => if l.length = h.ulen then some l else none
  | none => none

/-- A frame of a type that belongs in a section of a kind (R167). -/
def frameFits (ftype kind : Nat) : Bool :=
  if kind = 7 then decide (1 ≤ ftype) && decide (ftype ≤ 9) else decide (0x10 ≤ ftype) && decide (ftype ≤ 0x18)

/-- A type whose frames carry a page (R167). -/
def perPage (ftype : Nat) : Bool := decide (5 ≤ ftype) && decide (ftype ≤ 8)

/-! ## Ownership, consumers and slots -/

/-- An ownership entry (R170). -/
def ownDecode (b : List Byte) : OwnEntry :=
  { cls := numAt b 0 1, owner := numAt b 1 1, shared := bitOf (numAt b 2 1) 0, first := numAt b 4 2, count := numAt b 6 2 }

/-- An ownership entry is malformed (R170). -/
def ownBad (b : List Byte) : Bool :=
  let e := ownDecode b
  classSize e.cls == 0 || e.owner == 0 || decide (0x22 < e.owner) || e.count == 0 || decide (2 ≤ numAt b 2 1) ||
    numAt b 3 1 != 0 || (e.shared && e.cls != 1 && e.cls != 3) || decide (classSize e.cls < e.first + e.count)

/-- Two entries conflict (R171). -/
def OwnEntry.conflicts (x y : OwnEntry) : Bool :=
  x.cls == y.cls && x.owner != y.owner && !(x.shared && y.shared) &&
    decide (x.first < y.first + y.count) && decide (y.first < x.first + x.count)

/-- Some pair of entries conflicts. -/
def ownClash : List OwnEntry → Bool
  | [] => false
  | x :: r => r.any (fun y => x.conflicts y) || ownClash r

/-- An entry of a partial image conflicts with the live table or a live claim (R171). -/
def State.ownLiveClash (s : State) (mask : Nat) (e : OwnEntry) : Bool :=
  let region := fun o => decide (1 ≤ o) && decide (o ≤ 32) && bitOf mask (o - 1)
  s.own.table.any (fun x => !region x.owner && x.conflicts e) ||
    s.own.claims.any (fun c => c.2.isSome && c.1 / 65536 == e.cls && decide (e.first ≤ c.1 % 65536) &&
      decide (c.1 % 65536 < e.first + e.count))

/-- A consumer-map entry is well formed (R169). -/
def consumerGood (w : Word64) : Bool :=
  let c := Consumer.decode w
  let n := w.toNat
  n >>> 46 == 0 && (n >>> 36) % 16 == 0 && (n >>> 29) % 8 == 0 &&
    (match c.kind with
     | 1 => decide (c.target < 256)
     | 2 => decide (c.target < 16)
     | 3 => decide (c.target < 192)
     | _ => false)

/-- A resource is the image's, held by an owner, and not SHARED where that is asked (R619). -/
def State.heldBy (s : State) (cls idx owner : Nat) (alone : Bool) : Bool :=
  (s.ownEntries cls idx).any (fun e => e.owner == owner && !(alone && e.shared))

/-- A consumer-map entry names a resource that its sorus holds (R619). -/
def State.consumerOwned (s : State) (c : Consumer) : Bool :=
  match c.kind with
  | 2 => s.heldBy 0x02 c.target (1 + c.vsorus) false
  | 3 => s.heldBy 0x01 c.target (1 + c.vsorus) true
  | _ => true

/-- Two consumers name one target (R88, R169). -/
def Consumer.same (x y : Consumer) : Bool := x.kind == y.kind && x.target == y.target && (x.kind != 1 || x.vsorus == y.vsorus)

/-- Some two consumers of a table name one target. -/
def consumerClash : List Consumer → Bool
  | [] => false
  | x :: r => r.any (fun y => x.same y) || consumerClash r

/-- The check that a CONSUMER frame's units fail (R169, R176, R619), or none. -/
def State.consumerCheck (s : State) (offset : Nat) (us : List Word64) : Option Nat :=
  if !us.all consumerGood then some 0x0B
  else
    let rest := s.arr.consumers.filter (fun e => !(decide (offset ≤ e.1) && decide (e.1 < offset + us.length)))
    let l := us.map Consumer.decode
    if !l.all s.consumerOwned || consumerClash (l ++ rest.map (fun e => Consumer.decode e.2)) then some 0x0D else none

/-- The check that an SPSLOT frame's units fail (R619), or none. -/
def State.slotCheck (s : State) (offset : Nat) (us : List Word64) : Option Nat :=
  if us.zipIdx.any (fun p => p.1 != 0 && s.imageOwner 0x07 (offset + p.2) == 0) then some 0x0D else none

/-! ## The HBM section -/

/-- A region entry (R340). -/
structure RgnEntry where
  base : Nat
  size : Nat
  owner : Nat
  kind : Nat
  en : Bool
  mirror : Bool
  quota : Nat
  prio : Nat
  mgtacc : Nat
  deriving DecidableEq, Repr

/-- The region entries of an HBM section. -/
def rgnEntries (b : List Byte) : List RgnEntry :=
  (pieces 16 (b.take 512)).map (fun e =>
    { base := numAt e 0 4, size := numAt e 4 4, owner := numAt e 8 1, kind := numAt e 9 1, en := bitOf (numAt e 10 1) 0,
      mirror := bitOf (numAt e 10 1) 1, quota := numAt e 11 1, prio := numAt e 12 1 % 4, mgtacc := numAt e 12 1 / 4 % 4 })

/-- Regions in order overlap. -/
def rgnClash : List RgnEntry → Bool
  | [] => false
  | x :: r =>
    (x.en && r.any (fun y => y.en && decide (x.base < y.base + y.size) && decide (y.base < x.base + x.size))) || rgnClash r

/-- The issue entries and quiet windows of an HBM section: entry e of Vv at v × 16 + e. -/
def issueEntries (b : List Byte) : List Nat := (unitsOf ((b.drop 0x200).take 4096)).map (fun w => w.toNat)
def quietWindows (b : List Byte) : List Nat := (unitsOf ((b.drop 0x1200).take 512)).map (fun w => w.toNat)

/-- A quiet window opens in a turn (R336). -/
def quietOpens (w t : Nat) : Bool :=
  bitOf w 63 && decide ((w >>> 16) % 16 ≤ 8) && t % 2 ^ ((w >>> 16) % 16) == (w >>> 20) % 256

/-- A window's opening step and length. -/
def quietStart (w : Nat) : Nat := (w >>> 28) % 1024
def quietLen (w : Nat) : Nat := (w >>> 38) % 4096

/-- A window serves a pseudo-channel. -/
def quietFor (w pc : Nat) : Bool := bitOf w 63 && bitOf w pc

/-- The openings of a list of windows in 256 turns of L steps, as step numbers. -/
def quietOpenings (ws : List Nat) (len : Nat) : List Nat :=
  ((List.range 256).map (fun t =>
    (ws.filter (fun w => quietOpens w t)).map (fun w => t * len + quietStart w))).flatten

/-- A number put in ascending order. -/
def sortNat (l : List Nat) : List Nat :=
  l.foldl (fun a x => a.filter (fun y => decide (y ≤ x)) ++ x :: a.filter (fun y => decide (x < y))) []

/-- Neighbours of an ascending list stand at most `m` apart. -/
def gapsWithin (m : Nat) : List Nat → Bool
  | x :: y :: r => decide (y - x ≤ m) && gapsWithin m (y :: r)
  | _ => true

/-- A pseudo-channel has too few quiet slots (R337), at a turn length and a step-clock frequency. -/
def quietTooFew (ws : List Nat) (len hz : Nat) (pc : Nat) : Bool :=
  let l := ws.filter (fun w => quietFor w pc)
  let opens := sortNat (quietOpenings l len)
  match opens with
  | [] => true
  | x :: r =>
    !gapsWithin (1950 * hz / 1000000000) (x :: r ++ [x + 256 * len]) ||
      l.any (fun w => decide (quietLen w * 1000000000 < 100 * hz))

/-- A command slot of an entry falls inside a window of its pseudo-channel (R334, R337), in 256 turns that repeat. -/
def slotInQuiet (ws : List Nat) (len : Nat) (e : Nat) : Bool :=
  let pc := (e >>> 32) % 16
  let span := 256 * len
  let spans := ((List.range 256).map (fun t =>
    (ws.filter (fun w => quietFor w pc && quietOpens w t)).map (fun w => (t * len + quietStart w, quietLen w)))).flatten
  (List.range 256).any (fun t =>
    let ph := t % 2 ^ ((e >>> 36) % 16)
    let fires := decide ((e >>> 36) % 16 ≤ 8) && decide ((e >>> 40) % 256 ≤ ph) && decide (ph ≤ (e >>> 48) % 256)
    let at_ := t * len + e % 1024 + 32
    fires && spans.any (fun q => decide ((at_ + span - q.1 % span) % span < q.2)))

/-- The step-clock frequency in Hz at the level in force. -/
def State.stepHz (s : State) : Nat := if s.pwr.divider = 0 then 0 else s.rootHz / s.pwr.divider

/-- The HBM section fails check 0x0A (R176, R325, R329, R337, R440, R553).
(DEDUCED, log 102.) -/
def State.hbmBad (s : State) (b : List Byte) : Bool :=
  let rs := (rgnEntries b).filter (fun r => r.en)
  let locked := s.lockedSchedule
  let ws := quietWindows b
  let es := (issueEntries b).filter (fun e => bitOf e 63)
  rgnClash rs || rs.any (fun r => decide (262144 < r.base + r.size) || decide (6 ≤ r.kind) || (r.kind == 4 && decide (r.size < 0x1030))) ||
    decide (4096 < ((rs.filter (fun r => r.mirror)).map (fun r => r.size)).foldl (fun a x => a + x) 0) ||
    (locked && ((List.range 16).any (quietTooFew ws s.turnLength s.stepHz) ||
      es.any (fun e => decide ((e >>> 24) % 256 < 72) || decide (180 < (e >>> 24) % 256) || slotInQuiet ws s.turnLength e)))

/-- The owner that the ownership table must give a region (R619). -/
def State.rgnOwned (s : State) (r : Nat) (e : RgnEntry) : Bool :=
  if e.owner < 128 then s.heldBy 0x08 r (1 + e.owner % 32) false
  else s.heldBy 0x08 r 0x21 false || s.heldBy 0x08 r 0x22 false

/-- A region written (R325, R340), its owner as a physical MID (R32). -/
def State.rgnWrite (s : State) (r : Nat) (e : RgnEntry) : State :=
  let owner := if e.owner < 128 then 0x20 + s.physOf (e.owner % 32) else e.owner - 128
  let s1 := (s.setReg (Reg.HBM_RGN_BASE r) (BitVec.ofNat 32 (e.base % 2 ^ 18))).setReg (Reg.HBM_RGN_SIZE r)
    (BitVec.ofNat 32 (e.size % 2 ^ 19))
  let s2 := (((s1.setFld (Fld.HBM_RGN_OWN_OWNER r) owner).setFld (Fld.HBM_RGN_OWN_KIND r) e.kind).setFlag
    (Fld.HBM_RGN_OWN_EN r) e.en).setFlag (Fld.HBM_RGN_OWN_MIRROR r) e.mirror
  ((s2.setFld (Fld.HBM_RGN_CFG_QUOTA r) e.quota).setFld (Fld.HBM_RGN_CFG_PRIO r) e.prio).setFld (Fld.HBM_RGN_CFG_MGTACC r)
    e.mgtacc

/-! ## The start-up program -/

/-- The entries of a START section (R388). -/
def progEntries (b : List Byte) : List ProgEntry :=
  (pieces 8 ((b.drop 8).take (8 * numAt b 3 1))).map (fun e =>
    { op := numAt e 0 1, goOn := bitOf (numAt e 1 1) 0, tmo := numAt e 2 2, arg := numAt e 4 4 })

/-- A START section keeps the rules of R391. -/
def progGood (b : List Byte) (full : Bool) : Bool :=
  let n := numAt b 3 1
  let ops := (progEntries b).map (fun e => e.op)
  let body := ops.dropLast
  decide (1 ≤ n) && decide (n ≤ 31) && ops.length == n && ops.getLast? == some 0 && !body.contains 0 &&
    (if full then
      let before := body.takeWhile (fun o => o != 7)
      let after := body.drop (before.length + 1)
      decide (before.length < body.length) && before.all (fun o => decide (1 ≤ o) && decide (o ≤ 6)) &&
        decide ((before.filter (fun o => o == 6)).length ≤ 1) && (after == [] || after == [8])
     else body.all (fun o => o == 2 || o == 3 || o == 5))

/-! ## The mapping -/

/-- A physical sorus is usable (R386). -/
def State.usable (s : State) (n : Nat) : Bool :=
  if n < 32 then !bitOf (s.reg Reg.LDR_BAD_LO).toNat n else decide (n < 34) && !bitOf (s.reg Reg.LDR_BAD_HI).toNat (n - 32)

/-- The first pass of R386: preferences; 0xFF where none can be met. -/
def State.mapPreferred (s : State) (grid : List Byte) : List Nat :=
  (List.range 32).foldl (fun taken v =>
    let ovr := s.fld ⟨Reg.LDR_OVR (v / 4), 8 * (v % 4), 8⟩
    let p := if ovr ≠ 0xFF then ovr else numAt grid v 1
    taken ++ [if p ≤ 33 && s.usable p && !taken.contains p then p else 0xFF]) []

/-- The second pass of R386: every virtual sorus left takes the lowest usable one; 0xFF where none is left. -/
def State.mapRest (s : State) (l : List Nat) : List Nat :=
  (List.range 32).foldl (fun m v =>
    if m.getD v 0xFF = 0xFF then
      match (List.range 34).find? (fun n => s.usable n && !m.contains n) with
      | some n => m.set v n
      | none => m
    else m) l

end Sys2Proof.Machine
end

