-- ==== Sys2Proof/Machine/Change.lean ====
section
/-! DEFINITION.  How loads fail and how a partial load, swap or repair halts its region, takes effect or ends (R32, R77, R101,
R172, R393, R394, R400 to R407, R423). -/

namespace Sys2Proof.Machine

/-! ## Phases and failures -/

/-- The loader enters a phase (R383). -/
def State.setPhase (s : State) (p : Nat) : State :=
  ({ s with ldr := { s.ldr with phase := p } } : State).setFld Fld.LDR_STATUS_PHASE p

/-- The slot to which a failed load falls back (R394, R381): the other slot's FULL entry with FALLBACK, for a flash leader's ACTIVE
FULL entry with DEVCOUNT 1 that failed in HEADER to VERIFY, once. -/
def State.fallbackSlot (s : State) : Option Nat :=
  match s.ldr.entries[s.ldr.index]? with
  | none => none
  | some e =>
    if s.ldr.src = 0 ∧ s.fld Fld.LDR_XSPI_ROLE = 0 ∧ s.ldr.fellBack = false ∧ e.kind = 2 ∧ e.active = true ∧
        numAt s.ldr.image 0x19 1 = 1 ∧ 2 ≤ s.ldr.phase ∧ s.ldr.phase ≤ 7 then
      s.ldr.entries.findIdx? (fun x => x.kind == 2 && x.slot != e.slot && x.fallback)
    else none

/-- The loader takes up a stream from its first byte; the records of the last failed check are cleared (R176). -/
def State.beginStream (s : State) (src index : Nat) : State :=
  (({ s with ldr := { s.ldr with
      src := src, index := index, image := [], pos := 0, nextSeq := 0, sections := [], paused := false } } : State).setReg
    Reg.LDR_CHK_STAT (s.reg Reg.LDR_CHK_STAT &&& ~~~ (Fld.LDR_CHK_STAT_CHECK.mask ||| Fld.LDR_CHK_STAT_SECTION.mask))).setReg
    Reg.LDR_CHK_INFO 0

/-- A full load fails (R393), or falls back (R394). -/
def State.fullFails (s : State) (code : Status) : State :=
  match s.fallbackSlot with
  | some i =>
    let s1 := (s.beginStream 0 i).setPhase 2
    (({ s1 with ldr := { s1.ldr with fellBack := true, training := false } } : State).setFlag
      Fld.LDR_IMG_SRC_FALLBACK true).raiseBit Fld.LDR_STATUS_FALLBACK 414
  | none =>
    let s1 := (s.setFld Fld.LDR_FAIL_PHASE s.ldr.phase).setFld Fld.LDR_FAIL_CODE code.toNat
    let s2 := if s1.flag Fld.LDR_CMD_STAT_PENDING then
        (s1.setFlag Fld.LDR_CMD_STAT_PENDING false).setFld Fld.LDR_CMD_STAT_CODE code.toNat else s1
    let s3 := (s2.setPhase 11).raiseBit Fld.LDR_STATUS_FAIL 408
    { s3 with ldr := { s3.ldr with training := false, paused := false }, clock := { s3.clock with cfgErr := true } }

/-- The virtual sori of a mask. -/
def maskSori (m : Nat) : List Nat := (List.range 32).filter (fun v => bitOf m v)

/-- ARR_PAGE.PENDING, or READY, of the sori of a region. -/
def State.regionPending (s : State) (m : Nat) (b : Bool) : State :=
  (maskSori m).foldl (fun s v => s.setFlag (Fld.ARR_PAGE_PENDING (s.physOf v)) b) s
def State.regionReady (s : State) (m : Nat) (b : Bool) : State :=
  (maskSori m).foldl (fun s v => s.setFlag (Fld.ARR_PAGE_READY (s.physOf v)) b) s

/-- LDR_PR_STAT.HALTED as the halted sori give it (R401). -/
def State.haltedBit (s : State) : State := s.setFlag Fld.LDR_PR_STAT_HALTED (!s.arr.halted.isEmpty)

/-- Nothing pends any longer: BUSY, PAGED, REPAIR and PENDING clear, and CODE is written. -/
def State.changeOver (s : State) (code : Status) : State :=
  let s1 : State := { s with ldr := { s.ldr with change := none, target := none } }
  ((((s1.setFlag Fld.LDR_PR_STAT_BUSY false).setFlag Fld.LDR_PR_STAT_PAGED false).setFlag Fld.LDR_PR_STAT_REPAIR false).setFlag
    Fld.LDR_CMD_STAT_PENDING false).setFld Fld.LDR_CMD_STAT_CODE code.toNat

/-- A partial load, swap or repair fails or is abandoned (R400, R403, R404, R407): a paged region keeps READY 0, a full-depth region
that has halted stays so, and the spare of a repair is switched off.
(DEDUCED, log 101.) -/
def State.changeFails (s : State) (c : Change) (code : Status) : State :=
  let t := s.ldr.target
  let s1 := s.changeOver code
  let s2 := if c.kind = 1 ∨ c.kind = 3 then (s1.regionPending c.mask false).regionReady c.mask false else s1
  match t with
  | some n => if s2.wanted n then s2 else s2.startShutdown n
  | none => s2

/-- A load fails with a status. -/
def State.loadFails (s : State) (code : Status) : State :=
  match s.ldr.change with
  | none => s.fullFails code
  | some c => s.changeFails c code

/-- A check of R176 fails: its code, section and frame, its sticky bit and event, and the load. -/
def State.checkFails (s : State) (chk sec seq : Nat) : State :=
  let code := if 0x0C ≤ chk then Code.imageConflict else Code.imgFormat
  let s1 := ((s.setFld Fld.LDR_CHK_STAT_CHECK chk).setFld Fld.LDR_CHK_STAT_SECTION sec).setReg Reg.LDR_CHK_INFO
    (BitVec.ofNat 32 seq)
  let s2 := if code = Code.imgFormat then s1.raiseBit Fld.LDR_CHK_STAT_FORMAT 405
    else s1.raiseBit Fld.LDR_CHK_STAT_IMG_CONFLICT 406
  s2.loadFails code

/-- A frame outside the region of its load, or an ABORT of a full-depth load (R400, R404, R407). -/
def State.regionFault (s : State) (c : Change) (cause vs : Nat) : State :=
  let s1 := (s.setFld Fld.LDR_PR_STAT_CAUSE cause).setFld Fld.LDR_PR_STAT_VS vs
  (s1.raiseBit Fld.LDR_PR_STAT_REGION_FAULT 410).changeFails c Code.regionFault

/-! ## Halts -/

/-- A sorus of a full-depth region stops executing (R401): its outputs hold, or take the safe values of the page in force. -/
def State.haltSorus (s : State) (n : Nat) (hold : Bool) : State :=
  let s1 := (({ s with arr := { s.arr with halted := Sparse.put none s.arr.halted n (some hold) } } : State).setFlag
    (Fld.ARR_STATUS_RUN n) false).portsDead n
  if hold then s1.setSafe n else s1

/-- The region of a full-depth load halts (R401). -/
def State.haltRegion (s : State) : State :=
  match s.ldr.change with
  | some c =>
    if c.kind = 2 ∧ c.halted = false then
      let s1 := (maskSori c.mask).foldl (fun s v => s.haltSorus (s.physOf v) c.hold) s
      ({ s1 with ldr := { s1.ldr with change := some { c with halted := true } } } : State).haltedBit
    else s
  | none => s

/-! ## Changes -/

/-- The slot patch of a virtual sorus is applied (R101): the slots of every DSLOT unit, valid, and then the valid bits of every
DVALID unit. -/
def State.patchSlots (s : State) (n v : Nat) (ps : List (Bool × Nat × Nat × Word64)) : State :=
  let s1 := ps.foldl (fun s p =>
    if p.1 = false ∧ p.2.1 = v then
      let s' := s.folioWrite n 0x02 0 p.2.2.1 p.2.2.2
      s'.folioWrite n 0x03 0 p.2.2.1 (BitVec.allOnes 64)
    else s) s
  ps.foldl (fun s p => if p.1 = true ∧ p.2.1 = v then s.folioWrite n 0x03 0 p.2.2.1 p.2.2.2 else s) s1

/-- Port bits whose entry differs between the pages clear their valid bit; one whose new entry gives no source reads 0 (R101). -/
def State.swapPorts (s : State) (n old new : Nat) : State :=
  let l := s.portEntries n 0 ++ (s.portEntries n 1).filter (fun i => !(s.portEntries n 0).contains i)
  l.foldl (fun st i =>
    if s.reg (Reg.ARR_PORTMAP n old i) = s.reg (Reg.ARR_PORTMAP n new i) then st
    else
      let s1 := st.setFlag (portValid n (i / 64) (i % 64)) false
      if s.portSrc n new i = PortSrc.none then
        { s1 with arr := { s1.arr with portIn := putBit s1.arr.portIn n (i / 64) (i % 64) false } }
      else s1) s

/-- A page swap of a virtual sorus, with the slot patch and the turn offsets that its load held (R101, R399, R405). -/
def State.swapPage (s : State) (c : Change) (v : Nat) : State :=
  let n := s.physOf v
  let old := s.page n
  let s1 := (s.patchSlots n v c.patches).swapPorts n old (1 - old)
  let s2 := c.offsets.foldl (fun s o =>
    if o.1 = v then (s.sorcfgWrite n o.2.1 o.2.2 false).keepGolden ((goldenFolio 0x09 0 o.2.1).map (fun g => v * 0x810000 + g)) o.2.2
    else s) s1
  (s2.setFlag (Fld.ARR_PAGE_ACTIVE n) (old == 0)).setFlag (Fld.ARR_PAGE_PENDING n) false

/-- A sorus starts from its preload (R159, R402): neither frozen nor halted, its outputs safe. -/
def State.freshSorus (s : State) (n : Nat) : State :=
  (({ s with arr := { s.arr with
      halted := Sparse.put none s.arr.halted n none, voted0 := Sparse.put false s.arr.voted0 n false,
      faulted := Sparse.put false s.arr.faulted n false, essFreeze := Sparse.put false s.arr.essFreeze n false } } : State).setFlag
    (Fld.ARR_STATUS_FROZEN n) false).setSafe n

/-- The grants of one sorus pass to another (R32, R77, R329): HBM regions and issue entries. -/
def State.moveGrants (s : State) (old new : Nat) : State :=
  let s1 := (List.range 32).foldl (fun s r =>
    if s.flag (Fld.HBM_RGN_OWN_EN r) && s.fld (Fld.HBM_RGN_OWN_OWNER r) == 0x20 + old then
      s.setFld (Fld.HBM_RGN_OWN_OWNER r) (0x20 + new) else s) s
  (List.range 32).foldl (fun s k =>
    let a := 0x07004000 + old * 0x80 + 4 * k
    (s.setReg (0x07004000 + new * 0x80 + 4 * k) (s.reg a)).setReg a 0) s1

/-- A sorus becomes unusable (R406). -/
def State.markBad (s : State) (n : Nat) : State :=
  if n < 32 then s.setReg Reg.LDR_BAD_LO (s.reg Reg.LDR_BAD_LO ||| BitVec.ofNat 32 (2 ^ n))
  else s.setReg Reg.LDR_BAD_HI (s.reg Reg.LDR_BAD_HI ||| BitVec.ofNat 32 (2 ^ (n - 32)))

/-- A remap of a virtual sorus (R77, R406). -/
def State.remap (s : State) (v new : Nat) (mark : Bool) : State :=
  let old := s.physOf v
  let s1 := ((s.portsDead old).setPhysOf v new).moveGrants old new
  let s2 := ((s1.setFlag (Fld.ARR_STATUS_MAPPED old) false).setFlag (Fld.ARR_STATUS_RUN old) false).setFlag
    (Fld.ARR_STATUS_MAPPED new) true
  let s3 := (s2.freshSorus old).freshSorus new
  let s4 := (((s3.setFlag (Fld.PWR_DCTL_REQ old) false).setFld (Fld.PWR_DSTAT_STATE old) 2).haltedBit)
  if mark then s4.markBad old else s4

/-- The image's ownership entries replace those of its region (R172). -/
def State.replaceOwn (s : State) (c : Change) : State :=
  let keep := s.own.table.filter (fun e => !(decide (1 ≤ e.owner) && decide (e.owner ≤ 32) && bitOf c.mask (e.owner - 1)))
  { s with own := { s.own with table := keep ++ c.own } }

/-- The SETTLE bytes of a GRID section for some virtual sori (R158, R386). -/
def State.settleBytes (s : State) (vs : List Nat) : State :=
  match s.ownSection 3 with
  | some p => vs.foldl (fun s' v =>
      s'.setFld ⟨Reg.LDR_SETTLE (v / 4), 8 * (v % 4), 8⟩ (numAt (s.sectionBytes p.1) (32 + v) 1)) s
  | none => s

/-- The digest that MR3 takes for a change (R423).
(DEDUCED, log 102.) -/
def State.changeDigest (s : State) (c : Change) : List Byte :=
  digest64 (c.identity ++ bytesOfNat 1 c.kind ++ bytesOfNat 4 c.mask ++ bytesOfNat 8 s.seq.turn)

/-- A change takes effect (R402). -/
def State.changeApplies (s : State) (c : Change) : State :=
  let t := s.ldr.target
  let s1 : State := match c.kind with
    | 2 => ((maskSori c.mask).foldl (fun s v => s.freshSorus (s.physOf v)) s).haltedBit
    | 4 => match t with
      | some n => s.remap c.vs n c.mark
      | none => s
    | _ => (maskSori c.mask).foldl (fun s v => s.swapPage c v) s
  let s2 := if c.kind ≤ 2 then (s1.replaceOwn c).settleBytes (maskSori c.mask) else s1
  let s3 := (s2.extendMr 3 (s.changeDigest c)).changeOver Code.ok
  (s3.runBits.raiseBit Fld.LDR_PR_STAT_DONE 411).wakeHolds 0x10

/-- Bits [31:0] of the turn named by a change lie at or before a turn (R139, R402). -/
def Change.reached (c : Change) (turn : Nat) : Bool :=
  match c.due with
  | some d => decide (signedOf 32 (d + (2 ^ 32 - turn % 2 ^ 32)) ≤ 0)
  | none => true

/-- Order 4 of a boundary that begins a turn (R116): a change that is complete and due takes effect, and a full-depth region that
has not halted halts. -/
def State.changesAt (s : State) (turn : Nat) : State :=
  match s.ldr.change with
  | some c => if c.stage = 9 ∧ c.reached turn then s.changeApplies c else s.haltRegion
  | none => s

/-- A change that is complete (R402): set for a boundary in RUN and STALL, DEFERRED where its named boundary has passed; in the
other states it takes effect at once. -/
def State.changeReady (s : State) (c : Change) : State :=
  let c1 := { c with stage := 9 }
  let s1 : State := { s with ldr := { s.ldr with change := some c1 } }
  let late := match c.due with
    | some _ => c.reached s.seq.turn
    | none => false
  let s2 := if late then s1.raiseBit Fld.LDR_PR_STAT_DEFERRED 415 else s1
  if s.seqState = 2 ∨ s.seqState = 3 then
    (if c.kind = 1 ∨ c.kind = 3 then s2.regionPending c.mask true else s2)
  else s2.changeApplies c1

/-! ## Commands of LDR_CMD (R396, R397) -/

/-- MIDs that may write LDR_CMD (R396). -/
def ldrWriter (mid : Mid) : Bool := isManager mid || mid == 0x0A

/-- A refused loader command (R397). -/
def State.ldrRefuse (s : State) (code : Status) : State :=
  ((s.setFld Fld.LDR_CMD_STAT_CODE code.toNat).raiseBit Fld.LDR_STATUS_CMD_REFUSED 412).reply code

/-- An accepted loader command (R397). -/
def State.ldrAccept (s : State) : State :=
  ((s.setFlag Fld.LDR_CMD_STAT_PENDING true).setFld Fld.LDR_CMD_STAT_CODE 0).reply Code.ok

/-- The lowest unmapped usable sorus, or the one named (R397, R406); none where it is unfit. -/
def State.repairTarget (s : State) (t : Nat) : Option Nat :=
  let fit := fun n => decide (n < 34) && s.usable n && !s.mapped n
  if t = 63 then (List.range 34).find? fit else if fit t then some t else none

/-- A partial load, swap or repair is refused, or not, in the order of R397. -/
def State.changeRefusal (s : State) (v : Word32) : Option Status :=
  let cmd := Fld.LDR_CMD_CMD.get v
  let mask := (s.reg Reg.LDR_CMD_ARG).toNat
  let paged := Fld.LDR_CMD_PAGED.get v == 1
  if s.ldr.phase ≠ 10 ∨ s.ldr.change.isSome then some Code.ldrBusy
  else if Fld.LDR_CMD_AT.get v = 1 ∧ s.turnAhead (s.reg Reg.LDR_CMD_TURN).toNat ≤ 0 then some Code.ldrLate
  else match cmd with
    | 2 =>
      if mask = 0 ∨ (paged = true ∧ (maskSori mask).any (fun x =>
          !s.flag (Fld.ARR_PAGE_PAGED (s.physOf x)) || (Sparse.get none s.arr.halted (s.physOf x)).isSome) = true) then
        some Code.ldrSorus else none
    | 3 => if (s.repairTarget (Fld.LDR_CMD_TARGET.get v)).isNone then some Code.ldrSorus else none
    | _ =>
      if mask = 0 ∨ (maskSori mask).any (fun x => !s.flag (Fld.ARR_PAGE_READY (s.physOf x))) = true then
        some Code.ldrSorus else none

/-- A request to the twin partner for a stream (R560). -/
def State.loadRequest (s : State) (v : Word32) : State :=
  if Fld.LDR_CMD_SRC.get v = 3 then
    s.emit (.twinFrame 3 0 [8, BitVec.ofNat 64 v.toNat, BitVec.ofNat 64 (Fld.LDR_CMD_VS.get v)])
  else s

/-- The change that a command asks for. -/
def State.changeOf (s : State) (v : Word32) : Change :=
  let cmd := Fld.LDR_CMD_CMD.get v
  let vs := Fld.LDR_CMD_VS.get v
  { kind := if cmd = 3 then 4 else if cmd = 4 then 3 else if Fld.LDR_CMD_PAGED.get v = 1 then 1 else 2,
    mask := if cmd = 3 then 2 ^ vs else (s.reg Reg.LDR_CMD_ARG).toNat,
    due := if Fld.LDR_CMD_AT.get v = 1 then some (s.reg Reg.LDR_CMD_TURN).toNat else none,
    hold := Fld.LDR_CMD_HOLD.get v == 1, vs := vs, mark := Fld.LDR_CMD_MARK.get v == 1, stage := 2,
    identity := if cmd = 3 then Sparse.get [] s.ldr.folios vs else List.replicate 64 0, own := [], halted := false, patches := [],
    offsets := [] }

/-- The key ranges of a sorus dropped from a family of pairs. -/
def dropRange {α : Type} (l : Pairs α) (lo hi : Nat) : Pairs α := l.filter (fun e => !(decide (lo ≤ e.1) && decide (e.1 < hi)))

/-- What no frame gives a sorus (R153): its instruction words, slots, tables and block memories empty. -/
def State.clearSorus (s : State) (n : Nat) : State :=
  let b := 0x0C000000 + n * 0x100000
  let f := fun (l : Pairs Word64) => dropRange l (n * 16) (n * 16 + 16)
  let s1 : State := { s with
    regs := dropRange s.regs (b + 0x1000) (b + 0x80000),
    arr := { s.arr with
      imem := dropRange s.arr.imem (n * 1048576) (n * 1048576 + 1048576), laneSrc := f s.arr.laneSrc, laneOld := f s.arr.laneOld,
      laneIn := f s.arr.laneIn, laneNext := f s.arr.laneNext, outBits := f s.arr.outBits, portIn := f s.arr.portIn,
      bus := f s.arr.bus, posTag := dropRange s.arr.posTag (n * 256) (n * 256 + 256),
      xoff := dropRange s.arr.xoff (n * 256) (n * 256 + 256), posBits := dropRange s.arr.posBits (n * 4) (n * 4 + 4),
      probeMap := dropRange s.arr.probeMap (n * 4096) (n * 4096 + 4096),
      bmPend := dropRange s.arr.bmPend (n * 64) (n * 64 + 64), rdReg := dropRange s.arr.rdReg (n * 64) (n * 64 + 64),
      sorcfg := dropRange s.arr.sorcfg (n * 80) (n * 80 + 80) } }
  s1.setFlag (Fld.ARR_WIN_STAT_MODIFIED n) false

/-- An accepted LOAD_PARTIAL, REPAIR or SWAP begins. -/
def State.changeBegins (s : State) (mid : Mid) (v : Word32) : State :=
  let c := s.changeOf v
  let src := Fld.LDR_CMD_SRC.get v
  let fromImage := src = 0 ∧ c.kind = 4
  let s1 := if c.kind = 3 then s else
    s.beginStream src (if fromImage then s.fld Fld.LDR_IMG_SRC_INDEX else Fld.LDR_CMD_INDEX.get v)
  let s2 := (((s1.setFlag Fld.LDR_PR_STAT_BUSY true).setFlag Fld.LDR_PR_STAT_PAGED (c.kind == 1)).setFlag Fld.LDR_PR_STAT_REPAIR
    (c.kind == 4)).ldrAccept
  let s3 : State := { s2 with ldr := { s2.ldr with change := some c } }
  match c.kind with
  | 1 => ((s3.setReg Reg.LDR_PR_MASK (BitVec.ofNat 32 c.mask)).regionReady c.mask false).loadRequest v
  | 2 =>
    let s4 := (s3.setReg Reg.LDR_PR_MASK (BitVec.ofNat 32 c.mask)).loadRequest v
    if s4.seqState = 2 ∨ s4.seqState = 3 then s4 else s4.haltRegion
  | 3 => s3.changeReady c
  | _ =>
    let len := Sparse.get 0 s.ldr.folioLen c.vs
    let s4 : State := { s3 with ldr := { s3.ldr with
      target := s.repairTarget (Fld.LDR_CMD_TARGET.get v),
      change := some { c with stage := if src = 0 then 2 else 6 },
      sections := if src = 0 then [] else [{ kind := 7, vsorus := c.vs, dtag := 255, offset := 0, length := len }] } }
    match s4.ldr.target with
    | some n => ((s4.clearSorus n).wakeHolds mid.toNat).loadRequest v
    | none => s4

/-- An accepted LOAD_FULL (R395): the device unloads, and the loader runs from HEADER. -/
def State.loadFull (s : State) (v : Word32) : State :=
  let s1 := match s.ldr.change with
    | some c => s.changeFails c Code.ok
    | none => s
  let s2 := s1.seqUnload
  let s3 := (s2.beginStream (Fld.LDR_CMD_SRC.get v) (Fld.LDR_CMD_INDEX.get v)).setPhase 2
  let s4 : State := { s3 with
    ldr := { s3.ldr with doneOut := false, fellBack := false, prog := [], progAt := 0, training := false },
    iob := { s3.iob with active := false }, arr := { s3.arr with halted := [] } }
  (s4.haltedBit.ldrAccept).loadRequest v

/-- ABORT (R404).
(DEDUCED, log 101.) -/
def State.ldrAbort (s : State) : State :=
  match s.ldr.change with
  | none => s.reply Code.ok
  | some c => (if c.kind = 2 then s.regionFault c 5 0 else s.changeFails c Code.ok).reply Code.ok

/-- A write of LDR_CMD (R396, R397). -/
def State.ldrCommand (s : State) (mid : Mid) (v : Word32) : State :=
  if !ldrWriter mid then (s.raiseBit Fld.LDR_STATUS_DENIED 412).reply Code.denied
  else
    match Fld.LDR_CMD_CMD.get v with
    | 0 => s.reply Code.ok
    | 1 => if 1 ≤ s.ldr.phase ∧ s.ldr.phase ≤ 9 then s.ldrRefuse Code.ldrBusy else s.loadFull v
    | 2 => match s.changeRefusal v with
      | some c => s.ldrRefuse c
      | none => s.changeBegins mid v
    | 3 => match s.changeRefusal v with
      | some c => s.ldrRefuse c
      | none => s.changeBegins mid v
    | 4 => match s.changeRefusal v with
      | some c => s.ldrRefuse c
      | none => s.changeBegins mid v
    | 5 => s.ldrAbort
    | _ => (s.raiseBit Fld.LDR_STATUS_CMD_BAD 412).reply Code.ok

/-- LDR_CMD written with its CMD field set. -/
def State.ldrCmd (s : State) (mid : Mid) (v : Word32) (code : Nat) : State :=
  let w := Fld.LDR_CMD_CMD.put v code
  s.gate mid Reg.LDR_CMD (some w) (fun s => s.ldrCommand mid w)

/-- LOAD_FULL (R395, R397). -/
def execLoadFull (mid : Mid) (value : Word32) (s : State) : Result := .next (s.ldrCmd mid value 1)

/-- LOAD_PARTIAL (R397, R398). -/
def execLoadPartial (mid : Mid) (value : Word32) (s : State) : Result := .next (s.ldrCmd mid value 2)

/-- REPAIR (R397, R406). -/
def execLdrRepair (mid : Mid) (value : Word32) (s : State) : Result := .next (s.ldrCmd mid value 3)

/-- SWAP (R397, R405). -/
def execLdrSwap (mid : Mid) (value : Word32) (s : State) : Result := .next (s.ldrCmd mid value 4)

/-- ABORT (R397, R404). -/
def execLdrAbort (mid : Mid) (value : Word32) (s : State) : Result := .next (s.ldrCmd mid value 5)

end Sys2Proof.Machine
end

