-- ==== Sys2Proof/Machine/Loader.lean ====
section
/-! DEFINITION.  The loader's phases on a stream of image bytes (R21, R153, R160 to R176, R339, R340, R380 to R391, R398 to R407), its
FIFO (R382), and claims of resources (R173). -/

namespace Sys2Proof.Machine

/-! ## Taking the stream -/

/-- Bytes of the stream taken: from flash the bytes that the command brings, from the FIFO, the ring and the twin all that have
arrived (R382).
(DEDUCED, log 80.) -/
def State.takeStream (s : State) (bytes : List Byte) : State :=
  if s.ldr.src = 0 then { s with ldr := { s.ldr with image := s.ldr.image ++ bytes } }
  else
    let s1 : State := { s with ldr := { s.ldr with
      image := s.ldr.image ++ Sparse.get [] s.ldr.stream s.ldr.src, stream := Sparse.put [] s.ldr.stream s.ldr.src [] } }
    if s.ldr.src = 1 then s1.setReg Reg.LDR_FIFO_FREE 65536 else s1

/-- A phase of the loader on the stream with more bytes taken; nothing is taken while the flash bus pauses (R380). -/
def State.phaseOn (s : State) (bytes : List Byte) (f : State → State) : State :=
  if s.ldr.paused then s else f (s.takeStream bytes)

/-- The stage that a load, full or partial, has reached, as phases of R383.
(DEDUCED, log 101.) -/
def State.loadStage (s : State) : Nat :=
  match s.ldr.change with
  | some c => if c.kind = 3 then 9 else c.stage
  | none => s.ldr.phase

/-- A partial load or repair at another stage; a full load at another phase. -/
def State.toStage (s : State) (p : Nat) : State :=
  match s.ldr.change with
  | some c => { s with ldr := { s.ldr with change := some { c with stage := p } } }
  | none => s.setPhase p

/-- The load reads a FULL image: a full load, and a repair from flash (R406). -/
def State.wantsFull (s : State) : Bool :=
  match s.ldr.change with
  | some c => c.kind == 4
  | none => true

/-! ## HEADER, CLOCK, CHECK and HBM -/

/-- The flash entry of a load from flash fits it (R397): TYPE 2 for a full image, 3 for a partial one. -/
def State.entryFits (s : State) : Bool :=
  s.ldr.src != 0 ||
  (match s.ldr.entries[s.ldr.index]? with
   | some e => e.kind == (if s.wantsFull then 2 else 3)
   | none => false)

/-- The length that the flash directory gives the image. -/
def State.entryLength (s : State) : Option Nat :=
  if s.ldr.src = 0 then (s.ldr.entries[s.ldr.index]?).map (fun e => e.length) else none

/-- HEADER (R161, R176, R383): the header and the section table.
(DEDUCED, log 99.) -/
def State.headerRun (s : State) : State :=
  let b := s.ldr.image
  if !s.entryFits then s.checkFails 1 0 0
  else if b.length < 256 then s
  else match s.headerCheck b (if s.wantsFull then 1 else 2) s.entryLength with
    | some k => s.checkFails k 0 0
    | none =>
      if secCount b = 0 ∨ 4096 < secCount b ∨ numAt b 0x10 8 < secEnd b then s.checkFails 3 0 0
      else if b.length < secEnd b then s
      else if !s.tableGood b s.wantsFull then s.checkFails 3 0 0
      else
        let s1 : State := { s with ldr := { s.ldr with sections := sectionTable b } }
        match s.ldr.change with
        | some c => s1.toStage (if c.kind = 4 then 6 else 4)
        | none => s1.setPhase 3

/-- CLOCK (R21, R176, R380): the multiplier applied, and a flash leader's pause. -/
def State.clockRun (s : State) : State :=
  match s.ownSection 1 with
  | none => s
  | some (x, i) =>
    if !s.sectionIn x then s
    else
      let m := Config.clockMult (s.sectionBytes x)
      let f := s.clock.fnom * m
      if m < 24 ∨ 200 < m ∨ f < 4600000000 ∨ 5000000000 < f then s.checkFails 8 i 0
      else
        let s1 := (s.lockAt m).setPhase 4
        { s1 with ldr := { s1.ldr with paused := s.ldr.src == 0 } }

/-- A SEQUENCER section fails check 0x07 or 0x09 (R110, R118, R176). -/
def State.seqCheck (s : State) (cfg : Word32) : Option Nat :=
  let l := Fld.SEQ_CFG_L.get cfg
  let d := levelDivider (Fld.SEQ_CFG_LEVEL.get cfg)
  let mult := s.fld Fld.CLK_RPLL_MULT
  if l < 8 ∨ 1024 < l then some 7
  else if Fld.SEQ_CFG_DISC.get cfg = 0 ∧ Fld.SEQ_CFG_STROBE_SRC.get cfg = 0 ∧ (mult % d ≠ 0 ∨ l % (mult / d) ≠ 0) then some 9
  else none

/-- The mapping of R386 written: LDR_MAP, MAPPED and SETTLE. -/
def State.mapSori (s : State) (m : List Nat) : State :=
  let s1 := (List.range 34).foldl (fun s n => s.setFlag (Fld.ARR_STATUS_MAPPED n) (m.contains n)) s
  (m.zipIdx.foldl (fun s p => s.setPhysOf p.2 p.1) s1).settleBytes (List.range 32)

/-- The entries of an OWNERSHIP section. -/
def ownEntriesOf (b : List Byte) : List OwnEntry := (pieces 8 b).map ownDecode

/-- The check that an OWNERSHIP section fails on its own (R170, R171), or none. -/
def ownCheck (b : List Byte) : Option Nat :=
  if b.length % 8 ≠ 0 ∨ (pieces 8 b).any ownBad = true then some 0x0B
  else if ownClash (ownEntriesOf b) then some 0x0C else none

/-- What CHECK leaves of a full load that passes it (R111, R134, R172, R386, R528). -/
def State.checkPassed (s : State) (m : List Nat) (own seqb : List Byte) : State :=
  let q := Config.seqSection seqb
  let s1 : State := { s with
    own := { s.own with table := ownEntriesOf own, claims := [] },
    seq := { s.seq with parent := q.2.2.1, children := q.2.2.2 } }
  let s2 := (((s1.setReg Reg.SEQ_CFG q.1).setReg Reg.SEQ_CFG1 q.2.1).mapSori m).wakeHolds 0x10
  let lvl := Fld.SEQ_CFG_LEVEL.get q.1
  let s3 := s2.levelInForce lvl
  { s3 with pwr := { s3.pwr with vsel := lvl } }

/-- CHECK of a full load (R383, R386).
(DEDUCED, log 99.) -/
def State.checkFull (s : State) : State :=
  match s.ownSection 2, s.ownSection 3, s.ownSection 4 with
  | some (x, i), some (g, _), some (o, j) =>
    if !(s.sectionIn x && s.sectionIn g && s.sectionIn o) then s
    else
      let m := s.mapRest (s.mapPreferred (s.sectionBytes g))
      if m.contains 0xFF then s.fullFails Code.ldrSorus
      else match s.seqCheck (Config.seqSection (s.sectionBytes x)).1 with
        | some k => s.checkFails k i 0
        | none => match ownCheck (s.sectionBytes o) with
          | some k => s.checkFails k j 0
          | none => (s.checkPassed m (s.sectionBytes o) (s.sectionBytes x)).setPhase 5
  | _, _, _ => s

/-- An owner that is a virtual sorus of a region (R172). -/
def ownerIn (mask : Nat) (o : Nat) : Bool := decide (1 ≤ o) && decide (o ≤ 32) && bitOf mask (o - 1)

/-- CHECK of a partial load (R171, R172). -/
def State.checkPartial (s : State) (c : Change) : State :=
  let gridIn := match s.ownSection 3 with
    | some (g, _) => s.sectionIn g
    | none => true
  match s.ownSection 4 with
  | some (o, j) =>
    if !(gridIn && s.sectionIn o) then s
    else match ownCheck (s.sectionBytes o) with
      | some k => s.checkFails k j 0
      | none =>
        let mine := (ownEntriesOf (s.sectionBytes o)).filter (fun e => ownerIn c.mask e.owner)
        if mine.any (s.ownLiveClash c.mask) then s.checkFails 0x0E j 0
        else { s with ldr := { s.ldr with change := some { c with own := mine, stage := 6 } } }
  | none => s

/-- The HBM phase's checks, and the start of training (R171, R176, R339, R380).
(DEDUCED, log 103.) -/
def State.hbmRun (s : State) : State :=
  match s.ownSection 5 with
  | none => s
  | some (x, i) =>
    if !s.sectionIn x then s
    else
      let b := s.sectionBytes x
      if s.hbmBad b then s.checkFails 0x0A i 0
      else if (rgnEntries b).zipIdx.any (fun p => p.1.en && !s.rgnOwned p.2 p.1) then s.checkFails 0x0D i 0
      else
        let s1 := s.setFlag Fld.HBM_STATUS_READY false
        let s2 := (s1.wakeDomain 70 3 0x10).wakeDomain 71 3 0x10
        { s2 with ldr := { s2.ldr with training := true, paused := s.ldr.src == 0 } }

/-- The lane and bank words of the golden frames as the registers hold them, which stand where no frame gives one (R385; DEDUCED,
log entry 61).
(DEDUCED, log 61.) -/
def State.goldenLive (s : State) : State :=
  (List.range 24576).foldl (fun s k =>
    let lo := passDev (135168 + 2 * k)
    let hi := passDev (135168 + 2 * k + 1)
    s.keepGolden (some lo.golden) ((s.passLive hi).1 ++ (s.passLive lo).1)) s

/-- What a full image that gives no content leaves (R153, R207): injection epochs 0, sori, slot and route tables, consumers, the golden frames and the twin
unit's coverage.
(DEDUCED, log 61 and 100.) -/
def State.fillDevice (s : State) : State :=
  let s1 := (List.range 34).foldl (fun s n => if s.mapped n then s.clearSorus n else s) s
  let table := fun (a : Nat) => decide (0x04010000 ≤ a ∧ a < 0x04310000) && decide (0x0100 ≤ (a - 0x04010000) % 0x10000)
  let bank := fun (a : Nat) => decide (0x08300000 ≤ a ∧ a < 0x08300800) && loaderMask a != 0
  let golden := match s1.regionBase 4 with
    | some b => dropRange s1.hbm.words (b / 8) (b / 8 + 0x1030 * 8192)
    | none => s1.hbm.words
  (({ s1 with
    regs := s1.regs.filter (fun e => !(table e.1 || bank e.1)),
    hbm := { s1.hbm with words := golden },
    arr := { s1.arr with consumers := [] }, cns := { s1.cns with touched := [] },
    twin := { s1.twin with outMask := [], pslot := [], pbm := [] },
    ldr := { s1.ldr with routed := [], iobHeld := [], acqCtrl := s1.reg Reg.ACQ_CTRL &&& loaderMask Reg.ACQ_CTRL, training := false } } :
    State).setReg Reg.RZ_EPOCH (s1.reg Reg.RZ_EPOCH &&& Fld.RZ_EPOCH_SW_REFUSED.mask)).goldenLive

/-- The region table, the issue entries and the quiet windows of an HBM section written (R325, R329, R336, R340). -/
def State.hbmTables (s : State) (b : List Byte) : State :=
  let s1 := (rgnEntries b).zipIdx.foldl (fun s p => s.rgnWrite p.2 p.1) s
  let clear := (List.range 1088).foldl (fun s k => s.setReg (0x07004000 + 4 * k) 0) s1
  let s2 := (issueEntries b).zipIdx.foldl (fun s p =>
    let n := s.physOf (p.2 / 16)
    if n < 34 then
      (s.setReg (Reg.HBM_ISSUE n (p.2 % 16) 0) (BitVec.ofNat 32 p.1)).setReg (Reg.HBM_ISSUE n (p.2 % 16) 1)
        (BitVec.ofNat 32 (p.1 / 2 ^ 32))
    else s) clear
  (quietWindows b).zipIdx.foldl (fun s p =>
    (s.setReg (Reg.HBM_QUIET p.2 0) (BitVec.ofNat 32 p.1)).setReg (Reg.HBM_QUIET p.2 1) (BitVec.ofNat 32 (p.1 / 2 ^ 32))) s2

/-- PHY_TRAINING_DONE (R339, R340, R383): requests are served; a load writes the region table and goes on to FRAMES. -/
def execPhyTrainingDone (s : State) : Result :=
  .next (if s.domState 70 = 0 ∧ s.domState 71 = 0 then
    (let s1 := s.setFlag Fld.HBM_STATUS_READY true
     if s.ldr.training then
       match s1.ownSection 5 with
       | some (x, _) => ((s1.hbmTables (s1.sectionBytes x)).fillDevice).setPhase 6
       | none => s1
     else s1)
   else s)

/-- TRAIN_FAIL (R339): the failure is recorded, and a load that waits for the training fails. -/
def execTrainFail (s : State) : Result :=
  .next (let s1 := s.raiseBit Fld.HBM_STATUS_TRAIN_FAIL 378
    if s.ldr.training then s1.fullFails Code.hbmNotReady else s1)

/-- LEADER_PAUSE_END (R380): the bus resumes. -/
def execLeaderPauseEnd (s : State) : Result := .next { s with ldr := { s.ldr with paused := false } }

/-! ## Frames -/

/-- The section that holds the next byte to be written, with its index (R166, R398, R406): DEVICE, FOLIO and ESSENTIAL sections of
this device, in a repair the FOLIO section of its virtual sorus. -/
def State.frameSection (s : State) : Option (ImgSection × Nat) :=
  s.ldr.sections.zipIdx.find? (fun p =>
    decide (s.ldr.pos < p.1.offset + p.1.length) && s.ownTag p.1.dtag &&
    (match s.ldr.change with
     | some c => if c.kind = 4 then p.1.kind == 7 && p.1.vsorus == c.vs else p.1.kind == 7 || p.1.kind == 8
     | none => p.1.kind == 6 || p.1.kind == 7 || p.1.kind == 8))

/-- A unit of SORCFG as it is in force (R167, R400). -/
def State.sorcfgNow (s : State) (n u : Nat) : Nat :=
  if u = 0 then
    let w := (Sparse.get 0 s.arr.sorcfg (n * 80)).toNat + (Sparse.get 0 s.arr.sorcfg (n * 80 + 1)).toNat * 2 ^ 32
    w / 16 * 16 + s.fld (Fld.ARR_CTRL_POISON_EN n) + 2 * s.fld (Fld.ARR_CTRL_FPOLICY n) + 4 * s.fld (Fld.ARR_PAGE_PAGED n) +
      8 * s.fld (Fld.ARR_PAGE_ACTIVE n)
  else (List.range 8).foldl (fun a j => a + s.fld (Fld.ARR_BM_CFG_RATIO n (8 * (u - 1) + j)) * 256 ^ j) 0

/-- Units that a paged load already holds of a sorus's slot patch, DSLOT or DVALID. -/
def Change.patchCount (c : Change) (valid : Bool) (v : Nat) : Nat :=
  (c.patches.filter (fun p => p.1 == valid && p.2.1 == v)).length

/-- The cause for which a frame lies outside the region of its load (R400, R407), or none.
(DEDUCED, log 100.) -/
def State.regionCause (s : State) (c : Change) (x : ImgSection) (h : FrameHdr) (us : List Word64) : Option Nat :=
  if !(bitOf c.mask h.vs && bitOf c.mask x.vsorus) then some 1
  else if c.kind ≠ 1 then none
  else
    let n := s.physOf h.vs
    let idx := us.zipIdx.map (fun p => (h.offset + p.2, p.1))
    if h.ftype = 1 ∧ idx.any (fun p => p.1 % 1024 / 512 == s.page n) = true then some 2
    else if perPage h.ftype = true ∧ h.page = s.page n then some 2
    else if h.ftype = 4 then some 3
    else if h.ftype = 9 ∧ idx.any (fun p => decide (p.1 ≤ 4) &&
        (if p.1 = 0 then p.2.toNat / 16 * 16 + p.2.toNat % 8 != s.sorcfgNow n 0 / 16 * 16 + s.sorcfgNow n 0 % 8
         else p.2.toNat != s.sorcfgNow n p.1)) = true then some 3
    else if (h.ftype = 2 ∨ h.ftype = 3) ∧ 64 < c.patchCount (h.ftype == 3) h.vs + us.length then some 4
    else none

/-- The check of R176 that a frame of this device fails after its CRC, its place and its size, or none.
(DEDUCED, log 100.) -/
def State.contentCheck (s : State) (x : ImgSection) (h : FrameHdr) (us : List Word64) : Option Nat :=
  if h.vs ≠ (if x.kind = 7 then x.vsorus else 255) then some 5
  else if h.ftype = 9 ∧ 512 < s.turnLength ∧ us.zipIdx.any (fun p => h.offset + p.2 == 0 && bitOf p.1.toNat 2) = true then some 7
  else if h.ftype = 0x12 then s.consumerCheck h.offset us
  else if h.ftype = 0x10 then s.slotCheck h.offset us
  else none

/-- The physical sorus that a FOLIO frame is written into (R385, R398, R406). -/
def State.frameTarget (s : State) (v : Nat) : Nat :=
  match s.ldr.change, s.ldr.target with
  | some c, some n => if c.kind = 4 then n else s.physOf v
  | _, _ => s.physOf v

/-- A unit of a FOLIO frame written, or held for a swap (R167, R385, R399, R440). -/
def State.folioUnit (s : State) (h : FrameHdr) (u : Nat) (w : Word64) : State :=
  let golden := (goldenFolio h.ftype h.page u).map (fun g => h.vs * 0x810000 + g)
  let write := (s.folioWrite (s.frameTarget h.vs) h.ftype h.page u w).keepGolden golden w
  match s.ldr.change with
  | some c =>
    if c.kind = 1 ∧ (h.ftype = 2 ∨ h.ftype = 3) then
      { s with ldr := { s.ldr with change := some { c with patches := c.patches ++ [(h.ftype == 3, h.vs, u, w)] } } }
    else if c.kind = 1 ∧ h.ftype = 9 then
      (if u < 8 then s
       else { s with ldr := { s.ldr with change := some { c with offsets := c.offsets ++ [(h.vs, u, w)] } } })
    else write
  | none => write

/-- The units of a frame written (R385). -/
def State.writeUnits (s : State) (x : ImgSection) (h : FrameHdr) (us : List Word64) : State :=
  us.zipIdx.foldl (fun s p =>
    let u := h.offset + p.2
    if x.kind = 7 then s.folioUnit h u p.1 else (s.deviceWrite h.ftype u p.1).keepGolden (goldenDevice h.ftype u) p.1) s

/-- The place behind a frame. -/
def State.afterFrame (s : State) (pos seq : Nat) : State := { s with ldr := { s.ldr with pos := pos, nextSeq := seq } }

/-- A frame whose bytes are all in (R165, R166, R176, R385, R400): `seq` is the number it should have, `pos` its place. -/
def State.frameIn (s : State) (x : ImgSection) (i pos seq : Nat) : State :=
  let b := s.ldr.image.drop pos
  let h := FrameHdr.decode b
  let next := s.afterFrame (pos + h.size) (seq + 1)
  if crc32c (b.take 20 ++ (b.drop 24).take h.slen) ≠ BitVec.ofNat 32 h.crc then s.checkFails 4 i h.seq
  else if frameFits h.ftype x.kind = false ∨ tagReserved h.dtag = true ∨ h.seq ≠ seq then s.checkFails 5 i h.seq
  else if !s.ownTag h.dtag then next
  else match (if h.ulen = 0 ∨ 8192 < h.ulen ∨ unitSpace h.ftype < h.offset + h.ulen then none else h.units b) with
    | none => s.checkFails 6 i h.seq
    | some us =>
      let cause := match s.ldr.change with
        | some c => (s.regionCause c x h us).map (fun k => (c, k))
        | none => none
      match cause with
      | some (c, k) => s.regionFault c k h.vs
      | none => match s.contentCheck x h us with
        | some k => s.checkFails k i h.seq
        | none => next.writeUnits x h us

/-- The bytes of an ESSENTIAL section that are in, written into the essential map (R174); a partial load writes only its region's
blocks.
(DEDUCED, log 102.) -/
def State.essentialIn (s : State) (x : ImgSection) (pos : Nat) : State :=
  let n := min (x.offset + x.length) s.ldr.image.length - pos
  let b := (s.ldr.image.drop pos).take n
  let mine := fun (k : Nat) => match s.ldr.change with
    | some c => bitOf c.mask (k / 0x140000)
    | none => true
  let s1 := match s.regionBase 3 with
    | some base => b.zipIdx.foldl (fun (st : State) (p : Byte × Nat) =>
        let k := pos - x.offset + p.2
        if mine k then st.setHbmByte (base + k) p.1 else st) s
    | none => s
  s1.afterFrame (pos + n) 0

/-- The code of the dimension-order route from node `n` to node `d` (R197): east or west first, then north or south, then LOCAL. -/
def dimRoute (n d : Nat) : Nat :=
  if n % 8 < d % 8 then 2 else if d % 8 < n % 8 then 4 else if d / 8 < n / 8 then 1 else if n / 8 < d / 8 then 3 else 5

/-- A pair of route entries of a node, with the dimension-order code for each class. -/
def dimUnit (n j : Nat) : Word64 := BitVec.ofNat 64 (73 * dimRoute n (2 * j) + 73 * dimRoute n (2 * j + 1) * 2 ^ 32)

/-- The routes of the nodes for which the image gave no ROUTE frames, as the loader writes them and keeps them golden (R197, R440).
(DEDUCED, log 100.) -/
def State.defaultRoutes (s : State) : State :=
  (List.range 48).foldl (fun s n =>
    if Sparse.get false s.ldr.routed n then s
    else (List.range 24).foldl (fun s j =>
      (s.deviceWrite 0x11 (n * 24 + j) (dimUnit n j)).keepGolden (goldenDevice 0x11 (n * 24 + j)) (dimUnit n j)) s) s

/-- The end of the frames (R383, R385): the engines and the lane descriptors of a full image are checked. -/
def State.framesEnd (s : State) : State :=
  match s.ldr.change with
  | some c => s.toStage (if c.kind = 4 then 8 else 7)
  | none =>
    let s1 := (List.range 103).foldl (fun s i => s.checkEngine i) s.defaultRoutes
    let s2 := (List.range 96).foldl (fun s i => s.acqRecheck i) s1
    if (List.range 96).any (fun i => s2.flag (Fld.ACQ_LN_STAT_REFUSED i) && !s2.admitted i && s2.acqLaneBad i) then
      s2.fullFails Code.acqCfg
    else s2.setPhase 7

/-- A sorus that takes frames is powered, and a full-depth region has halted (R398, R401, R406). -/
def State.frameReady (s : State) (x : ImgSection) : Bool :=
  let n := s.frameTarget x.vsorus
  (x.kind != 7 || 34 ≤ n || s.domState n == 0 || s.domState n == 5) &&
  (match s.ldr.change with
   | some c => c.kind != 2 || c.halted
   | none => true)

/-- A frame taken from the stream, once its bytes are in (R165, R385). -/
def State.frameRun (s : State) : State :=
  match s.frameSection with
  | none => s.framesEnd
  | some (x, i) =>
    let pos := max s.ldr.pos x.offset
    let seq := if s.ldr.pos ≤ x.offset then 0 else s.ldr.nextSeq
    let b := s.ldr.image.drop pos
    let size := (FrameHdr.decode b).size
    let last := x.offset + x.length
    let s1 := if !s.frameReady x then s
      else if x.kind = 8 then s.essentialIn x pos
      else if last < pos + 24 then s.checkFails 4 i seq
      else if b.length < 24 then s
      else if last < pos + size then s.checkFails 4 i (FrameHdr.decode b).seq
      else if b.length < size then s
      else s.frameIn x i pos seq
    if s1.loadStage = 6 ∧ s1.frameSection.isNone then s1.framesEnd else s1

/-! ## VERIFY and completion -/

/-- L, DISC and the level of a START section, as SEQ_CFG lays them out (R388, R389). -/
def startFits (b : List Byte) (cfg : Word32) : Bool :=
  numAt b 0 2 == Fld.SEQ_CFG_L.get cfg && numAt b 2 1 % 2 == Fld.SEQ_CFG_DISC.get cfg &&
    numAt b 2 1 / 2 % 4 == Fld.SEQ_CFG_LEVEL.get cfg

/-- The check of R389 and R391 that the START section fails, or none; a partial image may have none. -/
def State.startCheck (s : State) (full : Bool) : Option (Nat × Nat) :=
  match s.ownSection 9 with
  | none => none
  | some (x, i) =>
    let b := s.sectionBytes x
    if !progGood b full then some (3, i) else if !startFits b (s.reg Reg.SEQ_CFG) then some (7, i) else none

/-- The start-up program of the image. -/
def State.imageProg (s : State) : List ProgEntry :=
  match s.ownSection 9 with
  | some (x, _) => progEntries (s.sectionBytes x)
  | none => []

/-- The bytes before the signature block, and the block (R164, R412). -/
def State.signed (s : State) : List Byte × List Byte :=
  match s.ldr.sections.find? (fun x => x.kind == 10) with
  | some x => (s.ldr.image.take x.offset, s.sectionBytes x)
  | none => (s.ldr.image, [])

/-- All bytes of the image are in. -/
def State.imageIn (s : State) : Bool := decide (numAt s.ldr.image 0x10 8 ≤ s.ldr.image.length)

/-- The digests and lengths of the FOLIO sections recorded (R387). -/
def State.recordFolios (s : State) : State :=
  let l := s.sectionsOf s.ldr.sections 7
  { s with ldr := { s.ldr with
    folios := l.foldl (fun a x => Sparse.put [] a x.vsorus (digest64 (s.sectionBytes x))) [],
    folioLen := l.foldl (fun a x => Sparse.put 0 a x.vsorus x.length) [] } }

/-- VERIFY of a full image succeeds (R387, R410, R423): identity, measurement, source, digests, and the program begins. -/
def State.verified (s : State) (identity block : List Byte) : State :=
  let s1 := ((s.setRegBytes (Reg.LDR_ID 0) identity).extendMr 2 identity).recordFolios
  let slot := match s.ldr.entries[s.ldr.index]? with
    | some e => e.slot
    | none => 0
  let s2 := ((s1.setFld Fld.LDR_IMG_SRC_SRC s.ldr.src).setFld Fld.LDR_IMG_SRC_INDEX (if s.ldr.src = 0 then s.ldr.index else 0)).setFld
    Fld.LDR_IMG_SRC_SLOT (if s.ldr.src = 0 then slot else 0)
  let s3 := (s2.setFlag Fld.LDR_IMG_SRC_FALLBACK s.ldr.fellBack)
  let s4 : State := { s3 with
    sec := { s3.sec with img := some (numAt block 4 1, numAt s.ldr.image 0x18 1) },
    ldr := { s3.ldr with prog := s.imageProg, progAt := 0 } }
  s4.setRun.setPhase 8

/-- VERIFY (R387, R389, R391, R403, R414, R415). -/
def State.verifyRun (s : State) : State :=
  if !s.imageIn then s
  else match s.startCheck s.ldr.change.isNone with
    | some (k, i) => s.checkFails k i 0
    | none =>
      let p := s.signed
      let identity := digest64 p.1
      let step := s.sigStep false identity (numAt s.ldr.image 0x18 1) p.2
      if step ≠ 0 then (s.sigFailed step).loadFails (sigCode step)
      else match s.ldr.change with
        | none => s.verified identity p.2
        | some c =>
          let s1 : State := { s with ldr := { s.ldr with
            change := some { c with identity := identity, stage := 8 }, prog := s.imageProg, progAt := 0 } }
          s1

/-- A repair's folio has the digest that was recorded (R406).
(DEDUCED, log 101.) -/
def State.repairGood (s : State) (c : Change) : Bool :=
  match s.ldr.sections.find? (fun x => x.kind == 7 && x.vsorus == c.vs && s.ownTag x.dtag) with
  | some x => digest64 (s.sectionBytes x) == Sparse.get [] s.ldr.folios c.vs
  | none => false

/-- Everything of a partial load or repair is written and verified, and its program has ended (R399, R402, R406). -/
def State.completeChange (s : State) : State :=
  match s.ldr.change with
  | none => s
  | some c =>
    if c.stage ≠ 8 then s
    else if c.kind = 4 then (if s.repairGood c then s.changeReady c else s.changeFails c Code.sigFail)
    else if s.ldr.progAt < s.ldr.prog.length then s
    else (if c.kind = 1 then s.regionReady c.mask true else s).changeReady c

/-! ## Commands -/

/-- HEADER_PHASE (R383). -/
def execHeaderPhase (bytes : List Byte) (s : State) : Result :=
  .next (if s.loadStage = 2 then s.phaseOn bytes State.headerRun else s)

/-- CLOCK_PHASE (R21, R383). -/
def execClockPhase (bytes : List Byte) (s : State) : Result :=
  .next (if s.loadStage = 3 then s.phaseOn bytes State.clockRun else s)

/-- CHECK_PHASE (R171, R383, R386). -/
def execCheckPhase (bytes : List Byte) (s : State) : Result :=
  .next (if s.loadStage = 4 then
      s.phaseOn bytes (fun s => match s.ldr.change with
        | some c => s.checkPartial c
        | none => s.checkFull)
    else s)

/-- HBM_PHASE (R339, R383). -/
def execHbmPhase (bytes : List Byte) (s : State) : Result :=
  .next (if s.loadStage = 5 ∧ s.ldr.training = false then s.phaseOn bytes State.hbmRun else s)

/-- IMAGE_FRAME (R385): the next frame of the stream, or what is in of the ESSENTIAL section. -/
def execImageFrame (bytes : List Byte) (s : State) : Result :=
  .next (if s.loadStage = 6 then s.phaseOn bytes State.frameRun else s)

/-- VERIFY_PHASE (R387). -/
def execVerifyPhase (bytes : List Byte) (s : State) : Result :=
  .next (if s.loadStage = 7 then s.phaseOn bytes State.verifyRun else s)

/-- PARTIAL_LOAD_COMPLETE (R399, R402, R403, R406, R415): the image is verified, and the change is set for its boundary. -/
def execPartialLoadComplete (bytes : List Byte) (s : State) : Result :=
  .next (if s.ldr.change.isSome then
      (let s1 := if s.loadStage = 7 then s.phaseOn bytes State.verifyRun else s
       s1.completeChange)
    else s)

/-- A write into the FIFO aperture (R382): its bytes are appended, or discarded whole where they find too little space.
(DEDUCED, log 103.) -/
def State.fifoWrite (s : State) (bytes : List Byte) : State :=
  let free := s.fld Fld.LDR_FIFO_FREE_FREE
  if free < bytes.length then s.reply Code.ok
  else
    let s1 : State := { s with ldr := { s.ldr with
      stream := Sparse.put [] s.ldr.stream 1 (Sparse.get [] s.ldr.stream 1 ++ bytes) } }
    (s1.setReg Reg.LDR_FIFO_FREE (BitVec.ofNat 32 (free - bytes.length))).reply Code.ok

/-- LDR_FIFO_WRITE (R382). -/
def execLdrFifoWrite (mid : Mid) (bytes : List Byte) (s : State) : Result :=
  .next (s.gate mid 0x02010000 (some (BitVec.ofNat 32 (natOfBytes (bytes.take 4)))) (fun s => s.fifoWrite bytes))

/-! ## Claims (R173) -/

/-- A refused claim or release of LDR_CLAIM: its code, CLAIM_CONFLICT and EV407 (R173). -/
def State.claimRefused (s : State) (code : Status) : State :=
  ((s.setFld Fld.LDR_CLAIM_STAT_CODE code.toNat).raiseBit Fld.LDR_CHK_STAT_CLAIM_CONFLICT 407).reply code

/-- A claim (R173). -/
def State.claimRun (s : State) (mid : Mid) (cls idx : Nat) : State :=
  if classSize cls ≤ idx then s.claimRefused Code.denied
  else if s.mayAssign mid cls idx then
    ((s.takeClaim mid cls idx).setFld Fld.LDR_CLAIM_STAT_CODE 0).reply Code.ok
  else s.claimRefused Code.conflict

/-- A release (R173): by the holder of a run-time claim alone. -/
def State.releaseRun (s : State) (mid : Mid) (cls idx : Nat) : State :=
  if classSize cls ≤ idx then s.claimRefused Code.denied
  else if s.claimant cls idx = some mid then
    ((({ s with own := { s.own with claims := Sparse.put none s.own.claims (claimKey cls idx) none } } : State).setFld
      Fld.LDR_CLAIM_STAT_CODE 0)).reply Code.ok
  else s.claimRefused Code.conflict

/-- A write of LDR_CLAIM (R173, R180). -/
def State.claimWrite (s : State) (mid : Mid) (v : Word32) : State :=
  if Fld.LDR_CLAIM_OP.get v = 1 then s.releaseRun mid (Fld.LDR_CLAIM_CLASS.get v) (Fld.LDR_CLAIM_INDEX.get v)
  else s.claimRun mid (Fld.LDR_CLAIM_CLASS.get v) (Fld.LDR_CLAIM_INDEX.get v)

/-- LDR_CLAIM (R173): a claim. -/
def execLdrClaim (mid : Mid) (cls : Byte) (idx : BitVec 16) (s : State) : Result :=
  .next (s.gate mid Reg.LDR_CLAIM (some (BitVec.ofNat 32 (cls.toNat * 65536 + idx.toNat)))
    (fun s => s.claimRun mid cls.toNat idx.toNat))

/-- LDR_RELEASE (R173): a release. -/
def execLdrRelease (mid : Mid) (cls : Byte) (idx : BitVec 16) (s : State) : Result :=
  .next (s.gate mid Reg.LDR_CLAIM (some (BitVec.ofNat 32 (2 ^ 31 + cls.toNat * 65536 + idx.toNat)))
    (fun s => s.releaseRun mid cls.toNat idx.toNat))

/-! ## Loader registers (R180, R410) -/

/-- LDR_OWN_R (R180): the owner of the resource in LDR_OWN_Q, and SHARED. -/
def State.ownLookup (s : State) : Word32 :=
  let cls := s.fld Fld.LDR_OWN_Q_CLASS
  let idx := s.fld Fld.LDR_OWN_Q_INDEX
  BitVec.ofNat 32 (s.ownerCode cls idx + (if (s.ownEntries cls idx).any (fun e => e.shared) then 256 else 0))

/-- A register write in the loader's range. -/
def State.ldrRegWrite (s : State) (mid : Mid) (a : Nat) (v : Word32) : State :=
  if a = Reg.LDR_CMD then s.ldrCommand mid v
  else if a = Reg.LDR_CLAIM then s.claimWrite mid v
  else if 0x02010000 ≤ a then s.fifoWrite (bytesOf32 v)
  else s.storeReg a v

/-- A register read in the loader's range. -/
def State.ldrRegRead (s : State) (a : Nat) : State :=
  if a = Reg.LDR_OWN_R then s.reply Code.ok s.ownLookup else s.loadReg a

end Sys2Proof.Machine
end

