-- ==== Sys2Proof/Machine/TwinTurns.lean ====
section
/-! DEFINITION.  What the twin unit does step by step and at turn boundaries: the digest (R547, R548), heartbeats (R541, R549,
R550), ownership (R551, R552), and the phases of a resynchronisation (R555 to R559). -/

namespace Sys2Proof.Machine

/-! ## The digest -/

/-- The digest of a turn begins with its number (R547). -/
def State.digestOpen (s : State) : State :=
  { s with twin := { s.twin with
    crc := crc64Fold (BitVec.allOnes 64) (BitVec.ofNat 64 s.seq.turn), sick := false } }

/-- The outbound port bits at the end of a step, folded in virtual order (R547). -/
def State.digestStep (s : State) : State :=
  let c := s.twin.outMask.foldl (fun c e =>
    crc64Fold c (Sparse.get 0 s.arr.outBits (s.physOf (e.1 / 16) * 16 + e.1 % 16) &&& e.2)) s.twin.crc
  { s with twin := { s.twin with crc := c } }

/-- HEALTH of the turn (R548). -/
def State.healthy (s : State) : Bool :=
  !s.twin.sick && !s.seq.overrun &&
    (List.range 34).all (fun n => !s.mapped n || !(s.flag (Fld.ARR_STATUS_FROZEN n) || Sparse.get false s.arr.faulted n))

/-- The image gives some coverage (R548). -/
def State.digestValid (s : State) : Bool := !s.twin.outMask.isEmpty || !s.twin.pslot.isEmpty

/-- The digest of the turn that ends: its persistent slots are folded, and it enters the history of 64 turns (R547); a turn that
leaves it in LOCKSTEP without its HB counts as missed (R550). -/
def State.digestClose (s : State) (health : Bool) : State :=
  let c := s.twin.pslot.foldl (fun c e =>
    (List.range 64).foldl (fun c b =>
      if e.2.getLsbD b then crc64Fold c (s.slotWord (s.physOf (e.1 / 64)) (e.1 / 4 % 16) (64 * (e.1 % 4) + b)) else c) c) s.twin.crc
  let d := c ^^^ BitVec.allOnes 64
  let lost := s.twinMode == 3 && (s.twin.hist.drop 63).any (fun x => !x.met)
  let h := ({ turn := s.seq.turn, digest := d, health := health, met := false } :: s.twin.hist).take 64
  (((({ s with twin := { s.twin with hist := h } } : State).setReg Reg.TWN_DIG_LO (d.setWidth 32)).setReg Reg.TWN_DIG_HI
    ((d >>> 32).setWidth 32))).when lost (fun s => s.countReg Reg.TWN_MISS_CNT)

/-! ## Heartbeats -/

/-- HB_WAIT in turns; 0 acts as 1 (R564). -/
def State.hbWait (s : State) : Nat := max 1 (s.fld Fld.TWN_CFG_HB_WAIT)

/-- MATCH_N; 0 acts as 1 (R564). -/
def State.matchN (s : State) : Nat := max 1 (s.fld Fld.TWN_CFG_MATCH_N)

/-- The boundary that begins the turn counts a miss where no HB has arrived in the turns before it (R550). -/
def State.missCheck (s : State) : State :=
  if s.flag Fld.TWN_STATUS_PAIRED && decide (s.twin.heard + s.hbWait < s.seq.turn) then
    { s with twin := { s.twin with miss := s.twin.miss + 1 } }
  else s

/-- Heartbeats are lost at the third consecutive miss (R550). -/
def State.hbLoss (s : State) : State :=
  if s.flag Fld.TWN_STATUS_PAIRED && decide (3 ≤ s.twin.miss) then (s.raiseBit Fld.TWN_STATUS_HB_LOSS 488).twinLost else s

/-- The turn whose HB is due: 16 executed steps have passed since the boundary that ended it (R541). -/
def State.hbDue (s : State) : Option TwinTurn :=
  let l := max 1 s.turnLength
  let back := 16 / l + (if 16 % l ≤ s.seq.step then 1 else 2)
  s.twin.hist.find? (fun x => x.turn + back == s.seq.turn)

/-- An HB frame sent (R540, R541). -/
def State.hbSend (s : State) : State :=
  match s.hbDue with
  | none => s
  | some x =>
    if s.flag Fld.TWN_STATUS_PAIRED && s.twin.hbSent != some x.turn then
      let d1 := (if x.health then 1 else 0) + s.fld Fld.TWN_STATUS_OWN * 2 + s.twinMode * 4 + (if s.digestValid then 16 else 0) +
        x.turn / 2 ^ 32 % 2 ^ 32 * 2 ^ 32
      ({ s with twin := { s.twin with hbSent := some x.turn } } : State).emit
        (.twinFrame 1 (x.turn % 2 ^ 32) [x.digest, BitVec.ofNat 64 d1])
    else s

/-! ## Ownership at a boundary -/

/-- A change of ownership planned for the turn that begins (R551, R552). -/
def State.ownAt (s : State) : State :=
  match s.twin.ownPlan with
  | some (b, t) =>
    if t ≤ s.seq.turn then
      let s1 := ({ s with twin := { s.twin with ownPlan := none } } : State).setOwn b
      if s1.twin.handover.isSome ∧ b = false then
        (({ s1 with twin := { s1.twin with handover := none } } : State).setFlag Fld.TWN_CMD_STAT_PENDING false)
      else s1
    else s
  | none => s

/-- The OWNER output register loads at the end of step 3 of the turn (R536). -/
def State.ownPin (s : State) : State :=
  match s.twin.pinWait with
  | some n =>
    if n ≤ 1 then { s with twin := { s.twin with pin := s.flag Fld.TWN_STATUS_OWN, pinWait := none } }
    else { s with twin := { s.twin with pinWait := some (n - 1) } }
  | none => s

/-! ## Resynchronisation at boundaries -/

/-- The block memory of a sorus as the SNAP stream packs it: 36 bits a word (R556). -/
def State.packMem (s : State) (n : Nat) : List Byte :=
  (List.range 16384).flatMap (fun k =>
    let w := fun (i : Nat) => s.bmPhys n (i / 1024) (i % 1024)
    bytesOfNat 9 (w (2 * k) + w (2 * k + 1) * 2 ^ 36))

/-- The SNAP stream (R556). -/
def State.snapStream (s : State) : List Byte :=
  let head := bytesOfNat 8 s.seq.turn ++ bytesOfNat 4 s.acq.nextSeq ++ List.replicate 4 0 ++
    (List.range 96).flatMap (fun i => bytesOfNat 8 (s.acqLane i).count)
  let sori := (List.range 32).flatMap (fun v =>
    let n := s.physOf v
    s.regBytes (0x0C010000 + n * 0x100000) 8192 ++ s.packMem n)
  (head ++ List.replicate (1024 - head.length) 0) ++ sori ++
    (List.range 262144).flatMap (fun c => bytesOfNat 64 (s.ctxOf c).toNat)

/-- The 1 KiB blocks of the MIRROR regions (R555 phase 3). -/
def State.mirrorBlocks (s : State) : List Nat :=
  (List.range 32).flatMap (fun r =>
    if s.flag (Fld.HBM_RGN_OWN_EN r) && s.flag (Fld.HBM_RGN_OWN_MIRROR r) then
      (List.range (s.fld (Fld.HBM_RGN_SIZE_SIZE r) * 64)).map (fun k => s.fld (Fld.HBM_RGN_BASE_BASE r) * 64 + k)
    else [])

/-- The receiver's engine counts on as the sender's does (R558): SEQ and word indices move by the differences at b. -/
def State.acqRebase (s : State) : State :=
  let mv := fun (i n : Nat) => ((n : Int) + Sparse.get 0 s.twin.idxOff i).toNat
  let lanes := (List.range 96).foldl (fun l i =>
    let x := s.acqLane i
    Sparse.put AcqLane.reset l i { x with
      count := mv i x.count, stop := x.stop.map (mv i), gaps := x.gaps.map (fun g => (mv i g.1, g.2)), since := mv i x.count })
    s.acq.lanes
  let seq := fun (n : Nat) => (((n : Int) + s.twin.seqOff) % 2 ^ 32).toNat
  { s with acq := { s.acq with
    lanes := lanes, nextSeq := seq s.acq.nextSeq,
    recs := s.acq.recs.map (fun r => { r with
      seq := seq r.seq, lanes := r.lanes.map (fun l => (l.1, mv l.1 l.2.1, l.2.2)) }) } }

/-- The boundary b that ends turn J0 (R555 phase 2): the sender records its state, the receiver suppresses its own writes.
(DEDUCED, log 95.) -/
def State.rsRecord (s : State) : State :=
  if s.fld Fld.TWN_RS_STAT_PHASE = 1 ∧ s.twin.j0 + 1 = s.seq.turn then
    if s.flag Fld.TWN_STATUS_SENDING then
      ({ s with twin := { s.twin with snap := s.snapStream, blocks := s.mirrorBlocks, log := [] } } : State).setFld
        Fld.TWN_RS_STAT_PHASE 2
    else if s.twinMode = 2 then
      ({ s with
        acq := { s.acq with ctx := s.acq.ctx.map (fun e => (e.1, ctxEmpty e.2)) },
        twin := { s.twin with
          suppress := true, snap := [], wrote := [], seqOff := -(s.acq.nextSeq : Int),
          idxOff := (List.range 96).foldl (fun l i => Sparse.put 0 l i (-((s.acqLane i).count : Int))) [] } } : State).setFld
        Fld.TWN_RS_STAT_PHASE 2
    else s
  else s

/-- The boundary before turn J (R555 phase 5, R557, R558): suppression ends, and the sender closes its log. -/
def State.rsJoin (s : State) : State :=
  if s.twin.joinAt = some s.seq.turn then
    if s.flag Fld.TWN_STATUS_SENDING then
      (s.twinLog (BitVec.ofNat 64 (3 + s.seq.turn % 2 ^ 32 * 2 ^ 32)) 0).setFld Fld.TWN_RS_STAT_PHASE 5
    else if s.twinMode = 2 then
      ({ s with twin := { s.twin with suppress := false, wrote := [] } } : State).acqRebase.setFld Fld.TWN_RS_STAT_PHASE 5
    else s
  else s

/-- Order 5 of R116 for the twin unit, in the turn that begins: misses, ownership and the resynchronisation. -/
def State.twinTurn (s : State) : State := s.missCheck.ownAt.rsRecord.rsJoin.digestOpen

/-- A frame of the mirror port sent in a step: the SNAP stream, then HBM blocks, then the log, and JOIN once the log is short
(R555 to R557).
(DEDUCED, log 96.) -/
def State.twinPump (s : State) : State :=
  let sending := s.flag Fld.TWN_STATUS_SENDING && decide (2 ≤ s.fld Fld.TWN_RS_STAT_PHASE)
  if sending && !s.twin.snap.isEmpty then
    let off := (22545408 - s.twin.snap.length) / 1024
    ((({ s with twin := { s.twin with snap := s.twin.snap.drop 1024 } } : State).emit
      (.twinFrame 4 off (unitsOf (s.twin.snap.take 1024)))).addReg Reg.TWN_RS_BYTES 1)
  else match (if sending then s.twin.blocks else []) with
    | b :: r =>
      ((({ s with twin := { s.twin with blocks := r } } : State).emit
        (.twinFrame 6 b ((List.range 128).map (fun k => s.hbmWord (b * 128 + k))))).addReg Reg.TWN_RS_BYTES 1).setFld
        Fld.TWN_RS_STAT_PHASE 3
    | [] =>
      if s.twin.log.isEmpty && !(sending && s.twin.joinAt.isNone) then s
      else
        let es := s.twin.log.take 64
        let s1 : State := { s with twin := { s.twin with log := s.twin.log.drop 64 } }
        let s2 := if es.isEmpty then s1
          else (s1.emit (.twinFrame 5 0 (es.flatMap (fun e => [e.1, e.2])))).addReg Reg.TWN_LOG_CNT es.length
        if sending && s2.twin.joinAt.isNone && decide (s2.twin.log.length < 256) then
          let j := s2.seq.turn + 2 * s2.hbWait
          (({ s2 with twin := { s2.twin with joinAt := some j } } : State).emit
            (.twinFrame 3 0 [3, BitVec.ofNat 64 j])).setFld Fld.TWN_RS_STAT_PHASE 4
        else s2

end Sys2Proof.Machine
end

