-- ==== Sys2Proof/Machine/Sequencer.lean ====
section
/-! DEFINITION.  The step sequencer: what is left of a step at its end, turn boundaries (R116 to R129), the barrier exchange (R134 to
R136), commands (R138 to R141) and captures (R142 to R146). -/

namespace Sys2Proof.Machine

/-! ## A step -/

/-- What of the step in hand has not happened yet: releases of lane words, the scheduled plane, every BP, memory ports, the words taken
for transmission, captures and triggers (R109, R185, R249, R259, R283, R300, R329 to R334). -/
def State.stepRun (s : State) : State :=
  let s1 := (List.range 96).foldl (fun s i => s.releaseLane i) s
  let s2 := (s1.advance []).runAll
  let s3 := (s2.fireAll.commandSlots).releasePorts (fun _ => true)
  ((List.range 96).foldl (fun s i => s.takeLane i) s3).captureAll.triggerAll

/-- A link engine between two steps: the marks of the step fall, and the words that wait come a step nearer (R248, R249, R252). -/
def LinkEng.nextStep (e : LinkEng) : LinkEng :=
  { e with released := false, took := false, fell := false, outValid := e.outValid && !e.fell,
           waiting := e.waiting.map (fun w => { w with wait := w.wait - 1 }) }

/-- The end of a step (R45, R48, R84, R88, R94, R192, R547). -/
def State.stepFinish (s : State) : State :=
  let s1 := s.hbSend.stepRun.endStep.commitLandings.landReads.digestStep
  let s2 := s1.agePorts.pipelines.ownPin.twinPump
  let engs := s2.eng.foldl (fun l e => Sparse.put LinkEng.reset l e.1 e.2.nextStep) s2.eng
  { s2 with eng := engs, rz := { s2.rz with advanced := false }, acq := { s2.acq with triggered := [] } }

/-! ## Commands and boundaries: what is due -/

/-- The pending command takes effect at the boundary that ends the turn in hand (R138). -/
def SeqCmd.due (c : SeqCmd) (turn : Nat) : Bool :=
  match c.turn with
  | some d => decide (signedOf 32 (d + (2 ^ 32 - (turn + 1) % 2 ^ 32)) ≤ 0)
  | none => true

/-- A pending command of a code is due at the coming boundary. -/
def State.cmdDue (s : State) (code : Nat) : Bool :=
  match s.seq.cmd with
  | some c => c.code == code && c.due s.seq.turn
  | none => false

/-- A command that is due counts as carried out (R116). -/
def State.cmdDone (s : State) : State :=
  match s.seq.cmd with
  | some c =>
    if c.due s.seq.turn then ({ s with seq := { s.seq with cmd := none } } : State).setFlag Fld.SEQ_CMD_STAT_PENDING false else s
  | none => s

/-- Some mapped sorus has voted 0 in this turn (R56). -/
def State.ownVote0 (s : State) : Bool := (List.range 34).any (fun n => s.mapped n && Sparse.get false s.arr.voted0 n)

/-! ## Stall causes and the barrier exchange -/

/-- A word sent over a reliable link is not acknowledged (R126 LINK, R266). -/
def State.linkWaits (s : State) : Bool :=
  s.eng.any (fun e => s.reliable e.1 && e.2.replay.any (fun f => f.ftype == 1))

/-- The device belongs to an elastic multi-device schedule (R134). -/
def State.inBarrier (s : State) : Bool := !s.lockedSchedule && s.flag Fld.SEQ_CFG1_XDEV

/-- The stall causes that hold, BAR left out (R126). -/
def State.otherCauses (s : State) : Nat :=
  (if s.memWaits then 1 else 0) + (if s.linkWaits then 2 else 0) + (if s.seq.throttle then 8 else 0) +
    (if s.pwr.oldLevel.isSome then 16 else 0) + (if s.seq.probeWait then 32 else 0)

/-- The stall causes that hold (R126). -/
def State.stallCauses (s : State) : Nat := s.otherCauses + (if s.inBarrier && s.seq.go.isNone then 4 else 0)

/-- A BAR frame queued for a link group (R255, R266). -/
def State.barSend (s : State) (lane : Nat) (go vote : Bool) : State :=
  let b := s.baseOf lane
  s.setEng b { (s.engOf b) with bars := (s.engOf b).bars ++ [(go, vote, s.seq.turn % 2 ^ 32)] }

/-- This device's part of the barrier: READY to its parent, or GO of the root, once it is ready (R134). -/
def State.barStep (s : State) : State :=
  let got := fun (l : Nat) => Sparse.get none s.seq.ready l
  let vote := !s.ownVote0 && s.seq.children.all (fun l => got l == some true)
  if !s.inBarrier || s.otherCauses != 0 || !s.seq.children.all (fun l => (got l).isSome) then s
  else if s.flag Fld.SEQ_CFG1_XROOT then
    (if s.seq.go.isSome then s else { s with seq := { s.seq with go := some vote } })
  else if s.seq.sentReady then s
  else
    let s1 : State := { s with seq := { s.seq with sentReady := true } }
    match s.seq.parent with
    | some l => s1.barSend l false vote
    | none => s1

/-! ## Level changes (R128, R529) -/

/-- A level change begins at its boundary (R529): the divider of a slower level changes at once, that of a faster level when the
voltage is in force. -/
def State.levelBegin (s : State) (level : Nat) : State :=
  let old := s.fld Fld.PWR_STATUS_LEVEL
  if level = old then s
  else
    let div := if old < level then levelDivider level else s.pwr.divider
    ({ s with pwr := { s.pwr with oldLevel := some old, vsel := level, divider := div } } : State).setFlag
      Fld.PWR_STATUS_LEVEL_BUSY true

/-- The level change is over: a level is in force (R529, R530). -/
def State.levelEnd (s : State) (level : Nat) : State :=
  (({ s with pwr := { s.pwr with oldLevel := none, vsel := level } } : State).levelInForce level).setFlag
    Fld.PWR_STATUS_LEVEL_BUSY false

/-! ## Probe records -/

/-- The probe record of the turn offered to the acquisition engine (R311, R312): accepted, or lost in a locked turn, or waited for.
(DEDUCED, log 110.) -/
def State.probeOffer (s : State) : State :=
  if s.probeFree || s.flag Fld.ACQ_PRB_STAT_FROZEN then
    ({ s with seq := { s.seq with probeWait := false } } : State).probeTake s.seq.turn s.probeRecord
  else if s.lockedSchedule then (s.turnOverrun 2 none).probeLost
  else { s with seq := { s.seq with probeWait := true } }

/-! ## Captures (R142 to R146) -/

/-- The header of a snapshot (R145). -/
def State.snapHeader (s : State) (ctx : Bool) : List Byte :=
  let map := (List.range 32).map (fun v => BitVec.ofNat 8 (s.physOf v))
  let h := bytesOfNat 4 1 ++ bytesOfNat 4 (if ctx then 3 else 1) ++ bytesOfNat 8 s.seq.turn ++ timeBytes s.now ++
    bytesOfNat 4 (s.turnLength + 2048 * s.fld Fld.SEQ_CFG_DISC + 4096 * s.fld Fld.PWR_STATUS_LEVEL) ++ map ++
    bytesOf32 (s.reg Reg.DEV_IDENT) ++ bytesOf32 (s.reg Reg.DEV_STRAPS)
  h ++ List.replicate (0x80 - h.length) 0 ++ s.regBytes (Reg.LDR_ID 0) 16

/-- The record of a virtual sorus (R144). -/
def State.snapSorus (s : State) (n : Nat) : List (Nat × List Byte) :=
  let win := 0x0C000000 + n * 0x100000
  let fronds := fun (l : Pairs Word64) => (List.range 16).flatMap (fun f => bytesOfNat 8 (wordAt l (n * 16 + f)).toNat)
  [(0, s.regBytes (win + 0x10000) 8192), (0x8000, s.regBytes (win + 0x18000) 8192),
   (0x10000, fronds s.arr.portIn ++ s.regBytes (win + 0x7000) 32 ++ fronds s.arr.outBits ++ fronds s.arr.bus ++
     fronds s.arr.laneOld ++ fronds s.arr.laneSrc ++
     (List.range 64).flatMap (fun i => bytesOfNat 8 (Sparse.get 0 s.arr.rdReg (n * 64 + i)).toNat) ++
     bytesOf32 (s.reg (Reg.ARR_STATUS n)) ++ bytesOf32 (s.reg (Reg.ARR_PAGE n))),
   (0x20000, s.regBytes (win + 0x40000) 65536)]

/-- Order 6 of R116: a capture named for this boundary records the state, and its copy begins (R142, R146). -/
def State.captureRecord (s : State) : State :=
  let ctx := s.flag Fld.SEQ_CAP_CFG_CTX
  let sori := (List.range 32).flatMap (fun v =>
    (s.snapSorus (s.physOf v)).map (fun p => (0x100000 + v * 0x60000 + p.1, p.2)))
  let ctxs := if ctx then s.acq.ctx.map (fun e => (0x1000000 + e.1 * 64, bytesOfNat 64 e.2.toNat)) else []
  ({ s with seq := { s.seq with
      snap := (0, s.snapHeader ctx) :: sori ++ ctxs, snapTurn := s.seq.turn, snapSlot := s.fld Fld.SEQ_CAP_CFG_SLOT } } : State).setFlag
    Fld.SEQ_CAP_STAT_BUSY true

/-- The copy of a capture written into its slot (R143); what a snapshot does not list is 0. -/
def State.captureWrite (s : State) : State :=
  match s.regionBase 5 with
  | some b =>
    let base := b + s.seq.snapSlot * 0x2000000
    let s1 : State := { s with hbm := { s.hbm with words := dropRange s.hbm.words (base / 8) ((base + 0x2000000) / 8) } }
    s.seq.snap.foldl (fun s p => s.setHbmBytes (base + p.1) p.2) s1
  | none => s

/-- CAPTURE_COPY_DONE (R146). -/
def execCaptureCopyDone (s : State) : Result :=
  .next (if s.flag Fld.SEQ_CAP_STAT_BUSY then
    (let s1 := s.captureWrite
     let s2 : State := { s1 with seq := { s1.seq with snap := [] } }
     ((s2.setFlag Fld.SEQ_CAP_STAT_BUSY false).setReg Reg.SEQ_CAP_TURN (BitVec.ofNat 32 s.seq.snapTurn)).raiseBit
       Fld.SEQ_CAP_STAT_DONE 72)
   else s)

/-- CAPTURE_COPY_FAIL (R146): an HBM write of the copy fails with a code. -/
def execCaptureCopyFail (code : Status) (s : State) : Result :=
  .next (if s.flag Fld.SEQ_CAP_STAT_BUSY then
    (let s1 : State := { s with seq := { s.seq with snap := [] } }
     ((s1.setFlag Fld.SEQ_CAP_STAT_BUSY false).setFld Fld.SEQ_CAP_STAT_CODE code.toNat).raiseBit Fld.SEQ_CAP_STAT_FAIL 73)
   else s)

/-! ## The boundary -/

/-- A sorus freezes (R67, R442). -/
def State.freezeSorus (s : State) (n : Nat) : State :=
  ((((s.setFlag (Fld.ARR_STATUS_FROZEN n) true).setFlag (Fld.ARR_STATUS_RUN n) false).setSafe n).portsDead n).raise (2 * n + 1)

/-- Order 3 of R116. -/
def State.freezes (s : State) : State :=
  let s1 := (List.range 34).foldl (fun s n =>
    let want := (Sparse.get false s.arr.faulted n && s.flag (Fld.ARR_CTRL_FPOLICY n)) || Sparse.get false s.arr.essFreeze n
    if s.mapped n && want && !s.flag (Fld.ARR_STATUS_FROZEN n) then s.freezeSorus n else s) s
  { s1 with arr := { s1.arr with faulted := [], essFreeze := [], voted0 := [], probe := [] } }

/-- The time bits of the turn that begins (R86). -/
def State.latchTime (s : State) : State :=
  let bit := fun (t : Nat) =>
    if t < 16 then s.time.firedSince.getLsbD t
    else if t < 48 then bitOf s.seq.turn (t - 16)
    else if t = 48 then s.flag Fld.CLK_STATUS_HOLDOVER
    else s.fld Fld.TU_STATUS_STATE == 3
  let s1 := (List.range 34).foldl (fun st n =>
    if s.mapped n then
      st.landOn n (fun src => match src with
        | .time t => some (bit t)
        | _ => none)
    else st) s
  { s1 with time := { s1.time with firedSince := 0 } }

/-- Orders 3 to 5 of R116: freezes, changes, the responses of elastic memory ports (R332), the turn number, the time bits, the twin
unit, and a pending switch of the scheduled plane (R208). -/
def State.boundaryOrders (s : State) : State :=
  let s1 := (s.digestClose s.healthy).freezes
  let s2 := ((s1.changesAt (s1.seq.turn + 1)).releaseElastic).commitLandings
  let s3 := s2.when (s2.flag Fld.RZ_EPOCH_SP_PENDING) State.flipSp
  let s4 : State := { s3 with seq := { s3.seq with turn := (s3.seq.turn + 1) % 2 ^ 64 } }
  s4.latchTime.twinTurn

/-- STOP_CAUSE of the stop that takes effect at this boundary (R116, R123, R124, R141); none where none does. -/
def State.stopDue (s : State) (vote0 : Bool) : Option Nat :=
  if s.seq.thermal then some 4
  else if s.lockedSchedule && s.seq.overrun && s.flag Fld.SEQ_CFG1_OVR_ACT then some 2
  else if s.lockedSchedule && vote0 && s.flag Fld.SEQ_CFG1_VOTE_ACT then some 3
  else if s.cmdDue 2 then some 1 else none

/-- PAUSE_CAUSE of the pause that takes effect at this boundary (R116, R127, R138, R142). -/
def State.pauseDue (s : State) (vote0 : Bool) : Option Nat :=
  if s.lockedSchedule then none
  else if vote0 then some 2
  else if s.cmdDue 3 || (match s.seq.stepLeft with
      | some k => decide (k ≤ 1)
      | none => false) then some 1
  else if s.cmdDue 7 && s.flag Fld.SEQ_CAP_CFG_PAUSE_AFTER then some 3 else none

/-- A pause is entered (R114, R127). -/
def State.seqPauseAt (s : State) (cause : Nat) : State :=
  let s1 := (s.seqEnter 4).setFld Fld.SEQ_STATUS_PAUSE_CAUSE cause
  { s1 with seq := { s1.seq with stepLeft := none } }

/-- The causes that held during the stall that ends are counted (R129). -/
def State.stallCounted (s : State) : State :=
  if s.seqState = 3 then
    (List.range 8).foldl (fun s i => s.when (bitOf s.seq.heldCauses i) (fun s => s.countReg (Reg.SEQ_STALL_CNT i))) s
  else s

/-- GO passed on to the children, with the vote (R134). -/
def State.goForward (s : State) : State :=
  match s.seq.go with
  | some v => if s.inBarrier then s.seq.children.foldl (fun (x : State) l => x.barSend l true v) s else s
  | none => s

/-- The vote of the turn that ends: that of the whole tree where the device belongs to one (R124, R127, R134); true where it is 0. -/
def State.turnVote0 (s : State) : Bool := if s.inBarrier then s.seq.go == some false else s.ownVote0

/-- What the turn gathered is cleared for the next one. -/
def State.turnCleared (s : State) : State :=
  { s with seq := { s.seq with
    overrun := false, vote0 := false, heldCauses := 0, longSeen := false, go := none, ready := [],
    sentReady := false, probeWait := false, throttle := false } }

/-- The next turn begins with step 0, one turn fewer left of a stepped run (R114, R138). -/
def State.nextTurn (s : State) : State :=
  ({ s with seq := { s.seq with stepLeft := s.seq.stepLeft.map (fun k => k - 1) } } : State).seqRun.landEvents

/-- A boundary completes: orders 3 to 8 of R116, the stall counters of R129, and GO to the children (R134). -/
def State.boundaryComplete (s : State) : State :=
  let s1 := s.stallCounted.goForward.when s.turnVote0 (fun s => s.raiseBit Fld.SEQ_STATUS_VOTE0 75)
  let s2 := (s1.cmdDone.boundaryOrders.when (s.cmdDue 7) State.captureRecord).turnCleared
  match s.stopDue s.turnVote0, s.pauseDue s.turnVote0 with
  | some c, _ => s2.seqStop c
  | none, some c => s2.seqPauseAt c
  | none, none => s2.nextTurn

/-- A boundary reached or stalled at: it completes when no stall cause holds, and a stop waits for none once it has stalled (R116,
R126, R136, R141). -/
def State.boundaryTry (s : State) : State :=
  let c := s.stallCauses
  let stopped := s.seqState == 3 && (s.seq.thermal || s.cmdDue 2)
  if c = 0 ∨ stopped = true then s.boundaryComplete
  else
    let s1 := if s.seqState = 3 then s else s.seqEnter 3
    ({ s1 with seq := { s1.seq with heldCauses := s1.seq.heldCauses ||| c } } : State).setFld Fld.SEQ_STATUS_STALL_CAUSE c

/-- The boundary of an elastic turn: level changes, throttling and the barrier exchange, then the stall causes (R126 to R128, R134,
R531). -/
def State.boundaryElastic (s : State) : State :=
  let s1 := match s.seq.cmd with
    | some c =>
      if c.code = 6 ∧ c.due s.seq.turn then
        ({ s with seq := { s.seq with cmd := none } } : State).setFlag Fld.SEQ_CMD_STAT_PENDING false |>.levelBegin
          c.level
      else s
    | none => s
  let hot := s1.flag Fld.PWR_STATUS_THROTTLING && s1.flag Fld.PWR_THROT_EN && s1.fld Fld.PWR_THROT_US != 0
  let s2 : State := { s1 with seq := { s1.seq with throttle := hot } }
  s2.barStep.boundaryTry

/-- Orders 1 and 2 of R116, after step L − 1. -/
def State.boundary (s : State) (refEdge : Bool) : State :=
  let s1 := if s.probeTurn s.seq.turn then s.probeOffer else s
  if s1.lockedSchedule then
    let check := s1.fld Fld.SEQ_CFG_STROBE_SRC == 0 && !s1.flag Fld.CLK_STATUS_HOLDOVER && !s1.flag Fld.CLK_STATUS_REF_LOSS
    (s1.when (check && !refEdge) (fun s => s.raiseBit Fld.SEQ_STATUS_STROBE_SLIP 70)).boundaryComplete
  else s1.boundaryElastic

/-- A stalled boundary looked at again: a probe record is offered again, and the barrier goes on (R126, R134, R312).
(DEDUCED, log 98.) -/
def State.stallTry (s : State) : State :=
  ((if s.seq.probeWait then s.probeOffer else s).barStep).boundaryTry

/-- A step-clock cycle in which a step executes (R109): the step ends, and the next step or the boundary follows. -/
def State.runCycle (s : State) (refEdge : Bool) : State :=
  let s1 := s.stepFinish
  if s1.turnLength ≤ s1.seq.step + 1 then s1.boundary refEdge
  else ({ s1 with seq := { s1.seq with step := s1.seq.step + 1 } } : State).landEvents

/-- TURN_BOUNDARY (R116): the end of step L − 1, with whether a REFCLK0 edge falls within one step of the strobe (R120). -/
def execTurnBoundary (refEdge : Bool) (s : State) : Result :=
  .next (if s.seqState = 2 ∧ s.turnLength ≤ s.seq.step + 1 then s.runCycle refEdge else s)

/-- The first turn after the start condition begins (R114, R118); in a twin being brought level, turn J0 (R555).
(DEDUCED, log 116.) -/
def State.turnZero (s : State) : State :=
  match s.twin.align with
  | some (j, _) =>
    let s1 : State := { s with seq := { s.seq with turn := j }, twin := { s.twin with align := none } }
    s1.latchTime.digestOpen.seqRun.landEvents
  | none =>
    if s.seqState = 1 ∧ s.seq.startMet = true then
      ({ s with seq := { s.seq with startMet := false } } : State).latchTime.digestOpen.seqRun.landEvents
    else s

/-- TURN_ZERO (R114, R118). -/
def execTurnZero (s : State) : Result := .next (if s.devState ≤ 1 then s.turnZero else s)

/-- START_CONDITION (R119): the time comparator, the pin or the first GO that START_SRC names.
(DEDUCED, log 116.) -/
def execStartCondition (s : State) : Result :=
  .next (if s.seqState = 1 ∧ 2 ≤ s.startSrc ∧ s.startSrc ≤ 4 then s.seqMeet else s)

/-- STALL_END (R114): the last cause has cleared, or GO has arrived.
(DEDUCED, log 98.) -/
def execStallEnd (s : State) : Result := .next (if s.seqState = 3 then s.stallTry else s)

/-- STALL_LONG (R129): once in a stall. -/
def execStallLong (s : State) : Result :=
  .next (if s.seqState = 3 ∧ s.seq.longSeen = false ∧ s.fld Fld.SEQ_STALL_WARN_US ≠ 0 then
    ({ s with seq := { s.seq with longSeen := true } } : State).raiseBit Fld.SEQ_STATUS_STALL_LONG 69
   else s)

/-- BAR_TMO (R136). -/
def execBarTmo (s : State) : Result :=
  .next (if s.seqState = 3 ∧ s.inBarrier = true ∧ s.seq.go.isNone = true ∧ s.fld Fld.SEQ_BAR_TMO_US ≠ 0 then
    s.raiseBit Fld.SEQ_STATUS_BAR_TMO 71
   else s)

/-- BAR_READY (R134): READY of a child for the turn in hand.
(DEDUCED, log 116.) -/
def execBarReady (lane : Fin 103) (turn : Word32) (vote : Bool) (s : State) : Result :=
  .next (if s.inBarrier && s.seq.children.contains lane.val && turn.toNat == s.seq.turn % 2 ^ 32 then
    (let s1 : State := { s with seq := { s.seq with ready := Sparse.put none s.seq.ready lane.val (some vote) } }
     if s1.seqState = 3 then s1.stallTry else s1)
   else s)

/-- BAR_GO (R119, R134): GO from the parent for the turn in hand; the first one meets the start condition XDEV.
(DEDUCED, log 116.) -/
def execBarGo (lane : Fin 103) (turn : Word32) (vote : Bool) (s : State) : Result :=
  .next (if s.inBarrier && s.seq.parent == some lane.val then
    (if s.seqState = 1 ∧ s.startSrc = 4 then s.seqMeet
     else if turn.toNat = s.seq.turn % 2 ^ 32 then
       (let s1 : State := { s with seq := { s.seq with go := some vote } }
        if s1.seqState = 3 then s1.stallTry else s1)
     else s)
   else s)

/-! ## Commands -/

/-- The boundary's stop for the thermal shutdown (R141).
(DEDUCED, log 98.) -/
def State.thermalStop (s : State) : State :=
  match s.seqState with
  | 1 => s.seqStop 4
  | 2 => { s with seq := { s.seq with thermal := true } }
  | 3 => ({ s with seq := { s.seq with thermal := true } } : State).boundaryTry
  | 4 => s.seqStop 4
  | _ => s

/-- The snapshot slot of a CAPTURE lies in the image's snapshot region (R139, R143). -/
def State.slotInRegion (s : State) : Bool :=
  match (List.range 32).find? (fun r => s.flag (Fld.HBM_RGN_OWN_EN r) && s.fld (Fld.HBM_RGN_OWN_KIND r) == 5) with
  | some r => decide ((s.fld Fld.SEQ_CAP_CFG_SLOT + 1) * 512 ≤ s.fld (Fld.HBM_RGN_SIZE_SIZE r))
  | none => false

/-- A command code is accepted in a state (R138). -/
def State.seqAccepts (s : State) (code : Nat) : Bool :=
  let st := s.seqState
  match code with
  | 1 => (st == 1 && s.startSrc == 0) || st == 5
  | 2 => decide (1 ≤ st) && decide (st ≤ 4)
  | 3 => st == 2 || st == 3
  | 4 => st == 4
  | 5 => st == 4
  | 6 => st == 2 || st == 3 || st == 4
  | 7 => st == 2 || st == 3 || st == 4
  | _ => false

/-- The first check of R139 that refuses a command, in its order. -/
def State.seqRefusal (s : State) (v : Word32) : Option Status :=
  let code := Fld.SEQ_CMD_CMD.get v
  if code = 7 ∧ s.slotInRegion = false then some Code.overQuota
  else if s.lockedSchedule = true ∧ 3 ≤ code ∧ code ≤ 6 then some Code.seqLocked
  else if !s.seqAccepts code then some Code.seqState
  else if s.seq.cmd.isSome = true ∨ (code = 7 ∧ s.flag Fld.SEQ_CAP_STAT_BUSY = true) then some Code.seqBusy
  else if Fld.SEQ_CMD_AT.get v = 1 ∧ s.turnAhead (s.reg Reg.SEQ_CMD_TURN).toNat ≤ 0 then some Code.seqLate
  else none

/-- A command that waits for its boundary (R138, R139); in STALL a due STOP completes the boundary at once (R136). -/
def State.seqPend (s : State) (v : Word32) : State :=
  let c : SeqCmd :=
    { code := Fld.SEQ_CMD_CMD.get v,
      turn := if Fld.SEQ_CMD_AT.get v = 1 then some (s.reg Reg.SEQ_CMD_TURN).toNat else none, level := Fld.SEQ_CMD_LEVEL.get v }
  let s1 := (({ s with seq := { s.seq with cmd := some c } } : State).setFld Fld.SEQ_CMD_STAT_CODE 0).setFlag
    Fld.SEQ_CMD_STAT_PENDING true
  if s1.seqState = 3 ∧ c.code = 2 then s1.boundaryTry else s1

/-- A command that takes effect at once is accepted. -/
def State.seqNow (s : State) : State := (s.setFld Fld.SEQ_CMD_STAT_CODE 0).setFlag Fld.SEQ_CMD_STAT_PENDING false

/-- An accepted command (R138). -/
def State.seqAccepted (s : State) (v : Word32) : State :=
  match Fld.SEQ_CMD_CMD.get v with
  | 1 =>
    let s1 := s.seqNow.exitSource 10 0 true true true
    if s1.seqState = 1 then s1.seqMeet else s1.seqArm
  | 2 => if s.seqState = 1 ∨ s.seqState = 4 then s.seqNow.seqStop 1 else s.seqPend v
  | 4 => s.seqNow.seqRun.landEvents
  | 5 =>
    let s1 := s.seqNow
    ({ s1 with seq := { s1.seq with stepLeft := some (max 1 (Fld.SEQ_CMD_COUNT.get v)) } } : State).seqRun.landEvents
  | _ => s.seqPend v

/-- A write of SEQ_CMD (R138, R139). -/
def State.seqCommand (s : State) (v : Word32) : State :=
  if Fld.SEQ_CMD_CMD.get v = 0 then s.reply Code.ok
  else match s.seqRefusal v with
    | some c => s.seqRefuse c
    | none => (s.seqAccepted v).reply Code.ok

/-- SEQ_CMD written with its CMD field set. -/
def State.seqCmd (s : State) (v : Word32) (code : Nat) : State := s.seqCommand (Fld.SEQ_CMD_CMD.put v code)

/-- START (R138). -/
def execSeqStart (_mid : Mid) (value : Word32) (s : State) : Result := .next (s.seqCmd value 1)

/-- STOP (R138, R140). -/
def execSeqStop (_mid : Mid) (value : Word32) (s : State) : Result := .next (s.seqCmd value 2)

/-- PAUSE (R138). -/
def execSeqPause (_mid : Mid) (value : Word32) (s : State) : Result := .next (s.seqCmd value 3)

/-- RESUME (R138). -/
def execSeqResume (_mid : Mid) (value : Word32) (s : State) : Result := .next (s.seqCmd value 4)

/-- STEP (R138). -/
def execSeqStep (_mid : Mid) (value : Word32) (s : State) : Result := .next (s.seqCmd value 5)

/-- LEVEL (R128, R138). -/
def execSeqLevel (_mid : Mid) (value : Word32) (s : State) : Result := .next (s.seqCmd value 6)

/-- CAPTURE (R138, R142). -/
def execSeqCapture (_mid : Mid) (value : Word32) (s : State) : Result := .next (s.seqCmd value 7)

/-! ## Registers (R151) -/

/-- A write of a sequencer register. -/
def State.seqRegWrite (s : State) (a : Nat) (v : Word32) : State := if a = Reg.SEQ_CMD then s.seqCommand v else s.storeReg a v

/-- A read of a sequencer register: SEQ_TURN_LO latches SEQ_TURN_HI (R112). -/
def State.seqRegRead (s : State) (a : Nat) : State :=
  if a = Reg.SEQ_TURN_LO then
    (s.setReg Reg.SEQ_TURN_HI (BitVec.ofNat 32 (s.seq.turn / 2 ^ 32))).reply Code.ok (BitVec.ofNat 32 s.seq.turn)
  else s.loadReg a

/-- SEQ_TURN_LO_READ (R8, R112). -/
def execSeqTurnLoRead (_mid : Mid) (s : State) : Result := .next (s.seqRegRead Reg.SEQ_TURN_LO)

end Sys2Proof.Machine
end

