-- ==== Sys2Proof/Machine/Conservator.lean ====
section
/-! DEFINITION.  The Conservator: the scrub ports (R435 to R437), the comparison pass (R438 to R440, R446), its self-protection (R445),
injection (R448) and its registers (R450). -/

namespace Sys2Proof.Machine

/-! ## Scrub ports -/

/-- The key of a BP's scrub port. -/
def scrubKey (p : BpId) : Nat := (p.sorus.val * 16 + p.frond.val) * 64 + p.bp.val

/-- A correction or restoration waits for the port's next slot (R436, R437): one whose golden copy cannot be read holds no slot. -/
def State.portTaken (s : State) (p : BpId) : Bool :=
  s.cns.pend.any (fun e => e.1 / 1024 == scrubKey p &&
    (match e.2 with
     | some false => true
     | some true => (s.goldenInstr p.sorus p.frond p.bp (e.1 % 1024)).isSome
     | none => false))

/-- The scrub port of a BP runs: its sorus is mapped, is not being written by the loader, and its clock runs (R432, R435). -/
def State.scrubs (s : State) (p : BpId) : Bool :=
  s.mapped p.sorus && !s.loaderWrites p.sorus && s.domOn p.sorus && s.devState == 0

/-- Entries of the recurrence table in a range of locations that a walk or a pass has not corrected are cleared (R444). -/
def recurSweep (t : List Recur) (inside : Nat → Bool) : List Recur :=
  (t.filter (fun r => !inside r.loc || r.seen)).map (fun r => if inside r.loc then { r with seen := false } else r)

/-- A word read by a scrub port (R435): an error is found and reported, and the port walks on. -/
def State.scrubWord (s : State) (p : BpId) : State :=
  let k := scrubKey p
  let w := Sparse.get 0 s.cns.walk k
  let s1 := s.wordError 1 p.sorus p.frond p.bp w (eccFix (s.imemWord (k * 1024 + w))).2
  let wrap := w + 1 == 1024
  { s1 with cns := { s1.cns with
    walk := Sparse.put 0 s1.cns.walk k (if wrap then 0 else w + 1),
    recur := if wrap then recurSweep s1.cns.recur (fun l => l / 1024 == k) else s1.cns.recur } }

/-- SCRUB_READ (R435). -/
def execScrubRead (bp : BpId) (s : State) : Result := .next (if s.scrubs bp && !s.portTaken bp then s.scrubWord bp else s)

/-- SCRUB_WRITEBACK (R436): the corrected word is written through the port's next slot. -/
def execScrubWriteback (bp : BpId) (word : Fin 1024) (s : State) : Result :=
  .next (let k := scrubKey bp * 1024 + word
    if Sparse.get none s.cns.pend k = some false ∧ s.scrubs bp = true then
      (let fixed := (eccFix (s.imemWord k)).1
       let s1 := s.setImem k (eccJoin fixed (eccChk fixed))
       { s1 with cns := { s1.cns with pend := Sparse.put none s1.cns.pend k none } })
    else s)

/-- GOLDEN_RESTORE (R437): an uncorrectable word is restored from its golden copy; where the read fails it stays, to be tried
again. -/
def execGoldenRestore (bp : BpId) (word : Fin 1024) (ecc : EccFind) (s : State) : Result :=
  .next (let k := scrubKey bp * 1024 + word
    match Sparse.get none s.cns.pend k, s.regionBase 4, s.virtOf bp.sorus with
    | some true, some base, some v =>
      if !s.scrubs bp then s
      else
        let a := base + v * 0x810000 + (bp.frond.val * 64 + bp.bp.val) * 8192 + word.val * 8
        match s.hbmRead 0x11 a 8 ecc with
        | (s1, code, bytes) =>
          if code = Code.ok then
            let d : Word64 := BitVec.ofNat 64 (natOfBytes bytes)
            let s2 := s1.setImem k (eccJoin d (eccChk d))
            { s2 with cns := { s2.cns with pend := Sparse.put none s2.cns.pend k none } }
          else s1.raiseBit Fld.CNS_STATUS_HBM_FAIL 426
    | some true, _, _ => s.raiseBit Fld.CNS_STATUS_HBM_FAIL 426
    | _, _, _ => s)

/-! ## The comparison pass -/

/-- Frames of a pass (R438). -/
def passFrames : Nat := 32 * passSorus + passDevice

/-- The pass runs: the Conservator is on and COMPARE is 1 (R438, R450). -/
def State.passRuns (s : State) : Bool := s.cnsOn && s.flag Fld.CNS_CTRL_COMPARE

/-- A pass begins at frame 0, if it may run (R433, R438). -/
def State.passBegin (s : State) : State :=
  ({ s with cns := { s.cns with passStart := s.count } } : State).setReg Reg.CNS_FRAME 0 |>.setFlag Fld.CNS_STATUS_RUN s.passRuns

/-- A sorus outside its conditions (R432, R433): CNS_SKIP reports it.
(DEDUCED, log 117.) -/
def State.cnsSkips (s : State) (n : Nat) : Bool :=
  !(s.mapped n && !s.loaderWrites n && !s.flag (Fld.ARR_WIN_STAT_MODIFIED n))

/-- A device word of the pass is guarded (R432). -/
def State.devGuarded (s : State) (p : PassWord) : Bool :=
  let u := p.index / 2
  match p.target with
  | 7 => !Sparse.get false s.cns.touched (p.index / 2048)
  | 8 => decide (u < 1152) && !Sparse.get false s.cns.touched (64 + u / 24)
  | 9 => true
  | 10 =>
    if u < 2048 then s.imageOwner 4 (u / 16) != 0
    else if u < 2072 then s.imageOwner 5 (u - 2048) != 0
    else decide (4096 ≤ u) && s.imageOwner 4 ((u - 4096) / 64) != 0
  | _ =>
    let b := u / 32
    let pin := p.index % 64
    if pin < 24 then s.imageOwner 1 (b * 24 + pin) != 0
    else match iobReg u (p.index % 2) with
      | some a => a == Reg.IOB_BANK b && (List.range 24).any (fun q => s.imageOwner 1 (b * 24 + q) != 0)
      | none => false

/-- Frame `i` of the pass: the word, with its location, and none where it is left out; and the frame that follows. -/
def State.passAt (s : State) (i : Nat) : Option (PassWord × Nat) × Nat :=
  if i < 32 * passSorus then
    let v := i / passSorus
    let n := s.physOf v
    if n ≥ 34 ∨ s.cnsSkips n = true then (none, (v + 1) * passSorus)
    else (some (passFolio v n (i % passSorus), cfgLoc n (i % passSorus)), i + 1)
  else
    let p := passDev (i - 32 * passSorus)
    (if s.devGuarded p then some (p, devLoc p.target p.index) else none, i + 1)

/-- The frond of a configuration word of targets 2 to 5 (R450). -/
def passFrond (p : PassWord) : Nat :=
  match p.target with
  | 2 => p.index % 1024 / 64
  | 3 => p.index % 1024 / 64
  | 4 => p.index % 64 / 2 % 16
  | 5 => p.index % 2048 / 128
  | _ => 0

/-- A guarded word compared with its golden copy, and rewritten from it where they differ (R439, R443). -/
def State.compareWord (s : State) (p : PassWord) (loc : Nat) (ecc : EccFind) : State :=
  match s.regionBase 4 with
  | none => s.raiseBit Fld.CNS_STATUS_HBM_FAIL 426
  | some base =>
    match s.hbmRead 0x11 (base + p.golden) 4 ecc with
    | (s1, code, bytes) =>
      if code ≠ Code.ok then s1.raiseBit Fld.CNS_STATUS_HBM_FAIL 426
      else
        let g : Word32 := BitVec.ofNat 32 (natOfBytes bytes)
        let lv := s1.passLive p
        let diff := ((lv.1 ^^^ g) &&& lv.2).toNat
        if diff = 0 then s1.cleanCheck loc
        else (s1.passRewrite p ((lv.1 &&& ~~~ lv.2) ||| (g &&& lv.2))).upset
          { target := p.target, sorus := p.sorus, frond := passFrond p, bp := 0, offset := p.index,
            bits := (List.range 32).filter (fun b => bitOf diff b), unc := false, restored := false, hbmFail := false, loc := loc }

/-- A pass ends, and the next one starts (R438, R444). -/
def State.passDone (s : State) : State :=
  let us := if s.time.pnom = 0 then 0 else (s.count - s.cns.passStart) * s.time.pnom / (1000 * 2 ^ 40)
  let s1 : State := { s with cns := { s.cns with recur := recurSweep s.cns.recur (fun l => decide (2 ^ 26 ≤ l)) } }
  ((((s1.setReg Reg.CNS_PASS (s1.reg Reg.CNS_PASS + 1)).setReg Reg.CNS_PASS_TIME (BitVec.ofNat 32 us)).raiseBit
    Fld.CNS_STATUS_PASS_DONE 428)).passBegin

/-- FRAME_COMPARE (R438, R439): the next frame of the pass, with what its golden read finds. -/
def execFrameCompare (ecc : EccFind) (s : State) : Result :=
  .next (if s.passRuns && s.flag Fld.CNS_STATUS_RUN then
    (let f := s.passAt (s.reg Reg.CNS_FRAME).toNat
     let s1 := match f.1 with
       | some (p, loc) => s.compareWord p loc ecc
       | none => s
     if passFrames ≤ f.2 then s1.passDone else s1.setReg Reg.CNS_FRAME (BitVec.ofNat 32 f.2))
   else s)

/-- PASS_RESTART (R446): the copies of the pass state disagree. -/
def execPassRestart (s : State) : Result :=
  .next (if s.flag Fld.CNS_STATUS_RUN then s.passBegin.raiseBit Fld.CNS_STATUS_RESTART 425 else s)

/-- SELF_UPSET (R445): a copy of a guarded register disagrees and is overwritten. -/
def execSelfUpset (s : State) : Result :=
  .next (if s.domOn 77 then (s.countReg Reg.CNS_SELF_CNT).raiseBit Fld.CNS_STATUS_SELF 424 else s)

/-! ## Registers -/

/-- MIDs that may write the Conservator's registers (R447). -/
def cnsWriter (mid : Mid) : Bool := isManager mid || mid == 0x10

/-- A refused write (R447). -/
def State.cnsRefuse (s : State) : State := (s.raiseBit Fld.CNS_STATUS_REFUSED 429).reply Code.denied

/-- A write of CNS_CTRL (R438, R447): a fall of EN or COMPARE ends the pass, a rise of both begins one. -/
def State.cnsCtrl (s : State) (v : Word32) : State :=
  let s1 := s.storeReg Reg.CNS_CTRL v
  if s1.passRuns = s.passRuns then s1
  else if s1.passRuns then s1.passBegin else s1.setFlag Fld.CNS_STATUS_RUN false

/-- An injection (R448): into a stored instruction word, or into a configuration word of a sorus. -/
def State.inject (s : State) (v : Word32) : State :=
  let s0 := s.storeReg Reg.CNS_INJ_CHK v
  let n := s0.fld Fld.CNS_INJ_SEL_SORUS
  let i := s0.fld Fld.CNS_INJ_SEL_INDEX
  let kind := s0.fld Fld.CNS_INJ_SEL_KIND
  let lo := s0.reg Reg.CNS_INJ_LO
  let chk : BitVec 8 := BitVec.ofNat 8 v.toNat
  let mark := fun (s : State) (loc : Nat) => ({ s with cns := { s.cns with
    injected := Sparse.put false s.cns.injected loc true } } : State)
  if !s0.flag Fld.CNS_CTRL_INJ_EN || !(decide (n < 34) && s0.mapped n) || decide (2 ≤ kind) || (kind == 1 && decide (0x107F < i)) then
    (s0.setFld Fld.CNS_INJ_STAT_CODE Code.denied.toNat).cnsRefuse
  else if kind = 0 then
    let k := imemLoc n (s0.fld Fld.CNS_INJ_SEL_FROND) (i / 1024) (i % 1024)
    ((mark (s0.setImem k (s0.imemWord k ^^^ (chk ++ (s0.reg Reg.CNS_INJ_HI ++ lo : Word64)))) k).setFld Fld.CNS_INJ_STAT_CODE 0).reply
      Code.ok
  else
    let a := 0x0C001000 + n * 0x100000 + 4 * i
    ((mark (s0.setReg a (s0.reg a ^^^ lo)) (cfgLoc n i)).setFld Fld.CNS_INJ_STAT_CODE 0).reply Code.ok

/-- A register write in the Conservator's range (R447). -/
def State.cnsRegWrite (s : State) (mid : Mid) (a : Nat) (v : Word32) : State :=
  if !cnsWriter mid then s.cnsRefuse
  else if a = Reg.CNS_CTRL then s.cnsCtrl v
  else if a = Reg.CNS_INJ_CHK then s.inject v
  else s.storeReg a v

/-- Bits of a mask. -/
def maskOf (n : Nat) (p : Nat → Bool) : Word32 :=
  BitVec.ofNat 32 ((List.range n).foldl (fun a k => if p k then a + 2 ^ k else a) 0)

/-- The oldest record; zeros where there is none (R450). -/
def State.cnsOldest (s : State) : CnsRec := s.cns.recs.headD { w0 := 0, w1 := 0, w2 := 0, w3 := 0 }

/-- A register read in the Conservator's range: the oldest record, removed by a read of CNS_REC3, and the masks of sori and nodes
outside their conditions (R432, R450). -/
def State.cnsRegRead (s : State) (a : Nat) : State :=
  let node := fun (n : Nat) => Sparse.get false s.cns.touched n || Sparse.get false s.cns.touched (64 + n)
  if a = Reg.CNS_REC0 then s.reply Code.ok s.cnsOldest.w0
  else if a = Reg.CNS_REC1 then s.reply Code.ok s.cnsOldest.w1
  else if a = Reg.CNS_REC2 then s.reply Code.ok s.cnsOldest.w2
  else if a = Reg.CNS_REC3 then
    ({ s with cns := { s.cns with recs := s.cns.recs.drop 1 } } : State).reply Code.ok s.cnsOldest.w3
  else if a = Reg.CNS_SKIP_LO then s.reply Code.ok (maskOf 32 s.cnsSkips)
  else if a = Reg.CNS_SKIP_HI then s.reply Code.ok (maskOf 2 (fun k => s.cnsSkips (32 + k)))
  else if a = Reg.CNS_NODE_LO then s.reply Code.ok (maskOf 32 node)
  else if a = Reg.CNS_NODE_HI then s.reply Code.ok (maskOf 16 (fun k => node (32 + k)))
  else s.loadReg a

/-- INJECT (R448): a write of CNS_INJ_CHK. -/
def execCnsInject (mid : Mid) (value : Word32) (s : State) : Result :=
  .next (s.gate mid Reg.CNS_INJ_CHK (some value) (fun s => s.cnsRegWrite mid Reg.CNS_INJ_CHK value))

/-- CNS_CTRL_WRITE (R438, R447). -/
def execCnsCtrlWrite (mid : Mid) (value : Word32) (s : State) : Result :=
  .next (s.gate mid Reg.CNS_CTRL (some value) (fun s => s.cnsRegWrite mid Reg.CNS_CTRL value))

/-- CNS_REC3_READ (R450). -/
def execCnsRec3Read (mid : Mid) (s : State) : Result :=
  .next (s.gate mid Reg.CNS_REC3 none (fun s => s.cnsRegRead Reg.CNS_REC3))

end Sys2Proof.Machine
end

