-- ==== Sys2Proof/Machine/Program.lean ====
section
/-! DEFINITION.  The start-up program of an image, entry by entry, and the OUT phase (R388 to R392, R403). -/

namespace Sys2Proof.Machine

/-- A program runs: that of a full load in PROGRAM or after OUT, or that of a partial load (R383, R403). -/
def State.progRuns (s : State) : Bool :=
  match s.ldr.change with
  | none => s.ldr.phase == 8 || s.ldr.phase == 10
  | some c => c.stage == 8 && (c.kind == 1 || c.kind == 2)

/-- The entry that the program has reached (R390). -/
def State.progEntry (s : State) : Option ProgEntry := if s.progRuns then s.ldr.prog[s.ldr.progAt]? else none

/-- The program goes on to its next entry (R390). -/
def State.progNext (s : State) : State := { s with ldr := { s.ldr with progAt := s.ldr.progAt + 1 } }

/-- The entry reached completes if it has the operation `op` and its condition holds (R390). -/
def State.progStep (s : State) (op : Nat) (done : ProgEntry → Bool) (f : State → State) : State :=
  match s.progEntry with
  | some e => if e.op = op ∧ done e = true then (f s).progNext else s
  | none => s

/-- Every enabled lane of each quad named in a mask is READY (R390 WAIT_QUADS). -/
def State.quadsReady (s : State) (mask : Nat) : Bool :=
  (List.range 24).all (fun q => !bitOf mask q ||
    (List.range 4).all (fun k => !s.flag (Fld.LN_CFG_EN (4 * q + k)) || s.flag (Fld.LN_STAT_READY (4 * q + k))))

/-- END (R390): the program ends. -/
def execProgEnd (s : State) : Result := .next (s.progStep 0 (fun _ => true) id)

/-- WAIT_QUADS (R390). -/
def execWaitQuads (s : State) : Result := .next (s.progStep 1 (fun e => s.quadsReady e.arg) id)

/-- WAIT_TU (R390): the time unit is LOCKED. -/
def execWaitTu (s : State) : Result := .next (s.progStep 2 (fun _ => s.fld Fld.TU_STATUS_STATE == 2) id)

/-- WAIT_PIN (R87, R390): event bit ARG[7:0] reads ARG[8]. -/
def execWaitPin (s : State) : Result := .next (s.progStep 3 (fun e => s.eventBit (e.arg % 256) == bitOf e.arg 8) id)

/-- WAIT_TWIN (R390): the pair is formed. -/
def execWaitTwin (s : State) : Result := .next (s.progStep 4 (fun _ => s.flag Fld.TWN_STATUS_PAIRED) id)

/-- PROGRAM_DELAY (R390): the ARG µs have passed. -/
def execProgramDelay (s : State) : Result := .next (s.progStep 5 (fun _ => true) id)

/-- SYNC_DONE (R390): DONE is released, and the pin reads high. -/
def execSyncDone (s : State) : Result :=
  .next (s.progStep 6 (fun _ => true) (fun s => { s with ldr := { s.ldr with doneOut := true } }))

/-- START_SEQ (R138, R390): the sequencer is given a START command. -/
def execProgStartSeq (s : State) : Result := .next (s.progStep 8 (fun _ => true) (fun s => s.seqCmd 0 1))

/-- A twin that owns the outputs from its OUT phase on: SOLO, and role A in LOCKSTEP (R536, R545). -/
def State.ownsFromOut (s : State) : Bool :=
  s.twinMode == 0 || (s.twinMode == 3 && s.fld Fld.DEV_STRAPS_TWIN_ROLE == 0)

/-- The outputs' owner from the OUT phase on, and the OWNER pin (R536, R545). -/
def State.ownOut (s : State) : State :=
  let s1 := if s.ownsFromOut then s.setOwn true else s
  { s1 with twin := { s1.twin with pin := s1.flag Fld.TWN_STATUS_OWN, pinWait := none } }

/-- The banks take the configuration that IOB frames gave, and are checked (R392 order 1, R591, R599). -/
def State.banksOut (s : State) : State :=
  let s1 := s.ldr.iobHeld.foldl (fun s p => s.loaderStore p.1 p.2) s
  let s2 := (List.range 8).foldl (fun s b => s.checkBank b) s1
  { s2 with iob := { s2.iob with active := true }, ldr := { s2.ldr with iobHeld := [] } }

/-- The OUT phase (R112, R321, R392, R393, R433): banks, capture, sequencer, DONE, USER; CFG_ERR_N is released, the load's command
ends, and the Conservator starts. -/
def State.outPhase (s : State) : State :=
  let s1 := s.banksOut.ownOut
  let s2 := s1.acqCtrlWrite s1.ldr.acqCtrl
  let s3 := ({ s2 with seq := { s2.seq with turn := 0, step := 0 } } : State).seqArm
  let s4 : State := { s3 with ldr := { s3.ldr with doneOut := true }, clock := { s3.clock with cfgErr := false } }
  let s5 := ((s4.setPhase 10).setFlag Fld.LDR_CMD_STAT_PENDING false).raiseBit Fld.LDR_STATUS_OUT_DONE 409
  ({ s5 with cns := { s5.cns with started := true } } : State).passBegin

/-- OUT (R390, R392). -/
def execProgOut (s : State) : Result := .next (s.progStep 7 (fun _ => s.ldr.change.isNone && s.ldr.phase == 8) State.outPhase)

/-- ENTRY_TIMEOUT (R390): TMO ms have passed and the entry reached has not completed.  A SYNC_DONE entry has released DONE. -/
def execEntryTimeout (s : State) : Result :=
  .next (match s.progEntry with
    | some e =>
      if e.tmo = 0 ∨ e.op = 0 ∨ 6 < e.op then s
      else if e.goOn then
        (let s1 : State := { s with ldr := { s.ldr with doneOut := s.ldr.doneOut || e.op == 6 } }
         (s1.raiseBit Fld.LDR_STATUS_WAIT_TMO 413).progNext)
      else s.loadFails Code.timeout
    | none => s)

end Sys2Proof.Machine
end

