-- ==== Sys2Proof/Machine/Twins.lean ====
section
/-! DEFINITION.  The commands of the twin unit and the frames of the mirror port (R535 to R564), but for the partner's register
accesses, which reach the whole register space (Host.lean). -/

namespace Sys2Proof.Machine

/-! ## Pairing (R542, R545) -/

/-- A CTRL frame: an operation and its D1 (R540). -/
def State.twinCtrl (s : State) (op d1 : Nat) : State := s.emit (.twinFrame 3 0 [BitVec.ofNat 64 op, BitVec.ofNat 64 d1])

/-- A command of the twin unit refused (R562). -/
def State.twinRefuseCmd (s : State) (code : Status) : State :=
  ((s.setFld Fld.TWN_CMD_STAT_CODE code.toNat).raiseBit Fld.TWN_STATUS_CMD_REFUSED 494).reply code

/-- Virtual turn numbers named by their low 32 bits, nearest to this turn (R139, R552). -/
def State.turnNear (s : State) (low : Nat) : Nat := ((s.seq.turn : Int) + s.turnAhead (low % 2 ^ 32)).toNat

/-- The first cause for which a partner's PAIR frame is refused (R542); 0 where it forms the pair. -/
def State.pairCause (s : State) (ident straps : Word32) (en disc : Bool) (identity : List Byte) : Nat :=
  let mine := s.reg Reg.DEV_IDENT
  if Fld.DEV_IDENT_PART.get ident ≠ Fld.DEV_IDENT_PART.get mine then 1
  else if Fld.DEV_IDENT_BGEN.get ident ≠ Fld.DEV_IDENT_BGEN.get mine then 2
  else if identity ≠ s.regBytes (Reg.LDR_ID 0) 16 then 3
  else if Fld.DEV_STRAPS_TWIN_ROLE.get straps = s.fld Fld.DEV_STRAPS_TWIN_ROLE then 4
  else if en = false then 5
  else if disc = true ∨ s.flag Fld.SEQ_CFG_DISC = true then 6
  else 0

/-- Modes and ownership of a pair just formed (R545).  LS_START is read on this twin, since the PAIR frame does not carry the
partner's (DEDUCED, log entry 62).
(DEDUCED, log 62.) -/
def State.pairModes (s : State) (own : Bool) (seq : Nat) : State :=
  let roleA := s.fld Fld.DEV_STRAPS_TWIN_ROLE == 0
  if s.seqState ≤ 1 ∧ seq ≤ 1 ∧ s.flag Fld.TWN_CFG_LS_START = true then
    (let s1 := s.setMode 3
     if s.ldr.phase = 10 ∧ s1.flag Fld.TWN_STATUS_OWN ≠ roleA then s1.setOwn roleA else s1)
  else if s.flag Fld.TWN_STATUS_OWN then
    (if own && !roleA then
      let s1 := s.setMode 1
      { s1 with twin := { s1.twin with ownPlan := some (false, s.seq.turn + 1) } }
     else s)
  else s.setMode 1

/-- The partner's PAIR frame (R542): what it shows is recorded, and the pair is formed or refused. -/
def State.pairIn (s : State) (ident straps : Word32) (mode : Nat) (own en disc : Bool) (seq : Nat) (identity : List Byte) : State :=
  let s1 := ((((s.setFlag Fld.TWN_PAIR_INFO_VALID true).setFld Fld.TWN_PAIR_INFO_P_ROLE
    (Fld.DEV_STRAPS_TWIN_ROLE.get straps)).setFld Fld.TWN_PAIR_INFO_P_MODE mode).setFlag Fld.TWN_PAIR_INFO_P_OWN own).setFld
    Fld.TWN_PAIR_INFO_P_STEP (Fld.DEV_IDENT_STEP.get ident)
  if !s1.flag Fld.TWN_CFG_EN || s1.twin.refused then s1
  else
    let c := s1.pairCause ident straps en disc identity
    let s2 := s1.setFld Fld.TWN_PAIR_INFO_CAUSE c
    if c ≠ 0 then
      (({ s2 with twin := { s2.twin with refused := true } } : State).raiseBit Fld.TWN_STATUS_PAIR_REF 485).twinCtrl 7
        Code.twnState.toNat
    else
      let s3 := (s2.setFlag Fld.TWN_STATUS_PAIRED true).raiseBit Fld.TWN_STATUS_PAIR_UP 484
      let s4 := ({ s3 with twin := { s3.twin with heard := s3.seq.turn, miss := 0, hbSent := none } } : State).setFld
        Fld.TWN_LAG_MAX 0
      s4.pairModes own seq

/-- PAIR (R542). -/
def execTwinPair (ident straps : Word32) (mode : BitVec 2) (own en disc : Bool) (seq : BitVec 3) (identity : List Byte)
    (s : State) : Result :=
  .next (if s.flag Fld.TWN_STATUS_PAIRED then s else s.pairIn ident straps mode.toNat own en disc seq.toNat identity)

/-- LN_LE_CFG of the mirror windows as the twin unit writes it: a Quire group of four with FEC (R535, R538). -/
def State.mirrorConfig (s : State) : State :=
  (List.range 4).foldl (fun s k =>
    let i := 96 + k
    let v := (Fld.LN_LE_CFG_FEC i).put ((Fld.LN_LE_CFG_GROUP i).put ((Fld.LN_LE_CFG_MODE i).put 0 2) 2) 1
    s.lnLeCfgStore i (if s.flag Fld.TWN_CFG_EN then v else 0)) s

/-! ## Heartbeats (R549 to R551, R555, R559) -/

/-- An HB's turn in the history, marked as met (R550). -/
def State.hbMet (s : State) (turn : Nat) : State :=
  { s with twin := { s.twin with hist := s.twin.hist.map (fun x => if x.turn = turn then { x with met := true } else x) } }

/-- The lag of an HB (R549). -/
def State.hbLag (s : State) (turn : Nat) : State :=
  let lag := s.seq.turn - turn
  let s1 := (s.setFld Fld.TWN_LAG_MAX (max (s.fld Fld.TWN_LAG_MAX) (min lag 63))).setFlag Fld.TWN_LAG_VALID true
  if s.hbWait < lag then s1.raiseBit Fld.TWN_STATUS_HB_LATE 493 else s1

/-- Divergence found at an HB of turn `turn` (R551).  A twin whose own HEALTH of that turn is no longer held counts it as the one
that leaves ownership where it is (DESIGN CHOICE, log entry 63).
(DESIGN CHOICE, log 63; DEDUCED, log 96.) -/
def State.diverge (s : State) (turn : Nat) (health : Bool) : State :=
  let own := s.flag Fld.TWN_STATUS_OWN
  let mine := match s.twin.hist.find? (fun x => x.turn == turn) with
    | some x => x.health
    | none => own
  let s1 := if s.flag Fld.TWN_STATUS_DIVERGE then s else s.setReg Reg.TWN_DIV_TURN (BitVec.ofNat 32 turn)
  let s2 := (s1.raiseBit Fld.TWN_STATUS_DIVERGE 487).countReg Reg.TWN_DIV_CNT
  let moves := if own then !mine && health else !health && mine
  let after := own != moves
  let s3 := s2.setMode (if after then 0 else 1)
  if moves then
    { s3 with twin := { s3.twin with ownPlan := some (after, s.seq.turn + (if after then 2 else 1)) } }
  else s3

/-- The largest LDR_SETTLE byte (R158, R555). -/
def State.maxSettle (s : State) : Nat :=
  (List.range 8).foldl (fun m k => (List.range 4).foldl (fun m j => max m (((s.reg (Reg.LDR_SETTLE k)).toNat >>> (8 * j)) % 256)) m) 0

/-- This twin's digest of a turn is held and is the one given. -/
def State.digestIs (s : State) (turn : Nat) (d : Word64) : Bool :=
  match s.twin.hist.find? (fun x => x.turn == turn) with
  | some x => x.digest == d
  | none => false

/-- A digest compared in VERIFY (R555 phase 5, R559): MATCH_N in a row bring both twins into LOCKSTEP.
(DEDUCED, log 95.) -/
def State.verifyHb (s : State) (turn : Nat) (d : Word64) : State :=
  match s.twin.joinAt with
  | some j =>
    if s.fld Fld.TWN_RS_STAT_PHASE = 5 ∧ j + s.maxSettle < turn then
      (if s.digestIs turn d then
        (if s.matchN ≤ s.twin.agreed + 1 then ((s.rsClear.setFlag Fld.TWN_STATUS_SENDING false).setMode 3)
         else { s with twin := { s.twin with agreed := s.twin.agreed + 1 } })
       else { s with twin := { s.twin with agreed := 0 } })
    else s
  | none => s

/-- HB (R549 to R551): the lag, the miss count, and the digest. -/
def execTwinHb (turn digest : Word64) (health own : Bool) (mode : BitVec 2) (dvalid : Bool) (s : State) : Result :=
  .next (if s.flag Fld.TWN_STATUS_PAIRED then
      (let t := turn.toNat
       let s0 := (s.setFlag Fld.TWN_PAIR_INFO_P_OWN own).setFld Fld.TWN_PAIR_INFO_P_MODE mode.toNat
       let s1 : State := { s0 with twin := { s0.twin with heard := s.seq.turn, miss := 0 } }
       let s2 := (s1.hbLag t).hbMet t
       if s2.twinMode = 3 then (if dvalid && !s2.digestIs t digest then s2.diverge t health else s2)
       else s2.verifyHb t digest)
    else s)

/-- HB_SEND (R541). -/
def execTwinHbSend (s : State) : Result := .next s.hbSend

/-- HB_LOSS (R550). -/
def execTwinHbLoss (s : State) : Result := .next s.hbLoss

/-! ## TWN_CMD (R545, R552, R554, R559, R562) -/

/-- An accepted command: OK (R562). -/
def State.twinAccept (s : State) : State := (s.setFld Fld.TWN_CMD_STAT_CODE 0).reply Code.ok

/-- RESYNC: the receiver asks to be brought level, and phase 1 begins (R554, R555). -/
def State.resyncCmd (s : State) : State :=
  if !s.flag Fld.TWN_STATUS_PAIRED then s.twinRefuseCmd Code.twnNopair
  else if s.twinMode ≠ 1 then s.twinRefuseCmd Code.twnState
  else
    let s1 := (((s.rsClear.setMode 2).setFld Fld.TWN_RS_STAT_PHASE 1).setFld Fld.TWN_RS_STAT_CAUSE 0).setReg Reg.TWN_RS_BYTES 0
    let s2 := if s1.seqState = 5 ∨ s1.seqState = 0 then s1 else s1.seqStop 1
    ((s2.twinCtrl 1 0).emit (.twinFrame 10 (s2.count % 2 ^ 32) [])).twinAccept

/-- HANDOVER of the owner in LOCKSTEP (R552). -/
def State.handoverCmd (s : State) : State :=
  if !s.flag Fld.TWN_STATUS_PAIRED then s.twinRefuseCmd Code.twnNopair
  else if s.twinMode ≠ 3 ∨ s.flag Fld.TWN_STATUS_OWN = false then s.twinRefuseCmd Code.twnState
  else
    let j := s.turnNear (s.reg Reg.TWN_CMD_TURN).toNat
    let s1 : State := { s with twin := { s.twin with handover := some j } }
    ((s1.setFlag Fld.TWN_CMD_STAT_PENDING true).twinCtrl 4 j).twinAccept

/-- ABORT of a resynchronisation, on either twin (R559). -/
def State.abortCmd (s : State) : State :=
  if s.twinMode ≠ 2 ∧ s.flag Fld.TWN_STATUS_SENDING = false then s.twinRefuseCmd Code.twnState
  else ((s.twinCtrl 6 5).rsFail 5).sendEnd.twinAccept

/-- CLAIM of an unpaired twin that does not own (R545). -/
def State.claimCmd (s : State) : State :=
  if s.flag Fld.TWN_STATUS_PAIRED ∨ s.twinMode ≠ 0 ∨ s.flag Fld.TWN_STATUS_OWN then s.twinRefuseCmd Code.twnState
  else ({ s with twin := { s.twin with ownPlan := some (true, s.seq.turn + 1) } } : State).twinAccept

/-- A write of TWN_CMD (R562). -/
def State.twinCommand (s : State) (mid : Mid) (code : Nat) : State :=
  if !isManager mid then s.twinRefuseCmd Code.denied
  else match code with
    | 0 => s.reply Code.ok
    | 1 => s.resyncCmd
    | 2 => s.handoverCmd
    | 3 => s.abortCmd
    | 4 => s.claimCmd
    | _ => s.twinRefuseCmd Code.twnState

/-- TWN_CMD written with a command.
(DEDUCED, log 95.) -/
def State.twinCmd (s : State) (mid : Mid) (code : Nat) : State :=
  s.gate mid Reg.TWN_CMD (some (BitVec.ofNat 32 code)) (fun s => s.twinCommand mid code)

/-- RESYNC (R554). -/
def execTwinResync (mid : Mid) (s : State) : Result := .next (s.twinCmd mid 1)

/-- HANDOVER (R552). -/
def execTwinHandover (mid : Mid) (s : State) : Result := .next (s.twinCmd mid 2)

/-- TWIN_ABORT (R559). -/
def execTwinAbort (mid : Mid) (s : State) : Result := .next (s.twinCmd mid 3)

/-- CLAIM (R545). -/
def execTwinClaim (mid : Mid) (s : State) : Result := .next (s.twinCmd mid 4)

/-! ## CTRL frames -/

/-- An effect of a frame that only a pair exchanges. -/
def State.paired (s : State) (f : State → State) : State := if s.flag Fld.TWN_STATUS_PAIRED then f s else s

/-- RS_REQ (R554): the sender accepts, or refuses. -/
def execTwinRsReq (s : State) : Result :=
  .next (s.paired (fun s =>
    if s.twinMode = 0 ∧ s.flag Fld.TWN_STATUS_OWN = true ∧ s.flag Fld.TWN_STATUS_SENDING = false ∧ s.seqState = 2 then
      ((s.rsClear.setFlag Fld.TWN_STATUS_SENDING true).setFld Fld.TWN_RS_STAT_PHASE 1).setReg Reg.TWN_RS_BYTES 0
    else s.twinCtrl 7 Code.twnState.toNat))

/-- TSTART (R555 phase 1): the receiver waits for the edge of turn J0, or has it behind it. -/
def execTwinTstart (j0 d2 : Word64) (s : State) : Result :=
  .next (s.paired (fun s =>
    if s.twinMode = 2 ∧ s.fld Fld.TWN_RS_STAT_PHASE = 1 then
      (let edge := s.count + d2.toNat - s.fld Fld.TWN_LAG_LAT
       if edge ≤ s.count then (s.twinCtrl 6 6).rsFail 6
       else { s with twin := { s.twin with align := some (j0.toNat, edge), j0 := j0.toNat } })
    else s))

/-- JOIN (R555 phase 4): suppression ends at the boundary before turn J. -/
def execTwinJoin (turn : Word64) (s : State) : Result :=
  .next (s.paired (fun s =>
    if s.twinMode = 2 then
      ({ s with twin := { s.twin with joinAt := some turn.toNat } } : State).setFld Fld.TWN_RS_STAT_PHASE 4
    else s))

/-- CTRL_HANDOVER (R552): the partner answers, and takes ownership at the boundary before turn J. -/
def execCtrlHandover (turn : Word64) (s : State) : Result :=
  .next (s.paired (fun s =>
    if s.seq.turn + 2 ≤ turn.toNat then
      ({ s with twin := { s.twin with ownPlan := some (true, turn.toNat) } } : State).twinCtrl 5 turn.toNat
    else s.twinCtrl 7 Code.twnState.toNat))

/-- HO_ACK (R552): the owner releases at the later of that boundary and the next one. -/
def execTwinHoAck (turn : Word64) (s : State) : Result :=
  .next (s.paired (fun s =>
    if s.twin.handover = some turn.toNat then
      { s with twin := { s.twin with ownPlan := some (false, max turn.toNat (s.seq.turn + 1)) } }
    else s))

/-- REFUSE (R552, R554, R560): what waits for the partner fails: a resynchronisation, a handover, or a load. -/
def execTwinRefuse (code : Status) (s : State) : Result :=
  .next (if s.twinMode = 2 ∧ s.fld Fld.TWN_RS_STAT_PHASE = 1 then s.rsFail 1
    else if s.twin.handover.isSome then
      ((({ s with twin := { s.twin with handover := none } } : State).setFlag Fld.TWN_CMD_STAT_PENDING false).setFld
        Fld.TWN_CMD_STAT_CODE Code.twnState.toNat).raiseBit Fld.TWN_STATUS_CMD_REFUSED 494
    else if s.ldr.src = 3 ∧ s.flag Fld.LDR_CMD_STAT_PENDING = true ∧ code = Code.twnState then s.loadFails Code.twnState
    else s)

/-- CTRL_ABORT (R559): the resynchronisation fails on this twin too, with the cause that the partner names. -/
def execCtrlAbort (cause : BitVec 3) (s : State) : Result :=
  .next (s.paired (fun s => (s.rsFail (if cause = 0 then 5 else cause.toNat)).sendEnd))

/-- A list of bytes in LOAD frames of at most 128 blocks from stream offset `off` × 8 on (R538, R540). -/
def loadFrames : Nat → Nat → List Byte → List Output
  | 0, _, _ => []
  | n + 1, off, b =>
    if b.isEmpty then []
    else .twinFrame 9 off (unitsOf (b.take 1024 ++ List.replicate ((8 - (b.take 1024).length % 8) % 8) 0)) ::
      loadFrames n (off + 128) (b.drop 1024)

/-- LOADREQ (R560): a flash leader with no loader command of its own pending streams the image, given its bytes.
(DEDUCED, log 97.) -/
def execTwinLoadreq (bytes : List Byte) (s : State) : Result :=
  .next (s.paired (fun s =>
    if s.fld Fld.LDR_XSPI_ROLE = 0 ∧ s.flag Fld.LDR_CMD_STAT_PENDING = false then
      { s with out := s.out ++ loadFrames (bytes.length / 1024 + 1) 0 bytes }
    else s.twinCtrl 7 Code.twnState.toNat))

/-! ## State transfer (R555 to R557) -/

/-- Frond-wide slot `k` of frond Ff of Vv set to a word, with its valid bits (R556).
(DEDUCED, log 96.) -/
def State.slotIn (s : State) (v f k : Nat) (w : Word64) : State :=
  let o := 0x0C000000 + s.physOf v * 0x100000 + (f * 256 + k) * 8
  (((s.setReg (o + 0x10000) (unitLo w)).setReg (o + 0x10004) (unitHi w)).setReg (o + 0x18000) 0xFFFFFFFF).setReg (o + 0x18004)
    0xFFFFFFFF

/-- The block of a virtual sorus in the SNAP stream: its marked slots and every block memory (R556). -/
def State.snapBlock (s : State) (v : Nat) (b : List Byte) : State :=
  let n := s.physOf v
  let s1 := (unitsOf (b.take 32768)).zipIdx.foldl (fun (s : State) (p : Word64 × Nat) =>
    if s.slotKept n (p.2 / 256) (p.2 % 256) then s.slotIn v (p.2 / 256) (p.2 % 256) p.1 else s) s
  (pieces 9 (b.drop 32768)).zipIdx.foldl (fun (s : State) (p : List Byte × Nat) =>
    let x := natOfBytes p.1
    let w := 2 * p.2
    (s.setBmPhys n (w / 1024) (w % 1024) (x % 2 ^ 36)).setBmPhys n ((w + 1) / 1024) ((w + 1) % 1024) (x / 2 ^ 36)) s1

/-- A context of the sender merged with the reductions made since b (R556).
(DEDUCED, log 96.) -/
def ctxMerge (mine theirs : BitVec 512) : BitVec 512 :=
  let smin := fun (a b : Nat) => if signedOf 24 b < signedOf 24 a then b else a
  let smax := fun (a b : Nat) => if signedOf 24 a < signedOf 24 b then b else a
  let g := fun (lo w : Nat) => (ctxGet mine lo w, ctxGet theirs lo w)
  let x1 := ctxPut theirs 44 5 (g 44 5).1
  let x2 := ctxPut x1 88 24 (smin (g 88 24).1 (g 88 24).2)
  let x3 := ctxPut x2 112 24 (smax (g 112 24).1 (g 112 24).2)
  let x4 := ctxPut x3 136 56 ((g 136 56).1 + (g 136 56).2)
  let x5 := ctxPut x4 192 64 (min ((g 192 64).1 + (g 192 64).2) (2 ^ 64 - 1))
  let x6 := ctxPut x5 256 32 (min ((g 256 32).1 + (g 256 32).2) (2 ^ 32 - 1))
  (List.range 16).foldl (fun x b =>
    ctxPut x (288 + 14 * b) 14 (min ((g (288 + 14 * b) 14).1 + (g (288 + 14 * b) 14).2) 16383)) x6

/-- The header of the SNAP stream: the differences that R558 adds. -/
def State.snapHead (s : State) (b : List Byte) : State :=
  { s with twin := { s.twin with
    seqOff := s.twin.seqOff + (numAt b 8 4 : Int),
    idxOff := (List.range 96).foldl (fun l i =>
      Sparse.put 0 l i (Sparse.get 0 l i + (numAt b (16 + 8 * i) 8 : Int))) s.twin.idxOff } }

/-- A part of the SNAP stream that is in, applied as its blocks complete (R556). -/
def State.snapIn (s : State) (offset : Nat) (bytes : List Byte) : State :=
  if offset * 1024 ≠ s.twin.snap.length ∨ bytes.length ≠ 1024 then s
  else
    let all := s.twin.snap ++ bytes
    let s1 : State := { s with twin := { s.twin with snap := all } }
    let n := all.length
    let s2 := if n = 1024 then s1.snapHead all
      else if n ≤ 1024 + 32 * 180224 then
        (if (n - 1024) % 180224 = 0 then s1.snapBlock ((n - 1024) / 180224 - 1) (all.drop (n - 180224)) else s1)
      else
        let c := (n - 1024 - 32 * 180224 - 1024) / 64
        (pieces 64 bytes).zipIdx.foldl (fun (s : State) (p : List Byte × Nat) =>
          s.setCtx (c + p.2) (ctxMerge (s.ctxOf (c + p.2)) (BitVec.ofNat 512 (natOfBytes p.1)))) s1
    let s3 := s2.addReg Reg.TWN_RS_BYTES 1
    if n = 22545408 then
      ({ s3 with twin := { s3.twin with snap := [] } } : State).setFld Fld.TWN_RS_STAT_PHASE 3
    else s3

/-- SNAP (R556): 1 KiB of the stream, in order. -/
def execTwinSnap (offset : Nat) (bytes : List Byte) (s : State) : Result :=
  .next (if s.twinMode = 2 ∧ s.fld Fld.TWN_RS_STAT_PHASE = 2 then s.snapIn offset bytes else s)

/-- An entry of the log applied (R553, R557). -/
def State.logIn (s : State) (e : Word64 × Word64) : State :=
  let x := e.1.toNat
  let drop := fun (k : Nat) => s.twinJoined && Sparse.get false s.twin.wrote k
  match x % 4 with
  | 0 =>
    let v := x / 4 % 32
    let f := x / 128 % 16
    let k := x / 2048 % 256
    if drop (wroteSlot v f k) then s else s.slotIn v f k e.2
  | 1 =>
    let v := x / 4 % 32
    let m := x / 128 % 32
    let w := x / 4096 % 1024
    if drop (wroteMem v m w) then s else s.setBmPhys (s.physOf v) m w (e.2.toNat % 2 ^ 36)
  | 2 => (s.hbmWrite 0x0A (x % 2 ^ 33 / 4 * 8) ((bytesOfNat 8 e.2.toNat).map (fun b => (b, true))) .clean).1
  | _ => s

/-- LOG (R557). -/
def execTwinLog (entries : List (Word64 × Word64)) (s : State) : Result :=
  .next (s.paired (fun s => entries.foldl State.logIn s))

/-- HBMCOPY (R555 phase 3): 128 words of a MIRROR region, written as MID 0x0A. -/
def execTwinHbmcopy (block : BitVec 24) (words : List Word64) (s : State) : Result :=
  .next (if s.twinMode = 2 then
      (s.hbmWrite 0x0A (block.toNat * 1024) ((words.take 128).flatMap (fun w => (bytesOfNat 8 w.toNat).map (fun b => (b, true))))
        .clean).1.addReg Reg.TWN_RS_BYTES 1
    else s)

/-- NOTICE (R541): an event of the partner, queued.
(DEDUCED, log 120.) -/
def execTwinNotice (event : Fin 512) (sev : BitVec 2) (s : State) : Result :=
  .next (let s1 := s.raiseBit Fld.TWN_STATUS_NOTICE 491
    if s1.twin.notices.length < 16 then
      { s1 with twin := { s1.twin with notices := s1.twin.notices ++ [(event.val, sev.toNat)] } }
    else s1.countReg Reg.TWN_NOTICE_CNT)

/-- LOAD (R560): image bytes of the partner. -/
def execTwinLoad (bytes : List Byte) (s : State) : Result :=
  .next (if s.ldr.src = 3 then
      { s with ldr := { s.ldr with stream := Sparse.put [] s.ldr.stream 3 (Sparse.get [] s.ldr.stream 3 ++ bytes) } }
    else s)

/-! ## Latency and start (R555 phase 1) -/

/-- PING (R555): its ECHO is due. -/
def execTwinPing (count : Word32) (s : State) : Result := .next { s with twin := { s.twin with ping := some (count, s.count) } }

/-- ECHO_SEND (R555): the ECHO, and with it the TSTART of a sender in phase 1: J0, and the counts to the boundary before it. -/
def execEchoSend (s : State) : Result :=
  .next (match s.twin.ping with
    | none => s
    | some (arg, _) =>
      let s1 := ({ s with twin := { s.twin with ping := none } } : State).emit (.twinFrame 11 arg.toNat [])
      if s1.flag Fld.TWN_STATUS_SENDING = true ∧ s1.fld Fld.TWN_RS_STAT_PHASE = 1 then
        let j0 := s1.seq.turn + 64
        let d2 := (64 * s1.turnLength - s1.seq.step) * s1.pwr.divider / 4
        ({ s1 with twin := { s1.twin with j0 := j0 } } : State).emit
          (.twinFrame 3 0 [2, BitVec.ofNat 64 j0, BitVec.ofNat 64 d2])
      else s1)

/-- ECHO (R555): the latency of the link. -/
def execTwinEcho (arg : Word32) (s : State) : Result :=
  .next ((s.setFld Fld.TWN_LAG_LAT (((BitVec.ofNat 32 s.count) - arg - 64).toNat / 2)).setFlag Fld.TWN_LAG_VALID true)

/-! ## Registers and timeouts -/

/-- A register access to the partner begins (R561).
(DEDUCED, log 97.) -/
def State.raccSend (s : State) : State :=
  let a := (s.reg Reg.TWN_RACC_ADDR).toNat
  let w := if s.flag Fld.TWN_RACC_CTRL_WRITE then some (s.reg Reg.TWN_RACC_DATA) else none
  let s1 := ({ s with twin := { s.twin with racc := true } } : State).setFlag Fld.TWN_RACC_CTRL_GO true
  s1.when (s1.flag Fld.TWN_STATUS_PAIRED) (fun s => s.emit (.twinReg (.request (BitVec.ofNat 28 a) w)))

/-- A write in the twin unit's range (R564). -/
def State.twnRegWrite (s : State) (mid : Mid) (a : Nat) (v : Word32) : State :=
  if a = Reg.TWN_CMD then s.twinCommand mid (v.toNat % 16)
  else if a = Reg.TWN_RACC_CTRL then
    (let s1 := s.setFld Fld.TWN_RACC_CTRL_WRITE (Fld.TWN_RACC_CTRL_WRITE.get v)
     (if bitOf v.toNat 31 && !s1.twin.racc then s1.raccSend else s1).reply Code.ok)
  else if a = Reg.TWN_CFG then (s.storeReg a v).mirrorConfig.reply Code.ok
  else s.storeReg a v

/-- A read in the twin unit's range: the unsent log, and the oldest notice, which it removes (R541, R564). -/
def State.twnRegRead (s : State) (a : Nat) : State :=
  if a = Reg.TWN_LOG_LEVEL then s.reply Code.ok (BitVec.ofNat 32 (16 * s.twin.log.length % 2 ^ 21))
  else if a = Reg.TWN_NOTICE then
    (match s.twin.notices with
     | [] => s.reply Code.ok
     | (e, v) :: r =>
       ({ s with twin := { s.twin with notices := r } } : State).reply Code.ok (BitVec.ofNat 32 (2 ^ 31 + v * 2 ^ 16 + e)))
  else s.loadReg a

/-- RACC_GO (R561): a write of TWN_RACC_CTRL with GO 1. -/
def execRaccGo (mid : Mid) (value : Word32) (s : State) : Result :=
  .next (let v := Fld.TWN_RACC_CTRL_GO.put value 1
    s.gate mid Reg.TWN_RACC_CTRL (some v) (fun s => s.twnRegWrite mid Reg.TWN_RACC_CTRL v))

/-- The access to the partner completes (R561). -/
def State.raccDone (s : State) (code : Status) : State :=
  (({ s with twin := { s.twin with racc := false } } : State).setFlag Fld.TWN_RACC_CTRL_GO false).setFld Fld.TWN_RACC_CTRL_CODE
    code.toNat

/-- RACC_TIMEOUT (R561). -/
def execRaccTimeout (s : State) : Result := .next (if s.twin.racc then s.raccDone Code.timeout else s)

/-- MATCH_TIMEOUT (R559): TWN_MATCH_WAIT turns of J have passed in VERIFY. -/
def execMatchTimeout (s : State) : Result :=
  .next (match s.twin.joinAt with
    | some j =>
      if s.fld Fld.TWN_RS_STAT_PHASE = 5 ∧ j + s.fld Fld.TWN_MATCH_WAIT_TURNS ≤ s.seq.turn then (s.rsFail 4).sendEnd else s
    | none => s)

/-- TWN_NOTICE_READ (R541). -/
def execTwnNoticeRead (mid : Mid) (s : State) : Result :=
  .next (s.gate mid Reg.TWN_NOTICE none (fun s => s.twnRegRead Reg.TWN_NOTICE))

end Sys2Proof.Machine
end

