-- ==== Sys2Proof/Machine/Clock.lean ====
section
/-! DEFINITION.  Resets, straps and the reference clock (R18 to R24, R29, R222, R350, R359, R373, R588, R589). -/

namespace Sys2Proof.Machine

/-! ## Reset -/

/-- Registers that fuses hold: the key slots, the thermometer and the certificate (R416, R419, R422).
(DESIGN CHOICE, log 68.) -/
def fuseReg (a : Nat) : Bool :=
  a == Reg.SEC_SLOTS || a == Reg.SEC_THERM || (decide (Reg.SEC_SLOT_DIG 0 0 ≤ a) && decide (a < Reg.SEC_SLOT_DIG 4 0)) ||
    (decide (Reg.SEC_CERT 0 ≤ a) && decide (a < Reg.SEC_CERT 1024))

/-- PORST_N low: every block in its reset state (R588); fuses, the levels at the pins and the test access port, which has its own
reset, stay.
(DESIGN CHOICE, log 69.) -/
def State.porstLow (s : State) : State :=
  { State.reset with
    pending := s.pending, out := s.out, freeIdx := s.freeIdx, regs := s.regs.filter (fun e => fuseReg e.1),
    sec := { SecSt.reset with therm := s.sec.therm },
    iob := { IobSt.reset with ball := s.iob.ball, tapIr := s.iob.tapIr, tapBlocked := s.iob.tapBlocked, cells := s.iob.cells } }

/-- PORST_N (R588). -/
def execPorstN (s : State) : Result := .next s.porstLow

/-- POWER_ON_RESET (R589): the internal reset acts as PORST_N low. -/
def execPowerOnReset (s : State) : Result := .next s.porstLow

/-- The straps as DEV_STRAPS reports them, the loader's part on the flash bus and the SMBus address (R373, R409, R465). -/
def State.sampleStraps (s : State) (bootsel devnum : Nat) (role : Bool) : State :=
  let s1 := ((s.setFld Fld.DEV_STRAPS_BOOTSEL bootsel).setFld Fld.DEV_STRAPS_DEVNUM devnum).setFlag Fld.DEV_STRAPS_TWIN_ROLE role
  (s1.setFld Fld.LDR_XSPI_ROLE (min (bootsel % 4) 2)).setFld Fld.LIB_SMB_CFG_ADDR (0x48 + devnum % 8)

/-- REFCLK0 is measured (R19, R20): a class's multiplier, or an unsupported reference.
(DEDUCED, log 118.) -/
def State.measureRef (s : State) (khz : Nat) : State :=
  let f := refClass khz
  let s1 := s.setFld Fld.CLK_RPLL_REF_KHZ (min khz 65535)
  if f = 0 then
    ({ s1 with clock := { s1.clock with fnom := 0, refOk := false, cfgErr := true, bootStop := true } } : State).raiseBit
      Fld.CLK_STATUS_REF_UNSUP 469
  else
    ({ s1 with clock := { s1.clock with fnom := f, refOk := true, rpllOn := true } } : State).setFld Fld.CLK_RPLL_MULT (classMult f)

/-- The grade is checked (R29). -/
def State.checkGrade (s : State) : State :=
  if s.fld Fld.DEV_IDENT_GRADE = 1 ∨ s.fld Fld.DEV_IDENT_GRADE = 2 then s
  else ({ s with clock := { s.clock with cfgErr := true, bootStop := true } } : State).raise 404

/-- PORST_N_RELEASE (R19, R20, R29, R373, R383): straps, grade and reference; the boot ROM runs.
(DESIGN CHOICE, log 70.) -/
def execPorstNRelease (bootsel : BitVec 3) (devnum : BitVec 6) (role : Bool) (refKhz : Nat) (s : State) : Result :=
  .next (if s.clock.porst then
      (let s1 : State := { s with clock := { s.clock with porst := false } }
       let s2 := ((s1.sampleStraps bootsel.toNat devnum.toNat role).measureRef refKhz).checkGrade.mirrorConfig
       if s2.clock.rpllOn then s2.setPhase 1 else s2)
    else s)

/-! ## The RPLL -/

/-- RPLL_LOCK (R222, R344, R350, R361, R423): after PORST_N the time counter starts and PNOM is set; MR0 is extended; `phase` is
where REFCLK0's edges fall in the time clock. -/
def execRpllLock (phase : BitVec 8) (s : State) : Result :=
  .next (if s.clock.rpllOn && !s.flag Fld.CLK_STATUS_LOCK && !s.flag Fld.CLK_STATUS_HOLDOVER then
      (let m := s.fld Fld.CLK_RPLL_MULT
       let s1 := if s.clock.everLocked then (s.setFlag Fld.CLK_STATUS_LOCK true).systemPlls else s.lockAt m
       let s2 : State := { s1 with
         clock := { s1.clock with everLocked := true }, time := { s1.time with refPhase := phase.toNat % (max 1 (m / 4)) } }
       if s2.ldr.phase = 1 then s2.extendMr 0 (digest64 s2.fuseShadow) else s2)
    else s)

/-- REFCLK0_LOSS (R22): the RPLL holds its last rate, and nothing stops. -/
def execRefclk0Loss (s : State) : Result :=
  .next (if s.flag Fld.CLK_STATUS_LOCK then
      ((({ s with clock := { s.clock with refOk := false } } : State).setFlag Fld.CLK_STATUS_LOCK false).setFlag
        Fld.CLK_STATUS_HOLDOVER true).raiseBit Fld.CLK_STATUS_REF_LOSS 468
    else s)

/-- A write of CLK_CTRL (R23, R24): a relock is refused while a locked schedule runs; else it shifts the root's phase by an amount
that is a free value.
(DEDUCED, log 90.) -/
def State.clkCtrlWrite (s : State) (v : Word32) : State :=
  if !bitOf v.toNat 0 then s.storeReg Reg.CLK_CTRL v
  else if s.lockedSchedule && s.seqState == 2 then
    (s.raiseBit Fld.CLK_STATUS_RELOCK_DENIED 470).reply Code.denied
  else
    let s1 := s.storeReg Reg.CLK_CTRL (v &&& 0xFFFFFFFE)
    if s1.flag Fld.CLK_STATUS_HOLDOVER || s1.flag Fld.CLK_STATUS_LOCK then
      let f := s1.takeFree
      let s2 : State := { f.2 with
        clock := { f.2.clock with refOk := true },
        time := { f.2.time with refPhase := f.1.toNat % (max 1 (s1.fld Fld.CLK_RPLL_MULT / 4)) } }
      ((s2.setFlag Fld.CLK_STATUS_HOLDOVER false).setFlag Fld.CLK_STATUS_LOCK true).reply Code.ok
    else s1.reply Code.ok

/-- A write in the clock unit's range (R24). -/
def State.clkRegWrite (s : State) (a : Nat) (v : Word32) : State :=
  if a = Reg.CLK_CTRL then s.clkCtrlWrite v
  else if a = Reg.CLK_STATUS then s.clearBits a v
  else s.storeReg a v

/-- RELOCK (R23): a write of CLK_CTRL with RELOCK 1.
(DEDUCED, log 90.) -/
def execRelock (_mid : Mid) (s : State) : Result := .next (s.clkCtrlWrite (s.reg Reg.CLK_CTRL ||| 1))

/-! ## Timing ports (R359) -/

/-- The link-engine mode of a timing port's standard (R359). -/
def portMode (std : Nat) : Nat := if std = 1 then 8 else if std = 2 then 5 else 0

/-- TU_TP_CFGp written: the port's standard, its link engine's mode and its PLL (R222, R359). -/
def State.portConfig (s : State) (p : Nat) (v : Word32) : State :=
  let old := s.fld (Fld.TU_TP_CFG_STD p)
  let s1 := s.storeReg (Reg.TU_TP_CFG p) v
  let i := 100 + p
  if s1.fld (Fld.TU_TP_CFG_STD p) = old then s1
  else
    let s2 := ((s1.linkDown i).setFld (Fld.LN_LE_CFG_MODE i) (portMode (s1.fld (Fld.TU_TP_CFG_STD p)))).checkEngine i
    let s3 := (s2.systemPlls).setFlag (Fld.LN_PLL_STAT_LOCK (25 + p)) false
    ((s3.restartLane i).checkPll (25 + p)).wakeHolds 0x13

/-- TIMING_PORT_CONFIG as a register write: of a port that the image owns it is an assigning write (R173, R359). -/
def State.tpWrite (s : State) (mid : Mid) (p : Nat) (v : Word32) : State :=
  s.tuWrite mid (fun s =>
    if mid ≠ 0x10 ∧ s.imageOwner 0x0C p ≠ 0 then s.assign mid 0x0C p (fun s => (s.portConfig p v).reply Code.ok)
    else (s.portConfig p v).reply Code.ok)

/-- TIMING_PORT_CONFIG (R359). -/
def execTimingPortConfig (mid : Mid) (port : Fin 2) (value : Word32) (s : State) : Result := .next (s.tpWrite mid port value)

/-! ## Comparator fires -/

/-- An armed comparator is at or past its target (R363). -/
def State.tcDue (s : State) (n : Nat) : Bool :=
  match Sparse.find s.time.live n with
  | some c => s.flag (Fld.TU_TC_CTRL_ARMED n) && decide (c.target ≤ s.compareValue c)
  | none => false

/-- A comparator that is due fires, and its consumers see it (R119, R294, R300, R363, R366). -/
def State.fire (s : State) (n : Nat) : State :=
  if s.tcDue n then
    let s1 := (s.fireTc n).acqComparator n
    if s1.seqState = 1 ∧ s1.startSrc = 2 ∧ s1.fld Fld.SEQ_CFG_TC_SEL = n then s1.seqMeet else s1
  else s

/-- COMPARATOR_FIRE (R363, R366). -/
def execComparatorFire (tc : Fin 16) (s : State) : Result := .next (s.fire tc)

end Sys2Proof.Machine
end

