-- ==== Sys2Proof/Machine/Thermal.lean ====
section
/-! DEFINITION.  Sensors and their alarms (R463, R464, R595), temperature (R141, R531, R532), and the end of a level change and of a
throttle stall (R126, R529 to R531). -/

namespace Sys2Proof.Machine

/-! ## Temperature -/

/-- The hottest temperature read so far among the sensors with a sample, and its sensor (R531). -/
def State.hottestSensor (s : State) : Option (Nat × Int) :=
  (List.range 48).foldl (fun b i =>
    if s.flag (Fld.LIB_TS_VALID i) then
      let v := signedOf 16 (s.fld (Fld.LIB_TS_VALUE i))
      match b with
      | none => some (i, v)
      | some x => if x.2 < v then some (i, v) else b
    else b) (none : Option (Nat × Int))

/-- A condition with a threshold that ends 2 °C below it, in quarter degrees (R464, R531). -/
def overTemp (was : Bool) (v th : Int) : Bool := decide (th ≤ v) || (was && decide (th - 8 < v))

/-- The thermal trip (R532): nothing is drained, what is held is lost, and the device is OFF.
(DEDUCED, log 91.) -/
def State.thermalTrip (s : State) : State :=
  let s1 := (s.raiseBit Fld.PWR_STATUS_TTRIP 479).seqUnload
  let s2 : State := { s1 with pwr := { s1.pwr with held := [], rewake := [], shutAfter := [], target := 0, source := 0 } }
  ((List.range 88).foldl (fun s d => s.setFlag (Fld.PWR_DSTAT_HELD d) false) s2).entered 4

/-- The hottest reading in PWR_TMAX, and what it does (R531). -/
def State.thermalUpdate (s : State) : State :=
  match s.hottestSensor with
  | none => s
  | some (i, v) =>
    let s1 := (s.setFld Fld.PWR_TMAX_SENSOR i).setFld Fld.PWR_TMAX_VALUE (natOfInt 16 v)
    let hot := s1.flag Fld.PWR_THROT_EN && !s1.lockedSchedule &&
      overTemp (s1.flag Fld.PWR_STATUS_THROTTLING) v (4 * (min 95 (s1.fld Fld.PWR_THROT_TEMP) : Nat))
    let s2 := s1.setFlag Fld.PWR_STATUS_THROTTLING hot
    let s3 : State := { s2 with pwr := { s2.pwr with
      talarm := overTemp s2.pwr.talarm v 380, tshut := overTemp s2.pwr.tshut v 420 } }
    let s4 := s3.persist
    let s5 := if 420 ≤ v then s4.thermalStop else s4
    if 460 ≤ v ∧ s5.devState ≠ 4 then s5.thermalTrip else s5

/-! ## Sensors -/

/-- The value register of a sensor, and its number among the alarm bits (R464, R482). -/
def sensorPlace : Sensor → Nat × Nat
  | .ts i => (Reg.LIB_TS i, i)
  | .vm j => (Reg.LIB_VM j, 48 + j)
  | .cm k => (Reg.LIB_CM k, 72 + k)

/-- The alarm condition of a sensor at a value (R464). -/
def State.sensorAlarm (s : State) (x : Sensor) (was : Bool) (v : Nat) : Bool :=
  match x with
  | .ts i => overTemp was (signedOf 16 v) (signedOf 16 (s.fld (Fld.LIB_TS_HI_VALUE i)))
  | .vm j =>
    let lo := s.fld (Fld.LIB_VM_WIN_LO j)
    let hi := s.fld (Fld.LIB_VM_WIN_HI j)
    decide (v < lo) || decide (hi < v) || (was && (decide (v < lo + 5) || decide (hi < v + 5)))
  | .cm k =>
    let hi := s.fld (Fld.LIB_CM_HI_VALUE k)
    decide (hi ≤ v) || (was && decide (hi < v + 10))

/-- A sensor's bank monitor (R595): VM13 + b is VCCIOb. -/
def State.vccioSample (s : State) (x : Sensor) (v : Nat) : State :=
  match x with
  | .vm j => if 13 ≤ j.val ∧ j.val < 21 then s.bankSample (j.val - 13) v else s
  | _ => s

/-- SENSOR_SAMPLE (R463, R464, R531, R595).  In OFF only TS46, which lies in PDAON, is sampled (R511).
(DEDUCED, log 91.) -/
def execSensorSample (sensor : Sensor) (value : BitVec 16) (s : State) : Result :=
  .next (if s.devState = 4 ∧ sensor ≠ .ts 46 then s
    else
      let p := sensorPlace sensor
      let s1 := s.setReg p.1 (BitVec.ofNat 32 (2 ^ 31 + value.toNat))
      let on := s1.sensorAlarm sensor (s1.alarming p.2) value.toNat
      let s2 : State := { s1 with lib := { s1.lib with alarm := Sparse.put false s1.lib.alarm p.2 on } }
      (s2.persist.vccioSample sensor value.toNat).thermalUpdate)

/-! ## Level changes and throttling -/

/-- A stalled boundary is looked at again. -/
def State.stallAgain (s : State) : State := if s.seqState = 3 then s.stallTry else s

/-- VOLTAGE_IN_FORCE (R529). -/
def execVoltageInForce (s : State) : Result :=
  .next (if s.pwr.oldLevel.isSome then (s.levelEnd s.pwr.vsel).stallAgain else s)

/-- VOLTAGE_TIMEOUT (R530): a slower level stands, a faster one is given up. -/
def execVoltageTimeout (s : State) : Result :=
  .next (match s.pwr.oldLevel with
    | some old =>
      let s1 := s.raiseBit Fld.PWR_STATUS_VTMO 481
      ((if old < s1.pwr.vsel then s1.levelEnd s1.pwr.vsel else s1.levelEnd old)).stallAgain
    | none => s)

/-- THROTTLE_END (R126, R531). -/
def execThrottleEnd (s : State) : Result :=
  .next (if s.seq.throttle then ({ s with seq := { s.seq with throttle := false } } : State).stallAgain else s)

end Sys2Proof.Machine
end

