-- ==== Sys2Proof/Machine/Librarian.lean ====
section
/-! DEFINITION.  The Librarian (R452 to R471, R480 to R482) and the event controller's registers (R498 to R504): cores, watchdogs,
SMBus target, flash command engine and trouble log. -/

namespace Sys2Proof.Machine

/-! ## Cores -/

/-- The restart address of a core (R452). -/
def State.coreEntry (s : State) (k : Nat) : Nat := (s.reg (if k = 0 then Reg.LIB_C0_ENTRY else Reg.LIB_C1_ENTRY)).toNat

/-- A core starts at an address: the ends bound to it are reset (R452, R495). -/
def State.coreAt (s : State) (k addr : Nat) : State :=
  ({ s with lib := { s.lib with
    entry := Sparse.put 0 s.lib.entry k addr, halted := Sparse.put false s.lib.halted k false } } : State).resetEndsOf k

/-- The cause of a core's start (R482). -/
def State.startCause (s : State) (k cause : Nat) : State :=
  s.setFld (if k = 0 then Fld.LIB_RST_CAUSE_C0 else Fld.LIB_RST_CAUSE_C1) cause

/-- A core is reset and restarts at its entry; core 1 held in reset stays there (R452). -/
def State.coreRestart (s : State) (k cause : Nat) : State :=
  if k = 1 ∧ s.lib.c1Held = true then s else (s.startCause k cause).coreAt k (s.coreEntry k)

/-- C1_RUN: core 1 starts, or is reset and held (R452).
(DEDUCED, log 94.) -/
def State.coreOneRun (s : State) (was now : Bool) : State :=
  if now && !was then
    ({ s with lib := { s.lib with c1Held := false } } : State).coreAt 1 (s.coreEntry 1)
  else if was && !now then ({ s with lib := { s.lib with c1Held := true } } : State).startCause 1 4
  else s

/-- FW_RELOAD: core 0 enters the ROM again, core 1 is held, the dispatcher is cleared (R461, R495).
(DEDUCED, log 94.) -/
def State.fwReload (s : State) : State :=
  if s.fld Fld.LDR_XSPI_ROLE ≠ 0 then s.libRefuse
  else
    let s1 := ((s.setFlag Fld.LIB_CTRL_C1_RUN false).startCause 0 3).startCause 1 3
    let s2 : State := { s1 with lib := { s1.lib with c1Held := true, romWait := false, fwSecond := false, fwBuf := [] } }
    ((s2.dspClear.coreAt 0 0).resetEndsOf 1).reply Code.ok

/-- A write of LIB_CTRL (R11, R452, R461). -/
def State.libCtrlWrite (s : State) (mid : Mid) (v : Word32) : State :=
  if !isManager mid then s.libRefuse
  else
    let was := s.flag Fld.LIB_CTRL_C1_RUN
    let s1 := (s.storeReg Reg.LIB_CTRL (v &&& ~~~ (0x26 : Word32))).coreOneRun was (bitOf v.toNat 0)
    let s2 := if bitOf v.toNat 1 then s1.coreRestart 0 1 else s1
    let s3 := if bitOf v.toNat 2 then s2.coreRestart 1 1 else s2
    let s4 := s3.wakeHolds mid.toNat
    if bitOf v.toNat 5 then s4.fwReload else s4

/-- LIB_CTRL written with some bits set or cleared, the other write-only bits at 0, through the fence of its domain. -/
def State.libCtrlBits (s : State) (mid : Mid) (set clear : Word32) : State :=
  let v := (s.reg Reg.LIB_CTRL &&& ~~~ (clear ||| 0x26)) ||| set
  s.gate mid Reg.LIB_CTRL (some v) (fun s => s.libCtrlWrite mid v)

/-- C1_RUN (R452). -/
def execC1Run (mid : Mid) (run : Bool) (s : State) : Result :=
  .next (if run then s.libCtrlBits mid 1 0 else s.libCtrlBits mid 0 1)

/-- CORE_RESET (R452): RST0 or RST1. -/
def execCoreReset (mid : Mid) (core : Fin 2) (s : State) : Result :=
  .next (s.libCtrlBits mid (if core = 0 then 2 else 4) 0)

/-- FW_RELOAD (R461). -/
def execFwReload (mid : Mid) (s : State) : Result := .next (s.libCtrlBits mid 0x20 0)

/-- BUS_ERROR (R456): the record, and the access fault that the core takes. -/
def execBusError (core : Fin 2) (isStore : Bool) (addr : Word32) (code : Status) (s : State) : Result :=
  .next (if code = Code.ok then s
    else
      let s1 := (((s.setReg (Reg.LIB_BERR_ADDR core) addr).setFld (Fld.LIB_BERR_CODE core) code.toNat).setFlag
        (Fld.LIB_BERR_WRITE core) isStore).setFlag (Fld.LIB_BERR_VALID core) true
      let quiet := if core = 0 then s1.flag Fld.LIB_CTRL_QUIET0 else s1.flag Fld.LIB_CTRL_QUIET1
      if isStore && quiet then s1
      else s1.emit (.coreException core (if isStore then 7 else 5) addr.toNat))

/-- An SRAM word (R453). -/
def State.sramWord (s : State) (w : Nat) : Word32 := Sparse.get 0 s.lib.sram w

/-- An SRAM word set. -/
def State.setSram (s : State) (w : Nat) (v : Word32) : State :=
  { s with lib := { s.lib with sram := Sparse.put 0 s.lib.sram w v } }

/-- The bits of the bytes that a mask names. -/
def byteBits (m : BitVec 4) : Word32 :=
  BitVec.ofNat 32 ((List.range 4).foldl (fun a i => if m.getLsbD i then a + 255 * 256 ^ i else a) 0)

/-- SRAM_ERROR (R457): a single-bit error is corrected, written back and counted; an uncorrectable one faults the core. -/
def execSramError (core : Fin 2) (access : SramAccess) (word : Fin 131072) (unc : Bool) (s : State) : Result :=
  .next (if unc then
      (let cause := match access with
        | .fetch => 1
        | .load => 5
        | .partStore _ _ => 7
       (s.raiseBit Fld.LIB_STATUS_SRAM_UNC 472).emit (.coreException core cause (0x10000000 + 4 * word)))
    else
      let s1 := s.countReg Reg.LIB_ECC_CNT
      match access with
      | .partStore m v => s1.setSram word ((s1.sramWord word &&& ~~~ byteBits m) ||| (v &&& byteBits m))
      | _ => s1)

/-- MTIP of a core (R454). -/
def State.mtip (s : State) (k : Nat) : Bool :=
  decide ((Sparse.get (BitVec.allOnes 64) s.lib.mtimecmp k).toNat ≤ s.count)

/-- TIMER_INTERRUPT (R454): MTIP rises.
(PRESUMED, log 86.) -/
def execTimerInterrupt (core : Fin 2) (s : State) : Result :=
  .next (if s.mtip core then s.emit (.coreInterrupt core 7) else s)

/-- A read of MTIME_LO by a core: MTIME_HI is latched for it (R454). -/
def State.mtimeRead (s : State) (k : Nat) : State :=
  ({ s with lib := { s.lib with mtimeHi := Sparse.put 0 s.lib.mtimeHi k (BitVec.ofNat 32 (s.count / 2 ^ 32)) } } : State).reply
    Code.ok (BitVec.ofNat 32 s.count)

/-- MTIME_LO_READ (R454). -/
def execMtimeLoRead (core : Fin 2) (s : State) : Result := .next (s.mtimeRead core)

/-! ## Watchdogs (R462) -/

/-- The watchdog's count starts again. -/
def State.wdtRestart (s : State) (k : Nat) : State :=
  { s with lib := { s.lib with wdtStart := Sparse.put 0 s.lib.wdtStart k s.count } }

/-- A halt in debug mode keeps what the watchdog has counted, and the count goes on from it at the resume (R455). -/
def State.wdtHalt (s : State) (k : Nat) : State :=
  { s with lib := { s.lib with wdtUsed := Sparse.put 0 s.lib.wdtUsed k (s.count - Sparse.get 0 s.lib.wdtStart k) } }
def State.wdtResume (s : State) (k : Nat) : State :=
  { s with lib := { s.lib with
    wdtStart := Sparse.put 0 s.lib.wdtStart k (s.count - Sparse.get 0 s.lib.wdtUsed k), wdtUsed := Sparse.put 0 s.lib.wdtUsed k 0 } }

/-- A write of LIB_WDTk: a new value of US restarts the count. -/
def State.wdtWrite (s : State) (mid : Mid) (k : Nat) (v : Word32) : State :=
  if !isManager mid then s.libRefuse
  else
    let old := s.fld (Fld.LIB_WDT_US k)
    let s1 := s.storeReg (Reg.LIB_WDT k) v
    if s1.fld (Fld.LIB_WDT_US k) ≠ old then s1.wdtRestart k else s1

/-- US microseconds have passed on a watchdog. -/
def State.wdtDue (s : State) (k : Nat) : Bool :=
  decide (s.countsOfUs (s.fld (Fld.LIB_WDT_US k)) ≤ s.count - Sparse.get 0 s.lib.wdtStart k)

/-- WATCHDOG_EXPIRY (R462): not before its time, and not while US is 0 or the core is halted in debug mode (R455). -/
def execWatchdogExpiry (core : Fin 2) (s : State) : Result :=
  .next (if s.fld (Fld.LIB_WDT_US core) = 0 ∨ Sparse.get false s.lib.halted core = true ∨ s.wdtDue core = false then s
    else
      let s1 := s.raiseBit (if core = 0 then Fld.LIB_STATUS_WDT0 else Fld.LIB_STATUS_WDT1) 473
      (if s1.flag (Fld.LIB_WDT_ACT core) then s1.coreRestart core 2 else s1).wdtRestart core)

/-- WDT_KICK (R462). -/
def execWdtKick (mid : Mid) (core : Fin 2) (s : State) : Result :=
  .next (s.gate mid (Reg.LIB_WDT_KICK core) (some 0) (fun s => (s.wdtRestart core).reply Code.ok))

/-! ## SMBus target (R465, R466) -/

/-- CRC-8 of SMBus packet error checking, bit by bit from the highest (R465; PRESUMED from SMBus 3.1, log entry 64).
(PRESUMED, log 64.) -/
def crc8Byte (c b : Nat) : Nat :=
  (List.range 8).foldl (fun c _ => if 128 ≤ c then (c * 2) % 256 ^^^ 7 else c * 2) (c ^^^ b)

/-- An answer to a read command, with its PEC where it is on.
(PRESUMED, log 64.) -/
def State.smbAnswer (s : State) (cmd : Nat) (data : List Byte) : State :=
  let a := s.fld Fld.LIB_SMB_CFG_ADDR
  let pec := ([a * 2, cmd, a * 2 + 1] ++ data.map (fun b => b.toNat)).foldl crc8Byte 0
  s.emit (.smbus (if s.flag Fld.LIB_SMB_CFG_PEC then data ++ [BitVec.ofNat 8 pec] else data))

/-- A command not acknowledged, or a discarded write, counted (R466). -/
def State.smbCount (s : State) : State :=
  if s.fld Fld.LIB_SMB_STAT_NACKS = 0xFFFF then s else s.setFld Fld.LIB_SMB_STAT_NACKS (s.fld Fld.LIB_SMB_STAT_NACKS + 1)

/-- A command not acknowledged. -/
def State.smbNack (s : State) : State := s.smbCount.emit .smbusNack

/-- The target answers in RUN, IDLE and SLEEP; in DEEP and OFF it does not acknowledge its address (R465).
(DEDUCED, log 93.) -/
def State.smbus (s : State) (f : State → State) : State := if s.devState = 3 ∨ s.devState = 4 then s.emit .smbusNack else f s

/-- The value of a sensor by Read Word command (R466). -/
def State.smbSensor (s : State) (cmd : Nat) : Option Nat :=
  if cmd < 0x30 then some (s.fld (Fld.LIB_TS_VALUE cmd))
  else if cmd < 0x48 then some (s.fld (Fld.LIB_VM_VALUE (cmd - 0x30)))
  else if cmd < 0x50 then some (s.fld (Fld.LIB_CM_VALUE (cmd - 0x48)))
  else none

/-- SENSOR_READ_WORD (R466). -/
def execSensorReadWord (cmd : Byte) (s : State) : Result :=
  .next (s.smbus (fun s => match s.smbSensor cmd.toNat with
    | some v => s.smbAnswer cmd.toNat (bytesOfNat 2 v)
    | none => s.smbNack))

/-- CFG_ERR_N is driven low (R20, R384, R522). -/
def State.cfgErrLow (s : State) : Bool := s.clock.cfgErr && !s.clock.porst && s.devState != 4

/-- DONE is released (R384, R522). -/
def State.doneReleased (s : State) : Bool := s.ldr.doneOut && s.ldr.phase != 11 && !s.clock.porst && s.devState != 4

/-- The status word of SMBus command 0x50 (R466). -/
def State.smbStatus (s : State) : Nat :=
  let any := fun (lo n : Nat) => (List.range n).any (fun i => s.flag (alarmField (lo + i)))
  (if any 0 48 then 1 else 0) + (if any 48 24 then 2 else 0) + (if any 72 8 then 4 else 0) + (if s.cfgErrLow then 8 else 0) +
    (if s.doneReleased then 16 else 0) + s.ldr.phase * 256

/-- STATUS_READ_WORD (R466). -/
def execStatusReadWord (s : State) : Result := .next (s.smbus (fun s => s.smbAnswer 0x50 (bytesOfNat 2 s.smbStatus)))

/-- IDENTITY_BLOCK_READ (R466). -/
def execIdentityBlockRead (s : State) : Result :=
  .next (s.smbus (fun s => s.smbAnswer 0x51 (bytesOfNat 1 16 ++ bytesOf32 (s.reg Reg.DEV_IDENT) ++ bytesOf32 (s.reg Reg.DEV_UID_LO) ++
    bytesOf32 (s.reg Reg.DEV_UID_HI) ++ bytesOf32 (s.reg Reg.DEV_STRAPS))))

/-- SMB_OUT_BLOCK_READ (R466). -/
def execSmbOutBlockRead (s : State) : Result :=
  .next (s.smbus (fun s => s.smbAnswer 0x60 (bytesOfNat 1 32 ++ s.regBytes (Reg.LIB_SMB_OUT 0) 8)))

/-- SMB_IN_BLOCK_WRITE (R466): not acknowledged while SMB_IN is 1 or the length is none of 1 to 32; discarded on a PEC error. -/
def execSmbInBlockWrite (bytes : List Byte) (pecOk : Bool) (s : State) : Result :=
  .next (s.smbus (fun s =>
    if s.flag Fld.LIB_STATUS_SMB_IN || bytes.isEmpty || decide (32 < bytes.length) then s.smbNack
    else if !pecOk then s.smbCount
    else (s.setRegBytes (Reg.LIB_SMB_IN 0) (bytes ++ List.replicate (32 - bytes.length) 0)).raiseBit Fld.LIB_STATUS_SMB_IN 474))

/-- SMB_ALERT_N is driven low (R465).
(DEDUCED, log 93.) -/
def State.smbAlert (s : State) : Bool :=
  s.flag Fld.LIB_SMB_CFG_ALERT_EN && (List.range 80).any (fun i => s.flag (alarmField i))

/-- ALERT_RESPONSE (R465): answered with the target's address while the alert is driven. -/
def execAlertResponse (s : State) : Result :=
  .next (s.smbus (fun s =>
    if s.smbAlert then s.emit (.smbus [BitVec.ofNat 8 (s.fld Fld.LIB_SMB_CFG_ADDR * 2)]) else s.emit .smbusNack))

/-- CLOCK_LOW_TIMEOUT (R465): the bus is released. -/
def execClockLowTimeout (s : State) : Result := .next (s.emit .smbusRelease)

/-! ## Flash command engine (R467) -/

/-- The loader reads flash: a stream from flash, the ROM of a flash leader, or VERIFY (R383, R426, R458). -/
def State.loaderReads (s : State) : Bool :=
  let verify := match s.sec.cmd with
    | some (1, _, _) => true
    | _ => false
  let stream := s.ldr.src == 0 && s.fld Fld.LDR_XSPI_ROLE == 0 &&
    (match s.ldr.change with
     | some c => c.kind != 3 && decide (c.stage ≤ 7)
     | none => decide (2 ≤ s.ldr.phase) && decide (s.ldr.phase ≤ 7))
  let rom := Sparse.get 0 s.lib.entry 0 == 0 && !s.lib.romWait && s.fld Fld.LDR_XSPI_ROLE == 0
  verify || stream || rom

/-- The physical range of a flash command meets a protected block (R467). -/
def State.flashGuarded (s : State) (ctrl : Word32) : Bool :=
  let kind := Fld.LIB_FL_CTRL_KIND.get ctrl
  let addr := (s.reg Reg.LIB_FL_ADDR).toNat
  let size := if Fld.LIB_FL_CTRL_ERSZ.get ctrl = 1 then 65536 else 4096
  let r := if kind = 2 then (addr / size * size, size) else (addr, Fld.LIB_FL_CTRL_LEN.get ctrl)
  decide (kind = 1 ∨ kind = 2) &&
    s.lib.flashGuard.any (fun g => g.1 == Fld.LIB_FL_CTRL_PORT.get ctrl && decide (r.1 < g.2.1 + g.2.2) && decide (g.2.1 < r.1 + r.2))

/-- A flash command as it is sent. -/
def State.flashSend (s : State) (c : FlashCmd) : State :=
  let n := Fld.LIB_FL_CTRL_LEN.get c.ctrl
  let data := if Fld.LIB_FL_CTRL_KIND.get c.ctrl = 1 then (s.regBytes (Reg.LIB_FL_BUF 0) 64).take n else []
  s.emit (.flash (Fld.LIB_FL_CTRL_PORT.get c.ctrl) (Fld.LIB_FL_CTRL_OPCODE.get c.ctrl)
    (if Fld.LIB_FL_CTRL_ADDR_EN.get c.ctrl = 1 then some c.addr else none) (Fld.LIB_FL_CTRL_DUMMY.get c.ctrl) data)

/-- A write of LIB_FL_CTRL (R467): GO sends the command, makes it wait for the loader, or is refused.
(DEDUCED, log 92.) -/
def State.flashCtrl (s : State) (mid : Mid) (v : Word32) : State :=
  if !bitOf v.toNat 31 then s.storeReg Reg.LIB_FL_CTRL v
  else if (mid != 0x00 && mid != 0x01) || s.fld Fld.LDR_XSPI_ROLE != 0 || decide (256 < Fld.LIB_FL_CTRL_LEN.get v) || s.flashGuarded v then
    (s.setFld Fld.LIB_FL_STAT_CODE Code.denied.toNat).libRefuse
  else
    let c : FlashCmd := { ctrl := v &&& 0x7FFFFFFF, addr := (s.reg Reg.LIB_FL_ADDR).toNat }
    let s1 := s.storeReg Reg.LIB_FL_CTRL c.ctrl
    let s2 : State := { s1 with lib := { s1.lib with flash := some c } }
    (if s2.loaderReads then s2.setFlag Fld.LIB_FL_STAT_WAITING true else s2.flashSend c).reply Code.ok

/-- A GO with a KIND, through the fence of its domain. -/
def State.flashGo (s : State) (mid : Mid) (ctrl : Word32) (kind : Nat) : State :=
  let v := Fld.LIB_FL_CTRL_KIND.put (Fld.LIB_FL_CTRL_GO.put ctrl 1) kind
  s.gate mid Reg.LIB_FL_CTRL (some v) (fun s => s.flashCtrl mid v)

/-- FLASH_READ (R467). -/
def execFlashRead (mid : Mid) (ctrl : Word32) (s : State) : Result := .next (s.flashGo mid ctrl 0)

/-- FLASH_PROGRAM (R467). -/
def execFlashProgram (mid : Mid) (ctrl : Word32) (s : State) : Result := .next (s.flashGo mid ctrl 1)

/-- FLASH_ERASE (R467). -/
def execFlashErase (mid : Mid) (ctrl : Word32) (s : State) : Result := .next (s.flashGo mid ctrl 2)

/-- FLASH_OTHER (R467). -/
def execFlashOther (mid : Mid) (ctrl : Word32) (s : State) : Result := .next (s.flashGo mid ctrl 3)

/-- FLASH_COMMAND_DONE (R467): the command completes, with the bytes that a READ or OTHER command brings into LIB_FL_BUF.
(DEDUCED, log 92.) -/
def execFlashCommandDone (bytes : List Byte) (s : State) : Result :=
  .next (match s.lib.flash with
    | none => s
    | some c =>
      let s1 := if s.flag Fld.LIB_FL_STAT_WAITING then (s.setFlag Fld.LIB_FL_STAT_WAITING false).flashSend c else s
      let kind := Fld.LIB_FL_CTRL_KIND.get c.ctrl
      let n := Fld.LIB_FL_CTRL_LEN.get c.ctrl
      let s2 := if kind = 0 ∨ kind = 3 then
          s1.setRegBytes (Reg.LIB_FL_BUF 0) ((bytes.take n) ++ (s1.regBytes (Reg.LIB_FL_BUF 0) 64).drop (min n bytes.length))
        else s1
      ({ s2 with lib := { s2.lib with flash := none } } : State).setFld Fld.LIB_FL_STAT_CODE Code.ok.toNat)

/-! ## Trouble log (R468 to R471) -/

/-- LIB_LOG_COMMIT written: a KIND 2 record with the staged payload (R469). -/
def State.logCommit (s : State) (mid : Mid) (v : Word32) : State :=
  (s.logAppend State.raiseDrop 2 (Fld.LIB_LOG_COMMIT_SEV.get v) (Fld.LIB_LOG_COMMIT_CODE.get v) mid.toNat
    ((s.getRegs (Reg.LIB_LOG_WR 0) 8).map (fun w => w.toNat))).reply Code.ok

/-- LOG_COMMIT (R469). -/
def execLogCommit (mid : Mid) (value : Word32) (s : State) : Result :=
  .next (s.gate mid Reg.LIB_LOG_COMMIT (some value) (fun s => s.logCommit mid value))

/-- LIB_LOG_RP written (R470). -/
def State.logFree (s : State) (v : Word32) : State :=
  let rp := s.reg Reg.LIB_LOG_RP
  let wp := s.reg Reg.LIB_LOG_WP
  (if v < rp then s else s.setReg Reg.LIB_LOG_RP (if wp < v then wp else v)).reply Code.ok

/-- LOG_RP_WRITE (R470). -/
def execLogRpWrite (mid : Mid) (value : Word32) (s : State) : Result :=
  .next (s.gate mid Reg.LIB_LOG_RP (some value) (fun s => s.logFree value))

/-- The 64 bytes of a log record (R468). -/
def LogRec.bytes (r : LogRec) : List Byte :=
  bytesOfNat 2 0x4C47 ++ bytesOfNat 1 r.kind ++ bytesOfNat 1 r.sev ++ bytesOfNat 4 r.seq ++ bytesOfNat 8 r.count ++ timeBytes r.time ++
    bytesOfNat 2 r.code ++ bytesOfNat 1 r.mid ++ bytesOfNat 1 0 ++ ((r.payload.flatMap (bytesOfNat 4)) ++ List.replicate 32 0).take 32

/-- A word of the log buffer (R470). -/
def State.logWord (s : State) (j : Nat) : Word32 :=
  match Sparse.find s.lib.log (j / 16) with
  | some r => BitVec.ofNat 32 (natOfBytes ((r.bytes.drop (j % 16 * 4)).take 4))
  | none => 0

/-! ## Registers -/

/-- A write in the Librarian's range (R482). -/
def State.libRegWrite (s : State) (mid : Mid) (a : Nat) (v : Word32) : State :=
  if a = Reg.LIB_CTRL then s.libCtrlWrite mid v
  else if a = Reg.LIB_STATUS then s.clearBits a v
  else if a = Reg.LIB_WDT 0 then s.wdtWrite mid 0 v
  else if a = Reg.LIB_WDT 1 then s.wdtWrite mid 1 v
  else if a = Reg.LIB_WDT_KICK 0 then (s.wdtRestart 0).reply Code.ok
  else if a = Reg.LIB_WDT_KICK 1 then (s.wdtRestart 1).reply Code.ok
  else if a = Reg.LIB_HBMWIN 0 ∨ a = Reg.LIB_HBMWIN 1 then (if isManager mid then s.storeReg a v else s.libRefuse)
  else if a = Reg.LIB_FL_CTRL then s.flashCtrl mid v
  else if Reg.LIB_LOG_WR 0 ≤ a ∧ a < Reg.LIB_LOG_WR 8 then (s.setReg a v).reply Code.ok
  else if a = Reg.LIB_LOG_COMMIT then s.logCommit mid v
  else if a = Reg.LIB_LOG_RP then s.logFree v
  else if a = Reg.LIB_ALM0 ∨ a = Reg.LIB_ALM1 ∨ a = Reg.LIB_ALM2 then s.clearBits a v
  else s.storeReg a v

/-- A read in the Librarian's range (R470, R482): staged log words are write only. -/
def State.libRegRead (s : State) (a : Nat) : State :=
  if Reg.LIB_LOG_BUF 0 ≤ a ∧ a < Reg.LIB_LOG_BUF 4096 then s.reply Code.ok (s.logWord ((a - Reg.LIB_LOG_BUF 0) / 4))
  else if Reg.LIB_LOG_WR 0 ≤ a ∧ a < Reg.LIB_LOG_WR 8 then s.reply Code.ok
  else s.loadReg a

/-! ## Event controller (R501, R504) -/

/-- A write in the event controller's range (R504). -/
def State.evtRegWrite (s : State) (mid : Mid) (a : Nat) (v : Word32) : State :=
  if !isManager mid then s.libRefuse
  else if Reg.EVT_ROUTE 0 ≤ a ∧ a < Reg.EVT_ROUTE 512 ∧ bitOf v.toNat 2 = true then
    s.assign mid 0x0B ((Fld.EVT_ROUTE_VEC 0).get v) (fun s => s.storeReg a v)
  else if a < Reg.EVT_STICKY 16 then s.clearBits a v
  else s.storeReg a v

/-- A read in the event controller's range: EVT_TOP and EVT_SEV as they stand (R499, R501). -/
def State.evtRegRead (s : State) (a : Nat) : State :=
  match indexOf (Reg.EVT_TOP 0) 4 2 a, indexOf (Reg.EVT_SEV 0) 4 32 a with
  | some k, _ => s.reply Code.ok (s.evtTop k)
  | none, some j => s.reply Code.ok (evtSev j)
  | none, none => s.loadReg a

end Sys2Proof.Machine
end

