-- ==== Sys2Proof/Machine/Dispatching.lean ====
section
/-! DEFINITION.  The commands of the task dispatcher (R474 to R479) and its registers (R483). -/

namespace Sys2Proof.Machine

/-- DSP_ARG of a MID (R479). -/
def State.dspArg (s : State) (mid : Mid) : Word32 := Sparse.get 0 s.dsp.arg mid.toNat

/-- The status of the last command of a MID (R479). -/
def State.dspStat (s : State) (mid : Mid) (code : Status) : State :=
  { s with dsp := { s.dsp with stat := Sparse.put 0 s.dsp.stat mid.toNat code } }

/-- A command of a core, or the refusal of any other writer (R479); the hosts may write SET_FLAGS. -/
def State.dspBy (s : State) (mid : Mid) (hosts : Bool) (f : State → State) : State :=
  if mid == 0x00 || mid == 0x01 || (hosts && (mid == 0x08 || mid == 0x09)) then ((f s).dspStat mid Code.ok).reply Code.ok
  else if isManager mid then (s.dspStat mid Code.denied).libRefuse
  else s.libRefuse

/-- A command written through the fence of the dispatcher's domain. -/
def State.dspCmd (s : State) (mid : Mid) (hosts : Bool) (f : State → State) : State :=
  s.gate mid Reg.DSP_CMD (some 0) (fun s => s.dspBy mid hosts f)

/-- ACTIVATE: a dormant task becomes active (R476). -/
def State.activateTask (s : State) (n : Nat) : State := (s.setTask n { s.task n with active := true }).dspSettle

/-- CLR_FLAGS (R479). -/
def State.clearFlags (s : State) (n : Nat) (bits : Word32) : State :=
  (s.setTask n { s.task n with flags := (s.task n).flags &&& ~~~ bits }).dspSettle

/-- SET_MASK (R479). -/
def State.setMask (s : State) (n : Nat) (m : Word32) : State := (s.setTask n { s.task n with mask := m }).dspSettle

/-- UNDELAY (R474). -/
def State.undelay (s : State) (n : Nat) : State := (s.undelayTask n).dspSettle

/-- BIND (R476, R479). -/
def execDspBind (mid : Mid) (task : Fin 64) (core : Fin 2) (prio : Fin 16) (all consume : Bool) (s : State) : Result :=
  .next (s.dspCmd mid false (fun s => s.bindTask task { core := core, prio := prio, all := all, consume := consume }))

/-- ACTIVATE (R476). -/
def execDspActivate (mid : Mid) (task : Fin 64) (s : State) : Result := .next (s.dspCmd mid false (fun s => s.activateTask task))

/-- CANCEL (R476). -/
def execDspCancel (mid : Mid) (task : Fin 64) (s : State) : Result := .next (s.dspCmd mid false (fun s => s.cancelTask task))

/-- SET_FLAGS (R479). -/
def execDspSetFlags (mid : Mid) (task : Fin 64) (s : State) : Result :=
  .next (s.dspCmd mid true (fun s => s.dspFlags task (s.dspArg mid)))

/-- CLR_FLAGS (R479). -/
def execDspClrFlags (mid : Mid) (task : Fin 64) (s : State) : Result :=
  .next (s.dspCmd mid false (fun s => s.clearFlags task (s.dspArg mid)))

/-- SET_MASK (R479). -/
def execDspSetMask (mid : Mid) (task : Fin 64) (s : State) : Result :=
  .next (s.dspCmd mid false (fun s => s.setMask task (s.dspArg mid)))

/-- DELAY (R474): under TIMEOUT or SLEEP, for ARG[15:0] ticks. -/
def execDspDelay (mid : Mid) (task : Fin 64) (timeout : Bool) (s : State) : Result :=
  .next (s.dspCmd mid false (fun s => s.delayTask task timeout ((s.dspArg mid).toNat % 65536)))

/-- UNDELAY (R474). -/
def execDspUndelay (mid : Mid) (task : Fin 64) (s : State) : Result := .next (s.dspCmd mid false (fun s => s.undelay task))

/-- WAIT (R475): the running task of the writing core ends, and the core takes. -/
def execDspWait (mid : Mid) (s : State) : Result :=
  .next (s.dspCmd mid false (fun s => ((s.endRunning mid.toNat).take mid.toNat).dspSettle))

/-- TAKE (R475). -/
def execDspTake (mid : Mid) (s : State) : Result := .next (s.dspCmd mid false (fun s => (s.take mid.toNat).dspSettle))

/-- RESET (R479). -/
def execDspReset (mid : Mid) (s : State) : Result := .next (s.dspCmd mid false State.dspClear)

/-- A write of DSP_CMD, decoded (R479, R483). -/
def State.dspWrite (s : State) (mid : Mid) (v : Word32) : State :=
  let n := Fld.DSP_CMD_TASK.get v
  match Fld.DSP_CMD_OP.get v with
  | 0 => s.dspBy mid false id
  | 1 => s.dspBy mid false (fun s => s.bindTask n
      { core := Fld.DSP_CMD_CORE.get v, prio := Fld.DSP_CMD_PRIO.get v, all := Fld.DSP_CMD_MODE.get v == 1,
        consume := Fld.DSP_CMD_CONSUME.get v == 1 })
  | 2 => s.dspBy mid false (fun s => s.activateTask n)
  | 3 => s.dspBy mid false (fun s => s.cancelTask n)
  | 4 => s.dspBy mid true (fun s => s.dspFlags n (s.dspArg mid))
  | 5 => s.dspBy mid false (fun s => s.clearFlags n (s.dspArg mid))
  | 6 => s.dspBy mid false (fun s => s.setMask n (s.dspArg mid))
  | 7 => s.dspBy mid false (fun s => s.delayTask n (Fld.DSP_CMD_DMODE.get v == 1) ((s.dspArg mid).toNat % 65536))
  | 8 => s.dspBy mid false (fun s => s.undelay n)
  | 9 => s.dspBy mid false (fun s => ((s.endRunning mid.toNat).take mid.toNat).dspSettle)
  | 10 => s.dspBy mid false (fun s => (s.take mid.toNat).dspSettle)
  | 11 => s.dspBy mid false State.dspClear
  | _ => if isManager mid then (s.dspStat mid Code.denied).libRefuse else s.libRefuse

/-- A write in the dispatcher's range (R483). -/
def State.dspRegWrite (s : State) (mid : Mid) (a : Nat) (v : Word32) : State :=
  if a = Reg.DSP_CMD then s.dspWrite mid v
  else if a = Reg.DSP_ARG then
    (if isManager mid then
      ({ s with dsp := { s.dsp with arg := Sparse.put 0 s.dsp.arg mid.toNat v } } : State).reply Code.ok
     else s.libRefuse)
  else s.reply Code.ok

/-- A read in the dispatcher's range: a take's result is the reading core's own (R478, R483). -/
def State.dspRegRead (s : State) (mid : Mid) (a : Nat) : State :=
  let core := mid == 0x00 || mid == 0x01
  if a = Reg.DSP_STAT then s.reply Code.ok ((Sparse.get 0 s.dsp.stat mid.toNat).setWidth 32)
  else if a = Reg.DSP_NEXT then
    (if core then s.reply Code.ok (Sparse.get 0 s.dsp.next mid.toNat) else s.reply Code.denied)
  else if a = Reg.DSP_NEXT_FLAGS then
    (if core then s.reply Code.ok (Sparse.get 0 s.dsp.nextFlags mid.toNat) else s.reply Code.denied)
  else s.reply Code.ok

end Sys2Proof.Machine
end

