-- ==== Sys2Proof/Machine/Boot.lean ====
section
/-! DEFINITION.  The boot ROM: the flash directory, firmware taken, checked and started, and firmware after a failure (R376 to R378,
R458 to R461, R467). -/

namespace Sys2Proof.Machine

/-! ## Where core 0 stands -/

/-- Core 0 runs the ROM after the RPLL has locked (R458). -/
def State.inRom (s : State) : Bool :=
  Sparse.get 0 s.lib.entry 0 == 0 && !s.clock.porst && !s.clock.bootStop && s.clock.everLocked

/-- Core 0 waits in the ROM for firmware to arrive (R460). -/
def State.romWaits (s : State) : State := { s with lib := { s.lib with romWait := true, fwSecond := false, fwBuf := [] } }

/-- The ROM follows a release of PORST_N, not a reload of the firmware (R461). -/
def State.booting (s : State) : Bool := s.ldr.phase == 1

/-! ## The flash directory -/

/-- A directory copy whose MAGIC and CRC are correct (R376). -/
def dirGood (b : List Byte) : Bool :=
  b.length == 4096 && numAt b 0 4 == 0x5249445A && crc32c (b.take 0xFFC) == BitVec.ofNat 32 (numAt b 0xFFC 4)

/-- The copy in use: the only good one, the one with the higher GEN, or the first (R376); true for the second copy. -/
def dirChoice (first second : List Byte) : Option (List Byte × Bool) :=
  match dirGood first, dirGood second with
  | true, true => if numAt first 4 4 < numAt second 4 4 then some (second, true) else some (first, false)
  | true, false => some (first, false)
  | false, true => some (second, true)
  | false, false => none

/-- An entry of the directory (R376). -/
def dirEntry (b : List Byte) (i : Nat) : DirEntry :=
  let e := (b.drop (0x40 + 32 * i)).take 32
  { kind := numAt e 0 1, slot := numAt e 1 1, active := bitOf (numAt e 2 1) 0, fallback := bitOf (numAt e 2 1) 1,
    offset := numAt e 4 8, length := numAt e 12 8 }

/-- The physical 4 KiB blocks of an entry (R377), as port, first byte and length. -/
def DirEntry.blocks (e : DirEntry) (stripe : Bool) : List (Nat × Nat × Nat) :=
  if e.length = 0 then []
  else if stripe then
    (List.range ((e.offset + e.length - 1) / 4096 - e.offset / 4096 + 1)).map (fun i =>
      let l := e.offset / 4096 + i
      (l % 2, l / 2 * 4096, 4096))
  else [(0, e.offset, e.length)]

/-- LDR_XSPI as the directory sets it (R376, R378): at roots above 4.8 GHz the clock divides by at least 2. -/
def State.xspiSet (s : State) (b : List Byte) : State :=
  let code := min (numAt b 8 1) 3
  let xdiv := if 4800000000 < s.clock.fnom * s.fld Fld.CLK_RPLL_MULT then max code 1 else code
  let dummy := numAt b 9 1
  let stripe := bitOf (numAt b 0xA 1) 0
  ((((((s.setFld Fld.LDR_XSPI_XDIV xdiv).setFld Fld.LDR_XSPI_DUMMY (if 8 ≤ dummy ∧ dummy ≤ 30 then dummy else 20)).setFlag
    Fld.LDR_XSPI_STRIPE stripe).setFlag Fld.LDR_XSPI_PORT0 true).setFlag Fld.LDR_XSPI_PORT1 stripe).setFlag
    Fld.LDR_XSPI_OCTAL true)

/-- The entries of a directory copy taken up, with the flash ranges that R467 protects. -/
def State.dirTake (s : State) (b : List Byte) (second : Bool) : State :=
  let es := (List.range 32).map (dirEntry b)
  let stripe := bitOf (numAt b 0xA 1) 0
  let guard := (0, if second then 4096 else 0, 4096) :: (es.filter (fun e => decide (1 ≤ e.kind ∧ e.kind ≤ 4) && e.active)).flatMap
    (fun e => e.blocks stripe)
  { s with ldr := { s.ldr with entries := es }, lib := { s.lib with flashGuard := guard } }

/-- DIRECTORY_READ (R376, R379, R461): in the ROM, the two copies are read, by a leader or as its listener, or by the leader for a
reload.
(DEDUCED, log 88.) -/
def execDirectoryRead (first second : List Byte) (s : State) : Result :=
  .next (if s.inRom && !s.lib.romWait && decide (s.fld Fld.LDR_XSPI_ROLE ≤ 1) then
      match dirChoice first second with
      | some (b, k) => (s.xspiSet b).dirTake b k
      | none => if s.booting then (s.checkFails 1 0 0).romWaits else s.romWaits
    else s)

/-! ## Firmware -/

/-- The header of a firmware image keeps R459's rules. -/
def fwHeaderGood (b : List Byte) : Bool :=
  let len := numAt b 8 4
  let entry := numAt b 12 4
  decide (64 ≤ b.length) && numAt b 0 4 == 0x5746585A && numAt b 4 2 == 1 && decide (numAt b 6 1 ≤ 64) && numAt b 7 1 == 0 &&
    decide (64 ≤ len ∧ len ≤ 491520 ∧ len % 4 = 0) &&
    decide (entry % 2 = 0 ∧ 0x10000000 ≤ entry ∧ entry < 0x10000000 + len) && decide (len + numAt b 16 4 ≤ 491520) &&
    ((b.take 64).drop 20).all (fun x => x == 0)

/-- The bytes of a firmware image before its block, and the block. -/
def fwParts (b : List Byte) : List Byte × List Byte := (b.take (numAt b 8 4), b.drop (numAt b 8 4))

/-- How firmware fares (R459, R414): 0 verified, 1 to 6 the step that fails, 7 its header.
(DEDUCED, log 88.) -/
def State.fwVerdict (s : State) (b : List Byte) : Nat :=
  if !fwHeaderGood b then 7
  else s.sigStep true (digest64 (fwParts b).1) (numAt b 6 1) (fwParts b).2

/-- The record of firmware that fails: check 0x01 of R176, or the step of R414. -/
def State.fwRecord (s : State) (verdict : Nat) : State :=
  if verdict = 7 then
    ((((s.setFld Fld.LDR_CHK_STAT_CHECK 1).setFld Fld.LDR_CHK_STAT_SECTION 0).setReg Reg.LDR_CHK_INFO 0).raiseBit
      Fld.LDR_CHK_STAT_FORMAT 405)
  else s.sigFailed verdict

/-- A byte of SRAM cleared (R459). -/
def State.clearSramByte (s : State) (a : Nat) : State :=
  s.setSram (a / 4) (s.sramWord (a / 4) &&& ~~~ (BitVec.ofNat 32 (255 * 256 ^ (a % 4))))

/-- SRAM as the ROM leaves it (R458 orders 5 and 7, R459): the image, the bytes it has cleared, and the ROM's own part cleared.
(DEDUCED, log 88.) -/
def State.sramLoad (s : State) (b : List Byte) (clear : Nat) : State :=
  let s1 := (List.range (b.length / 4)).foldl (fun s j =>
    s.setSram j (BitVec.ofNat 32 (natOfBytes ((b.drop (4 * j)).take 4)))) s
  let s2 := (List.range clear).foldl (fun s j => s.clearSramByte (b.length + j)) s1
  (List.range 8192).foldl (fun s j => s.setSram (122880 + j) 0) s2

/-- The loader's stream and entry after boot (R373, R383). -/
def State.bootLoad (s : State) : State :=
  let src := match s.fld Fld.DEV_STRAPS_BOOTSEL % 4 with
    | 2 => 1
    | 3 => 2
    | _ => 0
  let index := (s.ldr.entries.findIdx? (fun e => e.kind == 2 && e.active)).getD 32
  (s.beginStream src index).setPhase 2

/-- Verified firmware starts (R458 orders 5 and 7): MR1, SRAM, the boot record, LIB_C0_ENTRY and the jump; at boot the loader goes
on from HEADER. -/
def State.fwStart (s : State) (b : List Byte) : State :=
  let v := numAt b 6 1
  let entry := numAt b 12 4
  let p := fwParts b
  let s1 := (s.sramLoad p.1 (numAt b 16 4)).extendMr 1 (digest64 p.1)
  let s2 := ({ s1 with
    sec := { s1.sec with fw := some (s.fwSlot p.2, v) },
    lib := { s1.lib with fwVersion := v, romWait := false, fwSecond := false, fwBuf := [] } } : State).setRun
  let s3 := s2.logAppend State.raiseDrop 4 0 0 0
    [(s2.reg Reg.DEV_STRAPS).toNat, (s2.reg Reg.LDR_IMG_SRC).toNat, (s2.reg Reg.LIB_RST_CAUSE).toNat, v]
  let s4 := (s3.setReg Reg.LIB_C0_ENTRY (BitVec.ofNat 32 entry)).coreAt 0 entry
  if s4.booting then s4.bootLoad else s4

/-- The entry to which a leader falls back once (R458 order 6): TYPE 1, FALLBACK, in the other slot than the ACTIVE one. -/
def State.fwFallback (s : State) : Bool :=
  s.fld Fld.LDR_XSPI_ROLE == 0 && !s.lib.fwSecond &&
  (match s.ldr.entries.find? (fun e => e.kind == 1 && e.active) with
   | some a => s.ldr.entries.any (fun e => e.kind == 1 && e.fallback && e.slot != a.slot)
   | none => false)

/-- Firmware that fails in the ROM (R458 order 6, R460, R461). -/
def State.fwFails (s : State) (verdict : Nat) : State :=
  let s1 := s.fwRecord verdict
  if s.fwFallback then { s1 with lib := { s1.lib with fwSecond := true, fwBuf := [] } }
  else if s.booting then (s1.fullFails (if verdict = 7 then Code.imgFormat else sigCode verdict)).romWaits
  else s1.romWaits

/-- The entry of the directory from which firmware is taken (R458 orders 4 and 6). -/
def State.fwEntry (s : State) : Bool :=
  s.ldr.entries.any (fun e => e.kind == 1 && (if s.lib.fwSecond then e.fallback else e.active))

/-- The bytes that a firmware image at the front of a stream needs: its header, then LENGTH and the block; with a header that fails,
all that have arrived. -/
def fwNeed (b : List Byte) : Nat :=
  if b.length < 64 then 64 else if fwHeaderGood b then numAt b 8 4 + 5272 else b.length

/-- Firmware bytes taken from the FIFO (1) or the ring (2), as many as the image needs (R382, R460). -/
def State.fwTake (s : State) (src : Nat) : State :=
  let all := s.lib.fwBuf ++ Sparse.get [] s.ldr.stream src
  let n := fwNeed all
  let rest := all.drop n
  let s1 : State := { s with
    lib := { s.lib with fwBuf := all.take n }, ldr := { s.ldr with stream := Sparse.put [] s.ldr.stream src rest } }
  if src = 1 then s1.setReg Reg.LDR_FIFO_FREE (BitVec.ofNat 32 (65536 - rest.length)) else s1

/-- The firmware buffered is whole, or its header has failed. -/
def State.fwWhole (s : State) : Bool := decide (64 ≤ s.lib.fwBuf.length ∧ fwNeed s.lib.fwBuf ≤ s.lib.fwBuf.length)

/-- Firmware judged and started, or failed.
(DEDUCED, log 88.) -/
def State.fwJudge (s : State) (b : List Byte) : State :=
  let k := s.fwVerdict b
  if k = 0 then s.fwStart b else s.fwFails k

/-- FIRMWARE_LOADED (R458): from flash the bytes of the entry, else as much of the stream as has arrived. -/
def execFirmwareLoaded (bytes : List Byte) (s : State) : Result :=
  .next (if s.inRom && !s.lib.romWait then
      (if s.fld Fld.LDR_XSPI_ROLE ≤ 1 then (if s.fwEntry then s.fwJudge bytes else s.fwFails 7)
       else
         let s1 := s.fwTake (if s.fld Fld.DEV_STRAPS_BOOTSEL % 4 = 3 then 2 else 1)
         if s1.fwWhole then s1.fwJudge s1.lib.fwBuf else s1)
    else s)

/-- Firmware arriving at a ROM that waits (R460): a failed image is dropped, and core 0 waits on. -/
def State.fwArrives (s : State) (src : Nat) : State :=
  let s1 := s.fwTake src
  if s1.fwWhole then
    (let k := s1.fwVerdict s1.lib.fwBuf
     if k = 0 then s1.fwStart s1.lib.fwBuf else (s1.fwRecord k).romWaits)
  else s1

/-- FIRMWARE_ARRIVAL (R460): the FIFO first, then the ring. -/
def execFirmwareArrival (s : State) : Result :=
  .next (if s.inRom && s.lib.romWait then
      s.fwArrives (if (Sparse.get [] s.ldr.stream 1).isEmpty && s.lib.fwBuf.isEmpty then 2 else 1)
    else s)

end Sys2Proof.Machine
end

