-- ==== Sys2Proof/Machine/Ring.lean ====
section
/-! DEFINITION.  The Ledger ring (R571 to R579): frames passed on, enumeration, requests of the head, events and broadcast loads. -/

namespace Sys2Proof.Machine

/-! ## Frames -/

/-- The device is bypassed by its repeater (R574). -/
def State.ringBypassed (s : State) : Bool := s.clock.porst || s.devState == 4 || s.domState 74 != 0

/-- A ring frame addressed to this device leaves IDLE, SLEEP or DEEP (R525, R574). -/
def State.ringWake (s : State) (dst : Nat) : State :=
  if dst = s.host.lastNum ∧ (s.flag Fld.LRG_STATUS_ENUMERATED = true ∨ s.host.lastNum ≠ 0) then
    s.exitSource 9 0 (s.flag Fld.PWR_WAKE_EN_RING) true true
  else s

/-- A frame that is discarded for its CRC or its TYPE (R573). -/
def State.ringCrc (s : State) : State := (s.countReg Reg.LRG_CRC_CNT).raiseBit Fld.LRG_STATUS_CRC 500

/-- This device holds the number that a frame is addressed to. -/
def State.ringMine (s : State) (dst : Nat) (bcast : Bool) : Bool :=
  s.flag Fld.LRG_STATUS_ENUMERATED && (bcast || dst == s.fld Fld.LRG_STATUS_NUM)

/-- A frame that reaches the device (R571, R573, R574): in a bypassed device it is passed on, and one with HOPS 63 ends here; one
with a bad CRC is discarded; one that is addressed to the device is taken, and passed on too where it is a broadcast. -/
def State.ringFrame (s : State) (dst hops : Nat) (bcast crcOk : Bool) (pass take : State → State) : State :=
  let s1 := if bcast then s else s.ringWake dst
  if s.ringBypassed then (if 63 ≤ hops then s1 else pass s1)
  else if !crcOk then s1.ringCrc
  else if s1.ringMine dst bcast then (if bcast && decide (hops < 63) then pass (take s1) else take s1)
  else if 63 ≤ hops then s1 else pass s1

/-! ## Requests of the head (R577) -/

/-- The first 8-bit tag that no outstanding request holds. -/
def State.ringTag (s : State) : Nat :=
  ((List.range 256).find? (fun t => !s.host.reqs.any (fun r => r.tag == t))).getD 0

/-- A request sent to another device, as RD or WR. -/
def State.ringSend (s : State) (r : RingReq) : State :=
  let r1 := { r with tag := s.ringTag }
  let s1 : State := { s with host := { s.host with reqs := s.host.reqs ++ [r1] } }
  match r.write with
  | none => s1.emit (.ringFrame 2 r.dst 0 false r1.tag [r.addr])
  | some v => s1.emit (.ringFrame 3 r.dst 0 false r1.tag [r.addr, v.toNat])

/-- A request to device `d` that no device can answer: the number is not assigned, or no enumeration has completed.
(DEDUCED, log 78.) -/
def State.ringNoDev (s : State) (d : Nat) : Bool :=
  !s.flag Fld.LRG_STATUS_ENUMERATED || !s.flag Fld.LRG_STATUS_HEAD || decide (s.fld Fld.LRG_STATUS_COUNT < d)

/-- Requests wait: an enumeration runs, or 32 are outstanding. -/
def State.ringHolds (s : State) : Bool := s.host.enumWait || s.host.enumSent || decide (32 ≤ s.host.reqs.length)

/-- A request of a host access (R575, R577): held, answered RING_NODEV, or sent. -/
def State.ringRequest (s : State) (r : RingReq) : State :=
  if s.ringHolds || !s.host.heldBar2.isEmpty then { s with host := { s.host with heldBar2 := s.host.heldBar2 ++ [r] } }
  else if s.ringNoDev r.dst then s.finish (.bar r.bar) Code.ringNodev []
  else s.ringSend r

/-- Requests that waited go on in order, as long as they may; `fuel` is their number. -/
def State.ringPump : Nat → State → State
  | 0, s => s
  | k + 1, s =>
    if s.ringHolds then s
    else match s.host.heldBar2 with
      | [] => s
      | r :: rest =>
        let s1 : State := { s with host := { s.host with heldBar2 := rest } }
        State.ringPump k (if s1.ringNoDev r.dst then s1.finish (.bar r.bar) Code.ringNodev [] else s1.ringSend r)

/-- Every request that may go on does.
(DEDUCED, log 78.) -/
def State.ringGo (s : State) : State := State.ringPump s.host.heldBar2.length s

/-! ## Enumeration (R575, R576) -/

/-- The head takes number 0 and sends ENUM, once nothing is outstanding. -/
def State.enumSend (s : State) : State :=
  if s.host.enumWait && s.host.reqs.isEmpty then
    let s1 := (s.setFld Fld.LRG_STATUS_NUM 0).resetEndsOf 9
    ({ s1 with host := { s1.host with enumWait := false, enumSent := true, lastNum := 0, loadSeq := 0, loadExp := 0 } } :
      State).emit (.ringFrame 1 0 0 false 1 [])
  else s

/-- A write of LRG_CTRL (R575, R576). -/
def State.lrgCtrlWrite (s : State) (mid : Mid) (v : Word32) : State :=
  if !(mid == 0x00 || mid == 0x01 || mid == 0x08) then (s.raiseBit Fld.LRG_STATUS_DENIED 502).reply Code.denied
  else if !bitOf v.toNat 0 || s.flag Fld.LRG_CTRL_ENUM then s.reply Code.ok
  else
    let s1 := (s.setFlag Fld.LRG_CTRL_ENUM true).setFlag Fld.LRG_STATUS_HEAD true
    ({ s1 with host := { s1.host with enumWait := true } } : State).enumSend.reply Code.ok

/-- The enumeration is over, and BAR2 requests go on. -/
def State.enumOver (s : State) : State :=
  (({ s with host := { s.host with enumWait := false, enumSent := false } } : State).setFlag Fld.LRG_CTRL_ENUM false).ringGo

/-- An enumeration that fails (R576). -/
def State.enumFails (s : State) : State :=
  ((s.setFlag Fld.LRG_STATUS_ENUMERATED false).raiseBit Fld.LRG_STATUS_ENUM_FAIL 502).enumOver

/-- The head's ENUM returns (R575, R576): 64 active devices return ARG 64.
(DEDUCED, log 79.) -/
def State.enumReturns (s : State) (arg : Nat) : State :=
  if 64 < arg then s.enumFails
  else ((((s.setFld Fld.LRG_STATUS_COUNT (arg - 1)).setFlag Fld.LRG_STATUS_ENUMERATED true).raiseBit Fld.LRG_STATUS_ENUM_DONE
    501).wakeHolds 0x08).enumOver

/-- A device that is not a head takes its number and passes the frame on (R575).
(DEDUCED, log 79; DESIGN CHOICE, log 81.) -/
def State.enumTakes (s : State) (arg : Nat) : State :=
  if 63 < arg then s.emit (.ringFrame 1 0 0 false (arg + 1) [])
  else
    let s1 := ((s.setFld Fld.LRG_STATUS_NUM arg).setFlag Fld.LRG_STATUS_ENUMERATED true).resetEndsOf 9
    ({ s1 with host := { s1.host with lastNum := arg, loadExp := 0 } } : State).emit (.ringFrame 1 0 0 false (arg + 1) [])

/-- RING_ENUM (R573 to R576): `own` says that the frame is the one this head sent.
(DEDUCED, log 79.) -/
def execRingEnum (arg : Word32) (own : Bool) (hops : BitVec 6) (crcOk : Bool) (s : State) : Result :=
  .next (
    if s.ringBypassed then (if hops.toNat = 63 then s else s.emit (.ringFrame 1 0 0 false arg.toNat []))
    else if !crcOk then s.ringCrc
    else if s.flag Fld.LRG_STATUS_HEAD then
      (if own && s.host.enumSent then s.enumReturns arg.toNat else s.raiseBit Fld.LRG_STATUS_CONFLICT 502)
    else if hops.toNat = 63 then s
    else s.enumTakes arg.toNat)

/-- ENUM (R575): LRG_CTRL.ENUM written 1, through the fence of the ring's domain. -/
def execRingEnumStart (mid : Mid) (s : State) : Result :=
  .next (s.gate mid Reg.LRG_CTRL (some 1) (fun s => s.lrgCtrlWrite mid 1))

/-- ENUM_TIMEOUT (R576). -/
def execEnumTimeout (s : State) : Result := .next (if s.host.enumSent then s.enumFails else s)

/-! ## Answers and timeouts -/

/-- An outstanding request is complete (R577): the access completes, and others go on. -/
def State.ringDone (s : State) (r : RingReq) (code : Status) (value : Word32) : State :=
  let s1 : State := { s with host := { s.host with reqs := s.host.reqs.filter (fun x => x.tag != r.tag) } }
  ((s1.finish (.bar r.bar) code (if r.write.isSome then [] else bytesOf32 value)).enumSend).ringGo

/-- RING_RSP (R573, R577): a late one is discarded. -/
def execRingRsp (hdr : RingHeader) (status : Status) (value : Word32) (crcOk : Bool) (s : State) : Result :=
  .next (s.ringFrame hdr.dst hdr.hops hdr.bcast crcOk
    (fun s => s.emit (.ringFrame 4 hdr.dst hdr.src hdr.bcast (hdr.tag.toNat + status.toNat * 256) [value.toNat]))
    (fun s => match s.host.reqs.find? (fun r => r.tag == hdr.tag.toNat && r.dst == hdr.src.val) with
      | some r => s.ringDone r status value
      | none => s))

/-- RING_TIMEOUT (R577). -/
def execRingTimeout (tag : BitVec 8) (s : State) : Result :=
  .next (match s.host.reqs.find? (fun r => r.tag == tag.toNat) with
    | some r => (s.raiseBit Fld.LRG_STATUS_RTMO 502).ringDone r Code.timeout 0
    | none => s)

/-! ## Events (R578) -/

/-- An event of another device reaches the head. -/
def State.ringEventIn (s : State) (src event sev vec : Nat) : State :=
  let s1 : State := if s.host.evtq.length < 64 then
      { s with host := { s.host with evtq := s.host.evtq ++ [(src, sev, event)] } }
    else s.countReg Reg.LRG_EVT_DROP
  s1.msixFire vec

/-- RING_EVENT (R573, R578). -/
def execRingEvent (hdr : RingHeader) (event : Fin 512) (sev : BitVec 2) (vec : Fin 64) (crcOk : Bool) (s : State) : Result :=
  .next (s.ringFrame hdr.dst hdr.hops hdr.bcast crcOk
    (fun s => s.emit (.ringFrame 5 hdr.dst hdr.src hdr.bcast (event + sev.toNat * 2 ^ 16 + vec * 2 ^ 24) []))
    (fun s => if s.flag Fld.LRG_STATUS_HEAD then s.ringEventIn hdr.src event sev.toNat vec else s))

/-- A read of LRG_EVTQ removes the entry (R578). -/
def State.evtqRead (s : State) : State :=
  match s.host.evtq with
  | [] => s.reply Code.ok
  | (d, v, e) :: rest =>
    ({ s with host := { s.host with evtq := rest } } : State).reply Code.ok (BitVec.ofNat 32 (2 ^ 31 + d * 2 ^ 24 + v * 2 ^ 16 + e))

/-- LRG_EVTQ_READ (R578). -/
def execLrgEvtqRead (mid : Mid) (s : State) : Result := .next (s.gate mid Reg.LRG_EVTQ none State.evtqRead)

/-! ## Broadcast loads (R579) -/

/-- A LOAD frame as it leaves: its bytes eight to a block. -/
def State.loadSend (s : State) (seq : Nat) (bytes : List Byte) : State := s.emit (.ringLoad seq bytes false)

/-- LOAD frames cut from the head's buffer while fewer than 128 are unreturned; `fuel` bounds their number. -/
def State.loadPump : Nat → State → State
  | 0, s => s
  | k + 1, s =>
    if s.flag Fld.LRG_STATUS_HEAD && decide (s.host.loadSent.length < 128) && !s.host.loadBuf.isEmpty then
      let b := s.host.loadBuf.take 128
      let q := s.host.loadSeq
      let rest := s.host.loadBuf.drop 128
      let s1 : State := { s with host := { s.host with
        loadBuf := rest, loadSeq := (q + 1) % 2 ^ 32, loadSent := s.host.loadSent ++ [(q, b)] } }
      State.loadPump k ((s1.setReg Reg.LRG_LOAD_FREE (BitVec.ofNat 32 (65536 - rest.length))).loadSend q b)
    else s

/-- A write into the LRG_LOAD aperture: its bytes are appended, or discarded whole where they find too little space. -/
def State.lrgLoad (s : State) (bytes : List Byte) : State :=
  let n := s.host.loadBuf.length + bytes.length
  if 65536 < n then s.reply Code.ok
  else
    let s1 : State := { s with host := { s.host with loadBuf := s.host.loadBuf ++ bytes } }
    ((s1.setReg Reg.LRG_LOAD_FREE (BitVec.ofNat 32 (65536 - n))).reply Code.ok |> State.loadPump (n / 128 + 1))

/-- LRG_LOAD_WRITE (R579). -/
def execLrgLoadWrite (mid : Mid) (bytes : List Byte) (s : State) : Result :=
  .next (s.gate mid 0x08210000 (some (BitVec.ofNat 32 (natOfBytes (bytes.take 4)))) (fun s => s.lrgLoad bytes))

/-- The device takes LOAD frames: its ROM waits under BOOTSEL 0b11 or after a failure, or its loader runs on the ring's stream
(R458, R460, R397).
(DEDUCED, log 80.) -/
def State.takesLoad (s : State) : Bool :=
  (s.inRom && (s.lib.romWait || s.fld Fld.DEV_STRAPS_BOOTSEL % 4 == 3)) ||
    (s.ldr.src == 2 && (decide (2 ≤ s.ldr.phase ∧ s.ldr.phase ≤ 9) || s.flag Fld.LDR_CMD_STAT_PENDING))

/-- A LOAD frame at a device that takes them: its bytes are appended, and STALL says that they were not.
(DEDUCED, log 80.) -/
def State.loadIn (s : State) (seq : Nat) (bytes : List Byte) (stall : Bool) : State :=
  let held := Sparse.get [] s.ldr.stream 2
  if seq < s.host.loadExp then s.emit (.ringLoad seq bytes stall)
  else if seq = s.host.loadExp ∧ held.length + 128 ≤ 65536 then
    ({ s with
      ldr := { s.ldr with stream := Sparse.put [] s.ldr.stream 2 (held ++ bytes) },
      host := { s.host with loadExp := s.host.loadExp + 1 } } : State).emit (.ringLoad seq bytes stall)
  else s.emit (.ringLoad seq bytes true)

/-- A LOAD frame returns to the head: with STALL every frame from it onward is sent again. -/
def State.loadReturns (s : State) (seq : Nat) (stall : Bool) : State :=
  if stall then (s.host.loadSent.filter (fun f => decide (seq ≤ f.1))).foldl (fun s f => s.loadSend f.1 f.2) s
  else
    let s1 : State := { s with host := { s.host with loadSent := s.host.loadSent.filter (fun f => f.1 != seq) } }
    State.loadPump (s1.host.loadBuf.length / 128 + 1) s1

/-- RING_LOAD (R573, R574, R579). -/
def execRingLoad (hdr : RingHeader) (seq : Word32) (bytes : List Byte) (stall crcOk : Bool) (s : State) : Result :=
  .next (
    if s.ringBypassed then (if 63 ≤ hdr.hops then s else s.emit (.ringLoad seq.toNat bytes stall))
    else if !crcOk then s.ringCrc
    else if s.flag Fld.LRG_STATUS_HEAD then s.loadReturns seq.toNat stall
    else if 63 ≤ hdr.hops then s
    else if s.takesLoad then s.loadIn seq.toNat bytes stall
    else s.emit (.ringLoad seq.toNat bytes stall))

end Sys2Proof.Machine
end

