-- ==== Sys2Proof/Machine/Bus.lean ====
section
/-! DEFINITION.  The register space (R7 to R11, R25 to R28): which block an address reaches, the windows of the carrels (R508, R509), the
host interface and the ring (R582), and the commands that write and read registers. -/

namespace Sys2Proof.Machine

/-! ## Carrels -/

/-- A write in the carrel block's range (R508, R509). -/
def State.crlRegWrite (s : State) (mid : Mid) (a : Nat) (v : Word32) : State :=
  if a < 0x01200100 then (if isManager mid then s.storeReg a v else s.libRefuse)
  else if a < 0x01200200 then (if a < 0x01200180 then s.carrelBind mid ((a - 0x01200100) / 4) v else s.reply Code.ok)
  else if a < 0x01200480 then
    let c := if a < 0x01200400 then (a - 0x01200200) / 8 % 32 else (a - 0x01200400) / 4
    (if isManager mid then s.storeReg a v else s.carrelDeny c)
  else if 0x01210000 ≤ a ∧ a < 0x01212000 then
    let c := (a - 0x01210000) / 0x100
    let o := a % 0x100
    if o < 0x40 then s.carrelTxd mid c (o / 4) v
    else if o = 0x80 then
      (if bitOf v.toNat 31 then s.carrelWithdraw mid c else s.carrelPost mid c (v.toNat / 65536 % 32) (v.setWidth 16))
    else if o = 0x84 then s.carrelAck mid c (v.setWidth 16)
    else if o = 0x94 ∧ bitOf v.toNat 0 then s.carrelEndReset mid c
    else if (s.endOf c mid).isNone then s.carrelDeny c
    else s.reply Code.ok
  else s.reply Code.ok

/-- A read in the carrel block's range (R487, R508, R509). -/
def State.crlRegRead (s : State) (mid : Mid) (a : Nat) : State :=
  if 0x01210000 ≤ a ∧ a < 0x01212000 then s.carrelRead mid ((a - 0x01210000) / 0x100) (a % 0x100) else s.loadReg a

/-- The address of an end-window register of a carrel. -/
def endWindow (c o : Nat) : Nat := 0x01210000 + c * 0x100 + o

/-- CRL_BIND_WRITE (R485). -/
def execCrlBindWrite (mid : Mid) (carrel : Fin 32) (value : Word32) (s : State) : Result :=
  .next (s.gate mid (Reg.CRL_BIND carrel) (some value) (fun s => s.carrelBind mid carrel value))

/-- CRL_TXD_WRITE (R489). -/
def execCrlTxdWrite (mid : Mid) (carrel : Fin 32) (word : Fin 16) (value : Word32) (s : State) : Result :=
  .next (s.gate mid (endWindow carrel (4 * word)) (some value) (fun s => s.carrelTxd mid carrel word value))

/-- POST (R488). -/
def execCrlPost (mid : Mid) (carrel : Fin 32) (len : BitVec 5) (tag : BitVec 16) (s : State) : Result :=
  .next (s.gate mid (endWindow carrel 0x80) (some (BitVec.ofNat 32 (len.toNat * 65536 + tag.toNat)))
    (fun s => s.carrelPost mid carrel len.toNat tag))

/-- WITHDRAW (R493). -/
def execCrlWithdraw (mid : Mid) (carrel : Fin 32) (s : State) : Result :=
  .next (s.gate mid (endWindow carrel 0x80) (some 0x80000000) (fun s => s.carrelWithdraw mid carrel))

/-- CRL_ACK (R490). -/
def execCrlAck (mid : Mid) (carrel : Fin 32) (reply : BitVec 16) (s : State) : Result :=
  .next (s.gate mid (endWindow carrel 0x84) (some (reply.setWidth 32)) (fun s => s.carrelAck mid carrel reply))

/-- END_RESET (R495). -/
def execEndReset (mid : Mid) (carrel : Fin 32) (s : State) : Result :=
  .next (s.gate mid (endWindow carrel 0x94) (some 1) (fun s => s.carrelEndReset mid carrel))

/-- CARREL_TIMEOUT (R492): the post of end A, or of end B. -/
def execCarrelTimeout (carrel : Fin 32) (fromB : Bool) (s : State) : Result :=
  .next (s.carrelTimeout carrel (if fromB then 1 else 0))

/-! ## Host interface and ring -/

/-- A vector whose mask is clear sends the message that is pending (R569). -/
def State.msixSend (s : State) (vec : Nat) : State :=
  let a := Reg.HST_MSIX_PBA (vec / 32)
  let bit := BitVec.ofNat 32 (2 ^ (vec % 32))
  if bitOf (s.reg (Reg.HST_MSIX_TBL (4 * vec + 3))).toNat 0 || !s.host.msixEnable || !s.host.busMaster || s.reg a &&& bit == 0 then s
  else (s.setReg a (s.reg a &&& ~~~ bit)).emit (.msix vec)

/-- A record's VALID bit written 1 clears the record (R618); the register's other bits follow their access codes. -/
def State.recordWrite (s : State) (a : Nat) (v : Word32) : State :=
  match recordAt a with
  | some r =>
    let f := (recordParts r).1
    if f.get v = 1 then (s.clearRecord r).storeReg a (v &&& ~~~ f.mask) else s.storeReg a v
  | none => s.storeReg a v

/-- A write in the host interface's range (R569, R582). -/
def State.hstRegWrite (s : State) (a : Nat) (v : Word32) : State :=
  if 0x08101000 ≤ a ∧ a < 0x08101400 then (s.setReg a v).msixSend ((a - 0x08101000) / 16) |>.reply Code.ok
  else s.recordWrite a v

/-- A write in the ring's range (R582). -/
def State.lrgRegWrite (s : State) (mid : Mid) (a : Nat) (v : Word32) : State :=
  if a = Reg.LRG_CTRL then s.lrgCtrlWrite mid v
  else if 0x08210000 ≤ a ∧ a < 0x08220000 then s.lrgLoad (bytesOf32 v)
  else s.storeReg a v

/-- A read in the ring's range (R578, R582). -/
def State.lrgRegRead (s : State) (a : Nat) : State := if a = Reg.LRG_EVTQ then s.evtqRead else s.loadReg a

/-! ## Lanes -/

/-- A write in the lanes' range: lane windows 0 to 102, and PLL windows 0 to 27 (R241, R242, R278). -/
def State.lnRegWrite (s : State) (mid : Mid) (a : Nat) (v : Word32) : State :=
  let i := (a - 0x05000000) / 0x10000
  let o := a % 0x10000
  if 0x05F00000 ≤ a then
    let k := (a - 0x05F00000) / 0x100
    if k < 28 ∧ a = Reg.LN_PLL k then s.lnPllWrite mid k v else s.storeReg a v
  else if 103 ≤ i then s.reply Code.ok
  else if o < 0x1000 then s.lnPhyWrite mid i o a v
  else s.lnLinkWrite mid i o a v

/-- A read in the lanes' range. -/
def State.lnRegRead (s : State) (a : Nat) : State :=
  let i := (a - 0x05000000) / 0x10000
  let o := a % 0x10000
  if 0x05F00000 ≤ a then
    let k := (a - 0x05F00000) / 0x100
    if k < 28 then s.lnPllRead k a else s.loadReg a
  else if 103 ≤ i then s.reply Code.ok
  else if o < 0x1000 then s.lnPhyRead i o a
  else s.loadReg a

/-! ## The register space -/

/-- The sequencer's register that a sorus window shows (R151). -/
def seqAlias (a : Nat) : Option Nat :=
  let o := (a - 0x0C000000) % 0x100000
  if 0x0C000000 ≤ a ∧ a < 0x0E200000 ∧ 0x80 ≤ o ∧ o < 0x100 then some (0x0C000000 + o) else none

/-- A write at the block that an address reaches (R25, R26). -/
def State.blockWrite (s : State) (mid : Mid) (a : Nat) (v : Word32) : State :=
  if a < 0x00100000 then s.storeReg a v
  else if a < 0x00200000 then s.evtRegWrite mid a v
  else if a < 0x00300000 then s.pwrRegWrite mid a v
  else if a < 0x00400000 then s.clkRegWrite a v
  else if a < 0x01000000 then s.reply Code.ok
  else if a = Reg.LIB_BERR 0 ∨ a = Reg.LIB_BERR 1 then s.recordWrite a v
  else if a < 0x01100000 then s.libRegWrite mid a v
  else if a < 0x01200000 then s.dspRegWrite mid a v
  else if a < 0x02000000 then s.crlRegWrite mid a v
  else if a < 0x02020000 then s.ldrRegWrite mid a v
  else if a < 0x02030000 then s.secRegWrite mid a v
  else if a < 0x03000000 then s.cnsRegWrite mid a v
  else if a = Reg.TU_TP_CFG 0 then s.tpWrite mid 0 v
  else if a = Reg.TU_TP_CFG 1 then s.tpWrite mid 1 v
  else if a < 0x04000000 then s.tuRegWrite mid a v
  else if a < 0x05000000 then s.rzRegWrite mid a v
  else if a < 0x06000000 then s.lnRegWrite mid a v
  else if a < 0x07000000 then s.acqRegWrite mid a v
  else if a < 0x08000000 then s.hbmRegWrite a v
  else if a < 0x08100000 then s.twnRegWrite mid a v
  else if a < 0x08200000 then s.hstRegWrite a v
  else if a < 0x08300000 then s.lrgRegWrite mid a v
  else if a < 0x08300800 then s.iobRegWrite mid a v
  else if 0x0C000000 ≤ a ∧ a < 0x0E200000 then s.arrRegWrite a v
  else s.reply Code.ok

/-- A read at the block that an address reaches (R25, R26). -/
def State.blockRead (s : State) (mid : Mid) (a : Nat) : State :=
  if a < 0x00100000 then s.loadReg a
  else if a < 0x00200000 then s.evtRegRead a
  else if a < 0x00300000 then s.pwrRegRead a
  else if a < 0x01000000 then s.loadReg a
  else if a < 0x01100000 then s.libRegRead a
  else if a < 0x01200000 then s.dspRegRead mid a
  else if a < 0x02000000 then s.crlRegRead mid a
  else if a < 0x02020000 then s.ldrRegRead a
  else if a < 0x02030000 then s.secRegRead a
  else if a < 0x03000000 then s.cnsRegRead a
  else if a < 0x04000000 then s.tuRegRead a
  else if a < 0x05000000 then s.rzRegRead a
  else if a < 0x06000000 then s.lnRegRead a
  else if a < 0x07000000 then s.acqRegRead a
  else if a < 0x08000000 then s.loadReg a
  else if a < 0x08100000 then s.twnRegRead a
  else if a < 0x08200000 then s.loadReg a
  else if a < 0x08300000 then s.lrgRegRead a
  else if a < 0x08300800 then s.iobRegRead a
  else if 0x0C000000 ≤ a ∧ a < 0x0E200000 then s.arrRegRead a
  else s.reply Code.ok

/-- The aligned 32-bit register that an address lies in (R8).
(DEDUCED, log 77.) -/
def alignReg (a : Nat) : Nat := a / 4 * 4

/-- A 32-bit register write by a MID: the sequencer's registers in every sorus window, and any other block through the fence of its
domain (R28).
(DEDUCED, log 77.) -/
def State.busWrite (s : State) (mid : Mid) (addr : Nat) (v : Word32) : State :=
  let a := alignReg addr
  match seqAlias a with
  | some q => if q = Reg.SEQ_OVR_CAUSE then s.recordWrite q v else s.seqRegWrite q v
  | none => s.gate mid a (some v) (fun s => s.blockWrite mid a v)

/-- A 32-bit register read by a MID.
(DEDUCED, log 77.) -/
def State.busRead (s : State) (mid : Mid) (addr : Nat) : State :=
  let a := alignReg addr
  match seqAlias a with
  | some q => s.seqRegRead q
  | none => s.gate mid a none (fun s => s.blockRead mid a)

/-- REGISTER_WRITE (R9). -/
def execRegisterWrite (mid : Mid) (addr : BitVec 28) (value : Word32) (s : State) : Result := .next (s.busWrite mid addr.toNat value)

/-- The register that an address reaches, with the sequencer's windows taken together. -/
def regAt (addr : Nat) : Nat := (seqAlias (alignReg addr)).getD (alignReg addr)

/-- A write that leaves every bit as it is but the RW1C bits of a mask (R9). -/
def State.w1cValue (s : State) (a : Nat) (mask : Word32) : Word32 :=
  match Reg.row a with
  | some r => (s.reg a &&& BitVec.ofNat 32 (r.rw ||| r.rwl)) ||| (mask &&& BitVec.ofNat 32 r.w1c)
  | none => 0

/-- STICKY_CLEAR (R10): 1s written to RW1C bits. -/
def execStickyClear (mid : Mid) (addr : BitVec 28) (mask : Word32) (s : State) : Result :=
  .next (s.busWrite mid addr.toNat (s.w1cValue (regAt addr.toNat) mask))

/-- COUNTER_READ (R10): an RC register is read, and clears. -/
def execCounterRead (mid : Mid) (addr : BitVec 28) (s : State) : Result := .next (s.busRead mid addr.toNat)

end Sys2Proof.Machine
end

