-- ==== Sys2Proof/Machine/Host.lean ====
section
/-! DEFINITION.  Accesses to the HBM by byte address (R326, R327, R338, R343), host requests through the BARs (R566 to R570), ring
requests from the head (R577), the partner's register accesses (R561) and debug transactions (R455). -/

namespace Sys2Proof.Machine

/-! ## The HBM -/

/-- The check of the words of a read, from word `w` on (R338): every one is counted and recorded.
(DEDUCED, log 84.) -/
def State.hbmEccs (s : State) (mid : Mid) (w : Nat) : List EccFind → State × Bool
  | [] => (s, true)
  | e :: r =>
    let x := s.hbmEcc mid (8 * w) e
    let y := State.hbmEccs x.1 mid (w + 1) r
    (y.1, x.2 && y.2)

/-- How many 8-byte words a request of `n` bytes from `a` on touches. -/
def wordCount (a n : Nat) : Nat := if n = 0 then 0 else (a + n - 1) / 8 - a / 8 + 1

/-- A read of `n` bytes (R326, R327, R338, R339); one uncorrectable word returns ECC_FATAL. -/
def State.hbmReadWords (s : State) (mid : Mid) (a n : Nat) (ecc : List EccFind) : State × Status × List Byte :=
  match s.hbmConditions mid a n false with
  | (s1, some c) => (s1, c, [])
  | (s1, none) =>
    match s1.hbmEccs mid (a / 8) (ecc.take (wordCount a n)) with
    | (s2, true) => (s2, Code.ok, s2.hbmBytes a n)
    | (s2, false) => (s2, Code.eccFatal, [])

/-- The words of a write, from word `w` on (R338): a whole word is stored, a part of one is a read-modify-write that an uncorrectable
read leaves unwritten.  `fuel` bounds the words. -/
def State.hbmStoreWords (s : State) (mid : Mid) (w : Nat) : Nat → List (Byte × Bool) → List EccFind → State × Bool
  | 0, _, _ => (s, true)
  | k + 1, l, ecc =>
    let p := l.take 8
    let x : State × Bool :=
      if p.length = 8 ∧ p.all (fun b => b.2) = true then (s.hbmStore (8 * w) p, true)
      else if p.any (fun b => b.2) then
        (match s.hbmEcc mid (8 * w) (ecc.headD .clean) with
         | (s1, true) => (s1.hbmStore (8 * w) p, true)
         | (s1, false) => (s1, false))
      else (s, true)
    let y := State.hbmStoreWords x.1 mid (w + 1) k (l.drop 8) (ecc.drop 1)
    (y.1, x.2 && y.2)

/-- A write of bytes with their enables (R326, R327, R338, R339, R555). -/
def State.hbmWriteWords (s : State) (mid : Mid) (a : Nat) (bytes : List (Byte × Bool)) (ecc : List EccFind) : State × Status :=
  match s.hbmConditions mid a bytes.length true with
  | (s1, some c) => (s1, c)
  | (s1, none) =>
    if s1.twin.suppress && ownWriter mid && s1.mirrored a then (s1, Code.ok)
    else
      let x := s1.hbmStoreWords mid (a / 8) (wordCount a bytes.length) (List.replicate (a % 8) (0, false) ++ bytes) ecc
      (x.1.twinMirror mid a bytes.length, if x.2 then Code.ok else Code.eccFatal)

/-- The controller answers: its domain is in RUN or GATED. -/
def State.hbmAnswers (s : State) : Bool := s.domState 70 == 0 || s.domState 70 == 5

/-- A read for an origin, held at the fence of the controller's domain where that is off. -/
def State.hbmReadFor (s : State) (o : Origin) (mid : Mid) (a n : Nat) (ecc : List EccFind) : State :=
  if s.hbmAnswers then
    let x := s.hbmReadWords mid a n ecc
    (x.1.reply x.2.1).finish o x.2.1 x.2.2
  else ({ s with caller := o } : State).firstAccess mid 70 (.hbmRead a n ecc)

/-- A write for an origin. -/
def State.hbmWriteFor (s : State) (o : Origin) (mid : Mid) (a : Nat) (bytes : List (Byte × Bool)) (ecc : List EccFind) : State :=
  if s.hbmAnswers then
    let x := s.hbmWriteWords mid a bytes ecc
    (x.1.reply x.2).finish o x.2 []
  else ({ s with caller := o } : State).firstAccess mid 70 (.hbmWrite a bytes ecc)

/-! ## Requests through the BARs -/

/-- The number of a BAR. -/
def barNumber : Bar → Nat
  | .regs => 0
  | .ring => 2
  | .hbm => 4

/-- A malformed access (R567): counted and recorded; a read completes with Completer Abort, and a write is discarded.
(DEDUCED, log 76.) -/
def State.malformed (s : State) : State := (s.countReg Reg.HST_MAL_CNT).raiseBit Fld.HST_STATUS_MALFORMED 497

/-- A host request enters the device. -/
def State.barBegin (s : State) (bar : Bar) (offset parts : Nat) (write : Bool) : State :=
  { s with host := { s.host with
      nextBar := s.host.nextBar + 1,
      bars := s.host.bars ++ [{ id := s.host.nextBar, bar := barNumber bar, offset := offset, write := write, parts := parts,
                                status := Code.ok, data := [] }] } }

/-- A part of a request through BAR0 or BAR2: a register of this device as MID 0x08, or of another device of the ring (R567,
R577). -/
def State.barReg (s : State) (id : Nat) (bar : Bar) (offset : Nat) (write : Option Word32) : State :=
  let d := offset / 2 ^ 28
  let a := offset % 2 ^ 28
  let here := match bar with
    | .ring => d == 0 && s.flag Fld.LRG_STATUS_HEAD
    | _ => true
  if here then
    s.access (.bar id) (fun s => match write with
      | some v => s.busWrite 0x08 a v
      | none => s.busRead 0x08 a)
  else s.ringRequest { tag := 0, dst := d, addr := a, write := write, bar := id }

/-- The 4-byte parts of a register request, in order of address (R8).
(DESIGN CHOICE, log 73.) -/
def State.barRegs (s : State) (id : Nat) (bar : Bar) (offset : Nat) : List (Option Word32) → State
  | [] => s
  | w :: r => State.barRegs (s.barReg id bar offset w) id bar (offset + 4) r

/-- A request through BAR0 or BAR2 is well formed: 4 or 8 bytes, naturally aligned (R567). -/
def barAligned (offset len : Nat) : Bool := (len == 4 || len == 8) && offset % len == 0

/-- MEMORY_READ (R567, R568). -/
def execMemoryRead (bar : Bar) (offset : BitVec 34) (len : Nat) (ecc : List EccFind) (s : State) : Result :=
  .next (if !s.flag Fld.HST_STATUS_LINK_UP then s
    else match bar with
      | .hbm =>
        if 4096 < len then s
        else (s.barBegin .hbm offset.toNat 1 false).hbmReadFor (.bar s.host.nextBar) 0x08 offset.toNat len ecc
      | b =>
        if barAligned offset.toNat len then
          (s.barBegin b offset.toNat (len / 4) false).barRegs s.host.nextBar b offset.toNat (List.replicate (len / 4) none)
        else s.malformed.abortRead (barNumber b) offset.toNat)

/-- MEMORY_WRITE (R567, R568): `be` are the byte enables of `bytes`. -/
def execMemoryWrite (bar : Bar) (offset : BitVec 34) (be : List Bool) (bytes : List Byte) (ecc : List EccFind) (s : State) : Result :=
  .next (if !s.flag Fld.HST_STATUS_LINK_UP then s
    else match bar with
      | .hbm =>
        if 512 < bytes.length then s
        else (s.barBegin .hbm offset.toNat 1 true).hbmWriteFor (.bar s.host.nextBar) 0x08 offset.toNat (bytes.zip be) ecc
      | b =>
        if barAligned offset.toNat bytes.length && be.length == bytes.length && be.all id then
          (s.barBegin b offset.toNat (bytes.length / 4) true).barRegs s.host.nextBar b offset.toNat
            ((pieces 4 bytes).map (fun p => some (BitVec.ofNat 32 (natOfBytes p))))
        else s.malformed)

/-- MSIX_UNMASK (R569): the mask of a vector is cleared. -/
def execMsixUnmask (vec : Fin 64) (s : State) : Result :=
  .next ((s.setReg (Reg.HST_MSIX_TBL (4 * vec + 3)) (s.reg (Reg.HST_MSIX_TBL (4 * vec + 3)) &&& 0xFFFFFFFE)).msixSend vec)

/-- LINK_IN_L0 (R566, R569): speed 1 to 4 and width 1, 2, 4 or 8, with the MSI-X enable and Bus Master Enable that the host sets in
the configuration space.
(DESIGN CHOICE, log 74.) -/
def execLinkInL0 (speed : Fin 5) (width : Fin 9) (msix master : Bool) (s : State) : Result :=
  .next (if speed.val ≠ 0 ∧ width.val ∈ [1, 2, 4, 8] ∧ s.domState 73 = 0 then
      (let s1 := ((s.setFld Fld.HST_STATUS_SPEED speed).setFld Fld.HST_STATUS_WIDTH width).setFlag Fld.HST_STATUS_LINK_UP true
       { s1 with host := { s1.host with msixEnable := msix, busMaster := master } })
    else s)

/-- The link leaves L0 (R570).
(DEDUCED, log 75.) -/
def State.linkLeaves (s : State) : State :=
  if s.flag Fld.HST_STATUS_LINK_UP then
    (((s.setFld Fld.HST_STATUS_SPEED 0).setFld Fld.HST_STATUS_WIDTH 0).setFlag Fld.HST_STATUS_LINK_UP false).raiseBit
      Fld.HST_STATUS_LINK_DOWN 498
  else s

/-- HOST_RESET (R570): the link leaves L0 but at a function level reset.
(DEDUCED, log 75.) -/
def execHostReset (cause : HostResetCause) (s : State) : Result :=
  .next (
    let s1 : State := { s with
      regs := s.regs.filter (fun e => !(decide (0x08101000 ≤ e.1) && decide (e.1 < 0x08102008))),
      host := { s.host with msixEnable := false, busMaster := false, bars := [], aer := none } }
    let s2 := (s1.resetEndsOf 8).raiseBit Fld.HST_STATUS_HRESET 499
    match cause with
    | .flr => s2
    | _ => s2.linkLeaves)

/-! ## Requests of other devices -/

/-- RING_RD (R573, R577): a read as MID 0x09, answered with RSP.
(DESIGN CHOICE, log 73.) -/
def execRingRd (hdr : RingHeader) (addr : BitVec 28) (crcOk : Bool) (s : State) : Result :=
  .next (s.ringFrame hdr.dst hdr.hops hdr.bcast crcOk
    (fun s => s.emit (.ringFrame 2 hdr.dst hdr.src hdr.bcast hdr.tag.toNat [addr.toNat]))
    (fun s => s.access (.ring hdr.tag.toNat hdr.src) (fun s => s.busRead 0x09 addr.toNat)))

/-- RING_WR (R573, R577).
(DESIGN CHOICE, log 73.) -/
def execRingWr (hdr : RingHeader) (addr : BitVec 28) (value : Word32) (crcOk : Bool) (s : State) : Result :=
  .next (s.ringFrame hdr.dst hdr.hops hdr.bcast crcOk
    (fun s => s.emit (.ringFrame 3 hdr.dst hdr.src hdr.bcast hdr.tag.toNat [addr.toNat, value.toNat]))
    (fun s => s.access (.ring hdr.tag.toNat hdr.src) (fun s => (s.busWrite 0x09 addr.toNat value))))

/-- REG (R561): the partner's request is carried out as MID 0x0A; its answer completes this twin's own access.
(DEDUCED, log 97.) -/
def execTwinReg (frame : RegFrame) (s : State) : Result :=
  .next (match frame with
    | .request addr w => s.access .twin (fun s => match w with
        | some v => s.busWrite 0x0A addr.toNat v
        | none => s.busRead 0x0A addr.toNat)
    | .answer code data =>
      if s.twin.racc then
        (if s.flag Fld.TWN_RACC_CTRL_WRITE then s else s.setReg Reg.TWN_RACC_DATA data).raccDone code
      else s)

/-! ## Debug (R453 to R455) -/

/-- A debug module accepts a transaction for a core: in the open state or with DBG_EN, while the core is on. -/
def State.debugOpen (s : State) (k : Nat) : Bool :=
  (s.openState || s.flag Fld.LIB_CTRL_DBG_EN) && s.domState (78 + k) == 0 && !(k == 1 && s.lib.c1Held) && !s.clock.porst

/-- A transaction that fails.
(DEDUCED, log 87.) -/
def State.debugFails (s : State) : State := s.emit (.debug false 0)

/-- A core-local register read (R454). -/
def State.coreLocal (s : State) (k o : Nat) : Word32 :=
  let cmp := Sparse.get (BitVec.allOnes 64) s.lib.mtimecmp k
  match o with
  | 0x00 => BitVec.ofNat 32 s.count
  | 0x04 => Sparse.get 0 s.lib.mtimeHi k
  | 0x08 => BitVec.ofNat 32 cmp.toNat
  | 0x0C => BitVec.ofNat 32 (cmp.toNat / 2 ^ 32)
  | 0x10 => if Sparse.get false s.lib.msip 0 then 1 else 0
  | 0x14 => if Sparse.get false s.lib.msip 1 then 1 else 0
  | _ => 0

/-- MSIP of a core written (R454): its software interrupt rises with it (cause 3, PRESUMED from the RISC-V cause numbers).
(PRESUMED, log 86.) -/
def State.setMsip (s : State) (k : Nat) (b : Bool) : State :=
  let s1 : State := { s with lib := { s.lib with msip := Sparse.put false s.lib.msip k b } }
  if b && !Sparse.get false s.lib.msip k then s1.emit (.coreInterrupt k 3) else s1

/-- A core's compare value replaced (R454). -/
def State.setCmp (s : State) (k n : Nat) : State :=
  { s with lib := { s.lib with mtimecmp := Sparse.put (BitVec.allOnes 64) s.lib.mtimecmp k (BitVec.ofNat 64 n) } }

/-- A core-local register written (R454). -/
def State.coreLocalWrite (s : State) (k o : Nat) (v : Word32) : State :=
  let cmp := (Sparse.get (BitVec.allOnes 64) s.lib.mtimecmp k).toNat
  match o with
  | 0x08 => s.setCmp k (cmp / 2 ^ 32 * 2 ^ 32 + v.toNat)
  | 0x0C => s.setCmp k (v.toNat * 2 ^ 32 + cmp % 2 ^ 32)
  | 0x10 => s.setMsip 0 (bitOf v.toNat 0)
  | 0x14 => s.setMsip 1 (bitOf v.toNat 0)
  | _ => s

/-- The HBM address behind an address of a core's window (R453). -/
def State.coreHbm (s : State) (k a : Nat) : Nat := s.fld (Fld.LIB_HBMWIN_BASE k) * 2 ^ 30 + (a - 0x40000000)

/-- A debug read (R453); the words of the ROM are left open by the manual (log entry 65).
(DESIGN CHOICE, log 65.) -/
def State.debugRead (s : State) (k addr : Nat) : State :=
  let a := addr / 4 * 4
  let mid : Mid := BitVec.ofNat 8 k
  if a < 0x20000 then s.emit (.debug true (Config.romWord (a / 4)).toNat)
  else if 0x10000000 ≤ a ∧ a < 0x10080000 then s.emit (.debug true (s.sramWord ((a - 0x10000000) / 4)).toNat)
  else if 0x20000000 ≤ a ∧ a < 0x30000000 then s.access .debug (fun s => s.busRead mid (a - 0x20000000))
  else if 0x40000000 ≤ a ∧ a < 0x80000000 then s.hbmReadFor .debug mid (s.coreHbm k a) 4 []
  else if 0xE0000000 ≤ a ∧ a < 0xE0000100 then
    (let v := s.coreLocal k (a - 0xE0000000)
     (s.when (a == 0xE0000000) (fun s => s.mtimeRead k)).emit (.debug true v.toNat))
  else s.debugFails

/-- A debug write (R453): a store to the ROM fails. -/
def State.debugWrite (s : State) (k addr : Nat) (v : Word32) : State :=
  let a := addr / 4 * 4
  let mid : Mid := BitVec.ofNat 8 k
  if 0x10000000 ≤ a ∧ a < 0x10080000 then (s.setSram ((a - 0x10000000) / 4) v).emit (.debug true 0)
  else if 0x20000000 ≤ a ∧ a < 0x30000000 then s.access .debug (fun s => s.busWrite mid (a - 0x20000000) v)
  else if 0x40000000 ≤ a ∧ a < 0x80000000 then
    s.hbmWriteFor .debug mid (s.coreHbm k a) ((bytesOf32 v).map (fun b => (b, true))) []
  else if 0xE0000000 ≤ a ∧ a < 0xE0000100 then (s.coreLocalWrite k (a - 0xE0000000) v).emit (.debug true 0)
  else s.debugFails

/-- A core halted in debug mode, or running on. -/
def State.setHalted (s : State) (k : Nat) (b : Bool) : State :=
  ({ s with lib := { s.lib with halted := Sparse.put false s.lib.halted k b } } : State).emit (.debug true 0)

/-- DEBUG_TRANSACTION (R455).
(DEDUCED, log 87.) -/
def execDebugTransaction (core : Fin 2) (op : DebugOp) (s : State) : Result :=
  .next (if !s.debugOpen core then s.debugFails
    else match op with
      | .halt => (s.when (!Sparse.get false s.lib.halted core) (fun s => s.wdtHalt core)).setHalted core true
      | .resume => (s.when (Sparse.get false s.lib.halted core) (fun s => s.wdtResume core)).setHalted core false
      | .read a => if Sparse.get false s.lib.halted core then s.debugRead core a.toNat else s.debugFails
      | .write a v => if Sparse.get false s.lib.halted core then s.debugWrite core a.toNat v else s.debugFails)

end Sys2Proof.Machine
end

