-- ==== Sys2Proof/Machine/Packets.lean ====
section
/-! DEFINITION.  The general plane (R194 to R206, R209 to R211): injection, hops, fences, and what packets do at their endpoints. -/

namespace Sys2Proof.Machine

/-! ## Endpoints (R182) -/

/-- The domain of the management block at a node, and its MID; a block of PDAON has no domain. -/
def managementAt (n : Nat) : Option (Option Nat × Mid) :=
  if n = nodeAt 0 0 then some (some 73, 0x08)
  else if n = nodeAt 1 0 then some (some 74, 0x09)
  else if n = nodeAt 6 0 then some (some 78, 0x00)
  else if n = nodeAt 7 0 then some (some 79, 0x01)
  else if n = nodeAt 0 5 then some (some 76, 0x10)
  else if n = nodeAt 1 5 then some (some 77, 0x11)
  else if n = nodeAt 6 5 then some (none, 0x13)
  else if n = nodeAt 7 5 then some (some 72, 0x0A)
  else none

/-- A node serves an endpoint (R182). -/
def serves (n ep : Nat) : Bool :=
  match ep with
  | 0 => (vOfNode n).isSome
  | 1 => (quadOfNode n).isSome
  | 2 => n % 8 == 0 && decide (8 ≤ n) && decide (n < 40)
  | 3 => n == nodeAt 7 2 || n == nodeAt 7 3
  | 4 => (managementAt n).isSome
  | _ => false

/-- The domain of the block behind an endpoint (R182, R183). -/
def State.endpointDomain (s : State) (n ep : Nat) : Option Nat :=
  match ep with
  | 0 => match vOfNode n with
    | some v => if s.physOf v = 0xFF then none else some (s.physOf v)
    | none => none
  | 1 => (quadOfNode n).map (fun q => 34 + q)
  | 2 => some 70
  | 3 => some (66 + (n / 8 - 2))
  | _ => match managementAt n with
    | some (d, _) => d
    | none => none

/-- The MID that the injection point of an endpoint stamps (R30, R31); the link engines and the controller have none there. -/
def State.stampOf (s : State) (n ep : Nat) : Option Mid :=
  match ep with
  | 0 => match vOfNode n with
    | some v => if s.physOf v = 0xFF then none else some (BitVec.ofNat 8 (0x20 + s.physOf v))
    | none => none
  | 3 => some 0x12
  | 4 => (managementAt n).map (fun x => x.2)
  | _ => none

/-! ## Injection -/

/-- A packet stamped by its injection point; a MID that R30 does not give is a free value. -/
def State.stampPacket (s : State) (n ep : Nat) (p : Packet) : Packet × State :=
  let q := { p with snode := BitVec.ofNat 6 n, sep := BitVec.ofNat 3 ep }
  match s.stampOf n ep with
  | some m => ({ q with mid := m }, s)
  | none => let f := s.takeFree; ({ q with mid := f.1.setWidth 8 }, f.2)

/-- A request that its endpoint's quota refuses completes with OVER_QUOTA, and is not sent (R205). -/
def State.overQuota (s : State) (n ep : Nat) : State :=
  (s.nodeRaise (Fld.RZ_NODE_STAT_OVER_QUOTA n) n).emit (.packetDone n ep 0 Code.overQuota [])

/-- A request takes a tag and counts as outstanding (R200).
(DEDUCED, log 83.) -/
def State.admitReq (s : State) (n ep : Nat) (p : Packet) : State :=
  let t := s.freeTag n ep
  let s1 := s.holdTag n ep t { mid := p.mid, addr := p.addr.toNat, write := p.opc == 1, timedOut := false }
  (s1.setFld (Fld.RZ_OUTST_COUNT n ep) (s1.fld (Fld.RZ_OUTST_COUNT n ep) + 1)).queuePacket n ep { p with tag := BitVec.ofNat 10 t }

/-- A new packet at an injection point: a REQ is refused over the quota (R205), and with 64 outstanding its requester keeps it
(R200).
(DESIGN CHOICE, log 82.) -/
def State.newPacket (s : State) (n ep : Nat) (p : Packet) : State :=
  let x := s.stampPacket n ep p
  if p.cls = 0 then
    (if s.rzOverQuota n ep then s.overQuota n ep
     else if 64 ≤ s.fld (Fld.RZ_OUTST_COUNT n ep) then s
     else x.2.admitReq n ep x.1)
  else x.2.queuePacket n ep x.1

/-- PACKET_INJECTION (R204, R205): a new packet, or the first of those that wait. -/
def execPacketInjection (node : Fin 48) (ep : Fin 5) (pkt : Option Packet) (s : State) : Result :=
  .next (if serves node ep then
      match pkt with
      | some p => if p.data.length ≤ 15 then s.newPacket node ep p else s
      | none => s.injectPacket node ep
    else s)

/-! ## Hops -/

/-- A flight replaced. -/
def State.setFlight (s : State) (id : Nat) (f : Flight) : State :=
  { s with rz := { s.rz with flights := Sparse.put none s.rz.flights id (some f) } }

/-- The output code of a packet at its node, by the table of its own epoch (R196); reserved codes act as 0. -/
def State.routeCode (s : State) (f : Flight) : Nat :=
  let e := (s.reg (Reg.RZ_ROUTE f.node f.epoch f.pkt.dnode.toNat)).toNat
  let c := (e >>> (3 * f.pkt.cls.toNat)) % 8
  if 5 < c ∨ 48 ≤ f.pkt.dnode.toNat ∨ f.pkt.cls = 3 then 0 else c

/-- A packet without a route (R196).
(DEDUCED, log 83.) -/
def State.noRoute (s : State) (id : Nat) (f : Flight) : State :=
  ((s.endPacket id f.node f.pkt Code.rzNoroute []).countReg (Reg.RZ_NODE_DROP f.node)).nodeRaise (Fld.RZ_NODE_STAT_NOROUTE f.node) f.node

/-- The check of the header at a node (R199); none where the packet is discarded. -/
def State.checkHeader (s : State) (id n : Nat) (find : EccFind) : State × Bool :=
  match find with
  | .clean => (s, true)
  | .corrected => (s.countReg (Reg.RZ_NODE_CORR n), true)
  | .uncorrectable =>
    (((s.dropFlight id).countReg (Reg.RZ_NODE_DROP n)).nodeRaise (Fld.RZ_NODE_STAT_HDR_UNC n) n, false)

/-- Data units of a class are checked at every hop (R199). -/
def State.perHop (s : State) (cls : Nat) : Bool :=
  match cls with
  | 0 => s.flag Fld.RZ_CHK_REQ
  | 1 => s.flag Fld.RZ_CHK_RSP
  | _ => s.flag Fld.RZ_CHK_MGT

/-- The check of the data units at a node, at every hop or at the destination alone (R199). -/
def State.checkData (s : State) (f : Flight) (find : EccFind) : State × Flight :=
  if f.pkt.data.isEmpty || !(s.perHop f.pkt.cls.toNat || f.pkt.dnode.toNat == f.node) then (s, f)
  else match find with
    | .clean => (s, f)
    | .corrected => (s.countReg (Reg.RZ_NODE_CORR f.node), f)
    | .uncorrectable => (s.nodeRaise (Fld.RZ_NODE_STAT_DATA_UNC f.node) f.node, { f with marked := true })

/-- A malformed packet (R195).
(DEDUCED, log 83.) -/
def packetMalformed (p : Packet) : Bool :=
  match p.opc.toNat with
  | 0 => p.cls != 0 || !p.data.isEmpty
  | 1 => p.cls != 0 || p.data.isEmpty
  | 2 => p.cls != 1
  | 3 => p.cls != 1
  | 4 => p.cls != 2
  | _ => true

/-- A packet at its destination node (R195, R210): malformed, held at the fence of its endpoint, or at its endpoint. -/
def State.arrive (s : State) (id : Nat) (f : Flight) : State :=
  if packetMalformed f.pkt then
    (s.endPacket id f.node f.pkt Code.rzMalformed []).nodeRaise (Fld.RZ_NODE_STAT_MALFORMED f.node) f.node
  else match s.endpointDomain f.node f.pkt.dep.toNat with
    | some d =>
      if f.pkt.cls = 1 ∨ s.domState d = 0 ∨ s.domState d = 5 then s.setFlight id { f with arrived := true }
      else (s.setFlight id { f with held := true }).firstAccess f.pkt.mid d (.packet id)
    | none => s.setFlight id { f with arrived := true }

/-- A packet sent on to a neighbour (R196, R211): held where the column it would enter is off.
(DEDUCED, log 83.) -/
def State.hopTo (s : State) (id : Nat) (f : Flight) (m : Nat) : State :=
  let d := 58 + m % 8
  if s.domState d = 0 ∨ s.domState d = 5 ∨ s.domState d = 1 then
    s.setFlight id { f with node := m, hops := f.hops + 1 }
  else (s.setFlight id { f with held := true }).firstAccess f.pkt.mid d (.packet id)

/-- A packet is routed at its node (R196). -/
def State.route (s : State) (id : Nat) (f : Flight) : State :=
  let c := s.routeCode f
  let here := f.pkt.dnode.toNat == f.node
  if f.hops = 15 ∧ here = false then s.noRoute id f
  else if c = 0 then s.noRoute id f
  else if c = 5 then (if here && serves f.node f.pkt.dep.toNat then s.arrive id f else s.noRoute id f)
  else match neighbour f.node c with
    | some m => s.hopTo id f m
    | none => s.noRoute id f

/-- PACKET_HOP (R196, R199, R210): `hdr` and `data` are what the node's checks find. -/
def execPacketHop (id : Nat) (hdr data : EccFind) (s : State) : Result :=
  .next (match Sparse.get none s.rz.flights id with
    | none => s
    | some f =>
      if f.held || f.arrived then s
      else
        let x := s.checkHeader id f.node hdr
        if x.2 then
          (let y := x.1.checkData f data
           y.1.route id y.2)
        else x.1)

/-! ## At the endpoint -/

/-- Byte enables of data unit `k` of `n` (R194). -/
def packetEnables (p : Packet) (k n : Nat) : Word32 :=
  if k = 0 then p.firstBe else if k + 1 = n then p.lastBe else BitVec.allOnes 32

/-- The address of data unit `k` (R194). -/
def packetAddr (p : Packet) (k : Nat) : Nat := p.addr.toNat / 32 * 32 + 32 * k

/-- A register access at an endpoint whose fence is passed; an address outside the register space reads 0. -/
def State.endpointReg (s : State) (mid : Mid) (a : Nat) (write : Option Word32) : State :=
  if 2 ^ 28 ≤ a then s.reply Code.ok
  else match seqAlias a, write with
    | some q, some v => if q = Reg.SEQ_OVR_CAUSE then s.recordWrite q v else s.seqRegWrite q v
    | some q, none => s.seqRegRead q
    | none, some v => s.blockWrite mid a v
    | none, none => s.blockRead mid a

/-- The registers of a request, in order of address: those of the lanes that are enabled in part (reads) or whole (writes); the
first status that is not OK, and the words read.
(DEDUCED, log 84.) -/
def State.regUnits (s : State) (mid : Mid) : List (Nat × Option Word32 × Bool) → State × Status × List Word32
  | [] => (s, Code.ok, [])
  | (a, w, on) :: r =>
    if on then
      let s1 := s.endpointReg mid a w
      let d := s1.done
      let x := State.regUnits s1 mid r
      (x.1, if d.status = Code.ok then x.2.1 else d.status, d.data :: x.2.2)
    else
      let x := State.regUnits s mid r
      (x.1, x.2.1, 0 :: x.2.2)

/-- Four byte enables of a unit's lane.
(DEDUCED, log 84.) -/
def laneBe (be : Word32) (l : Nat) : Nat := (be.toNat >>> (4 * l)) % 16

/-- Data units made of 32-bit words, eight to a unit. -/
def unitsOfWords (ws : List Word32) : List (BitVec 256) :=
  (List.range ((ws.length + 7) / 8)).map (fun k =>
    BitVec.ofNat 256 (natOfBytes (((ws.drop (8 * k)).take 8).flatMap bytesOf32)))

/-- Data units made of bytes. -/
def unitsOfBytes (b : List Byte) : List (BitVec 256) :=
  (List.range ((b.length + 31) / 32)).map (fun k => BitVec.ofNat 256 (natOfBytes ((b.drop (32 * k)).take 32)))

/-- RD carried out (R195): the HBM at endpoint 2, registers elsewhere (R184). -/
def State.rdRun (s : State) (p : Packet) (ecc : List EccFind) : State × Status × List (BitVec 256) :=
  let n := p.rdlen.toNat + 1
  if p.dep = 2 then
    let x := s.hbmReadWords p.mid (packetAddr p 0) (32 * n) ecc
    (x.1, x.2.1, unitsOfBytes x.2.2)
  else
    let x := s.regUnits p.mid ((List.range (8 * n)).map (fun i =>
      (packetAddr p (i / 8) + 4 * (i % 8), none, laneBe (packetEnables p (i / 8) n) (i % 8) != 0)))
    (x.1, x.2.1, if x.2.1 = Code.ok then unitsOfWords x.2.2 else [])

/-- WR carried out (R195, R199): no part of one with a marked unit. -/
def State.wrRun (s : State) (f : Flight) (ecc : List EccFind) : State × Status :=
  let p := f.pkt
  let n := p.data.length
  if f.marked then (s, Code.eccFatal)
  else if p.dep = 2 then
    let bytes := p.data.zipIdx.flatMap (fun d =>
      (List.range 32).map (fun i => (BitVec.ofNat 8 (d.1.toNat >>> (8 * i)), (packetEnables p d.2 n).getLsbD i)))
    s.hbmWriteWords p.mid (packetAddr p 0) bytes ecc
  else
    let x := s.regUnits p.mid ((List.range (8 * n)).map (fun i =>
      (packetAddr p (i / 8) + 4 * (i % 8), some (BitVec.ofNat 32 ((p.data.getD (i / 8) 0).toNat >>> (32 * (i % 8)))),
       laneBe (packetEnables p (i / 8) n) (i % 8) == 15)))
    (x.1, x.2.1)

/-- A packet of opcode `opc` that has reached its endpoint. -/
def State.atEndpoint (s : State) (id opc : Nat) : Option Flight :=
  match Sparse.get none s.rz.flights id with
  | some f => if f.arrived && f.pkt.opc.toNat == opc then some f else none
  | none => none

/-- RD (R195): `ecc` is what the controller finds in the words. -/
def execRzRd (id : Nat) (ecc : List EccFind) (s : State) : Result :=
  .next (match s.atEndpoint id 0 with
    | some f => let x := s.rdRun f.pkt ecc; x.1.endPacket id f.node f.pkt x.2.1 x.2.2
    | none => s)

/-- WR (R195, R199). -/
def execRzWr (id : Nat) (ecc : List EccFind) (s : State) : Result :=
  .next (match s.atEndpoint id 1 with
    | some f => let x := s.wrRun f ecc; x.1.endPacket id f.node f.pkt x.2 []
    | none => s)

/-- A request of an endpoint completes at its injection point (R200, R329, R330): a memory port takes the response, and any other
requester is told. -/
def State.requestDone (s : State) (n ep t : Nat) (x : RzTag) (code : Status) (data : List (BitVec 256)) : State :=
  if 0x20 ≤ x.mid.toNat then
    let word : Word64 := BitVec.ofNat 64 ((data.headD 0).toNat >>> (8 * (x.addr % 32)))
    { s with hbm := { s.hbm with reqs := s.hbm.reqs.map (fun r =>
        if r.tag = some t ∧ nodeOfVirtual r.virt = n ∧ r.resp.isNone = true then
          { r with served := true, resp := some (code, word) } else r) } }
  else
    (s.setFld (Fld.RZ_OUTST_COUNT n ep) (s.fld (Fld.RZ_OUTST_COUNT n ep) - 1)).emit (.packetDone n ep t code data)

/-- The key of a tag of an endpoint. -/
def tagKey (n ep t : Nat) : Nat := (n * 8 + ep) * 1024 + t

/-- A tag is free again. -/
def State.freeUp (s : State) (n ep t : Nat) : State :=
  { s with rz := { s.rz with tags := Sparse.put none s.rz.tags (tagKey n ep t) none } }

/-- A response arrives at its requester (R199, R203): a late one is discarded, and frees its tag. -/
def State.response (s : State) (id : Nat) (f : Flight) : State :=
  let n := f.node
  let ep := f.pkt.dep.toNat
  let t := f.pkt.tag.toNat
  let s1 := s.dropFlight id
  match Sparse.get none s.rz.tags (tagKey n ep t) with
  | none => s1.countReg (Reg.RZ_NODE_DROP n)
  | some x =>
    if x.timedOut then (s1.freeUp n ep t).countReg (Reg.RZ_NODE_DROP n)
    else (s1.freeUp n ep t).requestDone n ep t x (if f.marked then Code.eccFatal else f.pkt.status) f.pkt.data

/-- RDRSP (R195, R199, R201). -/
def execRzRdrsp (id : Nat) (s : State) : Result :=
  .next (match s.atEndpoint id 2 with
    | some f => s.response id f
    | none => s)

/-- WRRSP (R195, R201). -/
def execRzWrrsp (id : Nat) (s : State) : Result :=
  .next (match s.atEndpoint id 3 with
    | some f => s.response id f
    | none => s)

/-- MSG (R195, R199): the receiving block takes it, with ECC_FATAL for a marked one. -/
def execRzMsg (id : Nat) (s : State) : Result :=
  .next (match s.atEndpoint id 4 with
    | some f => (s.dropFlight id).emit
        (.packetMsg f.node f.pkt.dep.toNat f.pkt.mid (if f.marked then Code.eccFatal else Code.ok) f.pkt.data)
    | none => s)

/-- RSP_TMO (R203): a request without a response completes with TIMEOUT; 0 in RZ_RSP_TMO disables it. -/
def execRspTmo (node : Fin 48) (ep : Fin 5) (tag : BitVec 10) (s : State) : Result :=
  .next (match Sparse.get none s.rz.tags (tagKey node ep tag.toNat) with
    | none => s
    | some x =>
      if x.timedOut || s.fld Fld.RZ_RSP_TMO_US == 0 then s
      else
        ((s.holdTag node ep tag.toNat { x with timedOut := true }).nodeRaise (Fld.RZ_NODE_STAT_RSP_TMO node) node).requestDone node ep
          tag.toNat x Code.timeout [])

/-- TAG_FREE (R203): a further RZ_RSP_TMO has passed without the late response. -/
def execTagFree (node : Fin 48) (ep : Fin 5) (tag : BitVec 10) (s : State) : Result :=
  .next (match Sparse.get none s.rz.tags (tagKey node ep tag.toNat) with
    | some x => if x.timedOut then s.freeUp node ep tag.toNat else s
    | none => s)

/-- The first of the requests held for a domain is answered WAKE_TIMEOUT (R210 order 5).
(DEDUCED, log 85.) -/
def State.heldTimeout (s : State) (d : Nat) : State :=
  match s.pwr.held.find? (fun h => h.dom == d) with
  | none => s
  | some h =>
    let rest := s.pwr.held.erase h
    let s1 := ({ s with pwr := { s.pwr with held := rest } } : State).answerReq h Code.wakeTimeout
    let s2 := if rest.any (fun x => x.dom == d) then s1
      else (s1.nodesOfDomain d).foldl (fun s n => s.setFlag (Fld.RZ_NODE_STAT_HOLDING n) false) (s1.setFlag (Fld.PWR_DSTAT_HELD d) false)
    (s2.nodesOfDomain d).foldl (fun s n => s.nodeRaise (Fld.RZ_NODE_STAT_HELD_TMO n) n) s2

/-- HELD_TMO (R210): of the request held longest for a domain.
(DEDUCED, log 85.) -/
def execHeldTmo (dom : Fin 88) (s : State) : Result := .next (s.heldTimeout dom)

end Sys2Proof.Machine
end

