-- ==== Sys2Proof/Machine/Wake.lean ====
section
/-! DEFINITION.  The end of a domain's wake and of the device's return to RUN (R512, R513, R516, R525, R526). -/

namespace Sys2Proof.Machine

/-! ## Domains -/

/-- Registers that no wake of a domain resets: the security block's, which R511 puts in no switched domain (log entry 66).
(DEDUCED, log 66.) -/
def keptReg (a : Nat) : Bool := decide (0x02020000 ≤ a) && decide (a < 0x02030000)

/-- A domain's reset and the initialising of its memories (R513, R516 step 2).
(DEDUCED, log 105.) -/
def State.initDomain (s : State) (d : Nat) : State :=
  let s1 := s.resetRegsOf (fun a => domainOfAddr a == some d && !keptReg a)
  if d < 34 then s1.clearSorus d
  else if d = 68 then { s1 with acq := { s1.acq with ctx := dropRange s1.acq.ctx 0 131072 } }
  else if d = 69 then { s1 with acq := { s1.acq with ctx := dropRange s1.acq.ctx 131072 262144 } }
  else s1

/-- A held request is delivered (R516 step 4). -/
def State.deliverHeld (s : State) (h : HeldReq) : State :=
  match h.access with
  | .bare => s
  | .reg a (some v) => s.access h.origin (fun s => s.busWrite h.mid a v)
  | .reg a none => s.access h.origin (fun s => s.busRead h.mid a)
  | .hbmRead a n ecc => s.hbmReadFor h.origin h.mid a n ecc
  | .hbmWrite a bytes ecc => s.hbmWriteFor h.origin h.mid a bytes ecc
  | .packet id =>
    match Sparse.get none s.rz.flights id with
    | some f => s.setFlight id { f with held := false, arrived := f.pkt.dnode.toNat == f.node }
    | none => s

/-- The held requests of a domain are delivered in order of arrival, and its nodes hold none (R210, R516). -/
def State.deliverAll (s : State) (d : Nat) : State :=
  let hs := s.pwr.held.filter (fun h => h.dom == d)
  let s1 : State := { s with pwr := { s.pwr with held := s.pwr.held.filter (fun h => h.dom != d) } }
  let s2 := (s1.nodesOfDomain d).foldl (fun s n => s.setFlag (Fld.RZ_NODE_STAT_HOLDING n) false)
    (s1.setFlag (Fld.PWR_DSTAT_HELD d) false)
  hs.foldl State.deliverHeld s2

/-- A domain whose power has come back returns to RUN (R516 steps 2 to 4).
(DEDUCED, log 105.) -/
def State.wakeDone (s : State) (d : Nat) : State := ((s.initDomain d).toRun d).deliverAll d

/-- WAKE_COMPLETE (R513, R516). -/
def execWakeComplete (dom : Fin 88) (s : State) : Result := .next (if s.domState dom = 4 then s.wakeDone dom else s)

/-! ## The device -/

/-- A domain takes its RUN-time standing as the device returns to RUN (R512, R525): its clocks start again, or it wakes from OFF
where a request or a hold keeps it on, with the source of the exit recorded. -/
def State.standUp (s : State) (d : Nat) : State :=
  match s.domState d with
  | 3 =>
    if s.wanted d then
      ((s.setFld (Fld.PWR_DSTAT_WAKE_SRC d) s.pwr.exitSrc).setFld (Fld.PWR_DSTAT_WAKE_IDX d) s.pwr.exitIdx).wakeDone d
    else s
  | 4 => s.wakeDone d
  | 5 => (s.toRun d).deliverAll d
  | 6 => (s.toRun d).deliverAll d
  | _ => s

/-- The order in which domains return to RUN: those of the cores first (R525). -/
def exitOrder : List Nat := 78 :: 79 :: (List.range 88).filter (fun d => d != 78 && d != 79)

/-- The device is back in RUN (R525, R528): PWR_WAKE, WAKE and EV482; the gate lifts, and VSEL returns to the level in force. -/
def State.deviceRuns (s : State) : State :=
  let s1 : State := { s with pwr := { s.pwr with gated := false, vsel := s.fld Fld.PWR_STATUS_LEVEL } }
  let s2 := (((s1.setFld Fld.PWR_STATUS_STATE 0).setFld Fld.PWR_WAKE_SRC s.pwr.exitSrc).setFld Fld.PWR_WAKE_IDX s.pwr.exitIdx).setFld
    Fld.PWR_WAKE_FROM s.pwr.source
  (s2.setFlag Fld.PWR_CMD_STAT_PENDING false).raiseBit Fld.PWR_STATUS_WAKE 482

/-- EXIT_COMPLETE (R525, R526). -/
def execExitComplete (s : State) : Result :=
  .next (if s.devState = 6 then (exitOrder.foldl State.standUp s).deviceRuns else s)

/-! ## OFF -/

/-- Registers that keep their value through OFF whatever their access: those of PDAON, the identity and what the reference clock
measured (R511, R526; log entry 66).
(DEDUCED, log 66.) -/
def keptInOff (a : Nat) : Bool :=
  decide (a < 0x00000100) || (decide (0x00100000 ≤ a) && decide (a < 0x00300000)) || a == Reg.CLK_RPLL || fuseReg a ||
    a == Reg.LIB_SMB_CFG

/-- The device leaves OFF (R513, R526): what is not in PDAON starts from its reset state, the straps' settings are made again, and
core 0 runs the ROM.
(DEDUCED, log 66.) -/
def State.leaveOff (s : State) : State :=
  let s1 := s.resetRegsOf (fun a => !keptInOff a)
  let s2 : State := { State.reset with
    pending := s1.pending, regs := s1.regs, out := s1.out, freeIdx := s1.freeIdx,
    clock := { s1.clock with rpllOn := true, cfgErr := false, bootStop := false, everLocked := false },
    pwr := { s1.pwr with source := 4, exitSrc := 5, exitIdx := 0 },
    host := { HostSt.reset with lastNum := s1.host.lastNum },
    lib := { LibrarianSt.reset with c1Held := !s1.flag Fld.LIB_CTRL_C1_RUN },
    sec := { SecSt.reset with therm := s1.sec.therm },
    iob := { IobSt.reset with ball := s1.iob.ball, tapIr := s1.iob.tapIr, tapBlocked := s1.iob.tapBlocked, cells := s1.iob.cells } }
  let s3 := (s2.setFld Fld.LDR_XSPI_ROLE (min (s1.fld Fld.DEV_STRAPS_BOOTSEL % 4) 2)).setFld Fld.PWR_STATUS_STATE 6
  ((s3.mirrorConfig).startCause 0 0).setPhase 1

/-- WAKE_N (R525, R526): from OFF only with every supply in its operating conditions and TS46 read below 95 °C. -/
def execWakeN (suppliesOk : Bool) (s : State) : Result :=
  .next (if s.devState = 4 then
      (if suppliesOk && decide (signedOf 16 (s.fld (Fld.LIB_TS_VALUE 46)) < 380) then s.leaveOff else s)
    else s.exitSource 5 0 true true true)

end Sys2Proof.Machine
end

