-- ==== Sys2Proof/Machine/Dispatch.lean ====
section
/-! DEFINITION.  Which meaning each command has: one arm for each constructor of Instr, in the order of the table. -/

namespace Sys2Proof.Machine

/-- The effect of a command on everything but the queue. -/
def exec (i : Instr) (s : State) : Host.Outcome State Fault Refusal :=
  match i with
  | .porstN => Sys2Proof.Machine.execPorstN s
  | .powerOnReset => Sys2Proof.Machine.execPowerOnReset s
  | .porstNRelease bootsel devnum role refKhz => Sys2Proof.Machine.execPorstNRelease bootsel devnum role refKhz s
  | .rpllLock phase => Sys2Proof.Machine.execRpllLock phase s
  | .refclk0Loss => Sys2Proof.Machine.execRefclk0Loss s
  | .relock mid => Sys2Proof.Machine.execRelock mid s
  | .bpNop bp => Sys2Proof.Machine.execBpNop bp s
  | .bpEval bp => Sys2Proof.Machine.execBpEval bp s
  | .bpEvalx bp => Sys2Proof.Machine.execBpEvalx bp s
  | .gangAdd bp => Sys2Proof.Machine.execGangAdd bp s
  | .gangSub bp => Sys2Proof.Machine.execGangSub bp s
  | .gangCmplt bp => Sys2Proof.Machine.execGangCmplt bp s
  | .gangCmple bp => Sys2Proof.Machine.execGangCmple bp s
  | .gangCmpeq bp => Sys2Proof.Machine.execGangCmpeq bp s
  | .gangMin bp => Sys2Proof.Machine.execGangMin bp s
  | .gangMax bp => Sys2Proof.Machine.execGangMax bp s
  | .gangAbsdiff bp => Sys2Proof.Machine.execGangAbsdiff bp s
  | .bpMrd bp => Sys2Proof.Machine.execBpMrd bp s
  | .bpMwr bp => Sys2Proof.Machine.execBpMwr bp s
  | .bpPort bp => Sys2Proof.Machine.execBpPort bp s
  | .bpProbe bp => Sys2Proof.Machine.execBpProbe bp s
  | .bpBarrier bp => Sys2Proof.Machine.execBpBarrier bp s
  | .bpIllOp bp => Sys2Proof.Machine.execBpIllOp bp s
  | .blockMemoryAccess sorus mem => Sys2Proof.Machine.execBlockMemoryAccess sorus mem s
  | .sorusLaneDelivery sorus frond lane => Sys2Proof.Machine.execSorusLaneDelivery sorus frond lane s
  | .pinOutputLoad bank pin => Sys2Proof.Machine.execPinOutputLoad bank pin s
  | .turnBoundary refEdge => Sys2Proof.Machine.execTurnBoundary refEdge s
  | .arrImLoRead mid sorus => Sys2Proof.Machine.execArrImLoRead mid sorus s
  | .arrImHiRead mid sorus => Sys2Proof.Machine.execArrImHiRead mid sorus s
  | .arrImHiWrite mid sorus value => Sys2Proof.Machine.execArrImHiWrite mid sorus value s
  | .configWindowWrite mid sorus word value => Sys2Proof.Machine.execConfigWindowWrite mid sorus word value s
  | .memoryWindowWrite mid sorus word value => Sys2Proof.Machine.execMemoryWindowWrite mid sorus word value s
  | .recordClear mid rec => Sys2Proof.Machine.execRecordClear mid rec s
  | .stickyClear mid addr mask => Sys2Proof.Machine.execStickyClear mid addr mask s
  | .counterRead mid addr => Sys2Proof.Machine.execCounterRead mid addr s
  | .registerWrite mid addr value => Sys2Proof.Machine.execRegisterWrite mid addr value s
  | .lockBlock mid blk => Sys2Proof.Machine.execLockBlock mid blk s
  | .seqStart mid value => Sys2Proof.Machine.execSeqStart mid value s
  | .seqStop mid value => Sys2Proof.Machine.execSeqStop mid value s
  | .seqPause mid value => Sys2Proof.Machine.execSeqPause mid value s
  | .seqResume mid value => Sys2Proof.Machine.execSeqResume mid value s
  | .seqStep mid value => Sys2Proof.Machine.execSeqStep mid value s
  | .seqLevel mid value => Sys2Proof.Machine.execSeqLevel mid value s
  | .seqCapture mid value => Sys2Proof.Machine.execSeqCapture mid value s
  | .startCondition => Sys2Proof.Machine.execStartCondition s
  | .turnZero => Sys2Proof.Machine.execTurnZero s
  | .stallEnd => Sys2Proof.Machine.execStallEnd s
  | .stallLong => Sys2Proof.Machine.execStallLong s
  | .barTmo => Sys2Proof.Machine.execBarTmo s
  | .barReady lane turn vote => Sys2Proof.Machine.execBarReady lane turn vote s
  | .barGo lane turn vote => Sys2Proof.Machine.execBarGo lane turn vote s
  | .captureCopyDone => Sys2Proof.Machine.execCaptureCopyDone s
  | .captureCopyFail code => Sys2Proof.Machine.execCaptureCopyFail code s
  | .seqTurnLoRead mid => Sys2Proof.Machine.execSeqTurnLoRead mid s
  | .ldrClaim mid cls idx => Sys2Proof.Machine.execLdrClaim mid cls idx s
  | .ldrRelease mid cls idx => Sys2Proof.Machine.execLdrRelease mid cls idx s
  | .scheduledPlaneAdvance errs => Sys2Proof.Machine.execScheduledPlaneAdvance errs s
  | .unitRelease node => Sys2Proof.Machine.execUnitRelease node s
  | .packetInjection node ep pkt => Sys2Proof.Machine.execPacketInjection node ep pkt s
  | .packetHop id hdr data => Sys2Proof.Machine.execPacketHop id hdr data s
  | .rzRd id ecc => Sys2Proof.Machine.execRzRd id ecc s
  | .rzWr id ecc => Sys2Proof.Machine.execRzWr id ecc s
  | .rzRdrsp id => Sys2Proof.Machine.execRzRdrsp id s
  | .rzWrrsp id => Sys2Proof.Machine.execRzWrrsp id s
  | .rzMsg id => Sys2Proof.Machine.execRzMsg id s
  | .rspTmo node ep tag => Sys2Proof.Machine.execRspTmo node ep tag s
  | .heldTmo dom => Sys2Proof.Machine.execHeldTmo dom s
  | .gpSwitch mid => Sys2Proof.Machine.execGpSwitch mid s
  | .spSwitch mid => Sys2Proof.Machine.execSpSwitch mid s
  | .epochRetire general => Sys2Proof.Machine.execEpochRetire general s
  | .tableWrite mid node slots epoch entry high value => Sys2Proof.Machine.execTableWrite mid node slots epoch entry high value s
  | .lnCfgWrite mid lane value => Sys2Proof.Machine.execLnCfgWrite mid lane value s
  | .lnPllWrite mid pll value => Sys2Proof.Machine.execLnPllWrite mid pll value s
  | .pllLock pll => Sys2Proof.Machine.execPllLock pll s
  | .sigdet lane => Sys2Proof.Machine.execSigdet lane s
  | .cdrLock lane => Sys2Proof.Machine.execCdrLock lane s
  | .adaptDone lane => Sys2Proof.Machine.execAdaptDone lane s
  | .los lane => Sys2Proof.Machine.execLos lane s
  | .lol lane => Sys2Proof.Machine.execLol lane s
  | .pllLost pll => Sys2Proof.Machine.execPllLost pll s
  | .slip lane => Sys2Proof.Machine.execSlip lane s
  | .feSlip lane => Sys2Proof.Machine.execFeSlip lane s
  | .lnTxfirWrite mid lane value => Sys2Proof.Machine.execLnTxfirWrite mid lane value s
  | .eyeScanStart mid lane value => Sys2Proof.Machine.execEyeScanStart mid lane value s
  | .eyeScanDone lane errors => Sys2Proof.Machine.execEyeScanDone lane errors s
  | .prbsLock lane => Sys2Proof.Machine.execPrbsLock lane s
  | .lnLeCfgWrite mid lane value => Sys2Proof.Machine.execLnLeCfgWrite mid lane value s
  | .blockLock lane => Sys2Proof.Machine.execBlockLock lane s
  | .linkUp lane skew => Sys2Proof.Machine.execLinkUp lane skew s
  | .linkDown lane => Sys2Proof.Machine.execLinkDown lane s
  | .wordAvailable lane word valid cut => Sys2Proof.Machine.execWordAvailable lane word valid cut s
  | .wordRelease lane => Sys2Proof.Machine.execWordRelease lane s
  | .xdevFrame lane frame => Sys2Proof.Machine.execXdevFrame lane frame s
  | .feedFrame lane frame => Sys2Proof.Machine.execFeedFrame lane frame s
  | .trigFrame lane frame => Sys2Proof.Machine.execTrigFrame lane frame s
  | .readoutFrame lane frame => Sys2Proof.Machine.execReadoutFrame lane frame s
  | .qlAck lane ackseq credit => Sys2Proof.Machine.execQlAck lane ackseq credit s
  | .qlNak lane ackseq credit => Sys2Proof.Machine.execQlNak lane ackseq credit s
  | .replayTimeout lane => Sys2Proof.Machine.execReplayTimeout lane s
  | .frameSend lane => Sys2Proof.Machine.execFrameSend lane s
  | .txWordTake lane => Sys2Proof.Machine.execTxWordTake lane s
  | .alignmentWindowEnd lane => Sys2Proof.Machine.execAlignmentWindowEnd lane s
  | .udpDatagram lane dest payload => Sys2Proof.Machine.execUdpDatagram lane dest payload s
  | .ethernetFrameReceive lane bytes fcsOk count frac => Sys2Proof.Machine.execEthernetFrameReceive lane bytes fcsOk count frac s
  | .frameTransmitRequest lane core tag wantTs bytes => Sys2Proof.Machine.execFrameTransmitRequest lane core tag wantTs bytes s
  | .frameSent lane count frac => Sys2Proof.Machine.execFrameSent lane count frac s
  | .captureWord eccs => Sys2Proof.Machine.execCaptureWord eccs s
  | .archiveDrop => Sys2Proof.Machine.execArchiveDrop s
  | .acqEnable mid value => Sys2Proof.Machine.execAcqEnable mid value s
  | .laneDescriptorWrite mid lane word value => Sys2Proof.Machine.execLaneDescriptorWrite mid lane word value s
  | .recordTrigger cls => Sys2Proof.Machine.execRecordTrigger cls s
  | .acqTrigger mid cls => Sys2Proof.Machine.execAcqTrigger mid cls s
  | .acqRestart mid => Sys2Proof.Machine.execAcqRestart mid s
  | .acqDump mid => Sys2Proof.Machine.execAcqDump mid s
  | .acqClear mid => Sys2Proof.Machine.execAcqClear mid s
  | .prbRearm mid => Sys2Proof.Machine.execPrbRearm mid s
  | .dumpDone => Sys2Proof.Machine.execDumpDone s
  | .dumpFail copied => Sys2Proof.Machine.execDumpFail copied s
  | .recordComplete seq => Sys2Proof.Machine.execRecordComplete seq s
  | .recordTimeout seq => Sys2Proof.Machine.execRecordTimeout seq s
  | .recordSend seq => Sys2Proof.Machine.execRecordSend seq s
  | .contextWindowRead mid word ecc => Sys2Proof.Machine.execContextWindowRead mid word ecc s
  | .contextWindowWrite mid word value => Sys2Proof.Machine.execContextWindowWrite mid word value s
  | .probeBufferFree failed => Sys2Proof.Machine.execProbeBufferFree failed s
  | .issueEntryFire sorus entry ecc => Sys2Proof.Machine.execIssueEntryFire sorus entry ecc s
  | .memoryPortRelease sorus entry => Sys2Proof.Machine.execMemoryPortRelease sorus entry s
  | .refresh pc => Sys2Proof.Machine.execRefresh pc s
  | .phyTrainingDone => Sys2Proof.Machine.execPhyTrainingDone s
  | .trainFail => Sys2Proof.Machine.execTrainFail s
  | .stackTemperaturePoll temp => Sys2Proof.Machine.execStackTemperaturePoll temp s
  | .tuRawLoRead mid => Sys2Proof.Machine.execTuRawLoRead mid s
  | .tuSet mid => Sys2Proof.Machine.execTuSet mid s
  | .tuStep mid => Sys2Proof.Machine.execTuStep mid s
  | .tuConv mid => Sys2Proof.Machine.execTuConv mid s
  | .tuHold mid => Sys2Proof.Machine.execTuHold mid s
  | .servoMeasurement mid hi => Sys2Proof.Machine.execServoMeasurement mid hi s
  | .holdoverTimeout => Sys2Proof.Machine.execHoldoverTimeout s
  | .pnomCommit mid hi => Sys2Proof.Machine.execPnomCommit mid hi s
  | .timingPortConfig mid port value => Sys2Proof.Machine.execTimingPortConfig mid port value s
  | .tcArm mid tc => Sys2Proof.Machine.execTcArm mid tc s
  | .tcDisarm mid tc => Sys2Proof.Machine.execTcDisarm mid tc s
  | .comparatorFire tc => Sys2Proof.Machine.execComparatorFire tc s
  | .pulseEnd tc => Sys2Proof.Machine.execPulseEnd tc s
  | .dispatcherTick => Sys2Proof.Machine.execDispatcherTick s
  | .directoryRead first second => Sys2Proof.Machine.execDirectoryRead first second s
  | .firmwareLoaded bytes => Sys2Proof.Machine.execFirmwareLoaded bytes s
  | .firmwareArrival => Sys2Proof.Machine.execFirmwareArrival s
  | .headerPhase bytes => Sys2Proof.Machine.execHeaderPhase bytes s
  | .clockPhase bytes => Sys2Proof.Machine.execClockPhase bytes s
  | .checkPhase bytes => Sys2Proof.Machine.execCheckPhase bytes s
  | .hbmPhase bytes => Sys2Proof.Machine.execHbmPhase bytes s
  | .imageFrame bytes => Sys2Proof.Machine.execImageFrame bytes s
  | .verifyPhase bytes => Sys2Proof.Machine.execVerifyPhase bytes s
  | .progEnd => Sys2Proof.Machine.execProgEnd s
  | .waitQuads => Sys2Proof.Machine.execWaitQuads s
  | .waitTu => Sys2Proof.Machine.execWaitTu s
  | .waitPin => Sys2Proof.Machine.execWaitPin s
  | .waitTwin => Sys2Proof.Machine.execWaitTwin s
  | .programDelay => Sys2Proof.Machine.execProgramDelay s
  | .syncDone => Sys2Proof.Machine.execSyncDone s
  | .progOut => Sys2Proof.Machine.execProgOut s
  | .progStartSeq => Sys2Proof.Machine.execProgStartSeq s
  | .entryTimeout => Sys2Proof.Machine.execEntryTimeout s
  | .loadFull mid value => Sys2Proof.Machine.execLoadFull mid value s
  | .loadPartial mid value => Sys2Proof.Machine.execLoadPartial mid value s
  | .ldrRepair mid value => Sys2Proof.Machine.execLdrRepair mid value s
  | .ldrSwap mid value => Sys2Proof.Machine.execLdrSwap mid value s
  | .ldrAbort mid value => Sys2Proof.Machine.execLdrAbort mid value s
  | .partialLoadComplete bytes => Sys2Proof.Machine.execPartialLoadComplete bytes s
  | .ldrFifoWrite mid bytes => Sys2Proof.Machine.execLdrFifoWrite mid bytes s
  | .secVerify mid => Sys2Proof.Machine.execSecVerify mid s
  | .verifyDone bytes => Sys2Proof.Machine.execVerifyDone bytes s
  | .secAttest mid => Sys2Proof.Machine.execSecAttest mid s
  | .attestDone => Sys2Proof.Machine.execAttestDone s
  | .secExtend mid => Sys2Proof.Machine.execSecExtend mid s
  | .secRevoke mid => Sys2Proof.Machine.execSecRevoke mid s
  | .secAdvance mid => Sys2Proof.Machine.execSecAdvance mid s
  | .secKeyprog mid => Sys2Proof.Machine.execSecKeyprog mid s
  | .fuseBurnDone => Sys2Proof.Machine.execFuseBurnDone s
  | .scrubRead bp => Sys2Proof.Machine.execScrubRead bp s
  | .scrubWriteback bp word => Sys2Proof.Machine.execScrubWriteback bp word s
  | .goldenRestore bp word ecc => Sys2Proof.Machine.execGoldenRestore bp word ecc s
  | .frameCompare ecc => Sys2Proof.Machine.execFrameCompare ecc s
  | .cnsInject mid value => Sys2Proof.Machine.execCnsInject mid value s
  | .selfUpset => Sys2Proof.Machine.execSelfUpset s
  | .passRestart => Sys2Proof.Machine.execPassRestart s
  | .cnsCtrlWrite mid value => Sys2Proof.Machine.execCnsCtrlWrite mid value s
  | .cnsRec3Read mid => Sys2Proof.Machine.execCnsRec3Read mid s
  | .c1Run mid run => Sys2Proof.Machine.execC1Run mid run s
  | .coreReset mid core => Sys2Proof.Machine.execCoreReset mid core s
  | .fwReload mid => Sys2Proof.Machine.execFwReload mid s
  | .busError core isStore addr code => Sys2Proof.Machine.execBusError core isStore addr code s
  | .sramError core access word unc => Sys2Proof.Machine.execSramError core access word unc s
  | .debugTransaction core op => Sys2Proof.Machine.execDebugTransaction core op s
  | .timerInterrupt core => Sys2Proof.Machine.execTimerInterrupt core s
  | .mtimeLoRead core => Sys2Proof.Machine.execMtimeLoRead core s
  | .watchdogExpiry core => Sys2Proof.Machine.execWatchdogExpiry core s
  | .wdtKick mid core => Sys2Proof.Machine.execWdtKick mid core s
  | .sensorSample sensor value => Sys2Proof.Machine.execSensorSample sensor value s
  | .sensorReadWord cmd => Sys2Proof.Machine.execSensorReadWord cmd s
  | .statusReadWord => Sys2Proof.Machine.execStatusReadWord s
  | .identityBlockRead => Sys2Proof.Machine.execIdentityBlockRead s
  | .smbOutBlockRead => Sys2Proof.Machine.execSmbOutBlockRead s
  | .smbInBlockWrite bytes pecOk => Sys2Proof.Machine.execSmbInBlockWrite bytes pecOk s
  | .alertResponse => Sys2Proof.Machine.execAlertResponse s
  | .clockLowTimeout => Sys2Proof.Machine.execClockLowTimeout s
  | .flashRead mid ctrl => Sys2Proof.Machine.execFlashRead mid ctrl s
  | .flashProgram mid ctrl => Sys2Proof.Machine.execFlashProgram mid ctrl s
  | .flashErase mid ctrl => Sys2Proof.Machine.execFlashErase mid ctrl s
  | .flashOther mid ctrl => Sys2Proof.Machine.execFlashOther mid ctrl s
  | .flashCommandDone bytes => Sys2Proof.Machine.execFlashCommandDone bytes s
  | .logCommit mid value => Sys2Proof.Machine.execLogCommit mid value s
  | .logRpWrite mid value => Sys2Proof.Machine.execLogRpWrite mid value s
  | .dspBind mid task core prio all consume => Sys2Proof.Machine.execDspBind mid task core prio all consume s
  | .dspActivate mid task => Sys2Proof.Machine.execDspActivate mid task s
  | .dspCancel mid task => Sys2Proof.Machine.execDspCancel mid task s
  | .dspSetFlags mid task => Sys2Proof.Machine.execDspSetFlags mid task s
  | .dspClrFlags mid task => Sys2Proof.Machine.execDspClrFlags mid task s
  | .dspSetMask mid task => Sys2Proof.Machine.execDspSetMask mid task s
  | .dspDelay mid task timeout => Sys2Proof.Machine.execDspDelay mid task timeout s
  | .dspUndelay mid task => Sys2Proof.Machine.execDspUndelay mid task s
  | .dspWait mid => Sys2Proof.Machine.execDspWait mid s
  | .dspTake mid => Sys2Proof.Machine.execDspTake mid s
  | .dspReset mid => Sys2Proof.Machine.execDspReset mid s
  | .delayExpiry task => Sys2Proof.Machine.execDelayExpiry task s
  | .crlBindWrite mid carrel value => Sys2Proof.Machine.execCrlBindWrite mid carrel value s
  | .crlTxdWrite mid carrel word value => Sys2Proof.Machine.execCrlTxdWrite mid carrel word value s
  | .crlPost mid carrel len tag => Sys2Proof.Machine.execCrlPost mid carrel len tag s
  | .crlWithdraw mid carrel => Sys2Proof.Machine.execCrlWithdraw mid carrel s
  | .crlAck mid carrel reply => Sys2Proof.Machine.execCrlAck mid carrel reply s
  | .endReset mid carrel => Sys2Proof.Machine.execEndReset mid carrel s
  | .carrelTimeout carrel fromB => Sys2Proof.Machine.execCarrelTimeout carrel fromB s
  | .domainShutdown mid dom => Sys2Proof.Machine.execDomainShutdown mid dom s
  | .domainEnable mid dom => Sys2Proof.Machine.execDomainEnable mid dom s
  | .firstAccess mid dom => Sys2Proof.Machine.execFirstAccess mid dom s
  | .drainComplete dom => Sys2Proof.Machine.execDrainComplete dom s
  | .switchOpen dom => Sys2Proof.Machine.execSwitchOpen dom s
  | .wakeComplete dom => Sys2Proof.Machine.execWakeComplete dom s
  | .wakeFail dom => Sys2Proof.Machine.execWakeFail dom s
  | .pwrRun mid => Sys2Proof.Machine.execPwrRun mid s
  | .pwrIdle mid => Sys2Proof.Machine.execPwrIdle mid s
  | .pwrSleep mid => Sys2Proof.Machine.execPwrSleep mid s
  | .pwrDeep mid => Sys2Proof.Machine.execPwrDeep mid s
  | .pwrOff mid => Sys2Proof.Machine.execPwrOff mid s
  | .stateEntered => Sys2Proof.Machine.execStateEntered s
  | .wakeN suppliesOk => Sys2Proof.Machine.execWakeN suppliesOk s
  | .exitComplete => Sys2Proof.Machine.execExitComplete s
  | .voltageInForce => Sys2Proof.Machine.execVoltageInForce s
  | .voltageTimeout => Sys2Proof.Machine.execVoltageTimeout s
  | .throttleEnd => Sys2Proof.Machine.execThrottleEnd s
  | .twinPair ident straps mode own en disc seq identity => Sys2Proof.Machine.execTwinPair ident straps mode own en disc seq identity s
  | .twinHb turn digest health own mode dvalid => Sys2Proof.Machine.execTwinHb turn digest health own mode dvalid s
  | .twinHbSend => Sys2Proof.Machine.execTwinHbSend s
  | .twinHbLoss => Sys2Proof.Machine.execTwinHbLoss s
  | .twinResync mid => Sys2Proof.Machine.execTwinResync mid s
  | .twinHandover mid => Sys2Proof.Machine.execTwinHandover mid s
  | .twinAbort mid => Sys2Proof.Machine.execTwinAbort mid s
  | .twinClaim mid => Sys2Proof.Machine.execTwinClaim mid s
  | .twinRsReq => Sys2Proof.Machine.execTwinRsReq s
  | .twinTstart j0 d2 => Sys2Proof.Machine.execTwinTstart j0 d2 s
  | .twinJoin turn => Sys2Proof.Machine.execTwinJoin turn s
  | .ctrlHandover turn => Sys2Proof.Machine.execCtrlHandover turn s
  | .twinHoAck turn => Sys2Proof.Machine.execTwinHoAck turn s
  | .twinRefuse code => Sys2Proof.Machine.execTwinRefuse code s
  | .ctrlAbort cause => Sys2Proof.Machine.execCtrlAbort cause s
  | .twinLoadreq bytes => Sys2Proof.Machine.execTwinLoadreq bytes s
  | .twinSnap offset bytes => Sys2Proof.Machine.execTwinSnap offset bytes s
  | .twinLog entries => Sys2Proof.Machine.execTwinLog entries s
  | .twinHbmcopy block words => Sys2Proof.Machine.execTwinHbmcopy block words s
  | .twinNotice event sev => Sys2Proof.Machine.execTwinNotice event sev s
  | .twinReg frame => Sys2Proof.Machine.execTwinReg frame s
  | .twinLoad bytes => Sys2Proof.Machine.execTwinLoad bytes s
  | .twinPing count => Sys2Proof.Machine.execTwinPing count s
  | .twinEcho arg => Sys2Proof.Machine.execTwinEcho arg s
  | .raccGo mid value => Sys2Proof.Machine.execRaccGo mid value s
  | .raccTimeout => Sys2Proof.Machine.execRaccTimeout s
  | .matchTimeout => Sys2Proof.Machine.execMatchTimeout s
  | .twnNoticeRead mid => Sys2Proof.Machine.execTwnNoticeRead mid s
  | .memoryRead bar offset len ecc => Sys2Proof.Machine.execMemoryRead bar offset len ecc s
  | .memoryWrite bar offset be bytes ecc => Sys2Proof.Machine.execMemoryWrite bar offset be bytes ecc s
  | .msixUnmask vec => Sys2Proof.Machine.execMsixUnmask vec s
  | .hostReset cause => Sys2Proof.Machine.execHostReset cause s
  | .ringEnumStart mid => Sys2Proof.Machine.execRingEnumStart mid s
  | .ringEnum arg own hops crcOk => Sys2Proof.Machine.execRingEnum arg own hops crcOk s
  | .enumTimeout => Sys2Proof.Machine.execEnumTimeout s
  | .ringRd hdr addr crcOk => Sys2Proof.Machine.execRingRd hdr addr crcOk s
  | .ringWr hdr addr value crcOk => Sys2Proof.Machine.execRingWr hdr addr value crcOk s
  | .ringRsp hdr status value crcOk => Sys2Proof.Machine.execRingRsp hdr status value crcOk s
  | .ringEvent hdr event sev vec crcOk => Sys2Proof.Machine.execRingEvent hdr event sev vec crcOk s
  | .ringLoad hdr seq bytes stall crcOk => Sys2Proof.Machine.execRingLoad hdr seq bytes stall crcOk s
  | .ringTimeout tag => Sys2Proof.Machine.execRingTimeout tag s
  | .lrgLoadWrite mid bytes => Sys2Proof.Machine.execLrgLoadWrite mid bytes s
  | .lrgEvtqRead mid => Sys2Proof.Machine.execLrgEvtqRead mid s
  | .iobPinWrite mid bank pin value => Sys2Proof.Machine.execIobPinWrite mid bank pin value s
  | .iobOutWrite mid bank value => Sys2Proof.Machine.execIobOutWrite mid bank value s
  | .tapIdcode => Sys2Proof.Machine.execTapIdcode s
  | .tapSamplePreload cells => Sys2Proof.Machine.execTapSamplePreload cells s
  | .tapExtest => Sys2Proof.Machine.execTapExtest s
  | .tapExtestPulse => Sys2Proof.Machine.execTapExtestPulse s
  | .tapExtestTrain => Sys2Proof.Machine.execTapExtestTrain s
  | .tapHighz => Sys2Proof.Machine.execTapHighz s
  | .tapClamp => Sys2Proof.Machine.execTapClamp s
  | .tapBypass => Sys2Proof.Machine.execTapBypass s
  | .tapReset => Sys2Proof.Machine.execTapReset s
  | .linkInL0 speed width msix master => Sys2Proof.Machine.execLinkInL0 speed width msix master s
  | .tagFree node ep tag => Sys2Proof.Machine.execTagFree node ep tag s
  | .echoSend => Sys2Proof.Machine.execEchoSend s
  | .leaderPauseEnd => Sys2Proof.Machine.execLeaderPauseEnd s

end Sys2Proof.Machine
end

