-- ==== Sys2Proof/Machine/Tick.lean ====
section
/-! DEFINITION.  What a cycle of the step clock does when no command waits: the model's own tick (log entry 67). -/

namespace Sys2Proof.Machine

/-- The root clock advances by one cycle of the step clock (R14, R344).
(DESIGN CHOICE, log 67.) -/
def State.rootAdvance (s : State) : State :=
  { s with clock := { s.clock with rootCnt := s.clock.rootCnt + (if s.pwr.divider = 0 then 4 else s.pwr.divider) } }

/-- Turn 0 of an elastic schedule, or the turn at which a twin joins, begins once its condition is met (R114, R118, R555).  The turn
strobe of a locked schedule comes with TURN_ZERO.
(DESIGN CHOICE, log 67.) -/
def State.tickStart (s : State) : State :=
  let go := match s.twin.align with
    | some (_, edge) => decide (edge ≤ s.count)
    | none => s.seqState == 1 && s.seq.startMet && !s.lockedSchedule
  if go && decide (s.devState ≤ 1) then s.turnZero else s

/-- A cycle of the step clock of the sori: a step, a cycle of a stall, or the start of a schedule (R109, R114, R129).
(DESIGN CHOICE, log 67.) -/
def State.tickStep (s : State) : State :=
  match s.seqState with
  | 2 => s.runCycle true
  | 3 => (s.countReg Reg.SEQ_STALL_CYC).stallTry
  | _ => s.tickStart

/-- Domains in RUN that neither a request nor a hold keeps on begin their shutdown (R512).
(DESIGN CHOICE, log 67.) -/
def State.tickDomains (s : State) : State :=
  if s.devState ≤ 1 then
    (List.range 88).foldl (fun s d => if s.domState d = 0 && !s.wanted d then s.startShutdown d else s) s
  else s

/-- One cycle: the counter and the comparators (R344, R363), the step clock unless its gate is closed (R527), the heartbeats (R550),
the epochs that retire (R209) and the domains.
(DESIGN CHOICE, log 67.) -/
def State.tick (s : State) : State :=
  if s.clock.porst || !s.clock.rpllOn || !(s.flag Fld.CLK_STATUS_LOCK || s.flag Fld.CLK_STATUS_HOLDOVER) then s
  else
    let s1 := (List.range 16).foldl State.fire s.rootAdvance
    let s2 := if s1.pwr.gated && s1.seqState != 1 then s1 else s1.tickStep
    s2.hbLoss.retireGp.retireSp.tickDomains

end Sys2Proof.Machine
end

