-- ==== Sys2Proof/Machine/Frames.lean ====
section
/-! DEFINITION.  The words in which statements say what a command leaves unchanged. -/

namespace Sys2Proof.Machine

/-- A field lies within its register. -/
def Field.fits (f : Field) : Bool := decide (f.lo + f.width ≤ 32)

/-- Two fields share no bit: they lie in different registers, or one ends before the other begins. -/
def Field.apart (f g : Field) : Prop := f.addr ≠ g.addr ∨ f.lo + f.width ≤ g.lo ∨ g.lo + g.width ≤ f.lo

/-- The whole of a register as a field. -/
def wholeReg (a : Nat) : Field := ⟨a, 0, 32⟩

/-- A field that raising an event never writes (R469, R498, R500): it lies outside the sticky store, the log's pointers and the
pending bits of MSI-X, and apart from LIB_STATUS.LOG_DROP and PWR_STATUS.STATE. -/
def eventSafe (f : Field) : Bool :=
  !(decide (0x00100000 ≤ f.addr) && decide (f.addr < 0x00101000)) && f.addr != Reg.LIB_LOG_WP && f.addr != Reg.LIB_LOG_DROP &&
    !(decide (0x08102000 ≤ f.addr) && decide (f.addr < 0x08103000)) &&
    (f.addr != Reg.LIB_STATUS || decide (f.lo + f.width ≤ 7) || decide (8 ≤ f.lo)) &&
    (f.addr != Reg.PWR_STATUS || decide (3 ≤ f.lo))

/-- A state without its register file, its last completion and its outputs. -/
def State.bare (s : State) : State := { s with regs := [], done := { status := 0, data := 0 }, out := [] }

/-- A state without what raising an event may change besides registers and outputs (R469, R500, R524): the dispatcher, the trouble
log and the exit from a device state. -/
def State.core (s : State) : State :=
  { s.bare with
    dsp := DispatcherSt.reset, lib := { s.lib with log := [], dropped := 0 },
    pwr := { s.pwr with source := 0, target := 0, exitSrc := 0, exitIdx := 0 } }

/-- From `s` to `t` only the fields of `w`, the last completion and the outputs change. -/
def Only (w : List Field) (s t : State) : Prop :=
  t.bare = s.bare ∧ ∀ g : Field, (∀ f ∈ w, f.apart g) → t.fld g = s.fld g

/-- From `s` to `t` only the fields of `w`, the last completion, the outputs and what raising events changes do change. -/
def OnlyEv (w : List Field) (s t : State) : Prop :=
  t.core = s.core ∧ ∀ g : Field, eventSafe g = true → (∀ f ∈ w, f.apart g) → t.fld g = s.fld g

/-- The memories of the machine are in their canonical form: the register file, the words of the HBM (R323), of the Librarian's SRAM (R453)
and of the array's instruction memories (R36) list rising keys and nothing that an unlisted key reads as. -/
def Memory.wf (s : State) : Bool :=
  Sparse.wf Reg.resetOf s.regs && Sparse.wf (fun _ => 0) s.hbm.words && Sparse.wf (fun _ => 0) s.lib.sram &&
    Sparse.wf (fun _ => 0) s.arr.imem

end Sys2Proof.Machine
end

