-- ==== Sys2Proof/WellFormed.lean ====
section
/-! DEFINITION.  Commands that the world outside can give: the lengths and values that the manual lays down for what arrives. -/

namespace Sys2Proof

/-- A packet has at most 15 data units (R194). -/
def Packet.wf (p : Packet) : Bool := decide (p.data.length ≤ 15)

/-- A frame of a link carries 1 to 16 words (R255). -/
def QuireFrame.wf (f : QuireFrame) : Bool := decide (1 ≤ f.words.length ∧ f.words.length ≤ 16)

/-- A command is well formed: what it carries has a length and values that its rule allows.
(DEDUCED, log 76.) -/
def Instr.wf : Instr → Bool
  | .packetInjection _ _ (some p) => p.wf
  | .xdevFrame _ f => f.wf
  | .feedFrame _ f => f.wf
  | .trigFrame _ f => f.wf
  | .readoutFrame _ f => f.wf
  -- R272: a payload of 8 to 8,192 bytes.
  | .udpDatagram _ _ b => decide (8 ≤ b.length ∧ b.length ≤ 8192)
  -- R376: each copy of the directory is 4 KiB.
  | .directoryRead a b => decide (a.length = 4096 ∧ b.length = 4096)
  -- R466: a Block Write of 1 to 32 bytes.
  | .smbInBlockWrite b _ => decide (1 ≤ b.length ∧ b.length ≤ 32)
  -- R556: the stream is 22,545,408 bytes.
  | .twinSnap o b => decide (o + b.length ≤ 22545408)
  -- R541: 128 words of HBM.
  | .twinHbmcopy _ w => decide (w.length = 128)
  -- R566: requests of at most 4,096 bytes are read and of at most 512 written; a write has an enable for every byte.
  | .memoryRead _ _ n _ => decide (1 ≤ n ∧ n ≤ 4096)
  | .memoryWrite _ _ be b _ => decide (be.length = b.length ∧ 1 ≤ b.length ∧ b.length ≤ 512)
  -- R572: 1 to 16 blocks of stream bytes.
  | .ringLoad _ _ b _ _ => decide (1 ≤ b.length ∧ b.length ≤ 128)
  -- R566: link speeds 1 to 4 and widths 1, 2, 4 and 8.
  | .linkInL0 speed width _ _ => decide (speed.val ≠ 0) && (width.val == 1 || width.val == 2 || width.val == 4 || width.val == 8)
  | _ => true

end Sys2Proof
end

