-- ==== Sys2Proof/Safety.lean ====
section
/-! DEFINITION.  What a run of the block is, what it means that one is safe, and the words in which statements say that a command
completes. -/

namespace Sys2Proof.Machine

/-- An outcome in which the block goes on. -/
def goesOn : Host.Outcome State Fault Refusal → Bool
  | .next _ => true
  | .fault _ => false
  | .refused _ => false

/-- A state is reached from another by steps, with commands put at the end of the queue between them. -/
inductive Reaches : State → State → Prop where
  | refl (s : State) : Reaches s s
  | step {s t u : State} (h : Reaches s t) (hstep : step t = .next u) : Reaches s u
  | command {s t : State} (h : Reaches s t) (c : Instr) : Reaches s { t with pending := t.pending ++ [c] }

/-- Every state that a state leads to goes on. -/
def Safe (s : State) : Prop := ∀ t, Reaches s t → goesOn (step t) = true

/-- The command has an effect in state `s`, and the state it leads to meets `p`. -/
def Completes (c : Instr) (s : State) (p : State → Prop) : Prop := ∃ t, exec c s = .next t ∧ p t

/-- The block that holds a register takes requests at once: its domain is in RUN or GATED, or the block has none (R28, R514). -/
abbrev State.awake (s : State) (a : Nat) : Prop :=
  (match s.domainAt a with
   | some d => s.domState d == 0 || s.domState d == 5
   | none => true) = true

/-- A command that may write a word of the HBM or of the Librarian's SRAM: the stores themselves, the commands that end in a step, a
boundary or a load, those that deliver held requests, and a reset. -/
def mayStore : Instr → Bool
  | .porstN | .powerOnReset | .wakeN _ | .exitComplete | .wakeComplete _ => true
  | .registerWrite _ _ _ | .stickyClear _ _ _ | .memoryRead _ _ _ _ | .memoryWrite _ _ _ _ _ | .ringWr _ _ _ _ | .rzRd _ _ | .rzWr _ _
  | .debugTransaction _ _ | .sramError _ _ _ _ => true
  | .captureWord _ | .archiveDrop | .dumpDone | .dumpFail _ | .probeBufferFree _ => true
  | .seqStart _ _ | .seqStop _ _ | .seqPause _ _ | .seqResume _ _ | .seqStep _ _ | .seqCapture _ _ | .seqLevel _ _ | .turnBoundary _
  | .stallEnd | .barReady _ _ _ | .barGo _ _ _ | .captureCopyDone | .progStartSeq | .sensorSample _ _ | .throttleEnd
  | .voltageInForce | .voltageTimeout => true
  | .loadFull _ _ | .loadPartial _ _ | .ldrRepair _ _ | .ldrSwap _ _ | .ldrAbort _ _ | .partialLoadComplete _ | .imageFrame _
  | .phyTrainingDone | .firmwareLoaded _ | .firmwareArrival => true
  | .twinHbmcopy _ _ | .twinLog _ | .twinReg _ => true
  | _ => false

end Sys2Proof.Machine
end

