-- ==== Sys2Proof/Certificates/Slice0/Obligations.lean ====
section
/-! DEFINITION.  The statements about the GH9640 for the provers. -/

open Sys2Proof Sys2Proof.Machine

/-! ## The time unit (chapter 11) -/

/-- R351: a read of TU_RAW_LO latches C and its PTP time into the six registers, all of one cycle, and nothing else changes. -/
def Obligations.TuReadLatches : Prop :=
  ∀ (mid : Mid) (s : State), Completes (.tuRawLoRead mid) s fun t =>
    t.done = { status := Code.ok, data := BitVec.ofNat 32 s.count } ∧
    t.reg Reg.TU_RAW_LO = BitVec.ofNat 32 s.count ∧ t.reg Reg.TU_RAW_HI = BitVec.ofNat 32 (s.count / 2 ^ 32) ∧
    t.reg Reg.TU_TIME_FNS = BitVec.ofNat 32 (timeFns s.now) ∧ t.reg Reg.TU_TIME_NS = BitVec.ofNat 32 (timeNs s.now) ∧
    t.reg Reg.TU_TIME_S_LO = BitVec.ofNat 32 (timeSec s.now) ∧
    t.reg Reg.TU_TIME_S_HI = BitVec.ofNat 32 (timeSec s.now / 2 ^ 32) ∧
    Only [wholeReg Reg.TU_RAW_LO, wholeReg Reg.TU_RAW_HI, wholeReg Reg.TU_TIME_FNS, wholeReg Reg.TU_TIME_NS,
      wholeReg Reg.TU_TIME_S_LO, wholeReg Reg.TU_TIME_S_HI] s t

/-- R352, R357: the commands SET, STEP and CONV of the time unit, by a master that may write it.  None of them moves C.

R349, R350: a write of TU_PNOM_HI commits PNOM, puts the period of the unit's state in force, and time does not jump. -/
def Obligations.TuCommands : Prop :=
  (∀ (mid : Mid) (s : State), tuWriter mid = true →
      -- SET
      (Completes (.tuSet mid) s fun t =>
        t.time.t0 = timeFrom (s.tuArg 0 % 65536) (s.tuArg 1 % 1000000000) (s.tuArg 2 + s.tuArg 3 % 65536 * 2 ^ 32) ∧
        t.time.c0 = s.count ∧ t.time.lockCnt = 0 ∧ t.fld Fld.TU_STATUS_STATE = 0 ∧ t.servoI = 0 ∧ t.servoY = 0 ∧
        t.period = s.time.pnom % 2 ^ 48 ∧ t.count = s.count ∧ t.done.status = Code.ok ∧
        Only [Fld.TU_STATUS_STATE, wholeReg Reg.TU_SRV_I, wholeReg Reg.TU_SRV_Y, wholeReg Reg.TU_PER_LO, wholeReg Reg.TU_PER_HI]
          { s with time := { s.time with t0 := t.time.t0, c0 := s.count, lockCnt := 0 } } t) ∧
      -- STEP: the signed delta is added to T0, and nothing else changes
      (Completes (.tuStep mid) s fun t =>
        t.time.t0 = s.time.t0 + (signedOf 64 (s.tuArg 1 + s.tuArg 2 * 2 ^ 32) * 2 ^ 40 + ((s.tuArg 0 % 65536 : Nat) : Int) * 2 ^ 24) ∧
        t.flag Fld.TU_STATUS_STEPPED = true ∧ t.sticky 392 = true ∧ t.count = s.count ∧ t.done.status = Code.ok ∧
        OnlyEv [Fld.TU_STATUS_STEPPED] { s with time := { s.time with t0 := t.time.t0 } } t) ∧
      -- CONV: the count and fraction of the arguments, converted under R348
      (Completes (.tuConv mid) s fun t =>
        let x := s.timeOf (s.tuArg 1 + s.tuArg 2 * 2 ^ 32) (s.tuArg 0 % 256)
        t.reg Reg.TU_CONV_FNS = BitVec.ofNat 32 (timeFns x) ∧ t.reg Reg.TU_CONV_NS = BitVec.ofNat 32 (timeNs x) ∧
        t.reg Reg.TU_CONV_S_LO = BitVec.ofNat 32 (timeSec x) ∧ t.reg Reg.TU_CONV_S_HI = BitVec.ofNat 32 (timeSec x / 2 ^ 32) ∧
        t.done.status = Code.ok ∧
        Only [wholeReg Reg.TU_CONV_FNS, wholeReg Reg.TU_CONV_NS, wholeReg Reg.TU_CONV_S_LO, wholeReg Reg.TU_CONV_S_HI] s t)) ∧
  (∀ (mid : Mid) (hi : Word32) (s : State), tuWriter mid = true → Completes (.pnomCommit mid hi) s fun t =>
      t.time.pnom = (s.reg Reg.TU_PNOM_LO).toNat + hi.toNat % 65536 * 2 ^ 32 ∧ t.now = s.now ∧ t.time.c0 = s.count ∧
      (s.flag Fld.TU_SRV_CFG_EN = false → t.period = t.time.pnom) ∧ t.done.status = Code.ok ∧
      Only [wholeReg Reg.TU_PNOM_HI, wholeReg Reg.TU_PER_LO, wholeReg Reg.TU_PER_HI]
        { s with time := { s.time with t0 := s.now, c0 := s.count, pnom := t.time.pnom, tickCounts := t.time.tickCounts } } t)

/-- R368: a write of the time unit by any other master is refused with DENIED and EV396, and changes nothing else. -/
def Obligations.TuRefusal : Prop :=
  ∀ (mid : Mid) (s : State) (c : Instr), tuWriter mid = false →
    (c = .tuSet mid ∨ c = .tuStep mid ∨ c = .tuConv mid ∨ c = .tuHold mid ∨ (∃ v, c = .servoMeasurement mid v) ∨
      (∃ v, c = .pnomCommit mid v) ∨ (∃ p v, c = .timingPortConfig mid p v) ∨ (∃ n, c = .tcArm mid n) ∨ (∃ n, c = .tcDisarm mid n)) →
    Completes c s fun t =>
      t.done.status = Code.denied ∧ t.flag Fld.TU_STATUS_DENIED = true ∧ t.sticky 396 = true ∧ OnlyEv [Fld.TU_STATUS_DENIED] s t

/-- R349, R356: HOLD and the expiry of TMO_MS enter HOLDOVER from LOCKING or LOCKED: the time of C does not jump, the period becomes
PNOM − I, the lock count 0, and EV390 is raised.  In FREE and in HOLDOVER they change nothing.

R354, R355: a committed measurement.  With EN 0 it is recorded and not applied.  With EN 1 and a large offset time steps; else
the integral and the correction follow the servo's equations, and the period changes without a jump of time. -/
def Obligations.TuHoldover : Prop :=
  (∀ (mid : Mid) (s : State) (c : Instr),
      (c = .tuHold mid ∧ tuWriter mid = true) ∨ (c = .holdoverTimeout ∧ s.fld Fld.TU_SRV_CFG_TMO_MS ≠ 0) →
      Completes c s fun t =>
        if s.fld Fld.TU_STATUS_STATE = 1 ∨ s.fld Fld.TU_STATUS_STATE = 2 then
          t.fld Fld.TU_STATUS_STATE = 3 ∧ t.now = s.now ∧ t.period = natOfInt 48 ((s.time.pnom : Int) - s.servoI) ∧
          t.flag Fld.TU_STATUS_HOLDOVER_ENT = true ∧ t.sticky 390 = true ∧
          OnlyEv [Fld.TU_STATUS_STATE, Fld.TU_STATUS_HOLDOVER_ENT, wholeReg Reg.TU_PER_LO, wholeReg Reg.TU_PER_HI]
            { s with time := { s.time with t0 := s.now, c0 := s.count, lockCnt := 0 } } t
        else Only [] s t) ∧
  (∀ (mid : Mid) (hi : Word32) (s : State), tuWriter mid = true →
      let e : Int := signedOf 48 ((s.reg Reg.TU_SRV_OFS_LO).toNat + hi.toNat % 65536 * 2 ^ 32)
      let big := s.reg Reg.TU_SRV_STEP ≠ 0 ∧ (s.reg Reg.TU_SRV_STEP).toNat * 2 ^ 16 ≤ e.natAbs
      let m : Int := (s.fld Fld.TU_SRV_MAX_MAXADJ : Nat)
      let i1 := clampTo m (s.servoI + (e * (s.fld Fld.TU_SRV_GAIN_KI : Nat)) / 2 ^ s.fld Fld.TU_SRV_CFG_KI_S)
      let y1 := clampTo m ((e * (s.fld Fld.TU_SRV_GAIN_KP : Nat)) / 2 ^ s.fld Fld.TU_SRV_CFG_KP_S + i1)
      Completes (.servoMeasurement mid hi) s fun t =>
        t.reg Reg.TU_SRV_OFS_HI = hi &&& 0xFFFF ∧ t.done.status = Code.ok ∧
        (s.flag Fld.TU_SRV_CFG_EN = false → Only [wholeReg Reg.TU_SRV_OFS_HI] s t) ∧
        (s.flag Fld.TU_SRV_CFG_EN = true → big →
          t.time.t0 = s.time.t0 - e * 2 ^ 24 ∧ t.servoI = s.servoI ∧ t.flag Fld.TU_STATUS_STEPPED = true ∧ t.sticky 392 = true) ∧
        (s.flag Fld.TU_SRV_CFG_EN = true → ¬ big → t.servoI = i1 ∧ t.servoY = y1 ∧
          t.period = natOfInt 48 ((s.time.pnom : Int) - y1) ∧ t.now = s.now))

/-- R362: ARM copies the staged target, period and modes into the comparator and arms it; DISARM disarms it; R366: the end of a pulse
lets go of the pin.

R363, R364: an armed comparator whose compare value is at or past its target fires: FIRED is set, COUNT rises, a one-shot
disarms, and a periodic target moves by whole periods to the first place past the compare value.  (No acquisition class, dump or start
of the sequencer waits for it: their effects are those of other statements.) -/
def Obligations.Comparators : Prop :=
  (∀ (mid : Mid) (tc : Fin 16) (s : State),
      (tuWriter mid = true → s.mayAssign mid 3 tc = true →
        (Completes (.tcArm mid tc) s fun t =>
          Sparse.find t.time.live tc = some (s.staged tc) ∧ t.flag (Fld.TU_TC_CTRL_ARMED tc) = true ∧ t.done.status = Code.ok ∧
          (∀ k, k ≠ tc.val → Sparse.find t.time.live k = Sparse.find s.time.live k) ∧
          Only [Fld.TU_TC_CTRL_ARMED tc] { s with time := { s.time with live := t.time.live }, own := (s.takeClaim mid 3 tc).own } t) ∧
        (Completes (.tcDisarm mid tc) s fun t =>
          t.flag (Fld.TU_TC_CTRL_ARMED tc) = false ∧ t.done.status = Code.ok ∧
          Only [Fld.TU_TC_CTRL_ARMED tc] { s with own := (s.takeClaim mid 3 tc).own } t)) ∧
      (Completes (.pulseEnd tc) s fun t =>
        Sparse.find t.time.pulses tc = none ∧ (∀ k, k ≠ tc.val → Sparse.find t.time.pulses k = Sparse.find s.time.pulses k) ∧
        t = { s with time := { s.time with pulses := t.time.pulses } })) ∧
  (∀ (tc : Fin 16) (s : State) (c : Comparator), Sparse.find s.time.live tc = some c → s.flag (Fld.TU_TC_CTRL_ARMED tc) = true →
      c.target ≤ s.compareValue c → s.reg (Reg.TU_TC_COUNT tc) ≠ 0xFFFFFFFF →
      (∀ k < 16, ¬ (s.fld (Fld.ACQ_CLS_CFG_SRC k) = 2 ∧ s.fld (Fld.ACQ_CLS_CFG_SEL k) = tc)) →
      s.flag Fld.ACQ_DUMP_CFG_TC_EN = false → s.seqState ≠ 1 →
      Completes (.comparatorFire tc) s fun t =>
        t.flag (Fld.TU_TC_CTRL_FIRED tc) = true ∧ t.reg (Reg.TU_TC_COUNT tc) = s.reg (Reg.TU_TC_COUNT tc) + 1 ∧
        t.flag (Fld.TU_TC_CTRL_ARMED tc) = (c.periodic && c.period != 0) ∧ t.time.firedSince.toNat.testBit tc = true ∧
        (c.periodic = true → c.period ≠ 0 → ∃ n : Int, ∃ c' : Comparator, 1 ≤ n ∧ Sparse.find t.time.live tc = some c' ∧
          c'.target = c.target + n * c.period ∧ s.compareValue c < c'.target ∧ c'.target - c.period ≤ s.compareValue c) ∧
        ((if c.raw then (1 : Int) else (s.period : Int)) < s.compareValue c - c.target →
          t.flag (Fld.TU_TC_CTRL_LATE tc) = true ∧ t.flag Fld.TU_STATUS_TC_LATE = true ∧ t.sticky 394 = true))

/-! ## The task dispatcher (chapter 15) -/

/-- R474, R476, R479: a command of a core on one task.  It answers OK, it keeps what the manual says it keeps, and every other task
keeps its binding, activity, flags and mask.

R475: a take by core `k`.  With no running task the best ready task runs; a strictly higher priority preempts the running task,
which then reports RESUMED; else the result reports SAME.  CONSUME clears the flags under the mask and returns them.  A WAIT of a core
that runs no task is a take; RESET returns every task to its PORST_N state, and both cores run none. -/
def Obligations.DispatcherCommands : Prop :=
  (∀ (mid : Mid) (n : Fin 64) (s : State), mid = 0x00 ∨ mid = 0x01 → s.awake Reg.DSP_CMD →
      let arg := s.dspArg mid
      -- what holds after every one of them
      let common := fun t : State => t.done.status = Code.ok ∧ Sparse.get 0 t.dsp.stat mid.toNat = Code.ok ∧ OnlyEv [] s t ∧
        ∀ m, m ≠ n.val → (t.task m).bind = (s.task m).bind ∧ (t.task m).active = (s.task m).active ∧
          (t.task m).flags = (s.task m).flags ∧ (t.task m).mask = (s.task m).mask
      -- BIND of a task that does not run takes effect at once, of one that runs when it stops
      (∀ (core : Fin 2) (prio : Fin 16) (all consume : Bool), Completes (.dspBind mid n core prio all consume) s fun t =>
        let b : TaskBind := { core := core, prio := prio, all := all, consume := consume }
        (if s.isRunning n then (t.task n).bind = (s.task n).bind ∧ (t.task n).nextBind = some b else (t.task n).bind = b) ∧
        (t.task n).flags = (s.task n).flags ∧ (t.task n).mask = (s.task n).mask ∧ (t.task n).active = (s.task n).active ∧ common t) ∧
      -- ACTIVATE makes the task active, and ready at once where its flags match its mask
      (Completes (.dspActivate mid n) s fun t =>
        (t.task n).active = true ∧ (t.task n).flags = (s.task n).flags ∧ (t.task n).mask = (s.task n).mask ∧
        (t.task n).bind = (s.task n).bind ∧
        (s.isRunning n = false → (s.task n).delay = none → (s.task n).matched = true → n.val ∈ t.dsp.queue) ∧ common t) ∧
      -- CANCEL makes it dormant; flags and mask are kept
      (Completes (.dspCancel mid n) s fun t =>
        (t.task n).active = false ∧ t.isRunning n = false ∧ n.val ∉ t.dsp.queue ∧ n.val ∉ t.dsp.delayList ∧
        (t.task n).flags = (s.task n).flags ∧ (t.task n).mask = (s.task n).mask ∧
        (t.task n).bind = (s.task n).nextBind.getD (s.task n).bind ∧ common t) ∧
      (Completes (.dspSetFlags mid n) s fun t =>
        (t.task n).flags = (s.task n).flags ||| arg ∧ (t.task n).mask = (s.task n).mask ∧ (t.task n).bind = (s.task n).bind ∧
        (t.task n).active = (s.task n).active ∧ common t) ∧
      (Completes (.dspClrFlags mid n) s fun t =>
        (t.task n).flags = (s.task n).flags &&& ~~~ arg ∧ (t.task n).mask = (s.task n).mask ∧ (t.task n).bind = (s.task n).bind ∧
        (t.task n).active = (s.task n).active ∧ common t) ∧
      (Completes (.dspSetMask mid n) s fun t =>
        (t.task n).mask = arg ∧ (t.task n).flags = (s.task n).flags ∧ (t.task n).bind = (s.task n).bind ∧
        (t.task n).active = (s.task n).active ∧ common t) ∧
      -- DELAY: a place in the list, but none for an active task under TIMEOUT whose flags match
      (∀ timeout : Bool, Completes (.dspDelay mid n timeout) s fun t =>
        (t.task n).delay = (if timeout && (s.task n).active && (s.task n).matched then none
          else some { timeout := timeout, count := arg.toNat % 65536 }) ∧
        (n.val ∈ t.dsp.delayList ↔ ¬ (timeout && (s.task n).active && (s.task n).matched) = true) ∧
        (t.task n).flags = (s.task n).flags ∧ (t.task n).mask = (s.task n).mask ∧ (t.task n).bind = (s.task n).bind ∧
        (t.task n).active = (s.task n).active ∧ common t) ∧
      (Completes (.dspUndelay mid n) s fun t =>
        (t.task n).delay = none ∧ n.val ∉ t.dsp.delayList ∧ (t.task n).flags = (s.task n).flags ∧ (t.task n).mask = (s.task n).mask ∧
        (t.task n).bind = (s.task n).bind ∧ (t.task n).active = (s.task n).active ∧ common t)) ∧
  (∀ (k : Fin 2) (s : State), s.awake Reg.DSP_CMD →
      let mid : Mid := BitVec.ofNat 8 k
      let runs := fun (x : Nat) (t : State) =>
        let got := if (s.task x).bind.consume then (s.task x).flags &&& (s.task x).mask else 0
        t.runningOn k = some x ∧ (t.task x).flags = (s.task x).flags &&& ~~~ got ∧ Sparse.get 0 t.dsp.nextFlags k = got ∧
        (Sparse.get 0 t.dsp.next k).toNat = 2 ^ 31 + (if (s.task x).expired then 2 ^ 29 else 0) +
          (if (s.task x).resumed then 2 ^ 28 else 0) + x
      (∀ x, x < 64 → s.bestReady k = some x → s.runningOn k = none →
        (Completes (.dspTake mid) s (runs x)) ∧ (Completes (.dspWait mid) s (runs x))) ∧
      (∀ x r, x < 64 → r ≠ x → s.bestReady k = some x → s.runningOn k = some r → (s.task x).bind.prio < (s.task r).bind.prio →
        Completes (.dspTake mid) s fun t => runs x t ∧ (t.task r).resumed = true) ∧
      (∀ r, r < 64 → s.runningOn k = some r → (∀ x, s.bestReady k = some x → ¬ (s.task x).bind.prio < (s.task r).bind.prio) →
        Completes (.dspTake mid) s fun t =>
          t.runningOn k = some r ∧ (Sparse.get 0 t.dsp.next k).toNat = 2 ^ 31 + 2 ^ 30 + r ∧ Sparse.get 0 t.dsp.nextFlags k = 0) ∧
      (s.bestReady k = none → s.runningOn k = none → Completes (.dspTake mid) s fun t =>
        t.runningOn k = none ∧ (Sparse.get 0 t.dsp.next k).toNat = 2 ^ 30) ∧
      -- a WAIT ends the running task first
      (Completes (.dspWait mid) s fun t => t.runningOn k = (s.endRunning k).bestReady k ∧ t.done.status = Code.ok) ∧
      (Completes (.dspReset mid) s fun t =>
        (∀ n, t.task n = Task.reset) ∧ t.runningOn 0 = none ∧ t.runningOn 1 = none ∧ t.dsp.queue = [] ∧ t.dsp.delayList = [] ∧
        t.done.status = Code.ok ∧ OnlyEv [] s t))

/-- R479: a write of DSP_CMD by any other agent changes nothing in the dispatcher's tasks; it is refused with DENIED and EV475.  The
hosts may write SET_FLAGS.

R474: at a tick every count falls by 1, and a task whose count reaches 0 leaves the list, an active one under TIMEOUT to report
EXPIRED; a task under TIMEOUT whose flags match leaves it too.  A count of 0 expires of itself.  (TU_TICK is not 0; the delay list
holds each delayed task once.) -/
def Obligations.DispatcherRefusal : Prop :=
  (∀ (mid : Mid) (n : Fin 64) (s : State) (c : Instr), s.awake Reg.DSP_CMD → mid ≠ 0x00 → mid ≠ 0x01 →
      (c = .dspActivate mid n ∨ c = .dspCancel mid n ∨ c = .dspClrFlags mid n ∨ c = .dspSetMask mid n ∨ c = .dspUndelay mid n ∨
        c = .dspWait mid ∨ c = .dspTake mid ∨ c = .dspReset mid ∨ (∃ d, c = .dspDelay mid n d) ∨
        (∃ a b d e, c = .dspBind mid n a b d e) ∨ (c = .dspSetFlags mid n ∧ mid ≠ 0x08 ∧ mid ≠ 0x09)) →
      s.flag (Fld.EVT_ROUTE_DSP 475) = false → s.flag (Fld.EVT_ROUTE_DSP 476) = false →
      Completes c s fun t =>
        t.done.status = Code.denied ∧ t.flag Fld.LIB_STATUS_REFUSED = true ∧ t.sticky 475 = true ∧
        t.dsp.tasks = s.dsp.tasks ∧ t.dsp.queue = s.dsp.queue ∧ t.dsp.running = s.dsp.running ∧
        t.dsp.delayList = s.dsp.delayList ∧ (isManager mid = true → Sparse.get 0 t.dsp.stat mid.toNat = Code.denied)) ∧
  (∀ (s : State), s.reg Reg.TU_TICK ≠ 0 → s.dsp.delayList.Nodup →
      (Completes .dispatcherTick s fun t => ∀ n < 64, n ∈ s.dsp.delayList → ∀ d, (s.task n).delay = some d → 1 ≤ d.count →
        (t.task n).delay = (if d.count = 1 ∨ (d.timeout && (s.task n).active && (s.task n).matched) = true then none
          else some { d with count := d.count - 1 }) ∧
        (d.count = 1 → d.timeout = true → (s.task n).active = true → (t.task n).expired = true) ∧
        (t.task n).flags = (s.task n).flags ∧ (t.task n).bind = (s.task n).bind) ∧
      (∀ (n : Fin 64) (d : TaskDelay), (s.task n).delay = some d → d.count = 0 →
        Completes (.delayExpiry n) s fun t => (t.task n).delay = none ∧ n.val ∉ t.dsp.delayList ∧ OnlyEv [] s t))

/-! ## The Librarian (chapter 15) -/

/-- R452, R461, R482: C1_RUN starts core 1 at its entry or holds it in reset; RST0 and RST1 restart a core at its entry; FW_RELOAD
sends core 0 into the ROM, holds core 1 and clears the dispatcher.  The SRAM is kept by all of them, and the dispatcher by the first
three where no carrel's slot is full, whose discard would ring (R494, R495).

R456, R457: a bus error is recorded and taken as an access fault, but for a store under QUIET; an SRAM word with a single-bit error
is counted and a byte store into it performed; an uncorrectable word faults the core, is recorded with EV472 and stays unwritten. -/
def Obligations.CoreControl : Prop :=
  (∀ (mid : Mid) (s : State), isManager mid = true → s.awake Reg.LIB_CTRL →
      let quiet := ∀ c < 32, ∀ e < 2, (s.slot c e).full = false
      (∀ run : Bool, s.flag Fld.LIB_CTRL_C1_RUN = !run → Completes (.c1Run mid run) s fun t =>
        t.flag Fld.LIB_CTRL_C1_RUN = run ∧ t.lib.c1Held = !run ∧
        (run = true → Sparse.get 0 t.lib.entry 1 = (s.reg Reg.LIB_C1_ENTRY).toNat) ∧
        (run = false → t.fld Fld.LIB_RST_CAUSE_C1 = 4) ∧ t.lib.sram = s.lib.sram ∧ (quiet → t.dsp = s.dsp)) ∧
      (∀ core : Fin 2, (core = 1 → s.lib.c1Held = false) → Completes (.coreReset mid core) s fun t =>
        Sparse.get 0 t.lib.entry core = s.coreEntry core ∧
        t.fld (if core = 0 then Fld.LIB_RST_CAUSE_C0 else Fld.LIB_RST_CAUSE_C1) = 1 ∧
        t.flag Fld.LIB_CTRL_C1_RUN = s.flag Fld.LIB_CTRL_C1_RUN ∧ t.lib.sram = s.lib.sram ∧ (quiet → t.dsp = s.dsp)) ∧
      (s.fld Fld.LDR_XSPI_ROLE = 0 → Completes (.fwReload mid) s fun t =>
        t.lib.c1Held = true ∧ t.flag Fld.LIB_CTRL_C1_RUN = false ∧ Sparse.get 0 t.lib.entry 0 = 0 ∧ t.lib.romWait = false ∧
        (quiet → ∀ n, t.task n = Task.reset) ∧ t.runningOn 0 = none ∧ t.runningOn 1 = none ∧ t.fld Fld.LIB_RST_CAUSE_C0 = 3 ∧
        t.lib.sram = s.lib.sram ∧ t.seq = s.seq ∧ t.arr = s.arr ∧ t.done.status = Code.ok) ∧
      (s.fld Fld.LDR_XSPI_ROLE ≠ 0 → Completes (.fwReload mid) s fun t =>
        t.done.status = Code.denied ∧ t.flag Fld.LIB_STATUS_REFUSED = true ∧ t.sticky 475 = true ∧
        t.lib.c1Held = s.lib.c1Held ∧ t.lib.entry = s.lib.entry)) ∧
  (∀ (core : Fin 2) (s : State),
      (∀ (isStore : Bool) (addr : Word32) (code : Status), code ≠ Code.ok → Completes (.busError core isStore addr code) s fun t =>
        t.reg (Reg.LIB_BERR_ADDR core) = addr ∧ t.fld (Fld.LIB_BERR_CODE core) = code.toNat ∧
        t.flag (Fld.LIB_BERR_WRITE core) = isStore ∧ t.flag (Fld.LIB_BERR_VALID core) = true ∧
        t.out = (if isStore = true ∧ s.flag (if core = 0 then Fld.LIB_CTRL_QUIET0 else Fld.LIB_CTRL_QUIET1) = true then s.out
          else s.out ++ [.coreException core (if isStore then 7 else 5) addr.toNat]) ∧
        Only [wholeReg (Reg.LIB_BERR_ADDR core), Fld.LIB_BERR_CODE core, Fld.LIB_BERR_WRITE core, Fld.LIB_BERR_VALID core] s t) ∧
      (∀ (access : SramAccess) (word : Fin 131072), Completes (.sramError core access word true) s fun t =>
        t.flag Fld.LIB_STATUS_SRAM_UNC = true ∧ t.sticky 472 = true ∧ t.lib.sram = s.lib.sram ∧
        (∃ before, t.out = before ++ [.coreException core
          (match access with | .fetch => 1 | .load => 5 | .partStore _ _ => 7) (0x10000000 + 4 * word.val)]) ∧
        OnlyEv [Fld.LIB_STATUS_SRAM_UNC] s t) ∧
      (∀ (access : SramAccess) (word : Fin 131072), s.reg Reg.LIB_ECC_CNT ≠ 0xFFFFFFFF →
        Completes (.sramError core access word false) s fun t =>
          t.reg Reg.LIB_ECC_CNT = s.reg Reg.LIB_ECC_CNT + 1 ∧
          t.sramWord word = (match access with
            | .partStore m v => (s.sramWord word &&& ~~~ byteBits m) ||| (v &&& byteBits m)
            | _ => s.sramWord word) ∧
          (∀ a, a ≠ word.val → t.sramWord a = s.sramWord a) ∧
          Only [wholeReg Reg.LIB_ECC_CNT] { s with lib := { s.lib with sram := t.lib.sram } } t))

/-- R454, R455, R462: the timer interrupt rises once C has reached the compare value; a read of MTIME_LO gives C and latches its upper
half; a watchdog that has run down records EV473, restarts its core where ACT is 1, and starts again, and so does a kick.

R455: while the part is closed and DBG_EN is 0 a debug transaction fails and changes nothing; while it is open a core is halted and
resumed.  In both cases the transaction answers once. -/
def Obligations.TimersAndDebug : Prop :=
  (∀ (core : Fin 2) (s : State),
      ((Sparse.get (BitVec.allOnes 64) s.lib.mtimecmp core).toNat ≤ s.count → Completes (.timerInterrupt core) s fun t =>
        t = { s with out := s.out ++ [.coreInterrupt core 7] }) ∧
      (Completes (.mtimeLoRead core) s fun t =>
        t.done = { status := Code.ok, data := BitVec.ofNat 32 s.count } ∧
        Sparse.get 0 t.lib.mtimeHi core = BitVec.ofNat 32 (s.count / 2 ^ 32) ∧ t.regs = s.regs ∧ t.lib.sram = s.lib.sram) ∧
      (s.fld (Fld.LIB_WDT_US core) ≠ 0 → Sparse.get false s.lib.halted core = false → s.wdtDue core = true →
        Completes (.watchdogExpiry core) s fun t =>
          t.flag (if core = 0 then Fld.LIB_STATUS_WDT0 else Fld.LIB_STATUS_WDT1) = true ∧ t.sticky 473 = true ∧
          Sparse.get 0 t.lib.wdtStart core = s.count ∧ t.lib.sram = s.lib.sram ∧
          (s.flag (Fld.LIB_WDT_ACT core) = true → (core = 1 → s.lib.c1Held = false) →
            Sparse.get 0 t.lib.entry core = s.coreEntry core ∧
            t.fld (if core = 0 then Fld.LIB_RST_CAUSE_C0 else Fld.LIB_RST_CAUSE_C1) = 2)) ∧
      (∀ mid : Mid, s.awake (Reg.LIB_WDT_KICK core) → Completes (.wdtKick mid core) s fun t =>
        Sparse.get 0 t.lib.wdtStart core = s.count ∧ t.done.status = Code.ok ∧
        Only [] { s with lib := { s.lib with wdtStart := t.lib.wdtStart } } t)) ∧
  (∀ (core : Fin 2) (s : State),
      (∀ op : DebugOp, s.debugOpen core = false → Completes (.debugTransaction core op) s fun t =>
        t = { s with out := s.out ++ [.debug false 0] }) ∧
      (s.debugOpen core = true →
        (Completes (.debugTransaction core .halt) s fun t =>
          Sparse.get false t.lib.halted core = true ∧ t.regs = s.regs ∧ t.out = s.out ++ [.debug true 0]) ∧
        (Completes (.debugTransaction core .resume) s fun t =>
          Sparse.get false t.lib.halted core = false ∧ t.regs = s.regs ∧ t.out = s.out ++ [.debug true 0])))

/-- R465, R466: the SMBus target.  In RUN, IDLE and SLEEP it answers the commands of the table, takes a block write into LIB_SMB_IN,
and refuses and counts what it does not support; in DEEP and OFF it does not acknowledge its address.

R467: GO of a command that the engine takes sends it at once, or waits while the loader reads flash; a PROGRAM or ERASE that meets
a protected block, a command above 256 bytes, of another master or without the leader's role is refused with DENIED and EV475 and sends
nothing of its own; the end of a READ or OTHER command brings its bytes into LIB_FL_BUF. -/
def Obligations.SmbusAndFlash : Prop :=
  (∀ (s : State),
      (s.devState = 3 ∨ s.devState = 4 → ∀ c : Instr,
        ((∃ x, c = .sensorReadWord x) ∨ c = .statusReadWord ∨ c = .identityBlockRead ∨ c = .smbOutBlockRead ∨
          (∃ b p, c = .smbInBlockWrite b p) ∨ c = .alertResponse) →
        Completes c s fun t => t = { s with out := s.out ++ [.smbusNack] }) ∧
      (s.devState ≠ 3 → s.devState ≠ 4 →
        -- what a read command answers: its data, and one byte of PEC where that is on
        let answers := fun (data : List Byte) (t : State) => ∃ pec : List Byte,
          pec.length = (if s.flag Fld.LIB_SMB_CFG_PEC then 1 else 0) ∧ t = { s with out := s.out ++ [.smbus (data ++ pec)] }
        (∀ cmd : Byte, cmd.toNat < 0x30 →
          Completes (.sensorReadWord cmd) s (answers (bytesOfNat 2 (s.fld (Fld.LIB_TS_VALUE cmd.toNat))))) ∧
        (∀ cmd : Byte, 0x30 ≤ cmd.toNat → cmd.toNat < 0x48 →
          Completes (.sensorReadWord cmd) s (answers (bytesOfNat 2 (s.fld (Fld.LIB_VM_VALUE (cmd.toNat - 0x30)))))) ∧
        (∀ cmd : Byte, 0x48 ≤ cmd.toNat → cmd.toNat < 0x50 →
          Completes (.sensorReadWord cmd) s (answers (bytesOfNat 2 (s.fld (Fld.LIB_CM_VALUE (cmd.toNat - 0x48)))))) ∧
        (∃ w : Nat, Completes .statusReadWord s (answers (bytesOfNat 2 w)) ∧
          (w.testBit 0 = (List.range 48).any fun i => s.flag (alarmField i)) ∧
          (w.testBit 1 = (List.range 24).any fun i => s.flag (alarmField (48 + i))) ∧
          (w.testBit 2 = (List.range 8).any fun i => s.flag (alarmField (72 + i))) ∧
          w.testBit 3 = s.cfgErrLow ∧ w.testBit 4 = s.doneReleased ∧ w / 256 = s.ldr.phase) ∧
        (Completes .identityBlockRead s (answers (16 :: (bytesOf32 (s.reg Reg.DEV_IDENT) ++
          bytesOf32 (s.reg Reg.DEV_UID_LO) ++ bytesOf32 (s.reg Reg.DEV_UID_HI) ++ bytesOf32 (s.reg Reg.DEV_STRAPS))))) ∧
        (Completes .smbOutBlockRead s (answers (32 :: s.regBytes (Reg.LIB_SMB_OUT 0) 8)))) ∧
      (s.devState ≠ 3 → s.devState ≠ 4 →
        (∀ bytes : List Byte, 1 ≤ bytes.length → bytes.length ≤ 32 → s.flag Fld.LIB_STATUS_SMB_IN = false →
          (Completes (.smbInBlockWrite bytes true) s fun t =>
            t.regBytes (Reg.LIB_SMB_IN 0) 8 = bytes ++ List.replicate (32 - bytes.length) 0 ∧
            t.flag Fld.LIB_STATUS_SMB_IN = true ∧ t.sticky 474 = true ∧
            OnlyEv (Fld.LIB_STATUS_SMB_IN :: (List.range 8).map fun j => wholeReg (Reg.LIB_SMB_IN j)) s t) ∧
          (s.fld Fld.LIB_SMB_STAT_NACKS < 0xFFFF → Completes (.smbInBlockWrite bytes false) s fun t =>
            t.fld Fld.LIB_SMB_STAT_NACKS = s.fld Fld.LIB_SMB_STAT_NACKS + 1 ∧ Only [Fld.LIB_SMB_STAT_NACKS] s t)) ∧
        (∀ bytes pec, s.flag Fld.LIB_STATUS_SMB_IN = true → s.fld Fld.LIB_SMB_STAT_NACKS < 0xFFFF →
          Completes (.smbInBlockWrite bytes pec) s fun t =>
            t.out = s.out ++ [.smbusNack] ∧ t.fld Fld.LIB_SMB_STAT_NACKS = s.fld Fld.LIB_SMB_STAT_NACKS + 1 ∧
            Only [Fld.LIB_SMB_STAT_NACKS] s t) ∧
        (∀ cmd : Byte, 0x50 ≤ cmd.toNat → s.fld Fld.LIB_SMB_STAT_NACKS < 0xFFFF → Completes (.sensorReadWord cmd) s fun t =>
          t.out = s.out ++ [.smbusNack] ∧ t.fld Fld.LIB_SMB_STAT_NACKS = s.fld Fld.LIB_SMB_STAT_NACKS + 1 ∧
          Only [Fld.LIB_SMB_STAT_NACKS] s t) ∧
        (Completes .alertResponse s fun t => t = { s with out := s.out ++
          [if s.smbAlert then .smbus [BitVec.ofNat 8 (s.fld Fld.LIB_SMB_CFG_ADDR * 2)] else .smbusNack] })) ∧
      (Completes .clockLowTimeout s fun t => t = { s with out := s.out ++ [.smbusRelease] })) ∧
  (∀ (mid : Mid) (ctrl : Word32) (s : State) (kind : Fin 4),
      let c : Instr := match kind with
        | 0 => .flashRead mid ctrl
        | 1 => .flashProgram mid ctrl
        | 2 => .flashErase mid ctrl
        | 3 => .flashOther mid ctrl
      let v := Fld.LIB_FL_CTRL_KIND.put (Fld.LIB_FL_CTRL_GO.put ctrl 1) kind
      let cmd : FlashCmd := { ctrl := v &&& 0x7FFFFFFF, addr := (s.reg Reg.LIB_FL_ADDR).toNat }
      (s.awake Reg.LIB_FL_CTRL → (mid = 0x00 ∨ mid = 0x01) → s.fld Fld.LDR_XSPI_ROLE = 0 → Fld.LIB_FL_CTRL_LEN.get v ≤ 256 →
        s.flashGuarded v = false → Completes c s fun t =>
          t.lib.flash = some cmd ∧ t.done.status = Code.ok ∧
          (s.loaderReads = true → t.flag Fld.LIB_FL_STAT_WAITING = true ∧ t.out = s.out) ∧
          (s.loaderReads = false → ∃ data, t.out = s.out ++ [.flash (Fld.LIB_FL_CTRL_PORT.get v) (Fld.LIB_FL_CTRL_OPCODE.get v)
            (if Fld.LIB_FL_CTRL_ADDR_EN.get v = 1 then some (s.reg Reg.LIB_FL_ADDR).toNat else none) (Fld.LIB_FL_CTRL_DUMMY.get v) data] ∧
            data.length = (if kind = 1 then Fld.LIB_FL_CTRL_LEN.get v else 0)) ∧
          Only [wholeReg Reg.LIB_FL_CTRL, Fld.LIB_FL_STAT_WAITING] { s with lib := { s.lib with flash := some cmd } } t) ∧
      (s.awake Reg.LIB_FL_CTRL →
        ((mid ≠ 0x00 ∧ mid ≠ 0x01) ∨ s.fld Fld.LDR_XSPI_ROLE ≠ 0 ∨ 256 < Fld.LIB_FL_CTRL_LEN.get v ∨ s.flashGuarded v = true) →
        Completes c s fun t => t.fld Fld.LIB_FL_STAT_CODE = Code.denied.toNat ∧ t.flag Fld.LIB_STATUS_REFUSED = true ∧
          t.sticky 475 = true ∧ t.done.status = Code.denied ∧ OnlyEv [Fld.LIB_FL_STAT_CODE, Fld.LIB_STATUS_REFUSED] s t) ∧
      (∀ (bytes : List Byte) (cmd : FlashCmd), s.lib.flash = some cmd → s.flag Fld.LIB_FL_STAT_WAITING = false →
        Fld.LIB_FL_CTRL_KIND.get cmd.ctrl = 0 ∨ Fld.LIB_FL_CTRL_KIND.get cmd.ctrl = 3 →
        bytes.length = Fld.LIB_FL_CTRL_LEN.get cmd.ctrl → bytes.length ≤ 256 →
        Completes (.flashCommandDone bytes) s fun t =>
          (t.regBytes (Reg.LIB_FL_BUF 0) 64).take bytes.length = bytes ∧
          (t.regBytes (Reg.LIB_FL_BUF 0) 64).drop bytes.length = (s.regBytes (Reg.LIB_FL_BUF 0) 64).drop bytes.length ∧
          t.lib.flash = none ∧ t.fld Fld.LIB_FL_STAT_CODE = Code.ok.toNat) ∧
      (∀ (bytes : List Byte) (cmd : FlashCmd), s.lib.flash = some cmd →
        Fld.LIB_FL_CTRL_KIND.get cmd.ctrl = 1 ∨ Fld.LIB_FL_CTRL_KIND.get cmd.ctrl = 2 →
        Completes (.flashCommandDone bytes) s fun t =>
          t.lib.flash = none ∧ t.fld Fld.LIB_FL_STAT_CODE = Code.ok.toNat ∧ t.flag Fld.LIB_FL_STAT_WAITING = false ∧
          Only [Fld.LIB_FL_STAT_CODE, Fld.LIB_FL_STAT_WAITING] { s with lib := { s.lib with flash := none } } t))

/-- R469, R470: a commit appends a KIND 2 record with the staged words at WP, or drops it when the log is full; a write of LIB_LOG_RP
frees records, never beyond WP and never backwards.

R463, R464: a sensor's sample stands in its register with VALID, and its alarm follows its limits.  (The hottest sensor stays below
105 °C; above it the thermal shutdown acts.) -/
def Obligations.LogAndSensors : Prop :=
  (∀ (mid : Mid) (value : Word32) (s : State),
      (s.awake Reg.LIB_LOG_COMMIT → s.logFull = false → s.lib.dropped = 0 → Completes (.logCommit mid value) s fun t =>
        let wp := (s.reg Reg.LIB_LOG_WP).toNat
        t.reg Reg.LIB_LOG_WP = BitVec.ofNat 32 (wp + 1) ∧ t.done.status = Code.ok ∧
        Sparse.find t.lib.log (wp % 256) = some
          { kind := 2, sev := Fld.LIB_LOG_COMMIT_SEV.get value, seq := wp, count := s.count, time := s.now,
            code := Fld.LIB_LOG_COMMIT_CODE.get value, mid := mid.toNat,
            payload := (s.getRegs (Reg.LIB_LOG_WR 0) 8).map (fun w => w.toNat) } ∧
        (∀ k, k ≠ wp % 256 → Sparse.find t.lib.log k = Sparse.find s.lib.log k) ∧
        Only [wholeReg Reg.LIB_LOG_WP] { s with lib := { s.lib with log := t.lib.log } } t) ∧
      (s.awake Reg.LIB_LOG_COMMIT → s.logFull = true → s.reg Reg.LIB_LOG_DROP ≠ 0xFFFFFFFF → s.sticky 476 = true →
        Completes (.logCommit mid value) s fun t =>
          t.reg Reg.LIB_LOG_DROP = s.reg Reg.LIB_LOG_DROP + 1 ∧ t.flag Fld.LIB_STATUS_LOG_DROP = true ∧
          t.lib.dropped = s.lib.dropped + 1 ∧ t.lib.log = s.lib.log ∧ t.reg Reg.LIB_LOG_WP = s.reg Reg.LIB_LOG_WP) ∧
      (s.awake Reg.LIB_LOG_RP → Completes (.logRpWrite mid value) s fun t =>
        t.reg Reg.LIB_LOG_RP = (if value < s.reg Reg.LIB_LOG_RP then s.reg Reg.LIB_LOG_RP
          else if s.reg Reg.LIB_LOG_WP < value then s.reg Reg.LIB_LOG_WP else value) ∧
        t.done.status = Code.ok ∧ Only [wholeReg Reg.LIB_LOG_RP] s t)) ∧
  (∀ (sensor : Sensor) (value : BitVec 16) (s : State), (s.devState ≠ 4 ∨ sensor = .ts 46) →
      (∀ i v, (s.setReg (sensorPlace sensor).1 (BitVec.ofNat 32 (2 ^ 31 + value.toNat))).hottestSensor = some (i, v) → v < 420) →
      Completes (.sensorSample sensor value) s fun t =>
        t.reg (sensorPlace sensor).1 = BitVec.ofNat 32 (2 ^ 31 + value.toNat) ∧
        Sparse.get false t.lib.alarm (sensorPlace sensor).2 =
          s.sensorAlarm sensor (Sparse.get false s.lib.alarm (sensorPlace sensor).2) value.toNat ∧
        (Sparse.get false t.lib.alarm (sensorPlace sensor).2 = true →
          t.flag (alarmField (sensorPlace sensor).2) = true ∧ t.flag Fld.LIB_STATUS_SNS_ALM = true ∧ t.sticky 471 = true))

/-! ## Power domains and device states (chapter 17) -/

/-- R515, R518, R520: a shutdown starts in DRAIN with the domain's endpoint fenced, and is refused with cause HOLD while a hold applies
or with cause MID for another writer; a write of REQ 0 while the domain wakes waits for the wake; the drain ends in ISOLATED, and the
opening of the switch in OFF.

R517, R518, R519: a write of REQ 1 in DRAIN abandons the shutdown without a recorded wake; in ISOLATED it lets the shutdown run on
to OFF, from where a full wake follows at once with REWAKE and EV483; in OFF it wakes the domain with source ENABLE.  A first access is
held, and wakes an OFF domain with source ACCESS.

R210, R513, R516: the end of a wake brings the domain to RUN, its fences down, its fully writable registers with their values kept
and, for a context-store half, its contexts 0; a wake that fails returns it to OFF with EV481, and nothing stays held for it; a held
request whose time runs out is answered WAKE_TIMEOUT.  (No request is held for the domain as its wake ends.) -/
def Obligations.DomainStates : Prop :=
  (∀ (mid : Mid) (d : Fin 88) (s : State),
      let fences := (s.nodesOfDomain d).map Fld.RZ_NODE_STAT_FENCED
      (pwrWriter mid = true → s.holds d = false → s.domState d = 0 → Completes (.domainShutdown mid d) s fun t =>
        t.domState d = 1 ∧ t.flag (Fld.PWR_DCTL_REQ d) = false ∧
        (∀ n ∈ s.nodesOfDomain d, t.flag (Fld.RZ_NODE_STAT_FENCED n) = true) ∧ t.done.status = Code.ok ∧
        Only (Fld.PWR_DSTAT_STATE d :: Fld.PWR_DCTL_REQ d :: fences) s t) ∧
      (pwrWriter mid = true → s.holds d = false → s.domState d = 4 → Completes (.domainShutdown mid d) s fun t =>
        t.domState d = 4 ∧ d.val ∈ t.pwr.shutAfter ∧ t.flag (Fld.PWR_DCTL_REQ d) = false ∧ t.done.status = Code.ok ∧
        Only [Fld.PWR_DCTL_REQ d] { s with pwr := { s.pwr with shutAfter := s.pwr.shutAfter ++ [d.val] } } t) ∧
      (pwrWriter mid = true → s.holds d = false → s.domState d ≠ 0 → s.domState d ≠ 4 → Completes (.domainShutdown mid d) s fun t =>
        t.flag (Fld.PWR_DCTL_REQ d) = false ∧ t.done.status = Code.ok ∧ Only [Fld.PWR_DCTL_REQ d] s t) ∧
      (pwrWriter mid = false ∨ s.holds d = true → Completes (.domainShutdown mid d) s fun t =>
        t.fld Fld.PWR_CMD_STAT_CAUSE = (if pwrWriter mid = true then 7 else 6) ∧ t.fld Fld.PWR_CMD_STAT_CODE = Code.denied.toNat ∧
        t.flag Fld.PWR_STATUS_REFUSED = true ∧ t.sticky 480 = true ∧ t.done.status = Code.denied ∧
        OnlyEv [Fld.PWR_CMD_STAT_CAUSE, Fld.PWR_CMD_STAT_CODE, Fld.PWR_STATUS_REFUSED] s t) ∧
      (s.domState d = 1 → Completes (.drainComplete d) s fun t =>
        t.domState d = 2 ∧ Only [Fld.PWR_DSTAT_STATE d] s t) ∧
      (s.domState d = 2 → Sparse.get none s.pwr.rewake d = none → (∀ h ∈ s.pwr.held, h.dom ≠ d.val) →
        Completes (.switchOpen d) s fun t =>
          t.domState d = 3 ∧ (d.val = 71 → t.flag Fld.HBM_STATUS_READY = false) ∧
          Only [Fld.PWR_DSTAT_STATE d, Fld.HBM_STATUS_READY] s t)) ∧
  (∀ (mid : Mid) (d : Fin 88) (s : State),
      (pwrWriter mid = true → s.domState d = 1 → Completes (.domainEnable mid d) s fun t =>
        t.domState d = 0 ∧ t.flag (Fld.PWR_DCTL_REQ d) = true ∧ t.fld (Fld.PWR_DSTAT_WAKE_SRC d) = s.fld (Fld.PWR_DSTAT_WAKE_SRC d) ∧
        (∀ n ∈ s.nodesOfDomain d, t.flag (Fld.RZ_NODE_STAT_FENCED n) = false) ∧ t.done.status = Code.ok ∧
        Only (Fld.PWR_DSTAT_STATE d :: Fld.PWR_DCTL_REQ d :: (s.nodesOfDomain d).map Fld.RZ_NODE_STAT_FENCED) s t) ∧
      (pwrWriter mid = true → s.domState d = 2 → Completes (.domainEnable mid d) s fun t =>
        t.domState d = 2 ∧ t.flag (Fld.PWR_DCTL_REQ d) = true ∧ Sparse.get none t.pwr.rewake d = some mid ∧ t.done.status = Code.ok ∧
        Only [Fld.PWR_DCTL_REQ d] { s with pwr := { s.pwr with rewake := t.pwr.rewake } } t) ∧
      (∀ m : Mid, s.domState d = 2 → Sparse.get none s.pwr.rewake d = some m → s.flag (Fld.PWR_DCTL_LOCKOFF d) = false →
        s.reg Reg.PWR_REWAKE_CNT ≠ 0xFFFFFFFF → Completes (.switchOpen d) s fun t =>
          t.domState d = 4 ∧ t.fld (Fld.PWR_DSTAT_WAKE_SRC d) = 2 ∧ t.fld (Fld.PWR_DSTAT_WAKE_IDX d) = m.toNat ∧
          t.flag (Fld.PWR_DSTAT_REWAKE d) = true ∧ t.flag Fld.PWR_STATUS_REWAKE = true ∧
          t.reg Reg.PWR_REWAKE_CNT = s.reg Reg.PWR_REWAKE_CNT + 1 ∧ t.sticky 483 = true) ∧
      (pwrWriter mid = true → s.domState d = 3 → s.flag (Fld.PWR_DCTL_LOCKOFF d) = false →
        Completes (.domainEnable mid d) s fun t =>
          t.domState d = 4 ∧ t.fld (Fld.PWR_DSTAT_WAKE_SRC d) = 2 ∧ t.fld (Fld.PWR_DSTAT_WAKE_IDX d) = mid.toNat ∧
          t.flag (Fld.PWR_DCTL_REQ d) = true ∧ t.done.status = Code.ok ∧
          Only [Fld.PWR_DSTAT_STATE d, Fld.PWR_DSTAT_WAKE_SRC d, Fld.PWR_DSTAT_WAKE_IDX d, Fld.PWR_DCTL_REQ d] s t) ∧
      (s.domState d = 3 → s.flag (Fld.PWR_DCTL_LOCKOFF d) = false → Completes (.firstAccess mid d) s fun t =>
        t.domState d = 4 ∧ t.fld (Fld.PWR_DSTAT_WAKE_SRC d) = 3 ∧ t.fld (Fld.PWR_DSTAT_WAKE_IDX d) = mid.toNat ∧
        t.pwr.held = s.pwr.held ++ [{ dom := d, mid := mid, access := .bare, origin := s.caller }] ∧
        t.flag (Fld.PWR_DSTAT_HELD d) = true ∧
        t.flag (Fld.PWR_DCTL_REQ d) = (if mid = 0x10 then s.flag (Fld.PWR_DCTL_REQ d) else true)) ∧
      (s.domState d = 0 ∨ s.domState d = 5 → Completes (.firstAccess mid d) s fun t => t = s) ∧
      (s.domState d = 3 → s.flag (Fld.PWR_DCTL_LOCKOFF d) = true → s.caller = .direct → (∀ h ∈ s.pwr.held, h.dom ≠ d.val) →
        Completes (.firstAccess mid d) s fun t =>
          t.domState d = 3 ∧ t.pwr.held = s.pwr.held ∧ t.done.status = Code.domainOff ∧ t.flag (Fld.PWR_DSTAT_HELD d) = false)) ∧
  (∀ (d : Fin 88) (s : State),
      (s.domState d = 4 → d.val ∉ s.pwr.shutAfter → (∀ h ∈ s.pwr.held, h.dom ≠ d.val) → Completes (.wakeComplete d) s fun t =>
        t.domState d = 0 ∧ (∀ n ∈ t.nodesOfDomain d, t.flag (Fld.RZ_NODE_STAT_FENCED n) = false) ∧
        (∀ a r, Reg.row a = some r → r.rw = 0xFFFFFFFF → a < 0x0C000000 → t.reg a = s.reg a) ∧
        (d.val = 68 → ∀ c < 131072, Sparse.get 0 t.acq.ctx c = 0) ∧ t.hbm.words = s.hbm.words ∧ t.lib.sram = s.lib.sram) ∧
      (s.domState d = 4 → (∀ h ∈ s.pwr.held, h.dom ≠ d.val) → Completes (.wakeFail d) s fun t =>
        t.domState d = 3 ∧ t.flag Fld.PWR_STATUS_WAKE_FAIL = true ∧ t.sticky 481 = true ∧
        OnlyEv [Fld.PWR_DSTAT_STATE d, Fld.PWR_STATUS_WAKE_FAIL] s t) ∧
      (∀ (mid : Mid) (a : Nat) (w : Option Word32) (rest : List HeldReq),
        s.pwr.held = { dom := d, mid := mid, access := .reg a w, origin := .direct } :: rest →
        Completes (.heldTmo d) s fun t => t.done.status = Code.wakeTimeout ∧ t.pwr.held = rest ∧
          (∀ n ∈ s.nodesOfDomain d, t.flag (Fld.RZ_NODE_STAT_HELD_TMO n) = true)))

/-- R523, R524, R525: an accepted request.  For the current state it answers OK and does nothing; RUN turns IDLE and SLEEP to LEAVING
with source STATE; IDLE is entered in the same cycle; SLEEP, DEEP and OFF are being entered.

R523: the causes for which a request for a device state is refused, in the order in which they are checked.  A refusal records its
cause, raises EV480, answers DENIED and changes nothing else. -/
def Obligations.StateRequests : Prop :=
  (∀ (mid : Mid) (s : State), isManager mid = true →
      let base := [Fld.PWR_CMD_STAT_CAUSE, Fld.PWR_CMD_STAT_CODE]
      (s.devState = 0 → Completes (.pwrRun mid) s fun t => t.done.status = Code.ok ∧ Only base s t) ∧
      (s.devState = 1 ∨ s.devState = 2 → Completes (.pwrRun mid) s fun t =>
        t.devState = 6 ∧ t.pwr.exitSrc = 11 ∧ t.pwr.exitIdx = mid.toNat ∧ t.pwr.source = s.devState ∧ t.done.status = Code.ok) ∧
      (s.devState = 0 → s.seqState ≠ 2 → s.seqState ≠ 3 → Completes (.pwrIdle mid) s fun t =>
        t.devState = 1 ∧ t.pwr.gated = true ∧ t.done.status = Code.ok ∧
        (∀ n < 34, t.domState n = if s.flag (Fld.ARR_STATUS_MAPPED n) then 5 else s.domState n) ∧
        (∀ n < 88, 34 ≤ n → t.domState n = s.domState n)) ∧
      (∀ st : Fin 5, 2 ≤ st.val → s.devState < st.val → (s.seqState = 0 ∨ s.seqState = 5) →
        (s.ldr.phase = 0 ∨ 10 ≤ s.ldr.phase) → s.flag Fld.LDR_CMD_STAT_PENDING = false → s.flag Fld.ACQ_CTRL_EN = false →
        s.fld Fld.TWN_STATUS_MODE = 0 →
        Completes (match st with | 2 => .pwrSleep mid | 3 => .pwrDeep mid | _ => .pwrOff mid) s fun t =>
          t.devState = 5 ∧ t.pwr.target = st ∧ t.flag Fld.PWR_CMD_STAT_PENDING = true ∧ t.done.status = Code.ok ∧
          Only (Fld.PWR_STATUS_STATE :: Fld.PWR_CMD_STAT_PENDING :: base)
            { s with pwr := { s.pwr with target := st, source := s.devState } } t)) ∧
  (∀ (mid : Mid) (st : Fin 5) (s : State) (cause : Nat),
      let c : Instr := match st with
        | 0 => .pwrRun mid
        | 1 => .pwrIdle mid
        | 2 => .pwrSleep mid
        | 3 => .pwrDeep mid
        | 4 => .pwrOff mid
      let badState := (st.val ≠ 0 ∧ st.val < s.devState) ∨ s.devState = 5 ∨ s.devState = 6
      let badSeq := (st = 1 ∧ (s.seqState = 2 ∨ s.seqState = 3)) ∨ (2 ≤ st.val ∧ s.seqState ≠ 0 ∧ s.seqState ≠ 5)
      let badLdr := 2 ≤ st.val ∧ ((1 ≤ s.ldr.phase ∧ s.ldr.phase ≤ 9) ∨ s.flag Fld.LDR_CMD_STAT_PENDING = true)
      let badAcq := 2 ≤ st.val ∧ s.flag Fld.ACQ_CTRL_EN = true
      let badTwin := 2 ≤ st.val ∧ s.fld Fld.TWN_STATUS_MODE ≠ 0
      let isFirst := (cause = 6 ∧ isManager mid = false) ∨ (isManager mid = true ∧ ((cause = 1 ∧ badState) ∨
        (¬ badState ∧ ((cause = 2 ∧ badSeq) ∨ (¬ badSeq ∧ ((cause = 3 ∧ badLdr) ∨ (¬ badLdr ∧ ((cause = 4 ∧ badAcq) ∨
          (¬ badAcq ∧ cause = 5 ∧ badTwin)))))))))
      isFirst → Completes c s fun t =>
        t.fld Fld.PWR_CMD_STAT_CAUSE = cause ∧ t.fld Fld.PWR_CMD_STAT_CODE = Code.denied.toNat ∧
        t.flag Fld.PWR_STATUS_REFUSED = true ∧ t.sticky 480 = true ∧ t.done.status = Code.denied ∧
        OnlyEv [Fld.PWR_CMD_STAT_CAUSE, Fld.PWR_CMD_STAT_CODE, Fld.PWR_STATUS_REFUSED] s t)

/-- R522: where the domains stand once SLEEP, DEEP or OFF is entered, as the state table says.

R525, R526: WAKE_N turns IDLE, SLEEP and DEEP to LEAVING; from OFF it acts only with the supplies in their conditions and TS46
below 95 °C, and is ignored else; the device left, PWR_WAKE records the source and the state left, and EV482 is raised. -/
def Obligations.StateTableAndExit : Prop :=
  (∀ (s : State) (st : Nat), s.devState = 5 → s.pwr.target = st → 2 ≤ st → st ≤ 4 → Completes .stateEntered s fun t =>
      t.devState = st ∧ t.flag Fld.PWR_CMD_STAT_PENDING = false ∧ t.pwr.gated = true ∧
      (∀ d < 34, t.domState d = if s.flag (Fld.ARR_STATUS_MAPPED d) then (if st = 2 then 5 else if st = 3 then 6 else 3) else 3) ∧
      (∀ d, (34 ≤ d ∧ d < 58) ∨ (60 ≤ d ∧ d < 64) ∨ d = 66 ∨ d = 67 ∨ (70 ≤ d ∧ d ≤ 72) ∨ (75 ≤ d ∧ d ≤ 77) ∨ (80 ≤ d ∧ d < 88) →
        t.domState d = 3) ∧
      (∀ d, d = 58 ∨ d = 59 ∨ d = 64 ∨ d = 65 → t.domState d = if st = 2 then 0 else 3) ∧
      (∀ d, d = 68 ∨ d = 69 → t.domState d = if st = 2 then 5 else 3) ∧
      (∀ d, d = 73 ∨ d = 74 → t.domState d = if st = 2 then s.domState d else 3) ∧
      (∀ d, d = 78 ∨ d = 79 → t.domState d = if st = 2 then 5 else if st = 3 then 6 else 3) ∧
      (st = 4 → t.clock.rpllOn = false) ∧ (st ≠ 4 → t.clock = s.clock) ∧ t.count = s.count) ∧
  (∀ (s : State),
      (∀ ok : Bool, 1 ≤ s.devState → s.devState ≤ 3 → Completes (.wakeN ok) s fun t =>
        t.devState = 6 ∧ t.pwr.exitSrc = 5 ∧ t.pwr.source = s.devState ∧
        Only [Fld.PWR_STATUS_STATE] { s with pwr := { s.pwr with source := s.devState, target := 0, exitSrc := 5, exitIdx := 0 } } t) ∧
      (∀ ok : Bool, s.devState = 5 → 1 ≤ s.pwr.target → s.pwr.target ≤ 3 → Completes (.wakeN ok) s fun t =>
        t.devState = 6 ∧ t.pwr.exitSrc = 5 ∧ t.pwr.source = s.pwr.target) ∧
      (∀ ok : Bool, s.devState = 4 → (ok = false ∨ 380 ≤ signedOf 16 (s.fld (Fld.LIB_TS_VALUE 46))) →
        Completes (.wakeN ok) s fun t => t = s) ∧
      (s.devState = 4 → signedOf 16 (s.fld (Fld.LIB_TS_VALUE 46)) < 380 → Completes (.wakeN true) s fun t =>
        t.devState = 6 ∧ t.count = s.count ∧ t.fld Fld.LIB_RST_CAUSE_C0 = 0 ∧ Sparse.get 0 t.lib.entry 0 = 0 ∧ t.pwr.exitSrc = 5 ∧
        t.pwr.source = 4 ∧ t.reg Reg.DEV_STRAPS = s.reg Reg.DEV_STRAPS ∧ t.sec.therm = s.sec.therm ∧ t.pending = s.pending) ∧
      (s.devState = 6 → s.pwr.held = [] → s.pwr.exitSrc < 32 → s.pwr.exitIdx < 512 → s.pwr.source < 5 →
        Completes .exitComplete s fun t =>
          t.devState = 0 ∧ t.fld Fld.PWR_WAKE_SRC = s.pwr.exitSrc ∧ t.fld Fld.PWR_WAKE_IDX = s.pwr.exitIdx ∧
          t.fld Fld.PWR_WAKE_FROM = s.pwr.source ∧ t.flag Fld.PWR_STATUS_WAKE = true ∧ t.sticky 482 = true ∧ t.pwr.gated = false ∧
          (∀ d, d = 78 ∨ d = 79 → (s.domState d = 5 ∨ s.domState d = 6) → d ∉ s.pwr.shutAfter → t.domState d = 0)))

/-- R529, R530, R531: the voltage in force ends a change of level, and so does its timeout, with VTMO and EV481, where a slower level
stands and a faster one is given up; the end of a throttle interval clears its cause.  (The sequencer is not in a stall, which would
go on at once.) -/
def Obligations.VoltageAndThrottle : Prop :=
  ∀ (s : State), s.seqState ≠ 3 →
    (∀ old, s.pwr.oldLevel = some old → s.pwr.vsel < 4 → Completes .voltageInForce s fun t =>
      t.pwr.oldLevel = none ∧ t.fld Fld.PWR_STATUS_LEVEL = s.pwr.vsel ∧ t.flag Fld.PWR_STATUS_LEVEL_BUSY = false ∧
      t.pwr.divider = levelDivider s.pwr.vsel ∧
      Only [Fld.PWR_STATUS_LEVEL, Fld.PWR_STATUS_LEVEL_BUSY]
        { s with pwr := { s.pwr with oldLevel := none, divider := levelDivider s.pwr.vsel } } t) ∧
    (∀ old, s.pwr.oldLevel = some old → old < 4 → s.pwr.vsel < 4 → Completes .voltageTimeout s fun t =>
      let level := if old < s.pwr.vsel then s.pwr.vsel else old
      t.flag Fld.PWR_STATUS_VTMO = true ∧ t.sticky 481 = true ∧ t.pwr.oldLevel = none ∧ t.pwr.vsel = level ∧
      t.fld Fld.PWR_STATUS_LEVEL = level ∧ t.flag Fld.PWR_STATUS_LEVEL_BUSY = false ∧ t.pwr.divider = levelDivider level) ∧
    (s.seq.throttle = true → Completes .throttleEnd s fun t => t = { s with seq := { s.seq with throttle := false } })

/-! ## Clocks and reset (chapters 1 and 20) -/

/-- R344, R588, R589: PORST_N and the internal power-on reset put every block into its reset state: every register but the fuses' reads
its reset value, C is 0, and no task, packet, word of memory or mapping is left.  The fuses, the levels at the pins and the commands
that wait stay.

R19, R20, R373: the release of PORST_N samples the straps and measures REFCLK0.  A reference of one of the three classes sets its
multiplier and starts the RPLL and the loader; any other leaves the RPLL off with REF_UNSUP, EV469 and CFG_ERR_N.  (The grade is one of
the two that R29 lets go on.) -/
def Obligations.ResetPin : Prop :=
  (∀ (s : State) (c : Instr), c = .porstN ∨ c = .powerOnReset → Completes c s fun t =>
      (∀ a, fuseReg a = false → t.reg a = Reg.resetOf a) ∧ (∀ a, fuseReg a = true → t.reg a = s.reg a) ∧
      t.sec.therm = s.sec.therm ∧ t.iob.ball = s.iob.ball ∧ t.pending = s.pending ∧ t.count = 0 ∧ t.clock = ClockSt.reset ∧
      t.arr = ArraySt.reset ∧ t.hbm = HbmSt.reset ∧ t.rz = RzSt.reset ∧ t.acq = AcqSt.reset ∧ t.dsp = DispatcherSt.reset ∧
      t.lib = LibrarianSt.reset ∧ t.crl = CarrelSt.reset ∧ t.seq = SeqSt.reset ∧ t.eng = [] ∧ t.twin = TwinSt.reset ∧
      t.pwr = PowerSt.reset ∧ t.ldr = LoaderSt.reset ∧ t.cns = CnsSt.reset ∧ t.own = State.reset.own ∧ t.time = TimeSt.reset) ∧
  (∀ (bootsel : BitVec 3) (devnum : BitVec 6) (role : Bool) (khz : Nat) (s : State), s.clock.porst = true →
      s.clock.rpllOn = false → (s.fld Fld.DEV_IDENT_GRADE = 1 ∨ s.fld Fld.DEV_IDENT_GRADE = 2) →
      Completes (.porstNRelease bootsel devnum role khz) s fun t =>
        t.clock.porst = false ∧ t.fld Fld.DEV_STRAPS_BOOTSEL = bootsel.toNat ∧ t.fld Fld.DEV_STRAPS_DEVNUM = devnum.toNat ∧
        t.flag Fld.DEV_STRAPS_TWIN_ROLE = role ∧
        (38000 ≤ khz ∧ khz ≤ 42000 → t.fld Fld.CLK_RPLL_MULT = 120 ∧ t.clock.fnom = 40000000 ∧ t.clock.rpllOn = true ∧ t.ldr.phase = 1) ∧
        (95000 ≤ khz ∧ khz ≤ 105000 → t.fld Fld.CLK_RPLL_MULT = 48 ∧ t.clock.fnom = 100000000 ∧ t.clock.rpllOn = true ∧ t.ldr.phase = 1) ∧
        (148438 ≤ khz ∧ khz ≤ 164062 → t.fld Fld.CLK_RPLL_MULT = 30 ∧ t.clock.fnom = 156250000 ∧ t.clock.rpllOn = true ∧ t.ldr.phase = 1) ∧
        (khz < 38000 ∨ (42000 < khz ∧ khz < 95000) ∨ (105000 < khz ∧ khz ≤ 148437) ∨ 164063 ≤ khz →
          t.clock.rpllOn = false ∧ t.ldr.phase = s.ldr.phase ∧ t.clock.cfgErr = true ∧ t.flag Fld.CLK_STATUS_REF_UNSUP = true ∧ t.sticky 469 = true))

/-- R350: when the RPLL locks after PORST_N, PNOM becomes 4 × 10^9 ÷ (f_nom × MULT) ns in units of 2^-40 ns, and P becomes PNOM.

R22, R23: the loss of REFCLK0 puts the RPLL into holdover with EV468 and stops nothing; a relock while a locked schedule runs is
refused with DENIED and EV470, and else it ends the holdover. -/
def Obligations.RpllLock : Prop :=
  (∀ (phase : BitVec 8) (s : State), s.clock.rpllOn = true → s.flag Fld.CLK_STATUS_LOCK = false →
      s.flag Fld.CLK_STATUS_HOLDOVER = false → s.clock.everLocked = false → 40000000 ≤ s.clock.fnom * s.fld Fld.CLK_RPLL_MULT →
      Completes (.rpllLock phase) s fun t =>
        t.time.pnom = 4000000000 * 2 ^ 40 / (s.clock.fnom * s.fld Fld.CLK_RPLL_MULT) ∧ t.period = t.time.pnom ∧
        t.flag Fld.CLK_STATUS_LOCK = true ∧ t.count = s.count ∧ t.now = s.now) ∧
  (∀ (mid : Mid) (s : State),
      (s.flag Fld.CLK_STATUS_LOCK = true → Completes .refclk0Loss s fun t =>
        t.flag Fld.CLK_STATUS_HOLDOVER = true ∧ t.flag Fld.CLK_STATUS_REF_LOSS = true ∧ t.flag Fld.CLK_STATUS_LOCK = false ∧
        t.sticky 468 = true ∧
        OnlyEv [Fld.CLK_STATUS_HOLDOVER, Fld.CLK_STATUS_REF_LOSS, Fld.CLK_STATUS_LOCK] { s with clock := { s.clock with refOk := false } } t) ∧
      (s.lockedSchedule = true → s.seqState = 2 → Completes (.relock mid) s fun t =>
        t.done.status = Code.denied ∧ t.flag Fld.CLK_STATUS_RELOCK_DENIED = true ∧ t.sticky 470 = true ∧
        OnlyEv [Fld.CLK_STATUS_RELOCK_DENIED] s t) ∧
      (s.lockedSchedule = false ∨ s.seqState ≠ 2 → s.flag Fld.CLK_STATUS_HOLDOVER = true → Completes (.relock mid) s fun t =>
        t.done.status = Code.ok ∧ t.flag Fld.CLK_STATUS_HOLDOVER = false ∧ t.flag Fld.CLK_STATUS_LOCK = true ∧ t.count = s.count))

/-- R359: the standard of a timing port sets the mode of its link engine: 0, 8 or 5, and standard 3 acts as 0. -/
def Obligations.TimingPortMode : Prop :=
  ∀ (mid : Mid) (p : Fin 2) (value : Word32) (s : State), tuWriter mid = true → s.imageOwner 0x0C p = 0 →
    s.fld (Fld.TU_TP_CFG_STD p) ≠ (Fld.TU_TP_CFG_STD p).get value →
    Completes (.timingPortConfig mid p value) s fun t =>
      t.fld (Fld.TU_TP_CFG_STD p) = (Fld.TU_TP_CFG_STD p).get value ∧ t.done.status = Code.ok ∧
      t.fld (Fld.LN_LE_CFG_MODE (100 + p)) =
        (if (Fld.TU_TP_CFG_STD p).get value = 1 then 8 else if (Fld.TU_TP_CFG_STD p).get value = 2 then 5 else 0) ∧
      t.flag (Fld.LN_PLL_STAT_LOCK (25 + p)) = false

/-! ## Serial lanes (chapter 7) -/

/-- R227, R229: the bring-up of a lane that runs: its PLL's lock, signal detect, CDR lock and the end of adaptation each set their
status, and READY comes with the last (at CDR lock under ADAPT FIXED).

R228, R229, R236: the losses of a running lane.  Loss of signal, of CDR lock and of the PLL clear READY and the rows of R227 that
follow, each with its sticky bit and the lane's event; a slip re-centres the buffer without stopping the lane. -/
def Obligations.LaneStates : Prop :=
  (∀ (i : Fin 103) (s : State),
      (∀ k : Fin 28, s.pllRuns k = true → s.pllInRange k = true → Completes (.pllLock k) s fun t =>
        t.flag (Fld.LN_PLL_STAT_LOCK k) = true ∧ (∀ j ∈ lanesOfPll k, s.laneRuns j = true → t.flag (Fld.LN_STAT_PLL_OK j) = true) ∧
        Only (Fld.LN_PLL_STAT_LOCK k :: (lanesOfPll k).map Fld.LN_STAT_PLL_OK) s t) ∧
      (s.laneRuns i = true →
        (Completes (.sigdet i) s fun t => t.flag (Fld.LN_STAT_SIGDET i) = true ∧ Only [Fld.LN_STAT_SIGDET i] s t) ∧
        (s.flag (Fld.LN_STAT_PLL_OK i) = true → s.flag (Fld.LN_STAT_SIGDET i) = true → Completes (.cdrLock i) s fun t =>
          t.flag (Fld.LN_STAT_CDR_LOCK i) = true ∧ Sparse.get false t.lane.slipped i = false ∧
          (s.fld (Fld.LN_CFG_ADAPT i) = 2 → t.flag (Fld.LN_STAT_ADAPT_DONE i) = true ∧ t.flag (Fld.LN_STAT_READY i) = true) ∧
          (s.fld (Fld.LN_CFG_ADAPT i) ≠ 2 →
            Only [Fld.LN_STAT_CDR_LOCK i] { s with lane := { s.lane with slipped := t.lane.slipped } } t)) ∧
        (s.flag (Fld.LN_STAT_CDR_LOCK i) = true → Completes (.adaptDone i) s fun t =>
          t.flag (Fld.LN_STAT_ADAPT_DONE i) = true ∧ t.flag (Fld.LN_STAT_READY i) = true ∧
          Only ([Fld.LN_STAT_ADAPT_DONE i, Fld.LN_STAT_READY i, wholeReg (Reg.LN_RXEQ_ST i)] ++
            (List.range 3).map fun x => wholeReg (Reg.LN_DFE_ST i x)) { s with freeIdx := t.freeIdx } t) ∧
        (s.flag (Fld.LN_STAT_READY i) = true → 1 ≤ s.fld (Fld.LN_PRBS_CTRL_RX_PAT i) → s.fld (Fld.LN_PRBS_CTRL_RX_PAT i) ≤ 5 →
          Completes (.prbsLock i) s fun t => t.flag (Fld.LN_STAT_PRBS_LOCK i) = true ∧ Only [Fld.LN_STAT_PRBS_LOCK i] s t))) ∧
  (∀ (i : Fin 103) (s : State), s.laneRuns i = true →
      (Completes (.los i) s fun t =>
        t.flag (Fld.LN_STAT_LOS i) = true ∧ t.sticky (laneEvent i) = true ∧ t.flag (Fld.LN_STAT_SIGDET i) = false ∧
        t.flag (Fld.LN_STAT_CDR_LOCK i) = false ∧ t.flag (Fld.LN_STAT_ADAPT_DONE i) = false ∧ t.flag (Fld.LN_STAT_READY i) = false ∧
        t.flag (Fld.LN_STAT_PLL_OK i) = s.flag (Fld.LN_STAT_PLL_OK i)) ∧
      (Completes (.lol i) s fun t =>
        t.flag (Fld.LN_STAT_LOL i) = true ∧ t.sticky (laneEvent i) = true ∧ t.flag (Fld.LN_STAT_CDR_LOCK i) = false ∧
        t.flag (Fld.LN_STAT_ADAPT_DONE i) = false ∧ t.flag (Fld.LN_STAT_READY i) = false ∧
        t.flag (Fld.LN_STAT_SIGDET i) = s.flag (Fld.LN_STAT_SIGDET i)) ∧
      (∀ k : Fin 28, i.val ∈ lanesOfPll k → Completes (.pllLost k) s fun t =>
        t.flag (Fld.LN_PLL_STAT_LOCK k) = false ∧ t.flag (Fld.LN_STAT_PLL_LOST i) = true ∧ t.sticky (laneEvent i) = true ∧
        t.flag (Fld.LN_STAT_READY i) = false ∧ t.flag (Fld.LN_STAT_PLL_OK i) = false) ∧
      (s.flag (Fld.LN_STAT_CDR_LOCK i) = true → Completes (.slip i) s fun t =>
        t.flag (Fld.LN_STAT_SLIP i) = true ∧ t.sticky (laneEvent i) = true ∧ Sparse.get false t.lane.slipped i = true ∧
        t.flag (Fld.LN_STAT_READY i) = s.flag (Fld.LN_STAT_READY i) ∧
        OnlyEv [Fld.LN_STAT_SLIP i, Fld.LN_ES_STAT_ABORTED i] { s with lane := t.lane } t) ∧
      (s.fld (Fld.LN_CFG_LPBK i) = 3 → i.val < 96 → Completes (.feSlip i) s fun t =>
        t.flag (Fld.LN_STAT_FE_SLIP i) = true ∧ t.sticky (laneEvent i) = true ∧ OnlyEv [Fld.LN_STAT_FE_SLIP i] s t))

/-- R219, R227, R232, R238: writes of a lane's configuration, of a PLL and of the transmit taps.  Of what the image does not own they
act; a lane switched off loses its status; taps that sum above 63 are not used, and report FIR_BAD; a write of what the image owns is
refused with CONFLICT and EV407.

R234, R235: a scan starts on a lane where none runs, with LN_ES_ERR at 0; a start with an eye that the modulation lacks runs none
and sets ABORTED; at its end the scan gives its count and DONE. -/
def Obligations.LaneWrites : Prop :=
  (∀ (mid : Mid) (i : Fin 96) (value : Word32) (s : State), s.awake (Reg.LN_CFG i) → s.awake (Reg.LN_TXFIR i) →
      let sum := (Fld.LN_TXFIR_PRE2 i).get value + (Fld.LN_TXFIR_PRE1 i).get value + (Fld.LN_TXFIR_MAIN i).get value +
        (Fld.LN_TXFIR_POST1 i).get value + (Fld.LN_TXFIR_POST2 i).get value
      let lane : Fin 103 := ⟨i.val, by omega⟩
      (s.imageOwner 0x04 i = 0 →
        (Completes (.lnCfgWrite mid lane value) s fun t =>
          t.reg (Reg.LN_CFG i) = value &&& 0x3FFF ∧ t.done.status = Code.ok ∧
          (s.flag (Fld.LN_CFG_EN i) = true → value.getLsbD 0 = false → t.flag (Fld.LN_STAT_READY i) = false ∧
            t.flag (Fld.LN_STAT_CDR_LOCK i) = false ∧ t.flag (Fld.LN_STAT_SIGDET i) = false ∧ t.flag (Fld.LN_STAT_PLL_OK i) = false)) ∧
        (sum ≤ 63 → Completes (.lnTxfirWrite mid lane value) s fun t =>
          t.reg (Reg.LN_TXFIR i) = value &&& 0x1FFFFF ∧ Sparse.get 0x1F80 t.lane.taps i = value &&& 0x1FFFFF ∧
          t.done.status = Code.ok ∧ Only [wholeReg (Reg.LN_TXFIR i)] { s with lane := { s.lane with taps := t.lane.taps } } t) ∧
        (63 < sum → Completes (.lnTxfirWrite mid lane value) s fun t =>
          t.reg (Reg.LN_TXFIR i) = value &&& 0x1FFFFF ∧ t.lane = s.lane ∧ t.flag (Fld.LN_STAT_FIR_BAD i) = true ∧
          t.sticky (laneEvent i) = true ∧ OnlyEv [wholeReg (Reg.LN_TXFIR i), Fld.LN_STAT_FIR_BAD i] s t)) ∧
      (mid ≠ 0x10 → s.imageOwner 0x04 i ≠ 0 → s.mayAssign mid 0x04 i = false →
        ∀ c : Instr, c = .lnCfgWrite mid lane value ∨ c = .lnTxfirWrite mid lane value → Completes c s fun t =>
          t.done.status = Code.conflict ∧ t.flag Fld.LDR_CHK_STAT_CLAIM_CONFLICT = true ∧ t.sticky 407 = true ∧
          OnlyEv [Fld.LDR_CHK_STAT_CLAIM_CONFLICT] s t) ∧
      (∀ k : Fin 28, s.awake (Reg.LN_PLL k) →
        (24 ≤ k.val → Completes (.lnPllWrite mid k value) s fun t => t.done.status = Code.ok ∧ Only [] s t) ∧
        (k.val < 24 → s.imageOwner 0x05 k = 0 → s.reg (Reg.LN_PLL k) ≠ value → Completes (.lnPllWrite mid k value) s fun t =>
          t.reg (Reg.LN_PLL k) = value ∧ t.flag (Fld.LN_PLL_STAT_LOCK k) = false ∧ t.done.status = Code.ok ∧
          ∀ j ∈ lanesOfPll k, t.flag (Fld.LN_STAT_READY j) = false ∧ t.flag (Fld.LN_STAT_PLL_OK j) = false))) ∧
  (∀ (mid : Mid) (i : Fin 103) (value errors : Word32) (s : State),
      let eye := (Fld.LN_ES_CTRL_EYE i).get value
      (s.awake (Reg.LN_ES_CTRL i) → Sparse.get false s.lane.scan i = false → (eye = 0 ∨ (eye < 3 ∧ s.lanePam4 i = true)) →
        Completes (.eyeScanStart mid i value) s fun t =>
          Sparse.get false t.lane.scan i = true ∧ t.reg (Reg.LN_ES_ERR i) = 0 ∧ t.done.status = Code.ok ∧
          Only [wholeReg (Reg.LN_ES_CTRL i), wholeReg (Reg.LN_ES_ERR i)] { s with lane := { s.lane with scan := t.lane.scan } } t) ∧
      (s.awake (Reg.LN_ES_CTRL i) → Sparse.get false s.lane.scan i = false → (eye = 3 ∨ (eye ≠ 0 ∧ s.lanePam4 i = false)) →
        Completes (.eyeScanStart mid i value) s fun t =>
          t.lane = s.lane ∧ t.flag (Fld.LN_ES_STAT_ABORTED i) = true ∧ Only [wholeReg (Reg.LN_ES_CTRL i), Fld.LN_ES_STAT_ABORTED i] s t) ∧
      (Sparse.get false s.lane.scan i = true → Completes (.eyeScanDone i errors) s fun t =>
        t.reg (Reg.LN_ES_ERR i) = errors ∧ t.flag (Fld.LN_ES_STAT_DONE i) = true ∧ Sparse.get false t.lane.scan i = false ∧
        Only [wholeReg (Reg.LN_ES_ERR i), Fld.LN_ES_STAT_DONE i] { s with lane := { s.lane with scan := t.lane.scan } } t))

/-! ## Link engines (chapter 8) -/

/-- R244, R245, R252, R258: the state of a link.  A write of LN_LE_CFG takes effect on a lane that the image does not own, takes the
link down where it changes the protocol, the group or FEC, and reports a forbidden source with CFG_BAD; block lock on every member with a
skew within 16 blocks brings the link up, a greater skew sets DESKEW; the fall of UP discards what the engines hold.

R248 to R250, R259, R261: a raw word that arrives is counted, handed to the acquisition engine and queued for its release, or dropped
as the 33rd; a release puts the word due into the lane's output register; a step takes the word that has landed, or the plan's words, for
transmission; the end of the measurement gives the latency and sets ALIGNED. -/
def Obligations.LinkWords : Prop :=
  (∀ (mid : Mid) (lane : Fin 103) (value : Word32) (skew : Nat) (s : State),
      let b := s.baseOf lane
      (lane.val < 96 → s.awake (Reg.LN_LE_CFG lane) → s.imageOwner 0x04 lane = 0 → Completes (.lnLeCfgWrite mid lane value) s fun t =>
        t.reg (Reg.LN_LE_CFG lane) = value &&& 0xFFFF ∧ t.done.status = Code.ok ∧
        (b ≠ 96 → (s.reg (Reg.LN_LE_CFG lane) ^^^ (value &&& 0xFFFF)) &&& 0x7F ≠ 0 → t.linkUp b = false) ∧
        ((Fld.LN_LE_CFG_MODE lane).get value ≠ 0 → (Fld.LN_LE_CFG_TX_SRC lane).get value = 3 →
          t.flag (Fld.LN_LE_STAT_CFG_BAD lane) = true ∧ t.sticky (linkEvent lane) = true) ∧
        ((s.reg (Reg.LN_LE_CFG lane) ^^^ (value &&& 0xFFFF)) &&& 0x7F = 0 →
          (s.setReg (Reg.LN_LE_CFG lane) (value &&& 0xFFFF)).engineBad lane = false → Only [wholeReg (Reg.LN_LE_CFG lane)] s t)) ∧
      (96 ≤ lane.val → lane.val < 100 → s.awake (Reg.LN_LE_CFG lane) →
        Completes (.lnLeCfgWrite mid lane value) s fun t => t.done.status = Code.ok ∧ Only [] s t) ∧
      (s.laneRuns lane = true → s.flag (Fld.LN_STAT_READY lane) = true → s.engineBad lane = false →
        s.fld (Fld.LN_LE_CFG_MODE lane) ≠ 0 → Completes (.blockLock lane) s fun t =>
          (t.engOf lane).blockLock = true ∧ (∀ k, k ≠ lane.val → t.engOf k = s.engOf k) ∧ t = { s with eng := t.eng }) ∧
      ((∀ k ∈ s.members b, (s.engOf k).blockLock = true ∧ s.flag (Fld.LN_STAT_READY k) = true) → s.engineBad lane = false →
        s.fld (Fld.LN_LE_CFG_MODE b) ≠ 0 → s.linkUp b = false →
        (s.groupSize b ≤ 1 ∨ skew ≤ 16 → Completes (.linkUp lane skew) s fun t =>
          t.linkUp b = true ∧ (s.reliable b = true → t.fld (Fld.QL_REL_STAT_CREDIT b) = 2048) ∧ (t.engOf b).rxSeq = 0 ∧
          (t.engOf b).replay = [] ∧ Only [Fld.LN_LE_STAT_UP b, wholeReg (Reg.QL_REL_STAT b)] { s with eng := t.eng } t) ∧
        (1 < s.groupSize b → 16 < skew → Completes (.linkUp lane skew) s fun t =>
          t.linkUp b = false ∧ t.flag (Fld.LN_LE_STAT_DESKEW b) = true ∧ t.sticky (linkEvent b) = true ∧
          OnlyEv [Fld.LN_LE_STAT_DESKEW b] s t)) ∧
      (b ≠ 96 → s.linkUp b = true → Completes (.linkDown lane) s fun t =>
        t.linkUp b = false ∧ t.flag (Fld.LN_LE_STAT_ALIGNED b) = false ∧ t.flag (Fld.LN_LE_STAT_DOWN b) = true ∧
        t.sticky (linkEvent b) = true ∧ (∀ k ∈ s.members b, t.engOf k = { (s.engOf k).fallen with blockLock := false }) ∧
        (∀ k, k ∉ s.members b → t.engOf k = s.engOf k) ∧
        OnlyEv [Fld.LN_LE_STAT_UP b, Fld.LN_LE_STAT_ALIGNED b, Fld.LN_LE_XLAT_VALID b, Fld.LN_LE_STAT_RETRYING b,
          wholeReg (Reg.QL_REL_STAT b), Fld.LN_LE_STAT_DOWN b] { s with eng := t.eng } t)) ∧
  (∀ (lane : Fin 103) (word : Word64) (valid cut : Bool) (s : State),
      let b := s.baseOf lane
      let e := s.engOf lane
      (s.linkUp lane = true → (s.fld (Fld.LN_LE_CFG_MODE lane) = 3 ∨ s.fld (Fld.LN_LE_CFG_MODE lane) = 4) →
        s.reg (Reg.LN_LE_WORDS lane) ≠ 0xFFFFFFFF → Completes (.wordAvailable lane word valid cut) s fun t =>
          t.reg (Reg.LN_LE_WORDS lane) = s.reg (Reg.LN_LE_WORDS lane) + 1 ∧
          (s.flag (Fld.LN_LE_CFG_TO_ACQ lane) = true → ∃ full, t.acq.inbox = s.acq.inbox ++
            [{ lane := lane, value := word, valid := valid, full := full, readout := none }]) ∧
          (s.flag (Fld.LN_LE_CFG_TO_ACQ lane) = false → t.acq = s.acq) ∧
          (s.flag (Fld.LN_LE_CFG_TO_ARR lane) = true → e.waiting.length < 32 → (t.engOf lane).waiting =
            e.waiting ++ [{ value := word, valid := valid, tag := none, wait := s.fld (Fld.LN_LE_DELAY_DELAY lane) }]) ∧
          (s.flag (Fld.LN_LE_CFG_TO_ARR lane) = true → 32 ≤ e.waiting.length → s.reg (Reg.LN_LE_DROP lane) ≠ 0xFFFFFFFF →
            t.eng = s.eng ∧ t.reg (Reg.LN_LE_DROP lane) = s.reg (Reg.LN_LE_DROP lane) + 1 ∧
            t.flag (Fld.LN_LE_STAT_OVF lane) = true ∧ t.sticky (linkEvent lane) = true) ∧
          (valid = true → s.flag (Fld.LN_LE_CFG_TO_ARR lane) = false ∨ e.waiting.length < 32 →
            Only [wholeReg (Reg.LN_LE_WORDS lane)] { s with eng := t.eng, acq := t.acq } t) ∧
          (valid = false → s.reg (Reg.LN_LE_INV lane) ≠ 0xFFFFFFFF →
            t.reg (Reg.LN_LE_INV lane) = s.reg (Reg.LN_LE_INV lane) + 1 ∧ t.sticky (linkEvent lane) = true ∧
            (if cut = true ∧ s.fld (Fld.LN_LE_CFG_MODE lane) = 3 then t.flag (Fld.LN_LE_STAT_MISALIGN lane) = true
             else t.flag (Fld.LN_LE_STAT_UNC lane) = true))) ∧
      (s.seqState = 2 → e.released = false → s.flag (Fld.LN_LE_CFG_TO_ARR b) = true → s.engineBad lane = false →
        (∀ w rest, s.byPlan b = false → e.waiting = w :: rest → w.wait = 0 → Completes (.wordRelease lane) s fun t =>
          t.engOf lane = { e with waiting := rest, outWord := w.value, outValid := w.valid, outTag := w.tag, released := true } ∧
          (∀ k, k ≠ lane.val → t.engOf k = s.engOf k) ∧ (w.valid = true → t = { s with eng := t.eng })) ∧
        (∀ x row w, s.byPlan b = true → s.planDue b = some (x, row) →
          (s.engOf b).plan.find? (fun w => w.turn == x && w.index == row * s.groupSize b + (lane.val - b)) = some w →
          w.intact = true → Completes (.wordRelease lane) s fun t =>
            (t.engOf lane).outWord = w.value ∧ (t.engOf lane).outValid = true ∧ (t.engOf lane).outTag = some (BitVec.ofNat 8 x) ∧
            t = { s with eng := t.eng })) ∧
      (s.seqState = 2 → (s.engOf b).took = false → s.fld (Fld.LN_LE_CFG_TX_SRC b) = 1 → s.engineBad b = false →
        (s.quire b = false → (s.engOf b).txNew = true → Completes (.txWordTake lane) s fun t =>
          t.engOf b = { s.engOf b with took := true, txNew := false } ∧
          t = { s with eng := t.eng, out := s.out ++ [.rawWord b (s.engOf b).txIn] }) ∧
        (s.quire b = true → s.seq.step < s.turnLen → s.planBit b s.seq.step = true →
          (s.engOf b).txWords.length + s.groupSize b ≤ 64 → Completes (.txWordTake lane) s fun t =>
            (t.engOf b).took = true ∧ t = { s with eng := t.eng } ∧
            let row := ((List.range s.seq.step).filter (fun q => s.planBit b q)).length
            (t.engOf b).txWords = (s.engOf b).txWords ++ (s.members b).map fun i =>
              { turn := s.seq.turn, index := row * s.groupSize b + (i - b), value := (s.engOf i).txIn })) ∧
      (s.byPlan b = true → s.linkUp b = true → s.flag (Fld.LN_LE_STAT_ALIGNED b) = false →
        (s.engOf b).alignFrom + 2 ^ s.fld (Fld.QL_CFG_ALIGN_EXP b) ≤ s.seq.turn → Completes (.alignmentWindowEnd lane) s fun t =>
          t.fld (Fld.LN_LE_XLAT_XLAT b) = (s.engOf b).maxLat % 2 ^ (Fld.LN_LE_XLAT_XLAT b).width ∧
          t.flag (Fld.LN_LE_XLAT_VALID b) = true ∧ t.flag (Fld.LN_LE_STAT_ALIGNED b) = true ∧
          (if s.fld (Fld.LN_LE_DELAY_DELAY b) < (s.engOf b).maxLat then
            t.flag (Fld.LN_LE_STAT_LATE b) = true ∧ t.sticky (linkEvent b) = true
           else Only [Fld.LN_LE_XLAT_XLAT b, Fld.LN_LE_XLAT_VALID b, Fld.LN_LE_STAT_ALIGNED b] s t)))

/-- R255 to R257, R263: data frames.  In fast mode an intact frame is delivered word by word, and READOUT words go to the acquisition
engine only; from the first damaged block on every word is invalid; a frame of 0 or more than 16 words is dropped with PROTO.  In reliable
mode a frame in order is delivered and acknowledged, and one out of order is refused with one NAK.

R259, R263, R264, R266: what a Quire engine sends.  An ACK lets go of frames and adds credit up to 2048 blocks; a NAK or the time-out
sends every unacknowledged frame again, and after MAXRETRY replays the link goes down and up with RETRY_FAIL; a waiting BAR frame goes
first, else a frame of the words taken, which in reliable mode takes a SEQ, credit and a place in the replay buffer. -/
def Obligations.QuireFrames : Prop :=
  (∀ (lane : Fin 103) (f : QuireFrame) (s : State) (c : Instr) (ft : Nat),
      (c = .xdevFrame lane f ∧ ft = 1) ∨ (c = .feedFrame lane f ∧ ft = 2) ∨ (c = .trigFrame lane f ∧ ft = 3) ∨
        (c = .readoutFrame lane f ∧ ft = 4) →
      let b := s.baseOf lane
      let e := s.engOf b
      let intact := f.headerOk = true ∧ ∀ w ∈ f.words, w.2 = true
      s.quire b = true → s.linkUp b = true →
      (f.headerOk = true → (f.words.length = 0 ∨ 16 < f.words.length) → s.reg (Reg.LN_LE_DROP b) ≠ 0xFFFFFFFF →
        Completes c s fun t =>
          t.reg (Reg.LN_LE_DROP b) = s.reg (Reg.LN_LE_DROP b) + 1 ∧ t.flag (Fld.LN_LE_STAT_PROTO b) = true ∧
          t.sticky (linkEvent b) = true ∧ OnlyEv [wholeReg (Reg.LN_LE_DROP b), Fld.LN_LE_STAT_PROTO b] s t) ∧
      (f.headerOk = true → 1 ≤ f.words.length → f.words.length ≤ 16 → s.flag (Fld.LN_LE_CFG_TO_ARR b) = false →
        (s.flag (Fld.LN_LE_CFG_TO_ACQ b) = true ∨ ft = 4) → (s.byPlan b = false ∨ ft = 4) →
        s.reliable b = false ∨ (intact ∧ f.crcOk = true ∧ f.seq.toNat = e.rxSeq) → Completes c s fun t =>
          t.acq.inbox.map (fun x => (x.lane, x.value, x.valid, x.readout)) =
            s.acq.inbox.map (fun x => (x.lane, x.value, x.valid, x.readout)) ++ (frameWords f.words).zipIdx.map (fun w =>
              (if ft = 4 then b else b + (f.first.toNat + w.2) % s.groupSize b, w.1.1, w.1.2,
               if ft = 4 then some f.turn.toNat else none)) ∧
          ((s.reg (Reg.LN_LE_WORDS b)).toNat + f.words.length < 2 ^ 32 →
            (t.reg (Reg.LN_LE_WORDS b)).toNat = (s.reg (Reg.LN_LE_WORDS b)).toNat + f.words.length) ∧
          (intact → Only [wholeReg (Reg.LN_LE_WORDS b)] { s with eng := t.eng, acq := t.acq } t) ∧
          (¬ intact → t.flag (Fld.LN_LE_STAT_UNC b) = true ∧ t.sticky (linkEvent b) = true) ∧
          (s.reliable b = true → (t.engOf b).rxSeq = (e.rxSeq + 1) % 4096 ∧ (t.engOf b).refused = false ∧
            t.out = s.out ++ [.quireAck b e.rxSeq false (e.freed + 2 + f.words.length)]) ∧
          (s.reliable b = false → t.eng = s.eng)) ∧
      (s.reliable b = true → intact → 1 ≤ f.words.length → f.words.length ≤ 16 → (f.crcOk = false ∨ f.seq.toNat ≠ e.rxSeq) →
        Completes c s fun t =>
          (e.refused = false → t.engOf b = { e with refused := true, freed := 0 } ∧
            t = { s with eng := t.eng, out := s.out ++ [.quireAck b ((e.rxSeq + 4095) % 4096) true e.freed] }) ∧
          (e.refused = true → t = s)) ∧
      (s.reliable b = false → f.headerOk = false → Completes c s fun t =>
        t.acq = s.acq ∧ t.eng = s.eng ∧ t.flag (Fld.LN_LE_STAT_UNC b) = true ∧ t.flag (Fld.LN_LE_STAT_PROTO b) = true ∧
        OnlyEv [wholeReg (Reg.LN_LE_DROP b), Fld.LN_LE_STAT_UNC b, Fld.LN_LE_STAT_PROTO b] s t)) ∧
  (∀ (lane : Fin 103) (ackseq credit : BitVec 12) (s : State),
      let b := s.baseOf lane
      let e := s.engOf b
      let limit := if s.fld (Fld.QL_REL_CFG_MAXRETRY b) = 0 then 16 else s.fld (Fld.QL_REL_CFG_MAXRETRY b)
      let held := e.replay.any (fun f => f.seq == ackseq.toNat)
      let rest := if held then (e.replay.dropWhile (fun f => f.seq != ackseq.toNat)).drop 1 else e.replay
      s.linkUp b = true →
      (s.reliable b = true →
        (Completes (.qlAck lane ackseq credit) s fun t =>
          t.engOf b = { e with replay := rest, retries := if held then 0 else e.retries } ∧
          t.fld (Fld.QL_REL_STAT_CREDIT b) = min 2048 (s.fld (Fld.QL_REL_STAT_CREDIT b) + credit.toNat) ∧
          t.fld (Fld.QL_REL_STAT_UNACK b) = rest.length % 2 ^ (Fld.QL_REL_STAT_UNACK b).width ∧
          (held = true → t.flag (Fld.LN_LE_STAT_RETRYING b) = false) ∧
          Only [Fld.QL_REL_STAT_CREDIT b, Fld.QL_REL_STAT_UNACK b, Fld.LN_LE_STAT_RETRYING b] { s with eng := t.eng } t) ∧
        (Completes (.qlNak lane ackseq credit) s fun t =>
          ∃ u, exec (.qlAck lane ackseq credit) s = .next u ∧ exec (.replayTimeout lane) u = .next t) ∧
        (e.replay ≠ [] → e.retries < limit → s.reg (Reg.QL_RETRY b) ≠ 0xFFFFFFFF → Completes (.replayTimeout lane) s fun t =>
          t.engOf b = { e with retries := e.retries + 1 } ∧ t.reg (Reg.QL_RETRY b) = s.reg (Reg.QL_RETRY b) + 1 ∧
          t.flag (Fld.LN_LE_STAT_RETRYING b) = true ∧
          t.out = s.out ++ e.replay.map (fun f => .quireFrame b f.ftype f.seq f.turn f.first f.kind f.vote f.words) ∧
          Only [wholeReg (Reg.QL_RETRY b), Fld.LN_LE_STAT_RETRYING b] { s with eng := t.eng } t) ∧
        (b ≠ 96 → e.replay ≠ [] → limit ≤ e.retries → Completes (.replayTimeout lane) s fun t =>
          t.linkUp b = true ∧ t.flag (Fld.LN_LE_STAT_RETRY_FAIL b) = true ∧ (t.engOf b).replay = [] ∧
          t.fld (Fld.QL_REL_STAT_CREDIT b) = 2048) ∧
        (∀ kind vote turn rest, e.bars = (kind, vote, turn) :: rest → 2 ≤ s.fld (Fld.QL_REL_STAT_CREDIT b) → e.replay.length < 64 →
          Completes (.frameSend lane) s fun t =>
            let seq := s.fld (Fld.QL_REL_STAT_TXSEQ b)
            t.out = s.out ++ [.quireFrame b 5 seq turn 0 kind vote []] ∧ (t.engOf b).bars = rest ∧
            (t.engOf b).replay = e.replay ++
              [{ ftype := 5, seq := seq, turn := turn, first := 0, kind := kind, vote := vote, words := [] }] ∧
            t.fld (Fld.QL_REL_STAT_TXSEQ b) = (seq + 1) % 4096 ∧
            t.fld (Fld.QL_REL_STAT_CREDIT b) = s.fld (Fld.QL_REL_STAT_CREDIT b) - 2)) ∧
      (s.fld (Fld.LN_LE_CFG_MODE b) = 1 →
        (∀ kind vote turn rest, e.bars = (kind, vote, turn) :: rest → Completes (.frameSend lane) s fun t =>
          t.engOf b = { e with bars := rest } ∧ t = { s with eng := t.eng, out := s.out ++ [.quireFrame b 5 0 turn 0 kind vote []] }) ∧
        (∀ w ws, e.bars = [] → e.txWords = w :: ws → s.planWords b - w.index = 1 → Completes (.frameSend lane) s fun t =>
          t.engOf b = { e with txWords := ws } ∧
          t = { s with eng := t.eng, out := s.out ++ [.quireFrame b (s.fld (Fld.LN_LE_CFG_TX_FTYPE b)) 0 w.turn
            (if s.byPlan b then w.index else 0) false false [w.value]] })))

/-- R272, R274, R275: the Ethernet subset.  A datagram is sent by its entry or refused by name; a received frame becomes words where it is
the entry's UDP stream, reaches a core where it is addressed to firmware, and is counted where it is dropped; firmware's frames wait in a
queue of eight and are answered when sent. -/
def Obligations.EthernetFrames : Prop :=
  ∀ (lane : Fin 103) (dest : Fin 8) (payload bytes : List Byte) (fcsOk wantTs : Bool) (count : Word64) (frac : Byte)
    (core : Fin 2) (tag : BitVec 16) (s : State),
    let up := s.ethernet lane = true ∧ s.linkUp lane = true
    let d := s.ethDst lane dest
    let e := s.engOf lane
    let refused := fun (code : Status) (t : State) =>
      t.done.status = code ∧ t.fld (Fld.LN_LE_STAT_TX_CODE lane) = code.toNat ∧ t.flag (Fld.LN_LE_STAT_TX_REFUSED lane) = true ∧
      t.sticky (linkEvent lane) = true ∧ OnlyEv [Fld.LN_LE_STAT_TX_CODE lane, Fld.LN_LE_STAT_TX_REFUSED lane] s t
    (s.fld (Fld.LN_LE_CFG_TX_SRC lane) = 2 → 8 ≤ payload.length → payload.length ≤ 8192 →
      (¬ up → Completes (.udpDatagram lane dest payload) s (refused Code.lnDown)) ∧
      (up → (d.getD 6 0).getLsbD 0 = false → Completes (.udpDatagram lane dest payload) s (refused Code.lnMode)) ∧
      (up → (d.getD 6 0).getLsbD 0 = true →
        s.mtu lane < (if (d.getD 6 0).getLsbD 1 then 48 else 28) + payload.length →
        Completes (.udpDatagram lane dest payload) s (refused Code.lnMtu)) ∧
      (up → (d.getD 6 0).getLsbD 0 = true → (if (d.getD 6 0).getLsbD 1 then 48 else 28) + payload.length ≤ s.mtu lane →
        Completes (.udpDatagram lane dest payload) s fun t =>
          t.out = s.out ++ [.ethFrame lane (s.datagram lane d payload)] ∧ t.done.status = Code.ok ∧
          t.engOf lane = { e with ipId := (e.ipId + 1) % 65536 } ∧ Only [] { s with eng := t.eng } t)) ∧
    (up → s.reg (Reg.LN_LE_DROP lane) ≠ 0xFFFFFFFF →
      (bytes.length < 60 ∨ 9212 < bytes.length ∨ (udpOf bytes = none ∧ fcsOk = false) ∨ (udpOf bytes = none ∧ 448 < bytes.length) →
        Completes (.ethernetFrameReceive lane bytes fcsOk count frac) s fun t =>
          t.reg (Reg.LN_LE_DROP lane) = s.reg (Reg.LN_LE_DROP lane) + 1 ∧ Only [wholeReg (Reg.LN_LE_DROP lane)] s t) ∧
      (60 ≤ bytes.length → bytes.length ≤ 448 → udpOf bytes = none → fcsOk = true → be16At bytes (etherAt bytes) ≠ 0x8808 →
        bytes.take 6 = s.ethMac lane → Completes (.ethernetFrameReceive lane bytes fcsOk count frac) s fun t =>
          ∃ head : List Byte, head.length = 32 ∧
            head.take 3 = bytesOfNat 2 bytes.length ++ [BitVec.ofNat 8 (lane.val % 4 + (if ptpEvent bytes then 4 else 0))] ∧
            t = { s with out := s.out ++ [.coreMsg (s.fld (Fld.ETH_CFG_RX_CORE lane))
              (head ++ padTo (32 * ((bytes.length + 31) / 32)) bytes)] }) ∧
      (∀ dst port p, 60 ≤ bytes.length → bytes.length ≤ 9212 → udpOf bytes = some (dst, port, p) →
        s.fld (Fld.ETH_CFG_RX_PORT lane) ≠ 0 → port = s.fld (Fld.ETH_CFG_RX_PORT lane) → dst = s.ethIp4 lane ∨ dst = s.ethIp6 lane →
        (s.reg (Reg.LN_LE_WORDS lane)).toNat + (p.length + 7) / 8 < 2 ^ 32 → s.flag (Fld.LN_LE_CFG_TO_ARR lane) = false →
        fcsOk = true → Completes (.ethernetFrameReceive lane bytes fcsOk count frac) s fun t =>
          (t.reg (Reg.LN_LE_WORDS lane)).toNat = (s.reg (Reg.LN_LE_WORDS lane)).toNat + (p.length + 7) / 8 ∧
          (s.flag (Fld.LN_LE_CFG_TO_ACQ lane) = true → t.acq.inbox.map (fun x => (x.lane, x.value)) =
            s.acq.inbox.map (fun x => (x.lane, x.value)) ++ (wordsOfBytes p).map (fun w => (lane.val, w))) ∧
          Only [wholeReg (Reg.LN_LE_WORDS lane)] { s with acq := t.acq } t)) ∧
    (¬ up → Completes (.frameTransmitRequest lane core tag wantTs bytes) s fun t =>
      refused Code.lnDown t ∧ t.out.getLast? = some (.coreMsg core (sentAnswer tag.toNat Code.lnDown.toNat []))) ∧
    (up → 8 ≤ e.jobs.length → Completes (.frameTransmitRequest lane core tag wantTs bytes) s fun t =>
      refused Code.lnFull t ∧ t.out.getLast? = some (.coreMsg core (sentAnswer tag.toNat Code.lnFull.toNat []))) ∧
    (up → e.jobs.length < 8 → Completes (.frameTransmitRequest lane core tag wantTs bytes) s fun t =>
      t.engOf lane = { e with jobs := e.jobs ++ [{ core := core, tag := tag.toNat, wantTs := wantTs, bytes := bytes }] } ∧
      t = { s with eng := t.eng }) ∧
    (∀ j rest, e.jobs = j :: rest → Completes (.frameSent lane count frac) s fun t =>
      t.engOf lane = { e with jobs := rest } ∧
      t = { s with
            eng := t.eng
            out := s.out ++ [.ethFrame lane (padTo 60 j.bytes), .coreMsg j.core
              (sentAnswer j.tag 0 (if j.wantTs then s.tsBytes lane true count frac else []))] })

/-! ## The array (chapters 2 and 3) -/

/-- R37 to R41, R45, R50 to R56, R64: a Boolean processor executes its word.  Where the word checks clean and none of its operands is
reserved, invalid or early, the truth table's bit for the operands' values goes where the opcode and DST send it: a slot and the own bus
bit (EVAL), a bus bit (EVALX), a memory port's field (MRD, MWR), a lane source or an outbound port bit (PORT), a probe channel (PROBE), the
vote (BARRIER); NOP drives nothing; a reserved opcode and a DST outside the opcode's range are faults. -/
def Obligations.BooleanProcessor : Prop :=
  ∀ (p : BpId) (s : State),
    let n := p.sorus.val; let f := p.frond.val; let b := p.bp.val
    let i := (s.fetch n f b).1
    let k := n * 16 + f
    let val := fun sel => (s.operand n f b sel).val
    let r := i.tt.testBit ((if val i.a then 1 else 0) + (if val i.b then 2 else 0) + (if val i.c then 4 else 0) + (if val i.d then 8 else 0))
    let ran := fun (t : State) => t.hasRun n f b = true ∧ t.cns = { s.cns with clean := t.cns.clean } ∧
      t = { s with cns := t.cns, arr := { s.arr with
        ran := t.arr.ran, slotWrites := t.arr.slotWrites, drives := t.arr.drives, voted0 := t.arr.voted0, faults := t.arr.faults } }
    let drives := fun (t : State) (wire : Nat) =>
      Sparse.get [] t.arr.drives k = Sparse.get [] s.arr.drives k ++ [{ wire := wire, bp := b, val := r, dst := i.dst }] ∧
      (∀ j, j ≠ k → Sparse.get [] t.arr.drives j = Sparse.get [] s.arr.drives j) ∧
      t.arr.voted0 = s.arr.voted0 ∧ t.arr.faults = s.arr.faults
    let faulted := fun (t : State) (cause : Nat) =>
      t.arr.drives = s.arr.drives ∧ t.arr.slotWrites = s.arr.slotWrites ∧ t.arr.voted0 = s.arr.voted0 ∧
      ∃ x ∈ t.arr.faults, x.sorus = n ∧ x.cause = cause ∧ x.frond = f ∧ x.bp = b
    s.executes n = true → s.hasRun n f b = false → (s.fetch n f b).2 = .clean →
    (∀ sel, sel = i.a ∨ sel = i.b ∨ sel = i.c ∨ sel = i.d → (s.operand n f b sel).reserved = false ∧
      (s.operand n f b sel).poison = false ∧ (s.operand n f b sel).early = false) →
    (i.op = 0 → Completes (.bpNop p) s fun t => ran t ∧ t.arr.drives = s.arr.drives ∧ t.arr.slotWrites = s.arr.slotWrites ∧
      t.arr.voted0 = s.arr.voted0 ∧ t.arr.faults = s.arr.faults) ∧
    (i.op = 1 → Completes (.bpEval p) s fun t => ran t ∧ drives t b ∧
      t.arr.slotWrites = s.arr.slotWrites ++ [{ sorus := n, frond := f, bp := b, slot := i.dst, val := r }]) ∧
    (i.op = 2 → Completes (.bpEvalx p) s fun t => ran t ∧ t.arr.slotWrites = s.arr.slotWrites ∧
      (i.dst < 64 → drives t b) ∧ (64 ≤ i.dst → i.dst < 128 → drives t (i.dst - 64)) ∧ (128 ≤ i.dst → faulted t 2)) ∧
    (i.op = 4 → Completes (.bpMrd p) s fun t => ran t ∧ t.arr.slotWrites = s.arr.slotWrites ∧
      (i.dst % 64 ≤ 15 → drives t (memWire i.dst (i.dst % 64))) ∧ (15 < i.dst % 64 → faulted t 2)) ∧
    (i.op = 5 → Completes (.bpMwr p) s fun t => ran t ∧ t.arr.slotWrites = s.arr.slotWrites ∧
      (i.dst % 64 = 15 → drives t (memWire i.dst 52)) ∧
      (i.dst % 64 ≠ 15 → i.dst % 64 ≤ 51 → drives t (memWire i.dst (i.dst % 64))) ∧ (51 < i.dst % 64 → faulted t 2)) ∧
    (i.op = 6 → Completes (.bpPort p) s fun t => ran t ∧ t.arr.slotWrites = s.arr.slotWrites ∧
      (i.dst < 128 → drives t (64 + i.dst)) ∧ (128 ≤ i.dst → faulted t 2)) ∧
    (i.op = 7 → Completes (.bpProbe p) s fun t => ran t ∧ t.arr.slotWrites = s.arr.slotWrites ∧
      (i.dst < 128 → drives t (192 + i.dst)) ∧ (128 ≤ i.dst → faulted t 2)) ∧
    (i.op = 8 → Completes (.bpBarrier p) s fun t => ran t ∧ t.arr.slotWrites = s.arr.slotWrites ∧ t.arr.drives = s.arr.drives ∧
      t.arr.faults = s.arr.faults ∧ (r = true → t.arr.voted0 = s.arr.voted0) ∧
      (r = false → Sparse.get false t.arr.voted0 n = true ∧
        ∀ j, j ≠ n → Sparse.get false t.arr.voted0 j = Sparse.get false s.arr.voted0 j)) ∧
    (9 ≤ i.op → Completes (.bpIllOp p) s fun t => ran t ∧ faulted t 1)

/-- R57 to R63: a gang group executes at its base.  A well-formed group with a named GOP writes the result of the operation on the words X
and Y and the carry in, bit i into slot DST and the own bus bit of member base + i, and with FLAGS its top member writes C, V and N; a
malformed group writes zeros and records a fault. -/
def Obligations.GangGroup : Prop :=
  ∀ (p : BpId) (s : State) (g : Gang) (c : Instr) (op : Nat),
    let n := p.sorus.val; let f := p.frond.val
    let k := n * 16 + f
    let w := g.width
    let bitsOf := fun (sel : Insn → Nat) =>
      (g.members.map fun m => if (s.operand n f m.1 (sel m.2)).val then 2 ^ (m.1 - g.base) else 0).sum
    let x := bitsOf (fun i => i.a); let y := bitsOf (fun i => i.b)
    let carry := match g.members with
      | m :: _ => if (s.operand n f m.1 m.2.c).val then 1 else 0
      | [] => 0
    let cin := if op ≤ 1 then carry else 0
    let sgn := g.tt.testBit 9
    let lt := if sgn then signedOf w x < signedOf w y else x < y
    let ones := 2 ^ w - 1
    let quiet := fun (o : Operand) => o.reserved = false ∧ o.poison = false ∧ o.early = false
    let wrote := fun (t : State) (word : Nat) (flags : List SlotWrite) =>
      t.arr.slotWrites = s.arr.slotWrites ++ (g.members.map fun m =>
        { sorus := n, frond := f, bp := m.1, slot := m.2.dst, val := word.testBit (m.1 - g.base) }) ++ flags ∧
      Sparse.get [] t.arr.drives k = Sparse.get [] s.arr.drives k ++ (g.members.map fun m =>
        { wire := m.1, bp := m.1, val := word.testBit (m.1 - g.base), dst := m.2.dst }) ∧
      (∀ j, j ≠ k → Sparse.get [] t.arr.drives j = Sparse.get [] s.arr.drives j) ∧
      t.cns = { s.cns with clean := t.cns.clean } ∧
      t = { s with cns := t.cns, arr := { s.arr with
        ran := t.arr.ran, slotWrites := t.arr.slotWrites, drives := t.arr.drives, faults := t.arr.faults } }
    (c = .gangAdd p ∧ (op = 0 ∨ 8 ≤ op)) ∨ (c = .gangSub p ∧ op = 1) ∨ (c = .gangCmplt p ∧ op = 2) ∨ (c = .gangCmple p ∧ op = 3) ∨
      (c = .gangCmpeq p ∧ op = 4) ∨ (c = .gangMin p ∧ op = 5) ∨ (c = .gangMax p ∧ op = 6) ∨ (c = .gangAbsdiff p ∧ op = 7) →
    s.executes n = true → s.hasRun n f p.bp = false → (s.fetch n f p.bp).1.op = 3 → gangOp (s.fetch n f p.bp).1.tt = op →
    gangOp g.tt = op → (s.gangs n f).find? (fun g => g.base == p.bp.val) = some g →
    (∀ m ∈ g.members, (s.fetch n f m.1).2 = .clean ∧ quiet (s.operand n f m.1 m.2.a) ∧ quiet (s.operand n f m.1 m.2.b)) →
    (∀ m, g.members.head? = some m → quiet (s.operand n f m.1 m.2.c)) →
    (g.wellFormed = true → op < 8 → Completes c s fun t => ∃ word flags, wrote t word flags ∧ t.arr.faults = s.arr.faults ∧
      (op = 0 → word = (x + y + cin) % 2 ^ w) ∧ (op = 1 → word = natOfInt w ((x : Int) - y - cin)) ∧
      (op = 2 → word = if lt then ones else 0) ∧ (op = 3 → word = if lt ∨ x = y then ones else 0) ∧
      (op = 4 → word = if x = y then ones else 0) ∧ (op = 5 → word = if lt ∨ x = y then x else y) ∧
      (op = 6 → word = if lt then y else x) ∧
      (op = 7 → word = if sgn then natOfInt w (signedOf w x - signedOf w y).natAbs else ((x : Int) - y).natAbs) ∧
      let top := g.base + w - 1
      let fs := g.tt % 256
      (g.tt.testBit 8 = false → flags = []) ∧
      (g.tt.testBit 8 = true → (∀ m ∈ g.members, m.1 ≠ top) → flags = []) ∧
      (g.tt.testBit 8 = true → (∃ m ∈ g.members, m.1 = top) → ∃ fc fv fn,
        flags = [{ sorus := n, frond := f, bp := top, slot := fs, val := fc }, { sorus := n, frond := f, bp := top, slot := fs + 1, val := fv },
          { sorus := n, frond := f, bp := top, slot := fs + 2, val := fn }] ∧
        (op = 0 → (fc = true ↔ 2 ^ w ≤ x + y + cin) ∧ fn = word.testBit (w - 1)) ∧
        (op ≠ 0 → (fc = true ↔ x < y + cin) ∧ fn = (natOfInt w ((x : Int) - y - cin)).testBit (w - 1)) ∧
        (fv = true ↔ let z := if op = 0 then signedOf w x + signedOf w y + cin else signedOf w x - signedOf w y - cin
          z < -(2 ^ (w - 1) : Int) ∨ (2 ^ (w - 1) : Int) ≤ z))) ∧
    (g.wellFormed = false ∨ 8 ≤ op → Completes c s fun t => wrote t 0 [] ∧
      ∃ e ∈ t.arr.faults, e.sorus = n ∧ e.cause = 2 ∧ e.frond = f ∧ e.bp = g.base)

/-- R79, R88, R94: within a step of a running sequencer a block memory performs the access issued in the step before, a lane source
reaches the inputs that select it, and a pin's output register loads its third stage.

R104, R105, R107, R108: the windows of a sorus.  A read of ARR_IM_LO takes the selected instruction word into the staging word, a read
of ARR_IM_HI gives its middle bits, and a write of ARR_IM_HI stores the staging word with generated check bits; writes of configuration
words set MODIFIED; a written data-memory word is valid; while the sorus runs, each write is refused with ARR_BUSY and changes none of
these. -/
def Obligations.ArrayPartsAndWindows : Prop :=
  (∀ (sorus : Fin 34) (mem : Fin 32) (frond : Fin 16) (m : Fin 64) (bank : Fin 8) (pin : Fin 24) (s : State),
      let n := sorus.val
      let key := n * 64 + mem.val * 2
      let geo := bmGeometry (s.bmRatio n mem)
      (s.seqState = 2 →
        (∀ x, Sparse.get none s.arr.bmPend key = some x → Sparse.get none s.arr.bmPend (key + 1) = none →
          (x.re = true → x.we = false → Completes (.blockMemoryAccess sorus mem) s fun t =>
            Sparse.get 0 t.arr.rdReg key = BitVec.ofNat 36 (s.bmRead n mem x.addr) ∧ t.arr.landed = s.arr.landed ++ [(key, x.page)] ∧
            Sparse.get none t.arr.bmPend key = none ∧
            t = { s with arr := { s.arr with rdReg := t.arr.rdReg, landed := t.arr.landed, bmPend := t.arr.bmPend } }) ∧
          (x.re = false → x.we = true → s.memKept n mem = false → Completes (.blockMemoryAccess sorus mem) s fun t =>
            t.bmRead n mem x.addr = x.data.toNat % 2 ^ geo.2.1 ∧ Sparse.get none t.arr.bmPend key = none ∧
            (∀ a, a ≠ bmAddr n mem ((x.addr % 2 ^ geo.1) >>> geo.2.2) → a ≠ bmAddr n mem ((x.addr % 2 ^ geo.1) >>> geo.2.2) + 4 →
              t.reg a = s.reg a))) ∧
        (∀ x y, Sparse.get none s.arr.bmPend key = some x → Sparse.get none s.arr.bmPend (key + 1) = some y → x.re = false →
          y.re = false → x.we = true → y.we = true → x.addr % 2 ^ geo.1 = y.addr % 2 ^ geo.1 → s.memKept n mem = false →
          Completes (.blockMemoryAccess sorus mem) s fun t => t.bmRead n mem x.addr = 0) ∧
        (Completes (.sorusLaneDelivery sorus frond m) s fun t =>
          (∀ e ∈ s.xbarEntries n (s.lanePageOf n), xbarSource e.2 = some (frond.val * 64 + m.val) →
            bitAt t.arr.laneNext n (e.1 / 64) (e.1 % 64) = bitAt s.arr.laneSrc n frond m) ∧
          t = { s with arr := { s.arr with laneNext := t.arr.laneNext } })) ∧
      (Completes (.pinOutputLoad bank pin) s fun t =>
        let i := bank.val * 24 + pin.val
        t.iob.safeReg.getLsbD i = s.iob.safe3.getLsbD i ∧
        t.iob.outReg.getLsbD i = (if s.iob.safe3.getLsbD i then s.iob.outReg.getLsbD i else s.iob.stage3.getLsbD i) ∧
        (∀ j, j < 192 → j ≠ i → t.iob.outReg.getLsbD j = s.iob.outReg.getLsbD j ∧ t.iob.safeReg.getLsbD j = s.iob.safeReg.getLsbD j) ∧
        t = { s with iob := { s.iob with outReg := t.iob.outReg, safeReg := t.iob.safeReg } })) ∧
  (∀ (mid : Mid) (sorus : Fin 34) (word : Fin 4224) (slotWord : Fin 8192) (blockWord : Fin 65536) (value : Word32) (s : State),
      let n := sorus.val
      let old := s.imemWord (s.imSelected n)
      let confAddr := 0x0C001000 + n * 0x100000 + word.val * 4
      let slotAddr := 0x0C010000 + n * 0x100000 + slotWord.val * 4
      let blockAddr := 0x0C040000 + n * 0x100000 + blockWord.val * 4
      s.awake (Reg.ARR_IM_LO n) → s.awake (Reg.ARR_IM_HI n) → s.awake confAddr → s.awake slotAddr → s.awake blockAddr →
      (Completes (.arrImLoRead mid sorus) s fun t =>
        t.done = { status := Code.ok, data := old.setWidth 32 } ∧ t.stagingOf n = old ∧
        Only [] { s with arr := { s.arr with staging := t.arr.staging } } t) ∧
      (Completes (.arrImHiRead mid sorus) s fun t =>
        t.done.status = Code.ok ∧ t.done.data = (s.stagingOf n).extractLsb' 32 32 ∧
        (s.flag (Fld.ARR_IM_ADDR_AUTOINC n) = true →
          t.fld (Fld.ARR_IM_ADDR_WORD n) = (s.fld (Fld.ARR_IM_ADDR_WORD n) + 1) % 1024 ∧ Only [Fld.ARR_IM_ADDR_WORD n] s t) ∧
        (s.flag (Fld.ARR_IM_ADDR_AUTOINC n) = false → Only [] s t)) ∧
      (s.flag (Fld.ARR_STATUS_RUN n) = false →
        (Completes (.arrImHiWrite mid sorus value) s fun t =>
          let data : Word64 := value ++ ((s.stagingOf n).setWidth 32 : Word32)
          t.imemWord (s.imSelected n) = eccJoin data (eccChk data) ∧
          (∀ l, l ≠ s.imSelected n → t.imemWord l = s.imemWord l) ∧ t.flag (Fld.ARR_WIN_STAT_MODIFIED n) = true ∧
          t.sticky (2 * n + 1) = true ∧ t.done.status = Code.ok) ∧
        (Completes (.configWindowWrite mid sorus word value) s fun t =>
          t.reg confAddr = value ∧ t.flag (Fld.ARR_WIN_STAT_MODIFIED n) = true ∧ t.sticky (2 * n + 1) = true ∧ t.done.status = Code.ok ∧
          OnlyEv (wholeReg confAddr :: Fld.ARR_WIN_STAT_MODIFIED n :: (List.range 16).map fun j => wholeReg (Reg.SEC_MR 4 j)) s t) ∧
        (Completes (.memoryWindowWrite mid sorus (.slots slotWord) value) s fun t =>
          t.reg slotAddr = value ∧ t.reg (slotAddr + 0x8000) = 0xFFFFFFFF ∧ t.done.status = Code.ok ∧
          Only [wholeReg slotAddr, wholeReg (slotAddr + 0x8000)] s t) ∧
        (Completes (.memoryWindowWrite mid sorus (.block blockWord) value) s fun t =>
          t.reg blockAddr = (if blockWord.val % 2 = 1 then value &&& 0xF else value) ∧ t.done.status = Code.ok ∧
          Only [wholeReg blockAddr] s t)) ∧
      (s.flag (Fld.ARR_STATUS_RUN n) = true → ∀ c : Instr, c = .arrImHiWrite mid sorus value ∨ c = .configWindowWrite mid sorus word value ∨
        c = .memoryWindowWrite mid sorus (.slots slotWord) value ∨ c = .memoryWindowWrite mid sorus (.block blockWord) value →
        Completes c s fun t =>
          t.done.status = Code.arrBusy ∧ t.flag (Fld.ARR_STATUS_BUSY_REFUSED n) = true ∧ t.sticky (2 * n + 1) = true ∧
          t.arr = { s.arr with staging := t.arr.staging } ∧ ∀ a, eventSafe (wholeReg a) = true → a ≠ Reg.ARR_STATUS n → t.reg a = s.reg a))

/-! ## The register space (chapter 1) -/

/-- R9, R10, R498: register writes and reads under the access codes.  A write stores RW bits, sets W1S bits, keeps read-only bits, and
ignores a reserved register; 1s written to the sticky store or to HBM_STATUS clear exactly those bits where no condition persists, and a
MID without the right is refused; a read of a counter gives its value and clears it.

R11, R447, R482, R508, R618: a record's VALID bit written 1 clears every field of the record but OVF; LOCK sets a block's bit for a
MID that may write it, and refuses every other with DENIED. -/
def Obligations.RegisterCommands : Prop :=
  (∀ (mid : Mid) (addr : BitVec 28) (value mask : Word32) (s : State),
      let a := addr.toNat
      a % 4 = 0 → s.awake a →
      (∀ r, (a < 0x00100000 ∨ (0x07000000 ≤ a ∧ a < 0x08000000)) → Reg.row a = some r → r.w1c = 0 → r.rwl = 0 →
        Completes (.registerWrite mid addr value) s fun t =>
          (∀ k < 32, (t.reg a).getLsbD k = (if r.rw.testBit k then value.getLsbD k
            else (s.reg a).getLsbD k || (r.w1s.testBit k && value.getLsbD k))) ∧
          t.done.status = Code.ok ∧ Only [wholeReg a] s t) ∧
      ((a < 0x00100000 ∨ (0x07000000 ≤ a ∧ a < 0x08000000)) → Reg.row a = none → Completes (.registerWrite mid addr value) s fun t =>
        t.done.status = Code.ok ∧ Only [] s t) ∧
      ((∃ k < 16, a = Reg.EVT_STICKY k) → isManager mid = true →
        (∀ i < 80, s.alarming i = false) → s.pwr.talarm = false → s.pwr.tshut = false →
        Completes (.stickyClear mid addr mask) s fun t =>
          t.reg a = s.reg a &&& ~~~ mask ∧ t.done.status = Code.ok ∧ Only [wholeReg a] s t) ∧
      (a = Reg.HBM_STATUS → (∀ i < 80, s.alarming i = false) → s.pwr.talarm = false → s.pwr.tshut = false →
        Completes (.stickyClear mid addr mask) s fun t =>
          t.reg a = s.reg a &&& ~~~ (mask &&& 0x7F) ∧ t.done.status = Code.ok ∧ Only [wholeReg a] s t) ∧
      ((∃ k < 16, a = Reg.EVT_STICKY k) → isManager mid = false →
        Completes (.stickyClear mid addr mask) s fun t =>
          t.done.status = Code.denied ∧ t.flag Fld.LIB_STATUS_REFUSED = true ∧ t.sticky 475 = true ∧ OnlyEv [Fld.LIB_STATUS_REFUSED] s t) ∧
      (a = Reg.HBM_CORR_CNT ∨ a = Reg.HBM_UNC_CNT ∨ a = Reg.HST_MAL_CNT ∨ a = Reg.LRG_CRC_CNT ∨ a = Reg.LRG_EVT_DROP ∨
        (∃ i < 103, a = Reg.LN_LE_WORDS i ∨ a = Reg.LN_LE_INV i ∨ a = Reg.LN_LE_DROP i ∨ a = Reg.QL_RETRY i) →
        Completes (.counterRead mid addr) s fun t =>
          t.done = { status := Code.ok, data := s.reg a } ∧ t.reg a = 0 ∧ Only [wholeReg a] s t)) ∧
  (∀ (mid : Mid) (s : State),
      (∀ rec : RecordId, Completes (.recordClear mid rec) s fun t =>
        let p := recordParts rec
        t.reg p.1.addr = s.reg p.1.addr &&& recordKept rec ∧ (∀ a ∈ p.2, t.reg a = 0) ∧ t.done.status = Code.ok ∧
        Only (wholeReg p.1.addr :: p.2.map wholeReg) s t) ∧
      (∀ blk : LockBlock, isManager mid = true ∨ (blk = .conservator ∧ mid = 0x10) → Completes (.lockBlock mid blk) s fun t =>
        t.flag (lockBitOf blk) = true ∧ t.done.status = Code.ok ∧ Only [lockBitOf blk] s t) ∧
      (isManager mid = false → (mid ≠ 0x10 → Completes (.lockBlock mid .conservator) s fun t =>
          t.done.status = Code.denied ∧ t.flag Fld.CNS_STATUS_REFUSED = true ∧ t.sticky 429 = true ∧ OnlyEv [Fld.CNS_STATUS_REFUSED] s t) ∧
        ∀ blk, blk = .librarian ∨ blk = .carrels → Completes (.lockBlock mid blk) s fun t =>
          t.done.status = Code.denied ∧ t.flag Fld.LIB_STATUS_REFUSED = true ∧ t.sticky 475 = true ∧ OnlyEv [Fld.LIB_STATUS_REFUSED] s t))

/-! ## The sequencer (chapter 4) -/

/-- R114, R138 to R140: the commands of SEQ_CMD.  A command that R139 refuses completes with the first check's code, CMD_REFUSED and
EV074, and changes nothing else; an accepted one takes effect at once (START, RESUME, STEP, and STOP in ARMED and PAUSED) or waits for its
boundary with PENDING. -/
def Obligations.SequencerCommands : Prop :=
  ∀ (mid : Mid) (value : Word32) (s : State) (c : Instr) (code : Nat),
    (c = .seqStart mid value ∧ code = 1) ∨ (c = .seqStop mid value ∧ code = 2) ∨ (c = .seqPause mid value ∧ code = 3) ∨
      (c = .seqResume mid value ∧ code = 4) ∨ (c = .seqStep mid value ∧ code = 5) ∨ (c = .seqLevel mid value ∧ code = 6) ∨
      (c = .seqCapture mid value ∧ code = 7) →
    let st := s.seqState
    let named := Fld.SEQ_CMD_AT.get value = 1
    let ahead := signedOf 32 ((s.reg Reg.SEQ_CMD_TURN).toNat + (2 ^ 32 - s.seq.turn % 2 ^ 32))
    let accepts := (code = 1 ∧ ((st = 1 ∧ s.startSrc = 0) ∨ st = 5)) ∨ (code = 2 ∧ 1 ≤ st ∧ st ≤ 4) ∨ (code = 3 ∧ (st = 2 ∨ st = 3)) ∨
      ((code = 4 ∨ code = 5) ∧ st = 4) ∨ ((code = 6 ∨ code = 7) ∧ (st = 2 ∨ st = 3 ∨ st = 4))
    let locked := s.lockedSchedule = true ∧ 3 ≤ code ∧ code ≤ 6
    let noSlot := code = 7 ∧ s.slotInRegion = false
    let busy := s.seq.cmd ≠ none ∨ (code = 7 ∧ s.flag Fld.SEQ_CAP_STAT_BUSY = true)
    let refused := fun (k : Status) (t : State) =>
      t.done.status = k ∧ t.fld Fld.SEQ_CMD_STAT_CODE = k.toNat ∧ t.flag Fld.SEQ_STATUS_CMD_REFUSED = true ∧ t.sticky 74 = true ∧
      OnlyEv [Fld.SEQ_CMD_STAT_CODE, Fld.SEQ_STATUS_CMD_REFUSED] s t
    (noSlot → Completes c s (refused Code.overQuota)) ∧
    (¬ noSlot → locked → Completes c s (refused Code.seqLocked)) ∧
    (¬ noSlot → ¬ locked → ¬ accepts → Completes c s (refused Code.seqState)) ∧
    (¬ noSlot → ¬ locked → accepts → busy → Completes c s (refused Code.seqBusy)) ∧
    (¬ noSlot → ¬ locked → accepts → ¬ busy → named → ahead ≤ 0 → Completes c s (refused Code.seqLate)) ∧
    (¬ noSlot → ¬ locked → accepts → ¬ busy → (named → 0 < ahead) →
      (code = 1 → st = 1 → Completes c s fun t => t.seq = { s.seq with startMet := true } ∧ t.seqState = 1 ∧ t.done.status = Code.ok) ∧
      (code = 1 → st = 5 → Completes c s fun t =>
        t.seqState = 1 ∧ t.seq.startMet = (s.fld Fld.SEQ_CFG_START_SRC == 1) ∧ t.done.status = Code.ok) ∧
      (code = 2 → (st = 1 ∨ st = 4) → Completes c s fun t =>
        t.seqState = 5 ∧ t.fld Fld.SEQ_STATUS_STOP_CAUSE = 1 ∧ t.sticky 76 = true ∧ t.seq.startMet = false ∧
        (∀ n < 34, t.flag (Fld.ARR_STATUS_RUN n) = false) ∧ t.done.status = Code.ok) ∧
      (code = 2 → st = 3 → s.lockedSchedule = false → s.seq.thermal = false → ¬ named → Completes c s fun t =>
        t.seqState = 5 ∧ t.fld Fld.SEQ_STATUS_STOP_CAUSE = 1 ∧ t.done.status = Code.ok) ∧
      ((code = 2 ∧ st = 2) ∨ code = 3 ∨ code = 6 ∨ code = 7 → Completes c s fun t =>
        t.seq.cmd = some { code := code, turn := if named then some (s.reg Reg.SEQ_CMD_TURN).toNat else none,
                           level := Fld.SEQ_CMD_LEVEL.get value } ∧
        t.flag Fld.SEQ_CMD_STAT_PENDING = true ∧ t.fld Fld.SEQ_CMD_STAT_CODE = 0 ∧ t.done.status = Code.ok ∧
        Only [Fld.SEQ_CMD_STAT_CODE, Fld.SEQ_CMD_STAT_PENDING] { s with seq := { s.seq with cmd := t.seq.cmd } } t) ∧
      (code = 4 → Completes c s fun t =>
        t.seqState = 2 ∧ t.seq = { s.seq with step := 0 } ∧ t.sticky 76 = true ∧ t.done.status = Code.ok) ∧
      (code = 5 → Completes c s fun t =>
        t.seqState = 2 ∧ t.seq = { s.seq with step := 0, stepLeft := some (max 1 (Fld.SEQ_CMD_COUNT.get value)) } ∧
        t.sticky 76 = true ∧ t.done.status = Code.ok))

/-- R112, R114, R116, R118 to R120, R126, R129, R134, R136: the turns of the sequencer.  A start condition is noted and turn 0 begins
at the next turn-zero event; the boundary of a locked turn begins the next turn, or stops where a STOP is due, and a strobe away from the
reference slips; a stall lasts while a cause holds and ends in the next turn; READY and GO of the barrier are taken for the turn in hand.

R143, R146: the end of a capture's copy.  A copy done writes the snapshot into its slot of the region, gives its turn and DONE; a
failed one gives its code and FAIL and writes nothing. -/
def Obligations.SequencerTurns : Prop :=
  (∀ (mid : Mid) (refEdge vote : Bool) (lane : Fin 103) (turn : Word32) (s : State),
      (s.seqState = 1 → 2 ≤ s.startSrc → s.startSrc ≤ 4 → Completes .startCondition s fun t =>
        t = { s with seq := { s.seq with startMet := true } }) ∧
      (s.devState ≤ 1 → s.twin.align = none → s.seqState = 1 → s.seq.startMet = true → Completes .turnZero s fun t =>
        t.seqState = 2 ∧ t.seq = { s.seq with startMet := false, step := 0 } ∧ t.sticky 76 = true) ∧
      (s.seqState = 2 → s.turnLength ≤ s.seq.step + 1 → s.lockedSchedule = true → s.flag Fld.SEQ_CFG1_OVR_ACT = false →
        s.flag Fld.SEQ_CFG1_VOTE_ACT = false → s.seq.thermal = false →
        (s.seq.cmd = none → Completes (.turnBoundary refEdge) s fun t =>
          t.seqState = 2 ∧ t.seq.step = 0 ∧ t.seq.turn = (s.seq.turn + 1) % 2 ^ 64 ∧
          (refEdge = false → s.fld Fld.SEQ_CFG_STROBE_SRC = 0 → s.flag Fld.CLK_STATUS_HOLDOVER = false →
            s.flag Fld.CLK_STATUS_REF_LOSS = false → t.sticky 70 = true)) ∧
        (∀ lv, s.seq.cmd = some { code := 2, turn := none, level := lv } → Completes (.turnBoundary refEdge) s fun t =>
          t.seqState = 5 ∧ t.fld Fld.SEQ_STATUS_STOP_CAUSE = 1 ∧ t.seq.cmd = none ∧ t.seq.turn = (s.seq.turn + 1) % 2 ^ 64)) ∧
      (s.seqState = 3 → s.inBarrier = false → s.seq.probeWait = false → s.lockedSchedule = false → s.seq.thermal = false →
        s.seq.cmd = none →
        (s.otherCauses = 0 → s.ownVote0 = false → s.seq.stepLeft = none → Completes .stallEnd s fun t =>
          t.seqState = 2 ∧ t.seq.step = 0 ∧ t.seq.turn = (s.seq.turn + 1) % 2 ^ 64) ∧
        (s.otherCauses ≠ 0 → Completes .stallEnd s fun t =>
          t.seqState = 3 ∧ t.fld Fld.SEQ_STATUS_STALL_CAUSE = s.otherCauses ∧ t.seq.heldCauses = s.seq.heldCauses ||| s.otherCauses ∧
          Only [Fld.SEQ_STATUS_STALL_CAUSE] { s with seq := { s.seq with heldCauses := t.seq.heldCauses } } t)) ∧
      (s.seqState = 3 → s.seq.longSeen = false → s.fld Fld.SEQ_STALL_WARN_US ≠ 0 → Completes .stallLong s fun t =>
        t.flag Fld.SEQ_STATUS_STALL_LONG = true ∧ t.sticky 69 = true ∧
        OnlyEv [Fld.SEQ_STATUS_STALL_LONG] { s with seq := { s.seq with longSeen := true } } t) ∧
      (s.inBarrier = true →
        (s.seqState = 3 → s.seq.go = none → s.fld Fld.SEQ_BAR_TMO_US ≠ 0 → Completes .barTmo s fun t =>
          t.flag Fld.SEQ_STATUS_BAR_TMO = true ∧ t.sticky 71 = true ∧ OnlyEv [Fld.SEQ_STATUS_BAR_TMO] s t) ∧
        (lane.val ∈ s.seq.children → turn.toNat = s.seq.turn % 2 ^ 32 → Completes (.barReady lane turn vote) s fun t =>
          let u : State := { s with seq := { s.seq with ready := Sparse.put none s.seq.ready lane (some vote) } }
          (s.seqState ≠ 3 → t = u) ∧ (s.seqState = 3 → exec .stallEnd u = .next t)) ∧
        (s.seq.parent = some lane.val →
          (s.seqState = 1 → s.startSrc = 4 → Completes (.barGo lane turn vote) s fun t =>
            t = { s with seq := { s.seq with startMet := true } }) ∧
          (s.seqState ≠ 1 → turn.toNat = s.seq.turn % 2 ^ 32 → Completes (.barGo lane turn vote) s fun t =>
            let u : State := { s with seq := { s.seq with go := some vote } }
            (s.seqState ≠ 3 → t = u) ∧ (s.seqState = 3 → exec .stallEnd u = .next t)))) ∧
      (Completes (.seqTurnLoRead mid) s fun t =>
        t.done = { status := Code.ok, data := BitVec.ofNat 32 s.seq.turn } ∧
        t.reg Reg.SEQ_TURN_HI = BitVec.ofNat 32 (s.seq.turn / 2 ^ 32) ∧ Only [wholeReg Reg.SEQ_TURN_HI] s t)) ∧
  (∀ (code : Status) (s : State), s.flag Fld.SEQ_CAP_STAT_BUSY = true →
      (∀ b, s.regionBase 5 = some b → Completes .captureCopyDone s fun t =>
        let base := b + s.seq.snapSlot * 0x2000000
        t.flag Fld.SEQ_CAP_STAT_BUSY = false ∧ t.reg Reg.SEQ_CAP_TURN = BitVec.ofNat 32 s.seq.snapTurn ∧
        t.flag Fld.SEQ_CAP_STAT_DONE = true ∧ t.sticky 72 = true ∧ t.seq = { s.seq with snap := [] } ∧
        (∀ l, base % 8 = 0 → s.seq.snap = [(0, l)] → l.length ≤ 0x2000000 → t.hbmBytes base l.length = l) ∧
        OnlyEv [Fld.SEQ_CAP_STAT_BUSY, wholeReg Reg.SEQ_CAP_TURN, Fld.SEQ_CAP_STAT_DONE] { s with seq := t.seq, hbm := t.hbm } t) ∧
      (Completes (.captureCopyFail code) s fun t =>
        t.flag Fld.SEQ_CAP_STAT_BUSY = false ∧ t.fld Fld.SEQ_CAP_STAT_CODE = code.toNat ∧ t.flag Fld.SEQ_CAP_STAT_FAIL = true ∧
        t.sticky 73 = true ∧ t.hbm = s.hbm ∧
        OnlyEv [Fld.SEQ_CAP_STAT_BUSY, Fld.SEQ_CAP_STAT_CODE, Fld.SEQ_CAP_STAT_FAIL] { s with seq := { s.seq with snap := [] } } t))

/-! ## Loading (chapter 12) -/

/-- R176, R339, R340, R380, R383, R385 to R387: the phases of a full load on its stream.  HEADER takes the section table, CLOCK the
multiplier, CHECK the ownership, the mapping and the sequencer's configuration, HBM trains the stack, FRAMES writes frame after frame,
VERIFY records the identity; a check that fails ends the load in FAILED with its number, EV405 or EV406 and EV408. -/
def Obligations.LoaderPhases : Prop :=
  ∀ (bytes : List Byte) (s : State), s.ldr.change = none → s.ldr.paused = false →
    let u := s.takeStream bytes
    let img := u.ldr.image
    let failed := fun (phase chk : Nat) (t : State) =>
      t.ldr.phase = 11 ∧ t.fld Fld.LDR_STATUS_PHASE = 11 ∧ t.fld Fld.LDR_CHK_STAT_CHECK = chk ∧ t.fld Fld.LDR_FAIL_PHASE = phase ∧
      t.sticky 408 = true ∧ t.clock.cfgErr = true ∧
      (chk < 12 → t.flag Fld.LDR_CHK_STAT_FORMAT = true ∧ t.sticky 405 = true ∧ t.fld Fld.LDR_FAIL_CODE = Code.imgFormat.toNat) ∧
      (12 ≤ chk → t.flag Fld.LDR_CHK_STAT_IMG_CONFLICT = true ∧ t.sticky 406 = true ∧ t.fld Fld.LDR_FAIL_CODE = Code.imageConflict.toNat)
    -- HEADER
    (s.ldr.phase = 2 → u.entryFits = true → 256 ≤ img.length →
      (u.headerCheck img 1 u.entryLength = none → 1 ≤ secCount img → secCount img ≤ 4096 → secEnd img ≤ numAt img 0x10 8 →
        secEnd img ≤ img.length → u.tableGood img true = true → Completes (.headerPhase bytes) s fun t =>
          t.ldr.phase = 3 ∧ t.fld Fld.LDR_STATUS_PHASE = 3 ∧ t.ldr.sections = sectionTable img ∧
          Only [Fld.LDR_STATUS_PHASE] { u with ldr := { u.ldr with phase := 3, sections := t.ldr.sections } } t) ∧
      (u.fallbackSlot = none → numAt img 0 4 ≠ 0x3149585A → Completes (.headerPhase bytes) s (failed 2 1))) ∧
    -- CLOCK
    (∀ x i, s.ldr.phase = 3 → u.ownSection 1 = some (x, i) → u.sectionIn x = true →
      let m := Config.clockMult (u.sectionBytes x)
      let good := 24 ≤ m ∧ m ≤ 200 ∧ 4600000000 ≤ s.clock.fnom * m ∧ s.clock.fnom * m ≤ 5000000000
      u.fallbackSlot = none → Completes (.clockPhase bytes) s fun t =>
        (good → t.ldr.phase = 4 ∧ t.fld Fld.CLK_RPLL_MULT = m ∧ t.time.pnom = 4000000000 * 2 ^ 40 / (s.clock.fnom * m) ∧
          t.ldr.paused = (s.ldr.src == 0)) ∧
        (¬ good → failed 3 8 t)) ∧
    -- CHECK
    (∀ x i g k o j, s.ldr.phase = 4 → u.ownSection 2 = some (x, i) → u.ownSection 3 = some (g, k) → u.ownSection 4 = some (o, j) →
      u.sectionIn x = true → u.sectionIn g = true → u.sectionIn o = true →
      let m := u.mapRest (u.mapPreferred (u.sectionBytes g))
      let q := Config.seqSection (u.sectionBytes x)
      m.contains 0xFF = false →
      (ownCheck (u.sectionBytes o) = none → Completes (.checkPhase bytes) s fun t => u.seqCheck q.1 = none →
        t.ldr.phase = 5 ∧ t.own.table = ownEntriesOf (u.sectionBytes o) ∧ t.own.claims = [] ∧ t.reg Reg.SEQ_CFG = q.1 ∧
        t.reg Reg.SEQ_CFG1 = q.2.1 ∧ (∀ n < 34, t.flag (Fld.ARR_STATUS_MAPPED n) = m.contains n)) ∧
      (∀ c, ownCheck (u.sectionBytes o) = some c → u.fallbackSlot = none → Completes (.checkPhase bytes) s fun t =>
        u.seqCheck q.1 = none → failed 4 c t)) ∧
    -- HBM
    (∀ x i, s.ldr.phase = 5 → s.ldr.training = false → u.ownSection 5 = some (x, i) → u.sectionIn x = true →
      u.hbmBad (u.sectionBytes x) = false →
      (rgnEntries (u.sectionBytes x)).zipIdx.any (fun p => p.1.en && !u.rgnOwned p.2 p.1) = false →
      Completes (.hbmPhase bytes) s fun t =>
        t.ldr.training = true ∧ t.flag Fld.HBM_STATUS_READY = false ∧ t.ldr.paused = (s.ldr.src == 0)) ∧
    (s.domState 70 = 0 → s.domState 71 = 0 →
      (s.ldr.training = false → Completes .phyTrainingDone s fun t =>
        t.flag Fld.HBM_STATUS_READY = true ∧ Only [Fld.HBM_STATUS_READY] s t) ∧
      (∀ x i, s.ldr.training = true → s.ownSection 5 = some (x, i) → Completes .phyTrainingDone s fun t =>
        t.flag Fld.HBM_STATUS_READY = true ∧ t.ldr.phase = 6 ∧ t.ldr.training = false)) ∧
    (Completes .trainFail s fun t =>
      t.flag Fld.HBM_STATUS_TRAIN_FAIL = true ∧ t.sticky 378 = true ∧
      (s.ldr.training = false → OnlyEv [Fld.HBM_STATUS_TRAIN_FAIL] s t) ∧
      (s.ldr.training = true → s.fallbackSlot = none → t.ldr.phase = 11 ∧ t.fld Fld.LDR_FAIL_CODE = Code.hbmNotReady.toNat)) ∧
    (Completes .leaderPauseEnd { s with ldr := { s.ldr with paused := true } } fun t => t = s) ∧
    -- FRAMES
    (∀ x i, s.ldr.phase = 6 → u.frameSection = some (x, i) → u.frameReady x = true → x.kind ≠ 8 →
      let pos := max u.ldr.pos x.offset
      let seq := if u.ldr.pos ≤ x.offset then 0 else u.ldr.nextSeq
      let b := img.drop pos
      let h := FrameHdr.decode b
      let crcGood := crc32c (b.take 20 ++ (b.drop 24).take h.slen) = BitVec.ofNat 32 h.crc
      24 ≤ h.size → h.size ≤ b.length → pos + h.size < x.offset + x.length →
      (¬ crcGood → u.fallbackSlot = none → Completes (.imageFrame bytes) s (failed 6 4)) ∧
      (crcGood → frameFits h.ftype x.kind = true → tagReserved h.dtag = false → h.seq = seq → u.ownTag h.dtag = false →
        Completes (.imageFrame bytes) s fun t => t = { u with ldr := { u.ldr with pos := pos + h.size, nextSeq := seq + 1 } }) ∧
      (∀ us, crcGood → frameFits h.ftype x.kind = true → tagReserved h.dtag = false → h.seq = seq → u.ownTag h.dtag = true →
        1 ≤ h.ulen → h.ulen ≤ 8192 → h.offset + h.ulen ≤ unitSpace h.ftype → h.units b = some us → u.contentCheck x h us = none →
        Completes (.imageFrame bytes) s fun t =>
          t = ({ u with ldr := { u.ldr with pos := pos + h.size, nextSeq := seq + 1 } } : State).writeUnits x h us)) ∧
    -- VERIFY
    (s.ldr.phase = 7 → u.imageIn = true → u.startCheck true = none →
      let p := u.signed
      let step := u.sigStep false (digest64 p.1) (numAt img 0x18 1) p.2
      u.fallbackSlot = none → Completes (.verifyPhase bytes) s fun t =>
        (step = 0 → t.ldr.phase = 8 ∧ t.ldr.prog = u.imageProg ∧ t.ldr.progAt = 0 ∧ t.regBytes (Reg.LDR_ID 0) 16 = digest64 p.1 ∧
          t.sec.img = some (numAt p.2 4 1, numAt img 0x18 1) ∧ t.fld Fld.LDR_IMG_SRC_SRC = s.ldr.src % 2 ^ Fld.LDR_IMG_SRC_SRC.width) ∧
        (step ≠ 0 → t.ldr.phase = 11 ∧ t.fld Fld.SEC_STATUS_FAIL_STEP = step ∧ t.fld Fld.LDR_FAIL_CODE = (sigCode step).toNat ∧
          t.sticky 408 = true ∧ t.sticky (if step = 6 then 417 else 416) = true))

/-- R173, R382, R395 to R397, R399, R401, R402, R404 to R406: the loader's commands.  LDR_CMD takes LOAD_FULL outside a load, and
LOAD_PARTIAL, REPAIR and SWAP in USER where nothing pends; the checks of R397 refuse it with their codes; a finished change takes effect at
its boundary or at once; the FIFO takes what fits; claims and releases follow ownership. -/
def Obligations.LoaderCommands : Prop :=
  ∀ (mid : Mid) (value : Word32) (bytes : List Byte) (cls : Byte) (idx : BitVec 16) (s : State),
    let mask := (s.reg Reg.LDR_CMD_ARG).toNat
    let named := Fld.LDR_CMD_AT.get value = 1
    let late := named ∧ s.turnAhead (s.reg Reg.LDR_CMD_TURN).toNat ≤ 0
    let paged := Fld.LDR_CMD_PAGED.get value = 1
    let refused := fun (k : Status) (t : State) =>
      t.done.status = k ∧ t.fld Fld.LDR_CMD_STAT_CODE = k.toNat ∧ t.flag Fld.LDR_STATUS_CMD_REFUSED = true ∧ t.sticky 412 = true ∧
      OnlyEv [Fld.LDR_CMD_STAT_CODE, Fld.LDR_STATUS_CMD_REFUSED] s t
    (s.awake Reg.LDR_CMD → ldrWriter mid = false → ∀ c : Instr, c = .loadFull mid value ∨ c = .loadPartial mid value ∨
      c = .ldrRepair mid value ∨ c = .ldrSwap mid value ∨ c = .ldrAbort mid value → Completes c s fun t =>
        t.done.status = Code.denied ∧ t.flag Fld.LDR_STATUS_DENIED = true ∧ t.sticky 412 = true ∧ OnlyEv [Fld.LDR_STATUS_DENIED] s t) ∧
    (s.awake Reg.LDR_CMD → ldrWriter mid = true →
      (1 ≤ s.ldr.phase ∧ s.ldr.phase ≤ 9 → Completes (.loadFull mid value) s (refused Code.ldrBusy)) ∧
      (s.ldr.phase = 0 ∨ 10 ≤ s.ldr.phase → Completes (.loadFull mid value) s fun t =>
        t.ldr.phase = 2 ∧ t.ldr.change = none ∧ t.seqState = 0 ∧ t.ldr.doneOut = false ∧ t.iob.active = false ∧
        t.flag Fld.LDR_CMD_STAT_PENDING = true ∧ t.done.status = Code.ok) ∧
      (∀ c : Instr, c = .loadPartial mid value ∨ c = .ldrRepair mid value ∨ c = .ldrSwap mid value →
        (s.ldr.phase ≠ 10 ∨ s.ldr.change ≠ none → Completes c s (refused Code.ldrBusy)) ∧
        (s.ldr.phase = 10 → s.ldr.change = none → late → Completes c s (refused Code.ldrLate))) ∧
      (s.ldr.phase = 10 → s.ldr.change = none → ¬ late →
        (mask = 0 → Completes (.loadPartial mid value) s (refused Code.ldrSorus) ∧
          Completes (.ldrSwap mid value) s (refused Code.ldrSorus)) ∧
        (mask ≠ 0 → (paged → ∀ v ∈ maskSori mask, s.flag (Fld.ARR_PAGE_PAGED (s.physOf v)) = true ∧
            Sparse.get none s.arr.halted (s.physOf v) = none) → Completes (.loadPartial mid value) s fun t =>
          ∃ c, t.ldr.change = some c ∧ c.mask = mask ∧ c.kind = (if paged then 1 else 2) ∧ c.stage = 2 ∧
            t.flag Fld.LDR_PR_STAT_BUSY = true ∧ t.reg Reg.LDR_PR_MASK = s.reg Reg.LDR_CMD_ARG ∧
            t.flag Fld.LDR_CMD_STAT_PENDING = true ∧ t.done.status = Code.ok) ∧
        (∀ n, s.repairTarget (Fld.LDR_CMD_TARGET.get value) = some n → Completes (.ldrRepair mid value) s fun t =>
          t.ldr.target = some n ∧ t.flag Fld.LDR_PR_STAT_REPAIR = true ∧ t.flag Fld.LDR_PR_STAT_BUSY = true ∧
          (∃ c, t.ldr.change = some c ∧ c.kind = 4 ∧ c.vs = Fld.LDR_CMD_VS.get value) ∧ t.done.status = Code.ok) ∧
        (s.repairTarget (Fld.LDR_CMD_TARGET.get value) = none → Completes (.ldrRepair mid value) s (refused Code.ldrSorus)) ∧
        (mask ≠ 0 → (∀ v ∈ maskSori mask, s.flag (Fld.ARR_PAGE_READY (s.physOf v)) = true) →
          (s.seqState = 2 ∨ s.seqState = 3 → Completes (.ldrSwap mid value) s fun t =>
            (∃ c, t.ldr.change = some c ∧ c.kind = 3 ∧ c.stage = 9 ∧ c.mask = mask) ∧
            (∀ v ∈ maskSori mask, s.physOf v < 34 → t.flag (Fld.ARR_PAGE_PENDING (s.physOf v)) = true) ∧ t.done.status = Code.ok) ∧
          (s.seqState ≠ 2 → s.seqState ≠ 3 → Completes (.ldrSwap mid value) s fun t =>
            t.ldr.change = none ∧ t.flag Fld.LDR_PR_STAT_DONE = true ∧ t.sticky 411 = true ∧
            t.flag Fld.LDR_CMD_STAT_PENDING = false))) ∧
      (s.ldr.change = none → Completes (.ldrAbort mid value) s fun t => t.done.status = Code.ok ∧ Only [] s t) ∧
      (∀ c, s.ldr.change = some c → Completes (.ldrAbort mid value) s fun t =>
        t.ldr.change = none ∧ t.flag Fld.LDR_PR_STAT_BUSY = false ∧ t.done.status = Code.ok ∧
        (c.kind = 2 → t.flag Fld.LDR_PR_STAT_REGION_FAULT = true ∧ t.fld Fld.LDR_PR_STAT_CAUSE = 5 ∧ t.sticky 410 = true))) ∧
    (∀ c, s.ldr.change = some c → c.stage = 8 → c.kind = 2 → c.due = none → s.ldr.prog.length ≤ s.ldr.progAt →
      (s.seqState = 2 ∨ s.seqState = 3 → Completes (.partialLoadComplete bytes) s fun t =>
        t = { s with ldr := { s.ldr with change := some { c with stage := 9 } } }) ∧
      (s.seqState ≠ 2 → s.seqState ≠ 3 → Completes (.partialLoadComplete bytes) s fun t =>
        t.ldr.change = none ∧ t.flag Fld.LDR_PR_STAT_DONE = true ∧ t.sticky 411 = true ∧
        t.own.table = s.own.table.filter (fun e => !(decide (1 ≤ e.owner) && decide (e.owner ≤ 32) && c.mask.testBit (e.owner - 1))) ++
          c.own)) ∧
    (s.awake 0x02010000 →
      (bytes.length ≤ s.fld Fld.LDR_FIFO_FREE_FREE → Completes (.ldrFifoWrite mid bytes) s fun t =>
        Sparse.get [] t.ldr.stream 1 = Sparse.get [] s.ldr.stream 1 ++ bytes ∧
        t.reg Reg.LDR_FIFO_FREE = BitVec.ofNat 32 (s.fld Fld.LDR_FIFO_FREE_FREE - bytes.length) ∧ t.done.status = Code.ok ∧
        Only [wholeReg Reg.LDR_FIFO_FREE] { s with ldr := { s.ldr with stream := t.ldr.stream } } t) ∧
      (s.fld Fld.LDR_FIFO_FREE_FREE < bytes.length → Completes (.ldrFifoWrite mid bytes) s fun t =>
        t.done.status = Code.ok ∧ Only [] s t)) ∧
    (s.awake Reg.LDR_CLAIM →
      let none' := classSize cls.toNat ≤ idx.toNat
      let taken := fun (k : Status) (t : State) =>
        t.done.status = k ∧ t.fld Fld.LDR_CLAIM_STAT_CODE = k.toNat ∧ t.flag Fld.LDR_CHK_STAT_CLAIM_CONFLICT = true ∧
        t.sticky 407 = true ∧ OnlyEv [Fld.LDR_CLAIM_STAT_CODE, Fld.LDR_CHK_STAT_CLAIM_CONFLICT] s t
      (none' → Completes (.ldrClaim mid cls idx) s (taken Code.denied) ∧ Completes (.ldrRelease mid cls idx) s (taken Code.denied)) ∧
      (¬ none' → s.mayAssign mid cls.toNat idx.toNat = false → Completes (.ldrClaim mid cls idx) s (taken Code.conflict)) ∧
      (¬ none' → s.mayAssign mid cls.toNat idx.toNat = true → Completes (.ldrClaim mid cls idx) s fun t =>
        (mid ≠ 0x10 → s.imageOwner cls.toNat idx.toNat = 0 → t.claimant cls.toNat idx.toNat = some mid) ∧
        t.fld Fld.LDR_CLAIM_STAT_CODE = 0 ∧ t.done.status = Code.ok ∧
        Only [Fld.LDR_CLAIM_STAT_CODE] { s with own := t.own } t) ∧
      (¬ none' → s.claimant cls.toNat idx.toNat = some mid → Completes (.ldrRelease mid cls idx) s fun t =>
        t.claimant cls.toNat idx.toNat = none ∧ t.fld Fld.LDR_CLAIM_STAT_CODE = 0 ∧ t.done.status = Code.ok ∧
        Only [Fld.LDR_CLAIM_STAT_CODE] { s with own := t.own } t) ∧
      (¬ none' → s.claimant cls.toNat idx.toNat ≠ some mid → Completes (.ldrRelease mid cls idx) s (taken Code.conflict)))

/-- R376, R388, R390 to R392, R403, R458 to R460: starting up.  The ROM takes the good directory copy, judges firmware and starts it
where it verifies; the start-up program's entries complete one after another when their conditions hold, OUT lets the image drive the
outputs and enters USER, and an entry that times out goes on or fails the load. -/
def Obligations.StartUp : Prop :=
  ∀ (first second bytes : List Byte) (s : State),
    (s.inRom = true → s.lib.romWait = false → s.fld Fld.LDR_XSPI_ROLE ≤ 1 →
      (∀ b k, dirChoice first second = some (b, k) → Completes (.directoryRead first second) s fun t =>
        t.ldr.entries = (List.range 32).map (dirEntry b) ∧ t.flag Fld.LDR_XSPI_STRIPE = (b.getD 10 0).getLsbD 0 ∧
        t.flag Fld.LDR_XSPI_PORT0 = true ∧ t.flag Fld.LDR_XSPI_PORT1 = (b.getD 10 0).getLsbD 0 ∧
        Only [Fld.LDR_XSPI_XDIV, Fld.LDR_XSPI_DUMMY, Fld.LDR_XSPI_STRIPE, Fld.LDR_XSPI_PORT0, Fld.LDR_XSPI_PORT1, Fld.LDR_XSPI_OCTAL]
          { s with ldr := { s.ldr with entries := t.ldr.entries }, lib := { s.lib with flashGuard := t.lib.flashGuard } } t) ∧
      (dirChoice first second = none → Completes (.directoryRead first second) s fun t => t.lib.romWait = true) ∧
      (s.fwEntry = true → s.fwFallback = false → Completes (.firmwareLoaded bytes) s fun t =>
        (s.fwVerdict bytes = 0 → Sparse.get 0 t.lib.entry 0 = numAt bytes 12 4 ∧
          t.reg Reg.LIB_C0_ENTRY = BitVec.ofNat 32 (numAt bytes 12 4) ∧ t.lib.romWait = false ∧
          (s.ldr.phase = 1 → t.ldr.phase = 2)) ∧
        (s.fwVerdict bytes ≠ 0 → t.lib.romWait = true ∧ t.lib.entry = s.lib.entry))) ∧
    (s.inRom = true → s.lib.romWait = true → Sparse.get [] s.ldr.stream 1 ≠ [] →
      let u := s.fwTake 1
      (u.fwWhole = false → Completes .firmwareArrival s fun t => t = u) ∧
      (u.fwWhole = true → Completes .firmwareArrival s fun t =>
        (u.fwVerdict u.lib.fwBuf = 0 → Sparse.get 0 t.lib.entry 0 = numAt u.lib.fwBuf 12 4 ∧ t.lib.romWait = false) ∧
        (u.fwVerdict u.lib.fwBuf ≠ 0 → t.lib.romWait = true ∧ t.lib.fwBuf = [] ∧ t.lib.entry = s.lib.entry))) ∧
    (∀ e, s.progEntry = some e →
      let next := fun (t : State) => t = { s with ldr := { s.ldr with progAt := s.ldr.progAt + 1 } }
      (e.op = 0 → Completes .progEnd s next) ∧
      (e.op = 1 → s.quadsReady e.arg = true → Completes .waitQuads s next) ∧
      (e.op = 2 → s.fld Fld.TU_STATUS_STATE = 2 → Completes .waitTu s next) ∧
      (e.op = 3 → s.eventBit (e.arg % 256) = e.arg.testBit 8 → Completes .waitPin s next) ∧
      (e.op = 4 → s.flag Fld.TWN_STATUS_PAIRED = true → Completes .waitTwin s next) ∧
      (e.op = 5 → Completes .programDelay s next) ∧
      (e.op = 6 → Completes .syncDone s fun t =>
        t = { s with ldr := { s.ldr with progAt := s.ldr.progAt + 1, doneOut := true } }) ∧
      (e.op = 7 → s.ldr.change = none → s.ldr.phase = 8 → Completes .progOut s fun t =>
        t.ldr.phase = 10 ∧ t.ldr.doneOut = true ∧ t.clock.cfgErr = false ∧ t.iob.active = true ∧ t.seqState = 1 ∧ t.seq.turn = 0 ∧
        t.flag Fld.LDR_STATUS_OUT_DONE = true ∧ t.sticky 409 = true ∧ t.flag Fld.LDR_CMD_STAT_PENDING = false ∧
        t.ldr.progAt = s.ldr.progAt + 1) ∧
      (e.op = 8 → Completes .progStartSeq s fun t => ∃ u, exec (.seqStart 0x10 0) s = .next u ∧
        t = { u with ldr := { u.ldr with progAt := u.ldr.progAt + 1 } }) ∧
      (1 ≤ e.op → e.op ≤ 6 → e.tmo ≠ 0 →
        (e.goOn = true → Completes .entryTimeout s fun t =>
          t.ldr.progAt = s.ldr.progAt + 1 ∧ t.ldr.doneOut = (s.ldr.doneOut || e.op == 6) ∧ t.flag Fld.LDR_STATUS_WAIT_TMO = true ∧
          t.sticky 413 = true ∧ OnlyEv [Fld.LDR_STATUS_WAIT_TMO] { s with ldr := t.ldr } t) ∧
        (e.goOn = false → s.ldr.change = none → Completes .entryTimeout s fun t =>
          t.ldr.phase = 11 ∧ t.fld Fld.LDR_FAIL_CODE = Code.timeout.toNat ∧ t.sticky 408 = true)))

/-! ## The Rhizome (chapter 6) -/

/-- R185, R188 to R191, R193: the scheduled plane.  A unit that is alone on its link goes to the neighbour its slot entry names, one older;
one routed to LOCAL enters the landing buffer; one without a route is dropped as case 2, and two on one link as case 1 of R193; a node with
INJ 1 sends the words its sorus presents; a unit of AGE 15 is released and its word lands where LAND says. -/
def Obligations.ScheduledPlane : Prop :=
  ∀ (node : Fin 48) (s : State), s.seqState = 2 → s.rz.advanced = false →
    let n := node.val
    let quiet := ∀ k < 48, (s.slotEntry k s.spEpoch s.seq.step >>> 16) % 4 = 0
    (∀ u : SpUnit, s.rz.units = [u] → u.node = n → u.input < 4 → u.age < 15 → u.epoch ≤ 1 → s.seq.step < 1024 → quiet →
      let code := rtCode (s.slotEntry n u.epoch s.seq.step) u.input
      (∀ m, 1 ≤ code → code ≤ 4 → neighbour n code = some m → Completes (.scheduledPlaneAdvance []) s fun t =>
        t = { s with rz := { s.rz with units := [{ u with node := m, input := facing code, age := u.age + 1 }], advanced := true } }) ∧
      (code = 5 → Completes (.scheduledPlaneAdvance []) s fun t =>
        t = { s with rz := { s.rz with units := [{ u with input := 4, age := u.age + 1 }], advanced := true } }) ∧
      (code = 0 → s.flag (Fld.RZ_SP_FLT_VALID n) = false → s.reg (Reg.RZ_NODE_DROP n) ≠ 0xFFFFFFFF →
        Completes (.scheduledPlaneAdvance []) s fun t =>
          t.rz = { s.rz with units := [], advanced := true } ∧ t.flag (Fld.RZ_NODE_STAT_SP_COLL n) = true ∧ t.sticky (292 + n) = true ∧
          t.reg (Reg.RZ_NODE_DROP n) = s.reg (Reg.RZ_NODE_DROP n) + 1 ∧ t.flag (Fld.RZ_SP_FLT_VALID n) = true ∧
          t.reg (Reg.RZ_SP_FLT_TURN n) = BitVec.ofNat 32 s.seq.turn)) ∧
    (∀ u v : SpUnit, s.rz.units = [u, v] → u.node = n → v.node = n → u.input < v.input → v.input < 4 → quiet →
      let code := rtCode (s.slotEntry n u.epoch s.seq.step) u.input
      1 ≤ code → code ≤ 4 → rtCode (s.slotEntry n v.epoch s.seq.step) v.input = code →
      Completes (.scheduledPlaneAdvance []) s fun t =>
        t.rz = { s.rz with units := [], advanced := true } ∧ t.flag (Fld.RZ_NODE_STAT_SP_COLL n) = true ∧ t.sticky (292 + n) = true) ∧
    (∀ v w m, s.rz.units = [] → vOfNode n = some v → (∀ k < 48, k ≠ n → (s.slotEntry k s.spEpoch s.seq.step >>> 16) % 4 = 0) →
      let e := s.slotEntry n s.spEpoch s.seq.step
      let code := rtCode e 4
      let word := fun (k : Nat) => if w.testBit k then s.outGroup v k else 0
      (e >>> 16) % 4 = 1 → (e >>> 18) % 16 = w → w ≠ 0 → 1 ≤ code → code ≤ 4 → neighbour n code = some m →
      Completes (.scheduledPlaneAdvance []) s fun t =>
        t = { s with rz := { s.rz with
              advanced := true
              units := [{ node := m, input := facing code, kind := 1, words := w, valid := 0, quad := 0, tag := 0, age := 1,
                          epoch := s.spEpoch, w0 := word 0, w1 := word 1, w2 := word 2, w3 := word 3 }] } }) ∧
    (∀ u v w g rot, s.rz.units = [u] → u.node = n → u.input = 4 → u.age = 15 → vOfNode n = some v → u.words = 2 ^ w → w < 4 →
      landWords (s.slotEntry n u.epoch s.seq.step) u = [(w, g, rot)] →
      let tag := if u.kind = 3 then some (BitVec.ofNat 8 (u.tag.toNat >>> (8 * w))) else none
      let landing : Landing := if u.kind = 2 then .lane v (4 * u.quad + w) (u.word w) (u.valid.testBit w) u.epoch
        else .group v g (BitVec.allOnes 64) ((u.word w).rotateLeft rot) tag false u.epoch
      Completes (.unitRelease node) s fun t =>
        t = { s with rz := { s.rz with units := [], landings := s.rz.landings ++ [landing] } })

/-- R207 to R209: tables and epochs.  A write reaches a table copy that is neither the injection epoch nor retiring; a copy in use refuses
it with RZ_TABLE_BUSY and a MID without the right with DENIED; a switch flips the injection epoch and starts the retirement of the old copy
(the scheduled plane's at the boundary, while the sequencer runs), and is refused while one retires; the copy retires when nothing of its
epoch is in flight. -/
def Obligations.TablesAndEpochs : Prop :=
  ∀ (mid : Mid) (node : Fin 48) (slots : Bool) (epoch : Fin 2) (entry : Fin 1024) (high : Bool) (value : Word32) (s : State),
    let a := if slots then Reg.RZ_SLOT node epoch entry (if high then 1 else 0) else Reg.RZ_ROUTE node epoch (entry.val % 48)
    let busy := s.copyBusy slots epoch
    let mine := slots = true → s.mayAssign mid 0x07 (node.val * 1024 + entry.val) = true
    let c : Instr := .tableWrite mid node slots epoch entry high value
    (s.awake a → rzWriter mid = true → mine →
      (busy = false → Completes c s fun t =>
        t.reg a = value ∧ t.done.status = Code.ok ∧ Only [wholeReg a] { s with own := t.own, cns := t.cns } t) ∧
      (busy = true → Completes c s fun t =>
        t.done.status = Code.rzTableBusy ∧ t.flag (Fld.RZ_NODE_STAT_TBL_REFUSED node) = true ∧ t.sticky (292 + node.val) = true ∧
        OnlyEv [Fld.RZ_NODE_STAT_TBL_REFUSED node] s t)) ∧
    (rzWriter mid = false → Completes c s fun t =>
      t.done.status = Code.denied ∧ t.flag (Fld.RZ_NODE_STAT_DENIED node) = true ∧ t.sticky (292 + node.val) = true ∧ t.reg a = s.reg a) ∧
    (s.awake Reg.RZ_SWITCH →
      (s.flag Fld.RZ_EPOCH_GP_RETIRING = false → Completes (.gpSwitch mid) s fun t =>
        t.fld Fld.RZ_EPOCH_GP_EPOCH = 1 - s.fld Fld.RZ_EPOCH_GP_EPOCH ∧ t.flag Fld.RZ_EPOCH_GP_RETIRING = true ∧
        t.fld Fld.RZ_SWITCH_STAT_CODE = 0 ∧ t.done.status = Code.ok ∧
        Only [Fld.RZ_EPOCH_GP_EPOCH, Fld.RZ_EPOCH_GP_RETIRING, Fld.RZ_SWITCH_STAT_CODE] s t) ∧
      (s.flag Fld.RZ_EPOCH_SP_RETIRING = false → s.flag Fld.RZ_EPOCH_SP_PENDING = false → Completes (.spSwitch mid) s fun t =>
        t.fld Fld.RZ_SWITCH_STAT_CODE = 0 ∧ t.done.status = Code.ok ∧
        (if s.seqState = 2 ∨ s.seqState = 3 then
          t.flag Fld.RZ_EPOCH_SP_PENDING = true ∧ Only [Fld.RZ_EPOCH_SP_PENDING, Fld.RZ_SWITCH_STAT_CODE] s t
         else
          t.fld Fld.RZ_EPOCH_SP_EPOCH = 1 - s.fld Fld.RZ_EPOCH_SP_EPOCH ∧ t.flag Fld.RZ_EPOCH_SP_RETIRING = true ∧
          Only [Fld.RZ_EPOCH_SP_EPOCH, Fld.RZ_EPOCH_SP_RETIRING, Fld.RZ_EPOCH_SP_PENDING, Fld.RZ_SWITCH_STAT_CODE] s t)) ∧
      (∀ c : Instr, (c = .gpSwitch mid ∧ s.flag Fld.RZ_EPOCH_GP_RETIRING = true) ∨
          (c = .spSwitch mid ∧ (s.flag Fld.RZ_EPOCH_SP_RETIRING = true ∨ s.flag Fld.RZ_EPOCH_SP_PENDING = true)) →
        Completes c s fun t =>
          t.done.status = Code.rzTableBusy ∧ t.fld Fld.RZ_SWITCH_STAT_CODE = Code.rzTableBusy.toNat ∧
          t.flag Fld.RZ_EPOCH_SW_REFUSED = true ∧ t.sticky 292 = true ∧ OnlyEv [Fld.RZ_SWITCH_STAT_CODE, Fld.RZ_EPOCH_SW_REFUSED] s t)) ∧
    (s.flag Fld.RZ_EPOCH_GP_RETIRING = true → s.oldPackets = 0 → Completes (.epochRetire true) s fun t =>
      t.flag Fld.RZ_EPOCH_GP_RETIRING = false ∧ Only [Fld.RZ_EPOCH_GP_RETIRING] s t) ∧
    (s.flag Fld.RZ_EPOCH_SP_RETIRING = true → s.oldUnits = 0 → Completes (.epochRetire false) s fun t =>
      t.flag Fld.RZ_EPOCH_SP_RETIRING = false ∧ Only [Fld.RZ_EPOCH_SP_RETIRING] s t)

/-- R195, R196, R199, R200, R203 to R205, R210: the general plane.  A packet is stamped and sent from its injection point, a request with
a free tag and within its quota; a hop goes to the neighbour the route table names, or to its endpoint; a packet without a route is dropped
and a request answered RZ_NOROUTE; a request at its endpoint is carried out and answered, a response lets go of its tag and completes the
request, a message is taken; a request whose response does not come completes with TIMEOUT, and its tag is free again later. -/
def Obligations.GeneralPlane : Prop :=
  ∀ (node : Fin 48) (ep : Fin 5) (pkt : Packet) (id : Nat) (tag : BitVec 10) (ecc : List EccFind) (s : State),
    let n := node.val
    let key := tagKey n ep tag.toNat
    let flight := fun (t : State) (k : Nat) => Sparse.get none t.rz.flights k
    (serves n ep = true → pkt.data.length ≤ 15 → (∀ w ∈ s.rz.waiting, w.1 ≠ n * 8 + ep.val) →
      (∀ m, pkt.cls = 1 → s.stampOf n ep = some m → Completes (.packetInjection node ep (some pkt)) s fun t =>
        flight t s.rz.nextId = some
          { pkt := { pkt with snode := BitVec.ofNat 6 n, sep := BitVec.ofNat 3 ep, mid := m }, node := n, hops := 0,
            epoch := s.fld Fld.RZ_EPOCH_GP_EPOCH, marked := false, held := false, arrived := false } ∧
        t.rz.nextId = s.rz.nextId + 1 ∧ t.rz.waiting = s.rz.waiting ∧ (∀ k, k ≠ s.rz.nextId → flight t k = flight s k)) ∧
      (∀ m, pkt.cls = 0 → s.stampOf n ep = some m → s.rzOverQuota n ep = false → s.fld (Fld.RZ_OUTST_COUNT n ep) < 64 →
        s.fld (rateField n ep false) = 0 → Completes (.packetInjection node ep (some pkt)) s fun t =>
          (∃ f, flight t s.rz.nextId = some f ∧ f.pkt.tag = BitVec.ofNat 10 (s.freeTag n ep) ∧ f.pkt.mid = m ∧ f.node = n) ∧
          Sparse.get none t.rz.tags (tagKey n ep (s.freeTag n ep)) =
            some { mid := m, addr := pkt.addr.toNat, write := pkt.opc == 1, timedOut := false } ∧
          t.fld (Fld.RZ_OUTST_COUNT n ep) = s.fld (Fld.RZ_OUTST_COUNT n ep) + 1) ∧
      (pkt.cls = 0 → s.rzOverQuota n ep = true → Completes (.packetInjection node ep (some pkt)) s fun t =>
        t.flag (Fld.RZ_NODE_STAT_OVER_QUOTA n) = true ∧ t.sticky (292 + n) = true ∧
        t.out.getLast? = some (.packetDone n ep 0 Code.overQuota []) ∧ OnlyEv [Fld.RZ_NODE_STAT_OVER_QUOTA n] s t)) ∧
    (∀ f, flight s id = some f → f.node = n → f.held = false → f.arrived = false → f.hops < 15 →
      (∀ m, 1 ≤ s.routeCode f → s.routeCode f ≤ 4 → neighbour n (s.routeCode f) = some m →
        (s.domState (58 + m % 8) = 0 ∨ s.domState (58 + m % 8) = 5) → Completes (.packetHop id .clean .clean) s fun t =>
          flight t id = some { f with node := m, hops := f.hops + 1 } ∧ (∀ k, k ≠ id → flight t k = flight s k) ∧
          t = { s with rz := { s.rz with flights := t.rz.flights } }) ∧
      (s.routeCode f = 5 → f.pkt.dnode.toNat = n → serves n f.pkt.dep.toNat = true → packetMalformed f.pkt = false →
        (∀ d, s.endpointDomain n f.pkt.dep.toNat = some d → f.pkt.cls = 1 ∨ s.domState d = 0 ∨ s.domState d = 5) →
        Completes (.packetHop id .clean .clean) s fun t =>
          flight t id = some { f with arrived := true } ∧ t = { s with rz := { s.rz with flights := t.rz.flights } }) ∧
      (s.routeCode f = 0 → s.reg (Reg.RZ_NODE_DROP n) ≠ 0xFFFFFFFF → id ≠ s.rz.nextId →
        Completes (.packetHop id .clean .clean) s fun t =>
          flight t id = none ∧ t.flag (Fld.RZ_NODE_STAT_NOROUTE n) = true ∧ t.sticky (292 + n) = true ∧
          t.reg (Reg.RZ_NODE_DROP n) = s.reg (Reg.RZ_NODE_DROP n) + 1 ∧
          (f.pkt.cls = 0 → ∃ g, flight t s.rz.nextId = some g ∧ g.pkt.status = Code.rzNoroute ∧ g.pkt.dnode = f.pkt.snode) ∧
          (f.pkt.cls ≠ 0 → t.rz.nextId = s.rz.nextId)) ∧
      (s.reg (Reg.RZ_NODE_DROP n) ≠ 0xFFFFFFFF → Completes (.packetHop id .uncorrectable .clean) s fun t =>
        flight t id = none ∧ t.flag (Fld.RZ_NODE_STAT_HDR_UNC n) = true ∧ t.sticky (292 + n) = true ∧
        t.reg (Reg.RZ_NODE_DROP n) = s.reg (Reg.RZ_NODE_DROP n) + 1 ∧ t.rz.nextId = s.rz.nextId)) ∧
    (∀ f, flight s id = some f → f.arrived = true → f.node = n → id ≠ s.rz.nextId →
      let answered := fun (t : State) (opc : BitVec 4) (code : Status) (data : List (BitVec 256)) =>
        flight t id = none ∧ t.rz.nextId = s.rz.nextId + 1 ∧ ∃ g, flight t s.rz.nextId = some g ∧ g.node = n ∧ g.pkt.opc = opc ∧
          g.pkt.cls = 1 ∧ g.pkt.dnode = f.pkt.snode ∧ g.pkt.dep = f.pkt.sep ∧ g.pkt.tag = f.pkt.tag ∧ g.pkt.status = code ∧
          g.pkt.data = data
      let readable := (s.hbmConditions f.pkt.mid (packetAddr f.pkt 0) (32 * (f.pkt.rdlen.toNat + 1)) false).2 = none
      (f.pkt.opc = 0 → f.pkt.cls = 0 → f.pkt.dep = 2 → readable → Completes (.rzRd id []) s fun t =>
        answered t 2 Code.ok (unitsOfBytes (s.hbmBytes (packetAddr f.pkt 0) (32 * (f.pkt.rdlen.toNat + 1)))) ∧ t.hbm.words = s.hbm.words) ∧
      (f.pkt.opc = 1 → f.pkt.cls = 0 → f.marked = true → Completes (.rzWr id ecc) s fun t =>
        answered t 3 Code.eccFatal [] ∧ t.regs = s.regs ∧ t.hbm = s.hbm) ∧
      (∀ a, f.pkt.opc = 1 → f.pkt.cls = 0 → f.marked = false → f.pkt.dep = 4 → f.pkt.data.length = 1 → f.pkt.firstBe = 0xF →
        packetAddr f.pkt 0 = a → 0x01200000 ≤ a → a < 0x01200100 → isManager f.pkt.mid = true → s.awake a →
        Completes (.rzWr id ecc) s fun t => ∃ u,
          exec (.registerWrite f.pkt.mid (BitVec.ofNat 28 a) (BitVec.ofNat 32 (f.pkt.data.headD 0).toNat)) s = .next u ∧
          answered t 3 u.done.status [] ∧ t.regs = u.regs) ∧
      (f.pkt.opc = 4 → Completes (.rzMsg id) s fun t =>
        flight t id = none ∧ t.out = s.out ++ [.packetMsg n f.pkt.dep.toNat f.pkt.mid
          (if f.marked then Code.eccFatal else Code.ok) f.pkt.data] ∧
        t = { s with rz := { s.rz with flights := t.rz.flights }, out := t.out }) ∧
      (∀ x c, (c = .rzRdrsp id ∧ f.pkt.opc = 2) ∨ (c = .rzWrrsp id ∧ f.pkt.opc = 3) →
        let k := tagKey n f.pkt.dep.toNat f.pkt.tag.toNat
        Sparse.get none s.rz.tags k = some x →
        (x.timedOut = false → x.mid.toNat < 0x20 → Completes c s fun t =>
          flight t id = none ∧ Sparse.get none t.rz.tags k = none ∧
          t.fld (Fld.RZ_OUTST_COUNT n f.pkt.dep.toNat) = s.fld (Fld.RZ_OUTST_COUNT n f.pkt.dep.toNat) - 1 ∧
          t.out = s.out ++ [.packetDone n f.pkt.dep.toNat f.pkt.tag.toNat
            (if f.marked then Code.eccFatal else f.pkt.status) f.pkt.data] ∧
          Only [Fld.RZ_OUTST_COUNT n f.pkt.dep.toNat] { s with rz := t.rz } t) ∧
        (x.timedOut = false → 0x20 ≤ x.mid.toNat → Completes c s fun t =>
          flight t id = none ∧ Sparse.get none t.rz.tags k = none ∧ t.regs = s.regs ∧
          ∀ r ∈ s.hbm.reqs, r.tag = some f.pkt.tag.toNat → nodeOfVirtual r.virt = n → r.resp = none →
            ∃ q ∈ t.hbm.reqs, q.tag = r.tag ∧ q.virt = r.virt ∧ q.served = true ∧ q.resp ≠ none) ∧
        (x.timedOut = true → s.reg (Reg.RZ_NODE_DROP n) ≠ 0xFFFFFFFF → Completes c s fun t =>
          flight t id = none ∧ Sparse.get none t.rz.tags k = none ∧ t.out = s.out ∧
          t.reg (Reg.RZ_NODE_DROP n) = s.reg (Reg.RZ_NODE_DROP n) + 1 ∧
          Only [wholeReg (Reg.RZ_NODE_DROP n)] { s with rz := t.rz } t))) ∧
    (∀ x, Sparse.get none s.rz.tags key = some x → x.timedOut = false → s.fld Fld.RZ_RSP_TMO_US ≠ 0 → x.mid.toNat < 0x20 →
      Completes (.rspTmo node ep tag) s fun t =>
        Sparse.get none t.rz.tags key = some { x with timedOut := true } ∧ t.flag (Fld.RZ_NODE_STAT_RSP_TMO n) = true ∧
        t.sticky (292 + n) = true ∧ t.fld (Fld.RZ_OUTST_COUNT n ep) = s.fld (Fld.RZ_OUTST_COUNT n ep) - 1 ∧
        t.out.getLast? = some (.packetDone n ep tag.toNat Code.timeout []) ∧
        OnlyEv [Fld.RZ_NODE_STAT_RSP_TMO n, Fld.RZ_OUTST_COUNT n ep] { s with rz := t.rz } t) ∧
    (∀ x, Sparse.get none s.rz.tags key = some x → x.timedOut = true → Completes (.tagFree node ep tag) s fun t =>
      Sparse.get none t.rz.tags key = none ∧ (∀ k, k ≠ key → Sparse.get none t.rz.tags k = Sparse.get none s.rz.tags k) ∧
      t = { s with rz := { s.rz with tags := t.rz.tags } })

/-! ## Acquisition (chapter 9) and the memory (chapter 10) -/

/-- R283 to R292, R298: a captured word takes the next index and the cycle position of its lane; a valid word's sample is calibrated and
reduced in the context at its bank, offset and position, and no other context changes; a word whose archive write is lost is counted, adds
to the lane's runs of dropped words and raises EV341.  A rise of EN restarts indices, positions, stops and record numbers. -/
def Obligations.CaptureOfWords : Prop :=
  ∀ (mid : Mid) (value : Word32) (x : AcqWord) (rest : List AcqWord) (s : State),
    let i := x.lane
    let l := s.acqLane i
    let p := l.count % s.acqCycle i
    let lanes := Sparse.put AcqLane.reset s.acq.lanes i { l with count := l.count + 1, pos := some p }
    (s.acq.inbox = x :: rest → x.readout = none → x.full = false → s.flag Fld.ACQ_CTRL_EN = true → s.admitted i = true →
      s.flag (Fld.ACQ_LN_CFG_SYNC i) = false → l.stop = none → s.acq.recs = [] →
      (x.valid = false → s.flag (Fld.ACQ_LN_CFG_ARCH i) = false → Completes (.captureWord []) s fun t =>
        t = { s with acq := { s.acq with inbox := rest, lanes := lanes } }) ∧
      (x.valid = true → s.flag (Fld.ACQ_LN_CFG_ARCH i) = false → s.fld (Fld.ACQ_LN_CFG_SPW i) = 1 → s.laneFixed i = false →
        let c := s.fld (Fld.ACQ_LN_CFG_BANK i) * 4096 + s.fld (Fld.ACQ_LN_MAP_OFFSET i) + p
        let v := sampleOf (s.flag (Fld.ACQ_LN_CFG_SIGNED i)) (sampleWidth (s.fld (Fld.ACQ_LN_CFG_W i))) x.value 0
        let y := calibrate (s.ctxOf c) v
        bitOf (ctxGet (s.ctxOf c) 49 1) 0 = true → s.violates c (s.ctxOf c) y = false → (ctxReduce (s.ctxOf c) y).2 = false →
        Completes (.captureWord [.clean]) s fun t =>
          t.ctxOf c = ctxPut (ctxReduce (s.ctxOf c) y).1 44 5 0 ∧ (∀ k, k ≠ c → t.ctxOf k = s.ctxOf k) ∧
          t = { s with acq := { s.acq with inbox := rest, lanes := lanes, ctx := t.acq.ctx } }) ∧
      (x.valid = false → s.flag (Fld.ACQ_LN_CFG_ARCH i) = true → s.acqStopped i = false → s.reg Reg.ACQ_ARCH_DROP ≠ 0xFFFFFFFF →
        Completes .archiveDrop s fun t =>
          t.reg Reg.ACQ_ARCH_DROP = s.reg Reg.ACQ_ARCH_DROP + 1 ∧ t.flag Fld.ACQ_STATUS_ARCH_DROP = true ∧ t.sticky 341 = true ∧
          (t.acqLane i).gaps = gapAdd l.count l.gaps ∧ (t.acqLane i).count = l.count + 1 ∧ t.acq.inbox = rest ∧
          OnlyEv [wholeReg Reg.ACQ_ARCH_DROP, Fld.ACQ_STATUS_ARCH_DROP] { s with acq := t.acq } t)) ∧
    (s.awake Reg.ACQ_CTRL → s.flag Fld.ACQ_CTRL_EN = false → Completes (.acqEnable mid value) s fun t =>
      t.reg Reg.ACQ_CTRL = (value ||| 1) &&& 0xFFFF0003 ∧ t.flag Fld.ACQ_STATUS_RUN = true ∧ t.flag Fld.ACQ_STATUS_STOPPED = false ∧
      (∀ k < 96, t.flag (Fld.ACQ_LN_STAT_SYNCED k) = false ∧ t.flag (Fld.ACQ_LN_STAT_STOPPED k) = false) ∧
      Only ([wholeReg Reg.ACQ_CTRL, Fld.ACQ_STATUS_RUN, Fld.ACQ_STATUS_STOPPED] ++
          (List.range 96).flatMap (fun k => [Fld.ACQ_LN_STAT_SYNCED k, Fld.ACQ_LN_STAT_STOPPED k]))
        { s with acq := { s.acq with lanes := [], nextSeq := 0 } } t)

/-- R288, R302 to R304, R310, R314: a lane descriptor is admitted, or refused with ACQ_CFG and EV352; a trigger of an enabled class takes
the next SEQ and latches turn, step, time and the class's registers, or loses its record with the code of R304; a record whose lanes have
delivered what it needs is complete, and one that has waited too long is completed INCOMPLETE with EV346; a complete record leaves. -/
def Obligations.RecordsAndTriggers : Prop :=
  ∀ (mid : Mid) (lane : Fin 96) (word : Fin 3) (value seq : Word32) (cls : Fin 16) (r : AcqRec) (s : State),
    let a := Reg.ACQ_LN_CFG lane + 4 * word.val
    let made : AcqRec :=
      { cls := cls, seq := s.acq.nextSeq, turn := s.seq.turn, step := s.seq.step, time := s.now, cfg := s.reg (Reg.ACQ_CLS_CFG cls),
        win := s.reg (Reg.ACQ_CLS_WIN cls), meas := (s.reg (Reg.ACQ_CLS_MEAS cls)).toNat % 2 ^ 18,
        lanes := (s.classLanes cls).map (fun i => (i, (s.acqLane i).count - 1, 0)), complete := false, incomplete := false }
    let next := (s.acq.nextSeq + 1) % 2 ^ 32
    (s.awake a → mid = 0x10 →
      let u := s.storeReg a value
      (u.acqLaneBad lane = false → Completes (.laneDescriptorWrite mid lane word value) s fun t =>
        t.reg a = u.reg a ∧ t.flag (Fld.ACQ_LN_STAT_ADMITTED lane) = true ∧ t.done.status = Code.ok ∧
        Only [wholeReg a, Fld.ACQ_LN_STAT_ADMITTED lane] s t) ∧
      (u.acqLaneBad lane = true → Completes (.laneDescriptorWrite mid lane word value) s fun t =>
        t.reg a = u.reg a ∧ t.flag (Fld.ACQ_LN_STAT_ADMITTED lane) = false ∧ t.flag (Fld.ACQ_LN_STAT_REFUSED lane) = true ∧
        t.fld (Fld.ACQ_LN_STAT_CODE lane) = Code.acqCfg.toNat ∧ t.sticky 352 = true ∧ t.done.status = Code.acqCfg ∧
        OnlyEv [wholeReg a, Fld.ACQ_LN_STAT_ADMITTED lane, Fld.ACQ_LN_STAT_CODE lane, Fld.ACQ_LN_STAT_REFUSED lane,
          Fld.ACQ_STATUS_CFG_REFUSED] s t)) ∧
    ((∀ i ∈ s.classLanes cls, s.laneFixed i = false) → s.flag (Fld.ACQ_CLS_CFG_EN cls) = true →
      (s.awake Reg.ACQ_CMD → s.fld (Fld.ACQ_CLS_CFG_SRC cls) = 0 → s.recRefusal made = none → Completes (.acqTrigger mid cls) s fun t =>
        t.done.status = Code.ok ∧ t.fld Fld.ACQ_CMD_STAT_CODE = 0 ∧
        Only [Fld.ACQ_CMD_STAT_CODE] { s with acq := { s.acq with nextSeq := next, recs := s.acq.recs ++ [made] } } t) ∧
      (∀ c, s.awake Reg.ACQ_CMD → s.fld (Fld.ACQ_CLS_CFG_SRC cls) = 0 → s.recRefusal made = some c →
        s.reg Reg.ACQ_REC_LOST ≠ 0xFFFFFFFF → Completes (.acqTrigger mid cls) s fun t =>
          t.reg Reg.ACQ_REC_LOST = s.reg Reg.ACQ_REC_LOST + 1 ∧ t.fld Fld.ACQ_REC_STAT_CODE = c.toNat ∧
          t.fld Fld.ACQ_REC_STAT_CLASS = cls ∧ t.flag Fld.ACQ_STATUS_REC_REFUSED = true ∧ t.sticky 345 = true ∧
          t.acq = { s.acq with nextSeq := next }) ∧
      (s.seqState = 2 → s.classFires cls = true → Sparse.get false s.acq.triggered cls = false → s.recRefusal made = none →
        Completes (.recordTrigger cls) s fun t =>
          Sparse.get false t.acq.triggered cls = true ∧
          t = { s with acq := { s.acq with triggered := t.acq.triggered, nextSeq := next, recs := s.acq.recs ++ [made] } })) ∧
    (s.awake Reg.ACQ_CMD → s.flag (Fld.ACQ_CLS_CFG_EN cls) = false ∨ s.fld (Fld.ACQ_CLS_CFG_SRC cls) ≠ 0 →
      Completes (.acqTrigger mid cls) s fun t =>
        t.done.status = Code.acqCfg ∧ t.fld Fld.ACQ_CMD_STAT_CODE = Code.acqCfg.toNat ∧ t.flag Fld.ACQ_STATUS_CMD_REFUSED = true ∧
        t.sticky 354 = true ∧ OnlyEv [Fld.ACQ_CMD_STAT_CODE, Fld.ACQ_STATUS_CMD_REFUSED] s t) ∧
    (s.acq.recs = [r] → r.seq = seq.toNat →
      (s.recReady r = true → Completes (.recordComplete seq) s fun t =>
        t = { s with acq := { s.acq with recs := [{ r with complete := true }] } }) ∧
      (s.recReady r = false → r.complete = false → Completes (.recordTimeout seq) s fun t =>
        t.acq = { s.acq with recs := [{ r with complete := true, incomplete := true }] } ∧
        t.flag Fld.ACQ_STATUS_REC_INCOMPLETE = true ∧ t.sticky 346 = true ∧
        OnlyEv [Fld.ACQ_STATUS_REC_INCOMPLETE] { s with acq := t.acq } t) ∧
      (r.complete = true →
        let d := r.cfg.toNat / 2 ^ 24 % 16
        let ln := s.fld (Fld.ACQ_DEST_LANE d)
        (s.handsRecords = false → s.reg Reg.ACQ_REC_SENT ≠ 0xFFFFFFFF → Completes (.recordSend seq) s fun t =>
          t.reg Reg.ACQ_REC_SENT = s.reg Reg.ACQ_REC_SENT + 1 ∧ t.out = s.out ∧
          Only [wholeReg Reg.ACQ_REC_SENT] { s with acq := { s.acq with recs := [] } } t) ∧
        (s.handsRecords = true → s.flag (Fld.ACQ_DEST_KIND d) = true → s.linkUp ln = false → s.acq.readout = [] →
          Completes (.recordSend seq) s fun t =>
            t.acq = { s.acq with recs := [], readout := readoutFrames ln r.turn (wordsOfBytes (s.recBytes r)) } ∧
            Only [wholeReg Reg.ACQ_REC_SENT] { s with acq := t.acq } t) ∧
        (∀ c, s.handsRecords = true → s.flag (Fld.ACQ_DEST_KIND d) = false → s.udpRefusal ln (s.fld (Fld.ACQ_DEST_ETH d)) = some c →
          s.reg Reg.ACQ_REC_LOST ≠ 0xFFFFFFFF → Completes (.recordSend seq) s fun t =>
            t.acq = { s.acq with recs := [] } ∧ t.reg Reg.ACQ_REC_LOST = s.reg Reg.ACQ_REC_LOST + 1 ∧
            t.fld Fld.ACQ_REC_STAT_CODE = c.toNat ∧ t.flag Fld.ACQ_STATUS_TX_REFUSED = true ∧ t.sticky 347 = true)))

/-- R294 to R296, R299, R312 to R314: RESTART lets every archive run on; DUMP and CLEAR begin a job, or are refused while one runs; a job
that ends has copied its banks and, as CLR or CLEAR asks, emptied them, and a failed one leaves what it had not reached; PRB_REARM ends a
freeze; the context window latches a context on a read of its first word and commits one on a write of its last; a probe buffer that has
been written is free again. -/
def Obligations.AcquisitionJobs : Prop :=
  ∀ (mid : Mid) (copied : Nat) (word : Fin 2097152) (value : Word32) (failed : Bool) (s : State),
    let cfg := s.reg Reg.ACQ_DUMP_CFG
    let base := (s.reg Reg.ACQ_DUMP_BASE).toNat % 2 ^ 18
    let fits := s.regionHolds (dumpRegion cfg) 0x12 (base * 65536) (dumpBanks cfg * 262144) = true ∧ dumpFirst cfg + dumpBanks cfg ≤ 64
    (s.awake Reg.ACQ_CMD →
      (Completes (.acqRestart mid) s fun t =>
        (∀ k < 96, (t.acqLane k) = { s.acqLane k with stop := none } ∧ t.flag (Fld.ACQ_LN_STAT_STOPPED k) = false) ∧
        t.flag Fld.ACQ_STATUS_STOPPED = false ∧ t.fld Fld.ACQ_CMD_STAT_CODE = 0 ∧ t.done.status = Code.ok ∧
        Only ([Fld.ACQ_STATUS_STOPPED, Fld.ACQ_CMD_STAT_CODE] ++ (List.range 96).map (fun k => Fld.ACQ_LN_STAT_STOPPED k))
          { s with acq := { s.acq with lanes := t.acq.lanes } } t) ∧
      (∀ copy : Bool, (copy = true → fits) →
        let c : Instr := if copy then .acqDump mid else .acqClear mid
        (s.acq.job = none → Completes c s fun t =>
          t.flag Fld.ACQ_CMD_STAT_PENDING = true ∧ t.fld Fld.ACQ_CMD_STAT_CODE = 0 ∧ t.done.status = Code.ok ∧
          Only [Fld.ACQ_CMD_STAT_PENDING, Fld.ACQ_CMD_STAT_CODE]
            { s with acq := { s.acq with job := some { copy := copy, cfg := cfg, base := base } } } t) ∧
        (s.acq.job ≠ none → Completes c s fun t =>
          t.done.status = Code.acqBusy ∧ t.fld Fld.ACQ_CMD_STAT_CODE = Code.acqBusy.toNat ∧ t.sticky 354 = true ∧
          OnlyEv [Fld.ACQ_CMD_STAT_CODE, Fld.ACQ_STATUS_CMD_REFUSED] s t)) ∧
      (s.acq.job = none → ¬ fits → Completes (.acqDump mid) s fun t =>
        t.done.status = Code.acqRange ∧ t.flag Fld.ACQ_STATUS_DUMP_FAIL = true ∧ t.sticky 351 = true ∧ t.sticky 354 = true ∧
        OnlyEv [Fld.ACQ_STATUS_DUMP_FAIL, Fld.ACQ_CMD_STAT_CODE, Fld.ACQ_STATUS_CMD_REFUSED] s t) ∧
      (Completes (.prbRearm mid) s fun t =>
        t.flag Fld.ACQ_PRB_STAT_FROZEN = false ∧ t.fld Fld.ACQ_CMD_STAT_CODE = 0 ∧ t.done.status = Code.ok ∧
        Only [Fld.ACQ_PRB_STAT_FROZEN, Fld.ACQ_CMD_STAT_CODE] { s with acq := { s.acq with freeze := none } } t)) ∧
    (∀ j, s.acq.job = some j →
      let c0 := dumpFirst j.cfg * 4096
      let size := dumpBanks j.cfg * 4096
      let addr := (s.fld (Fld.HBM_RGN_BASE_BASE (dumpRegion j.cfg)) + j.base) * 65536
      let empties := j.copy = false ∨ bitOf j.cfg.toNat 17 = true
      (Completes .dumpDone s fun t =>
        t.acq.job = none ∧ t.flag Fld.ACQ_CMD_STAT_PENDING = false ∧ t.flag Fld.ACQ_STATUS_DUMP_DONE = true ∧ t.sticky 350 = true ∧
        (∀ k < size, (empties → t.ctxOf (c0 + k) = ctxEmpty (s.ctxOf (c0 + k))) ∧
          (j.copy = true → t.hbmBytes (addr + k * 64) 64 = bytesOfNat 64 (s.ctxOf (c0 + k)).toNat)) ∧
        (∀ c, c < c0 ∨ c0 + size ≤ c ∨ ¬ empties → t.ctxOf c = s.ctxOf c) ∧ (j.copy = false → t.hbm = s.hbm) ∧
        OnlyEv [Fld.ACQ_CMD_STAT_PENDING, Fld.ACQ_STATUS_DUMP_DONE] { s with acq := t.acq, hbm := t.hbm } t) ∧
      (j.copy = true → Completes (.dumpFail copied) s fun t =>
        t.acq.job = none ∧ t.flag Fld.ACQ_CMD_STAT_PENDING = false ∧ t.flag Fld.ACQ_STATUS_DUMP_FAIL = true ∧ t.sticky 351 = true ∧
        (∀ c, c < c0 ∨ c0 + copied ≤ c → t.ctxOf c = s.ctxOf c) ∧
        OnlyEv [Fld.ACQ_CMD_STAT_PENDING, Fld.ACQ_STATUS_DUMP_FAIL] { s with acq := t.acq, hbm := t.hbm } t)) ∧
    (s.awake (0x06800000 + 4 * word.val) →
      let c := 131072 * s.fld Fld.ACQ_CTX_WIN_HALF + word.val / 16
      let part := fun (x : BitVec 512) => BitVec.ofNat 32 (x.toNat >>> (32 * (word.val % 16)))
      (word.val % 16 = 0 → Completes (.contextWindowRead mid word .clean) s fun t =>
        t = { s with acq := { s.acq with latch := some (c, s.ctxOf c) }, done := { status := Code.ok, data := part (s.ctxOf c) } }) ∧
      (∀ x, word.val % 16 ≠ 0 → s.acq.latch = some (c, x) → Completes (.contextWindowRead mid word .clean) s fun t =>
        t = { s with done := { status := Code.ok, data := part x } }) ∧
      (word.val % 16 = 0 → Completes (.contextWindowRead mid word .uncorrectable) s fun t =>
        t.done.status = Code.eccFatal ∧ t.ctxOf c = 0 ∧ (∀ k, k ≠ c → t.ctxOf k = s.ctxOf k) ∧ t.fld Fld.ACQ_ECC_CTX_CTX = c % 2 ^ 18 ∧
        t.flag Fld.ACQ_ECC_CTX_VALID = true ∧ t.sticky 342 = true) ∧
      (Completes (.contextWindowWrite mid word value) s fun t =>
        let x := ctxPut s.acq.staged (32 * (word.val % 16)) 32 value.toNat
        t.acq.staged = x ∧ (word.val % 16 = 15 → t.ctxOf c = x ∧ ∀ k, k ≠ c → t.ctxOf k = s.ctxOf k) ∧
        (word.val % 16 ≠ 15 → t.acq.ctx = s.acq.ctx) ∧
        t = { s with acq := { s.acq with staged := x, ctx := t.acq.ctx }, done := { status := Code.ok, data := 0 } })) ∧
    (∀ b rest, s.acq.probes = b :: rest → s.fld Fld.ACQ_PRB_STAT_FREE < 15 →
      let free := s.fld Fld.ACQ_PRB_STAT_FREE + 1
      (b.place = none → Completes (.probeBufferFree failed) s fun t =>
        t.fld Fld.ACQ_PRB_STAT_FREE = free ∧ Only [Fld.ACQ_PRB_STAT_FREE] { s with acq := { s.acq with probes := rest } } t) ∧
      (∀ a w, b.place = some (a, w) → s.hbmMay 0x12 a true = true → a + 8192 ≤ w → Completes (.probeBufferFree false) s fun t =>
        t.fld Fld.ACQ_PRB_STAT_FREE = free ∧ t.hbmBytes a 8192 = bytesOfNat 8192 b.bits ∧ t.hbmBytes w 8 = bytesOfNat 8 b.turn ∧
        (∀ k, (k < a ∨ a + 8192 ≤ k) → (k < w ∨ w + 8 ≤ k) → t.hbmByte k = s.hbmByte k) ∧
        Only [Fld.ACQ_PRB_STAT_FREE] { s with acq := { s.acq with probes := rest }, hbm := t.hbm } t) ∧
      (b.place ≠ none → s.reg Reg.ACQ_PRB_LOST ≠ 0xFFFFFFFF → Completes (.probeBufferFree true) s fun t =>
        t.fld Fld.ACQ_PRB_STAT_FREE = free ∧ t.reg Reg.ACQ_PRB_LOST = s.reg Reg.ACQ_PRB_LOST + 1 ∧
        t.flag Fld.ACQ_STATUS_PRB_LOST = true ∧ t.sticky 348 = true ∧ t.hbm = s.hbm))

/-- R329 to R331, R336, R339: an entry that fires with GO 1 issues its request, counted against the quota and held for its command slot
under a locked schedule, refused over the quota; with GO 0 it issues nothing; a locked response lands its read data and its status bit at
its release, and one that is missing is an overrun; refresh runs outside a locked run or in a quiet window; the temperature is polled. -/
def Obligations.MemoryPorts : Prop :=
  ∀ (sorus : Fin 34) (entry : Fin 16) (pc : Fin 16) (temp : BitVec 8) (ecc : EccFind) (s : State),
    (∀ v, s.virtOf sorus = some v → s.entryFires sorus entry = true → s.hasFired sorus entry = false →
      let x := s.issueEntry sorus entry
      let q := (s.outGroup v ((x >>> 10) % 4)).toNat
      let node := nodeOfVirtual v
      let r : PortReq :=
        { sorus := sorus, entry := entry, virt := v, turn := s.seq.turn, step := s.seq.step, page := s.pageB sorus, age := 0,
          write := if bitOf q 31 then some (s.outGroup v ((x >>> 12) % 4)) else none, addr := q % 2 ^ 31 * 8, tag := none,
          ecc := ecc, dead := false, served := false, counted := false, region := none, resp := none }
      (bitOf q 32 = false → Completes (.issueEntryFire sorus entry ecc) s fun t => t = s) ∧
      (bitOf q 32 = true → s.rzOverQuota node 0 = false → s.lockedSchedule = true → s.regionOf r.addr = none →
        s.fld (Fld.RZ_OUTST_COUNT node 0) < 64 → Completes (.issueEntryFire sorus entry ecc) s fun t =>
          t.fld (Fld.RZ_OUTST_COUNT node 0) = s.fld (Fld.RZ_OUTST_COUNT node 0) + 1 ∧
          Only [Fld.RZ_OUTST_COUNT node 0] { s with hbm := { s.hbm with reqs := s.hbm.reqs ++ [{ r with counted := true }] } } t) ∧
      (bitOf q 32 = true → s.rzOverQuota node 0 = true → Completes (.issueEntryFire sorus entry ecc) s fun t =>
        t.hbm.reqs = s.hbm.reqs ++ [{ r with served := true, resp := some (Code.overQuota, 0) }] ∧
        t.flag (Fld.RZ_NODE_STAT_OVER_QUOTA node) = true ∧ t.sticky (292 + node) = true ∧
        OnlyEv [Fld.RZ_NODE_STAT_OVER_QUOTA node] { s with hbm := { s.hbm with reqs := t.hbm.reqs } } t)) ∧
    (∀ r : PortReq, s.seqState = 2 → s.hbm.reqs = [r] → r.sorus = sorus → r.entry = entry → s.releaseDue r = true → r.dead = false →
      r.write = none → r.counted = false →
      let x := s.issueEntry sorus entry
      let st := (x >>> 16) % 256
      let rg := (x >>> 14) % 4
      let mask : Word64 := BitVec.ofNat 64 (2 ^ (st % 64))
      st / 64 ≠ rg →
      (∀ d, r.resp = some (Code.ok, d) → Completes (.memoryPortRelease sorus entry) s fun t =>
        t = { s with
              hbm := { s.hbm with reqs := [] }
              rz := { s.rz with landings := s.rz.landings ++ [.group r.virt rg (BitVec.allOnes 64) d none true 0,
                .group r.virt (st / 64) mask mask none true 0] } }) ∧
      (r.resp = none → s.flag Fld.SEQ_OVR_CAUSE_VALID = false → Completes (.memoryPortRelease sorus entry) s fun t =>
        t.hbm.reqs = [] ∧ t.seq.overrun = true ∧ t.flag Fld.SEQ_STATUS_OVR = true ∧ t.sticky 68 = true ∧
        t.fld Fld.SEQ_OVR_CAUSE_CAUSE = 1 ∧ t.fld Fld.SEQ_OVR_CAUSE_SORUS = sorus ∧ t.flag Fld.SEQ_OVR_CAUSE_SVALID = true ∧
        t.reg Reg.SEQ_OVR_TURN = BitVec.ofNat 32 s.seq.turn ∧
        t.rz.landings = s.rz.landings ++ [.group r.virt rg (BitVec.allOnes 64) 0 none true 0,
          .group r.virt (st / 64) mask 0 none true 0])) ∧
    (Completes (.refresh pc) s fun t =>
      Sparse.get 0 t.hbm.refreshes pc.val = Sparse.get 0 s.hbm.refreshes pc.val +
        (if s.flag Fld.HBM_STATUS_READY = true ∧ (s.lockedSchedule = false ∨ s.seqState ≠ 2 ∨ s.quietNow pc = true) then 1 else 0) ∧
      t = { s with hbm := { s.hbm with refreshes := t.hbm.refreshes } }) ∧
    (s.domOn 71 = true →
      (temp.toInt ≤ 85 → Completes (.stackTemperaturePoll temp) s fun t =>
        t.reg Reg.HBM_TEMP = BitVec.ofNat 32 temp.toNat ∧ Only [wholeReg Reg.HBM_TEMP] s t) ∧
      (85 < temp.toInt → Completes (.stackTemperaturePoll temp) s fun t =>
        t.reg Reg.HBM_TEMP = BitVec.ofNat 32 temp.toNat ∧ t.flag Fld.HBM_STATUS_TEMP_HI = true ∧ t.sticky 377 = true ∧
        OnlyEv [wholeReg Reg.HBM_TEMP, Fld.HBM_STATUS_TEMP_HI] s t))

/-! ## The security block (chapter 13) and the Conservator (chapter 14) -/

/-- R418, R420, R423, R424, R426 to R428: a command of a MID that may give it waits for its completion, ATTEST with the report that it
latches; EXTEND hashes SEC_EXT into MR6 or MR7 at once; a refused command answers DENIED with EV418.  VERIFY ends with the code of the step
that failed, and EV416 or EV417; ATTEST with the signed report in its buffer; a fuse command with its fuses blown, MR5 extended and EV419. -/
def Obligations.SecurityCommands : Prop :=
  ∀ (mid : Mid) (arg : Word32) (ext bytes : List Byte) (s : State),
    let words := fun (l : List Byte) (j : Nat) => BitVec.ofNat 32 (natOfBytes ((l.drop (4 * j)).take 4))
    let ended := fun (t : State) (code : Status) =>
      t.sec.cmd = none ∧ t.flag Fld.SEC_CMD_STAT_PENDING = false ∧ t.flag Fld.SEC_STATUS_BUSY = false ∧
      t.fld Fld.SEC_CMD_STAT_CODE = code.toNat
    (s.awake Reg.SEC_CMD → ∀ (c : Instr) (code : Nat),
      (c, code) ∈ [(Instr.secVerify mid, 1), (.secAttest mid, 2), (.secExtend mid, 3), (.secRevoke mid, 4), (.secAdvance mid, 5),
        (.secKeyprog mid, 6)] →
      (s.secBad mid code = false → code ≠ 3 → Completes c s fun t =>
        t.flag Fld.SEC_CMD_STAT_PENDING = true ∧ t.flag Fld.SEC_STATUS_BUSY = true ∧ t.fld Fld.SEC_CMD_STAT_CODE = 0 ∧
        t.done.status = Code.ok ∧ t.sec.cmd = some (code, s.reg Reg.SEC_CMD_ARG, s.regBytes (Reg.SEC_EXT 0) 16) ∧
        (code = 2 → t.sec.report = s.reportBody ∧ t.sec.counter = s.sec.counter + 1) ∧
        (code ≠ 2 → t.sec = { s.sec with cmd := t.sec.cmd }) ∧
        Only [Fld.SEC_CMD_STAT_PENDING, Fld.SEC_STATUS_BUSY, Fld.SEC_CMD_STAT_CODE] { s with sec := t.sec } t) ∧
      (s.secBad mid code = false → code = 3 → Completes c s fun t =>
        let m := 6 + s.fld Fld.SEC_CMD_ARG_MR
        let h := digest64 (s.regBytes (Reg.SEC_MR m 0) 16 ++ s.regBytes (Reg.SEC_EXT 0) 16)
        (∀ j < 16, t.reg (Reg.SEC_MR m j) = words h j) ∧ t.fld Fld.SEC_CMD_STAT_CODE = 0 ∧ t.done.status = Code.ok ∧
        Only (Fld.SEC_CMD_STAT_CODE :: (List.range 16).map (fun j => wholeReg (Reg.SEC_MR m j))) s t) ∧
      (s.secBad mid code = true → Completes c s fun t =>
        t.done.status = Code.denied ∧ t.fld Fld.SEC_CMD_STAT_CODE = Code.denied.toNat ∧ t.flag Fld.SEC_STATUS_CMD_REFUSED = true ∧
        t.sticky 418 = true ∧ OnlyEv [Fld.SEC_CMD_STAT_CODE, Fld.SEC_STATUS_CMD_REFUSED] s t)) ∧
    (s.sec.cmd = some (1, arg, ext) → ∀ e, s.ldr.entries[arg.toNat % 32]? = some e →
      let p := entryParts e.kind bytes
      let step := s.sigStep p.1 (digest64 p.2.1) p.2.2.1 p.2.2.2
      Completes (.verifyDone bytes) s fun t =>
        (step = 0 → ended t Code.ok ∧ Only [Fld.SEC_CMD_STAT_PENDING, Fld.SEC_STATUS_BUSY, Fld.SEC_CMD_STAT_CODE]
          { s with sec := { s.sec with cmd := none } } t) ∧
        (step ≠ 0 → ended t (if step = 6 then Code.rollback else Code.sigFail) ∧ t.fld Fld.SEC_STATUS_FAIL_STEP = step ∧
          (step = 6 → t.flag Fld.SEC_STATUS_ROLLBACK = true ∧ t.sticky 417 = true) ∧
          (step ≠ 6 → t.flag Fld.SEC_STATUS_SIG_FAIL = true ∧ t.sticky 416 = true) ∧
          OnlyEv [Fld.SEC_CMD_STAT_PENDING, Fld.SEC_CMD_STAT_CODE, wholeReg Reg.SEC_STATUS] { s with sec := t.sec } t)) ∧
    (s.sec.cmd = some (2, arg, ext) → s.sec.report.length = 784 → Completes .attestDone s fun t =>
      let body := s.sec.report
      let report := body ++ (Config.mldsaSign s.identityXi (ascii "GH9640AR") body).take 3309 ++ List.replicate 3312 0
      ended t Code.ok ∧ (∀ j < 1024, t.reg (Reg.SEC_REPORT j) = words (report.take 4096) j) ∧
      t.sec = { s.sec with cmd := none }) ∧
    (∀ code, s.sec.cmd = some (code, arg, ext) → 4 ≤ code → code ≤ 6 → ext.length = 64 → Completes .fuseBurnDone s fun t =>
      let slot := Fld.SEC_CMD_ARG_SLOT.get arg
      let h := digest64 (s.regBytes (Reg.SEC_MR 5 0) 16 ++ digest64 (bytesOfNat 1 code ++ bytesOf32 arg))
      ended t Code.ok ∧ t.flag Fld.SEC_STATUS_FUSED = true ∧ t.sticky 419 = true ∧ (∀ j < 16, t.reg (Reg.SEC_MR 5 j) = words h j) ∧
      t.reg Reg.SEC_SLOTS = s.reg Reg.SEC_SLOTS |||
        (if code = 4 then BitVec.ofNat 32 (2 ^ (8 + slot))
         else if code = 6 then BitVec.ofNat 32 (Fld.SEC_CMD_ARG_USE.get arg * 2 ^ (2 * slot)) else 0) ∧
      t.sec.therm = s.sec.therm ||| (if code = 5 then BitVec.ofNat 64 (2 ^ Fld.SEC_CMD_ARG_N.get arg - 1) else 0) ∧
      (∀ k < 4, ∀ j < 16, t.reg (Reg.SEC_SLOT_DIG k j) =
        if code = 6 ∧ k = slot then words ext j else s.reg (Reg.SEC_SLOT_DIG k j)))

/-- R435 to R437, R439, R443, R445, R446: a scrub port walks over its words; a single-bit error waits for its write-back, which stores the
corrected word, an uncorrectable one for its golden copy, and both are reported; a failed golden read raises EV426; a guarded word that
differs from its golden copy is rewritten from it; a pass that ends starts again, with EV428, as does one whose copies disagree, with
EV425; a disagreeing guarded register is counted with EV424. -/
def Obligations.ScrubbingAndPasses : Prop :=
  ∀ (bp : BpId) (word : Fin 1024) (s : State),
    let key := scrubKey bp
    let k := key * 1024 + word.val
    let w := Sparse.get 0 s.cns.walk key
    let loc := key * 1024 + w
    let found := (eccFix (s.imemWord loc)).2
    let waits := fun (t : State) (l : Nat) => Sparse.get none t.cns.pend l
    (s.scrubs bp = true → s.portTaken bp = false → w < 1023 →
      (found = .clean → Completes (.scrubRead bp) s fun t =>
        Sparse.get 0 t.cns.walk key = w + 1 ∧ Sparse.get 0 t.cns.clean loc = s.seq.turn ∧ waits t loc = waits s loc ∧
        t = { s with cns := { s.cns with walk := t.cns.walk, clean := t.cns.clean } }) ∧
      (found ≠ .clean → s.cnsOn = true → waits s loc = none → Completes (.scrubRead bp) s fun t =>
        Sparse.get 0 t.cns.walk key = w + 1 ∧ (t.sticky 420 = true ∨ t.sticky 421 = true) ∧ (∀ j, t.imemWord j = s.imemWord j) ∧
        (waits t loc = if found = .uncorrectable then some true else some false) ∧
        (found = .uncorrectable → t.flag Fld.CNS_STATUS_UNC = true ∧ t.sticky 422 = true))) ∧
    (waits s k = some false → s.scrubs bp = true → Completes (.scrubWriteback bp word) s fun t =>
      let fixed := (eccFix (s.imemWord k)).1
      t.imemWord k = eccJoin fixed (eccChk fixed) ∧ (∀ j, j ≠ k → t.imemWord j = s.imemWord j) ∧ waits t k = none ∧
      t = { s with arr := { s.arr with imem := t.arr.imem }, cns := { s.cns with pend := t.cns.pend } }) ∧
    (∀ base v, waits s k = some true → s.regionBase 4 = some base → s.virtOf bp.sorus = some v → s.scrubs bp = true →
      let a := base + v * 0x810000 + (bp.frond.val * 64 + bp.bp.val) * 8192 + word.val * 8
      (s.hbmConditions 0x11 a 8 false).2 = none →
      (Completes (.goldenRestore bp word .clean) s fun t =>
        let d : Word64 := BitVec.ofNat 64 (natOfBytes (s.hbmBytes a 8))
        t.imemWord k = eccJoin d (eccChk d) ∧ (∀ j, j ≠ k → t.imemWord j = s.imemWord j) ∧ waits t k = none ∧ t.regs = s.regs) ∧
      (Completes (.goldenRestore bp word .uncorrectable) s fun t =>
        t.flag Fld.CNS_STATUS_HBM_FAIL = true ∧ t.sticky 426 = true ∧ t.arr = s.arr ∧ t.cns = s.cns)) ∧
    (s.passRuns = true → s.flag Fld.CNS_STATUS_RUN = true →
      (∀ nxt, s.passAt (s.reg Reg.CNS_FRAME).toNat = (none, nxt) → nxt < passFrames → Completes (.frameCompare .clean) s fun t =>
        t.reg Reg.CNS_FRAME = BitVec.ofNat 32 nxt ∧ Only [wholeReg Reg.CNS_FRAME] s t) ∧
      (∀ nxt, s.passAt (s.reg Reg.CNS_FRAME).toNat = (none, nxt) → passFrames ≤ nxt → Completes (.frameCompare .clean) s fun t =>
        t.reg Reg.CNS_FRAME = 0 ∧ t.reg Reg.CNS_PASS = s.reg Reg.CNS_PASS + 1 ∧ t.flag Fld.CNS_STATUS_PASS_DONE = true ∧
        t.sticky 428 = true ∧ t.cns.passStart = s.count) ∧
      (∀ p l nxt base, s.passAt (s.reg Reg.CNS_FRAME).toNat = (some (p, l), nxt) → nxt < passFrames → s.regionBase 4 = some base →
        (s.hbmConditions 0x11 (base + p.golden) 4 false).2 = none →
        let g : Word32 := BitVec.ofNat 32 (natOfBytes (s.hbmBytes (base + p.golden) 4))
        let lv := s.passLive p
        ((lv.1 ^^^ g) &&& lv.2 = 0 → Completes (.frameCompare .clean) s fun t =>
          t.reg Reg.CNS_FRAME = BitVec.ofNat 32 nxt ∧ Sparse.get 0 t.cns.clean l = s.seq.turn ∧
          Only [wholeReg Reg.CNS_FRAME] { s with cns := t.cns } t) ∧
        (p.target = 6 ∨ p.target = 9 → (lv.1 ^^^ g) &&& lv.2 ≠ 0 → Completes (.frameCompare .clean) s fun t =>
          t.passLive p = (g, lv.2) ∧ (t.sticky 420 = true ∨ t.sticky 421 = true) ∧ t.reg Reg.CNS_FRAME = BitVec.ofNat 32 nxt))) ∧
    (s.flag Fld.CNS_STATUS_RUN = true → Completes .passRestart s fun t =>
      t.reg Reg.CNS_FRAME = 0 ∧ t.cns = { s.cns with passStart := s.count } ∧ t.flag Fld.CNS_STATUS_RESTART = true ∧ t.sticky 425 = true ∧
      OnlyEv [wholeReg Reg.CNS_FRAME, Fld.CNS_STATUS_RUN, Fld.CNS_STATUS_RESTART] { s with cns := t.cns } t) ∧
    (s.domOn 77 = true → s.reg Reg.CNS_SELF_CNT ≠ 0xFFFFFFFF → Completes .selfUpset s fun t =>
      t.reg Reg.CNS_SELF_CNT = s.reg Reg.CNS_SELF_CNT + 1 ∧ t.flag Fld.CNS_STATUS_SELF = true ∧ t.sticky 424 = true ∧
      OnlyEv [wholeReg Reg.CNS_SELF_CNT, Fld.CNS_STATUS_SELF] s t)

/-- R438, R447, R448, R450: a write of CNS_CTRL that starts the pass starts it at frame 0, and one that stops it clears RUN; an injection
flips the bits named in a stored instruction word, or in a configuration word of a mapped sorus, while INJ_EN is 1, and is refused
otherwise; other MIDs are refused with EV429; a read of CNS_REC3 removes the oldest record. -/
def Obligations.ConservatorRegisters : Prop :=
  ∀ (mid : Mid) (value : Word32) (s : State),
    let u := s.storeReg Reg.CNS_CTRL value
    let n := s.fld Fld.CNS_INJ_SEL_SORUS
    let i := s.fld Fld.CNS_INJ_SEL_INDEX
    let k := imemLoc n (s.fld Fld.CNS_INJ_SEL_FROND) (i / 1024) (i % 1024)
    let a := 0x0C001000 + n * 0x100000 + 4 * i
    let flip : BitVec 72 := (value.setWidth 8 : BitVec 8) ++ (s.reg Reg.CNS_INJ_HI ++ s.reg Reg.CNS_INJ_LO : Word64)
    let refused := fun (c : Instr) => Completes c s fun t =>
      t.done.status = Code.denied ∧ t.flag Fld.CNS_STATUS_REFUSED = true ∧ t.sticky 429 = true ∧
      (∀ j, t.imemWord j = s.imemWord j) ∧ t.reg a = s.reg a ∧ t.reg Reg.CNS_CTRL = s.reg Reg.CNS_CTRL
    (s.awake Reg.CNS_CTRL → cnsWriter mid = true → s.flag Fld.CNS_CTRL_LOCK = false → Completes (.cnsCtrlWrite mid value) s fun t =>
      t.reg Reg.CNS_CTRL = u.reg Reg.CNS_CTRL ∧ t.done.status = Code.ok ∧
      (u.passRuns = true → s.passRuns = false → t.reg Reg.CNS_FRAME = 0 ∧ t.flag Fld.CNS_STATUS_RUN = true ∧
        t.cns = { s.cns with passStart := s.count }) ∧
      (u.passRuns = false → s.passRuns = true → t.flag Fld.CNS_STATUS_RUN = false ∧ t.cns = s.cns) ∧
      Only [wholeReg Reg.CNS_CTRL, wholeReg Reg.CNS_FRAME, Fld.CNS_STATUS_RUN] { s with cns := t.cns } t) ∧
    (s.awake Reg.CNS_CTRL → cnsWriter mid = false → refused (.cnsCtrlWrite mid value)) ∧
    (s.awake Reg.CNS_INJ_CHK → cnsWriter mid = false ∨ s.flag Fld.CNS_CTRL_INJ_EN = false → refused (.cnsInject mid value)) ∧
    (s.awake Reg.CNS_INJ_CHK → cnsWriter mid = true → s.flag Fld.CNS_CTRL_INJ_EN = true → n < 34 → s.mapped n = true →
      (s.fld Fld.CNS_INJ_SEL_KIND = 0 → Completes (.cnsInject mid value) s fun t =>
        t.imemWord k = s.imemWord k ^^^ flip ∧ (∀ j, j ≠ k → t.imemWord j = s.imemWord j) ∧
        Sparse.get false t.cns.injected k = true ∧ t.fld Fld.CNS_INJ_STAT_CODE = 0 ∧ t.done.status = Code.ok ∧
        Only [wholeReg Reg.CNS_INJ_CHK, Fld.CNS_INJ_STAT_CODE] { s with arr := t.arr, cns := t.cns } t) ∧
      (s.fld Fld.CNS_INJ_SEL_KIND = 1 → i ≤ 0x107F → Completes (.cnsInject mid value) s fun t =>
        t.reg a = s.reg a ^^^ s.reg Reg.CNS_INJ_LO ∧ t.fld Fld.CNS_INJ_STAT_CODE = 0 ∧ t.done.status = Code.ok ∧
        (∀ j, t.imemWord j = s.imemWord j) ∧
        Only [wholeReg Reg.CNS_INJ_CHK, Fld.CNS_INJ_STAT_CODE, wholeReg a] { s with cns := t.cns } t)) ∧
    (s.awake Reg.CNS_REC3 → Completes (.cnsRec3Read mid) s fun t =>
      t = { s with cns := { s.cns with recs := s.cns.recs.drop 1 }, done := { status := Code.ok, data := s.cnsOldest.w3 } })

/-! ## Carrels (chapter 16), pins and the test access port (chapter 20) -/

/-- R485 to R487, R489: CRL_BIND binds both ends, and an end whose MID changes advances its epoch; a binding that R485 does not allow, or
one that would change under LOCK, and an access by a MID bound to neither end are refused with DENIED and EV436 + c.  A write of CRL_TXDn
fills the slot of the writer's end while it is empty; while it is FULL the write and a post are rejected with CRL_FULL. -/
def Obligations.CarrelBindings : Prop :=
  ∀ (mid : Mid) (c : Fin 32) (word : Fin 16) (value : Word32) (len : BitVec 5) (tag reply : BitVec 16) (s : State),
    let a := (Fld.CRL_BIND_MID_A c).get value
    let b := (Fld.CRL_BIND_MID_B c).get value
    let allowed := bindable a = true ∧ bindable b = true ∧ (a ≠ b ∨ a = 0xFF)
    let same := a = s.boundTo c 0 ∧ b = s.boundTo c 1
    let denied := fun (i : Instr) => Completes i s fun t =>
      t.done.status = Code.denied ∧ t.flag (Fld.CRL_STAT_DENIED c) = true ∧ t.sticky (436 + c.val) = true ∧
      OnlyEv [Fld.CRL_STAT_DENIED c] s t
    (s.awake (Reg.CRL_BIND c) →
      (allowed → s.flag Fld.CRL_CTRL_LOCK = false → s.mayAssign mid 0x0A c = true → Completes (.crlBindWrite mid c value) s fun t =>
        t.boundTo c 0 = a ∧ t.boundTo c 1 = b ∧ t.done.status = Code.ok ∧
        (t.cEnd c 0).epoch = (if a = s.boundTo c 0 then (s.cEnd c 0).epoch else (s.cEnd c 0).epoch + 1) ∧
        (t.cEnd c 1).epoch = (if b = s.boundTo c 1 then (s.cEnd c 1).epoch else (s.cEnd c 1).epoch + 1)) ∧
      (allowed → s.flag Fld.CRL_CTRL_LOCK = true → same → Completes (.crlBindWrite mid c value) s fun t =>
        t = { s with done := { status := Code.ok, data := 0 } }) ∧
      (¬ allowed ∨ (s.flag Fld.CRL_CTRL_LOCK = true ∧ ¬ same) → denied (.crlBindWrite mid c value))) ∧
    ((∀ o < 256, s.awake (endWindow c o)) →
      (s.endOf c mid = none → ∀ i ∈ [Instr.crlTxdWrite mid c word value, .crlPost mid c len tag, .crlWithdraw mid c, .crlAck mid c reply,
        .endReset mid c], denied i) ∧
      (∀ e, s.endOf c mid = some e →
        ((s.slot c e).full = false → Completes (.crlTxdWrite mid c word value) s fun t =>
          t.slot c e = { s.slot c e with words := Sparse.put 0 (s.slot c e).words word value } ∧
          (∀ k f, (k, f) ≠ (c.val, e) → f < 2 → t.slot k f = s.slot k f) ∧ t.done.status = Code.ok ∧
          Only [] { s with crl := { s.crl with slots := t.crl.slots } } t) ∧
        ((s.slot c e).full = true → ∀ i ∈ [Instr.crlTxdWrite mid c word value, .crlPost mid c len tag], Completes i s fun t =>
          t.done.status = Code.crlFull ∧ t.flag ⟨Reg.CRL_STAT c, 4 + 8 * e, 1⟩ = true ∧ t.sticky (436 + c.val) = true ∧
          OnlyEv [⟨Reg.CRL_STAT c, 4 + 8 * e, 1⟩] s t)))

/-- R488 to R494: a post marks the slot FULL with its length, tag and epoch and rings the receiver; a withdrawal empties it and rings the
receiver; an acknowledgement empties the slot that the end reads, gives the sender OK and the reply, and rings it; a reset of an end
discards that slot with the code DISCARD and advances the end's epoch; a post that is not released in time gives its sender TIMEOUT. -/
def Obligations.CarrelTraffic : Prop :=
  ∀ (mid : Mid) (c : Fin 32) (len : BitVec 5) (tag reply : BitVec 16) (fromB : Bool) (e : Nat) (s : State),
    let o := 1 - e
    let bit := fun (n f : Nat) => (⟨Reg.CRL_STAT c, n + 8 * f, 1⟩ : Field)
    let rung := fun (t : State) (n f : Nat) =>
      t.flag (bit n f) = true ∧ (s.flag (bit n f) = false → t.sticky (436 + c.val) = true)
    let frame := fun (t : State) =>
      OnlyEv [wholeReg (Reg.CRL_STAT c), wholeReg (Reg.PWR_DSTAT 78), wholeReg (Reg.PWR_DSTAT 79)] { s with crl := t.crl } t ∧
      (∀ k f, k ≠ c.val → f < 2 → t.slot k f = s.slot k f ∧ t.cEnd k f = s.cEnd k f)
    ((∀ w < 256, s.awake (endWindow c w)) → s.endOf c mid = some e →
      ((s.slot c e).full = false → Completes (.crlPost mid c len tag) s fun t =>
        t.slot c e = { s.slot c e with
          len := if len.toNat = 0 ∨ 16 < len.toNat then 16 else len.toNat, tag := tag, epoch := (s.cEnd c e).epoch, full := true,
          tmo := s.fld Fld.CRL_TMO_US, timed := false } ∧
        t.slot c o = s.slot c o ∧ rung t 0 o ∧ t.done.status = Code.ok ∧ frame t) ∧
      ((s.slot c e).full = true → Completes (.crlWithdraw mid c) s fun t =>
        t.slot c e = { s.slot c e with full := false, timed := false } ∧ t.slot c o = s.slot c o ∧ rung t 5 o ∧
        t.done.status = Code.ok ∧ frame t) ∧
      ((s.slot c e).full = false → Completes (.crlWithdraw mid c) s fun t => t = { s with done := { status := Code.ok, data := 0 } }) ∧
      ((s.slot c o).full = true → Completes (.crlAck mid c reply) s fun t =>
        t.slot c o = { s.slot c o with full := false, timed := false } ∧ t.slot c e = s.slot c e ∧
        t.cEnd c o = { s.cEnd c o with code := Code.ok, reply := reply } ∧ t.cEnd c e = s.cEnd c e ∧ rung t 1 o ∧
        t.done.status = Code.ok ∧ frame t) ∧
      ((s.slot c o).full = false → Completes (.crlAck mid c reply) s fun t => t = { s with done := { status := Code.ok, data := 0 } }) ∧
      (Completes (.endReset mid c) s fun t =>
        (t.slot c o).full = false ∧ t.slot c e = s.slot c e ∧ (t.cEnd c e).epoch = (s.cEnd c e).epoch + 1 ∧
        ((s.slot c o).full = true → (t.cEnd c o).code = Code.discard ∧ rung t 3 o ∧ rung t 2 o) ∧
        ((s.slot c o).full = false → t.cEnd c o = s.cEnd c o ∧ t.regs = s.regs) ∧ t.done.status = Code.ok ∧ frame t)) ∧
    (e = (if fromB then 1 else 0) → (s.slot c e).full = true → (s.slot c e).timed = false → (s.slot c e).tmo ≠ 0 →
      Completes (.carrelTimeout c fromB) s fun t =>
        t.slot c e = { s.slot c e with timed := true } ∧ (t.cEnd c e).code = Code.timeout ∧ t.slot c o = s.slot c o ∧
        t.cEnd c o = s.cEnd c o ∧ rung t 2 e ∧ frame t)

/-- R591, R596: a write of IOB_PINp that no image owns takes effect, IOB_BAD shows every pin of the bank whose configuration is refused,
and a newly refused pin raises EV504 + b; a pin that another owns is refused with CONFLICT and EV407; a write of IOB_OUT sets the bits of
the pins that the image does not own, and one that would change an owned bit completes with CONFLICT.

R612, R613: each test instruction is captured with 0x05 once after one that was turned into BYPASS, else with 0x01; IDCODE shows the
identification register, SAMPLE/PRELOAD the sampled levels; an instruction that takes the pins is in force, or BYPASS in its place while
the image runs; TRST_N selects IDCODE. -/
def Obligations.PinsAndTestPort : Prop :=
  (∀ (mid : Mid) (b : Fin 8) (p : Fin 24) (value : Word32) (s : State),
      let u := s.storeReg (Reg.IOB_PIN b p) value
      let owned := fun (k : Nat) => s.imageOwner 1 (b.val * 24 + k) ≠ 0
      let old := s.reg (Reg.IOB_OUT b)
      (s.imageOwner 1 (b.val * 24 + p.val) = 0 → Completes (.iobPinWrite mid b p value) s fun t =>
        t.reg (Reg.IOB_PIN b p) = u.reg (Reg.IOB_PIN b p) ∧ (∀ k < 24, (t.reg (Reg.IOB_BAD b)).getLsbD k = u.pinBad b k) ∧
        ((∃ k < 24, u.pinBad b k = true ∧ (s.reg (Reg.IOB_BAD b)).getLsbD k = false) →
          t.flag (Fld.IOB_STAT_CFG_BAD b) = true ∧ t.sticky (504 + b.val) = true) ∧
        t.done.status = Code.ok ∧ OnlyEv [wholeReg (Reg.IOB_PIN b p), wholeReg (Reg.IOB_BAD b), Fld.IOB_STAT_CFG_BAD b] s t) ∧
      (owned p → s.mayAssign mid 0x01 (b.val * 24 + p.val) = false → Completes (.iobPinWrite mid b p value) s fun t =>
        t.done.status = Code.conflict ∧ t.flag Fld.LDR_CHK_STAT_CLAIM_CONFLICT = true ∧ t.sticky 407 = true ∧
        OnlyEv [Fld.LDR_CHK_STAT_CLAIM_CONFLICT] s t) ∧
      (mid ≠ 0x10 → Completes (.iobOutWrite mid b value) s fun t =>
        (∀ k < 24, (t.reg (Reg.IOB_OUT b)).getLsbD k = if s.imageOwner 1 (b.val * 24 + k) ≠ 0 then old.getLsbD k else value.getLsbD k) ∧
        ((∀ k < 24, owned k → old.getLsbD k = value.getLsbD k) → t.done.status = Code.ok ∧ Only [wholeReg (Reg.IOB_OUT b)] s t) ∧
        ((∃ k < 24, owned k ∧ old.getLsbD k ≠ value.getLsbD k) → t.done.status = Code.conflict ∧ t.sticky 407 = true ∧
          OnlyEv [wholeReg (Reg.IOB_OUT b), Fld.LDR_CHK_STAT_CLAIM_CONFLICT] s t))) ∧
  (∀ (cells : BitVec 192) (s : State),
      let seen : Output := .tap (if s.iob.tapBlocked then 5 else 1)
      (Completes .tapIdcode s fun t =>
        t = { s with iob := { s.iob with tapIr := 1, tapBlocked := false }, out := s.out ++
              [seen, .tap (0x1 * 2 ^ 28 + 0x9640 * 2 ^ 12 + Config.bsdlId.toNat * 2 + 1)] }) ∧
      (Completes (.tapSamplePreload cells) s fun t =>
        t = { s with iob := { s.iob with tapIr := 2, tapBlocked := false, cells := cells }, out := s.out ++ [seen, .tap s.iob.ball.toNat] }) ∧
      (∀ (c : Instr) (ir : Nat), (c, ir) ∈ [(Instr.tapExtest, 3), (.tapExtestPulse, 4), (.tapExtestTrain, 5), (.tapHighz, 6), (.tapClamp, 7)] →
        (s.imageRuns = false → Completes c s fun t =>
          t = { s with iob := { s.iob with tapIr := ir, tapBlocked := false }, out := s.out ++ [seen] }) ∧
        (s.imageRuns = true → Completes c s fun t =>
          t = { s with iob := { s.iob with tapIr := 0xFF, tapBlocked := true }, out := s.out ++ [seen] })) ∧
      (Completes .tapBypass s fun t =>
        t = { s with iob := { s.iob with tapIr := 0xFF, tapBlocked := false }, out := s.out ++ [seen] }) ∧
      (Completes .tapReset s fun t => t = { s with iob := { s.iob with tapIr := 1, tapBlocked := false } }))

/-! ## The twin (chapter 18) -/

/-- R540 to R543, R545: a PAIR frame is recorded; where EN is 1 and no cause of R542 stands against it, it forms the pair, with EV484 and
the modes of R545; else it is refused with its cause and EV485.  A third miss in a row loses the pairing, with EV486 and EV488, and a
LOCKSTEP twin that does not own takes ownership at the boundary. -/
def Obligations.TwinPairing : Prop :=
  ∀ (ident straps : Word32) (mode : BitVec 2) (own en disc : Bool) (seq : BitVec 3) (identity : List Byte) (s : State),
    let c : Instr := .twinPair ident straps mode own en disc seq identity
    let cause := s.pairCause ident straps en disc identity
    let info := [Fld.TWN_PAIR_INFO_VALID, Fld.TWN_PAIR_INFO_P_ROLE, Fld.TWN_PAIR_INFO_P_MODE, Fld.TWN_PAIR_INFO_P_OWN,
      Fld.TWN_PAIR_INFO_P_STEP]
    let shown := fun (t : State) =>
      t.flag Fld.TWN_PAIR_INFO_VALID = true ∧ t.fld Fld.TWN_PAIR_INFO_P_ROLE = Fld.DEV_STRAPS_TWIN_ROLE.get straps ∧
      t.fld Fld.TWN_PAIR_INFO_P_MODE = mode.toNat ∧ t.flag Fld.TWN_PAIR_INFO_P_OWN = own ∧
      t.fld Fld.TWN_PAIR_INFO_P_STEP = Fld.DEV_IDENT_STEP.get ident
    (s.flag Fld.TWN_STATUS_PAIRED = false →
      (s.flag Fld.TWN_CFG_EN = false ∨ s.twin.refused = true → Completes c s fun t => shown t ∧ Only info s t) ∧
      (s.flag Fld.TWN_CFG_EN = true → s.twin.refused = false → cause ≠ 0 → Completes c s fun t =>
        shown t ∧ t.fld Fld.TWN_PAIR_INFO_CAUSE = cause ∧ t.flag Fld.TWN_STATUS_PAIR_REF = true ∧ t.sticky 485 = true ∧
        t.twin = { s.twin with refused := true } ∧ t.flag Fld.TWN_STATUS_PAIRED = false ∧
        t.out.getLast? = some (.twinFrame 3 0 [7, BitVec.ofNat 64 Code.twnState.toNat])) ∧
      (s.flag Fld.TWN_CFG_EN = true → s.twin.refused = false → cause = 0 → Completes c s fun t =>
        shown t ∧ t.flag Fld.TWN_STATUS_PAIRED = true ∧ t.flag Fld.TWN_STATUS_PAIR_UP = true ∧ t.sticky 484 = true ∧
        t.fld Fld.TWN_LAG_MAX = 0 ∧ t.twin.heard = s.seq.turn ∧ t.twin.miss = 0 ∧
        (s.seqState ≤ 1 → seq.toNat ≤ 1 → s.flag Fld.TWN_CFG_LS_START = true → t.twinMode = 3 ∧
          (s.ldr.phase = 10 → t.flag Fld.TWN_STATUS_OWN = (s.fld Fld.DEV_STRAPS_TWIN_ROLE == 0))) ∧
        (s.flag Fld.TWN_CFG_LS_START = false →
          (s.flag Fld.TWN_STATUS_OWN = false → t.twinMode = 1 ∧ t.twin.ownPlan = s.twin.ownPlan) ∧
          (s.flag Fld.TWN_STATUS_OWN = true → own = true → s.fld Fld.DEV_STRAPS_TWIN_ROLE ≠ 0 →
            t.twinMode = 1 ∧ t.twin.ownPlan = some (false, s.seq.turn + 1)) ∧
          (s.flag Fld.TWN_STATUS_OWN = true → own = false ∨ s.fld Fld.DEV_STRAPS_TWIN_ROLE = 0 → t.twinMode = s.twinMode)))) ∧
    (s.flag Fld.TWN_STATUS_PAIRED = true → 3 ≤ s.twin.miss → Completes .twinHbLoss s fun t =>
      t.flag Fld.TWN_STATUS_PAIRED = false ∧ t.flag Fld.TWN_STATUS_HB_LOSS = true ∧ t.flag Fld.TWN_STATUS_LOST = true ∧
      t.sticky 488 = true ∧ t.sticky 486 = true ∧ t.twinMode = 0 ∧ t.flag Fld.TWN_STATUS_OWN = s.flag Fld.TWN_STATUS_OWN ∧
      t.twin.handover = none ∧ t.twin.miss = 0 ∧
      t.twin.ownPlan = (if s.twinMode = 3 ∧ s.flag Fld.TWN_STATUS_OWN = false then some (true, s.seq.turn + 1) else s.twin.ownPlan))

/-- R541, R547, R549 to R551, R555, R559: an HB clears the misses and shows its lag; in LOCKSTEP an equal digest leaves the pair as it is
and another one is a divergence, with EV487, that leaves the twin with the sound state as the owner; while a resynchronisation verifies,
MATCH_N equal digests in a row bring LOCKSTEP, with EV490; the HB of a turn is sent once. -/
def Obligations.TwinHeartbeats : Prop :=
  ∀ (turn digest : Word64) (health own dvalid : Bool) (mode : BitVec 2) (s : State),
    let n := turn.toNat
    let c : Instr := .twinHb turn digest health own mode dvalid
    let met := s.twin.hist.map (fun x => if x.turn = n then { x with met := true } else x)
    let shown := [Fld.TWN_PAIR_INFO_P_OWN, Fld.TWN_PAIR_INFO_P_MODE, Fld.TWN_LAG_MAX, Fld.TWN_LAG_VALID]
    let mine := fun (b : Bool) => ∃ x, s.twin.hist.find? (fun x => x.turn == n) = some x ∧ x.health = b
    (s.flag Fld.TWN_STATUS_PAIRED = true → s.seq.turn - n ≤ s.hbWait →
      (s.twinMode = 3 → dvalid = false ∨ s.digestIs n digest = true → Completes c s fun t =>
        t.flag Fld.TWN_PAIR_INFO_P_OWN = own ∧ t.fld Fld.TWN_PAIR_INFO_P_MODE = mode.toNat ∧
        t.fld Fld.TWN_LAG_MAX = max (s.fld Fld.TWN_LAG_MAX) (min (s.seq.turn - n) 63) ∧ t.flag Fld.TWN_LAG_VALID = true ∧
        Only shown { s with twin := { s.twin with heard := s.seq.turn, miss := 0, hist := met } } t) ∧
      (s.twinMode = 3 → dvalid = true → s.digestIs n digest = false → s.reg Reg.TWN_DIV_CNT ≠ 0xFFFFFFFF → Completes c s fun t =>
        t.flag Fld.TWN_STATUS_DIVERGE = true ∧ t.sticky 487 = true ∧ t.reg Reg.TWN_DIV_CNT = s.reg Reg.TWN_DIV_CNT + 1 ∧
        (s.flag Fld.TWN_STATUS_DIVERGE = false → t.reg Reg.TWN_DIV_TURN = BitVec.ofNat 32 n) ∧
        t.twin.heard = s.seq.turn ∧ t.twin.miss = 0 ∧
        (s.flag Fld.TWN_STATUS_OWN = true → mine false → health = true →
          t.twinMode = 1 ∧ t.twin.ownPlan = some (false, s.seq.turn + 1)) ∧
        (s.flag Fld.TWN_STATUS_OWN = true → mine true ∨ health = false → t.twinMode = 0 ∧ t.twin.ownPlan = s.twin.ownPlan) ∧
        (s.flag Fld.TWN_STATUS_OWN = false → mine true → health = false →
          t.twinMode = 0 ∧ t.twin.ownPlan = some (true, s.seq.turn + 2)) ∧
        (s.flag Fld.TWN_STATUS_OWN = false → mine false ∨ health = true → t.twinMode = 1 ∧ t.twin.ownPlan = s.twin.ownPlan)) ∧
      (∀ j, s.twinMode ≠ 3 → s.twin.joinAt = some j → s.fld Fld.TWN_RS_STAT_PHASE = 5 → j + s.maxSettle < n →
        (s.digestIs n digest = true → s.matchN ≤ s.twin.agreed + 1 → Completes c s fun t =>
          t.twinMode = 3 ∧ t.flag Fld.TWN_STATUS_SENDING = false ∧ t.fld Fld.TWN_RS_STAT_PHASE = 0 ∧ t.twin.joinAt = none ∧
          t.flag Fld.TWN_STATUS_LS_ENT = true ∧ t.sticky 490 = true) ∧
        (s.digestIs n digest = true → s.twin.agreed + 1 < s.matchN → Completes c s fun t =>
          t.twin.agreed = s.twin.agreed + 1 ∧ t.twinMode = s.twinMode ∧
          Only shown { s with twin := { s.twin with heard := s.seq.turn, miss := 0, hist := met, agreed := s.twin.agreed + 1 } } t) ∧
        (s.digestIs n digest = false → Completes c s fun t =>
          t.twin.agreed = 0 ∧ t.twinMode = s.twinMode ∧
          Only shown { s with twin := { s.twin with heard := s.seq.turn, miss := 0, hist := met, agreed := 0 } } t))) ∧
    (∀ x, s.flag Fld.TWN_STATUS_PAIRED = true → s.hbDue = some x →
      (s.twin.hbSent ≠ some x.turn → Completes .twinHbSend s fun t => ∃ d1 : Word64,
        t = { s with twin := { s.twin with hbSent := some x.turn }, out := s.out ++ [.twinFrame 1 (x.turn % 2 ^ 32) [x.digest, d1]] } ∧
        d1.getLsbD 0 = x.health ∧ d1.getLsbD 4 = s.digestValid) ∧
      (s.twin.hbSent = some x.turn → Completes .twinHbSend s fun t => t = s))

/-- R545, R552, R554, R559, R561, R562: RESYNC asks the partner to bring this twin level; HANDOVER of the owner in LOCKSTEP waits for the
partner's answer; ABORT ends a resynchronisation with EV492 on the twin being brought level; CLAIM makes an unpaired twin own the outputs
at the next boundary; a command that its conditions refuse answers with the code of R562 and EV494.  A remote access is sent to the
partner, and without an answer completes with TIMEOUT; a read of TWN_NOTICE removes the oldest notice. -/
def Obligations.TwinCommands : Prop :=
  ∀ (mid : Mid) (value : Word32) (s : State),
    let paired := s.flag Fld.TWN_STATUS_PAIRED
    let refused := fun (c : Instr) (code : Status) => Completes c s fun t =>
      t.done.status = code ∧ t.fld Fld.TWN_CMD_STAT_CODE = code.toNat ∧ t.flag Fld.TWN_STATUS_CMD_REFUSED = true ∧ t.sticky 494 = true ∧
      OnlyEv [Fld.TWN_CMD_STAT_CODE, Fld.TWN_STATUS_CMD_REFUSED] s t
    let accepted := fun (t : State) => t.fld Fld.TWN_CMD_STAT_CODE = 0 ∧ t.done.status = Code.ok
    (s.awake Reg.TWN_CMD → isManager mid = false →
      ∀ c ∈ [Instr.twinResync mid, .twinHandover mid, .twinAbort mid, .twinClaim mid], refused c Code.denied) ∧
    (s.awake Reg.TWN_CMD → isManager mid = true →
      (paired = true → s.twinMode = 1 → s.seqState = 0 ∨ s.seqState = 5 → Completes (.twinResync mid) s fun t =>
        t.twinMode = 2 ∧ t.fld Fld.TWN_RS_STAT_PHASE = 1 ∧ t.fld Fld.TWN_RS_STAT_CAUSE = 0 ∧ t.reg Reg.TWN_RS_BYTES = 0 ∧
        t.out = s.out ++ [.twinFrame 3 0 [1, 0], .twinFrame 10 (s.count % 2 ^ 32) []] ∧ accepted t ∧
        Only [Fld.TWN_STATUS_MODE, Fld.TWN_RS_STAT_PHASE, Fld.TWN_RS_STAT_CAUSE, wholeReg Reg.TWN_RS_BYTES, Fld.TWN_CMD_STAT_CODE]
          { s with twin := t.twin } t) ∧
      (paired = false → refused (.twinResync mid) Code.twnNopair ∧ refused (.twinHandover mid) Code.twnNopair) ∧
      (paired = true → s.twinMode ≠ 1 → refused (.twinResync mid) Code.twnState) ∧
      (paired = true → s.twinMode = 3 → s.flag Fld.TWN_STATUS_OWN = true → Completes (.twinHandover mid) s fun t =>
        let j := s.turnNear (s.reg Reg.TWN_CMD_TURN).toNat
        t.flag Fld.TWN_CMD_STAT_PENDING = true ∧ t.out = s.out ++ [.twinFrame 3 0 [4, BitVec.ofNat 64 j]] ∧ accepted t ∧
        Only [Fld.TWN_CMD_STAT_PENDING, Fld.TWN_CMD_STAT_CODE] { s with twin := { s.twin with handover := some j } } t) ∧
      (paired = true → s.twinMode ≠ 3 ∨ s.flag Fld.TWN_STATUS_OWN = false → refused (.twinHandover mid) Code.twnState) ∧
      (s.twinMode = 2 → Completes (.twinAbort mid) s fun t =>
        t.twinMode = 1 ∧ t.fld Fld.TWN_RS_STAT_CAUSE = 5 ∧ t.fld Fld.TWN_RS_STAT_PHASE = 0 ∧ t.flag Fld.TWN_STATUS_RS_FAIL = true ∧
        t.sticky 492 = true ∧ t.flag Fld.TWN_STATUS_SENDING = false ∧ t.twin.joinAt = none ∧ t.twin.suppress = false ∧ accepted t) ∧
      (s.twinMode ≠ 2 → s.flag Fld.TWN_STATUS_SENDING = true → Completes (.twinAbort mid) s fun t =>
        t.twinMode = s.twinMode ∧ t.flag Fld.TWN_STATUS_SENDING = false ∧ t.fld Fld.TWN_RS_STAT_PHASE = 0 ∧ t.twin.snap = [] ∧
        t.twin.log = [] ∧ t.out = s.out ++ [.twinFrame 3 0 [6, 5]] ∧ accepted t) ∧
      (s.twinMode ≠ 2 → s.flag Fld.TWN_STATUS_SENDING = false → refused (.twinAbort mid) Code.twnState) ∧
      (paired = false → s.twinMode = 0 → s.flag Fld.TWN_STATUS_OWN = false → Completes (.twinClaim mid) s fun t =>
        accepted t ∧ Only [Fld.TWN_CMD_STAT_CODE] { s with twin := { s.twin with ownPlan := some (true, s.seq.turn + 1) } } t) ∧
      (paired = true ∨ s.twinMode ≠ 0 ∨ s.flag Fld.TWN_STATUS_OWN = true → refused (.twinClaim mid) Code.twnState)) ∧
    (s.awake Reg.TWN_RACC_CTRL → s.twin.racc = false → paired = true → Completes (.raccGo mid value) s fun t =>
      let w := Fld.TWN_RACC_CTRL_WRITE.get value
      t.fld Fld.TWN_RACC_CTRL_WRITE = w ∧ t.flag Fld.TWN_RACC_CTRL_GO = true ∧ t.done.status = Code.ok ∧
      t.out = s.out ++ [.twinReg (.request (BitVec.ofNat 28 (s.reg Reg.TWN_RACC_ADDR).toNat)
        (if w = 1 then some (s.reg Reg.TWN_RACC_DATA) else none))] ∧
      Only [Fld.TWN_RACC_CTRL_WRITE, Fld.TWN_RACC_CTRL_GO] { s with twin := { s.twin with racc := true } } t) ∧
    (s.twin.racc = true → Completes .raccTimeout s fun t =>
      t.flag Fld.TWN_RACC_CTRL_GO = false ∧ t.fld Fld.TWN_RACC_CTRL_CODE = Code.timeout.toNat ∧
      Only [Fld.TWN_RACC_CTRL_GO, Fld.TWN_RACC_CTRL_CODE] { s with twin := { s.twin with racc := false } } t) ∧
    (s.awake Reg.TWN_NOTICE → ∀ e v rest, s.twin.notices = (e, v) :: rest → Completes (.twnNoticeRead mid) s fun t =>
      t = { s with twin := { s.twin with notices := rest },
                   done := { status := Code.ok, data := BitVec.ofNat 32 (2 ^ 31 + v * 2 ^ 16 + e) } })

/-- R541, R552, R554 to R561: what a frame of the partner does to a paired twin: RS_REQ makes an unpaired-mode owner in RUN the sender;
TSTART and JOIN name the turns of a start and of the end of suppression; HANDOVER, HO_ACK and REFUSE settle a handover; ABORT fails a
resynchronisation; LOADREQ is answered with the image's bytes; SNAP, LOG and HBMCOPY bring state over; NOTICE, LOAD, PING, ECHO and REG
are taken. -/
def Obligations.TwinFrames : Prop :=
  ∀ (turn d2 e0 e1 : Word64) (code : Status) (cause : BitVec 3) (bytes : List Byte) (block : BitVec 24)
    (words : List Word64) (event : Fin 512) (sev : BitVec 2) (count arg data : Word32) (addr : BitVec 28) (s : State),
    let n := turn.toNat
    let phase := s.fld Fld.TWN_RS_STAT_PHASE
    let ctrl := fun (op d1 : Word64) => s.out ++ [.twinFrame 3 0 [op, d1]]
    let refuse := ctrl 7 (BitVec.ofNat 64 Code.twnState.toNat)
    let failed := fun (t : State) (k : Nat) =>
      t.twinMode = 1 ∧ t.fld Fld.TWN_RS_STAT_CAUSE = k ∧ t.fld Fld.TWN_RS_STAT_PHASE = 0 ∧ t.flag Fld.TWN_STATUS_RS_FAIL = true ∧
      t.sticky 492 = true ∧ t.twin.joinAt = none ∧ t.twin.suppress = false
    (s.flag Fld.TWN_STATUS_PAIRED = true →
      (s.twinMode = 0 → s.flag Fld.TWN_STATUS_OWN = true → s.flag Fld.TWN_STATUS_SENDING = false → s.seqState = 2 →
        Completes .twinRsReq s fun t =>
          t.flag Fld.TWN_STATUS_SENDING = true ∧ t.fld Fld.TWN_RS_STAT_PHASE = 1 ∧ t.reg Reg.TWN_RS_BYTES = 0 ∧
          Only [Fld.TWN_STATUS_SENDING, Fld.TWN_RS_STAT_PHASE, wholeReg Reg.TWN_RS_BYTES] { s with twin := t.twin } t) ∧
      (s.twinMode ≠ 0 ∨ s.flag Fld.TWN_STATUS_OWN = false ∨ s.flag Fld.TWN_STATUS_SENDING = true ∨ s.seqState ≠ 2 →
        Completes .twinRsReq s fun t => t = { s with out := refuse }) ∧
      (s.twinMode = 2 → phase = 1 → s.fld Fld.TWN_LAG_LAT < d2.toNat → Completes (.twinTstart turn d2) s fun t =>
        t = { s with twin := { s.twin with align := some (n, s.count + d2.toNat - s.fld Fld.TWN_LAG_LAT), j0 := n } }) ∧
      (s.twinMode = 2 → phase = 1 → d2.toNat ≤ s.fld Fld.TWN_LAG_LAT → Completes (.twinTstart turn d2) s fun t => failed t 6) ∧
      (s.twinMode = 2 → Completes (.twinJoin turn) s fun t =>
        t.fld Fld.TWN_RS_STAT_PHASE = 4 ∧ Only [Fld.TWN_RS_STAT_PHASE] { s with twin := { s.twin with joinAt := some n } } t) ∧
      (s.seq.turn + 2 ≤ n → Completes (.ctrlHandover turn) s fun t =>
        t = { s with twin := { s.twin with ownPlan := some (true, n) }, out := ctrl 5 turn }) ∧
      (n < s.seq.turn + 2 → Completes (.ctrlHandover turn) s fun t => t = { s with out := refuse }) ∧
      (s.twin.handover = some n → Completes (.twinHoAck turn) s fun t =>
        t = { s with twin := { s.twin with ownPlan := some (false, max n (s.seq.turn + 1)) } }) ∧
      (s.twinMode = 2 → Completes (.ctrlAbort cause) s fun t =>
        failed t (if cause = 0 then 5 else cause.toNat) ∧ t.flag Fld.TWN_STATUS_SENDING = false) ∧
      (s.fld Fld.LDR_XSPI_ROLE = 0 → s.flag Fld.LDR_CMD_STAT_PENDING = false → Completes (.twinLoadreq bytes) s fun t =>
        t = { s with out := s.out ++ loadFrames (bytes.length / 1024 + 1) 0 bytes }) ∧
      (s.fld Fld.LDR_XSPI_ROLE ≠ 0 ∨ s.flag Fld.LDR_CMD_STAT_PENDING = true → Completes (.twinLoadreq bytes) s fun t =>
        t = { s with out := refuse }) ∧
      (e0.toNat % 4 = 0 → s.twinJoined = false → Completes (.twinLog [(e0, e1)]) s fun t =>
        let o := 0x0C000000 + s.physOf (e0.toNat / 4 % 32) * 0x100000 + (e0.toNat / 128 % 16 * 256 + e0.toNat / 2048 % 256) * 8
        t.reg (o + 0x10000) = unitLo e1 ∧ t.reg (o + 0x10004) = unitHi e1 ∧ t.reg (o + 0x18000) = 0xFFFFFFFF ∧
        t.reg (o + 0x18004) = 0xFFFFFFFF ∧
        Only [wholeReg (o + 0x10000), wholeReg (o + 0x10004), wholeReg (o + 0x18000), wholeReg (o + 0x18004)] s t)) ∧
    (s.twinMode = 2 → phase = 1 → Completes (.twinRefuse code) s fun t => failed t 1) ∧
    (s.twinMode ≠ 2 → s.twin.handover ≠ none → Completes (.twinRefuse code) s fun t =>
      t.twin.handover = none ∧ t.flag Fld.TWN_CMD_STAT_PENDING = false ∧ t.fld Fld.TWN_CMD_STAT_CODE = Code.twnState.toNat ∧
      t.sticky 494 = true ∧ t.twin.ownPlan = s.twin.ownPlan) ∧
    (s.twinMode = 2 → phase = 2 → s.twin.snap = [] → bytes.length = 1024 → Completes (.twinSnap 0 bytes) s fun t =>
      t.twin.snap = bytes ∧ t.twin.seqOff = s.twin.seqOff + (numAt bytes 8 4 : Int) ∧
      (∀ i < 96, Sparse.get 0 t.twin.idxOff i = Sparse.get 0 s.twin.idxOff i + (numAt bytes (16 + 8 * i) 8 : Int)) ∧
      Only [wholeReg Reg.TWN_RS_BYTES] { s with twin := t.twin } t) ∧
    (s.twinMode = 2 → s.flag Fld.TWN_STATUS_SENDING = false → words.length = 128 →
      (s.hbmConditions 0x0A (block.toNat * 1024) 1024 true).2 = none → Completes (.twinHbmcopy block words) s fun t =>
        (∀ k < 128, t.hbmWord (block.toNat * 128 + k) = words.getD k 0) ∧
        (∀ w, w < block.toNat * 128 ∨ block.toNat * 128 + 128 ≤ w → t.hbmWord w = s.hbmWord w)) ∧
    (s.twin.notices.length < 16 → Completes (.twinNotice event sev) s fun t =>
      t.twin = { s.twin with notices := s.twin.notices ++ [(event.val, sev.toNat)] } ∧ t.flag Fld.TWN_STATUS_NOTICE = true ∧
      t.sticky 491 = true ∧ OnlyEv [Fld.TWN_STATUS_NOTICE] { s with twin := t.twin } t) ∧
    (s.ldr.src = 3 → Completes (.twinLoad bytes) s fun t =>
      Sparse.get [] t.ldr.stream 3 = Sparse.get [] s.ldr.stream 3 ++ bytes ∧
      t = { s with ldr := { s.ldr with stream := t.ldr.stream } }) ∧
    (Completes (.twinPing count) s fun t => t = { s with twin := { s.twin with ping := some (count, s.count) } }) ∧
    (∀ at_, s.twin.ping = some (count, at_) → s.flag Fld.TWN_STATUS_SENDING = false → Completes .echoSend s fun t =>
      t = { s with twin := { s.twin with ping := none }, out := s.out ++ [.twinFrame 11 count.toNat []] }) ∧
    (∀ at_, s.twin.ping = some (count, at_) → s.flag Fld.TWN_STATUS_SENDING = true → phase = 1 → Completes .echoSend s fun t =>
      t.twin = { s.twin with ping := none, j0 := s.seq.turn + 64 } ∧ ∃ w, t.out = s.out ++ [.twinFrame 11 count.toNat [],
        .twinFrame 3 0 [2, BitVec.ofNat 64 (s.seq.turn + 64), w]]) ∧
    (Completes (.twinEcho arg) s fun t =>
      t.fld Fld.TWN_LAG_LAT = ((BitVec.ofNat 32 s.count - arg - 64).toNat / 2) % 2 ^ 16 ∧ t.flag Fld.TWN_LAG_VALID = true ∧
      Only [Fld.TWN_LAG_LAT, Fld.TWN_LAG_VALID] s t) ∧
    (s.twin.racc = true → Completes (.twinReg (.answer code data)) s fun t =>
      t.flag Fld.TWN_RACC_CTRL_GO = false ∧ t.fld Fld.TWN_RACC_CTRL_CODE = code.toNat ∧ t.twin.racc = false ∧
      t.reg Reg.TWN_RACC_DATA = (if s.flag Fld.TWN_RACC_CTRL_WRITE then s.reg Reg.TWN_RACC_DATA else data)) ∧
    (addr.toNat = Reg.TWN_DIV_TURN → s.awake Reg.TWN_DIV_TURN → Completes (.twinReg (.request addr none)) s fun t =>
      t.out = s.out ++ [.twinReg (.answer Code.ok (s.reg Reg.TWN_DIV_TURN))] ∧ t.regs = s.regs ∧ t.twin = s.twin) ∧
    (∀ j, s.twin.joinAt = some j → phase = 5 → j + s.fld Fld.TWN_MATCH_WAIT_TURNS ≤ s.seq.turn → s.twinMode = 2 →
      Completes .matchTimeout s fun t => failed t 4 ∧ t.flag Fld.TWN_STATUS_SENDING = false)

/-! ## The host interface and the Ledger ring (chapter 19) -/

/-- R566 to R570: a read of the HBM through BAR4 returns its bytes and a write stores them; BAR0 reads and writes the registers as MID 0x08
(said here of the identity registers and DEV_SCRATCH); a request of another size or alignment is malformed, with EV497 and, for a read,
Completer Abort; clearing a vector's mask sends the message that is pending; L0 shows speed and width; a reset of the interface clears its
configuration, with EV499, and takes the link out of L0, with EV498, but at a function level reset. -/
def Obligations.HostAccess : Prop :=
  ∀ (bar : Bar) (off : BitVec 34) (len : Nat) (bytes : List Byte) (value : Word32) (vec : Fin 64) (speed : Fin 5) (width : Fin 9)
    (msix master : Bool) (s : State),
    let o := off.toNat
    let host := { s.host with nextBar := s.host.nextBar + 1 }
    (s.flag Fld.HST_STATUS_LINK_UP = true → (∀ b ∈ s.host.bars, b.id < s.host.nextBar) → s.hbmAnswers = true →
      (len ≤ 4096 → (s.hbmConditions 0x08 o len false).2 = none → Completes (.memoryRead .hbm off len []) s fun t =>
        t = { s with host := host, caller := .direct, done := { status := Code.ok, data := 0 },
                     out := s.out ++ [.barData (s.hbmBytes o len)] }) ∧
      (0 < bytes.length → bytes.length ≤ 512 → (s.hbmConditions 0x08 o bytes.length true).2 = none → s.mirrored o = false →
        Completes (.memoryWrite .hbm off (List.replicate bytes.length true) bytes []) s fun t =>
          t.hbmBytes o bytes.length = bytes ∧ (∀ a, a < o ∨ o + bytes.length ≤ a → t.hbmByte a = s.hbmByte a) ∧
          t = { s with host := host, caller := .direct, done := { status := Code.ok, data := 0 }, hbm := t.hbm })) ∧
    (s.flag Fld.HST_STATUS_LINK_UP = true → (∀ b ∈ s.host.bars, b.id < s.host.nextBar) → s.awake o →
      (o % 4 = 0 → o ≤ Reg.DEV_SCRATCH → Completes (.memoryRead .regs off 4 []) s fun t =>
        t = { s with host := host, caller := .direct, done := { status := Code.ok, data := s.reg o },
                     out := s.out ++ [.barData (bytesOf32 (s.reg o))] }) ∧
      (o = Reg.DEV_SCRATCH → Completes (.memoryWrite .regs off [true, true, true, true] (bytesOf32 value) []) s fun t =>
        t.reg Reg.DEV_SCRATCH = value ∧ Only [wholeReg Reg.DEV_SCRATCH] { s with host := host, caller := .direct } t)) ∧
    (s.flag Fld.HST_STATUS_LINK_UP = true → bar ≠ .hbm → barAligned o len = false → s.reg Reg.HST_MAL_CNT ≠ 0xFFFFFFFF →
      Completes (.memoryRead bar off len []) s fun t =>
        t.reg Reg.HST_MAL_CNT = s.reg Reg.HST_MAL_CNT + 1 ∧ t.flag Fld.HST_STATUS_MALFORMED = true ∧ t.sticky 497 = true ∧
        t.out.getLast? = some .completerAbort ∧
        t.host = { s.host with aer := some (s.host.aer.getD (barNumber bar, o)) } ∧
        OnlyEv [wholeReg Reg.HST_MAL_CNT, Fld.HST_STATUS_MALFORMED] { s with host := t.host } t) ∧
    (s.flag Fld.HST_STATUS_LINK_UP = true → bar ≠ .hbm → barAligned o bytes.length = false → s.reg Reg.HST_MAL_CNT ≠ 0xFFFFFFFF →
      Completes (.memoryWrite bar off (List.replicate bytes.length true) bytes []) s fun t =>
        t.reg Reg.HST_MAL_CNT = s.reg Reg.HST_MAL_CNT + 1 ∧ t.flag Fld.HST_STATUS_MALFORMED = true ∧ t.sticky 497 = true ∧
        OnlyEv [wholeReg Reg.HST_MAL_CNT, Fld.HST_STATUS_MALFORMED] s t) ∧
    (let m := Reg.HST_MSIX_TBL (4 * vec.val + 3)
     let a := Reg.HST_MSIX_PBA (vec.val / 32)
     let sends := s.host.msixEnable = true ∧ s.host.busMaster = true ∧ (s.reg a).getLsbD (vec.val % 32) = true
     (sends → Completes (.msixUnmask vec) s fun t =>
       (t.reg m).getLsbD 0 = false ∧ (t.reg a).getLsbD (vec.val % 32) = false ∧ t.out = s.out ++ [.msix vec.val] ∧
       Only [⟨m, 0, 1⟩, ⟨a, vec.val % 32, 1⟩] s t) ∧
     (¬ sends → Completes (.msixUnmask vec) s fun t =>
       (t.reg m).getLsbD 0 = false ∧ t.out = s.out ∧ Only [⟨m, 0, 1⟩] s t)) ∧
    (speed.val ≠ 0 → width.val = 1 ∨ width.val = 2 ∨ width.val = 4 ∨ width.val = 8 → s.domState 73 = 0 →
      Completes (.linkInL0 speed width msix master) s fun t =>
        t.flag Fld.HST_STATUS_LINK_UP = true ∧ t.fld Fld.HST_STATUS_SPEED = speed ∧ t.fld Fld.HST_STATUS_WIDTH = width ∧
        Only [Fld.HST_STATUS_LINK_UP, Fld.HST_STATUS_SPEED, Fld.HST_STATUS_WIDTH]
          { s with host := { s.host with msixEnable := msix, busMaster := master } } t) ∧
    (∀ cause : HostResetCause, Completes (.hostReset cause) s fun t =>
      t.host = { s.host with msixEnable := false, busMaster := false, bars := [], aer := none } ∧
      (∀ j < 256, t.reg (Reg.HST_MSIX_TBL j) = Reg.resetOf (Reg.HST_MSIX_TBL j)) ∧
      t.flag Fld.HST_STATUS_HRESET = true ∧ t.sticky 499 = true ∧
      (cause = .flr → t.flag Fld.HST_STATUS_LINK_UP = s.flag Fld.HST_STATUS_LINK_UP) ∧
      (cause ≠ .flr → t.flag Fld.HST_STATUS_LINK_UP = false ∧
        (s.flag Fld.HST_STATUS_LINK_UP = true → t.flag Fld.HST_STATUS_LINK_DOWN = true ∧ t.sticky 498 = true)))

/-- R573 to R576: ENUM makes the device head and sends the frame once nothing is outstanding; a device that is not head takes the number
and passes it on one higher; at the head the returned frame gives COUNT, with EV501, or another head's a conflict, with EV502; without it
the enumeration fails; a frame with a bad CRC is discarded with EV500, and a bypassed device passes frames on. -/
def Obligations.RingEnumeration : Prop :=
  ∀ (mid : Mid) (arg : Word32) (own : Bool) (hops : BitVec 6) (s : State),
    let n := arg.toNat
    let frame := fun (k : Nat) => (Output.ringFrame 1 0 0 false k [])
    (s.awake Reg.LRG_CTRL →
      (mid = 0x00 ∨ mid = 0x01 ∨ mid = 0x08 → s.flag Fld.LRG_CTRL_ENUM = false →
        Completes (.ringEnumStart mid) s fun t =>
          t.flag Fld.LRG_CTRL_ENUM = true ∧ t.flag Fld.LRG_STATUS_HEAD = true ∧ t.done.status = Code.ok ∧
          (s.host.reqs = [] → t.fld Fld.LRG_STATUS_NUM = 0 ∧ t.host.enumSent = true ∧ t.host.enumWait = false ∧
            t.out.getLast? = some (frame 1)) ∧
          (s.host.reqs ≠ [] → t.host = { s.host with enumWait := true } ∧ t.out = s.out)) ∧
      (mid ≠ 0x00 → mid ≠ 0x01 → mid ≠ 0x08 → Completes (.ringEnumStart mid) s fun t =>
        t.done.status = Code.denied ∧ t.flag Fld.LRG_STATUS_DENIED = true ∧ t.sticky 502 = true ∧
        OnlyEv [Fld.LRG_STATUS_DENIED] s t)) ∧
    (s.ringBypassed = true → hops.toNat ≠ 63 → Completes (.ringEnum arg own hops true) s fun t =>
      t = { s with out := s.out ++ [frame n] }) ∧
    (s.ringBypassed = false →
      (s.reg Reg.LRG_CRC_CNT ≠ 0xFFFFFFFF → Completes (.ringEnum arg own hops false) s fun t =>
        t.reg Reg.LRG_CRC_CNT = s.reg Reg.LRG_CRC_CNT + 1 ∧ t.flag Fld.LRG_STATUS_CRC = true ∧ t.sticky 500 = true ∧
        OnlyEv [wholeReg Reg.LRG_CRC_CNT, Fld.LRG_STATUS_CRC] s t) ∧
      (s.flag Fld.LRG_STATUS_HEAD = false → hops.toNat ≠ 63 → n ≤ 63 → Completes (.ringEnum arg own hops true) s fun t =>
        t.fld Fld.LRG_STATUS_NUM = n ∧ t.flag Fld.LRG_STATUS_ENUMERATED = true ∧ t.host.lastNum = n ∧ t.host.loadExp = 0 ∧
        t.out.getLast? = some (frame (n + 1))) ∧
      (s.flag Fld.LRG_STATUS_HEAD = true → own = true → s.host.enumSent = true → s.host.heldBar2 = [] → 1 ≤ n → n ≤ 64 →
        Completes (.ringEnum arg own hops true) s fun t =>
          t.fld Fld.LRG_STATUS_COUNT = n - 1 ∧ t.flag Fld.LRG_STATUS_ENUMERATED = true ∧ t.flag Fld.LRG_STATUS_ENUM_DONE = true ∧
          t.sticky 501 = true ∧ t.flag Fld.LRG_CTRL_ENUM = false ∧ t.host = { s.host with enumWait := false, enumSent := false }) ∧
      (s.flag Fld.LRG_STATUS_HEAD = true → own = false ∨ s.host.enumSent = false → Completes (.ringEnum arg own hops true) s fun t =>
        t.flag Fld.LRG_STATUS_CONFLICT = true ∧ t.sticky 502 = true ∧ OnlyEv [Fld.LRG_STATUS_CONFLICT] s t)) ∧
    (s.host.enumSent = true → s.host.heldBar2 = [] → Completes .enumTimeout s fun t =>
      t.flag Fld.LRG_STATUS_ENUMERATED = false ∧ t.flag Fld.LRG_STATUS_ENUM_FAIL = true ∧ t.sticky 502 = true ∧
      t.flag Fld.LRG_CTRL_ENUM = false ∧ t.host = { s.host with enumWait := false, enumSent := false })

/-- R573, R577 to R579: a request of the head reaches its device, which answers it with RSP, and any other device passes it on; the answer,
or the lack of one, completes the access of the host; an event of another device is queued at the head and sent as its vector; LOAD
frames carry the bytes written into the aperture, and a device that takes them appends them in order; LRG_EVTQ gives its oldest entry. -/
def Obligations.RingTraffic : Prop :=
  ∀ (mid : Mid) (hdr : RingHeader) (addr : BitVec 28) (off : BitVec 34) (value seq : Word32) (event : Fin 512) (sev : BitVec 2)
    (vec : Fin 64) (bytes : List Byte) (s : State),
    let up := s.ringBypassed = false ∧ s.devState = 0 ∧ hdr.bcast = false
    let mine := up ∧ s.ringMine hdr.dst false = true
    let held := Sparse.get [] s.ldr.stream 2
    (mine → s.awake addr.toNat →
      (addr.toNat % 4 = 0 → addr.toNat ≤ Reg.DEV_SCRATCH → Completes (.ringRd hdr addr true) s fun t =>
        t = { s with caller := .direct, done := { status := Code.ok, data := s.reg addr.toNat },
                     out := s.out ++ [.ringFrame 4 hdr.src (s.fld Fld.LRG_STATUS_NUM) false hdr.tag.toNat [(s.reg addr.toNat).toNat]] }) ∧
      (addr.toNat = Reg.DEV_SCRATCH → Completes (.ringWr hdr addr value true) s fun t =>
        t.reg Reg.DEV_SCRATCH = value ∧
        t.out = s.out ++ [.ringFrame 4 hdr.src (s.fld Fld.LRG_STATUS_NUM) false hdr.tag.toNat [0]] ∧
        Only [wholeReg Reg.DEV_SCRATCH] { s with caller := .direct } t)) ∧
    (up → s.ringMine hdr.dst false = false → hdr.hops.val ≠ 63 →
      (Completes (.ringRd hdr addr true) s fun t =>
        t = { s with out := s.out ++ [.ringFrame 2 hdr.dst hdr.src false hdr.tag.toNat [addr.toNat]] }) ∧
      (Completes (.ringWr hdr addr value true) s fun t =>
        t = { s with out := s.out ++ [.ringFrame 3 hdr.dst hdr.src false hdr.tag.toNat [addr.toNat, value.toNat]] })) ∧
    (∀ r b, s.host.reqs = [r] → s.host.bars = [b] → r.bar = b.id → b.parts = 1 → b.status = Code.ok → b.data = [] → b.write = false →
      r.write = none → s.host.heldBar2 = [] → s.host.enumWait = false →
      (mine → r.tag = hdr.tag.toNat → r.dst = hdr.src.val → Completes (.ringRsp hdr Code.ok value true) s fun t =>
        t = { s with host := { s.host with reqs := [], bars := [] }, caller := .direct, out := s.out ++ [.barData (bytesOf32 value)] }) ∧
      (r.tag = hdr.tag.toNat → Completes (.ringTimeout hdr.tag) s fun t =>
        t.flag Fld.LRG_STATUS_RTMO = true ∧ t.sticky 502 = true ∧ t.out.getLast? = some .completerAbort ∧ t.host.reqs = [] ∧
        t.host.bars = [] ∧ OnlyEv [Fld.LRG_STATUS_RTMO] { s with host := t.host, caller := .direct } t)) ∧
    (mine → s.flag Fld.LRG_STATUS_HEAD = true → s.host.evtq.length < 64 →
      (s.reg (Reg.HST_MSIX_TBL (4 * vec.val + 3))).getLsbD 0 = false → s.host.msixEnable = true → s.host.busMaster = true →
      Completes (.ringEvent hdr event sev vec true) s fun t =>
        t = { s with host := { s.host with evtq := s.host.evtq ++ [(hdr.src.val, sev.toNat, event.val)] }, out := s.out ++ [.msix vec.val] }) ∧
    (s.ringBypassed = false → s.flag Fld.LRG_STATUS_HEAD = false → s.takesLoad = true → hdr.hops.val ≠ 63 →
      (seq.toNat = s.host.loadExp → held.length + 128 ≤ 65536 → Completes (.ringLoad hdr seq bytes false true) s fun t =>
        Sparse.get [] t.ldr.stream 2 = held ++ bytes ∧
        t = { s with ldr := { s.ldr with stream := t.ldr.stream }, host := { s.host with loadExp := s.host.loadExp + 1 },
                     out := s.out ++ [.ringLoad seq.toNat bytes false] }) ∧
      (s.host.loadExp < seq.toNat ∨ (seq.toNat = s.host.loadExp ∧ 65536 < held.length + 128) →
        Completes (.ringLoad hdr seq bytes false true) s fun t => t = { s with out := s.out ++ [.ringLoad seq.toNat bytes true] })) ∧
    (s.awake 0x08210000 →
      (65536 < s.host.loadBuf.length + bytes.length → Completes (.lrgLoadWrite mid bytes) s fun t =>
        t = { s with done := { status := Code.ok, data := 0 } }) ∧
      (s.flag Fld.LRG_STATUS_HEAD = true → s.host.loadBuf = [] → bytes ≠ [] → bytes.length ≤ 128 → s.host.loadSent.length < 128 →
        Completes (.lrgLoadWrite mid bytes) s fun t =>
          t.out = s.out ++ [.ringLoad s.host.loadSeq bytes false] ∧ t.reg Reg.LRG_LOAD_FREE = 65536 ∧ t.done.status = Code.ok ∧
          Only [wholeReg Reg.LRG_LOAD_FREE]
            { s with host := { s.host with
              loadSeq := (s.host.loadSeq + 1) % 2 ^ 32, loadSent := s.host.loadSent ++ [(s.host.loadSeq, bytes)] } } t)) ∧
    (s.awake Reg.LRG_EVTQ → ∀ d v e rest, s.host.evtq = (d, v, e) :: rest → Completes (.lrgEvtqRead mid) s fun t =>
      t = { s with host := { s.host with evtq := rest },
                   done := { status := Code.ok, data := BitVec.ofNat 32 (2 ^ 31 + d * 2 ^ 24 + v * 2 ^ 16 + e) } }) ∧
    (s.flag Fld.HST_STATUS_LINK_UP = true → off.toNat % 4 = 0 → off.toNat / 2 ^ 28 ≠ 0 → s.host.heldBar2 = [] → s.ringHolds = false →
      s.ringNoDev (off.toNat / 2 ^ 28) = false → Completes (.memoryRead .ring off 4 []) s fun t =>
        t.host.reqs = s.host.reqs ++
          [{ tag := s.ringTag, dst := off.toNat / 2 ^ 28, addr := off.toNat % 2 ^ 28, write := none, bar := s.host.nextBar }] ∧
        t.out = s.out ++ [.ringFrame 2 (off.toNat / 2 ^ 28) 0 false s.ringTag [off.toNat % 2 ^ 28]] ∧ t.regs = s.regs)

/-! ## The block as a whole -/

/-- A step takes the command at the front of the queue and carries it out with the queue's rest; on an empty queue it is a cycle of the
step clock (DESIGN CHOICE, log entry 67). -/
def Obligations.StepTakesTheFront : Prop :=
  (∀ (c : Instr) (rest : List Instr) (s : State), s.pending = c :: rest → step s = exec c { s with pending := rest }) ∧
  (∀ s : State, s.pending = [] → step s = .next s.tick)

/-- R29, R344, R419, R472, R484, R514, R544 and the register tables: after reset the queue is empty, every register reads its reset value
(DEV_IDENT names the part, stepping B1), the raw counter is 0, no fuse is blown, every domain and the device are in RUN, the sequencer is
UNLOADED, the twin is unpaired, every task is dormant, every carrel slot is empty, and every memory lists nothing. -/
def Obligations.AfterReset : Prop :=
  let s := State.reset
  s.pending = [] ∧ (∀ a, s.reg a = Reg.resetOf a) ∧ s.fld Fld.DEV_IDENT_PART = 0x9640 ∧ s.count = 0 ∧ s.sec.therm = 0 ∧
  (∀ d < 88, s.domState d = 0) ∧ s.devState = 0 ∧ s.seqState = 0 ∧ s.twinMode = 0 ∧ s.flag Fld.TWN_STATUS_PAIRED = false ∧
  (∀ n, s.task n = Task.reset) ∧ (∀ c e, (s.slot c e).full = false ∧ (s.cEnd c e).epoch = 0) ∧
  s.hbm.words = [] ∧ s.lib.sram = [] ∧ s.arr.imem = [] ∧ Sparse.wf Reg.resetOf s.regs = true

/-- Every command has an effect in every state, so that every run goes on (R33 and the rules of each command): no command is refused,
and none stops the block. -/
def Obligations.EveryRunGoesOn : Prop :=
  (∀ (c : Instr) (s : State), ∃ t, exec c s = .next t ∧ t.pending = s.pending) ∧ (∀ s : State, Safe s) ∧
  (∀ s t : State, step s = .next t → t.pending = s.pending.tail)

/-- R419: the thermometer's value is one more than the index of the highest blown bit of its 64, and 0 when none is blown; whatever bits are
blown, no step of the block lets it fall, since no step unblows a bit. -/
def Obligations.ThermometerNeverFalls : Prop :=
  (∀ (s : State) (i : Nat), i < 64 →
    (s.thermValue = i + 1 ↔ s.sec.therm.getLsbD i = true ∧ ∀ j, i < j → j < 64 → s.sec.therm.getLsbD j = false)) ∧
  (∀ s : State, s.thermValue = 0 ↔ ∀ j < 64, s.sec.therm.getLsbD j = false) ∧
  (∀ s t : State, step s = .next t →
    (∀ i, s.sec.therm.getLsbD i = true → t.sec.therm.getLsbD i = true) ∧ s.thermValue ≤ t.thermValue)

/-- R14, R344: PORST_N and the power-on reset set the raw counter to 0; no other command changes it, in any state; it advances only with the
root clock, by the division of the step clock in a cycle of it, and holds while the root does not run. -/
def Obligations.RootCounter : Prop :=
  (∀ (c : Instr) (s t : State), exec c s = .next t →
    (c = .porstN ∨ c = .powerOnReset → t.clock.rootCnt = 0 ∧ t.count = 0) ∧
    (c ≠ .porstN → c ≠ .powerOnReset → t.clock.rootCnt = s.clock.rootCnt ∧ t.count = s.count)) ∧
  (∀ s : State,
    (s.clock.rpllOn = false → s.tick.clock.rootCnt = s.clock.rootCnt) ∧
    (s.flag Fld.CLK_STATUS_LOCK = false → s.flag Fld.CLK_STATUS_HOLDOVER = false → s.tick.clock.rootCnt = s.clock.rootCnt) ∧
    (s.clock.porst = false → s.clock.rpllOn = true → s.flag Fld.CLK_STATUS_LOCK = true ∨ s.flag Fld.CLK_STATUS_HOLDOVER = true →
      s.pwr.divider ≠ 0 → s.tick.clock.rootCnt = s.clock.rootCnt + s.pwr.divider) ∧
    s.count = s.clock.rootCnt / 4)

/-- R323, R453: the words of the HBM and of the SRAM change only by a command that stores: every other command leaves both as they were. -/
def Obligations.MemoriesKept : Prop :=
  ∀ (c : Instr) (s t : State), mayStore c = false → exec c s = .next t → t.hbm.words = s.hbm.words ∧ t.lib.sram = s.lib.sram

/-- R493: the sender's write of CRL_POST with WITHDRAW 1 empties its slot, stops its timer and gives the receiver a withdrawal doorbell; its
CODE is unchanged, and LEN and TAG are ignored; while the slot is empty it has no effect and completes with OK. -/
def Obligations.CarrelWithdrawal : Prop :=
  ∀ (mid : Mid) (c : Fin 32) (e : Nat) (v : Word32) (addr : BitVec 28) (s : State),
    addr.toNat = endWindow c 0x80 → v.getLsbD 31 = true → s.awake (endWindow c 0x80) → s.endOf c mid = some e →
    ∀ i : Instr, i = .crlWithdraw mid c ∨ i = .registerWrite mid addr v →
      ((s.slot c e).full = true → Completes i s fun t =>
        t.slot c e = { s.slot c e with full := false, timed := false } ∧ (t.cEnd c e).code = (s.cEnd c e).code ∧
        t.flag (if e = 0 then Fld.CRL_STAT_WDRAWN_B c else Fld.CRL_STAT_WDRAWN_A c) = true ∧ t.done.status = Code.ok ∧
        (Completes (.carrelTimeout c (e == 1)) t fun u => u = t)) ∧
      ((s.slot c e).full = false → Completes i s fun t => t = { s with done := { status := Code.ok, data := 0 } })
end

