-- ==== Sys2Proof/Laws/Kept.lean ====
section
/-! SUPPORT.  What a meaning keeps: the queue of commands, the fuses of the thermometer and the root counter, and with them the
words of the HBM and of the SRAM.  The lemmas of the other files of this name say it of every operation. -/

namespace Sys2Proof.Machine

/-- The queue, the fuses and the root counter of a state, and its memories. -/
def State.kept (s : State) : (List Instr × BitVec 64 × Nat) × (Pairs Word64 × Pairs Word32) :=
  ((s.pending, s.sec.therm, s.clock.rootCnt), (s.hbm.words, s.lib.sram))

/-- What the next state of an outcome keeps; none where the block stops. -/
def keptOf : Host.Outcome State Fault Refusal → Option ((List Instr × BitVec 64 × Nat) × (Pairs Word64 × Pairs Word32))
  | .next s => some s.kept
  | .fault _ => none
  | .refused _ => none

/-- The queue, the fuses and the root counter of an outcome's next state. -/
def queueOf : Host.Outcome State Fault Refusal → Option (List Instr × BitVec 64 × Nat)
  | .next s => some s.kept.1
  | .fault _ => none
  | .refused _ => none

@[simp] theorem keptOf_next (s : State) : keptOf (.next s) = some s.kept := rfl
@[simp] theorem queueOf_next (s : State) : queueOf (.next s) = some s.kept.1 := rfl
theorem queueOf_of_keptOf {o : Host.Outcome State Fault Refusal} {s : State} (h : keptOf o = some s.kept) :
    queueOf o = some s.kept.1 := by
  cases o <;> simp_all [keptOf, queueOf]
@[simp] theorem State.kept_fold1 (s : State) : (s.pending, s.sec.therm, s.clock.rootCnt) = s.kept.1 := rfl
@[simp] theorem State.kept_fold2 (s : State) : (s.hbm.words, s.lib.sram) = s.kept.2 := rfl
@[simp] theorem State.kept_mk x0 x1 x2 x3 x4 x5 x6 x7 x8 x9 x10 x11 x12 x13 x14 x15 x16 x17 x18 x19 x20 x21 x22 x23 x24 x25 :
    (State.mk x0 x1 x2 x3 x4 x5 x6 x7 x8 x9 x10 x11 x12 x13 x14 x15 x16 x17 x18 x19 x20 x21 x22 x23 x24 x25).kept =
      ((x0, x11.therm, x2.rootCnt), (x15.words, x5.sram)) := rfl
@[simp] theorem State.kept_ite (c : Prop) [Decidable c] (a b : State) : (if c then a else b).kept = if c then a.kept else b.kept := by
  split <;> rfl
@[simp] theorem kept_fst_ite (c : Prop) [Decidable c] (a b : (List Instr × BitVec 64 × Nat) × (Pairs Word64 × Pairs Word32)) :
    (if c then a else b).1 = if c then a.1 else b.1 := by
  split <;> rfl
@[simp] theorem keptOf_ite (c : Prop) [Decidable c] (a b : Host.Outcome State Fault Refusal) :
    keptOf (if c then a else b) = if c then keptOf a else keptOf b := by
  split <;> rfl
@[simp] theorem queueOf_ite (c : Prop) [Decidable c] (a b : Host.Outcome State Fault Refusal) :
    queueOf (if c then a else b) = if c then queueOf a else queueOf b := by
  split <;> rfl
@[simp] theorem State.foldl_kept {α : Type} (f : State → α → State) (l : List α) (s : State) (h : ∀ x b, (f x b).kept = x.kept) :
    (l.foldl f s).kept = s.kept := by
  induction l generalizing s with
  | nil => rfl
  | cons a r ih => rw [List.foldl_cons, ih, h]
@[simp] theorem State.foldl_kept1 {α : Type} (f : State → α → State) (l : List α) (s : State)
    (h : ∀ x b, (f x b).kept.1 = x.kept.1) : (l.foldl f s).kept.1 = s.kept.1 := by
  induction l generalizing s with
  | nil => rfl
  | cons a r ih => rw [List.foldl_cons, ih, h]
@[simp] theorem State.foldl_pair_kept {α β : Type} (f : β × State → α → β × State) (l : List α) (p : β × State)
    (h : ∀ x b, (f x b).2.kept = x.2.kept) : (l.foldl f p).2.kept = p.2.kept := by
  induction l generalizing p with
  | nil => rfl
  | cons a r ih => rw [List.foldl_cons, ih, h]

end Sys2Proof.Machine
end

