-- ==== Sys2Proof/Laws/Kept01.lean ====
section
/-! SUPPORT.  What the operations of the machine keep, part 1. -/

namespace Sys2Proof.Machine

@[simp] theorem State.setReg_kept (s : State) (a : Nat) (v : Word32) : (State.setReg s a v).kept = s.kept := by
  simp [State.setReg]
@[simp] theorem State.setFld_kept (s : State) (f : Field) (n : Nat) : (State.setFld s f n).kept = s.kept := by
  simp [State.setFld]
@[simp] theorem State.setFlag_kept (s : State) (f : Field) (b : Bool) : (State.setFlag s f b).kept = s.kept := by
  simp [State.setFlag]
@[simp] theorem State.countReg_kept (s : State) (a : Nat) : (State.countReg s a).kept = s.kept := by
  simp [State.countReg]
@[simp] theorem State.addReg_kept (s : State) (a n : Nat) : (State.addReg s a n).kept = s.kept := by
  simp [State.addReg]
@[simp] theorem State.setRegs_kept (s : State) (a : Nat) (l : List Word32) : (State.setRegs s a l).kept = s.kept := by
  induction l generalizing s a with
  | nil => rfl
  | cons x r ih => simp [State.setRegs, ih]
@[simp] theorem State.reply_kept (s : State) (code : Status) (data : Word32) : (State.reply s code data).kept = s.kept := by
  simp [State.reply]
@[simp] theorem State.emit_kept (s : State) (o : Output) : (State.emit s o).kept = s.kept := by
  simp [State.emit]
@[simp] theorem State.takeFree_kept (s : State) : (State.takeFree s).2.kept = s.kept := by
  simp [State.takeFree]
@[simp] theorem State.when_kept (s : State) (c : Bool) (f : State → State) (hf : ∀ x, (f x).kept = x.kept) : (State.when s c f).kept = s.kept := by
  unfold State.when
  (repeat' split) <;> simp [*]
@[simp] theorem State.when_kept1 (s : State) (c : Bool) (f : State → State) (hf : ∀ x, (f x).kept.1 = x.kept.1) : (State.when s c f).kept.1 = s.kept.1 := by
  unfold State.when
  (repeat' split) <;> simp [*]
@[simp] theorem State.ill_kept (s : State) : (State.ill s).kept = s.kept := by
  simp [State.ill]
@[simp] theorem State.exitSource_kept (s : State) (src idx : Nat) (enabled sleepOk deepOk : Bool) : (State.exitSource s src idx enabled sleepOk deepOk).kept = s.kept := by
  simp [State.exitSource]
@[simp] theorem State.takeClaim_kept (s : State) (mid : Mid) (cls idx : Nat) : (State.takeClaim s mid cls idx).kept = s.kept := by
  simp [State.takeClaim]
@[simp] theorem State.setTask_kept (s : State) (n : Nat) (t : Task) : (State.setTask s n t).kept = s.kept := by
  simp [State.setTask]
@[simp] theorem State.setRunning_kept (s : State) (k : Nat) (t : Option Nat) : (State.setRunning s k t).kept = s.kept := by
  simp [State.setRunning]
@[simp] theorem State.undelayTask_kept (s : State) (n : Nat) : (State.undelayTask s n).kept = s.kept := by
  simp [State.undelayTask]
@[simp] theorem State.timeoutMatched_kept (s : State) (n : Nat) : (State.timeoutMatched s n).kept = s.kept := by
  unfold State.timeoutMatched
  repeat' first
    | rfl
    | (simp [*]; done)
    | split
    | (simp only [apply_ite State.kept])
    | (refine (State.foldl_kept _ _ _ ?_).trans ?_)
    | intro _
@[simp] theorem State.dspSettle_kept (s : State) : (State.dspSettle s).kept = s.kept := by
  simp [State.dspSettle]
@[simp] theorem State.dspFlags_kept (s : State) (n : Nat) (bits : Word32) : (State.dspFlags s n bits).kept = s.kept := by
  simp [State.dspFlags]
@[simp] theorem State.stopTask_kept (s : State) (n : Nat) : (State.stopTask s n).kept = s.kept := by
  unfold State.stopTask
  split <;> simp
@[simp] theorem State.takeResult_kept (s : State) (k : Nat) (valid same expired resumed : Bool) (task : Nat) (flags : Word32) : (State.takeResult s k valid same expired resumed task flags).kept = s.kept := by
  simp [State.takeResult]
@[simp] theorem State.runTask_kept (s : State) (k n : Nat) : (State.runTask s k n).kept = s.kept := by
  simp [State.runTask]
@[simp] theorem State.preempt_kept (s : State) (n : Nat) : (State.preempt s n).kept = s.kept := by
  simp [State.preempt]
@[simp] theorem State.take_kept (s : State) (k : Nat) : (State.take s k).kept = s.kept := by
  unfold State.take
  split <;> simp
@[simp] theorem State.endRunning_kept (s : State) (k : Nat) : (State.endRunning s k).kept = s.kept := by
  unfold State.endRunning
  split <;> simp
@[simp] theorem State.expireTask_kept (s : State) (n : Nat) : (State.expireTask s n).kept = s.kept := by
  unfold State.expireTask
  split <;> simp
@[simp] theorem State.dspTick_kept (s : State) : s.dspTick.kept = s.kept := by
  simp only [State.dspTick, State.dspSettle_kept]
  rw [State.foldl_kept, State.foldl_kept]
  · intro x b; split <;> simp
  · intro x b; split
    · split <;> simp
    · rfl
@[simp] theorem State.dspClear_kept (s : State) : (State.dspClear s).kept = s.kept := by
  simp [State.dspClear]
@[simp] theorem State.cancelTask_kept (s : State) (n : Nat) : (State.cancelTask s n).kept = s.kept := by
  simp [State.cancelTask]
@[simp] theorem State.bindTask_kept (s : State) (n : Nat) (b : TaskBind) : (State.bindTask s n b).kept = s.kept := by
  simp [State.bindTask]
@[simp] theorem State.delayTask_kept (s : State) (n : Nat) (timeout : Bool) (count : Nat) : (State.delayTask s n timeout count).kept = s.kept := by
  simp [State.delayTask]
@[simp] theorem State.setSticky_kept (s : State) (n : Nat) : (State.setSticky s n).kept = s.kept := by
  simp [State.setSticky]
@[simp] theorem State.logPut_kept (s : State) (kind sev code mid : Nat) (payload : List Nat) : (State.logPut s kind sev code mid payload).kept = s.kept := by
  simp [State.logPut]
@[simp] theorem State.logDrop_kept (alarm : State → State) (s : State) (halarm : ∀ x, (alarm x).kept = x.kept) : (State.logDrop alarm s).kept = s.kept := by
  unfold State.logDrop
  (repeat' split) <;> simp [*]
@[simp] theorem State.logDrop_kept1 (alarm : State → State) (s : State) (halarm : ∀ x, (alarm x).kept.1 = x.kept.1) : (State.logDrop alarm s).kept.1 = s.kept.1 := by
  unfold State.logDrop
  (repeat' split) <;> simp [*]
@[simp] theorem State.logAppend_kept (alarm : State → State) (s : State) (kind sev code mid : Nat) (payload : List Nat) (halarm : ∀ x, (alarm x).kept = x.kept) : (State.logAppend alarm s kind sev code mid payload).kept = s.kept := by
  unfold State.logAppend
  (repeat' split) <;> simp [*]
@[simp] theorem State.logAppend_kept1 (alarm : State → State) (s : State) (kind sev code mid : Nat) (payload : List Nat) (halarm : ∀ x, (alarm x).kept.1 = x.kept.1) : (State.logAppend alarm s kind sev code mid payload).kept.1 = s.kept.1 := by
  unfold State.logAppend
  (repeat' split) <;> simp [*]
@[simp] theorem State.msixFire_kept (s : State) (vec : Nat) : (State.msixFire s vec).kept = s.kept := by
  simp [State.msixFire]
@[simp] theorem State.deliver_kept (s : State) (n : Nat) : (State.deliver s n).kept = s.kept := by
  simp [State.deliver]
@[simp] theorem State.raiseWith_kept (alarm : State → State) (s : State) (n : Nat) (halarm : ∀ x, (alarm x).kept = x.kept) : (State.raiseWith alarm s n).kept = s.kept := by
  unfold State.raiseWith
  (repeat' split) <;> simp [*]
@[simp] theorem State.raiseWith_kept1 (alarm : State → State) (s : State) (n : Nat) (halarm : ∀ x, (alarm x).kept.1 = x.kept.1) : (State.raiseWith alarm s n).kept.1 = s.kept.1 := by
  unfold State.raiseWith
  (repeat' split) <;> simp [*]
@[simp] theorem State.raiseDrop_kept (s : State) : (State.raiseDrop s).kept = s.kept := by
  simp [State.raiseDrop]
@[simp] theorem State.raise_kept (s : State) (n : Nat) : (State.raise s n).kept = s.kept := by
  simp [State.raise]
@[simp] theorem State.raiseBit_kept (s : State) (f : Field) (n : Nat) : (State.raiseBit s f n).kept = s.kept := by
  simp [State.raiseBit]
@[simp] theorem State.libRefuse_kept (s : State) : (State.libRefuse s).kept = s.kept := by
  simp [State.libRefuse]
@[simp] theorem State.claimRefuse_kept (s : State) : (State.claimRefuse s).kept = s.kept := by
  simp [State.claimRefuse]
@[simp] theorem State.assign_kept (s : State) (mid : Mid) (cls idx : Nat) (write : State → State) (hwrite : ∀ x, (write x).kept = x.kept) : (State.assign s mid cls idx write).kept = s.kept := by
  unfold State.assign
  (repeat' split) <;> simp [*]
@[simp] theorem State.assign_kept1 (s : State) (mid : Mid) (cls idx : Nat) (write : State → State) (hwrite : ∀ x, (write x).kept.1 = x.kept.1) : (State.assign s mid cls idx write).kept.1 = s.kept.1 := by
  unfold State.assign
  (repeat' split) <;> simp [*]
@[simp] theorem State.setPhysOf_kept (s : State) (v n : Nat) : (State.setPhysOf s v n).kept = s.kept := by
  simp [State.setPhysOf]
@[simp] theorem State.nodeRaise_kept (s : State) (f : Field) (n : Nat) : (State.nodeRaise s f n).kept = s.kept := by
  simp [State.nodeRaise]
@[simp] theorem State.setSlot_kept (s : State) (c e : Nat) (v : Slot) : (State.setSlot s c e v).kept = s.kept := by
  simp [State.setSlot]
@[simp] theorem State.setCEnd_kept (s : State) (c e : Nat) (v : CarrelEnd) : (State.setCEnd s c e v).kept = s.kept := by
  simp [State.setCEnd]
@[simp] theorem State.carrelBit_kept (s : State) (c bit : Nat) : (State.carrelBit s c bit).kept = s.kept := by
  simp [State.carrelBit]
@[simp] theorem State.carrelDeny_kept (s : State) (c : Nat) : (State.carrelDeny s c).kept = s.kept := by
  simp [State.carrelDeny]
@[simp] theorem State.wakeDomain_kept (s : State) (d src idx : Nat) : (State.wakeDomain s d src idx).kept = s.kept := by
  simp [State.wakeDomain]
@[simp] theorem State.doorbell_kept (s : State) (c e : Nat) (bits : List Nat) (flag : Option Nat) : (State.doorbell s c e bits flag).kept = s.kept := by
  unfold State.doorbell
  split <;> simp
@[simp] theorem State.resetEnd_kept (s : State) (c e : Nat) : (State.resetEnd s c e).kept = s.kept := by
  simp [State.resetEnd]
@[simp] theorem State.resetEndsOf_kept (s : State) (mid : Nat) : (State.resetEndsOf s mid).kept = s.kept := by
  simp [State.resetEndsOf]
@[simp] theorem State.carrelBind_kept (s : State) (mid : Mid) (c : Nat) (v : Word32) : (State.carrelBind s mid c v).kept = s.kept := by
  simp [State.carrelBind]
@[simp] theorem State.carrelTxd_kept (s : State) (mid : Mid) (c n : Nat) (v : Word32) : (State.carrelTxd s mid c n v).kept = s.kept := by
  unfold State.carrelTxd
  split <;> simp
@[simp] theorem State.carrelPost_kept (s : State) (mid : Mid) (c : Nat) (len : Nat) (tag : BitVec 16) : (State.carrelPost s mid c len tag).kept = s.kept := by
  unfold State.carrelPost
  split <;> simp
@[simp] theorem State.carrelWithdraw_kept (s : State) (mid : Mid) (c : Nat) : (State.carrelWithdraw s mid c).kept = s.kept := by
  unfold State.carrelWithdraw
  split <;> simp
@[simp] theorem State.carrelAck_kept (s : State) (mid : Mid) (c : Nat) (reply : BitVec 16) : (State.carrelAck s mid c reply).kept = s.kept := by
  unfold State.carrelAck
  split <;> simp
@[simp] theorem State.carrelEndReset_kept (s : State) (mid : Mid) (c : Nat) : (State.carrelEndReset s mid c).kept = s.kept := by
  unfold State.carrelEndReset
  split <;> simp
@[simp] theorem State.carrelTimeout_kept (s : State) (c e : Nat) : (State.carrelTimeout s c e).kept = s.kept := by
  simp [State.carrelTimeout]
@[simp] theorem State.carrelRead_kept (s : State) (mid : Mid) (c off : Nat) : (State.carrelRead s mid c off).kept = s.kept := by
  unfold State.carrelRead
  split <;> simp
@[simp] theorem State.lockViolation_kept (s : State) (a : Nat) : (State.lockViolation s a).kept = s.kept := by
  simp [State.lockViolation]
@[simp] theorem State.persist_kept (s : State) : (State.persist s).kept = s.kept := by
  simp [State.persist]
@[simp] theorem State.storeReg_kept (s : State) (a : Nat) (v : Word32) : (State.storeReg s a v).kept = s.kept := by
  unfold State.storeReg
  split <;> simp
@[simp] theorem State.loadReg_kept (s : State) (a : Nat) : (State.loadReg s a).kept = s.kept := by
  unfold State.loadReg
  split <;> simp
@[simp] theorem State.clearBits_kept (s : State) (a : Nat) (mask : Word32) : (State.clearBits s a mask).kept = s.kept := by
  unfold State.clearBits
  split <;> simp
@[simp] theorem State.clearRecord_kept (s : State) (r : RecordId) : (State.clearRecord s r).kept = s.kept := by
  simp [State.clearRecord]
@[simp] theorem execLockBlock_kept (mid : Mid) (blk : LockBlock) (s : State) : keptOf (execLockBlock mid blk s) = some s.kept := by
  unfold execLockBlock
  split <;> simp
@[simp] theorem execRecordClear_kept (_mid : Mid) (rec : RecordId) (s : State) : keptOf (execRecordClear _mid rec s) = some s.kept := by
  simp [execRecordClear]
@[simp] theorem State.setPeriodRegs_kept (s : State) (p : Nat) : (State.setPeriodRegs s p).kept = s.kept := by
  simp [State.setPeriodRegs]
@[simp] theorem State.setPeriod_kept (s : State) (p : Nat) : (State.setPeriod s p).kept = s.kept := by
  simp [State.setPeriod]
@[simp] theorem State.retick_kept (s : State) : (State.retick s).kept = s.kept := by
  simp [State.retick]
@[simp] theorem State.tuWrite_kept (s : State) (mid : Mid) (f : State → State) (hf : ∀ x, (f x).kept = x.kept) : (State.tuWrite s mid f).kept = s.kept := by
  unfold State.tuWrite
  (repeat' split) <;> simp [*]
@[simp] theorem State.tuWrite_kept1 (s : State) (mid : Mid) (f : State → State) (hf : ∀ x, (f x).kept.1 = x.kept.1) : (State.tuWrite s mid f).kept.1 = s.kept.1 := by
  unfold State.tuWrite
  (repeat' split) <;> simp [*]
@[simp] theorem State.tuLatch_kept (s : State) : (State.tuLatch s).kept = s.kept := by
  simp [State.tuLatch]
@[simp] theorem State.tuSetTime_kept (s : State) : (State.tuSetTime s).kept = s.kept := by
  simp [State.tuSetTime]
@[simp] theorem State.tuStepTime_kept (s : State) : (State.tuStepTime s).kept = s.kept := by
  simp [State.tuStepTime]
@[simp] theorem State.tuConvert_kept (s : State) : (State.tuConvert s).kept = s.kept := by
  simp [State.tuConvert]
@[simp] theorem State.tuHoldover_kept (s : State) : (State.tuHoldover s).kept = s.kept := by
  simp [State.tuHoldover]
@[simp] theorem State.tuCommand_kept (s : State) (code : Nat) : (State.tuCommand s code).kept = s.kept := by
  unfold State.tuCommand
  split <;> simp
@[simp] theorem State.servoStep_kept (s : State) (e : Int) : (State.servoStep s e).kept = s.kept := by
  simp [State.servoStep]
@[simp] theorem State.servoSlew_kept (s : State) (e : Int) : (State.servoSlew s e).kept = s.kept := by
  simp [State.servoSlew]
@[simp] theorem State.servoLock_kept (s : State) (e : Int) : (State.servoLock s e).kept = s.kept := by
  simp [State.servoLock]
@[simp] theorem State.servoCommit_kept (s : State) (hi : Word32) : (State.servoCommit s hi).kept = s.kept := by
  simp [State.servoCommit]
@[simp] theorem State.pnomCommit_kept (s : State) (hi : Word32) : (State.pnomCommit s hi).kept = s.kept := by
  unfold State.pnomCommit
  repeat' first
    | rfl
    | (simp; done)
    | split
    | (refine (State.foldl_kept _ _ _ ?_).trans ?_)
    | intro _
@[simp] theorem State.armTc_kept (s : State) (n : Nat) : (State.armTc s n).kept = s.kept := by
  simp [State.armTc]
@[simp] theorem State.disarmTc_kept (s : State) (n : Nat) : (State.disarmTc s n).kept = s.kept := by
  simp [State.disarmTc]
@[simp] theorem State.tcCtrl_kept (s : State) (n : Nat) (v : Word32) : (State.tcCtrl s n v).kept = s.kept := by
  simp [State.tcCtrl]
@[simp] theorem State.fireTc_kept (s : State) (n : Nat) : (State.fireTc s n).kept = s.kept := by
  unfold State.fireTc
  split <;> simp
@[simp] theorem State.tcWrite_kept (s : State) (mid : Mid) (n : Nat) (f : State → State) (hf : ∀ x, (f x).kept = x.kept) : (State.tcWrite s mid n f).kept = s.kept := by
  unfold State.tcWrite
  (repeat' split) <;> simp [*]
@[simp] theorem State.tcWrite_kept1 (s : State) (mid : Mid) (n : Nat) (f : State → State) (hf : ∀ x, (f x).kept.1 = x.kept.1) : (State.tcWrite s mid n f).kept.1 = s.kept.1 := by
  unfold State.tcWrite
  (repeat' split) <;> simp [*]
@[simp] theorem State.tuRegWrite_kept (s : State) (mid : Mid) (a : Nat) (v : Word32) : (State.tuRegWrite s mid a v).kept = s.kept := by
  simp [State.tuRegWrite]
@[simp] theorem State.tuRegRead_kept (s : State) (a : Nat) : (State.tuRegRead s a).kept = s.kept := by
  simp [State.tuRegRead]
@[simp] theorem execTuRawLoRead_kept (_mid : Mid) (s : State) : keptOf (execTuRawLoRead _mid s) = some s.kept := by
  simp [execTuRawLoRead]
@[simp] theorem execTuSet_kept (mid : Mid) (s : State) : keptOf (execTuSet mid s) = some s.kept := by
  simp [execTuSet]
@[simp] theorem execTuStep_kept (mid : Mid) (s : State) : keptOf (execTuStep mid s) = some s.kept := by
  simp [execTuStep]
@[simp] theorem execTuConv_kept (mid : Mid) (s : State) : keptOf (execTuConv mid s) = some s.kept := by
  simp [execTuConv]
@[simp] theorem execTuHold_kept (mid : Mid) (s : State) : keptOf (execTuHold mid s) = some s.kept := by
  simp [execTuHold]
@[simp] theorem execServoMeasurement_kept (mid : Mid) (hi : Word32) (s : State) : keptOf (execServoMeasurement mid hi s) = some s.kept := by
  simp [execServoMeasurement]
@[simp] theorem execHoldoverTimeout_kept (s : State) : keptOf (execHoldoverTimeout s) = some s.kept := by
  simp [execHoldoverTimeout]
@[simp] theorem execPnomCommit_kept (mid : Mid) (hi : Word32) (s : State) : keptOf (execPnomCommit mid hi s) = some s.kept := by
  simp [execPnomCommit]
@[simp] theorem execTcArm_kept (mid : Mid) (tc : Fin 16) (s : State) : keptOf (execTcArm mid tc s) = some s.kept := by
  simp [execTcArm]
@[simp] theorem execTcDisarm_kept (mid : Mid) (tc : Fin 16) (s : State) : keptOf (execTcDisarm mid tc s) = some s.kept := by
  simp [execTcDisarm]
@[simp] theorem execPulseEnd_kept (tc : Fin 16) (s : State) : keptOf (execPulseEnd tc s) = some s.kept := by
  simp [execPulseEnd]
@[simp] theorem execDispatcherTick_kept (s : State) : keptOf (execDispatcherTick s) = some s.kept := by
  simp [execDispatcherTick]
@[simp] theorem execDelayExpiry_kept (task : Fin 64) (s : State) : keptOf (execDelayExpiry task s) = some s.kept := by
  unfold execDelayExpiry
  split <;> simp
@[simp] theorem State.writeError_kept (s : State) (bar offset : Nat) (code : Status) : (State.writeError s bar offset code).kept = s.kept := by
  simp [State.writeError]
@[simp] theorem State.abortRead_kept (s : State) (bar offset : Nat) : (State.abortRead s bar offset).kept = s.kept := by
  simp [State.abortRead]
@[simp] theorem State.barDone_kept (s : State) (b : BarReq) : (State.barDone s b).kept = s.kept := by
  simp [State.barDone]
@[simp] theorem State.barPart_kept (s : State) (id : Nat) (code : Status) (data : List Byte) : (State.barPart s id code data).kept = s.kept := by
  unfold State.barPart
  split <;> simp
@[simp] theorem State.sendFlight_kept (s : State) (node : Nat) (p : Packet) : (State.sendFlight s node p).kept = s.kept := by
  simp [State.sendFlight]
@[simp] theorem State.dropFlight_kept (s : State) (id : Nat) : (State.dropFlight s id).kept = s.kept := by
  simp [State.dropFlight]
@[simp] theorem State.endPacket_kept (s : State) (id node : Nat) (p : Packet) (code : Status) (data : List (BitVec 256)) : (State.endPacket s id node p code data).kept = s.kept := by
  simp [State.endPacket]
@[simp] theorem State.answerPacket_kept (s : State) (id : Nat) (code : Status) : (State.answerPacket s id code).kept = s.kept := by
  unfold State.answerPacket
  split <;> simp
@[simp] theorem State.finish_kept (s : State) (o : Origin) (code : Status) (data : List Byte) : (State.finish s o code data).kept = s.kept := by
  unfold State.finish
  split <;> simp
@[simp] theorem State.finishReg_kept (s : State) (o : Origin) : (State.finishReg s o).kept = s.kept := by
  simp [State.finishReg]
@[simp] theorem State.answerReq_kept (s : State) (h : HeldReq) (code : Status) : (State.answerReq s h code).kept = s.kept := by
  unfold State.answerReq
  split <;> simp
@[simp] theorem State.access_kept (s : State) (o : Origin) (f : State → State) (hf : ∀ x, (f x).kept = x.kept) : (State.access s o f).kept = s.kept := by
  unfold State.access
  (repeat' split) <;> simp [*]
@[simp] theorem State.access_kept1 (s : State) (o : Origin) (f : State → State) (hf : ∀ x, (f x).kept.1 = x.kept.1) : (State.access s o f).kept.1 = s.kept.1 := by
  unfold State.access
  (repeat' split) <;> simp [*]
@[simp] theorem State.pwrRefuse_kept (s : State) (cause : Nat) : (State.pwrRefuse s cause).kept = s.kept := by
  simp [State.pwrRefuse]
@[simp] theorem State.fence_kept (s : State) (d : Nat) (on : Bool) : (State.fence s d on).kept = s.kept := by
  simp [State.fence]
@[simp] theorem State.startShutdown_kept (s : State) (d : Nat) : (State.startShutdown s d).kept = s.kept := by
  simp [State.startShutdown]
@[simp] theorem State.domainOff_kept (s : State) (d : Nat) : (State.domainOff s d).kept = s.kept := by
  simp [State.domainOff]
@[simp] theorem State.domainOnReq_kept (s : State) (mid : Mid) (d : Nat) : (State.domainOnReq s mid d).kept = s.kept := by
  unfold State.domainOnReq
  repeat' first
    | rfl
    | (simp [*]; done)
    | split
    | (simp only [apply_ite State.kept])
    | (refine (State.foldl_kept _ _ _ ?_).trans ?_)
    | intro _
@[simp] theorem State.dctlWrite_kept (s : State) (mid : Mid) (d : Nat) (v : Word32) : (State.dctlWrite s mid d v).kept = s.kept := by
  simp [State.dctlWrite]
@[simp] theorem State.answerHeld_kept (s : State) (d : Nat) (code : Status) (f : Nat → Field) : (State.answerHeld s d code f).kept = s.kept := by
  simp [State.answerHeld]
@[simp] theorem State.holdAt_kept (s : State) (h : HeldReq) : (State.holdAt s h).kept = s.kept := by
  simp [State.holdAt]
@[simp] theorem State.firstAccess_kept (s : State) (mid : Mid) (d : Nat) (access : HeldAccess) : (State.firstAccess s mid d access).kept = s.kept := by
  simp [State.firstAccess]
@[simp] theorem State.gate_kept (s : State) (mid : Mid) (a : Nat) (write : Option Word32) (f : State → State) (hf : ∀ x, (f x).kept = x.kept) : (State.gate s mid a write f).kept = s.kept := by
  unfold State.gate
  (repeat' split) <;> simp [*]
@[simp] theorem State.gate_kept1 (s : State) (mid : Mid) (a : Nat) (write : Option Word32) (f : State → State) (hf : ∀ x, (f x).kept.1 = x.kept.1) : (State.gate s mid a write f).kept.1 = s.kept.1 := by
  unfold State.gate
  (repeat' split) <;> simp [*]
@[simp] theorem State.resetRegsOf_kept (s : State) (inDomain : Nat → Bool) : (State.resetRegsOf s inDomain).kept = s.kept := by
  unfold State.resetRegsOf
  repeat' first
    | rfl
    | (simp; done)
    | split
    | (refine (State.foldl_kept _ _ _ ?_).trans ?_)
    | intro _
@[simp] theorem State.toRun_kept (s : State) (d : Nat) : (State.toRun s d).kept = s.kept := by
  simp [State.toRun]
@[simp] theorem State.stackOff_kept (s : State) (d : Nat) : (State.stackOff s d).kept = s.kept := by
  simp [State.stackOff]
@[simp] theorem State.reachOff_kept (s : State) (d : Nat) : (State.reachOff s d).kept = s.kept := by
  unfold State.reachOff
  repeat' first
    | rfl
    | (simp [*]; done)
    | split
    | (simp only [apply_ite State.kept])
    | (refine (State.foldl_kept _ _ _ ?_).trans ?_)
    | intro _
@[simp] theorem State.enterStanding_kept (s : State) (st : Nat) : (State.enterStanding s st).kept = s.kept := by
  unfold State.enterStanding
  repeat' first
    | rfl
    | (simp; done)
    | split
    | (refine (State.foldl_kept _ _ _ ?_).trans ?_)
    | intro _
@[simp] theorem State.entered_kept (s : State) (st : Nat) : (State.entered s st).kept = s.kept := by
  simp [State.entered]
@[simp] theorem State.stateRequest_kept (s : State) (mid : Mid) (st : Nat) : (State.stateRequest s mid st).kept = s.kept := by
  unfold State.stateRequest
  split <;> simp
@[simp] theorem State.pwrRegWrite_kept (s : State) (mid : Mid) (a : Nat) (v : Word32) : (State.pwrRegWrite s mid a v).kept = s.kept := by
  unfold State.pwrRegWrite
  (repeat' split) <;> simp
@[simp] theorem State.pwrRegRead_kept (s : State) (a : Nat) : (State.pwrRegRead s a).kept = s.kept := by
  unfold State.pwrRegRead
  split <;> simp
@[simp] theorem execDomainShutdown_kept (mid : Mid) (dom : Fin 88) (s : State) : keptOf (execDomainShutdown mid dom s) = some s.kept := by
  simp [execDomainShutdown]
@[simp] theorem execDomainEnable_kept (mid : Mid) (dom : Fin 88) (s : State) : keptOf (execDomainEnable mid dom s) = some s.kept := by
  simp [execDomainEnable]
@[simp] theorem execFirstAccess_kept (mid : Mid) (dom : Fin 88) (s : State) : keptOf (execFirstAccess mid dom s) = some s.kept := by
  simp [execFirstAccess]
@[simp] theorem execDrainComplete_kept (dom : Fin 88) (s : State) : keptOf (execDrainComplete dom s) = some s.kept := by
  simp [execDrainComplete]
@[simp] theorem execSwitchOpen_kept (dom : Fin 88) (s : State) : keptOf (execSwitchOpen dom s) = some s.kept := by
  simp [execSwitchOpen]
@[simp] theorem execWakeFail_kept (dom : Fin 88) (s : State) : keptOf (execWakeFail dom s) = some s.kept := by
  simp [execWakeFail]
@[simp] theorem execPwrRun_kept (mid : Mid) (s : State) : keptOf (execPwrRun mid s) = some s.kept := by
  simp [execPwrRun]
@[simp] theorem execPwrIdle_kept (mid : Mid) (s : State) : keptOf (execPwrIdle mid s) = some s.kept := by
  simp [execPwrIdle]
@[simp] theorem execPwrSleep_kept (mid : Mid) (s : State) : keptOf (execPwrSleep mid s) = some s.kept := by
  simp [execPwrSleep]
@[simp] theorem execPwrDeep_kept (mid : Mid) (s : State) : keptOf (execPwrDeep mid s) = some s.kept := by
  simp [execPwrDeep]
@[simp] theorem execPwrOff_kept (mid : Mid) (s : State) : keptOf (execPwrOff mid s) = some s.kept := by
  simp [execPwrOff]
@[simp] theorem execStateEntered_kept (s : State) : keptOf (execStateEntered s) = some s.kept := by
  simp [execStateEntered]
@[simp] theorem State.setHbmWord_kept (s : State) (w : Nat) (v : Word64) : (State.setHbmWord s w v).kept.1 = s.kept.1 := by
  simp [State.setHbmWord]
@[simp] theorem State.setHbmByte_kept (s : State) (a : Nat) (v : Byte) : (State.setHbmByte s a v).kept.1 = s.kept.1 := by
  simp [State.setHbmByte]
@[simp] theorem State.setHbmBytes_kept (s : State) (a : Nat) (l : List Byte) : (State.setHbmBytes s a l).kept.1 = s.kept.1 := by
  induction l generalizing s a with
  | nil => rfl
  | cons x r ih =>
    unfold State.setHbmBytes
    rw [ih]
    simp
@[simp] theorem State.hbmConditions_kept (s : State) (mid : Mid) (a n : Nat) (write : Bool) (held : Bool) : (State.hbmConditions s mid a n write held).1.kept = s.kept := by
  unfold State.hbmConditions
  repeat' first
    | rfl
    | (simp [*]; done)
    | split
    | (simp only [apply_ite State.kept])
    | (refine (State.foldl_kept _ _ _ ?_).trans ?_)
    | intro _
@[simp] theorem State.hbmEcc_kept (s : State) (mid : Mid) (a : Nat) (e : EccFind) : (s.hbmEcc mid a e).1.kept = s.kept := by
  cases e <;> simp [State.hbmEcc]
@[simp] theorem State.hbmRead_kept (s : State) (mid : Mid) (a n : Nat) (ecc : EccFind) (held : Bool) :
    (s.hbmRead mid a n ecc held).1.kept = s.kept := by
  have hc := State.hbmConditions_kept s mid a n false held
  simp only [State.hbmRead]
  split
  · rename_i h; rw [h] at hc; exact hc
  · rename_i s1 h; rw [h] at hc
    have he := State.hbmEcc_kept s1 mid a ecc
    split <;> (rename_i g; rw [g] at he; simp_all)
@[simp] theorem State.hbmStore_kept (s : State) (a : Nat) (l : List (Byte × Bool)) : (State.hbmStore s a l).kept.1 = s.kept.1 := by
  induction l generalizing s a with
  | nil => rfl
  | cons x r ih =>
    unfold State.hbmStore
    rw [ih]
    simp
@[simp] theorem State.twinLog_kept (s : State) (w0 w1 : Word64) : (State.twinLog s w0 w1).kept = s.kept := by
  simp [State.twinLog]
@[simp] theorem State.twinMirror_kept (s : State) (mid : Mid) (a n : Nat) : (State.twinMirror s mid a n).kept = s.kept := by
  simp [State.twinMirror]
@[simp] theorem State.hbmWrite_kept (s : State) (mid : Mid) (a : Nat) (bytes : List (Byte × Bool)) (ecc : EccFind) (held : Bool) :
    (s.hbmWrite mid a bytes ecc held).1.kept.1 = s.kept.1 := by
  have hc := State.hbmConditions_kept s mid a bytes.length true held
  simp only [State.hbmWrite]
  split
  · rename_i h; rw [h] at hc; simp at hc; simp [hc]
  · rename_i s1 h; rw [h] at hc; simp at hc
    split
    · simp [hc]
    · split
      · simp [hc]
      · have he := State.hbmEcc_kept s1 mid a ecc
        split <;> (rename_i g; rw [g] at he; simp at he; simp [he, hc])
@[simp] theorem State.setOwn_kept (s : State) (b : Bool) : (State.setOwn s b).kept = s.kept := by
  simp [State.setOwn]
@[simp] theorem State.setMode_kept (s : State) (m : Nat) : (State.setMode s m).kept = s.kept := by
  simp [State.setMode]
@[simp] theorem State.rsClear_kept (s : State) : (State.rsClear s).kept = s.kept := by
  simp [State.rsClear]
@[simp] theorem State.rsFail_kept (s : State) (cause : Nat) : (State.rsFail s cause).kept = s.kept := by
  simp [State.rsFail]
@[simp] theorem State.sendEnd_kept (s : State) : (State.sendEnd s).kept = s.kept := by
  simp [State.sendEnd]
@[simp] theorem State.sendFail_kept (s : State) (cause : Nat) : (State.sendFail s cause).kept = s.kept := by
  simp [State.sendFail]
@[simp] theorem State.twinLost_kept (s : State) : (State.twinLost s).kept = s.kept := by
  simp [State.twinLost]
@[simp] theorem State.mirrorDown_kept (s : State) : (State.mirrorDown s).kept = s.kept := by
  simp [State.mirrorDown]
@[simp] theorem State.noteSlot_kept (s : State) (n f k : Nat) (word : Word64) : (State.noteSlot s n f k word).kept = s.kept := by
  unfold State.noteSlot
  (repeat' split) <;> simp
@[simp] theorem State.noteMem_kept (s : State) (n m w data : Nat) : (State.noteMem s n m w data).kept = s.kept := by
  unfold State.noteMem
  (repeat' split) <;> simp
@[simp] theorem State.countCorrection_kept (s : State) (loc sorus : Nat) : (State.countCorrection s loc sorus).kept = s.kept := by
  simp [State.countCorrection]
@[simp] theorem State.cleanCheck_kept (s : State) (loc : Nat) : (State.cleanCheck s loc).kept = s.kept := by
  simp [State.cleanCheck]
@[simp] theorem State.upset_kept (s : State) (u : Upset) : (State.upset s u).kept = s.kept := by
  simp [State.upset]
@[simp] theorem State.wordError_kept (s : State) (target n f b w : Nat) (kind : EccKind) : (State.wordError s target n f b w kind).kept = s.kept := by
  unfold State.wordError
  split <;> simp
@[simp] theorem State.setImem_kept (s : State) (loc : Nat) (v : BitVec 72) : (State.setImem s loc v).kept = s.kept := by
  simp [State.setImem]
@[simp] theorem State.writeSlot_kept (s : State) (n f b k : Nat) (v : Bool) : (State.writeSlot s n f b k v).kept = s.kept := by
  simp [State.writeSlot]
@[simp] theorem State.setPort_kept (s : State) (n i : Nat) (v : Bool) : (State.setPort s n i v).kept = s.kept := by
  simp [State.setPort]
@[simp] theorem State.landOn_kept (s : State) (n : Nat) (value : PortSrc → Option Bool) : (s.landOn n value).kept = s.kept := by
  refine State.foldl_kept _ _ _ fun x b => ?_
  split <;> simp
@[simp] theorem State.landMem_kept (s : State) (n index : Nat) (pageB : Bool) : (State.landMem s n index pageB).kept = s.kept := by
  unfold State.landMem
  repeat' first
    | rfl
    | (simp; done)
    | split
    | (refine (State.foldl_kept _ _ _ ?_).trans ?_)
    | intro _
@[simp] theorem State.landGroup_kept (s : State) (n g : Nat) (mask bits : Word64) (tag : Option (BitVec 8)) : (State.landGroup s n g mask bits tag).kept = s.kept := by
  simp [State.landGroup]
@[simp] theorem State.landLane_kept (s : State) (n lane : Nat) (word : Word64) (valid : Bool) : (State.landLane s n lane word valid).kept = s.kept := by
  simp [State.landLane]
@[simp] theorem State.fault_kept (s : State) (n cause f b field value : Nat) : (State.fault s n cause f b field value).kept = s.kept := by
  simp [State.fault]
@[simp] theorem State.bpFault_kept (s : State) (n cause f b field value : Nat) : (State.bpFault s n cause f b field value).kept = s.kept := by
  simp [State.bpFault]
@[simp] theorem State.recordFault_kept (s : State) (r : FaultRec) : (State.recordFault s r).kept = s.kept := by
  simp [State.recordFault]
@[simp] theorem State.flushFaults_kept (s : State) : (State.flushFaults s).kept = s.kept := by
  simp [State.flushFaults]
@[simp] theorem State.operandFaults_kept (s : State) (n f b field sel : Nat) (o : Operand) : (State.operandFaults s n f b field sel o).kept = s.kept := by
  simp [State.operandFaults]
@[simp] theorem State.readOperand_kept (s : State) (n f b field sel : Nat) : (State.readOperand s n f b field sel).2.kept = s.kept := by
  simp [State.readOperand]
@[simp] theorem State.truth_kept (s : State) (n f b : Nat) (i : Insn) : (State.truth s n f b i).2.kept = s.kept := by
  simp [State.truth]
@[simp] theorem State.drive_kept (s : State) (n f wire b : Nat) (v : Bool) (dst : Nat) : (State.drive s n f wire b v dst).kept = s.kept := by
  simp [State.drive]
@[simp] theorem State.slotWrite_kept (s : State) (n f b k : Nat) (v : Bool) : (State.slotWrite s n f b k v).kept = s.kept := by
  simp [State.slotWrite]
@[simp] theorem State.markRan_kept (s : State) (n f b : Nat) : (State.markRan s n f b).kept = s.kept := by
  unfold State.markRan
  split <;> simp
@[simp] theorem State.doEval_kept (s : State) (n f b : Nat) (i : Insn) : (State.doEval s n f b i).kept = s.kept := by
  simp [State.doEval]
@[simp] theorem State.doEvalx_kept (s : State) (n f b : Nat) (i : Insn) : (State.doEvalx s n f b i).kept = s.kept := by
  unfold State.doEvalx
  split <;> simp
@[simp] theorem State.doMrd_kept (s : State) (n f b : Nat) (i : Insn) : (State.doMrd s n f b i).kept = s.kept := by
  simp [State.doMrd]
@[simp] theorem State.doMwr_kept (s : State) (n f b : Nat) (i : Insn) : (State.doMwr s n f b i).kept = s.kept := by
  simp [State.doMwr]
@[simp] theorem State.doPort_kept (s : State) (n f b : Nat) (i : Insn) : (State.doPort s n f b i).kept = s.kept := by
  unfold State.doPort
  split <;> simp
@[simp] theorem State.doProbe_kept (s : State) (n f b : Nat) (i : Insn) : (State.doProbe s n f b i).kept = s.kept := by
  simp [State.doProbe]
@[simp] theorem State.doBarrier_kept (s : State) (n f b : Nat) (i : Insn) : (State.doBarrier s n f b i).kept = s.kept := by
  simp [State.doBarrier]
@[simp] theorem State.doIllOp_kept (s : State) (n f b : Nat) (i : Insn) : (State.doIllOp s n f b i).kept = s.kept := by
  simp [State.doIllOp]
@[simp] theorem gangRead_kept (n f : Nat) (g : Gang) (field : Nat) (sel : Insn → Nat) (r : Nat × State) :
    (gangRead n f g field sel r).2.kept = r.2.kept := by
  refine State.foldl_pair_kept _ _ _ fun x b => ?_
  simp
@[simp] theorem gangCarry_kept (n f : Nat) (g : Gang) (s : State) : (gangCarry n f g s).2.kept = s.kept := by
  unfold gangCarry
  split <;> simp
@[simp] theorem State.doGang_kept (s : State) (n f : Nat) (g : Gang) : (s.doGang n f g).kept = s.kept := by
  unfold State.doGang
  dsimp only
  split
  · simp
  · split <;> simp
@[simp] theorem State.runBp_kept (s : State) (n f b : Nat) : (State.runBp s n f b).kept = s.kept := by
  unfold State.runBp
  repeat' first
    | rfl
    | (simp [*]; done)
    | split
    | (simp only [apply_ite State.kept])
    | (refine (State.foldl_kept _ _ _ ?_).trans ?_)
    | intro _
@[simp] theorem State.runOp_kept (s : State) (p : BpId) (ok : Nat → Bool) : (State.runOp s p ok).kept = s.kept := by
  simp [State.runOp]
@[simp] theorem State.runGang_kept (s : State) (p : BpId) (ok : Nat → Bool) : (State.runGang s p ok).kept = s.kept := by
  simp [State.runGang]
@[simp] theorem execBpNop_kept (bp : BpId) (s : State) : keptOf (execBpNop bp s) = some s.kept := by
  simp [execBpNop]
@[simp] theorem execBpEval_kept (bp : BpId) (s : State) : keptOf (execBpEval bp s) = some s.kept := by
  simp [execBpEval]
@[simp] theorem execBpEvalx_kept (bp : BpId) (s : State) : keptOf (execBpEvalx bp s) = some s.kept := by
  simp [execBpEvalx]
@[simp] theorem execGangAdd_kept (bp : BpId) (s : State) : keptOf (execGangAdd bp s) = some s.kept := by
  simp [execGangAdd]
@[simp] theorem execGangSub_kept (bp : BpId) (s : State) : keptOf (execGangSub bp s) = some s.kept := by
  simp [execGangSub]
@[simp] theorem execGangCmplt_kept (bp : BpId) (s : State) : keptOf (execGangCmplt bp s) = some s.kept := by
  simp [execGangCmplt]
@[simp] theorem execGangCmple_kept (bp : BpId) (s : State) : keptOf (execGangCmple bp s) = some s.kept := by
  simp [execGangCmple]
@[simp] theorem execGangCmpeq_kept (bp : BpId) (s : State) : keptOf (execGangCmpeq bp s) = some s.kept := by
  simp [execGangCmpeq]
@[simp] theorem execGangMin_kept (bp : BpId) (s : State) : keptOf (execGangMin bp s) = some s.kept := by
  simp [execGangMin]
@[simp] theorem execGangMax_kept (bp : BpId) (s : State) : keptOf (execGangMax bp s) = some s.kept := by
  simp [execGangMax]
@[simp] theorem execGangAbsdiff_kept (bp : BpId) (s : State) : keptOf (execGangAbsdiff bp s) = some s.kept := by
  simp [execGangAbsdiff]
@[simp] theorem execBpMrd_kept (bp : BpId) (s : State) : keptOf (execBpMrd bp s) = some s.kept := by
  simp [execBpMrd]
@[simp] theorem execBpMwr_kept (bp : BpId) (s : State) : keptOf (execBpMwr bp s) = some s.kept := by
  simp [execBpMwr]
@[simp] theorem execBpPort_kept (bp : BpId) (s : State) : keptOf (execBpPort bp s) = some s.kept := by
  simp [execBpPort]
@[simp] theorem execBpProbe_kept (bp : BpId) (s : State) : keptOf (execBpProbe bp s) = some s.kept := by
  simp [execBpProbe]
@[simp] theorem execBpBarrier_kept (bp : BpId) (s : State) : keptOf (execBpBarrier bp s) = some s.kept := by
  simp [execBpBarrier]
@[simp] theorem execBpIllOp_kept (bp : BpId) (s : State) : keptOf (execBpIllOp bp s) = some s.kept := by
  simp [execBpIllOp]
@[simp] theorem State.checkBank_kept (s : State) (b : Nat) : (State.checkBank s b).kept = s.kept := by
  simp [State.checkBank]
@[simp] theorem State.sampleBalls_kept (s : State) : (State.sampleBalls s).kept = s.kept := by
  simp [State.sampleBalls]
@[simp] theorem State.loadPin_kept (s : State) (i : Nat) : (State.loadPin s i).kept = s.kept := by
  simp [State.loadPin]
@[simp] theorem State.loadPins_kept (s : State) : (State.loadPins s).kept = s.kept := by
  simp [State.loadPins]
@[simp] theorem State.pipelines_kept (s : State) : (State.pipelines s).kept = s.kept := by
  simp [State.pipelines]
@[simp] theorem execPinOutputLoad_kept (bank : Fin 8) (pin : Fin 24) (s : State) : keptOf (execPinOutputLoad bank pin s) = some s.kept := by
  simp [execPinOutputLoad]
@[simp] theorem State.iobPinWrite_kept (s : State) (mid : Mid) (b p : Nat) (v : Word32) : (State.iobPinWrite s mid b p v).kept = s.kept := by
  simp [State.iobPinWrite]
@[simp] theorem State.iobOutWrite_kept (s : State) (mid : Mid) (b : Nat) (v : Word32) : (State.iobOutWrite s mid b v).kept = s.kept := by
  simp [State.iobOutWrite]
@[simp] theorem State.iobRegWrite_kept (s : State) (mid : Mid) (a : Nat) (v : Word32) : (State.iobRegWrite s mid a v).kept = s.kept := by
  simp [State.iobRegWrite]
@[simp] theorem State.iobRegRead_kept (s : State) (a : Nat) : (State.iobRegRead s a).kept = s.kept := by
  simp [State.iobRegRead]
@[simp] theorem State.bankSample_kept (s : State) (b : Nat) (value : Nat) : (State.bankSample s b value).kept = s.kept := by
  unfold State.bankSample
  repeat' first
    | rfl
    | (simp [*]; done)
    | split
    | (simp only [apply_ite State.kept])
    | (refine (State.foldl_kept _ _ _ ?_).trans ?_)
    | intro _
@[simp] theorem execIobPinWrite_kept (mid : Mid) (bank : Fin 8) (pin : Fin 24) (value : Word32) (s : State) : keptOf (execIobPinWrite mid bank pin value s) = some s.kept := by
  simp [execIobPinWrite]
@[simp] theorem execIobOutWrite_kept (mid : Mid) (bank : Fin 8) (value : Word32) (s : State) : keptOf (execIobOutWrite mid bank value s) = some s.kept := by
  simp [execIobOutWrite]
@[simp] theorem State.tapTake_kept (s : State) (ir : Nat) : (State.tapTake s ir).kept = s.kept := by
  simp [State.tapTake]
@[simp] theorem State.captureIr_kept (s : State) : (State.captureIr s).kept = s.kept := by
  unfold State.captureIr
  repeat' first
    | rfl
    | (simp; done)
    | split
    | (refine (State.foldl_kept _ _ _ ?_).trans ?_)
    | intro _
@[simp] theorem execTapIdcode_kept (s : State) : keptOf (execTapIdcode s) = some s.kept := by
  simp [execTapIdcode]
@[simp] theorem execTapSamplePreload_kept (cells : BitVec 192) (s : State) : keptOf (execTapSamplePreload cells s) = some s.kept := by
  simp [execTapSamplePreload]
@[simp] theorem execTapExtest_kept (s : State) : keptOf (execTapExtest s) = some s.kept := by
  simp [execTapExtest]
@[simp] theorem execTapExtestPulse_kept (s : State) : keptOf (execTapExtestPulse s) = some s.kept := by
  simp [execTapExtestPulse]
@[simp] theorem execTapExtestTrain_kept (s : State) : keptOf (execTapExtestTrain s) = some s.kept := by
  simp [execTapExtestTrain]
@[simp] theorem execTapHighz_kept (s : State) : keptOf (execTapHighz s) = some s.kept := by
  simp [execTapHighz]

end Sys2Proof.Machine
end

