-- ==== Sys2Proof/Laws/Kept02.lean ====
section
/-! SUPPORT.  What the operations of the machine keep, part 2. -/

namespace Sys2Proof.Machine

@[simp] theorem execTapClamp_kept (s : State) : keptOf (execTapClamp s) = some s.kept := by
  simp [execTapClamp]
@[simp] theorem execTapBypass_kept (s : State) : keptOf (execTapBypass s) = some s.kept := by
  simp [execTapBypass]
@[simp] theorem execTapReset_kept (s : State) : keptOf (execTapReset s) = some s.kept := by
  simp [execTapReset]
@[simp] theorem State.setRegBytes_kept (s : State) (a : Nat) (l : List Byte) : (State.setRegBytes s a l).kept = s.kept := by
  simp [State.setRegBytes]
@[simp] theorem State.extendMr_kept (s : State) (i : Nat) (x : List Byte) : (State.extendMr s i x).kept = s.kept := by
  simp [State.extendMr]
@[simp] theorem State.deliverLane_kept (s : State) (n f m : Nat) : (State.deliverLane s n f m).kept = s.kept := by
  simp [State.deliverLane]
@[simp] theorem State.deliverSorus_kept (s : State) (n : Nat) : (State.deliverSorus s n).kept = s.kept := by
  unfold State.deliverSorus
  repeat' first
    | rfl
    | (simp; done)
    | split
    | (refine (State.foldl_kept _ _ _ ?_).trans ?_)
    | intro _
@[simp] theorem execSorusLaneDelivery_kept (sorus : Fin 34) (frond : Fin 16) (lane : Fin 64) (s : State) : keptOf (execSorusLaneDelivery sorus frond lane s) = some s.kept := by
  simp [execSorusLaneDelivery]
@[simp] theorem State.setBmPhys_kept (s : State) (n mem w v : Nat) : (State.setBmPhys s n mem w v).kept = s.kept := by
  simp [State.setBmPhys]
@[simp] theorem State.bmWrite_kept (s : State) (n mem a v : Nat) : (State.bmWrite s n mem a v).kept = s.kept := by
  simp [State.bmWrite]
@[simp] theorem State.bmStep_kept (s : State) (n mem a v : Nat) : (State.bmStep s n mem a v).kept = s.kept := by
  simp [State.bmStep]
@[simp] theorem State.bmReadPort_kept (s : State) (n index : Nat) (data : Nat) (page : Bool) : (State.bmReadPort s n index data page).kept = s.kept := by
  simp [State.bmReadPort]
@[simp] theorem State.performMem_kept (s : State) (n mem : Nat) : (State.performMem s n mem).kept = s.kept := by
  unfold State.performMem
  repeat' first
    | rfl
    | (simp [*]; done)
    | split
    | (simp only [apply_ite State.kept])
    | (refine (State.foldl_kept _ _ _ ?_).trans ?_)
    | intro _
@[simp] theorem State.performAll_kept (s : State) : (State.performAll s).kept = s.kept := by
  simp [State.performAll]
@[simp] theorem execBlockMemoryAccess_kept (sorus : Fin 34) (mem : Fin 32) (s : State) : keptOf (execBlockMemoryAccess sorus mem s) = some s.kept := by
  simp [execBlockMemoryAccess]
@[simp] theorem State.settleWire_kept (s : State) (n f : Nat) (ds : List Drive) (w : Nat) : (State.settleWire s n f ds w).kept = s.kept := by
  unfold State.settleWire
  repeat' first
    | rfl
    | (simp [*]; done)
    | split
    | (simp only [apply_ite State.kept])
    | (refine (State.foldl_kept _ _ _ ?_).trans ?_)
    | intro _
@[simp] theorem State.issueMem_kept (s : State) (n f m : Nat) (ds : List Drive) : (State.issueMem s n f m ds).kept = s.kept := by
  unfold State.issueMem
  repeat' first
    | rfl
    | (simp [*]; done)
    | split
    | (simp only [apply_ite State.kept])
    | (refine (State.foldl_kept _ _ _ ?_).trans ?_)
    | intro _
@[simp] theorem State.commitFrond_kept (s : State) (k : Nat) (ds : List Drive) : (State.commitFrond s k ds).kept = s.kept := by
  simp [State.commitFrond]
@[simp] theorem State.runAll_kept (s : State) : (State.runAll s).kept = s.kept := by
  simp [State.runAll]
@[simp] theorem State.commitSlots_kept (s : State) : (State.commitSlots s).kept = s.kept := by
  simp [State.commitSlots]
@[simp] theorem State.endStep_kept (s : State) : (State.endStep s).kept = s.kept := by
  simp [State.endStep]
@[simp] theorem State.landReads_kept (s : State) : (State.landReads s).kept = s.kept := by
  simp [State.landReads]
@[simp] theorem State.landEvents_kept (s : State) : (State.landEvents s).kept = s.kept := by
  simp [State.landEvents]
@[simp] theorem State.setSafe_kept (s : State) (n : Nat) : (State.setSafe s n).kept = s.kept := by
  unfold State.setSafe
  repeat' first
    | rfl
    | (simp; done)
    | split
    | (refine (State.foldl_kept _ _ _ ?_).trans ?_)
    | intro _
@[simp] theorem State.arrBusy_kept (s : State) (n : Nat) : (State.arrBusy s n).kept = s.kept := by
  simp [State.arrBusy]
@[simp] theorem State.modified_kept (s : State) (n off : Nat) (v : Word32) : (State.modified s n off v).kept = s.kept := by
  simp [State.modified]
@[simp] theorem State.configWrite_kept (s : State) (a : Nat) (v : Word32) : (State.configWrite s a v).kept = s.kept := by
  simp [State.configWrite]
@[simp] theorem State.memoryWrite_kept (s : State) (a : Nat) (v : Word32) : (State.memoryWrite s a v).kept = s.kept := by
  simp [State.memoryWrite]
@[simp] theorem State.setStaging_kept (s : State) (n : Nat) (v : BitVec 72) : (State.setStaging s n v).kept = s.kept := by
  simp [State.setStaging]
@[simp] theorem State.imAdvance_kept (s : State) (n : Nat) : (State.imAdvance s n).kept = s.kept := by
  simp [State.imAdvance]
@[simp] theorem State.imLoRead_kept (s : State) (n : Nat) : (State.imLoRead s n).kept = s.kept := by
  simp [State.imLoRead]
@[simp] theorem State.imHiRead_kept (s : State) (n : Nat) : (State.imHiRead s n).kept = s.kept := by
  simp [State.imHiRead]
@[simp] theorem State.imLoWrite_kept (s : State) (n : Nat) (v : Word32) : (State.imLoWrite s n v).kept = s.kept := by
  simp [State.imLoWrite]
@[simp] theorem State.imHiWrite_kept (s : State) (n : Nat) (v : Word32) : (State.imHiWrite s n v).kept = s.kept := by
  simp [State.imHiWrite]
@[simp] theorem State.arrRegWrite_kept (s : State) (a : Nat) (v : Word32) : (State.arrRegWrite s a v).kept = s.kept := by
  unfold State.arrRegWrite
  split <;> simp
@[simp] theorem State.arrRegRead_kept (s : State) (a : Nat) : (State.arrRegRead s a).kept = s.kept := by
  simp [State.arrRegRead]
@[simp] theorem execArrImLoRead_kept (mid : Mid) (sorus : Fin 34) (s : State) : keptOf (execArrImLoRead mid sorus s) = some s.kept := by
  simp [execArrImLoRead]
@[simp] theorem execArrImHiRead_kept (mid : Mid) (sorus : Fin 34) (s : State) : keptOf (execArrImHiRead mid sorus s) = some s.kept := by
  simp [execArrImHiRead]
@[simp] theorem execArrImHiWrite_kept (mid : Mid) (sorus : Fin 34) (value : Word32) (s : State) : keptOf (execArrImHiWrite mid sorus value s) = some s.kept := by
  simp [execArrImHiWrite]
@[simp] theorem execConfigWindowWrite_kept (mid : Mid) (sorus : Fin 34) (word : Fin 4224) (value : Word32) (s : State) : keptOf (execConfigWindowWrite mid sorus word value s) = some s.kept := by
  simp [execConfigWindowWrite]
@[simp] theorem execMemoryWindowWrite_kept (mid : Mid) (sorus : Fin 34) (word : MemWord) (value : Word32) (s : State) : keptOf (execMemoryWindowWrite mid sorus word value s) = some s.kept := by
  simp [execMemoryWindowWrite]
@[simp] theorem State.laneRaise_kept (s : State) (f : Field) (i : Nat) : (State.laneRaise s f i).kept = s.kept := by
  simp [State.laneRaise]
@[simp] theorem State.acqCheck_kept (s : State) (i : Nat) : (State.acqCheck s i).kept = s.kept := by
  simp [State.acqCheck]
@[simp] theorem State.acqRecheck_kept (s : State) (i : Nat) : (State.acqRecheck s i).kept = s.kept := by
  simp [State.acqRecheck]
@[simp] theorem State.acqLaneWrite_kept (s : State) (mid : Mid) (i r : Nat) (v : Word32) : (State.acqLaneWrite s mid i r v).kept = s.kept := by
  simp [State.acqLaneWrite]
@[simp] theorem execLaneDescriptorWrite_kept (mid : Mid) (lane : Fin 96) (word : Fin 3) (value : Word32) (s : State) : keptOf (execLaneDescriptorWrite mid lane word value s) = some s.kept := by
  simp [execLaneDescriptorWrite]
@[simp] theorem State.abortScan_kept (s : State) (i : Nat) : (State.abortScan s i).kept = s.kept := by
  simp [State.abortScan]
@[simp] theorem State.restartCdr_kept (s : State) (i : Nat) : (State.restartCdr s i).kept = s.kept := by
  simp [State.restartCdr]
@[simp] theorem State.restartSig_kept (s : State) (i : Nat) : (State.restartSig s i).kept = s.kept := by
  simp [State.restartSig]
@[simp] theorem State.restartLane_kept (s : State) (i : Nat) : (State.restartLane s i).kept = s.kept := by
  simp [State.restartLane]
@[simp] theorem State.checkPll_kept (s : State) (k : Nat) : (State.checkPll s k).kept = s.kept := by
  simp [State.checkPll]
@[simp] theorem State.checkLane_kept (s : State) (i : Nat) : (State.checkLane s i).kept = s.kept := by
  simp [State.checkLane]
@[simp] theorem State.eqFixed_kept (s : State) (i : Nat) : (State.eqFixed s i).kept = s.kept := by
  simp [State.eqFixed]
@[simp] theorem State.eqAdapted_kept (s : State) (i : Nat) : (State.eqAdapted s i).kept = s.kept := by
  simp [State.eqAdapted]
@[simp] theorem State.adapted_kept (s : State) (i : Nat) : (State.adapted s i).kept = s.kept := by
  simp [State.adapted]
@[simp] theorem State.lnCfgStore_kept (s : State) (i : Nat) (v : Word32) : (State.lnCfgStore s i v).kept = s.kept := by
  simp [State.lnCfgStore]
@[simp] theorem State.laneAssign_kept (s : State) (mid : Mid) (i : Nat) (f : State → State) (hf : ∀ x, (f x).kept = x.kept) : (State.laneAssign s mid i f).kept = s.kept := by
  unfold State.laneAssign
  (repeat' split) <;> simp [*]
@[simp] theorem State.laneAssign_kept1 (s : State) (mid : Mid) (i : Nat) (f : State → State) (hf : ∀ x, (f x).kept.1 = x.kept.1) : (State.laneAssign s mid i f).kept.1 = s.kept.1 := by
  unfold State.laneAssign
  (repeat' split) <;> simp [*]
@[simp] theorem State.lnCfgWrite_kept (s : State) (mid : Mid) (i : Nat) (v : Word32) : (State.lnCfgWrite s mid i v).kept = s.kept := by
  simp [State.lnCfgWrite]
@[simp] theorem State.lnTxfirStore_kept (s : State) (i : Nat) (v : Word32) : (State.lnTxfirStore s i v).kept = s.kept := by
  simp [State.lnTxfirStore]
@[simp] theorem State.lnTxfirWrite_kept (s : State) (mid : Mid) (i : Nat) (v : Word32) : (State.lnTxfirWrite s mid i v).kept = s.kept := by
  simp [State.lnTxfirWrite]
@[simp] theorem State.lnPllStore_kept (s : State) (k : Nat) (v : Word32) : (State.lnPllStore s k v).kept = s.kept := by
  simp [State.lnPllStore]
@[simp] theorem State.lnPllWrite_kept (s : State) (mid : Mid) (k : Nat) (v : Word32) : (State.lnPllWrite s mid k v).kept = s.kept := by
  simp [State.lnPllWrite]
@[simp] theorem State.lnEsCtrlWrite_kept (s : State) (i : Nat) (v : Word32) : (State.lnEsCtrlWrite s i v).kept = s.kept := by
  simp [State.lnEsCtrlWrite]
@[simp] theorem State.lnPhaseRead_kept (s : State) (i : Nat) : (State.lnPhaseRead s i).kept = s.kept := by
  simp [State.lnPhaseRead]
@[simp] theorem State.lnPhyWrite_kept (s : State) (mid : Mid) (i o : Nat) (a : Nat) (v : Word32) : (State.lnPhyWrite s mid i o a v).kept = s.kept := by
  simp [State.lnPhyWrite]
@[simp] theorem State.lnPhyRead_kept (s : State) (i o : Nat) (a : Nat) : (State.lnPhyRead s i o a).kept = s.kept := by
  simp [State.lnPhyRead]
@[simp] theorem State.lnPllRead_kept (s : State) (k a : Nat) : (State.lnPllRead s k a).kept = s.kept := by
  simp [State.lnPllRead]
@[simp] theorem execLnCfgWrite_kept (mid : Mid) (lane : Fin 103) (value : Word32) (s : State) : keptOf (execLnCfgWrite mid lane value s) = some s.kept := by
  simp [execLnCfgWrite]
@[simp] theorem execLnPllWrite_kept (mid : Mid) (pll : Fin 28) (value : Word32) (s : State) : keptOf (execLnPllWrite mid pll value s) = some s.kept := by
  simp [execLnPllWrite]
@[simp] theorem execLnTxfirWrite_kept (mid : Mid) (lane : Fin 103) (value : Word32) (s : State) : keptOf (execLnTxfirWrite mid lane value s) = some s.kept := by
  simp [execLnTxfirWrite]
@[simp] theorem execPllLock_kept (pll : Fin 28) (s : State) : keptOf (execPllLock pll s) = some s.kept := by
  simp [execPllLock]
@[simp] theorem execSigdet_kept (lane : Fin 103) (s : State) : keptOf (execSigdet lane s) = some s.kept := by
  simp [execSigdet]
@[simp] theorem execCdrLock_kept (lane : Fin 103) (s : State) : keptOf (execCdrLock lane s) = some s.kept := by
  simp [execCdrLock]
@[simp] theorem execAdaptDone_kept (lane : Fin 103) (s : State) : keptOf (execAdaptDone lane s) = some s.kept := by
  simp [execAdaptDone]
@[simp] theorem execLos_kept (lane : Fin 103) (s : State) : keptOf (execLos lane s) = some s.kept := by
  simp [execLos]
@[simp] theorem execLol_kept (lane : Fin 103) (s : State) : keptOf (execLol lane s) = some s.kept := by
  simp [execLol]
@[simp] theorem execPllLost_kept (pll : Fin 28) (s : State) : keptOf (execPllLost pll s) = some s.kept := by
  simp [execPllLost]
@[simp] theorem execSlip_kept (lane : Fin 103) (s : State) : keptOf (execSlip lane s) = some s.kept := by
  simp [execSlip]
@[simp] theorem execFeSlip_kept (lane : Fin 103) (s : State) : keptOf (execFeSlip lane s) = some s.kept := by
  simp [execFeSlip]
@[simp] theorem execEyeScanStart_kept (mid : Mid) (lane : Fin 103) (value : Word32) (s : State) : keptOf (execEyeScanStart mid lane value s) = some s.kept := by
  simp [execEyeScanStart]
@[simp] theorem execEyeScanDone_kept (lane : Fin 103) (errors : Word32) (s : State) : keptOf (execEyeScanDone lane errors s) = some s.kept := by
  simp [execEyeScanDone]
@[simp] theorem execPrbsLock_kept (lane : Fin 103) (s : State) : keptOf (execPrbsLock lane s) = some s.kept := by
  simp [execPrbsLock]
@[simp] theorem State.setEng_kept (s : State) (i : Nat) (e : LinkEng) : (State.setEng s i e).kept = s.kept := by
  simp [State.setEng]
@[simp] theorem State.linkRaise_kept (s : State) (f : Field) (i : Nat) : (State.linkRaise s f i).kept = s.kept := by
  simp [State.linkRaise]
@[simp] theorem State.linkDown_kept (s : State) (b : Nat) : (State.linkDown s b).kept = s.kept := by
  simp [State.linkDown]
@[simp] theorem State.linkRise_kept (s : State) (b : Nat) : (State.linkRise s b).kept = s.kept := by
  simp [State.linkRise]
@[simp] theorem State.checkEngine_kept (s : State) (i : Nat) : (State.checkEngine s i).kept = s.kept := by
  simp [State.checkEngine]
@[simp] theorem State.lnLeCfgStore_kept (s : State) (i : Nat) (v : Word32) : (State.lnLeCfgStore s i v).kept = s.kept := by
  simp [State.lnLeCfgStore]
@[simp] theorem State.lnLeCfgWrite_kept (s : State) (mid : Mid) (i : Nat) (v : Word32) : (State.lnLeCfgWrite s mid i v).kept = s.kept := by
  simp [State.lnLeCfgWrite]
@[simp] theorem State.queueWord_kept (s : State) (b i : Nat) (w : Word64) (valid : Bool) (tag : Option (BitVec 8)) : (State.queueWord s b i w valid tag).kept = s.kept := by
  simp [State.queueWord]
@[simp] theorem State.toAcq_kept (s : State) (i : Nat) (w : Word64) (valid : Bool) (readout : Option Nat) : (State.toAcq s i w valid readout).kept = s.kept := by
  simp [State.toAcq]
@[simp] theorem State.deliverWord_kept (s : State) (b i : Nat) (w : Word64) (valid : Bool) (tag : Option (BitVec 8)) : (State.deliverWord s b i w valid tag).kept = s.kept := by
  simp [State.deliverWord]
@[simp] theorem State.release_kept (s : State) (i : Nat) (w : Word64) (valid : Bool) (tag : Option (BitVec 8)) : (State.release s i w valid tag).kept = s.kept := by
  simp [State.release]
@[simp] theorem State.releasePlanned_kept (s : State) (b i t k : Nat) : (State.releasePlanned s b i t k).kept = s.kept := by
  unfold State.releasePlanned
  repeat' first
    | rfl
    | (simp [*]; done)
    | split
    | (simp only [apply_ite State.kept])
    | (refine (State.foldl_kept _ _ _ ?_).trans ?_)
    | intro _
@[simp] theorem State.releaseLane_kept (s : State) (i : Nat) : (State.releaseLane s i).kept = s.kept := by
  unfold State.releaseLane
  repeat' first
    | rfl
    | (simp [*]; done)
    | split
    | (simp only [apply_ite State.kept])
    | (refine (State.foldl_kept _ _ _ ?_).trans ?_)
    | intro _
@[simp] theorem State.plannedWord_kept (s : State) (b t k : Nat) (w : Word64) (intact : Bool) : (State.plannedWord s b t k w intact).kept = s.kept := by
  simp [State.plannedWord]
@[simp] theorem State.plannedAt_kept (s : State) (b t first : Nat) (ws : List (Word64 × Bool)) : (State.plannedAt s b t first ws).kept = s.kept := by
  simp [State.plannedAt]
@[simp] theorem State.plannedFrame_kept (s : State) (b turn first : Nat) (ws : List (Word64 × Bool)) :
    (s.plannedFrame b turn first ws).kept = s.kept := by
  unfold State.plannedFrame
  cases s.resolveTurn turn <;> simp
@[simp] theorem State.frameDeliver_kept (s : State) (b ftype turn first : Nat) (ws : List (Word64 × Bool)) : (State.frameDeliver s b ftype turn first ws).kept = s.kept := by
  simp [State.frameDeliver]
@[simp] theorem State.damaged_kept (s : State) (b : Nat) : (State.damaged s b).kept = s.kept := by
  simp [State.damaged]
@[simp] theorem State.frameNak_kept (s : State) (b : Nat) : (State.frameNak s b).kept = s.kept := by
  simp [State.frameNak]
@[simp] theorem State.reliableFrame_kept (s : State) (b ftype : Nat) (f : QuireFrame) : (State.reliableFrame s b ftype f).kept = s.kept := by
  simp [State.reliableFrame]
@[simp] theorem State.quireFrame_kept (s : State) (lane ftype : Nat) (f : QuireFrame) : (State.quireFrame s lane ftype f).kept = s.kept := by
  simp [State.quireFrame]
@[simp] theorem State.txTake_kept (s : State) (b : Nat) : (State.txTake s b).kept = s.kept := by
  simp [State.txTake]
@[simp] theorem State.takeLane_kept (s : State) (lane : Nat) : (State.takeLane s lane).kept = s.kept := by
  simp [State.takeLane]
@[simp] theorem State.putFrame_kept (s : State) (b ftype turn first : Nat) (kind vote : Bool) (ws : List Word64) : (State.putFrame s b ftype turn first kind vote ws).kept = s.kept := by
  simp [State.putFrame]
@[simp] theorem State.sendFrame_kept (s : State) (b : Nat) : (State.sendFrame s b).kept = s.kept := by
  unfold State.sendFrame
  repeat' first
    | rfl
    | (simp [*]; done)
    | split
    | (simp only [apply_ite State.kept])
    | (refine (State.foldl_kept _ _ _ ?_).trans ?_)
    | intro _
@[simp] theorem State.ackFrames_kept (s : State) (b ackseq credit : Nat) : (State.ackFrames s b ackseq credit).kept = s.kept := by
  simp [State.ackFrames]
@[simp] theorem State.replay_kept (s : State) (b : Nat) : (State.replay s b).kept = s.kept := by
  simp [State.replay]
@[simp] theorem State.txRefuse_kept (s : State) (i : Nat) (code : Status) : (State.txRefuse s i code).kept = s.kept := by
  simp [State.txRefuse]
@[simp] theorem State.sendDatagram_kept (s : State) (i e : Nat) (payload : List Byte) : (State.sendDatagram s i e payload).kept = s.kept := by
  simp [State.sendDatagram]
@[simp] theorem State.ethReceive_kept (s : State) (i : Nat) (f : List Byte) (fcsOk : Bool) (count : Word64) (frac : Byte) : (State.ethReceive s i f fcsOk count frac).kept = s.kept := by
  unfold State.ethReceive
  (repeat' split) <;> simp
@[simp] theorem State.ethRequest_kept (s : State) (i : Nat) (j : EthJob) : (State.ethRequest s i j).kept = s.kept := by
  simp [State.ethRequest]
@[simp] theorem State.ethSent_kept (s : State) (i : Nat) (count : Word64) (frac : Byte) : (State.ethSent s i count frac).kept = s.kept := by
  unfold State.ethSent
  repeat' first
    | rfl
    | (simp [*]; done)
    | split
    | (simp only [apply_ite State.kept])
    | (refine (State.foldl_kept _ _ _ ?_).trans ?_)
    | intro _
@[simp] theorem State.lnLinkWrite_kept (s : State) (mid : Mid) (i o a : Nat) (v : Word32) : (State.lnLinkWrite s mid i o a v).kept = s.kept := by
  simp [State.lnLinkWrite]
@[simp] theorem execLnLeCfgWrite_kept (mid : Mid) (lane : Fin 103) (value : Word32) (s : State) : keptOf (execLnLeCfgWrite mid lane value s) = some s.kept := by
  simp [execLnLeCfgWrite]
@[simp] theorem execBlockLock_kept (lane : Fin 103) (s : State) : keptOf (execBlockLock lane s) = some s.kept := by
  simp [execBlockLock]
@[simp] theorem execLinkUp_kept (lane : Fin 103) (skew : Nat) (s : State) : keptOf (execLinkUp lane skew s) = some s.kept := by
  simp [execLinkUp]
@[simp] theorem execLinkDown_kept (lane : Fin 103) (s : State) : keptOf (execLinkDown lane s) = some s.kept := by
  simp [execLinkDown]
@[simp] theorem execWordAvailable_kept (lane : Fin 103) (word : Word64) (valid cut : Bool) (s : State) : keptOf (execWordAvailable lane word valid cut s) = some s.kept := by
  simp [execWordAvailable]
@[simp] theorem execWordRelease_kept (lane : Fin 103) (s : State) : keptOf (execWordRelease lane s) = some s.kept := by
  simp [execWordRelease]
@[simp] theorem execXdevFrame_kept (lane : Fin 103) (frame : QuireFrame) (s : State) : keptOf (execXdevFrame lane frame s) = some s.kept := by
  simp [execXdevFrame]
@[simp] theorem execFeedFrame_kept (lane : Fin 103) (frame : QuireFrame) (s : State) : keptOf (execFeedFrame lane frame s) = some s.kept := by
  simp [execFeedFrame]
@[simp] theorem execTrigFrame_kept (lane : Fin 103) (frame : QuireFrame) (s : State) : keptOf (execTrigFrame lane frame s) = some s.kept := by
  simp [execTrigFrame]
@[simp] theorem execReadoutFrame_kept (lane : Fin 103) (frame : QuireFrame) (s : State) : keptOf (execReadoutFrame lane frame s) = some s.kept := by
  simp [execReadoutFrame]
@[simp] theorem execQlAck_kept (lane : Fin 103) (ackseq credit : BitVec 12) (s : State) : keptOf (execQlAck lane ackseq credit s) = some s.kept := by
  simp [execQlAck]
@[simp] theorem execQlNak_kept (lane : Fin 103) (ackseq credit : BitVec 12) (s : State) : keptOf (execQlNak lane ackseq credit s) = some s.kept := by
  simp [execQlNak]
@[simp] theorem execReplayTimeout_kept (lane : Fin 103) (s : State) : keptOf (execReplayTimeout lane s) = some s.kept := by
  simp [execReplayTimeout]
@[simp] theorem execFrameSend_kept (lane : Fin 103) (s : State) : keptOf (execFrameSend lane s) = some s.kept := by
  simp [execFrameSend]
@[simp] theorem execTxWordTake_kept (lane : Fin 103) (s : State) : keptOf (execTxWordTake lane s) = some s.kept := by
  simp [execTxWordTake]
@[simp] theorem execAlignmentWindowEnd_kept (lane : Fin 103) (s : State) : keptOf (execAlignmentWindowEnd lane s) = some s.kept := by
  simp [execAlignmentWindowEnd]
@[simp] theorem execUdpDatagram_kept (lane : Fin 103) (dest : Fin 8) (payload : List Byte) (s : State) : keptOf (execUdpDatagram lane dest payload s) = some s.kept := by
  simp [execUdpDatagram]
@[simp] theorem execFrameSent_kept (lane : Fin 103) (count : Word64) (frac : Byte) (s : State) : keptOf (execFrameSent lane count frac s) = some s.kept := by
  simp [execFrameSent]
@[simp] theorem State.spColl_kept (s : State) (n case input epoch : Nat) : (State.spColl s n case input epoch).kept = s.kept := by
  unfold State.spColl
  (repeat' split) <;> simp
@[simp] theorem State.nodeDrop_kept (s : State) (n : Nat) : (State.nodeDrop s n).kept = s.kept := by
  simp [State.nodeDrop]
@[simp] theorem State.stage_kept (s : State) (l : Landing) : (State.stage s l).kept = s.kept := by
  simp [State.stage]
@[simp] theorem State.stageGroup_kept (s : State) (v g : Nat) (u : SpUnit) (ws : List (Nat × Nat × Nat)) : (State.stageGroup s v g u ws).kept = s.kept := by
  unfold State.stageGroup
  (repeat' split) <;> simp
@[simp] theorem State.releaseUnit_kept (s : State) (u : SpUnit) : (State.releaseUnit s u).kept = s.kept := by
  unfold State.releaseUnit
  repeat' first
    | rfl
    | (simp [*]; done)
    | split
    | (simp only [apply_ite State.kept])
    | (refine (State.foldl_kept _ _ _ ?_).trans ?_)
    | intro _
@[simp] theorem State.releaseNode_kept (s : State) (n : Nat) : (State.releaseNode s n).kept = s.kept := by
  simp [State.releaseNode]
@[simp] theorem State.land_kept (s : State) (l : Landing) : (s.land l).kept = s.kept := by
  cases l <;> simp [State.land]
@[simp] theorem State.commitLandings_kept (s : State) : s.commitLandings.kept = s.kept := by
  refine (State.foldl_kept _ _ _ fun x b => ?_).trans (by simp)
  split
  · rfl
  · simp only
    (repeat' split) <;> simp
@[simp] theorem State.checkUnits_kept (s : State) (n : Nat) (errs : List UnitError) (l : List SpUnit) :
    (s.checkUnits n errs l).2.kept = s.kept := by
  induction l generalizing s with
  | nil => rfl
  | cons u r ih =>
    simp only [State.checkUnits]
    split
    · rw [ih, State.nodeDrop_kept]
      split <;> simp
    · simp only [ih]
      split <;> simp
@[simp] theorem State.routeLink_kept (s : State) (n dir : Nat) (us : List SpUnit) : (State.routeLink s n dir us).2.kept = s.kept := by
  unfold State.routeLink
  (repeat' split) <;> simp
@[simp] theorem State.routeNode_kept (s : State) (n : Nat) (us : List SpUnit) (errs : List UnitError) :
    (s.routeNode n us errs).2.kept = s.kept := by
  simp only [State.routeNode]
  rw [State.foldl_kept _ _ _ (by intro x b; simp), State.foldl_kept _ _ _ (by intro x b; simp)]
  refine (State.foldl_pair_kept _ _ _ (by intro x b; simp)).trans ?_
  split <;> simp
@[simp] theorem State.advance_kept (s : State) (errs : List UnitError) : (s.advance errs).kept = s.kept := by
  unfold State.advance
  split
  · rfl
  · dsimp only
    rw [State.kept_mk, State.kept_fold1, State.kept_fold2]
    refine (State.foldl_pair_kept _ _ _ (by intro x b; simp)).trans ?_
    simp
@[simp] theorem execScheduledPlaneAdvance_kept (errs : List UnitError) (s : State) : keptOf (execScheduledPlaneAdvance errs s) = some s.kept := by
  simp [execScheduledPlaneAdvance]
@[simp] theorem execUnitRelease_kept (node : Fin 48) (s : State) : keptOf (execUnitRelease node s) = some s.kept := by
  simp [execUnitRelease]
@[simp] theorem State.flipSp_kept (s : State) : (State.flipSp s).kept = s.kept := by
  simp [State.flipSp]
@[simp] theorem State.flipGp_kept (s : State) : (State.flipGp s).kept = s.kept := by
  simp [State.flipGp]
@[simp] theorem State.rzSwitch_kept (s : State) (gp sp : Bool) : (State.rzSwitch s gp sp).kept = s.kept := by
  simp [State.rzSwitch]
@[simp] theorem State.retireGp_kept (s : State) : (State.retireGp s).kept = s.kept := by
  simp [State.retireGp]
@[simp] theorem State.retireSp_kept (s : State) : (State.retireSp s).kept = s.kept := by
  simp [State.retireSp]
@[simp] theorem execGpSwitch_kept (mid : Mid) (s : State) : keptOf (execGpSwitch mid s) = some s.kept := by
  simp [execGpSwitch]
@[simp] theorem execSpSwitch_kept (mid : Mid) (s : State) : keptOf (execSpSwitch mid s) = some s.kept := by
  simp [execSpSwitch]
@[simp] theorem execEpochRetire_kept (general : Bool) (s : State) : keptOf (execEpochRetire general s) = some s.kept := by
  simp [execEpochRetire]
@[simp] theorem State.refill_kept (s : State) (n e : Nat) (mgt : Bool) : (State.refill s n e mgt).kept = s.kept := by
  simp [State.refill]
@[simp] theorem State.bucketWrite_kept (s : State) (n e : Nat) (mgt : Bool) (a : Nat) (v : Word32) : (State.bucketWrite s n e mgt a v).kept = s.kept := by
  simp [State.bucketWrite]
@[simp] theorem State.holdTag_kept (s : State) (n e t : Nat) (x : RzTag) : (State.holdTag s n e t x).kept = s.kept := by
  simp [State.holdTag]
@[simp] theorem State.takeTokens_kept (s : State) (n e : Nat) (p : Packet) : (State.takeTokens s n e p).kept = s.kept := by
  simp [State.takeTokens]
@[simp] theorem State.injectPacket_kept (s : State) (n e : Nat) : (s.injectPacket n e).kept = s.kept := by
  simp only [State.injectPacket]
  split
  · simp
  · split <;> simp
@[simp] theorem State.queuePacket_kept (s : State) (n e : Nat) (p : Packet) : (State.queuePacket s n e p).kept = s.kept := by
  simp [State.queuePacket]
@[simp] theorem State.rzDenied_kept (s : State) (n : Nat) : (State.rzDenied s n).kept = s.kept := by
  simp [State.rzDenied]
@[simp] theorem State.tableWrite_kept (s : State) (mid : Mid) (n : Nat) (slots : Bool) (ep idx a : Nat) (v : Word32) : (State.tableWrite s mid n slots ep idx a v).kept = s.kept := by
  simp [State.tableWrite]
@[simp] theorem State.nodeWrite_kept (s : State) (mid : Mid) (a : Nat) (v : Word32) : (State.nodeWrite s mid a v).kept = s.kept := by
  unfold State.nodeWrite
  split <;> simp
@[simp] theorem State.rzRegWrite_kept (s : State) (mid : Mid) (a : Nat) (v : Word32) : (State.rzRegWrite s mid a v).kept = s.kept := by
  simp [State.rzRegWrite]
@[simp] theorem State.rzRegRead_kept (s : State) (a : Nat) : (State.rzRegRead s a).kept = s.kept := by
  simp [State.rzRegRead]
@[simp] theorem execTableWrite_kept (mid : Mid) (node : Fin 48) (slots : Bool) (epoch : Fin 2) (entry : Fin 1024) (high : Bool) (value : Word32) (s : State) : keptOf (execTableWrite mid node slots epoch entry high value s) = some s.kept := by
  simp [execTableWrite]
@[simp] theorem State.turnOverrun_kept (s : State) (cause : Nat) (sorus : Option Nat) : (State.turnOverrun s cause sorus).kept = s.kept := by
  unfold State.turnOverrun
  split <;> simp
@[simp] theorem State.regionHold_kept (s : State) (r : Nat) : (State.regionHold s r).kept = s.kept := by
  simp [State.regionHold]
@[simp] theorem State.regionFree_kept (s : State) (r : Nat) : (State.regionFree s r).kept = s.kept := by
  simp [State.regionFree]
@[simp] theorem State.pushReq_kept (s : State) (r : PortReq) : (State.pushReq s r).kept = s.kept := by
  simp [State.pushReq]
@[simp] theorem State.portArrive_kept (s : State) (r : PortReq) : (State.portArrive s r).kept = s.kept := by
  unfold State.portArrive
  split <;> simp
@[simp] theorem State.portIssue_kept (s : State) (r : PortReq) : (State.portIssue s r).kept = s.kept := by
  simp [State.portIssue]
@[simp] theorem State.fireEntry_kept (s : State) (n e : Nat) (ecc : EccFind) : (State.fireEntry s n e ecc).kept = s.kept := by
  unfold State.fireEntry
  split <;> simp
@[simp] theorem State.fireAll_kept (s : State) : (State.fireAll s).kept = s.kept := by
  simp [State.fireAll]
@[simp] theorem execIssueEntryFire_kept (sorus : Fin 34) (entry : Fin 16) (ecc : EccFind) (s : State) : keptOf (execIssueEntryFire sorus entry ecc s) = some s.kept := by
  simp [execIssueEntryFire]
@[simp] theorem State.portFault_kept (s : State) (r : PortReq) (cause : Nat) : (State.portFault s r cause).kept = s.kept := by
  simp [State.portFault]
@[simp] theorem State.portServe_kept (s : State) (r : PortReq) : (State.portServe s r).1.kept.1 = s.kept.1 := by
  unfold State.portServe
  split <;> simp
@[simp] theorem State.commandSlot_kept (s0 : State) (r : PortReq) (peers : List PortReq) : (State.commandSlot s0 r peers).1.kept.1 = s0.kept.1 := by
  unfold State.commandSlot
  repeat' first
    | rfl
    | (simp [*]; done)
    | split
    | (simp only [apply_ite State.kept])
    | (refine (State.foldl_kept1 _ _ _ ?_).trans ?_)
    | intro _
@[simp] theorem State.commandSlots_kept (s : State) : (State.commandSlots s).kept.1 = s.kept.1 := by
  simp [State.commandSlots]
@[simp] theorem State.stageResponse_kept (s : State) (r : PortReq) : (State.stageResponse s r).kept = s.kept := by
  simp [State.stageResponse]
@[simp] theorem State.portDone_kept (s : State) (r : PortReq) : (State.portDone s r).kept = s.kept := by
  simp [State.portDone]
@[simp] theorem State.releaseReq_kept (s : State) (r : PortReq) : (State.releaseReq s r).kept = s.kept := by
  simp [State.releaseReq]
@[simp] theorem State.releasePorts_kept (s : State) (p : PortReq → Bool) : (State.releasePorts s p).kept = s.kept := by
  simp [State.releasePorts]
@[simp] theorem State.releaseElastic_kept (s : State) : (State.releaseElastic s).kept = s.kept := by
  simp [State.releaseElastic]
@[simp] theorem State.portsDead_kept (s : State) (n : Nat) : (State.portsDead s n).kept = s.kept := by
  simp [State.portsDead]
@[simp] theorem State.agePorts_kept (s : State) : (State.agePorts s).kept = s.kept := by
  simp [State.agePorts]
@[simp] theorem execMemoryPortRelease_kept (sorus : Fin 34) (entry : Fin 16) (s : State) : keptOf (execMemoryPortRelease sorus entry s) = some s.kept := by
  simp [execMemoryPortRelease]
@[simp] theorem execRefresh_kept (pc : Fin 16) (s : State) : keptOf (execRefresh pc s) = some s.kept := by
  simp [execRefresh]
@[simp] theorem execStackTemperaturePoll_kept (temp : BitVec 8) (s : State) : keptOf (execStackTemperaturePoll temp s) = some s.kept := by
  simp [execStackTemperaturePoll]
@[simp] theorem State.hbmRegWrite_kept (s : State) (a : Nat) (v : Word32) : (State.hbmRegWrite s a v).kept = s.kept := by
  simp [State.hbmRegWrite]
@[simp] theorem State.setCtx_kept (s : State) (c : Nat) (v : BitVec 512) : (State.setCtx s c v).kept = s.kept := by
  simp [State.setCtx]
@[simp] theorem State.ctxUnc_kept (s : State) (c : Nat) : (State.ctxUnc s c).kept = s.kept := by
  simp [State.ctxUnc]
@[simp] theorem State.ctxCheck_kept (s : State) (c : Nat) (e : EccFind) : (s.ctxCheck c e).kept = s.kept := by
  cases e <;> simp [State.ctxCheck]
@[simp] theorem State.setAcqLane_kept (s : State) (i : Nat) (v : AcqLane) : (State.setAcqLane s i v).kept = s.kept := by
  simp [State.setAcqLane]
@[simp] theorem State.stopReached_kept (s : State) (i : Nat) : (State.stopReached s i).kept = s.kept := by
  unfold State.stopReached
  repeat' first
    | rfl
    | (simp [*]; done)
    | split
    | (simp only [apply_ite State.kept])
    | (refine (State.foldl_kept _ _ _ ?_).trans ?_)
    | intro _
@[simp] theorem State.setStops_kept (s : State) (i n : Nat) : (State.setStops s i n).kept = s.kept := by
  simp [State.setStops]
@[simp] theorem State.sample_kept (s : State) (i n c : Nat) (v : Int) : (State.sample s i n c v).kept = s.kept := by
  simp [State.sample]
@[simp] theorem State.setRphase_kept (s : State) (i c : Nat) : (State.setRphase s i c).kept = s.kept := by
  simp [State.setRphase]
@[simp] theorem State.samples_kept (s : State) (i n p : Nat) (w : Word64) (eccs : List EccFind) :
    (s.samples i n p w eccs).kept = s.kept := by
  refine State.foldl_kept _ _ _ fun x b => ?_
  simp
@[simp] theorem State.archiveDrop_kept (s : State) (i n : Nat) : (State.archiveDrop s i n).kept = s.kept := by
  simp [State.archiveDrop]
@[simp] theorem State.archiveWrite_kept (s : State) (i n : Nat) (w : Word64) (valid : Bool) : (State.archiveWrite s i n w valid).kept.1 = s.kept.1 := by
  simp [State.archiveWrite]
@[simp] theorem State.recLost_kept (s : State) (cls : Nat) (code : Status) (link : Bool) : (State.recLost s cls code link).kept = s.kept := by
  simp [State.recLost]
@[simp] theorem State.phases_kept (s : State) (l : List Nat) : (s.phases l).2.kept = s.kept := by
  induction l generalizing s with
  | nil => rfl
  | cons i r ih =>
    unfold State.phases
    split <;> simp [ih]
@[simp] theorem State.triggerClass_kept (s : State) (k turn step : Nat) : (s.triggerClass k turn step).kept = s.kept := by
  simp only [State.triggerClass]
  split
  · rfl
  · split <;> simp
@[simp] theorem State.buildCheck_kept (s : State) : (State.buildCheck s).kept = s.kept := by
  unfold State.buildCheck
  repeat' first
    | rfl
    | (simp; done)
    | split
    | (refine (State.foldl_kept _ _ _ ?_).trans ?_)
    | intro _
@[simp] theorem State.captureWord_kept (s : State) (x : AcqWord) (eccs : List EccFind) (drop : Bool) : (State.captureWord s x eccs drop).kept.1 = s.kept.1 := by
  unfold State.captureWord
  repeat' first
    | rfl
    | (simp [*]; done)
    | split
    | (simp only [apply_ite State.kept])
    | (refine (State.foldl_kept1 _ _ _ ?_).trans ?_)
    | intro _
@[simp] theorem State.forward_kept (s : State) (x : AcqWord) (turn : Nat) : (State.forward s x turn).kept = s.kept := by
  simp [State.forward]
@[simp] theorem State.captureNext_kept (s : State) (eccs : List EccFind) (drop : Bool) : (State.captureNext s eccs drop).kept.1 = s.kept.1 := by
  unfold State.captureNext
  (repeat' split) <;> simp
@[simp] theorem State.captureAll_kept (s : State) : (State.captureAll s).kept.1 = s.kept.1 := by
  simp [State.captureAll]
@[simp] theorem execCaptureWord_kept (eccs : List EccFind) (s : State) : queueOf (execCaptureWord eccs s) = some s.kept.1 := by
  simp [execCaptureWord]
@[simp] theorem execArchiveDrop_kept (s : State) : queueOf (execArchiveDrop s) = some s.kept.1 := by
  simp [execArchiveDrop]
@[simp] theorem State.acqCtrlWrite_kept (s : State) (v : Word32) : (State.acqCtrlWrite s v).kept = s.kept := by
  simp [State.acqCtrlWrite]
@[simp] theorem execAcqEnable_kept (mid : Mid) (value : Word32) (s : State) : keptOf (execAcqEnable mid value s) = some s.kept := by
  simp [execAcqEnable]
@[simp] theorem State.triggerStep_kept (s : State) (k : Nat) : (State.triggerStep s k).kept = s.kept := by
  simp [State.triggerStep]
@[simp] theorem State.triggerAll_kept (s : State) : (State.triggerAll s).kept = s.kept := by
  simp [State.triggerAll]
@[simp] theorem execRecordTrigger_kept (cls : Fin 16) (s : State) : keptOf (execRecordTrigger cls s) = some s.kept := by
  simp [execRecordTrigger]
@[simp] theorem execRecordComplete_kept (seq : Word32) (s : State) : keptOf (execRecordComplete seq s) = some s.kept := by
  simp [execRecordComplete]
@[simp] theorem execRecordTimeout_kept (seq : Word32) (s : State) : keptOf (execRecordTimeout seq s) = some s.kept := by
  simp [execRecordTimeout]
@[simp] theorem State.sendUdp_kept (s : State) (lane e seq : Nat) (bytes : List Byte) : (State.sendUdp s lane e seq bytes).kept = s.kept := by
  simp [State.sendUdp]
@[simp] theorem State.pumpReadout_kept (s : State) : (State.pumpReadout s).kept = s.kept := by
  simp [State.pumpReadout]
@[simp] theorem State.sendRecord_kept (s : State) (r : AcqRec) : (State.sendRecord s r).kept = s.kept := by
  unfold State.sendRecord
  repeat' first
    | rfl
    | (simp [*]; done)
    | split
    | (simp only [apply_ite State.kept])
    | (refine (State.foldl_kept _ _ _ ?_).trans ?_)
    | intro _
@[simp] theorem execRecordSend_kept (seq : Word32) (s : State) : keptOf (execRecordSend seq s) = some s.kept := by
  unfold execRecordSend
  split <;> simp
@[simp] theorem State.acqRefuse_kept (s : State) (code : Status) : (State.acqRefuse s code).kept = s.kept := by
  simp [State.acqRefuse]
@[simp] theorem State.acqAccept_kept (s : State) : (State.acqAccept s).kept = s.kept := by
  simp [State.acqAccept]
@[simp] theorem State.startJob_kept (s : State) (copy : Bool) : (State.startJob s copy).kept = s.kept := by
  simp [State.startJob]
@[simp] theorem State.runJob_kept (s : State) (j : AcqJob) (n : Nat) : (State.runJob s j n).kept.1 = s.kept.1 := by
  simp [State.runJob]
@[simp] theorem execDumpDone_kept (s : State) : queueOf (execDumpDone s) = some s.kept.1 := by
  unfold execDumpDone
  repeat' first
    | rfl
    | (simp; done)
    | split
    | (refine (State.foldl_kept1 _ _ _ ?_).trans ?_)
    | intro _
@[simp] theorem execDumpFail_kept (copied : Nat) (s : State) : queueOf (execDumpFail copied s) = some s.kept.1 := by
  unfold execDumpFail
  repeat' first
    | rfl
    | (simp; done)
    | split
    | (refine (State.foldl_kept1 _ _ _ ?_).trans ?_)
    | intro _
@[simp] theorem State.acqTrigger_kept (s : State) (k : Nat) : (State.acqTrigger s k).kept = s.kept := by
  simp [State.acqTrigger]
@[simp] theorem State.acqRestart_kept (s : State) : (State.acqRestart s).kept = s.kept := by
  simp [State.acqRestart]
@[simp] theorem State.prbRearm_kept (s : State) : (State.prbRearm s).kept = s.kept := by
  simp [State.prbRearm]
@[simp] theorem State.acqCommand_kept (s : State) (v : Word32) : (State.acqCommand s v).kept = s.kept := by
  unfold State.acqCommand
  split <;> simp
@[simp] theorem State.acqComparator_kept (s : State) (n : Nat) : (State.acqComparator s n).kept = s.kept := by
  simp [State.acqComparator]
@[simp] theorem execAcqTrigger_kept (mid : Mid) (cls : Fin 16) (s : State) : keptOf (execAcqTrigger mid cls s) = some s.kept := by
  simp [execAcqTrigger]
@[simp] theorem execAcqRestart_kept (mid : Mid) (s : State) : keptOf (execAcqRestart mid s) = some s.kept := by
  simp [execAcqRestart]
@[simp] theorem execAcqDump_kept (mid : Mid) (s : State) : keptOf (execAcqDump mid s) = some s.kept := by
  simp [execAcqDump]
@[simp] theorem execAcqClear_kept (mid : Mid) (s : State) : keptOf (execAcqClear mid s) = some s.kept := by
  simp [execAcqClear]
@[simp] theorem execPrbRearm_kept (mid : Mid) (s : State) : keptOf (execPrbRearm mid s) = some s.kept := by
  simp [execPrbRearm]
@[simp] theorem State.ctxWindowRead_kept (s : State) (o : Nat) (ecc : EccFind) : (s.ctxWindowRead o ecc).kept = s.kept := by
  simp only [State.ctxWindowRead]
  split
  · split <;> simp
  · split
    · split <;> simp
    · simp
@[simp] theorem State.ctxWindowWrite_kept (s : State) (o : Nat) (v : Word32) : (State.ctxWindowWrite s o v).kept = s.kept := by
  simp [State.ctxWindowWrite]
@[simp] theorem execContextWindowRead_kept (mid : Mid) (word : Fin 2097152) (ecc : EccFind) (s : State) : keptOf (execContextWindowRead mid word ecc s) = some s.kept := by
  simp [execContextWindowRead]
@[simp] theorem execContextWindowWrite_kept (mid : Mid) (word : Fin 2097152) (value : Word32) (s : State) : keptOf (execContextWindowWrite mid word value s) = some s.kept := by
  simp [execContextWindowWrite]

end Sys2Proof.Machine
end

