-- ==== Sys2Proof/Laws/Kept03.lean ====
section
/-! SUPPORT.  What the operations of the machine keep, part 3. -/

namespace Sys2Proof.Machine

@[simp] theorem State.matched_kept (s : State) (u t : Nat) : (State.matched s u t).kept = s.kept := by
  simp [State.matched]
@[simp] theorem State.freezeCount_kept (s : State) (before : Bool) : (State.freezeCount s before).kept = s.kept := by
  unfold State.freezeCount
  split <;> simp
@[simp] theorem State.probeTake_kept (s : State) (t bits : Nat) : (State.probeTake s t bits).kept = s.kept := by
  simp [State.probeTake]
@[simp] theorem State.probeLost_kept (s : State) : (State.probeLost s).kept = s.kept := by
  simp [State.probeLost]
@[simp] theorem execProbeBufferFree_kept (failed : Bool) (s : State) : queueOf (execProbeBufferFree failed s) = some s.kept.1 := by
  simp only [execProbeBufferFree, queueOf_next]
  split
  · rfl
  · split
    · simp
    · split <;> simp
@[simp] theorem State.acqRegWrite_kept (s : State) (mid : Mid) (a : Nat) (v : Word32) : (State.acqRegWrite s mid a v).kept = s.kept := by
  simp [State.acqRegWrite]
@[simp] theorem State.acqRegRead_kept (s : State) (a : Nat) : (State.acqRegRead s a).kept = s.kept := by
  simp [State.acqRegRead]
@[simp] theorem State.setRun_kept (s : State) : (State.setRun s).kept = s.kept := by
  simp [State.setRun]
@[simp] theorem State.sigFailed_kept (s : State) (step : Nat) : (State.sigFailed s step).kept = s.kept := by
  simp [State.sigFailed]
@[simp] theorem State.secRefuse_kept (s : State) : (State.secRefuse s).kept = s.kept := by
  simp [State.secRefuse]
@[simp] theorem State.secBegin_kept (s : State) (code : Nat) : (State.secBegin s code).kept = s.kept := by
  simp [State.secBegin]
@[simp] theorem State.secCommand_kept (s : State) (mid : Mid) (code : Nat) : (State.secCommand s mid code).kept = s.kept := by
  simp [State.secCommand]
@[simp] theorem State.secDone_kept (s : State) (code : Status) : (State.secDone s code).kept = s.kept := by
  simp [State.secDone]
@[simp] theorem State.secRegWrite_kept (s : State) (mid : Mid) (a : Nat) (v : Word32) : (State.secRegWrite s mid a v).kept = s.kept := by
  simp [State.secRegWrite]
@[simp] theorem State.secRegRead_kept (s : State) (a : Nat) : (State.secRegRead s a).kept = s.kept := by
  simp [State.secRegRead]
@[simp] theorem State.secCmd_kept (s : State) (mid : Mid) (code : Nat) : (State.secCmd s mid code).kept = s.kept := by
  simp [State.secCmd]
@[simp] theorem execSecVerify_kept (mid : Mid) (s : State) : keptOf (execSecVerify mid s) = some s.kept := by
  simp [execSecVerify]
@[simp] theorem execSecAttest_kept (mid : Mid) (s : State) : keptOf (execSecAttest mid s) = some s.kept := by
  simp [execSecAttest]
@[simp] theorem execSecExtend_kept (mid : Mid) (s : State) : keptOf (execSecExtend mid s) = some s.kept := by
  simp [execSecExtend]
@[simp] theorem execSecRevoke_kept (mid : Mid) (s : State) : keptOf (execSecRevoke mid s) = some s.kept := by
  simp [execSecRevoke]
@[simp] theorem execSecAdvance_kept (mid : Mid) (s : State) : keptOf (execSecAdvance mid s) = some s.kept := by
  simp [execSecAdvance]
@[simp] theorem execSecKeyprog_kept (mid : Mid) (s : State) : keptOf (execSecKeyprog mid s) = some s.kept := by
  simp [execSecKeyprog]
@[simp] theorem execVerifyDone_kept (bytes : List Byte) (s : State) : keptOf (execVerifyDone bytes s) = some s.kept := by
  unfold execVerifyDone
  split <;> simp
@[simp] theorem execAttestDone_kept (s : State) : keptOf (execAttestDone s) = some s.kept := by
  simp only [execAttestDone, keptOf_next]
  split
  · rw [State.secDone_kept, State.setRegBytes_kept]
  · rfl
@[simp] theorem State.loaderStore_kept (s : State) (a : Nat) (v : Word32) : (State.loaderStore s a v).kept = s.kept := by
  simp [State.loaderStore]
@[simp] theorem State.unitRegs_kept (s : State) (a : Nat) (w : Word64) (f : State → Nat → Word32 → State) (hf : ∀ x y z, (f x y z).kept = x.kept) : (State.unitRegs s a w f).kept = s.kept := by
  unfold State.unitRegs
  (repeat' split) <;> simp [*]
@[simp] theorem State.unitRegs_kept1 (s : State) (a : Nat) (w : Word64) (f : State → Nat → Word32 → State) (hf : ∀ x y z, (f x y z).kept.1 = x.kept.1) : (State.unitRegs s a w f).kept.1 = s.kept.1 := by
  unfold State.unitRegs
  (repeat' split) <;> simp [*]
@[simp] theorem State.keepGolden_kept (s : State) (off : Option Nat) (w : Word64) : (State.keepGolden s off w).kept.1 = s.kept.1 := by
  unfold State.keepGolden
  (repeat' split) <;> simp
@[simp] theorem State.sorcfgWrite_kept (s : State) (n u : Nat) (w : Word64) (active : Bool) : (State.sorcfgWrite s n u w active).kept = s.kept := by
  simp [State.sorcfgWrite]
@[simp] theorem State.folioWrite_kept (s : State) (n ftype page u : Nat) (w : Word64) : (State.folioWrite s n ftype page u w).kept = s.kept := by
  unfold State.folioWrite
  split <;> simp
@[simp] theorem State.laneUnit_kept (s : State) (a : Nat) (v : Word32) : (State.laneUnit s a v).kept = s.kept := by
  simp [State.laneUnit]
@[simp] theorem State.timeUnit_kept (s : State) (a : Nat) (v : Word32) : (State.timeUnit s a v).kept = s.kept := by
  unfold State.timeUnit
  split <;> simp
@[simp] theorem State.twinUnit_kept (s : State) (u : Nat) (w : Word64) : (State.twinUnit s u w).kept = s.kept := by
  simp [State.twinUnit]
@[simp] theorem State.ctxUnit_kept (s : State) (u : Nat) (w : Word64) : (State.ctxUnit s u w).kept = s.kept := by
  simp [State.ctxUnit]
@[simp] theorem optReg_kept (f : State → Nat → Word32 → State) (s : State) (a : Option Nat) (v : Word32) (hf : ∀ x y z, (f x y z).kept = x.kept) : (optReg f s a v).kept = s.kept := by
  unfold optReg
  (repeat' split) <;> simp [*]
@[simp] theorem optReg_kept1 (f : State → Nat → Word32 → State) (s : State) (a : Option Nat) (v : Word32) (hf : ∀ x y z, (f x y z).kept.1 = x.kept.1) : (optReg f s a v).kept.1 = s.kept.1 := by
  unfold optReg
  (repeat' split) <;> simp [*]
@[simp] theorem State.deviceWrite_kept (s : State) (ftype u : Nat) (w : Word64) : (State.deviceWrite s ftype u w).kept.1 = s.kept.1 := by
  unfold State.deviceWrite
  split <;> simp
@[simp] theorem State.passRewrite_kept (s : State) (p : PassWord) (v : Word32) : (State.passRewrite s p v).kept = s.kept := by
  unfold State.passRewrite
  split <;> simp
@[simp] theorem State.runBits_kept (s : State) : (State.runBits s).kept = s.kept := by
  simp [State.runBits]
@[simp] theorem State.seqEnter_kept (s : State) (st : Nat) : (State.seqEnter s st).kept = s.kept := by
  simp [State.seqEnter]
@[simp] theorem State.seqRefuse_kept (s : State) (code : Status) : (State.seqRefuse s code).kept = s.kept := by
  simp [State.seqRefuse]
@[simp] theorem State.seqCancel_kept (s : State) : (State.seqCancel s).kept = s.kept := by
  simp [State.seqCancel]
@[simp] theorem State.safeAll_kept (s : State) : (State.safeAll s).kept = s.kept := by
  simp [State.safeAll]
@[simp] theorem State.portsDeadAll_kept (s : State) : (State.portsDeadAll s).kept = s.kept := by
  simp [State.portsDeadAll]
@[simp] theorem State.seqStop_kept (s : State) (cause : Nat) : (State.seqStop s cause).kept = s.kept := by
  simp [State.seqStop]
@[simp] theorem State.seqArm_kept (s : State) : (State.seqArm s).kept = s.kept := by
  simp [State.seqArm]
@[simp] theorem State.seqUnload_kept (s : State) : (State.seqUnload s).kept = s.kept := by
  simp [State.seqUnload]
@[simp] theorem State.liftGate_kept (s : State) : (State.liftGate s).kept = s.kept := by
  simp [State.liftGate]
@[simp] theorem State.seqRun_kept (s : State) : (State.seqRun s).kept = s.kept := by
  simp [State.seqRun]
@[simp] theorem State.seqMeet_kept (s : State) : (State.seqMeet s).kept = s.kept := by
  simp [State.seqMeet]
@[simp] theorem State.systemPlls_kept (s : State) : (State.systemPlls s).kept = s.kept := by
  simp [State.systemPlls]
@[simp] theorem State.lockAt_kept (s : State) (mult : Nat) : (State.lockAt s mult).kept = s.kept := by
  simp [State.lockAt]
@[simp] theorem State.levelInForce_kept (s : State) (level : Nat) : (State.levelInForce s level).kept = s.kept := by
  simp [State.levelInForce]
@[simp] theorem State.wakeHolds_kept (s : State) (mid : Nat) : (State.wakeHolds s mid).kept = s.kept := by
  simp [State.wakeHolds]
@[simp] theorem State.rgnWrite_kept (s : State) (r : Nat) (e : RgnEntry) : (State.rgnWrite s r e).kept = s.kept := by
  simp [State.rgnWrite]
@[simp] theorem State.setPhase_kept (s : State) (p : Nat) : (State.setPhase s p).kept = s.kept := by
  simp [State.setPhase]
@[simp] theorem State.beginStream_kept (s : State) (src index : Nat) : (State.beginStream s src index).kept = s.kept := by
  simp [State.beginStream]
@[simp] theorem State.fullFails_kept (s : State) (code : Status) : (State.fullFails s code).kept = s.kept := by
  unfold State.fullFails
  split <;> simp
@[simp] theorem State.regionPending_kept (s : State) (m : Nat) (b : Bool) : (State.regionPending s m b).kept = s.kept := by
  simp [State.regionPending]
@[simp] theorem State.regionReady_kept (s : State) (m : Nat) (b : Bool) : (State.regionReady s m b).kept = s.kept := by
  simp [State.regionReady]
@[simp] theorem State.haltedBit_kept (s : State) : (State.haltedBit s).kept = s.kept := by
  simp [State.haltedBit]
@[simp] theorem State.changeOver_kept (s : State) (code : Status) : (State.changeOver s code).kept = s.kept := by
  simp [State.changeOver]
@[simp] theorem State.changeFails_kept (s : State) (c : Change) (code : Status) : (State.changeFails s c code).kept = s.kept := by
  unfold State.changeFails
  repeat' first
    | rfl
    | (simp [*]; done)
    | split
    | (simp only [apply_ite State.kept])
    | (refine (State.foldl_kept _ _ _ ?_).trans ?_)
    | intro _
@[simp] theorem State.loadFails_kept (s : State) (code : Status) : (State.loadFails s code).kept = s.kept := by
  unfold State.loadFails
  split <;> simp
@[simp] theorem State.checkFails_kept (s : State) (chk sec seq : Nat) : (State.checkFails s chk sec seq).kept = s.kept := by
  simp [State.checkFails]
@[simp] theorem State.regionFault_kept (s : State) (c : Change) (cause vs : Nat) : (State.regionFault s c cause vs).kept = s.kept := by
  simp [State.regionFault]
@[simp] theorem State.haltSorus_kept (s : State) (n : Nat) (hold : Bool) : (State.haltSorus s n hold).kept = s.kept := by
  simp [State.haltSorus]
@[simp] theorem State.haltRegion_kept (s : State) : (State.haltRegion s).kept = s.kept := by
  unfold State.haltRegion
  split <;> simp
@[simp] theorem State.patchSlots_kept (s : State) (n v : Nat) (ps : List (Bool × Nat × Nat × Word64)) : (State.patchSlots s n v ps).kept = s.kept := by
  simp [State.patchSlots]
@[simp] theorem State.swapPorts_kept (s : State) (n old new : Nat) : (s.swapPorts n old new).kept = s.kept := by
  unfold State.swapPorts
  refine State.foldl_kept _ _ _ fun x b => ?_
  dsimp only
  split
  · rfl
  · split
    · rw [State.kept_mk, State.kept_fold1, State.kept_fold2, State.setFlag_kept]
    · rw [State.setFlag_kept]
@[simp] theorem State.swapPage_kept (s : State) (c : Change) (v : Nat) : (State.swapPage s c v).kept.1 = s.kept.1 := by
  simp [State.swapPage]
@[simp] theorem State.freshSorus_kept (s : State) (n : Nat) : (State.freshSorus s n).kept = s.kept := by
  simp [State.freshSorus]
@[simp] theorem State.moveGrants_kept (s : State) (old new : Nat) : (State.moveGrants s old new).kept = s.kept := by
  simp [State.moveGrants]
@[simp] theorem State.markBad_kept (s : State) (n : Nat) : (State.markBad s n).kept = s.kept := by
  simp [State.markBad]
@[simp] theorem State.remap_kept (s : State) (v new : Nat) (mark : Bool) : (State.remap s v new mark).kept = s.kept := by
  simp [State.remap]
@[simp] theorem State.replaceOwn_kept (s : State) (c : Change) : (State.replaceOwn s c).kept = s.kept := by
  simp [State.replaceOwn]
@[simp] theorem State.settleBytes_kept (s : State) (vs : List Nat) : (State.settleBytes s vs).kept = s.kept := by
  unfold State.settleBytes
  split <;> simp
@[simp] theorem State.changeApplies_kept (s : State) (c : Change) : (State.changeApplies s c).kept.1 = s.kept.1 := by
  unfold State.changeApplies
  repeat' first
    | rfl
    | (simp [*]; done)
    | split
    | (simp only [apply_ite State.kept])
    | (refine (State.foldl_kept1 _ _ _ ?_).trans ?_)
    | intro _
@[simp] theorem State.changesAt_kept (s : State) (turn : Nat) : (State.changesAt s turn).kept.1 = s.kept.1 := by
  unfold State.changesAt
  split <;> simp
@[simp] theorem State.changeReady_kept (s : State) (c : Change) : (State.changeReady s c).kept.1 = s.kept.1 := by
  simp [State.changeReady]
@[simp] theorem State.ldrRefuse_kept (s : State) (code : Status) : (State.ldrRefuse s code).kept = s.kept := by
  simp [State.ldrRefuse]
@[simp] theorem State.ldrAccept_kept (s : State) : (State.ldrAccept s).kept = s.kept := by
  simp [State.ldrAccept]
@[simp] theorem State.loadRequest_kept (s : State) (v : Word32) : (State.loadRequest s v).kept = s.kept := by
  simp [State.loadRequest]
@[simp] theorem State.clearSorus_kept (s : State) (n : Nat) : (State.clearSorus s n).kept = s.kept := by
  simp [State.clearSorus]
@[simp] theorem State.changeBegins_kept (s : State) (mid : Mid) (v : Word32) : (State.changeBegins s mid v).kept.1 = s.kept.1 := by
  unfold State.changeBegins
  repeat' first
    | rfl
    | (simp [*]; done)
    | split
    | (simp only [apply_ite State.kept])
    | (refine (State.foldl_kept1 _ _ _ ?_).trans ?_)
    | intro _
@[simp] theorem State.loadFull_kept (s : State) (v : Word32) : (State.loadFull s v).kept = s.kept := by
  unfold State.loadFull
  split <;> simp
@[simp] theorem State.ldrAbort_kept (s : State) : (State.ldrAbort s).kept = s.kept := by
  unfold State.ldrAbort
  split <;> simp
@[simp] theorem State.ldrCommand_kept (s : State) (mid : Mid) (v : Word32) : (State.ldrCommand s mid v).kept.1 = s.kept.1 := by
  unfold State.ldrCommand
  (repeat' split) <;> simp
@[simp] theorem State.ldrCmd_kept (s : State) (mid : Mid) (v : Word32) (code : Nat) : (State.ldrCmd s mid v code).kept.1 = s.kept.1 := by
  simp [State.ldrCmd]
@[simp] theorem execLoadFull_kept (mid : Mid) (value : Word32) (s : State) : queueOf (execLoadFull mid value s) = some s.kept.1 := by
  simp [execLoadFull]
@[simp] theorem execLoadPartial_kept (mid : Mid) (value : Word32) (s : State) : queueOf (execLoadPartial mid value s) = some s.kept.1 := by
  simp [execLoadPartial]
@[simp] theorem execLdrRepair_kept (mid : Mid) (value : Word32) (s : State) : queueOf (execLdrRepair mid value s) = some s.kept.1 := by
  simp [execLdrRepair]
@[simp] theorem execLdrSwap_kept (mid : Mid) (value : Word32) (s : State) : queueOf (execLdrSwap mid value s) = some s.kept.1 := by
  simp [execLdrSwap]
@[simp] theorem execLdrAbort_kept (mid : Mid) (value : Word32) (s : State) : queueOf (execLdrAbort mid value s) = some s.kept.1 := by
  simp [execLdrAbort]
@[simp] theorem State.takeStream_kept (s : State) (bytes : List Byte) : (State.takeStream s bytes).kept = s.kept := by
  simp [State.takeStream]
@[simp] theorem State.phaseOn_kept (s : State) (bytes : List Byte) (f : State → State) (hf : ∀ x, (f x).kept = x.kept) : (State.phaseOn s bytes f).kept = s.kept := by
  unfold State.phaseOn
  (repeat' split) <;> simp [*]
@[simp] theorem State.phaseOn_kept1 (s : State) (bytes : List Byte) (f : State → State) (hf : ∀ x, (f x).kept.1 = x.kept.1) : (State.phaseOn s bytes f).kept.1 = s.kept.1 := by
  unfold State.phaseOn
  (repeat' split) <;> simp [*]
@[simp] theorem State.toStage_kept (s : State) (p : Nat) : (State.toStage s p).kept = s.kept := by
  unfold State.toStage
  split <;> simp
@[simp] theorem State.headerRun_kept (s : State) : (State.headerRun s).kept = s.kept := by
  unfold State.headerRun
  repeat' first
    | rfl
    | (simp [*]; done)
    | split
    | (simp only [apply_ite State.kept])
    | (refine (State.foldl_kept _ _ _ ?_).trans ?_)
    | intro _
@[simp] theorem State.clockRun_kept (s : State) : (State.clockRun s).kept = s.kept := by
  unfold State.clockRun
  split <;> simp
@[simp] theorem State.mapSori_kept (s : State) (m : List Nat) : (State.mapSori s m).kept = s.kept := by
  simp [State.mapSori]
@[simp] theorem State.checkPassed_kept (s : State) (m : List Nat) (own seqb : List Byte) : (State.checkPassed s m own seqb).kept = s.kept := by
  simp [State.checkPassed]
@[simp] theorem State.checkFull_kept (s : State) : (State.checkFull s).kept = s.kept := by
  unfold State.checkFull
  (repeat' split) <;> simp
@[simp] theorem State.checkPartial_kept (s : State) (c : Change) : (State.checkPartial s c).kept = s.kept := by
  unfold State.checkPartial
  (repeat' split) <;> simp
@[simp] theorem State.hbmRun_kept (s : State) : (State.hbmRun s).kept = s.kept := by
  unfold State.hbmRun
  split <;> simp
@[simp] theorem State.goldenLive_kept (s : State) : (State.goldenLive s).kept.1 = s.kept.1 := by
  simp [State.goldenLive]
@[simp] theorem State.fillDevice_kept (s : State) : (State.fillDevice s).kept.1 = s.kept.1 := by
  simp [State.fillDevice]
@[simp] theorem State.hbmTables_kept (s : State) (b : List Byte) : (State.hbmTables s b).kept = s.kept := by
  simp [State.hbmTables]
@[simp] theorem execPhyTrainingDone_kept (s : State) : queueOf (execPhyTrainingDone s) = some s.kept.1 := by
  unfold execPhyTrainingDone
  dsimp only
  (repeat' split) <;> simp [*]
@[simp] theorem execTrainFail_kept (s : State) : keptOf (execTrainFail s) = some s.kept := by
  simp [execTrainFail]
@[simp] theorem execLeaderPauseEnd_kept (s : State) : keptOf (execLeaderPauseEnd s) = some s.kept := by
  simp [execLeaderPauseEnd]
@[simp] theorem State.folioUnit_kept (s : State) (h : FrameHdr) (u : Nat) (w : Word64) : (State.folioUnit s h u w).kept.1 = s.kept.1 := by
  unfold State.folioUnit
  split <;> simp
@[simp] theorem State.writeUnits_kept (s : State) (x : ImgSection) (h : FrameHdr) (us : List Word64) : (State.writeUnits s x h us).kept.1 = s.kept.1 := by
  simp [State.writeUnits]
@[simp] theorem State.afterFrame_kept (s : State) (pos seq : Nat) : (State.afterFrame s pos seq).kept = s.kept := by
  simp [State.afterFrame]
@[simp] theorem State.frameIn_kept (s : State) (x : ImgSection) (i pos seq : Nat) : (State.frameIn s x i pos seq).kept.1 = s.kept.1 := by
  unfold State.frameIn
  repeat' first
    | rfl
    | (simp [*]; done)
    | split
    | (simp only [apply_ite State.kept])
    | (refine (State.foldl_kept1 _ _ _ ?_).trans ?_)
    | intro _
@[simp] theorem State.essentialIn_kept (s : State) (x : ImgSection) (pos : Nat) : (State.essentialIn s x pos).kept.1 = s.kept.1 := by
  unfold State.essentialIn
  (repeat' split) <;> simp
@[simp] theorem State.defaultRoutes_kept (s : State) : (State.defaultRoutes s).kept.1 = s.kept.1 := by
  simp [State.defaultRoutes]
@[simp] theorem State.framesEnd_kept (s : State) : (State.framesEnd s).kept.1 = s.kept.1 := by
  unfold State.framesEnd
  split <;> simp
@[simp] theorem State.frameRun_kept (s : State) : (State.frameRun s).kept.1 = s.kept.1 := by
  unfold State.frameRun
  split <;> simp
@[simp] theorem State.recordFolios_kept (s : State) : (State.recordFolios s).kept = s.kept := by
  simp [State.recordFolios]
@[simp] theorem State.verified_kept (s : State) (identity block : List Byte) : (State.verified s identity block).kept = s.kept := by
  simp [State.verified]
@[simp] theorem State.verifyRun_kept (s : State) : (State.verifyRun s).kept = s.kept := by
  unfold State.verifyRun
  (repeat' split) <;> simp
@[simp] theorem State.completeChange_kept (s : State) : (State.completeChange s).kept.1 = s.kept.1 := by
  unfold State.completeChange
  split <;> simp
@[simp] theorem execHeaderPhase_kept (bytes : List Byte) (s : State) : keptOf (execHeaderPhase bytes s) = some s.kept := by
  simp [execHeaderPhase]
@[simp] theorem execClockPhase_kept (bytes : List Byte) (s : State) : keptOf (execClockPhase bytes s) = some s.kept := by
  simp [execClockPhase]
@[simp] theorem execCheckPhase_kept (bytes : List Byte) (s : State) : keptOf (execCheckPhase bytes s) = some s.kept := by
  simp only [execCheckPhase, keptOf_next]
  split
  · rw [State.phaseOn_kept]
    intro x; split <;> simp
  · rfl
@[simp] theorem execHbmPhase_kept (bytes : List Byte) (s : State) : keptOf (execHbmPhase bytes s) = some s.kept := by
  simp [execHbmPhase]
@[simp] theorem execImageFrame_kept (bytes : List Byte) (s : State) : queueOf (execImageFrame bytes s) = some s.kept.1 := by
  simp [execImageFrame]
@[simp] theorem execVerifyPhase_kept (bytes : List Byte) (s : State) : keptOf (execVerifyPhase bytes s) = some s.kept := by
  simp [execVerifyPhase]
@[simp] theorem execPartialLoadComplete_kept (bytes : List Byte) (s : State) : queueOf (execPartialLoadComplete bytes s) = some s.kept.1 := by
  simp [execPartialLoadComplete]
@[simp] theorem State.fifoWrite_kept (s : State) (bytes : List Byte) : (State.fifoWrite s bytes).kept = s.kept := by
  simp [State.fifoWrite]
@[simp] theorem execLdrFifoWrite_kept (mid : Mid) (bytes : List Byte) (s : State) : keptOf (execLdrFifoWrite mid bytes s) = some s.kept := by
  simp [execLdrFifoWrite]
@[simp] theorem State.claimRefused_kept (s : State) (code : Status) : (State.claimRefused s code).kept = s.kept := by
  simp [State.claimRefused]
@[simp] theorem State.claimRun_kept (s : State) (mid : Mid) (cls idx : Nat) : (State.claimRun s mid cls idx).kept = s.kept := by
  simp [State.claimRun]
@[simp] theorem State.releaseRun_kept (s : State) (mid : Mid) (cls idx : Nat) : (State.releaseRun s mid cls idx).kept = s.kept := by
  simp [State.releaseRun]
@[simp] theorem State.claimWrite_kept (s : State) (mid : Mid) (v : Word32) : (State.claimWrite s mid v).kept = s.kept := by
  simp [State.claimWrite]
@[simp] theorem execLdrClaim_kept (mid : Mid) (cls : Byte) (idx : BitVec 16) (s : State) : keptOf (execLdrClaim mid cls idx s) = some s.kept := by
  simp [execLdrClaim]
@[simp] theorem execLdrRelease_kept (mid : Mid) (cls : Byte) (idx : BitVec 16) (s : State) : keptOf (execLdrRelease mid cls idx s) = some s.kept := by
  simp [execLdrRelease]
@[simp] theorem State.ldrRegWrite_kept (s : State) (mid : Mid) (a : Nat) (v : Word32) : (State.ldrRegWrite s mid a v).kept.1 = s.kept.1 := by
  simp [State.ldrRegWrite]
@[simp] theorem State.ldrRegRead_kept (s : State) (a : Nat) : (State.ldrRegRead s a).kept = s.kept := by
  simp [State.ldrRegRead]
@[simp] theorem State.digestOpen_kept (s : State) : (State.digestOpen s).kept = s.kept := by
  simp [State.digestOpen]
@[simp] theorem State.digestStep_kept (s : State) : (State.digestStep s).kept = s.kept := by
  simp [State.digestStep]
@[simp] theorem State.digestClose_kept (s : State) (health : Bool) : (State.digestClose s health).kept = s.kept := by
  simp [State.digestClose]
@[simp] theorem State.missCheck_kept (s : State) : (State.missCheck s).kept = s.kept := by
  simp [State.missCheck]
@[simp] theorem State.hbLoss_kept (s : State) : (State.hbLoss s).kept = s.kept := by
  simp [State.hbLoss]
@[simp] theorem State.hbSend_kept (s : State) : (State.hbSend s).kept = s.kept := by
  unfold State.hbSend
  split <;> simp
@[simp] theorem State.ownAt_kept (s : State) : (State.ownAt s).kept = s.kept := by
  unfold State.ownAt
  split <;> simp
@[simp] theorem State.ownPin_kept (s : State) : (State.ownPin s).kept = s.kept := by
  unfold State.ownPin
  split <;> simp
@[simp] theorem State.acqRebase_kept (s : State) : (State.acqRebase s).kept = s.kept := by
  simp [State.acqRebase]
@[simp] theorem State.rsRecord_kept (s : State) : (State.rsRecord s).kept = s.kept := by
  simp [State.rsRecord]
@[simp] theorem State.rsJoin_kept (s : State) : (State.rsJoin s).kept = s.kept := by
  simp [State.rsJoin]
@[simp] theorem State.twinTurn_kept (s : State) : (State.twinTurn s).kept = s.kept := by
  simp [State.twinTurn]
@[simp] theorem State.twinPump_kept (s : State) : (State.twinPump s).kept = s.kept := by
  unfold State.twinPump
  repeat' first
    | rfl
    | (simp [*]; done)
    | split
    | (simp only [apply_ite State.kept])
    | (refine (State.foldl_kept _ _ _ ?_).trans ?_)
    | intro _
@[simp] theorem State.stepRun_kept (s : State) : (State.stepRun s).kept.1 = s.kept.1 := by
  simp [State.stepRun]
@[simp] theorem State.stepFinish_kept (s : State) : (State.stepFinish s).kept.1 = s.kept.1 := by
  simp [State.stepFinish]
@[simp] theorem State.cmdDone_kept (s : State) : (State.cmdDone s).kept = s.kept := by
  unfold State.cmdDone
  split <;> simp
@[simp] theorem State.barSend_kept (s : State) (lane : Nat) (go vote : Bool) : (State.barSend s lane go vote).kept = s.kept := by
  simp [State.barSend]
@[simp] theorem State.barStep_kept (s : State) : (State.barStep s).kept = s.kept := by
  unfold State.barStep
  (repeat' split) <;> simp
@[simp] theorem State.levelBegin_kept (s : State) (level : Nat) : (State.levelBegin s level).kept = s.kept := by
  simp [State.levelBegin]
@[simp] theorem State.levelEnd_kept (s : State) (level : Nat) : (State.levelEnd s level).kept = s.kept := by
  simp [State.levelEnd]
@[simp] theorem State.probeOffer_kept (s : State) : (State.probeOffer s).kept = s.kept := by
  simp [State.probeOffer]
@[simp] theorem State.captureRecord_kept (s : State) : (State.captureRecord s).kept = s.kept := by
  simp [State.captureRecord]
@[simp] theorem State.captureWrite_kept (s : State) : (State.captureWrite s).kept.1 = s.kept.1 := by
  unfold State.captureWrite
  split <;> simp
@[simp] theorem execCaptureCopyDone_kept (s : State) : queueOf (execCaptureCopyDone s) = some s.kept.1 := by
  simp [execCaptureCopyDone]
@[simp] theorem execCaptureCopyFail_kept (code : Status) (s : State) : keptOf (execCaptureCopyFail code s) = some s.kept := by
  simp [execCaptureCopyFail]
@[simp] theorem State.freezeSorus_kept (s : State) (n : Nat) : (State.freezeSorus s n).kept = s.kept := by
  simp [State.freezeSorus]
@[simp] theorem State.freezes_kept (s : State) : (State.freezes s).kept = s.kept := by
  simp [State.freezes]
@[simp] theorem State.latchTime_kept (s : State) : (State.latchTime s).kept = s.kept := by
  simp [State.latchTime]
@[simp] theorem State.boundaryOrders_kept (s : State) : (State.boundaryOrders s).kept.1 = s.kept.1 := by
  simp [State.boundaryOrders]
@[simp] theorem State.seqPauseAt_kept (s : State) (cause : Nat) : (State.seqPauseAt s cause).kept = s.kept := by
  simp [State.seqPauseAt]
@[simp] theorem State.stallCounted_kept (s : State) : (State.stallCounted s).kept = s.kept := by
  simp [State.stallCounted]
@[simp] theorem State.goForward_kept (s : State) : (State.goForward s).kept = s.kept := by
  unfold State.goForward
  split <;> simp
@[simp] theorem State.turnCleared_kept (s : State) : (State.turnCleared s).kept = s.kept := by
  simp [State.turnCleared]
@[simp] theorem State.nextTurn_kept (s : State) : (State.nextTurn s).kept = s.kept := by
  simp [State.nextTurn]
@[simp] theorem State.boundaryComplete_kept (s : State) : (State.boundaryComplete s).kept.1 = s.kept.1 := by
  unfold State.boundaryComplete
  split <;> simp
@[simp] theorem State.boundaryTry_kept (s : State) : (State.boundaryTry s).kept.1 = s.kept.1 := by
  simp [State.boundaryTry]
@[simp] theorem State.boundaryElastic_kept (s : State) : (State.boundaryElastic s).kept.1 = s.kept.1 := by
  unfold State.boundaryElastic
  split <;> simp
@[simp] theorem State.boundary_kept (s : State) (refEdge : Bool) : (State.boundary s refEdge).kept.1 = s.kept.1 := by
  simp [State.boundary]
@[simp] theorem State.stallTry_kept (s : State) : (State.stallTry s).kept.1 = s.kept.1 := by
  simp [State.stallTry]
@[simp] theorem State.runCycle_kept (s : State) (refEdge : Bool) : (State.runCycle s refEdge).kept.1 = s.kept.1 := by
  simp [State.runCycle]
@[simp] theorem execTurnBoundary_kept (refEdge : Bool) (s : State) : queueOf (execTurnBoundary refEdge s) = some s.kept.1 := by
  simp [execTurnBoundary]
@[simp] theorem State.turnZero_kept (s : State) : (State.turnZero s).kept = s.kept := by
  unfold State.turnZero
  split <;> simp
@[simp] theorem execTurnZero_kept (s : State) : keptOf (execTurnZero s) = some s.kept := by
  simp [execTurnZero]
@[simp] theorem execStartCondition_kept (s : State) : keptOf (execStartCondition s) = some s.kept := by
  simp [execStartCondition]
@[simp] theorem execStallEnd_kept (s : State) : queueOf (execStallEnd s) = some s.kept.1 := by
  simp [execStallEnd]
@[simp] theorem execStallLong_kept (s : State) : keptOf (execStallLong s) = some s.kept := by
  simp [execStallLong]
@[simp] theorem execBarTmo_kept (s : State) : keptOf (execBarTmo s) = some s.kept := by
  simp [execBarTmo]
@[simp] theorem execBarReady_kept (lane : Fin 103) (turn : Word32) (vote : Bool) (s : State) : queueOf (execBarReady lane turn vote s) = some s.kept.1 := by
  simp [execBarReady]
@[simp] theorem execBarGo_kept (lane : Fin 103) (turn : Word32) (vote : Bool) (s : State) : queueOf (execBarGo lane turn vote s) = some s.kept.1 := by
  simp [execBarGo]
@[simp] theorem State.thermalStop_kept (s : State) : (State.thermalStop s).kept.1 = s.kept.1 := by
  unfold State.thermalStop
  split <;> simp
@[simp] theorem State.seqPend_kept (s : State) (v : Word32) : (State.seqPend s v).kept.1 = s.kept.1 := by
  simp [State.seqPend]
@[simp] theorem State.seqNow_kept (s : State) : (State.seqNow s).kept = s.kept := by
  simp [State.seqNow]
@[simp] theorem State.seqAccepted_kept (s : State) (v : Word32) : (State.seqAccepted s v).kept.1 = s.kept.1 := by
  unfold State.seqAccepted
  split <;> simp
@[simp] theorem State.seqCommand_kept (s : State) (v : Word32) : (State.seqCommand s v).kept.1 = s.kept.1 := by
  unfold State.seqCommand
  (repeat' split) <;> simp
@[simp] theorem State.seqCmd_kept (s : State) (v : Word32) (code : Nat) : (State.seqCmd s v code).kept.1 = s.kept.1 := by
  simp [State.seqCmd]
@[simp] theorem execSeqStart_kept (_mid : Mid) (value : Word32) (s : State) : queueOf (execSeqStart _mid value s) = some s.kept.1 := by
  simp [execSeqStart]
@[simp] theorem execSeqStop_kept (_mid : Mid) (value : Word32) (s : State) : queueOf (execSeqStop _mid value s) = some s.kept.1 := by
  simp [execSeqStop]
@[simp] theorem execSeqPause_kept (_mid : Mid) (value : Word32) (s : State) : queueOf (execSeqPause _mid value s) = some s.kept.1 := by
  simp [execSeqPause]
@[simp] theorem execSeqResume_kept (_mid : Mid) (value : Word32) (s : State) : queueOf (execSeqResume _mid value s) = some s.kept.1 := by
  simp [execSeqResume]
@[simp] theorem execSeqStep_kept (_mid : Mid) (value : Word32) (s : State) : queueOf (execSeqStep _mid value s) = some s.kept.1 := by
  simp [execSeqStep]
@[simp] theorem execSeqLevel_kept (_mid : Mid) (value : Word32) (s : State) : queueOf (execSeqLevel _mid value s) = some s.kept.1 := by
  simp [execSeqLevel]
@[simp] theorem execSeqCapture_kept (_mid : Mid) (value : Word32) (s : State) : queueOf (execSeqCapture _mid value s) = some s.kept.1 := by
  simp [execSeqCapture]
@[simp] theorem State.seqRegWrite_kept (s : State) (a : Nat) (v : Word32) : (State.seqRegWrite s a v).kept.1 = s.kept.1 := by
  simp [State.seqRegWrite]
@[simp] theorem State.seqRegRead_kept (s : State) (a : Nat) : (State.seqRegRead s a).kept = s.kept := by
  simp [State.seqRegRead]
@[simp] theorem execSeqTurnLoRead_kept (_mid : Mid) (s : State) : keptOf (execSeqTurnLoRead _mid s) = some s.kept := by
  simp [execSeqTurnLoRead]
@[simp] theorem State.scrubWord_kept (s : State) (p : BpId) : (State.scrubWord s p).kept = s.kept := by
  simp [State.scrubWord]
@[simp] theorem execScrubRead_kept (bp : BpId) (s : State) : keptOf (execScrubRead bp s) = some s.kept := by
  simp [execScrubRead]
@[simp] theorem execScrubWriteback_kept (bp : BpId) (word : Fin 1024) (s : State) : keptOf (execScrubWriteback bp word s) = some s.kept := by
  simp [execScrubWriteback]
@[simp] theorem execGoldenRestore_kept (bp : BpId) (word : Fin 1024) (ecc : EccFind) (s : State) : keptOf (execGoldenRestore bp word ecc s) = some s.kept := by
  unfold execGoldenRestore
  repeat' first
    | rfl
    | (simp [*]; done)
    | split
    | (simp only [apply_ite State.kept])
    | (refine (State.foldl_kept _ _ _ ?_).trans ?_)
    | intro _
@[simp] theorem State.passBegin_kept (s : State) : (State.passBegin s).kept = s.kept := by
  simp [State.passBegin]
@[simp] theorem State.compareWord_kept (s : State) (p : PassWord) (loc : Nat) (ecc : EccFind) : (State.compareWord s p loc ecc).kept = s.kept := by
  unfold State.compareWord
  split <;> simp
@[simp] theorem State.passDone_kept (s : State) : (State.passDone s).kept = s.kept := by
  simp [State.passDone]
@[simp] theorem execFrameCompare_kept (ecc : EccFind) (s : State) : keptOf (execFrameCompare ecc s) = some s.kept := by
  unfold execFrameCompare
  repeat' first
    | rfl
    | (simp [*]; done)
    | split
    | (simp only [apply_ite State.kept])
    | (refine (State.foldl_kept _ _ _ ?_).trans ?_)
    | intro _
@[simp] theorem execPassRestart_kept (s : State) : keptOf (execPassRestart s) = some s.kept := by
  simp [execPassRestart]
@[simp] theorem execSelfUpset_kept (s : State) : keptOf (execSelfUpset s) = some s.kept := by
  simp [execSelfUpset]
@[simp] theorem State.cnsRefuse_kept (s : State) : (State.cnsRefuse s).kept = s.kept := by
  simp [State.cnsRefuse]
@[simp] theorem State.cnsCtrl_kept (s : State) (v : Word32) : (State.cnsCtrl s v).kept = s.kept := by
  simp [State.cnsCtrl]
@[simp] theorem State.inject_kept (s : State) (v : Word32) : (State.inject s v).kept = s.kept := by
  simp [State.inject]
@[simp] theorem State.cnsRegWrite_kept (s : State) (mid : Mid) (a : Nat) (v : Word32) : (State.cnsRegWrite s mid a v).kept = s.kept := by
  simp [State.cnsRegWrite]
@[simp] theorem State.cnsRegRead_kept (s : State) (a : Nat) : (State.cnsRegRead s a).kept = s.kept := by
  simp [State.cnsRegRead]
@[simp] theorem execCnsInject_kept (mid : Mid) (value : Word32) (s : State) : keptOf (execCnsInject mid value s) = some s.kept := by
  simp [execCnsInject]
@[simp] theorem execCnsCtrlWrite_kept (mid : Mid) (value : Word32) (s : State) : keptOf (execCnsCtrlWrite mid value s) = some s.kept := by
  simp [execCnsCtrlWrite]
@[simp] theorem execCnsRec3Read_kept (mid : Mid) (s : State) : keptOf (execCnsRec3Read mid s) = some s.kept := by
  simp [execCnsRec3Read]
@[simp] theorem State.progNext_kept (s : State) : (State.progNext s).kept = s.kept := by
  simp [State.progNext]
@[simp] theorem State.progStep_kept (s : State) (op : Nat) (done : ProgEntry → Bool) (f : State → State) (hf : ∀ x, (f x).kept = x.kept) : (State.progStep s op done f).kept = s.kept := by
  unfold State.progStep
  (repeat' split) <;> simp [*]
@[simp] theorem State.progStep_kept1 (s : State) (op : Nat) (done : ProgEntry → Bool) (f : State → State) (hf : ∀ x, (f x).kept.1 = x.kept.1) : (State.progStep s op done f).kept.1 = s.kept.1 := by
  unfold State.progStep
  (repeat' split) <;> simp [*]
@[simp] theorem execProgEnd_kept (s : State) : keptOf (execProgEnd s) = some s.kept := by
  simp [execProgEnd]
@[simp] theorem execWaitQuads_kept (s : State) : keptOf (execWaitQuads s) = some s.kept := by
  simp [execWaitQuads]
@[simp] theorem execWaitTu_kept (s : State) : keptOf (execWaitTu s) = some s.kept := by
  simp [execWaitTu]
@[simp] theorem execWaitPin_kept (s : State) : keptOf (execWaitPin s) = some s.kept := by
  simp [execWaitPin]
@[simp] theorem execWaitTwin_kept (s : State) : keptOf (execWaitTwin s) = some s.kept := by
  simp [execWaitTwin]
@[simp] theorem execProgramDelay_kept (s : State) : keptOf (execProgramDelay s) = some s.kept := by
  simp [execProgramDelay]
@[simp] theorem execSyncDone_kept (s : State) : keptOf (execSyncDone s) = some s.kept := by
  simp [execSyncDone]
@[simp] theorem execProgStartSeq_kept (s : State) : queueOf (execProgStartSeq s) = some s.kept.1 := by
  simp [execProgStartSeq]
@[simp] theorem State.ownOut_kept (s : State) : (State.ownOut s).kept = s.kept := by
  simp [State.ownOut]
@[simp] theorem State.banksOut_kept (s : State) : (State.banksOut s).kept = s.kept := by
  simp [State.banksOut]
@[simp] theorem State.outPhase_kept (s : State) : (State.outPhase s).kept = s.kept := by
  simp [State.outPhase]
@[simp] theorem execProgOut_kept (s : State) : keptOf (execProgOut s) = some s.kept := by
  simp [execProgOut]
@[simp] theorem execEntryTimeout_kept (s : State) : keptOf (execEntryTimeout s) = some s.kept := by
  unfold execEntryTimeout
  split <;> simp
@[simp] theorem State.twinCtrl_kept (s : State) (op d1 : Nat) : (State.twinCtrl s op d1).kept = s.kept := by
  simp [State.twinCtrl]
@[simp] theorem State.twinRefuseCmd_kept (s : State) (code : Status) : (State.twinRefuseCmd s code).kept = s.kept := by
  simp [State.twinRefuseCmd]
@[simp] theorem State.pairModes_kept (s : State) (own : Bool) (seq : Nat) : (State.pairModes s own seq).kept = s.kept := by
  simp [State.pairModes]
@[simp] theorem State.pairIn_kept (s : State) (ident straps : Word32) (mode : Nat) (own en disc : Bool) (seq : Nat) (identity : List Byte) : (State.pairIn s ident straps mode own en disc seq identity).kept = s.kept := by
  simp [State.pairIn]
@[simp] theorem execTwinPair_kept (ident straps : Word32) (mode : BitVec 2) (own en disc : Bool) (seq : BitVec 3) (identity : List Byte) (s : State) : keptOf (execTwinPair ident straps mode own en disc seq identity s) = some s.kept := by
  simp [execTwinPair]
@[simp] theorem State.mirrorConfig_kept (s : State) : (State.mirrorConfig s).kept = s.kept := by
  simp [State.mirrorConfig]
@[simp] theorem State.hbMet_kept (s : State) (turn : Nat) : (State.hbMet s turn).kept = s.kept := by
  simp [State.hbMet]
@[simp] theorem State.hbLag_kept (s : State) (turn : Nat) : (State.hbLag s turn).kept = s.kept := by
  simp [State.hbLag]
@[simp] theorem State.diverge_kept (s : State) (turn : Nat) (health : Bool) : (State.diverge s turn health).kept = s.kept := by
  simp [State.diverge]
@[simp] theorem State.verifyHb_kept (s : State) (turn : Nat) (d : Word64) : (State.verifyHb s turn d).kept = s.kept := by
  unfold State.verifyHb
  split <;> simp
@[simp] theorem execTwinHb_kept (turn digest : Word64) (health own : Bool) (mode : BitVec 2) (dvalid : Bool) (s : State) : keptOf (execTwinHb turn digest health own mode dvalid s) = some s.kept := by
  simp [execTwinHb]
@[simp] theorem execTwinHbSend_kept (s : State) : keptOf (execTwinHbSend s) = some s.kept := by
  simp [execTwinHbSend]
@[simp] theorem execTwinHbLoss_kept (s : State) : keptOf (execTwinHbLoss s) = some s.kept := by
  simp [execTwinHbLoss]
@[simp] theorem State.twinAccept_kept (s : State) : (State.twinAccept s).kept = s.kept := by
  simp [State.twinAccept]
@[simp] theorem State.resyncCmd_kept (s : State) : (State.resyncCmd s).kept = s.kept := by
  simp [State.resyncCmd]
@[simp] theorem State.handoverCmd_kept (s : State) : (State.handoverCmd s).kept = s.kept := by
  simp [State.handoverCmd]
@[simp] theorem State.abortCmd_kept (s : State) : (State.abortCmd s).kept = s.kept := by
  simp [State.abortCmd]
@[simp] theorem State.claimCmd_kept (s : State) : (State.claimCmd s).kept = s.kept := by
  simp [State.claimCmd]
@[simp] theorem State.twinCommand_kept (s : State) (mid : Mid) (code : Nat) : (State.twinCommand s mid code).kept = s.kept := by
  unfold State.twinCommand
  (repeat' split) <;> simp
@[simp] theorem State.twinCmd_kept (s : State) (mid : Mid) (code : Nat) : (State.twinCmd s mid code).kept = s.kept := by
  simp [State.twinCmd]
@[simp] theorem execTwinResync_kept (mid : Mid) (s : State) : keptOf (execTwinResync mid s) = some s.kept := by
  simp [execTwinResync]
@[simp] theorem execTwinHandover_kept (mid : Mid) (s : State) : keptOf (execTwinHandover mid s) = some s.kept := by
  simp [execTwinHandover]
@[simp] theorem execTwinAbort_kept (mid : Mid) (s : State) : keptOf (execTwinAbort mid s) = some s.kept := by
  simp [execTwinAbort]
@[simp] theorem execTwinClaim_kept (mid : Mid) (s : State) : keptOf (execTwinClaim mid s) = some s.kept := by
  simp [execTwinClaim]
@[simp] theorem State.paired_kept (s : State) (f : State → State) (hf : ∀ x, (f x).kept = x.kept) : (State.paired s f).kept = s.kept := by
  unfold State.paired
  (repeat' split) <;> simp [*]
@[simp] theorem State.paired_kept1 (s : State) (f : State → State) (hf : ∀ x, (f x).kept.1 = x.kept.1) : (State.paired s f).kept.1 = s.kept.1 := by
  unfold State.paired
  (repeat' split) <;> simp [*]
@[simp] theorem execTwinRsReq_kept (s : State) : keptOf (execTwinRsReq s) = some s.kept := by
  simp [execTwinRsReq]
@[simp] theorem execTwinTstart_kept (j0 d2 : Word64) (s : State) : keptOf (execTwinTstart j0 d2 s) = some s.kept := by
  simp [execTwinTstart]

end Sys2Proof.Machine
end

