-- ==== Sys2Proof/Laws/Kept04.lean ====
section
/-! SUPPORT.  What the operations of the machine keep, part 4. -/

namespace Sys2Proof.Machine

@[simp] theorem execTwinJoin_kept (turn : Word64) (s : State) : keptOf (execTwinJoin turn s) = some s.kept := by
  simp [execTwinJoin]
@[simp] theorem execCtrlHandover_kept (turn : Word64) (s : State) : keptOf (execCtrlHandover turn s) = some s.kept := by
  simp [execCtrlHandover]
@[simp] theorem execTwinHoAck_kept (turn : Word64) (s : State) : keptOf (execTwinHoAck turn s) = some s.kept := by
  simp [execTwinHoAck]
@[simp] theorem execTwinRefuse_kept (code : Status) (s : State) : keptOf (execTwinRefuse code s) = some s.kept := by
  simp [execTwinRefuse]
@[simp] theorem execCtrlAbort_kept (cause : BitVec 3) (s : State) : keptOf (execCtrlAbort cause s) = some s.kept := by
  simp [execCtrlAbort]
@[simp] theorem execTwinLoadreq_kept (bytes : List Byte) (s : State) : keptOf (execTwinLoadreq bytes s) = some s.kept := by
  simp [execTwinLoadreq]
@[simp] theorem State.slotIn_kept (s : State) (v f k : Nat) (w : Word64) : (State.slotIn s v f k w).kept = s.kept := by
  simp [State.slotIn]
@[simp] theorem State.snapBlock_kept (s : State) (v : Nat) (b : List Byte) : (State.snapBlock s v b).kept = s.kept := by
  simp [State.snapBlock]
@[simp] theorem State.snapHead_kept (s : State) (b : List Byte) : (State.snapHead s b).kept = s.kept := by
  simp [State.snapHead]
@[simp] theorem State.snapIn_kept (s : State) (offset : Nat) (bytes : List Byte) : (State.snapIn s offset bytes).kept = s.kept := by
  simp [State.snapIn]
@[simp] theorem execTwinSnap_kept (offset : Nat) (bytes : List Byte) (s : State) : keptOf (execTwinSnap offset bytes s) = some s.kept := by
  simp [execTwinSnap]
@[simp] theorem State.logIn_kept (s : State) (e : Word64 × Word64) : (State.logIn s e).kept.1 = s.kept.1 := by
  unfold State.logIn
  repeat' first
    | rfl
    | (simp [*]; done)
    | split
    | (simp only [apply_ite State.kept])
    | (refine (State.foldl_kept1 _ _ _ ?_).trans ?_)
    | intro _
@[simp] theorem execTwinLog_kept (entries : List (Word64 × Word64)) (s : State) : queueOf (execTwinLog entries s) = some s.kept.1 := by
  simp [execTwinLog]
@[simp] theorem execTwinHbmcopy_kept (block : BitVec 24) (words : List Word64) (s : State) : queueOf (execTwinHbmcopy block words s) = some s.kept.1 := by
  simp [execTwinHbmcopy]
@[simp] theorem execTwinNotice_kept (event : Fin 512) (sev : BitVec 2) (s : State) : keptOf (execTwinNotice event sev s) = some s.kept := by
  simp [execTwinNotice]
@[simp] theorem execTwinLoad_kept (bytes : List Byte) (s : State) : keptOf (execTwinLoad bytes s) = some s.kept := by
  simp [execTwinLoad]
@[simp] theorem execTwinPing_kept (count : Word32) (s : State) : keptOf (execTwinPing count s) = some s.kept := by
  simp [execTwinPing]
@[simp] theorem execEchoSend_kept (s : State) : keptOf (execEchoSend s) = some s.kept := by
  unfold execEchoSend
  split <;> simp
@[simp] theorem execTwinEcho_kept (arg : Word32) (s : State) : keptOf (execTwinEcho arg s) = some s.kept := by
  simp [execTwinEcho]
@[simp] theorem State.raccSend_kept (s : State) : (State.raccSend s).kept = s.kept := by
  simp [State.raccSend]
@[simp] theorem State.twnRegWrite_kept (s : State) (mid : Mid) (a : Nat) (v : Word32) : (State.twnRegWrite s mid a v).kept = s.kept := by
  simp [State.twnRegWrite]
@[simp] theorem State.twnRegRead_kept (s : State) (a : Nat) : (State.twnRegRead s a).kept = s.kept := by
  unfold State.twnRegRead
  (repeat' split) <;> simp
@[simp] theorem execRaccGo_kept (mid : Mid) (value : Word32) (s : State) : keptOf (execRaccGo mid value s) = some s.kept := by
  simp [execRaccGo]
@[simp] theorem State.raccDone_kept (s : State) (code : Status) : (State.raccDone s code).kept = s.kept := by
  simp [State.raccDone]
@[simp] theorem execRaccTimeout_kept (s : State) : keptOf (execRaccTimeout s) = some s.kept := by
  simp [execRaccTimeout]
@[simp] theorem execMatchTimeout_kept (s : State) : keptOf (execMatchTimeout s) = some s.kept := by
  unfold execMatchTimeout
  split <;> simp
@[simp] theorem execTwnNoticeRead_kept (mid : Mid) (s : State) : keptOf (execTwnNoticeRead mid s) = some s.kept := by
  simp [execTwnNoticeRead]
@[simp] theorem State.sampleStraps_kept (s : State) (bootsel devnum : Nat) (role : Bool) : (State.sampleStraps s bootsel devnum role).kept = s.kept := by
  simp [State.sampleStraps]
@[simp] theorem State.measureRef_kept (s : State) (khz : Nat) : (State.measureRef s khz).kept = s.kept := by
  simp [State.measureRef]
@[simp] theorem State.checkGrade_kept (s : State) : (State.checkGrade s).kept = s.kept := by
  simp [State.checkGrade]
@[simp] theorem execPorstNRelease_kept (bootsel : BitVec 3) (devnum : BitVec 6) (role : Bool) (refKhz : Nat) (s : State) : keptOf (execPorstNRelease bootsel devnum role refKhz s) = some s.kept := by
  simp [execPorstNRelease]
@[simp] theorem execRpllLock_kept (phase : BitVec 8) (s : State) : keptOf (execRpllLock phase s) = some s.kept := by
  simp [execRpllLock]
@[simp] theorem execRefclk0Loss_kept (s : State) : keptOf (execRefclk0Loss s) = some s.kept := by
  simp [execRefclk0Loss]
@[simp] theorem State.clkCtrlWrite_kept (s : State) (v : Word32) : (State.clkCtrlWrite s v).kept = s.kept := by
  simp [State.clkCtrlWrite]
@[simp] theorem State.clkRegWrite_kept (s : State) (a : Nat) (v : Word32) : (State.clkRegWrite s a v).kept = s.kept := by
  simp [State.clkRegWrite]
@[simp] theorem execRelock_kept (_mid : Mid) (s : State) : keptOf (execRelock _mid s) = some s.kept := by
  simp [execRelock]
@[simp] theorem State.portConfig_kept (s : State) (p : Nat) (v : Word32) : (State.portConfig s p v).kept = s.kept := by
  simp [State.portConfig]
@[simp] theorem State.tpWrite_kept (s : State) (mid : Mid) (p : Nat) (v : Word32) : (State.tpWrite s mid p v).kept = s.kept := by
  simp [State.tpWrite]
@[simp] theorem execTimingPortConfig_kept (mid : Mid) (port : Fin 2) (value : Word32) (s : State) : keptOf (execTimingPortConfig mid port value s) = some s.kept := by
  simp [execTimingPortConfig]
@[simp] theorem State.fire_kept (s : State) (n : Nat) : (State.fire s n).kept = s.kept := by
  simp [State.fire]
@[simp] theorem execComparatorFire_kept (tc : Fin 16) (s : State) : keptOf (execComparatorFire tc s) = some s.kept := by
  simp [execComparatorFire]
@[simp] theorem State.thermalTrip_kept (s : State) : (State.thermalTrip s).kept = s.kept := by
  simp [State.thermalTrip]
@[simp] theorem State.thermalUpdate_kept (s : State) : (State.thermalUpdate s).kept.1 = s.kept.1 := by
  unfold State.thermalUpdate
  split <;> simp
@[simp] theorem State.vccioSample_kept (s : State) (x : Sensor) (v : Nat) : (State.vccioSample s x v).kept = s.kept := by
  unfold State.vccioSample
  split <;> simp
@[simp] theorem execSensorSample_kept (sensor : Sensor) (value : BitVec 16) (s : State) : queueOf (execSensorSample sensor value s) = some s.kept.1 := by
  simp [execSensorSample]
@[simp] theorem State.stallAgain_kept (s : State) : (State.stallAgain s).kept.1 = s.kept.1 := by
  simp [State.stallAgain]
@[simp] theorem execVoltageInForce_kept (s : State) : queueOf (execVoltageInForce s) = some s.kept.1 := by
  simp [execVoltageInForce]
@[simp] theorem execVoltageTimeout_kept (s : State) : queueOf (execVoltageTimeout s) = some s.kept.1 := by
  unfold execVoltageTimeout
  split <;> simp
@[simp] theorem execThrottleEnd_kept (s : State) : queueOf (execThrottleEnd s) = some s.kept.1 := by
  simp [execThrottleEnd]
@[simp] theorem State.coreAt_kept (s : State) (k addr : Nat) : (State.coreAt s k addr).kept = s.kept := by
  simp [State.coreAt]
@[simp] theorem State.startCause_kept (s : State) (k cause : Nat) : (State.startCause s k cause).kept = s.kept := by
  simp [State.startCause]
@[simp] theorem State.coreRestart_kept (s : State) (k cause : Nat) : (State.coreRestart s k cause).kept = s.kept := by
  simp [State.coreRestart]
@[simp] theorem State.coreOneRun_kept (s : State) (was now : Bool) : (State.coreOneRun s was now).kept = s.kept := by
  simp [State.coreOneRun]
@[simp] theorem State.fwReload_kept (s : State) : (State.fwReload s).kept = s.kept := by
  simp [State.fwReload]
@[simp] theorem State.libCtrlWrite_kept (s : State) (mid : Mid) (v : Word32) : (State.libCtrlWrite s mid v).kept = s.kept := by
  simp [State.libCtrlWrite]
@[simp] theorem State.libCtrlBits_kept (s : State) (mid : Mid) (set clear : Word32) : (State.libCtrlBits s mid set clear).kept = s.kept := by
  simp [State.libCtrlBits]
@[simp] theorem execC1Run_kept (mid : Mid) (run : Bool) (s : State) : keptOf (execC1Run mid run s) = some s.kept := by
  simp [execC1Run]
@[simp] theorem execCoreReset_kept (mid : Mid) (core : Fin 2) (s : State) : keptOf (execCoreReset mid core s) = some s.kept := by
  simp [execCoreReset]
@[simp] theorem execFwReload_kept (mid : Mid) (s : State) : keptOf (execFwReload mid s) = some s.kept := by
  simp [execFwReload]
@[simp] theorem execBusError_kept (core : Fin 2) (isStore : Bool) (addr : Word32) (code : Status) (s : State) : keptOf (execBusError core isStore addr code s) = some s.kept := by
  simp [execBusError]
@[simp] theorem State.setSram_kept (s : State) (w : Nat) (v : Word32) : (State.setSram s w v).kept.1 = s.kept.1 := by
  simp [State.setSram]
@[simp] theorem execSramError_kept (core : Fin 2) (access : SramAccess) (word : Fin 131072) (unc : Bool) (s : State) : queueOf (execSramError core access word unc s) = some s.kept.1 := by
  unfold execSramError
  (repeat' split) <;> simp
@[simp] theorem execTimerInterrupt_kept (core : Fin 2) (s : State) : keptOf (execTimerInterrupt core s) = some s.kept := by
  simp [execTimerInterrupt]
@[simp] theorem State.mtimeRead_kept (s : State) (k : Nat) : (State.mtimeRead s k).kept = s.kept := by
  simp [State.mtimeRead]
@[simp] theorem execMtimeLoRead_kept (core : Fin 2) (s : State) : keptOf (execMtimeLoRead core s) = some s.kept := by
  simp [execMtimeLoRead]
@[simp] theorem State.wdtRestart_kept (s : State) (k : Nat) : (State.wdtRestart s k).kept = s.kept := by
  simp [State.wdtRestart]
@[simp] theorem State.wdtHalt_kept (s : State) (k : Nat) : (State.wdtHalt s k).kept = s.kept := by
  simp [State.wdtHalt]
@[simp] theorem State.wdtResume_kept (s : State) (k : Nat) : (State.wdtResume s k).kept = s.kept := by
  simp [State.wdtResume]
@[simp] theorem State.wdtWrite_kept (s : State) (mid : Mid) (k : Nat) (v : Word32) : (State.wdtWrite s mid k v).kept = s.kept := by
  simp [State.wdtWrite]
@[simp] theorem execWatchdogExpiry_kept (core : Fin 2) (s : State) : keptOf (execWatchdogExpiry core s) = some s.kept := by
  simp [execWatchdogExpiry]
@[simp] theorem execWdtKick_kept (mid : Mid) (core : Fin 2) (s : State) : keptOf (execWdtKick mid core s) = some s.kept := by
  simp [execWdtKick]
@[simp] theorem State.smbAnswer_kept (s : State) (cmd : Nat) (data : List Byte) : (State.smbAnswer s cmd data).kept = s.kept := by
  simp [State.smbAnswer]
@[simp] theorem State.smbCount_kept (s : State) : (State.smbCount s).kept = s.kept := by
  simp [State.smbCount]
@[simp] theorem State.smbNack_kept (s : State) : (State.smbNack s).kept = s.kept := by
  simp [State.smbNack]
@[simp] theorem State.smbus_kept (s : State) (f : State → State) (hf : ∀ x, (f x).kept = x.kept) : (State.smbus s f).kept = s.kept := by
  unfold State.smbus
  (repeat' split) <;> simp [*]
@[simp] theorem State.smbus_kept1 (s : State) (f : State → State) (hf : ∀ x, (f x).kept.1 = x.kept.1) : (State.smbus s f).kept.1 = s.kept.1 := by
  unfold State.smbus
  (repeat' split) <;> simp [*]
@[simp] theorem execSensorReadWord_kept (cmd : Byte) (s : State) : keptOf (execSensorReadWord cmd s) = some s.kept := by
  simp only [execSensorReadWord, keptOf_next]
  rw [State.smbus_kept]
  intro x; split <;> simp
@[simp] theorem execStatusReadWord_kept (s : State) : keptOf (execStatusReadWord s) = some s.kept := by
  simp [execStatusReadWord]
@[simp] theorem execIdentityBlockRead_kept (s : State) : keptOf (execIdentityBlockRead s) = some s.kept := by
  simp [execIdentityBlockRead]
@[simp] theorem execSmbOutBlockRead_kept (s : State) : keptOf (execSmbOutBlockRead s) = some s.kept := by
  simp [execSmbOutBlockRead]
@[simp] theorem execSmbInBlockWrite_kept (bytes : List Byte) (pecOk : Bool) (s : State) : keptOf (execSmbInBlockWrite bytes pecOk s) = some s.kept := by
  simp [execSmbInBlockWrite]
@[simp] theorem execAlertResponse_kept (s : State) : keptOf (execAlertResponse s) = some s.kept := by
  simp [execAlertResponse]
@[simp] theorem execClockLowTimeout_kept (s : State) : keptOf (execClockLowTimeout s) = some s.kept := by
  simp [execClockLowTimeout]
@[simp] theorem State.flashSend_kept (s : State) (c : FlashCmd) : (State.flashSend s c).kept = s.kept := by
  simp [State.flashSend]
@[simp] theorem State.flashCtrl_kept (s : State) (mid : Mid) (v : Word32) : (State.flashCtrl s mid v).kept = s.kept := by
  simp [State.flashCtrl]
@[simp] theorem State.flashGo_kept (s : State) (mid : Mid) (ctrl : Word32) (kind : Nat) : (State.flashGo s mid ctrl kind).kept = s.kept := by
  simp [State.flashGo]
@[simp] theorem execFlashRead_kept (mid : Mid) (ctrl : Word32) (s : State) : keptOf (execFlashRead mid ctrl s) = some s.kept := by
  simp [execFlashRead]
@[simp] theorem execFlashProgram_kept (mid : Mid) (ctrl : Word32) (s : State) : keptOf (execFlashProgram mid ctrl s) = some s.kept := by
  simp [execFlashProgram]
@[simp] theorem execFlashErase_kept (mid : Mid) (ctrl : Word32) (s : State) : keptOf (execFlashErase mid ctrl s) = some s.kept := by
  simp [execFlashErase]
@[simp] theorem execFlashOther_kept (mid : Mid) (ctrl : Word32) (s : State) : keptOf (execFlashOther mid ctrl s) = some s.kept := by
  simp [execFlashOther]
@[simp] theorem execFlashCommandDone_kept (bytes : List Byte) (s : State) : keptOf (execFlashCommandDone bytes s) = some s.kept := by
  unfold execFlashCommandDone
  split <;> simp
@[simp] theorem State.logCommit_kept (s : State) (mid : Mid) (v : Word32) : (State.logCommit s mid v).kept = s.kept := by
  simp [State.logCommit]
@[simp] theorem execLogCommit_kept (mid : Mid) (value : Word32) (s : State) : keptOf (execLogCommit mid value s) = some s.kept := by
  simp [execLogCommit]
@[simp] theorem State.logFree_kept (s : State) (v : Word32) : (State.logFree s v).kept = s.kept := by
  simp [State.logFree]
@[simp] theorem execLogRpWrite_kept (mid : Mid) (value : Word32) (s : State) : keptOf (execLogRpWrite mid value s) = some s.kept := by
  simp [execLogRpWrite]
@[simp] theorem State.libRegWrite_kept (s : State) (mid : Mid) (a : Nat) (v : Word32) : (State.libRegWrite s mid a v).kept = s.kept := by
  simp [State.libRegWrite]
@[simp] theorem State.libRegRead_kept (s : State) (a : Nat) : (State.libRegRead s a).kept = s.kept := by
  simp [State.libRegRead]
@[simp] theorem State.evtRegWrite_kept (s : State) (mid : Mid) (a : Nat) (v : Word32) : (State.evtRegWrite s mid a v).kept = s.kept := by
  simp [State.evtRegWrite]
@[simp] theorem State.evtRegRead_kept (s : State) (a : Nat) : (State.evtRegRead s a).kept = s.kept := by
  unfold State.evtRegRead
  split <;> simp
@[simp] theorem State.dspStat_kept (s : State) (mid : Mid) (code : Status) : (State.dspStat s mid code).kept = s.kept := by
  simp [State.dspStat]
@[simp] theorem State.dspBy_kept (s : State) (mid : Mid) (hosts : Bool) (f : State → State) (hf : ∀ x, (f x).kept = x.kept) : (State.dspBy s mid hosts f).kept = s.kept := by
  unfold State.dspBy
  (repeat' split) <;> simp [*]
@[simp] theorem State.dspBy_kept1 (s : State) (mid : Mid) (hosts : Bool) (f : State → State) (hf : ∀ x, (f x).kept.1 = x.kept.1) : (State.dspBy s mid hosts f).kept.1 = s.kept.1 := by
  unfold State.dspBy
  (repeat' split) <;> simp [*]
@[simp] theorem State.dspCmd_kept (s : State) (mid : Mid) (hosts : Bool) (f : State → State) (hf : ∀ x, (f x).kept = x.kept) : (State.dspCmd s mid hosts f).kept = s.kept := by
  unfold State.dspCmd
  (repeat' split) <;> simp [*]
@[simp] theorem State.dspCmd_kept1 (s : State) (mid : Mid) (hosts : Bool) (f : State → State) (hf : ∀ x, (f x).kept.1 = x.kept.1) : (State.dspCmd s mid hosts f).kept.1 = s.kept.1 := by
  unfold State.dspCmd
  (repeat' split) <;> simp [*]
@[simp] theorem State.activateTask_kept (s : State) (n : Nat) : (State.activateTask s n).kept = s.kept := by
  simp [State.activateTask]
@[simp] theorem State.clearFlags_kept (s : State) (n : Nat) (bits : Word32) : (State.clearFlags s n bits).kept = s.kept := by
  simp [State.clearFlags]
@[simp] theorem State.setMask_kept (s : State) (n : Nat) (m : Word32) : (State.setMask s n m).kept = s.kept := by
  simp [State.setMask]
@[simp] theorem State.undelay_kept (s : State) (n : Nat) : (State.undelay s n).kept = s.kept := by
  simp [State.undelay]
@[simp] theorem execDspBind_kept (mid : Mid) (task : Fin 64) (core : Fin 2) (prio : Fin 16) (all consume : Bool) (s : State) : keptOf (execDspBind mid task core prio all consume s) = some s.kept := by
  simp [execDspBind]
@[simp] theorem execDspActivate_kept (mid : Mid) (task : Fin 64) (s : State) : keptOf (execDspActivate mid task s) = some s.kept := by
  simp [execDspActivate]
@[simp] theorem execDspCancel_kept (mid : Mid) (task : Fin 64) (s : State) : keptOf (execDspCancel mid task s) = some s.kept := by
  simp [execDspCancel]
@[simp] theorem execDspSetFlags_kept (mid : Mid) (task : Fin 64) (s : State) : keptOf (execDspSetFlags mid task s) = some s.kept := by
  simp [execDspSetFlags]
@[simp] theorem execDspClrFlags_kept (mid : Mid) (task : Fin 64) (s : State) : keptOf (execDspClrFlags mid task s) = some s.kept := by
  simp [execDspClrFlags]
@[simp] theorem execDspSetMask_kept (mid : Mid) (task : Fin 64) (s : State) : keptOf (execDspSetMask mid task s) = some s.kept := by
  simp [execDspSetMask]
@[simp] theorem execDspDelay_kept (mid : Mid) (task : Fin 64) (timeout : Bool) (s : State) : keptOf (execDspDelay mid task timeout s) = some s.kept := by
  simp [execDspDelay]
@[simp] theorem execDspUndelay_kept (mid : Mid) (task : Fin 64) (s : State) : keptOf (execDspUndelay mid task s) = some s.kept := by
  simp [execDspUndelay]
@[simp] theorem execDspWait_kept (mid : Mid) (s : State) : keptOf (execDspWait mid s) = some s.kept := by
  simp [execDspWait]
@[simp] theorem execDspTake_kept (mid : Mid) (s : State) : keptOf (execDspTake mid s) = some s.kept := by
  simp [execDspTake]
@[simp] theorem execDspReset_kept (mid : Mid) (s : State) : keptOf (execDspReset mid s) = some s.kept := by
  simp [execDspReset]
@[simp] theorem State.dspWrite_kept (s : State) (mid : Mid) (v : Word32) : (State.dspWrite s mid v).kept = s.kept := by
  unfold State.dspWrite
  split <;> simp
@[simp] theorem State.dspRegWrite_kept (s : State) (mid : Mid) (a : Nat) (v : Word32) : (State.dspRegWrite s mid a v).kept = s.kept := by
  simp [State.dspRegWrite]
@[simp] theorem State.dspRegRead_kept (s : State) (mid : Mid) (a : Nat) : (State.dspRegRead s mid a).kept = s.kept := by
  simp [State.dspRegRead]
@[simp] theorem State.romWaits_kept (s : State) : (State.romWaits s).kept = s.kept := by
  simp [State.romWaits]
@[simp] theorem State.xspiSet_kept (s : State) (b : List Byte) : (State.xspiSet s b).kept = s.kept := by
  simp [State.xspiSet]
@[simp] theorem State.dirTake_kept (s : State) (b : List Byte) (second : Bool) : (State.dirTake s b second).kept = s.kept := by
  simp [State.dirTake]
@[simp] theorem execDirectoryRead_kept (first second : List Byte) (s : State) : keptOf (execDirectoryRead first second s) = some s.kept := by
  unfold execDirectoryRead
  (repeat' split) <;> simp
@[simp] theorem State.fwRecord_kept (s : State) (verdict : Nat) : (State.fwRecord s verdict).kept = s.kept := by
  simp [State.fwRecord]
@[simp] theorem State.clearSramByte_kept (s : State) (a : Nat) : (State.clearSramByte s a).kept.1 = s.kept.1 := by
  simp [State.clearSramByte]
@[simp] theorem State.sramLoad_kept (s : State) (b : List Byte) (clear : Nat) : (State.sramLoad s b clear).kept.1 = s.kept.1 := by
  simp [State.sramLoad]
@[simp] theorem State.bootLoad_kept (s : State) : (State.bootLoad s).kept = s.kept := by
  simp [State.bootLoad]
@[simp] theorem State.fwStart_kept (s : State) (b : List Byte) : (State.fwStart s b).kept.1 = s.kept.1 := by
  simp [State.fwStart]
@[simp] theorem State.fwFails_kept (s : State) (verdict : Nat) : (State.fwFails s verdict).kept = s.kept := by
  simp [State.fwFails]
@[simp] theorem State.fwTake_kept (s : State) (src : Nat) : (State.fwTake s src).kept = s.kept := by
  simp [State.fwTake]
@[simp] theorem State.fwJudge_kept (s : State) (b : List Byte) : (State.fwJudge s b).kept.1 = s.kept.1 := by
  simp [State.fwJudge]
@[simp] theorem execFirmwareLoaded_kept (bytes : List Byte) (s : State) : queueOf (execFirmwareLoaded bytes s) = some s.kept.1 := by
  simp [execFirmwareLoaded]
@[simp] theorem State.fwArrives_kept (s : State) (src : Nat) : (State.fwArrives s src).kept.1 = s.kept.1 := by
  simp [State.fwArrives]
@[simp] theorem execFirmwareArrival_kept (s : State) : queueOf (execFirmwareArrival s) = some s.kept.1 := by
  simp [execFirmwareArrival]
@[simp] theorem State.ringWake_kept (s : State) (dst : Nat) : (State.ringWake s dst).kept = s.kept := by
  simp [State.ringWake]
@[simp] theorem State.ringCrc_kept (s : State) : (State.ringCrc s).kept = s.kept := by
  simp [State.ringCrc]
@[simp] theorem State.ringFrame_kept (s : State) (dst hops : Nat) (bcast crcOk : Bool) (pass take : State → State) (hpass : ∀ x, (pass x).kept = x.kept) (htake : ∀ x, (take x).kept = x.kept) : (State.ringFrame s dst hops bcast crcOk pass take).kept = s.kept := by
  unfold State.ringFrame
  (repeat' split) <;> simp [*]
@[simp] theorem State.ringFrame_kept1 (s : State) (dst hops : Nat) (bcast crcOk : Bool) (pass take : State → State) (hpass : ∀ x, (pass x).kept.1 = x.kept.1) (htake : ∀ x, (take x).kept.1 = x.kept.1) : (State.ringFrame s dst hops bcast crcOk pass take).kept.1 = s.kept.1 := by
  unfold State.ringFrame
  (repeat' split) <;> simp [*]
@[simp] theorem State.ringSend_kept (s : State) (r : RingReq) : (State.ringSend s r).kept = s.kept := by
  unfold State.ringSend
  split <;> simp
@[simp] theorem State.ringRequest_kept (s : State) (r : RingReq) : (State.ringRequest s r).kept = s.kept := by
  simp [State.ringRequest]
@[simp] theorem State.ringPump_kept (k : Nat) (s : State) : (State.ringPump k s).kept = s.kept := by
  induction k generalizing s with
  | zero => rfl
  | succ k ih =>
    unfold State.ringPump
    (repeat' split) <;> simp [ih]
@[simp] theorem State.ringGo_kept (s : State) : (State.ringGo s).kept = s.kept := by
  unfold State.ringGo
  repeat' first
    | rfl
    | (simp [*]; done)
    | split
    | (simp only [apply_ite State.kept])
    | (refine (State.foldl_kept _ _ _ ?_).trans ?_)
    | intro _
@[simp] theorem State.enumSend_kept (s : State) : (State.enumSend s).kept = s.kept := by
  simp [State.enumSend]
@[simp] theorem State.lrgCtrlWrite_kept (s : State) (mid : Mid) (v : Word32) : (State.lrgCtrlWrite s mid v).kept = s.kept := by
  simp [State.lrgCtrlWrite]
@[simp] theorem State.enumOver_kept (s : State) : (State.enumOver s).kept = s.kept := by
  simp [State.enumOver]
@[simp] theorem State.enumFails_kept (s : State) : (State.enumFails s).kept = s.kept := by
  simp [State.enumFails]
@[simp] theorem State.enumReturns_kept (s : State) (arg : Nat) : (State.enumReturns s arg).kept = s.kept := by
  simp [State.enumReturns]
@[simp] theorem State.enumTakes_kept (s : State) (arg : Nat) : (State.enumTakes s arg).kept = s.kept := by
  simp [State.enumTakes]
@[simp] theorem execRingEnum_kept (arg : Word32) (own : Bool) (hops : BitVec 6) (crcOk : Bool) (s : State) : keptOf (execRingEnum arg own hops crcOk s) = some s.kept := by
  simp [execRingEnum]
@[simp] theorem execRingEnumStart_kept (mid : Mid) (s : State) : keptOf (execRingEnumStart mid s) = some s.kept := by
  simp [execRingEnumStart]
@[simp] theorem execEnumTimeout_kept (s : State) : keptOf (execEnumTimeout s) = some s.kept := by
  simp [execEnumTimeout]
@[simp] theorem State.ringDone_kept (s : State) (r : RingReq) (code : Status) (value : Word32) : (State.ringDone s r code value).kept = s.kept := by
  simp [State.ringDone]
@[simp] theorem execRingRsp_kept (hdr : RingHeader) (status : Status) (value : Word32) (crcOk : Bool) (s : State) :
    keptOf (execRingRsp hdr status value crcOk s) = some s.kept := by
  unfold execRingRsp
  rw [keptOf_next, State.ringFrame_kept]
  · intro x; simp
  · intro x
    split <;> simp
@[simp] theorem execRingTimeout_kept (tag : BitVec 8) (s : State) : keptOf (execRingTimeout tag s) = some s.kept := by
  unfold execRingTimeout
  split <;> simp
@[simp] theorem State.ringEventIn_kept (s : State) (src event sev vec : Nat) : (State.ringEventIn s src event sev vec).kept = s.kept := by
  simp [State.ringEventIn]
@[simp] theorem execRingEvent_kept (hdr : RingHeader) (event : Fin 512) (sev : BitVec 2) (vec : Fin 64) (crcOk : Bool) (s : State) : keptOf (execRingEvent hdr event sev vec crcOk s) = some s.kept := by
  simp [execRingEvent]
@[simp] theorem State.evtqRead_kept (s : State) : (State.evtqRead s).kept = s.kept := by
  unfold State.evtqRead
  split <;> simp
@[simp] theorem execLrgEvtqRead_kept (mid : Mid) (s : State) : keptOf (execLrgEvtqRead mid s) = some s.kept := by
  simp [execLrgEvtqRead]
@[simp] theorem State.loadSend_kept (s : State) (seq : Nat) (bytes : List Byte) : (State.loadSend s seq bytes).kept = s.kept := by
  simp [State.loadSend]
@[simp] theorem State.loadPump_kept (k : Nat) (s : State) : (State.loadPump k s).kept = s.kept := by
  induction k generalizing s with
  | zero => rfl
  | succ k ih =>
    unfold State.loadPump
    split <;> simp [ih]
@[simp] theorem State.lrgLoad_kept (s : State) (bytes : List Byte) : (State.lrgLoad s bytes).kept = s.kept := by
  unfold State.lrgLoad
  repeat' first
    | rfl
    | (simp [*]; done)
    | split
    | (simp only [apply_ite State.kept])
    | (refine (State.foldl_kept _ _ _ ?_).trans ?_)
    | intro _
@[simp] theorem execLrgLoadWrite_kept (mid : Mid) (bytes : List Byte) (s : State) : keptOf (execLrgLoadWrite mid bytes s) = some s.kept := by
  simp [execLrgLoadWrite]
@[simp] theorem State.loadIn_kept (s : State) (seq : Nat) (bytes : List Byte) (stall : Bool) : (State.loadIn s seq bytes stall).kept = s.kept := by
  simp [State.loadIn]
@[simp] theorem State.loadReturns_kept (s : State) (seq : Nat) (stall : Bool) : (State.loadReturns s seq stall).kept = s.kept := by
  unfold State.loadReturns
  repeat' first
    | rfl
    | (simp [*]; done)
    | split
    | (simp only [apply_ite State.kept])
    | (refine (State.foldl_kept _ _ _ ?_).trans ?_)
    | intro _
@[simp] theorem execRingLoad_kept (hdr : RingHeader) (seq : Word32) (bytes : List Byte) (stall crcOk : Bool) (s : State) : keptOf (execRingLoad hdr seq bytes stall crcOk s) = some s.kept := by
  simp [execRingLoad]
@[simp] theorem State.crlRegWrite_kept (s : State) (mid : Mid) (a : Nat) (v : Word32) : (State.crlRegWrite s mid a v).kept = s.kept := by
  simp [State.crlRegWrite]
@[simp] theorem State.crlRegRead_kept (s : State) (mid : Mid) (a : Nat) : (State.crlRegRead s mid a).kept = s.kept := by
  simp [State.crlRegRead]
@[simp] theorem execCrlBindWrite_kept (mid : Mid) (carrel : Fin 32) (value : Word32) (s : State) : keptOf (execCrlBindWrite mid carrel value s) = some s.kept := by
  simp [execCrlBindWrite]
@[simp] theorem execCrlTxdWrite_kept (mid : Mid) (carrel : Fin 32) (word : Fin 16) (value : Word32) (s : State) : keptOf (execCrlTxdWrite mid carrel word value s) = some s.kept := by
  simp [execCrlTxdWrite]
@[simp] theorem execCrlPost_kept (mid : Mid) (carrel : Fin 32) (len : BitVec 5) (tag : BitVec 16) (s : State) : keptOf (execCrlPost mid carrel len tag s) = some s.kept := by
  simp [execCrlPost]
@[simp] theorem execCrlWithdraw_kept (mid : Mid) (carrel : Fin 32) (s : State) : keptOf (execCrlWithdraw mid carrel s) = some s.kept := by
  simp [execCrlWithdraw]
@[simp] theorem execCrlAck_kept (mid : Mid) (carrel : Fin 32) (reply : BitVec 16) (s : State) : keptOf (execCrlAck mid carrel reply s) = some s.kept := by
  simp [execCrlAck]
@[simp] theorem execEndReset_kept (mid : Mid) (carrel : Fin 32) (s : State) : keptOf (execEndReset mid carrel s) = some s.kept := by
  simp [execEndReset]
@[simp] theorem execCarrelTimeout_kept (carrel : Fin 32) (fromB : Bool) (s : State) : keptOf (execCarrelTimeout carrel fromB s) = some s.kept := by
  simp [execCarrelTimeout]
@[simp] theorem State.msixSend_kept (s : State) (vec : Nat) : (State.msixSend s vec).kept = s.kept := by
  simp [State.msixSend]
@[simp] theorem State.recordWrite_kept (s : State) (a : Nat) (v : Word32) : (State.recordWrite s a v).kept = s.kept := by
  unfold State.recordWrite
  split <;> simp
@[simp] theorem State.hstRegWrite_kept (s : State) (a : Nat) (v : Word32) : (State.hstRegWrite s a v).kept = s.kept := by
  simp [State.hstRegWrite]
@[simp] theorem State.lrgRegWrite_kept (s : State) (mid : Mid) (a : Nat) (v : Word32) : (State.lrgRegWrite s mid a v).kept = s.kept := by
  simp [State.lrgRegWrite]
@[simp] theorem State.lrgRegRead_kept (s : State) (a : Nat) : (State.lrgRegRead s a).kept = s.kept := by
  simp [State.lrgRegRead]
@[simp] theorem State.lnRegWrite_kept (s : State) (mid : Mid) (a : Nat) (v : Word32) : (State.lnRegWrite s mid a v).kept = s.kept := by
  simp [State.lnRegWrite]
@[simp] theorem State.lnRegRead_kept (s : State) (a : Nat) : (State.lnRegRead s a).kept = s.kept := by
  simp [State.lnRegRead]
@[simp] theorem State.blockWrite_kept (s : State) (mid : Mid) (a : Nat) (v : Word32) : (State.blockWrite s mid a v).kept.1 = s.kept.1 := by
  simp [State.blockWrite]
@[simp] theorem State.blockRead_kept (s : State) (mid : Mid) (a : Nat) : (State.blockRead s mid a).kept = s.kept := by
  simp [State.blockRead]
@[simp] theorem State.busWrite_kept (s : State) (mid : Mid) (addr : Nat) (v : Word32) : (State.busWrite s mid addr v).kept.1 = s.kept.1 := by
  unfold State.busWrite
  repeat' first
    | rfl
    | (simp [*]; done)
    | split
    | (simp only [apply_ite State.kept])
    | (refine (State.foldl_kept1 _ _ _ ?_).trans ?_)
    | intro _
@[simp] theorem State.busRead_kept (s : State) (mid : Mid) (addr : Nat) : (State.busRead s mid addr).kept = s.kept := by
  unfold State.busRead
  repeat' first
    | rfl
    | (simp [*]; done)
    | split
    | (simp only [apply_ite State.kept])
    | (refine (State.foldl_kept _ _ _ ?_).trans ?_)
    | intro _
@[simp] theorem execRegisterWrite_kept (mid : Mid) (addr : BitVec 28) (value : Word32) (s : State) : queueOf (execRegisterWrite mid addr value s) = some s.kept.1 := by
  simp [execRegisterWrite]
@[simp] theorem execStickyClear_kept (mid : Mid) (addr : BitVec 28) (mask : Word32) (s : State) : queueOf (execStickyClear mid addr mask s) = some s.kept.1 := by
  simp [execStickyClear]
@[simp] theorem execCounterRead_kept (mid : Mid) (addr : BitVec 28) (s : State) : keptOf (execCounterRead mid addr s) = some s.kept := by
  simp [execCounterRead]
@[simp] theorem State.hbmEccs_kept (s : State) (mid : Mid) (w : Nat) (l : List EccFind) : (s.hbmEccs mid w l).1.kept = s.kept := by
  induction l generalizing s w with
  | nil => rfl
  | cons x r ih => simp [State.hbmEccs, ih]
@[simp] theorem State.hbmReadWords_kept (s : State) (mid : Mid) (a n : Nat) (ecc : List EccFind) :
    (s.hbmReadWords mid a n ecc).1.kept = s.kept := by
  have hc := State.hbmConditions_kept s mid a n false false
  unfold State.hbmReadWords
  split
  · rename_i h; rw [h] at hc; exact hc
  · rename_i s1 h; rw [h] at hc
    have he := State.hbmEccs_kept s1 mid (a / 8) (ecc.take (wordCount a n))
    split <;> (rename_i g; rw [g] at he; exact he.trans hc)
@[simp] theorem State.hbmStoreWords_kept (s : State) (mid : Mid) (w k : Nat) (l : List (Byte × Bool)) (ecc : List EccFind) :
    (s.hbmStoreWords mid w k l ecc).1.kept.1 = s.kept.1 := by
  induction k generalizing s w l ecc with
  | zero => rfl
  | succ k ih =>
    simp only [State.hbmStoreWords, ih]
    split
    · simp
    · split
      · have hk := State.hbmEcc_kept s mid (8 * w) (ecc.headD .clean)
        split <;> (rename_i h; rw [h] at hk; simp at hk; simp [hk])
      · rfl
@[simp] theorem State.hbmWriteWords_kept (s : State) (mid : Mid) (a : Nat) (bytes : List (Byte × Bool)) (ecc : List EccFind) :
    (s.hbmWriteWords mid a bytes ecc).1.kept.1 = s.kept.1 := by
  have hc := congrArg Prod.fst (State.hbmConditions_kept s mid a bytes.length true false)
  unfold State.hbmWriteWords
  split
  · rename_i h; rw [h] at hc; exact hc
  · rename_i s1 h; rw [h] at hc
    split
    · exact hc
    · simpa using hc
@[simp] theorem State.hbmReadFor_kept (s : State) (o : Origin) (mid : Mid) (a n : Nat) (ecc : List EccFind) : (State.hbmReadFor s o mid a n ecc).kept = s.kept := by
  simp [State.hbmReadFor]
@[simp] theorem State.hbmWriteFor_kept (s : State) (o : Origin) (mid : Mid) (a : Nat) (bytes : List (Byte × Bool)) (ecc : List EccFind) : (State.hbmWriteFor s o mid a bytes ecc).kept.1 = s.kept.1 := by
  simp [State.hbmWriteFor]
@[simp] theorem State.malformed_kept (s : State) : (State.malformed s).kept = s.kept := by
  simp [State.malformed]
@[simp] theorem State.barBegin_kept (s : State) (bar : Bar) (offset parts : Nat) (write : Bool) : (State.barBegin s bar offset parts write).kept = s.kept := by
  simp [State.barBegin]
@[simp] theorem State.barReg_kept (s : State) (id : Nat) (bar : Bar) (offset : Nat) (write : Option Word32) : (State.barReg s id bar offset write).kept.1 = s.kept.1 := by
  unfold State.barReg
  (repeat' split) <;> simp
@[simp] theorem State.barRegs_kept (s : State) (id : Nat) (bar : Bar) (offset : Nat) (l : List (Option Word32)) : (State.barRegs s id bar offset l).kept.1 = s.kept.1 := by
  induction l generalizing s offset with
  | nil => rfl
  | cons x r ih =>
    unfold State.barRegs
    rw [ih]
    simp
@[simp] theorem execMemoryRead_kept (bar : Bar) (offset : BitVec 34) (len : Nat) (ecc : List EccFind) (s : State) : queueOf (execMemoryRead bar offset len ecc s) = some s.kept.1 := by
  unfold execMemoryRead
  repeat' first
    | rfl
    | (simp [*]; done)
    | split
    | (simp only [apply_ite State.kept])
    | (refine (State.foldl_kept1 _ _ _ ?_).trans ?_)
    | intro _
@[simp] theorem execMemoryWrite_kept (bar : Bar) (offset : BitVec 34) (be : List Bool) (bytes : List Byte) (ecc : List EccFind) (s : State) : queueOf (execMemoryWrite bar offset be bytes ecc s) = some s.kept.1 := by
  unfold execMemoryWrite
  repeat' first
    | rfl
    | (simp [*]; done)
    | split
    | (simp only [apply_ite State.kept])
    | (refine (State.foldl_kept1 _ _ _ ?_).trans ?_)
    | intro _
@[simp] theorem execMsixUnmask_kept (vec : Fin 64) (s : State) : keptOf (execMsixUnmask vec s) = some s.kept := by
  simp [execMsixUnmask]
@[simp] theorem execLinkInL0_kept (speed : Fin 5) (width : Fin 9) (msix master : Bool) (s : State) : keptOf (execLinkInL0 speed width msix master s) = some s.kept := by
  simp [execLinkInL0]
@[simp] theorem State.linkLeaves_kept (s : State) : (State.linkLeaves s).kept = s.kept := by
  simp [State.linkLeaves]
@[simp] theorem execHostReset_kept (cause : HostResetCause) (s : State) : keptOf (execHostReset cause s) = some s.kept := by
  unfold execHostReset
  split <;> simp
@[simp] theorem execRingRd_kept (hdr : RingHeader) (addr : BitVec 28) (crcOk : Bool) (s : State) : keptOf (execRingRd hdr addr crcOk s) = some s.kept := by
  simp [execRingRd]
@[simp] theorem execRingWr_kept (hdr : RingHeader) (addr : BitVec 28) (value : Word32) (crcOk : Bool) (s : State) : queueOf (execRingWr hdr addr value crcOk s) = some s.kept.1 := by
  simp [execRingWr]
@[simp] theorem execTwinReg_kept (frame : RegFrame) (s : State) : queueOf (execTwinReg frame s) = some s.kept.1 := by
  unfold execTwinReg
  (repeat' split) <;> simp
@[simp] theorem State.debugFails_kept (s : State) : (State.debugFails s).kept = s.kept := by
  simp [State.debugFails]
@[simp] theorem State.setMsip_kept (s : State) (k : Nat) (b : Bool) : (State.setMsip s k b).kept = s.kept := by
  simp [State.setMsip]
@[simp] theorem State.setCmp_kept (s : State) (k n : Nat) : (State.setCmp s k n).kept = s.kept := by
  simp [State.setCmp]
@[simp] theorem State.coreLocalWrite_kept (s : State) (k o : Nat) (v : Word32) : (State.coreLocalWrite s k o v).kept = s.kept := by
  unfold State.coreLocalWrite
  split <;> simp
@[simp] theorem State.debugRead_kept (s : State) (k addr : Nat) : (State.debugRead s k addr).kept = s.kept := by
  simp [State.debugRead]
@[simp] theorem State.debugWrite_kept (s : State) (k addr : Nat) (v : Word32) : (State.debugWrite s k addr v).kept.1 = s.kept.1 := by
  simp [State.debugWrite]
@[simp] theorem State.setHalted_kept (s : State) (k : Nat) (b : Bool) : (State.setHalted s k b).kept = s.kept := by
  simp [State.setHalted]
@[simp] theorem execDebugTransaction_kept (core : Fin 2) (op : DebugOp) (s : State) : queueOf (execDebugTransaction core op s) = some s.kept.1 := by
  unfold execDebugTransaction
  (repeat' split) <;> simp
@[simp] theorem State.stampPacket_kept (s : State) (n ep : Nat) (p : Packet) : (State.stampPacket s n ep p).2.kept = s.kept := by
  unfold State.stampPacket
  split <;> simp
@[simp] theorem State.overQuota_kept (s : State) (n ep : Nat) : (State.overQuota s n ep).kept = s.kept := by
  simp [State.overQuota]
@[simp] theorem State.admitReq_kept (s : State) (n ep : Nat) (p : Packet) : (State.admitReq s n ep p).kept = s.kept := by
  simp [State.admitReq]
@[simp] theorem State.newPacket_kept (s : State) (n ep : Nat) (p : Packet) : (State.newPacket s n ep p).kept = s.kept := by
  simp [State.newPacket]
@[simp] theorem execPacketInjection_kept (node : Fin 48) (ep : Fin 5) (pkt : Option Packet) (s : State) : keptOf (execPacketInjection node ep pkt s) = some s.kept := by
  unfold execPacketInjection
  (repeat' split) <;> simp
@[simp] theorem State.setFlight_kept (s : State) (id : Nat) (f : Flight) : (State.setFlight s id f).kept = s.kept := by
  simp [State.setFlight]
@[simp] theorem State.noRoute_kept (s : State) (id : Nat) (f : Flight) : (State.noRoute s id f).kept = s.kept := by
  simp [State.noRoute]
@[simp] theorem State.checkHeader_kept (s : State) (id n : Nat) (find : EccFind) : (State.checkHeader s id n find).1.kept = s.kept := by
  unfold State.checkHeader
  split <;> simp
@[simp] theorem State.checkData_kept (s : State) (f : Flight) (find : EccFind) : (State.checkData s f find).1.kept = s.kept := by
  unfold State.checkData
  (repeat' split) <;> simp
@[simp] theorem State.arrive_kept (s : State) (id : Nat) (f : Flight) : (State.arrive s id f).kept = s.kept := by
  unfold State.arrive
  (repeat' split) <;> simp
@[simp] theorem State.hopTo_kept (s : State) (id : Nat) (f : Flight) (m : Nat) : (State.hopTo s id f m).kept = s.kept := by
  simp [State.hopTo]
@[simp] theorem State.route_kept (s : State) (id : Nat) (f : Flight) : (State.route s id f).kept = s.kept := by
  unfold State.route
  repeat' first
    | rfl
    | (simp [*]; done)
    | split
    | (simp only [apply_ite State.kept])
    | (refine (State.foldl_kept _ _ _ ?_).trans ?_)
    | intro _
@[simp] theorem execPacketHop_kept (id : Nat) (hdr data : EccFind) (s : State) : keptOf (execPacketHop id hdr data s) = some s.kept := by
  unfold execPacketHop
  split <;> simp
@[simp] theorem State.endpointReg_kept (s : State) (mid : Mid) (a : Nat) (write : Option Word32) : (State.endpointReg s mid a write).kept.1 = s.kept.1 := by
  unfold State.endpointReg
  (repeat' split) <;> simp
@[simp] theorem State.regUnits_kept (s : State) (mid : Mid) (l : List (Nat × Option Word32 × Bool)) :
    (s.regUnits mid l).1.kept.1 = s.kept.1 := by
  induction l generalizing s with
  | nil => rfl
  | cons x r ih =>
    obtain ⟨a, w, on⟩ := x
    unfold State.regUnits
    split <;> simp [ih]
@[simp] theorem State.rdRun_kept (s : State) (p : Packet) (ecc : List EccFind) : (State.rdRun s p ecc).1.kept.1 = s.kept.1 := by
  unfold State.rdRun
  (repeat' split) <;> simp [*]
@[simp] theorem State.wrRun_kept (s : State) (f : Flight) (ecc : List EccFind) : (State.wrRun s f ecc).1.kept.1 = s.kept.1 := by
  unfold State.wrRun
  repeat' first
    | rfl
    | (simp [*]; done)
    | split
    | (simp only [apply_ite State.kept])
    | (refine (State.foldl_kept1 _ _ _ ?_).trans ?_)
    | intro _
@[simp] theorem execRzRd_kept (id : Nat) (ecc : List EccFind) (s : State) : queueOf (execRzRd id ecc s) = some s.kept.1 := by
  unfold execRzRd
  split <;> simp

end Sys2Proof.Machine
end

