-- ==== Sys2Proof/Laws/Kept05.lean ====
section
/-! SUPPORT.  What the operations of the machine keep, part 5. -/

namespace Sys2Proof.Machine

@[simp] theorem execRzWr_kept (id : Nat) (ecc : List EccFind) (s : State) : queueOf (execRzWr id ecc s) = some s.kept.1 := by
  unfold execRzWr
  split <;> simp
@[simp] theorem State.requestDone_kept (s : State) (n ep t : Nat) (x : RzTag) (code : Status) (data : List (BitVec 256)) : (State.requestDone s n ep t x code data).kept = s.kept := by
  simp [State.requestDone]
@[simp] theorem State.freeUp_kept (s : State) (n ep t : Nat) : (State.freeUp s n ep t).kept = s.kept := by
  simp [State.freeUp]
@[simp] theorem State.response_kept (s : State) (id : Nat) (f : Flight) : (State.response s id f).kept = s.kept := by
  unfold State.response
  repeat' first
    | rfl
    | (simp [*]; done)
    | split
    | (simp only [apply_ite State.kept])
    | (refine (State.foldl_kept _ _ _ ?_).trans ?_)
    | intro _
@[simp] theorem execRzRdrsp_kept (id : Nat) (s : State) : keptOf (execRzRdrsp id s) = some s.kept := by
  unfold execRzRdrsp
  split <;> simp
@[simp] theorem execRzWrrsp_kept (id : Nat) (s : State) : keptOf (execRzWrrsp id s) = some s.kept := by
  unfold execRzWrrsp
  split <;> simp
@[simp] theorem execRzMsg_kept (id : Nat) (s : State) : keptOf (execRzMsg id s) = some s.kept := by
  unfold execRzMsg
  split <;> simp
@[simp] theorem execRspTmo_kept (node : Fin 48) (ep : Fin 5) (tag : BitVec 10) (s : State) : keptOf (execRspTmo node ep tag s) = some s.kept := by
  unfold execRspTmo
  split <;> simp
@[simp] theorem execTagFree_kept (node : Fin 48) (ep : Fin 5) (tag : BitVec 10) (s : State) : keptOf (execTagFree node ep tag s) = some s.kept := by
  unfold execTagFree
  split <;> simp
@[simp] theorem State.heldTimeout_kept (s : State) (d : Nat) : (State.heldTimeout s d).kept = s.kept := by
  unfold State.heldTimeout
  split <;> simp
@[simp] theorem execHeldTmo_kept (dom : Fin 88) (s : State) : keptOf (execHeldTmo dom s) = some s.kept := by
  simp [execHeldTmo]
@[simp] theorem State.initDomain_kept (s : State) (d : Nat) : (State.initDomain s d).kept = s.kept := by
  simp [State.initDomain]
@[simp] theorem State.deliverHeld_kept (s : State) (h : HeldReq) : (State.deliverHeld s h).kept.1 = s.kept.1 := by
  unfold State.deliverHeld
  (repeat' split) <;> simp
@[simp] theorem State.deliverAll_kept (s : State) (d : Nat) : (State.deliverAll s d).kept.1 = s.kept.1 := by
  simp [State.deliverAll]
@[simp] theorem State.wakeDone_kept (s : State) (d : Nat) : (State.wakeDone s d).kept.1 = s.kept.1 := by
  simp [State.wakeDone]
@[simp] theorem execWakeComplete_kept (dom : Fin 88) (s : State) : queueOf (execWakeComplete dom s) = some s.kept.1 := by
  simp [execWakeComplete]
@[simp] theorem State.standUp_kept (s : State) (d : Nat) : (State.standUp s d).kept.1 = s.kept.1 := by
  unfold State.standUp
  split <;> simp
@[simp] theorem State.deviceRuns_kept (s : State) : (State.deviceRuns s).kept = s.kept := by
  simp [State.deviceRuns]
@[simp] theorem execExitComplete_kept (s : State) : queueOf (execExitComplete s) = some s.kept.1 := by
  simp [execExitComplete]
@[simp] theorem State.tickStart_kept (s : State) : (State.tickStart s).kept = s.kept := by
  simp [State.tickStart]
@[simp] theorem State.tickStep_kept (s : State) : (State.tickStep s).kept.1 = s.kept.1 := by
  unfold State.tickStep
  split <;> simp
@[simp] theorem State.tickDomains_kept (s : State) : (State.tickDomains s).kept = s.kept := by
  simp [State.tickDomains]

end Sys2Proof.Machine
end

