-- ==== Sys2Proof/Laws/Sparse.lean ====
section
/-! SUPPORT.  The laws of a sparse memory: a read after a write, and the canonical form. -/

namespace Sys2Proof.Machine

theorem Sparse.find_erase_same {α : Type} (l : List (Nat × α)) (k : Nat) : Sparse.find (Sparse.erase l k) k = none := by
  induction l with
  | nil => rfl
  | cons e r ih =>
    obtain ⟨a, v⟩ := e
    by_cases h : a = k
    · simpa [Sparse.erase, h] using ih
    · have : Sparse.erase ((a, v) :: r) k = (a, v) :: Sparse.erase r k := by simp [Sparse.erase, h]
      rw [this]; simpa [Sparse.find, h] using ih

theorem Sparse.find_erase_other {α : Type} (l : List (Nat × α)) {k j : Nat} (h : j ≠ k) :
    Sparse.find (Sparse.erase l k) j = Sparse.find l j := by
  induction l with
  | nil => rfl
  | cons e r ih =>
    obtain ⟨a, v⟩ := e
    by_cases hk : a = k
    · have : Sparse.erase ((a, v) :: r) k = Sparse.erase r k := by simp [Sparse.erase, hk]
      rw [this, ih]; simp [Sparse.find, hk, Ne.symm h]
    · have : Sparse.erase ((a, v) :: r) k = (a, v) :: Sparse.erase r k := by simp [Sparse.erase, hk]
      rw [this]; simp [Sparse.find, ih]

theorem Sparse.find_insert_same {α : Type} (l : List (Nat × α)) (k : Nat) (v : α) (h : Sparse.find l k = none) :
    Sparse.find (Sparse.insert l k v) k = some v := by
  induction l with
  | nil => simp [Sparse.insert, Sparse.find]
  | cons e r ih =>
    obtain ⟨a, u⟩ := e
    by_cases ha : a = k
    · simp [Sparse.find, ha] at h
    · have hr : Sparse.find r k = none := by simpa [Sparse.find, ha] using h
      by_cases hlt : k < a
      · simp [Sparse.insert, hlt, Sparse.find]
      · simp [Sparse.insert, hlt, Sparse.find, ha, ih hr]

theorem Sparse.find_insert_other {α : Type} (l : List (Nat × α)) {k j : Nat} (v : α) (h : j ≠ k) :
    Sparse.find (Sparse.insert l k v) j = Sparse.find l j := by
  induction l with
  | nil => simp [Sparse.insert, Sparse.find, Ne.symm h]
  | cons e r ih =>
    obtain ⟨a, u⟩ := e
    by_cases hlt : k < a
    · simp [Sparse.insert, hlt, Sparse.find, Ne.symm h]
    · simp [Sparse.insert, hlt, Sparse.find, ih]

section
variable {α : Type} [DecidableEq α]

/-- A read gives what was written to the same key. -/
@[simp] theorem Sparse.get_put_same (d : α) (l : List (Nat × α)) (k : Nat) (v : α) :
    Sparse.get d (Sparse.put d l k v) k = v := by
  unfold Sparse.get Sparse.put
  split
  · simp [Sparse.find_erase_same, *]
  · simp [Sparse.find_insert_same _ _ _ (Sparse.find_erase_same l k)]

/-- A write leaves every other key alone. -/
theorem Sparse.get_put_other (d e : α) (l : List (Nat × α)) {k j : Nat} (v : α) (h : j ≠ k) :
    Sparse.get e (Sparse.put d l k v) j = Sparse.get e l j := by
  unfold Sparse.get Sparse.put
  split
  · rw [Sparse.find_erase_other l h]
  · rw [Sparse.find_insert_other _ _ h, Sparse.find_erase_other l h]

end

/-- Nothing is listed in an empty memory. -/
@[simp] theorem Sparse.get_nil {α : Type} (d : α) (k : Nat) : Sparse.get d [] k = d := rfl

/-! ## The canonical form -/

theorem Sparse.sorted_filter {α : Type} (p : Nat × α → Bool) {l : List (Nat × α)} (h : Sparse.sorted l = true) :
    Sparse.sorted (l.filter p) = true := by
  induction l with
  | nil => rfl
  | cons e r ih =>
    obtain ⟨a, v⟩ := e
    simp only [Sparse.sorted, Bool.and_eq_true, List.all_eq_true] at h
    by_cases hp : p (a, v)
    · simp only [List.filter_cons, hp, if_true, Sparse.sorted, Bool.and_eq_true, List.all_eq_true]
      exact ⟨fun x hx => h.1 x (List.mem_filter.1 hx).1, ih h.2⟩
    · simpa [List.filter_cons, hp] using ih h.2

/-- A memory stays canonical when entries are dropped. -/
theorem Sparse.wf_filter {α : Type} [DecidableEq α] (d : Nat → α) (p : Nat × α → Bool) {l : List (Nat × α)}
    (h : Sparse.wf d l = true) : Sparse.wf d (l.filter p) = true := by
  simp only [Sparse.wf, Bool.and_eq_true, List.all_eq_true] at h ⊢
  exact ⟨Sparse.sorted_filter p h.1, fun x hx => h.2 x (List.mem_filter.1 hx).1⟩

theorem Sparse.mem_insert {α : Type} {l : List (Nat × α)} {k : Nat} {v : α} {x : Nat × α} (h : x ∈ Sparse.insert l k v) :
    x = (k, v) ∨ x ∈ l := by
  induction l with
  | nil => simpa [Sparse.insert] using h
  | cons e r ih =>
    obtain ⟨a, u⟩ := e
    by_cases hlt : k < a
    · simpa [Sparse.insert, hlt] using h
    · simp only [Sparse.insert, hlt, if_false, List.mem_cons] at h
      rcases h with h | h
      · exact Or.inr (by simp [h])
      · rcases ih h with h | h
        · exact Or.inl h
        · exact Or.inr (List.mem_cons_of_mem _ h)

theorem Sparse.sorted_insert {α : Type} {l : List (Nat × α)} {k : Nat} (v : α) (h : Sparse.sorted l = true)
    (hk : ∀ x ∈ l, x.1 ≠ k) : Sparse.sorted (Sparse.insert l k v) = true := by
  induction l with
  | nil => simp [Sparse.insert, Sparse.sorted]
  | cons e r ih =>
    obtain ⟨a, u⟩ := e
    simp only [Sparse.sorted, Bool.and_eq_true, List.all_eq_true, decide_eq_true_eq] at h
    have hak : a ≠ k := hk (a, u) (by simp)
    by_cases hlt : k < a
    · have hall : ∀ x ∈ r, k < x.1 := fun x hx => lt_trans hlt (h.1 x hx)
      simpa [Sparse.insert, hlt, Sparse.sorted, h.2] using ⟨fun x y hx => hall (x, y) hx, fun x y hx => h.1 (x, y) hx⟩
    · simp only [Sparse.insert, hlt, if_false, Sparse.sorted, Bool.and_eq_true, List.all_eq_true, decide_eq_true_eq]
      refine ⟨fun x hx => ?_, ih h.2 (fun x hx => hk x (List.mem_cons_of_mem _ hx))⟩
      rcases Sparse.mem_insert hx with rfl | hx
      · show a < k; omega
      · exact h.1 x hx

/-- A write keeps the canonical form. -/
theorem Sparse.wf_put {α : Type} [DecidableEq α] (d : Nat → α) {l : List (Nat × α)} (k : Nat) (v : α)
    (h : Sparse.wf d l = true) : Sparse.wf d (Sparse.put (d k) l k v) = true := by
  have he : Sparse.wf d (Sparse.erase l k) = true := Sparse.wf_filter d _ h
  unfold Sparse.put
  split
  · exact he
  · rename_i hv
    have hk : ∀ x ∈ Sparse.erase l k, x.1 ≠ k := fun x hx => by
      have := (List.mem_filter.1 hx).2; simpa using this
    simp only [Sparse.wf, Bool.and_eq_true, List.all_eq_true, decide_eq_true_eq] at he ⊢
    refine ⟨Sparse.sorted_insert v he.1 hk, fun x hx => ?_⟩
    rcases Sparse.mem_insert hx with rfl | hx
    · exact hv
    · exact he.2 x hx

/-- A write of several values keeps the canonical form. -/
theorem Sparse.wf_putList {α : Type} [DecidableEq α] (d : α) {l : List (Nat × α)} (k : Nat) (vs : List α)
    (h : Sparse.wf (fun _ => d) l = true) : Sparse.wf (fun _ => d) (Sparse.putList d l k vs) = true := by
  induction vs generalizing l k with
  | nil => exact h
  | cons v r ih => exact ih (k + 1) (Sparse.wf_put (fun _ => d) k v h)

theorem Sparse.find_none_of_lt {α : Type} {l : List (Nat × α)} {k : Nat} (h : ∀ x ∈ l, k < x.1) : Sparse.find l k = none := by
  induction l with
  | nil => rfl
  | cons e r ih =>
    obtain ⟨a, v⟩ := e
    have ha : k < a := h (a, v) (by simp)
    simp [Sparse.find, Nat.ne_of_gt ha, ih (fun x hx => h x (List.mem_cons_of_mem _ hx))]

/-- Two canonical memories that read the same everywhere are the same data. -/
theorem Sparse.ext {α : Type} [DecidableEq α] (d : Nat → α) {l m : List (Nat × α)} (hl : Sparse.wf d l = true)
    (hm : Sparse.wf d m = true) (h : ∀ k, Sparse.get (d k) l k = Sparse.get (d k) m k) : l = m := by
  induction l generalizing m with
  | nil =>
    cases m with
    | nil => rfl
    | cons e r =>
      obtain ⟨a, v⟩ := e
      simp only [Sparse.wf, List.all_cons, Bool.and_eq_true, decide_eq_true_eq] at hm
      have := h a
      simp [Sparse.get, Sparse.find] at this
      exact absurd this.symm hm.2.1
  | cons e r ih =>
    obtain ⟨a, v⟩ := e
    simp only [Sparse.wf, Sparse.sorted, List.all_cons, Bool.and_eq_true, List.all_eq_true, decide_eq_true_eq] at hl
    cases m with
    | nil =>
      have := h a
      simp [Sparse.get, Sparse.find] at this
      exact absurd this hl.2.1
    | cons e' r' =>
      obtain ⟨b, u⟩ := e'
      simp only [Sparse.wf, Sparse.sorted, List.all_cons, Bool.and_eq_true, List.all_eq_true, decide_eq_true_eq] at hm
      have hab : a = b := by
        rcases Nat.lt_trichotomy a b with hlt | heq | hlt
        · have hf : Sparse.find r' a = none := Sparse.find_none_of_lt fun x hx => lt_trans hlt (hm.1.1 x hx)
          have := h a
          simp [Sparse.get, Sparse.find, Nat.ne_of_gt hlt, hf] at this
          exact absurd this hl.2.1
        · exact heq
        · have hf : Sparse.find r b = none := Sparse.find_none_of_lt fun x hx => lt_trans hlt (hl.1.1 x hx)
          have := h b
          simp [Sparse.get, Sparse.find, Nat.ne_of_gt hlt, hf] at this
          exact absurd this.symm hm.2.1
      subst hab
      have huv : v = u := by have := h a; simpa [Sparse.get, Sparse.find] using this
      subst huv
      have hrec : r = r' := by
        apply ih (m := r')
        · simp only [Sparse.wf, Bool.and_eq_true, List.all_eq_true, decide_eq_true_eq]; exact ⟨hl.1.2, hl.2.2⟩
        · simp only [Sparse.wf, Bool.and_eq_true, List.all_eq_true, decide_eq_true_eq]; exact ⟨hm.1.2, hm.2.2⟩
        · intro k
          by_cases hk : a = k
          · subst hk
            rw [Sparse.get, Sparse.get, Sparse.find_none_of_lt hl.1.1, Sparse.find_none_of_lt hm.1.1]
          · have := h k
            simpa [Sparse.get, Sparse.find, hk] using this
      rw [hrec]

end Sys2Proof.Machine
end

