-- ==== Sys2Proof/Laws/State.lean ====
section
/-! SUPPORT.  One lemma for each field of the state and each plain update: what it leaves unchanged and what it sets. -/

namespace Sys2Proof.Machine

@[simp] theorem State.setReg_pending (s : State) (a : Nat) (v : Word32) : (s.setReg a v).pending = s.pending := rfl
@[simp] theorem State.setReg_clock (s : State) (a : Nat) (v : Word32) : (s.setReg a v).clock = s.clock := rfl
@[simp] theorem State.setReg_time (s : State) (a : Nat) (v : Word32) : (s.setReg a v).time = s.time := rfl
@[simp] theorem State.setReg_dsp (s : State) (a : Nat) (v : Word32) : (s.setReg a v).dsp = s.dsp := rfl
@[simp] theorem State.setReg_lib (s : State) (a : Nat) (v : Word32) : (s.setReg a v).lib = s.lib := rfl
@[simp] theorem State.setReg_crl (s : State) (a : Nat) (v : Word32) : (s.setReg a v).crl = s.crl := rfl
@[simp] theorem State.setReg_pwr (s : State) (a : Nat) (v : Word32) : (s.setReg a v).pwr = s.pwr := rfl
@[simp] theorem State.setReg_host (s : State) (a : Nat) (v : Word32) : (s.setReg a v).host = s.host := rfl
@[simp] theorem State.setReg_own (s : State) (a : Nat) (v : Word32) : (s.setReg a v).own = s.own := rfl
@[simp] theorem State.setReg_ldr (s : State) (a : Nat) (v : Word32) : (s.setReg a v).ldr = s.ldr := rfl
@[simp] theorem State.setReg_sec (s : State) (a : Nat) (v : Word32) : (s.setReg a v).sec = s.sec := rfl
@[simp] theorem State.setReg_iob (s : State) (a : Nat) (v : Word32) : (s.setReg a v).iob = s.iob := rfl
@[simp] theorem State.setReg_arr (s : State) (a : Nat) (v : Word32) : (s.setReg a v).arr = s.arr := rfl
@[simp] theorem State.setReg_seq (s : State) (a : Nat) (v : Word32) : (s.setReg a v).seq = s.seq := rfl
@[simp] theorem State.setReg_hbm (s : State) (a : Nat) (v : Word32) : (s.setReg a v).hbm = s.hbm := rfl
@[simp] theorem State.setReg_cns (s : State) (a : Nat) (v : Word32) : (s.setReg a v).cns = s.cns := rfl
@[simp] theorem State.setReg_rz (s : State) (a : Nat) (v : Word32) : (s.setReg a v).rz = s.rz := rfl
@[simp] theorem State.setReg_lane (s : State) (a : Nat) (v : Word32) : (s.setReg a v).lane = s.lane := rfl
@[simp] theorem State.setReg_eng (s : State) (a : Nat) (v : Word32) : (s.setReg a v).eng = s.eng := rfl
@[simp] theorem State.setReg_acq (s : State) (a : Nat) (v : Word32) : (s.setReg a v).acq = s.acq := rfl
@[simp] theorem State.setReg_twin (s : State) (a : Nat) (v : Word32) : (s.setReg a v).twin = s.twin := rfl
@[simp] theorem State.setReg_done (s : State) (a : Nat) (v : Word32) : (s.setReg a v).done = s.done := rfl
@[simp] theorem State.setReg_caller (s : State) (a : Nat) (v : Word32) : (s.setReg a v).caller = s.caller := rfl
@[simp] theorem State.setReg_out (s : State) (a : Nat) (v : Word32) : (s.setReg a v).out = s.out := rfl
@[simp] theorem State.setReg_freeIdx (s : State) (a : Nat) (v : Word32) : (s.setReg a v).freeIdx = s.freeIdx := rfl
@[simp] theorem State.setFld_pending (s : State) (f : Field) (n : Nat) : (s.setFld f n).pending = s.pending := rfl
@[simp] theorem State.setFld_clock (s : State) (f : Field) (n : Nat) : (s.setFld f n).clock = s.clock := rfl
@[simp] theorem State.setFld_time (s : State) (f : Field) (n : Nat) : (s.setFld f n).time = s.time := rfl
@[simp] theorem State.setFld_dsp (s : State) (f : Field) (n : Nat) : (s.setFld f n).dsp = s.dsp := rfl
@[simp] theorem State.setFld_lib (s : State) (f : Field) (n : Nat) : (s.setFld f n).lib = s.lib := rfl
@[simp] theorem State.setFld_crl (s : State) (f : Field) (n : Nat) : (s.setFld f n).crl = s.crl := rfl
@[simp] theorem State.setFld_pwr (s : State) (f : Field) (n : Nat) : (s.setFld f n).pwr = s.pwr := rfl
@[simp] theorem State.setFld_host (s : State) (f : Field) (n : Nat) : (s.setFld f n).host = s.host := rfl
@[simp] theorem State.setFld_own (s : State) (f : Field) (n : Nat) : (s.setFld f n).own = s.own := rfl
@[simp] theorem State.setFld_ldr (s : State) (f : Field) (n : Nat) : (s.setFld f n).ldr = s.ldr := rfl
@[simp] theorem State.setFld_sec (s : State) (f : Field) (n : Nat) : (s.setFld f n).sec = s.sec := rfl
@[simp] theorem State.setFld_iob (s : State) (f : Field) (n : Nat) : (s.setFld f n).iob = s.iob := rfl
@[simp] theorem State.setFld_arr (s : State) (f : Field) (n : Nat) : (s.setFld f n).arr = s.arr := rfl
@[simp] theorem State.setFld_seq (s : State) (f : Field) (n : Nat) : (s.setFld f n).seq = s.seq := rfl
@[simp] theorem State.setFld_hbm (s : State) (f : Field) (n : Nat) : (s.setFld f n).hbm = s.hbm := rfl
@[simp] theorem State.setFld_cns (s : State) (f : Field) (n : Nat) : (s.setFld f n).cns = s.cns := rfl
@[simp] theorem State.setFld_rz (s : State) (f : Field) (n : Nat) : (s.setFld f n).rz = s.rz := rfl
@[simp] theorem State.setFld_lane (s : State) (f : Field) (n : Nat) : (s.setFld f n).lane = s.lane := rfl
@[simp] theorem State.setFld_eng (s : State) (f : Field) (n : Nat) : (s.setFld f n).eng = s.eng := rfl
@[simp] theorem State.setFld_acq (s : State) (f : Field) (n : Nat) : (s.setFld f n).acq = s.acq := rfl
@[simp] theorem State.setFld_twin (s : State) (f : Field) (n : Nat) : (s.setFld f n).twin = s.twin := rfl
@[simp] theorem State.setFld_done (s : State) (f : Field) (n : Nat) : (s.setFld f n).done = s.done := rfl
@[simp] theorem State.setFld_caller (s : State) (f : Field) (n : Nat) : (s.setFld f n).caller = s.caller := rfl
@[simp] theorem State.setFld_out (s : State) (f : Field) (n : Nat) : (s.setFld f n).out = s.out := rfl
@[simp] theorem State.setFld_freeIdx (s : State) (f : Field) (n : Nat) : (s.setFld f n).freeIdx = s.freeIdx := rfl
@[simp] theorem State.setFlag_pending (s : State) (f : Field) (b : Bool) : (s.setFlag f b).pending = s.pending := rfl
@[simp] theorem State.setFlag_clock (s : State) (f : Field) (b : Bool) : (s.setFlag f b).clock = s.clock := rfl
@[simp] theorem State.setFlag_time (s : State) (f : Field) (b : Bool) : (s.setFlag f b).time = s.time := rfl
@[simp] theorem State.setFlag_dsp (s : State) (f : Field) (b : Bool) : (s.setFlag f b).dsp = s.dsp := rfl
@[simp] theorem State.setFlag_lib (s : State) (f : Field) (b : Bool) : (s.setFlag f b).lib = s.lib := rfl
@[simp] theorem State.setFlag_crl (s : State) (f : Field) (b : Bool) : (s.setFlag f b).crl = s.crl := rfl
@[simp] theorem State.setFlag_pwr (s : State) (f : Field) (b : Bool) : (s.setFlag f b).pwr = s.pwr := rfl
@[simp] theorem State.setFlag_host (s : State) (f : Field) (b : Bool) : (s.setFlag f b).host = s.host := rfl
@[simp] theorem State.setFlag_own (s : State) (f : Field) (b : Bool) : (s.setFlag f b).own = s.own := rfl
@[simp] theorem State.setFlag_ldr (s : State) (f : Field) (b : Bool) : (s.setFlag f b).ldr = s.ldr := rfl
@[simp] theorem State.setFlag_sec (s : State) (f : Field) (b : Bool) : (s.setFlag f b).sec = s.sec := rfl
@[simp] theorem State.setFlag_iob (s : State) (f : Field) (b : Bool) : (s.setFlag f b).iob = s.iob := rfl
@[simp] theorem State.setFlag_arr (s : State) (f : Field) (b : Bool) : (s.setFlag f b).arr = s.arr := rfl
@[simp] theorem State.setFlag_seq (s : State) (f : Field) (b : Bool) : (s.setFlag f b).seq = s.seq := rfl
@[simp] theorem State.setFlag_hbm (s : State) (f : Field) (b : Bool) : (s.setFlag f b).hbm = s.hbm := rfl
@[simp] theorem State.setFlag_cns (s : State) (f : Field) (b : Bool) : (s.setFlag f b).cns = s.cns := rfl
@[simp] theorem State.setFlag_rz (s : State) (f : Field) (b : Bool) : (s.setFlag f b).rz = s.rz := rfl
@[simp] theorem State.setFlag_lane (s : State) (f : Field) (b : Bool) : (s.setFlag f b).lane = s.lane := rfl
@[simp] theorem State.setFlag_eng (s : State) (f : Field) (b : Bool) : (s.setFlag f b).eng = s.eng := rfl
@[simp] theorem State.setFlag_acq (s : State) (f : Field) (b : Bool) : (s.setFlag f b).acq = s.acq := rfl
@[simp] theorem State.setFlag_twin (s : State) (f : Field) (b : Bool) : (s.setFlag f b).twin = s.twin := rfl
@[simp] theorem State.setFlag_done (s : State) (f : Field) (b : Bool) : (s.setFlag f b).done = s.done := rfl
@[simp] theorem State.setFlag_caller (s : State) (f : Field) (b : Bool) : (s.setFlag f b).caller = s.caller := rfl
@[simp] theorem State.setFlag_out (s : State) (f : Field) (b : Bool) : (s.setFlag f b).out = s.out := rfl
@[simp] theorem State.setFlag_freeIdx (s : State) (f : Field) (b : Bool) : (s.setFlag f b).freeIdx = s.freeIdx := rfl
@[simp] theorem State.reply_pending (s : State) (c : Status) (d : Word32) : (s.reply c d).pending = s.pending := rfl
@[simp] theorem State.reply_regs (s : State) (c : Status) (d : Word32) : (s.reply c d).regs = s.regs := rfl
@[simp] theorem State.reply_clock (s : State) (c : Status) (d : Word32) : (s.reply c d).clock = s.clock := rfl
@[simp] theorem State.reply_time (s : State) (c : Status) (d : Word32) : (s.reply c d).time = s.time := rfl
@[simp] theorem State.reply_dsp (s : State) (c : Status) (d : Word32) : (s.reply c d).dsp = s.dsp := rfl
@[simp] theorem State.reply_lib (s : State) (c : Status) (d : Word32) : (s.reply c d).lib = s.lib := rfl
@[simp] theorem State.reply_crl (s : State) (c : Status) (d : Word32) : (s.reply c d).crl = s.crl := rfl
@[simp] theorem State.reply_pwr (s : State) (c : Status) (d : Word32) : (s.reply c d).pwr = s.pwr := rfl
@[simp] theorem State.reply_host (s : State) (c : Status) (d : Word32) : (s.reply c d).host = s.host := rfl
@[simp] theorem State.reply_own (s : State) (c : Status) (d : Word32) : (s.reply c d).own = s.own := rfl
@[simp] theorem State.reply_ldr (s : State) (c : Status) (d : Word32) : (s.reply c d).ldr = s.ldr := rfl
@[simp] theorem State.reply_sec (s : State) (c : Status) (d : Word32) : (s.reply c d).sec = s.sec := rfl
@[simp] theorem State.reply_iob (s : State) (c : Status) (d : Word32) : (s.reply c d).iob = s.iob := rfl
@[simp] theorem State.reply_arr (s : State) (c : Status) (d : Word32) : (s.reply c d).arr = s.arr := rfl
@[simp] theorem State.reply_seq (s : State) (c : Status) (d : Word32) : (s.reply c d).seq = s.seq := rfl
@[simp] theorem State.reply_hbm (s : State) (c : Status) (d : Word32) : (s.reply c d).hbm = s.hbm := rfl
@[simp] theorem State.reply_cns (s : State) (c : Status) (d : Word32) : (s.reply c d).cns = s.cns := rfl
@[simp] theorem State.reply_rz (s : State) (c : Status) (d : Word32) : (s.reply c d).rz = s.rz := rfl
@[simp] theorem State.reply_lane (s : State) (c : Status) (d : Word32) : (s.reply c d).lane = s.lane := rfl
@[simp] theorem State.reply_eng (s : State) (c : Status) (d : Word32) : (s.reply c d).eng = s.eng := rfl
@[simp] theorem State.reply_acq (s : State) (c : Status) (d : Word32) : (s.reply c d).acq = s.acq := rfl
@[simp] theorem State.reply_twin (s : State) (c : Status) (d : Word32) : (s.reply c d).twin = s.twin := rfl
@[simp] theorem State.reply_caller (s : State) (c : Status) (d : Word32) : (s.reply c d).caller = s.caller := rfl
@[simp] theorem State.reply_out (s : State) (c : Status) (d : Word32) : (s.reply c d).out = s.out := rfl
@[simp] theorem State.reply_freeIdx (s : State) (c : Status) (d : Word32) : (s.reply c d).freeIdx = s.freeIdx := rfl
@[simp] theorem State.emit_pending (s : State) (o : Output) : (s.emit o).pending = s.pending := rfl
@[simp] theorem State.emit_regs (s : State) (o : Output) : (s.emit o).regs = s.regs := rfl
@[simp] theorem State.emit_clock (s : State) (o : Output) : (s.emit o).clock = s.clock := rfl
@[simp] theorem State.emit_time (s : State) (o : Output) : (s.emit o).time = s.time := rfl
@[simp] theorem State.emit_dsp (s : State) (o : Output) : (s.emit o).dsp = s.dsp := rfl
@[simp] theorem State.emit_lib (s : State) (o : Output) : (s.emit o).lib = s.lib := rfl
@[simp] theorem State.emit_crl (s : State) (o : Output) : (s.emit o).crl = s.crl := rfl
@[simp] theorem State.emit_pwr (s : State) (o : Output) : (s.emit o).pwr = s.pwr := rfl
@[simp] theorem State.emit_host (s : State) (o : Output) : (s.emit o).host = s.host := rfl
@[simp] theorem State.emit_own (s : State) (o : Output) : (s.emit o).own = s.own := rfl
@[simp] theorem State.emit_ldr (s : State) (o : Output) : (s.emit o).ldr = s.ldr := rfl
@[simp] theorem State.emit_sec (s : State) (o : Output) : (s.emit o).sec = s.sec := rfl
@[simp] theorem State.emit_iob (s : State) (o : Output) : (s.emit o).iob = s.iob := rfl
@[simp] theorem State.emit_arr (s : State) (o : Output) : (s.emit o).arr = s.arr := rfl
@[simp] theorem State.emit_seq (s : State) (o : Output) : (s.emit o).seq = s.seq := rfl
@[simp] theorem State.emit_hbm (s : State) (o : Output) : (s.emit o).hbm = s.hbm := rfl
@[simp] theorem State.emit_cns (s : State) (o : Output) : (s.emit o).cns = s.cns := rfl
@[simp] theorem State.emit_rz (s : State) (o : Output) : (s.emit o).rz = s.rz := rfl
@[simp] theorem State.emit_lane (s : State) (o : Output) : (s.emit o).lane = s.lane := rfl
@[simp] theorem State.emit_eng (s : State) (o : Output) : (s.emit o).eng = s.eng := rfl
@[simp] theorem State.emit_acq (s : State) (o : Output) : (s.emit o).acq = s.acq := rfl
@[simp] theorem State.emit_twin (s : State) (o : Output) : (s.emit o).twin = s.twin := rfl
@[simp] theorem State.emit_done (s : State) (o : Output) : (s.emit o).done = s.done := rfl
@[simp] theorem State.emit_caller (s : State) (o : Output) : (s.emit o).caller = s.caller := rfl
@[simp] theorem State.emit_freeIdx (s : State) (o : Output) : (s.emit o).freeIdx = s.freeIdx := rfl
@[simp] theorem State.ill_pending (s : State) : (s.ill).pending = s.pending := rfl
@[simp] theorem State.ill_regs (s : State) : (s.ill).regs = s.regs := rfl
@[simp] theorem State.ill_clock (s : State) : (s.ill).clock = s.clock := rfl
@[simp] theorem State.ill_time (s : State) : (s.ill).time = s.time := rfl
@[simp] theorem State.ill_dsp (s : State) : (s.ill).dsp = s.dsp := rfl
@[simp] theorem State.ill_lib (s : State) : (s.ill).lib = s.lib := rfl
@[simp] theorem State.ill_crl (s : State) : (s.ill).crl = s.crl := rfl
@[simp] theorem State.ill_pwr (s : State) : (s.ill).pwr = s.pwr := rfl
@[simp] theorem State.ill_host (s : State) : (s.ill).host = s.host := rfl
@[simp] theorem State.ill_own (s : State) : (s.ill).own = s.own := rfl
@[simp] theorem State.ill_ldr (s : State) : (s.ill).ldr = s.ldr := rfl
@[simp] theorem State.ill_sec (s : State) : (s.ill).sec = s.sec := rfl
@[simp] theorem State.ill_iob (s : State) : (s.ill).iob = s.iob := rfl
@[simp] theorem State.ill_arr (s : State) : (s.ill).arr = s.arr := rfl
@[simp] theorem State.ill_seq (s : State) : (s.ill).seq = s.seq := rfl
@[simp] theorem State.ill_hbm (s : State) : (s.ill).hbm = s.hbm := rfl
@[simp] theorem State.ill_cns (s : State) : (s.ill).cns = s.cns := rfl
@[simp] theorem State.ill_rz (s : State) : (s.ill).rz = s.rz := rfl
@[simp] theorem State.ill_lane (s : State) : (s.ill).lane = s.lane := rfl
@[simp] theorem State.ill_eng (s : State) : (s.ill).eng = s.eng := rfl
@[simp] theorem State.ill_acq (s : State) : (s.ill).acq = s.acq := rfl
@[simp] theorem State.ill_done (s : State) : (s.ill).done = s.done := rfl
@[simp] theorem State.ill_caller (s : State) : (s.ill).caller = s.caller := rfl
@[simp] theorem State.ill_out (s : State) : (s.ill).out = s.out := rfl
@[simp] theorem State.ill_freeIdx (s : State) : (s.ill).freeIdx = s.freeIdx := rfl
@[simp] theorem State.reply_status (s : State) (c : Status) (d : Word32) : (s.reply c d).done.status = c := rfl
@[simp] theorem State.reply_data (s : State) (c : Status) (d : Word32) : (s.reply c d).done.data = d := rfl
@[simp] theorem State.emit_out (s : State) (o : Output) : (s.emit o).out = s.out ++ [o] := rfl
@[simp] theorem State.countReg_pending (s : State) (a : Nat) : (s.countReg a).pending = s.pending := by unfold State.countReg; split <;> rfl
@[simp] theorem State.countReg_clock (s : State) (a : Nat) : (s.countReg a).clock = s.clock := by unfold State.countReg; split <;> rfl
@[simp] theorem State.countReg_time (s : State) (a : Nat) : (s.countReg a).time = s.time := by unfold State.countReg; split <;> rfl
@[simp] theorem State.countReg_dsp (s : State) (a : Nat) : (s.countReg a).dsp = s.dsp := by unfold State.countReg; split <;> rfl
@[simp] theorem State.countReg_lib (s : State) (a : Nat) : (s.countReg a).lib = s.lib := by unfold State.countReg; split <;> rfl
@[simp] theorem State.countReg_crl (s : State) (a : Nat) : (s.countReg a).crl = s.crl := by unfold State.countReg; split <;> rfl
@[simp] theorem State.countReg_pwr (s : State) (a : Nat) : (s.countReg a).pwr = s.pwr := by unfold State.countReg; split <;> rfl
@[simp] theorem State.countReg_host (s : State) (a : Nat) : (s.countReg a).host = s.host := by unfold State.countReg; split <;> rfl
@[simp] theorem State.countReg_own (s : State) (a : Nat) : (s.countReg a).own = s.own := by unfold State.countReg; split <;> rfl
@[simp] theorem State.countReg_ldr (s : State) (a : Nat) : (s.countReg a).ldr = s.ldr := by unfold State.countReg; split <;> rfl
@[simp] theorem State.countReg_sec (s : State) (a : Nat) : (s.countReg a).sec = s.sec := by unfold State.countReg; split <;> rfl
@[simp] theorem State.countReg_iob (s : State) (a : Nat) : (s.countReg a).iob = s.iob := by unfold State.countReg; split <;> rfl
@[simp] theorem State.countReg_arr (s : State) (a : Nat) : (s.countReg a).arr = s.arr := by unfold State.countReg; split <;> rfl
@[simp] theorem State.countReg_seq (s : State) (a : Nat) : (s.countReg a).seq = s.seq := by unfold State.countReg; split <;> rfl
@[simp] theorem State.countReg_hbm (s : State) (a : Nat) : (s.countReg a).hbm = s.hbm := by unfold State.countReg; split <;> rfl
@[simp] theorem State.countReg_cns (s : State) (a : Nat) : (s.countReg a).cns = s.cns := by unfold State.countReg; split <;> rfl
@[simp] theorem State.countReg_rz (s : State) (a : Nat) : (s.countReg a).rz = s.rz := by unfold State.countReg; split <;> rfl
@[simp] theorem State.countReg_lane (s : State) (a : Nat) : (s.countReg a).lane = s.lane := by unfold State.countReg; split <;> rfl
@[simp] theorem State.countReg_eng (s : State) (a : Nat) : (s.countReg a).eng = s.eng := by unfold State.countReg; split <;> rfl
@[simp] theorem State.countReg_acq (s : State) (a : Nat) : (s.countReg a).acq = s.acq := by unfold State.countReg; split <;> rfl
@[simp] theorem State.countReg_twin (s : State) (a : Nat) : (s.countReg a).twin = s.twin := by unfold State.countReg; split <;> rfl
@[simp] theorem State.countReg_done (s : State) (a : Nat) : (s.countReg a).done = s.done := by unfold State.countReg; split <;> rfl
@[simp] theorem State.countReg_caller (s : State) (a : Nat) : (s.countReg a).caller = s.caller := by unfold State.countReg; split <;> rfl
@[simp] theorem State.countReg_out (s : State) (a : Nat) : (s.countReg a).out = s.out := by unfold State.countReg; split <;> rfl
@[simp] theorem State.countReg_freeIdx (s : State) (a : Nat) : (s.countReg a).freeIdx = s.freeIdx := by unfold State.countReg; split <;> rfl
@[simp] theorem State.takeFree_pending (s : State) : s.takeFree.2.pending = s.pending := rfl
@[simp] theorem State.takeFree_regs (s : State) : s.takeFree.2.regs = s.regs := rfl
@[simp] theorem State.takeFree_clock (s : State) : s.takeFree.2.clock = s.clock := rfl
@[simp] theorem State.takeFree_time (s : State) : s.takeFree.2.time = s.time := rfl
@[simp] theorem State.takeFree_dsp (s : State) : s.takeFree.2.dsp = s.dsp := rfl
@[simp] theorem State.takeFree_lib (s : State) : s.takeFree.2.lib = s.lib := rfl
@[simp] theorem State.takeFree_crl (s : State) : s.takeFree.2.crl = s.crl := rfl
@[simp] theorem State.takeFree_pwr (s : State) : s.takeFree.2.pwr = s.pwr := rfl
@[simp] theorem State.takeFree_host (s : State) : s.takeFree.2.host = s.host := rfl
@[simp] theorem State.takeFree_own (s : State) : s.takeFree.2.own = s.own := rfl
@[simp] theorem State.takeFree_ldr (s : State) : s.takeFree.2.ldr = s.ldr := rfl
@[simp] theorem State.takeFree_sec (s : State) : s.takeFree.2.sec = s.sec := rfl
@[simp] theorem State.takeFree_iob (s : State) : s.takeFree.2.iob = s.iob := rfl
@[simp] theorem State.takeFree_arr (s : State) : s.takeFree.2.arr = s.arr := rfl
@[simp] theorem State.takeFree_seq (s : State) : s.takeFree.2.seq = s.seq := rfl
@[simp] theorem State.takeFree_hbm (s : State) : s.takeFree.2.hbm = s.hbm := rfl
@[simp] theorem State.takeFree_cns (s : State) : s.takeFree.2.cns = s.cns := rfl
@[simp] theorem State.takeFree_rz (s : State) : s.takeFree.2.rz = s.rz := rfl
@[simp] theorem State.takeFree_lane (s : State) : s.takeFree.2.lane = s.lane := rfl
@[simp] theorem State.takeFree_eng (s : State) : s.takeFree.2.eng = s.eng := rfl
@[simp] theorem State.takeFree_acq (s : State) : s.takeFree.2.acq = s.acq := rfl
@[simp] theorem State.takeFree_twin (s : State) : s.takeFree.2.twin = s.twin := rfl
@[simp] theorem State.takeFree_done (s : State) : s.takeFree.2.done = s.done := rfl
@[simp] theorem State.takeFree_caller (s : State) : s.takeFree.2.caller = s.caller := rfl
@[simp] theorem State.takeFree_out (s : State) : s.takeFree.2.out = s.out := rfl

/-! ## The register file -/

/-- A register reads what was written to it. -/
@[simp] theorem State.reg_setReg_same (s : State) (a : Nat) (v : Word32) : (s.setReg a v).reg a = v := by
  simp [State.reg, State.setReg]

/-- A register keeps its value when another one is written. -/
theorem State.reg_setReg_other (s : State) {a b : Nat} (v : Word32) (h : b ≠ a) : (s.setReg a v).reg b = s.reg b := by
  simp [State.reg, State.setReg, Sparse.get_put_other _ _ _ _ h]

theorem State.reg_setReg (s : State) (a b : Nat) (v : Word32) : (s.setReg a v).reg b = if b = a then v else s.reg b := by
  split
  · rename_i h; rw [h, State.reg_setReg_same]
  · rename_i h; exact State.reg_setReg_other s v h

/-- What a register reads depends on the register file alone. -/
theorem State.reg_congr {s t : State} (h : s.regs = t.regs) (a : Nat) : s.reg a = t.reg a := by
  simp [State.reg, h]

theorem State.fld_congr {s t : State} (h : s.regs = t.regs) (f : Field) : s.fld f = t.fld f := by
  simp [State.fld, State.reg_congr h]

theorem State.flag_congr {s t : State} (h : s.regs = t.regs) (f : Field) : s.flag f = t.flag f := by
  simp [State.flag, State.fld_congr h]

@[simp] theorem State.reg_reply (s : State) (c : Status) (d : Word32) (a : Nat) : (s.reply c d).reg a = s.reg a := rfl
@[simp] theorem State.fld_reply (s : State) (c : Status) (d : Word32) (f : Field) : (s.reply c d).fld f = s.fld f := rfl
@[simp] theorem State.flag_reply (s : State) (c : Status) (d : Word32) (f : Field) : (s.reply c d).flag f = s.flag f := rfl
@[simp] theorem State.reg_emit (s : State) (o : Output) (a : Nat) : (s.emit o).reg a = s.reg a := rfl
@[simp] theorem State.fld_emit (s : State) (o : Output) (f : Field) : (s.emit o).fld f = s.fld f := rfl
@[simp] theorem State.flag_emit (s : State) (o : Output) (f : Field) : (s.emit o).flag f = s.flag f := rfl

/-! ## Fields -/

theorem Field.get_testBit (f : Field) (w : Word32) (i : Nat) :
    (f.get w).testBit i = (decide (i < f.width) && w.toNat.testBit (f.lo + i)) := by
  simp [Field.get, Nat.testBit_mod_two_pow, Nat.testBit_shiftRight]

theorem Field.mask_bit (f : Field) (h : f.fits = true) (i : Nat) :
    f.mask.getLsbD i = (decide (f.lo ≤ i) && decide (i < f.lo + f.width)) := by
  simp only [Field.fits, decide_eq_true_eq] at h
  simp only [Field.mask, BitVec.getLsbD_ofNat, Nat.testBit_shiftLeft, Nat.testBit_two_pow_sub_one]
  rcases Nat.lt_or_ge i f.lo with h1 | h1
  · simp [Nat.not_le.2 h1]
  · by_cases h2 : i < f.lo + f.width
    · have : i < 32 := by omega
      have : i - f.lo < f.width := by omega
      simp [*]
    · have : ¬ i - f.lo < f.width := by omega
      simp [*]

theorem Field.put_bit (f : Field) (h : f.fits = true) (w : Word32) (n i : Nat) :
    (f.put w n).getLsbD i =
      if f.lo ≤ i ∧ i < f.lo + f.width then n.testBit (i - f.lo) else w.getLsbD i := by
  have hm := Field.mask_bit f h i
  simp only [Field.fits, decide_eq_true_eq] at h
  simp only [Field.put, BitVec.getLsbD_or, BitVec.getLsbD_and, BitVec.getLsbD_not, hm, BitVec.getLsbD_ofNat,
    Nat.testBit_shiftLeft, Nat.testBit_mod_two_pow]
  by_cases h1 : f.lo ≤ i
  · by_cases h2 : i < f.lo + f.width
    · have h3 : i < 32 := by omega
      have h4 : i - f.lo < f.width := by omega
      simp [*]
    · have h4 : ¬ i - f.lo < f.width := by omega
      by_cases h5 : i < 32
      · simp [*]
      · have : w.getLsbD i = false := BitVec.getLsbD_of_ge w i (by omega)
        simp [*]
  · by_cases h5 : i < 32
    · simp [*]
    · have : w.getLsbD i = false := BitVec.getLsbD_of_ge w i (by omega)
      simp [*]

/-- A field reads what was put into it, cut to its width. -/
@[simp] theorem Field.get_put_same (f : Field) (w : Word32) (n : Nat) (h : f.fits = true) : f.get (f.put w n) = n % 2 ^ f.width := by
  apply Nat.eq_of_testBit_eq
  intro i
  rw [Field.get_testBit, Nat.testBit_mod_two_pow]
  have hb := Field.put_bit f h w n (f.lo + i)
  rw [BitVec.getLsbD] at hb
  rw [hb]
  by_cases hi : i < f.width
  · simp [hi]
  · simp [hi]

/-- A field keeps its value when one apart from it in the same register is put. -/
theorem Field.get_put_apart (f g : Field) (w : Word32) (n : Nat) (h : f.fits = true)
    (hd : f.lo + f.width ≤ g.lo ∨ g.lo + g.width ≤ f.lo) : g.get (f.put w n) = g.get w := by
  apply Nat.eq_of_testBit_eq
  intro i
  rw [Field.get_testBit, Field.get_testBit]
  by_cases hi : i < g.width
  · have hb := Field.put_bit f h w n (g.lo + i)
    rw [BitVec.getLsbD, BitVec.getLsbD] at hb
    rw [hb, if_neg (by omega)]
  · simp [hi]

/-- A field of the register file reads what was set, cut to its width. -/
@[simp] theorem State.fld_setFld_same (s : State) (f : Field) (n : Nat) (h : f.fits = true) :
    (s.setFld f n).fld f = n % 2 ^ f.width := by
  simp [State.fld, State.setFld, h]

/-- A field apart from the one set keeps its value. -/
theorem State.fld_setFld_apart (s : State) (f g : Field) (n : Nat) (h : f.fits = true) (hd : f.apart g) :
    (s.setFld f n).fld g = s.fld g := by
  by_cases ha : g.addr = f.addr
  · rcases hd with hd | hd
    · exact absurd ha.symm hd
    · simp only [State.fld, State.setFld, ha, State.reg_setReg_same]
      exact Field.get_put_apart f g _ n h hd
  · simp [State.fld, State.setFld, State.reg_setReg_other _ _ ha]

theorem State.fld_setReg_other (s : State) {a : Nat} (v : Word32) (f : Field) (h : f.addr ≠ a) :
    (s.setReg a v).fld f = s.fld f := by
  simp [State.fld, State.reg_setReg_other _ _ h]

@[simp] theorem State.flag_setFlag_same (s : State) (f : Field) (b : Bool) (h : f.fits = true) (hw : f.width = 1) :
    (s.setFlag f b).flag f = b := by
  cases b <;> simp [State.flag, State.setFlag, h, hw]

theorem State.flag_setFlag_apart (s : State) (f g : Field) (b : Bool) (h : f.fits = true) (hd : f.apart g) :
    (s.setFlag f b).flag g = s.flag g := by
  simp [State.flag, State.setFlag, State.fld_setFld_apart _ _ _ _ h hd]

theorem State.fld_setFlag_apart (s : State) (f g : Field) (b : Bool) (h : f.fits = true) (hd : f.apart g) :
    (s.setFlag f b).fld g = s.fld g := by
  simp [State.setFlag, State.fld_setFld_apart _ _ _ _ h hd]

theorem State.flag_setFld_apart (s : State) (f g : Field) (n : Nat) (h : f.fits = true) (hd : f.apart g) :
    (s.setFld f n).flag g = s.flag g := by
  simp [State.flag, State.fld_setFld_apart _ _ _ _ h hd]

theorem State.reg_setFld_other (s : State) (f : Field) (n a : Nat) (h : a ≠ f.addr) : (s.setFld f n).reg a = s.reg a := by
  simp [State.setFld, State.reg_setReg_other _ _ h]

theorem State.reg_setFlag_other (s : State) (f : Field) (b : Bool) (a : Nat) (h : a ≠ f.addr) :
    (s.setFlag f b).reg a = s.reg a := by
  simp [State.setFlag, State.reg_setFld_other _ _ _ _ h]

/-- The register file stays canonical when a register is written. -/
theorem State.setReg_wf (s : State) (a : Nat) (v : Word32) (h : Sparse.wf Reg.resetOf s.regs = true) :
    Sparse.wf Reg.resetOf (s.setReg a v).regs = true := Sparse.wf_put Reg.resetOf a v h

end Sys2Proof.Machine
end

