-- ==== Sys2Proof/Laws/Events.lean ====
section
/-! SUPPORT.  What raising an event leaves unchanged (R498 to R503): every part of the state but the register file, the dispatcher,
the trouble log, the device state and the outputs, and every register field but those that `eventSafe` excludes. -/

namespace Sys2Proof.Machine

/-- The parts of a state that no event touches. -/
def State.still (s : State) : (List Instr) × ClockSt × TimeSt × CarrelSt × HostSt × OwnSt × LoaderSt × SecSt × IobSt × ArraySt × SeqSt × HbmSt × CnsSt × RzSt × LaneSt × (Pairs LinkEng) × AcqSt × TwinSt × Completion × Origin × Nat :=
  (s.pending, s.clock, s.time, s.crl, s.host, s.own, s.ldr, s.sec, s.iob, s.arr, s.seq, s.hbm, s.cns, s.rz, s.lane, s.eng, s.acq, s.twin, s.done, s.caller, s.freeIdx)

@[simp] theorem State.still_fold (s : State) : (s.pending, s.clock, s.time, s.crl, s.host, s.own, s.ldr, s.sec, s.iob, s.arr, s.seq, s.hbm, s.cns, s.rz, s.lane, s.eng, s.acq, s.twin, s.done, s.caller, s.freeIdx) = s.still := rfl
@[simp] theorem State.still_mk x0 x1 x2 x3 x4 x5 x6 x7 x8 x9 x10 x11 x12 x13 x14 x15 x16 x17 x18 x19 x20 x21 x22 x23 x24 x25 :
    (State.mk x0 x1 x2 x3 x4 x5 x6 x7 x8 x9 x10 x11 x12 x13 x14 x15 x16 x17 x18 x19 x20 x21 x22 x23 x24 x25).still = (x0, x2, x3, x6, x8, x9, x10, x11, x12, x13, x14, x15, x16, x17, x18, x19, x20, x21, x22, x23, x25) := rfl
@[simp] theorem State.still_ite (c : Prop) [Decidable c] (a b : State) : (if c then a else b).still = if c then a.still else b.still := by
  split <;> rfl
@[simp] theorem State.foldl_still {α : Type} (f : State → α → State) (l : List α) (s : State) (h : ∀ x b, (f x b).still = x.still) :
    (l.foldl f s).still = s.still := by
  induction l generalizing s with
  | nil => rfl
  | cons a r ih => rw [List.foldl_cons, ih, h]
@[simp] theorem State.setReg_still (s : State) (a : Nat) (v : Word32) : (s.setReg a v).still = s.still := rfl
@[simp] theorem State.setFld_still (s : State) (f : Field) (n : Nat) : (s.setFld f n).still = s.still := rfl
@[simp] theorem State.setFlag_still (s : State) (f : Field) (b : Bool) : (s.setFlag f b).still = s.still := rfl
@[simp] theorem State.countReg_still (s : State) (a : Nat) : (s.countReg a).still = s.still := by
  unfold State.countReg
  split <;> simp
@[simp] theorem State.emit_still (s : State) (o : Output) : (s.emit o).still = s.still := rfl
@[simp] theorem State.setTask_still (s : State) (n : Nat) (t : Task) : (s.setTask n t).still = s.still := rfl
@[simp] theorem State.undelayTask_still (s : State) (n : Nat) : (s.undelayTask n).still = s.still := by
  simp [State.undelayTask]
@[simp] theorem State.timeoutMatched_still (s : State) (n : Nat) : (s.timeoutMatched n).still = s.still := by
  unfold State.timeoutMatched
  dsimp only
  (repeat' split) <;> simp
@[simp] theorem State.exitSource_still (s : State) (src idx : Nat) (a b c : Bool) : (s.exitSource src idx a b c).still = s.still := by
  unfold State.exitSource
  dsimp only
  split <;> simp
@[simp] theorem State.dspSettle_still (s : State) : (s.dspSettle).still = s.still := by
  simp [State.dspSettle]
@[simp] theorem State.dspFlags_still (s : State) (n : Nat) (bits : Word32) : (s.dspFlags n bits).still = s.still := by
  simp [State.dspFlags]
@[simp] theorem State.setSticky_still (s : State) (n : Nat) : (s.setSticky n).still = s.still := by
  simp [State.setSticky]
@[simp] theorem State.logPut_still (s : State) (k v c m : Nat) (p : List Nat) : (s.logPut k v c m p).still = s.still := by
  simp [State.logPut]
@[simp] theorem State.logDrop_still (al : State → State) (s : State) (h : ∀ x, (al x).still = x.still) : (State.logDrop al s).still = s.still := by
  simp [State.logDrop, h]
@[simp] theorem State.logAppend_still (al : State → State) (s : State) (k v c m : Nat) (p : List Nat) (h : ∀ x, (al x).still = x.still) : (State.logAppend al s k v c m p).still = s.still := by
  unfold State.logAppend
  dsimp only
  (repeat' split) <;> simp [h]
@[simp] theorem State.msixFire_still (s : State) (v : Nat) : (s.msixFire v).still = s.still := by
  unfold State.msixFire
  dsimp only
  split <;> simp
@[simp] theorem State.deliver_still (s : State) (n : Nat) : (s.deliver n).still = s.still := by
  simp [State.deliver]
@[simp] theorem State.raiseWith_still (al : State → State) (s : State) (n : Nat) (h : ∀ x, (al x).still = x.still) : (State.raiseWith al s n).still = s.still := by
  unfold State.raiseWith
  dsimp only
  (repeat' split) <;> simp [h]
@[simp] theorem State.raiseDrop_still (s : State) : (s.raiseDrop).still = s.still := by
  simp [State.raiseDrop]
@[simp] theorem State.raise_still (s : State) (n : Nat) : (s.raise n).still = s.still := by
  simp [State.raise]
@[simp] theorem State.raiseBit_still (s : State) (f : Field) (n : Nat) : (s.raiseBit f n).still = s.still := by
  simp [State.raiseBit]

@[simp] theorem State.raise_pending (s : State) (n : Nat) : (s.raise n).pending = s.pending := congrArg (fun x => x.1) (State.raise_still s n)
@[simp] theorem State.raise_clock (s : State) (n : Nat) : (s.raise n).clock = s.clock := congrArg (fun x => x.2.1) (State.raise_still s n)
@[simp] theorem State.raise_time (s : State) (n : Nat) : (s.raise n).time = s.time := congrArg (fun x => x.2.2.1) (State.raise_still s n)
@[simp] theorem State.raise_crl (s : State) (n : Nat) : (s.raise n).crl = s.crl := congrArg (fun x => x.2.2.2.1) (State.raise_still s n)
@[simp] theorem State.raise_host (s : State) (n : Nat) : (s.raise n).host = s.host := congrArg (fun x => x.2.2.2.2.1) (State.raise_still s n)
@[simp] theorem State.raise_own (s : State) (n : Nat) : (s.raise n).own = s.own := congrArg (fun x => x.2.2.2.2.2.1) (State.raise_still s n)
@[simp] theorem State.raise_ldr (s : State) (n : Nat) : (s.raise n).ldr = s.ldr := congrArg (fun x => x.2.2.2.2.2.2.1) (State.raise_still s n)
@[simp] theorem State.raise_sec (s : State) (n : Nat) : (s.raise n).sec = s.sec := congrArg (fun x => x.2.2.2.2.2.2.2.1) (State.raise_still s n)
@[simp] theorem State.raise_iob (s : State) (n : Nat) : (s.raise n).iob = s.iob := congrArg (fun x => x.2.2.2.2.2.2.2.2.1) (State.raise_still s n)
@[simp] theorem State.raise_arr (s : State) (n : Nat) : (s.raise n).arr = s.arr := congrArg (fun x => x.2.2.2.2.2.2.2.2.2.1) (State.raise_still s n)
@[simp] theorem State.raise_seq (s : State) (n : Nat) : (s.raise n).seq = s.seq := congrArg (fun x => x.2.2.2.2.2.2.2.2.2.2.1) (State.raise_still s n)
@[simp] theorem State.raise_hbm (s : State) (n : Nat) : (s.raise n).hbm = s.hbm := congrArg (fun x => x.2.2.2.2.2.2.2.2.2.2.2.1) (State.raise_still s n)
@[simp] theorem State.raise_cns (s : State) (n : Nat) : (s.raise n).cns = s.cns := congrArg (fun x => x.2.2.2.2.2.2.2.2.2.2.2.2.1) (State.raise_still s n)
@[simp] theorem State.raise_rz (s : State) (n : Nat) : (s.raise n).rz = s.rz := congrArg (fun x => x.2.2.2.2.2.2.2.2.2.2.2.2.2.1) (State.raise_still s n)
@[simp] theorem State.raise_lane (s : State) (n : Nat) : (s.raise n).lane = s.lane := congrArg (fun x => x.2.2.2.2.2.2.2.2.2.2.2.2.2.2.1) (State.raise_still s n)
@[simp] theorem State.raise_eng (s : State) (n : Nat) : (s.raise n).eng = s.eng := congrArg (fun x => x.2.2.2.2.2.2.2.2.2.2.2.2.2.2.2.1) (State.raise_still s n)
@[simp] theorem State.raise_acq (s : State) (n : Nat) : (s.raise n).acq = s.acq := congrArg (fun x => x.2.2.2.2.2.2.2.2.2.2.2.2.2.2.2.2.1) (State.raise_still s n)
@[simp] theorem State.raise_twin (s : State) (n : Nat) : (s.raise n).twin = s.twin := congrArg (fun x => x.2.2.2.2.2.2.2.2.2.2.2.2.2.2.2.2.2.1) (State.raise_still s n)
@[simp] theorem State.raise_done (s : State) (n : Nat) : (s.raise n).done = s.done := congrArg (fun x => x.2.2.2.2.2.2.2.2.2.2.2.2.2.2.2.2.2.2.1) (State.raise_still s n)
@[simp] theorem State.raise_caller (s : State) (n : Nat) : (s.raise n).caller = s.caller := congrArg (fun x => x.2.2.2.2.2.2.2.2.2.2.2.2.2.2.2.2.2.2.2.1) (State.raise_still s n)
@[simp] theorem State.raise_freeIdx (s : State) (n : Nat) : (s.raise n).freeIdx = s.freeIdx := congrArg (fun x => x.2.2.2.2.2.2.2.2.2.2.2.2.2.2.2.2.2.2.2.2) (State.raise_still s n)

@[simp] theorem State.raiseBit_pending (s : State) (f : Field) (n : Nat) : (s.raiseBit f n).pending = s.pending := congrArg (fun x => x.1) (State.raiseBit_still s f n)
@[simp] theorem State.raiseBit_clock (s : State) (f : Field) (n : Nat) : (s.raiseBit f n).clock = s.clock := congrArg (fun x => x.2.1) (State.raiseBit_still s f n)
@[simp] theorem State.raiseBit_time (s : State) (f : Field) (n : Nat) : (s.raiseBit f n).time = s.time := congrArg (fun x => x.2.2.1) (State.raiseBit_still s f n)
@[simp] theorem State.raiseBit_crl (s : State) (f : Field) (n : Nat) : (s.raiseBit f n).crl = s.crl := congrArg (fun x => x.2.2.2.1) (State.raiseBit_still s f n)
@[simp] theorem State.raiseBit_host (s : State) (f : Field) (n : Nat) : (s.raiseBit f n).host = s.host := congrArg (fun x => x.2.2.2.2.1) (State.raiseBit_still s f n)
@[simp] theorem State.raiseBit_own (s : State) (f : Field) (n : Nat) : (s.raiseBit f n).own = s.own := congrArg (fun x => x.2.2.2.2.2.1) (State.raiseBit_still s f n)
@[simp] theorem State.raiseBit_ldr (s : State) (f : Field) (n : Nat) : (s.raiseBit f n).ldr = s.ldr := congrArg (fun x => x.2.2.2.2.2.2.1) (State.raiseBit_still s f n)
@[simp] theorem State.raiseBit_sec (s : State) (f : Field) (n : Nat) : (s.raiseBit f n).sec = s.sec := congrArg (fun x => x.2.2.2.2.2.2.2.1) (State.raiseBit_still s f n)
@[simp] theorem State.raiseBit_iob (s : State) (f : Field) (n : Nat) : (s.raiseBit f n).iob = s.iob := congrArg (fun x => x.2.2.2.2.2.2.2.2.1) (State.raiseBit_still s f n)
@[simp] theorem State.raiseBit_arr (s : State) (f : Field) (n : Nat) : (s.raiseBit f n).arr = s.arr := congrArg (fun x => x.2.2.2.2.2.2.2.2.2.1) (State.raiseBit_still s f n)
@[simp] theorem State.raiseBit_seq (s : State) (f : Field) (n : Nat) : (s.raiseBit f n).seq = s.seq := congrArg (fun x => x.2.2.2.2.2.2.2.2.2.2.1) (State.raiseBit_still s f n)
@[simp] theorem State.raiseBit_hbm (s : State) (f : Field) (n : Nat) : (s.raiseBit f n).hbm = s.hbm := congrArg (fun x => x.2.2.2.2.2.2.2.2.2.2.2.1) (State.raiseBit_still s f n)
@[simp] theorem State.raiseBit_cns (s : State) (f : Field) (n : Nat) : (s.raiseBit f n).cns = s.cns := congrArg (fun x => x.2.2.2.2.2.2.2.2.2.2.2.2.1) (State.raiseBit_still s f n)
@[simp] theorem State.raiseBit_rz (s : State) (f : Field) (n : Nat) : (s.raiseBit f n).rz = s.rz := congrArg (fun x => x.2.2.2.2.2.2.2.2.2.2.2.2.2.1) (State.raiseBit_still s f n)
@[simp] theorem State.raiseBit_lane (s : State) (f : Field) (n : Nat) : (s.raiseBit f n).lane = s.lane := congrArg (fun x => x.2.2.2.2.2.2.2.2.2.2.2.2.2.2.1) (State.raiseBit_still s f n)
@[simp] theorem State.raiseBit_eng (s : State) (f : Field) (n : Nat) : (s.raiseBit f n).eng = s.eng := congrArg (fun x => x.2.2.2.2.2.2.2.2.2.2.2.2.2.2.2.1) (State.raiseBit_still s f n)
@[simp] theorem State.raiseBit_acq (s : State) (f : Field) (n : Nat) : (s.raiseBit f n).acq = s.acq := congrArg (fun x => x.2.2.2.2.2.2.2.2.2.2.2.2.2.2.2.2.1) (State.raiseBit_still s f n)
@[simp] theorem State.raiseBit_twin (s : State) (f : Field) (n : Nat) : (s.raiseBit f n).twin = s.twin := congrArg (fun x => x.2.2.2.2.2.2.2.2.2.2.2.2.2.2.2.2.2.1) (State.raiseBit_still s f n)
@[simp] theorem State.raiseBit_done (s : State) (f : Field) (n : Nat) : (s.raiseBit f n).done = s.done := congrArg (fun x => x.2.2.2.2.2.2.2.2.2.2.2.2.2.2.2.2.2.2.1) (State.raiseBit_still s f n)
@[simp] theorem State.raiseBit_caller (s : State) (f : Field) (n : Nat) : (s.raiseBit f n).caller = s.caller := congrArg (fun x => x.2.2.2.2.2.2.2.2.2.2.2.2.2.2.2.2.2.2.2.1) (State.raiseBit_still s f n)
@[simp] theorem State.raiseBit_freeIdx (s : State) (f : Field) (n : Nat) : (s.raiseBit f n).freeIdx = s.freeIdx := congrArg (fun x => x.2.2.2.2.2.2.2.2.2.2.2.2.2.2.2.2.2.2.2.2) (State.raiseBit_still s f n)

/-! ## Registers -/

section
variable {f : Field}

theorem State.fld_foldl {α : Type} (g : State → α → State) (l : List α) (s : State) (h : ∀ x b, (g x b).fld f = x.fld f) :
    (l.foldl g s).fld f = s.fld f := by
  induction l generalizing s with
  | nil => rfl
  | cons a r ih => rw [List.foldl_cons, ih, h]

theorem State.fld_dsp (s : State) (d : DispatcherSt) : ({ s with dsp := d } : State).fld f = s.fld f := rfl
theorem State.fld_lib (s : State) (d : LibrarianSt) : ({ s with lib := d } : State).fld f = s.fld f := rfl
theorem State.fld_pwr (s : State) (d : PowerSt) : ({ s with pwr := d } : State).fld f = s.fld f := rfl

theorem State.fld_undelayTask (s : State) (n : Nat) : (s.undelayTask n).fld f = s.fld f := rfl

theorem State.fld_timeoutMatched (s : State) (n : Nat) : (s.timeoutMatched n).fld f = s.fld f := by
  unfold State.timeoutMatched
  dsimp only
  (repeat' split) <;> rfl

theorem State.fld_exitSource (s : State) (src idx : Nat) (a b c : Bool) (h : Fld.PWR_STATUS_STATE.apart f) :
    (s.exitSource src idx a b c).fld f = s.fld f := by
  unfold State.exitSource
  dsimp only
  (repeat' split) <;> first | rfl | exact State.fld_setFld_apart s _ _ _ rfl h

theorem eventSafe_state (h : eventSafe f = true) : Fld.PWR_STATUS_STATE.apart f := by
  simp only [eventSafe, Bool.and_eq_true, Bool.or_eq_true, bne_iff_ne, decide_eq_true_eq] at h
  by_cases ha : f.addr = Reg.PWR_STATUS
  · rcases h.2 with h | h
    · exact absurd ha h
    · exact Or.inr (Or.inl h)
  · exact Or.inl (Ne.symm ha)

theorem eventSafe_logDrop (h : eventSafe f = true) : Fld.LIB_STATUS_LOG_DROP.apart f := by
  simp only [eventSafe, Bool.and_eq_true, Bool.or_eq_true, bne_iff_ne, decide_eq_true_eq] at h
  by_cases ha : f.addr = Reg.LIB_STATUS
  · rcases h.1.2 with (h | h) | h
    · exact absurd ha h
    · exact Or.inr (Or.inr h)
    · exact Or.inr (Or.inl h)
  · exact Or.inl (Ne.symm ha)

theorem State.fld_dspSettle (s : State) (h : eventSafe f = true) : s.dspSettle.fld f = s.fld f := by
  have h1 : (taskNumbers.foldl State.timeoutMatched s).fld f = s.fld f :=
    State.fld_foldl _ _ _ fun x b => State.fld_timeoutMatched x b
  have h2 : ∀ (t : State) (k : Nat) (en : Bool),
      (if t.dispatchIrq k then t.exitSource 8 k en true false else t).fld f = t.fld f := by
    intro t k en
    split
    · exact State.fld_exitSource _ _ _ _ _ _ (eventSafe_state h)
    · rfl
  unfold State.dspSettle
  dsimp only
  rw [h2, h2, State.fld_dsp, h1]

theorem State.fld_dspFlags (s : State) (n : Nat) (bits : Word32) (h : eventSafe f = true) :
    (s.dspFlags n bits).fld f = s.fld f := State.fld_dspSettle _ h

theorem State.fld_setSticky (s : State) (n : Nat) (hn : n < 512) (h : eventSafe f = true) : (s.setSticky n).fld f = s.fld f := by
  refine State.fld_setReg_other s _ f fun ha => ?_
  simp only [eventSafe, Bool.and_eq_true, Bool.not_eq_true', Bool.and_eq_false_iff, decide_eq_false_iff_not] at h
  have hs := h.1.1.1.1.1
  simp only [ha, Reg.EVT_STICKY] at hs
  omega

theorem State.fld_countReg (s : State) (a : Nat) (h : f.addr ≠ a) : (s.countReg a).fld f = s.fld f := by
  unfold State.countReg
  split
  · rfl
  · exact State.fld_setReg_other s _ f h

theorem State.fld_logPut (s : State) (k v c m : Nat) (p : List Nat) (h : eventSafe f = true) :
    (s.logPut k v c m p).fld f = s.fld f := by
  refine (State.fld_setReg_other _ _ f fun ha => ?_).trans rfl
  simp [eventSafe, ha] at h

theorem State.fld_logDrop (al : State → State) (s : State) (hal : ∀ x, (al x).fld f = x.fld f) (h : eventSafe f = true) :
    (State.logDrop al s).fld f = s.fld f := by
  unfold State.logDrop
  rw [hal, State.fld_setFlag_apart _ _ _ _ rfl (eventSafe_logDrop h), State.fld_countReg, State.fld_lib]
  intro ha
  simp [eventSafe, ha] at h

theorem State.fld_logAppend (al : State → State) (s : State) (k v c m : Nat) (p : List Nat) (hal : ∀ x, (al x).fld f = x.fld f)
    (h : eventSafe f = true) : (State.logAppend al s k v c m p).fld f = s.fld f := by
  unfold State.logAppend
  dsimp only
  split
  · exact State.fld_logDrop al s hal h
  · have h1 : (if s.lib.dropped = 0 then s
      else ({ s with lib := { s.lib with dropped := 0 } } : State).logPut 3 0 0 0 [s.lib.dropped]).fld f = s.fld f := by
      split
      · rfl
      · rw [State.fld_logPut _ _ _ _ _ _ h, State.fld_lib]
    generalize (if s.lib.dropped = 0 then s
      else ({ s with lib := { s.lib with dropped := 0 } } : State).logPut 3 0 0 0 [s.lib.dropped]) = s1 at h1 ⊢
    split
    · rw [State.fld_logDrop al _ hal h, h1]
    · rw [State.fld_logPut _ _ _ _ _ _ h, h1]

theorem State.fld_msixFire (s : State) (v : Nat) (hv : v < 64) (h : eventSafe f = true) : (s.msixFire v).fld f = s.fld f := by
  unfold State.msixFire
  dsimp only
  split
  · refine State.fld_setReg_other s _ f fun ha => ?_
    simp only [eventSafe, Bool.and_eq_true, Bool.not_eq_true', Bool.and_eq_false_iff, decide_eq_false_iff_not] at h
    have hs := h.1.1.2
    simp only [ha, Reg.HST_MSIX_PBA] at hs
    omega
  · rfl

theorem State.fld_deliver (s : State) (n : Nat) (h : eventSafe f = true) : (s.deliver n).fld f = s.fld f := by
  have hvec : s.fld (Fld.EVT_ROUTE_VEC n) < 64 := Nat.mod_lt _ (by simp)
  have h1 : (if s.flag (Fld.EVT_ROUTE_DSP n) then
      s.dspFlags (s.fld (Fld.EVT_ROUTE_TASK n)) (BitVec.ofNat 32 (2 ^ s.fld (Fld.EVT_ROUTE_FLAG n))) else s).fld f = s.fld f := by
    split
    · exact State.fld_dspFlags _ _ _ h
    · rfl
  unfold State.deliver
  dsimp only
  generalize (if s.flag (Fld.EVT_ROUTE_DSP n) then
      s.dspFlags (s.fld (Fld.EVT_ROUTE_TASK n)) (BitVec.ofNat 32 (2 ^ s.fld (Fld.EVT_ROUTE_FLAG n))) else s) = s1 at h1 ⊢
  generalize s.fld (Fld.EVT_ROUTE_VEC n) = vec at hvec ⊢
  have h2 : ∀ o, (if s.flag (Fld.EVT_ROUTE_MSIX n) then (if s1.ringMember then s1.emit o else s1.msixFire vec) else s1).fld f = s.fld f := by
    intro o
    split
    · split
      · exact h1
      · exact (State.fld_msixFire _ _ hvec h).trans h1
    · exact h1
  have h3 : ∀ (c : Bool) (o : Output) (t : State), (if c then t.emit o else t).fld f = t.fld f := by
    intro c o t; split <;> rfl
  split
  · rw [State.fld_exitSource _ _ _ _ _ _ (eventSafe_state h), h3, h2]
  · rw [h3, h2]

theorem State.fld_raiseWith (al : State → State) (s : State) (n : Nat) (hn : n < 512) (hal : ∀ x, (al x).fld f = x.fld f)
    (h : eventSafe f = true) : (State.raiseWith al s n).fld f = s.fld f := by
  unfold State.raiseWith
  dsimp only
  split
  · rfl
  · rw [State.fld_deliver _ _ h]
    split
    · rw [State.fld_logAppend al _ _ _ _ _ _ hal h, State.fld_setSticky _ _ hn h]
    · exact State.fld_setSticky _ _ hn h

/-- An event leaves a field alone that is not part of the event machinery. -/
theorem State.fld_raise (s : State) (n : Nat) (hn : n < 512) (h : eventSafe f = true) : (s.raise n).fld f = s.fld f :=
  State.fld_raiseWith _ _ _ hn (fun x => State.fld_raiseWith id x 476 (by decide) (fun _ => rfl) h) h

theorem State.flag_raise (s : State) (n : Nat) (hn : n < 512) (h : eventSafe f = true) : (s.raise n).flag f = s.flag f := by
  simp only [State.flag, State.fld_raise s n hn h]

/-- A sticky bit set with its event reads 1. -/
theorem State.flag_raiseBit_same (s : State) (n : Nat) (hn : n < 512) (h : eventSafe f = true) (hf : f.fits = true)
    (hw : f.width = 1) : (s.raiseBit f n).flag f = true := by
  rw [State.raiseBit, State.flag_raise _ _ hn h, State.flag_setFlag_same _ _ _ hf hw]

theorem State.fld_raiseBit_apart (s : State) (g : Field) (n : Nat) (hn : n < 512) (h : eventSafe f = true) (hg : g.fits = true)
    (ha : g.apart f) : (s.raiseBit g n).fld f = s.fld f := by
  rw [State.raiseBit, State.fld_raise _ _ hn h, State.fld_setFlag_apart _ _ _ _ hg ha]

theorem State.flag_raiseBit_apart (s : State) (g : Field) (n : Nat) (hn : n < 512) (h : eventSafe f = true) (hg : g.fits = true)
    (ha : g.apart f) : (s.raiseBit g n).flag f = s.flag f := by
  simp only [State.flag, State.fld_raiseBit_apart s g n hn h hg ha]

end

end Sys2Proof.Machine
end

