-- ==== Sys2Proof/Laws/Frames.lean ====
section
/-! SUPPORT.  How frames build up: what each plain update and the raising of an event add to what has changed. -/

namespace Sys2Proof.Machine

@[simp] theorem State.bare_setReg (s : State) (a : Nat) (v : Word32) : (s.setReg a v).bare = s.bare := rfl
@[simp] theorem State.bare_setFld (s : State) (f : Field) (n : Nat) : (s.setFld f n).bare = s.bare := rfl
@[simp] theorem State.bare_setFlag (s : State) (f : Field) (b : Bool) : (s.setFlag f b).bare = s.bare := rfl
@[simp] theorem State.bare_reply (s : State) (c : Status) (d : Word32) : (s.reply c d).bare = s.bare := rfl
@[simp] theorem State.bare_emit (s : State) (o : Output) : (s.emit o).bare = s.bare := rfl
@[simp] theorem State.bare_countReg (s : State) (a : Nat) : (s.countReg a).bare = s.bare := by
  unfold State.countReg; split <;> rfl
@[simp] theorem State.bare_addReg (s : State) (a n : Nat) : (s.addReg a n).bare = s.bare := rfl

@[simp] theorem State.core_setReg (s : State) (a : Nat) (v : Word32) : (s.setReg a v).core = s.core := rfl
@[simp] theorem State.core_setFld (s : State) (f : Field) (n : Nat) : (s.setFld f n).core = s.core := rfl
@[simp] theorem State.core_setFlag (s : State) (f : Field) (b : Bool) : (s.setFlag f b).core = s.core := rfl
@[simp] theorem State.core_reply (s : State) (c : Status) (d : Word32) : (s.reply c d).core = s.core := rfl
@[simp] theorem State.core_emit (s : State) (o : Output) : (s.emit o).core = s.core := rfl
@[simp] theorem State.core_countReg (s : State) (a : Nat) : (s.countReg a).core = s.core := by
  unfold State.countReg; split <;> rfl
@[simp] theorem State.core_addReg (s : State) (a n : Nat) : (s.addReg a n).core = s.core := rfl

theorem State.core_of_bare {s t : State} (h : t.bare = s.bare) : t.core = s.core := by
  have h1 : t.core = t.bare.core := rfl
  have h2 : s.core = s.bare.core := rfl
  rw [h1, h2, h]

theorem State.core_foldl {α : Type} (f : State → α → State) (l : List α) (s : State) (h : ∀ x b, (f x b).core = x.core) :
    (l.foldl f s).core = s.core := by
  induction l generalizing s with
  | nil => rfl
  | cons a r ih => rw [List.foldl_cons, ih, h]

theorem State.core_dsp (s : State) (d : DispatcherSt) : ({ s with dsp := d } : State).core = s.core := rfl

@[simp] theorem State.core_exitSource (s : State) (src idx : Nat) (a b c : Bool) : (s.exitSource src idx a b c).core = s.core := by
  unfold State.exitSource
  dsimp only
  (repeat' split) <;> rfl

@[simp] theorem State.core_undelayTask (s : State) (n : Nat) : (s.undelayTask n).core = s.core := rfl

@[simp] theorem State.core_timeoutMatched (s : State) (n : Nat) : (s.timeoutMatched n).core = s.core := by
  unfold State.timeoutMatched
  dsimp only
  (repeat' split) <;> rfl

@[simp] theorem State.core_dspSettle (s : State) : s.dspSettle.core = s.core := by
  have h1 : (taskNumbers.foldl State.timeoutMatched s).core = s.core :=
    State.core_foldl _ _ _ fun x b => State.core_timeoutMatched x b
  have h2 : ∀ (t : State) (k : Nat) (en : Bool),
      (if t.dispatchIrq k then t.exitSource 8 k en true false else t).core = t.core := by
    intro t k en
    split
    · exact State.core_exitSource _ _ _ _ _ _
    · rfl
  unfold State.dspSettle
  dsimp only
  rw [h2, h2, State.core_dsp, h1]

@[simp] theorem State.core_dspFlags (s : State) (n : Nat) (bits : Word32) : (s.dspFlags n bits).core = s.core :=
  State.core_dspSettle _

@[simp] theorem State.core_setSticky (s : State) (n : Nat) : (s.setSticky n).core = s.core := rfl

@[simp] theorem State.core_logPut (s : State) (k v c m : Nat) (p : List Nat) : (s.logPut k v c m p).core = s.core := rfl

theorem State.core_dropped (s : State) (n : Nat) : ({ s with lib := { s.lib with dropped := n } } : State).core = s.core := rfl

theorem State.core_logDrop (al : State → State) (s : State) (h : ∀ x, (al x).core = x.core) :
    (State.logDrop al s).core = s.core := by
  unfold State.logDrop
  rw [h, State.core_setFlag, State.core_countReg, State.core_dropped]

theorem State.core_logAppend (al : State → State) (s : State) (k v c m : Nat) (p : List Nat) (h : ∀ x, (al x).core = x.core) :
    (State.logAppend al s k v c m p).core = s.core := by
  unfold State.logAppend
  dsimp only
  split
  · exact State.core_logDrop al s h
  · have h1 : (if s.lib.dropped = 0 then s
      else ({ s with lib := { s.lib with dropped := 0 } } : State).logPut 3 0 0 0 [s.lib.dropped]).core = s.core := by
      split <;> rfl
    generalize (if s.lib.dropped = 0 then s
      else ({ s with lib := { s.lib with dropped := 0 } } : State).logPut 3 0 0 0 [s.lib.dropped]) = s1 at h1 ⊢
    split
    · rw [State.core_logDrop al _ h, h1]
    · rw [State.core_logPut, h1]

@[simp] theorem State.core_msixFire (s : State) (v : Nat) : (s.msixFire v).core = s.core := by
  unfold State.msixFire
  dsimp only
  split <;> rfl

@[simp] theorem State.core_deliver (s : State) (n : Nat) : (s.deliver n).core = s.core := by
  have h1 : (if s.flag (Fld.EVT_ROUTE_DSP n) then
      s.dspFlags (s.fld (Fld.EVT_ROUTE_TASK n)) (BitVec.ofNat 32 (2 ^ s.fld (Fld.EVT_ROUTE_FLAG n))) else s).core = s.core := by
    split
    · exact State.core_dspFlags _ _ _
    · rfl
  unfold State.deliver
  dsimp only
  generalize (if s.flag (Fld.EVT_ROUTE_DSP n) then
      s.dspFlags (s.fld (Fld.EVT_ROUTE_TASK n)) (BitVec.ofNat 32 (2 ^ s.fld (Fld.EVT_ROUTE_FLAG n))) else s) = s1 at h1 ⊢
  have h2 : ∀ (o : Output) (vec : Nat),
      (if s.flag (Fld.EVT_ROUTE_MSIX n) then (if s1.ringMember then s1.emit o else s1.msixFire vec) else s1).core = s.core := by
    intro o vec
    split
    · split
      · exact h1
      · exact (State.core_msixFire _ _).trans h1
    · exact h1
  have h3 : ∀ (c : Bool) (o : Output) (t : State), (if c then t.emit o else t).core = t.core := by
    intro c o t; split <;> rfl
  split
  · rw [State.core_exitSource, h3, h2]
  · rw [h3, h2]

theorem State.core_raiseWith (al : State → State) (s : State) (n : Nat) (h : ∀ x, (al x).core = x.core) :
    (State.raiseWith al s n).core = s.core := by
  unfold State.raiseWith
  dsimp only
  split
  · rfl
  · rw [State.core_deliver]
    split
    · rw [State.core_logAppend al _ _ _ _ _ _ h, State.core_setSticky]
    · rfl

/-- Raising an event changes only the dispatcher, the trouble log, the exit from a device state, registers and outputs. -/
@[simp] theorem State.core_raise (s : State) (n : Nat) : (s.raise n).core = s.core :=
  State.core_raiseWith _ _ _ fun x => State.core_raiseWith id x 476 fun _ => rfl

@[simp] theorem State.core_raiseBit (s : State) (f : Field) (n : Nat) : (s.raiseBit f n).core = s.core := by
  rw [State.raiseBit, State.core_raise, State.core_setFlag]

section
variable {w : List Field} {s t : State}

theorem Only.refl (w : List Field) (s : State) : Only w s s := ⟨rfl, fun _ _ => rfl⟩

theorem Only.setFld (h : Only w s t) (f : Field) (n : Nat) (hf : f.fits = true) (hm : f ∈ w) : Only w s (t.setFld f n) :=
  ⟨h.1, fun g hg => (State.fld_setFld_apart _ _ _ _ hf (hg f hm)).trans (h.2 g hg)⟩

theorem Only.setFlag (h : Only w s t) (f : Field) (b : Bool) (hf : f.fits = true) (hm : f ∈ w) : Only w s (t.setFlag f b) :=
  h.setFld f _ hf hm

theorem wholeReg_apart {a : Nat} {g : Field} (hg : g.fits = true) (hw : g.width ≠ 0) (h : (wholeReg a).apart g) : g.addr ≠ a := by
  intro e
  rcases h with h | h | h
  · exact h e.symm
  · simp only [wholeReg, Field.fits, decide_eq_true_eq] at h hg; omega
  · simp only [wholeReg] at h; omega

theorem Field.get_eq_of_apart_whole {a : Nat} {g : Field} (w1 w2 : Word32) (h : (wholeReg a).apart g) (e : g.addr = a) :
    g.get w1 = g.get w2 := by
  have h0 : ∀ w : Word32, g.get w = 0 := by
    intro w
    rcases h with h | h | h
    · exact absurd e.symm h
    · have hw : w.toNat < 2 ^ g.lo :=
        Nat.lt_of_lt_of_le w.isLt (Nat.pow_le_pow_right (by decide) (by simpa [wholeReg] using h))
      simp [Field.get, Nat.shiftRight_eq_div_pow, Nat.div_eq_of_lt hw]
    · have : g.width = 0 := by simp only [wholeReg] at h; omega
      simp [Field.get, this, Nat.mod_one]
  rw [h0, h0]

theorem State.fld_setReg_apart (s : State) {a : Nat} (v : Word32) {g : Field} (h : (wholeReg a).apart g) :
    (s.setReg a v).fld g = s.fld g := by
  by_cases e : g.addr = a
  · exact Field.get_eq_of_apart_whole _ _ h e
  · exact State.fld_setReg_other s v g e

theorem State.fld_countReg_apart (s : State) {a : Nat} {g : Field} (h : (wholeReg a).apart g) :
    (s.countReg a).fld g = s.fld g := by
  unfold State.countReg
  split
  · rfl
  · exact State.fld_setReg_apart s _ h

theorem Only.setReg (h : Only w s t) (a : Nat) (v : Word32) (hm : wholeReg a ∈ w) : Only w s (t.setReg a v) :=
  ⟨h.1, fun g hg => (State.fld_setReg_apart _ _ (hg _ hm)).trans (h.2 g hg)⟩

theorem Only.countReg (h : Only w s t) (a : Nat) (hm : wholeReg a ∈ w) : Only w s (t.countReg a) :=
  ⟨(State.bare_countReg t a).trans h.1, fun g hg => (State.fld_countReg_apart _ (hg _ hm)).trans (h.2 g hg)⟩

theorem Only.addReg (h : Only w s t) (a n : Nat) (hm : wholeReg a ∈ w) : Only w s (t.addReg a n) := h.setReg a _ hm

theorem Only.reply (h : Only w s t) (c : Status) (d : Word32 := 0) : Only w s (t.reply c d) := ⟨h.1, fun g hg => h.2 g hg⟩

theorem Only.emit (h : Only w s t) (o : Output) : Only w s (t.emit o) := ⟨h.1, fun g hg => h.2 g hg⟩

theorem Only.ev (h : Only w s t) : OnlyEv w s t := ⟨State.core_of_bare h.1, fun g _ hg => h.2 g hg⟩

theorem OnlyEv.refl (w : List Field) (s : State) : OnlyEv w s s := ⟨rfl, fun _ _ _ => rfl⟩

theorem OnlyEv.setFld (h : OnlyEv w s t) (f : Field) (n : Nat) (hf : f.fits = true) (hm : f ∈ w) : OnlyEv w s (t.setFld f n) :=
  ⟨h.1, fun g he hg => (State.fld_setFld_apart _ _ _ _ hf (hg f hm)).trans (h.2 g he hg)⟩

theorem OnlyEv.setFlag (h : OnlyEv w s t) (f : Field) (b : Bool) (hf : f.fits = true) (hm : f ∈ w) :
    OnlyEv w s (t.setFlag f b) := h.setFld f _ hf hm

theorem OnlyEv.setReg (h : OnlyEv w s t) (a : Nat) (v : Word32) (hm : wholeReg a ∈ w) : OnlyEv w s (t.setReg a v) :=
  ⟨h.1, fun g he hg => (State.fld_setReg_apart _ _ (hg _ hm)).trans (h.2 g he hg)⟩

theorem OnlyEv.countReg (h : OnlyEv w s t) (a : Nat) (hm : wholeReg a ∈ w) : OnlyEv w s (t.countReg a) :=
  ⟨(State.core_countReg t a).trans h.1, fun g he hg => (State.fld_countReg_apart _ (hg _ hm)).trans (h.2 g he hg)⟩

theorem OnlyEv.reply (h : OnlyEv w s t) (c : Status) (d : Word32 := 0) : OnlyEv w s (t.reply c d) :=
  ⟨h.1, fun g he hg => h.2 g he hg⟩

theorem OnlyEv.emit (h : OnlyEv w s t) (o : Output) : OnlyEv w s (t.emit o) := ⟨h.1, fun g he hg => h.2 g he hg⟩

theorem OnlyEv.raise (h : OnlyEv w s t) (n : Nat) (hn : n < 512) : OnlyEv w s (t.raise n) :=
  ⟨(State.core_raise t n).trans h.1, fun g he hg => (State.fld_raise t n hn he).trans (h.2 g he hg)⟩

theorem OnlyEv.raiseBit (h : OnlyEv w s t) (f : Field) (n : Nat) (hf : f.fits = true) (hm : f ∈ w) (hn : n < 512) :
    OnlyEv w s (t.raiseBit f n) := (h.setFlag f true hf hm).raise n hn

end

end Sys2Proof.Machine
end

