-- ==== Sys2Proof/Laws/Memory.lean ====
section
/-! SUPPORT.  Every operation that stores to a memory keeps the canonical form, and the memories have it after reset. -/

namespace Sys2Proof.Machine

theorem Memory.wf_iff (s : State) : Memory.wf s = true ↔
    Sparse.wf Reg.resetOf s.regs = true ∧ Sparse.wf (fun _ => 0) s.hbm.words = true ∧ Sparse.wf (fun _ => 0) s.lib.sram = true ∧
      Sparse.wf (fun _ => 0) s.arr.imem = true := by
  simp [Memory.wf, and_assoc]

theorem Memory.wf_reset : Memory.wf State.reset = true := by decide

theorem Memory.wf_setReg {s : State} (a : Nat) (v : Word32) (h : Memory.wf s = true) : Memory.wf (s.setReg a v) = true := by
  rw [Memory.wf_iff] at h ⊢
  exact ⟨Sparse.wf_put Reg.resetOf a v h.1, h.2⟩

theorem Memory.wf_setFld {s : State} (f : Field) (n : Nat) (h : Memory.wf s = true) : Memory.wf (s.setFld f n) = true :=
  Memory.wf_setReg _ _ h

theorem Memory.wf_setRegs {s : State} (a : Nat) (l : List Word32) (h : Memory.wf s = true) : Memory.wf (s.setRegs a l) = true := by
  induction l generalizing s a with
  | nil => exact h
  | cons v r ih => exact ih (a + 4) (Memory.wf_setReg a v h)

theorem Memory.wf_setHbmWord {s : State} (w : Nat) (v : Word64) (h : Memory.wf s = true) : Memory.wf (s.setHbmWord w v) = true := by
  rw [Memory.wf_iff] at h ⊢
  exact ⟨h.1, Sparse.wf_put (fun _ => 0) w v h.2.1, h.2.2⟩

theorem Memory.wf_setHbmByte {s : State} (a : Nat) (v : Byte) (h : Memory.wf s = true) : Memory.wf (s.setHbmByte a v) = true :=
  Memory.wf_setHbmWord _ _ h

theorem Memory.wf_setHbmBytes {s : State} (a : Nat) (l : List Byte) (h : Memory.wf s = true) : Memory.wf (s.setHbmBytes a l) = true := by
  induction l generalizing s a with
  | nil => exact h
  | cons v r ih => exact ih (a + 1) (Memory.wf_setHbmByte a v h)

theorem Memory.wf_setSram {s : State} (w : Nat) (v : Word32) (h : Memory.wf s = true) : Memory.wf (s.setSram w v) = true := by
  rw [Memory.wf_iff] at h ⊢
  exact ⟨h.1, h.2.1, Sparse.wf_put (fun _ => 0) w v h.2.2.1, h.2.2.2⟩

theorem Memory.wf_setImem {s : State} (loc : Nat) (v : BitVec 72) (h : Memory.wf s = true) : Memory.wf (s.setImem loc v) = true := by
  rw [Memory.wf_iff] at h ⊢
  exact ⟨h.1, h.2.1, h.2.2.1, Sparse.wf_put (fun _ => 0) loc v h.2.2.2⟩

end Sys2Proof.Machine
end

