-- ==== Sys2Proof/Laws/Sticky.lean ====
section
/-! SUPPORT.  The sticky store (R498): an event's bit is 1 once the event is raised, and no delivery changes the store. -/

namespace Sys2Proof.Machine

/-- The address of a word of the sticky store. -/
def stickyAddr (a : Nat) : Prop := 0x00100000 ≤ a ∧ a < 0x00100040

section
variable {a : Nat}

theorem State.reg_exitSource_sticky (s : State) (src idx : Nat) (x y z : Bool) (h : stickyAddr a) :
    (s.exitSource src idx x y z).reg a = s.reg a := by
  have ha : a ≠ Fld.PWR_STATUS_STATE.addr := by
    rintro rfl; exact absurd h (by simp [stickyAddr, Reg.PWR_STATUS])
  have h1 : (s.setFld Fld.PWR_STATUS_STATE 6).reg a = s.reg a := State.reg_setFld_other s _ _ _ ha
  unfold State.exitSource
  dsimp only
  (repeat' split) <;> first | rfl | exact h1

theorem State.regs_timeoutMatched (s : State) (n : Nat) : (s.timeoutMatched n).regs = s.regs := by
  unfold State.timeoutMatched
  dsimp only
  (repeat' split) <;> rfl

theorem State.reg_dsp (s : State) (d : DispatcherSt) : ({ s with dsp := d } : State).reg a = s.reg a := rfl

theorem State.reg_dspSettle_sticky (s : State) (h : stickyAddr a) : s.dspSettle.reg a = s.reg a := by
  have h1 : (taskNumbers.foldl State.timeoutMatched s).regs = s.regs := by
    generalize taskNumbers = l
    induction l generalizing s with
    | nil => rfl
    | cons x r ih => rw [List.foldl_cons, ih, State.regs_timeoutMatched]
  have h2 : ∀ (t : State) (k : Nat) (en : Bool),
      (if t.dispatchIrq k then t.exitSource 8 k en true false else t).reg a = t.reg a := by
    intro t k en
    split
    · exact State.reg_exitSource_sticky _ _ _ _ _ _ h
    · rfl
  unfold State.dspSettle
  dsimp only
  rw [h2, h2, State.reg_dsp, State.reg_congr h1]

theorem State.reg_msixFire_sticky (s : State) (v : Nat) (h : stickyAddr a) : (s.msixFire v).reg a = s.reg a := by
  unfold State.msixFire
  dsimp only
  split
  · refine State.reg_setReg_other s _ ?_
    rintro rfl
    simp only [stickyAddr, Reg.HST_MSIX_PBA] at h
    omega
  · rfl

theorem State.reg_logPut_sticky (s : State) (k v c m : Nat) (p : List Nat) (h : stickyAddr a) :
    (s.logPut k v c m p).reg a = s.reg a := by
  unfold State.logPut
  refine (State.reg_setReg_other _ _ ?_).trans rfl
  rintro rfl
  exact absurd h (by simp [stickyAddr, Reg.LIB_LOG_WP])

theorem State.reg_deliver_sticky (s : State) (n : Nat) (h : stickyAddr a) : (s.deliver n).reg a = s.reg a := by
  have h1 : (if s.flag (Fld.EVT_ROUTE_DSP n) then
      s.dspFlags (s.fld (Fld.EVT_ROUTE_TASK n)) (BitVec.ofNat 32 (2 ^ s.fld (Fld.EVT_ROUTE_FLAG n))) else s).reg a = s.reg a := by
    split
    · exact State.reg_dspSettle_sticky _ h
    · rfl
  unfold State.deliver
  dsimp only
  generalize (if s.flag (Fld.EVT_ROUTE_DSP n) then
      s.dspFlags (s.fld (Fld.EVT_ROUTE_TASK n)) (BitVec.ofNat 32 (2 ^ s.fld (Fld.EVT_ROUTE_FLAG n))) else s) = s1 at h1 ⊢
  have h2 : ∀ (o : Output) (vec : Nat),
      (if s.flag (Fld.EVT_ROUTE_MSIX n) then (if s1.ringMember then s1.emit o else s1.msixFire vec) else s1).reg a = s.reg a := by
    intro o vec
    split
    · split
      · exact h1
      · exact (State.reg_msixFire_sticky _ _ h).trans h1
    · exact h1
  have h3 : ∀ (c : Bool) (o : Output) (t : State), (if c then t.emit o else t).reg a = t.reg a := by
    intro c o t; split <;> rfl
  split
  · rw [State.reg_exitSource_sticky _ _ _ _ _ _ h, h3, h2]
  · rw [h3, h2]

end

theorem stickyAddr_of {n : Nat} (hn : n < 512) : stickyAddr (Reg.EVT_STICKY (n / 32)) := by
  simp only [stickyAddr, Reg.EVT_STICKY]
  omega

theorem State.sticky_congr {s t : State} (m : Nat) (h : t.reg (Reg.EVT_STICKY (m / 32)) = s.reg (Reg.EVT_STICKY (m / 32))) :
    t.sticky m = s.sticky m := by
  simp only [State.sticky, h]

@[simp] theorem State.sticky_deliver (s : State) (n : Nat) {m : Nat} (hm : m < 512) : (s.deliver n).sticky m = s.sticky m :=
  State.sticky_congr m (State.reg_deliver_sticky s n (stickyAddr_of hm))

theorem State.sticky_setSticky_same (s : State) (n : Nat) : (s.setSticky n).sticky n = true := by
  have hb : (BitVec.ofNat 32 (2 ^ (n % 32))).toNat = 2 ^ (n % 32) := by
    rw [BitVec.toNat_ofNat, Nat.mod_eq_of_lt (Nat.pow_lt_pow_right (by decide) (Nat.mod_lt _ (by decide)))]
  simp only [State.sticky, State.setSticky, State.reg_setReg_same, bitOf, BitVec.toNat_or, hb, Nat.testBit_or,
    Nat.testBit_two_pow_self, Bool.or_true]

/-- A sticky bit that is set stays set when another is set. -/
theorem State.sticky_setSticky_keep (s : State) (n m : Nat) (h : s.sticky m = true) : (s.setSticky n).sticky m = true := by
  unfold State.sticky State.setSticky at *
  rw [State.reg_setReg]
  split
  · rename_i e
    simp only [bitOf, BitVec.toNat_or, Nat.testBit_or, Bool.or_eq_true]
    left
    rw [← e]
    exact h
  · exact h

/-- What keeps every sticky bit that is set. -/
theorem State.sticky_logDrop_keep (al : State → State) (s : State) {m : Nat} (hm : m < 512)
    (hal : ∀ x : State, x.sticky m = true → (al x).sticky m = true) (h : s.sticky m = true) :
    (State.logDrop al s).sticky m = true := by
  unfold State.logDrop
  refine hal _ ?_
  rw [State.sticky_congr m, ← h]
  have hs := stickyAddr_of hm
  rw [State.reg_setFlag_other]
  · unfold State.countReg
    split
    · rfl
    · rw [State.reg_setReg_other]
      · rfl
      · intro e; rw [e] at hs; exact absurd hs (by simp [stickyAddr, Reg.LIB_LOG_DROP])
  · intro e; rw [e] at hs; exact absurd hs (by simp [stickyAddr, Reg.LIB_STATUS])

theorem State.sticky_logPut (s : State) (k v c n : Nat) (p : List Nat) {m : Nat} (hm : m < 512) :
    (s.logPut k v c n p).sticky m = s.sticky m :=
  State.sticky_congr m (State.reg_logPut_sticky _ _ _ _ _ _ (stickyAddr_of hm))

theorem State.sticky_logAppend_keep (al : State → State) (s : State) (k v c n : Nat) (p : List Nat) {m : Nat} (hm : m < 512)
    (hal : ∀ x : State, x.sticky m = true → (al x).sticky m = true) (h : s.sticky m = true) :
    (State.logAppend al s k v c n p).sticky m = true := by
  unfold State.logAppend
  dsimp only
  split
  · exact State.sticky_logDrop_keep al s hm hal h
  · have h1 : (if s.lib.dropped = 0 then s
      else ({ s with lib := { s.lib with dropped := 0 } } : State).logPut 3 0 0 0 [s.lib.dropped]).sticky m = true := by
      split
      · exact h
      · rw [State.sticky_logPut _ _ _ _ _ _ hm]; exact h
    generalize (if s.lib.dropped = 0 then s
      else ({ s with lib := { s.lib with dropped := 0 } } : State).logPut 3 0 0 0 [s.lib.dropped]) = s1 at h1 ⊢
    split
    · exact State.sticky_logDrop_keep al _ hm hal h1
    · rw [State.sticky_logPut _ _ _ _ _ _ hm]; exact h1

theorem State.sticky_raiseWith_keep (al : State → State) (s : State) (n : Nat) {m : Nat} (hm : m < 512)
    (hal : ∀ x : State, x.sticky m = true → (al x).sticky m = true) (h : s.sticky m = true) :
    (State.raiseWith al s n).sticky m = true := by
  unfold State.raiseWith
  dsimp only
  split
  · exact h
  · rw [State.sticky_deliver _ _ hm]
    split
    · exact State.sticky_logAppend_keep al _ _ _ _ _ _ hm hal (State.sticky_setSticky_keep s n m h)
    · exact State.sticky_setSticky_keep s n m h

/-- Raising an event leaves every sticky bit that is 1 at 1. -/
theorem State.sticky_raise_keep (s : State) (n : Nat) {m : Nat} (hm : m < 512) (h : s.sticky m = true) :
    (s.raise n).sticky m = true :=
  State.sticky_raiseWith_keep _ _ _ hm (fun x hx => State.sticky_raiseWith_keep id x 476 hm (fun _ h => h) hx) h

/-- The sticky bit of an event that was raised is 1. -/
theorem State.sticky_raise_same (s : State) (n : Nat) (hn : n < 512) : (s.raise n).sticky n = true := by
  by_cases h : s.sticky n = true
  · exact State.sticky_raise_keep s n hn h
  · unfold State.raise State.raiseWith
    dsimp only
    rw [if_neg h, State.sticky_deliver _ _ hn]
    split
    · exact State.sticky_logAppend_keep _ _ _ _ _ _ _ hn
        (fun x hx => State.sticky_raiseWith_keep id x 476 hn (fun _ h => h) hx) (State.sticky_setSticky_same s n)
    · exact State.sticky_setSticky_same s n

theorem State.sticky_raiseBit_same (s : State) (f : Field) (n : Nat) (hn : n < 512) : (s.raiseBit f n).sticky n = true :=
  State.sticky_raise_same _ n hn

end Sys2Proof.Machine
end

