-- ==== Sys2Proof/Tests/Slice0.lean ====
section
/-! SUPPORT.  Tests of the model: commands that the well-formedness checks refuse, single steps with their results taken from the manual,
and, for every statement that has hypotheses, states and operands that meet the hypotheses of each of its clauses. -/

namespace Sys2Proof.Tests
open Sys2Proof Sys2Proof.Machine

/-! ## Small states -/

/-- A state with registers set by address. -/
def st (l : List (Nat × Nat)) (s : State := State.reset) : State := l.foldl (fun s e => s.setReg e.1 (BitVec.ofNat 32 e.2)) s

/-- A state with fields of registers set. -/
def sf (l : List (Field × Nat)) (s : State := State.reset) : State := l.foldl (fun s e => s.setFld e.1 e.2) s

/-- The state after some commands. -/
def ru (l : List Instr) (s : State := State.reset) : State := l.foldl (fun s c => match exec c s with | .next t => t | _ => s) s

/-- The block with its root clock locked and its image not yet loaded. -/
def up : State :=
  let s := st [(Reg.CLK_STATUS, 1), (Reg.CLK_RPLL, 0x9C4078), (Reg.LDR_STATUS, 1)]
  { s with
    clock := { s.clock with rpllOn := true, porst := false, fnom := 40000000, everLocked := true }
    time := { s.time with pnom := 916259689813, tickCounts := 1200000 }
    ldr := { s.ldr with phase := 1 } }

/-- Lanes 0 to 3 enabled and ready. -/
def lanes : State :=
  st ([(Reg.LN_PLL 0, 0x1014), (Reg.LN_PLL_STAT 0, 1)] ++ (List.range 4).flatMap fun i => [(Reg.LN_CFG i, 1), (Reg.LN_STAT i, 0x1F)]) up

/-- A link of lanes 0 to 3 that is up, with a MODE and a GROUP, and its credit full. -/
def link (l : List (Field × Nat)) (mode : Nat) (group : Nat := 0) : State :=
  let s := sf ((List.range 4).flatMap (fun i => [(Fld.LN_LE_CFG_MODE i, mode), (Fld.LN_LE_CFG_GROUP i, group)]) ++
    [(Fld.LN_LE_STAT_UP 0, 1), (Fld.QL_REL_STAT_CREDIT 0, 2048)] ++ l) lanes
  { s with eng := (List.range 4).map fun i => (i, { LinkEng.reset with blockLock := true, alignFrom := if i = 0 then 1 else 0 }) }

/-! ## Commands that are not well formed, one for each check -/

/-- A packet with `n` data units. -/
def packet (n : Nat) : Packet :=
  { dnode := 0, dep := 0, snode := 0, sep := 0, mid := 0, cls := 0, opc := 0, tag := 0, status := 0, rdlen := 0, addr := 0,
    firstBe := 0, lastBe := 0, data := List.replicate n 0 }

/-- A frame of `n` words. -/
def frame (n : Nat) : QuireFrame :=
  { turn := 0, first := 0, words := List.replicate n (0, true), seq := 0, crcOk := true, headerOk := true }

/-- R194: 15 data units pass and 16 do not. -/
theorem test_wf_packetInjection :
    (Instr.packetInjection 0 0 (some (packet 15))).wf = true ∧ (Instr.packetInjection 0 0 (some (packet 16))).wf = false := by decide

/-- R255: a frame with no word, or with 17. -/
theorem test_wf_frames :
    (Instr.xdevFrame 0 (frame 1)).wf = true ∧ (Instr.xdevFrame 0 (frame 0)).wf = false ∧ (Instr.feedFrame 0 (frame 17)).wf = false ∧
    (Instr.trigFrame 0 (frame 0)).wf = false ∧ (Instr.readoutFrame 0 (frame 17)).wf = false := by decide

/-- R272: a payload of 7 bytes, and one of 8,193. -/
theorem test_wf_udpDatagram :
    (Instr.udpDatagram 0 0 (List.replicate 8 0)).wf = true ∧ (Instr.udpDatagram 0 0 (List.replicate 7 0)).wf = false ∧
    (Instr.udpDatagram 0 0 (List.replicate 8193 0)).wf = false := by
  simp only [Instr.wf, List.length_replicate]; decide

/-- R376: a copy of the directory that is not 4 KiB. -/
theorem test_wf_directoryRead :
    (Instr.directoryRead (List.replicate 4096 0) (List.replicate 4095 0)).wf = false ∧ (Instr.directoryRead [] []).wf = false := by
  simp only [Instr.wf, List.length_replicate]; decide

/-- R466: a Block Write of no byte, and of 33. -/
theorem test_wf_smbInBlockWrite :
    (Instr.smbInBlockWrite (List.replicate 32 0) true).wf = true ∧ (Instr.smbInBlockWrite [] true).wf = false ∧
    (Instr.smbInBlockWrite (List.replicate 33 0) true).wf = false := by decide

/-- R541, R556: a byte behind the end of the stream, and 127 words. -/
theorem test_wf_twin :
    (Instr.twinSnap 22545407 [0]).wf = true ∧ (Instr.twinSnap 22545408 [0]).wf = false ∧
    (Instr.twinHbmcopy 0 (List.replicate 127 0)).wf = false := by
  simp [Instr.wf]

/-- R566: a read of 4,097 bytes, a write whose enables do not match its bytes, a width of 3 and a speed of 0. -/
theorem test_wf_host :
    (Instr.memoryRead .hbm 0 4096 []).wf = true ∧ (Instr.memoryRead .hbm 0 4097 []).wf = false ∧
    (Instr.memoryWrite .hbm 0 [true] [0, 0] []).wf = false ∧ (Instr.linkInL0 4 8 true true).wf = true ∧
    (Instr.linkInL0 4 3 true true).wf = false ∧ (Instr.linkInL0 0 8 true true).wf = false := by decide

/-- R572: a LOAD frame of 129 bytes. -/
theorem test_wf_ringLoad (hdr : RingHeader) :
    (Instr.ringLoad hdr 0 (List.replicate 128 0) false true).wf = true ∧
    (Instr.ringLoad hdr 0 (List.replicate 129 0) false true).wf = false := by
  simp [Instr.wf]

/-- No row of the table has bits. -/
theorem test_decodeTableWord : decodeTableWord 32 0 = none ∧ decodeTableWord 0 0 = none := by decide

/-! ## Single steps -/

/-- The check value of CRC-32C (RFC 3720): 0xE3069283 over the digits 1 to 9. -/
theorem test_crc32c : crc32c [0x31, 0x32, 0x33, 0x34, 0x35, 0x36, 0x37, 0x38, 0x39] = 0xE3069283 := by decide +kernel

/-- The first 12 bytes of a copy of the flash directory: MAGIC, GEN 5, VERSION 1. -/
def dirHead : List Byte := [0x5A, 0x44, 0x49, 0x52, 5, 0, 0, 0, 1, 0, 1, 0]

/-- A copy of the directory of 4,096 bytes: its head, zeros, and its CRC. -/
def dirCopy : List Byte := dirHead ++ List.replicate 4080 0 ++ [0xFE, 0x4E, 0x6E, 0x33]

/-- The CRC fold, each value brought to its own form before the next byte. -/
def crcFrom : List Byte → Word32 → Word32
  | [], c => c
  | b :: r, c => if crc32cByte c b = 0 then crcFrom r 0 else crcFrom r (crc32cByte c b)

theorem crcFrom_eq (l : List Byte) (c : Word32) : crcFrom l c = l.foldl crc32cByte c := by
  induction l generalizing c with
  | nil => rfl
  | cons b r ih =>
    simp only [crcFrom, List.foldl_cons, ih]
    split
    · simp [*]
    · rfl

theorem dirCopy_crc : crcFrom (dirHead ++ List.replicate 4080 0) 0xFFFFFFFF = 0xCC91B101 := by decide +kernel

/-- R376: MAGIC and the CRC are those of a good copy. -/
theorem dirCopy_good : dirGood dirCopy = true := by
  have ha : (dirHead ++ List.replicate 4080 0).length = 4092 := by
    rw [List.length_append, List.length_replicate]; rfl
  have h : dirCopy.take 0xFFC = dirHead ++ List.replicate 4080 0 := List.take_left' ha
  have hl : dirCopy.length = 4096 := by rw [dirCopy, List.length_append, ha]; rfl
  have hm : numAt dirCopy 0 4 = 0x5249445A := by decide +kernel
  have hd : dirCopy.drop 0xFFC = [0xFE, 0x4E, 0x6E, 0x33] := List.drop_left' ha
  have hc : numAt dirCopy 0xFFC 4 = 0x336E4EFE := by rw [numAt, hd]; decide
  rw [dirGood, h, hl, hm, hc, crc32c, ← crcFrom_eq, dirCopy_crc]
  decide

/-- R376: the only good copy is the one in use. -/
theorem dirCopy_chosen : dirChoice dirCopy [] = some (dirCopy, false) := by
  have h : dirGood [] = false := by decide
  rw [dirChoice, dirCopy_good, h]

/-- R28: a write reaches the RW bits of a register and a read returns them; the register table gives DEV_SCRATCH 32 of them. -/
theorem test_scratch : (ru [.registerWrite 0x08 0x0000010 0xA5A5F00D] State.reset).reg Reg.DEV_SCRATCH = 0xA5A5F00D := by decide +kernel

/-- A step carries out the command at the front of the queue and leaves the rest. -/
theorem test_step :
    (match step { State.reset with pending := [.registerWrite 0x08 0x0000010 7, .porstN] } with
     | .next t => t.pending == [.porstN] && t.reg Reg.DEV_SCRATCH == 7
     | _ => false) = true := by decide +kernel

/-- R474, R475: a task bound to core 0 that becomes active with its mask 0 under ALL is ready, and core 0 takes it. -/
theorem test_take :
    (ru [.dspBind 0 5 0 3 true false, .dspActivate 0 5, .dspTake 0] State.reset).runningOn 0 = some 5 := by decide +kernel

/-- R28: a write of a read-only register changes nothing in it; DEV_IDENT reads part 0x9640. -/
theorem test_ident : (ru [.registerWrite 0x08 0 0] State.reset).fld Fld.DEV_IDENT_PART = 0x9640 := by decide +kernel

/-! ## The hypotheses of the statements -/

section Witnesses
set_option Elab.async false

/-- The hypotheses of each clause of `Obligations.TuCommands` (first part) are met. -/
theorem witness_TuCommands :
    (∃ (mid : Mid), tuWriter mid = true) :=
  ⟨9, by decide +kernel⟩

/-- The hypotheses of each clause of `Obligations.TuCommands` (second part) are met. -/
theorem witness_TuCommands_PnomCommit :
    (∃ (mid : Mid), tuWriter mid = true) :=
  ⟨0, by decide +kernel⟩

/-- The hypotheses of each clause of `Obligations.TuRefusal` are met. -/
theorem witness_TuRefusal :
    (∃ (mid : Mid), tuWriter mid = false) :=
  ⟨0x22, by decide +kernel⟩

/-- The hypotheses of each clause of `Obligations.TuHoldover` (first part) are met. -/
theorem witness_TuHoldover :
    (∃ (mid : Mid) (s : State), ((tuWriter mid = true) ∨ (s.fld Fld.TU_SRV_CFG_TMO_MS ≠ 0))) :=
  ⟨0, State.reset, by decide +kernel⟩

/-- The hypotheses of each clause of `Obligations.TuHoldover` (second part) are met. -/
theorem witness_TuHoldover_ServoMeasurement :
    (∃ (mid : Mid), tuWriter mid = true) :=
  ⟨0, by decide +kernel⟩

/-- The hypotheses of each clause of `Obligations.Comparators` (first part) are met. -/
theorem witness_Comparators :
    (∃ (mid : Mid) (tc : Fin 16) (s : State), tuWriter mid = true ∧ s.mayAssign mid 3 tc = true) :=
  ⟨0, 15, State.reset, by decide +kernel⟩

namespace ComparatorFire
def c0 : State := { State.reset with clock := { State.reset.clock with rootCnt := 4000 } }
def h (c : Comparator) (s : State := c0) : State := sf [(Fld.TU_TC_CTRL_ARMED 5,1)] { s with time := { s.time with live := [(5,c)] } }
def k1 : Comparator := ⟨true,false,1000,0⟩

/-- The hypotheses of each clause of `Obligations.Comparators` (second part) are met. -/
theorem witness_Comparators_ComparatorFire :
    (∃ (tc : Fin 16) (s : State) (c : Comparator), Sparse.find s.time.live tc = some c ∧ s.flag (Fld.TU_TC_CTRL_ARMED tc) = true ∧
      c.target ≤ s.compareValue c ∧ s.reg (Reg.TU_TC_COUNT tc) ≠ 0xFFFFFFFF ∧ (∀ k < 16, ¬ (s.fld (Fld.ACQ_CLS_CFG_SRC k) = 2 ∧ s.fld
      (Fld.ACQ_CLS_CFG_SEL k) = tc)) ∧ s.flag Fld.ACQ_DUMP_CFG_TC_EN = false ∧ s.seqState ≠ 1) :=
  ⟨5, h k1, k1, by decide +kernel⟩

end ComparatorFire

namespace DispatcherCommands
def d1 : State := ru [.dspBind 0 5 0 3 true true, .dspBind 0 7 1 2 false false, .dspActivate 0 5]
def dm (s : State) : State := { s with dsp := { s.dsp with arg := [(0, 0x35), (1, 0xFFFF0001)] } }

/-- The hypotheses of each clause of `Obligations.DispatcherCommands` (first part) are met. -/
theorem witness_DispatcherCommands :
    (∃ (mid : Mid) (s : State), (mid = 0x00 ∨ mid = 0x01) ∧ s.awake Reg.DSP_CMD) ∧
    (∃ (mid : Mid) (s : State), (mid = 0x00 ∨ mid = 0x01) ∧ s.awake Reg.DSP_CMD) :=
  ⟨⟨0, dm d1, by decide +kernel⟩,
   ⟨0, dm d1, by decide +kernel⟩⟩

end DispatcherCommands

namespace DispatcherTakes
def d0 : State := ru [.dspBind 0 5 0 3 true true, .dspBind 0 7 0 2 true false, .dspBind 0 9 1 7 true false, .dspActivate 0 5]
def d1 : State := ru [.dspTake 0] d0
def d2 : State := ru [.dspActivate 0 7] d1

/-- The hypotheses of each clause of `Obligations.DispatcherCommands` (second part) are met. -/
theorem witness_DispatcherCommands_DispatcherTakes :
    (∃ (k : Fin 2) (s : State) (x : Nat), s.awake Reg.DSP_CMD ∧ x < 64 ∧ s.bestReady k = some x ∧ s.runningOn k = none) ∧
    (∃ (k : Fin 2) (s : State) (x : Nat) (r : Nat), s.awake Reg.DSP_CMD ∧ x < 64 ∧ r ≠ x ∧ s.bestReady k = some x ∧ s.runningOn k = some r
      ∧ (s.task x).bind.prio < (s.task r).bind.prio) ∧
    (∃ (k : Fin 2) (s : State) (r : Nat), s.awake Reg.DSP_CMD ∧ r < 64 ∧ s.runningOn k = some r ∧ (∀ x ∈ s.bestReady k, ¬ (s.task
      x).bind.prio < (s.task r).bind.prio)) ∧
    (∃ (k : Fin 2) (s : State), s.awake Reg.DSP_CMD ∧ s.bestReady k = none ∧ s.runningOn k = none) :=
  ⟨⟨0, d0, 5, by decide +kernel⟩,
   ⟨0, d2, 7, 5, by decide +kernel⟩,
   ⟨0, d1, 5, by decide +kernel⟩,
   ⟨1, d0, by decide +kernel⟩⟩

end DispatcherTakes

namespace DispatcherRefusal
def d0 : State := ru [.dspBind 0 5 0 3 false true, .dspActivate 0 5]

/-- The hypotheses of each clause of `Obligations.DispatcherRefusal` (first part) are met. -/
theorem witness_DispatcherRefusal :
    (∃ (mid : Mid) (s : State), s.awake Reg.DSP_CMD ∧ mid ≠ 0x00 ∧ mid ≠ 0x01 ∧ (True ∨ True ∨ True ∨ True ∨ True ∨ True ∨ True ∨ True ∨
      True ∨ True ∨ (mid ≠ 0x08 ∧ mid ≠ 0x09)) ∧ s.flag (Fld.EVT_ROUTE_DSP 475) = false ∧ s.flag (Fld.EVT_ROUTE_DSP 476) = false) :=
  ⟨0xF, d0, by decide +kernel⟩

end DispatcherRefusal

namespace DispatcherTick
def am (v : Word32) (s : State) : State := { s with dsp := { s.dsp with arg := [(0, v)] } }
def d0 : State := ru [.dspBind 0 5 0 3 true true, .dspActivate 0 5, .dspBind 0 6 0 1 false true] (st [(Reg.TU_TICK,7)])
def d4 : State := ru [.dspDelay 0 5 true, .dspDelay 0 7 false,.dspDelay 0 9 true,.dspActivate 0 9] (am 0 d0)

/-- The hypotheses of each clause of `Obligations.DispatcherRefusal` (second part) are met. -/
theorem witness_DispatcherRefusal_DispatcherTick :
    (∃ (s : State) (n : Fin 64), s.reg Reg.TU_TICK ≠ 0 ∧ s.dsp.delayList.Nodup ∧ ∃ d ∈ (s.task n).delay, d.count = 0) :=
  ⟨d4, 7, by decide +kernel⟩

end DispatcherTick

namespace CoreControl
def q1 : State := sf [(Fld.LIB_CTRL_C1_RUN,1)] (ru [.dspBind 0 5 0 3 true true, .dspActivate 0 5, .dspTake 0])
def q3 : State := sf [(Fld.LDR_XSPI_ROLE,1)]

/-- The hypotheses of each clause of `Obligations.CoreControl` (first part) are met. -/
theorem witness_CoreControl :
    (∃ (mid : Mid) (s : State) (run : Bool), isManager mid = true ∧ s.awake Reg.LIB_CTRL ∧ s.flag Fld.LIB_CTRL_C1_RUN = !run) ∧
    (∃ (mid : Mid) (s : State) (core : Fin 2), isManager mid = true ∧ s.awake Reg.LIB_CTRL ∧ (core = 1 → s.lib.c1Held = false)) ∧
    (∃ (mid : Mid) (s : State), isManager mid = true ∧ s.awake Reg.LIB_CTRL ∧ s.fld Fld.LDR_XSPI_ROLE = 0) ∧
    (∃ (mid : Mid) (s : State), isManager mid = true ∧ s.awake Reg.LIB_CTRL ∧ s.fld Fld.LDR_XSPI_ROLE ≠ 0) :=
  ⟨⟨1, q1, false, by decide +kernel⟩,
   ⟨1, q1, 0, by decide +kernel⟩,
   ⟨1, q1, by decide +kernel⟩,
   ⟨0, q3, by decide +kernel⟩⟩

end CoreControl

/-- The hypotheses of each clause of `Obligations.CoreControl` (second part) are met. -/
theorem witness_CoreControl_CoreErrors :
    (∃ (code : Status), code ≠ Code.ok) ∧
    (∃ (s : State), s.reg Reg.LIB_ECC_CNT ≠ 0xFFFFFFFF) :=
  ⟨⟨1, by decide +kernel⟩,
   ⟨State.reset, by decide +kernel⟩⟩

namespace TimersAndWatchdogs
def cl (s : State := State.reset) : State :=
  { s with clock := { s.clock with rootCnt := 4 * 10^8 }, lib := { s.lib with mtimecmp := [(0, 100),(1,2^63)] } }
def w1 : State := sf [(Fld.LIB_WDT_US 0, 5),(Fld.LIB_WDT_US 1, 5)] cl

/-- The hypotheses of each clause of `Obligations.TimersAndDebug` (first part) are met. -/
theorem witness_TimersAndDebug :
    (∃ (core : Fin 2) (s : State), (Sparse.get (BitVec.allOnes 64) s.lib.mtimecmp core).toNat ≤ s.count) ∧
    (∃ (core : Fin 2) (s : State), s.fld (Fld.LIB_WDT_US core) ≠ 0 ∧ Sparse.get false s.lib.halted core = false ∧ s.wdtDue core = true) ∧
    (∃ (core : Fin 2) (s : State), s.awake (Reg.LIB_WDT_KICK core)) :=
  ⟨⟨0, w1, by decide +kernel⟩,
   ⟨0, w1, by decide +kernel⟩,
   ⟨0, w1, by decide +kernel⟩⟩

end TimersAndWatchdogs

namespace DebugAccess
def up : State := { State.reset with clock := { State.reset.clock with porst := false } }

/-- The hypotheses of each clause of `Obligations.TimersAndDebug` (second part) are met. -/
theorem witness_TimersAndDebug_DebugAccess :
    (∃ (core : Fin 2) (s : State), s.debugOpen core = false) ∧
    (∃ (core : Fin 2) (s : State), s.debugOpen core = true) :=
  ⟨⟨0, State.reset, by decide +kernel⟩,
   ⟨0, up, by decide +kernel⟩⟩

end DebugAccess

namespace SmbusTarget
def m1 : State := sf [(Fld.PWR_STATUS_STATE, 3)]
def m2 : State := sf [(Fld.LIB_STATUS_SMB_IN, 1),(Fld.LIB_TS_VALUE 3,777)]

/-- The hypotheses of each clause of `Obligations.SmbusAndFlash` (first part) are met. -/
theorem witness_SmbusAndFlash :
    (∃ (s : State), (s.devState = 3 ∨ s.devState = 4)) ∧
    (∃ (s : State) (cmd : Byte), s.devState ≠ 3 ∧ s.devState ≠ 4 ∧ cmd.toNat < 0x30) ∧
    (∃ (s : State) (cmd : Byte), s.devState ≠ 3 ∧ s.devState ≠ 4 ∧ 0x30 ≤ cmd.toNat ∧ cmd.toNat < 0x48) ∧
    (∃ (s : State) (cmd : Byte), s.devState ≠ 3 ∧ s.devState ≠ 4 ∧ 0x48 ≤ cmd.toNat ∧ cmd.toNat < 0x50) ∧
    (∃ (s : State) (bytes : List Byte), s.devState ≠ 3 ∧ s.devState ≠ 4 ∧ 1 ≤ bytes.length ∧ bytes.length ≤ 32 ∧ s.flag
      Fld.LIB_STATUS_SMB_IN = false ∧ s.fld Fld.LIB_SMB_STAT_NACKS < 0xFFFF) ∧
    (∃ (s : State), s.devState ≠ 3 ∧ s.devState ≠ 4 ∧ s.flag Fld.LIB_STATUS_SMB_IN = true ∧ s.fld Fld.LIB_SMB_STAT_NACKS < 0xFFFF) ∧
    (∃ (s : State) (cmd : Byte), s.devState ≠ 3 ∧ s.devState ≠ 4 ∧ 0x50 ≤ cmd.toNat ∧ s.fld Fld.LIB_SMB_STAT_NACKS < 0xFFFF) :=
  ⟨⟨m1, by decide +kernel⟩,
   ⟨m2, 0, by decide +kernel⟩,
   ⟨m2, 0x30, by decide +kernel⟩,
   ⟨m2, 0x48, by decide +kernel⟩,
   ⟨State.reset, [1], by decide +kernel⟩,
   ⟨m2, by decide +kernel⟩,
   ⟨m2, 0x50, by decide +kernel⟩⟩

end SmbusTarget

namespace FlashEngine
def f0 : State := st [(Reg.LIB_FL_BUF 0, 0x11223344),(Reg.LIB_FL_BUF 1, 0x55667788),(Reg.LIB_FL_ADDR,0x1234567)]
def ctl (len kind op ae : Nat) : Word32 :=
  Fld.LIB_FL_CTRL_LEN.put (Fld.LIB_FL_CTRL_KIND.put (Fld.LIB_FL_CTRL_OPCODE.put (Fld.LIB_FL_CTRL_ADDR_EN.put 0 ae) op) kind) len

/-- The hypotheses of each clause of `Obligations.SmbusAndFlash` (second part) are met. -/
theorem witness_SmbusAndFlash_FlashEngine :
    (∃ (mid : Mid) (ctrl : Word32) (s : State) (kind : Fin 4), let v := (Fld.LIB_FL_CTRL_KIND.put (Fld.LIB_FL_CTRL_GO.put ctrl 1) kind);
      s.awake Reg.LIB_FL_CTRL ∧ (mid = 0x00 ∨ mid = 0x01) ∧ s.fld Fld.LDR_XSPI_ROLE = 0 ∧ Fld.LIB_FL_CTRL_LEN.get v ≤ 256 ∧ s.flashGuarded v
      = false) ∧
    (∃ (mid : Mid) (ctrl : Word32) (s : State) (kind : Fin 4), let v := (Fld.LIB_FL_CTRL_KIND.put (Fld.LIB_FL_CTRL_GO.put ctrl 1) kind);
      s.awake Reg.LIB_FL_CTRL ∧ ((mid ≠ 0x00 ∧ mid ≠ 0x01) ∨ s.fld Fld.LDR_XSPI_ROLE ≠ 0 ∨ 256 < Fld.LIB_FL_CTRL_LEN.get v ∨ s.flashGuarded
      v = true)) ∧
    (∃ (ctrl : Word32) (s : State) (kind : Fin 4) (bytes : List Byte), let v := (Fld.LIB_FL_CTRL_KIND.put (Fld.LIB_FL_CTRL_GO.put ctrl 1)
      kind); let cmd : FlashCmd := { ctrl := v &&& 0x7FFFFFFF, addr := (s.reg Reg.LIB_FL_ADDR).toNat }; ∃ cmd ∈ s.lib.flash, s.flag
      Fld.LIB_FL_STAT_WAITING = false ∧ (Fld.LIB_FL_CTRL_KIND.get cmd.ctrl = 0 ∨ Fld.LIB_FL_CTRL_KIND.get cmd.ctrl = 3) ∧ bytes.length =
      Fld.LIB_FL_CTRL_LEN.get cmd.ctrl ∧ bytes.length ≤ 256) ∧
    (∃ (ctrl : Word32) (s : State) (kind : Fin 4), let v := (Fld.LIB_FL_CTRL_KIND.put (Fld.LIB_FL_CTRL_GO.put ctrl 1) kind); let cmd :
      FlashCmd := { ctrl := v &&& 0x7FFFFFFF, addr := (s.reg Reg.LIB_FL_ADDR).toNat }; ∃ cmd ∈ s.lib.flash, (Fld.LIB_FL_CTRL_KIND.get
      cmd.ctrl = 1 ∨ Fld.LIB_FL_CTRL_KIND.get cmd.ctrl = 2)) :=
  ⟨⟨0, ctl 5 0 3 1, ru [.flashProgram 0 (ctl 5 0 3 1)] f0, 0, by decide +kernel⟩,
   ⟨2, ctl 5 0 3 0, f0, 3, by decide +kernel⟩,
   ⟨ctl 5 0 3 1, {f0 with lib := {f0.lib with flash := some ⟨ctl 1 0 3 1, 0⟩}}, 0, [1], by decide +kernel⟩,
   ⟨ctl 5 0 3 1, ru [.flashProgram 0 (ctl 5 0 3 1)] f0, 0, by decide +kernel⟩⟩

end FlashEngine

namespace TroubleLog
def l1 : State := st [(Reg.LIB_LOG_WP, 256),(Reg.LIB_LOG_RP,0)]

/-- The hypotheses of each clause of `Obligations.LogAndSensors` (first part) are met. -/
theorem witness_LogAndSensors :
    (∃ (s : State), s.awake Reg.LIB_LOG_COMMIT ∧ s.logFull = false ∧ s.lib.dropped = 0) ∧
    (∃ (s : State), s.awake Reg.LIB_LOG_COMMIT ∧ s.logFull = true ∧ s.reg Reg.LIB_LOG_DROP ≠ 0xFFFFFFFF ∧ s.sticky 476 = true) ∧
    (∃ (s : State), s.awake Reg.LIB_LOG_RP) :=
  ⟨⟨State.reset, by decide +kernel⟩,
   ⟨ru [.logCommit 0 3] l1, by decide +kernel⟩,
   ⟨State.reset, by decide +kernel⟩⟩

end TroubleLog

/-- The hypotheses of each clause of `Obligations.LogAndSensors` (second part) are met. -/
theorem witness_LogAndSensors_SensorSample :
    (∃ (sensor : Sensor) (value : BitVec 16) (s : State), (s.devState ≠ 4 ∨ sensor = .ts 46) ∧ (∀ q ∈ (s.setReg (sensorPlace sensor).1
      (BitVec.ofNat 32 (2 ^ 31 + value.toNat))).hottestSensor, q.2 < 420)) :=
  ⟨.vm 23, 0, State.reset, by decide +kernel⟩

namespace DomainShutdown
def ds (d st : Nat) (s : State := State.reset) : State := sf [(Fld.PWR_DSTAT_STATE d, st)] s

/-- The hypotheses of each clause of `Obligations.DomainStates` (first part) are met. -/
theorem witness_DomainStates :
    (∃ (mid : Mid) (d : Fin 88) (s : State), pwrWriter mid = true ∧ s.holds d = false ∧ s.domState d = 0) ∧
    (∃ (mid : Mid) (d : Fin 88) (s : State), pwrWriter mid = true ∧ s.holds d = false ∧ s.domState d = 4) ∧
    (∃ (mid : Mid) (d : Fin 88) (s : State), pwrWriter mid = true ∧ s.holds d = false ∧ s.domState d ≠ 0 ∧ s.domState d ≠ 4) ∧
    (∃ (mid : Mid) (d : Fin 88) (s : State), (pwrWriter mid = false ∨ s.holds d = true)) ∧
    (∃ (d : Fin 88) (s : State), s.domState d = 1) ∧
    (∃ (d : Fin 88) (s : State), s.domState d = 2 ∧ Sparse.get none s.pwr.rewake d = none ∧ (∀ h ∈ s.pwr.held, h.dom ≠ d.val)) :=
  ⟨⟨0, 5, State.reset, by decide +kernel⟩,
   ⟨0, 36, ds 36 4, by decide +kernel⟩,
   ⟨0, 5, ds 5 1, by decide +kernel⟩,
   ⟨0x0F, 70, ds 70 2, by decide +kernel⟩,
   ⟨5, ds 5 1, by decide +kernel⟩,
   ⟨70, ds 70 2, by decide +kernel⟩⟩

end DomainShutdown

namespace DomainWake
def ds (d st : Nat) (s : State := State.reset) : State := sf [(Fld.PWR_DSTAT_STATE d, st)] s
def lk (d : Nat) (s : State) : State := sf [(Fld.PWR_DCTL_LOCKOFF d, 1)] s
def off (d : Nat) (s : State := State.reset) : State :=
  ru [.domainShutdown 0 (Fin.ofNat 88 d), .drainComplete (Fin.ofNat 88 d), .switchOpen (Fin.ofNat 88 d)] s
def rw (d : Nat) (s : State := State.reset) : State :=
  ru [.domainShutdown 0 (Fin.ofNat 88 d), .drainComplete (Fin.ofNat 88 d), .domainEnable 1 (Fin.ofNat 88 d)] s

/-- The hypotheses of each clause of `Obligations.DomainStates` (second part) are met. -/
theorem witness_DomainStates_DomainWake :
    (∃ (mid : Mid) (d : Fin 88) (s : State), pwrWriter mid = true ∧ s.domState d = 1) ∧
    (∃ (mid : Mid) (d : Fin 88) (s : State), pwrWriter mid = true ∧ s.domState d = 2) ∧
    (∃ (d : Fin 88) (s : State), s.domState d = 2 ∧ ∃ m ∈ Sparse.get none s.pwr.rewake d, s.flag (Fld.PWR_DCTL_LOCKOFF d) = false ∧ s.reg
      Reg.PWR_REWAKE_CNT ≠ 0xFFFFFFFF) ∧
    (∃ (mid : Mid) (d : Fin 88) (s : State), pwrWriter mid = true ∧ s.domState d = 3 ∧ s.flag (Fld.PWR_DCTL_LOCKOFF d) = false) ∧
    (∃ (d : Fin 88) (s : State), s.domState d = 3 ∧ s.flag (Fld.PWR_DCTL_LOCKOFF d) = false) ∧
    (∃ (d : Fin 88) (s : State), (s.domState d = 0 ∨ s.domState d = 5)) ∧
    (∃ (d : Fin 88) (s : State), s.domState d = 3 ∧ s.flag (Fld.PWR_DCTL_LOCKOFF d) = true ∧ s.caller = .direct ∧ (∀ h ∈ s.pwr.held, h.dom
      ≠ d.val)) :=
  ⟨⟨0, 36, ds 36 1, by decide +kernel⟩,
   ⟨0, 36, rw 36, by decide +kernel⟩,
   ⟨36, rw 36, by decide +kernel⟩,
   ⟨0, 5, ds 5 3, by decide +kernel⟩,
   ⟨5, ds 5 3, by decide +kernel⟩,
   ⟨5, State.reset, by decide +kernel⟩,
   ⟨71, lk 71 (off 71), by decide +kernel⟩⟩

end DomainWake

namespace WakeEnds
def off (d : Nat) (s : State := State.reset) : State :=
  ru [.domainShutdown 0 (Fin.ofNat 88 d), .drainComplete (Fin.ofNat 88 d), .switchOpen (Fin.ofNat 88 d)] s
def wk (d : Nat) (s : State := State.reset) : State := ru [.domainEnable 0 (Fin.ofNat 88 d)] (off d s)

/-- The hypotheses of each clause of `Obligations.DomainStates` (third part) are met. -/
theorem witness_DomainStates_WakeEnds :
    (∃ (d : Fin 88) (s : State), s.domState d = 4 ∧ d.val ∉ s.pwr.shutAfter ∧ (∀ h ∈ s.pwr.held, h.dom ≠ d.val)) ∧
    (∃ (d : Fin 88) (s : State), s.domState d = 4 ∧ (∀ h ∈ s.pwr.held, h.dom ≠ d.val)) ∧
    (∃ (d : Fin 88) (s : State), s.pwr.held.head? = some { dom := d.val, mid := 1, access := .reg 5 none, origin := .direct }) :=
  ⟨⟨36, wk 36, by decide +kernel⟩,
   ⟨36, wk 36, by decide +kernel⟩,
   ⟨36, let s := ru [.firstAccess 1 36] (off 36); {s with pwr := {s.pwr with held := [⟨36,1,.reg 5 none,.direct⟩]}}, by decide +kernel⟩⟩

end WakeEnds

namespace StateRequests
def ds (st : Nat) (s : State := State.reset) : State := sf [(Fld.PWR_STATUS_STATE, st)] s
def mp : State := sf [(Fld.ARR_STATUS_MAPPED 5,1)]

/-- The hypotheses of each clause of `Obligations.StateRequests` (first part) are met. -/
theorem witness_StateRequests :
    (∃ (mid : Mid) (s : State), isManager mid = true ∧ (s.devState = 1 ∨ s.devState = 2)) ∧
    (∃ (mid : Mid) (s : State), isManager mid = true ∧ s.devState = 0 ∧ s.seqState ≠ 2 ∧ s.seqState ≠ 3) ∧
    (∃ (mid : Mid) (s : State) (st : Fin 5), isManager mid = true ∧ 2 ≤ st.val ∧ s.devState < st.val ∧ (s.seqState = 0 ∨ s.seqState = 5) ∧
      (s.ldr.phase = 0 ∨ 10 ≤ s.ldr.phase) ∧ s.flag Fld.LDR_CMD_STAT_PENDING = false ∧ s.flag Fld.ACQ_CTRL_EN = false ∧ s.fld
      Fld.TWN_STATUS_MODE = 0) :=
  ⟨⟨0, ds 1, by decide +kernel⟩,
   ⟨8, mp, by decide +kernel⟩,
   ⟨8, mp, 4, by decide +kernel⟩⟩

end StateRequests

namespace StateRefusals
def ds (st : Nat) (s : State := State.reset) : State := sf [(Fld.PWR_STATUS_STATE, st)] s

/-- The hypotheses of each clause of `Obligations.StateRequests` (second part) are met. -/
theorem witness_StateRequests_StateRefusals :
    (∃ (mid : Mid) (st : Fin 5) (s : State) (cause : Nat), let badState := ((st.val ≠ 0 ∧ st.val < s.devState) ∨ s.devState = 5 ∨
      s.devState = 6); let badSeq := ((st = 1 ∧ (s.seqState = 2 ∨ s.seqState = 3)) ∨ (2 ≤ st.val ∧ s.seqState ≠ 0 ∧ s.seqState ≠ 5)); let
      badLdr := (2 ≤ st.val ∧ ((1 ≤ s.ldr.phase ∧ s.ldr.phase ≤ 9) ∨ s.flag Fld.LDR_CMD_STAT_PENDING = true)); let badAcq := (2 ≤ st.val ∧
      s.flag Fld.ACQ_CTRL_EN = true); let badTwin := (2 ≤ st.val ∧ s.fld Fld.TWN_STATUS_MODE ≠ 0); let isFirst := ((cause = 6 ∧ isManager
      mid = false) ∨ (isManager mid = true ∧ ((cause = 1 ∧ badState) ∨ (¬ badState ∧ ((cause = 2 ∧ badSeq) ∨ (¬ badSeq ∧ ((cause = 3 ∧
      badLdr) ∨ (¬ badLdr ∧ ((cause = 4 ∧ badAcq) ∨ (¬ badAcq ∧ cause = 5 ∧ badTwin)))))))))); isFirst) :=
  ⟨0, 1, ds 2, 1, by decide +kernel⟩

end StateRefusals

namespace StateTable
def ds (st : Nat) (s : State := State.reset) : State :=
  let s := sf [(Fld.PWR_STATUS_STATE, 5)] s; {s with pwr := {s.pwr with target := st}}

/-- The hypotheses of each clause of `Obligations.StateTableAndExit` (first part) are met. -/
theorem witness_StateTableAndExit :
    (∃ (s : State) (st : Nat), s.devState = 5 ∧ s.pwr.target = st ∧ 2 ≤ st ∧ st ≤ 4) :=
  ⟨ds 2, 2, by decide +kernel⟩

end StateTable

namespace DeviceExit
def ds (st : Nat) (s : State := State.reset) : State := sf [(Fld.PWR_STATUS_STATE, st)] s
def wake (s : State) : State := match execWakeN true s with | .next t => t | _ => s
def sl (st : Nat) (s : State := State.reset) : State :=
  wake (ru [.stateEntered] (ru [match st with | 2 => .pwrSleep 0 | 3 => .pwrDeep 0 | _ => .pwrOff 0] s))

/-- The hypotheses of each clause of `Obligations.StateTableAndExit` (second part) are met. -/
theorem witness_StateTableAndExit_DeviceExit :
    (∃ (s : State), 1 ≤ s.devState ∧ s.devState ≤ 3) ∧
    (∃ (s : State), s.devState = 5 ∧ 1 ≤ s.pwr.target ∧ s.pwr.target ≤ 3) ∧
    (∃ (s : State) (ok : Bool), s.devState = 4 ∧ (ok = false ∨ 380 ≤ signedOf 16 (s.fld (Fld.LIB_TS_VALUE 46)))) ∧
    (∃ (s : State), s.devState = 4 ∧ signedOf 16 (s.fld (Fld.LIB_TS_VALUE 46)) < 380) ∧
    (∃ (s : State), s.devState = 6 ∧ s.pwr.held = [] ∧ s.pwr.exitSrc < 32 ∧ s.pwr.exitIdx < 512 ∧ s.pwr.source < 5) :=
  ⟨⟨ds 1, by decide +kernel⟩,
   ⟨ru [.pwrSleep 0], by decide +kernel⟩,
   ⟨ds 4, false, by decide +kernel⟩,
   ⟨ds 4, by decide +kernel⟩,
   ⟨sl 2, by decide +kernel⟩⟩

end DeviceExit

namespace VoltageAndThrottle
def v (o n : Nat) (s : State := State.reset) : State :=
  sf [(Fld.PWR_STATUS_LEVEL_BUSY,1)] {s with pwr := {s.pwr with oldLevel := some o, vsel := n}}

/-- The hypotheses of each clause of `Obligations.VoltageAndThrottle` are met. -/
theorem witness_VoltageAndThrottle :
    (∃ (s : State), s.seqState ≠ 3 ∧ ∃ old ∈ s.pwr.oldLevel, s.pwr.vsel < 4) ∧
    (∃ (s : State), s.seqState ≠ 3 ∧ ∃ old ∈ s.pwr.oldLevel, old < 4 ∧ s.pwr.vsel < 4) ∧
    (∃ (s : State), s.seqState ≠ 3 ∧ s.seq.throttle = true) :=
  ⟨⟨v 0 3, by decide +kernel⟩,
   ⟨v 0 3, by decide +kernel⟩,
   ⟨{State.reset with seq := {State.reset.seq with throttle := true}}, by decide +kernel⟩⟩

end VoltageAndThrottle

namespace PorstRelease
def g (k : Nat) : State := sf [(Fld.DEV_IDENT_GRADE,k)]

/-- The hypotheses of each clause of `Obligations.ResetPin` (second part) are met. -/
theorem witness_ResetPin_PorstRelease :
    (∃ (s : State), s.clock.porst = true ∧ s.clock.rpllOn = false ∧ (s.fld Fld.DEV_IDENT_GRADE = 1 ∨ s.fld Fld.DEV_IDENT_GRADE = 2)) :=
  ⟨g 1, by decide +kernel⟩

end PorstRelease

namespace RpllLockSetsPnom
def g (k : Nat) : State := ru [.porstNRelease 0 0 false k] (sf [(Fld.DEV_IDENT_GRADE,1)])

/-- The hypotheses of each clause of `Obligations.RpllLock` (first part) are met. -/
theorem witness_RpllLock :
    (∃ (s : State), s.clock.rpllOn = true ∧ s.flag Fld.CLK_STATUS_LOCK = false ∧ s.flag Fld.CLK_STATUS_HOLDOVER = false ∧
      s.clock.everLocked = false ∧ 40000000 ≤ s.clock.fnom * s.fld Fld.CLK_RPLL_MULT) :=
  ⟨g 40000, by decide +kernel⟩

end RpllLockSetsPnom

namespace HoldoverAndRelock
def h : State := let s := sf [(Fld.CLK_STATUS_HOLDOVER,1)] up; {s with clock := {s.clock with refOk := false}}

/-- The hypotheses of each clause of `Obligations.RpllLock` (second part) are met. -/
theorem witness_RpllLock_HoldoverAndRelock :
    (∃ (s : State), s.flag Fld.CLK_STATUS_LOCK = true) ∧
    (∃ (s : State), s.lockedSchedule = true ∧ s.seqState = 2) ∧
    (∃ (s : State), (s.lockedSchedule = false ∨ s.seqState ≠ 2) ∧ s.flag Fld.CLK_STATUS_HOLDOVER = true) :=
  ⟨⟨h, by decide +kernel⟩,
   ⟨sf [(Fld.SEQ_STATUS_STATE,2)] h, by decide +kernel⟩,
   ⟨h, by decide +kernel⟩⟩

end HoldoverAndRelock

namespace TimingPortMode
def g : State := sf [(Fld.TU_TP_CFG_STD 0, 3)]

/-- The hypotheses of each clause of `Obligations.TimingPortMode` are met. -/
theorem witness_TimingPortMode :
    (∃ (mid : Mid) (p : Fin 2) (value : Word32) (s : State), tuWriter mid = true ∧ s.imageOwner 0x0C p = 0 ∧ s.fld (Fld.TU_TP_CFG_STD p) ≠
      (Fld.TU_TP_CFG_STD p).get value) :=
  ⟨0, 0, 0, g, by decide +kernel⟩

end TimingPortMode

namespace LaneBringUp
def l0 : State := sf [(Fld.LN_PLL_N 0,16),(Fld.LN_PLL_R_M1 0,5),(Fld.LN_CFG_EN 0,1),(Fld.LN_CFG_EN 1,1)] up
def l1 : State := sf [(Fld.LN_PLL_STAT_LOCK 0,1),(Fld.LN_STAT_PLL_OK 0,1),(Fld.LN_STAT_PLL_OK 1,1),(Fld.LN_STAT_SIGDET 0,1)] l0
def l2 : State := sf [(Fld.LN_STAT_CDR_LOCK 0,1)] l1
def l3 : State := sf [(Fld.LN_STAT_ADAPT_DONE 0,1),(Fld.LN_STAT_READY 0,1)] l2

/-- The hypotheses of each clause of `Obligations.LaneStates` (first part) are met. -/
theorem witness_LaneStates :
    (∃ (s : State) (k : Fin 28), s.pllRuns k = true ∧ s.pllInRange k = true) ∧
    (∃ (i : Fin 103) (s : State), s.laneRuns i = true ∧ s.flag (Fld.LN_STAT_PLL_OK i) = true ∧ s.flag (Fld.LN_STAT_SIGDET i) = true) ∧
    (∃ (i : Fin 103) (s : State), s.laneRuns i = true ∧ s.flag (Fld.LN_STAT_CDR_LOCK i) = true) ∧
    (∃ (i : Fin 103) (s : State), s.laneRuns i = true ∧ s.flag (Fld.LN_STAT_READY i) = true ∧ 1 ≤ s.fld (Fld.LN_PRBS_CTRL_RX_PAT i) ∧
      s.fld (Fld.LN_PRBS_CTRL_RX_PAT i) ≤ 5) :=
  ⟨⟨sf [(Fld.LN_PRBS_CTRL_RX_PAT 0,1)] l3, 0, by decide +kernel⟩,
   ⟨0, sf [(Fld.LN_PRBS_CTRL_RX_PAT 0,1)] l3, by decide +kernel⟩,
   ⟨0, sf [(Fld.LN_PRBS_CTRL_RX_PAT 0,1)] l3, by decide +kernel⟩,
   ⟨0, sf [(Fld.LN_PRBS_CTRL_RX_PAT 0,1)] l3, by decide +kernel⟩⟩

end LaneBringUp

namespace LaneLosses
def l0 : State := sf [(Fld.LN_PLL_N 0,16),(Fld.LN_PLL_R_M1 0,5),(Fld.LN_CFG_EN 0,1),(Fld.LN_CFG_EN 1,1)] up
def l1 : State := sf [(Fld.LN_PLL_STAT_LOCK 0,1),(Fld.LN_STAT_PLL_OK 0,1),(Fld.LN_STAT_PLL_OK 1,1),(Fld.LN_STAT_SIGDET 0,1)] l0
def l2 : State := sf [(Fld.LN_STAT_CDR_LOCK 0,1)] l1
def l3 : State := sf [(Fld.LN_STAT_ADAPT_DONE 0,1),(Fld.LN_STAT_READY 0,1)] l2

/-- The hypotheses of each clause of `Obligations.LaneStates` (second part) are met. -/
theorem witness_LaneStates_LaneLosses :
    (∃ (i : Fin 103) (s : State) (k : Fin 28), s.laneRuns i = true ∧ i.val ∈ lanesOfPll k) ∧
    (∃ (i : Fin 103) (s : State), s.laneRuns i = true ∧ s.flag (Fld.LN_STAT_CDR_LOCK i) = true) ∧
    (∃ (i : Fin 103) (s : State), s.laneRuns i = true ∧ s.fld (Fld.LN_CFG_LPBK i) = 3 ∧ i.val < 96) :=
  ⟨⟨0, sf [(Fld.LN_CFG_LPBK 0,3)] l3, 0, by decide +kernel⟩,
   ⟨0, sf [(Fld.LN_CFG_LPBK 0,3)] l3, by decide +kernel⟩,
   ⟨0, sf [(Fld.LN_CFG_LPBK 0,3)] l3, by decide +kernel⟩⟩

end LaneLosses

namespace LaneWrites
def l0 : State := sf [(Fld.LN_PLL_N 0,16),(Fld.LN_PLL_R_M1 0,5),(Fld.LN_CFG_EN 0,1),(Fld.LN_CFG_EN 1,1)] up
def l1 : State := sf [(Fld.LN_PLL_STAT_LOCK 0,1),(Fld.LN_STAT_PLL_OK 0,1),(Fld.LN_STAT_PLL_OK 1,1),(Fld.LN_STAT_SIGDET 0,1)] l0
def l2 : State := sf [(Fld.LN_STAT_CDR_LOCK 0,1)] l1
def l3 : State := sf [(Fld.LN_STAT_ADAPT_DONE 0,1),(Fld.LN_STAT_READY 0,1)] l2
def ow (v : Nat) (s : State := State.reset) : State := {s with own := {s.own with table := [⟨4,v,false,0,8⟩]}}

/-- The hypotheses of each clause of `Obligations.LaneWrites` (first part) are met. -/
theorem witness_LaneWrites :
    (∃ (i : Fin 96) (value : Word32) (s : State), s.awake (Reg.LN_CFG i) ∧ s.awake (Reg.LN_TXFIR i) ∧ let sum := ((Fld.LN_TXFIR_PRE2
      i).get value + (Fld.LN_TXFIR_PRE1 i).get value + (Fld.LN_TXFIR_MAIN i).get value + (Fld.LN_TXFIR_POST1 i).get value +
      (Fld.LN_TXFIR_POST2 i).get value); s.imageOwner 0x04 i = 0 ∧ sum ≤ 63) ∧
    (∃ (i : Fin 96) (value : Word32) (s : State), s.awake (Reg.LN_CFG i) ∧ s.awake (Reg.LN_TXFIR i) ∧ let sum := ((Fld.LN_TXFIR_PRE2
      i).get value + (Fld.LN_TXFIR_PRE1 i).get value + (Fld.LN_TXFIR_MAIN i).get value + (Fld.LN_TXFIR_POST1 i).get value +
      (Fld.LN_TXFIR_POST2 i).get value); s.imageOwner 0x04 i = 0 ∧ 63 < sum) ∧
    (∃ (mid : Mid) (i : Fin 96) (s : State), s.awake (Reg.LN_CFG i) ∧ s.awake (Reg.LN_TXFIR i) ∧ mid ≠ 0x10 ∧ s.imageOwner 0x04 i ≠ 0 ∧
      s.mayAssign mid 0x04 i = false) ∧
    (∃ (i : Fin 96) (s : State) (k : Fin 28), s.awake (Reg.LN_CFG i) ∧ s.awake (Reg.LN_TXFIR i) ∧ s.awake (Reg.LN_PLL k) ∧ 24 ≤ k.val) ∧
    (∃ (i : Fin 96) (value : Word32) (s : State) (k : Fin 28), s.awake (Reg.LN_CFG i) ∧ s.awake (Reg.LN_TXFIR i) ∧ s.awake (Reg.LN_PLL k)
      ∧ k.val < 24 ∧ s.imageOwner 0x05 k = 0 ∧ s.reg (Reg.LN_PLL k) ≠ value) :=
  ⟨⟨0, 0, l3, by decide +kernel⟩,
   ⟨0, 0xFFFFFFFF, State.reset, by decide +kernel⟩,
   ⟨0, 0, ow 1 l3, by decide +kernel⟩,
   ⟨0, l3, 27, by decide +kernel⟩,
   ⟨0, 0, l3, 0, by decide +kernel⟩⟩

end LaneWrites

namespace EyeScan
def l0 : State := sf [(Fld.LN_PLL_N 0,16),(Fld.LN_PLL_R_M1 0,5),(Fld.LN_CFG_EN 0,1),(Fld.LN_CFG_EN 1,1)] up
def l1 : State := sf [(Fld.LN_PLL_STAT_LOCK 0,1),(Fld.LN_STAT_PLL_OK 0,1),(Fld.LN_STAT_PLL_OK 1,1),(Fld.LN_STAT_SIGDET 0,1)] l0
def l2 : State := sf [(Fld.LN_STAT_CDR_LOCK 0,1)] l1
def l3 : State := sf [(Fld.LN_STAT_ADAPT_DONE 0,1),(Fld.LN_STAT_READY 0,1)] l2
def v (e : Nat) : Word32 := (Fld.LN_ES_CTRL_EYE 0).put 0 e

/-- The hypotheses of each clause of `Obligations.LaneWrites` (second part) are met. -/
theorem witness_LaneWrites_EyeScan :
    (∃ (i : Fin 103) (value : Word32) (s : State), let eye := ((Fld.LN_ES_CTRL_EYE i).get value); s.awake (Reg.LN_ES_CTRL i) ∧ Sparse.get
      false s.lane.scan i = false ∧ (eye = 0 ∨ (eye < 3 ∧ s.lanePam4 i = true))) ∧
    (∃ (i : Fin 103) (value : Word32) (s : State), let eye := ((Fld.LN_ES_CTRL_EYE i).get value); s.awake (Reg.LN_ES_CTRL i) ∧ Sparse.get
      false s.lane.scan i = false ∧ (eye = 3 ∨ (eye ≠ 0 ∧ s.lanePam4 i = false))) ∧
    (∃ (i : Fin 103) (s : State), Sparse.get false s.lane.scan i = true) :=
  ⟨⟨0, 0, l3, by decide +kernel⟩,
   ⟨0, v 1, l3, by decide +kernel⟩,
   ⟨0, ru [.eyeScanStart 0 0 0] l3, by decide +kernel⟩⟩

end EyeScan

/-- The hypotheses of each clause of `Obligations.LinkWords` (first part) are met. -/
theorem witness_LinkWords :
    (∃ (lane : Fin 103) (s : State), lane.val < 96 ∧ s.awake (Reg.LN_LE_CFG lane) ∧ s.imageOwner 0x04 lane = 0) ∧
    (∃ (lane : Fin 103) (s : State), 96 ≤ lane.val ∧ lane.val < 100 ∧ s.awake (Reg.LN_LE_CFG lane)) ∧
    (∃ (lane : Fin 103) (s : State), s.laneRuns lane = true ∧ s.flag (Fld.LN_STAT_READY lane) = true ∧ s.engineBad lane = false ∧ s.fld
      (Fld.LN_LE_CFG_MODE lane) ≠ 0) ∧
    (∃ (lane : Fin 103) (skew : Nat) (s : State), let b := (s.baseOf lane); (∀ k ∈ s.members b, (s.engOf k).blockLock = true ∧ s.flag
      (Fld.LN_STAT_READY k) = true) ∧ s.engineBad lane = false ∧ s.fld (Fld.LN_LE_CFG_MODE b) ≠ 0 ∧ s.linkUp b = false ∧ (s.groupSize b ≤ 1
      ∨ skew ≤ 16)) ∧
    (∃ (lane : Fin 103) (skew : Nat) (s : State), let b := (s.baseOf lane); (∀ k ∈ s.members b, (s.engOf k).blockLock = true ∧ s.flag
      (Fld.LN_STAT_READY k) = true) ∧ s.engineBad lane = false ∧ s.fld (Fld.LN_LE_CFG_MODE b) ≠ 0 ∧ s.linkUp b = false ∧ 1 < s.groupSize b ∧
      16 < skew) ∧
    (∃ (lane : Fin 103) (s : State), let b := (s.baseOf lane); b ≠ 96 ∧ s.linkUp b = true) :=
  ⟨⟨0, link [] 1, by decide +kernel⟩,
   ⟨96, link [] 1, by decide +kernel⟩,
   ⟨0, link [] 1, by decide +kernel⟩,
   ⟨0, 17, ru [.linkDown 0,.blockLock 0] (link [] 2), by decide +kernel⟩,
   ⟨3, 17, ru [.linkDown 0,.blockLock 0,.blockLock 1,.blockLock 2,.blockLock 3] (link [] 1 2), by decide +kernel⟩,
   ⟨0, link [] 1, by decide +kernel⟩⟩

namespace LinkWords
def ar : State := link [(Fld.LN_CFG_DIV 0,2),(Fld.LN_LE_CFG_TO_ARR 0,1)] 3
def run (s : State) : State := sf [(Fld.SEQ_STATUS_STATE,2),(Fld.SEQ_CFG_L,10)] { s with seq := {s.seq with step := 3, turn := 8} }
def full (s : State) : State := (List.range 33).foldl (fun s k => ru [.wordAvailable 0 (BitVec.ofNat 64 k) true false] s) s
def pl : State := run (st [(Reg.QL_PLAN 0 0, 0x3FF)] (link [(Fld.LN_LE_CFG_TO_ARR 0,1),(Fld.LN_LE_CFG_RELEASE 0,1)] 1))
def pw : State :=
  sf [(Fld.LN_LE_DELAY_DELAY 0,5)] {pl with eng := (Sparse.put LinkEng.reset pl.eng 0 {pl.engOf 0 with plan := [⟨7,8,9,true⟩]})}
def tx : State :=
  st [(Reg.QL_PLAN 0 0, 0x3FF)] (run (link ((List.range 4).flatMap fun i => [(Fld.LN_LE_CFG_TX_SRC i,1),(Fld.LN_LE_CFG_TX_FTYPE i,1)]) 1 2))

/-- The hypotheses of each clause of `Obligations.LinkWords` (second part) are met. -/
theorem witness_LinkWords_LinkWords :
    (∃ (lane : Fin 103) (s : State), s.linkUp lane = true ∧ (s.fld (Fld.LN_LE_CFG_MODE lane) = 3 ∨ s.fld (Fld.LN_LE_CFG_MODE lane) = 4) ∧
      s.reg (Reg.LN_LE_WORDS lane) ≠ 0xFFFFFFFF) ∧
    (∃ (lane : Fin 103) (s : State), let b := (s.baseOf lane); let e := (s.engOf lane); s.seqState = 2 ∧ e.released = false ∧ s.flag
      (Fld.LN_LE_CFG_TO_ARR b) = true ∧ s.engineBad lane = false ∧ s.byPlan b = false ∧ ∃ w ∈ e.waiting.head?, w.wait = 0) ∧
    (∃ (lane : Fin 103) (s : State), let b := (s.baseOf lane); let e := (s.engOf lane); s.seqState = 2 ∧ e.released = false ∧ s.flag
      (Fld.LN_LE_CFG_TO_ARR b) = true ∧ s.engineBad lane = false ∧ s.byPlan b = true ∧ ∃ qxV ∈ s.planDue b, let x := qxV.1; let row :=
      qxV.2; ∃ w ∈ (s.engOf b).plan.find? (fun w => w.turn == x && w.index == row * s.groupSize b + (lane.val - b)), w.intact = true) ∧
    (∃ (lane : Fin 103) (s : State), let b := (s.baseOf lane); s.seqState = 2 ∧ (s.engOf b).took = false ∧ s.fld (Fld.LN_LE_CFG_TX_SRC b)
      = 1 ∧ s.engineBad b = false ∧ s.quire b = false ∧ (s.engOf b).txNew = true) ∧
    (∃ (lane : Fin 103) (s : State), let b := (s.baseOf lane); s.seqState = 2 ∧ (s.engOf b).took = false ∧ s.fld (Fld.LN_LE_CFG_TX_SRC b)
      = 1 ∧ s.engineBad b = false ∧ s.quire b = true ∧ s.seq.step < s.turnLen ∧ s.planBit b s.seq.step = true ∧ (s.engOf b).txWords.length +
      s.groupSize b ≤ 64) ∧
    (∃ (lane : Fin 103) (s : State), let b := (s.baseOf lane); s.byPlan b = true ∧ s.linkUp b = true ∧ s.flag (Fld.LN_LE_STAT_ALIGNED b) =
      false ∧ (s.engOf b).alignFrom + 2 ^ s.fld (Fld.QL_CFG_ALIGN_EXP b) ≤ s.seq.turn) :=
  ⟨⟨0, run (full ar), by decide +kernel⟩,
   ⟨0, run (full ar), by decide +kernel⟩,
   ⟨0, pw, by decide +kernel⟩,
   ⟨0, let s := run (link [(Fld.LN_CFG_DIV 0,2),(Fld.LN_LE_CFG_TX_SRC 0,1)] 3);
     {s with eng := (Sparse.put LinkEng.reset s.eng 0 {s.engOf 0 with txNew := true, txIn := 9})}, by decide +kernel⟩,
   ⟨0, tx, by decide +kernel⟩,
   ⟨0, {pl with seq := {pl.seq with turn := 5000}}, by decide +kernel⟩⟩

end LinkWords

namespace QuireFrames
def fr (n : Nat) (ok crc hdr : Bool) (seq : Nat := 0) : QuireFrame :=
  ⟨77, 2, (List.range n).map (fun k => (BitVec.ofNat 64 (k+5), ok || k != 1)), BitVec.ofNat 12 seq, crc, hdr⟩
def aq (m g : Nat) : State := link [(Fld.LN_LE_CFG_TO_ACQ 0,1)] m g

/-- The hypotheses of each clause of `Obligations.QuireFrames` (first part) are met. -/
theorem witness_QuireFrames :
    (∃ (lane : Fin 103) (f : QuireFrame) (s : State) (ft : Nat), ((ft = 1) ∨ (ft = 2) ∨ (ft = 3) ∨ (ft = 4)) ∧ let b := (s.baseOf lane);
      s.quire b = true ∧ s.linkUp b = true ∧ f.headerOk = true ∧ (f.words.length = 0 ∨ 16 < f.words.length) ∧ s.reg (Reg.LN_LE_DROP b) ≠
      0xFFFFFFFF) ∧
    (∃ (lane : Fin 103) (f : QuireFrame) (s : State) (ft : Nat), ((ft = 1) ∨ (ft = 2) ∨ (ft = 3) ∨ (ft = 4)) ∧ let b := (s.baseOf lane);
      let e := (s.engOf b); let intact := (f.headerOk = true ∧ ∀ w ∈ f.words, w.2 = true); s.quire b = true ∧ s.linkUp b = true ∧ f.headerOk
      = true ∧ 1 ≤ f.words.length ∧ f.words.length ≤ 16 ∧ s.flag (Fld.LN_LE_CFG_TO_ARR b) = false ∧ (s.flag (Fld.LN_LE_CFG_TO_ACQ b) = true
      ∨ ft = 4) ∧ (s.byPlan b = false ∨ ft = 4) ∧ (s.reliable b = false ∨ (intact ∧ f.crcOk = true ∧ f.seq.toNat = e.rxSeq))) ∧
    (∃ (lane : Fin 103) (f : QuireFrame) (s : State) (ft : Nat), ((ft = 1) ∨ (ft = 2) ∨ (ft = 3) ∨ (ft = 4)) ∧ let b := (s.baseOf lane);
      let e := (s.engOf b); let intact := (f.headerOk = true ∧ ∀ w ∈ f.words, w.2 = true); s.quire b = true ∧ s.linkUp b = true ∧ s.reliable
      b = true ∧ intact ∧ 1 ≤ f.words.length ∧ f.words.length ≤ 16 ∧ (f.crcOk = false ∨ f.seq.toNat ≠ e.rxSeq)) ∧
    (∃ (lane : Fin 103) (f : QuireFrame) (s : State) (ft : Nat), ((ft = 1) ∨ (ft = 2) ∨ (ft = 3) ∨ (ft = 4)) ∧ let b := (s.baseOf lane);
      s.quire b = true ∧ s.linkUp b = true ∧ s.reliable b = false ∧ f.headerOk = false) :=
  ⟨⟨0, fr 0 true true true, aq 1 0, 1, by decide +kernel⟩,
   ⟨0, fr 16 true true true, aq 1 0, 1, by decide +kernel⟩,
   ⟨0, fr 5 true false true, aq 2 0, 2, by decide, by decide +kernel, by decide +kernel, by decide +kernel,
     ⟨by decide +kernel, List.all_eq_true.mp (by decide +kernel)⟩, by decide +kernel, by decide +kernel, by decide +kernel⟩,
   ⟨0, fr 5 true true false, aq 1 0, 2, by decide +kernel⟩⟩

end QuireFrames

namespace QuireSend
def bar (s : State) : State := s.setEng 0 {s.engOf 0 with bars := [(true,false,7),(false,true,8)]}
def tx (m : Nat) : State :=
  let s := st [(Reg.QL_PLAN 0 0, 1)] (sf [(Fld.SEQ_CFG_L,10),(Fld.LN_LE_CFG_TX_SRC 0,1),(Fld.LN_LE_CFG_TX_FTYPE 0,1)] (link [] m)); s.setEng 0 {s.engOf 0 with txWords := [⟨7,0,55⟩,⟨8,0,66⟩]}
def sent : State := ru [.frameSend 0,.frameSend 0] (bar (link [] 2))
def rt (n : Nat) (s : State) : State := (List.range n).foldl (fun s _ => ru [.replayTimeout 0] s) s

/-- The hypotheses of each clause of `Obligations.QuireFrames` (second part) are met. -/
theorem witness_QuireFrames_QuireSend :
    (∃ (lane : Fin 103) (s : State), let b := (s.baseOf lane); let e := (s.engOf b); let limit := (if s.fld (Fld.QL_REL_CFG_MAXRETRY b) =
      0 then 16 else s.fld (Fld.QL_REL_CFG_MAXRETRY b)); s.linkUp b = true ∧ s.reliable b = true ∧ e.replay ≠ [] ∧ e.retries < limit ∧ s.reg
      (Reg.QL_RETRY b) ≠ 0xFFFFFFFF) ∧
    (∃ (lane : Fin 103) (s : State), let b := (s.baseOf lane); let e := (s.engOf b); let limit := (if s.fld (Fld.QL_REL_CFG_MAXRETRY b) =
      0 then 16 else s.fld (Fld.QL_REL_CFG_MAXRETRY b)); s.linkUp b = true ∧ s.reliable b = true ∧ b ≠ 96 ∧ e.replay ≠ [] ∧ limit ≤
      e.retries) ∧
    (∃ (lane : Fin 103) (s : State), let b := (s.baseOf lane); let e := (s.engOf b); s.linkUp b = true ∧ s.reliable b = true ∧ ∃ qkind ∈
      e.bars.head?, 2 ≤ s.fld (Fld.QL_REL_STAT_CREDIT b) ∧ e.replay.length < 64) ∧
    (∃ (lane : Fin 103) (s : State), let b := (s.baseOf lane); let e := (s.engOf b); s.linkUp b = true ∧ s.fld (Fld.LN_LE_CFG_MODE b) = 1
      ∧ ∃ qkind ∈ e.bars.head?, True) ∧
    (∃ (lane : Fin 103) (s : State), let b := (s.baseOf lane); let e := (s.engOf b); s.linkUp b = true ∧ s.fld (Fld.LN_LE_CFG_MODE b) = 1
      ∧ e.bars = [] ∧ ∃ w ∈ e.txWords.head?, s.planWords b - w.index = 1) :=
  ⟨⟨0, sent, by decide +kernel⟩,
   ⟨0, rt 16 sent, by decide +kernel⟩,
   ⟨0, bar (link [] 2), by decide +kernel⟩,
   ⟨0, bar (link [] 1), by decide +kernel⟩,
   ⟨0, tx 1, by decide +kernel⟩⟩

end QuireSend

namespace EthernetFrames
def eu (m : Nat) (l : List (Field × Nat)) : State :=
  link (((List.range 4).flatMap fun i => [(Fld.LN_CFG_DIV i,1)]) ++ [(Fld.LN_PLL_N 0,12),(Fld.LN_PLL_FRAC 0,58368)] ++ l) m
def b (n : Nat) : List Byte := (List.range n).map (BitVec.ofNat 8)
def tx : State := sf [(Fld.LN_LE_CFG_TX_SRC 0,2)] (eu 5 [])
def d4 : State := st [(Reg.ETH_DST 0 1 1, 0x00010000)] tx
def d6 : State := st [(Reg.ETH_DST 0 1 1, 0x00030000)] tx
def macs : State := st [(Reg.ETH_MAC_LO 0,0x03020100),(Reg.ETH_MAC_HI 0,0x0504)] tx
def udp : List Byte := b 12 ++ [0x08,0,0x45,0,0,44,0,0,0,0,64,17,0,0,10,0,0,1,10,0,0,2,0,5,0x12,0x34,0,24,0,0] ++ b 30
def rxq : State := sf [(Fld.ETH_CFG_RX_PORT 0,0x1234),(Fld.LN_LE_CFG_TO_ACQ 0,1)] (st [(Reg.ETH_IP4 0,0x0200000A)] (eu 5 []))
def jobs (n : Nat) (s : State) : State :=
  (List.range n).foldl (fun s k => ru [.frameTransmitRequest 0 1 (BitVec.ofNat 16 k) true (b 70)] s) s

/-- The hypotheses of each clause of `Obligations.EthernetFrames` are met. -/
theorem witness_EthernetFrames :
    (∃ (lane : Fin 103) (payload : List Byte) (s : State), let up := (s.ethernet lane = true ∧ s.linkUp lane = true); s.fld
      (Fld.LN_LE_CFG_TX_SRC lane) = 2 ∧ 8 ≤ payload.length ∧ payload.length ≤ 8192 ∧ ¬ up) ∧
    (∃ (lane : Fin 103) (dest : Fin 8) (payload : List Byte) (s : State), let up := (s.ethernet lane = true ∧ s.linkUp lane = true); let d
      := (s.ethDst lane dest); s.fld (Fld.LN_LE_CFG_TX_SRC lane) = 2 ∧ 8 ≤ payload.length ∧ payload.length ≤ 8192 ∧ up ∧ (d.getD 6
      0).getLsbD 0 = false) ∧
    (∃ (lane : Fin 103) (dest : Fin 8) (payload : List Byte) (s : State), let up := (s.ethernet lane = true ∧ s.linkUp lane = true); let d
      := (s.ethDst lane dest); s.fld (Fld.LN_LE_CFG_TX_SRC lane) = 2 ∧ 8 ≤ payload.length ∧ payload.length ≤ 8192 ∧ up ∧ (d.getD 6
      0).getLsbD 0 = true ∧ (s.mtu lane < (if (d.getD 6 0).getLsbD 1 then 48 else 28) + payload.length)) ∧
    (∃ (lane : Fin 103) (dest : Fin 8) (payload : List Byte) (s : State), let up := (s.ethernet lane = true ∧ s.linkUp lane = true); let d
      := (s.ethDst lane dest); s.fld (Fld.LN_LE_CFG_TX_SRC lane) = 2 ∧ 8 ≤ payload.length ∧ payload.length ≤ 8192 ∧ up ∧ (d.getD 6
      0).getLsbD 0 = true ∧ ((if (d.getD 6 0).getLsbD 1 then 48 else 28) + payload.length ≤ s.mtu lane)) ∧
    (∃ (lane : Fin 103) (bytes : List Byte) (fcsOk : Bool) (s : State), let up := (s.ethernet lane = true ∧ s.linkUp lane = true); up ∧
      s.reg (Reg.LN_LE_DROP lane) ≠ 0xFFFFFFFF ∧ (bytes.length < 60 ∨ 9212 < bytes.length ∨ (udpOf bytes = none ∧ fcsOk = false) ∨ (udpOf
      bytes = none ∧ 448 < bytes.length))) ∧
    (∃ (lane : Fin 103) (bytes : List Byte) (fcsOk : Bool) (s : State), let up := (s.ethernet lane = true ∧ s.linkUp lane = true); up ∧
      s.reg (Reg.LN_LE_DROP lane) ≠ 0xFFFFFFFF ∧ 60 ≤ bytes.length ∧ bytes.length ≤ 448 ∧ udpOf bytes = none ∧ fcsOk = true ∧ be16At bytes
      (etherAt bytes) ≠ 0x8808 ∧ bytes.take 6 = s.ethMac lane) ∧
    (∃ (lane : Fin 103) (bytes : List Byte) (fcsOk : Bool) (s : State), let up := (s.ethernet lane = true ∧ s.linkUp lane = true); up ∧
      s.reg (Reg.LN_LE_DROP lane) ≠ 0xFFFFFFFF ∧ 60 ≤ bytes.length ∧ bytes.length ≤ 9212 ∧ ∃ qdstV ∈ udpOf bytes, let dst := qdstV.1; let
      port := qdstV.2.1; let p := qdstV.2.2; s.fld (Fld.ETH_CFG_RX_PORT lane) ≠ 0 ∧ port = s.fld (Fld.ETH_CFG_RX_PORT lane) ∧ (dst =
      s.ethIp4 lane ∨ dst = s.ethIp6 lane) ∧ (s.reg (Reg.LN_LE_WORDS lane)).toNat + (p.length + 7) / 8 < 2 ^ 32 ∧ s.flag
      (Fld.LN_LE_CFG_TO_ARR lane) = false ∧ fcsOk = true) ∧
    (∃ (lane : Fin 103) (s : State), let up := (s.ethernet lane = true ∧ s.linkUp lane = true); ¬ up) ∧
    (∃ (lane : Fin 103) (s : State), let up := (s.ethernet lane = true ∧ s.linkUp lane = true); let e := (s.engOf lane); up ∧ 8 ≤
      e.jobs.length) ∧
    (∃ (lane : Fin 103) (s : State), let up := (s.ethernet lane = true ∧ s.linkUp lane = true); let e := (s.engOf lane); up ∧
      e.jobs.length < 8) ∧
    (∃ (lane : Fin 103) (s : State), let e := (s.engOf lane); ∃ j ∈ e.jobs.head?, True) :=
  ⟨⟨0, b 8, sf [(Fld.LN_LE_CFG_TX_SRC 0,2)], by decide +kernel⟩,
   ⟨0, 1, b 1452, jobs 8 tx, by decide +kernel⟩,
   ⟨0, 1, b 1453, d6, by decide +kernel⟩,
   ⟨0, 1, b 8, d4, by decide +kernel⟩,
   ⟨0, b 59, true, d6, by decide +kernel⟩,
   ⟨0, b 60, true, macs, by decide +kernel⟩,
   ⟨0, udp, true, rxq, by decide +kernel⟩,
   ⟨0, sf [(Fld.LN_LE_CFG_TX_SRC 0,2)], by decide +kernel⟩,
   ⟨0, jobs 8 tx, by decide +kernel⟩,
   ⟨0, d6, by decide +kernel⟩,
   ⟨0, jobs 8 tx, by decide +kernel⟩⟩

end EthernetFrames

namespace BooleanProcessor
def w (op tt a b c d dst : Nat) : Word64 := BitVec.ofNat 64 (op * 2^60 + tt * 2^44 + a * 2^35 + b*2^26+c*2^17+d*2^8+dst)
def run : State := sf [(Fld.SEQ_STATUS_STATE,2),(Fld.SEQ_CFG_L,10),(Fld.ARR_STATUS_MAPPED 5,1),(Fld.ARR_STATUS_RUN 5,1)] State.reset
def im (x : Word64) (s : State := run) : State := s.setImem (imemLoc 5 3 9 0) (eccJoin x (eccChk x))
def p : BpId := ⟨5,3,9⟩

/-- The hypotheses of each clause of `Obligations.BooleanProcessor` are met. -/
theorem witness_BooleanProcessor :
    (∃ (p : BpId) (s : State), let n := p.sorus.val; let f := p.frond.val; let b := p.bp.val; let i := ((s.fetch n f b).1); s.executes n =
      true ∧ s.hasRun n f b = false ∧ (s.fetch n f b).2 = .clean ∧ (∀ sel ∈ [i.a, i.b, i.c, i.d], (s.operand n f b sel).reserved = false ∧
      (s.operand n f b sel).poison = false ∧ (s.operand n f b sel).early = false) ∧ i.op = 0) ∧
    (∃ (p : BpId) (s : State), let n := p.sorus.val; let f := p.frond.val; let b := p.bp.val; let i := ((s.fetch n f b).1); s.executes n =
      true ∧ s.hasRun n f b = false ∧ (s.fetch n f b).2 = .clean ∧ (∀ sel ∈ [i.a, i.b, i.c, i.d], (s.operand n f b sel).reserved = false ∧
      (s.operand n f b sel).poison = false ∧ (s.operand n f b sel).early = false) ∧ i.op = 1) ∧
    (∃ (p : BpId) (s : State), let n := p.sorus.val; let f := p.frond.val; let b := p.bp.val; let i := ((s.fetch n f b).1); s.executes n =
      true ∧ s.hasRun n f b = false ∧ (s.fetch n f b).2 = .clean ∧ (∀ sel ∈ [i.a, i.b, i.c, i.d], (s.operand n f b sel).reserved = false ∧
      (s.operand n f b sel).poison = false ∧ (s.operand n f b sel).early = false) ∧ i.op = 2) ∧
    (∃ (p : BpId) (s : State), let n := p.sorus.val; let f := p.frond.val; let b := p.bp.val; let i := ((s.fetch n f b).1); s.executes n =
      true ∧ s.hasRun n f b = false ∧ (s.fetch n f b).2 = .clean ∧ (∀ sel ∈ [i.a, i.b, i.c, i.d], (s.operand n f b sel).reserved = false ∧
      (s.operand n f b sel).poison = false ∧ (s.operand n f b sel).early = false) ∧ i.op = 4) ∧
    (∃ (p : BpId) (s : State), let n := p.sorus.val; let f := p.frond.val; let b := p.bp.val; let i := ((s.fetch n f b).1); s.executes n =
      true ∧ s.hasRun n f b = false ∧ (s.fetch n f b).2 = .clean ∧ (∀ sel ∈ [i.a, i.b, i.c, i.d], (s.operand n f b sel).reserved = false ∧
      (s.operand n f b sel).poison = false ∧ (s.operand n f b sel).early = false) ∧ i.op = 5) ∧
    (∃ (p : BpId) (s : State), let n := p.sorus.val; let f := p.frond.val; let b := p.bp.val; let i := ((s.fetch n f b).1); s.executes n =
      true ∧ s.hasRun n f b = false ∧ (s.fetch n f b).2 = .clean ∧ (∀ sel ∈ [i.a, i.b, i.c, i.d], (s.operand n f b sel).reserved = false ∧
      (s.operand n f b sel).poison = false ∧ (s.operand n f b sel).early = false) ∧ i.op = 6) ∧
    (∃ (p : BpId) (s : State), let n := p.sorus.val; let f := p.frond.val; let b := p.bp.val; let i := ((s.fetch n f b).1); s.executes n =
      true ∧ s.hasRun n f b = false ∧ (s.fetch n f b).2 = .clean ∧ (∀ sel ∈ [i.a, i.b, i.c, i.d], (s.operand n f b sel).reserved = false ∧
      (s.operand n f b sel).poison = false ∧ (s.operand n f b sel).early = false) ∧ i.op = 7) ∧
    (∃ (p : BpId) (s : State), let n := p.sorus.val; let f := p.frond.val; let b := p.bp.val; let i := ((s.fetch n f b).1); s.executes n =
      true ∧ s.hasRun n f b = false ∧ (s.fetch n f b).2 = .clean ∧ (∀ sel ∈ [i.a, i.b, i.c, i.d], (s.operand n f b sel).reserved = false ∧
      (s.operand n f b sel).poison = false ∧ (s.operand n f b sel).early = false) ∧ i.op = 8) ∧
    (∃ (p : BpId) (s : State), let n := p.sorus.val; let f := p.frond.val; let b := p.bp.val; let i := ((s.fetch n f b).1); s.executes n =
      true ∧ s.hasRun n f b = false ∧ (s.fetch n f b).2 = .clean ∧ (∀ sel ∈ [i.a, i.b, i.c, i.d], (s.operand n f b sel).reserved = false ∧
      (s.operand n f b sel).poison = false ∧ (s.operand n f b sel).early = false) ∧ 9 ≤ i.op) :=
  ⟨⟨p, im (w 0 0x8000 449 449 449 449 0), by decide +kernel⟩,
   ⟨p, im (w 1 0x8000 449 449 449 449 0), by decide +kernel⟩,
   ⟨p, im (w 2 0x8000 449 449 449 449 0), by decide +kernel⟩,
   ⟨p, im (w 4 0x8000 449 449 449 449 0), by decide +kernel⟩,
   ⟨p, im (w 5 0x8000 449 449 449 449 0), by decide +kernel⟩,
   ⟨p, im (w 6 0x8000 449 449 449 449 0), by decide +kernel⟩,
   ⟨p, im (w 7 0x8000 449 449 449 449 0), by decide +kernel⟩,
   ⟨p, im (w 8 0x8000 449 449 449 449 0), by decide +kernel⟩,
   ⟨p, im (w 9 0x8000 449 449 449 449 0), by decide +kernel⟩⟩

end BooleanProcessor

namespace GangGroup
def w (op tt a b c d dst : Nat) : Word64 := BitVec.ofNat 64 (op * 2^60 + tt * 2^44 + a * 2^35 + b*2^26+c*2^17+d*2^8+dst)
def run : State := sf [(Fld.SEQ_STATUS_STATE,2),(Fld.SEQ_CFG_L,10),(Fld.ARR_STATUS_MAPPED 5,1),(Fld.ARR_STATUS_RUN 5,1)] State.reset
def p : BpId := ⟨5,3,8⟩
def gang (tt x y c : Nat) (n : Nat := 8) : State :=
  (List.range n).foldl (fun s k => let v := w 3 tt (if x.testBit k then 449 else 448) (if y.testBit k then 449 else 448) (if c = 1 then 449 else 448) 448 (30 + k); s.setImem (imemLoc 5 3 (8+k) 0) (eccJoin v (eccChk v))) run
def tt (op : Nat) (sgn fl : Bool) (dst : Nat := 20) (w : Nat := 0): Nat :=
  op * 4096 + w * 1024 + (if sgn then 512 else 0) + (if fl then 256 else 0) + dst
def st1 (op : Nat) (sgn fl : Bool) (x y c : Nat) (n : Nat := 8) : State := gang (tt op sgn fl) x y c n
def ins (t : Nat) : Insn := ⟨3,t,449,449,448,448,30⟩
def one (t : Nat) : Gang := ⟨8,8,t,[(8, ins t)]⟩

/-- The hypotheses of each clause of `Obligations.GangGroup` are met. -/
theorem witness_GangGroup :
    (∃ (p : BpId) (s : State) (g : Gang) (op : Nat), let n := p.sorus.val; let f := p.frond.val; let quiet := (fun (o : Operand) =>
      o.reserved = false ∧ o.poison = false ∧ o.early = false); (((op = 0 ∨ 8 ≤ op)) ∨ (op = 1) ∨ (op = 2) ∨ (op = 3) ∨ (op = 4) ∨ (op = 5)
      ∨ (op = 6) ∨ (op = 7)) ∧ s.executes n = true ∧ s.hasRun n f p.bp = false ∧ (s.fetch n f p.bp).1.op = 3 ∧ gangOp (s.fetch n f
      p.bp).1.tt = op ∧ gangOp g.tt = op ∧ (s.gangs n f).find? (fun g => g.base == p.bp.val) = some g ∧ (∀ m ∈ g.members, (s.fetch n f
      m.1).2 = .clean ∧ quiet (s.operand n f m.1 m.2.a) ∧ quiet (s.operand n f m.1 m.2.b)) ∧ (∀ m ∈ g.members.head?, quiet (s.operand n f
      m.1 m.2.c)) ∧ g.wellFormed = true ∧ op < 8) ∧
    (∃ (p : BpId) (s : State) (g : Gang) (op : Nat), let n := p.sorus.val; let f := p.frond.val; let quiet := (fun (o : Operand) =>
      o.reserved = false ∧ o.poison = false ∧ o.early = false); (((op = 0 ∨ 8 ≤ op)) ∨ (op = 1) ∨ (op = 2) ∨ (op = 3) ∨ (op = 4) ∨ (op = 5)
      ∨ (op = 6) ∨ (op = 7)) ∧ s.executes n = true ∧ s.hasRun n f p.bp = false ∧ (s.fetch n f p.bp).1.op = 3 ∧ gangOp (s.fetch n f
      p.bp).1.tt = op ∧ gangOp g.tt = op ∧ (s.gangs n f).find? (fun g => g.base == p.bp.val) = some g ∧ (∀ m ∈ g.members, (s.fetch n f
      m.1).2 = .clean ∧ quiet (s.operand n f m.1 m.2.a) ∧ quiet (s.operand n f m.1 m.2.b)) ∧ (∀ m ∈ g.members.head?, quiet (s.operand n f
      m.1 m.2.c)) ∧ (g.wellFormed = false ∨ 8 ≤ op)) :=
  ⟨⟨p, st1 0 true true 1 1 0 1, one 788, 0, by decide +kernel⟩,
   ⟨p, st1 8 true true 1 1 0 1, one 33556, 8, by decide +kernel⟩⟩

end GangGroup

namespace ArrayStepParts
def run : State := sf [(Fld.SEQ_STATUS_STATE,2),(Fld.SEQ_CFG_L,10),(Fld.ARR_STATUS_MAPPED 5,1),(Fld.ARR_STATUS_RUN 5,1)] State.reset
def pend (l : List (Nat × Option BmAccess)) (r : Nat) : State :=
  let s := st [(0x0C040000+ 5 * 0x100000 + 2 * 0x2000 + 8,0x12345678),(0x0C040000+ 5 * 0x100000 + 2 * 0x2000 + 12,0x9)] (sf [(Fld.ARR_BM_CFG_RATIO 5 2,r)] run); {s with arr := {s.arr with bmPend := l}}
def k : Nat := 5*64+4

/-- The hypotheses of each clause of `Obligations.ArrayPartsAndWindows` (first part) are met. -/
theorem witness_ArrayPartsAndWindows :
    (∃ (sorus : Fin 34) (mem : Fin 32) (s : State), let n := sorus.val; let key := (n * 64 + mem.val * 2); s.seqState = 2 ∧ ∃ x ∈
      Sparse.get none s.arr.bmPend key, Sparse.get none s.arr.bmPend (key + 1) = none ∧ x.re = true ∧ x.we = false) ∧
    (∃ (sorus : Fin 34) (mem : Fin 32) (s : State), let n := sorus.val; let key := (n * 64 + mem.val * 2); s.seqState = 2 ∧ ∃ x ∈
      Sparse.get none s.arr.bmPend key, Sparse.get none s.arr.bmPend (key + 1) = none ∧ x.re = false ∧ x.we = true ∧ s.memKept n mem =
      false) ∧
    (∃ (sorus : Fin 34) (mem : Fin 32) (s : State), let n := sorus.val; let key := (n * 64 + mem.val * 2); let geo := (bmGeometry
      (s.bmRatio n mem)); s.seqState = 2 ∧ ∃ x ∈ Sparse.get none s.arr.bmPend key, ∃ y ∈ Sparse.get none s.arr.bmPend (key + 1), x.re =
      false ∧ y.re = false ∧ x.we = true ∧ y.we = true ∧ x.addr % 2 ^ geo.1 = y.addr % 2 ^ geo.1 ∧ s.memKept n mem = false) :=
  ⟨⟨5, 2, pend [(k, some ⟨1,true,false,0,false⟩)] 0, by decide +kernel⟩,
   ⟨5, 2, pend [(k, some ⟨1,false,true,0xFFFFFFFFF,false⟩)] 0, by decide +kernel⟩,
   ⟨5, 2, pend [(k, some ⟨1,false,true,0x5,false⟩),(k+1, some ⟨1 + 32768,false,true,0x3,false⟩)] 0, by decide +kernel⟩⟩

end ArrayStepParts

namespace SorusWindows
def a : State :=
  sf [(Fld.ARR_IM_ADDR_FROND 5,3),(Fld.ARR_IM_ADDR_BP 5,9),(Fld.ARR_IM_ADDR_WORD 5,1023),(Fld.ARR_IM_ADDR_AUTOINC 5,1)] (State.reset.setImem (imemLoc 5 3 9 1023) 0x123456789ABCDEF012)

/-- The hypotheses of each clause of `Obligations.ArrayPartsAndWindows` (second part) are met. -/
theorem witness_ArrayPartsAndWindows_SorusWindows :
    (∃ (sorus : Fin 34) (word : Fin 4224) (slotWord : Fin 8192) (blockWord : Fin 65536) (s : State), let n := sorus.val; let confAddr :=
      (0x0C001000 + n * 0x100000 + word.val * 4); let slotAddr := (0x0C010000 + n * 0x100000 + slotWord.val * 4); let blockAddr :=
      (0x0C040000 + n * 0x100000 + blockWord.val * 4); s.awake (Reg.ARR_IM_LO n) ∧ s.awake (Reg.ARR_IM_HI n) ∧ s.awake confAddr ∧ s.awake
      slotAddr ∧ s.awake blockAddr ∧ s.flag (Fld.ARR_STATUS_RUN n) = false) ∧
    (∃ (sorus : Fin 34) (word : Fin 4224) (slotWord : Fin 8192) (blockWord : Fin 65536) (s : State), let n := sorus.val; let confAddr :=
      (0x0C001000 + n * 0x100000 + word.val * 4); let slotAddr := (0x0C010000 + n * 0x100000 + slotWord.val * 4); let blockAddr :=
      (0x0C040000 + n * 0x100000 + blockWord.val * 4); s.awake (Reg.ARR_IM_LO n) ∧ s.awake (Reg.ARR_IM_HI n) ∧ s.awake confAddr ∧ s.awake
      slotAddr ∧ s.awake blockAddr ∧ s.flag (Fld.ARR_STATUS_RUN n) = true) :=
  ⟨⟨5, 0, 0, 0, a, by decide +kernel⟩,
   ⟨5, 0, 0, 0, sf [(Fld.ARR_STATUS_RUN 5,1)] a, by decide +kernel⟩⟩

end SorusWindows

/-- The hypotheses of each clause of `Obligations.RegisterCommands` (first part) are met. -/
theorem witness_RegisterCommands :
    (∃ (addr : BitVec 28) (s : State), let a := addr.toNat; a % 4 = 0 ∧ s.awake a ∧ (a < 0x00100000 ∨ (0x07000000 ≤ a ∧ a < 0x08000000)) ∧
      ∃ r ∈ Reg.row a, r.w1c = 0 ∧ r.rwl = 0) ∧
    (∃ (addr : BitVec 28) (s : State), let a := addr.toNat; a % 4 = 0 ∧ s.awake a ∧ (a < 0x00100000 ∨ (0x07000000 ≤ a ∧ a < 0x08000000)) ∧
      Reg.row a = none) ∧
    (∃ (mid : Mid) (addr : BitVec 28) (s : State), let a := addr.toNat; a % 4 = 0 ∧ s.awake a ∧ (∃ k < 16, a = Reg.EVT_STICKY k) ∧
      isManager mid = true ∧ (∀ i < 80, s.alarming i = false) ∧ s.pwr.talarm = false ∧ s.pwr.tshut = false) ∧
    (∃ (addr : BitVec 28) (s : State), let a := addr.toNat; a % 4 = 0 ∧ s.awake a ∧ a = Reg.HBM_STATUS ∧ (∀ i < 80, s.alarming i = false)
      ∧ s.pwr.talarm = false ∧ s.pwr.tshut = false) ∧
    (∃ (mid : Mid) (addr : BitVec 28) (s : State), let a := addr.toNat; a % 4 = 0 ∧ s.awake a ∧ (∃ k < 16, a = Reg.EVT_STICKY k) ∧
      isManager mid = false) ∧
    (∃ (addr : BitVec 28) (s : State), let a := addr.toNat; a % 4 = 0 ∧ s.awake a ∧ (a = Reg.HBM_CORR_CNT ∨ a = Reg.HBM_UNC_CNT ∨ a =
      Reg.HST_MAL_CNT ∨ a = Reg.LRG_CRC_CNT ∨ a = Reg.LRG_EVT_DROP ∨ (∃ i < 103, a = Reg.LN_LE_WORDS i ∨ a = Reg.LN_LE_INV i ∨ a =
      Reg.LN_LE_DROP i ∨ a = Reg.QL_RETRY i))) :=
  ⟨⟨BitVec.ofNat 28 (Reg.HBM_CORR_CNT), State.reset, by decide +kernel⟩,
   ⟨BitVec.ofNat 28 (0x7FFFFF0), State.reset, by decide +kernel⟩,
   ⟨8, BitVec.ofNat 28 (Reg.EVT_STICKY 15), State.reset, by decide +kernel⟩,
   ⟨BitVec.ofNat 28 (Reg.HBM_STATUS), State.reset, by decide +kernel⟩,
   ⟨0x22, BitVec.ofNat 28 (Reg.EVT_STICKY 15), State.reset, by decide +kernel⟩,
   ⟨BitVec.ofNat 28 (Reg.HBM_CORR_CNT), State.reset, by decide +kernel⟩⟩

/-- The hypotheses of each clause of `Obligations.RegisterCommands` (second part) are met. -/
theorem witness_RegisterCommands_RecordsAndLocks :
    (∃ (mid : Mid), (isManager mid = true ∨ (mid = 0x10))) ∧
    (∃ (mid : Mid), isManager mid = false ∧ mid ≠ 0x10) ∧
    (∃ (mid : Mid), isManager mid = false) :=
  ⟨⟨0x10, by decide +kernel⟩,
   ⟨0x22, by decide +kernel⟩,
   ⟨0x10, by decide +kernel⟩⟩

namespace SequencerCommands
def base (st disc src : Nat) : State :=
  sf [(Fld.SEQ_STATUS_STATE,st),(Fld.SEQ_CFG_DISC,disc),(Fld.SEQ_CFG_START_SRC,src),(Fld.ARR_STATUS_RUN 5,1),(Fld.ARR_STATUS_MAPPED 5,1)]
def at' (v : Word32) : Word32 := Fld.SEQ_CMD_AT.put v 1

/-- The hypotheses of each clause of `Obligations.SequencerCommands` are met. -/
theorem witness_SequencerCommands :
    (∃ (s : State) (code : Nat), ((code = 1) ∨ (code = 2) ∨ (code = 3) ∨ (code = 4) ∨ (code = 5) ∨ (code = 6) ∨ (code = 7)) ∧ let noSlot
      := (code = 7 ∧ s.slotInRegion = false); noSlot) ∧
    (∃ (s : State) (code : Nat), ((code = 1) ∨ (code = 2) ∨ (code = 3) ∨ (code = 4) ∨ (code = 5) ∨ (code = 6) ∨ (code = 7)) ∧ let locked
      := (s.lockedSchedule = true ∧ 3 ≤ code ∧ code ≤ 6); let noSlot := (code = 7 ∧ s.slotInRegion = false); ¬ noSlot ∧ locked) ∧
    (∃ (s : State) (code : Nat), ((code = 1) ∨ (code = 2) ∨ (code = 3) ∨ (code = 4) ∨ (code = 5) ∨ (code = 6) ∨ (code = 7)) ∧ let st :=
      s.seqState; let accepts := ((code = 1 ∧ ((st = 1 ∧ s.startSrc = 0) ∨ st = 5)) ∨ (code = 2 ∧ 1 ≤ st ∧ st ≤ 4) ∨ (code = 3 ∧ (st = 2 ∨
      st = 3)) ∨ ((code = 4 ∨ code = 5) ∧ st = 4) ∨ ((code = 6 ∨ code = 7) ∧ (st = 2 ∨ st = 3 ∨ st = 4))); let locked := (s.lockedSchedule =
      true ∧ 3 ≤ code ∧ code ≤ 6); let noSlot := (code = 7 ∧ s.slotInRegion = false); ¬ noSlot ∧ ¬ locked ∧ ¬ accepts) ∧
    (∃ (s : State) (code : Nat), ((code = 1) ∨ (code = 2) ∨ (code = 3) ∨ (code = 4) ∨ (code = 5) ∨ (code = 6) ∨ (code = 7)) ∧ let st :=
      s.seqState; let accepts := ((code = 1 ∧ ((st = 1 ∧ s.startSrc = 0) ∨ st = 5)) ∨ (code = 2 ∧ 1 ≤ st ∧ st ≤ 4) ∨ (code = 3 ∧ (st = 2 ∨
      st = 3)) ∨ ((code = 4 ∨ code = 5) ∧ st = 4) ∨ ((code = 6 ∨ code = 7) ∧ (st = 2 ∨ st = 3 ∨ st = 4))); let locked := (s.lockedSchedule =
      true ∧ 3 ≤ code ∧ code ≤ 6); let noSlot := (code = 7 ∧ s.slotInRegion = false); let busy := (s.seq.cmd ≠ none ∨ (code = 7 ∧ s.flag
      Fld.SEQ_CAP_STAT_BUSY = true)); ¬ noSlot ∧ ¬ locked ∧ accepts ∧ busy) ∧
    (∃ (value : Word32) (s : State) (code : Nat), ((code = 1) ∨ (code = 2) ∨ (code = 3) ∨ (code = 4) ∨ (code = 5) ∨ (code = 6) ∨ (code =
      7)) ∧ let st := s.seqState; let named := (Fld.SEQ_CMD_AT.get value = 1); let ahead := (signedOf 32 ((s.reg Reg.SEQ_CMD_TURN).toNat +
      (2 ^ 32 - s.seq.turn % 2 ^ 32))); let accepts := ((code = 1 ∧ ((st = 1 ∧ s.startSrc = 0) ∨ st = 5)) ∨ (code = 2 ∧ 1 ≤ st ∧ st ≤ 4) ∨
      (code = 3 ∧ (st = 2 ∨ st = 3)) ∨ ((code = 4 ∨ code = 5) ∧ st = 4) ∨ ((code = 6 ∨ code = 7) ∧ (st = 2 ∨ st = 3 ∨ st = 4))); let locked
      := (s.lockedSchedule = true ∧ 3 ≤ code ∧ code ≤ 6); let noSlot := (code = 7 ∧ s.slotInRegion = false); let busy := (s.seq.cmd ≠ none ∨
      (code = 7 ∧ s.flag Fld.SEQ_CAP_STAT_BUSY = true)); ¬ noSlot ∧ ¬ locked ∧ accepts ∧ ¬ busy ∧ named ∧ ahead ≤ 0) ∧
    (∃ (value : Word32) (s : State) (code : Nat), ((code = 1) ∨ (code = 2) ∨ (code = 3) ∨ (code = 4) ∨ (code = 5) ∨ (code = 6) ∨ (code =
      7)) ∧ let st := s.seqState; let named := (Fld.SEQ_CMD_AT.get value = 1); let ahead := (signedOf 32 ((s.reg Reg.SEQ_CMD_TURN).toNat +
      (2 ^ 32 - s.seq.turn % 2 ^ 32))); let accepts := ((code = 1 ∧ ((st = 1 ∧ s.startSrc = 0) ∨ st = 5)) ∨ (code = 2 ∧ 1 ≤ st ∧ st ≤ 4) ∨
      (code = 3 ∧ (st = 2 ∨ st = 3)) ∨ ((code = 4 ∨ code = 5) ∧ st = 4) ∨ ((code = 6 ∨ code = 7) ∧ (st = 2 ∨ st = 3 ∨ st = 4))); let locked
      := (s.lockedSchedule = true ∧ 3 ≤ code ∧ code ≤ 6); let noSlot := (code = 7 ∧ s.slotInRegion = false); let busy := (s.seq.cmd ≠ none ∨
      (code = 7 ∧ s.flag Fld.SEQ_CAP_STAT_BUSY = true)); ¬ noSlot ∧ ¬ locked ∧ accepts ∧ ¬ busy ∧ (named → 0 < ahead) ∧ code = 1 ∧ st = 1) ∧
    (∃ (value : Word32) (s : State) (code : Nat), ((code = 1) ∨ (code = 2) ∨ (code = 3) ∨ (code = 4) ∨ (code = 5) ∨ (code = 6) ∨ (code =
      7)) ∧ let st := s.seqState; let named := (Fld.SEQ_CMD_AT.get value = 1); let ahead := (signedOf 32 ((s.reg Reg.SEQ_CMD_TURN).toNat +
      (2 ^ 32 - s.seq.turn % 2 ^ 32))); let accepts := ((code = 1 ∧ ((st = 1 ∧ s.startSrc = 0) ∨ st = 5)) ∨ (code = 2 ∧ 1 ≤ st ∧ st ≤ 4) ∨
      (code = 3 ∧ (st = 2 ∨ st = 3)) ∨ ((code = 4 ∨ code = 5) ∧ st = 4) ∨ ((code = 6 ∨ code = 7) ∧ (st = 2 ∨ st = 3 ∨ st = 4))); let locked
      := (s.lockedSchedule = true ∧ 3 ≤ code ∧ code ≤ 6); let noSlot := (code = 7 ∧ s.slotInRegion = false); let busy := (s.seq.cmd ≠ none ∨
      (code = 7 ∧ s.flag Fld.SEQ_CAP_STAT_BUSY = true)); ¬ noSlot ∧ ¬ locked ∧ accepts ∧ ¬ busy ∧ (named → 0 < ahead) ∧ code = 1 ∧ st = 5) ∧
    (∃ (value : Word32) (s : State) (code : Nat), ((code = 1) ∨ (code = 2) ∨ (code = 3) ∨ (code = 4) ∨ (code = 5) ∨ (code = 6) ∨ (code =
      7)) ∧ let st := s.seqState; let named := (Fld.SEQ_CMD_AT.get value = 1); let ahead := (signedOf 32 ((s.reg Reg.SEQ_CMD_TURN).toNat +
      (2 ^ 32 - s.seq.turn % 2 ^ 32))); let accepts := ((code = 1 ∧ ((st = 1 ∧ s.startSrc = 0) ∨ st = 5)) ∨ (code = 2 ∧ 1 ≤ st ∧ st ≤ 4) ∨
      (code = 3 ∧ (st = 2 ∨ st = 3)) ∨ ((code = 4 ∨ code = 5) ∧ st = 4) ∨ ((code = 6 ∨ code = 7) ∧ (st = 2 ∨ st = 3 ∨ st = 4))); let locked
      := (s.lockedSchedule = true ∧ 3 ≤ code ∧ code ≤ 6); let noSlot := (code = 7 ∧ s.slotInRegion = false); let busy := (s.seq.cmd ≠ none ∨
      (code = 7 ∧ s.flag Fld.SEQ_CAP_STAT_BUSY = true)); ¬ noSlot ∧ ¬ locked ∧ accepts ∧ ¬ busy ∧ (named → 0 < ahead) ∧ code = 2 ∧ (st = 1 ∨
      st = 4)) ∧
    (∃ (value : Word32) (s : State) (code : Nat), ((code = 1) ∨ (code = 2) ∨ (code = 3) ∨ (code = 4) ∨ (code = 5) ∨ (code = 6) ∨ (code =
      7)) ∧ let st := s.seqState; let named := (Fld.SEQ_CMD_AT.get value = 1); let ahead := (signedOf 32 ((s.reg Reg.SEQ_CMD_TURN).toNat +
      (2 ^ 32 - s.seq.turn % 2 ^ 32))); let accepts := ((code = 1 ∧ ((st = 1 ∧ s.startSrc = 0) ∨ st = 5)) ∨ (code = 2 ∧ 1 ≤ st ∧ st ≤ 4) ∨
      (code = 3 ∧ (st = 2 ∨ st = 3)) ∨ ((code = 4 ∨ code = 5) ∧ st = 4) ∨ ((code = 6 ∨ code = 7) ∧ (st = 2 ∨ st = 3 ∨ st = 4))); let locked
      := (s.lockedSchedule = true ∧ 3 ≤ code ∧ code ≤ 6); let noSlot := (code = 7 ∧ s.slotInRegion = false); let busy := (s.seq.cmd ≠ none ∨
      (code = 7 ∧ s.flag Fld.SEQ_CAP_STAT_BUSY = true)); ¬ noSlot ∧ ¬ locked ∧ accepts ∧ ¬ busy ∧ (named → 0 < ahead) ∧ code = 2 ∧ st = 3 ∧
      s.lockedSchedule = false ∧ s.seq.thermal = false ∧ ¬ named) ∧
    (∃ (value : Word32) (s : State) (code : Nat), ((code = 1) ∨ (code = 2) ∨ (code = 3) ∨ (code = 4) ∨ (code = 5) ∨ (code = 6) ∨ (code =
      7)) ∧ let st := s.seqState; let named := (Fld.SEQ_CMD_AT.get value = 1); let ahead := (signedOf 32 ((s.reg Reg.SEQ_CMD_TURN).toNat +
      (2 ^ 32 - s.seq.turn % 2 ^ 32))); let accepts := ((code = 1 ∧ ((st = 1 ∧ s.startSrc = 0) ∨ st = 5)) ∨ (code = 2 ∧ 1 ≤ st ∧ st ≤ 4) ∨
      (code = 3 ∧ (st = 2 ∨ st = 3)) ∨ ((code = 4 ∨ code = 5) ∧ st = 4) ∨ ((code = 6 ∨ code = 7) ∧ (st = 2 ∨ st = 3 ∨ st = 4))); let locked
      := (s.lockedSchedule = true ∧ 3 ≤ code ∧ code ≤ 6); let noSlot := (code = 7 ∧ s.slotInRegion = false); let busy := (s.seq.cmd ≠ none ∨
      (code = 7 ∧ s.flag Fld.SEQ_CAP_STAT_BUSY = true)); ¬ noSlot ∧ ¬ locked ∧ accepts ∧ ¬ busy ∧ (named → 0 < ahead) ∧ ((code = 2 ∧ st = 2)
      ∨ code = 3 ∨ code = 6 ∨ code = 7)) ∧
    (∃ (value : Word32) (s : State) (code : Nat), ((code = 1) ∨ (code = 2) ∨ (code = 3) ∨ (code = 4) ∨ (code = 5) ∨ (code = 6) ∨ (code =
      7)) ∧ let st := s.seqState; let named := (Fld.SEQ_CMD_AT.get value = 1); let ahead := (signedOf 32 ((s.reg Reg.SEQ_CMD_TURN).toNat +
      (2 ^ 32 - s.seq.turn % 2 ^ 32))); let accepts := ((code = 1 ∧ ((st = 1 ∧ s.startSrc = 0) ∨ st = 5)) ∨ (code = 2 ∧ 1 ≤ st ∧ st ≤ 4) ∨
      (code = 3 ∧ (st = 2 ∨ st = 3)) ∨ ((code = 4 ∨ code = 5) ∧ st = 4) ∨ ((code = 6 ∨ code = 7) ∧ (st = 2 ∨ st = 3 ∨ st = 4))); let locked
      := (s.lockedSchedule = true ∧ 3 ≤ code ∧ code ≤ 6); let noSlot := (code = 7 ∧ s.slotInRegion = false); let busy := (s.seq.cmd ≠ none ∨
      (code = 7 ∧ s.flag Fld.SEQ_CAP_STAT_BUSY = true)); ¬ noSlot ∧ ¬ locked ∧ accepts ∧ ¬ busy ∧ (named → 0 < ahead) ∧ code = 4) ∧
    (∃ (value : Word32) (s : State) (code : Nat), ((code = 1) ∨ (code = 2) ∨ (code = 3) ∨ (code = 4) ∨ (code = 5) ∨ (code = 6) ∨ (code =
      7)) ∧ let st := s.seqState; let named := (Fld.SEQ_CMD_AT.get value = 1); let ahead := (signedOf 32 ((s.reg Reg.SEQ_CMD_TURN).toNat +
      (2 ^ 32 - s.seq.turn % 2 ^ 32))); let accepts := ((code = 1 ∧ ((st = 1 ∧ s.startSrc = 0) ∨ st = 5)) ∨ (code = 2 ∧ 1 ≤ st ∧ st ≤ 4) ∨
      (code = 3 ∧ (st = 2 ∨ st = 3)) ∨ ((code = 4 ∨ code = 5) ∧ st = 4) ∨ ((code = 6 ∨ code = 7) ∧ (st = 2 ∨ st = 3 ∨ st = 4))); let locked
      := (s.lockedSchedule = true ∧ 3 ≤ code ∧ code ≤ 6); let noSlot := (code = 7 ∧ s.slotInRegion = false); let busy := (s.seq.cmd ≠ none ∨
      (code = 7 ∧ s.flag Fld.SEQ_CAP_STAT_BUSY = true)); ¬ noSlot ∧ ¬ locked ∧ accepts ∧ ¬ busy ∧ (named → 0 < ahead) ∧ code = 5) :=
  ⟨⟨let s := (base 5 1 0); (s.setReg Reg.SEQ_CMD_TURN (BitVec.ofNat 32 0)), 7, by decide +kernel⟩,
   ⟨let s := (base 2 0 0); (s.setReg Reg.SEQ_CMD_TURN (BitVec.ofNat 32 0)), 3, by decide +kernel⟩,
   ⟨let s := (base 1 1 0); (s.setReg Reg.SEQ_CMD_TURN (BitVec.ofNat 32 5)), 6, by decide +kernel⟩,
   ⟨let s := (base 1 1 0); {s with seq := {s.seq with cmd := some ⟨2,none,0⟩}}, 2, by decide +kernel⟩,
   ⟨at' 0, let s := (base 1 1 0); (s.setReg Reg.SEQ_CMD_TURN (BitVec.ofNat 32 0)), 1, by decide +kernel⟩,
   ⟨0, base 1 0 0, 1, by decide +kernel⟩,
   ⟨0x3000, let s := (base 5 0 0); (s.setReg Reg.SEQ_CMD_TURN (BitVec.ofNat 32 5)), 1, by decide +kernel⟩,
   ⟨0x3000, let s := (base 4 1 0); (s.setReg Reg.SEQ_CMD_TURN (BitVec.ofNat 32 5)), 2, by decide +kernel⟩,
   ⟨0x3000, let s := (base 3 1 1); (s.setReg Reg.SEQ_CMD_TURN (BitVec.ofNat 32 (2^31))), 2, by decide +kernel⟩,
   ⟨0x3000, let s := (base 2 1 0); (s.setReg Reg.SEQ_CMD_TURN (BitVec.ofNat 32 0)), 3, by decide +kernel⟩,
   ⟨0x3000, let s := (base 4 1 0); (s.setReg Reg.SEQ_CMD_TURN (BitVec.ofNat 32 5)), 4, by decide +kernel⟩,
   ⟨0x3000, let s := (base 4 1 1); (s.setReg Reg.SEQ_CMD_TURN (BitVec.ofNat 32 5)), 5, by decide +kernel⟩⟩

end SequencerCommands

namespace SequencerTurns
def base (st disc src : Nat) (l : List (Field × Nat) := []) : State :=
  sf ([(Fld.SEQ_STATUS_STATE,st),(Fld.SEQ_CFG_DISC,disc),(Fld.SEQ_CFG_START_SRC,src),(Fld.SEQ_CFG_L,10),(Fld.ARR_STATUS_RUN 5,1),(Fld.ARR_STATUS_MAPPED 5,1)] ++ l) up
def sq (f : SeqSt → SeqSt) (s : State) : State := {s with seq := f s.seq}

/-- The hypotheses of each clause of `Obligations.SequencerTurns` (first part) are met. -/
theorem witness_SequencerTurns :
    (∃ (s : State), s.seqState = 1 ∧ 2 ≤ s.startSrc ∧ s.startSrc ≤ 4) ∧
    (∃ (s : State), s.devState ≤ 1 ∧ s.twin.align = none ∧ s.seqState = 1 ∧ s.seq.startMet = true) ∧
    (∃ (s : State), s.seqState = 2 ∧ s.turnLength ≤ s.seq.step + 1 ∧ s.lockedSchedule = true ∧ s.flag Fld.SEQ_CFG1_OVR_ACT = false ∧
      s.flag Fld.SEQ_CFG1_VOTE_ACT = false ∧ s.seq.thermal = false ∧ s.seq.cmd = none) ∧
    (∃ (turn : Word32) (s : State) (lv : Nat), s.seqState = 2 ∧ s.turnLength ≤ s.seq.step + 1 ∧ s.lockedSchedule = true ∧ s.flag
      Fld.SEQ_CFG1_OVR_ACT = false ∧ s.flag Fld.SEQ_CFG1_VOTE_ACT = false ∧ s.seq.thermal = false ∧ s.seq.cmd = some
      { code := 2, turn := none, level := lv }) ∧
    (∃ (s : State), s.seqState = 3 ∧ s.inBarrier = false ∧ s.seq.probeWait = false ∧ s.lockedSchedule = false ∧ s.seq.thermal = false ∧
      s.seq.cmd = none ∧ s.otherCauses = 0 ∧ s.ownVote0 = false ∧ s.seq.stepLeft = none) ∧
    (∃ (s : State), s.seqState = 3 ∧ s.inBarrier = false ∧ s.seq.probeWait = false ∧ s.lockedSchedule = false ∧ s.seq.thermal = false ∧
      s.seq.cmd = none ∧ s.otherCauses ≠ 0) ∧
    (∃ (s : State), s.seqState = 3 ∧ s.seq.longSeen = false ∧ s.fld Fld.SEQ_STALL_WARN_US ≠ 0) ∧
    (∃ (s : State), s.inBarrier = true ∧ s.seqState = 3 ∧ s.seq.go = none ∧ s.fld Fld.SEQ_BAR_TMO_US ≠ 0) ∧
    (∃ (lane : Fin 103) (turn : Word32) (s : State), s.inBarrier = true ∧ lane.val ∈ s.seq.children ∧ turn.toNat = s.seq.turn % 2 ^ 32) ∧
    (∃ (lane : Fin 103) (s : State), s.inBarrier = true ∧ s.seq.parent = some lane.val ∧ s.seqState = 1 ∧ s.startSrc = 4) ∧
    (∃ (lane : Fin 103) (turn : Word32) (s : State), s.inBarrier = true ∧ s.seq.parent = some lane.val ∧ s.seqState ≠ 1 ∧ turn.toNat =
      s.seq.turn % 2 ^ 32) :=
  ⟨⟨sq (fun q => {q with step := 9, turn := 7, startMet := true}) (base 1 1 3), by decide +kernel⟩,
   ⟨sq (fun q => {q with step := 9, turn := 7, startMet := true}) (base 1 1 3), by decide +kernel⟩,
   ⟨sq (fun q => {q with step := 9, turn := 7, startMet := true}) (base 2 0 4), by decide +kernel⟩,
   ⟨7, sq (fun q => {q with step := 9, turn := 2^64-1, cmd := some ⟨2,none,0⟩}) (base 2 0 0), 0, by decide +kernel⟩,
   ⟨sq (fun q => {q with step := 5, turn := 7, startMet := true}) (base 3 1 4), by decide +kernel⟩,
   ⟨sq (fun q => {q with throttle := true, heldCauses := 1}) (base 3 1 4 []), by decide +kernel⟩,
   ⟨sq (fun q => {q with step := 9, turn := 2^32 + 7, children := [1,3], parent := (some 3), go := none}) (base 3 1 4
     [(Fld.SEQ_CFG1_XDEV,1),(Fld.SEQ_STALL_WARN_US,5),(Fld.SEQ_BAR_TMO_US,5)]), by decide +kernel⟩,
   ⟨sq (fun q => {q with step := 9, turn := 2^32 + 7, children := [1,3], parent := (some 3), go := none}) (base 3 1 4
     [(Fld.SEQ_CFG1_XDEV,1),(Fld.SEQ_STALL_WARN_US,5),(Fld.SEQ_BAR_TMO_US,5)]), by decide +kernel⟩,
   ⟨3, 7, sq (fun q => {q with step := 9, turn := 2^32 + 7, children := [1,3], parent := (some 3), go := none}) (base 3 1 4
     [(Fld.SEQ_CFG1_XDEV,1),(Fld.SEQ_STALL_WARN_US,5),(Fld.SEQ_BAR_TMO_US,5)]), by decide +kernel⟩,
   ⟨3, sq (fun q => {q with step := 9, turn := 2^32 + 7, children := [1,3], parent := (some 3), go := none}) (base 1 1 4
     [(Fld.SEQ_CFG1_XDEV,1),(Fld.SEQ_STALL_WARN_US,5),(Fld.SEQ_BAR_TMO_US,5)]), by decide +kernel⟩,
   ⟨3, 7, sq (fun q => {q with step := 9, turn := 2^32 + 7, children := [1,3], parent := (some 3), go := none}) (base 3 1 4
     [(Fld.SEQ_CFG1_XDEV,1),(Fld.SEQ_STALL_WARN_US,5),(Fld.SEQ_BAR_TMO_US,5)]), by decide +kernel⟩⟩

end SequencerTurns

namespace CaptureEnds
def sn (l : List Byte) (slot : Nat) : State :=
  let s := sf [(Fld.SEQ_CAP_STAT_BUSY,1),(Fld.HBM_RGN_OWN_EN 3,1),(Fld.HBM_RGN_OWN_KIND 3,5),(Fld.HBM_RGN_BASE_BASE 3,1),(Fld.HBM_RGN_SIZE_SIZE 3,512)]; {s with seq := {s.seq with snap := [(0,l)], snapSlot := slot, snapTurn := 77}}

/-- The hypotheses of each clause of `Obligations.SequencerTurns` (second part) are met. -/
theorem witness_SequencerTurns_CaptureEnds :
    (∃ (s : State), s.flag Fld.SEQ_CAP_STAT_BUSY = true ∧ ∃ b ∈ s.regionBase 5, True) :=
  ⟨sn [] 0, by decide +kernel⟩

end CaptureEnds

namespace LoaderPhases
def le (n v : Nat) : List Byte := (List.range n).map fun k => BitVec.ofNat 8 (v / 256 ^ k)
def ent (kind vs : Nat) (off len : Nat) (tag : Nat := 0xFF) : List Byte :=
  le 1 kind ++ le 1 vs ++ le 1 tag ++ le 5 0 ++ le 8 off ++ le 8 len
def kinds : List (Nat × Nat) :=
  [(1,255),(2,255),(3,255),(4,255),(5,255),(6,255)] ++ (List.range 32).map (fun v => (7,v)) ++ [(8,255),(9,255),(10,255)]
def total : Nat := 256 + 24*41 + 41*8
def hdr (magic : Nat := 0x3149585A) (bgen : Nat := 1) : List Byte :=
  le 4 magic ++ le 2 1 ++ le 1 1 ++ le 1 bgen ++ le 2 0x9640 ++ le 2 41 ++ le 4 256 ++ le 8 total ++ List.replicate 232 0
def img : List Byte := hdr ++ kinds.zipIdx.flatMap (fun p => ent p.1.1 p.1.2 (256+24*41+8*p.2) 8)
def L (f : LoaderSt → LoaderSt) (s : State := up) : State := {s with ldr := f s.ldr}
def secs : List ImgSection := [⟨5,255,255,0,16⟩,⟨6,255,255,16,1000⟩,⟨7,3,255,1016,100⟩]
def frame (t off seq : Nat) (us : List Nat) (bad : Nat := 0) (vs : Nat := 255) (dt : Nat := 255): List Byte :=
  let p := us.flatMap (le 8)
  let h := le 1 t ++ le 1 dt ++ le 1 vs ++ le 1 0 ++ le 4 off ++ le 4 us.length ++ le 4 p.length ++ le 4 seq
  h ++ le 4 ((crc32c (h ++ p)).toNat + bad) ++ p
def fr (x : List Byte) : State :=
  L (fun l => {l with phase := 6, src := 1, sections := [⟨6,255,255,16,1000⟩], image := List.replicate 16 0 ++ x ++ List.replicate 100 0, pos := 0})
def hb : State := L (fun l => {l with phase := 5, src := 1, sections := secs, image := List.replicate 2000 0})
def tr : State := L (fun l => {l with phase := 5, src := 0, sections := secs, image := List.replicate 2000 0, training := true})
def ck (o : List Byte) : State :=
  L fun l => {l with phase := 4, src := 1, image := List.replicate 64 0 ++ o, sections := [⟨2,255,255,0,16⟩,⟨3,255,255,16,32⟩,⟨4,255,255,64,o.length⟩]}
def ve : State := L (fun l => {l with phase := 7, src := 1, sections := [⟨10,255,255,256,5272⟩], image := hdr ++ List.replicate 5272 0})

/-- The hypotheses of each clause of `Obligations.LoaderPhases` are met. -/
theorem witness_LoaderPhases :
    (∃ (bytes : List Byte) (s : State), s.ldr.change = none ∧ s.ldr.paused = false ∧ let u := (s.takeStream bytes); let img :=
      u.ldr.image; s.ldr.phase = 2 ∧ u.entryFits = true ∧ 256 ≤ img.length ∧ u.headerCheck img 1 u.entryLength = none ∧ 1 ≤ secCount img ∧
      secCount img ≤ 4096 ∧ secEnd img ≤ numAt img 0x10 8 ∧ secEnd img ≤ img.length ∧ u.tableGood img true = true) ∧
    (∃ (bytes : List Byte) (s : State), s.ldr.change = none ∧ s.ldr.paused = false ∧ let u := (s.takeStream bytes); let img :=
      u.ldr.image; s.ldr.phase = 2 ∧ u.entryFits = true ∧ 256 ≤ img.length ∧ u.fallbackSlot = none ∧ numAt img 0 4 ≠ 0x3149585A) ∧
    (∃ (bytes : List Byte) (s : State), s.ldr.change = none ∧ s.ldr.paused = false ∧ let u := (s.takeStream bytes); s.ldr.phase = 3 ∧ ∃
      qxV ∈ u.ownSection 1, let x := qxV.1; u.sectionIn x = true ∧ u.fallbackSlot = none) ∧
    (∃ (bytes : List Byte) (s : State), s.ldr.change = none ∧ s.ldr.paused = false ∧ let u := (s.takeStream bytes); s.ldr.phase = 4 ∧ ∃
      qxV ∈ u.ownSection 2, let x := qxV.1; ∃ qgV ∈ u.ownSection 3, let g := qgV.1; ∃ qoV ∈ u.ownSection 4, let o := qoV.1; u.sectionIn x =
      true ∧ u.sectionIn g = true ∧ u.sectionIn o = true ∧ let m := (u.mapRest (u.mapPreferred (u.sectionBytes g))); m.contains 0xFF = false
      ∧ ownCheck (u.sectionBytes o) = none) ∧
    (∃ (bytes : List Byte) (s : State), s.ldr.change = none ∧ s.ldr.paused = false ∧ let u := (s.takeStream bytes); s.ldr.phase = 4 ∧ ∃
      qxV ∈ u.ownSection 2, let x := qxV.1; ∃ qgV ∈ u.ownSection 3, let g := qgV.1; ∃ qoV ∈ u.ownSection 4, let o := qoV.1; u.sectionIn x =
      true ∧ u.sectionIn g = true ∧ u.sectionIn o = true ∧ let m := (u.mapRest (u.mapPreferred (u.sectionBytes g))); m.contains 0xFF = false
      ∧ ∃ c ∈ ownCheck (u.sectionBytes o), u.fallbackSlot = none) ∧
    (∃ (bytes : List Byte) (s : State), s.ldr.change = none ∧ s.ldr.paused = false ∧ let u := (s.takeStream bytes); s.ldr.phase = 5 ∧
      s.ldr.training = false ∧ ∃ qxV ∈ u.ownSection 5, let x := qxV.1; u.sectionIn x = true ∧ u.hbmBad (u.sectionBytes x) = false ∧
      (rgnEntries (u.sectionBytes x)).zipIdx.any (fun p => p.1.en && !u.rgnOwned p.2 p.1) = false) ∧
    (∃ (s : State), s.ldr.change = none ∧ s.ldr.paused = false ∧ s.domState 70 = 0 ∧ s.domState 71 = 0 ∧ s.ldr.training = false) ∧
    (∃ (s : State), s.ldr.change = none ∧ s.ldr.paused = false ∧ s.domState 70 = 0 ∧ s.domState 71 = 0 ∧ s.ldr.training = true ∧ ∃ qxV ∈
      s.ownSection 5, True) ∧
    (∃ (bytes : List Byte) (s : State), s.ldr.change = none ∧ s.ldr.paused = false ∧ let u := (s.takeStream bytes); let img :=
      u.ldr.image; s.ldr.phase = 6 ∧ ∃ qxV ∈ u.frameSection, let x := qxV.1; u.frameReady x = true ∧ x.kind ≠ 8 ∧ let pos := (max u.ldr.pos
      x.offset); let b := (img.drop pos); let h := (FrameHdr.decode b); let crcGood := (crc32c (b.take 20 ++ (b.drop 24).take h.slen) =
      BitVec.ofNat 32 h.crc); 24 ≤ h.size ∧ h.size ≤ b.length ∧ pos + h.size < x.offset + x.length ∧ ¬ crcGood ∧ u.fallbackSlot = none) ∧
    (∃ (bytes : List Byte) (s : State), s.ldr.change = none ∧ s.ldr.paused = false ∧ let u := (s.takeStream bytes); let img :=
      u.ldr.image; s.ldr.phase = 6 ∧ ∃ qxV ∈ u.frameSection, let x := qxV.1; u.frameReady x = true ∧ x.kind ≠ 8 ∧ let pos := (max u.ldr.pos
      x.offset); let seq := (if u.ldr.pos ≤ x.offset then 0 else u.ldr.nextSeq); let b := (img.drop pos); let h := (FrameHdr.decode b); let
      crcGood := (crc32c (b.take 20 ++ (b.drop 24).take h.slen) = BitVec.ofNat 32 h.crc); 24 ≤ h.size ∧ h.size ≤ b.length ∧ pos + h.size <
      x.offset + x.length ∧ crcGood ∧ frameFits h.ftype x.kind = true ∧ tagReserved h.dtag = false ∧ h.seq = seq ∧ u.ownTag h.dtag = false) ∧
    (∃ (bytes : List Byte) (s : State), s.ldr.change = none ∧ s.ldr.paused = false ∧ let u := (s.takeStream bytes); let img :=
      u.ldr.image; s.ldr.phase = 6 ∧ ∃ qxV ∈ u.frameSection, let x := qxV.1; u.frameReady x = true ∧ x.kind ≠ 8 ∧ let pos := (max u.ldr.pos
      x.offset); let seq := (if u.ldr.pos ≤ x.offset then 0 else u.ldr.nextSeq); let b := (img.drop pos); let h := (FrameHdr.decode b); let
      crcGood := (crc32c (b.take 20 ++ (b.drop 24).take h.slen) = BitVec.ofNat 32 h.crc); 24 ≤ h.size ∧ h.size ≤ b.length ∧ pos + h.size <
      x.offset + x.length ∧ crcGood ∧ frameFits h.ftype x.kind = true ∧ tagReserved h.dtag = false ∧ h.seq = seq ∧ u.ownTag h.dtag = true ∧
      1 ≤ h.ulen ∧ h.ulen ≤ 8192 ∧ h.offset + h.ulen ≤ unitSpace h.ftype ∧ ∃ us ∈ h.units b, u.contentCheck x h us = none) ∧
    (∃ (bytes : List Byte) (s : State), s.ldr.change = none ∧ s.ldr.paused = false ∧ let u := (s.takeStream bytes); s.ldr.phase = 7 ∧
      u.imageIn = true ∧ u.startCheck true = none ∧ u.fallbackSlot = none) :=
  ⟨⟨[], L fun l => {l with phase := 2, src := 1, image := img}, by decide +kernel⟩,
   ⟨[], L fun l => {l with phase := 2, src := 1, image := hdr 5}, by decide +kernel⟩,
   ⟨[], L fun l => {l with phase := 3, src := 1, image := hdr 5, sections := [⟨1,255,255,0,16⟩]}, by decide +kernel⟩,
   ⟨[], ck [], by decide +kernel⟩,
   ⟨[], ck [1,2,3], by decide +kernel⟩,
   ⟨[], sf [(Fld.SEQ_CFG_DISC,1)] hb, by decide +kernel⟩,
   ⟨ve, by decide +kernel⟩,
   ⟨tr, by decide +kernel⟩,
   ⟨[], fr (frame 0x14 5 0 [1,2,3] 1), by decide +kernel⟩,
   ⟨[], fr (frame 0x14 5 0 [1,2,3] 0 255 5), by decide +kernel⟩,
   ⟨[], fr (frame 0x14 5 0 [1,2,3]), by decide +kernel⟩,
   ⟨[], ve, by decide +kernel⟩⟩

end LoaderPhases

namespace LoaderCommands
def L (f : LoaderSt → LoaderSt) (s : State := up) : State := {s with ldr := f s.ldr}
def user (m : Nat) (l : List (Field × Nat) := []) : State :=
  let s := sf l (st [(Reg.LDR_CMD_ARG,m)] (L fun l => {l with phase := 10})); {s with own := {s.own with map := [(0,3),(1,4)]}}
def ch (k st : Nat) (d : Option Nat := none) : Change := ⟨k,3,d,false,0,false,st,[],[⟨4,2,false,1,1⟩],true,[],[]⟩
def wv (paged at' : Nat) (target vs : Nat := 0) : Word32 :=
  Fld.LDR_CMD_TARGET.put (Fld.LDR_CMD_VS.put (Fld.LDR_CMD_PAGED.put (Fld.LDR_CMD_AT.put 0 at') paged) vs) target

/-- The hypotheses of each clause of `Obligations.LoaderCommands` are met. -/
theorem witness_LoaderCommands :
    (∃ (mid : Mid) (s : State), s.awake Reg.LDR_CMD ∧ ldrWriter mid = false) ∧
    (∃ (mid : Mid) (s : State), s.awake Reg.LDR_CMD ∧ ldrWriter mid = true ∧ 1 ≤ s.ldr.phase ∧ s.ldr.phase ≤ 9) ∧
    (∃ (mid : Mid) (s : State), s.awake Reg.LDR_CMD ∧ ldrWriter mid = true ∧ (s.ldr.phase = 0 ∨ 10 ≤ s.ldr.phase)) ∧
    (∃ (mid : Mid) (s : State), s.awake Reg.LDR_CMD ∧ ldrWriter mid = true ∧ (s.ldr.phase ≠ 10 ∨ s.ldr.change ≠ none)) ∧
    (∃ (mid : Mid) (value : Word32) (s : State), let named := (Fld.LDR_CMD_AT.get value = 1); let late := (named ∧ s.turnAhead (s.reg
      Reg.LDR_CMD_TURN).toNat ≤ 0); s.awake Reg.LDR_CMD ∧ ldrWriter mid = true ∧ s.ldr.phase = 10 ∧ s.ldr.change = none ∧ late) ∧
    (∃ (mid : Mid) (value : Word32) (s : State), let mask := ((s.reg Reg.LDR_CMD_ARG).toNat); let named := (Fld.LDR_CMD_AT.get value = 1);
      let late := (named ∧ s.turnAhead (s.reg Reg.LDR_CMD_TURN).toNat ≤ 0); s.awake Reg.LDR_CMD ∧ ldrWriter mid = true ∧ s.ldr.phase = 10 ∧
      s.ldr.change = none ∧ ¬ late ∧ mask = 0) ∧
    (∃ (mid : Mid) (value : Word32) (s : State), let mask := ((s.reg Reg.LDR_CMD_ARG).toNat); let named := (Fld.LDR_CMD_AT.get value = 1);
      let late := (named ∧ s.turnAhead (s.reg Reg.LDR_CMD_TURN).toNat ≤ 0); let paged := (Fld.LDR_CMD_PAGED.get value = 1); s.awake
      Reg.LDR_CMD ∧ ldrWriter mid = true ∧ s.ldr.phase = 10 ∧ s.ldr.change = none ∧ ¬ late ∧ mask ≠ 0 ∧ (paged → ∀ v ∈ maskSori mask, s.flag
      (Fld.ARR_PAGE_PAGED (s.physOf v)) = true ∧ Sparse.get none s.arr.halted (s.physOf v) = none)) ∧
    (∃ (mid : Mid) (value : Word32) (s : State), let named := (Fld.LDR_CMD_AT.get value = 1); let late := (named ∧ s.turnAhead (s.reg
      Reg.LDR_CMD_TURN).toNat ≤ 0); s.awake Reg.LDR_CMD ∧ ldrWriter mid = true ∧ s.ldr.phase = 10 ∧ s.ldr.change = none ∧ ¬ late ∧ ∃ n ∈
      s.repairTarget (Fld.LDR_CMD_TARGET.get value), True) ∧
    (∃ (mid : Mid) (value : Word32) (s : State), let named := (Fld.LDR_CMD_AT.get value = 1); let late := (named ∧ s.turnAhead (s.reg
      Reg.LDR_CMD_TURN).toNat ≤ 0); s.awake Reg.LDR_CMD ∧ ldrWriter mid = true ∧ s.ldr.phase = 10 ∧ s.ldr.change = none ∧ ¬ late ∧
      s.repairTarget (Fld.LDR_CMD_TARGET.get value) = none) ∧
    (∃ (mid : Mid) (value : Word32) (s : State), let mask := ((s.reg Reg.LDR_CMD_ARG).toNat); let named := (Fld.LDR_CMD_AT.get value = 1);
      let late := (named ∧ s.turnAhead (s.reg Reg.LDR_CMD_TURN).toNat ≤ 0); s.awake Reg.LDR_CMD ∧ ldrWriter mid = true ∧ s.ldr.phase = 10 ∧
      s.ldr.change = none ∧ ¬ late ∧ mask ≠ 0 ∧ (∀ v ∈ maskSori mask, s.flag (Fld.ARR_PAGE_READY (s.physOf v)) = true) ∧ (s.seqState = 2 ∨
      s.seqState = 3)) ∧
    (∃ (mid : Mid) (value : Word32) (s : State), let mask := ((s.reg Reg.LDR_CMD_ARG).toNat); let named := (Fld.LDR_CMD_AT.get value = 1);
      let late := (named ∧ s.turnAhead (s.reg Reg.LDR_CMD_TURN).toNat ≤ 0); s.awake Reg.LDR_CMD ∧ ldrWriter mid = true ∧ s.ldr.phase = 10 ∧
      s.ldr.change = none ∧ ¬ late ∧ mask ≠ 0 ∧ (∀ v ∈ maskSori mask, s.flag (Fld.ARR_PAGE_READY (s.physOf v)) = true) ∧ s.seqState ≠ 2 ∧
      s.seqState ≠ 3) ∧
    (∃ (mid : Mid) (s : State), s.awake Reg.LDR_CMD ∧ ldrWriter mid = true ∧ s.ldr.change = none) ∧
    (∃ (mid : Mid) (s : State), s.awake Reg.LDR_CMD ∧ ldrWriter mid = true ∧ ∃ c ∈ s.ldr.change, True) ∧
    (∃ (s : State), ∃ c ∈ s.ldr.change, c.stage = 8 ∧ c.kind = 2 ∧ c.due = none ∧ s.ldr.prog.length ≤ s.ldr.progAt ∧ (s.seqState = 2 ∨
      s.seqState = 3)) ∧
    (∃ (s : State), ∃ c ∈ s.ldr.change, c.stage = 8 ∧ c.kind = 2 ∧ c.due = none ∧ s.ldr.prog.length ≤ s.ldr.progAt ∧ s.seqState ≠ 2 ∧
      s.seqState ≠ 3) ∧
    (∃ (bytes : List Byte) (s : State), s.awake 0x02010000 ∧ bytes.length ≤ s.fld Fld.LDR_FIFO_FREE_FREE) ∧
    (∃ (bytes : List Byte) (s : State), s.awake 0x02010000 ∧ s.fld Fld.LDR_FIFO_FREE_FREE < bytes.length) ∧
    (∃ (cls : Byte) (idx : BitVec 16) (s : State), s.awake Reg.LDR_CLAIM ∧ let none' := (classSize cls.toNat ≤ idx.toNat); none') ∧
    (∃ (mid : Mid) (cls : Byte) (idx : BitVec 16) (s : State), s.awake Reg.LDR_CLAIM ∧ let none' := (classSize cls.toNat ≤ idx.toNat); ¬
      none' ∧ s.mayAssign mid cls.toNat idx.toNat = false) ∧
    (∃ (mid : Mid) (cls : Byte) (idx : BitVec 16) (s : State), s.awake Reg.LDR_CLAIM ∧ let none' := (classSize cls.toNat ≤ idx.toNat); ¬
      none' ∧ s.mayAssign mid cls.toNat idx.toNat = true) ∧
    (∃ (mid : Mid) (cls : Byte) (idx : BitVec 16) (s : State), s.awake Reg.LDR_CLAIM ∧ let none' := (classSize cls.toNat ≤ idx.toNat); ¬
      none' ∧ s.claimant cls.toNat idx.toNat = some mid) ∧
    (∃ (mid : Mid) (cls : Byte) (idx : BitVec 16) (s : State), s.awake Reg.LDR_CLAIM ∧ let none' := (classSize cls.toNat ≤ idx.toNat); ¬
      none' ∧ s.claimant cls.toNat idx.toNat ≠ some mid) :=
  ⟨⟨2, State.reset, by decide +kernel⟩,
   ⟨0, L fun l => {l with phase := 1}, by decide +kernel⟩,
   ⟨0, user 3 [(Fld.ARR_PAGE_PAGED 3,1),(Fld.ARR_PAGE_PAGED 4,1),(Fld.ARR_PAGE_READY 3,1),(Fld.ARR_PAGE_READY 4,1)], by decide +kernel⟩,
   ⟨8, ru [.ldrClaim 8 4 95] (st [(Reg.LDR_FIFO_FREE,9)]), by decide +kernel⟩,
   ⟨0, wv 0 1 7 5, user 0, by decide +kernel⟩,
   ⟨0, wv 0 0 34 5, user 0, by decide +kernel⟩,
   ⟨0, wv 0 0 7 5, user 3 [(Fld.ARR_PAGE_PAGED 3,1),(Fld.ARR_PAGE_PAGED 4,1),(Fld.ARR_PAGE_READY 3,1),(Fld.ARR_PAGE_READY 4,1)],
     by decide +kernel⟩,
   ⟨0, wv 0 0 7 5, user 3 [(Fld.ARR_PAGE_PAGED 3,1),(Fld.ARR_PAGE_PAGED 4,1),(Fld.ARR_PAGE_READY 3,1),(Fld.ARR_PAGE_READY 4,1)],
     by decide +kernel⟩,
   ⟨0, wv 0 0 34 5, user 0, by decide +kernel⟩,
   ⟨0, wv 0 0 7 5, user 3 [(Fld.ARR_PAGE_PAGED 3,1),(Fld.ARR_PAGE_PAGED 4,1),(Fld.ARR_PAGE_READY 3,1),(Fld.ARR_PAGE_READY
     4,1),(Fld.SEQ_STATUS_STATE,2)], by decide +kernel⟩,
   ⟨0, wv 0 0 7 5, user 3 [(Fld.ARR_PAGE_PAGED 3,1),(Fld.ARR_PAGE_PAGED 4,1),(Fld.ARR_PAGE_READY 3,1),(Fld.ARR_PAGE_READY 4,1)],
     by decide +kernel⟩,
   ⟨0, user 3 [(Fld.ARR_PAGE_PAGED 3,1),(Fld.ARR_PAGE_PAGED 4,1),(Fld.ARR_PAGE_READY 3,1),(Fld.ARR_PAGE_READY 4,1)], by decide +kernel⟩,
   ⟨0, let s := (user 3 [(Fld.SEQ_STATUS_STATE,0)]); L (fun l => {l with change := some (ch 2 8)})
     {s with own := {s.own with table := [⟨4,1,false,1,1⟩,⟨4,7,false,3,1⟩]}}, by decide +kernel⟩,
   ⟨let s := (user 3 [(Fld.SEQ_STATUS_STATE,2)]); L (fun l => {l with change := some (ch 2 8)})
     {s with own := {s.own with table := [⟨4,1,false,1,1⟩,⟨4,7,false,3,1⟩]}}, by decide +kernel⟩,
   ⟨let s := (user 3 [(Fld.SEQ_STATUS_STATE,0)]); L (fun l => {l with change := some (ch 2 8)})
     {s with own := {s.own with table := [⟨4,1,false,1,1⟩,⟨4,7,false,3,1⟩]}}, by decide +kernel⟩,
   ⟨[1,2,3], user 3 [(Fld.ARR_PAGE_PAGED 3,1),(Fld.ARR_PAGE_PAGED 4,1),(Fld.ARR_PAGE_READY 3,1),(Fld.ARR_PAGE_READY 4,1)],
     by decide +kernel⟩,
   ⟨List.replicate 10 1, ru [.ldrClaim 8 4 95] (st [(Reg.LDR_FIFO_FREE,9)]), by decide +kernel⟩,
   ⟨0, 5, State.reset, by decide +kernel⟩,
   ⟨8, 4, 95, ru [.ldrClaim 9 4 95] (st [(Reg.LDR_FIFO_FREE,10)]), by decide +kernel⟩,
   ⟨0, 4, 5, user 3 [(Fld.ARR_PAGE_PAGED 3,1),(Fld.ARR_PAGE_PAGED 4,1),(Fld.ARR_PAGE_READY 3,1),(Fld.ARR_PAGE_READY 4,1)],
     by decide +kernel⟩,
   ⟨8, 4, 95, ru [.ldrClaim 8 4 95] (st [(Reg.LDR_FIFO_FREE,9)]), by decide +kernel⟩,
   ⟨0, 4, 5, user 3 [(Fld.ARR_PAGE_PAGED 3,1),(Fld.ARR_PAGE_PAGED 4,1),(Fld.ARR_PAGE_READY 3,1),(Fld.ARR_PAGE_READY 4,1)],
     by decide +kernel⟩⟩

end LoaderCommands

namespace StartUp
def le (n v : Nat) : List Byte := (List.range n).map fun k => BitVec.ofNat 8 (v / 256 ^ k)
def L (f : LoaderSt → LoaderSt) (s : State := up) : State := {s with ldr := f s.ldr}
def dir (seq cfg : Nat) : List Byte :=
  let b := le 4 0x5249445A ++ le 4 seq ++ le 2 1 ++ le 1 cfg ++ le 1 0 ++ List.replicate 4080 0; b ++ le 4 (crc32c b).toNat
def rom (s : State) : State := {s with lib := {s.lib with entry := []}}
def pr (op : Nat) (g : Bool) (arg : Nat := 0) (s : State := up) : State := L (fun l => {l with phase := 8, prog := [⟨op,g,5,arg⟩]}) s

/-- The hypotheses of each clause of `Obligations.StartUp` are met. -/
theorem witness_StartUp :
    (∃ (first : List Byte) (second : List Byte) (s : State), s.inRom = true ∧ s.lib.romWait = false ∧ s.fld Fld.LDR_XSPI_ROLE ≤ 1 ∧ ∃ qbV
      ∈ dirChoice first second, True) ∧
    (∃ (first : List Byte) (second : List Byte) (s : State), s.inRom = true ∧ s.lib.romWait = false ∧ s.fld Fld.LDR_XSPI_ROLE ≤ 1 ∧
      dirChoice first second = none) ∧
    (∃ (s : State), s.inRom = true ∧ s.lib.romWait = false ∧ s.fld Fld.LDR_XSPI_ROLE ≤ 1 ∧ s.fwEntry = true ∧ s.fwFallback = false) ∧
    (∃ (s : State), s.inRom = true ∧ s.lib.romWait = true ∧ Sparse.get [] s.ldr.stream 1 ≠ [] ∧ let u := (s.fwTake 1); u.fwWhole = false) ∧
    (∃ (s : State), s.inRom = true ∧ s.lib.romWait = true ∧ Sparse.get [] s.ldr.stream 1 ≠ [] ∧ let u := (s.fwTake 1); u.fwWhole = true) ∧
    (∃ (s : State), ∃ e ∈ s.progEntry, e.op = 0) ∧
    (∃ (s : State), ∃ e ∈ s.progEntry, e.op = 1 ∧ s.quadsReady e.arg = true) ∧
    (∃ (s : State), ∃ e ∈ s.progEntry, e.op = 2 ∧ s.fld Fld.TU_STATUS_STATE = 2) ∧
    (∃ (s : State), ∃ e ∈ s.progEntry, e.op = 3 ∧ s.eventBit (e.arg % 256) = e.arg.testBit 8) ∧
    (∃ (s : State), ∃ e ∈ s.progEntry, e.op = 4 ∧ s.flag Fld.TWN_STATUS_PAIRED = true) ∧
    (∃ (s : State), ∃ e ∈ s.progEntry, e.op = 5) ∧
    (∃ (s : State), ∃ e ∈ s.progEntry, e.op = 6) ∧
    (∃ (s : State), ∃ e ∈ s.progEntry, e.op = 7 ∧ s.ldr.change = none ∧ s.ldr.phase = 8) ∧
    (∃ (s : State), ∃ e ∈ s.progEntry, e.op = 8) ∧
    (∃ (s : State), ∃ e ∈ s.progEntry, 1 ≤ e.op ∧ e.op ≤ 6 ∧ e.tmo ≠ 0 ∧ e.goOn = true) ∧
    (∃ (s : State), ∃ e ∈ s.progEntry, 1 ≤ e.op ∧ e.op ≤ 6 ∧ e.tmo ≠ 0 ∧ e.goOn = false ∧ s.ldr.change = none) :=
  ⟨⟨dirCopy, [], rom up, by decide +kernel, by decide +kernel, by decide +kernel, _, dirCopy_chosen, trivial⟩,
   ⟨[], [], sf [(Fld.TU_STATUS_STATE,2),(Fld.TWN_STATUS_PAIRED,1)] (pr 1 true), by decide +kernel⟩,
   ⟨L (fun l => {l with entries := [⟨1,0,true,false,0,0⟩]}) up, by decide +kernel⟩,
   ⟨let s := L (fun l => {l with stream := [(1,[1,2,3])]}) up; {s with lib := {s.lib with romWait := true}}, by decide +kernel⟩,
   ⟨let s := L (fun l => {l with stream := [(1,List.replicate 64 0)]}) up; {s with lib := {s.lib with romWait := true}},
     by decide +kernel⟩,
   ⟨sf [(Fld.TU_STATUS_STATE,2),(Fld.TWN_STATUS_PAIRED,1)] (pr 0 true), by decide +kernel⟩,
   ⟨sf [(Fld.TU_STATUS_STATE,2),(Fld.TWN_STATUS_PAIRED,1)] (pr 1 true), by decide +kernel⟩,
   ⟨sf [(Fld.TU_STATUS_STATE,2),(Fld.TWN_STATUS_PAIRED,1)] (pr 2 false), by decide +kernel⟩,
   ⟨sf [(Fld.TU_STATUS_STATE,2),(Fld.TWN_STATUS_PAIRED,1)] (pr 3 true), by decide +kernel⟩,
   ⟨sf [(Fld.TU_STATUS_STATE,2),(Fld.TWN_STATUS_PAIRED,1)] (pr 4 true), by decide +kernel⟩,
   ⟨sf [(Fld.TU_STATUS_STATE,2),(Fld.TWN_STATUS_PAIRED,1)] (pr 5 true), by decide +kernel⟩,
   ⟨sf [(Fld.TU_STATUS_STATE,2),(Fld.TWN_STATUS_PAIRED,1)] (pr 6 true), by decide +kernel⟩,
   ⟨sf [(Fld.TU_STATUS_STATE,2),(Fld.TWN_STATUS_PAIRED,1)] (pr 7 true), by decide +kernel⟩,
   ⟨sf [(Fld.TU_STATUS_STATE,2),(Fld.TWN_STATUS_PAIRED,1)] (pr 8 true), by decide +kernel⟩,
   ⟨sf [(Fld.TU_STATUS_STATE,2),(Fld.TWN_STATUS_PAIRED,1)] (pr 1 true), by decide +kernel⟩,
   ⟨sf [(Fld.TU_STATUS_STATE,2),(Fld.TWN_STATUS_PAIRED,1)] (pr 2 false), by decide +kernel⟩⟩

end StartUp

namespace ScheduledPlane
def run (l : List (Nat × Nat)) (f : RzSt → RzSt) : State :=
  let s := sf [(Fld.SEQ_STATUS_STATE,2),(Fld.SEQ_CFG_L,10)] (st l up); {s with rz := f s.rz, seq := {s.seq with step := 3, turn := 9}}
def u (n i a w : Nat) (k := 1) : SpUnit := ⟨n,i,k,w,3,2,0x11223344,a,0,7,8,9,10⟩
def rt (n i code : Nat) : Nat × Nat := (Reg.RZ_SLOT n 0 3 0, code * 8 ^ i)
def inj (n code w : Nat) : Nat × Nat := (Reg.RZ_SLOT n 0 3 0, code * 8 ^ 4 + 65536 + w * 2 ^ 18)
def land (n w g rot : Nat) : List (Nat × Nat) :=
  let v := (1 + 2 * g + 8 * rot) * 2 ^ (22 + 9 * w); [(Reg.RZ_SLOT n 0 3 0, v % 2^32),(Reg.RZ_SLOT n 0 3 1, v / 2^32)]

/-- The hypotheses of each clause of `Obligations.ScheduledPlane` are met. -/
theorem witness_ScheduledPlane :
    (∃ (node : Fin 48) (s : State), s.seqState = 2 ∧ s.rz.advanced = false ∧ let n := node.val; let quiet := (∀ k < 48, (s.slotEntry k
      s.spEpoch s.seq.step >>> 16) % 4 = 0); s.rz.units.length = 1 ∧ ∃ u ∈ s.rz.units.head?, u.node = n ∧ u.input < 4 ∧ u.age < 15 ∧ u.epoch
      ≤ 1 ∧ s.seq.step < 1024 ∧ quiet ∧ let code := (rtCode (s.slotEntry n u.epoch s.seq.step) u.input); 1 ≤ code ∧ code ≤ 4 ∧ ∃ m ∈
      neighbour n code, True) ∧
    (∃ (node : Fin 48) (s : State), s.seqState = 2 ∧ s.rz.advanced = false ∧ let n := node.val; let quiet := (∀ k < 48, (s.slotEntry k
      s.spEpoch s.seq.step >>> 16) % 4 = 0); s.rz.units.length = 1 ∧ ∃ u ∈ s.rz.units.head?, u.node = n ∧ u.input < 4 ∧ u.age < 15 ∧ u.epoch
      ≤ 1 ∧ s.seq.step < 1024 ∧ quiet ∧ let code := (rtCode (s.slotEntry n u.epoch s.seq.step) u.input); code = 5) ∧
    (∃ (node : Fin 48) (s : State), s.seqState = 2 ∧ s.rz.advanced = false ∧ let n := node.val; let quiet := (∀ k < 48, (s.slotEntry k
      s.spEpoch s.seq.step >>> 16) % 4 = 0); s.rz.units.length = 1 ∧ ∃ u ∈ s.rz.units.head?, u.node = n ∧ u.input < 4 ∧ u.age < 15 ∧ u.epoch
      ≤ 1 ∧ s.seq.step < 1024 ∧ quiet ∧ let code := (rtCode (s.slotEntry n u.epoch s.seq.step) u.input); code = 0 ∧ s.flag
      (Fld.RZ_SP_FLT_VALID n) = false ∧ s.reg (Reg.RZ_NODE_DROP n) ≠ 0xFFFFFFFF) ∧
    (∃ (node : Fin 48) (s : State), s.seqState = 2 ∧ s.rz.advanced = false ∧ let n := node.val; let quiet := (∀ k < 48, (s.slotEntry k
      s.spEpoch s.seq.step >>> 16) % 4 = 0); s.rz.units.length = 2 ∧ ∃ u ∈ s.rz.units.head?, ∃ v ∈ s.rz.units.getLast?, u.node = n ∧ v.node
      = n ∧ u.input < v.input ∧ v.input < 4 ∧ quiet ∧ let code := (rtCode (s.slotEntry n u.epoch s.seq.step) u.input); 1 ≤ code ∧ code ≤ 4 ∧
      rtCode (s.slotEntry n v.epoch s.seq.step) v.input = code) ∧
    (∃ (node : Fin 48) (s : State), s.seqState = 2 ∧ s.rz.advanced = false ∧ let n := node.val; s.rz.units = [] ∧ ∃ v ∈ vOfNode n, (∀ k <
      48, k ≠ n → (s.slotEntry k s.spEpoch s.seq.step >>> 16) % 4 = 0) ∧ let e := (s.slotEntry n s.spEpoch s.seq.step); let code := (rtCode
      e 4); (e >>> 16) % 4 = 1 ∧ let w := ((e >>> 18) % 16); w ≠ 0 ∧ 1 ≤ code ∧ code ≤ 4 ∧ ∃ m ∈ neighbour n code, True) ∧
    (∃ (node : Fin 48) (s : State) (w : Nat), s.seqState = 2 ∧ s.rz.advanced = false ∧ let n := node.val; s.rz.units.length = 1 ∧ ∃ u ∈
      s.rz.units.head?, u.node = n ∧ u.input = 4 ∧ u.age = 15 ∧ ∃ v ∈ vOfNode n, u.words = 2 ^ w ∧ w < 4 ∧ (landWords (s.slotEntry n u.epoch
      s.seq.step) u).length = 1 ∧ ∃ q ∈ (landWords (s.slotEntry n u.epoch s.seq.step) u).head?, q.1 = w) :=
  ⟨⟨Fin.ofNat 48 9, run [rt 9 1 4] (fun r => {r with units := [u 9 1 7 5]}), by decide +kernel⟩,
   ⟨Fin.ofNat 48 7, run [rt 7 3 5] (fun r => {r with units := [u 7 3 7 5]}), by decide +kernel⟩,
   ⟨Fin.ofNat 48 7, run [rt 7 0 6] (fun r => {r with units := [u 7 0 7 5]}), by decide +kernel⟩,
   ⟨Fin.ofNat 48 9, run [(Reg.RZ_SLOT 9 0 3 0, 4 + 4 * 8 ^ 2)] (fun r => {r with units := [u 9 0 7 5, u 9 2 3 1]}), by decide +kernel⟩,
   ⟨Fin.ofNat 48 9, run [inj 9 1 2] id, by decide +kernel⟩,
   ⟨Fin.ofNat 48 9, run (land 9 0 ((1,8)).1 ((1,8)).2) (fun r => {r with units := [u 9 4 15 (2^0) 1]}), 0, by decide +kernel⟩⟩

end ScheduledPlane

namespace TablesAndEpochs
def w (l : List (Field × Nat)) : State := sf l up

/-- The hypotheses of each clause of `Obligations.TablesAndEpochs` are met. -/
theorem witness_TablesAndEpochs :
    (∃ (mid : Mid) (node : Fin 48) (slots : Bool) (epoch : Fin 2) (entry : Fin 1024) (high : Bool) (s : State), let a := (if slots then
      Reg.RZ_SLOT node epoch entry (if high then 1 else 0) else Reg.RZ_ROUTE node epoch (entry.val % 48)); let busy := (s.copyBusy slots
      epoch); let mine := (slots = true → s.mayAssign mid 0x07 (node.val * 1024 + entry.val) = true); s.awake a ∧ rzWriter mid = true ∧ mine
      ∧ busy = false) ∧
    (∃ (mid : Mid) (node : Fin 48) (slots : Bool) (epoch : Fin 2) (entry : Fin 1024) (high : Bool) (s : State), let a := (if slots then
      Reg.RZ_SLOT node epoch entry (if high then 1 else 0) else Reg.RZ_ROUTE node epoch (entry.val % 48)); let busy := (s.copyBusy slots
      epoch); let mine := (slots = true → s.mayAssign mid 0x07 (node.val * 1024 + entry.val) = true); s.awake a ∧ rzWriter mid = true ∧ mine
      ∧ busy = true) ∧
    (∃ (mid : Mid), rzWriter mid = false) ∧
    (∃ (s : State), s.awake Reg.RZ_SWITCH ∧ s.flag Fld.RZ_EPOCH_GP_RETIRING = false) ∧
    (∃ (s : State), s.awake Reg.RZ_SWITCH ∧ s.flag Fld.RZ_EPOCH_SP_RETIRING = false ∧ s.flag Fld.RZ_EPOCH_SP_PENDING = false) ∧
    (∃ (s : State), s.awake Reg.RZ_SWITCH ∧ ((s.flag Fld.RZ_EPOCH_GP_RETIRING = true) ∨ ((s.flag Fld.RZ_EPOCH_SP_RETIRING = true ∨ s.flag
      Fld.RZ_EPOCH_SP_PENDING = true)))) ∧
    (∃ (s : State), s.flag Fld.RZ_EPOCH_GP_RETIRING = true ∧ s.oldPackets = 0) ∧
    (∃ (s : State), s.flag Fld.RZ_EPOCH_SP_RETIRING = true ∧ s.oldUnits = 0) :=
  ⟨⟨0, 47, true, 1, 5, true, w [], by decide +kernel⟩,
   ⟨0, 47, true, 0, 5, true, w [(Fld.RZ_EPOCH_SP_RETIRING,1),(Fld.RZ_EPOCH_GP_RETIRING,1)], by decide +kernel⟩,
   ⟨0x22, by decide +kernel⟩,
   ⟨w [], by decide +kernel⟩,
   ⟨w [], by decide +kernel⟩,
   ⟨w [(Fld.RZ_EPOCH_SP_RETIRING,1),(Fld.RZ_EPOCH_GP_RETIRING,1)], by decide +kernel⟩,
   ⟨w [(Fld.RZ_EPOCH_SP_RETIRING,1),(Fld.RZ_EPOCH_GP_RETIRING,1)], by decide +kernel⟩,
   ⟨w [(Fld.RZ_EPOCH_SP_RETIRING,1),(Fld.RZ_EPOCH_GP_RETIRING,1)], by decide +kernel⟩⟩

end TablesAndEpochs

namespace GeneralPlane
def pk (cls opc : Nat) (dn de : Nat) (a : Nat := 0x01200000) (dat : List (BitVec 256) := []) : Packet :=
  ⟨BitVec.ofNat 6 dn, BitVec.ofNat 3 de, 6, 4, 0x00, BitVec.ofNat 2 cls, BitVec.ofNat 4 opc, 5, 0, 1, BitVec.ofNat 64 a, 0xF, 0xF, dat⟩
def rz (f : RzSt → RzSt) (s : State := up) : State := {s with rz := f s.rz}
def fl (p : Packet) (n : Nat) (h := 3) (mk := false) (arr := false) : RzSt → RzSt :=
  fun r => {r with flights := [(4,some ⟨p,n,h,0,mk,false,arr⟩)], nextId := 9}
def rout (n dn cls code : Nat) : Nat × Nat := (Reg.RZ_ROUTE n 0 dn, code * 8 ^ cls)
def hbmR (s : State) : State := sf [(Fld.HBM_STATUS_READY,1),(Fld.HBM_RGN_OWN_EN 3,1),(Fld.HBM_RGN_SIZE_SIZE 3,512)] s
def tg (k : Nat) (x : RzTag) (r : RzSt) : RzSt := {r with tags := [(k, some x)]}

/-- The hypotheses of each clause of `Obligations.GeneralPlane` are met. -/
theorem witness_GeneralPlane :
    (∃ (node : Fin 48) (ep : Fin 5) (pkt : Packet) (s : State), let n := node.val; serves n ep = true ∧ pkt.data.length ≤ 15 ∧ (∀ w ∈
      s.rz.waiting, w.1 ≠ n * 8 + ep.val) ∧ pkt.cls = 1 ∧ ∃ m ∈ s.stampOf n ep, True) ∧
    (∃ (node : Fin 48) (ep : Fin 5) (pkt : Packet) (s : State), let n := node.val; serves n ep = true ∧ pkt.data.length ≤ 15 ∧ (∀ w ∈
      s.rz.waiting, w.1 ≠ n * 8 + ep.val) ∧ pkt.cls = 0 ∧ ∃ m ∈ s.stampOf n ep, s.rzOverQuota n ep = false ∧ s.fld (Fld.RZ_OUTST_COUNT n ep)
      < 64 ∧ s.fld (rateField n ep false) = 0) ∧
    (∃ (node : Fin 48) (ep : Fin 5) (pkt : Packet) (s : State), let n := node.val; serves n ep = true ∧ pkt.data.length ≤ 15 ∧ (∀ w ∈
      s.rz.waiting, w.1 ≠ n * 8 + ep.val) ∧ pkt.cls = 0 ∧ s.rzOverQuota n ep = true) ∧
    (∃ (node : Fin 48) (id : Nat) (s : State), let n := node.val; let flight := (fun (t : State) (k : Nat) => Sparse.get none t.rz.flights
      k); ∃ f ∈ flight s id, f.node = n ∧ f.held = false ∧ f.arrived = false ∧ f.hops < 15 ∧ 1 ≤ s.routeCode f ∧ s.routeCode f ≤ 4 ∧ ∃ m ∈
      neighbour n (s.routeCode f), (s.domState (58 + m % 8) = 0 ∨ s.domState (58 + m % 8) = 5)) ∧
    (∃ (node : Fin 48) (id : Nat) (s : State), let n := node.val; let flight := (fun (t : State) (k : Nat) => Sparse.get none t.rz.flights
      k); ∃ f ∈ flight s id, f.node = n ∧ f.held = false ∧ f.arrived = false ∧ f.hops < 15 ∧ s.routeCode f = 5 ∧ f.pkt.dnode.toNat = n ∧
      serves n f.pkt.dep.toNat = true ∧ packetMalformed f.pkt = false ∧ (∀ d ∈ s.endpointDomain n f.pkt.dep.toNat, f.pkt.cls = 1 ∨
      s.domState d = 0 ∨ s.domState d = 5)) ∧
    (∃ (node : Fin 48) (id : Nat) (s : State), let n := node.val; let flight := (fun (t : State) (k : Nat) => Sparse.get none t.rz.flights
      k); ∃ f ∈ flight s id, f.node = n ∧ f.held = false ∧ f.arrived = false ∧ f.hops < 15 ∧ s.routeCode f = 0 ∧ s.reg (Reg.RZ_NODE_DROP n)
      ≠ 0xFFFFFFFF ∧ id ≠ s.rz.nextId) ∧
    (∃ (node : Fin 48) (id : Nat) (s : State), let n := node.val; let flight := (fun (t : State) (k : Nat) => Sparse.get none t.rz.flights
      k); ∃ f ∈ flight s id, f.node = n ∧ f.held = false ∧ f.arrived = false ∧ f.hops < 15 ∧ s.reg (Reg.RZ_NODE_DROP n) ≠ 0xFFFFFFFF) ∧
    (∃ (node : Fin 48) (id : Nat) (s : State), let n := node.val; let flight := (fun (t : State) (k : Nat) => Sparse.get none t.rz.flights
      k); ∃ f ∈ flight s id, f.arrived = true ∧ f.node = n ∧ id ≠ s.rz.nextId ∧ let readable := ((s.hbmConditions f.pkt.mid (packetAddr
      f.pkt 0) (32 * (f.pkt.rdlen.toNat + 1)) false).2 = none); f.pkt.opc = 0 ∧ f.pkt.cls = 0 ∧ f.pkt.dep = 2 ∧ readable) ∧
    (∃ (node : Fin 48) (id : Nat) (s : State), let n := node.val; let flight := (fun (t : State) (k : Nat) => Sparse.get none t.rz.flights
      k); ∃ f ∈ flight s id, f.arrived = true ∧ f.node = n ∧ id ≠ s.rz.nextId ∧ f.pkt.opc = 1 ∧ f.pkt.cls = 0 ∧ f.marked = true) ∧
    (∃ (node : Fin 48) (id : Nat) (s : State), let n := node.val; let flight := (fun (t : State) (k : Nat) => Sparse.get none t.rz.flights
      k); ∃ f ∈ flight s id, f.arrived = true ∧ f.node = n ∧ id ≠ s.rz.nextId ∧ f.pkt.opc = 1 ∧ f.pkt.cls = 0 ∧ f.marked = false ∧ f.pkt.dep
      = 4 ∧ f.pkt.data.length = 1 ∧ f.pkt.firstBe = 0xF ∧ let a := (packetAddr f.pkt 0); 0x01200000 ≤ a ∧ a < 0x01200100 ∧ isManager
      f.pkt.mid = true ∧ s.awake a) ∧
    (∃ (node : Fin 48) (id : Nat) (s : State), let n := node.val; let flight := (fun (t : State) (k : Nat) => Sparse.get none t.rz.flights
      k); ∃ f ∈ flight s id, f.arrived = true ∧ f.node = n ∧ id ≠ s.rz.nextId ∧ f.pkt.opc = 4) ∧
    (∃ (node : Fin 48) (id : Nat) (s : State), let n := node.val; let flight := (fun (t : State) (k : Nat) => Sparse.get none t.rz.flights
      k); ∃ f ∈ flight s id, f.arrived = true ∧ f.node = n ∧ id ≠ s.rz.nextId ∧ ((f.pkt.opc = 2) ∨ (f.pkt.opc = 3)) ∧ let k := (tagKey n
      f.pkt.dep.toNat f.pkt.tag.toNat); ∃ x ∈ Sparse.get none s.rz.tags k, x.timedOut = false ∧ x.mid.toNat < 0x20) ∧
    (∃ (node : Fin 48) (id : Nat) (s : State), let n := node.val; let flight := (fun (t : State) (k : Nat) => Sparse.get none t.rz.flights
      k); ∃ f ∈ flight s id, f.arrived = true ∧ f.node = n ∧ id ≠ s.rz.nextId ∧ ((f.pkt.opc = 2) ∨ (f.pkt.opc = 3)) ∧ let k := (tagKey n
      f.pkt.dep.toNat f.pkt.tag.toNat); ∃ x ∈ Sparse.get none s.rz.tags k, x.timedOut = false ∧ 0x20 ≤ x.mid.toNat) ∧
    (∃ (node : Fin 48) (id : Nat) (s : State), let n := node.val; let flight := (fun (t : State) (k : Nat) => Sparse.get none t.rz.flights
      k); ∃ f ∈ flight s id, f.arrived = true ∧ f.node = n ∧ id ≠ s.rz.nextId ∧ ((f.pkt.opc = 2) ∨ (f.pkt.opc = 3)) ∧ let k := (tagKey n
      f.pkt.dep.toNat f.pkt.tag.toNat); ∃ x ∈ Sparse.get none s.rz.tags k, x.timedOut = true ∧ s.reg (Reg.RZ_NODE_DROP n) ≠ 0xFFFFFFFF) ∧
    (∃ (node : Fin 48) (ep : Fin 5) (tag : BitVec 10) (s : State), let n := node.val; let key := (tagKey n ep tag.toNat); ∃ x ∈ Sparse.get
      none s.rz.tags key, x.timedOut = false ∧ s.fld Fld.RZ_RSP_TMO_US ≠ 0 ∧ x.mid.toNat < 0x20) ∧
    (∃ (node : Fin 48) (ep : Fin 5) (tag : BitVec 10) (s : State), let n := node.val; let key := (tagKey n ep tag.toNat); ∃ x ∈ Sparse.get
      none s.rz.tags key, x.timedOut = true) :=
  ⟨⟨Fin.ofNat 48 6, Fin.ofNat 5 4, pk 1 1 9 4, up, by decide +kernel⟩,
   ⟨6, 4, pk 0 0 9 4, rz (fun r => tg (6*8*1024+4*1024+5) ⟨0x00,3,false,true⟩ (fl (pk 1 2 6 4 0 [7]) 6 3 true true r)) (sf
     [(Fld.RZ_RSP_TMO_US,5),(Fld.RZ_OUTST_COUNT 6 4,3)] (hbmR up)), by decide +kernel⟩,
   ⟨Fin.ofNat 48 6, Fin.ofNat 5 4, pk 0 0 9 4, sf [(Fld.RZ_QUOTA_QUOTA 6 4,2),(Fld.RZ_OUTST_COUNT 6 4,2)] up, by decide +kernel⟩,
   ⟨Fin.ofNat 48 9, 4, rz (fl (pk 0 (if 0 = 1 then 2 else if 0 = 2 then 4 else 0) (if 1 = 5 then 9 else 5) (if 9 = 9 then 0 else 4) 0x40
     (if 0 = 1 then [5] else [])) 9) (st [rout 9 (if 1 = 5 then 9 else 5) 0 1] up), by decide +kernel⟩,
   ⟨Fin.ofNat 48 9, 4, rz (fl (pk 0 (if 0 = 1 then 2 else if 0 = 2 then 4 else 0) (if 5 = 5 then 9 else 5) (if 9 = 9 then 0 else 4) 0x40
     (if 0 = 1 then [5] else [])) 9) (st [rout 9 (if 5 = 5 then 9 else 5) 0 5] up), by decide +kernel⟩,
   ⟨Fin.ofNat 48 9, 4, rz (fl (pk 0 (if 0 = 1 then 2 else if 0 = 2 then 4 else 0) (if 0 = 5 then 9 else 5) (if 9 = 9 then 0 else 4) 0x40
     (if 0 = 1 then [5] else [])) 9) (st [rout 9 (if 0 = 5 then 9 else 5) 0 0] up), by decide +kernel⟩,
   ⟨Fin.ofNat 48 9, 4, rz (fl (pk 0 (if 0 = 1 then 2 else if 0 = 2 then 4 else 0) (if 0 = 5 then 9 else 5) (if 9 = 9 then 0 else 4) 0x40
     (if 0 = 1 then [5] else [])) 9) (st [rout 9 (if 0 = 5 then 9 else 5) 0 0] up), by decide +kernel⟩,
   ⟨8, 4, rz (fl (pk 0 0 8 2 0x40) 8 3 false true) (hbmR up), by decide +kernel⟩,
   ⟨8, 4, rz (fl (pk 0 1 8 2 0x40) 8 3 true true) (hbmR up), by decide +kernel⟩,
   ⟨6, 4, rz (fl (pk 0 1 6 4 (0x01200000+4*0) [7]) 6 3 false true) (hbmR up), by decide +kernel⟩,
   ⟨6, 4, rz (fl (pk 2 4 6 4 0 [7]) 6 3 true true) (hbmR up), by decide +kernel⟩,
   ⟨6, 4, rz (fun r => tg (6*8*1024+4*1024+5) ⟨0x00,3,false,false⟩ (fl (pk 1 2 6 4 0 [7]) 6 3 true true r)) (sf
     [(Fld.RZ_RSP_TMO_US,5),(Fld.RZ_OUTST_COUNT 6 4,3)] (hbmR up)), by decide +kernel⟩,
   ⟨6, 4, rz (fun r => tg (6*8*1024+4*1024+5) ⟨0x25,3,false,false⟩ (fl (pk 1 2 6 4 0 [7]) 6 3 true true r)) (sf
     [(Fld.RZ_RSP_TMO_US,5),(Fld.RZ_OUTST_COUNT 6 4,3)] (hbmR up)), by decide +kernel⟩,
   ⟨6, 4, rz (fun r => tg (6*8*1024+4*1024+5) ⟨0x00,3,false,true⟩ (fl (pk 1 2 6 4 0 [7]) 6 3 true true r)) (sf
     [(Fld.RZ_RSP_TMO_US,5),(Fld.RZ_OUTST_COUNT 6 4,3)] (hbmR up)), by decide +kernel⟩,
   ⟨6, 4, 5, rz (fun r => tg (6*8*1024+4*1024+5) ⟨0x00,3,false,false⟩ (fl (pk 1 2 6 4 0 [7]) 6 3 true true r)) (sf
     [(Fld.RZ_RSP_TMO_US,5),(Fld.RZ_OUTST_COUNT 6 4,3)] (hbmR up)), by decide +kernel⟩,
   ⟨6, 4, 5, rz (fun r => tg (6*8*1024+4*1024+5) ⟨0x00,3,false,true⟩ (fl (pk 1 2 6 4 0 [7]) 6 3 true true r)) (sf
     [(Fld.RZ_RSP_TMO_US,5),(Fld.RZ_OUTST_COUNT 6 4,3)] (hbmR up)), by decide +kernel⟩⟩

end GeneralPlane

namespace CaptureOfWords
def acq (f : AcqSt → AcqSt) (s : State) : State := {s with acq := f s.acq}
def w (v : Bool) (i := 5) (full := false) : AcqWord := ⟨i, 0x8123456789ABCDEF, v, full, none⟩
def base (l : List (Field × Nat)) : State :=
  sf ([(Fld.ACQ_CTRL_EN,1),(Fld.ACQ_LN_STAT_ADMITTED 5,1),(Fld.ACQ_LN_CFG_BANK 5,1),(Fld.ACQ_LN_CFG_SPW 5,1),(Fld.ACQ_LN_MAP_OFFSET 5,7),(Fld.ACQ_LN_MAP_CYCLE_M1 5,1)] ++ l) up
def inb (v : Bool) (l : List (Field × Nat)) (cnt := 0) : State :=
  acq (fun a => {a with inbox := [w v, w true], lanes := [(5,{AcqLane.reset with count := cnt})], ctx := [(4096+7, (1 : BitVec 512) <<< 49 ||| 0x100000000000),(4096+8,(1 : BitVec 512) <<< 49)]}) (base l)

/-- The hypotheses of each clause of `Obligations.CaptureOfWords` are met. -/
theorem witness_CaptureOfWords :
    (∃ (x : AcqWord) (rest : List AcqWord) (s : State), let i := x.lane; let l := (s.acqLane i); s.acq.inbox = x :: rest ∧ x.readout =
      none ∧ x.full = false ∧ s.flag Fld.ACQ_CTRL_EN = true ∧ s.admitted i = true ∧ s.flag (Fld.ACQ_LN_CFG_SYNC i) = false ∧ l.stop = none ∧
      s.acq.recs = [] ∧ x.valid = false ∧ s.flag (Fld.ACQ_LN_CFG_ARCH i) = false) ∧
    (∃ (x : AcqWord) (rest : List AcqWord) (s : State), let i := x.lane; let l := (s.acqLane i); let p := (l.count % s.acqCycle i);
      s.acq.inbox = x :: rest ∧ x.readout = none ∧ x.full = false ∧ s.flag Fld.ACQ_CTRL_EN = true ∧ s.admitted i = true ∧ s.flag
      (Fld.ACQ_LN_CFG_SYNC i) = false ∧ l.stop = none ∧ s.acq.recs = [] ∧ x.valid = true ∧ s.flag (Fld.ACQ_LN_CFG_ARCH i) = false ∧ s.fld
      (Fld.ACQ_LN_CFG_SPW i) = 1 ∧ s.laneFixed i = false ∧ let c := (s.fld (Fld.ACQ_LN_CFG_BANK i) * 4096 + s.fld (Fld.ACQ_LN_MAP_OFFSET i)
      + p); let v := (sampleOf (s.flag (Fld.ACQ_LN_CFG_SIGNED i)) (sampleWidth (s.fld (Fld.ACQ_LN_CFG_W i))) x.value 0); let y := (calibrate
      (s.ctxOf c) v); bitOf (ctxGet (s.ctxOf c) 49 1) 0 = true ∧ s.violates c (s.ctxOf c) y = false ∧ (ctxReduce (s.ctxOf c) y).2 = false) ∧
    (∃ (x : AcqWord) (rest : List AcqWord) (s : State), let i := x.lane; let l := (s.acqLane i); s.acq.inbox = x :: rest ∧ x.readout =
      none ∧ x.full = false ∧ s.flag Fld.ACQ_CTRL_EN = true ∧ s.admitted i = true ∧ s.flag (Fld.ACQ_LN_CFG_SYNC i) = false ∧ l.stop = none ∧
      s.acq.recs = [] ∧ x.valid = false ∧ s.flag (Fld.ACQ_LN_CFG_ARCH i) = true ∧ s.acqStopped i = false ∧ s.reg Reg.ACQ_ARCH_DROP ≠
      0xFFFFFFFF) ∧
    (∃ (s : State), s.awake Reg.ACQ_CTRL ∧ s.flag Fld.ACQ_CTRL_EN = false) :=
  ⟨⟨w false, [w true], inb false [(Fld.ACQ_LN_CFG_SIGNED 5,0),(Fld.ACQ_LN_CFG_W 5,0)] 0, by decide +kernel⟩,
   ⟨w true, [w true], inb true [(Fld.ACQ_LN_CFG_SIGNED 5,0),(Fld.ACQ_LN_CFG_W 5,0)] 0, by decide +kernel⟩,
   ⟨w false, [w true], inb false [(Fld.ACQ_LN_CFG_ARCH 5,1)] 0, by decide +kernel⟩,
   ⟨sf [(Fld.ACQ_STATUS_STOPPED,1),(Fld.ACQ_LN_STAT_STOPPED 95,1)] up, by decide +kernel⟩⟩

end CaptureOfWords

namespace RecordsAndTriggers
def acq (f : AcqSt → AcqSt) (s : State) : State := {s with acq := f s.acq}
def r0 (c : Bool) (l : List (Nat × Nat × Nat) := []) (dest := 0) : AcqRec := ⟨3,9,7,2,55,BitVec.ofNat 32 (dest * 2^24),0,0,l,c,false⟩
def cl (l : List (Field × Nat)) : State :=
  sf ([(Fld.ACQ_CTRL_EN,1),(Fld.ACQ_CLS_CFG_EN 3,1),(Fld.ACQ_DEST_EN 0,1),(Fld.ACQ_DEST_EN 1,1)] ++ l) up
def rec (c : Bool) (l : List (Nat × Nat × Nat) := []) (x : List (Field × Nat) := []) (dest := 0) : State :=
  acq (fun a => {a with recs := [r0 c l dest]}) (cl x)

/-- The hypotheses of each clause of `Obligations.RecordsAndTriggers` are met. -/
theorem witness_RecordsAndTriggers :
    (∃ (mid : Mid) (lane : Fin 96) (word : Fin 3) (value : Word32) (s : State), let a := (Reg.ACQ_LN_CFG lane + 4 * word.val); s.awake a ∧
      mid = 0x10 ∧ let u := (s.storeReg a value); u.acqLaneBad lane = false) ∧
    (∃ (mid : Mid) (lane : Fin 96) (word : Fin 3) (value : Word32) (s : State), let a := (Reg.ACQ_LN_CFG lane + 4 * word.val); s.awake a ∧
      mid = 0x10 ∧ let u := (s.storeReg a value); u.acqLaneBad lane = true) ∧
    (∃ (seq : Word32) (cls : Fin 16) (s : State), let made : AcqRec :=
      { cls := cls, seq := s.acq.nextSeq, turn := s.seq.turn, step := s.seq.step, time := s.now, cfg := s.reg (Reg.ACQ_CLS_CFG cls), win := s.reg (Reg.ACQ_CLS_WIN cls), meas := (s.reg (Reg.ACQ_CLS_MEAS cls)).toNat % 2 ^ 18, lanes := (s.classLanes cls).map (fun i => (i, (s.acqLane i).count - 1, 0)), complete := false, incomplete := false };
      (∀ i ∈ s.classLanes cls, s.laneFixed i = false) ∧ s.flag (Fld.ACQ_CLS_CFG_EN cls) = true ∧ s.awake Reg.ACQ_CMD ∧ s.fld
      (Fld.ACQ_CLS_CFG_SRC cls) = 0 ∧ s.recRefusal made = none) ∧
    (∃ (seq : Word32) (cls : Fin 16) (s : State), let made : AcqRec :=
      { cls := cls, seq := s.acq.nextSeq, turn := s.seq.turn, step := s.seq.step, time := s.now, cfg := s.reg (Reg.ACQ_CLS_CFG cls), win := s.reg (Reg.ACQ_CLS_WIN cls), meas := (s.reg (Reg.ACQ_CLS_MEAS cls)).toNat % 2 ^ 18, lanes := (s.classLanes cls).map (fun i => (i, (s.acqLane i).count - 1, 0)), complete := false, incomplete := false };
      (∀ i ∈ s.classLanes cls, s.laneFixed i = false) ∧ s.flag (Fld.ACQ_CLS_CFG_EN cls) = true ∧ s.awake Reg.ACQ_CMD ∧ s.fld
      (Fld.ACQ_CLS_CFG_SRC cls) = 0 ∧ ∃ c ∈ s.recRefusal made, s.reg Reg.ACQ_REC_LOST ≠ 0xFFFFFFFF) ∧
    (∃ (seq : Word32) (cls : Fin 16) (s : State), let made : AcqRec :=
      { cls := cls, seq := s.acq.nextSeq, turn := s.seq.turn, step := s.seq.step, time := s.now, cfg := s.reg (Reg.ACQ_CLS_CFG cls), win := s.reg (Reg.ACQ_CLS_WIN cls), meas := (s.reg (Reg.ACQ_CLS_MEAS cls)).toNat % 2 ^ 18, lanes := (s.classLanes cls).map (fun i => (i, (s.acqLane i).count - 1, 0)), complete := false, incomplete := false };
      (∀ i ∈ s.classLanes cls, s.laneFixed i = false) ∧ s.flag (Fld.ACQ_CLS_CFG_EN cls) = true ∧ s.seqState = 2 ∧ s.classFires cls = true ∧
      Sparse.get false s.acq.triggered cls = false ∧ s.recRefusal made = none) ∧
    (∃ (cls : Fin 16) (s : State), s.awake Reg.ACQ_CMD ∧ (s.flag (Fld.ACQ_CLS_CFG_EN cls) = false ∨ s.fld (Fld.ACQ_CLS_CFG_SRC cls) ≠ 0)) ∧
    (∃ (seq : Word32) (r : AcqRec) (s : State), s.acq.recs = [r] ∧ r.seq = seq.toNat ∧ s.recReady r = true) ∧
    (∃ (seq : Word32) (r : AcqRec) (s : State), s.acq.recs = [r] ∧ r.seq = seq.toNat ∧ s.recReady r = false ∧ r.complete = false) ∧
    (∃ (seq : Word32) (r : AcqRec) (s : State), s.acq.recs = [r] ∧ r.seq = seq.toNat ∧ r.complete = true ∧ s.handsRecords = false ∧ s.reg
      Reg.ACQ_REC_SENT ≠ 0xFFFFFFFF) ∧
    (∃ (seq : Word32) (r : AcqRec) (s : State), s.acq.recs = [r] ∧ r.seq = seq.toNat ∧ r.complete = true ∧ let d := (r.cfg.toNat / 2 ^ 24
      % 16); let ln := (s.fld (Fld.ACQ_DEST_LANE d)); s.handsRecords = true ∧ s.flag (Fld.ACQ_DEST_KIND d) = true ∧ s.linkUp ln = false ∧
      s.acq.readout = []) ∧
    (∃ (seq : Word32) (r : AcqRec) (s : State), s.acq.recs = [r] ∧ r.seq = seq.toNat ∧ r.complete = true ∧ let d := (r.cfg.toNat / 2 ^ 24
      % 16); let ln := (s.fld (Fld.ACQ_DEST_LANE d)); s.handsRecords = true ∧ s.flag (Fld.ACQ_DEST_KIND d) = false ∧ ∃ c ∈ s.udpRefusal ln
      (s.fld (Fld.ACQ_DEST_ETH d)), s.reg Reg.ACQ_REC_LOST ≠ 0xFFFFFFFF) :=
  ⟨⟨0x10, 95, 0, 0, up, by decide +kernel⟩,
   ⟨0x10, 95, 0, 0x11, up, by decide +kernel⟩,
   ⟨9, 3, rec true ([]), by decide +kernel⟩,
   ⟨9, 3, cl [(Fld.ACQ_CTRL_EN,0)], by decide +kernel⟩,
   ⟨9, 3, let s := cl [(Fld.ACQ_CLS_CFG_SRC 3,1),(Fld.ACQ_CLS_CFG_SEL 3,2),(Fld.SEQ_STATUS_STATE,2)];
     {s with iob := {s.iob with accept := 4}}, by decide +kernel⟩,
   ⟨3, up, by decide +kernel⟩,
   ⟨9, r0 true ([]), rec true ([]), by decide +kernel⟩,
   ⟨9, r0 false ([(5,3,0)]), rec false ([(5,3,0)]), by decide +kernel⟩,
   ⟨9, r0 true [] 0, rec true [] [(Fld.ACQ_DEST_KIND 0,0),(Fld.ACQ_DEST_KIND 1,0),(Fld.TWN_STATUS_MODE,1),(Fld.ACQ_DEST_LANE 1,5)] 0,
     by decide +kernel⟩,
   ⟨9, r0 true [] 0, rec true [] [(Fld.ACQ_DEST_KIND 0,1),(Fld.ACQ_DEST_KIND 1,1),(Fld.TWN_STATUS_MODE,0),(Fld.ACQ_DEST_LANE 1,5)] 0,
     by decide +kernel⟩,
   ⟨9, r0 true ([]), rec true ([]), by decide +kernel⟩⟩

end RecordsAndTriggers

namespace AcquisitionJobs
def acq (f : AcqSt → AcqSt) (s : State) : State := {s with acq := f s.acq}
def b : State :=
  acq (fun a => {a with ctx := [(4096, 5),(4096+7, 9),(8192,7),(131072+1,3)]}) (sf [(Fld.HBM_RGN_OWN_EN 3,1),(Fld.HBM_RGN_OWN_OWNER 3,0x12),(Fld.HBM_RGN_SIZE_SIZE 3,512),(Fld.HBM_RGN_BASE_BASE 3,1),(Fld.ACQ_PRB_STAT_FROZEN,1),(Fld.ACQ_LN_STAT_STOPPED 5,1)] up)
def cfg (first banks clr : Nat) : Word32 := BitVec.ofNat 32 (3 + first * 32 + (banks-1) * 2048 + clr * 2^17)
def job (c : Bool) (clr : Nat) : State := acq (fun a => {a with job := some ⟨c, cfg 1 1 clr, 2⟩}) b
def pb (x : Option (Nat × Nat)) : State := acq (fun a => {a with probes := [⟨x,77,0x123456789⟩,⟨none,1,1⟩]}) b

/-- The hypotheses of each clause of `Obligations.AcquisitionJobs` are met. -/
theorem witness_AcquisitionJobs :
    (∃ (s : State) (copy : Bool), let cfg := (s.reg Reg.ACQ_DUMP_CFG); let base := ((s.reg Reg.ACQ_DUMP_BASE).toNat % 2 ^ 18); let fits :=
      (s.regionHolds (dumpRegion cfg) 0x12 (base * 65536) (dumpBanks cfg * 262144) = true ∧ dumpFirst cfg + dumpBanks cfg ≤ 64); s.awake
      Reg.ACQ_CMD ∧ (copy = true → fits) ∧ s.acq.job = none) ∧
    (∃ (s : State) (copy : Bool), let cfg := (s.reg Reg.ACQ_DUMP_CFG); let base := ((s.reg Reg.ACQ_DUMP_BASE).toNat % 2 ^ 18); let fits :=
      (s.regionHolds (dumpRegion cfg) 0x12 (base * 65536) (dumpBanks cfg * 262144) = true ∧ dumpFirst cfg + dumpBanks cfg ≤ 64); s.awake
      Reg.ACQ_CMD ∧ (copy = true → fits) ∧ s.acq.job ≠ none) ∧
    (∃ (s : State), let cfg := (s.reg Reg.ACQ_DUMP_CFG); let base := ((s.reg Reg.ACQ_DUMP_BASE).toNat % 2 ^ 18); let fits :=
      (s.regionHolds (dumpRegion cfg) 0x12 (base * 65536) (dumpBanks cfg * 262144) = true ∧ dumpFirst cfg + dumpBanks cfg ≤ 64); s.awake
      Reg.ACQ_CMD ∧ s.acq.job = none ∧ ¬ fits) ∧
    (∃ (s : State), ∃ j ∈ s.acq.job, j.copy = true) ∧
    (∃ (word : Fin 2097152) (s : State), s.awake (0x06800000 + 4 * word.val) ∧ word.val % 16 = 0) ∧
    (∃ (word : Fin 2097152) (s : State), s.awake (0x06800000 + 4 * word.val) ∧ let c := (131072 * s.fld Fld.ACQ_CTX_WIN_HALF + word.val /
      16); word.val % 16 ≠ 0 ∧ ∃ qxV ∈ s.acq.latch, qxV.1 = c) ∧
    (∃ (s : State), ∃ b ∈ s.acq.probes.head?, s.fld Fld.ACQ_PRB_STAT_FREE < 15 ∧ b.place = none) ∧
    (∃ (s : State), ∃ b ∈ s.acq.probes.head?, s.fld Fld.ACQ_PRB_STAT_FREE < 15 ∧ ∃ qaV ∈ b.place, let a := qaV.1; let w := qaV.2; s.hbmMay
      0x12 a true = true ∧ a + 8192 ≤ w) ∧
    (∃ (s : State), ∃ b ∈ s.acq.probes.head?, s.fld Fld.ACQ_PRB_STAT_FREE < 15 ∧ b.place ≠ none ∧ s.reg Reg.ACQ_PRB_LOST ≠ 0xFFFFFFFF) :=
  ⟨⟨pb (some (65536,65536+8192)), false, by decide +kernel⟩,
   ⟨job true 1, false, by decide +kernel⟩,
   ⟨pb (some (65536,65536+8192)), by decide +kernel⟩,
   ⟨job true 1, by decide +kernel⟩,
   ⟨16, job true 1, by decide +kernel⟩,
   ⟨4096*16+3, acq (fun a => {a with latch := some (4096, 2)}) b, by decide +kernel⟩,
   ⟨pb none, by decide +kernel⟩,
   ⟨pb (some (65536,65536+8192)), by decide +kernel⟩,
   ⟨pb (some (65536,65536+8192)), by decide +kernel⟩⟩

end AcquisitionJobs

namespace MemoryPorts
def iss (n e : Nat) (x : Nat) (s : State) : State := st [(Reg.HBM_ISSUE n e 0, x % 2^32),(Reg.HBM_ISSUE n e 1, x / 2^32)] s
def run (l : List (Field × Nat) := []) : State :=
  let s := sf ([(Fld.SEQ_STATUS_STATE,2),(Fld.SEQ_CFG_L,10),(Fld.ARR_STATUS_MAPPED 5,1),(Fld.ARR_STATUS_RUN 5,1)] ++ l) up; {s with own := {s.own with map := [(2,5)]}, seq := {s.seq with step := 3, turn := 9}}
def ent (go st' rg delay : Nat) : Nat := 3 + go * 1024 + rg * 2^14 + st' * 2^16 + delay * 2^24 + (255 * 2^48) + 2^63
def req (r : Option (Status × Word64)) : PortReq := ⟨5,1,2,8,3,false,71,none,0x100,none,.clean,false,true,false,none,r⟩
def rl (r : Option (Status × Word64)) (st' rg : Nat) : State :=
  let s := iss 5 1 (ent 0 st' rg 72) (run); {s with hbm := {s.hbm with reqs := [req r]}}
def go : State :=
  let s := iss 5 1 (ent 1 70 0 72) (run); {s with arr := {s.arr with outBits := [(5*16+3, 0x20)], consumers := [(0, BitVec.ofNat 64 (1 + 96 * 2^8 + 2 * 2^24 + 3 * 2^32 + 5 * 2^40))]}}

/-- The hypotheses of each clause of `Obligations.MemoryPorts` are met. -/
theorem witness_MemoryPorts :
    (∃ (sorus : Fin 34) (entry : Fin 16) (s : State), ∃ v ∈ s.virtOf sorus, s.entryFires sorus entry = true ∧ s.hasFired sorus entry =
      false ∧ let x := (s.issueEntry sorus entry); let q := ((s.outGroup v ((x >>> 10) % 4)).toNat); bitOf q 32 = false) ∧
    (∃ (sorus : Fin 34) (entry : Fin 16) (ecc : EccFind) (s : State), ∃ v ∈ s.virtOf sorus, s.entryFires sorus entry = true ∧ s.hasFired
      sorus entry = false ∧ let x := (s.issueEntry sorus entry); let q := ((s.outGroup v ((x >>> 10) % 4)).toNat); let node :=
      (nodeOfVirtual v); let r : PortReq :=
      { sorus := sorus, entry := entry, virt := v, turn := s.seq.turn, step := s.seq.step, page := s.pageB sorus, age := 0, write := if bitOf q 31 then some (s.outGroup v ((x >>> 12) % 4)) else none, addr := q % 2 ^ 31 * 8, tag := none, ecc := ecc, dead := false, served := false, counted := false, region := none, resp := none };
      bitOf q 32 = true ∧ s.rzOverQuota node 0 = false ∧ s.lockedSchedule = true ∧ s.regionOf r.addr = none ∧ s.fld (Fld.RZ_OUTST_COUNT node
      0) < 64) ∧
    (∃ (sorus : Fin 34) (entry : Fin 16) (s : State), ∃ v ∈ s.virtOf sorus, s.entryFires sorus entry = true ∧ s.hasFired sorus entry =
      false ∧ let x := (s.issueEntry sorus entry); let q := ((s.outGroup v ((x >>> 10) % 4)).toNat); let node := (nodeOfVirtual v); bitOf q
      32 = true ∧ s.rzOverQuota node 0 = true) ∧
    (∃ (sorus : Fin 34) (entry : Fin 16) (s : State), s.seqState = 2 ∧ s.hbm.reqs.length = 1 ∧ ∃ r ∈ s.hbm.reqs.head?, r.sorus = sorus ∧
      r.entry = entry ∧ s.releaseDue r = true ∧ r.dead = false ∧ r.write = none ∧ r.counted = false ∧ let x := (s.issueEntry sorus entry);
      let st := ((x >>> 16) % 256); let rg := ((x >>> 14) % 4); st / 64 ≠ rg ∧ ∃ qdV ∈ r.resp, qdV.1 = Code.ok) ∧
    (∃ (sorus : Fin 34) (entry : Fin 16) (s : State), s.seqState = 2 ∧ s.hbm.reqs.length = 1 ∧ ∃ r ∈ s.hbm.reqs.head?, r.sorus = sorus ∧
      r.entry = entry ∧ s.releaseDue r = true ∧ r.dead = false ∧ r.write = none ∧ r.counted = false ∧ let x := (s.issueEntry sorus entry);
      let st := ((x >>> 16) % 256); let rg := ((x >>> 14) % 4); st / 64 ≠ rg ∧ r.resp = none ∧ s.flag Fld.SEQ_OVR_CAUSE_VALID = false) ∧
    (∃ (temp : BitVec 8) (s : State), s.domOn 71 = true ∧ temp.toInt ≤ 85) ∧
    (∃ (temp : BitVec 8) (s : State), s.domOn 71 = true ∧ 85 < temp.toInt) :=
  ⟨⟨5, 1, rl none 0 1, by decide +kernel⟩,
   ⟨5, 1, .clean, go, by decide +kernel⟩,
   ⟨5, 1, sf [(Fld.RZ_QUOTA_QUOTA (nodeOfVirtual 2) 0,2),(Fld.RZ_OUTST_COUNT (nodeOfVirtual 2) 0,2)] go, by decide +kernel⟩,
   ⟨5, 1, rl (some (Code.ok,77)) 0 1, by decide +kernel⟩,
   ⟨5, 1, rl none 0 1, by decide +kernel⟩,
   ⟨0x80, rl none 0 1, by decide +kernel⟩,
   ⟨86, go, by decide +kernel⟩⟩

end MemoryPorts

namespace SecurityCommands
def sec (f : SecSt → SecSt) (s : State := up) : State := {s with sec := f s.sec}
def run (code : Nat) (arg : Word32) (s := up) : State :=
  sf [(Fld.SEC_CMD_STAT_PENDING,1),(Fld.SEC_STATUS_BUSY,1)] (sec (fun x => {x with cmd := some (code, arg, List.replicate 64 7)}) s)
def arg (slot use n : Nat) : Word32 := Fld.SEC_CMD_ARG_SLOT.put (Fld.SEC_CMD_ARG_USE.put (Fld.SEC_CMD_ARG_N.put 0 n) use) slot

/-- The hypotheses of each clause of `Obligations.SecurityCommands` are met. -/
theorem witness_SecurityCommands :
    (∃ (mid : Mid) (s : State) (code : Nat), s.awake Reg.SEC_CMD ∧ code ∈ [1, 2, 3, 4, 5, 6] ∧ s.secBad mid code = false ∧ code ≠ 3) ∧
    (∃ (mid : Mid) (s : State) (code : Nat), s.awake Reg.SEC_CMD ∧ code ∈ [1, 2, 3, 4, 5, 6] ∧ s.secBad mid code = false ∧ code = 3) ∧
    (∃ (mid : Mid) (s : State) (code : Nat), s.awake Reg.SEC_CMD ∧ code ∈ [1, 2, 3, 4, 5, 6] ∧ s.secBad mid code = true) ∧
    (∃ (arg : Word32) (ext : List Byte) (s : State), s.sec.cmd = some (1, arg, ext) ∧ ∃ e ∈ s.ldr.entries[arg.toNat % 32]?, True) ∧
    (∃ (arg : Word32) (ext : List Byte) (s : State), s.sec.cmd = some (2, arg, ext) ∧ s.sec.report.length = 784) ∧
    (∃ (arg : Word32) (ext : List Byte) (s : State), ∃ qcodeV ∈ s.sec.cmd, let code := qcodeV.1; qcodeV.2.1 = arg ∧ qcodeV.2.2 = ext ∧ 4 ≤
      code ∧ code ≤ 6 ∧ ext.length = 64) :=
  ⟨⟨0, st [(Reg.SEC_CMD_ARG,0)] up, 1, by decide +kernel⟩,
   ⟨0, st [(Reg.SEC_CMD_ARG,0)] up, 3, by decide +kernel⟩,
   ⟨0, st [(Reg.SEC_CMD_ARG,0)] up, 5, by decide +kernel⟩,
   ⟨0, List.replicate 64 7, run 1 0 {up with ldr := {up.ldr with entries := [⟨1,0,true,false,0,0⟩]}}, by decide +kernel⟩,
   ⟨0, List.replicate 64 7, run 2 0 (sec fun x => {x with report := List.replicate 784 3}), by decide +kernel⟩,
   ⟨arg 1 2 5, List.replicate 64 7, run 4 (arg 1 2 5) (st [(Reg.SEC_SLOTS,0x5)] up), by decide +kernel⟩⟩

end SecurityCommands

namespace ScrubbingAndPasses
def cns (f : CnsSt → CnsSt) (s : State := up) : State := {s with cns := f s.cns}
def p : BpId := ⟨5,3,9⟩
def k : Nat := ((5*16+3)*64+9)*1024
def base (l : List (Field × Nat) := []) : State :=
  let s := sf ([(Fld.ARR_STATUS_MAPPED 5,1),(Fld.CNS_CTRL_EN,1),(Fld.CNS_CTRL_COMPARE,1),(Fld.CNS_STATUS_RUN,1),(Fld.HBM_STATUS_READY,1),(Fld.HBM_RGN_OWN_EN 3,1),(Fld.HBM_RGN_OWN_KIND 3,4),(Fld.HBM_RGN_OWN_OWNER 3,0x11),(Fld.HBM_RGN_SIZE_SIZE 3,4144),(Fld.HBM_RGN_BASE_BASE 3,1)] ++ l) up; cns (fun c => {c with started := true}) {s with own := {s.own with map := [(2,5)]}}
def im (l : Nat) (x : Word64) (flip : BitVec 72) (s : State) : State := s.setImem l (eccJoin x (eccChk x) ^^^ flip)
def pen (l : Nat) (x : Option Bool) (s : State) : State := cns (fun c => {c with pend := [(l, x)]}) s
def at' (f : Nat) (s : State := base) : State := s.setReg Reg.CNS_FRAME (BitVec.ofNat 32 f)

/-- The hypotheses of each clause of `Obligations.ScrubbingAndPasses` are met. -/
theorem witness_ScrubbingAndPasses :
    (∃ (bp : BpId) (s : State), let key := (scrubKey bp); let w := (Sparse.get 0 s.cns.walk key); let loc := (key * 1024 + w); let found
      := ((eccFix (s.imemWord loc)).2); s.scrubs bp = true ∧ s.portTaken bp = false ∧ w < 1023 ∧ found = .clean) ∧
    (∃ (bp : BpId) (s : State), let key := (scrubKey bp); let w := (Sparse.get 0 s.cns.walk key); let loc := (key * 1024 + w); let found
      := ((eccFix (s.imemWord loc)).2); let waits := (fun (t : State) (l : Nat) => Sparse.get none t.cns.pend l); s.scrubs bp = true ∧
      s.portTaken bp = false ∧ w < 1023 ∧ found ≠ .clean ∧ s.cnsOn = true ∧ waits s loc = none) ∧
    (∃ (bp : BpId) (word : Fin 1024) (s : State), let key := (scrubKey bp); let k := (key * 1024 + word.val); let waits := (fun (t :
      State) (l : Nat) => Sparse.get none t.cns.pend l); waits s k = some false ∧ s.scrubs bp = true) ∧
    (∃ (bp : BpId) (word : Fin 1024) (s : State), let key := (scrubKey bp); let k := (key * 1024 + word.val); let waits := (fun (t :
      State) (l : Nat) => Sparse.get none t.cns.pend l); waits s k = some true ∧ ∃ base ∈ s.regionBase 4, ∃ v ∈ s.virtOf bp.sorus, s.scrubs
      bp = true ∧ let a := (base + v * 0x810000 + (bp.frond.val * 64 + bp.bp.val) * 8192 + word.val * 8); (s.hbmConditions 0x11 a 8 false).2
      = none) ∧
    (∃ (s : State), s.passRuns = true ∧ s.flag Fld.CNS_STATUS_RUN = true ∧ (s.passAt (s.reg Reg.CNS_FRAME).toNat).1 = none ∧ let nxt :=
      ((s.passAt (s.reg Reg.CNS_FRAME).toNat).2); nxt < passFrames) ∧
    (∃ (s : State), s.passRuns = true ∧ s.flag Fld.CNS_STATUS_RUN = true ∧ (s.passAt (s.reg Reg.CNS_FRAME).toNat).1 = none ∧ let nxt :=
      ((s.passAt (s.reg Reg.CNS_FRAME).toNat).2); passFrames ≤ nxt) ∧
    (∃ (s : State), s.passRuns = true ∧ s.flag Fld.CNS_STATUS_RUN = true ∧ ∃ q ∈ (s.passAt (s.reg Reg.CNS_FRAME).toNat).1, let p := q.1;
      let nxt := ((s.passAt (s.reg Reg.CNS_FRAME).toNat).2); nxt < passFrames ∧ ∃ base ∈ s.regionBase 4, (s.hbmConditions 0x11 (base +
      p.golden) 4 false).2 = none ∧ let g : Word32 := (BitVec.ofNat 32 (natOfBytes (s.hbmBytes (base + p.golden) 4))); let lv := (s.passLive
      p); (lv.1 ^^^ g) &&& lv.2 = 0) ∧
    (∃ (s : State), s.passRuns = true ∧ s.flag Fld.CNS_STATUS_RUN = true ∧ ∃ q ∈ (s.passAt (s.reg Reg.CNS_FRAME).toNat).1, let p := q.1;
      let nxt := ((s.passAt (s.reg Reg.CNS_FRAME).toNat).2); nxt < passFrames ∧ ∃ base ∈ s.regionBase 4, (s.hbmConditions 0x11 (base +
      p.golden) 4 false).2 = none ∧ let g : Word32 := (BitVec.ofNat 32 (natOfBytes (s.hbmBytes (base + p.golden) 4))); let lv := (s.passLive
      p); (p.target = 6 ∨ p.target = 9) ∧ (lv.1 ^^^ g) &&& lv.2 ≠ 0) ∧
    (∃ (s : State), s.flag Fld.CNS_STATUS_RUN = true) ∧
    (∃ (s : State), s.domOn 77 = true ∧ s.reg Reg.CNS_SELF_CNT ≠ 0xFFFFFFFF) :=
  ⟨⟨p, at' 0, by decide +kernel⟩,
   ⟨p, pen (k + 0) none (im (k+0) 0x123 1 base), by decide +kernel⟩,
   ⟨p, Fin.ofNat 1024 0, pen (k + 0) (some false) (im (k+0) 0x123 0 base), by decide +kernel⟩,
   ⟨p, Fin.ofNat 1024 0, pen (k + 0) (some true) (im (k+0) 0x123 0 base), by decide +kernel⟩,
   ⟨at' 0, by decide +kernel⟩,
   ⟨at' (passFrames-1), by decide +kernel⟩,
   ⟨at' (passSorus*2), by decide +kernel⟩,
   ⟨let s := at' (passSorus*3-10);
     {s with arr := {s.arr with sorcfg := (List.range 80).map fun i => (5*80+i, 7), consumers := (List.range 100).map fun i => (i, 7)}},
     by decide +kernel⟩,
   ⟨at' 0, by decide +kernel⟩,
   ⟨at' 0, by decide +kernel⟩⟩

end ScrubbingAndPasses

namespace ConservatorRegisters
def cns (f : CnsSt → CnsSt) (s : State := up) : State := {s with cns := f s.cns}
def base (l : List (Field × Nat) := []) : State :=
  let s := sf ([(Fld.ARR_STATUS_MAPPED 5,1)] ++ l) (st [(Reg.CNS_INJ_LO, 0x55),(Reg.CNS_INJ_HI,0xAA)] up); cns (fun c => {c with started := true}) {s with own := {s.own with map := [(2,5)]}}
def sel (n f i kd : Nat) : List (Field × Nat) :=
  [(Fld.CNS_INJ_SEL_SORUS,n),(Fld.CNS_INJ_SEL_FROND,f),(Fld.CNS_INJ_SEL_INDEX,i),(Fld.CNS_INJ_SEL_KIND,kd),(Fld.CNS_CTRL_INJ_EN,1)]

/-- The hypotheses of each clause of `Obligations.ConservatorRegisters` are met. -/
theorem witness_ConservatorRegisters :
    (∃ (mid : Mid) (s : State), s.awake Reg.CNS_CTRL ∧ cnsWriter mid = true ∧ s.flag Fld.CNS_CTRL_LOCK = false) ∧
    (∃ (mid : Mid) (s : State), s.awake Reg.CNS_CTRL ∧ cnsWriter mid = false) ∧
    (∃ (mid : Mid) (s : State), s.awake Reg.CNS_INJ_CHK ∧ (cnsWriter mid = false ∨ s.flag Fld.CNS_CTRL_INJ_EN = false)) ∧
    (∃ (mid : Mid) (s : State), let n := (s.fld Fld.CNS_INJ_SEL_SORUS); s.awake Reg.CNS_INJ_CHK ∧ cnsWriter mid = true ∧ s.flag
      Fld.CNS_CTRL_INJ_EN = true ∧ n < 34 ∧ s.mapped n = true ∧ s.fld Fld.CNS_INJ_SEL_KIND = 0) ∧
    (∃ (mid : Mid) (s : State), let n := (s.fld Fld.CNS_INJ_SEL_SORUS); let i := (s.fld Fld.CNS_INJ_SEL_INDEX); s.awake Reg.CNS_INJ_CHK ∧
      cnsWriter mid = true ∧ s.flag Fld.CNS_CTRL_INJ_EN = true ∧ n < 34 ∧ s.mapped n = true ∧ s.fld Fld.CNS_INJ_SEL_KIND = 1 ∧ i ≤ 0x107F) ∧
    (∃ (s : State), s.awake Reg.CNS_REC3) :=
  ⟨⟨0, base, by decide +kernel⟩,
   ⟨0x22, base, by decide +kernel⟩,
   ⟨0, base, by decide +kernel⟩,
   ⟨0, base (sel 5 0 0 0), by decide +kernel⟩,
   ⟨0, base (sel 5 3 0x107F 1), by decide +kernel⟩,
   ⟨base, by decide +kernel⟩⟩

end ConservatorRegisters

namespace CarrelBindings
def bd (a b : Mid) (c : Fin 32 := 7) : State :=
  ru [.crlBindWrite 0 c ((Fld.CRL_BIND_MID_A c).put ((Fld.CRL_BIND_MID_B c).put 0 b.toNat) a.toNat)] up
def v (a b : Nat) : Word32 := (Fld.CRL_BIND_MID_A 7).put ((Fld.CRL_BIND_MID_B 7).put 0 b) a

/-- The hypotheses of each clause of `Obligations.CarrelBindings` are met. -/
theorem witness_CarrelBindings :
    (∃ (mid : Mid) (c : Fin 32) (value : Word32) (s : State), let a := ((Fld.CRL_BIND_MID_A c).get value); let b := ((Fld.CRL_BIND_MID_B
      c).get value); let allowed := (bindable a = true ∧ bindable b = true ∧ (a ≠ b ∨ a = 0xFF)); s.awake (Reg.CRL_BIND c) ∧ allowed ∧
      s.flag Fld.CRL_CTRL_LOCK = false ∧ s.mayAssign mid 0x0A c = true) ∧
    (∃ (c : Fin 32) (value : Word32) (s : State), let a := ((Fld.CRL_BIND_MID_A c).get value); let b := ((Fld.CRL_BIND_MID_B c).get
      value); let allowed := (bindable a = true ∧ bindable b = true ∧ (a ≠ b ∨ a = 0xFF)); let same := (a = s.boundTo c 0 ∧ b = s.boundTo c
      1); s.awake (Reg.CRL_BIND c) ∧ allowed ∧ s.flag Fld.CRL_CTRL_LOCK = true ∧ same) ∧
    (∃ (c : Fin 32) (value : Word32) (s : State), let a := ((Fld.CRL_BIND_MID_A c).get value); let b := ((Fld.CRL_BIND_MID_B c).get
      value); let allowed := (bindable a = true ∧ bindable b = true ∧ (a ≠ b ∨ a = 0xFF)); let same := (a = s.boundTo c 0 ∧ b = s.boundTo c
      1); s.awake (Reg.CRL_BIND c) ∧ (¬ allowed ∨ (s.flag Fld.CRL_CTRL_LOCK = true ∧ ¬ same))) ∧
    (∃ (mid : Mid) (c : Fin 32) (s : State), (∀ o < 256, s.awake (endWindow c o)) ∧ s.endOf c mid = none) ∧
    (∃ (mid : Mid) (c : Fin 32) (s : State), (∀ o < 256, s.awake (endWindow c o)) ∧ ∃ e ∈ s.endOf c mid, (s.slot c e).full = false) ∧
    (∃ (mid : Mid) (c : Fin 32) (s : State), (∀ o < 256, s.awake (endWindow c o)) ∧ ∃ e ∈ s.endOf c mid, (s.slot c e).full = true) :=
  ⟨⟨0, 7, v ((0,1)).1 ((0,1)).2, up, by decide +kernel⟩,
   ⟨7, v ((0,1)).1 ((0,1)).2, sf [(Fld.CRL_CTRL_LOCK,1)] (bd 0 1), by decide +kernel⟩,
   ⟨7, v ((9,9)).1 ((9,9)).2, bd 0 1, by decide +kernel⟩,
   ⟨0, 7, up, by decide +kernel⟩,
   ⟨0, 7, bd 0 1, by decide +kernel⟩,
   ⟨0, 7, ru [.crlTxdWrite 0 7 3 7,.crlPost 0 7 5 6] (bd 0 1), by decide +kernel⟩⟩

end CarrelBindings

namespace CarrelTraffic
def bd (a b : Mid) (c : Fin 32 := 7) : State :=
  ru [.crlBindWrite 0 c ((Fld.CRL_BIND_MID_A c).put ((Fld.CRL_BIND_MID_B c).put 0 b.toNat) a.toNat)] up

/-- The hypotheses of each clause of `Obligations.CarrelTraffic` are met. -/
theorem witness_CarrelTraffic :
    (∃ (mid : Mid) (c : Fin 32) (e : Nat) (s : State), (∀ w < 256, s.awake (endWindow c w)) ∧ s.endOf c mid = some e ∧ (s.slot c e).full =
      false) ∧
    (∃ (mid : Mid) (c : Fin 32) (e : Nat) (s : State), (∀ w < 256, s.awake (endWindow c w)) ∧ s.endOf c mid = some e ∧ (s.slot c e).full =
      true) ∧
    (∃ (mid : Mid) (c : Fin 32) (e : Nat) (s : State), let o := (1 - e); (∀ w < 256, s.awake (endWindow c w)) ∧ s.endOf c mid = some e ∧
      (s.slot c o).full = true) ∧
    (∃ (mid : Mid) (c : Fin 32) (e : Nat) (s : State), let o := (1 - e); (∀ w < 256, s.awake (endWindow c w)) ∧ s.endOf c mid = some e ∧
      (s.slot c o).full = false) ∧
    (∃ (c : Fin 32) (fromB : Bool) (e : Nat) (s : State), (e = (if fromB then 1 else 0)) ∧ (s.slot c e).full = true ∧ (s.slot c e).timed =
      false ∧ (s.slot c e).tmo ≠ 0) :=
  ⟨⟨if 1 = 0 then 0 else 1, 7, 1, ru ([.crlPost 0 7 5 6]) (sf [(Fld.CRL_TMO_US,0)] (bd 0 1)), by decide +kernel⟩,
   ⟨if 1 = 0 then 0 else 1, 7, 1, ru ([.crlPost 1 7 5 6]) (sf [(Fld.CRL_TMO_US,3)] (bd 0 1)), by decide +kernel⟩,
   ⟨if 1 = 0 then 0 else 1, 7, 1, ru ([.crlPost 0 7 5 6]) (sf [(Fld.CRL_TMO_US,0)] (bd 0 1)), by decide +kernel⟩,
   ⟨if 1 = 0 then 0 else 1, 7, 1, ru ([.crlPost 1 7 5 6]) (sf [(Fld.CRL_TMO_US,3)] (bd 0 1)), by decide +kernel⟩,
   ⟨7, true, 1, ru ([.crlPost 1 7 5 6]) (sf [(Fld.CRL_TMO_US,3)] (bd 0 1)), by decide +kernel⟩⟩

end CarrelTraffic

namespace PinRegisters
def ow (o : Nat) (l : List (Nat × Nat)) : State := let s := st l up; {s with own := {s.own with table := [⟨1,o,false,3*24+5,2⟩]}}

/-- The hypotheses of each clause of `Obligations.PinsAndTestPort` (first part) are met. -/
theorem witness_PinsAndTestPort :
    (∃ (b : Fin 8) (p : Fin 24) (s : State), s.imageOwner 1 (b.val * 24 + p.val) = 0) ∧
    (∃ (mid : Mid) (b : Fin 8) (p : Fin 24) (s : State), let owned := (fun (k : Nat) => s.imageOwner 1 (b.val * 24 + k) ≠ 0); owned p ∧
      s.mayAssign mid 0x01 (b.val * 24 + p.val) = false) ∧
    (∃ (mid : Mid), mid ≠ 0x10) :=
  ⟨⟨3, 5, ow 0 [(Reg.IOB_OUT 3, 0xF0F0F0)], by decide +kernel⟩,
   ⟨0, 3, 5, ow 1 [(Reg.IOB_OUT 3, 0xF0F0F0)], by decide +kernel⟩,
   ⟨0, by decide +kernel⟩⟩

end PinRegisters

/-- The hypotheses of each clause of `Obligations.PinsAndTestPort` (second part) are met. -/
theorem witness_PinsAndTestPort_TestAccessPort :
    (∃ (s : State) (ir : Nat), ir ∈ [3, 4, 5, 6, 7] ∧ s.imageRuns = false) ∧
    (∃ (s : State) (ir : Nat), ir ∈ [3, 4, 5, 6, 7] ∧ s.imageRuns = true) :=
  ⟨⟨up, 3, by decide +kernel⟩,
   ⟨{up with ldr := {up.ldr with phase := 10}, iob := {up.iob with active := true}}, 3, by decide +kernel⟩⟩

namespace TwinPairing
def tw (f : TwinSt → TwinSt) (s : State := up) : State := {s with twin := f s.twin}
def base (l : List (Field × Nat)) : State := let s := sf l up; {s with seq := {s.seq with turn := 7}}
def en (l : List (Field × Nat)) : State := base ([(Fld.TWN_CFG_EN,1)] ++ l)

/-- The hypotheses of each clause of `Obligations.TwinPairing` are met. -/
theorem witness_TwinPairing :
    (∃ (s : State), s.flag Fld.TWN_STATUS_PAIRED = false ∧ (s.flag Fld.TWN_CFG_EN = false ∨ s.twin.refused = true)) ∧
    (∃ (ident : Word32) (straps : Word32) (en : Bool) (disc : Bool) (identity : List Byte) (s : State), let cause := (s.pairCause ident
      straps en disc identity); s.flag Fld.TWN_STATUS_PAIRED = false ∧ s.flag Fld.TWN_CFG_EN = true ∧ s.twin.refused = false ∧ cause ≠ 0) ∧
    (∃ (ident : Word32) (straps : Word32) (en : Bool) (disc : Bool) (identity : List Byte) (s : State), let cause := (s.pairCause ident
      straps en disc identity); s.flag Fld.TWN_STATUS_PAIRED = false ∧ s.flag Fld.TWN_CFG_EN = true ∧ s.twin.refused = false ∧ cause = 0) ∧
    (∃ (s : State), s.flag Fld.TWN_STATUS_PAIRED = true ∧ 3 ≤ s.twin.miss) :=
  ⟨⟨base [(Fld.TWN_CFG_EN,0)], by decide +kernel⟩,
   ⟨0, 0, 1 == 0, 0 == 1, [], base [(Fld.TWN_CFG_EN,1)], by decide +kernel⟩,
   ⟨up.reg Reg.DEV_IDENT, if 0 = 0 then (Fld.DEV_STRAPS_TWIN_ROLE.put (up.reg Reg.DEV_STRAPS) 1) else (Fld.DEV_STRAPS_TWIN_ROLE.put
     (up.reg Reg.DEV_STRAPS) 0), true, false, up.regBytes (Reg.LDR_ID 0) 16, en
     [(Fld.DEV_STRAPS_TWIN_ROLE,0),(Fld.TWN_STATUS_OWN,0),(Fld.TWN_CFG_LS_START,0)], by decide +kernel⟩,
   ⟨tw (fun t => {t with miss := 3}) (base [(Fld.TWN_STATUS_PAIRED,1),(Fld.TWN_STATUS_MODE,0),(Fld.TWN_STATUS_OWN,0)]), by decide +kernel⟩⟩

end TwinPairing

namespace TwinHeartbeats
def tw (f : TwinSt → TwinSt) (s : State := up) : State := {s with twin := f s.twin}
def base (mode own : Nat) (l : List (Field × Nat) := []) (h : List TwinTurn := [⟨5,77,true,false⟩]) (j : Option Nat := none) (ag := 0) : State :=
  let s := sf ([(Fld.TWN_STATUS_PAIRED,1),(Fld.TWN_STATUS_MODE,mode),(Fld.TWN_STATUS_OWN,own),(Fld.TWN_CFG_HB_WAIT,3)] ++ l) up
  tw (fun t => {t with hist := h, joinAt := j, agreed := ag}) {s with seq := {s.seq with turn := 7}}
def hbst (x : Option Nat) : State :=
  (tw (fun t => {t with hbSent := x}) (let s := base 3 1 [(Fld.SEQ_STATUS_STATE,2),(Fld.SEQ_CFG_L,10)] [⟨6,77,true,false⟩,⟨5,77,true,false⟩]; {s with seq := {s.seq with step := 6}}))

/-- The hypotheses of each clause of `Obligations.TwinHeartbeats` are met. -/
theorem witness_TwinHeartbeats :
    (∃ (turn : Word64) (digest : Word64) (dvalid : Bool) (s : State), let n := turn.toNat; s.flag Fld.TWN_STATUS_PAIRED = true ∧
      s.seq.turn - n ≤ s.hbWait ∧ s.twinMode = 3 ∧ (dvalid = false ∨ s.digestIs n digest = true)) ∧
    (∃ (turn : Word64) (digest : Word64) (dvalid : Bool) (s : State), let n := turn.toNat; s.flag Fld.TWN_STATUS_PAIRED = true ∧
      s.seq.turn - n ≤ s.hbWait ∧ s.twinMode = 3 ∧ dvalid = true ∧ s.digestIs n digest = false ∧ s.reg Reg.TWN_DIV_CNT ≠ 0xFFFFFFFF) ∧
    (∃ (turn : Word64) (digest : Word64) (s : State), let n := turn.toNat; s.flag Fld.TWN_STATUS_PAIRED = true ∧ s.seq.turn - n ≤ s.hbWait
      ∧ s.twinMode ≠ 3 ∧ ∃ j ∈ s.twin.joinAt, s.fld Fld.TWN_RS_STAT_PHASE = 5 ∧ j + s.maxSettle < n ∧ s.digestIs n digest = true ∧ s.matchN
      ≤ s.twin.agreed + 1) ∧
    (∃ (turn : Word64) (digest : Word64) (s : State), let n := turn.toNat; s.flag Fld.TWN_STATUS_PAIRED = true ∧ s.seq.turn - n ≤ s.hbWait
      ∧ s.twinMode ≠ 3 ∧ ∃ j ∈ s.twin.joinAt, s.fld Fld.TWN_RS_STAT_PHASE = 5 ∧ j + s.maxSettle < n ∧ s.digestIs n digest = true ∧
      s.twin.agreed + 1 < s.matchN) ∧
    (∃ (turn : Word64) (digest : Word64) (s : State), let n := turn.toNat; s.flag Fld.TWN_STATUS_PAIRED = true ∧ s.seq.turn - n ≤ s.hbWait
      ∧ s.twinMode ≠ 3 ∧ ∃ j ∈ s.twin.joinAt, s.fld Fld.TWN_RS_STAT_PHASE = 5 ∧ j + s.maxSettle < n ∧ s.digestIs n digest = false) ∧
    (∃ (s : State), s.flag Fld.TWN_STATUS_PAIRED = true ∧ ∃ x ∈ s.hbDue, s.twin.hbSent ≠ some x.turn) ∧
    (∃ (s : State), s.flag Fld.TWN_STATUS_PAIRED = true ∧ ∃ x ∈ s.hbDue, s.twin.hbSent = some x.turn) :=
  ⟨⟨5, 77, true, base 3 0, by decide +kernel⟩,
   ⟨5, 5, true, hbst none, by decide +kernel⟩,
   ⟨5, 77, base 1 0 [(Fld.TWN_RS_STAT_PHASE,5),(Fld.TWN_CFG_MATCH_N,8)] [⟨5,77,true,false⟩] (some 0) 7, by decide +kernel⟩,
   ⟨5, 77, base 1 0 [(Fld.TWN_RS_STAT_PHASE,5),(Fld.TWN_CFG_MATCH_N,8)] [⟨5,77,true,false⟩] (some 0) 0, by decide +kernel⟩,
   ⟨5, 76, base 1 0 [(Fld.TWN_RS_STAT_PHASE,5),(Fld.TWN_CFG_MATCH_N,8)] [⟨5,77,true,false⟩] (some 0) 0, by decide +kernel⟩,
   ⟨hbst none, by decide +kernel⟩,
   ⟨hbst (some 5), by decide +kernel⟩⟩

end TwinHeartbeats

namespace TwinCommands
def tw (f : TwinSt → TwinSt) (s : State := up) : State := {s with twin := f s.twin}
def base (l : List (Field × Nat)) : State := let s := sf l up; {s with seq := {s.seq with turn := 7}}

/-- The hypotheses of each clause of `Obligations.TwinCommands` are met. -/
theorem witness_TwinCommands :
    (∃ (mid : Mid) (s : State), s.awake Reg.TWN_CMD ∧ isManager mid = false) ∧
    (∃ (mid : Mid) (s : State), let paired := (s.flag Fld.TWN_STATUS_PAIRED); s.awake Reg.TWN_CMD ∧ isManager mid = true ∧ paired = true ∧
      s.twinMode = 1 ∧ (s.seqState = 0 ∨ s.seqState = 5)) ∧
    (∃ (mid : Mid) (s : State), let paired := (s.flag Fld.TWN_STATUS_PAIRED); s.awake Reg.TWN_CMD ∧ isManager mid = true ∧ paired = true ∧
      s.twinMode ≠ 1) ∧
    (∃ (mid : Mid) (s : State), let paired := (s.flag Fld.TWN_STATUS_PAIRED); s.awake Reg.TWN_CMD ∧ isManager mid = true ∧ paired = true ∧
      s.twinMode = 3 ∧ s.flag Fld.TWN_STATUS_OWN = true) ∧
    (∃ (mid : Mid) (s : State), let paired := (s.flag Fld.TWN_STATUS_PAIRED); s.awake Reg.TWN_CMD ∧ isManager mid = true ∧ paired = true ∧
      (s.twinMode ≠ 3 ∨ s.flag Fld.TWN_STATUS_OWN = false)) ∧
    (∃ (mid : Mid) (s : State), s.awake Reg.TWN_CMD ∧ isManager mid = true ∧ s.twinMode = 2) ∧
    (∃ (mid : Mid) (s : State), s.awake Reg.TWN_CMD ∧ isManager mid = true ∧ s.twinMode ≠ 2 ∧ s.flag Fld.TWN_STATUS_SENDING = true) ∧
    (∃ (mid : Mid) (s : State), s.awake Reg.TWN_CMD ∧ isManager mid = true ∧ s.twinMode ≠ 2 ∧ s.flag Fld.TWN_STATUS_SENDING = false) ∧
    (∃ (mid : Mid) (s : State), let paired := (s.flag Fld.TWN_STATUS_PAIRED); s.awake Reg.TWN_CMD ∧ isManager mid = true ∧ paired = false
      ∧ s.twinMode = 0 ∧ s.flag Fld.TWN_STATUS_OWN = false) ∧
    (∃ (mid : Mid) (s : State), let paired := (s.flag Fld.TWN_STATUS_PAIRED); s.awake Reg.TWN_CMD ∧ isManager mid = true ∧ (paired = true
      ∨ s.twinMode ≠ 0 ∨ s.flag Fld.TWN_STATUS_OWN = true)) ∧
    (∃ (s : State), let paired := (s.flag Fld.TWN_STATUS_PAIRED); s.awake Reg.TWN_RACC_CTRL ∧ s.twin.racc = false ∧ paired = true) ∧
    (∃ (s : State), s.twin.racc = true) ∧
    (∃ (s : State), s.awake Reg.TWN_NOTICE ∧ ∃ qe ∈ s.twin.notices.head?, True) :=
  ⟨⟨0x22, base [(Fld.TWN_STATUS_PAIRED,0),(Fld.TWN_STATUS_MODE,0),(Fld.TWN_STATUS_OWN,0),(Fld.TWN_STATUS_SENDING,0)], by decide +kernel⟩,
   ⟨0, base [(Fld.TWN_STATUS_PAIRED,1),(Fld.TWN_STATUS_MODE,1),(Fld.TWN_STATUS_OWN,0),(Fld.TWN_STATUS_SENDING,1)], by decide +kernel⟩,
   ⟨0, tw (fun t => {t with racc := true, notices := [(1,2),(3,0)]}) (base [(Fld.TWN_STATUS_PAIRED,1)]), by decide +kernel⟩,
   ⟨0, base [(Fld.TWN_STATUS_PAIRED,1),(Fld.TWN_STATUS_MODE,3),(Fld.TWN_STATUS_OWN,1),(Fld.TWN_STATUS_SENDING,0)], by decide +kernel⟩,
   ⟨0, tw (fun t => {t with racc := true, notices := [(1,2),(3,0)]}) (base [(Fld.TWN_STATUS_PAIRED,1)]), by decide +kernel⟩,
   ⟨0, base [(Fld.TWN_STATUS_PAIRED,0),(Fld.TWN_STATUS_MODE,2),(Fld.TWN_STATUS_OWN,0),(Fld.TWN_STATUS_SENDING,0)], by decide +kernel⟩,
   ⟨0, base [(Fld.TWN_STATUS_PAIRED,1),(Fld.TWN_STATUS_MODE,1),(Fld.TWN_STATUS_OWN,0),(Fld.TWN_STATUS_SENDING,1)], by decide +kernel⟩,
   ⟨0, tw (fun t => {t with racc := true, notices := [(1,2),(3,0)]}) (base [(Fld.TWN_STATUS_PAIRED,1)]), by decide +kernel⟩,
   ⟨0, base [(Fld.TWN_STATUS_PAIRED,0),(Fld.TWN_STATUS_MODE,0),(Fld.TWN_STATUS_OWN,0),(Fld.TWN_STATUS_SENDING,0)], by decide +kernel⟩,
   ⟨0, tw (fun t => {t with racc := true, notices := [(1,2),(3,0)]}) (base [(Fld.TWN_STATUS_PAIRED,1)]), by decide +kernel⟩,
   ⟨base [(Fld.TWN_STATUS_PAIRED,1),(Fld.TWN_STATUS_MODE,1),(Fld.TWN_STATUS_OWN,0),(Fld.TWN_STATUS_SENDING,1)], by decide +kernel⟩,
   ⟨tw (fun t => {t with racc := true, notices := [(1,2),(3,0)]}) (base [(Fld.TWN_STATUS_PAIRED,1)]), by decide +kernel⟩,
   ⟨tw (fun t => {t with racc := true, notices := [(1,2),(3,0)]}) (base [(Fld.TWN_STATUS_PAIRED,1)]), by decide +kernel⟩⟩

end TwinCommands

namespace TwinFrames
def tw (f : TwinSt → TwinSt) (s : State := up) : State := {s with twin := f s.twin}
def base (mode own : Nat) (l : List (Field × Nat) := []) : State :=
  let s := sf ([(Fld.TWN_STATUS_PAIRED,1),(Fld.TWN_STATUS_MODE,mode),(Fld.TWN_STATUS_OWN,own)] ++ l) up
  {s with seq := {s.seq with turn := 7}}
def hm (s : State) : State :=
  sf [(Fld.HBM_STATUS_READY,1),(Fld.HBM_RGN_OWN_EN 3,1),(Fld.HBM_RGN_SIZE_SIZE 3,512),(Fld.HBM_RGN_OWN_OWNER 3,0x0A),(Fld.HBM_RGN_OWN_MIRROR 3,1)] s

/-- The hypotheses of each clause of `Obligations.TwinFrames` are met. -/
theorem witness_TwinFrames :
    (∃ (s : State), s.flag Fld.TWN_STATUS_PAIRED = true ∧ s.twinMode = 0 ∧ s.flag Fld.TWN_STATUS_OWN = true ∧ s.flag
      Fld.TWN_STATUS_SENDING = false ∧ s.seqState = 2) ∧
    (∃ (s : State), s.flag Fld.TWN_STATUS_PAIRED = true ∧ (s.twinMode ≠ 0 ∨ s.flag Fld.TWN_STATUS_OWN = false ∨ s.flag
      Fld.TWN_STATUS_SENDING = true ∨ s.seqState ≠ 2)) ∧
    (∃ (d2 : Word64) (s : State), let phase := (s.fld Fld.TWN_RS_STAT_PHASE); s.flag Fld.TWN_STATUS_PAIRED = true ∧ s.twinMode = 2 ∧ phase
      = 1 ∧ s.fld Fld.TWN_LAG_LAT < d2.toNat) ∧
    (∃ (d2 : Word64) (s : State), let phase := (s.fld Fld.TWN_RS_STAT_PHASE); s.flag Fld.TWN_STATUS_PAIRED = true ∧ s.twinMode = 2 ∧ phase
      = 1 ∧ d2.toNat ≤ s.fld Fld.TWN_LAG_LAT) ∧
    (∃ (turn : Word64) (s : State), let n := turn.toNat; s.flag Fld.TWN_STATUS_PAIRED = true ∧ s.seq.turn + 2 ≤ n) ∧
    (∃ (turn : Word64) (s : State), let n := turn.toNat; s.flag Fld.TWN_STATUS_PAIRED = true ∧ n < s.seq.turn + 2) ∧
    (∃ (turn : Word64) (s : State), let n := turn.toNat; s.flag Fld.TWN_STATUS_PAIRED = true ∧ s.twin.handover = some n) ∧
    (∃ (s : State), s.flag Fld.TWN_STATUS_PAIRED = true ∧ s.fld Fld.LDR_XSPI_ROLE = 0 ∧ s.flag Fld.LDR_CMD_STAT_PENDING = false) ∧
    (∃ (s : State), s.flag Fld.TWN_STATUS_PAIRED = true ∧ (s.fld Fld.LDR_XSPI_ROLE ≠ 0 ∨ s.flag Fld.LDR_CMD_STAT_PENDING = true)) ∧
    (∃ (e0 : Word64) (s : State), s.flag Fld.TWN_STATUS_PAIRED = true ∧ e0.toNat % 4 = 0 ∧ s.twinJoined = false) ∧
    (∃ (s : State), let phase := (s.fld Fld.TWN_RS_STAT_PHASE); s.twinMode = 2 ∧ phase = 1) ∧
    (∃ (s : State), s.twinMode ≠ 2 ∧ s.twin.handover ≠ none) ∧
    (∃ (bytes : List Byte) (s : State), let phase := (s.fld Fld.TWN_RS_STAT_PHASE); s.twinMode = 2 ∧ phase = 2 ∧ s.twin.snap = [] ∧
      bytes.length = 1024) ∧
    (∃ (block : BitVec 24) (words : List Word64) (s : State), s.twinMode = 2 ∧ s.flag Fld.TWN_STATUS_SENDING = false ∧ words.length = 128
      ∧ (s.hbmConditions 0x0A (block.toNat * 1024) 1024 true).2 = none) ∧
    (∃ (s : State), s.twin.notices.length < 16) ∧
    (∃ (s : State), s.ldr.src = 3) ∧
    (∃ (count : Word32) (s : State), ∃ qatV ∈ s.twin.ping, qatV.1 = count ∧ s.flag Fld.TWN_STATUS_SENDING = false) ∧
    (∃ (count : Word32) (s : State), let phase := (s.fld Fld.TWN_RS_STAT_PHASE); ∃ qatV ∈ s.twin.ping, qatV.1 = count ∧ s.flag
      Fld.TWN_STATUS_SENDING = true ∧ phase = 1) ∧
    (∃ (s : State), s.twin.racc = true) ∧
    (∃ (addr : BitVec 28) (s : State), addr.toNat = Reg.TWN_DIV_TURN ∧ s.awake Reg.TWN_DIV_TURN) ∧
    (∃ (s : State), let phase := (s.fld Fld.TWN_RS_STAT_PHASE); ∃ j ∈ s.twin.joinAt, phase = 5 ∧ j + s.fld Fld.TWN_MATCH_WAIT_TURNS ≤
      s.seq.turn ∧ s.twinMode = 2) :=
  ⟨⟨base 0 1 [(Fld.TWN_STATUS_SENDING,0),(Fld.SEQ_STATUS_STATE,2),(Fld.TWN_RS_STAT_PHASE,0)], by decide +kernel⟩,
   ⟨tw (fun t => {t with ping := some (9,5), racc := true}) (base 2 0
     [(Fld.TWN_STATUS_SENDING,0),(Fld.TWN_RACC_CTRL_WRITE,0),(Fld.TWN_RS_STAT_PHASE,1)]), by decide +kernel⟩,
   ⟨BitVec.ofNat 64 1, tw (fun t => {t with ping := some (9,5), racc := true}) (base 2 0
     [(Fld.TWN_STATUS_SENDING,0),(Fld.TWN_RACC_CTRL_WRITE,0),(Fld.TWN_RS_STAT_PHASE,1)]), by decide +kernel⟩,
   ⟨BitVec.ofNat 64 0, base 2 1 [(Fld.TWN_STATUS_SENDING,1),(Fld.SEQ_STATUS_STATE,0),(Fld.TWN_RS_STAT_PHASE,1)], by decide +kernel⟩,
   ⟨BitVec.ofNat 64 9, tw (fun t => {t with handover := (some 9)}) (base 3 1 [(Fld.LDR_XSPI_ROLE,1)]), by decide +kernel⟩,
   ⟨BitVec.ofNat 64 0, tw (fun t => {t with ping := some (9,5), racc := true}) (base 2 0
     [(Fld.TWN_STATUS_SENDING,0),(Fld.TWN_RACC_CTRL_WRITE,0),(Fld.TWN_RS_STAT_PHASE,1)]), by decide +kernel⟩,
   ⟨BitVec.ofNat 64 9, tw (fun t => {t with handover := (some 9)}) (base 3 1 [(Fld.LDR_XSPI_ROLE,1)]), by decide +kernel⟩,
   ⟨tw (fun t => {t with ping := some (9,5), racc := true}) (base 2 0
     [(Fld.TWN_STATUS_SENDING,0),(Fld.TWN_RACC_CTRL_WRITE,0),(Fld.TWN_RS_STAT_PHASE,1)]), by decide +kernel⟩,
   ⟨tw (fun t => {t with handover := (some 9)}) (base 3 1 [(Fld.LDR_XSPI_ROLE,1)]), by decide +kernel⟩,
   ⟨4, tw (fun t => {t with ping := some (9,5), racc := true}) (base 2 0
     [(Fld.TWN_STATUS_SENDING,0),(Fld.TWN_RACC_CTRL_WRITE,0),(Fld.TWN_RS_STAT_PHASE,1)]), by decide +kernel⟩,
   ⟨tw (fun t => {t with ping := some (9,5), racc := true}) (base 2 0
     [(Fld.TWN_STATUS_SENDING,0),(Fld.TWN_RACC_CTRL_WRITE,0),(Fld.TWN_RS_STAT_PHASE,1)]), by decide +kernel⟩,
   ⟨tw (fun t => {t with handover := (some 9)}) (base 3 1 [(Fld.LDR_XSPI_ROLE,1)]), by decide +kernel⟩,
   ⟨(List.range 1024).map (BitVec.ofNat 8), hm (base 2 0 [(Fld.TWN_RS_STAT_PHASE,2)]), by decide +kernel⟩,
   ⟨5, (List.range 128).map (BitVec.ofNat 64), hm (base 2 0 [(Fld.TWN_RS_STAT_PHASE,2)]), by decide +kernel⟩,
   ⟨tw (fun t => {t with ping := some (9,5), racc := true}) (base 2 0
     [(Fld.TWN_STATUS_SENDING,0),(Fld.TWN_RACC_CTRL_WRITE,0),(Fld.TWN_RS_STAT_PHASE,1)]), by decide +kernel⟩,
   ⟨{(base 2 0) with ldr := {(base 2 0).ldr with src := 3}}, by decide +kernel⟩,
   ⟨9, tw (fun t => {t with ping := some (9,5), racc := true}) (base 2 0
     [(Fld.TWN_STATUS_SENDING,0),(Fld.TWN_RACC_CTRL_WRITE,0),(Fld.TWN_RS_STAT_PHASE,1)]), by decide +kernel⟩,
   ⟨9, tw (fun t => {t with ping := some (9,5), racc := true}) (base 2 0
     [(Fld.TWN_STATUS_SENDING,1),(Fld.TWN_RACC_CTRL_WRITE,1),(Fld.TWN_RS_STAT_PHASE,1)]), by decide +kernel⟩,
   ⟨tw (fun t => {t with ping := some (9,5), racc := true}) (base 2 0
     [(Fld.TWN_STATUS_SENDING,0),(Fld.TWN_RACC_CTRL_WRITE,0),(Fld.TWN_RS_STAT_PHASE,1)]), by decide +kernel⟩,
   ⟨BitVec.ofNat 28 Reg.TWN_DIV_TURN, tw (fun t => {t with ping := some (9,5), racc := true}) (base 2 0
     [(Fld.TWN_STATUS_SENDING,0),(Fld.TWN_RACC_CTRL_WRITE,0),(Fld.TWN_RS_STAT_PHASE,1)]), by decide +kernel⟩,
   ⟨tw (fun t => {t with joinAt := some 3}) (base 2 0 [(Fld.TWN_RS_STAT_PHASE,5),(Fld.TWN_MATCH_WAIT_TURNS,3)]), by decide +kernel⟩⟩

end TwinFrames

namespace HostAccess
def hm (s : State) : State :=
  sf [(Fld.HST_STATUS_LINK_UP,1),(Fld.HBM_STATUS_READY,1),(Fld.HBM_RGN_OWN_EN 3,1),(Fld.HBM_RGN_SIZE_SIZE 3,512),(Fld.HBM_RGN_OWN_OWNER 3,0x08)] s
def ho (f : HostSt → HostSt) (s : State) : State := {s with host := f s.host}

/-- The hypotheses of each clause of `Obligations.HostAccess` are met. -/
theorem witness_HostAccess :
    (∃ (off : BitVec 34) (len : Nat) (s : State), let o := off.toNat; s.flag Fld.HST_STATUS_LINK_UP = true ∧ (∀ b ∈ s.host.bars, b.id <
      s.host.nextBar) ∧ s.hbmAnswers = true ∧ len ≤ 4096 ∧ (s.hbmConditions 0x08 o len false).2 = none) ∧
    (∃ (off : BitVec 34) (bytes : List Byte) (s : State), let o := off.toNat; s.flag Fld.HST_STATUS_LINK_UP = true ∧ (∀ b ∈ s.host.bars,
      b.id < s.host.nextBar) ∧ s.hbmAnswers = true ∧ 0 < bytes.length ∧ bytes.length ≤ 512 ∧ (s.hbmConditions 0x08 o bytes.length true).2 =
      none ∧ s.mirrored o = false) ∧
    (∃ (off : BitVec 34) (s : State), let o := off.toNat; s.flag Fld.HST_STATUS_LINK_UP = true ∧ (∀ b ∈ s.host.bars, b.id <
      s.host.nextBar) ∧ s.awake o ∧ o % 4 = 0 ∧ o ≤ Reg.DEV_SCRATCH) ∧
    (∃ (off : BitVec 34) (s : State), let o := off.toNat; s.flag Fld.HST_STATUS_LINK_UP = true ∧ (∀ b ∈ s.host.bars, b.id <
      s.host.nextBar) ∧ s.awake o ∧ o = Reg.DEV_SCRATCH) ∧
    (∃ (bar : Bar) (off : BitVec 34) (len : Nat) (s : State), let o := off.toNat; s.flag Fld.HST_STATUS_LINK_UP = true ∧ bar ≠ .hbm ∧
      barAligned o len = false ∧ s.reg Reg.HST_MAL_CNT ≠ 0xFFFFFFFF) ∧
    (∃ (bar : Bar) (off : BitVec 34) (bytes : List Byte) (s : State), let o := off.toNat; s.flag Fld.HST_STATUS_LINK_UP = true ∧ bar ≠
      .hbm ∧ barAligned o bytes.length = false ∧ s.reg Reg.HST_MAL_CNT ≠ 0xFFFFFFFF) ∧
    (∃ (vec : Fin 64) (s : State), let a := (Reg.HST_MSIX_PBA (vec.val / 32)); let sends := (s.host.msixEnable = true ∧ s.host.busMaster =
      true ∧ (s.reg a).getLsbD (vec.val % 32) = true); sends) ∧
    (∃ (vec : Fin 64) (s : State), let a := (Reg.HST_MSIX_PBA (vec.val / 32)); let sends := (s.host.msixEnable = true ∧ s.host.busMaster =
      true ∧ (s.reg a).getLsbD (vec.val % 32) = true); ¬ sends) ∧
    (∃ (speed : Fin 5) (width : Fin 9) (s : State), speed.val ≠ 0 ∧ (width.val = 1 ∨ width.val = 2 ∨ width.val = 4 ∨ width.val = 8) ∧
      s.domState 73 = 0) :=
  ⟨⟨BitVec.ofNat 34 Reg.DEV_SCRATCH, 4096, hm up, by decide +kernel⟩,
   ⟨BitVec.ofNat 34 Reg.DEV_SCRATCH, [1], hm up, by decide +kernel⟩,
   ⟨BitVec.ofNat 34 Reg.DEV_SCRATCH, hm up, by decide +kernel⟩,
   ⟨BitVec.ofNat 34 Reg.DEV_SCRATCH, hm up, by decide +kernel⟩,
   ⟨.ring, BitVec.ofNat 34 Reg.DEV_SCRATCH, 4096, hm up, by decide +kernel⟩,
   ⟨.ring, BitVec.ofNat 34 Reg.DEV_SCRATCH, [1], hm up, by decide +kernel⟩,
   ⟨5, ho (fun h => {h with msixEnable := true, busMaster := true}) (st [(Reg.HST_MSIX_PBA 0,0x20),(Reg.HST_MSIX_TBL 23,1)] (hm up)),
     by decide +kernel⟩,
   ⟨5, hm up, by decide +kernel⟩,
   ⟨3, 4, hm up, by decide +kernel⟩⟩

end HostAccess

namespace RingEnumeration
def ho (f : HostSt → HostSt) (s : State) : State := {s with host := f s.host}

/-- The hypotheses of each clause of `Obligations.RingEnumeration` are met. -/
theorem witness_RingEnumeration :
    (∃ (mid : Mid) (s : State), s.awake Reg.LRG_CTRL ∧ (mid = 0x00 ∨ mid = 0x01 ∨ mid = 0x08) ∧ s.flag Fld.LRG_CTRL_ENUM = false) ∧
    (∃ (mid : Mid) (s : State), s.awake Reg.LRG_CTRL ∧ mid ≠ 0x00 ∧ mid ≠ 0x01 ∧ mid ≠ 0x08) ∧
    (∃ (hops : BitVec 6) (s : State), s.ringBypassed = true ∧ hops.toNat ≠ 63) ∧
    (∃ (s : State), s.ringBypassed = false ∧ s.reg Reg.LRG_CRC_CNT ≠ 0xFFFFFFFF) ∧
    (∃ (arg : Word32) (hops : BitVec 6) (s : State), let n := arg.toNat; s.ringBypassed = false ∧ s.flag Fld.LRG_STATUS_HEAD = false ∧
      hops.toNat ≠ 63 ∧ n ≤ 63) ∧
    (∃ (arg : Word32) (own : Bool) (s : State), let n := arg.toNat; s.ringBypassed = false ∧ s.flag Fld.LRG_STATUS_HEAD = true ∧ own =
      true ∧ s.host.enumSent = true ∧ s.host.heldBar2 = [] ∧ 1 ≤ n ∧ n ≤ 64) ∧
    (∃ (own : Bool) (s : State), s.ringBypassed = false ∧ s.flag Fld.LRG_STATUS_HEAD = true ∧ (own = false ∨ s.host.enumSent = false)) ∧
    (∃ (s : State), s.host.enumSent = true ∧ s.host.heldBar2 = []) :=
  ⟨⟨0, ho (fun h => {h with reqs := ([]), enumSent := true}) (sf [(Fld.LRG_CTRL_ENUM,0),(Fld.LRG_STATUS_HEAD,0)] up), by decide +kernel⟩,
   ⟨9, ho (fun h => {h with reqs := ([]), enumSent := true}) (sf [(Fld.LRG_CTRL_ENUM,0),(Fld.LRG_STATUS_HEAD,1)] up), by decide +kernel⟩,
   ⟨3, State.reset, by decide +kernel⟩,
   ⟨ho (fun h => {h with reqs := ([]), enumSent := true}) (sf [(Fld.LRG_CTRL_ENUM,0),(Fld.LRG_STATUS_HEAD,0)] up), by decide +kernel⟩,
   ⟨0, 0, ho (fun h => {h with reqs := ([]), enumSent := true}) (sf [(Fld.LRG_CTRL_ENUM,0),(Fld.LRG_STATUS_HEAD,0)] up),
     by decide +kernel⟩,
   ⟨1, true, ho (fun h => {h with reqs := ([]), enumSent := true}) (sf [(Fld.LRG_CTRL_ENUM,0),(Fld.LRG_STATUS_HEAD,1)] up),
     by decide +kernel⟩,
   ⟨false, ho (fun h => {h with reqs := ([]), enumSent := true}) (sf [(Fld.LRG_CTRL_ENUM,0),(Fld.LRG_STATUS_HEAD,1)] up),
     by decide +kernel⟩,
   ⟨ho (fun h => {h with reqs := ([]), enumSent := true}) (sf [(Fld.LRG_CTRL_ENUM,0),(Fld.LRG_STATUS_HEAD,0)] up), by decide +kernel⟩⟩

end RingEnumeration

namespace RingTraffic
def ho (f : HostSt → HostSt) (s : State) : State := {s with host := f s.host}
def rq (k := 0): RingReq := ⟨77,3,4,none,k⟩
def br : BarReq := ⟨0,2,5,false,1,Code.ok,[]⟩
def h (dst src tag hops : Nat) : RingHeader := ⟨Fin.ofNat 64 dst,Fin.ofNat 64 src,false,BitVec.ofNat 8 tag,Fin.ofNat 64 hops⟩
def e (hd num : Nat) (l : List (Field × Nat) := []) : State :=
  sf ([(Fld.LRG_STATUS_ENUMERATED,1),(Fld.LRG_STATUS_HEAD,hd),(Fld.LRG_STATUS_NUM,num),(Fld.LRG_STATUS_COUNT,7),(Fld.HST_STATUS_LINK_UP,1)] ++ l) up
def ld (exp : Nat) (held : Nat) : State :=
  let s := e 0 5; ho (fun h => {h with loadExp := exp}) {s with ldr := {s.ldr with src := 2, phase := 2, stream := [(2, List.replicate held 9)]}}

/-- The hypotheses of each clause of `Obligations.RingTraffic` are met. -/
theorem witness_RingTraffic :
    (∃ (hdr : RingHeader) (addr : BitVec 28) (s : State), let up := (s.ringBypassed = false ∧ s.devState = 0 ∧ hdr.bcast = false); let
      mine := (up ∧ s.ringMine hdr.dst false = true); mine ∧ s.awake addr.toNat ∧ addr.toNat % 4 = 0 ∧ addr.toNat ≤ Reg.DEV_SCRATCH) ∧
    (∃ (hdr : RingHeader) (addr : BitVec 28) (s : State), let up := (s.ringBypassed = false ∧ s.devState = 0 ∧ hdr.bcast = false); let
      mine := (up ∧ s.ringMine hdr.dst false = true); mine ∧ s.awake addr.toNat ∧ addr.toNat = Reg.DEV_SCRATCH) ∧
    (∃ (hdr : RingHeader) (s : State), let up := (s.ringBypassed = false ∧ s.devState = 0 ∧ hdr.bcast = false); up ∧ s.ringMine hdr.dst
      false = false ∧ hdr.hops.val ≠ 63) ∧
    (∃ (hdr : RingHeader) (s : State), let up := (s.ringBypassed = false ∧ s.devState = 0 ∧ hdr.bcast = false); let mine := (up ∧
      s.ringMine hdr.dst false = true); s.host.reqs.length = 1 ∧ ∃ r ∈ s.host.reqs.head?, s.host.bars.length = 1 ∧ ∃ b ∈ s.host.bars.head?,
      r.bar = b.id ∧ b.parts = 1 ∧ b.status = Code.ok ∧ b.data = [] ∧ b.write = false ∧ r.write = none ∧ s.host.heldBar2 = [] ∧
      s.host.enumWait = false ∧ mine ∧ r.tag = hdr.tag.toNat ∧ r.dst = hdr.src.val) ∧
    (∃ (hdr : RingHeader) (s : State), s.host.reqs.length = 1 ∧ ∃ r ∈ s.host.reqs.head?, s.host.bars.length = 1 ∧ ∃ b ∈ s.host.bars.head?,
      r.bar = b.id ∧ b.parts = 1 ∧ b.status = Code.ok ∧ b.data = [] ∧ b.write = false ∧ r.write = none ∧ s.host.heldBar2 = [] ∧
      s.host.enumWait = false ∧ r.tag = hdr.tag.toNat) ∧
    (∃ (hdr : RingHeader) (vec : Fin 64) (s : State), let up := (s.ringBypassed = false ∧ s.devState = 0 ∧ hdr.bcast = false); let mine :=
      (up ∧ s.ringMine hdr.dst false = true); mine ∧ s.flag Fld.LRG_STATUS_HEAD = true ∧ s.host.evtq.length < 64 ∧ (s.reg (Reg.HST_MSIX_TBL
      (4 * vec.val + 3))).getLsbD 0 = false ∧ s.host.msixEnable = true ∧ s.host.busMaster = true) ∧
    (∃ (hdr : RingHeader) (seq : Word32) (s : State), let held := (Sparse.get [] s.ldr.stream 2); s.ringBypassed = false ∧ s.flag
      Fld.LRG_STATUS_HEAD = false ∧ s.takesLoad = true ∧ hdr.hops.val ≠ 63 ∧ seq.toNat = s.host.loadExp ∧ held.length + 128 ≤ 65536) ∧
    (∃ (hdr : RingHeader) (seq : Word32) (s : State), let held := (Sparse.get [] s.ldr.stream 2); s.ringBypassed = false ∧ s.flag
      Fld.LRG_STATUS_HEAD = false ∧ s.takesLoad = true ∧ hdr.hops.val ≠ 63 ∧ (s.host.loadExp < seq.toNat ∨ (seq.toNat = s.host.loadExp ∧
      65536 < held.length + 128))) ∧
    (∃ (bytes : List Byte) (s : State), s.awake 0x08210000 ∧ 65536 < s.host.loadBuf.length + bytes.length) ∧
    (∃ (bytes : List Byte) (s : State), s.awake 0x08210000 ∧ s.flag Fld.LRG_STATUS_HEAD = true ∧ s.host.loadBuf = [] ∧ bytes ≠ [] ∧
      bytes.length ≤ 128 ∧ s.host.loadSent.length < 128) ∧
    (∃ (s : State), s.awake Reg.LRG_EVTQ ∧ ∃ qd ∈ s.host.evtq.head?, True) ∧
    (∃ (off : BitVec 34) (s : State), s.flag Fld.HST_STATUS_LINK_UP = true ∧ off.toNat % 4 = 0 ∧ off.toNat / 2 ^ 28 ≠ 0 ∧ s.host.heldBar2
      = [] ∧ s.ringHolds = false ∧ s.ringNoDev (off.toNat / 2 ^ 28) = false) :=
  ⟨⟨h 0 3 77 5, 0, ho (fun x => {x with reqs := [rq], bars := [br], nextBar := 4}) (e 1 0), by decide +kernel⟩,
   ⟨h 0 3 77 0, BitVec.ofNat 28 Reg.DEV_SCRATCH, e 0 0, by decide +kernel⟩,
   ⟨h 0 3 77 5, ld 3 0, by decide +kernel⟩,
   ⟨h 0 3 77 5, ho (fun x => {x with reqs := [rq], bars := [br], nextBar := 4}) (e 1 0), by decide +kernel⟩,
   ⟨h 0 3 77 5, ho (fun x => {x with reqs := [rq], bars := [br], nextBar := 4}) (e 1 0), by decide +kernel⟩,
   ⟨h 0 3 77 5, 9, ho (fun x => {x with evtq := [(1,2,3),(2,1,0)], msixEnable := true, busMaster := true}) (st [(Reg.HST_MSIX_TBL 39,0)]
     (e 1 0)), by decide +kernel⟩,
   ⟨h 0 3 77 5, 4, ld 4 0, by decide +kernel⟩,
   ⟨h 0 3 77 5, 4, ld 3 0, by decide +kernel⟩,
   ⟨List.replicate 65537 5, ho (fun x => {x with loadSent := (List.range 0).map fun i => (i,[])}) (e 1 0), by decide +kernel⟩,
   ⟨[1,2,3], ho (fun x => {x with reqs := [rq], bars := [br], nextBar := 4}) (e 1 0), by decide +kernel⟩,
   ⟨ho (fun x => {x with evtq := [(1,2,3),(2,1,0)], msixEnable := true, busMaster := true}) (st [(Reg.HST_MSIX_TBL 39,0)] (e 1 0)),
     by decide +kernel⟩,
   ⟨BitVec.ofNat 34 (5*2^28+8), ho (fun x => {x with reqs := [rq], bars := [br], nextBar := 4}) (e 1 0), by decide +kernel⟩⟩

end RingTraffic

/-- The hypotheses of each clause of `Obligations.StepTakesTheFront` are met. -/
theorem witness_StepTakesTheFront :
    (∃ (c : Instr) (rest : List Instr) (s : State), s.pending = c :: rest) ∧ (∃ s : State, s.pending = []) :=
  ⟨⟨.porstN, [.powerOnReset], { State.reset with pending := [.porstN, .powerOnReset] }, rfl⟩, ⟨State.reset, rfl⟩⟩

/-- The hypotheses of each clause of `Obligations.EveryRunGoesOn` are met. -/
theorem witness_EveryRunGoesOn :
    ∃ s t : State, step s = .next t :=
  ⟨State.reset, State.reset.tick, rfl⟩

/-- The hypotheses of each clause of `Obligations.ThermometerNeverFalls` are met. -/
theorem witness_ThermometerNeverFalls :
    (∃ i j : Nat, i < 64 ∧ i < j ∧ j < 64) ∧ (∃ (s t : State) (i : Nat), step s = .next t ∧ s.sec.therm.getLsbD i = true) :=
  ⟨⟨62, 63, by decide⟩, ⟨{ State.reset with sec := { State.reset.sec with therm := 1 } }, _, 0, rfl, by decide⟩⟩

/-- The hypotheses of each clause of `Obligations.RootCounter` are met. -/
theorem witness_RootCounter :
    (∃ s t : State, exec .porstN s = .next t) ∧ (∃ s t : State, exec .powerOnReset s = .next t) ∧
    (∃ (c : Instr) (s t : State), exec c s = .next t ∧ c ≠ .porstN ∧ c ≠ .powerOnReset) ∧
    (∃ s : State, s.clock.rpllOn = false) ∧
    (∃ s : State, s.flag Fld.CLK_STATUS_LOCK = false ∧ s.flag Fld.CLK_STATUS_HOLDOVER = false) ∧
    (∃ s : State, s.clock.porst = false ∧ s.clock.rpllOn = true ∧
      (s.flag Fld.CLK_STATUS_LOCK = true ∨ s.flag Fld.CLK_STATUS_HOLDOVER = true) ∧ s.pwr.divider ≠ 0) :=
  ⟨⟨State.reset, _, rfl⟩, ⟨State.reset, _, rfl⟩, ⟨.refclk0Loss, State.reset, _, rfl, by decide, by decide⟩, ⟨State.reset, rfl⟩,
   ⟨State.reset, by decide +kernel⟩, ⟨{ up with pwr := { up.pwr with divider := 4 } }, by decide +kernel⟩⟩

/-- The hypotheses of each clause of `Obligations.MemoriesKept` are met. -/
theorem witness_MemoriesKept :
    ∃ (c : Instr) (s t : State), mayStore c = false ∧ exec c s = .next t :=
  ⟨.refclk0Loss, State.reset, _, rfl, rfl⟩

namespace CarrelWithdrawal
def bd (a b : Mid) (c : Fin 32 := 7) : State :=
  ru [.crlBindWrite 0 c ((Fld.CRL_BIND_MID_A c).put ((Fld.CRL_BIND_MID_B c).put 0 b.toNat) a.toNat)] up

/-- The hypotheses of each clause of `Obligations.CarrelWithdrawal` are met. -/
theorem witness_CarrelWithdrawal :
    (∃ (mid : Mid) (c : Fin 32) (e : Nat) (v : Word32) (addr : BitVec 28) (s : State), addr.toNat = endWindow c 0x80 ∧ v.getLsbD 31 = true
      ∧ s.awake (endWindow c 0x80) ∧ s.endOf c mid = some e ∧ (s.slot c e).full = true) ∧
    (∃ (mid : Mid) (c : Fin 32) (e : Nat) (v : Word32) (addr : BitVec 28) (s : State), addr.toNat = endWindow c 0x80 ∧ v.getLsbD 31 = true
      ∧ s.awake (endWindow c 0x80) ∧ s.endOf c mid = some e ∧ (s.slot c e).full = false) :=
  ⟨⟨BitVec.ofNat 8 0, 7, 0, 0xFFFFFFFF, BitVec.ofNat 28 (endWindow 7 0x80), ru ([.crlPost 0 7 5 6,.crlPost 1 7 5 6]) (sf
     [(Fld.CRL_TMO_US,3)] (bd 0 1)), by decide +kernel⟩,
   ⟨BitVec.ofNat 8 0, 7, 0, 0xFFFFFFFF, BitVec.ofNat 28 (endWindow 7 0x80), ru ([]) (sf [(Fld.CRL_TMO_US,3)] (bd 0 1)), by decide +kernel⟩⟩

end CarrelWithdrawal

end Witnesses

end Sys2Proof.Tests
end

/-! PROOFS.  What a step does, by the shape of the queue. -/

namespace Sys2Proof.Machine

/-- A command at the front of the queue: the step is that command's, on the queue's rest. -/
@[simp] theorem step_of_pending_cons {c : Instr} {rest : List Instr} {s : State} (h : s.pending = c :: rest) :
    step s = exec c { s with pending := rest } := by
  rw [step, h]

/-- An empty queue: the step is a cycle of the step clock (DESIGN CHOICE, log entry 67). -/
@[simp] theorem step_of_pending_nil {s : State} (h : s.pending = []) : step s = .next s.tick := by
  rw [step, h]

/-- Settles O53: the two equations of a step, one for each shape of the queue. -/
theorem stepTakesTheFront : Obligations.StepTakesTheFront :=
  ⟨fun _ _ _ h => step_of_pending_cons h, fun _ h => step_of_pending_nil h⟩

end Sys2Proof.Machine

/-! PROOFS.  The state after reset. -/

namespace Sys2Proof.Machine

/-- After reset nothing is listed in the register file, so that every register reads its reset value. -/
@[simp] theorem State.reg_reset (a : Nat) : State.reset.reg a = Reg.resetOf a := Sparse.get_nil _ a

@[simp] theorem State.fld_reset (f : Field) : State.reset.fld f = f.get (Reg.resetOf f.addr) := by
  rw [State.fld, State.reg_reset]

@[simp] theorem State.flag_reset (f : Field) : State.reset.flag f = (f.get (Reg.resetOf f.addr) != 0) := by
  rw [State.flag, State.fld_reset]

/-- The state registers of all domains have the reset value RUN (R514; DESIGN CHOICE, log entry 104). -/
theorem Reg.resetOf_PWR_DSTAT : ∀ d < 88, Reg.resetOf (Reg.PWR_DSTAT d) = 0 := by decide +kernel

theorem State.domState_reset {d : Nat} (h : d < 88) : State.reset.domState d = 0 := by
  rw [State.domState, State.fld_reset, Reg.resetOf_PWR_DSTAT d h]
  rfl

@[simp] theorem State.task_reset (n : Nat) : State.reset.task n = Task.reset := Sparse.get_nil _ n

@[simp] theorem State.slot_reset (c e : Nat) : State.reset.slot c e = Slot.reset := Sparse.get_nil _ _

@[simp] theorem State.cEnd_reset (c e : Nat) : State.reset.cEnd c e = CarrelEnd.reset := Sparse.get_nil _ _

/-- Settles O54: a register read is a look-up in the table of reset values, and every list of the state is empty.  The values where the
manual gives none are the model's choice (log entries 5, 68, 69, 70 and 104). -/
theorem afterReset : Obligations.AfterReset := by
  have hident : State.reset.fld Fld.DEV_IDENT_PART = 0x9640 := by rw [State.fld_reset]; decide
  have hdev : State.reset.devState = 0 := by rw [State.devState, State.fld_reset]; decide
  have hseq : State.reset.seqState = 0 := by rw [State.seqState, State.fld_reset]; decide
  have htwin : State.reset.twinMode = 0 := by rw [State.twinMode, State.fld_reset]; decide
  have hpaired : State.reset.flag Fld.TWN_STATUS_PAIRED = false := by rw [State.flag_reset]; decide
  have hcarrel (c e : Nat) : (State.reset.slot c e).full = false ∧ (State.reset.cEnd c e).epoch = 0 := by
    rw [State.slot_reset, State.cEnd_reset]
    exact ⟨rfl, rfl⟩
  exact ⟨rfl, State.reg_reset, hident, rfl, rfl, fun _ => State.domState_reset, hdev, hseq, htwin, hpaired, State.task_reset, hcarrel,
    rfl, rfl, rfl, rfl⟩

end Sys2Proof.Machine

/-! PROOFS.  The root counter: what commands and cycles do to it, and where its 64 bits end. -/

namespace Sys2Proof.Machine

/-! ## The counter as 64 bits -/

/-- C is the root count over 4 up to its 64 bits, and no longer. -/
theorem State.count_eq_rootCnt_div_iff (s : State) : s.count = s.clock.rootCnt / 4 ↔ s.clock.rootCnt < 2 ^ 66 := by
  unfold State.count
  omega

/-- The device at the first wrap of C: 2^66 cycles of the root have passed. -/
def wrappedRoot : State := { State.reset with clock := { ClockSt.reset with rootCnt := 2 ^ 66 } }

/-- Refutes O57: its last clause says of every state that C is the root count over 4, and C has 64 bits (R344).  In `wrappedRoot` C reads 0
and the root count over 4 is 2^64.  Below the wrap all clauses hold: `rootCounter_below_wrap`. -/
theorem not_rootCounter : ¬ Obligations.RootCounter := by
  rintro ⟨-, hstate⟩
  obtain ⟨-, -, -, hcount⟩ := hstate wrappedRoot
  have hlt : wrappedRoot.clock.rootCnt < 2 ^ 66 := (State.count_eq_rootCnt_div_iff _).1 hcount
  exact Nat.lt_irrefl _ hlt

/-! ## Commands -/

/-- The root counter is among what a state keeps. -/
theorem State.rootCnt_eq_kept (s : State) : s.clock.rootCnt = s.kept.1.2.2 := rfl

/-- The exit from OFF resets what is not in PDAON; queue, thermometer and root counter stay (R344, R526). -/
@[simp] theorem State.leaveOff_kept (s : State) : s.leaveOff.kept.1 = s.kept.1 := by
  simp [State.leaveOff]

@[simp] theorem execWakeN_kept (suppliesOk : Bool) (s : State) : queueOf (execWakeN suppliesOk s) = some s.kept.1 := by
  simp [execWakeN]

@[simp] theorem execEthernetFrameReceive_kept (lane : Fin 103) (bytes : List Byte) (fcsOk : Bool) (count : Word64) (frac : Byte)
    (s : State) : keptOf (execEthernetFrameReceive lane bytes fcsOk count frac s) = some s.kept := by
  simp [execEthernetFrameReceive]

@[simp] theorem execFrameTransmitRequest_kept (lane : Fin 103) (core : Fin 2) (tag : BitVec 16) (wantTs : Bool) (bytes : List Byte)
    (s : State) : keptOf (execFrameTransmitRequest lane core tag wantTs bytes s) = some s.kept := by
  simp [execFrameTransmitRequest]

/-- Every command but the two resets and the burning of fuses keeps the queue, the thermometer and the root counter; those named here may
store in a memory, the others keep the memories too. -/
theorem exec_keeps_queue {c : Instr} (hporst : c ≠ .porstN) (hpor : c ≠ .powerOnReset) (hburn : c ≠ .fuseBurnDone) (s : State) :
    queueOf (exec c s) = some s.kept.1 := by
  cases c with
  | porstN => exact absurd rfl hporst
  | powerOnReset => exact absurd rfl hpor
  | fuseBurnDone => exact absurd rfl hburn
  | wakeN | wakeComplete | exitComplete | registerWrite | stickyClear | memoryRead | memoryWrite | ringWr | rzRd | rzWr | twinReg
  | debugTransaction | sramError | captureWord | archiveDrop | dumpDone | dumpFail | probeBufferFree | captureCopyDone | turnBoundary
  | stallEnd | barReady | barGo | seqStart | seqStop | seqPause | seqResume | seqStep | seqLevel | seqCapture | loadFull | loadPartial
  | ldrRepair | ldrSwap | ldrAbort | phyTrainingDone | imageFrame | partialLoadComplete | progStartSeq | twinLog | twinHbmcopy
  | sensorSample | voltageInForce | voltageTimeout | throttleEnd | firmwareLoaded | firmwareArrival => simp [exec]
  | _ => exact queueOf_of_keptOf (by simp [exec])

@[simp] theorem State.burn_rootCnt (s : State) (code : Nat) (arg : Word32) (ext : List Byte) :
    (s.burn code arg ext).kept.1.2.2 = s.kept.1.2.2 := by
  unfold State.burn
  split <;> simp [State.rootCnt_eq_kept]

theorem execFuseBurnDone_rootCnt {s t : State} (h : execFuseBurnDone s = .next t) : t.clock.rootCnt = s.clock.rootCnt := by
  obtain rfl := Host.Outcome.next.inj h
  rw [State.rootCnt_eq_kept]
  (repeat' split) <;> simp [State.rootCnt_eq_kept]

/-- PORST_N low, and the power-on reset as it, set the root counter to 0 (R344, R588, R589). -/
theorem State.porstLow_rootCnt (s : State) : s.porstLow.clock.rootCnt = 0 := rfl

/-- No command but the two resets changes the root counter (R344). -/
theorem exec_keeps_rootCnt {c : Instr} {s t : State} (h : exec c s = .next t) (hporst : c ≠ .porstN) (hpor : c ≠ .powerOnReset) :
    t.clock.rootCnt = s.clock.rootCnt := by
  by_cases hburn : c = .fuseBurnDone
  · subst hburn
    exact execFuseBurnDone_rootCnt h
  · have hqueue := exec_keeps_queue hporst hpor hburn s
    rw [h, queueOf_next, Option.some_inj] at hqueue
    exact congrArg (·.2.2) hqueue

theorem State.count_congr {s t : State} (h : t.clock.rootCnt = s.clock.rootCnt) : t.count = s.count := by
  rw [State.count, State.count, h]

/-! ## Cycles of the step clock -/

/-- The root does not run: PORST_N is low, the RPLL is off, or it neither is locked nor holds (R22, R344). -/
def State.rootStopped (s : State) : Bool :=
  s.clock.porst || !s.clock.rpllOn || !(s.flag Fld.CLK_STATUS_LOCK || s.flag Fld.CLK_STATUS_HOLDOVER)

/-- A cycle in which the root does not run changes nothing. -/
theorem State.tick_of_rootStopped {s : State} (h : s.rootStopped = true) : s.tick = s := if_pos h

/-- A cycle in which the root runs advances the root counter, and nothing else in it touches that counter. -/
theorem State.tick_rootCnt_of_rootRuns {s : State} (h : s.rootStopped = false) :
    s.tick.clock.rootCnt = s.rootAdvance.clock.rootCnt := by
  rw [State.rootStopped] at h
  rw [State.tick, if_neg (ne_true_of_eq_false h)]
  simp [State.rootCnt_eq_kept]

theorem State.rootAdvance_rootCnt {s : State} (h : s.pwr.divider ≠ 0) :
    s.rootAdvance.clock.rootCnt = s.clock.rootCnt + s.pwr.divider := by
  simp [State.rootAdvance, h]

/-- What O57 says, with its states kept below the wrap of C: the resets clear the counter, no other command moves it, a cycle adds the
division of the step clock where the root runs and nothing where it does not. -/
theorem rootCounter_below_wrap :
    (∀ (c : Instr) (s t : State), exec c s = .next t →
      (c = .porstN ∨ c = .powerOnReset → t.clock.rootCnt = 0 ∧ t.count = 0) ∧
      (c ≠ .porstN → c ≠ .powerOnReset → t.clock.rootCnt = s.clock.rootCnt ∧ t.count = s.count)) ∧
    (∀ s : State, s.clock.rootCnt < 2 ^ 66 →
      (s.clock.rpllOn = false → s.tick.clock.rootCnt = s.clock.rootCnt) ∧
      (s.flag Fld.CLK_STATUS_LOCK = false → s.flag Fld.CLK_STATUS_HOLDOVER = false → s.tick.clock.rootCnt = s.clock.rootCnt) ∧
      (s.clock.porst = false → s.clock.rpllOn = true → s.flag Fld.CLK_STATUS_LOCK = true ∨ s.flag Fld.CLK_STATUS_HOLDOVER = true →
        s.pwr.divider ≠ 0 → s.tick.clock.rootCnt = s.clock.rootCnt + s.pwr.divider) ∧
      s.count = s.clock.rootCnt / 4) := by
  refine ⟨fun c s t h => ⟨?_, ?_⟩, fun s hlt => ⟨?_, ?_, ?_, ?_⟩⟩
  · have hreset (ht : s.porstLow = t) : t.clock.rootCnt = 0 ∧ t.count = 0 := by
      subst ht
      exact ⟨s.porstLow_rootCnt, State.count_congr (s := State.reset) s.porstLow_rootCnt⟩
    rintro (rfl | rfl) <;> exact hreset (Host.Outcome.next.inj h)
  · intro hporst hpor
    have hroot := exec_keeps_rootCnt h hporst hpor
    exact ⟨hroot, State.count_congr hroot⟩
  · intro hoff
    rw [State.tick_of_rootStopped (by simp [State.rootStopped, hoff])]
  · intro hlock hhold
    rw [State.tick_of_rootStopped (by simp [State.rootStopped, hlock, hhold])]
  · intro hporst hon hlock hdiv
    have hruns : s.rootStopped = false := by rcases hlock with hl | hl <;> simp [State.rootStopped, hporst, hon, hl]
    rw [State.tick_rootCnt_of_rootRuns hruns, State.rootAdvance_rootCnt hdiv]
  · exact s.count_eq_rootCnt_div_iff.2 hlt

end Sys2Proof.Machine

/-! PROOFS.  What the execution of a word does to the state: the mark of the BP, the reads of its operands, drives, slot writes, faults. -/

namespace Sys2Proof.Machine

/-! ## The mark of a BP that executes -/

/-- A state with other marks of BPs that have executed, and other clean checks of stored words. -/
def State.marked (s : State) (ran : Pairs Bool) (clean : Pairs Nat) : State :=
  { s with cns := { s.cns with clean := clean }, arr := { s.arr with ran := ran } }

section
variable (s : State) (ran : Pairs Bool) (clean : Pairs Nat)

@[simp] theorem State.marked_marked (ran' : Pairs Bool) (clean' : Pairs Nat) :
    (s.marked ran clean).marked ran' clean' = s.marked ran' clean' := rfl
@[simp] theorem State.fetch_marked (n f b : Nat) : (s.marked ran clean).fetch n f b = s.fetch n f b := rfl
@[simp] theorem State.operand_marked (n f b sel : Nat) : (s.marked ran clean).operand n f b sel = s.operand n f b sel := rfl

end

/-- Where the word of a BP checks clean, its execution begins with the mark and the note of the check (R37, R443). -/
theorem State.markRan_of_clean {s : State} {n f b : Nat} (h : (s.fetch n f b).2 = .clean) :
    s.markRan n f b = s.marked (Sparse.put false s.arr.ran (bpKey n f b) true)
      (Sparse.put 0 s.cns.clean (imemLoc n f b (s.fetchIndex n)) s.seq.turn) := by
  simp only [State.markRan, h]
  rfl

/-- A BP whose mark stands has run. -/
theorem State.hasRun_of_ran_eq_put {s : State} {n f b : Nat} {ran : Pairs Bool} (h : s.arr.ran = Sparse.put false ran (bpKey n f b) true) :
    s.hasRun n f b = true := by
  rw [State.hasRun, h, Sparse.get_put_same]

/-! ## Operands -/

/-- An operand whose read records no fault (R43, R47, R133). -/
def Operand.quiet (o : Operand) : Prop := o.reserved = false ∧ o.poison = false ∧ o.early = false

/-- The read of a quiet operand gives its value and leaves the state as it is. -/
theorem State.readOperand_of_quiet {s : State} {n f b sel : Nat} (h : (s.operand n f b sel).quiet) (field : Nat) :
    s.readOperand n f b field sel = ((s.operand n f b sel).val, s) := by
  obtain ⟨hreserved, hpoison, hearly⟩ := h
  simp [State.readOperand, State.operandFaults, hreserved, hpoison, hearly]

/-- The truth table's bit for the values of the four operands (R41). -/
def State.truthBit (s : State) (n f b : Nat) (i : Insn) : Bool :=
  i.tt.testBit ((if (s.operand n f b i.a).val then 1 else 0) + (if (s.operand n f b i.b).val then 2 else 0) +
    (if (s.operand n f b i.c).val then 4 else 0) + (if (s.operand n f b i.d).val then 8 else 0))

@[simp] theorem State.truthBit_marked (s : State) (ran : Pairs Bool) (clean : Pairs Nat) (n f b : Nat) (i : Insn) :
    (s.marked ran clean).truthBit n f b i = s.truthBit n f b i := rfl

/-- With four quiet operands the truth table gives its bit and no fault. -/
theorem State.truth_of_quiet {s : State} {n f b : Nat} {i : Insn}
    (h : ∀ sel, sel = i.a ∨ sel = i.b ∨ sel = i.c ∨ sel = i.d → (s.operand n f b sel).quiet) :
    s.truth n f b i = (s.truthBit n f b i, s) := by
  have ha := State.readOperand_of_quiet (h i.a (by simp))
  have hb := State.readOperand_of_quiet (h i.b (by simp))
  have hc := State.readOperand_of_quiet (h i.c (by simp))
  have hd := State.readOperand_of_quiet (h i.d (by simp))
  simp only [State.truth, ha, hb, hc, hd]
  rfl

/-! ## Drives and faults -/

/-- A drive is the last of its frond. -/
theorem State.drive_drives_same (s : State) (n f wire b : Nat) (v : Bool) (dst : Nat) :
    Sparse.get [] (s.drive n f wire b v dst).arr.drives (n * 16 + f) =
      Sparse.get [] s.arr.drives (n * 16 + f) ++ [{ wire := wire, bp := b, val := v, dst := dst }] :=
  Sparse.get_put_same _ _ _ _

/-- A drive leaves those of the other fronds alone. -/
theorem State.drive_drives_other (s : State) (n f wire b : Nat) (v : Bool) (dst : Nat) {j : Nat} (h : j ≠ n * 16 + f) :
    Sparse.get [] (s.drive n f wire b v dst).arr.drives j = Sparse.get [] s.arr.drives j :=
  Sparse.get_put_other _ _ _ _ h

/-- A fault of a BP changes nothing but the faults of the step, and afterwards they hold one of this BP and cause (R64, R65). -/
theorem State.bpFault_eq (s : State) (n cause f b field value : Nat) :
    ∃ l, s.bpFault n cause f b field value = { s with arr := { s.arr with faults := l } } ∧
      ∃ x ∈ l, x.sorus = n ∧ x.cause = cause ∧ x.frond = f ∧ x.bp = b := by
  by_cases hany : s.arr.faults.any (fun r => decide (r.sorus = n ∧ r.cause = cause ∧ r.frond = f ∧ r.bp = b)) = true
  · obtain ⟨x, hx, hmatch⟩ := List.any_eq_true.1 hany
    exact ⟨s.arr.faults, by rw [State.bpFault, if_pos hany], x, hx, of_decide_eq_true hmatch⟩
  · refine ⟨_, by rw [State.bpFault, if_neg hany]; rfl, _, List.mem_append_right _ (List.mem_singleton_self _), rfl, rfl, rfl, rfl⟩

/-! ## The commands that name a BP -/

/-- A BP that can execute its word in this step: the sorus executes, the BP has not run, and the word checks clean. -/
structure State.BpReady (s : State) (n f b : Nat) : Prop where
  executes : s.executes n = true
  notRun : s.hasRun n f b = false
  clean : (s.fetch n f b).2 = .clean

/-- A command that names a BP whose word holds its opcode executes the word. -/
theorem completes_runOp {c : Instr} {s : State} {p : BpId} {ok : Nat → Bool} {P : State → Prop}
    (hexec : exec c s = .next (s.runOp p ok)) (hok : ok (s.fetch p.sorus p.frond p.bp).1.op = true)
    (hP : P (s.runBp p.sorus p.frond p.bp)) : Completes c s P :=
  ⟨_, hexec, by rwa [State.runOp, if_pos hok]⟩

/-- A command that names the base of a gang group, with its GOP, executes the group (R57, R58). -/
theorem completes_runGang {c : Instr} {s : State} {p : BpId} {ok : Nat → Bool} {P : State → Prop}
    (hexec : exec c s = .next (s.runGang p ok)) (hop : (s.fetch p.sorus p.frond p.bp).1.op = 3)
    (hok : ok (gangOp (s.fetch p.sorus p.frond p.bp).1.tt) = true) (hP : P (s.runBp p.sorus p.frond p.bp)) : Completes c s P :=
  ⟨_, hexec, by rwa [State.runGang, if_pos ⟨hop, hok⟩]⟩

end Sys2Proof.Machine

/-! PROOFS.  A Boolean processor executes its word. -/

namespace Sys2Proof.Machine

/-! ## What a BP's execution may change -/

/-- From `s` to `t` the BP has run, and besides its mark and the clean check only slot writes, drives, votes and faults differ. -/
def State.RanBp (s : State) (n f b : Nat) (t : State) : Prop :=
  t.hasRun n f b = true ∧ t.cns = { s.cns with clean := t.cns.clean } ∧
    t = { s with cns := t.cns, arr := { s.arr with
      ran := t.arr.ran, slotWrites := t.arr.slotWrites, drives := t.arr.drives, voted0 := t.arr.voted0, faults := t.arr.faults } }

/-- From `s` to `t` the BP drives one wire of its frond, and neither votes nor faults. -/
def State.DroveBp (s : State) (n f b wire : Nat) (v : Bool) (dst : Nat) (t : State) : Prop :=
  Sparse.get [] t.arr.drives (n * 16 + f) =
      Sparse.get [] s.arr.drives (n * 16 + f) ++ [{ wire := wire, bp := b, val := v, dst := dst }] ∧
    (∀ j, j ≠ n * 16 + f → Sparse.get [] t.arr.drives j = Sparse.get [] s.arr.drives j) ∧
    t.arr.voted0 = s.arr.voted0 ∧ t.arr.faults = s.arr.faults

/-- From `s` to `t` the BP gives nothing, and the step holds a fault of it. -/
def State.FaultedBp (s : State) (n f b cause : Nat) (t : State) : Prop :=
  t.arr.drives = s.arr.drives ∧ t.arr.slotWrites = s.arr.slotWrites ∧ t.arr.voted0 = s.arr.voted0 ∧
    ∃ x ∈ t.arr.faults, x.sorus = n ∧ x.cause = cause ∧ x.frond = f ∧ x.bp = b

section
variable {s : State} {n f b : Nat}

theorem State.BpReady.ranBp_markRan (h : s.BpReady n f b) : s.RanBp n f b (s.markRan n f b) := by
  rw [State.markRan_of_clean h.clean]
  exact ⟨State.hasRun_of_ran_eq_put rfl, rfl, rfl⟩

/-- The mark of a ready BP gives no slot write, drive, vote or fault. -/
theorem State.BpReady.markRan_gives (h : s.BpReady n f b) :
    (s.markRan n f b).arr.drives = s.arr.drives ∧ (s.markRan n f b).arr.slotWrites = s.arr.slotWrites ∧
      (s.markRan n f b).arr.voted0 = s.arr.voted0 ∧ (s.markRan n f b).arr.faults = s.arr.faults := by
  rw [State.markRan_of_clean h.clean]
  exact ⟨rfl, rfl, rfl, rfl⟩

/-- The marked BP drives a wire. -/
theorem State.BpReady.markRan_drive (h : s.BpReady n f b) (wire : Nat) (v : Bool) (dst : Nat) :
    s.RanBp n f b ((s.markRan n f b).drive n f wire b v dst) ∧
      ((s.markRan n f b).drive n f wire b v dst).arr.slotWrites = s.arr.slotWrites ∧
      s.DroveBp n f b wire v dst ((s.markRan n f b).drive n f wire b v dst) := by
  rw [State.markRan_of_clean h.clean]
  exact ⟨⟨State.hasRun_of_ran_eq_put rfl, rfl, rfl⟩, rfl, State.drive_drives_same _ _ _ _ _ _ _,
    fun _ hj => State.drive_drives_other _ _ _ _ _ _ _ hj, rfl, rfl⟩

/-- The marked BP records a fault. -/
theorem State.BpReady.markRan_bpFault (h : s.BpReady n f b) (cause field value : Nat) :
    s.RanBp n f b ((s.markRan n f b).bpFault n cause f b field value) ∧
      ((s.markRan n f b).bpFault n cause f b field value).arr.slotWrites = s.arr.slotWrites ∧
      s.FaultedBp n f b cause ((s.markRan n f b).bpFault n cause f b field value) := by
  obtain ⟨l, heq, hfault⟩ := State.bpFault_eq (s.markRan n f b) n cause f b field value
  rw [heq, State.markRan_of_clean h.clean]
  exact ⟨⟨State.hasRun_of_ran_eq_put rfl, rfl, rfl⟩, rfl, rfl, rfl, rfl, hfault⟩

/-- After its mark the truth table of a BP with quiet operands gives its bit and no fault. -/
theorem State.BpReady.markRan_truth (h : s.BpReady n f b) {i : Insn}
    (hquiet : ∀ sel, sel = i.a ∨ sel = i.b ∨ sel = i.c ∨ sel = i.d → (s.operand n f b sel).quiet) :
    (s.markRan n f b).truth n f b i = (s.truthBit n f b i, s.markRan n f b) := by
  rw [State.markRan_of_clean h.clean, State.truth_of_quiet (by simpa using hquiet), State.truthBit_marked]

end

/-! ## The opcodes -/

/-- The vote of a sorus in this turn is 0 (R56). -/
def State.voteZero (s : State) (n : Nat) : State := { s with arr := { s.arr with voted0 := Sparse.put false s.arr.voted0 n true } }

theorem State.voteZero_voted0_same (s : State) (n : Nat) : Sparse.get false (s.voteZero n).arr.voted0 n = true :=
  Sparse.get_put_same false s.arr.voted0 n true

theorem State.voteZero_voted0_other (s : State) {n j : Nat} (h : j ≠ n) :
    Sparse.get false (s.voteZero n).arr.voted0 j = Sparse.get false s.arr.voted0 j :=
  Sparse.get_put_other false false s.arr.voted0 true h

section
variable {s : State} {n f b : Nat} {i : Insn} {r : Bool} (htruth : s.truth n f b i = (r, s))
include htruth

theorem State.doEval_eq : s.doEval n f b i = (s.slotWrite n f b i.dst r).drive n f b b r i.dst := by
  rw [State.doEval, htruth]

/-- EVALX drives the BP's own bit for a DST below 64, the bit that DST selects below 128 (R50). -/
theorem State.doEvalx_eq : s.doEvalx n f b i =
    if i.dst < 64 then s.drive n f b b r i.dst
    else if i.dst < 128 then s.drive n f (i.dst - 64) b r i.dst else s.bpFault n 2 f b 5 i.dst := by
  rw [State.doEvalx, htruth]
  split
  next h => rw [if_pos (by omega)]
  next h => rw [if_neg (by omega), if_pos (by omega), show i.dst % 64 = i.dst - 64 by omega]
  next _ h0 h1 =>
    have hge : 2 ≤ i.dst / 64 := (Nat.two_le_iff _).2 ⟨h0, h1⟩
    rw [if_neg (by omega), if_neg (by omega)]

theorem State.doMrd_eq : s.doMrd n f b i =
    if i.dst % 64 ≤ 15 then s.drive n f (memWire i.dst (i.dst % 64)) b r i.dst else s.bpFault n 2 f b 5 i.dst := by
  rw [State.doMrd, htruth]

theorem State.doMwr_eq : s.doMwr n f b i =
    if i.dst % 64 = 15 then s.drive n f (memWire i.dst 52) b r i.dst
    else if i.dst % 64 ≤ 51 then s.drive n f (memWire i.dst (i.dst % 64)) b r i.dst else s.bpFault n 2 f b 5 i.dst := by
  rw [State.doMwr, htruth]

/-- The lane sources are wires 64 to 127, the outbound port bits wires 128 to 191 (R52). -/
theorem State.doPort_eq : s.doPort n f b i =
    if i.dst < 128 then s.drive n f (64 + i.dst) b r i.dst else s.bpFault n 2 f b 5 i.dst := by
  rw [State.doPort, htruth]
  split
  next h => rw [if_pos (by omega), show i.dst % 64 = i.dst by omega]
  next h => rw [if_pos (by omega), show 128 + i.dst % 64 = 64 + i.dst by omega]
  next _ h0 h1 =>
    have hge : 2 ≤ i.dst / 64 := (Nat.two_le_iff _).2 ⟨h0, h1⟩
    rw [if_neg (by omega)]

theorem State.doProbe_eq : s.doProbe n f b i =
    if i.dst < 128 then s.drive n f (192 + i.dst) b r i.dst else s.bpFault n 2 f b 5 i.dst := by
  rw [State.doProbe, htruth]

/-- BARRIER notes a 0 for its sorus, and a 1 changes nothing (R56). -/
theorem State.doBarrier_eq : s.doBarrier n f b i =
    if r then s else s.voteZero n := by
  rw [State.doBarrier, htruth]
  rfl

end

section
variable {s : State} {n f b : Nat}

/-- What an opcode does that drives one wire where its DST is in range, and faults where it is not. -/
theorem State.BpReady.drive_or_fault (h : s.BpReady n f b) (inRange : Prop) [Decidable inRange] (wire : Nat) (v : Bool) (dst : Nat) :
    let t := if inRange then (s.markRan n f b).drive n f wire b v dst else (s.markRan n f b).bpFault n 2 f b 5 dst
    s.RanBp n f b t ∧ t.arr.slotWrites = s.arr.slotWrites ∧
      (inRange → s.DroveBp n f b wire v dst t) ∧ (¬ inRange → s.FaultedBp n f b 2 t) := by
  by_cases hin : inRange
  · obtain ⟨hran, hslots, hdrove⟩ := h.markRan_drive wire v dst
    simp only [if_pos hin]
    exact ⟨hran, hslots, fun _ => hdrove, fun hout => absurd hin hout⟩
  · obtain ⟨hran, hslots, hfaulted⟩ := h.markRan_bpFault 2 5 dst
    simp only [if_neg hin]
    exact ⟨hran, hslots, fun hin' => absurd hin' hin, fun _ => hfaulted⟩

end

section
variable {p : BpId} {s : State} (h : s.BpReady p.sorus p.frond p.bp)
include h

/-- NOP drives nothing (R39). -/
theorem bpNop_completes (hop : (s.fetch p.sorus p.frond p.bp).1.op = 0) : Completes (.bpNop p) s fun t =>
    s.RanBp p.sorus p.frond p.bp t ∧ t.arr.drives = s.arr.drives ∧ t.arr.slotWrites = s.arr.slotWrites ∧
      t.arr.voted0 = s.arr.voted0 ∧ t.arr.faults = s.arr.faults := by
  have hrun : s.runBp p.sorus p.frond p.bp = s.markRan p.sorus p.frond p.bp := by
    simp [State.runBp, h.executes, h.notRun, hop]
  exact completes_runOp rfl (by simp [hop]) (hrun ▸ ⟨h.ranBp_markRan, h.markRan_gives⟩)

/-- A reserved opcode is a fault (R39). -/
theorem bpIllOp_completes (hop : 9 ≤ (s.fetch p.sorus p.frond p.bp).1.op) : Completes (.bpIllOp p) s fun t =>
    s.RanBp p.sorus p.frond p.bp t ∧ s.FaultedBp p.sorus p.frond p.bp 1 t := by
  obtain ⟨k, hk⟩ := Nat.exists_eq_add_of_le' hop
  have hrun : s.runBp p.sorus p.frond p.bp =
      (s.markRan p.sorus p.frond p.bp).bpFault p.sorus 1 p.frond p.bp 0 (s.fetch p.sorus p.frond p.bp).1.op := by
    simp [State.runBp, State.doIllOp, h.executes, h.notRun, hk]
  obtain ⟨hran, -, hfaulted⟩ := h.markRan_bpFault 1 0 (s.fetch p.sorus p.frond p.bp).1.op
  exact completes_runOp rfl (by simpa using hop) (hrun ▸ ⟨hran, hfaulted⟩)

variable {i : Insn} (hi : (s.fetch p.sorus p.frond p.bp).1 = i)
  (hquiet : ∀ sel, sel = i.a ∨ sel = i.b ∨ sel = i.c ∨ sel = i.d → (s.operand p.sorus p.frond p.bp sel).quiet)
include hi hquiet

/-- EVAL writes the slot and drives the BP's own bus bit (R41, R45). -/
theorem bpEval_completes (hop : i.op = 1) : Completes (.bpEval p) s fun t =>
    s.RanBp p.sorus p.frond p.bp t ∧
    s.DroveBp p.sorus p.frond p.bp p.bp (s.truthBit p.sorus p.frond p.bp i) i.dst t ∧
    t.arr.slotWrites = s.arr.slotWrites ++
      [{ sorus := p.sorus, frond := p.frond, bp := p.bp, slot := i.dst, val := s.truthBit p.sorus p.frond p.bp i }] := by
  have hrun : s.runBp p.sorus p.frond p.bp = (s.markRan p.sorus p.frond p.bp).doEval p.sorus p.frond p.bp i := by
    simp [State.runBp, h.executes, h.notRun, hi, hop]
  refine completes_runOp rfl (by simp [hi, hop]) ?_
  rw [hrun, State.doEval_eq (h.markRan_truth hquiet), State.markRan_of_clean h.clean]
  exact ⟨⟨State.hasRun_of_ran_eq_put rfl, rfl, rfl⟩, ⟨State.drive_drives_same _ _ _ _ _ _ _,
    fun _ hj => State.drive_drives_other _ _ _ _ _ _ _ hj, rfl, rfl⟩, rfl⟩

/-- EVALX drives a bus bit (R50). -/
theorem bpEvalx_completes (hop : i.op = 2) : Completes (.bpEvalx p) s fun t =>
    s.RanBp p.sorus p.frond p.bp t ∧ t.arr.slotWrites = s.arr.slotWrites ∧
    (i.dst < 64 → s.DroveBp p.sorus p.frond p.bp p.bp (s.truthBit p.sorus p.frond p.bp i) i.dst t) ∧
    (64 ≤ i.dst → i.dst < 128 →
      s.DroveBp p.sorus p.frond p.bp (i.dst - 64) (s.truthBit p.sorus p.frond p.bp i) i.dst t) ∧
    (128 ≤ i.dst → s.FaultedBp p.sorus p.frond p.bp 2 t) := by
  have hrun : s.runBp p.sorus p.frond p.bp = (s.markRan p.sorus p.frond p.bp).doEvalx p.sorus p.frond p.bp i := by
    simp [State.runBp, h.executes, h.notRun, hi, hop]
  refine completes_runOp rfl (by simp [hi, hop]) ?_
  rw [hrun, State.doEvalx_eq (h.markRan_truth hquiet)]
  by_cases hown : i.dst < 64
  · rw [if_pos hown]
    obtain ⟨hran, hslots, hdrove⟩ := h.markRan_drive p.bp (s.truthBit p.sorus p.frond p.bp i) i.dst
    exact ⟨hran, hslots, fun _ => hdrove, by omega, by omega⟩
  · rw [if_neg hown]
    obtain ⟨hran, hslots, hdrove, hfaulted⟩ :=
      h.drive_or_fault (i.dst < 128) (i.dst - 64) (s.truthBit p.sorus p.frond p.bp i) i.dst
    exact ⟨hran, hslots, fun hlt => absurd hlt hown, fun _ => hdrove, fun hge => hfaulted (Nat.not_lt.2 hge)⟩

/-- MRD drives a field of a read port (R54). -/
theorem bpMrd_completes (hop : i.op = 4) : Completes (.bpMrd p) s fun t =>
    s.RanBp p.sorus p.frond p.bp t ∧ t.arr.slotWrites = s.arr.slotWrites ∧
    (i.dst % 64 ≤ 15 → s.DroveBp p.sorus p.frond p.bp (memWire i.dst (i.dst % 64))
      (s.truthBit p.sorus p.frond p.bp i) i.dst t) ∧
    (15 < i.dst % 64 → s.FaultedBp p.sorus p.frond p.bp 2 t) := by
  have hrun : s.runBp p.sorus p.frond p.bp = (s.markRan p.sorus p.frond p.bp).doMrd p.sorus p.frond p.bp i := by
    simp [State.runBp, h.executes, h.notRun, hi, hop]
  refine completes_runOp rfl (by simp [hi, hop]) ?_
  rw [hrun, State.doMrd_eq (h.markRan_truth hquiet), ← Nat.not_le]
  exact h.drive_or_fault _ _ _ _

/-- MWR drives a field of a write port, and its field 15 the write enable (R54). -/
theorem bpMwr_completes (hop : i.op = 5) : Completes (.bpMwr p) s fun t =>
    s.RanBp p.sorus p.frond p.bp t ∧ t.arr.slotWrites = s.arr.slotWrites ∧
    (i.dst % 64 = 15 → s.DroveBp p.sorus p.frond p.bp (memWire i.dst 52) (s.truthBit p.sorus p.frond p.bp i) i.dst t) ∧
    (i.dst % 64 ≠ 15 → i.dst % 64 ≤ 51 → s.DroveBp p.sorus p.frond p.bp (memWire i.dst (i.dst % 64))
      (s.truthBit p.sorus p.frond p.bp i) i.dst t) ∧
    (51 < i.dst % 64 → s.FaultedBp p.sorus p.frond p.bp 2 t) := by
  have hrun : s.runBp p.sorus p.frond p.bp = (s.markRan p.sorus p.frond p.bp).doMwr p.sorus p.frond p.bp i := by
    simp [State.runBp, h.executes, h.notRun, hi, hop]
  refine completes_runOp rfl (by simp [hi, hop]) ?_
  rw [hrun, State.doMwr_eq (h.markRan_truth hquiet)]
  by_cases henable : i.dst % 64 = 15
  · rw [if_pos henable]
    obtain ⟨hran, hslots, hdrove⟩ := h.markRan_drive (memWire i.dst 52) (s.truthBit p.sorus p.frond p.bp i) i.dst
    exact ⟨hran, hslots, fun _ => hdrove, fun hne => absurd henable hne, by omega⟩
  · rw [if_neg henable]
    obtain ⟨hran, hslots, hdrove, hfaulted⟩ :=
      h.drive_or_fault (i.dst % 64 ≤ 51) (memWire i.dst (i.dst % 64)) (s.truthBit p.sorus p.frond p.bp i) i.dst
    exact ⟨hran, hslots, fun heq => absurd heq henable, fun _ => hdrove, fun hgt => hfaulted (Nat.not_le.2 hgt)⟩

/-- PORT drives a lane source or an outbound port bit (R52). -/
theorem bpPort_completes (hop : i.op = 6) : Completes (.bpPort p) s fun t =>
    s.RanBp p.sorus p.frond p.bp t ∧ t.arr.slotWrites = s.arr.slotWrites ∧
    (i.dst < 128 → s.DroveBp p.sorus p.frond p.bp (64 + i.dst) (s.truthBit p.sorus p.frond p.bp i) i.dst t) ∧
    (128 ≤ i.dst → s.FaultedBp p.sorus p.frond p.bp 2 t) := by
  have hrun : s.runBp p.sorus p.frond p.bp = (s.markRan p.sorus p.frond p.bp).doPort p.sorus p.frond p.bp i := by
    simp [State.runBp, h.executes, h.notRun, hi, hop]
  refine completes_runOp rfl (by simp [hi, hop]) ?_
  rw [hrun, State.doPort_eq (h.markRan_truth hquiet), ← Nat.not_lt]
  exact h.drive_or_fault _ _ _ _

/-- PROBE drives a probe channel (R55). -/
theorem bpProbe_completes (hop : i.op = 7) : Completes (.bpProbe p) s fun t =>
    s.RanBp p.sorus p.frond p.bp t ∧ t.arr.slotWrites = s.arr.slotWrites ∧
    (i.dst < 128 → s.DroveBp p.sorus p.frond p.bp (192 + i.dst) (s.truthBit p.sorus p.frond p.bp i) i.dst t) ∧
    (128 ≤ i.dst → s.FaultedBp p.sorus p.frond p.bp 2 t) := by
  have hrun : s.runBp p.sorus p.frond p.bp = (s.markRan p.sorus p.frond p.bp).doProbe p.sorus p.frond p.bp i := by
    simp [State.runBp, h.executes, h.notRun, hi, hop]
  refine completes_runOp rfl (by simp [hi, hop]) ?_
  rw [hrun, State.doProbe_eq (h.markRan_truth hquiet), ← Nat.not_lt]
  exact h.drive_or_fault _ _ _ _

/-- BARRIER votes 0 for its sorus where the result is 0 (R56). -/
theorem bpBarrier_completes (hop : i.op = 8) : Completes (.bpBarrier p) s fun t =>
    s.RanBp p.sorus p.frond p.bp t ∧ t.arr.slotWrites = s.arr.slotWrites ∧ t.arr.drives = s.arr.drives ∧
    t.arr.faults = s.arr.faults ∧ (s.truthBit p.sorus p.frond p.bp i = true → t.arr.voted0 = s.arr.voted0) ∧
    (s.truthBit p.sorus p.frond p.bp i = false → Sparse.get false t.arr.voted0 p.sorus = true ∧
      ∀ j, j ≠ p.sorus.val → Sparse.get false t.arr.voted0 j = Sparse.get false s.arr.voted0 j) := by
  have hrun : s.runBp p.sorus p.frond p.bp = (s.markRan p.sorus p.frond p.bp).doBarrier p.sorus p.frond p.bp i := by
    simp [State.runBp, h.executes, h.notRun, hi, hop]
  refine completes_runOp rfl (by simp [hi, hop]) ?_
  rw [hrun, State.doBarrier_eq (h.markRan_truth hquiet), State.markRan_of_clean h.clean]
  cases s.truthBit p.sorus p.frond p.bp i with
  | true =>
    rw [if_pos rfl]
    exact ⟨⟨State.hasRun_of_ran_eq_put rfl, rfl, rfl⟩, rfl, rfl, rfl, fun _ => rfl, nofun⟩
  | false =>
    rw [if_neg Bool.false_ne_true]
    exact ⟨⟨State.hasRun_of_ran_eq_put rfl, rfl, rfl⟩, rfl, rfl, rfl, nofun,
      fun _ => ⟨State.voteZero_voted0_same _ _, fun _ hj => State.voteZero_voted0_other _ hj⟩⟩

end

/-- Settles O24: one lemma for each opcode; a word that checks clean makes its BP ready, and the operands are quiet. -/
theorem booleanProcessor : Obligations.BooleanProcessor := by
  intro p s n f b i k val r ran drives faulted hexecutes hrun hclean hquiet
  have h : s.BpReady p.sorus p.frond p.bp := ⟨hexecutes, hrun, hclean⟩
  exact ⟨bpNop_completes h, bpEval_completes h rfl hquiet, bpEvalx_completes h rfl hquiet, bpMrd_completes h rfl hquiet,
    bpMwr_completes h rfl hquiet, bpPort_completes h rfl hquiet, bpProbe_completes h rfl hquiet,
    bpBarrier_completes h rfl hquiet, bpIllOp_completes h⟩

end Sys2Proof.Machine

/-! PROOFS.  A gang group executes at its base. -/

namespace Sys2Proof.Machine

/-! ## The reads of a group -/

/-- The word that the members of a group read by one operand: bit i is the operand of BP base + i (R58). -/
def State.gangWord (s : State) (n f : Nat) (g : Gang) (sel : Insn → Nat) : Nat :=
  (g.members.map fun m => if (s.operand n f m.1 (sel m.2)).val then 2 ^ (m.1 - g.base) else 0).sum

/-- The carry in of a group: operand C of its lowest member (R60). -/
def State.gangCarryIn (s : State) (n f : Nat) (g : Gang) : Nat :=
  match g.members with
  | m :: _ => if (s.operand n f m.1 m.2.c).val then 1 else 0
  | [] => 0

section
variable (s : State) (ran : Pairs Bool) (clean : Pairs Nat)

@[simp] theorem State.gangWord_marked (n f : Nat) (g : Gang) (sel : Insn → Nat) :
    (s.marked ran clean).gangWord n f g sel = s.gangWord n f g sel := rfl
@[simp] theorem State.gangCarryIn_marked (n f : Nat) (g : Gang) :
    (s.marked ran clean).gangCarryIn n f g = s.gangCarryIn n f g := rfl

end

/-- The members of a group whose words check clean are marked, and nothing else happens (R37). -/
theorem State.foldl_markRan_eq_marked {s : State} {n f : Nat} {ms : List (Nat × Insn)}
    (h : ∀ m ∈ ms, (s.fetch n f m.1).2 = .clean) :
    ∃ ran clean, ms.foldl (fun s m => s.markRan n f m.1) s = s.marked ran clean := by
  induction ms generalizing s with
  | nil => exact ⟨s.arr.ran, s.cns.clean, rfl⟩
  | cons m ms ih =>
    obtain ⟨hm, hms⟩ := List.forall_mem_cons.1 h
    rw [List.foldl_cons, State.markRan_of_clean hm]
    simpa using ih (s := s.marked _ _) (by simpa using hms)

/-- A word is read by quiet operands without a fault. -/
theorem gangRead_of_quiet {s : State} {n f : Nat} {g : Gang} {sel : Insn → Nat}
    (h : ∀ m ∈ g.members, (s.operand n f m.1 (sel m.2)).quiet) (field start : Nat) :
    gangRead n f g field sel (start, s) = (start + s.gangWord n f g sel, s) := by
  obtain ⟨base, width, tt, members⟩ := g
  induction members generalizing start with
  | nil => rfl
  | cons m ms ih =>
    obtain ⟨hm, hms⟩ := List.forall_mem_cons.1 h
    have hstep := ih (start + if (s.operand n f m.1 (sel m.2)).val then 2 ^ (m.1 - base) else 0) hms
    simp only [gangRead, State.gangWord, List.foldl_cons, List.map_cons, List.sum_cons, State.readOperand_of_quiet hm] at hstep ⊢
    rw [hstep, Nat.add_assoc]

/-- The carry is read by a quiet operand without a fault. -/
theorem gangCarry_of_quiet {s : State} {n f : Nat} {g : Gang}
    (h : ∀ m, g.members.head? = some m → (s.operand n f m.1 m.2.c).quiet) :
    ∃ carry, gangCarry n f g s = (carry, s) ∧ (if carry then 1 else 0) = s.gangCarryIn n f g := by
  unfold gangCarry State.gangCarryIn
  cases hms : g.members with
  | nil => exact ⟨false, rfl, rfl⟩
  | cons m ms =>
    have hm : (s.operand n f m.1 m.2.c).quiet := h m (by rw [hms]; rfl)
    exact ⟨(s.operand n f m.1 m.2.c).val, State.readOperand_of_quiet hm 3, rfl⟩

/-! ## The writes of a group -/

/-- The members of a group write a word: bit i goes to slot DST and the own bus bit of BP base + i (R62). -/
def State.gangWrite (s : State) (n f : Nat) (g : Gang) (word : Nat) : State :=
  g.members.foldl (fun s m => (s.slotWrite n f m.1 m.2.dst (word.testBit (m.1 - g.base))).drive n f m.1 m.1
    (word.testBit (m.1 - g.base)) m.2.dst) s

/-- The slot writes by which a group gives a word. -/
def Gang.slotWrites (g : Gang) (n f word : Nat) : List SlotWrite :=
  g.members.map fun m => { sorus := n, frond := f, bp := m.1, slot := m.2.dst, val := word.testBit (m.1 - g.base) }

/-- The drives by which a group gives a word. -/
def Gang.drives (g : Gang) (word : Nat) : List Drive :=
  g.members.map fun m => { wire := m.1, bp := m.1, val := word.testBit (m.1 - g.base), dst := m.2.dst }

/-- The writes of a group are put behind those of the step, and nothing else changes. -/
theorem State.gangWrite_eq (s : State) (n f : Nat) (g : Gang) (word : Nat) :
    ∃ drives, s.gangWrite n f g word =
        { s with arr := { s.arr with slotWrites := s.arr.slotWrites ++ g.slotWrites n f word, drives := drives } } ∧
      Sparse.get [] drives (n * 16 + f) = Sparse.get [] s.arr.drives (n * 16 + f) ++ g.drives word ∧
      ∀ j, j ≠ n * 16 + f → Sparse.get [] drives j = Sparse.get [] s.arr.drives j := by
  obtain ⟨base, width, tt, members⟩ := g
  induction members generalizing s with
  | nil => exact ⟨s.arr.drives, by simp [State.gangWrite, Gang.slotWrites], by simp [Gang.drives], fun _ _ => rfl⟩
  | cons m ms ih =>
    obtain ⟨drives, heq, hsame, hother⟩ := ih ((s.slotWrite n f m.1 m.2.dst (word.testBit (m.1 - base))).drive n f m.1 m.1
      (word.testBit (m.1 - base)) m.2.dst)
    refine ⟨drives, ?_, ?_, fun j hj => ?_⟩
    · refine Eq.trans heq ?_
      simp [Gang.slotWrites, State.drive, State.slotWrite]
    · rw [hsame, State.drive_drives_same, Gang.drives, Gang.drives, List.map_cons, List.append_assoc]
      rfl
    · rw [hother j hj, State.drive_drives_other _ _ _ _ _ _ _ hj]
      rfl

/-- The slot writes of the flags C, V and N by the top BP of the group's span, where it is a member and FLAGS is 1 (R61). -/
def Gang.flagWrites (g : Gang) (n f : Nat) (c v neg : Bool) : List SlotWrite :=
  if g.tt.testBit 8 && g.members.any (fun m => m.1 == g.base + g.width - 1) then
    [{ sorus := n, frond := f, bp := g.base + g.width - 1, slot := g.tt % 256, val := c },
      { sorus := n, frond := f, bp := g.base + g.width - 1, slot := g.tt % 256 + 1, val := v },
      { sorus := n, frond := f, bp := g.base + g.width - 1, slot := g.tt % 256 + 2, val := neg }]
  else []

/-- Slot writes put behind those of the step. -/
def State.addSlotWrites (s : State) (l : List SlotWrite) : State :=
  { s with arr := { s.arr with slotWrites := s.arr.slotWrites ++ l } }

section
variable {g : Gang} (n f : Nat) (c v neg : Bool)

theorem Gang.flagWrites_of_flags_off (h : g.tt.testBit 8 = false) : g.flagWrites n f c v neg = [] := by
  simp [Gang.flagWrites, h]

theorem Gang.flagWrites_of_no_top (h : ∀ m ∈ g.members, m.1 ≠ g.base + g.width - 1) : g.flagWrites n f c v neg = [] := by
  have hany : g.members.any (fun m => m.1 == g.base + g.width - 1) = false := List.any_eq_false.2 fun m hm => by simpa using h m hm
  simp [Gang.flagWrites, hany]

theorem Gang.flagWrites_of_top (hflags : g.tt.testBit 8 = true) (htop : ∃ m ∈ g.members, m.1 = g.base + g.width - 1) :
    g.flagWrites n f c v neg =
      [{ sorus := n, frond := f, bp := g.base + g.width - 1, slot := g.tt % 256, val := c },
        { sorus := n, frond := f, bp := g.base + g.width - 1, slot := g.tt % 256 + 1, val := v },
        { sorus := n, frond := f, bp := g.base + g.width - 1, slot := g.tt % 256 + 2, val := neg }] := by
  have hany : g.members.any (fun m => m.1 == g.base + g.width - 1) = true := by simpa using htop
  simp [Gang.flagWrites, hflags, hany]

end

theorem State.addSlotWrites_flagWrites (s : State) (n f : Nat) (g : Gang) (c v neg : Bool) :
    s.addSlotWrites (g.flagWrites n f c v neg) =
      if bitOf g.tt 8 && g.members.any (fun m => m.1 == g.base + g.width - 1) then
        ((s.slotWrite n f (g.base + g.width - 1) (g.tt % 256) c).slotWrite n f (g.base + g.width - 1) (g.tt % 256 + 1) v).slotWrite
          n f (g.base + g.width - 1) (g.tt % 256 + 2) neg
      else s := by
  unfold Gang.flagWrites bitOf
  split
  · simp [State.addSlotWrites, State.slotWrite]
  · simp [State.addSlotWrites]

/-! ## The group -/

/-- A group can execute: the words of its members check clean, and the operands that it reads are quiet. -/
structure State.GangReady (s : State) (n f : Nat) (g : Gang) : Prop where
  clean : ∀ m ∈ g.members, (s.fetch n f m.1).2 = .clean
  quietA : ∀ m ∈ g.members, (s.operand n f m.1 m.2.a).quiet
  quietB : ∀ m ∈ g.members, (s.operand n f m.1 m.2.b).quiet
  quietC : ∀ m, g.members.head? = some m → (s.operand n f m.1 m.2.c).quiet

/-- From `s` to `t` a group gives a word, and further slot writes besides. -/
def State.GangWrote (s : State) (n f : Nat) (g : Gang) (word : Nat) (flags : List SlotWrite) (t : State) : Prop :=
  t.arr.slotWrites = s.arr.slotWrites ++ g.slotWrites n f word ++ flags ∧
    Sparse.get [] t.arr.drives (n * 16 + f) = Sparse.get [] s.arr.drives (n * 16 + f) ++ g.drives word ∧
    (∀ j, j ≠ n * 16 + f → Sparse.get [] t.arr.drives j = Sparse.get [] s.arr.drives j) ∧
    t.cns = { s.cns with clean := t.cns.clean } ∧
    t = { s with cns := t.cns, arr := { s.arr with
      ran := t.arr.ran, slotWrites := t.arr.slotWrites, drives := t.arr.drives, faults := t.arr.faults } }

/-- The result word and the flags of a group for the operands that its members find. -/
def State.gangOut (s : State) (n f : Nat) (g : Gang) : Nat × Bool × Bool × Bool :=
  gangResult (gangOp g.tt) g.width (g.tt.testBit 9) (s.gangWord n f g (fun i => i.a)) (s.gangWord n f g (fun i => i.b))
    (s.gangCarryIn n f g)

section
variable {s : State} {n f : Nat} {g : Gang} (h : s.GangReady n f g)
include h

/-- After its quiet reads a group writes zeros and faults where it is malformed or its GOP is reserved (R63), and else writes its result
and its flags. -/
theorem State.GangReady.doGang_eq : ∃ ran clean, s.doGang n f g =
    if !g.wellFormed || decide (8 ≤ gangOp g.tt) then ((s.marked ran clean).bpFault n 2 f g.base 6 0).gangWrite n f g 0
    else ((s.marked ran clean).gangWrite n f g (s.gangOut n f g).1).addSlotWrites
      (g.flagWrites n f (s.gangOut n f g).2.1 (s.gangOut n f g).2.2.1 (s.gangOut n f g).2.2.2) := by
  obtain ⟨ran, clean, hmark⟩ := State.foldl_markRan_eq_marked h.clean
  have hx := gangRead_of_quiet (s := s.marked ran clean) (by simpa using h.quietA) 1 0
  have hy := gangRead_of_quiet (s := s.marked ran clean) (by simpa using h.quietB) 2 0
  obtain ⟨carry, hread, hcarry⟩ := gangCarry_of_quiet (s := s.marked ran clean) (by simpa using h.quietC)
  refine ⟨ran, clean, ?_⟩
  simp only [State.gangWord_marked] at hx hy
  rw [State.gangCarryIn_marked] at hcarry
  simp only [State.doGang, hmark, hx, hy, hread, hcarry, Nat.zero_add, State.addSlotWrites_flagWrites, State.gangWrite, Nat.zero_testBit]
  rfl

/-- A well-formed group with a named GOP gives its result word and its flags, and no fault. -/
theorem State.GangReady.doGang_wrote (hwf : g.wellFormed = true) (hop : gangOp g.tt < 8) :
    s.GangWrote n f g (s.gangOut n f g).1
        (g.flagWrites n f (s.gangOut n f g).2.1 (s.gangOut n f g).2.2.1 (s.gangOut n f g).2.2.2) (s.doGang n f g) ∧
      (s.doGang n f g).arr.faults = s.arr.faults := by
  obtain ⟨ran, clean, hgang⟩ := h.doGang_eq
  rw [if_neg (by simp [hwf, hop])] at hgang
  obtain ⟨drives, hwrite, hsame, hother⟩ := State.gangWrite_eq (s.marked ran clean) n f g (s.gangOut n f g).1
  rw [hgang, hwrite]
  exact ⟨⟨rfl, hsame, hother, rfl, rfl⟩, rfl⟩

/-- A malformed group gives zeros and a fault. -/
theorem State.GangReady.doGang_wrote_of_malformed (hbad : g.wellFormed = false ∨ 8 ≤ gangOp g.tt) :
    s.GangWrote n f g 0 [] (s.doGang n f g) ∧
      ∃ e ∈ (s.doGang n f g).arr.faults, e.sorus = n ∧ e.cause = 2 ∧ e.frond = f ∧ e.bp = g.base := by
  obtain ⟨ran, clean, hgang⟩ := h.doGang_eq
  rw [if_pos (by simpa using hbad)] at hgang
  obtain ⟨faults, hfault, he⟩ := State.bpFault_eq (s.marked ran clean) n 2 f g.base 6 0
  obtain ⟨drives, hwrite, hsame, hother⟩ := State.gangWrite_eq ((s.marked ran clean).bpFault n 2 f g.base 6 0) n f g 0
  rw [hfault] at hwrite hsame hother
  rw [hgang, hfault, hwrite]
  exact ⟨⟨(List.append_nil _).symm, hsame, hother, rfl, rfl⟩, he⟩

end

/-! ## The operations -/

/-- The comparison that a gang operation makes, signed or unsigned (R59). -/
abbrev GangLess (w : Nat) (sgn : Bool) (x y : Nat) : Prop := if sgn then signedOf w x < signedOf w y else x < y

section
variable {op : Nat} (w : Nat) (sgn : Bool) (x y c : Nat)

theorem gangResult_add (h : op = 0) : (gangResult op w sgn x y c).1 = (x + y + if op ≤ 1 then c else 0) % 2 ^ w := by
  subst h; rfl

theorem gangResult_sub (h : op = 1) :
    (gangResult op w sgn x y c).1 = natOfInt w ((x : Int) - y - ((if op ≤ 1 then c else 0 : Nat) : Int)) := by
  subst h; rfl

theorem gangResult_cmplt (h : op = 2) : (gangResult op w sgn x y c).1 = if GangLess w sgn x y then 2 ^ w - 1 else 0 := by
  subst h; cases sgn <;> simp [gangResult, GangLess]

theorem gangResult_cmple (h : op = 3) :
    (gangResult op w sgn x y c).1 = if GangLess w sgn x y ∨ x = y then 2 ^ w - 1 else 0 := by
  subst h; cases sgn <;> simp [gangResult, GangLess]

theorem gangResult_cmpeq (h : op = 4) : (gangResult op w sgn x y c).1 = if x = y then 2 ^ w - 1 else 0 := by
  subst h; simp [gangResult]

theorem gangResult_min (h : op = 5) : (gangResult op w sgn x y c).1 = if GangLess w sgn x y ∨ x = y then x else y := by
  subst h; cases sgn <;> simp [gangResult, GangLess]

theorem gangResult_max (h : op = 6) : (gangResult op w sgn x y c).1 = if GangLess w sgn x y then y else x := by
  subst h; cases sgn <;> simp [gangResult, GangLess]

/-- ABSDIFF takes the smaller from the larger: the absolute value of the difference (R59). -/
theorem gangResult_absdiff (h : op = 7) : (gangResult op w sgn x y c).1 =
    if sgn then natOfInt w (signedOf w x - signedOf w y).natAbs else ((x : Int) - y).natAbs := by
  subst h
  cases sgn with
  | true =>
    have habs : (if signedOf w x < signedOf w y then signedOf w y - signedOf w x else signedOf w x - signedOf w y) =
        ((signedOf w x - signedOf w y).natAbs : Int) := by split <;> omega
    exact congrArg (natOfInt w) habs
  | false =>
    have habs : (if x < y then y - x else x - y) = ((x : Int) - y).natAbs := by split <;> omega
    exact habs

/-- C and N of an addition (R60, R61). -/
theorem gangResult_flags_add (h : op = 0) :
    ((gangResult op w sgn x y c).2.1 = true ↔ 2 ^ w ≤ x + y + if op ≤ 1 then c else 0) ∧
      (gangResult op w sgn x y c).2.2.2 = (gangResult op w sgn x y c).1.testBit (w - 1) := by
  subst h
  exact ⟨decide_eq_true_iff, rfl⟩

/-- C and N of every other operation are those of the subtraction (R60, R61). -/
theorem gangResult_flags_sub (h : op ≠ 0) :
    ((gangResult op w sgn x y c).2.1 = true ↔ x < y + if op ≤ 1 then c else 0) ∧
      (gangResult op w sgn x y c).2.2.2 =
        (natOfInt w ((x : Int) - y - ((if op ≤ 1 then c else 0 : Nat) : Int))).testBit (w - 1) := by
  simp only [gangResult, if_neg h]
  exact ⟨decide_eq_true_iff, rfl⟩

/-- V: the signed sum or difference does not fit in the word (R61). -/
theorem gangResult_overflow : (gangResult op w sgn x y c).2.2.1 = true ↔
    let z := if op = 0 then signedOf w x + signedOf w y + ((if op ≤ 1 then c else 0 : Nat) : Int)
      else signedOf w x - signedOf w y - ((if op ≤ 1 then c else 0 : Nat) : Int)
    z < -(2 ^ (w - 1) : Int) ∨ (2 ^ (w - 1) : Int) ≤ z := by
  by_cases h : op = 0
  · subst h
    simp [gangResult]
  · simp [gangResult, h]

end

/-! ## The commands -/

/-- A GANG at the base of a group of its frond executes the group (R57). -/
theorem State.runBp_of_gang {s : State} {n f b : Nat} {g : Gang} (hexecutes : s.executes n = true) (hrun : s.hasRun n f b = false)
    (hop : (s.fetch n f b).1.op = 3) (hfind : (s.gangs n f).find? (fun g => g.base == b) = some g) :
    s.runBp n f b = s.doGang n f g := by
  simp [State.runBp, hexecutes, hrun, hop, hfind]

/-- The command that names a GOP executes the group; a reserved GOP goes with ADD (R58, R63). -/
theorem gangCommand_runs {c : Instr} {p : BpId} {op : Nat} (s : State)
    (h : (c = .gangAdd p ∧ (op = 0 ∨ 8 ≤ op)) ∨ (c = .gangSub p ∧ op = 1) ∨ (c = .gangCmplt p ∧ op = 2) ∨
      (c = .gangCmple p ∧ op = 3) ∨ (c = .gangCmpeq p ∧ op = 4) ∨ (c = .gangMin p ∧ op = 5) ∨ (c = .gangMax p ∧ op = 6) ∨
      (c = .gangAbsdiff p ∧ op = 7)) :
    ∃ ok : Nat → Bool, exec c s = .next (s.runGang p ok) ∧ ok op = true := by
  rcases h with ⟨rfl, hop⟩ | h
  · exact ⟨_, rfl, by simpa using hop⟩
  · rcases h with ⟨rfl, rfl⟩ | ⟨rfl, rfl⟩ | ⟨rfl, rfl⟩ | ⟨rfl, rfl⟩ | ⟨rfl, rfl⟩ | ⟨rfl, rfl⟩ | ⟨rfl, rfl⟩
    all_goals exact ⟨_, rfl, rfl⟩

/-- Settles O25: the group's members read its words, `gangResult` gives the result and the flags, and the members write them. -/
theorem gangGroup : Obligations.GangGroup := by
  intro p s g c op n f k w bitsOf x y carry cin sgn lt ones quiet wrote hc hexecutes hrun hfetch hfetchOp hop hfind hmembers hcarry
  obtain ⟨ok, hexec, hok⟩ := gangCommand_runs s hc
  have hready : s.GangReady n f g :=
    ⟨fun m hm => (hmembers m hm).1, fun m hm => (hmembers m hm).2.1, fun m hm => (hmembers m hm).2.2, hcarry⟩
  have hgang : s.runBp p.sorus p.frond p.bp = s.doGang n f g :=
    State.runBp_of_gang hexecutes hrun hfetch hfind
  have hcompletes {P : State → Prop} (hP : P (s.doGang n f g)) : Completes c s P :=
    completes_runGang hexec hfetch (hfetchOp ▸ hok) (hgang ▸ hP)
  subst hop
  refine ⟨fun hwf hlt => hcompletes ?_, fun hbad => hcompletes (hready.doGang_wrote_of_malformed hbad)⟩
  obtain ⟨hwrote, hfaults⟩ := hready.doGang_wrote hwf hlt
  refine ⟨_, _, hwrote, hfaults, gangResult_add w sgn x y carry, gangResult_sub w sgn x y carry, gangResult_cmplt w sgn x y carry,
    gangResult_cmple w sgn x y carry, gangResult_cmpeq w sgn x y carry, gangResult_min w sgn x y carry, gangResult_max w sgn x y carry,
    gangResult_absdiff w sgn x y carry, fun hoff => Gang.flagWrites_of_flags_off _ _ _ _ _ hoff,
    fun _ hnone => Gang.flagWrites_of_no_top _ _ _ _ _ hnone, fun hon htop => ⟨_, _, _, Gang.flagWrites_of_top _ _ _ _ _ hon htop,
      gangResult_flags_add w sgn x y carry, gangResult_flags_sub w sgn x y carry, gangResult_overflow w sgn x y carry⟩⟩

end Sys2Proof.Machine

/-! PROOFS.  The register accesses that reach their block, and the events and measurements that go with a write of a sorus window. -/

namespace Sys2Proof.Machine

/-! ## Accesses and frames -/

/-- An access to a block whose domain takes requests is carried out (R28, R514). -/
theorem State.gate_of_awake {s : State} {a : Nat} (h : s.awake a) (mid : Mid) (write : Option Word32) (f : State → State) :
    s.gate mid a write f = f s := by
  rw [State.gate]
  split
  next => rfl
  next d hd =>
    have hon : s.domState d = 0 ∨ s.domState d = 5 := by simpa [State.awake, hd] using h
    exact if_pos (hon.imp_right Or.inl)

/-- A whole register as a number. -/
theorem State.fld_wholeReg (s : State) (a : Nat) : s.fld (wholeReg a) = (s.reg a).toNat := by
  rw [State.fld, Field.get]
  exact Nat.mod_eq_of_lt (s.reg a).isLt

theorem State.reg_eq_of_fld_wholeReg {s t : State} {a : Nat} (h : t.fld (wholeReg a) = s.fld (wholeReg a)) : t.reg a = s.reg a := by
  rw [State.fld_wholeReg, State.fld_wholeReg] at h
  exact BitVec.eq_of_toNat_eq h

/-- The registers of the array lie above those of the event machinery (R25). -/
theorem eventSafe_of_array {f : Field} (h : 0x0C000000 ≤ f.addr) : eventSafe f = true := by
  simp only [eventSafe, Reg.LIB_LOG_WP, Reg.LIB_LOG_DROP, Reg.LIB_STATUS, Reg.PWR_STATUS, Bool.and_eq_true, Bool.or_eq_true,
    Bool.not_eq_true', Bool.and_eq_false_iff, bne_iff_ne, decide_eq_true_eq, decide_eq_false_iff_not]
  omega

/-- A register outside the event machinery keeps its value when an event is raised. -/
theorem State.reg_raise (s : State) {a n : Nat} (hn : n < 512) (h : eventSafe (wholeReg a) = true) : (s.raise n).reg a = s.reg a :=
  State.reg_eq_of_fld_wholeReg (State.fld_raise s n hn h)

theorem State.reg_raiseBit_other (s : State) {f : Field} {a n : Nat} (hn : n < 512) (h : eventSafe (wholeReg a) = true)
    (ha : a ≠ f.addr) : (s.raiseBit f n).reg a = s.reg a := by
  rw [State.raiseBit, State.reg_raise _ hn h, State.reg_setFlag_other _ _ _ _ ha]

/-! ## The measurement registers (R423) -/

theorem OnlyEv.foldl {α : Type} {w : List Field} {s : State} (g : State → α → State) (l : List α)
    (hg : ∀ t, ∀ x ∈ l, OnlyEv w s t → OnlyEv w s (g t x)) {t : State} (h : OnlyEv w s t) : OnlyEv w s (l.foldl g t) := by
  induction l generalizing t with
  | nil => exact h
  | cons x r ih => exact ih (fun t y hy => hg t y (List.mem_cons_of_mem _ hy)) (hg t x List.mem_cons_self h)

theorem digest64_length_le (l : List Byte) : (digest64 l).length ≤ 64 := List.length_take_le _ _

/-- The registers of one measurement register, as fields. -/
def mrFields (i : Nat) : List Field := (List.range 16).map fun j => wholeReg (Reg.SEC_MR i j)

theorem wholeReg_SEC_MR_mem {i j : Nat} (h : j < 16) : wholeReg (Reg.SEC_MR i 0 + 4 * j) ∈ mrFields i :=
  List.mem_map.2 ⟨j, List.mem_range.2 h, by rw [Reg.SEC_MR, Reg.SEC_MR]; congr 1; omega⟩

/-- A measurement writes its own 16 words. -/
theorem OnlyEv.extendMr {w : List Field} {s t : State} (h : OnlyEv w s t) (i : Nat) (x : List Byte)
    (hm : ∀ f ∈ mrFields i, f ∈ w) : OnlyEv w s (t.extendMr i x) := by
  have hlen := digest64_length_le (t.regBytes (Reg.SEC_MR i 0) 16 ++ x)
  refine OnlyEv.foldl _ _ (fun u j hj hu => hu.setReg _ _ (hm _ (wholeReg_SEC_MR_mem ?_))) h
  have := List.mem_range.1 hj
  omega

theorem State.reg_foldl_setReg {α : Type} {a : Nat} (addr : α → Nat) (val : α → Word32) (l : List α) (s : State)
    (h : ∀ x ∈ l, a ≠ addr x) : (l.foldl (fun s x => s.setReg (addr x) (val x)) s).reg a = s.reg a := by
  induction l generalizing s with
  | nil => rfl
  | cons x r ih =>
    rw [List.foldl_cons, ih _ fun y hy => h y (List.mem_cons_of_mem _ hy), State.reg_setReg_other _ _ (h x List.mem_cons_self)]

/-- A register outside the measurement registers keeps its value when one of them is extended. -/
theorem State.reg_extendMr_other (s : State) {a i : Nat} (x : List Byte)
    (h : a < Reg.SEC_MR i 0 ∨ Reg.SEC_MR i 16 ≤ a) : (s.extendMr i x).reg a = s.reg a := by
  have hlen := digest64_length_le (s.regBytes (Reg.SEC_MR i 0) 16 ++ x)
  refine State.reg_foldl_setReg _ _ _ _ fun j hj => ?_
  have := List.mem_range.1 hj
  simp only [Reg.SEC_MR] at h ⊢
  omega

@[simp] theorem State.extendMr_arr (s : State) (i : Nat) (x : List Byte) : (s.extendMr i x).arr = s.arr := by
  have hcore : (s.extendMr i x).core = s.core := ((OnlyEv.refl (mrFields i) s).extendMr i x fun _ h => h).1
  exact (congrArg (fun t : State => t.arr) hcore :)

theorem State.sticky_extendMr (s : State) {n : Nat} (i : Nat) (x : List Byte) (hn : n < 512) :
    (s.extendMr i x).sticky n = s.sticky n := by
  refine State.sticky_congr n (s.reg_extendMr_other x (Or.inl ?_))
  simp only [Reg.EVT_STICKY, Reg.SEC_MR]
  omega

theorem State.flag_of_reg {s t : State} {f : Field} (h : t.reg f.addr = s.reg f.addr) : t.flag f = s.flag f := by
  rw [State.flag, State.fld, h, State.flag, State.fld]

end Sys2Proof.Machine

/-! PROOFS.  Deliveries within a step: sorus lanes, output registers of pins, block memories. -/

namespace Sys2Proof.Machine

/-! ## Families of bits -/

/-- A register with one bit set. -/
theorem getLsbD_ofNat_two_pow {w i : Nat} (hi : i < w) (j : Nat) : (BitVec.ofNat w (2 ^ i)).getLsbD j = decide (i = j) := by
  rw [BitVec.getLsbD_ofNat, Nat.testBit_two_pow]
  by_cases h : i = j
  · simp [h, h ▸ hi]
  · simp [h]

theorem getLsbD_setBit64 (w : Word64) {m j : Nat} (v : Bool) (hm : m < 64) :
    (setBit64 w m v).getLsbD j = if j = m then v else w.getLsbD j := by
  rw [setBit64]
  cases v with
  | true =>
    rw [if_pos rfl, BitVec.getLsbD_or, getLsbD_ofNat_two_pow hm]
    by_cases hj : j = m
    · simp [hj]
    · simp [hj, Ne.symm hj]
  | false =>
    rw [if_neg Bool.false_ne_true, BitVec.getLsbD_and, BitVec.getLsbD_not, getLsbD_ofNat_two_pow hm]
    by_cases hj : j = m
    · simp [hj]
    · have hlt : w.getLsbD j = true → j < 64 := BitVec.lt_of_getLsbD
      simpa [hj, Ne.symm hj] using hlt

theorem bitAt_putBit_same (l : Pairs Word64) (n f : Nat) {m : Nat} (v : Bool) (hm : m < 64) :
    bitAt (putBit l n f m v) n f m = v := by
  rw [bitAt, putBit, wordAt, Sparse.get_put_same, getLsbD_setBit64 _ _ hm, if_pos rfl]

/-- A bit of a family that reads `v` still does after `v` was put at a bit of the same sorus. -/
theorem bitAt_putBit_keep {l : Pairs Word64} {n f m f' m' : Nat} {v : Bool} (hm : m' < 64) (h : bitAt l n f m = v) :
    bitAt (putBit l n f' m' v) n f m = v := by
  by_cases hf : n * 16 + f = n * 16 + f'
  · rw [bitAt, putBit, wordAt, hf, Sparse.get_put_same, getLsbD_setBit64 _ _ hm]
    split
    · rfl
    · rw [← hf]; exact h
  · rw [bitAt, putBit, wordAt, Sparse.get_put_other _ _ _ _ hf]
    exact h

/-! ## Sorus lanes -/

/-- The inputs of Sn that select source `src` take the value `v` (R79). -/
def routeBits (n src : Nat) (v : Bool) (l : Pairs Word64) (es : List (Nat × Word32)) : Pairs Word64 :=
  es.foldl (fun l e => if xbarSource e.2 = some src then putBit l n (e.1 / 64) (e.1 % 64) v else l) l

theorem State.deliverLane_eq (s : State) (n f m : Nat) : s.deliverLane n f m = { s with arr := { s.arr with
    laneNext := routeBits n (f * 64 + m) (bitAt s.arr.laneSrc n f m) s.arr.laneNext (s.xbarEntries n (s.lanePageOf n)) } } := by
  rw [State.deliverLane]
  generalize s.xbarEntries n (s.lanePageOf n) = es
  induction es generalizing s with
  | nil => rfl
  | cons e r ih =>
    rw [List.foldl_cons, routeBits, List.foldl_cons]
    split <;> exact ih _

section
variable {n src : Nat} {v : Bool}

theorem bitAt_routeBits_keep {l : Pairs Word64} {f m : Nat} (es : List (Nat × Word32)) (h : bitAt l n f m = v) :
    bitAt (routeBits n src v l es) n f m = v := by
  induction es generalizing l with
  | nil => exact h
  | cons e r ih =>
    rw [routeBits, List.foldl_cons]
    split
    · exact ih (bitAt_putBit_keep (Nat.mod_lt _ (by decide)) h)
    · exact ih h

/-- An input that selects the source takes its value, whatever other inputs select it too. -/
theorem bitAt_routeBits (l : Pairs Word64) {es : List (Nat × Word32)} {e : Nat × Word32} (he : e ∈ es)
    (hsrc : xbarSource e.2 = some src) : bitAt (routeBits n src v l es) n (e.1 / 64) (e.1 % 64) = v := by
  induction es generalizing l with
  | nil => exact absurd he List.not_mem_nil
  | cons x r ih =>
    rw [routeBits, List.foldl_cons]
    rcases List.mem_cons.1 he with rfl | hr
    · rw [if_pos hsrc]
      exact bitAt_routeBits_keep r (bitAt_putBit_same _ _ _ _ (Nat.mod_lt _ (by decide)))
    · exact ih _ hr

end

/-- A lane source reaches the inputs that select it (R79). -/
theorem sorusLaneDelivery_completes (sorus : Fin 34) (frond : Fin 16) (m : Fin 64) {s : State} (hrun : s.seqState = 2) :
    Completes (.sorusLaneDelivery sorus frond m) s fun t =>
      (∀ e ∈ s.xbarEntries sorus (s.lanePageOf sorus), xbarSource e.2 = some (frond.val * 64 + m.val) →
        bitAt t.arr.laneNext sorus (e.1 / 64) (e.1 % 64) = bitAt s.arr.laneSrc sorus frond m) ∧
      t = { s with arr := { s.arr with laneNext := t.arr.laneNext } } := by
  refine ⟨s.deliverLane sorus frond m, congrArg Host.Outcome.next (if_pos hrun), ?_⟩
  rw [State.deliverLane_eq]
  exact ⟨fun e he hsrc => bitAt_routeBits _ he hsrc, rfl⟩

/-! ## Output registers of pins -/

/-- A pin's output register loads its third stage, and keeps its value while the pin enters its safe state (R88, R594). -/
theorem State.loadPin_spec (s : State) {i : Nat} (hi : i < 192) :
    (s.loadPin i).iob.safeReg.getLsbD i = s.iob.safe3.getLsbD i ∧
    (s.loadPin i).iob.outReg.getLsbD i = (if s.iob.safe3.getLsbD i then s.iob.outReg.getLsbD i else s.iob.stage3.getLsbD i) ∧
    (∀ j, j < 192 → j ≠ i → (s.loadPin i).iob.outReg.getLsbD j = s.iob.outReg.getLsbD j ∧
      (s.loadPin i).iob.safeReg.getLsbD j = s.iob.safeReg.getLsbD j) ∧
    s.loadPin i = { s with iob := { s.iob with outReg := (s.loadPin i).iob.outReg, safeReg := (s.loadPin i).iob.safeReg } } := by
  have hmask := getLsbD_ofNat_two_pow hi
  rw [State.loadPin]
  split
  next hsafe =>
    refine ⟨?_, rfl, fun j _ hne => ⟨rfl, ?_⟩, rfl⟩
    · rw [BitVec.getLsbD_or, hmask, decide_eq_true rfl, Bool.or_true, hsafe]
    · rw [BitVec.getLsbD_or, hmask, decide_eq_false (Ne.symm hne), Bool.or_false]
  next hsafe =>
    refine ⟨?_, ?_, fun j hj hne => ⟨?_, ?_⟩, rfl⟩
    · simp only [BitVec.getLsbD_and, BitVec.getLsbD_not, hmask, hsafe]
      simp
    · simp only [BitVec.getLsbD_or, BitVec.getLsbD_and, BitVec.getLsbD_not, hmask]
      simp
    · simp only [BitVec.getLsbD_or, BitVec.getLsbD_and, BitVec.getLsbD_not, hmask, Ne.symm hne, hj]
      simp
    · simp only [BitVec.getLsbD_and, BitVec.getLsbD_not, hmask, Ne.symm hne, hj]
      simp

/-! ## Words of block memories -/

/-- The logical words of a physical word fit in its 36 bits (R92, R98). -/
theorem bmGeometry_fits (ratio : Nat) : (bmGeometry ratio).2.1 * 2 ^ (bmGeometry ratio).2.2 ≤ 36 := by
  unfold bmGeometry
  split <;> decide

/-- `v` put in place of the `w` bits of a number from bit `sh` on: they read `v`, and the number stays within its bits. -/
theorem replaced_bits {old v sh w size : Nat} (hold : old < 2 ^ size) (hv : v < 2 ^ w) (hfit : sh + w ≤ size) :
    ((old - ((old >>> sh) % 2 ^ w) * 2 ^ sh + v * 2 ^ sh) >>> sh) % 2 ^ w = v ∧
      old - ((old >>> sh) % 2 ^ w) * 2 ^ sh + v * 2 ^ sh < 2 ^ size := by
  obtain ⟨c, rfl⟩ := Nat.exists_eq_add_of_le hfit
  have hA : 0 < 2 ^ sh := Nat.two_pow_pos sh
  have hlow : old % 2 ^ sh < 2 ^ sh := Nat.mod_lt _ hA
  rw [Nat.shiftRight_eq_div_pow, Nat.shiftRight_eq_div_pow]
  have hsplit : old - (old / 2 ^ sh % 2 ^ w) * 2 ^ sh + v * 2 ^ sh =
      2 ^ sh * (2 ^ w * (old / 2 ^ sh / 2 ^ w) + v) + old % 2 ^ sh := by
    have hlo := Nat.div_add_mod old (2 ^ sh)
    have hmid := Nat.div_add_mod (old / 2 ^ sh) (2 ^ w)
    have hold' : old = 2 ^ sh * (2 ^ w * (old / 2 ^ sh / 2 ^ w)) + old / 2 ^ sh % 2 ^ w * 2 ^ sh + old % 2 ^ sh := by
      rw [Nat.mul_comm (old / 2 ^ sh % 2 ^ w), ← Nat.mul_add, hmid, hlo]
    rw [Nat.mul_add, Nat.mul_comm v]
    omega
  have hhigh : old / 2 ^ sh / 2 ^ w < 2 ^ c := by
    rw [Nat.div_div_eq_div_mul, ← Nat.pow_add]
    exact Nat.div_lt_of_lt_mul (by rwa [← Nat.pow_add])
  rw [hsplit]
  constructor
  · rw [Nat.mul_add_div hA, Nat.div_eq_of_lt hlow, Nat.add_zero, Nat.mul_add_mod, Nat.mod_eq_of_lt hv]
  · calc 2 ^ sh * (2 ^ w * (old / 2 ^ sh / 2 ^ w) + v) + old % 2 ^ sh
        < 2 ^ sh * (2 ^ w * (old / 2 ^ sh / 2 ^ w) + v) + 2 ^ sh := Nat.add_lt_add_left hlow _
      _ = 2 ^ sh * (2 ^ w * (old / 2 ^ sh / 2 ^ w) + v + 1) := by ring
      _ ≤ 2 ^ sh * (2 ^ w * (old / 2 ^ sh / 2 ^ w + 1)) := Nat.mul_le_mul_left _ (by rw [Nat.mul_add]; omega)
      _ ≤ 2 ^ sh * (2 ^ w * 2 ^ c) := Nat.mul_le_mul_left _ (Nat.mul_le_mul_left _ hhigh)
      _ = 2 ^ (sh + w + c) := by rw [Nat.pow_add, Nat.pow_add, Nat.mul_assoc]

section
variable (s : State) (n mem : Nat)

theorem State.bmPhys_lt (w : Nat) : s.bmPhys n mem w < 2 ^ 36 := by
  have := (s.reg (bmAddr n mem w)).isLt
  rw [State.bmPhys]
  omega

theorem State.reg_setBmPhys_other (w v : Nat) {a : Nat} (ha : a ≠ bmAddr n mem w) (ha' : a ≠ bmAddr n mem w + 4) :
    (s.setBmPhys n mem w v).reg a = s.reg a := by
  rw [State.setBmPhys, State.reg_setReg_other _ _ ha', State.reg_setReg_other _ _ ha]

theorem State.bmPhys_setBmPhys_same (w : Nat) {v : Nat} (hv : v < 2 ^ 36) : (s.setBmPhys n mem w v).bmPhys n mem w = v := by
  have hne : bmAddr n mem w ≠ bmAddr n mem w + 4 := by omega
  rw [State.bmPhys, State.setBmPhys, State.reg_setReg_same, State.reg_setReg_other _ _ hne, State.reg_setReg_same,
    BitVec.toNat_ofNat, BitVec.toNat_ofNat]
  omega

/-- The place of a logical address: its physical word (R98). -/
def State.bmPlace (a : Nat) : Nat := (a % 2 ^ (bmGeometry (s.bmRatio n mem)).1) >>> (bmGeometry (s.bmRatio n mem)).2.2

theorem State.reg_bmWrite_other (a v : Nat) {b : Nat} (hb : b ≠ bmAddr n mem (s.bmPlace n mem a))
    (hb' : b ≠ bmAddr n mem (s.bmPlace n mem a) + 4) : (s.bmWrite n mem a v).reg b = s.reg b :=
  State.reg_setBmPhys_other _ _ _ _ _ hb hb'

/-- A write to a memory leaves its aspect ratio alone: the windows lie above the configuration registers (R103). -/
@[simp] theorem State.bmRatio_bmWrite {mem : Nat} (hmem : mem < 32) (a v : Nat) :
    (s.bmWrite n mem a v).bmRatio n mem = s.bmRatio n mem := by
  have hlt (w : Nat) : Reg.ARR_BM_CFG n mem < bmAddr n mem w := by rw [bmAddr, Reg.ARR_BM_CFG]; omega
  have hreg : (s.bmWrite n mem a v).reg (Reg.ARR_BM_CFG n mem) = s.reg (Reg.ARR_BM_CFG n mem) :=
    s.reg_bmWrite_other n mem a v (hlt _).ne ((hlt _).trans_le (Nat.le_add_right _ 4)).ne
  exact congrArg (Fld.ARR_BM_CFG_RATIO n mem).get hreg

/-- A logical word reads what was written to its address, cut to its width (R92, R98). -/
theorem State.bmRead_bmWrite_same {mem : Nat} (hmem : mem < 32) {a b : Nat} (v : Nat)
    (hab : b % 2 ^ (bmGeometry (s.bmRatio n mem)).1 = a % 2 ^ (bmGeometry (s.bmRatio n mem)).1) :
    (s.bmWrite n mem a v).bmRead n mem b = v % 2 ^ (bmGeometry (s.bmRatio n mem)).2.1 := by
  rw [State.bmRead, State.bmRatio_bmWrite s n hmem, hab]
  generalize ha : a % 2 ^ (bmGeometry (s.bmRatio n mem)).1 = la
  rw [State.bmWrite, ha]
  rcases hg : bmGeometry (s.bmRatio n mem) with ⟨_, width, shift⟩
  have hfit : width * (la % 2 ^ shift) + width ≤ 36 := by
    have hword : la % 2 ^ shift + 1 ≤ 2 ^ shift := Nat.mod_lt _ (Nat.two_pow_pos shift)
    have hgeo : width * 2 ^ shift ≤ 36 := by simpa [hg] using bmGeometry_fits (s.bmRatio n mem)
    calc width * (la % 2 ^ shift) + width = width * (la % 2 ^ shift + 1) := by ring
      _ ≤ 36 := (Nat.mul_le_mul_left _ hword).trans hgeo
  obtain ⟨hread, hlt⟩ := replaced_bits (s.bmPhys_lt n mem (la >>> shift)) (Nat.mod_lt v (Nat.two_pow_pos width)) hfit
  dsimp only
  rw [State.bmPhys_setBmPhys_same _ _ _ _ hlt, hread]

@[simp] theorem State.bare_setBmPhys (w v : Nat) : (s.setBmPhys n mem w v).bare = s.bare := by
  rw [State.setBmPhys, State.bare_setReg, State.bare_setReg]

@[simp] theorem State.bare_bmWrite (a v : Nat) : (s.bmWrite n mem a v).bare = s.bare := State.bare_setBmPhys _ _ _ _ _

/-- Which memories are persistent does not depend on the registers. -/
theorem State.memKept_of_bare {s t : State} (h : t.bare = s.bare) (n mem : Nat) : t.memKept n mem = s.memKept n mem := by
  have hown : t.own = s.own := (congrArg (fun u : State => u.own) h :)
  have htwin : t.twin = s.twin := (congrArg (fun u : State => u.twin) h :)
  simp only [State.memKept, State.virtOf, State.physOf, hown, htwin]

theorem State.memKept_bmWrite (k a v : Nat) : (s.bmWrite n mem a v).memKept n k = s.memKept n k :=
  State.memKept_of_bare (State.bare_bmWrite _ _ _ _ _) _ _

theorem State.noteMem_of_not_kept {s : State} {n mem : Nat} (h : s.memKept n mem = false) (w data : Nat) :
    s.noteMem n mem w data = s := by
  rw [State.noteMem, h, if_neg Bool.false_ne_true]

/-- A write to a memory that is not persistent is neither suppressed nor noted (R555, R557). -/
theorem State.bmStep_of_not_kept {s : State} {n mem : Nat} (h : s.memKept n mem = false) (a v : Nat) :
    s.bmStep n mem a v = s.bmWrite n mem a v := by
  rw [State.bmStep, h, Bool.and_false, if_neg Bool.false_ne_true]
  exact State.noteMem_of_not_kept ((State.memKept_bmWrite _ _ _ _ _ _).trans h) _ _

/-! ## The accesses of a block memory -/

/-- Both ports of a memory free again. -/
def freePorts (l : Pairs (Option BmAccess)) : Pairs (Option BmAccess) :=
  Sparse.put none (Sparse.put none l (n * 64 + mem * 2) none) (n * 64 + mem * 2 + 1) none

theorem get_freePorts_portA (l : Pairs (Option BmAccess)) : Sparse.get none (freePorts n mem l) (n * 64 + mem * 2) = none := by
  rw [freePorts, Sparse.get_put_other _ _ _ _ (by omega), Sparse.get_put_same]

/-- A state with other read-data registers, other data to land and other pending accesses. -/
def State.withPorts (rd : Pairs (BitVec 36)) (landed : List (Nat × Bool)) (pend : Pairs (Option BmAccess)) : State :=
  { s with arr := { s.arr with rdReg := rd, landed := landed, bmPend := pend } }

section
variable (rd : Pairs (BitVec 36)) (landed : List (Nat × Bool)) (pend : Pairs (Option BmAccess))

@[simp] theorem State.withPorts_rdReg : (s.withPorts rd landed pend).arr.rdReg = rd := rfl
@[simp] theorem State.withPorts_landed : (s.withPorts rd landed pend).arr.landed = landed := rfl
@[simp] theorem State.withPorts_bmPend : (s.withPorts rd landed pend).arr.bmPend = pend := rfl
@[simp] theorem State.reg_withPorts (a : Nat) : (s.withPorts rd landed pend).reg a = s.reg a := rfl
@[simp] theorem State.bmRead_withPorts (a : Nat) : (s.withPorts rd landed pend).bmRead n mem a = s.bmRead n mem a := rfl
theorem State.withPorts_frame :
    s.withPorts rd landed pend = { s with arr := { s.arr with rdReg := rd, landed := landed, bmPend := pend } } :=
  rfl

end

/-- The state with both ports of a memory free again. -/
def State.clearPorts : State := s.withPorts s.arr.rdReg s.arr.landed (freePorts n mem s.arr.bmPend)

theorem State.reg_clearPorts (a : Nat) : (s.clearPorts n mem).reg a = s.reg a := State.reg_withPorts _ _ _ _ _
theorem State.bmRead_clearPorts (a : Nat) : (s.clearPorts n mem).bmRead n mem a = s.bmRead n mem a :=
  State.bmRead_withPorts _ _ _ _ _ _ _
theorem State.clearPorts_portA : Sparse.get none (s.clearPorts n mem).arr.bmPend (n * 64 + mem * 2) = none :=
  get_freePorts_portA _ _ _

end

section
variable {s : State} {n mem : Nat} {x : BmAccess} (hx : Sparse.get none s.arr.bmPend (n * 64 + mem * 2) = some x)
include hx

theorem State.performMem_of_read (hy : Sparse.get none s.arr.bmPend (n * 64 + mem * 2 + 1) = none) (hre : x.re = true)
    (hwe : x.we = false) :
    s.performMem n mem = s.withPorts (Sparse.put 0 s.arr.rdReg (n * 64 + mem * 2) (BitVec.ofNat 36 (s.bmRead n mem x.addr)))
      (s.arr.landed ++ [(n * 64 + mem * 2, x.page)]) (freePorts n mem s.arr.bmPend) := by
  simp only [State.performMem, hx, hy, hre, hwe, if_true, Bool.false_eq_true, if_false, State.bmReadPort, State.withPorts, freePorts]

theorem State.performMem_of_write (hy : Sparse.get none s.arr.bmPend (n * 64 + mem * 2 + 1) = none) (hre : x.re = false)
    (hwe : x.we = true) (hkept : s.memKept n mem = false) :
    s.performMem n mem = (s.bmWrite n mem x.addr x.data.toNat).clearPorts n mem := by
  rw [← State.bmStep_of_not_kept hkept]
  simp only [State.performMem, hx, hy, hre, hwe, if_true, Bool.false_eq_true, if_false, State.clearPorts, State.withPorts, freePorts]

/-- Two writes to one address in one step leave 0 there (R96). -/
theorem State.performMem_of_clash {y : BmAccess} (hy : Sparse.get none s.arr.bmPend (n * 64 + mem * 2 + 1) = some y)
    (hrex : x.re = false) (hrey : y.re = false) (hwex : x.we = true) (hwey : y.we = true)
    (haddr : x.addr % 2 ^ (bmGeometry (s.bmRatio n mem)).1 = y.addr % 2 ^ (bmGeometry (s.bmRatio n mem)).1)
    (hkept : s.memKept n mem = false) :
    s.performMem n mem = ((s.bmWrite n mem x.addr 0).bmWrite n mem y.addr 0).clearPorts n mem := by
  have hkept' : (s.bmWrite n mem x.addr 0).memKept n mem = false := (State.memKept_bmWrite _ _ _ _ _ _).trans hkept
  rw [← State.bmStep_of_not_kept hkept', ← State.bmStep_of_not_kept hkept]
  simp only [State.performMem, hx, hy, hrex, hrey, hwex, hwey, haddr, Bool.and_self, beq_self_eq_true, if_true,
    Bool.false_eq_true, if_false, State.clearPorts, State.withPorts, freePorts]

end

section
variable {sorus : Fin 34} {mem : Fin 32} {s : State} {x : BmAccess} (hrun : s.seqState = 2)
  (hx : Sparse.get none s.arr.bmPend (sorus.val * 64 + mem.val * 2) = some x)
include hrun

/-- In a running sequencer the command performs the accesses that the two ports issued (R94). -/
theorem completes_blockMemoryAccess {P : State → Prop} (hP : P (s.performMem sorus mem)) :
    Completes (.blockMemoryAccess sorus mem) s P :=
  ⟨_, congrArg Host.Outcome.next (if_pos hrun), hP⟩

include hx

theorem blockMemoryRead_completes (hy : Sparse.get none s.arr.bmPend (sorus.val * 64 + mem.val * 2 + 1) = none) (hre : x.re = true)
    (hwe : x.we = false) : Completes (.blockMemoryAccess sorus mem) s fun t =>
      Sparse.get 0 t.arr.rdReg (sorus.val * 64 + mem.val * 2) = BitVec.ofNat 36 (s.bmRead sorus mem x.addr) ∧
      t.arr.landed = s.arr.landed ++ [(sorus.val * 64 + mem.val * 2, x.page)] ∧
      Sparse.get none t.arr.bmPend (sorus.val * 64 + mem.val * 2) = none ∧
      t = { s with arr := { s.arr with rdReg := t.arr.rdReg, landed := t.arr.landed, bmPend := t.arr.bmPend } } := by
  refine completes_blockMemoryAccess hrun ?_
  rw [State.performMem_of_read hx hy hre hwe]
  simp only [State.withPorts_rdReg, State.withPorts_landed, State.withPorts_bmPend]
  exact ⟨Sparse.get_put_same _ _ _ _, trivial, get_freePorts_portA _ _ _, State.withPorts_frame _ _ _ _⟩

theorem blockMemoryWrite_completes (hy : Sparse.get none s.arr.bmPend (sorus.val * 64 + mem.val * 2 + 1) = none) (hre : x.re = false)
    (hwe : x.we = true) (hkept : s.memKept sorus mem = false) : Completes (.blockMemoryAccess sorus mem) s fun t =>
      t.bmRead sorus mem x.addr = x.data.toNat % 2 ^ (bmGeometry (s.bmRatio sorus mem)).2.1 ∧
      Sparse.get none t.arr.bmPend (sorus.val * 64 + mem.val * 2) = none ∧
      ∀ a, a ≠ bmAddr sorus mem (s.bmPlace sorus mem x.addr) → a ≠ bmAddr sorus mem (s.bmPlace sorus mem x.addr) + 4 →
        t.reg a = s.reg a := by
  refine completes_blockMemoryAccess hrun ?_
  rw [State.performMem_of_write hx hy hre hwe hkept]
  exact ⟨(State.bmRead_clearPorts _ _ _ _).trans (State.bmRead_bmWrite_same s sorus mem.isLt _ rfl), State.clearPorts_portA _ _ _,
    fun a ha ha' => (State.reg_clearPorts _ _ _ a).trans (s.reg_bmWrite_other sorus mem _ _ ha ha')⟩

theorem blockMemoryClash_completes {y : BmAccess} (hy : Sparse.get none s.arr.bmPend (sorus.val * 64 + mem.val * 2 + 1) = some y)
    (hrex : x.re = false) (hrey : y.re = false) (hwex : x.we = true) (hwey : y.we = true)
    (haddr : x.addr % 2 ^ (bmGeometry (s.bmRatio sorus mem)).1 = y.addr % 2 ^ (bmGeometry (s.bmRatio sorus mem)).1)
    (hkept : s.memKept sorus mem = false) :
    Completes (.blockMemoryAccess sorus mem) s fun t => t.bmRead sorus mem x.addr = 0 := by
  refine completes_blockMemoryAccess hrun ?_
  rw [State.performMem_of_clash hx hy hrex hrey hwex hwey haddr hkept, State.bmRead_clearPorts]
  have hratio := State.bmRatio_bmWrite s sorus mem.isLt x.addr 0
  rw [State.bmRead_bmWrite_same _ _ mem.isLt 0 (by rw [hratio, haddr]), Nat.zero_mod]

end

end Sys2Proof.Machine

/-! PROOFS.  The windows of a sorus (R103 to R108). -/

namespace Sys2Proof.Machine

/-! ## The events of a write -/

theorem State.sticky_reply (s : State) (c : Status) (d : Word32) (n : Nat) : (s.reply c d).sticky n = s.sticky n := rfl

/-- A write refused while the sorus runs: ARR_BUSY, and nothing that the windows hold changes (R70). -/
def State.BusyRefused (s : State) (n : Nat) (t : State) : Prop :=
  t.done.status = Code.arrBusy ∧ t.flag (Fld.ARR_STATUS_BUSY_REFUSED n) = true ∧ t.sticky (2 * n + 1) = true ∧
    t.arr = { s.arr with staging := t.arr.staging } ∧
    ∀ a, eventSafe (wholeReg a) = true → a ≠ Reg.ARR_STATUS n → t.reg a = s.reg a

section
variable {n : Nat} (hn : n < 34)
include hn

/-- An accepted write of the configuration sets MODIFIED, raises its event and extends MR4 (R104, R423). -/
theorem State.modified_spec (s : State) (off : Nat) (v : Word32) :
    (s.modified n off v).flag (Fld.ARR_WIN_STAT_MODIFIED n) = true ∧ (s.modified n off v).sticky (2 * n + 1) = true ∧
      ∀ a, 0x0C000000 ≤ a → a ≠ Reg.ARR_WIN_STAT n → (s.modified n off v).reg a = s.reg a := by
  have hev : 2 * n + 1 < 512 := by omega
  have hmr {a : Nat} (ha : 0x0C000000 ≤ a) (t : State) (x : List Byte) : (t.extendMr 4 x).reg a = t.reg a :=
    t.reg_extendMr_other x (Or.inr (by rw [Reg.SEC_MR]; omega))
  have hwin : 0x0C000000 ≤ Reg.ARR_WIN_STAT n := by rw [Reg.ARR_WIN_STAT]; omega
  rw [State.modified]
  refine ⟨?_, ?_, fun a ha hne => ?_⟩
  · rw [State.flag_of_reg (hmr hwin _ _)]
    exact State.flag_raiseBit_same _ _ hev (eventSafe_of_array hwin) rfl rfl
  · rw [State.sticky_extendMr _ _ _ hev]
    exact State.sticky_raiseBit_same _ _ _ hev
  · rw [hmr ha, State.reg_raiseBit_other _ hev (eventSafe_of_array ha) hne]

omit hn in
@[simp] theorem State.modified_arr (s : State) (off : Nat) (v : Word32) : (s.modified n off v).arr = s.arr := by
  rw [State.modified, State.extendMr_arr, State.raiseBit_arr]

theorem OnlyEv.modified {w : List Field} {s t : State} (h : OnlyEv w s t) (off : Nat) (v : Word32)
    (hm : ∀ f ∈ Fld.ARR_WIN_STAT_MODIFIED n :: mrFields 4, f ∈ w) : OnlyEv w s (t.modified n off v) :=
  (h.raiseBit _ _ rfl (hm _ List.mem_cons_self) (by omega)).extendMr _ _ fun f hf => hm f (List.mem_cons_of_mem _ hf)

/-- The refusal of a write that may have changed the staging word. -/
theorem State.busyRefused_arrBusy {s u : State} (hregs : u.regs = s.regs) (harr : u.arr = { s.arr with staging := u.arr.staging }) :
    s.BusyRefused n (u.arrBusy n) := by
  have hev : 2 * n + 1 < 512 := by omega
  have hstatus : 0x0C000000 ≤ Reg.ARR_STATUS n := by rw [Reg.ARR_STATUS]; omega
  have harr' : (u.arrBusy n).arr = u.arr := by rw [State.arrBusy, State.reply_arr, State.raiseBit_arr]
  refine ⟨State.reply_status _ _ _, ?_, ?_, by rwa [harr'], fun a hsafe hne => ?_⟩
  · rw [State.arrBusy, State.flag_reply]
    exact State.flag_raiseBit_same _ _ hev (eventSafe_of_array hstatus) rfl rfl
  · rw [State.arrBusy, State.sticky_reply]
    exact State.sticky_raiseBit_same _ _ _ hev
  · rw [State.arrBusy, State.reg_reply, State.reg_raiseBit_other _ hev hsafe hne, State.reg_congr hregs]

end

/-! ## Addresses of the windows (R103) -/

/-- The address of a word of the configuration windows (R103). -/
def configAddr (n word : Nat) : Nat := 0x0C001000 + n * 0x100000 + word * 4

theorem configAddr_eq (n word : Nat) : configAddr n word = 0x0C001000 + n * 0x100000 + word * 4 := rfl

theorem memWordAddr_slots (n : Nat) (word : Fin 8192) : memWordAddr n (.slots word) = 0x0C010000 + n * 0x100000 + word.val * 4 := rfl

theorem memWordAddr_block (n : Nat) (word : Fin 65536) : memWordAddr n (.block word) = 0x0C040000 + n * 0x100000 + word.val * 4 := rfl

theorem winSorus_configAddr (n : Nat) {word : Nat} (h : word < 4224) : winSorus (configAddr n word) = n := by
  rw [configAddr_eq, winSorus]
  omega

theorem winSorus_memWordAddr (n : Nat) (word : MemWord) : winSorus (memWordAddr n word) = n := by
  cases word with
  | slots w => rw [memWordAddr_slots, winSorus]; omega
  | block w => rw [memWordAddr_block, winSorus]; omega

theorem winOff_slots (n : Nat) (word : Fin 8192) : winOff (memWordAddr n (.slots word)) < 0x18000 := by
  rw [memWordAddr_slots, winOff]
  omega

theorem winOff_block (n : Nat) (word : Fin 65536) : 0x18000 ≤ winOff (memWordAddr n (.block word)) := by
  rw [memWordAddr_block, winOff]
  omega

/-! ## The instruction windows (R107, R108) -/

section
variable (s : State) (n : Nat)

theorem State.stagingOf_setStaging_same (v : BitVec 72) : (s.setStaging n v).stagingOf n = v := Sparse.get_put_same _ _ _ _

theorem State.imemWord_setImem_same (l : Nat) (v : BitVec 72) : (s.setImem l v).imemWord l = v := Sparse.get_put_same _ _ _ _

theorem State.imemWord_setImem_other {l k : Nat} (v : BitVec 72) (h : k ≠ l) : (s.setImem l v).imemWord k = s.imemWord k :=
  Sparse.get_put_other _ _ _ _ h

theorem State.imAdvance_of_autoinc {s : State} (h : s.flag (Fld.ARR_IM_ADDR_AUTOINC n) = true) :
    s.imAdvance n = s.setFld (Fld.ARR_IM_ADDR_WORD n) (s.fld (Fld.ARR_IM_ADDR_WORD n) + 1) := if_pos h

theorem State.imAdvance_of_not_autoinc {s : State} (h : s.flag (Fld.ARR_IM_ADDR_AUTOINC n) = false) : s.imAdvance n = s :=
  if_neg (by rw [h]; exact Bool.false_ne_true)

@[simp] theorem State.imAdvance_arr : (s.imAdvance n).arr = s.arr := by
  rw [State.imAdvance]
  split
  · exact State.setFld_arr _ _ _
  · rfl

theorem State.reg_imAdvance_other {a : Nat} (h : a ≠ Reg.ARR_IM_ADDR n) : (s.imAdvance n).reg a = s.reg a := by
  rw [State.imAdvance]
  split
  · exact State.reg_setFld_other _ _ _ _ h
  · rfl

end

/-- The word that a write of ARR_IM_HI commits: its value, the low half of the staging word, and generated check bits (R108). -/
def State.imCommitted (s : State) (n : Nat) (v : Word32) : BitVec 72 :=
  let data : Word64 := v ++ ((s.stagingOf n).setWidth 32 : Word32)
  eccJoin data (eccChk data)

theorem State.imemWord_congr {s t : State} (h : t.arr = s.arr) (l : Nat) : t.imemWord l = s.imemWord l := by
  rw [State.imemWord, h, State.imemWord]

/-- A write of ARR_IM_HI while the sorus does not run commits the staging word (R104, R108). -/
theorem State.imHiWrite_of_not_run {s : State} {n : Nat} (hrun : s.flag (Fld.ARR_STATUS_RUN n) = false) (v : Word32) :
    ∃ u : State, s.imHiWrite n v = ((u.modified n 0x108 v).imAdvance n).reply Code.ok ∧
      u.imemWord (s.imSelected n) = s.imCommitted n v ∧ ∀ l, l ≠ s.imSelected n → u.imemWord l = s.imemWord l :=
  ⟨_, if_neg (by rw [hrun]; exact Bool.false_ne_true), State.imemWord_setImem_same _ _ _,
    fun _ hl => State.imemWord_setImem_other _ _ hl⟩

/-- While the sorus runs it is refused; only the staging word has taken the written bits. -/
theorem State.imHiWrite_of_run {s : State} {n : Nat} (hrun : s.flag (Fld.ARR_STATUS_RUN n) = true) (v : Word32) :
    ∃ w, s.imHiWrite n v = (s.setStaging n w).arrBusy n :=
  ⟨_, if_pos hrun⟩

section
variable {mid : Mid} {sorus : Fin 34} {s : State}

/-- A read of ARR_IM_LO takes the selected word into the staging word (R108). -/
theorem arrImLoRead_completes (hawake : s.awake (Reg.ARR_IM_LO sorus)) : Completes (.arrImLoRead mid sorus) s fun t =>
    t.done = { status := Code.ok, data := (s.imemWord (s.imSelected sorus)).setWidth 32 } ∧
    t.stagingOf sorus = s.imemWord (s.imSelected sorus) ∧
    Only [] { s with arr := { s.arr with staging := t.arr.staging } } t := by
  refine ⟨s.imLoRead sorus, congrArg Host.Outcome.next (State.gate_of_awake hawake _ _ _), ?_⟩
  exact ⟨rfl, State.stagingOf_setStaging_same _ _ _, (Only.refl _ _).reply _ _⟩

/-- A read of ARR_IM_HI gives the middle bits of the staging word (R108). -/
theorem arrImHiRead_completes (hawake : s.awake (Reg.ARR_IM_HI sorus)) : Completes (.arrImHiRead mid sorus) s fun t =>
    t.done.status = Code.ok ∧ t.done.data = (s.stagingOf sorus).extractLsb' 32 32 ∧
    (s.flag (Fld.ARR_IM_ADDR_AUTOINC sorus) = true →
      t.fld (Fld.ARR_IM_ADDR_WORD sorus) = (s.fld (Fld.ARR_IM_ADDR_WORD sorus) + 1) % 1024 ∧
      Only [Fld.ARR_IM_ADDR_WORD sorus] s t) ∧
    (s.flag (Fld.ARR_IM_ADDR_AUTOINC sorus) = false → Only [] s t) := by
  refine ⟨s.imHiRead sorus, congrArg Host.Outcome.next (State.gate_of_awake hawake _ _ _), rfl, ?_, fun hinc => ?_, fun hinc => ?_⟩
  · rw [State.imHiRead, State.reply_data, BitVec.extractLsb', Nat.shiftRight_eq_div_pow]
  · rw [State.imHiRead, State.imAdvance_of_autoinc _ hinc, State.fld_reply, State.fld_setFld_same _ _ _ rfl]
    exact ⟨rfl, ((Only.refl _ _).setFld _ _ rfl List.mem_cons_self).reply _ _⟩
  · rw [State.imHiRead, State.imAdvance_of_not_autoinc _ hinc]
    exact (Only.refl _ _).reply _ _

/-- A write of ARR_IM_HI stores the staging word with generated check bits (R104, R108). -/
theorem arrImHiWrite_completes (value : Word32) (hawake : s.awake (Reg.ARR_IM_HI sorus))
    (hrun : s.flag (Fld.ARR_STATUS_RUN sorus) = false) : Completes (.arrImHiWrite mid sorus value) s fun t =>
      t.imemWord (s.imSelected sorus) = s.imCommitted sorus value ∧
      (∀ l, l ≠ s.imSelected sorus → t.imemWord l = s.imemWord l) ∧ t.flag (Fld.ARR_WIN_STAT_MODIFIED sorus) = true ∧
      t.sticky (2 * sorus.val + 1) = true ∧ t.done.status = Code.ok := by
  refine ⟨s.imHiWrite sorus value, congrArg Host.Outcome.next (State.gate_of_awake hawake _ _ _), ?_⟩
  obtain ⟨u, hu, hsame, hother⟩ := State.imHiWrite_of_not_run hrun value
  obtain ⟨hflag, hsticky, -⟩ := State.modified_spec sorus.isLt u 0x108 value
  rw [hu]
  have hstored (l : Nat) : (((u.modified sorus 0x108 value).imAdvance sorus).reply Code.ok).imemWord l = u.imemWord l :=
    State.imemWord_congr (by rw [State.reply_arr, State.imAdvance_arr, State.modified_arr]) l
  refine ⟨(hstored _).trans hsame, fun l hl => (hstored l).trans (hother l hl), ?_, ?_, State.reply_status _ _ _⟩
  · have hne : Reg.ARR_WIN_STAT sorus ≠ Reg.ARR_IM_ADDR sorus := by rw [Reg.ARR_WIN_STAT, Reg.ARR_IM_ADDR]; omega
    rw [State.flag_reply, ← hflag]
    exact State.flag_of_reg (State.reg_imAdvance_other _ _ hne)
  · rw [State.sticky_reply, ← hsticky]
    refine State.sticky_congr _ (State.reg_imAdvance_other _ _ ?_)
    rw [Reg.EVT_STICKY, Reg.ARR_IM_ADDR]
    omega

theorem arrImHiWrite_refused (value : Word32) (hawake : s.awake (Reg.ARR_IM_HI sorus))
    (hrun : s.flag (Fld.ARR_STATUS_RUN sorus) = true) : Completes (.arrImHiWrite mid sorus value) s (s.BusyRefused sorus) := by
  refine ⟨s.imHiWrite sorus value, congrArg Host.Outcome.next (State.gate_of_awake hawake _ _ _), ?_⟩
  obtain ⟨w, hw⟩ := State.imHiWrite_of_run hrun value
  rw [hw]
  exact State.busyRefused_arrBusy sorus.isLt rfl rfl

end

/-! ## The configuration and memory windows (R104, R105) -/

section
variable {s : State} {a : Nat} (v : Word32)

theorem State.configWrite_of_run (hrun : s.flag (Fld.ARR_STATUS_RUN (winSorus a)) = true) :
    s.configWrite a v = s.arrBusy (winSorus a) := if_pos hrun

theorem State.configWrite_of_not_run (hrun : s.flag (Fld.ARR_STATUS_RUN (winSorus a)) = false) :
    s.configWrite a v = ((s.setReg a v).modified (winSorus a) (winOff a) v).reply Code.ok :=
  if_neg (by rw [hrun]; exact Bool.false_ne_true)

theorem State.memoryWrite_of_run (hrun : s.flag (Fld.ARR_STATUS_RUN (winSorus a)) = true) :
    s.memoryWrite a v = s.arrBusy (winSorus a) := if_pos hrun

theorem State.memoryWrite_of_slots (hrun : s.flag (Fld.ARR_STATUS_RUN (winSorus a)) = false) (ha : winOff a < 0x18000) :
    s.memoryWrite a v = ((s.setReg a v).setReg (a + 0x8000) 0xFFFFFFFF).reply Code.ok := by
  rw [State.memoryWrite]
  exact (if_neg (by rw [hrun]; exact Bool.false_ne_true)).trans (if_pos ha)

theorem State.memoryWrite_of_block (hrun : s.flag (Fld.ARR_STATUS_RUN (winSorus a)) = false) (ha : 0x18000 ≤ winOff a) :
    s.memoryWrite a v = (s.setReg a (if a % 8 = 4 then v &&& 0xF else v)).reply Code.ok := by
  rw [State.memoryWrite]
  exact (if_neg (by rw [hrun]; exact Bool.false_ne_true)).trans (if_neg (Nat.not_lt.2 ha))

end

section
variable {mid : Mid} {sorus : Fin 34} {s : State} (value : Word32)

theorem completes_configWindowWrite {word : Fin 4224} {P : State → Prop} (hawake : s.awake (configAddr sorus word))
    (hP : P (s.configWrite (configAddr sorus word) value)) : Completes (.configWindowWrite mid sorus word value) s P :=
  ⟨_, congrArg Host.Outcome.next (State.gate_of_awake hawake _ _ _), hP⟩

theorem completes_memoryWindowWrite {word : MemWord} {P : State → Prop} (hawake : s.awake (memWordAddr sorus word))
    (hP : P (s.memoryWrite (memWordAddr sorus word) value)) : Completes (.memoryWindowWrite mid sorus word value) s P :=
  ⟨_, congrArg Host.Outcome.next (State.gate_of_awake hawake _ _ _), hP⟩

/-- A write of a configuration word sets MODIFIED (R104). -/
theorem configWindowWrite_completes {word : Fin 4224} (hawake : s.awake (configAddr sorus word))
    (hrun : s.flag (Fld.ARR_STATUS_RUN sorus) = false) : Completes (.configWindowWrite mid sorus word value) s fun t =>
      t.reg (configAddr sorus word) = value ∧ t.flag (Fld.ARR_WIN_STAT_MODIFIED sorus) = true ∧
      t.sticky (2 * sorus.val + 1) = true ∧ t.done.status = Code.ok ∧
      OnlyEv (wholeReg (configAddr sorus word) :: Fld.ARR_WIN_STAT_MODIFIED sorus :: mrFields 4) s t := by
  have hwin := winSorus_configAddr sorus word.isLt
  refine completes_configWindowWrite value hawake ?_
  rw [State.configWrite_of_not_run value (by rwa [hwin]), hwin]
  obtain ⟨hflag, hsticky, hreg⟩ :=
    State.modified_spec sorus.isLt (s.setReg (configAddr sorus word) value) (winOff (configAddr sorus word)) value
  refine ⟨?_, (State.flag_reply _ _ _ _).trans hflag, (State.sticky_reply _ _ _ _).trans hsticky, State.reply_status _ _ _, ?_⟩
  · rw [State.reg_reply, hreg _ (by rw [configAddr]; omega) (by rw [configAddr, Reg.ARR_WIN_STAT]; omega), State.reg_setReg_same]
  · exact ((((OnlyEv.refl _ s).setReg _ _ List.mem_cons_self).modified sorus.isLt _ _
      fun f hf => List.mem_cons_of_mem _ hf).reply _ _)

/-- A written data-memory word is valid (R105). -/
theorem memoryWindowWrite_slots_completes {word : Fin 8192} (hawake : s.awake (memWordAddr sorus (.slots word)))
    (hrun : s.flag (Fld.ARR_STATUS_RUN sorus) = false) : Completes (.memoryWindowWrite mid sorus (.slots word) value) s fun t =>
      let a := memWordAddr sorus (.slots word)
      t.reg a = value ∧ t.reg (a + 0x8000) = 0xFFFFFFFF ∧ t.done.status = Code.ok ∧
      Only [wholeReg a, wholeReg (a + 0x8000)] s t := by
  have hwin := winSorus_memWordAddr sorus (.slots word)
  refine completes_memoryWindowWrite value hawake ?_
  rw [State.memoryWrite_of_slots value (by rwa [hwin]) (winOff_slots _ _)]
  refine ⟨?_, (State.reg_reply _ _ _ _).trans (State.reg_setReg_same _ _ _), State.reply_status _ _ _,
    (((Only.refl _ s).setReg _ _ List.mem_cons_self).setReg _ _ (List.mem_cons_of_mem _ List.mem_cons_self)).reply _ _⟩
  rw [State.reg_reply, State.reg_setReg_other _ _ (by omega), State.reg_setReg_same]

/-- A written block-memory word keeps the bits that its physical word has (R103, R105). -/
theorem memoryWindowWrite_block_completes {word : Fin 65536} (hawake : s.awake (memWordAddr sorus (.block word)))
    (hrun : s.flag (Fld.ARR_STATUS_RUN sorus) = false) : Completes (.memoryWindowWrite mid sorus (.block word) value) s fun t =>
      t.reg (memWordAddr sorus (.block word)) = (if word.val % 2 = 1 then value &&& 0xF else value) ∧ t.done.status = Code.ok ∧
      Only [wholeReg (memWordAddr sorus (.block word))] s t := by
  have hwin := winSorus_memWordAddr sorus (.block word)
  have hupper : memWordAddr sorus (.block word) % 8 = 4 ↔ word.val % 2 = 1 := by rw [memWordAddr_block]; omega
  refine completes_memoryWindowWrite value hawake ?_
  rw [State.memoryWrite_of_block value (by rwa [hwin]) (winOff_block _ _)]
  simp only [hupper]
  exact ⟨(State.reg_reply _ _ _ _).trans (State.reg_setReg_same _ _ _), State.reply_status _ _ _,
    ((Only.refl _ s).setReg _ _ List.mem_cons_self).reply _ _⟩

theorem configWindowWrite_refused {word : Fin 4224} (hawake : s.awake (configAddr sorus word))
    (hrun : s.flag (Fld.ARR_STATUS_RUN sorus) = true) :
    Completes (.configWindowWrite mid sorus word value) s (s.BusyRefused sorus) := by
  have hwin := winSorus_configAddr sorus word.isLt
  refine completes_configWindowWrite value hawake ?_
  rw [State.configWrite_of_run value (by rwa [hwin]), hwin]
  exact State.busyRefused_arrBusy sorus.isLt rfl rfl

theorem memoryWindowWrite_refused {word : MemWord} (hawake : s.awake (memWordAddr sorus word))
    (hrun : s.flag (Fld.ARR_STATUS_RUN sorus) = true) :
    Completes (.memoryWindowWrite mid sorus word value) s (s.BusyRefused sorus) := by
  have hwin := winSorus_memWordAddr sorus word
  refine completes_memoryWindowWrite value hawake ?_
  rw [State.memoryWrite_of_run value (by rwa [hwin]), hwin]
  exact State.busyRefused_arrBusy sorus.isLt rfl rfl

end

/-- Settles O26: the parts of the array within a step, then the windows of a sorus that does not run, and of one that runs. -/
theorem arrayPartsAndWindows : Obligations.ArrayPartsAndWindows := by
  constructor
  · intro sorus mem frond m bank pin s n key geo
    refine ⟨fun hrun => ⟨fun x hx hy => ⟨blockMemoryRead_completes hrun hx hy, blockMemoryWrite_completes hrun hx hy⟩,
      fun x y hx hy => blockMemoryClash_completes hrun hx hy, sorusLaneDelivery_completes sorus frond m hrun⟩, ?_⟩
    exact ⟨_, rfl, s.loadPin_spec (by omega)⟩
  · intro mid sorus word slotWord blockWord value s
    -- The names of the words and addresses in the statement give way to what they stand for.
    dsimp only
    intro hlo hhi hconf hslot hblock
    rw [← configAddr_eq] at hconf
    rw [← memWordAddr_slots] at hslot
    rw [← memWordAddr_block] at hblock
    refine ⟨arrImLoRead_completes hlo, arrImHiRead_completes hhi, fun hrun => ⟨arrImHiWrite_completes value hhi hrun,
      configWindowWrite_completes value hconf hrun, memoryWindowWrite_slots_completes value hslot hrun,
      memoryWindowWrite_block_completes value hblock hrun⟩, ?_⟩
    rintro hrun c (rfl | rfl | rfl | rfl)
    · exact arrImHiWrite_refused value hhi hrun
    · exact configWindowWrite_refused value hconf hrun
    · exact memoryWindowWrite_refused value hslot hrun
    · exact memoryWindowWrite_refused value hblock hrun

end Sys2Proof.Machine

/-! PROOFS.  The moves of the sequencer between its states: what each sets, and what it leaves unchanged (R113 to R115, R140). -/

namespace Sys2Proof.Machine

/-! ## Registers that a move leaves alone -/

section
variable {a : Nat}

theorem State.reg_foldl {α : Type} (g : State → α → State) (l : List α) (s : State) (h : ∀ t x, (g t x).reg a = t.reg a) :
    (l.foldl g s).reg a = s.reg a := by
  induction l generalizing s with
  | nil => rfl
  | cons x r ih => rw [List.foldl_cons, ih, h]

theorem State.reg_exitSource_other (s : State) (src idx : Nat) (x y z : Bool) (h : a ≠ Reg.PWR_STATUS) :
    (s.exitSource src idx x y z).reg a = s.reg a := by
  unfold State.exitSource
  dsimp only
  generalize (if s.devState = 5 then s.pwr.target else s.devState) = here
  split
  · exact State.reg_setFld_other s Fld.PWR_STATUS_STATE 6 a h
  · rfl

/-- The registers of the array, the sequencer's among them, lie above those of the power controller and of the twin unit (R25). -/
theorem State.reg_liftGate (s : State) (h : 0x0C000000 ≤ a) : s.liftGate.reg a = s.reg a := by
  unfold State.liftGate
  split
  · exact State.reg_exitSource_other _ _ _ _ _ _ (by simp only [Reg.PWR_STATUS]; omega)
  · rfl

theorem State.reg_sendEnd (s : State) (h : 0x0C000000 ≤ a) : s.sendEnd.reg a = s.reg a := by
  unfold State.sendEnd
  split
  · have hstatus : a ≠ Fld.TWN_STATUS_SENDING.addr := by simp only [Reg.TWN_STATUS]; omega
    have hphase : a ≠ Fld.TWN_RS_STAT_PHASE.addr := by simp only [Reg.TWN_RS_STAT]; omega
    rw [State.reg_setFlag_other _ _ _ _ hstatus, State.rsClear, State.reg_setFld_other _ _ _ _ hphase]
    rfl
  · rfl

theorem State.reg_sendFail (s : State) (cause : Nat) (h : 0x0C000000 ≤ a) : (s.sendFail cause).reg a = s.reg a := by
  unfold State.sendFail
  split
  · rw [State.reg_emit, State.reg_sendEnd _ h]
  · rfl

theorem State.reg_runBits (s : State) (h : ∀ n, a ≠ Reg.ARR_STATUS n) : s.runBits.reg a = s.reg a := by
  unfold State.runBits
  exact State.reg_foldl _ _ _ fun _ n => State.reg_setFlag_other _ _ _ _ (h n)

/-- Port bits that take a value change the window of the port bits' valid bits and what lies above it (R103). -/
theorem State.reg_landOn (s : State) (n : Nat) (value : PortSrc → Option Bool) (h : a < 0x0C007000) :
    (s.landOn n value).reg a = s.reg a := by
  unfold State.landOn
  refine State.reg_foldl _ _ _ fun t i => ?_
  split
  · exact State.reg_setFlag_other _ _ _ _ (by simp only [portValid]; omega)
  · rfl

theorem State.reg_landEvents (s : State) (h : a < 0x0C007000) : s.landEvents.reg a = s.reg a := by
  unfold State.landEvents
  refine State.reg_foldl _ _ _ fun t n => ?_
  split
  · exact State.reg_landOn _ _ _ h
  · rfl

end

/-! ## The sequencer's own state in a move -/

theorem State.seq_foldl {α : Type} (g : State → α → State) (l : List α) (s : State) (h : ∀ t x, (g t x).seq = t.seq) :
    (l.foldl g s).seq = s.seq := by
  induction l generalizing s with
  | nil => rfl
  | cons x r ih => rw [List.foldl_cons, ih, h]

@[simp] theorem State.exitSource_seq (s : State) (src idx : Nat) (x y z : Bool) : (s.exitSource src idx x y z).seq = s.seq := by
  unfold State.exitSource
  dsimp only
  generalize (if s.devState = 5 then s.pwr.target else s.devState) = here
  split <;> rfl

@[simp] theorem State.liftGate_seq (s : State) : s.liftGate.seq = s.seq := by
  unfold State.liftGate
  split
  · exact State.exitSource_seq _ _ _ _ _ _
  · rfl

@[simp] theorem State.sendFail_seq (s : State) (cause : Nat) : (s.sendFail cause).seq = s.seq := by
  have hend : s.sendEnd.seq = s.seq := by
    unfold State.sendEnd
    split <;> rfl
  unfold State.sendFail
  split
  · exact hend
  · rfl

@[simp] theorem State.runBits_seq (s : State) : s.runBits.seq = s.seq := by
  rw [State.runBits, State.seq_foldl]
  exact fun _ _ => State.setFlag_seq _ _ _

@[simp] theorem State.landOn_seq (s : State) (n : Nat) (value : PortSrc → Option Bool) : (s.landOn n value).seq = s.seq := by
  rw [State.landOn, State.seq_foldl]
  intro t i
  split
  · exact State.setFlag_seq _ _ _
  · rfl

@[simp] theorem State.landEvents_seq (s : State) : s.landEvents.seq = s.seq := by
  rw [State.landEvents, State.seq_foldl]
  intro t n
  split
  · exact State.landOn_seq _ _ _
  · rfl

/-- Safe values are those of outbound bits and lane sources alone (R53). -/
theorem State.setSafe_eq (s : State) (n : Nat) : ∃ x, s.setSafe n = { s with arr := x } := by
  unfold State.setSafe
  generalize List.range 16 = l
  induction l generalizing s with
  | nil => exact ⟨_, rfl⟩
  | cons f r ih =>
    obtain ⟨x, hx⟩ := ih { s with arr := _ }
    exact ⟨x, hx⟩

theorem State.safeAll_eq (s : State) : ∃ x, s.safeAll = { s with arr := x } := by
  unfold State.safeAll
  generalize List.range 34 = l
  induction l generalizing s with
  | nil => exact ⟨_, rfl⟩
  | cons n r ih =>
    rw [List.foldl_cons]
    split
    · obtain ⟨x, hx⟩ := s.setSafe_eq n
      rw [hx]
      obtain ⟨y, hy⟩ := ih { s with arr := x }
      exact ⟨y, hy⟩
    · exact ih s

theorem State.portsDeadAll_eq (s : State) : ∃ x, s.portsDeadAll = { s with hbm := x } := by
  unfold State.portsDeadAll
  generalize List.range 34 = l
  induction l generalizing s with
  | nil => exact ⟨_, rfl⟩
  | cons n r ih =>
    rw [List.foldl_cons]
    split
    · obtain ⟨y, hy⟩ := ih (s.portsDead n)
      exact ⟨y, hy⟩
    · exact ih s

/-! ## Moves -/

/-- A register of the array's address range that no move writes, but for SEQ_STATUS and ARR_STATUS. -/
def seqKeeps (a : Nat) : Prop := 0x0C000000 ≤ a ∧ a ≠ Reg.SEQ_STATUS ∧ ∀ n, a ≠ Reg.ARR_STATUS n

theorem SEQ_STATUS_ne_ARR_STATUS (n : Nat) : Reg.SEQ_STATUS ≠ Reg.ARR_STATUS n := by
  simp only [Reg.SEQ_STATUS, Reg.ARR_STATUS]
  omega

theorem State.seqState_congr {s t : State} (h : t.reg Reg.SEQ_STATUS = s.reg Reg.SEQ_STATUS) : t.seqState = s.seqState :=
  congrArg Fld.SEQ_STATUS_STATE.get h

/-- RUN of every sorus falls where the sequencer is outside RUN and STALL (R115). -/
theorem State.runBits_run_false {s : State} (h2 : s.seqState ≠ 2) (h3 : s.seqState ≠ 3) {n : Nat} (hn : n < 34) :
    s.runBits.flag (Fld.ARR_STATUS_RUN n) = false := by
  have hfall (l : List Nat) (t : State) (h : n ∈ l ∨ t.flag (Fld.ARR_STATUS_RUN n) = false) :
      (l.foldl (fun t k => t.setFlag (Fld.ARR_STATUS_RUN k) false) t).flag (Fld.ARR_STATUS_RUN n) = false := by
    induction l generalizing t with
    | nil => exact h.resolve_left List.not_mem_nil
    | cons k r ih =>
      rw [List.foldl_cons]
      refine ih _ ?_
      by_cases hk : k = n
      · exact Or.inr (hk ▸ State.flag_setFlag_same t (Fld.ARR_STATUS_RUN k) false rfl rfl)
      · refine h.imp (fun hmem => (List.mem_cons.1 hmem).resolve_left (Ne.symm hk)) fun hflag => ?_
        rwa [State.flag_setFlag_apart _ _ _ _ rfl (Or.inl (by simp only [Reg.ARR_STATUS]; omega))]
  have hoff : (s.seqState == 2 || s.seqState == 3) = false := by simp [h2, h3]
  simp only [State.runBits, hoff, Bool.false_and]
  exact hfall _ s (Or.inl (List.mem_range.2 hn))

theorem Only.ite {w : List Field} {s t u : State} {c : Prop} [Decidable c] (ht : Only w s t) (hu : Only w s u) :
    Only w s (if c then t else u) := by
  split
  · exact ht
  · exact hu

theorem Only.reg_eq {w : List Field} {s t : State} (h : Only w s t) {a : Nat} (ha : ∀ f ∈ w, f.apart (wholeReg a)) :
    t.reg a = s.reg a := State.reg_eq_of_fld_wholeReg (h.2 _ ha)

/-- The causes that SEQ_STATUS gives for STALL, PAUSED and STOPPED (R113). -/
def causeFields : List Field := [Fld.SEQ_STATUS_STALL_CAUSE, Fld.SEQ_STATUS_PAUSE_CAUSE, Fld.SEQ_STATUS_STOP_CAUSE]

theorem causeFields_apart_STATE : ∀ f ∈ causeFields, f.apart Fld.SEQ_STATUS_STATE := by
  simp [causeFields, Field.apart]

theorem causeFields_apart_wholeReg {a : Nat} (h : a ≠ Reg.SEQ_STATUS) : ∀ f ∈ causeFields, f.apart (wholeReg a) := by
  simp [causeFields, Field.apart, wholeReg, Ne.symm h]

/-- What an entry does besides the causes. -/
theorem State.seqEnter_causes (s : State) (st : Nat) : ∃ c : State, Only causeFields (s.setFld Fld.SEQ_STATUS_STATE st) c ∧
    s.seqEnter st =
      let t := if st = 2 then c.runBits else c.runBits.sendFail 7
      if (st = 2 ∨ st = 4 ∨ st = 5) ∧ s.seqState ≠ st then t.raise 76 else t := by
  refine ⟨_, ?_, rfl⟩
  have hclear {t u : State} {c : Prop} [Decidable c] {f : Field} (hf : f.fits = true) (hmem : f ∈ causeFields)
      (h : Only causeFields t u) : Only causeFields t (if c then u else u.setFld f 0) := h.ite (h.setFld f 0 hf hmem)
  exact hclear rfl (by simp [causeFields]) (hclear rfl (by simp [causeFields]) (hclear rfl (by simp [causeFields])
    (Only.refl _ _)))

/-- An entry into a state: SEQ_STATUS.STATE is set, a move into RUN, PAUSED or STOPPED raises EV076 at the end, and but for SEQ_STATUS,
ARR_STATUS and the twin unit nothing that concerns the sequencer changes (R113 to R115). -/
theorem State.seqEnter_eq (s : State) {st : Nat} (hst : st < 8) : ∃ u : State,
    s.seqEnter st = (if (st = 2 ∨ st = 4 ∨ st = 5) ∧ s.seqState ≠ st then u.raise 76 else u) ∧ u.seq = s.seq ∧
      u.seqState = st ∧ (∀ a, seqKeeps a → u.reg a = s.reg a) ∧
      (st ≠ 2 → st ≠ 3 → ∀ n < 34, u.flag (Fld.ARR_STATUS_RUN n) = false) := by
  obtain ⟨c, hc, heq⟩ := s.seqEnter_causes st
  have hstate : c.seqState = st := by
    rw [State.seqState, hc.2 _ causeFields_apart_STATE, State.fld_setFld_same _ _ _ rfl]
    exact Nat.mod_eq_of_lt hst
  have hseq : c.seq = s.seq := (congrArg State.seq hc.1 :)
  have hreg {a : Nat} (ha : 0x0C000000 ≤ a) :
      (if st = 2 then c.runBits else c.runBits.sendFail 7).reg a = c.runBits.reg a := by
    split
    · rfl
    · exact State.reg_sendFail _ _ ha
  refine ⟨_, heq, ?_, ?_, fun a ⟨hlow, hne, harr⟩ => ?_, fun h2 h3 n hn => ?_⟩
  · split <;> simp [hseq]
  · exact (State.seqState_congr ((hreg (by decide)).trans (State.reg_runBits _ SEQ_STATUS_ne_ARR_STATUS))).trans hstate
  · rw [hreg hlow, State.reg_runBits _ harr, hc.reg_eq (causeFields_apart_wholeReg hne), State.reg_setFld_other _ _ _ _ hne]
  · rw [State.flag_of_reg (hreg (by simp only [Reg.ARR_STATUS]; omega))]
    exact State.runBits_run_false (hstate ▸ h2) (hstate ▸ h3) hn

section
variable (s : State) {st : Nat} (hst : st < 8)
include hst

@[simp] theorem State.seqEnter_seq : (s.seqEnter st).seq = s.seq := by
  obtain ⟨u, heq, hseq, -⟩ := s.seqEnter_eq hst
  rw [heq]
  split <;> simp [hseq]

/-- The event of a move changes no register of the array's address range. -/
theorem State.reg_seqEnter_array : ∃ u : State, (∀ a, 0x0C000000 ≤ a → (s.seqEnter st).reg a = u.reg a) ∧
    u.seqState = st ∧ (∀ a, seqKeeps a → u.reg a = s.reg a) ∧
      (st ≠ 2 → st ≠ 3 → ∀ n < 34, u.flag (Fld.ARR_STATUS_RUN n) = false) := by
  obtain ⟨u, heq, -, hu⟩ := s.seqEnter_eq hst
  refine ⟨u, fun a ha => ?_, hu⟩
  rw [heq]
  split
  · exact State.reg_raise _ (by decide) (eventSafe_of_array ha)
  · rfl

@[simp] theorem State.seqState_seqEnter : (s.seqEnter st).seqState = st := by
  obtain ⟨u, hreg, hstate, -⟩ := s.reg_seqEnter_array hst
  exact (State.seqState_congr (hreg _ (by decide))).trans hstate

theorem State.reg_seqEnter {a : Nat} (ha : seqKeeps a) : (s.seqEnter st).reg a = s.reg a := by
  obtain ⟨u, hreg, -, hkeep, -⟩ := s.reg_seqEnter_array hst
  rw [hreg a ha.1, hkeep a ha]

theorem State.run_seqEnter (h2 : st ≠ 2) (h3 : st ≠ 3) {n : Nat} (hn : n < 34) :
    (s.seqEnter st).flag (Fld.ARR_STATUS_RUN n) = false := by
  obtain ⟨u, hreg, -, -, hrun⟩ := s.reg_seqEnter_array hst
  rw [State.flag_of_reg (hreg _ (by simp only [Reg.ARR_STATUS]; omega))]
  exact hrun h2 h3 n hn

/-- A move into RUN, PAUSED or STOPPED raises EV076 (R114). -/
theorem State.sticky_seqEnter (hto : st = 2 ∨ st = 4 ∨ st = 5) (hfrom : s.seqState ≠ st) : (s.seqEnter st).sticky 76 = true := by
  obtain ⟨u, heq, -⟩ := s.seqEnter_eq hst
  rw [heq, if_pos ⟨hto, hfrom⟩]
  exact State.sticky_raise_same _ _ (by decide)

end

@[simp] theorem State.safeAll_seq (s : State) : s.safeAll.seq = s.seq := by
  obtain ⟨x, hx⟩ := s.safeAll_eq
  rw [hx]

@[simp] theorem State.reg_safeAll (s : State) (a : Nat) : s.safeAll.reg a = s.reg a := by
  obtain ⟨x, hx⟩ := s.safeAll_eq
  rw [hx]
  rfl

@[simp] theorem State.portsDeadAll_seq (s : State) : s.portsDeadAll.seq = s.seq := by
  obtain ⟨x, hx⟩ := s.portsDeadAll_eq
  rw [hx]

@[simp] theorem State.reg_portsDeadAll (s : State) (a : Nat) : s.portsDeadAll.reg a = s.reg a := by
  obtain ⟨x, hx⟩ := s.portsDeadAll_eq
  rw [hx]
  rfl

theorem State.reg_seq (s : State) (x : SeqSt) (a : Nat) : ({ s with seq := x } : State).reg a = s.reg a := rfl

/-- A stop takes effect (R114, R140): STOPPED with its cause, no sorus running. -/
theorem State.seqStop_reg (s : State) (cause a : Nat) :
    (s.seqStop cause).reg a = ((s.seqCancel.seqEnter 5).setFld Fld.SEQ_STATUS_STOP_CAUSE cause).reg a := by
  unfold State.seqStop
  dsimp only
  rw [State.reg_seq, State.reg_portsDeadAll, State.reg_safeAll]

theorem State.seqState_seqStop (s : State) (cause : Nat) : (s.seqStop cause).seqState = 5 := by
  rw [State.seqState_congr (State.seqStop_reg _ _ _), State.seqState,
    State.fld_setFld_apart _ _ _ _ rfl (Or.inr (Or.inr (by decide)))]
  exact State.seqState_seqEnter _ (by decide)

theorem State.stopCause_seqStop (s : State) {cause : Nat} (h : cause < 16) :
    (s.seqStop cause).fld Fld.SEQ_STATUS_STOP_CAUSE = cause := by
  rw [State.fld, State.seqStop_reg]
  exact (State.fld_setFld_same _ _ _ rfl).trans (Nat.mod_eq_of_lt h)

theorem State.startMet_seqStop (s : State) (cause : Nat) : (s.seqStop cause).seq.startMet = false := rfl

theorem State.run_seqStop (s : State) (cause : Nat) {n : Nat} (hn : n < 34) :
    (s.seqStop cause).flag (Fld.ARR_STATUS_RUN n) = false := by
  rw [State.flag_of_reg (State.seqStop_reg _ _ _),
    State.flag_of_reg (State.reg_setFld_other _ _ _ _ (SEQ_STATUS_ne_ARR_STATUS n).symm)]
  exact State.run_seqEnter _ (by decide) (by decide) (by decide) hn

theorem State.seqStop_spec (s : State) {cause : Nat} (h : cause < 16) : (s.seqStop cause).seqState = 5 ∧
    (s.seqStop cause).fld Fld.SEQ_STATUS_STOP_CAUSE = cause ∧ (s.seqStop cause).seq.startMet = false ∧
    ∀ n < 34, (s.seqStop cause).flag (Fld.ARR_STATUS_RUN n) = false :=
  ⟨s.seqState_seqStop cause, s.stopCause_seqStop h, s.startMet_seqStop cause, fun _ hn => s.run_seqStop cause hn⟩

/-- A stop with no command pending raises EV076. -/
theorem State.sticky_seqStop {s : State} (cause : Nat) (hcmd : s.seq.cmd = none) (hst : s.seqState ≠ 5) :
    (s.seqStop cause).sticky 76 = true := by
  have hcancel : s.seqCancel = s := if_neg (by rw [hcmd]; exact Bool.false_ne_true)
  rw [State.sticky_congr 76 (State.seqStop_reg _ _ _),
    State.sticky_congr 76 (State.reg_setFld_other _ _ _ _ (by decide)), hcancel]
  exact State.sticky_seqEnter _ (by decide) (Or.inr (Or.inr rfl)) hst

/-- ARMED is entered (R114, R119): the start condition is met at once with START_SRC AUTO. -/
theorem State.seqState_seqArm (s : State) : s.seqArm.seqState = 1 := by
  have hreg : s.seqArm.reg Reg.SEQ_STATUS = (s.seqEnter 1).reg Reg.SEQ_STATUS := by
    unfold State.seqArm
    dsimp only
    rw [State.reg_seq, State.reg_safeAll]
  rw [State.seqState_congr hreg]
  exact State.seqState_seqEnter _ (by decide)

theorem seqKeeps_SEQ_CFG : seqKeeps Reg.SEQ_CFG :=
  ⟨by decide, by decide, fun n => by simp only [Reg.SEQ_CFG, Reg.ARR_STATUS]; omega⟩

theorem State.startMet_seqArm (s : State) : s.seqArm.seq.startMet = (s.fld Fld.SEQ_CFG_START_SRC == 1) := by
  have hreg : (s.seqEnter 1).safeAll.reg Reg.SEQ_CFG = s.reg Reg.SEQ_CFG :=
    (State.reg_safeAll _ _).trans (State.reg_seqEnter _ (by decide) seqKeeps_SEQ_CFG)
  rw [State.seqArm, State.fld, State.fld, hreg]

/-- Step 0 of a turn begins and its event bits read their values: RUN, and nothing else of the sequencer's own state changes (R114). -/
theorem State.seqState_seqRun (s : State) : s.seqRun.seqState = 2 :=
  State.seqState_seqEnter s.liftGate (by decide)

@[simp] theorem State.seqRun_seq (s : State) : s.seqRun.seq = { s.seq with step := 0 } := by
  have h : (s.liftGate.seqEnter 2).seq = s.seq := by rw [State.seqEnter_seq _ (by decide), State.liftGate_seq]
  rw [State.seqRun, h]

theorem State.sticky_seqRun {s : State} (h : s.seqState ≠ 2) : s.seqRun.sticky 76 = true := by
  have hlift : s.liftGate.seqState = s.seqState := State.seqState_congr (State.reg_liftGate _ (by decide))
  exact State.sticky_seqEnter _ (by decide) (Or.inl rfl) (hlift ▸ h)

theorem State.seqState_landEvents (s : State) : s.landEvents.seqState = s.seqState :=
  State.seqState_congr (State.reg_landEvents _ (by decide))

theorem State.sticky_landEvents (s : State) {n : Nat} (h : n < 512) : s.landEvents.sticky n = s.sticky n :=
  State.sticky_congr n (State.reg_landEvents _ (by simp only [Reg.EVT_STICKY]; omega))

/-- A turn's step 0, events landed: RUN, with EV076 where the sequencer was in another state. -/
theorem State.seqRun_landEvents_spec (s : State) : s.seqRun.landEvents.seqState = 2 ∧
    s.seqRun.landEvents.seq = { s.seq with step := 0 } ∧ (s.seqState ≠ 2 → s.seqRun.landEvents.sticky 76 = true) := by
  refine ⟨?_, ?_, fun h => ?_⟩
  · rw [State.seqState_landEvents, State.seqState_seqRun]
  · rw [State.landEvents_seq, State.seqRun_seq]
  · rw [State.sticky_landEvents _ (by decide), State.sticky_seqRun h]

end Sys2Proof.Machine

/-! PROOFS.  The commands of SEQ_CMD (R138 to R140). -/

namespace Sys2Proof.Machine

/-! ## The written word -/

section
variable (v : Word32) (code : Nat)

theorem cmd_put_cmd : Fld.SEQ_CMD_CMD.get (Fld.SEQ_CMD_CMD.put v code) = code % 16 := Field.get_put_same _ _ _ rfl

/-- The fields of SEQ_CMD besides CMD lie above it. -/
theorem get_put_cmd {f : Field} (h : 4 ≤ f.lo) : f.get (Fld.SEQ_CMD_CMD.put v code) = f.get v :=
  Field.get_put_apart _ _ _ _ rfl (Or.inl h)

end

/-! ## Refusals (R139) -/

/-- What a refused command does: its code, CMD_REFUSED and EV074, and nothing else. -/
def State.SeqRefused (s : State) (k : Status) (t : State) : Prop :=
  t.done.status = k ∧ t.fld Fld.SEQ_CMD_STAT_CODE = k.toNat ∧ t.flag Fld.SEQ_STATUS_CMD_REFUSED = true ∧ t.sticky 74 = true ∧
    OnlyEv [Fld.SEQ_CMD_STAT_CODE, Fld.SEQ_STATUS_CMD_REFUSED] s t

theorem State.seqRefused_seqRefuse (s : State) (k : Status) : s.SeqRefused k (s.seqRefuse k) := by
  have hcode : eventSafe Fld.SEQ_CMD_STAT_CODE = true := by decide
  refine ⟨State.reply_status _ _ _, ?_, ?_, ?_, ?_⟩
  · rw [State.seqRefuse, State.fld_reply, State.fld_raiseBit_apart _ _ _ (by decide) hcode rfl (Or.inl (by decide)),
      State.fld_setFld_same _ _ _ rfl]
    exact Nat.mod_eq_of_lt k.isLt
  · exact State.flag_raiseBit_same _ _ (by decide) (by decide) rfl rfl
  · exact State.sticky_raiseBit_same _ _ _ (by decide)
  · exact (((OnlyEv.refl _ s).setFld _ _ rfl (by simp)).raiseBit _ _ rfl (by simp) (by decide)).reply _

/-- R138 as the statement of the commands gives it: the codes that each state accepts. -/
theorem State.seqAccepts_iff (s : State) {code : Nat} (h1 : 1 ≤ code) (h7 : code ≤ 7) : s.seqAccepts code = true ↔
    (code = 1 ∧ ((s.seqState = 1 ∧ s.startSrc = 0) ∨ s.seqState = 5)) ∨ (code = 2 ∧ 1 ≤ s.seqState ∧ s.seqState ≤ 4) ∨
      (code = 3 ∧ (s.seqState = 2 ∨ s.seqState = 3)) ∨ ((code = 4 ∨ code = 5) ∧ s.seqState = 4) ∨
      ((code = 6 ∨ code = 7) ∧ (s.seqState = 2 ∨ s.seqState = 3 ∨ s.seqState = 4)) := by
  interval_cases code <;> simp [State.seqAccepts, or_assoc]

theorem State.paused_of_seqAccepts {s : State} {code : Nat} (hcode : code = 4 ∨ code = 5) (h : s.seqAccepts code = true) :
    s.seqState = 4 := by
  rcases hcode with rfl | rfl <;> simpa [State.seqAccepts] using h

/-- The checks of R139 on a command word. -/
theorem State.seqRefusal_put (s : State) (v : Word32) {code : Nat} (h7 : code ≤ 7) : s.seqRefusal (Fld.SEQ_CMD_CMD.put v code) =
    if code = 7 ∧ s.slotInRegion = false then some Code.overQuota
    else if s.lockedSchedule = true ∧ 3 ≤ code ∧ code ≤ 6 then some Code.seqLocked
    else if s.seqAccepts code = false then some Code.seqState
    else if s.seq.cmd ≠ none ∨ (code = 7 ∧ s.flag Fld.SEQ_CAP_STAT_BUSY = true) then some Code.seqBusy
    else if Fld.SEQ_CMD_AT.get v = 1 ∧ s.turnAhead (s.reg Reg.SEQ_CMD_TURN).toNat ≤ 0 then some Code.seqLate
    else none := by
  have hcode : code % 16 = code := Nat.mod_eq_of_lt (by omega)
  simp only [State.seqRefusal, cmd_put_cmd, hcode, get_put_cmd v code (f := Fld.SEQ_CMD_AT) (by decide), Bool.not_eq_true',
    Option.isSome_iff_ne_none]

section
variable {s : State} {v : Word32} {code : Nat}

theorem State.seqCmd_of_refusal {k : Status} (h1 : 1 ≤ code) (h7 : code ≤ 7)
    (h : s.seqRefusal (Fld.SEQ_CMD_CMD.put v code) = some k) : s.seqCmd v code = s.seqRefuse k := by
  rw [State.seqCmd, State.seqCommand, if_neg (by rw [cmd_put_cmd]; omega), h]

theorem State.seqCmd_of_accepted (h1 : 1 ≤ code) (h7 : code ≤ 7) (h : s.seqRefusal (Fld.SEQ_CMD_CMD.put v code) = none) :
    s.seqCmd v code = (s.seqAccepted (Fld.SEQ_CMD_CMD.put v code)).reply Code.ok := by
  rw [State.seqCmd, State.seqCommand, if_neg (by rw [cmd_put_cmd]; omega), h]

end

/-! ## Accepted commands (R138) -/

section
variable (s : State)

@[simp] theorem State.seqNow_seq : s.seqNow.seq = s.seq := rfl

theorem State.reg_seqNow {a : Nat} (h : a ≠ Reg.SEQ_CMD_STAT) : s.seqNow.reg a = s.reg a := by
  rw [State.seqNow, State.reg_setFlag_other _ _ _ _ h, State.reg_setFld_other _ _ _ _ h]

@[simp] theorem State.seqState_seqNow : s.seqNow.seqState = s.seqState := State.seqState_congr (s.reg_seqNow (by decide))

end

/-- The command that a write leaves pending (R138). -/
def pendingCmd (s : State) (v : Word32) (code : Nat) : SeqCmd :=
  { code := code, turn := if Fld.SEQ_CMD_AT.get v = 1 then some (s.reg Reg.SEQ_CMD_TURN).toNat else none,
    level := Fld.SEQ_CMD_LEVEL.get v }

/-- The state with a command pending. -/
def State.withPending (s : State) (c : SeqCmd) : State :=
  (({ s with seq := { s.seq with cmd := some c } } : State).setFld Fld.SEQ_CMD_STAT_CODE 0).setFlag Fld.SEQ_CMD_STAT_PENDING true

theorem State.seqState_withPending (s : State) (c : SeqCmd) : (s.withPending c).seqState = s.seqState := by
  refine State.seqState_congr ?_
  rw [State.withPending, State.reg_setFlag_other _ _ _ _ (by decide), State.reg_setFld_other _ _ _ _ (by decide), State.reg_seq]

theorem State.seqPend_put (s : State) (v : Word32) {code : Nat} (h7 : code ≤ 7) :
    s.seqPend (Fld.SEQ_CMD_CMD.put v code) =
      if s.seqState = 3 ∧ code = 2 then (s.withPending (pendingCmd s v code)).boundaryTry
      else s.withPending (pendingCmd s v code) := by
  have hcode : code % 16 = code := Nat.mod_eq_of_lt (by omega)
  rw [← s.seqState_withPending (pendingCmd s v code)]
  simp only [State.seqPend, cmd_put_cmd, hcode, get_put_cmd v code (f := Fld.SEQ_CMD_AT) (by decide),
    get_put_cmd v code (f := Fld.SEQ_CMD_LEVEL) (by decide)]
  rfl

theorem State.reg_withPending (s : State) (c : SeqCmd) {a : Nat} (h : a ≠ Reg.SEQ_CMD_STAT) : (s.withPending c).reg a = s.reg a := by
  rw [State.withPending, State.reg_setFlag_other _ _ _ _ h, State.reg_setFld_other _ _ _ _ h, State.reg_seq]

section
variable (s : State) (v : Word32)

/-- START in ARMED meets the start condition. -/
theorem State.seqAccepted_start_armed (h : s.seqState = 1) :
    (s.seqAccepted (Fld.SEQ_CMD_CMD.put v 1)).seq = { s.seq with startMet := true } ∧
      (s.seqAccepted (Fld.SEQ_CMD_CMD.put v 1)).seqState = 1 := by
  have hstate : (s.seqNow.exitSource 10 0 true true true).seqState = 1 := by
    rw [State.seqState_congr (State.reg_exitSource_other _ _ _ _ _ _ (by decide)), State.seqState_seqNow, h]
  have heq : s.seqAccepted (Fld.SEQ_CMD_CMD.put v 1) = (s.seqNow.exitSource 10 0 true true true).seqMeet := by
    simp only [State.seqAccepted, cmd_put_cmd, Nat.reduceMod, hstate, if_true]
  rw [heq, State.seqMeet]
  exact ⟨by rw [State.exitSource_seq, State.seqNow_seq], hstate⟩

/-- START in STOPPED arms the sequencer. -/
theorem State.seqAccepted_start_stopped (h : s.seqState = 5) :
    (s.seqAccepted (Fld.SEQ_CMD_CMD.put v 1)).seqState = 1 ∧
      (s.seqAccepted (Fld.SEQ_CMD_CMD.put v 1)).seq.startMet = (s.fld Fld.SEQ_CFG_START_SRC == 1) := by
  have hreg {a : Nat} (hpwr : a ≠ Reg.PWR_STATUS) (hstat : a ≠ Reg.SEQ_CMD_STAT) :
      (s.seqNow.exitSource 10 0 true true true).reg a = s.reg a := by
    rw [State.reg_exitSource_other _ _ _ _ _ _ hpwr, State.reg_seqNow _ hstat]
  have hstate : (s.seqNow.exitSource 10 0 true true true).seqState = 5 := by
    rw [State.seqState_congr (hreg (by decide) (by decide)), h]
  have heq : s.seqAccepted (Fld.SEQ_CMD_CMD.put v 1) = (s.seqNow.exitSource 10 0 true true true).seqArm := by
    simp [State.seqAccepted, cmd_put_cmd, hstate]
  rw [heq, State.startMet_seqArm, State.fld, hreg (by decide) (by decide), ← State.fld]
  exact ⟨State.seqState_seqArm _, rfl⟩

/-- STOP in ARMED and PAUSED stops at once (R140). -/
theorem State.seqAccepted_stop (hst : s.seqState = 1 ∨ s.seqState = 4) :
    s.seqAccepted (Fld.SEQ_CMD_CMD.put v 2) = s.seqNow.seqStop 1 := by
  simp [State.seqAccepted, cmd_put_cmd, hst]

/-- RESUME begins the next turn. -/
theorem State.seqAccepted_resume : s.seqAccepted (Fld.SEQ_CMD_CMD.put v 4) = s.seqNow.seqRun.landEvents := by
  simp [State.seqAccepted, cmd_put_cmd]

/-- STEP begins the next turn and notes how many are to run. -/
theorem State.seqAccepted_step : s.seqAccepted (Fld.SEQ_CMD_CMD.put v 5) =
    ({ s.seqNow with seq := { s.seqNow.seq with stepLeft := some (max 1 (Fld.SEQ_CMD_COUNT.get v)) } } : State).seqRun.landEvents := by
  simp [State.seqAccepted, cmd_put_cmd, get_put_cmd v 5 (f := Fld.SEQ_CMD_COUNT) (by decide)]

/-- Every other command waits. -/
theorem State.seqAccepted_pend {code : Nat} (h7 : code ≤ 7)
    (h : (code = 2 ∧ s.seqState ≠ 1 ∧ s.seqState ≠ 4) ∨ code = 3 ∨ code = 6 ∨ code = 7) :
    s.seqAccepted (Fld.SEQ_CMD_CMD.put v code) = s.seqPend (Fld.SEQ_CMD_CMD.put v code) := by
  rcases h with ⟨rfl, h1, h4⟩ | rfl | rfl | rfl <;> simp [State.seqAccepted, cmd_put_cmd, *]

end

/-- What a pending command changes. -/
theorem State.withPending_spec (s : State) (c : SeqCmd) : (s.withPending c).flag Fld.SEQ_CMD_STAT_PENDING = true ∧
    (s.withPending c).fld Fld.SEQ_CMD_STAT_CODE = 0 ∧
    Only [Fld.SEQ_CMD_STAT_CODE, Fld.SEQ_CMD_STAT_PENDING] { s with seq := { s.seq with cmd := some c } } (s.withPending c) := by
  refine ⟨State.flag_setFlag_same _ _ _ rfl rfl, ?_, ?_⟩
  · rw [State.withPending, State.fld_setFlag_apart _ _ _ _ rfl (Or.inr (Or.inr (by decide))), State.fld_setFld_same _ _ _ rfl]
    rfl
  · exact ((Only.refl _ _).setFld _ _ rfl (by simp)).setFlag _ _ rfl (by simp)

/-! ## A stop at a boundary -/

/-- A boundary at which a stop is due ends in STOPPED with its cause. -/
theorem State.boundaryComplete_of_stop {s : State} {cause : Nat} (h : s.stopDue s.turnVote0 = some cause) :
    ∃ u : State, s.boundaryComplete = u.seqStop cause := by
  unfold State.boundaryComplete
  dsimp only
  rw [h]
  exact ⟨_, rfl⟩

/-- In an elastic schedule a STOP that is due stops the sequencer, and in STALL it waits for no cause (R136; DEDUCED, log entry 98). -/
theorem State.boundaryTry_of_due_stop {s : State} (hst : s.seqState = 3) (hlock : s.lockedSchedule = false)
    (hthermal : s.seq.thermal = false) (hdue : s.cmdDue 2 = true) : ∃ u : State, s.boundaryTry = u.seqStop 1 := by
  have hstop : s.stopDue s.turnVote0 = some 1 := by simp [State.stopDue, hthermal, hlock, hdue]
  have hcomplete : s.boundaryTry = s.boundaryComplete := if_pos (Or.inr (by simp [hst, hdue]))
  rw [hcomplete]
  exact State.boundaryComplete_of_stop hstop

/-- STOP in STALL with no turn named ends at once. -/
theorem State.seqAccepted_stop_stall {s : State} {v : Word32} (hst : s.seqState = 3) (hlock : s.lockedSchedule = false)
    (hthermal : s.seq.thermal = false) (hat : Fld.SEQ_CMD_AT.get v ≠ 1) :
    ∃ u : State, s.seqAccepted (Fld.SEQ_CMD_CMD.put v 2) = u.seqStop 1 := by
  have hcfg : (s.withPending (pendingCmd s v 2)).flag Fld.SEQ_CFG_DISC = s.flag Fld.SEQ_CFG_DISC :=
    State.flag_of_reg (s.reg_withPending _ (by decide))
  rw [State.seqAccepted_pend _ _ (by decide) (Or.inl ⟨rfl, by omega, by omega⟩), State.seqPend_put _ _ (by decide),
    if_pos ⟨hst, rfl⟩]
  refine State.boundaryTry_of_due_stop ((s.seqState_withPending _).trans hst) ?_ hthermal ?_
  · rw [State.lockedSchedule, hcfg]
    exact hlock
  · have hturn : (pendingCmd s v 2).turn = none := if_neg hat
    have hdue : (pendingCmd s v 2).due (s.withPending (pendingCmd s v 2)).seq.turn = true := by rw [SeqCmd.due, hturn]
    exact hdue

/-! ## The commands -/

theorem completes_seqCmd_refused {c : Instr} {s : State} {v : Word32} {code : Nat} {k : Status}
    (hexec : exec c s = .next (s.seqCmd v code)) (h1 : 1 ≤ code) (h7 : code ≤ 7)
    (href : s.seqRefusal (Fld.SEQ_CMD_CMD.put v code) = some k) : Completes c s (s.SeqRefused k) :=
  ⟨_, hexec, by rw [State.seqCmd_of_refusal h1 h7 href]; exact s.seqRefused_seqRefuse k⟩

section
variable {c : Instr} {s : State} {v : Word32} {code : Nat}
  (hrun : exec c s = .next ((s.seqAccepted (Fld.SEQ_CMD_CMD.put v code)).reply Code.ok))
include hrun

theorem start_armed_completes (hcode : code = 1) (hst : s.seqState = 1) : Completes c s fun t =>
    t.seq = { s.seq with startMet := true } ∧ t.seqState = 1 ∧ t.done.status = Code.ok := by
  subst hcode
  obtain ⟨hseq, hstate⟩ := s.seqAccepted_start_armed v hst
  exact ⟨_, hrun, hseq, hstate, rfl⟩

theorem start_stopped_completes (hcode : code = 1) (hst : s.seqState = 5) : Completes c s fun t =>
    t.seqState = 1 ∧ t.seq.startMet = (s.fld Fld.SEQ_CFG_START_SRC == 1) ∧ t.done.status = Code.ok := by
  subst hcode
  obtain ⟨hstate, hmet⟩ := s.seqAccepted_start_stopped v hst
  exact ⟨_, hrun, hstate, hmet, rfl⟩

theorem stop_completes (hcode : code = 2) (hst : s.seqState = 1 ∨ s.seqState = 4) (hcmd : s.seq.cmd = none) :
    Completes c s fun t => t.seqState = 5 ∧ t.fld Fld.SEQ_STATUS_STOP_CAUSE = 1 ∧ t.sticky 76 = true ∧ t.seq.startMet = false ∧
      (∀ n < 34, t.flag (Fld.ARR_STATUS_RUN n) = false) ∧ t.done.status = Code.ok := by
  subst hcode
  rw [State.seqAccepted_stop _ _ hst] at hrun
  have hne : s.seqNow.seqState ≠ 5 := by rw [State.seqState_seqNow]; omega
  obtain ⟨hstate, hcause, hmet, hfall⟩ := s.seqNow.seqStop_spec (cause := 1) (by decide)
  have hev := State.sticky_seqStop 1 (s := s.seqNow) hcmd hne
  generalize s.seqNow.seqStop 1 = t at *
  exact ⟨_, hrun, hstate, hcause, hev, hmet, hfall, rfl⟩

theorem stop_stall_completes (hcode : code = 2) (hst : s.seqState = 3) (hlock : s.lockedSchedule = false)
    (hthermal : s.seq.thermal = false) (hat : Fld.SEQ_CMD_AT.get v ≠ 1) :
    Completes c s fun t => t.seqState = 5 ∧ t.fld Fld.SEQ_STATUS_STOP_CAUSE = 1 ∧ t.done.status = Code.ok := by
  subst hcode
  obtain ⟨u, hu⟩ := State.seqAccepted_stop_stall hst hlock hthermal hat
  rw [hu] at hrun
  obtain ⟨hstate, hcause, -⟩ := u.seqStop_spec (cause := 1) (by decide)
  generalize u.seqStop 1 = t at *
  exact ⟨_, hrun, hstate, hcause, rfl⟩

theorem waiting_completes (hcode : (code = 2 ∧ s.seqState = 2) ∨ code = 3 ∨ code = 6 ∨ code = 7) : Completes c s fun t =>
    t.seq.cmd = some (pendingCmd s v code) ∧ t.flag Fld.SEQ_CMD_STAT_PENDING = true ∧ t.fld Fld.SEQ_CMD_STAT_CODE = 0 ∧
    t.done.status = Code.ok ∧
    Only [Fld.SEQ_CMD_STAT_CODE, Fld.SEQ_CMD_STAT_PENDING] { s with seq := { s.seq with cmd := t.seq.cmd } } t := by
  have h7 : code ≤ 7 := by omega
  rw [State.seqAccepted_pend _ _ h7 (by omega), State.seqPend_put _ _ h7, if_neg (by omega)] at hrun
  obtain ⟨hpending, hstat, honly⟩ := s.withPending_spec (pendingCmd s v code)
  exact ⟨_, hrun, rfl, hpending, hstat, rfl, honly.reply _⟩

theorem resume_completes (hcode : code = 4) (hst : s.seqState = 4) : Completes c s fun t =>
    t.seqState = 2 ∧ t.seq = { s.seq with step := 0 } ∧ t.sticky 76 = true ∧ t.done.status = Code.ok := by
  subst hcode
  rw [State.seqAccepted_resume] at hrun
  obtain ⟨hstate, hseq, hev⟩ := s.seqNow.seqRun_landEvents_spec
  have hpaused : s.seqNow.seqState ≠ 2 := by rw [State.seqState_seqNow]; omega
  generalize s.seqNow.seqRun.landEvents = t at *
  exact ⟨_, hrun, hstate, hseq, hev hpaused, rfl⟩

theorem step_completes (hcode : code = 5) (hst : s.seqState = 4) : Completes c s fun t =>
    t.seqState = 2 ∧ t.seq = { s.seq with step := 0, stepLeft := some (max 1 (Fld.SEQ_CMD_COUNT.get v)) } ∧
    t.sticky 76 = true ∧ t.done.status = Code.ok := by
  subst hcode
  rw [State.seqAccepted_step] at hrun
  generalize hu : ({ s.seqNow with seq := { s.seqNow.seq with stepLeft := some (max 1 (Fld.SEQ_CMD_COUNT.get v)) } } : State) = u
    at hrun
  have hpaused : u.seqState ≠ 2 := by
    rw [← hu, State.seqState_congr (State.reg_seq _ _ _), State.seqState_seqNow]
    omega
  have hleft : u.seq = { s.seq with stepLeft := some (max 1 (Fld.SEQ_CMD_COUNT.get v)) } := by rw [← hu, State.seqNow_seq]
  obtain ⟨hstate, hseq, hev⟩ := u.seqRun_landEvents_spec
  rw [hleft] at hseq
  generalize u.seqRun.landEvents = t at *
  exact ⟨_, hrun, hstate, hseq, hev hpaused, rfl⟩

end

/-- Settles O28: the first check that applies refuses a command; else each command has its effect.  That a STOP in STALL waits for no
cause is the model's choice (log entry 98). -/
theorem sequencerCommands : Obligations.SequencerCommands := by
  intro mid value s c code hc
  have hexec : exec c s = .next (s.seqCmd value code) := by
    rcases hc with ⟨rfl, rfl⟩ | ⟨rfl, rfl⟩ | ⟨rfl, rfl⟩ | ⟨rfl, rfl⟩ | ⟨rfl, rfl⟩ | ⟨rfl, rfl⟩ | ⟨rfl, rfl⟩ <;> rfl
  obtain ⟨h1, h7⟩ : 1 ≤ code ∧ code ≤ 7 := by omega
  have href := s.seqRefusal_put value h7
  intro st named ahead accepts locked noSlot busy refused
  have hiff : s.seqAccepts code = true ↔ accepts := s.seqAccepts_iff h1 h7
  have hyes (h : accepts) : ¬ s.seqAccepts code = false := fun hn => Bool.false_ne_true (hn.symm.trans (hiff.2 h))
  -- Each clause goes one check further down the list of R139.
  refine ⟨fun hslot => ?_, fun hslot hlock => ?_, fun hslot hlock hno => ?_, fun hslot hlock hacc hbusy => ?_,
    fun hslot hlock hacc hfree hat hlate => ?_, fun hslot hlock hacc hfree hahead => ?_⟩
  · exact completes_seqCmd_refused hexec h1 h7 (href.trans (if_pos hslot))
  · exact completes_seqCmd_refused hexec h1 h7 (href.trans ((if_neg hslot).trans (if_pos hlock)))
  · exact completes_seqCmd_refused hexec h1 h7 (href.trans ((if_neg hslot).trans ((if_neg hlock).trans
      (if_pos (Bool.eq_false_iff.2 fun hy => hno (hiff.1 hy))))))
  · exact completes_seqCmd_refused hexec h1 h7 (href.trans ((if_neg hslot).trans ((if_neg hlock).trans
      ((if_neg (hyes hacc)).trans (if_pos hbusy)))))
  · exact completes_seqCmd_refused hexec h1 h7 (href.trans ((if_neg hslot).trans ((if_neg hlock).trans
      ((if_neg (hyes hacc)).trans ((if_neg hfree).trans (if_pos ⟨hat, hlate⟩))))))
  · have hnone : s.seqRefusal (Fld.SEQ_CMD_CMD.put value code) = none :=
      href.trans ((if_neg hslot).trans ((if_neg hlock).trans ((if_neg (hyes hacc)).trans ((if_neg hfree).trans
        (if_neg fun ⟨hat, hlate⟩ => Int.not_lt.2 hlate (hahead hat))))))
    have hrun : exec c s = .next ((s.seqAccepted (Fld.SEQ_CMD_CMD.put value code)).reply Code.ok) := by
      rw [hexec, State.seqCmd_of_accepted h1 h7 hnone]
    have hcmd : s.seq.cmd = none := by_contra fun h => hfree (Or.inl h)
    have hpaused (h45 : code = 4 ∨ code = 5) : s.seqState = 4 := State.paused_of_seqAccepts h45 (hiff.2 hacc)
    exact ⟨start_armed_completes hrun, start_stopped_completes hrun, fun h2 hst => stop_completes hrun h2 hst hcmd,
      stop_stall_completes hrun, waiting_completes hrun, fun h4 => resume_completes hrun h4 (hpaused (Or.inl h4)),
      fun h5 => step_completes hrun h5 (hpaused (Or.inr h5))⟩

end Sys2Proof.Machine

/-! PROOFS.  Turns, stalls and the barrier of the sequencer (R112 to R136). -/

namespace Sys2Proof.Machine

/-! ## A fault record of no sorus -/

/-- A fault of the step that names a sorus that does not exist: the bit of the sticky store that its event would set lies in SEQ_CFG, and
is bit 2 of the turn length. -/
def strayFault : FaultRec :=
  { sorus := 801112577, cause := 0, frond := 0, bp := 0, step := 0, turn := 0, page := false, field := 7, value := 0 }

/-- A locked schedule of one step to a turn, at the end of that step, with the stray fault to be recorded. -/
def strayState : State :=
  { ((State.reset.setFld Fld.SEQ_STATUS_STATE 2).setFld Fld.SEQ_CFG_L 1) with
    arr := { State.reset.arr with faults := [strayFault] } }

/-- The sticky bit of event 2 · 801112577 (R65) is bit 2 of SEQ_CFG. -/
theorem strayFault_event : Reg.EVT_STICKY (2 * strayFault.sorus / 32) = Reg.SEQ_CFG ∧ 2 * strayFault.sorus % 32 = 2 := by decide

/-- Recording the fault makes the turn five steps long. -/
theorem strayState_stepFinish : strayState.stepFinish.turnLength = 5 ∧ strayState.stepFinish.seq.step = 0 := by decide +kernel

/-- A step that does not end its turn is followed by the next one (R109). -/
theorem State.step_runCycle_of_inner {s : State} (refEdge : Bool) (h : s.stepFinish.seq.step + 1 < s.stepFinish.turnLength) :
    (s.runCycle refEdge).seq.step = s.stepFinish.seq.step + 1 := by
  unfold State.runCycle
  dsimp only
  rw [if_neg (Nat.not_le.2 h), State.landEvents_seq]

theorem exec_turnBoundary {s : State} (refEdge : Bool) (hrun : s.seqState = 2) (hlast : s.turnLength ≤ s.seq.step + 1) :
    exec (.turnBoundary refEdge) s = .next (s.runCycle refEdge) := congrArg Host.Outcome.next (if_pos ⟨hrun, hlast⟩)

/-- Refutes O29: its clause on the boundary of a locked turn says of every state that the next turn begins.  In `strayState` the end of
the step records a fault whose sorus does not exist, and the event of it makes the turn longer, so that the turn goes on with step 1.
The clauses on commands that leave the turn unended hold: `sequencerTurns_besides_boundary`. -/
theorem not_sequencerTurns : ¬ Obligations.SequencerTurns := by
  rintro ⟨hturns, -⟩
  obtain ⟨-, -, hboundary, -⟩ := hturns 0 true false 0 0 strayState
  have hrun : strayState.seqState = 2 := by decide +kernel
  have hlast : strayState.turnLength ≤ strayState.seq.step + 1 := by decide +kernel
  obtain ⟨hnext, -⟩ := hboundary hrun hlast (by decide +kernel) (by decide +kernel) (by decide +kernel) rfl
  obtain ⟨t, hexec, -, hzero, -⟩ := hnext rfl
  obtain rfl : strayState.runCycle true = t := Host.Outcome.next.inj ((exec_turnBoundary true hrun hlast).symm.trans hexec)
  obtain ⟨hlength, hstep⟩ := strayState_stepFinish
  rw [State.step_runCycle_of_inner true (by rw [hlength, hstep]; decide), hstep] at hzero
  exact Nat.one_ne_zero hzero

end Sys2Proof.Machine

/-! PROOFS.  What O29 says besides the boundary of a turn: start, stall, barrier, and the end of a capture's copy. -/

namespace Sys2Proof.Machine

/-! ## Start of a run (R114, R118, R119) -/

theorem startCondition_completes {s : State} (hst : s.seqState = 1) (hlow : 2 ≤ s.startSrc) (hhigh : s.startSrc ≤ 4) :
    Completes .startCondition s fun t => t = { s with seq := { s.seq with startMet := true } } :=
  ⟨_, congrArg Host.Outcome.next (if_pos ⟨hst, hlow, hhigh⟩), rfl⟩

theorem State.reg_latchTime (s : State) {a : Nat} (h : a < 0x0C007000) : s.latchTime.reg a = s.reg a := by
  refine State.reg_foldl _ _ s fun t n => ?_
  split
  · exact State.reg_landOn _ _ _ h
  · rfl

@[simp] theorem State.latchTime_seq (s : State) : s.latchTime.seq = s.seq := by
  unfold State.latchTime
  dsimp only
  rw [State.seq_foldl]
  intro t n
  split
  · exact State.landOn_seq _ _ _
  · rfl

theorem turnZero_completes {s : State} (hdev : s.devState ≤ 1) (halign : s.twin.align = none) (hst : s.seqState = 1)
    (hmet : s.seq.startMet = true) : Completes .turnZero s fun t =>
      t.seqState = 2 ∧ t.seq = { s.seq with startMet := false, step := 0 } ∧ t.sticky 76 = true := by
  let u : State := { s with seq := { s.seq with startMet := false } }
  have hexec : exec .turnZero s = .next u.latchTime.digestOpen.seqRun.landEvents := by
    refine congrArg Host.Outcome.next ((if_pos hdev).trans ?_)
    rw [State.turnZero, halign]
    exact if_pos ⟨hst, hmet⟩
  have hseq : u.latchTime.digestOpen.seq = u.seq := u.latchTime_seq
  have harmed : u.latchTime.digestOpen.seqState ≠ 2 := by
    have hreg : u.latchTime.digestOpen.reg Reg.SEQ_STATUS = s.reg Reg.SEQ_STATUS := u.reg_latchTime (by decide)
    rw [State.seqState_congr hreg, hst]
    decide
  obtain ⟨hrun, hkeep, hev⟩ := u.latchTime.digestOpen.seqRun_landEvents_spec
  rw [hseq] at hkeep
  exact ⟨_, hexec, hrun, hkeep, hev harmed⟩

/-! ## Stalls and barriers (R129, R134, R136) -/

theorem stallLong_completes {s : State} (hst : s.seqState = 3) (hseen : s.seq.longSeen = false)
    (hwarn : s.fld Fld.SEQ_STALL_WARN_US ≠ 0) : Completes .stallLong s fun t =>
      t.flag Fld.SEQ_STATUS_STALL_LONG = true ∧ t.sticky 69 = true ∧
      OnlyEv [Fld.SEQ_STATUS_STALL_LONG] { s with seq := { s.seq with longSeen := true } } t :=
  ⟨_, congrArg Host.Outcome.next (if_pos ⟨hst, hseen, hwarn⟩), State.flag_raiseBit_same _ _ (by decide) (by decide) rfl rfl,
    State.sticky_raiseBit_same _ _ _ (by decide), (OnlyEv.refl _ _).raiseBit _ _ rfl List.mem_cons_self (by decide)⟩

section
variable {s : State} (hbar : s.inBarrier = true)
include hbar

theorem barTmo_completes (hst : s.seqState = 3) (hgo : s.seq.go = none) (htmo : s.fld Fld.SEQ_BAR_TMO_US ≠ 0) :
    Completes .barTmo s fun t =>
      t.flag Fld.SEQ_STATUS_BAR_TMO = true ∧ t.sticky 71 = true ∧ OnlyEv [Fld.SEQ_STATUS_BAR_TMO] s t :=
  ⟨_, congrArg Host.Outcome.next (if_pos ⟨hst, hbar, by rw [hgo]; rfl, htmo⟩),
    State.flag_raiseBit_same _ _ (by decide) (by decide) rfl rfl, State.sticky_raiseBit_same _ _ _ (by decide),
    (OnlyEv.refl _ _).raiseBit _ _ rfl List.mem_cons_self (by decide)⟩

omit hbar in
/-- What the barrier exchange takes is noted, and in STALL the boundary is looked at again as STALL_END does. -/
theorem completes_noted {c : Instr} {u : State} (hu : u.seqState = s.seqState)
    (hexec : exec c s = .next (if u.seqState = 3 then u.stallTry else u)) :
    Completes c s fun t => (s.seqState ≠ 3 → t = u) ∧ (s.seqState = 3 → exec .stallEnd u = .next t) := by
  refine ⟨_, hexec, fun h => if_neg (hu ▸ h), fun h => ?_⟩
  have h3 : u.seqState = 3 := hu.trans h
  rw [if_pos h3]
  exact congrArg Host.Outcome.next (if_pos h3)

theorem barReady_completes {lane : Fin 103} {turn : Word32} (vote : Bool) (hchild : lane.val ∈ s.seq.children)
    (hturn : turn.toNat = s.seq.turn % 2 ^ 32) : Completes (.barReady lane turn vote) s fun t =>
      let u : State := { s with seq := { s.seq with ready := Sparse.put none s.seq.ready lane (some vote) } }
      (s.seqState ≠ 3 → t = u) ∧ (s.seqState = 3 → exec .stallEnd u = .next t) :=
  completes_noted rfl (congrArg Host.Outcome.next (if_pos (by simp [hbar, hchild, hturn])))

theorem barGo_start_completes {lane : Fin 103} (turn : Word32) (vote : Bool) (hparent : s.seq.parent = some lane.val)
    (hst : s.seqState = 1) (hsrc : s.startSrc = 4) : Completes (.barGo lane turn vote) s fun t =>
      t = { s with seq := { s.seq with startMet := true } } :=
  ⟨_, congrArg Host.Outcome.next ((if_pos (by simp [hbar, hparent])).trans (if_pos ⟨hst, hsrc⟩)), rfl⟩

theorem barGo_completes {lane : Fin 103} {turn : Word32} (vote : Bool) (hparent : s.seq.parent = some lane.val)
    (hst : s.seqState ≠ 1) (hturn : turn.toNat = s.seq.turn % 2 ^ 32) : Completes (.barGo lane turn vote) s fun t =>
      let u : State := { s with seq := { s.seq with go := some vote } }
      (s.seqState ≠ 3 → t = u) ∧ (s.seqState = 3 → exec .stallEnd u = .next t) :=
  completes_noted rfl (congrArg Host.Outcome.next ((if_pos (by simp [hbar, hparent])).trans
    ((if_neg fun h => hst h.1).trans (if_pos hturn))))

end

section
variable {s : State} (hbar : s.inBarrier = false)
include hbar

/-- Outside a barrier tree, and with no probe record waiting, a stalled boundary is looked at as it stands. -/
theorem State.stallTry_of_no_barrier (hwait : s.seq.probeWait = false) : s.stallTry = s.boundaryTry := by
  have hstep : s.barStep = s := if_pos (by rw [hbar]; rfl)
  rw [State.stallTry, hwait, if_neg Bool.false_ne_true, hstep]

theorem State.stallCauses_of_no_barrier : s.stallCauses = s.otherCauses := by
  rw [State.stallCauses, hbar]
  rfl

end

theorem State.otherCauses_lt (s : State) : s.otherCauses < 256 := by
  unfold State.otherCauses
  have h (c : Bool) (n : Nat) : (if c = true then n else 0) ≤ n := by split <;> omega
  have h1 := h s.memWaits 1
  have h2 := h s.linkWaits 2
  have h8 := h s.seq.throttle 8
  have h16 := h s.pwr.oldLevel.isSome 16
  have h32 := h s.seq.probeWait 32
  omega

theorem State.cmdDue_of_none {s : State} (h : s.seq.cmd = none) (code : Nat) : s.cmdDue code = false := by
  rw [State.cmdDue, h]

/-- A stall goes on while a cause holds (R126, R129). -/
theorem stallEnd_held_completes {s : State} (hst : s.seqState = 3) (hbar : s.inBarrier = false) (hwait : s.seq.probeWait = false)
    (hthermal : s.seq.thermal = false) (hcmd : s.seq.cmd = none) (hcause : s.otherCauses ≠ 0) :
    Completes .stallEnd s fun t =>
      t.seqState = 3 ∧ t.fld Fld.SEQ_STATUS_STALL_CAUSE = s.otherCauses ∧ t.seq.heldCauses = s.seq.heldCauses ||| s.otherCauses ∧
      Only [Fld.SEQ_STATUS_STALL_CAUSE] { s with seq := { s.seq with heldCauses := t.seq.heldCauses } } t := by
  have hheld : s.stallTry = ({ s with seq := { s.seq with heldCauses := s.seq.heldCauses ||| s.otherCauses } } : State).setFld
      Fld.SEQ_STATUS_STALL_CAUSE s.otherCauses := by
    rw [State.stallTry_of_no_barrier hbar hwait, State.boundaryTry]
    simp only [State.stallCauses_of_no_barrier hbar, hcause, hst, hthermal, State.cmdDue_of_none hcmd, Bool.or_self, Bool.and_false,
      Bool.false_eq_true, or_self, if_false, if_true]
  refine ⟨_, congrArg Host.Outcome.next ((if_pos hst).trans hheld), ?_, ?_, rfl,
    (Only.refl _ _).setFld _ _ rfl List.mem_cons_self⟩
  · rw [State.seqState, State.fld_setFld_apart _ _ _ _ rfl (Or.inr (Or.inr (by decide)))]
    exact hst
  · rw [State.fld_setFld_same _ _ _ rfl]
    exact Nat.mod_eq_of_lt s.otherCauses_lt

/-! ## The turn register (R112) -/

theorem seqTurnLoRead_completes (mid : Mid) (s : State) : Completes (.seqTurnLoRead mid) s fun t =>
    t.done = { status := Code.ok, data := BitVec.ofNat 32 s.seq.turn } ∧
    t.reg Reg.SEQ_TURN_HI = BitVec.ofNat 32 (s.seq.turn / 2 ^ 32) ∧ Only [wholeReg Reg.SEQ_TURN_HI] s t :=
  ⟨_, congrArg Host.Outcome.next (if_pos rfl), rfl, State.reg_setReg_same _ _ _,
    ((Only.refl _ _).setReg _ _ List.mem_cons_self).reply _ _⟩

/-! ## Bytes of the HBM -/

theorem getLsbD_hbmByte (s : State) (a : Nat) {i : Nat} (hi : i < 8) :
    (s.hbmByte a).getLsbD i = (s.hbmWord (a / 8)).getLsbD (8 * (a % 8) + i) := by
  rw [State.hbmByte, BitVec.getLsbD_ofNat, Nat.testBit_shiftRight, BitVec.getLsbD]
  simp [hi]

/-- A byte put at its place in a word. -/
theorem getLsbD_hbmWord_setHbmByte (s : State) (a : Nat) (v : Byte) {i : Nat} (hi : i < 64) :
    ((s.setHbmByte a v).hbmWord (a / 8)).getLsbD i =
      if 8 * (a % 8) ≤ i ∧ i < 8 * (a % 8) + 8 then v.getLsbD (i - 8 * (a % 8)) else (s.hbmWord (a / 8)).getLsbD i := by
  have hmask (j : Nat) : (255 : Nat).testBit j = decide (j < 8) := Nat.testBit_two_pow_sub_one 8 j
  have hword : (s.setHbmByte a v).hbmWord (a / 8) = (s.hbmWord (a / 8) &&& ~~~ BitVec.ofNat 64 (255 <<< (8 * (a % 8)))) |||
      BitVec.ofNat 64 (v.toNat <<< (8 * (a % 8))) := Sparse.get_put_same _ _ _ _
  rw [hword]
  simp only [BitVec.getLsbD_or, BitVec.getLsbD_and, BitVec.getLsbD_not, BitVec.getLsbD_ofNat, Nat.testBit_shiftLeft, hmask, hi,
    decide_true, Bool.true_and]
  by_cases hlow : 8 * (a % 8) ≤ i
  · by_cases hhigh : i < 8 * (a % 8) + 8
    · have hin : i - 8 * (a % 8) < 8 := by omega
      simp [hlow, hhigh, hin, BitVec.getLsbD]
    · have hout : ¬ i - 8 * (a % 8) < 8 := by omega
      have hv : v.toNat.testBit (i - 8 * (a % 8)) = false := BitVec.getLsbD_of_ge v _ (Nat.not_lt.1 hout)
      simp [hlow, hhigh, hout, hv]
  · simp [hlow]

theorem hbmByte_setHbmByte (s : State) (a b : Nat) (v : Byte) :
    (s.setHbmByte a v).hbmByte b = if b = a then v else s.hbmByte b := by
  refine BitVec.eq_of_getLsbD_eq fun i hi => ?_
  rw [getLsbD_hbmByte _ _ hi]
  by_cases hword : b / 8 = a / 8
  · rw [hword, getLsbD_hbmWord_setHbmByte _ _ _ (by omega)]
    by_cases hb : b = a
    · rw [if_pos hb, if_pos (by omega), hb, Nat.add_sub_cancel_left]
    · rw [if_neg hb, if_neg (by omega), getLsbD_hbmByte _ _ hi, hword]
  · have hother : (s.setHbmByte a v).hbmWord (b / 8) = s.hbmWord (b / 8) := Sparse.get_put_other _ _ _ _ hword
    rw [hother, if_neg fun hb => hword (congrArg (· / 8) hb), getLsbD_hbmByte _ _ hi]

theorem hbmByte_setHbmBytes_below (s : State) {a b : Nat} (l : List Byte) (h : b < a) :
    (s.setHbmBytes a l).hbmByte b = s.hbmByte b := by
  induction l generalizing s a with
  | nil => rfl
  | cons v r ih => rw [State.setHbmBytes, ih _ (by omega), hbmByte_setHbmByte, if_neg (by omega)]

/-- Bytes stored read back. -/
theorem hbmBytes_setHbmBytes (s : State) (a : Nat) (l : List Byte) : (s.setHbmBytes a l).hbmBytes a l.length = l := by
  induction l generalizing s a with
  | nil => rfl
  | cons v r ih =>
    rw [State.setHbmBytes, State.hbmBytes, List.length_cons, List.range_succ_eq_map, List.map_cons, List.map_map]
    refine List.cons_eq_cons.2 ⟨?_, ?_⟩
    · exact (hbmByte_setHbmBytes_below _ _ (Nat.lt_succ_self a)).trans ((hbmByte_setHbmByte _ _ _ _).trans (if_pos rfl))
    · conv_rhs => rw [← ih (s.setHbmByte a v) (a + 1), State.hbmBytes]
      refine List.map_congr_left fun i _ => ?_
      rw [Function.comp_apply, Nat.add_right_comm, Nat.add_assoc]

theorem State.setHbmBytes_eq (s : State) (a : Nat) (l : List Byte) : ∃ x, s.setHbmBytes a l = { s with hbm := x } := by
  induction l generalizing s a with
  | nil => exact ⟨_, rfl⟩
  | cons v r ih =>
    obtain ⟨x, hx⟩ := ih (s.setHbmByte a v) (a + 1)
    exact ⟨x, hx⟩

theorem State.hbmBytes_congr {s t : State} (h : t.hbm = s.hbm) (a n : Nat) : t.hbmBytes a n = s.hbmBytes a n := by
  simp only [State.hbmBytes, State.hbmByte, State.hbmWord, h]

/-! ## Captures (R143, R146) -/

/-- The copy of a capture writes the HBM alone. -/
theorem State.captureWrite_eq (s : State) : ∃ x, s.captureWrite = { s with hbm := x } := by
  have hcopy (base : Nat) (l : List (Nat × List Byte)) (t : State) :
      ∃ x, l.foldl (fun t p => t.setHbmBytes (base + p.1) p.2) t = { t with hbm := x } := by
    induction l generalizing t with
    | nil => exact ⟨_, rfl⟩
    | cons p r ih =>
      obtain ⟨x, hx⟩ := t.setHbmBytes_eq (base + p.1) p.2
      obtain ⟨y, hy⟩ := ih { t with hbm := x }
      exact ⟨y, by rw [List.foldl_cons, hx, hy]⟩
  unfold State.captureWrite
  split
  · exact hcopy _ _ _
  · exact ⟨_, rfl⟩

/-- The copy writes the parts of the snapshot over an empty slot (R143). -/
theorem State.captureWrite_of_base {s : State} {b : Nat} (hbase : s.regionBase 5 = some b) : ∃ (base : Nat) (u : State),
    base = b + s.seq.snapSlot * 0x2000000 ∧ s.captureWrite = s.seq.snap.foldl (fun t p => t.setHbmBytes (base + p.1) p.2) u := by
  rw [State.captureWrite, hbase]
  exact ⟨_, _, rfl, rfl⟩

/-- A snapshot of one part fills its slot from the first byte on. -/
theorem State.hbmBytes_captureWrite {s : State} {b : Nat} {l : List Byte} (hbase : s.regionBase 5 = some b)
    (hsnap : s.seq.snap = [(0, l)]) :
    s.captureWrite.hbmBytes (b + s.seq.snapSlot * 0x2000000) l.length = l := by
  obtain ⟨base, u, hb, heq⟩ := State.captureWrite_of_base hbase
  rw [← hb, heq, hsnap, List.foldl_cons, List.foldl_nil]
  exact hbmBytes_setHbmBytes _ _ _

section
variable {s : State} (hbusy : s.flag Fld.SEQ_CAP_STAT_BUSY = true)
include hbusy

theorem captureCopyDone_completes {b : Nat} (hbase : s.regionBase 5 = some b) : Completes .captureCopyDone s fun t =>
    t.flag Fld.SEQ_CAP_STAT_BUSY = false ∧ t.reg Reg.SEQ_CAP_TURN = BitVec.ofNat 32 s.seq.snapTurn ∧
    t.flag Fld.SEQ_CAP_STAT_DONE = true ∧ t.sticky 72 = true ∧ t.seq = { s.seq with snap := [] } ∧
    (∀ l, s.seq.snap = [(0, l)] → t.hbmBytes (b + s.seq.snapSlot * 0x2000000) l.length = l) ∧
    OnlyEv [Fld.SEQ_CAP_STAT_BUSY, wholeReg Reg.SEQ_CAP_TURN, Fld.SEQ_CAP_STAT_DONE] { s with seq := t.seq, hbm := t.hbm } t := by
  obtain ⟨x, hx⟩ := s.captureWrite_eq
  let u : State := { s with seq := { s.seq with snap := [] }, hbm := x }
  let t := ((u.setFlag Fld.SEQ_CAP_STAT_BUSY false).setReg Reg.SEQ_CAP_TURN (BitVec.ofNat 32 s.seq.snapTurn)).raiseBit
    Fld.SEQ_CAP_STAT_DONE 72
  have hexec : exec .captureCopyDone s = .next t := by
    refine congrArg Host.Outcome.next ((if_pos hbusy).trans ?_)
    rw [hx]
  have hseq : t.seq = u.seq := State.raiseBit_seq _ _ _
  have hhbm : t.hbm = x := State.raiseBit_hbm _ _ _
  refine ⟨t, hexec, ?_, ?_, State.flag_raiseBit_same _ _ (by decide) (by decide) rfl rfl, State.sticky_raiseBit_same _ _ _ (by decide),
    hseq, fun l hl => ?_, ?_⟩
  · rw [State.flag_raiseBit_apart _ _ _ (by decide) (by decide) rfl (Or.inr (Or.inr (by decide))),
      State.flag_of_reg (State.reg_setReg_other _ _ (by decide))]
    exact State.flag_setFlag_same _ _ _ rfl rfl
  · rw [State.reg_raiseBit_other _ (by decide) (by decide) (by decide), State.reg_setReg_same]
  · have hcopy := State.hbmBytes_captureWrite hbase hl
    rw [hx] at hcopy
    exact (State.hbmBytes_congr (s := { s with hbm := x }) hhbm _ _).trans hcopy
  · rw [hseq, hhbm]
    exact (((OnlyEv.refl _ u).setFlag _ _ rfl (by simp)).setReg _ _ (by simp)).raiseBit _ _ rfl (by simp) (by decide)

theorem captureCopyFail_completes (code : Status) : Completes (.captureCopyFail code) s fun t =>
    t.flag Fld.SEQ_CAP_STAT_BUSY = false ∧ t.fld Fld.SEQ_CAP_STAT_CODE = code.toNat ∧ t.flag Fld.SEQ_CAP_STAT_FAIL = true ∧
    t.sticky 73 = true ∧ t.hbm = s.hbm ∧
    OnlyEv [Fld.SEQ_CAP_STAT_BUSY, Fld.SEQ_CAP_STAT_CODE, Fld.SEQ_CAP_STAT_FAIL] { s with seq := { s.seq with snap := [] } } t := by
  refine ⟨_, congrArg Host.Outcome.next (if_pos hbusy), ?_, ?_, State.flag_raiseBit_same _ _ (by decide) (by decide) rfl rfl,
    State.sticky_raiseBit_same _ _ _ (by decide), State.raiseBit_hbm _ _ _,
    (((OnlyEv.refl _ _).setFlag _ _ rfl (by simp)).setFld _ _ rfl (by simp)).raiseBit _ _ rfl (by simp) (by decide)⟩
  · rw [State.flag_raiseBit_apart _ _ _ (by decide) (by decide) rfl (Or.inr (Or.inr (by decide))),
      State.flag_setFld_apart _ _ _ _ rfl (Or.inr (Or.inr (by decide)))]
    exact State.flag_setFlag_same _ _ _ rfl rfl
  · rw [State.fld_raiseBit_apart _ _ _ (by decide) (by decide) rfl (Or.inr (Or.inl (by decide))), State.fld_setFld_same _ _ _ rfl]
    exact Nat.mod_eq_of_lt code.isLt

end

/-! ## The clauses together -/

/-- What O29 says of the commands that leave the turn unended: all of its clauses but the two that go through the work of a turn's
boundary, on the end of a locked turn (`not_sequencerTurns`) and of a stall. -/
theorem sequencerTurns_besides_boundary :
    (∀ (mid : Mid) (vote : Bool) (lane : Fin 103) (turn : Word32) (s : State),
      (s.seqState = 1 → 2 ≤ s.startSrc → s.startSrc ≤ 4 → Completes .startCondition s fun t =>
        t = { s with seq := { s.seq with startMet := true } }) ∧
      (s.devState ≤ 1 → s.twin.align = none → s.seqState = 1 → s.seq.startMet = true → Completes .turnZero s fun t =>
        t.seqState = 2 ∧ t.seq = { s.seq with startMet := false, step := 0 } ∧ t.sticky 76 = true) ∧
      (s.seqState = 3 → s.inBarrier = false → s.seq.probeWait = false → s.seq.thermal = false → s.seq.cmd = none →
        s.otherCauses ≠ 0 → Completes .stallEnd s fun t =>
          t.seqState = 3 ∧ t.fld Fld.SEQ_STATUS_STALL_CAUSE = s.otherCauses ∧ t.seq.heldCauses = s.seq.heldCauses ||| s.otherCauses ∧
          Only [Fld.SEQ_STATUS_STALL_CAUSE] { s with seq := { s.seq with heldCauses := t.seq.heldCauses } } t) ∧
      (s.seqState = 3 → s.seq.longSeen = false → s.fld Fld.SEQ_STALL_WARN_US ≠ 0 → Completes .stallLong s fun t =>
        t.flag Fld.SEQ_STATUS_STALL_LONG = true ∧ t.sticky 69 = true ∧
        OnlyEv [Fld.SEQ_STATUS_STALL_LONG] { s with seq := { s.seq with longSeen := true } } t) ∧
      (s.inBarrier = true →
        (s.seqState = 3 → s.seq.go = none → s.fld Fld.SEQ_BAR_TMO_US ≠ 0 → Completes .barTmo s fun t =>
          t.flag Fld.SEQ_STATUS_BAR_TMO = true ∧ t.sticky 71 = true ∧ OnlyEv [Fld.SEQ_STATUS_BAR_TMO] s t) ∧
        (lane.val ∈ s.seq.children → turn.toNat = s.seq.turn % 2 ^ 32 → Completes (.barReady lane turn vote) s fun t =>
          let u : State := { s with seq := { s.seq with ready := Sparse.put none s.seq.ready lane (some vote) } }
          (s.seqState ≠ 3 → t = u) ∧ (s.seqState = 3 → exec .stallEnd u = .next t)) ∧
        (s.seq.parent = some lane.val →
          (s.seqState = 1 → s.startSrc = 4 → Completes (.barGo lane turn vote) s fun t =>
            t = { s with seq := { s.seq with startMet := true } }) ∧
          (s.seqState ≠ 1 → turn.toNat = s.seq.turn % 2 ^ 32 → Completes (.barGo lane turn vote) s fun t =>
            let u : State := { s with seq := { s.seq with go := some vote } }
            (s.seqState ≠ 3 → t = u) ∧ (s.seqState = 3 → exec .stallEnd u = .next t)))) ∧
      (Completes (.seqTurnLoRead mid) s fun t =>
        t.done = { status := Code.ok, data := BitVec.ofNat 32 s.seq.turn } ∧
        t.reg Reg.SEQ_TURN_HI = BitVec.ofNat 32 (s.seq.turn / 2 ^ 32) ∧ Only [wholeReg Reg.SEQ_TURN_HI] s t)) ∧
    (∀ (code : Status) (s : State), s.flag Fld.SEQ_CAP_STAT_BUSY = true →
      (∀ b, s.regionBase 5 = some b → Completes .captureCopyDone s fun t =>
        t.flag Fld.SEQ_CAP_STAT_BUSY = false ∧ t.reg Reg.SEQ_CAP_TURN = BitVec.ofNat 32 s.seq.snapTurn ∧
        t.flag Fld.SEQ_CAP_STAT_DONE = true ∧ t.sticky 72 = true ∧ t.seq = { s.seq with snap := [] } ∧
        (∀ l, s.seq.snap = [(0, l)] → t.hbmBytes (b + s.seq.snapSlot * 0x2000000) l.length = l) ∧
        OnlyEv [Fld.SEQ_CAP_STAT_BUSY, wholeReg Reg.SEQ_CAP_TURN, Fld.SEQ_CAP_STAT_DONE] { s with seq := t.seq, hbm := t.hbm } t) ∧
      (Completes (.captureCopyFail code) s fun t =>
        t.flag Fld.SEQ_CAP_STAT_BUSY = false ∧ t.fld Fld.SEQ_CAP_STAT_CODE = code.toNat ∧ t.flag Fld.SEQ_CAP_STAT_FAIL = true ∧
        t.sticky 73 = true ∧ t.hbm = s.hbm ∧
        OnlyEv [Fld.SEQ_CAP_STAT_BUSY, Fld.SEQ_CAP_STAT_CODE, Fld.SEQ_CAP_STAT_FAIL] { s with seq := { s.seq with snap := [] } } t)) :=
  ⟨fun mid vote _ turn s => ⟨startCondition_completes, turnZero_completes, stallEnd_held_completes, stallLong_completes,
      fun hbar => ⟨barTmo_completes hbar, barReady_completes hbar vote, fun hparent =>
        ⟨barGo_start_completes hbar turn vote hparent, barGo_completes hbar vote hparent⟩⟩,
      seqTurnLoRead_completes mid s⟩,
    fun code _ hbusy => ⟨fun _ hbase => captureCopyDone_completes hbusy hbase, captureCopyFail_completes hbusy code⟩⟩

end Sys2Proof.Machine

/-! PROOFS.  The loader: how a load takes its stream and how it fails (R176, R382, R393, R394). -/

namespace Sys2Proof.Machine

/-! ## The stream -/

section
variable (s : State) (bytes : List Byte)

/-- The stream changes the loader's bytes and the free space of the FIFO, and nothing else. -/
theorem State.takeStream_cases : ∃ img str, let l := { s.ldr with image := img, stream := str }
    s.takeStream bytes = { s with ldr := l } ∨
      s.takeStream bytes = ({ s with ldr := l } : State).setReg Reg.LDR_FIFO_FREE 65536 := by
  unfold State.takeStream
  dsimp only
  split
  · exact ⟨_, s.ldr.stream, Or.inl rfl⟩
  · split
    · exact ⟨_, _, Or.inr rfl⟩
    · exact ⟨_, _, Or.inl rfl⟩

theorem State.takeStream_ldr : ∃ img str, (s.takeStream bytes).ldr = { s.ldr with image := img, stream := str } := by
  obtain ⟨img, str, h | h⟩ := s.takeStream_cases bytes
  · exact ⟨img, str, by rw [h]⟩
  · exact ⟨img, str, by rw [h]; rfl⟩

@[simp] theorem State.takeStream_change : (s.takeStream bytes).ldr.change = s.ldr.change := by
  obtain ⟨img, str, h⟩ := s.takeStream_ldr bytes
  rw [h]

@[simp] theorem State.takeStream_phase : (s.takeStream bytes).ldr.phase = s.ldr.phase := by
  obtain ⟨img, str, h⟩ := s.takeStream_ldr bytes
  rw [h]

@[simp] theorem State.takeStream_src : (s.takeStream bytes).ldr.src = s.ldr.src := by
  obtain ⟨img, str, h⟩ := s.takeStream_ldr bytes
  rw [h]

@[simp] theorem State.takeStream_clock : (s.takeStream bytes).clock = s.clock := by
  obtain ⟨img, str, h | h⟩ := s.takeStream_cases bytes
  · rw [h]
  · rw [h]; rfl

end

theorem State.loadStage_of_no_change {s : State} (h : s.ldr.change = none) : s.loadStage = s.ldr.phase := by
  rw [State.loadStage, h]

/-- A command of a phase, given in its phase while the flash bus runs, works on the stream with its bytes taken (R380, R383). -/
theorem completes_phase {c : Instr} {s : State} {bytes : List Byte} {n : Nat} {run : State → State} {P : State → Prop}
    (hexec : exec c s = .next (if s.loadStage = n then s.phaseOn bytes run else s)) (hchange : s.ldr.change = none)
    (hpaused : s.ldr.paused = false) (hphase : s.ldr.phase = n) (hP : P (run (s.takeStream bytes))) : Completes c s P := by
  refine ⟨_, hexec, ?_⟩
  rw [if_pos ((State.loadStage_of_no_change hchange).trans hphase), State.phaseOn, hpaused, if_neg Bool.false_ne_true]
  exact hP

/-! ## Failures -/

theorem State.fallbackSlot_congr {s t : State} (hldr : t.ldr = s.ldr) (hrole : t.fld Fld.LDR_XSPI_ROLE = s.fld Fld.LDR_XSPI_ROLE) :
    t.fallbackSlot = s.fallbackSlot := by
  simp only [State.fallbackSlot, hldr, hrole]

/-- The fields that a failed full load writes besides those of a failed check (R393). -/
def failFields : List Field :=
  [Fld.LDR_FAIL_PHASE, Fld.LDR_FAIL_CODE, Fld.LDR_CMD_STAT_PENDING, Fld.LDR_CMD_STAT_CODE, Fld.LDR_STATUS_PHASE, Fld.LDR_STATUS_FAIL]

/-- A full load that does not fall back has failed in a phase with a status (R393). -/
def State.LoadFailed (s : State) (code : Status) (t : State) : Prop :=
  t.ldr.phase = 11 ∧ t.fld Fld.LDR_STATUS_PHASE = 11 ∧ t.fld Fld.LDR_FAIL_PHASE = s.ldr.phase % 16 ∧
    t.fld Fld.LDR_FAIL_CODE = code.toNat ∧ t.sticky 408 = true ∧ t.clock.cfgErr = true ∧ t.ldr.change = s.ldr.change ∧
    (∀ n < 512, s.sticky n = true → t.sticky n = true) ∧ OnlyEv failFields { s with ldr := t.ldr, clock := t.clock } t

/-- The record of a failure: its phase and code, and the code of the command that asked for the load. -/
theorem State.failRecord_spec (s : State) (code : Status) :
    let s1 := (s.setFld Fld.LDR_FAIL_PHASE s.ldr.phase).setFld Fld.LDR_FAIL_CODE code.toNat
    let s2 := if s1.flag Fld.LDR_CMD_STAT_PENDING then
        (s1.setFlag Fld.LDR_CMD_STAT_PENDING false).setFld Fld.LDR_CMD_STAT_CODE code.toNat else s1
    s2.fld Fld.LDR_FAIL_PHASE = s.ldr.phase % 16 ∧ s2.fld Fld.LDR_FAIL_CODE = code.toNat ∧ Only failFields s s2 := by
  intro s1 s2
  have hs1 : Only failFields s s1 := ((Only.refl _ s).setFld _ _ rfl (by simp [failFields])).setFld _ _ rfl (by simp [failFields])
  have hs2 : Only [Fld.LDR_CMD_STAT_PENDING, Fld.LDR_CMD_STAT_CODE] s1 s2 :=
    (((Only.refl _ _).setFlag _ _ rfl (by simp)).setFld _ _ rfl (by simp)).ite (Only.refl _ _)
  refine ⟨?_, ?_, ?_⟩
  · rw [hs2.2 _ (by simp [Field.apart]), State.fld_setFld_apart _ _ _ _ rfl (by simp [Field.apart]), State.fld_setFld_same _ _ _ rfl]
    rfl
  · rw [hs2.2 _ (by simp [Field.apart]), State.fld_setFld_same _ _ _ rfl]
    exact Nat.mod_eq_of_lt code.isLt
  · exact ((hs1.setFlag _ _ rfl (by simp [failFields])).setFld _ _ rfl (by simp [failFields])).ite hs1

theorem State.sticky_of_only {w : List Field} {s t : State} (h : Only w s t) {n : Nat}
    (hw : ∀ f ∈ w, f.apart (wholeReg (Reg.EVT_STICKY (n / 32)))) : t.sticky n = s.sticky n :=
  State.sticky_congr n (h.reg_eq hw)

/-- The loader's registers lie above the sticky store (R25, R498). -/
theorem failFields_apart_sticky {n : Nat} (hn : n < 512) : ∀ f ∈ failFields, f.apart (wholeReg (Reg.EVT_STICKY (n / 32))) := by
  have hlt : Reg.EVT_STICKY (n / 32) < 0x2000000 := by simp only [Reg.EVT_STICKY]; omega
  intro f hf
  refine Or.inl (Nat.ne_of_gt (Nat.lt_of_lt_of_le hlt ?_))
  revert f
  decide

theorem Only.withLdr {w : List Field} {s t : State} (h : Only w s t) (l : LoaderSt) :
    Only w { s with ldr := l } { t with ldr := l } :=
  ⟨congrArg (fun x : State => { x with ldr := l }) h.1, h.2⟩

theorem OnlyEv.withLdr {w : List Field} {s t : State} (h : OnlyEv w s t) (l : LoaderSt) :
    OnlyEv w { s with ldr := l } { t with ldr := l } :=
  ⟨congrArg (fun x : State => { x with ldr := l }) h.1, h.2⟩

theorem OnlyEv.withClock {w : List Field} {s t : State} (h : OnlyEv w s t) (c : ClockSt) :
    OnlyEv w { s with clock := c } { t with clock := c } :=
  ⟨congrArg (fun x : State => { x with clock := c }) h.1, h.2⟩

theorem State.fullFails_failed {s : State} (h : s.fallbackSlot = none) (code : Status) :
    s.LoadFailed code (s.fullFails code) := by
  obtain ⟨hp, hc, honly⟩ := s.failRecord_spec code
  rw [State.fullFails, h]
  dsimp only
  generalize (if ((s.setFld Fld.LDR_FAIL_PHASE s.ldr.phase).setFld Fld.LDR_FAIL_CODE code.toNat).flag Fld.LDR_CMD_STAT_PENDING = true
    then _ else _ : State) = u at hp hc honly ⊢
  have hkeep {f : Field} (hsafe : eventSafe f = true) (hstatus : f.addr ≠ Reg.LDR_STATUS) :
      ((u.setPhase 11).raiseBit Fld.LDR_STATUS_FAIL 408).fld f = u.fld f := by
    rw [State.fld_raiseBit_apart _ _ _ (by decide) hsafe rfl (Or.inl (Ne.symm hstatus)), State.setPhase,
      State.fld_setFld_apart _ _ _ _ rfl (Or.inl (Ne.symm hstatus))]
    rfl
  refine ⟨?_, ?_, (hkeep (by decide) (by decide)).trans hp, (hkeep (by decide) (by decide)).trans hc,
    State.sticky_raiseBit_same _ _ _ (by decide), rfl, ?_, fun n hn hs => ?_, ?_⟩
  · exact congrArg LoaderSt.phase (State.raiseBit_ldr _ _ _)
  · refine (State.fld_raiseBit_apart _ _ _ (by decide) (by decide) rfl (by simp [Field.apart])).trans ?_
    exact State.fld_setFld_same _ _ _ rfl
  · refine (congrArg LoaderSt.change (State.raiseBit_ldr _ _ _)).trans ?_
    exact (congrArg (fun x : State => x.ldr.change) honly.1 :)
  · refine State.sticky_raise_keep _ _ hn ?_
    rw [← State.sticky_of_only honly (failFields_apart_sticky hn)] at hs
    have hset : Only failFields { u with ldr := { u.ldr with phase := 11 } } ((u.setPhase 11).setFlag Fld.LDR_STATUS_FAIL true) :=
      ((Only.refl _ _).setFld _ _ rfl (by simp [failFields])).setFlag _ _ rfl (by simp [failFields])
    rw [State.sticky_of_only hset (failFields_apart_sticky hn)]
    exact hs
  · have hx : OnlyEv failFields { s with ldr := { u.ldr with phase := 11 } } ((u.setPhase 11).raiseBit Fld.LDR_STATUS_FAIL 408) :=
      ((honly.ev.withLdr { u.ldr with phase := 11 }).setFld Fld.LDR_STATUS_PHASE 11 rfl (by simp [failFields])).raiseBit
        Fld.LDR_STATUS_FAIL 408 rfl (by simp [failFields]) (by decide)
    generalize (u.setPhase 11).raiseBit Fld.LDR_STATUS_FAIL 408 = x at hx ⊢
    exact (hx.withLdr { x.ldr with training := false, paused := false }).withClock { x.clock with cfgErr := true }

/-- A check of R176 that fails ends the load in FAILED with its number, its bit and its events (R393). -/
def State.CheckFailed (phase chk : Nat) (t : State) : Prop :=
  t.ldr.phase = 11 ∧ t.fld Fld.LDR_STATUS_PHASE = 11 ∧ t.fld Fld.LDR_CHK_STAT_CHECK = chk ∧ t.fld Fld.LDR_FAIL_PHASE = phase ∧
    t.sticky 408 = true ∧ t.clock.cfgErr = true ∧
    (chk < 12 → t.flag Fld.LDR_CHK_STAT_FORMAT = true ∧ t.sticky 405 = true ∧ t.fld Fld.LDR_FAIL_CODE = Code.imgFormat.toNat) ∧
    (12 ≤ chk → t.flag Fld.LDR_CHK_STAT_IMG_CONFLICT = true ∧ t.sticky 406 = true ∧ t.fld Fld.LDR_FAIL_CODE = Code.imageConflict.toNat)

theorem State.LoadFailed.fld_eq {s t : State} {code : Status} (h : s.LoadFailed code t) {f : Field} (hsafe : eventSafe f = true)
    (hf : ∀ g ∈ failFields, g.apart f) : t.fld f = s.fld f := by
  obtain ⟨-, -, -, -, -, -, -, -, -, hkeep⟩ := h
  exact hkeep f hsafe hf

theorem failFields_addr {a : Nat} (ha : a ∉ [Reg.LDR_FAIL, Reg.LDR_CMD_STAT, Reg.LDR_STATUS]) {f : Field} (hf : f.addr = a) :
    ∀ g ∈ failFields, g.apart f := by
  simp only [List.mem_cons, List.not_mem_nil, or_false, not_or] at ha
  obtain ⟨hfail, hcmd, hstatus⟩ := ha
  subst hf
  simp only [failFields, List.forall_mem_cons]
  exact ⟨Or.inl (Ne.symm hfail), Or.inl (Ne.symm hfail), Or.inl (Ne.symm hcmd), Or.inl (Ne.symm hcmd), Or.inl (Ne.symm hstatus),
    Or.inl (Ne.symm hstatus), fun _ h => absurd h List.not_mem_nil⟩

theorem State.loadFails_of_no_change {s : State} (h : s.ldr.change = none) (code : Status) : s.loadFails code = s.fullFails code := by
  rw [State.loadFails, h]

/-- The bit and the event of a failed check outlast the failure of the load, and so does its number. -/
theorem State.raiseBit_loadFails {s : State} (hchange : s.ldr.change = none) (hfall : s.fallbackSlot = none)
    {f : Field} (haddr : f.addr = Reg.LDR_CHK_STAT) (hsafe : eventSafe f = true) (hfits : f.fits = true)
    (hwidth : f.width = 1) (hcheck : f.apart Fld.LDR_CHK_STAT_CHECK) {n : Nat} (hn : n < 512) (code : Status) :
    let t := (s.raiseBit f n).loadFails code
    (s.raiseBit f n).LoadFailed code t ∧ t.fld Fld.LDR_CHK_STAT_CHECK = s.fld Fld.LDR_CHK_STAT_CHECK ∧ t.flag f = true ∧
      t.sticky n = true := by
  intro t
  have hrole : (s.raiseBit f n).fld Fld.LDR_XSPI_ROLE = s.fld Fld.LDR_XSPI_ROLE :=
    State.fld_raiseBit_apart _ _ _ hn (by decide) hfits (Or.inl (by rw [haddr]; decide))
  have ht : (s.raiseBit f n).LoadFailed code t := by
    rw [show t = (s.raiseBit f n).fullFails code from State.loadFails_of_no_change (by simpa using hchange) code]
    exact State.fullFails_failed ((State.fallbackSlot_congr (State.raiseBit_ldr ..) hrole).trans hfall) code
  have hkeep {g : Field} (hg : g.addr = Reg.LDR_CHK_STAT) (hs : eventSafe g = true) : t.fld g = (s.raiseBit f n).fld g :=
    ht.fld_eq hs (failFields_addr (by decide) hg)
  refine ⟨ht, (hkeep rfl (by decide)).trans (State.fld_raiseBit_apart _ _ _ hn (by decide) hfits hcheck), ?_, ?_⟩
  · have hflag := State.flag_raiseBit_same s n hn hsafe hfits hwidth
    rwa [State.flag, ← hkeep haddr hsafe, ← State.flag] at hflag
  · obtain ⟨-, -, -, -, -, -, -, hsticky, -⟩ := ht
    exact hsticky n hn (State.sticky_raiseBit_same _ _ _ hn)

/-- A check of R176 recorded: its number, section and frame. -/
def State.checkRecord (s : State) (chk sec seq : Nat) : State :=
  ((s.setFld Fld.LDR_CHK_STAT_CHECK chk).setFld Fld.LDR_CHK_STAT_SECTION sec).setReg Reg.LDR_CHK_INFO (BitVec.ofNat 32 seq)

section
variable (s : State) (chk sec seq : Nat)

@[simp] theorem State.checkRecord_ldr : (s.checkRecord chk sec seq).ldr = s.ldr := by
  rw [State.checkRecord, State.setReg_ldr, State.setFld_ldr, State.setFld_ldr]

theorem State.checkRecord_check : (s.checkRecord chk sec seq).fld Fld.LDR_CHK_STAT_CHECK = chk % 256 := by
  rw [State.checkRecord, State.fld_setReg_other _ _ _ (by decide), State.fld_setFld_apart _ _ _ _ rfl (by simp [Field.apart]),
    State.fld_setFld_same _ _ _ rfl]
  rfl

theorem State.checkRecord_fallbackSlot : (s.checkRecord chk sec seq).fallbackSlot = s.fallbackSlot := by
  refine State.fallbackSlot_congr (s.checkRecord_ldr chk sec seq) ?_
  rw [State.checkRecord, State.fld_setReg_other _ _ _ (by decide), State.fld_setFld_apart _ _ _ _ rfl (by simp [Field.apart]),
    State.fld_setFld_apart _ _ _ _ rfl (by simp [Field.apart])]

theorem State.checkFails_format {chk : Nat} (h : chk < 12) :
    s.checkFails chk sec seq = ((s.checkRecord chk sec seq).raiseBit Fld.LDR_CHK_STAT_FORMAT 405).loadFails Code.imgFormat := by
  rw [State.checkFails, if_neg (Nat.not_le.2 h), if_pos rfl, State.checkRecord]

theorem State.checkFails_conflict {chk : Nat} (h : 12 ≤ chk) :
    s.checkFails chk sec seq = ((s.checkRecord chk sec seq).raiseBit Fld.LDR_CHK_STAT_IMG_CONFLICT 406).loadFails Code.imageConflict := by
  rw [State.checkFails, if_pos h, if_neg (by decide), State.checkRecord]

end

/-- A check that fails ends a full load that does not fall back (R176, R393). -/
theorem State.checkFails_failed {s : State} (hchange : s.ldr.change = none) (hfall : s.fallbackSlot = none) {phase : Nat}
    (hphase : s.ldr.phase = phase) (hlow : phase < 16) {chk : Nat} (hchk : chk < 256) (sec seq : Nat) :
    (s.checkFails chk sec seq).CheckFailed phase chk ∧ (s.checkFails chk sec seq).ldr.change = none := by
  have hchange' := (congrArg LoaderSt.change (s.checkRecord_ldr chk sec seq)).trans hchange
  have hfall' := (s.checkRecord_fallbackSlot chk sec seq).trans hfall
  have hcheck := (s.checkRecord_check chk sec seq).trans (Nat.mod_eq_of_lt hchk)
  have hrecorded {x : Nat} {f : Field} {n : Nat} (hx : x = ((s.checkRecord chk sec seq).raiseBit f n).ldr.phase % 16) : x = phase := by
    rw [hx, State.raiseBit_ldr, State.checkRecord_ldr, hphase]
    exact Nat.mod_eq_of_lt hlow
  by_cases h12 : chk < 12
  · rw [s.checkFails_format sec seq h12]
    obtain ⟨⟨hp, hs, hfp, hfc, h408, herr, hch, -⟩, hc, hb, he⟩ := State.raiseBit_loadFails hchange' hfall'
      (f := Fld.LDR_CHK_STAT_FORMAT) rfl (by decide) rfl rfl (by simp [Field.apart]) (n := 405) (by decide) Code.imgFormat
    exact ⟨⟨hp, hs, hc.trans hcheck, hrecorded hfp, h408, herr, fun _ => ⟨hb, he, hfc⟩, fun h => absurd h12 (Nat.not_lt.2 h)⟩,
      hch.trans ((congrArg LoaderSt.change (State.raiseBit_ldr ..)).trans hchange')⟩
  · rw [s.checkFails_conflict sec seq (Nat.not_lt.1 h12)]
    obtain ⟨⟨hp, hs, hfp, hfc, h408, herr, hch, -⟩, hc, hb, he⟩ := State.raiseBit_loadFails hchange' hfall'
      (f := Fld.LDR_CHK_STAT_IMG_CONFLICT) rfl (by decide) rfl rfl (by simp [Field.apart]) (n := 406) (by decide) Code.imageConflict
    exact ⟨⟨hp, hs, hc.trans hcheck, hrecorded hfp, h408, herr, fun h => absurd h h12, fun _ => ⟨hb, he, hfc⟩⟩,
      hch.trans ((congrArg LoaderSt.change (State.raiseBit_ldr ..)).trans hchange')⟩

end Sys2Proof.Machine

/-! PROOFS.  The loader's phases HEADER, CLOCK and CHECK (R21, R161 to R163, R171, R176, R386). -/

namespace Sys2Proof.Machine

/-! ## HEADER (R161 to R163, R176) -/

theorem State.wantsFull_of_no_change {s : State} (h : s.ldr.change = none) : s.wantsFull = true := by
  rw [State.wantsFull, h]

/-- A header and a section table that pass every check lead to CLOCK. -/
theorem State.headerRun_passed {s : State} (hchange : s.ldr.change = none) (hfits : s.entryFits = true)
    (hlong : 256 ≤ s.ldr.image.length) (hgood : s.headerCheck s.ldr.image 1 s.entryLength = none) (hsome : 1 ≤ secCount s.ldr.image)
    (hmax : secCount s.ldr.image ≤ 4096) (hend : secEnd s.ldr.image ≤ numAt s.ldr.image 0x10 8)
    (hin : secEnd s.ldr.image ≤ s.ldr.image.length) (htable : s.tableGood s.ldr.image true = true) :
    s.headerRun = ({ s with ldr := { s.ldr with sections := sectionTable s.ldr.image } } : State).setPhase 3 := by
  have hrange : ¬ (secCount s.ldr.image = 0 ∨ 4096 < secCount s.ldr.image ∨ numAt s.ldr.image 0x10 8 < secEnd s.ldr.image) := by omega
  simp [State.headerRun, State.wantsFull_of_no_change hchange, hfits, Nat.not_lt.2 hlong, hgood, hrange, Nat.not_lt.2 hin, htable,
    hchange]

/-- A header without the magic number fails check 1. -/
theorem State.headerRun_magic {s : State} (hchange : s.ldr.change = none) (hfits : s.entryFits = true)
    (hlong : 256 ≤ s.ldr.image.length) (hmagic : numAt s.ldr.image 0 4 ≠ 0x3149585A) : s.headerRun = s.checkFails 1 0 0 := by
  have hcheck : s.headerCheck s.ldr.image 1 s.entryLength = some 1 := if_pos (Or.inl hmagic)
  simp [State.headerRun, State.wantsFull_of_no_change hchange, hfits, Nat.not_lt.2 hlong, hcheck]

theorem State.setPhase_only (s : State) (p : Nat) :
    Only [Fld.LDR_STATUS_PHASE] { s with ldr := { s.ldr with phase := p } } (s.setPhase p) :=
  (Only.refl _ _).setFld _ _ rfl (by simp)

@[simp] theorem State.setPhase_ldr (s : State) (p : Nat) : (s.setPhase p).ldr = { s.ldr with phase := p } := rfl

theorem State.setPhase_status (s : State) {p : Nat} (hp : p < 16) : (s.setPhase p).fld Fld.LDR_STATUS_PHASE = p :=
  (State.fld_setFld_same _ _ _ rfl).trans (Nat.mod_eq_of_lt hp)

section
variable {s : State} {bytes : List Byte} (hchange : s.ldr.change = none) (hpaused : s.ldr.paused = false) (hphase : s.ldr.phase = 2)
include hchange hpaused hphase

theorem headerPhase_completes (hfits : (s.takeStream bytes).entryFits = true) (hlong : 256 ≤ (s.takeStream bytes).ldr.image.length) :
    let u := s.takeStream bytes
    let img := u.ldr.image
    (u.headerCheck img 1 u.entryLength = none → 1 ≤ secCount img → secCount img ≤ 4096 → secEnd img ≤ numAt img 0x10 8 →
      secEnd img ≤ img.length → u.tableGood img true = true → Completes (.headerPhase bytes) s fun t =>
        t.ldr.phase = 3 ∧ t.fld Fld.LDR_STATUS_PHASE = 3 ∧ t.ldr.sections = sectionTable img ∧
        Only [Fld.LDR_STATUS_PHASE] { u with ldr := { u.ldr with phase := 3, sections := t.ldr.sections } } t) ∧
    (u.fallbackSlot = none → numAt img 0 4 ≠ 0x3149585A → Completes (.headerPhase bytes) s (State.CheckFailed 2 1)) := by
  intro u img
  have hu : u.ldr.change = none := by simpa [u] using hchange
  constructor
  · intro hgood hsome hmax hend hin htable
    refine completes_phase rfl hchange hpaused hphase ?_
    rw [State.headerRun_passed hu hfits hlong hgood hsome hmax hend hin htable]
    exact ⟨rfl, State.setPhase_status _ (by decide), rfl, State.setPhase_only _ 3⟩
  · intro hfall hmagic
    refine completes_phase rfl hchange hpaused hphase ?_
    rw [State.headerRun_magic hu hfits hlong hmagic]
    exact (State.checkFails_failed hu hfall (by simpa [u] using hphase) (by decide) (by decide) 0 0).1

end

/-! ## CLOCK (R21, R176, R380) -/

/-- What every step of a fold keeps, the fold keeps. -/
theorem foldl_keeps {σ α β : Type} (p : σ → β) (g : σ → α → σ) (l : List α) (s : σ)
    (h : ∀ t, ∀ x ∈ l, p (g t x) = p t) : p (l.foldl g s) = p s := by
  induction l generalizing s with
  | nil => rfl
  | cons x r ih => exact (ih _ fun t y hy => h t y (List.mem_cons_of_mem _ hy)).trans (h s x List.mem_cons_self)

theorem State.systemPlls_time (s : State) : s.systemPlls.time = s.time := foldl_keeps State.time _ _ s fun _ _ _ => rfl

theorem State.reg_systemPlls (s : State) {a : Nat} (h : a < 0x5F00000) : s.systemPlls.reg a = s.reg a := by
  refine foldl_keeps (fun t => t.reg a) _ _ s fun t k _ => ?_
  have hne : a ≠ Reg.LN_PLL k := by simp only [Reg.LN_PLL]; omega
  exact ((State.reg_setFld_other _ _ _ _ hne).trans (State.reg_setFld_other _ _ _ _ hne)).trans (State.reg_setFld_other _ _ _ _ hne)

theorem State.lockAt_pnom (s : State) {m : Nat} (h : s.clock.fnom * m ≠ 0) :
    (s.lockAt m).time.pnom = 4000000000 * 2 ^ 40 / (s.clock.fnom * m) := by
  rw [State.lockAt]
  exact (congrArg TimeSt.pnom (State.systemPlls_time _)).trans (if_neg h)

theorem State.lockAt_mult (s : State) {m : Nat} (h : m < 256) : (s.lockAt m).fld Fld.CLK_RPLL_MULT = m := by
  rw [State.lockAt]
  have hreg (x : State) (p q : Nat) : ((({ x with time := { x.time with pnom := p } } : State).setPeriod q).retick).fld Fld.CLK_RPLL_MULT =
      x.fld Fld.CLK_RPLL_MULT :=
    (State.fld_setReg_other _ _ _ (by decide)).trans (State.fld_setReg_other _ _ _ (by decide))
  refine (congrArg (Field.get Fld.CLK_RPLL_MULT) (State.reg_systemPlls _ (by decide))).trans ((hreg _ _ _).trans ?_)
  rw [State.fld_setReg_other _ _ _ (by decide), State.fld_setReg_other _ _ _ (by decide),
    State.fld_setFlag_apart _ _ _ _ rfl (by simp [Field.apart]), State.fld_setFld_same _ _ _ rfl]
  exact Nat.mod_eq_of_lt h

theorem State.fld_setPhase (s : State) (p : Nat) {f : Field} (h : f.addr ≠ Reg.LDR_STATUS) : (s.setPhase p).fld f = s.fld f :=
  State.fld_setFld_apart _ _ _ _ rfl (Or.inl (Ne.symm h))

/-- The multiplier of an image is one that the RPLL can take (R20, R176). -/
def State.MultGood (s : State) (m : Nat) : Prop :=
  24 ≤ m ∧ m ≤ 200 ∧ 4600000000 ≤ s.clock.fnom * m ∧ s.clock.fnom * m ≤ 5000000000

section
variable {s : State} {x : ImgSection} {i : Nat} (hsec : s.ownSection 1 = some (x, i)) (hin : s.sectionIn x = true)
include hsec hin

theorem State.clockRun_passed (hgood : s.MultGood (Config.clockMult (s.sectionBytes x))) :
    let s1 := (s.lockAt (Config.clockMult (s.sectionBytes x))).setPhase 4
    s.clockRun = { s1 with ldr := { s1.ldr with paused := s.ldr.src == 0 } } := by
  obtain ⟨hlow, hhigh, hslow, hfast⟩ := hgood
  simp [State.clockRun, hsec, hin, Nat.not_lt.2 hlow, Nat.not_lt.2 hhigh, Nat.not_lt.2 hslow, Nat.not_lt.2 hfast]

theorem State.clockRun_failed (hbad : ¬ s.MultGood (Config.clockMult (s.sectionBytes x))) : s.clockRun = s.checkFails 8 i 0 := by
  have hout : Config.clockMult (s.sectionBytes x) < 24 ∨ 200 < Config.clockMult (s.sectionBytes x) ∨
      s.clock.fnom * Config.clockMult (s.sectionBytes x) < 4600000000 ∨
      5000000000 < s.clock.fnom * Config.clockMult (s.sectionBytes x) := by
    simp only [State.MultGood] at hbad
    omega
  simp [State.clockRun, hsec, hin, hout]

end

theorem clockPhase_completes {s : State} {bytes : List Byte} (hchange : s.ldr.change = none) (hpaused : s.ldr.paused = false)
    (hphase : s.ldr.phase = 3) {x : ImgSection} {i : Nat} (hsec : (s.takeStream bytes).ownSection 1 = some (x, i))
    (hin : (s.takeStream bytes).sectionIn x = true) (hfall : (s.takeStream bytes).fallbackSlot = none) :
    let m := Config.clockMult ((s.takeStream bytes).sectionBytes x)
    Completes (.clockPhase bytes) s fun t =>
      (s.MultGood m → t.ldr.phase = 4 ∧ t.fld Fld.CLK_RPLL_MULT = m ∧ t.time.pnom = 4000000000 * 2 ^ 40 / (s.clock.fnom * m) ∧
        t.ldr.paused = (s.ldr.src == 0)) ∧
      (¬ s.MultGood m → t.CheckFailed 3 8) := by
  intro m
  have hclock : (s.takeStream bytes).clock = s.clock := s.takeStream_clock bytes
  have hgood : (s.takeStream bytes).MultGood m ↔ s.MultGood m := by rw [State.MultGood, hclock, State.MultGood]
  refine completes_phase rfl hchange hpaused hphase ⟨fun h => ?_, fun h => ?_⟩
  · rw [State.clockRun_passed hsec hin (hgood.2 h)]
    obtain ⟨-, hhigh, hslow, -⟩ := h
    have hmult := (s.takeStream bytes).lockAt_mult (m := m) (by omega)
    have hpnom := (s.takeStream bytes).lockAt_pnom (m := m) (by rw [hclock]; omega)
    rw [hclock] at hpnom
    generalize (s.takeStream bytes).lockAt m = l at hmult hpnom ⊢
    exact ⟨rfl, (State.fld_setPhase l 4 (by decide)).trans hmult, hpnom, congrArg (· == 0) (s.takeStream_src bytes)⟩
  · rw [State.clockRun_failed hsec hin (mt hgood.1 h)]
    exact (State.checkFails_failed (by simpa using hchange) hfall (by simpa using hphase) (by decide) (by decide) _ _).1

/-! ## CHECK (R171, R383, R386) -/

theorem State.length_mapRest (s : State) (l : List Nat) : (s.mapRest l).length = l.length := by
  refine foldl_keeps List.length _ _ l fun m v _ => ?_
  split
  · split
    · exact List.length_set
    · rfl
  · rfl

theorem length_foldl_append {α β : Type} (g : List α → β → α) (l : List β) (m : List α) :
    (l.foldl (fun m x => m ++ [g m x]) m).length = m.length + l.length := by
  induction l generalizing m with
  | nil => rfl
  | cons x r ih => simp [ih, Nat.add_assoc, Nat.add_comm 1]

theorem State.length_mapPreferred (s : State) (grid : List Byte) : (s.mapPreferred grid).length = 32 :=
  length_foldl_append _ (List.range 32) []

/-- The bytes of LDR_MAP and LDR_SETTLE, and the states of the power domains, lie below the array's registers. -/
theorem State.reg_setFld_of_lt (s : State) {f : Field} (n : Nat) {a : Nat} (h : f.addr < a) : (s.setFld f n).reg a = s.reg a :=
  State.reg_setFld_other _ _ _ _ (Nat.ne_of_gt h)

theorem State.reg_settleBytes (s : State) {a : Nat} (ha : 0x0C000000 ≤ a) : (s.settleBytes (List.range 32)).reg a = s.reg a := by
  rw [State.settleBytes]
  split
  · refine foldl_keeps (fun t => t.reg a) _ _ s fun t v hv => State.reg_setFld_of_lt t _ ?_
    have := List.mem_range.1 hv
    simp only [Reg.LDR_SETTLE]
    omega
  · rfl

theorem State.settleBytes_own (s : State) (vs : List Nat) : (s.settleBytes vs).own = s.own := by
  rw [State.settleBytes]
  split
  · exact foldl_keeps State.own _ _ s fun _ _ _ => rfl
  · rfl

/-- The virtual sori mapped in order. -/
theorem State.reg_foldl_setPhysOf (s : State) {m : List Nat} (hm : m.length = 32) {a : Nat} (ha : 0x0C000000 ≤ a) :
    (m.zipIdx.foldl (fun s p => s.setPhysOf p.2 p.1) s).reg a = s.reg a := by
  refine foldl_keeps (fun t => t.reg a) _ _ s fun t p hp => ?_
  refine (State.reg_setFld_of_lt _ _ ?_).trans (State.reg_congr rfl a)
  have := List.snd_lt_of_mem_zipIdx hp
  simp only [Reg.LDR_MAP]
  omega

theorem State.foldl_setPhysOf_own (s : State) (l : List (Nat × Nat)) :
    (l.foldl (fun s p => s.setPhysOf p.2 p.1) s).own.table = s.own.table ∧
      (l.foldl (fun s p => s.setPhysOf p.2 p.1) s).own.claims = s.own.claims := by
  refine ⟨foldl_keeps (fun t => t.own.table) _ l s ?_, foldl_keeps (fun t => t.own.claims) _ l s ?_⟩
  · exact fun _ _ _ => rfl
  · exact fun _ _ _ => rfl

theorem State.foldl_setMapped_own (s : State) (b : Nat → Bool) (l : List Nat) :
    (l.foldl (fun s n => s.setFlag (Fld.ARR_STATUS_MAPPED n) (b n)) s).own = s.own :=
  foldl_keeps State.own _ l s fun t n _ => State.setFlag_own t (Fld.ARR_STATUS_MAPPED n) (b n)

/-- The mapping leaves the ownership table and the claims. -/
theorem State.mapSori_own (s : State) (m : List Nat) :
    (s.mapSori m).own.table = s.own.table ∧ (s.mapSori m).own.claims = s.own.claims := by
  rw [State.mapSori, State.settleBytes_own]
  have h := State.foldl_setPhysOf_own
    ((List.range 34).foldl (fun s n => s.setFlag (Fld.ARR_STATUS_MAPPED n) (m.contains n)) s) m.zipIdx
  rwa [State.foldl_setMapped_own] at h

/-- MAPPED as a fold over the sori gives it. -/
theorem State.flag_foldl_setMapped (s : State) (b : Nat → Bool) {k n : Nat} (h : n < k) :
    ((List.range k).foldl (fun s n => s.setFlag (Fld.ARR_STATUS_MAPPED n) (b n)) s).flag (Fld.ARR_STATUS_MAPPED n) = b n := by
  induction k with
  | zero => exact absurd h (Nat.not_lt_zero n)
  | succ k ih =>
    rw [List.range_succ, List.foldl_append, List.foldl_cons, List.foldl_nil]
    by_cases e : n = k
    · subst e
      exact State.flag_setFlag_same _ _ _ rfl rfl
    · rw [State.flag_setFlag_apart _ _ _ _ rfl (Or.inl (by simp only [Reg.ARR_STATUS]; omega))]
      exact ih (by omega)

theorem State.mapSori_mapped (s : State) {m : List Nat} (hm : m.length = 32) {n : Nat} (hn : n < 34) :
    (s.mapSori m).flag (Fld.ARR_STATUS_MAPPED n) = m.contains n := by
  have ha : 0x0C000000 ≤ Reg.ARR_STATUS n := by simp only [Reg.ARR_STATUS]; omega
  rw [State.mapSori, State.flag, State.fld, State.reg_settleBytes _ ha, State.reg_foldl_setPhysOf _ hm ha]
  exact State.flag_foldl_setMapped s _ hn

theorem State.reg_mapSori (s : State) {m : List Nat} (hm : m.length = 32) {a : Nat} (ha : a = Reg.SEQ_CFG ∨ a = Reg.SEQ_CFG1) :
    (s.mapSori m).reg a = s.reg a := by
  have hhigh : 0x0C000000 ≤ a := by rcases ha with rfl | rfl <;> decide
  rw [State.mapSori, State.reg_settleBytes _ hhigh, State.reg_foldl_setPhysOf _ hm hhigh]
  refine foldl_keeps (fun t => t.reg a) _ _ s fun t n _ => State.reg_setFlag_other _ _ _ _ ?_
  rcases ha with rfl | rfl <;> simp only [Reg.ARR_STATUS, Reg.SEQ_CFG, Reg.SEQ_CFG1, ne_eq] <;> omega

theorem State.wakeDomain_own (s : State) (d src idx : Nat) : (s.wakeDomain d src idx).own = s.own := by
  rw [State.wakeDomain]
  split
  · rfl
  · split <;> rfl

/-- A wake writes the state of its domain alone (R512). -/
theorem State.reg_wakeDomain (s : State) {d : Nat} (src idx : Nat) {a : Nat} (ha : a ≠ Reg.PWR_DSTAT d) :
    (s.wakeDomain d src idx).reg a = s.reg a := by
  rw [State.wakeDomain]
  split
  · rfl
  · split
    · exact ((State.reg_setFld_other _ _ _ _ ha).trans (State.reg_setFld_other _ _ _ _ ha)).trans (State.reg_setFld_other _ _ _ _ ha)
    · rfl

theorem State.wakeHolds_own (s : State) (mid : Nat) : (s.wakeHolds mid).own = s.own := by
  rw [State.wakeHolds]
  split
  · refine foldl_keeps State.own _ _ s fun t d _ => ?_
    split
    · exact State.wakeDomain_own ..
    · rfl
  · rfl

theorem State.reg_wakeHolds (s : State) (mid : Nat) {a : Nat} (ha : 0x0C000000 ≤ a) : (s.wakeHolds mid).reg a = s.reg a := by
  rw [State.wakeHolds]
  split
  · refine foldl_keeps (fun t => t.reg a) _ _ s fun t d hd => ?_
    have hne : a ≠ Reg.PWR_DSTAT d := by
      have := List.mem_range.1 hd
      simp only [Reg.PWR_DSTAT]
      omega
    split
    · exact State.reg_wakeDomain _ _ _ hne
    · rfl
  · rfl

/-- The level in force and the phase leave the array's registers and the ownership. -/
theorem State.reg_levelPhase (s : State) (lvl : Nat) (p : PowerSt) (phase : Nat) {a : Nat} (ha : 0x0C000000 ≤ a) :
    (({ s.levelInForce lvl with pwr := p } : State).setPhase phase).reg a = s.reg a := by
  refine (State.reg_setFld_of_lt _ _ (Nat.lt_of_lt_of_le (by decide) ha)).trans ?_
  exact State.reg_setFld_of_lt { s with pwr := _ } _ (Nat.lt_of_lt_of_le (by decide) ha)

theorem State.levelPhase_own (s : State) (lvl : Nat) (p : PowerSt) (phase : Nat) :
    (({ s.levelInForce lvl with pwr := p } : State).setPhase phase).own = s.own := rfl

/-- What CHECK leaves: the ownership table, no claims, the sequencer's configuration and the mapping. -/
theorem State.checkPassed_spec (s t : State) {m : List Nat} (hm : m.length = 32) (own seqb : List Byte)
    (ht : t = (s.checkPassed m own seqb).setPhase 5) :
    t.ldr.phase = 5 ∧ t.own.table = ownEntriesOf own ∧ t.own.claims = [] ∧ t.reg Reg.SEQ_CFG = (Config.seqSection seqb).1 ∧
      t.reg Reg.SEQ_CFG1 = (Config.seqSection seqb).2.1 ∧ (∀ n < 34, t.flag (Fld.ARR_STATUS_MAPPED n) = m.contains n) := by
  let x : State := { s with
    own := { s.own with table := ownEntriesOf own, claims := [] },
    seq := { s.seq with parent := (Config.seqSection seqb).2.2.1, children := (Config.seqSection seqb).2.2.2 } }
  let y : State := (x.setReg Reg.SEQ_CFG (Config.seqSection seqb).1).setReg Reg.SEQ_CFG1 (Config.seqSection seqb).2.1
  have hcfg : y.reg Reg.SEQ_CFG = (Config.seqSection seqb).1 :=
    (State.reg_setReg_other _ _ (by decide)).trans (State.reg_setReg_same _ _ _)
  have hcfg1 : y.reg Reg.SEQ_CFG1 = (Config.seqSection seqb).2.1 := State.reg_setReg_same _ _ _
  have htable : (y.mapSori m).own.table = ownEntriesOf own := (y.mapSori_own m).1
  have hclaims : (y.mapSori m).own.claims = [] := (y.mapSori_own m).2
  have hregs := @State.reg_mapSori y m hm
  have hmapped := @State.mapSori_mapped y m hm
  have hown : t.own = (y.mapSori m).own := by
    rw [ht]
    exact (State.levelPhase_own _ _ _ 5).trans (State.wakeHolds_own _ _)
  have hreg {a : Nat} (ha : 0x0C000000 ≤ a) : t.reg a = (y.mapSori m).reg a := by
    rw [ht]
    exact (State.reg_levelPhase _ _ _ 5 ha).trans (State.reg_wakeHolds (y.mapSori m) 0x10 ha)
  have hphase : t.ldr.phase = 5 := by rw [ht]; rfl
  clear_value y
  refine ⟨hphase, ?_, ?_, ?_, ?_, fun n hn => ?_⟩
  · rw [hown, htable]
  · rw [hown, hclaims]
  · rw [hreg (by decide), hregs (Or.inl rfl), hcfg]
  · rw [hreg (by decide), hregs (Or.inr rfl), hcfg1]
  · rw [State.flag, State.fld, hreg (by simp only [Reg.ARR_STATUS]; omega)]
    exact hmapped hn

/-- The statuses of an ownership section that fails (R170, R171). -/
theorem ownCheck_code {b : List Byte} {c : Nat} (h : ownCheck b = some c) : c = 0x0B ∨ c = 0x0C := by
  rw [ownCheck] at h
  split at h
  · exact Or.inl (Option.some.inj h).symm
  · split at h
    · exact Or.inr (Option.some.inj h).symm
    · cases h

section
variable {s : State} {x g o : ImgSection} {i k j : Nat} (hx : s.ownSection 2 = some (x, i)) (hg : s.ownSection 3 = some (g, k))
  (ho : s.ownSection 4 = some (o, j)) (hxin : s.sectionIn x = true) (hgin : s.sectionIn g = true) (hoin : s.sectionIn o = true)
  (hmap : (s.mapRest (s.mapPreferred (s.sectionBytes g))).contains 0xFF = false)
  (hseq : s.seqCheck (Config.seqSection (s.sectionBytes x)).1 = none)
include hx hg ho hxin hgin hoin hmap hseq

theorem State.checkFull_passed (hown : ownCheck (s.sectionBytes o) = none) :
    s.checkFull =
      (s.checkPassed (s.mapRest (s.mapPreferred (s.sectionBytes g))) (s.sectionBytes o) (s.sectionBytes x)).setPhase 5 := by
  simp only [State.checkFull, hx, hg, ho, hxin, hgin, hoin, hmap, hseq, hown, Bool.and_self, Bool.not_true, Bool.false_eq_true, if_false]

theorem State.checkFull_failed {c : Nat} (hown : ownCheck (s.sectionBytes o) = some c) : s.checkFull = s.checkFails c j 0 := by
  simp only [State.checkFull, hx, hg, ho, hxin, hgin, hoin, hmap, hseq, hown, Bool.and_self, Bool.not_true, Bool.false_eq_true, if_false]

end

section
variable {s : State} {bytes : List Byte} (hchange : s.ldr.change = none) (hpaused : s.ldr.paused = false) (hphase : s.ldr.phase = 4)
  {x g o : ImgSection} {i k j : Nat} (hx : (s.takeStream bytes).ownSection 2 = some (x, i))
  (hg : (s.takeStream bytes).ownSection 3 = some (g, k)) (ho : (s.takeStream bytes).ownSection 4 = some (o, j))
  (hxin : (s.takeStream bytes).sectionIn x = true) (hgin : (s.takeStream bytes).sectionIn g = true)
  (hoin : (s.takeStream bytes).sectionIn o = true)
include hchange hpaused hphase hx hg ho hxin hgin hoin

theorem checkPhase_completes :
    let u := s.takeStream bytes
    let m := u.mapRest (u.mapPreferred (u.sectionBytes g))
    let q := Config.seqSection (u.sectionBytes x)
    m.contains 0xFF = false →
    (ownCheck (u.sectionBytes o) = none → Completes (.checkPhase bytes) s fun t => u.seqCheck q.1 = none →
      t.ldr.phase = 5 ∧ t.own.table = ownEntriesOf (u.sectionBytes o) ∧ t.own.claims = [] ∧ t.reg Reg.SEQ_CFG = q.1 ∧
      t.reg Reg.SEQ_CFG1 = q.2.1 ∧ (∀ n < 34, t.flag (Fld.ARR_STATUS_MAPPED n) = m.contains n)) ∧
    (∀ c, ownCheck (u.sectionBytes o) = some c → u.fallbackSlot = none → Completes (.checkPhase bytes) s fun t =>
      u.seqCheck q.1 = none → t.CheckFailed 4 c) := by
  intro u m q hmap
  have hu : u.ldr.change = none := by simpa [u] using hchange
  have hrun {P : State → Prop} (hP : P u.checkFull) : Completes (.checkPhase bytes) s P := by
    refine completes_phase rfl hchange hpaused hphase ?_
    change P (match u.ldr.change with
      | some c => u.checkPartial c
      | none => u.checkFull)
    rw [hu]
    exact hP
  refine ⟨fun hown => hrun fun hseq => ?_, fun c hown hfall => hrun fun hseq => ?_⟩
  · rw [State.checkFull_passed hx hg ho hxin hgin hoin hmap hseq hown]
    have hm : m.length = 32 := (State.length_mapRest _ _).trans (State.length_mapPreferred _ _)
    exact State.checkPassed_spec u _ hm (u.sectionBytes o) (u.sectionBytes x) rfl
  · rw [State.checkFull_failed hx hg ho hxin hgin hoin hmap hseq hown]
    refine (State.checkFails_failed hu hfall (by simpa [u] using hphase) (by decide) ?_ _ _).1
    rcases ownCheck_code hown with rfl | rfl <;> decide

end

end Sys2Proof.Machine

/-! PROOFS.  The loader's phase HBM (R153, R339, R340, R380). -/

namespace Sys2Proof.Machine

/-! ## HBM (R171, R339, R340, R380) -/

theorem Sparse.find_filter {α : Type} (p : Nat × α → Bool) (l : List (Nat × α)) {k : Nat} (h : ∀ v, p (k, v) = true) :
    Sparse.find (l.filter p) k = Sparse.find l k := by
  induction l with
  | nil => rfl
  | cons e r ih =>
    obtain ⟨a, v⟩ := e
    by_cases hk : a = k
    · subst hk
      simp [h, Sparse.find]
    · by_cases hp : p (a, v) = true <;> simp [hp, Sparse.find, hk, ih]

/-- Registers left out of a list of pairs leave the others. -/
theorem State.reg_filter (s : State) (p : Nat × Word32 → Bool) {a : Nat} (h : ∀ v, p (a, v) = true) :
    ({ s with regs := s.regs.filter p } : State).reg a = s.reg a :=
  congrArg (fun o => o.getD (Reg.resetOf a)) (Sparse.find_filter p s.regs h)

theorem State.hbmRun_trains {s : State} {x : ImgSection} {i : Nat} (hsec : s.ownSection 5 = some (x, i)) (hin : s.sectionIn x = true)
    (hgood : s.hbmBad (s.sectionBytes x) = false)
    (howned : (rgnEntries (s.sectionBytes x)).zipIdx.any (fun p => p.1.en && !s.rgnOwned p.2 p.1) = false) :
    let s2 := ((s.setFlag Fld.HBM_STATUS_READY false).wakeDomain 70 3 0x10).wakeDomain 71 3 0x10
    s.hbmRun = { s2 with ldr := { s2.ldr with training := true, paused := s.ldr.src == 0 } } := by
  simp only [State.hbmRun, hsec, hin, hgood, howned, Bool.not_true, Bool.false_eq_true, if_false]

theorem hbmPhase_completes {s : State} {bytes : List Byte} (hchange : s.ldr.change = none) (hpaused : s.ldr.paused = false)
    (hphase : s.ldr.phase = 5) (htraining : s.ldr.training = false) {x : ImgSection} {i : Nat}
    (hsec : (s.takeStream bytes).ownSection 5 = some (x, i)) (hin : (s.takeStream bytes).sectionIn x = true)
    (hgood : (s.takeStream bytes).hbmBad ((s.takeStream bytes).sectionBytes x) = false)
    (howned : (rgnEntries ((s.takeStream bytes).sectionBytes x)).zipIdx.any
      (fun p => p.1.en && !(s.takeStream bytes).rgnOwned p.2 p.1) = false) :
    Completes (.hbmPhase bytes) s fun t =>
      t.ldr.training = true ∧ t.flag Fld.HBM_STATUS_READY = false ∧ t.ldr.paused = (s.ldr.src == 0) := by
  have hstage : s.loadStage = 5 := (State.loadStage_of_no_change hchange).trans hphase
  refine ⟨_, congrArg Host.Outcome.next (if_pos ⟨hstage, htraining⟩), ?_⟩
  rw [State.phaseOn, hpaused, if_neg Bool.false_ne_true, State.hbmRun_trains hsec hin hgood howned]
  refine ⟨rfl, ?_, congrArg (· == 0) (s.takeStream_src bytes)⟩
  refine (State.flag_of_reg ?_).trans (State.flag_setFlag_same (s.takeStream bytes) Fld.HBM_STATUS_READY false rfl rfl)
  exact (State.reg_wakeDomain _ 3 0x10 (by decide)).trans (State.reg_wakeDomain _ 3 0x10 (by decide))

/-- HBM_STATUS lies below the region table, the issue entries and the quiet windows. -/
theorem State.reg_setFld_of_gt (s : State) {f : Field} (n : Nat) {a : Nat} (h : a < f.addr) : (s.setFld f n).reg a = s.reg a :=
  State.reg_setFld_other _ _ _ _ (Nat.ne_of_lt h)

theorem State.reg_setReg_of_gt (s : State) {b : Nat} (v : Word32) {a : Nat} (h : a < b) : (s.setReg b v).reg a = s.reg a :=
  State.reg_setReg_other _ _ (Nat.ne_of_lt h)

theorem State.reg_rgnWrite (s : State) (r : Nat) (e : RgnEntry) {a : Nat} (h : a < 0x7001000) : (s.rgnWrite r e).reg a = s.reg a := by
  have hlt {c : Nat} (hc : 0x7001000 ≤ c) : a < c + r * 0x20 := Nat.lt_of_lt_of_le h (Nat.le_trans hc (Nat.le_add_right _ _))
  unfold State.rgnWrite
  dsimp only
  rw [State.reg_setFld_of_gt _ _ (hlt (by decide)), State.reg_setFld_of_gt _ _ (hlt (by decide)),
    State.reg_setFld_of_gt _ _ (hlt (by decide)), State.setFlag, State.reg_setFld_of_gt _ _ (hlt (by decide)), State.setFlag,
    State.reg_setFld_of_gt _ _ (hlt (by decide)), State.reg_setFld_of_gt _ _ (hlt (by decide)),
    State.reg_setFld_of_gt _ _ (hlt (by decide)), State.reg_setReg_of_gt _ _ (hlt (by decide)),
    State.reg_setReg_of_gt _ _ (hlt (by decide))]

theorem State.reg_hbmTables (s : State) (b : List Byte) {a : Nat} (h : a < 0x7001000) : (s.hbmTables b).reg a = s.reg a := by
  unfold State.hbmTables
  dsimp only
  refine (State.reg_foldl _ _ _ fun t p => ?_).trans ((State.reg_foldl _ _ _ fun t p => ?_).trans
    ((State.reg_foldl _ _ _ fun t p => ?_).trans (State.reg_foldl _ _ _ fun t p => ?_)))
  · rw [State.reg_setReg_of_gt _ _ (by simp only [Reg.HBM_QUIET]; omega), State.reg_setReg_of_gt _ _ (by simp only [Reg.HBM_QUIET]; omega)]
  · split
    · rw [State.reg_setReg_of_gt _ _ (by simp only [Reg.HBM_ISSUE]; omega),
        State.reg_setReg_of_gt _ _ (by simp only [Reg.HBM_ISSUE]; omega)]
    · rfl
  · exact State.reg_setReg_of_gt _ _ (by omega)
  · exact State.reg_rgnWrite _ _ _ h

theorem State.keepGolden_eq (s : State) (off : Option Nat) (w : Word64) : ∃ h, s.keepGolden off w = { s with hbm := h } := by
  unfold State.keepGolden
  split
  · split
    · exact ⟨_, rfl⟩
    · exact ⟨s.hbm, rfl⟩
  · exact ⟨s.hbm, rfl⟩

theorem State.goldenLive_ldr (s : State) : s.goldenLive.ldr = s.ldr :=
  foldl_keeps State.ldr _ _ s fun t k _ => by
    obtain ⟨h, e⟩ := t.keepGolden_eq (some (passDev (135168 + 2 * k)).golden)
      ((t.passLive (passDev (135168 + 2 * k + 1))).1 ++ (t.passLive (passDev (135168 + 2 * k))).1)
    dsimp only
    rw [e]

theorem State.reg_goldenLive (s : State) (a : Nat) : s.goldenLive.reg a = s.reg a :=
  State.reg_foldl _ _ s fun t k => by
    obtain ⟨h, e⟩ := t.keepGolden_eq (some (passDev (135168 + 2 * k)).golden)
      ((t.passLive (passDev (135168 + 2 * k + 1))).1 ++ (t.passLive (passDev (135168 + 2 * k))).1)
    dsimp only
    rw [e]
    rfl

theorem State.reg_clearSorus (s : State) (n : Nat) {a : Nat} (h : a < 0x0C000000) : (s.clearSorus n).reg a = s.reg a := by
  unfold State.clearSorus
  dsimp only
  rw [State.reg_setFlag_other _ _ _ _ (by simp only [Reg.ARR_WIN_STAT]; omega)]
  exact State.reg_filter s _ fun v => by simp; omega

/-- The sori that are mapped, cleared. -/
def State.clearMapped (s : State) : State := (List.range 34).foldl (fun s n => if s.mapped n then s.clearSorus n else s) s

theorem State.reg_clearMapped (s : State) {a : Nat} (h : a < 0x0C000000) : s.clearMapped.reg a = s.reg a := by
  refine State.reg_foldl _ _ s fun t n => ?_
  split
  · exact State.reg_clearSorus t n h
  · rfl

theorem State.fillDevice_cases (s : State) : ∃ (x : State) (p : Nat × Word32 → Bool) (v : Word32),
    s.fillDevice = (x.setReg Reg.RZ_EPOCH v).goldenLive ∧ x.ldr.training = false ∧ x.regs = s.clearMapped.regs.filter p ∧ 
    ∀ w, p (Reg.HBM_STATUS, w) = true := by
  unfold State.fillDevice
  rw [← State.clearMapped]
  generalize s.clearMapped = y
  exact ⟨_, _, _, rfl, rfl, rfl, fun w => rfl⟩

theorem State.fillDevice_training (s : State) : s.fillDevice.ldr.training = false := by
  obtain ⟨x, p, v, e, htraining, -, -⟩ := s.fillDevice_cases
  rw [e, State.goldenLive_ldr, State.setReg_ldr, htraining]

/-- A full image that gives no content leaves HBM_STATUS (R153). -/
theorem State.reg_fillDevice (s : State) : s.fillDevice.reg Reg.HBM_STATUS = s.reg Reg.HBM_STATUS := by
  obtain ⟨x, p, v, e, -, hregs, hp⟩ := s.fillDevice_cases
  have hcleared : s.clearMapped.reg Reg.HBM_STATUS = s.reg Reg.HBM_STATUS := s.reg_clearMapped (by decide)
  rw [e, State.reg_goldenLive, State.reg_setReg_other _ _ (by decide), ← hcleared]
  generalize s.clearMapped = y at hregs
  exact (State.reg_congr (t := { y with regs := y.regs.filter p }) hregs _).trans (State.reg_filter y p hp)

/-- A section of this device is found by the section table and the device's straps. -/
theorem State.ownTag_congr {s t : State} (h : t.reg Reg.DEV_STRAPS = s.reg Reg.DEV_STRAPS) (tag : Nat) : t.ownTag tag = s.ownTag tag := by
  simp only [State.ownTag, State.fld, h]

theorem State.ownSection_congr {s t : State} (hldr : t.ldr.sections = s.ldr.sections)
    (hstraps : t.reg Reg.DEV_STRAPS = s.reg Reg.DEV_STRAPS) (kind : Nat) : t.ownSection kind = s.ownSection kind := by
  simp only [State.ownSection, hldr, State.ownTag_congr hstraps]

theorem State.reg_setPhase (s : State) (p : Nat) {a : Nat} (h : a ≠ Reg.LDR_STATUS) : (s.setPhase p).reg a = s.reg a :=
  (State.reg_setFld_other _ _ _ _ h).trans (State.reg_congr rfl a)

/-- The HBM phase ends: the tables written, the device filled, and FRAMES begins (R383). -/
def State.hbmTrained (s : State) (b : List Byte) : State := (((s.setFlag Fld.HBM_STATUS_READY true).hbmTables b).fillDevice).setPhase 6

theorem State.setPhase_training (s : State) (p : Nat) : (s.setPhase p).ldr.training = s.ldr.training := rfl

theorem State.hbmTrained_phase (s : State) (b : List Byte) : (s.hbmTrained b).ldr.phase = 6 :=
  congrArg LoaderSt.phase (State.setPhase_ldr _ 6)

theorem State.hbmTrained_training (s : State) (b : List Byte) : (s.hbmTrained b).ldr.training = false :=
  (State.setPhase_training _ 6).trans (State.fillDevice_training _)

theorem State.reg_hbmTrained (s : State) (b : List Byte) :
    (s.hbmTrained b).reg Reg.HBM_STATUS = (s.setFlag Fld.HBM_STATUS_READY true).reg Reg.HBM_STATUS :=
  ((State.reg_setPhase _ 6 (by decide)).trans (State.reg_fillDevice _)).trans (State.reg_hbmTables _ b (by decide))

theorem State.hbmTrained_ready (s : State) (b : List Byte) : (s.hbmTrained b).flag Fld.HBM_STATUS_READY = true :=
  (State.flag_of_reg (s.reg_hbmTrained b)).trans (State.flag_setFlag_same _ _ _ rfl rfl)

section
variable {s : State} (h70 : s.domState 70 = 0) (h71 : s.domState 71 = 0)
include h70 h71

theorem exec_phyTrainingDone_idle (h : s.ldr.training = false) :
    exec .phyTrainingDone s = .next (s.setFlag Fld.HBM_STATUS_READY true) := by
  refine congrArg Host.Outcome.next ((if_pos ⟨h70, h71⟩).trans ?_)
  exact if_neg (by rw [h]; exact Bool.false_ne_true)

theorem exec_phyTrainingDone_load {x : ImgSection} {i : Nat} (h : s.ldr.training = true) (hsec : s.ownSection 5 = some (x, i)) :
    exec .phyTrainingDone s =
      .next (s.hbmTrained ((s.setFlag Fld.HBM_STATUS_READY true).sectionBytes x)) := by
  refine congrArg Host.Outcome.next ((if_pos ⟨h70, h71⟩).trans ((if_pos h).trans ?_))
  have hsec' : (s.setFlag Fld.HBM_STATUS_READY true).ownSection 5 = some (x, i) :=
    (State.ownSection_congr (congrArg LoaderSt.sections (State.setFlag_ldr ..)) (State.reg_setFlag_other _ _ _ _ (by decide)) 5).trans hsec
  rw [hsec', State.hbmTrained]

theorem phyTrainingDone_completes :
    (s.ldr.training = false → Completes .phyTrainingDone s fun t =>
      t.flag Fld.HBM_STATUS_READY = true ∧ Only [Fld.HBM_STATUS_READY] s t) ∧
    (∀ x i, s.ldr.training = true → s.ownSection 5 = some (x, i) → Completes .phyTrainingDone s fun t =>
      t.flag Fld.HBM_STATUS_READY = true ∧ t.ldr.phase = 6 ∧ t.ldr.training = false) :=
  ⟨fun h => ⟨_, exec_phyTrainingDone_idle h70 h71 h, State.flag_setFlag_same _ _ _ rfl rfl,
      (Only.refl _ s).setFlag _ _ rfl List.mem_cons_self⟩,
    fun _ _ h hsec => ⟨_, exec_phyTrainingDone_load h70 h71 h hsec, State.hbmTrained_ready _ _, State.hbmTrained_phase _ _,
      State.hbmTrained_training _ _⟩⟩

end

theorem leaderPauseEnd_completes (s : State) (hpaused : s.ldr.paused = false) :
    Completes .leaderPauseEnd { s with ldr := { s.ldr with paused := true } } fun t => t = s := by
  refine ⟨_, rfl, ?_⟩
  rw [← hpaused]

/-- An address outside the loader's registers (R180). -/
def offLoader (a : Nat) : Prop := a < 0x2000000 ∨ 0x2010000 ≤ a

theorem sticky_offLoader {n : Nat} (hn : n < 512) : offLoader (Reg.EVT_STICKY (n / 32)) := by
  simp only [offLoader, Reg.EVT_STICKY]
  omega

/-- A load that falls back takes up the other image (R394). -/
def State.fallsBack (s : State) (i : Nat) : State :=
  let s1 := (s.beginStream 0 i).setPhase 2
  ({ s1 with ldr := { s1.ldr with fellBack := true, training := false } } : State).setFlag Fld.LDR_IMG_SRC_FALLBACK true

theorem State.fullFails_fallback {s : State} {i : Nat} (h : s.fallbackSlot = some i) (code : Status) :
    s.fullFails code = (s.fallsBack i).raiseBit Fld.LDR_STATUS_FALLBACK 414 := by
  rw [State.fullFails, h]
  rfl

theorem State.reg_fallsBack (s : State) (i : Nat) {a : Nat} (h : offLoader a) : (s.fallsBack i).reg a = s.reg a := by
  have hne {b : Nat} (hlow : 0x2000000 ≤ b) (hhigh : b < 0x2010000) : a ≠ b := by
    simp only [offLoader] at h
    omega
  unfold State.fallsBack
  rw [State.reg_setFlag_other _ _ _ _ (hne (by decide) (by decide))]
  refine (State.reg_congr rfl a).trans ((State.reg_setPhase _ 2 (hne (by decide) (by decide))).trans ?_)
  rw [State.beginStream, State.reg_setReg_other _ _ (hne (by decide) (by decide)),
    State.reg_setReg_other _ _ (hne (by decide) (by decide))]
  exact State.reg_congr rfl a

/-- A load that fails, or falls back, leaves what lies outside the loader. -/
theorem State.fld_fullFails (s : State) (code : Status) {f : Field} (hsafe : eventSafe f = true) (hoff : offLoader f.addr) :
    (s.fullFails code).fld f = s.fld f := by
  have hne {b : Nat} (hlow : 0x2000000 ≤ b) (hhigh : b < 0x2010000) : f.addr ≠ b := by
    simp only [offLoader] at hoff
    omega
  cases hslot : s.fallbackSlot with
  | none =>
    refine (State.fullFails_failed hslot code).fld_eq hsafe (failFields_addr (a := f.addr) ?_ rfl)
    simp only [List.mem_cons, List.not_mem_nil, or_false, not_or]
    exact ⟨hne (by decide) (by decide), hne (by decide) (by decide), hne (by decide) (by decide)⟩
  | some i =>
    rw [State.fullFails_fallback hslot, State.fld_raiseBit_apart _ _ _ (by decide) hsafe rfl
      (Or.inl (hne (by decide) (by decide)).symm), State.fld, State.reg_fallsBack s i hoff, State.fld]

theorem State.sticky_fullFails {s : State} (code : Status) {n : Nat} (hn : n < 512) (h : s.sticky n = true) :
    (s.fullFails code).sticky n = true := by
  cases hslot : s.fallbackSlot with
  | none =>
    obtain ⟨-, -, -, -, -, -, -, hkeep, -⟩ := State.fullFails_failed hslot code
    exact hkeep n hn h
  | some i =>
    rw [State.fullFails_fallback hslot]
    refine State.sticky_raise_keep _ _ hn ?_
    refine (State.sticky_congr n ?_).trans h
    rw [State.reg_setFlag_other _ _ _ _ (by simp only [Reg.EVT_STICKY, Reg.LDR_STATUS, ne_eq]; omega)]
    exact State.reg_fallsBack s i (sticky_offLoader hn)

theorem trainFail_completes (s : State) :
    Completes .trainFail s fun t =>
      t.flag Fld.HBM_STATUS_TRAIN_FAIL = true ∧ t.sticky 378 = true ∧
      (s.ldr.training = false → OnlyEv [Fld.HBM_STATUS_TRAIN_FAIL] s t) ∧
      (s.ldr.training = true → s.fallbackSlot = none → t.ldr.phase = 11 ∧ t.fld Fld.LDR_FAIL_CODE = Code.hbmNotReady.toNat) := by
  have hflag : (s.raiseBit Fld.HBM_STATUS_TRAIN_FAIL 378).flag Fld.HBM_STATUS_TRAIN_FAIL = true :=
    State.flag_raiseBit_same s _ (by decide) (by decide) rfl rfl
  have hsticky : (s.raiseBit Fld.HBM_STATUS_TRAIN_FAIL 378).sticky 378 = true := State.sticky_raiseBit_same s _ _ (by decide)
  refine ⟨_, rfl, ?_⟩
  by_cases htraining : s.ldr.training = true
  · rw [if_pos htraining]
    refine ⟨?_, State.sticky_fullFails _ (by decide) hsticky, fun h => ?_, fun _ hfall => ?_⟩
    · rw [State.flag, State.fld_fullFails _ _ (by decide) (Or.inr (by decide))]
      exact hflag
    · exact absurd (htraining.symm.trans h) Bool.noConfusion
    · have hslot : (s.raiseBit Fld.HBM_STATUS_TRAIN_FAIL 378).fallbackSlot = none :=
        (State.fallbackSlot_congr (State.raiseBit_ldr ..) (State.fld_raiseBit_apart _ _ _ (by decide) (by decide) rfl
          (by simp [Field.apart]))).trans hfall
      obtain ⟨hphase, -, -, hcode, -⟩ := State.fullFails_failed hslot Code.hbmNotReady
      exact ⟨hphase, hcode⟩
  · rw [if_neg htraining]
    exact ⟨hflag, hsticky, fun _ => (OnlyEv.refl _ s).raiseBit _ _ rfl List.mem_cons_self (by decide),
      fun h => absurd h htraining⟩

end Sys2Proof.Machine

/-! PROOFS.  The loader's phase VERIFY (R387, R411, R414). -/

namespace Sys2Proof.Machine

/-! ## A digest in a file of registers -/

theorem length_keccakRound (a : List Word64) (rc : Word64) : (keccakRound a rc).length = 25 := by
  unfold keccakRound
  dsimp only
  split
  next x r h => exact (congrArg List.length h).symm.trans (by rw [List.length_map, List.length_range])
  next h => exact (congrArg List.length h).symm.trans (by rw [List.length_map, List.length_range])

theorem length_keccakF {a : List Word64} (h : a.length = 25) : (keccakF a).length = 25 := by
  suffices ∀ l : List Word64, (l.foldl keccakRound a).length = 25 from this keccakRc
  intro l
  induction l generalizing a with
  | nil => exact h
  | cons rc r ih => exact ih (length_keccakRound a rc)

theorem length_shakeBlocks {a : List Word64} (h : a.length = 25) (l : List Byte) (n : Nat) : (shakeBlocks a l n).length = 25 := by
  induction n generalizing a l with
  | zero => exact h
  | succ n ih => exact ih (length_keccakF (by rw [List.length_map, List.length_range])) _

theorem length_digest64 (l : List Byte) : (digest64 l).length = 64 := by
  unfold digest64 shake256
  dsimp only
  have h := length_shakeBlocks (a := List.replicate 25 0) List.length_replicate (l ++ shakePad l.length)
    ((l ++ shakePad l.length).length / 136)
  generalize shakeBlocks _ _ _ = a at h
  have hb : ∀ w : Word64, (bytesOfNat 8 w.toNat).length = 8 := fun w => by rw [bytesOfNat, List.length_map, List.length_range]
  rw [List.length_take, List.length_flatMap, List.map_congr_left fun w _ => hb w, List.map_const', List.sum_replicate, List.length_take, h]
  decide

theorem bytesOf32_natOfBytes {l : List Byte} (h : l.length = 4) : bytesOf32 (BitVec.ofNat 32 (natOfBytes l)) = l := by
  obtain ⟨a, b, c, d, rfl⟩ : ∃ a b c d, l = [a, b, c, d] := by
    match l, h with
    | [a, b, c, d], _ => exact ⟨a, b, c, d, rfl⟩
  have ha := a.isLt
  have hb := b.isLt
  have hc := c.isLt
  have hd := d.isLt
  simp only [bytesOf32, natOfBytes, show List.range 4 = [0, 1, 2, 3] from rfl, List.map_cons, List.map_nil, BitVec.toNat_ofNat,
    Nat.shiftRight_eq_div_pow, Nat.reduceMul, Nat.reducePow, List.cons.injEq, and_true]
  refine ⟨BitVec.eq_of_toNat_eq ?_, BitVec.eq_of_toNat_eq ?_, BitVec.eq_of_toNat_eq ?_, BitVec.eq_of_toNat_eq ?_⟩ <;>
    rw [BitVec.toNat_ofNat] <;> omega

/-- A word of a file of registers that was written in order. -/
theorem State.reg_foldl_words (s : State) (a : Nat) (val : Nat → Word32) {k j : Nat} (h : j < k) :
    ((List.range k).foldl (fun s j => s.setReg (a + 4 * j) (val j)) s).reg (a + 4 * j) = val j := by
  induction k with
  | zero => exact absurd h (Nat.not_lt_zero j)
  | succ k ih =>
    rw [List.range_succ, List.foldl_append, List.foldl_cons, List.foldl_nil]
    by_cases e : j = k
    · subst e
      exact State.reg_setReg_same _ _ _
    · rw [State.reg_setReg_other _ _ (by omega)]
      exact ih (by omega)

theorem flatMap_pieces (l : List Byte) (n k : Nat) (h : l.length = n * k) :
    (List.range k).flatMap (fun j => (l.drop (n * j)).take n) = l := by
  suffices ∀ m, (List.range m).flatMap (fun j => (l.drop (n * j)).take n) = l.take (n * m) from
    (this k).trans (List.take_of_length_le (Nat.le_of_eq h))
  intro m
  induction m with
  | zero => rfl
  | succ m ih => rw [List.range_succ, List.flatMap_append, ih, List.flatMap_singleton, Nat.mul_succ, List.take_add]

/-- Bytes put into registers read back. -/
theorem State.regBytes_setRegBytes (s : State) (a : Nat) {l : List Byte} {n : Nat} (h : l.length = 4 * n) :
    (s.setRegBytes a l).regBytes a n = l := by
  have hn : (l.length + 3) / 4 = n := by omega
  refine Eq.trans ?_ (flatMap_pieces l 4 n h)
  rw [State.regBytes, State.getRegs, List.flatMap_map]
  refine List.flatMap_congr fun j hj => ?_
  have hj := List.mem_range.1 hj
  rw [State.setRegBytes, hn, State.reg_foldl_words s a _ hj]
  exact bytesOf32_natOfBytes (by rw [List.length_take, List.length_drop]; omega)

/-! ## VERIFY (R387, R389, R414) -/

theorem State.regBytes_congr {s t : State} {a n : Nat} (h : ∀ j < n, t.reg (a + 4 * j) = s.reg (a + 4 * j)) :
    t.regBytes a n = s.regBytes a n := by
  simp only [State.regBytes, State.getRegs]
  exact congrArg (List.flatMap bytesOf32) (List.map_congr_left fun j hj => h j (List.mem_range.1 hj))

theorem State.reg_recordFolios (s : State) (a : Nat) : s.recordFolios.reg a = s.reg a := State.reg_congr rfl a

/-- The source of an image recorded (R387). -/
def State.recordSource (s : State) (src index slot : Nat) (fellBack : Bool) : State :=
  (((s.setFld Fld.LDR_IMG_SRC_SRC src).setFld Fld.LDR_IMG_SRC_INDEX index).setFld Fld.LDR_IMG_SRC_SLOT slot).setFlag
    Fld.LDR_IMG_SRC_FALLBACK fellBack

theorem State.reg_recordSource (s : State) (src index slot : Nat) (fellBack : Bool) {a : Nat} (h : a ≠ Reg.LDR_IMG_SRC) :
    (s.recordSource src index slot fellBack).reg a = s.reg a :=
  (State.reg_setFlag_other _ _ _ _ h).trans ((State.reg_setFld_other _ _ _ _ h).trans ((State.reg_setFld_other _ _ _ _ h).trans
    (State.reg_setFld_other _ _ _ _ h)))

theorem State.fld_recordSource (s : State) (src index slot : Nat) (fellBack : Bool) :
    (s.recordSource src index slot fellBack).fld Fld.LDR_IMG_SRC_SRC = src % 2 ^ Fld.LDR_IMG_SRC_SRC.width := by
  rw [State.recordSource, State.fld_setFlag_apart _ _ _ _ rfl (by simp [Field.apart]),
    State.fld_setFld_apart _ _ _ _ rfl (by simp [Field.apart]), State.fld_setFld_apart _ _ _ _ rfl (by simp [Field.apart]),
    State.fld_setFld_same _ _ _ rfl]

section
variable (s : State) (identity block : List Byte)

/-- VERIFY writes the identity, extends the measurement, records the source, and puts the program in place (R387). -/
theorem State.verified_cases : ∃ (index slot : Nat) (sec : SecSt) (l : LoaderSt),
    s.verified identity block = (({ (((s.setRegBytes (Reg.LDR_ID 0) identity).extendMr 2 identity).recordFolios.recordSource
      s.ldr.src index slot s.ldr.fellBack) with sec := sec, ldr := l } : State).setRun).setPhase 8 ∧
    sec.img = some (numAt block 4 1, numAt s.ldr.image 0x18 1) ∧ l.prog = s.imageProg ∧ l.progAt = 0 := by
  unfold State.verified
  exact ⟨_, _, _, _, rfl, rfl, rfl, rfl⟩

theorem State.verified_ldr : (s.verified identity block).ldr.phase = 8 ∧ (s.verified identity block).ldr.prog = s.imageProg ∧
    (s.verified identity block).ldr.progAt = 0 := by
  obtain ⟨index, slot, sec, l, e, -, hprog, hat⟩ := s.verified_cases identity block
  rw [e]
  exact ⟨rfl, hprog, hat⟩

theorem State.verified_sec : (s.verified identity block).sec.img = some (numAt block 4 1, numAt s.ldr.image 0x18 1) := by
  obtain ⟨index, slot, sec, l, e, himg, -⟩ := s.verified_cases identity block
  rw [e]
  exact himg

theorem State.reg_setRun (s : State) {a : Nat} (h : a ≠ Reg.SEC_RUN) : s.setRun.reg a = s.reg a := State.reg_setReg_other _ _ h

theorem State.reg_withSecLdr (s : State) (sec : SecSt) (l : LoaderSt) (a : Nat) :
    ({ s with sec := sec, ldr := l } : State).reg a = s.reg a := State.reg_congr rfl a

theorem State.reg_verified {a : Nat} (hsrc : a ≠ Reg.LDR_IMG_SRC) (hrun : a ≠ Reg.SEC_RUN) (hstatus : a ≠ Reg.LDR_STATUS) :
    (s.verified identity block).reg a = ((s.setRegBytes (Reg.LDR_ID 0) identity).extendMr 2 identity).reg a := by
  obtain ⟨index, slot, sec, l, e, -⟩ := s.verified_cases identity block
  rw [e, State.reg_setPhase _ _ hstatus, State.reg_setRun _ hrun, State.reg_withSecLdr, State.reg_recordSource _ _ _ _ _ hsrc,
    State.reg_recordFolios]

theorem State.verified_src : (s.verified identity block).fld Fld.LDR_IMG_SRC_SRC = s.ldr.src % 2 ^ Fld.LDR_IMG_SRC_SRC.width := by
  obtain ⟨index, slot, sec, l, e, -⟩ := s.verified_cases identity block
  rw [e, State.fld_setPhase _ _ (by decide), State.fld, State.reg_setRun _ (by decide), State.reg_withSecLdr, ← State.fld,
    State.fld_recordSource]

theorem State.verified_id (h : identity.length = 64) : (s.verified identity block).regBytes (Reg.LDR_ID 0) 16 = identity := by
  refine (State.regBytes_congr fun j hj => ?_).trans (s.regBytes_setRegBytes (Reg.LDR_ID 0) (n := 16) h)
  have hne {b : Nat} (hb : b < 0x2000100 ∨ 0x2000140 ≤ b) : Reg.LDR_ID 0 + 4 * j ≠ b := by
    simp only [Reg.LDR_ID]
    omega
  rw [State.reg_verified _ _ _ (hne (by decide)) (hne (by decide)) (hne (by decide)), State.reg_extendMr_other _ _ (Or.inl ?_)]
  simp only [Reg.LDR_ID, Reg.SEC_MR]
  omega

end

theorem ite_lt_of_lt {c : Prop} [Decidable c] {a b n : Nat} (ha : a < n) (hb : b < n) : (if c then a else b) < n := by
  split
  · exact ha
  · exact hb

/-- The steps of R414 are six. -/
theorem sigStep_lt (s : State) (fw : Bool) (msg : List Byte) (version : Nat) (block : List Byte) : s.sigStep fw msg version block < 8 :=
  ite_lt_of_lt (by decide) (ite_lt_of_lt (by decide) (ite_lt_of_lt (by decide) (ite_lt_of_lt (by decide)
    (ite_lt_of_lt (by decide) (ite_lt_of_lt (by decide) (by decide))))))

/-- A full load whose signature block fails at a step (R414). -/
theorem State.sigFailed_fails {s : State} (hchange : s.ldr.change = none) (hfall : s.fallbackSlot = none) {step : Nat} (hstep : step < 8) :
    let t := (s.sigFailed step).loadFails (sigCode step)
    t.ldr.phase = 11 ∧ t.fld Fld.SEC_STATUS_FAIL_STEP = step ∧ t.fld Fld.LDR_FAIL_CODE = (sigCode step).toNat ∧
      t.sticky 408 = true ∧ t.sticky (if step = 6 then 417 else 416) = true := by
  intro t
  obtain ⟨f, n, e, haddr, hapart, hfits, hn, hnum⟩ : ∃ f n,
      s.sigFailed step = (s.setFld Fld.SEC_STATUS_FAIL_STEP step).raiseBit f n ∧ f.addr = Reg.SEC_STATUS ∧
      f.apart Fld.SEC_STATUS_FAIL_STEP ∧ f.fits = true ∧ n < 512 ∧ n = if step = 6 then 417 else 416 := by
    unfold State.sigFailed
    by_cases h : step = 6
    · exact ⟨Fld.SEC_STATUS_ROLLBACK, 417, if_pos h, rfl, by simp [Field.apart], rfl, by decide, (if_pos h).symm⟩
    · exact ⟨Fld.SEC_STATUS_SIG_FAIL, 416, if_neg h, rfl, by simp [Field.apart], rfl, by decide, (if_neg h).symm⟩
  have hldr : (s.sigFailed step).ldr = s.ldr := by
    rw [e, State.raiseBit_ldr, State.setFld_ldr]
  have hrole : (s.sigFailed step).fld Fld.LDR_XSPI_ROLE = s.fld Fld.LDR_XSPI_ROLE := by
    rw [e, State.fld_raiseBit_apart _ _ _ hn (by decide) hfits (Or.inl (by rw [haddr]; decide)),
      State.fld_setFld_apart _ _ _ _ rfl (by simp [Field.apart])]
  have hfailed : (s.sigFailed step).LoadFailed (sigCode step) t := by
    rw [show t = (s.sigFailed step).fullFails (sigCode step) from State.loadFails_of_no_change (hldr ▸ hchange) _]
    exact State.fullFails_failed ((State.fallbackSlot_congr hldr hrole).trans hfall) _
  have hkept : t.fld Fld.SEC_STATUS_FAIL_STEP = step := by
    rw [hfailed.fld_eq (by decide) (failFields_addr (by decide) rfl), e,
      State.fld_raiseBit_apart _ _ _ hn (by decide) hfits hapart, State.fld_setFld_same _ _ _ rfl]
    exact Nat.mod_eq_of_lt hstep
  obtain ⟨hphase, -, -, hcode, h408, -, -, hsticky, -⟩ := hfailed
  exact ⟨hphase, hkept, hcode, h408, hnum ▸ hsticky n hn (e ▸ State.sticky_raiseBit_same _ f n hn)⟩

section
variable {s : State} {bytes : List Byte} (hchange : s.ldr.change = none) (hpaused : s.ldr.paused = false) (hphase : s.ldr.phase = 7)
include hchange hpaused hphase

theorem verifyPhase_completes (hin : (s.takeStream bytes).imageIn = true) (hstart : (s.takeStream bytes).startCheck true = none) :
    let u := s.takeStream bytes
    let img := u.ldr.image
    let p := u.signed
    let step := u.sigStep false (digest64 p.1) (numAt img 0x18 1) p.2
    u.fallbackSlot = none → Completes (.verifyPhase bytes) s fun t =>
      (step = 0 → t.ldr.phase = 8 ∧ t.ldr.prog = u.imageProg ∧ t.ldr.progAt = 0 ∧ t.regBytes (Reg.LDR_ID 0) 16 = digest64 p.1 ∧
        t.sec.img = some (numAt p.2 4 1, numAt img 0x18 1) ∧ t.fld Fld.LDR_IMG_SRC_SRC = s.ldr.src % 2 ^ Fld.LDR_IMG_SRC_SRC.width) ∧
      (step ≠ 0 → t.ldr.phase = 11 ∧ t.fld Fld.SEC_STATUS_FAIL_STEP = step ∧ t.fld Fld.LDR_FAIL_CODE = (sigCode step).toNat ∧
        t.sticky 408 = true ∧ t.sticky (if step = 6 then 417 else 416) = true) := by
  intro u img p step hfall
  have hu : u.ldr.change = none := by simpa [u] using hchange
  have hrun : u.verifyRun = if step ≠ 0 then (u.sigFailed step).loadFails (sigCode step) else u.verified (digest64 p.1) p.2 := by
    have hstart' : u.startCheck u.ldr.change.isNone = none := by rw [hu]; exact hstart
    unfold State.verifyRun
    rw [if_neg (by rw [hin]; exact Bool.false_ne_true), hstart', hu]
  refine completes_phase rfl hchange hpaused hphase ⟨fun h => ?_, fun h => ?_⟩
  · rw [hrun, if_neg (not_not.2 h)]
    obtain ⟨h8, hprog, hat⟩ := u.verified_ldr (digest64 p.1) p.2
    refine ⟨h8, hprog, hat, u.verified_id _ _ (length_digest64 _), u.verified_sec _ _, ?_⟩
    rw [State.verified_src, State.takeStream_src]
  · rw [hrun, if_pos h]
    exact State.sigFailed_fails hu hfall (sigStep_lt ..)

end

end Sys2Proof.Machine

/-! PROOFS.  The loader's phase FRAMES (R165 to R167, R385). -/

namespace Sys2Proof.Machine

/-! ## What the units of a frame leave (R166, R385)

The loader finds the section of the next frame by its section table, its place in the image, the change under way and the device's
straps.  No unit of a frame writes any of them. -/

/-- What decides the section of the next frame. -/
def State.frameView (s : State) : List ImgSection × Nat × Option Change × Word32 :=
  (s.ldr.sections, s.ldr.pos, s.ldr.change, s.reg Reg.DEV_STRAPS)

section
variable (s : State)

theorem State.frameView_congr {s t : State} (hldr : t.ldr = s.ldr) (hregs : t.regs = s.regs) : t.frameView = s.frameView := by
  rw [State.frameView, State.frameView, hldr, State.reg_congr hregs]

/-- A register above the straps written. -/
theorem State.setReg_frameView {a : Nat} (v : Word32) (h : Reg.DEV_STRAPS < a) : (s.setReg a v).frameView = s.frameView := by
  rw [State.frameView, State.setReg_ldr, State.reg_setReg_other _ _ (Nat.ne_of_lt h), State.frameView]

theorem State.setFld_frameView {f : Field} (n : Nat) (h : Reg.DEV_STRAPS < f.addr) : (s.setFld f n).frameView = s.frameView :=
  State.setReg_frameView s _ h

theorem State.setFlag_frameView {f : Field} (b : Bool) (h : Reg.DEV_STRAPS < f.addr) : (s.setFlag f b).frameView = s.frameView :=
  State.setFld_frameView s _ h

theorem State.raise_frameView {n : Nat} (h : n < 512) : (s.raise n).frameView = s.frameView := by
  rw [State.frameView, State.raise_ldr, State.reg_raise s h (by decide), State.frameView]

theorem State.raiseBit_frameView {f : Field} {n : Nat} (hf : Reg.DEV_STRAPS < f.addr) (hn : n < 512) :
    (s.raiseBit f n).frameView = s.frameView :=
  (State.raise_frameView _ hn).trans (State.setFlag_frameView s true hf)

@[simp] theorem State.reply_frameView (c : Status) (d : Word32) : (s.reply c d).frameView = s.frameView := State.frameView_congr rfl rfl

@[simp] theorem State.takeFree_frameView : s.takeFree.2.frameView = s.frameView := State.frameView_congr rfl rfl

theorem State.foldl_frameView {α : Type} (g : State → α → State) (l : List α) (h : ∀ t x, (g t x).frameView = t.frameView) :
    (l.foldl g s).frameView = s.frameView := foldl_keeps State.frameView g l s fun t x _ => h t x

theorem State.ite_frameView {c : Prop} [Decidable c] {t u s : State} (ht : t.frameView = s.frameView) (hu : u.frameView = s.frameView) :
    (if c then t else u).frameView = s.frameView := by
  split
  · exact ht
  · exact hu

/-! ### Lanes -/

theorem laneEvent_lt (i : Nat) : laneEvent i < 512 := by
  unfold laneEvent
  split
  · omega
  · split
    · decide
    · split
      · decide
      · split <;> decide

theorem State.laneRaise_frameView {f : Field} (i : Nat) (hf : Reg.DEV_STRAPS < f.addr) : (s.laneRaise f i).frameView = s.frameView :=
  State.raiseBit_frameView s hf (laneEvent_lt i)

@[simp] theorem State.abortScan_frameView (i : Nat) : (s.abortScan i).frameView = s.frameView :=
  State.ite_frameView ((State.setFlag_frameView _ _ (Nat.lt_add_right _ (by decide))).trans (State.frameView_congr rfl rfl)) rfl

@[simp] theorem State.restartCdr_frameView (i : Nat) : (s.restartCdr i).frameView = s.frameView := by
  unfold State.restartCdr
  simp (disch := exact Nat.lt_add_right _ (by decide)) only [State.setFlag_frameView, State.abortScan_frameView]

@[simp] theorem State.restartSig_frameView (i : Nat) : (s.restartSig i).frameView = s.frameView := by
  unfold State.restartSig
  simp (disch := exact Nat.lt_add_right _ (by decide)) only [State.setFlag_frameView, State.restartCdr_frameView]

@[simp] theorem State.restartLane_frameView (i : Nat) : (s.restartLane i).frameView = s.frameView := by
  unfold State.restartLane
  simp (disch := exact Nat.lt_add_right _ (by decide)) only [State.setFlag_frameView, State.restartCdr_frameView]

@[simp] theorem State.checkLane_frameView (i : Nat) : (s.checkLane i).frameView = s.frameView :=
  State.ite_frameView ((State.laneRaise_frameView _ i (Nat.lt_add_right _ (by decide))).trans (s.restartSig_frameView i)) rfl

@[simp] theorem State.checkPll_frameView (k : Nat) : (s.checkPll k).frameView = s.frameView := by
  refine State.ite_frameView ((State.foldl_frameView _ _ _ fun t i => ?_).trans ?_) rfl
  · exact (State.laneRaise_frameView _ i (Nat.lt_add_right _ (by decide))).trans
      (State.setFlag_frameView _ _ (Nat.lt_add_right _ (by decide)))
  · simp (disch := exact Nat.lt_add_right _ (by decide)) only [State.setFlag_frameView]

@[simp] theorem State.acqCheck_frameView (i : Nat) : (s.acqCheck i).frameView = s.frameView := by
  refine State.ite_frameView ?_ ?_
  · rw [State.reply_frameView, State.raiseBit_frameView _ (by decide) (by decide)]
    simp (disch := exact Nat.lt_add_right _ (by decide)) only [State.setFlag_frameView, State.setFld_frameView]
  · rw [State.reply_frameView, State.setFlag_frameView _ _ (Nat.lt_add_right _ (by decide))]

@[simp] theorem State.acqRecheck_frameView (i : Nat) : (s.acqRecheck i).frameView = s.frameView :=
  State.ite_frameView (s.acqCheck_frameView i) rfl

@[simp] theorem State.eqFixed_frameView (i : Nat) : (s.eqFixed i).frameView = s.frameView :=
  (State.foldl_frameView _ _ _ fun _ _ => State.setReg_frameView _ _ (Nat.lt_add_right _ (Nat.lt_add_right _ (by decide)))).trans
    (State.setReg_frameView _ _ (Nat.lt_add_right _ (by decide)))

@[simp] theorem State.eqAdapted_frameView (i : Nat) : (s.eqAdapted i).frameView = s.frameView :=
  (State.foldl_frameView _ _ _ fun t _ =>
    (State.setReg_frameView _ _ (Nat.lt_add_right _ (Nat.lt_add_right _ (by decide)))).trans t.takeFree_frameView).trans
    ((State.setReg_frameView _ _ (Nat.lt_add_right _ (by decide))).trans s.takeFree_frameView)

@[simp] theorem State.adapted_frameView (i : Nat) : (s.adapted i).frameView = s.frameView := by
  unfold State.adapted
  simp (disch := exact Nat.lt_add_right _ (by decide)) only [State.setFlag_frameView]
  exact State.ite_frameView (s.eqFixed_frameView i) (s.eqAdapted_frameView i)

@[simp] theorem State.lnCfgStore_frameView (i : Nat) (v : Word32) : (s.lnCfgStore i v).frameView = s.frameView := by
  have hset {t : State} (w : Word32) : (t.setReg (Reg.LN_CFG i) w).frameView = t.frameView :=
    State.setReg_frameView _ _ (Nat.lt_add_right _ (by decide))
  have hlast {t : State} (c : Bool) : (if c = true then t.adapted i else t).frameView = t.frameView :=
    State.ite_frameView (t.adapted_frameView i) rfl
  unfold State.lnCfgStore
  dsimp only
  rw [hlast, State.acqRecheck_frameView, State.checkLane_frameView]
  refine State.ite_frameView (State.ite_frameView ?_ ?_) (State.ite_frameView ?_ (State.ite_frameView ?_ ?_))
  · rw [State.setFlag_frameView _ _ (Nat.lt_add_right _ (by decide)), State.restartSig_frameView, hset, State.abortScan_frameView]
  · rw [hset, State.abortScan_frameView]
  · rw [State.checkPll_frameView, State.restartLane_frameView, hset, State.abortScan_frameView]
  · rw [State.restartCdr_frameView, hset, State.abortScan_frameView]
  · rw [hset, State.abortScan_frameView]

@[simp] theorem State.lnTxfirStore_frameView (i : Nat) (v : Word32) : (s.lnTxfirStore i v).frameView = s.frameView := by
  have hset : (s.setReg (Reg.LN_TXFIR i) (v &&& 0x1FFFFF)).frameView = s.frameView :=
    State.setReg_frameView _ _ (Nat.lt_add_right _ (by decide))
  exact State.ite_frameView ((State.laneRaise_frameView _ i (Nat.lt_add_right _ (by decide))).trans hset)
    ((State.frameView_congr rfl rfl).trans hset)

@[simp] theorem State.lnPllStore_frameView (k : Nat) (v : Word32) : (s.lnPllStore k v).frameView = s.frameView := by
  refine State.ite_frameView rfl (State.ite_frameView rfl ?_)
  refine (State.foldl_frameView _ _ _ fun t i => t.acqRecheck_frameView i).trans ((State.checkPll_frameView _ k).trans
    ((State.foldl_frameView _ _ _ fun t i => ?_).trans ?_))
  · rw [State.checkLane_frameView, State.restartLane_frameView]
  · rw [State.setFlag_frameView _ _ (Nat.lt_add_right _ (by decide)), State.setReg_frameView _ _ (Nat.lt_add_right _ (by decide))]

/-- The loader assigns without a claim (R173). -/
theorem State.lnPllWrite_loader (k : Nat) (v : Word32) : s.lnPllWrite 0x10 k v = (s.lnPllStore k v).reply Code.ok :=
  if_neg fun h => h.2.1 rfl

theorem State.laneAssign_loader (i : Nat) (f : State → State) : s.laneAssign 0x10 i f = f s := by
  unfold State.laneAssign
  dsimp only
  split
  · exact if_neg fun h => h.1 rfl
  · rfl

@[simp] theorem State.lnEsCtrlWrite_frameView (i : Nat) (v : Word32) : (s.lnEsCtrlWrite i v).frameView = s.frameView := by
  have hset : (s.setReg (Reg.LN_ES_CTRL i) (v &&& 0x1FFFFC)).frameView = s.frameView :=
    State.setReg_frameView _ _ (Nat.lt_add_right _ (by decide))
  refine State.ite_frameView ?_ (State.ite_frameView ?_ ?_)
  · rw [State.reply_frameView, hset]
  · rw [State.reply_frameView, State.setFlag_frameView _ _ (Nat.lt_add_right _ (by decide)), hset]
  · rw [State.reply_frameView, State.setReg_frameView _ _ (Nat.lt_add_right _ (by decide))]
    exact (State.frameView_congr rfl rfl).trans hset

/-! ### Registers under the access codes -/

theorem alarmField_addr (i : Nat) : Reg.DEV_STRAPS < (alarmField i).addr := by
  unfold alarmField
  split
  · exact (by decide : Reg.DEV_STRAPS < Reg.LIB_ALM0)
  · split
    · exact (by decide : Reg.DEV_STRAPS < Reg.LIB_ALM1)
    · exact (by decide : Reg.DEV_STRAPS < Reg.LIB_ALM2)

@[simp] theorem State.persist_frameView : s.persist.frameView = s.frameView := by
  have hraise (t : State) {c : Prop} [Decidable c] {f : Field} {n : Nat} (hf : Reg.DEV_STRAPS < f.addr) (hn : n < 512) :
      (if c then t.raiseBit f n else t).frameView = t.frameView := State.ite_frameView (State.raiseBit_frameView t hf hn) rfl
  unfold State.persist
  dsimp only
  rw [hraise _ (by decide) (by decide), hraise _ (by decide) (by decide), hraise _ (by decide) (by decide)]
  exact State.foldl_frameView _ _ _ fun t i => State.ite_frameView (State.setFlag_frameView t true (alarmField_addr i)) rfl

@[simp] theorem State.lockViolation_frameView (a : Nat) : (s.lockViolation a).frameView = s.frameView :=
  State.ite_frameView (State.raiseBit_frameView s (by decide) (by decide))
    (State.ite_frameView (State.raiseBit_frameView s (Nat.lt_add_right _ (by decide)) (by omega))
      (State.raiseBit_frameView s (by decide) (by decide)))

theorem State.storeReg_frameView {a : Nat} (v : Word32) (h : Reg.DEV_STRAPS < a) : (s.storeReg a v).frameView = s.frameView := by
  unfold State.storeReg
  split
  · rw [State.reply_frameView]
  next r _ =>
    have hset := s.setReg_frameView (r.written (s.flag (lockOf a)) (s.reg a) v) h
    have hstored (c : Prop) [Decidable c] {t : State} : (if c then t else t.persist).frameView = t.frameView :=
      State.ite_frameView rfl t.persist_frameView
    refine State.ite_frameView ?_ ?_
    · rw [State.reply_frameView, State.lockViolation_frameView, hstored, hset]
    · rw [State.reply_frameView, hstored, hset]

theorem State.loaderStore_frameView {a : Nat} (v : Word32) (h : Reg.DEV_STRAPS < a) : (s.loaderStore a v).frameView = s.frameView :=
  State.ite_frameView rfl (State.setReg_frameView s _ h)

/-! ### Units of a DEVICE section -/

theorem State.lnPhyWrite_frameView (i o : Nat) {a : Nat} (v : Word32) (h : Reg.DEV_STRAPS < a) :
    (s.lnPhyWrite 0x10 i o a v).frameView = s.frameView := by
  unfold State.lnPhyWrite
  refine State.ite_frameView ?_ (State.ite_frameView ?_ (State.ite_frameView ?_ (State.ite_frameView (s.lnEsCtrlWrite_frameView i v)
    (State.ite_frameView ?_ (s.storeReg_frameView v h)))))
  · rw [State.lnCfgWrite, State.laneAssign_loader, State.reply_frameView, State.lnCfgStore_frameView]
  · rw [State.lnTxfirWrite, State.laneAssign_loader, State.reply_frameView, State.lnTxfirStore_frameView]
  · rw [State.laneAssign_loader]
    refine (State.ite_frameView ?_ rfl).trans (s.storeReg_frameView v h)
    rw [State.reply_frameView, State.eqFixed_frameView]
  · rw [State.laneAssign_loader]
    exact (State.ite_frameView (State.setFlag_frameView _ _ (Nat.lt_add_right _ (by decide))) rfl).trans (s.storeReg_frameView v h)

theorem State.laneUnit_frameView {a : Nat} (v : Word32) (h : Reg.DEV_STRAPS < a) : (s.laneUnit a v).frameView = s.frameView := by
  refine State.ite_frameView ?_ (State.ite_frameView rfl (State.ite_frameView (s.lnPhyWrite_frameView _ _ _ h)
    (s.loaderStore_frameView v h)))
  rw [State.lnPllWrite_loader, State.reply_frameView, State.lnPllStore_frameView]

@[simp] theorem State.retick_frameView : s.retick.frameView = s.frameView := State.frameView_congr rfl rfl

theorem State.setPeriod_frameView (p : Nat) : (s.setPeriod p).frameView = s.frameView := by
  rw [State.setPeriod, State.setPeriodRegs, State.setReg_frameView _ _ (by decide), State.setReg_frameView _ _ (by decide)]
  exact State.frameView_congr rfl rfl

theorem State.withTime_frameView (tm : TimeSt) : ({ s with time := tm } : State).frameView = s.frameView := State.frameView_congr rfl rfl

theorem State.pnomCommit_frameView (v : Word32) : (s.pnomCommit v).frameView = s.frameView := by
  unfold State.pnomCommit
  refine (State.retick_frameView _).trans ((State.setPeriod_frameView _ _).trans ((State.withTime_frameView _ _).trans ?_))
  exact State.setReg_frameView s (v &&& 0xFFFF) (by decide : Reg.DEV_STRAPS < Reg.TU_PNOM_HI)

theorem State.armTc_frameView (n : Nat) : (s.armTc n).frameView = s.frameView :=
  (State.setFlag_frameView _ _ (Nat.lt_add_right _ (by decide))).trans (State.frameView_congr rfl rfl)

theorem State.timeUnit_frameView {a : Nat} (v : Word32) (h : Reg.DEV_STRAPS < a) : (s.timeUnit a v).frameView = s.frameView := by
  unfold State.timeUnit
  split
  · exact State.ite_frameView (s.armTc_frameView _) rfl
  · refine State.ite_frameView (s.pnomCommit_frameView v) (State.ite_frameView ?_ (s.loaderStore_frameView v h))
    rw [State.retick_frameView, s.loaderStore_frameView v h]

end

/-- A unit stored by writes of its halves. -/
theorem State.unitRegs_frameView (s : State) {a : Nat} (w : Word64) {f : State → Nat → Word32 → State} (h : Reg.DEV_STRAPS < a)
    (hf : ∀ (t : State) (b : Nat) (v : Word32), Reg.DEV_STRAPS < b → (f t b v).frameView = t.frameView) :
    (s.unitRegs a w f).frameView = s.frameView :=
  (hf _ _ _ (Nat.lt_add_right 4 h)).trans (hf _ _ _ h)

theorem optReg_frameView {s : State} {o : Option Nat} (v : Word32) {f : State → Nat → Word32 → State}
    (ho : ∀ a ∈ o, Reg.DEV_STRAPS < a)
    (hf : ∀ (t : State) (b : Nat) (v : Word32), Reg.DEV_STRAPS < b → (f t b v).frameView = t.frameView) :
    (optReg f s o v).frameView = s.frameView := by
  unfold optReg
  split
  · exact hf _ _ _ (ho _ rfl)
  · rfl

/-- A register that a choice may name lies above the straps when every one named does. -/
theorem ite_above {c : Prop} [Decidable c] {o p : Option Nat} (ho : ∀ a ∈ o, Reg.DEV_STRAPS < a)
    (hp : ∀ a ∈ p, Reg.DEV_STRAPS < a) :
    ∀ a ∈ (if c then o else p), Reg.DEV_STRAPS < a := by
  split
  · exact ho
  · exact hp

theorem some_above {b : Nat} (h : Reg.DEV_STRAPS < b) : ∀ a ∈ some b, Reg.DEV_STRAPS < a := fun _ ha => Option.some.inj ha ▸ h

theorem none_above : ∀ a ∈ (none : Option Nat), Reg.DEV_STRAPS < a := fun _ ha => absurd ha (Option.not_mem_none _)

theorem routeReg_above (u h : Nat) : ∀ a ∈ routeReg u h, Reg.DEV_STRAPS < a := by
  refine ite_above (some_above ?_) (ite_above (ite_above (some_above ?_) none_above)
    (ite_above (ite_above (some_above ?_) none_above) none_above))
  · exact Nat.lt_add_right _ (Nat.lt_add_right _ (Nat.lt_add_right _ (by decide)))
  · split <;> exact Nat.lt_add_right _ (Nat.lt_add_right _ (by decide))
  · exact Nat.lt_add_right _ (Nat.lt_add_right _ (by decide))

theorem laneReg_above (u h : Nat) : ∀ a ∈ laneReg u h, Reg.DEV_STRAPS < a := by
  refine ite_above (ite_above (some_above ?_) none_above) (ite_above (ite_above (some_above ?_) none_above)
    (ite_above (ite_above (some_above ?_) none_above) none_above))
  · exact Nat.lt_add_right _ (Nat.lt_add_right _ (Nat.lt_add_right _ (by decide)))
  · exact Nat.lt_add_right _ (by decide)
  · exact Nat.lt_add_right _ (Nat.lt_add_right _ (Nat.lt_add_right _ (by decide)))

theorem iobReg_above (u h : Nat) : ∀ a ∈ iobReg u h, Reg.DEV_STRAPS < a :=
  ite_above (some_above (Nat.lt_add_right _ (Nat.lt_add_right _ (Nat.lt_add_right _ (by decide))))) none_above

theorem State.ctxUnit_frameView (s : State) (u : Nat) (w : Word64) : (s.ctxUnit u w).frameView = s.frameView := by
  refine State.ite_frameView (State.frameView_congr rfl rfl)
    (State.unitRegs_frameView s w (Nat.lt_add_right _ (by decide)) fun t b v hb => ?_)
  exact State.ite_frameView rfl (t.loaderStore_frameView v hb)

theorem State.twinUnit_frameView (s : State) (u : Nat) (w : Word64) : (s.twinUnit u w).frameView = s.frameView :=
  State.ite_frameView (State.frameView_congr rfl rfl) (State.ite_frameView (State.frameView_congr rfl rfl)
    (State.ite_frameView (State.frameView_congr rfl rfl) (State.unitRegs_frameView s w (Nat.lt_add_right _ (by decide)) fun t _ v hb =>
      t.loaderStore_frameView v hb)))

/-- A change of what the loader holds back or has routed. -/
theorem State.withLdr_frameView (s : State) {l : LoaderSt} (hsections : l.sections = s.ldr.sections) (hpos : l.pos = s.ldr.pos)
    (hchange : l.change = s.ldr.change) : ({ s with ldr := l } : State).frameView = s.frameView := by
  rw [State.frameView, State.frameView, ← hsections, ← hpos, ← hchange]
  exact congrArg (fun v => (l.sections, l.pos, l.change, v)) (State.reg_congr rfl Reg.DEV_STRAPS)

/-- No DEVICE unit writes what decides the section of the next frame. -/
theorem State.deviceWrite_frameView (s : State) (ftype u : Nat) (w : Word64) : (s.deviceWrite ftype u w).frameView = s.frameView := by
  unfold State.deviceWrite
  split
  case h_1 =>
    refine State.unitRegs_frameView s w ?_ fun t _ v hb => t.setReg_frameView v hb
    exact Nat.lt_add_right _ (Nat.lt_add_right _ (Nat.lt_add_right _ (Nat.lt_add_right _ (by decide))))
  case h_2 =>
    refine (optReg_frameView _ (routeReg_above u 1) fun t _ v hb => t.loaderStore_frameView v hb).trans
      ((optReg_frameView _ (routeReg_above u 0) fun t _ v hb => t.loaderStore_frameView v hb).trans ?_)
    exact State.ite_frameView (State.withLdr_frameView s rfl rfl rfl) rfl
  case h_3 => exact State.frameView_congr rfl rfl
  case h_4 =>
    exact (optReg_frameView _ (laneReg_above u 1) fun t _ v hb => t.laneUnit_frameView v hb).trans
      (optReg_frameView _ (laneReg_above u 0) fun t _ v hb => t.laneUnit_frameView v hb)
  case h_5 => exact s.ctxUnit_frameView u w
  case h_6 => exact State.frameView_congr rfl rfl
  case h_7 =>
    refine (optReg_frameView _ (iobReg_above u 1) fun t _ v _ => ?_).trans (optReg_frameView _ (iobReg_above u 0) fun t _ v _ => ?_)
    · exact State.ite_frameView rfl (State.withLdr_frameView t rfl rfl rfl)
    · exact State.ite_frameView rfl (State.withLdr_frameView t rfl rfl rfl)
  case h_8 => exact State.unitRegs_frameView s w (Nat.lt_add_right _ (by decide)) fun t _ v hb => t.timeUnit_frameView v hb
  case h_9 => exact s.twinUnit_frameView u w
  case h_10 => rfl

/-! ### Units of a FOLIO section -/

theorem State.sorcfgWrite_frameView (s : State) (n u : Nat) (w : Word64) (active : Bool) :
    (s.sorcfgWrite n u w active).frameView = s.frameView := by
  have harr (x : ArraySt) : ({ s with arr := x } : State).frameView = s.frameView := State.frameView_congr rfl rfl
  have hflag (t : State) {f : Field} (b : Bool) (hf : Reg.DEV_STRAPS < f.addr) : (t.setFlag f b).frameView = t.frameView :=
    t.setFlag_frameView b hf
  unfold State.sorcfgWrite
  refine State.ite_frameView (State.ite_frameView ?_ ?_)
    (State.ite_frameView ?_ (State.ite_frameView (State.frameView_congr rfl rfl) (harr _)))
  · rw [hflag _ _ (Nat.lt_add_right _ (by decide)), hflag _ _ (Nat.lt_add_right _ (by decide)), hflag _ _ (Nat.lt_add_right _ (by decide)),
      hflag _ _ (Nat.lt_add_right _ (by decide)), harr]
  · rw [hflag _ _ (Nat.lt_add_right _ (by decide)), hflag _ _ (Nat.lt_add_right _ (by decide)), hflag _ _ (Nat.lt_add_right _ (by decide)),
      harr]
  · refine (State.foldl_frameView _ _ _ fun t j => t.setFld_frameView _ ?_).trans (harr _)
    exact Nat.lt_add_right _ (Nat.lt_add_right _ (by decide))

theorem folioAddr_above (n ftype page u : Nat) : Reg.DEV_STRAPS < folioAddr n ftype page u :=
  Nat.lt_add_right _ (Nat.lt_add_right _ (Nat.lt_add_right _ (by decide)))

/-- No FOLIO unit writes what decides the section of the next frame. -/
theorem State.folioWrite_frameView (s : State) (n ftype page u : Nat) (w : Word64) :
    (s.folioWrite n ftype page u w).frameView = s.frameView := by
  have hpair (x y : Word32) : ((s.setReg (folioAddr n ftype page u) x).setReg (folioAddr n ftype page u + 4) y).frameView = s.frameView :=
    (State.setReg_frameView _ _ (Nat.lt_add_right _ (folioAddr_above ..))).trans (s.setReg_frameView _ (folioAddr_above ..))
  unfold State.folioWrite
  split
  · exact State.frameView_congr rfl rfl
  · exact hpair _ _
  · exact State.frameView_congr rfl rfl
  · exact s.sorcfgWrite_frameView n u w true
  · exact hpair _ _

theorem State.keepGolden_frameView (s : State) (off : Option Nat) (w : Word64) : (s.keepGolden off w).frameView = s.frameView := by
  obtain ⟨h, e⟩ := s.keepGolden_eq off w
  rw [e]
  exact State.frameView_congr rfl rfl

theorem State.folioUnit_of_no_change {s : State} (hchange : s.ldr.change = none) (h : FrameHdr) (u : Nat) (w : Word64) :
    (s.folioUnit h u w).frameView = s.frameView := by
  unfold State.folioUnit
  dsimp only
  rw [hchange]
  exact (State.keepGolden_frameView _ _ _).trans (s.folioWrite_frameView _ _ _ _ _)

/-- The units of a frame leave the section of the next frame to the place in the image alone. -/
theorem State.writeUnits_frameView {s : State} (hchange : s.ldr.change = none) (x : ImgSection) (h : FrameHdr) (us : List Word64) :
    (s.writeUnits x h us).frameView = s.frameView := by
  unfold State.writeUnits
  generalize us.zipIdx = l
  induction l generalizing s with
  | nil => rfl
  | cons p r ih =>
    have hunit : (if x.kind = 7 then s.folioUnit h (h.offset + p.2) p.1
        else (s.deviceWrite h.ftype (h.offset + p.2) p.1).keepGolden (goldenDevice h.ftype (h.offset + p.2)) p.1).frameView = s.frameView :=
      State.ite_frameView (State.folioUnit_of_no_change hchange _ _ _)
        ((State.keepGolden_frameView _ _ _).trans (s.deviceWrite_frameView _ _ _))
    exact (ih ((congrArg (fun v => v.2.2.1) hunit).trans hchange)).trans hunit

/-! ## FRAMES (R165, R166, R176, R385) -/

theorem State.frameSection_congr {s t : State} (h : t.frameView = s.frameView) : t.frameSection = s.frameSection := by
  simp only [State.frameView, Prod.mk.injEq] at h
  obtain ⟨hsections, hpos, hchange, hstraps⟩ := h
  simp only [State.frameSection, hsections, hpos, hchange, State.ownTag_congr hstraps]

/-- The section of a frame goes on while its end is not reached. -/
theorem State.frameSection_afterFrame {s : State} {x : ImgSection} {i : Nat} (hsec : s.frameSection = some (x, i)) {pos : Nat} (seq : Nat)
    (hpos : pos < x.offset + x.length) : (s.afterFrame pos seq).frameSection.isSome = true := by
  have hmem := List.mem_of_find?_eq_some hsec
  have hx := List.find?_some hsec
  refine List.find?_isSome.2 ⟨(x, i), hmem, ?_⟩
  have htag : (s.afterFrame pos seq).ownTag x.dtag = s.ownTag x.dtag := State.ownTag_congr (State.reg_congr rfl _) _
  simp only [Bool.and_eq_true] at hx
  obtain ⟨⟨-, hown⟩, hkind⟩ := hx
  simp only [Bool.and_eq_true, htag]
  exact ⟨⟨decide_eq_true hpos, hown⟩, hkind⟩

/-- The next frame of a section, all of whose bytes are in and which does not end the section. -/
theorem State.frameRun_eq {s : State} {x : ImgSection} {i pos seq : Nat} (hsec : s.frameSection = some (x, i))
    (hready : s.frameReady x = true) (hkind : x.kind ≠ 8) (hpos : max s.ldr.pos x.offset = pos)
    (hseq : (if s.ldr.pos ≤ x.offset then 0 else s.ldr.nextSeq) = seq)
    (hhead : 24 ≤ (FrameHdr.decode (s.ldr.image.drop pos)).size)
    (hin : (FrameHdr.decode (s.ldr.image.drop pos)).size ≤ (s.ldr.image.drop pos).length)
    (hend : pos + (FrameHdr.decode (s.ldr.image.drop pos)).size < x.offset + x.length)
    (hgo : (s.frameIn x i pos seq).loadStage ≠ 6 ∨ (s.frameIn x i pos seq).frameSection.isSome = true) :
    s.frameRun = s.frameIn x i pos seq := by
  have hnotready : ¬ (!s.frameReady x) = true := by rw [hready]; exact Bool.false_ne_true
  have hroom : ¬ x.offset + x.length < pos + 24 := by omega
  have hlong : ¬ (s.ldr.image.drop pos).length < 24 := by omega
  have hfits : ¬ x.offset + x.length < pos + (FrameHdr.decode (s.ldr.image.drop pos)).size := by omega
  unfold State.frameRun
  rw [hsec]
  dsimp only
  rw [hpos, hseq, if_neg hnotready, if_neg hkind, if_neg hroom, if_neg hlong, if_neg hfits, if_neg (Nat.not_lt.2 hin)]
  refine if_neg fun hn => ?_
  obtain ⟨hstage, hnone⟩ := hn
  refine hgo.elim (fun h6 => h6 hstage) fun hsome => ?_
  rw [Option.isNone_iff_eq_none] at hnone
  rw [hnone] at hsome
  exact Bool.false_ne_true hsome

section
variable {s : State} {x : ImgSection} {i pos seq : Nat}

/-- A frame whose CRC fails is check 4. -/
theorem State.frameIn_crc (hcrc : crc32c ((s.ldr.image.drop pos).take 20 ++
      ((s.ldr.image.drop pos).drop 24).take (FrameHdr.decode (s.ldr.image.drop pos)).slen) ≠
      BitVec.ofNat 32 (FrameHdr.decode (s.ldr.image.drop pos)).crc) :
    s.frameIn x i pos seq = s.checkFails 4 i (FrameHdr.decode (s.ldr.image.drop pos)).seq := if_pos hcrc

variable (hcrc : crc32c ((s.ldr.image.drop pos).take 20 ++
    ((s.ldr.image.drop pos).drop 24).take (FrameHdr.decode (s.ldr.image.drop pos)).slen) =
    BitVec.ofNat 32 (FrameHdr.decode (s.ldr.image.drop pos)).crc)
  (hfits : frameFits (FrameHdr.decode (s.ldr.image.drop pos)).ftype x.kind = true)
  (htag : tagReserved (FrameHdr.decode (s.ldr.image.drop pos)).dtag = false) (hseq : (FrameHdr.decode (s.ldr.image.drop pos)).seq = seq)
include hcrc hfits htag hseq

/-- A frame of another device is passed over. -/
theorem State.frameIn_other (hown : s.ownTag (FrameHdr.decode (s.ldr.image.drop pos)).dtag = false) :
    s.frameIn x i pos seq = s.afterFrame (pos + (FrameHdr.decode (s.ldr.image.drop pos)).size) (seq + 1) := by
  unfold State.frameIn
  dsimp only
  rw [if_neg (not_not.2 hcrc), if_neg (by simp [hfits, htag, hseq]), if_pos (by rw [hown]; rfl)]

/-- A frame of this device whose content passes its checks is written. -/
theorem State.frameIn_units (hchange : s.ldr.change = none) (hown : s.ownTag (FrameHdr.decode (s.ldr.image.drop pos)).dtag = true)
    (hsome : 1 ≤ (FrameHdr.decode (s.ldr.image.drop pos)).ulen) (hmax : (FrameHdr.decode (s.ldr.image.drop pos)).ulen ≤ 8192)
    (hspace : (FrameHdr.decode (s.ldr.image.drop pos)).offset + (FrameHdr.decode (s.ldr.image.drop pos)).ulen ≤
      unitSpace (FrameHdr.decode (s.ldr.image.drop pos)).ftype) {us : List Word64}
    (hunits : (FrameHdr.decode (s.ldr.image.drop pos)).units (s.ldr.image.drop pos) = some us)
    (hcontent : s.contentCheck x (FrameHdr.decode (s.ldr.image.drop pos)) us = none) :
    s.frameIn x i pos seq =
      (s.afterFrame (pos + (FrameHdr.decode (s.ldr.image.drop pos)).size) (seq + 1)).writeUnits x
        (FrameHdr.decode (s.ldr.image.drop pos)) us := by
  unfold State.frameIn
  dsimp only
  rw [if_neg (not_not.2 hcrc), if_neg (by simp [hfits, htag, hseq]), if_neg (by rw [hown]; exact Bool.false_ne_true),
    if_neg (by omega), hunits, hchange]
  dsimp only
  rw [hcontent]

end

section
variable {s : State} {bytes : List Byte} (hchange : s.ldr.change = none) (hpaused : s.ldr.paused = false) (hphase : s.ldr.phase = 6)
  {x : ImgSection} {i : Nat} (hsec : (s.takeStream bytes).frameSection = some (x, i)) (hready : (s.takeStream bytes).frameReady x = true)
  (hkind : x.kind ≠ 8)
include hchange hpaused hphase hsec hready hkind

theorem imageFrame_completes :
    let u := s.takeStream bytes
    let img := u.ldr.image
    let pos := max u.ldr.pos x.offset
    let seq := if u.ldr.pos ≤ x.offset then 0 else u.ldr.nextSeq
    let b := img.drop pos
    let h := FrameHdr.decode b
    let crcGood := crc32c (b.take 20 ++ (b.drop 24).take h.slen) = BitVec.ofNat 32 h.crc
    24 ≤ h.size → h.size ≤ b.length → pos + h.size < x.offset + x.length →
    (¬ crcGood → u.fallbackSlot = none → Completes (.imageFrame bytes) s (State.CheckFailed 6 4)) ∧
    (crcGood → frameFits h.ftype x.kind = true → tagReserved h.dtag = false → h.seq = seq → u.ownTag h.dtag = false →
      Completes (.imageFrame bytes) s fun t => t = { u with ldr := { u.ldr with pos := pos + h.size, nextSeq := seq + 1 } }) ∧
    (∀ us, crcGood → frameFits h.ftype x.kind = true → tagReserved h.dtag = false → h.seq = seq → u.ownTag h.dtag = true →
      1 ≤ h.ulen → h.ulen ≤ 8192 → h.offset + h.ulen ≤ unitSpace h.ftype → h.units b = some us → u.contentCheck x h us = none →
      Completes (.imageFrame bytes) s fun t =>
        t = ({ u with ldr := { u.ldr with pos := pos + h.size, nextSeq := seq + 1 } } : State).writeUnits x h us) := by
  intro u img pos seq b h crcGood hhead hin hend
  have hu : u.ldr.change = none := by simpa [u] using hchange
  have hrun := State.frameRun_eq hsec hready hkind rfl rfl hhead hin hend
  have hnext := State.frameSection_afterFrame hsec (seq + 1) hend
  refine ⟨fun hbad hfall => completes_phase rfl hchange hpaused hphase ?_, fun hcrc hfits htag hseq hown =>
    completes_phase rfl hchange hpaused hphase ?_, fun us hcrc hfits htag hseq hown hsome hmax hspace hunits hcontent =>
    completes_phase rfl hchange hpaused hphase ?_⟩
  · have hframe := State.frameIn_crc (s := u) (x := x) (i := i) (pos := pos) (seq := seq) hbad
    obtain ⟨hfailed, hnone⟩ := State.checkFails_failed hu hfall (phase := 6) (by simpa [u] using hphase) (by decide) (chk := 4)
      (by decide) i h.seq
    rw [hrun (Or.inl ?_), hframe]
    · exact hfailed
    · rw [hframe, State.loadStage_of_no_change hnone, hfailed.1]
      decide
  · have hframe := State.frameIn_other (x := x) (i := i) hcrc hfits htag hseq hown
    rw [hrun (Or.inr (hframe ▸ hnext)), hframe]
    rfl
  · have hframe := State.frameIn_units (x := x) (i := i) hcrc hfits htag hseq hu hown hsome hmax hspace hunits hcontent
    have hview := State.frameSection_congr (State.writeUnits_frameView (s := u.afterFrame (pos + h.size) (seq + 1)) hu x h us)
    rw [hrun (Or.inr ?_), hframe]
    · rfl
    · rw [hframe, hview]
      exact hnext

end

end Sys2Proof.Machine

/-! PROOFS.  The phases of a full load. -/

namespace Sys2Proof.Machine

/-- Settles O30, phase by phase.  What a phase takes from the stream before it goes on, and how it answers each check, are the model's
choices (logs 99 to 103 and 112). -/
theorem loaderPhases : Obligations.LoaderPhases := by
  intro bytes s hchange hpaused
  refine ⟨fun hphase hfits hlong => headerPhase_completes hchange hpaused hphase hfits hlong,
    fun x i hphase hsec hin hfall => clockPhase_completes hchange hpaused hphase hsec hin hfall,
    fun x i g k o j hphase hx hg ho hxin hgin hoin hmap =>
      checkPhase_completes hchange hpaused hphase hx hg ho hxin hgin hoin hmap,
    fun x i hphase htraining hsec hin hgood howned =>
      hbmPhase_completes hchange hpaused hphase htraining hsec hin hgood howned,
    fun h70 h71 => phyTrainingDone_completes h70 h71, trainFail_completes s, leaderPauseEnd_completes s hpaused,
    fun x i hphase hsec hready hkind => imageFrame_completes hchange hpaused hphase hsec hready hkind,
    fun hphase hin hstart => verifyPhase_completes hchange hpaused hphase hin hstart⟩

end Sys2Proof.Machine

/-! PROOFS.  ABORT (R404), and the target of a change. -/

namespace Sys2Proof.Machine

theorem State.ldrAbort_of_change {s : State} {c : Change} (hchange : s.ldr.change = some c) (hkind : c.kind ≠ 2) :
    s.ldrAbort = (s.changeFails c Code.ok).reply Code.ok := by
  rw [State.ldrAbort, hchange]
  dsimp only
  rw [if_neg hkind]

theorem exec_ldrAbort {s : State} (hawake : s.awake Reg.LDR_CMD) {mid : Mid} (hmid : ldrWriter mid = true) (value : Word32) :
    exec (.ldrAbort mid value) s = .next s.ldrAbort := by
  refine congrArg Host.Outcome.next ?_
  rw [State.ldrCmd, State.gate_of_awake hawake, State.ldrCommand, hmid, Field.get_put_same _ _ _ rfl]
  rfl

/-! ## ABORT where the target is a power domain

The clause of O31 on ABORT holds of every change whose target, if it has one, has a power domain. -/

/-- An address apart from the states of the power domains, the nodes and the sori's pages. -/
def offShutdown (a : Nat) : Prop := a < 0x201200 ∨ (0x201360 ≤ a ∧ a < 0x4010000)

theorem State.reg_fence (s : State) (d : Nat) (on : Bool) {a : Nat} (h : offShutdown a) : (s.fence d on).reg a = s.reg a := by
  refine State.reg_foldl _ _ s fun t n => State.reg_setFlag_other _ _ _ _ ?_
  simp only [offShutdown, Reg.RZ_NODE_STAT, ne_eq] at h ⊢
  omega

theorem State.fence_ldr (s : State) (d : Nat) (on : Bool) : (s.fence d on).ldr = s.ldr :=
  foldl_keeps State.ldr _ _ s fun t n _ => State.setFlag_ldr t (Fld.RZ_NODE_STAT_FENCED n) on

/-- The shutdown of a domain writes its state and fences its nodes (R515). -/
theorem State.startShutdown_keeps (s : State) {d : Nat} (hd : d < 88) :
    (s.startShutdown d).ldr = s.ldr ∧ ∀ a, offShutdown a → (s.startShutdown d).reg a = s.reg a := by
  unfold State.startShutdown
  split
  · refine ⟨(State.fence_ldr _ d true).trans (State.setFld_ldr ..), fun a ha => ?_⟩
    rw [State.reg_fence _ _ _ ha]
    refine State.reg_setFld_other _ _ _ _ ?_
    simp only [offShutdown, Reg.PWR_DSTAT, ne_eq] at ha ⊢
    omega
  · exact ⟨rfl, fun _ _ => rfl⟩

/-- PENDING and READY of a region are bits of its sori's pages. -/
theorem State.regionPages_keeps (s : State) (m : Nat) (b : Bool) :
    ((s.regionPending m b).regionReady m b).ldr = s.ldr ∧
      ∀ a, offShutdown a → ((s.regionPending m b).regionReady m b).reg a = s.reg a := by
  refine ⟨(foldl_keeps State.ldr _ _ _ fun t v _ => State.setFlag_ldr ..).trans
      (foldl_keeps State.ldr _ _ s fun t v _ => State.setFlag_ldr ..),
    fun a ha => (State.reg_foldl _ _ _ fun t v => State.reg_setFlag_other _ _ _ _ ?_).trans
      (State.reg_foldl _ _ s fun t v => State.reg_setFlag_other _ _ _ _ ?_)⟩ <;>
    simp only [offShutdown, Reg.ARR_PAGE, ne_eq] at ha ⊢ <;> omega

/-- A change that is abandoned: nothing pends, and of the loader's registers only what `changeOver` writes differs (R404). -/
theorem State.changeFails_keeps (s : State) (c : Change) (code : Status) (htarget : ∀ n ∈ s.ldr.target, n < 88) :
    (s.changeFails c code).ldr.change = none ∧
      ∀ a, offShutdown a → (s.changeFails c code).reg a = (s.changeOver code).reg a := by
  have hregion : ∃ u : State, u = (if c.kind = 1 ∨ c.kind = 3 then
      ((s.changeOver code).regionPending c.mask false).regionReady c.mask false else s.changeOver code) ∧
      u.ldr = (s.changeOver code).ldr ∧ ∀ a, offShutdown a → u.reg a = (s.changeOver code).reg a := by
    refine ⟨_, rfl, ?_⟩
    split
    · exact State.regionPages_keeps _ _ _
    · exact ⟨rfl, fun _ _ => rfl⟩
  obtain ⟨u, hu, hldr, hreg⟩ := hregion
  have hchange : u.ldr.change = none := congrArg LoaderSt.change hldr
  unfold State.changeFails
  dsimp only
  rw [← hu]
  split
  next n hn =>
    split
    · exact ⟨hchange, hreg⟩
    · obtain ⟨hl, hr⟩ := u.startShutdown_keeps (htarget n hn)
      exact ⟨(congrArg LoaderSt.change hl).trans hchange, fun a ha => (hr a ha).trans (hreg a ha)⟩
  next => exact ⟨hchange, hreg⟩

theorem State.changeOver_fields (s : State) (code : Status) {f : Field} (haddr : f.addr ≠ Reg.LDR_CMD_STAT)
    (hbusy : Fld.LDR_PR_STAT_BUSY.apart f) (hpaged : Fld.LDR_PR_STAT_PAGED.apart f) (hrepair : Fld.LDR_PR_STAT_REPAIR.apart f) :
    (s.changeOver code).fld f = s.fld f := by
  rw [State.changeOver, State.fld_setFld_apart _ _ _ _ rfl (Or.inl haddr.symm), State.fld_setFlag_apart _ _ _ _ rfl (Or.inl haddr.symm),
    State.fld_setFlag_apart _ _ _ _ rfl hrepair, State.fld_setFlag_apart _ _ _ _ rfl hpaged, State.fld_setFlag_apart _ _ _ _ rfl hbusy]
  exact State.fld_congr rfl f

theorem State.changeOver_busy (s : State) (code : Status) : (s.changeOver code).flag Fld.LDR_PR_STAT_BUSY = false := by
  rw [State.changeOver, State.flag, State.fld_setFld_apart _ _ _ _ rfl (by simp [Field.apart]), ← State.flag,
    State.flag_setFlag_apart _ _ _ _ rfl (by simp [Field.apart]), State.flag_setFlag_apart _ _ _ _ rfl (by simp [Field.apart]),
    State.flag_setFlag_apart _ _ _ _ rfl (by simp [Field.apart]), State.flag_setFlag_same _ _ _ rfl rfl]

theorem State.sticky_changeOver (s : State) (code : Status) {n : Nat} (hn : n < 512) : (s.changeOver code).sticky n = s.sticky n := by
  have hlow : Reg.EVT_STICKY (n / 32) < 0x2000000 := by simp only [Reg.EVT_STICKY]; omega
  have hne {b : Nat} (hb : 0x2000000 ≤ b) : Reg.EVT_STICKY (n / 32) ≠ b := Nat.ne_of_lt (Nat.lt_of_lt_of_le hlow hb)
  refine State.sticky_congr n ?_
  rw [State.changeOver, State.reg_setFld_other _ _ _ _ (hne (by decide)), State.reg_setFlag_other _ _ _ _ (hne (by decide)),
    State.reg_setFlag_other _ _ _ _ (hne (by decide)), State.reg_setFlag_other _ _ _ _ (hne (by decide)),
    State.reg_setFlag_other _ _ _ _ (hne (by decide))]
  exact State.reg_congr rfl _

/-- A region fault keeps its record while the change is abandoned (R404, R407). -/
theorem State.regionFault_spec (s : State) (c : Change) {cause : Nat} (hcause : cause < 8) (vs : Nat)
    (htarget : ∀ n ∈ s.ldr.target, n < 88) :
    (s.regionFault c cause vs).ldr.change = none ∧ (s.regionFault c cause vs).flag Fld.LDR_PR_STAT_BUSY = false ∧
      (s.regionFault c cause vs).flag Fld.LDR_PR_STAT_REGION_FAULT = true ∧ (s.regionFault c cause vs).fld Fld.LDR_PR_STAT_CAUSE = cause ∧
      (s.regionFault c cause vs).sticky 410 = true := by
  rw [State.regionFault]
  generalize hx : (s.setFld Fld.LDR_PR_STAT_CAUSE cause).setFld Fld.LDR_PR_STAT_VS vs = x
  have hxcause : x.fld Fld.LDR_PR_STAT_CAUSE = cause := by
    rw [← hx, State.fld_setFld_apart _ _ _ _ rfl (by simp [Field.apart]), State.fld_setFld_same _ _ _ rfl]
    exact Nat.mod_eq_of_lt hcause
  have hxldr : x.ldr = s.ldr := by rw [← hx, State.setFld_ldr, State.setFld_ldr]
  have hfault : (x.raiseBit Fld.LDR_PR_STAT_REGION_FAULT 410).flag Fld.LDR_PR_STAT_REGION_FAULT = true :=
    State.flag_raiseBit_same x 410 (by decide) (by decide) rfl rfl
  have hrecord : (x.raiseBit Fld.LDR_PR_STAT_REGION_FAULT 410).fld Fld.LDR_PR_STAT_CAUSE = cause :=
    (State.fld_raiseBit_apart x _ _ (by decide) (by decide) rfl (by simp [Field.apart])).trans hxcause
  have hsticky : (x.raiseBit Fld.LDR_PR_STAT_REGION_FAULT 410).sticky 410 = true := State.sticky_raiseBit_same x _ 410 (by decide)
  have hldr : (x.raiseBit Fld.LDR_PR_STAT_REGION_FAULT 410).ldr = s.ldr := (State.raiseBit_ldr ..).trans hxldr
  generalize x.raiseBit Fld.LDR_PR_STAT_REGION_FAULT 410 = u at *
  obtain ⟨hchange, hreg⟩ := u.changeFails_keeps c Code.regionFault (hldr ▸ htarget)
  have hstat := hreg Reg.LDR_PR_STAT (Or.inr ⟨by decide, by decide⟩)
  refine ⟨hchange, ?_, ?_, ?_, ?_⟩
  · exact (State.flag_of_reg hstat).trans (u.changeOver_busy _)
  · refine (State.flag_of_reg hstat).trans ?_
    rw [State.flag, u.changeOver_fields _ (by decide) (by simp [Field.apart]) (by simp [Field.apart]) (by simp [Field.apart])]
    exact hfault
  · refine (congrArg (Field.get Fld.LDR_PR_STAT_CAUSE) hstat).trans ?_
    exact (u.changeOver_fields _ (by decide) (by simp [Field.apart]) (by simp [Field.apart]) (by simp [Field.apart])).trans hrecord
  · exact (State.sticky_congr 410 (hreg _ (Or.inl (by decide)))).trans ((u.sticky_changeOver _ (by decide)).trans hsticky)

/-- ABORT of a change whose target, if it has one, has a power domain ends as O31 says (R404). -/
theorem ldrAbort_completes {s : State} (hawake : s.awake Reg.LDR_CMD) {mid : Mid} (hmid : ldrWriter mid = true) (value : Word32)
    (htarget : ∀ n ∈ s.ldr.target, n < 88) {c : Change} (hchange : s.ldr.change = some c) :
    Completes (.ldrAbort mid value) s fun t =>
      t.ldr.change = none ∧ t.flag Fld.LDR_PR_STAT_BUSY = false ∧ t.done.status = Code.ok ∧
      (c.kind = 2 → t.flag Fld.LDR_PR_STAT_REGION_FAULT = true ∧ t.fld Fld.LDR_PR_STAT_CAUSE = 5 ∧ t.sticky 410 = true) := by
  refine ⟨_, exec_ldrAbort hawake hmid value, ?_⟩
  by_cases hkind : c.kind = 2
  · obtain ⟨hnone, hbusy, hfault, hcause, hsticky⟩ := s.regionFault_spec c (cause := 5) (by decide) 0 htarget
    have habort : s.ldrAbort = (s.regionFault c 5 0).reply Code.ok := by
      rw [State.ldrAbort, hchange]
      dsimp only
      rw [if_pos hkind]
    rw [habort]
    exact ⟨hnone, hbusy, rfl, fun _ => ⟨hfault, hcause, hsticky⟩⟩
  · obtain ⟨hnone, hreg⟩ := s.changeFails_keeps c Code.ok htarget
    rw [State.ldrAbort_of_change hchange hkind]
    refine ⟨hnone, ?_, rfl, fun h => absurd h hkind⟩
    exact (State.flag_of_reg (hreg Reg.LDR_PR_STAT (Or.inr ⟨by decide, by decide⟩))).trans (s.changeOver_busy _)

/-! ## A target without a power domain -/

/-- A target that has no power domain: PWR_DSTAT of this number would be LDR_PR_STAT. -/
def strayTarget : Nat := (Reg.LDR_PR_STAT - Reg.PWR_DSTAT 0) / 4

/-- A paged load under way. -/
def strayChange : Change :=
  { kind := 1, mask := 0, due := none, hold := false, vs := 0, mark := false, stage := 2, identity := [], own := [], halted := false,
    patches := [], offsets := [] }

/-- The model after reset, with a paged load under way that has the stray target. -/
def strayAbort : State :=
  { State.reset with ldr := { State.reset.ldr with change := some strayChange, target := some strayTarget } }

/-- The shutdown of the stray target writes BUSY again. -/
theorem strayAbort_busy : (strayAbort.changeFails strayChange Code.ok).flag Fld.LDR_PR_STAT_BUSY = true := by decide +kernel

/-- Refutes O31: its clause on ABORT says of every change that LDR_PR_STAT.BUSY is 0 afterwards.  In `strayAbort` the abandoned change
names a target that has no power domain; switching the target off (log 101, the model's choice) writes its state into LDR_PR_STAT,
where it sets BUSY.  Where the target has a power domain the clause holds: `ldrAbort_completes`. -/
theorem not_loaderCommands : ¬ Obligations.LoaderCommands := by
  intro h
  obtain ⟨-, hcommands, -⟩ := h 0 0 [] 0 0 strayAbort
  have hawake : strayAbort.awake Reg.LDR_CMD := by decide +kernel
  obtain ⟨-, -, -, -, -, habort⟩ := hcommands hawake rfl
  obtain ⟨t, hexec, -, hbusy, -⟩ := habort strayChange rfl
  obtain rfl : strayAbort.ldrAbort = t := Host.Outcome.next.inj ((exec_ldrAbort hawake rfl 0).symm.trans hexec)
  rw [State.ldrAbort_of_change rfl (by decide)] at hbusy
  exact Bool.noConfusion (hbusy.symm.trans strayAbort_busy)

end Sys2Proof.Machine

/-! PROOFS.  Packets of the general plane: the registers of a node, packets in flight, and what a fault of a packet leaves (R196, R199). -/

namespace Sys2Proof.Machine

/-! ## The registers of a node (R214, R215) -/

/-- The registers of the Rhizome lie apart from those of the event machinery (R25). -/
theorem eventSafe_of_rhizome {f : Field} (hlow : 0x4000000 ≤ f.addr) (hhigh : f.addr < 0x5000000) : eventSafe f = true := by
  simp only [eventSafe, Reg.LIB_LOG_WP, Reg.LIB_LOG_DROP, Reg.LIB_STATUS, Reg.PWR_STATUS, Bool.and_eq_true, Bool.or_eq_true,
    Bool.not_eq_true', Bool.and_eq_false_iff, bne_iff_ne, decide_eq_true_eq, decide_eq_false_iff_not]
  omega

/-- A node's registers outside its tables lie in the Rhizome's range (R25, R215). -/
theorem nodeReg_range {n o : Nat} (hn : n < 48) (ho : o < 0x10000) :
    0x4000000 ≤ 0x4010000 + o + n * 0x10000 ∧ 0x4010000 + o + n * 0x10000 < 0x5000000 := by omega

theorem State.countReg_of_ne {s : State} {a : Nat} (h : s.reg a ≠ 0xFFFFFFFF) : s.countReg a = s.setReg a (s.reg a + 1) := if_neg h

@[simp] theorem State.nodeRaise_rz (s : State) (f : Field) (n : Nat) : (s.nodeRaise f n).rz = s.rz := State.raiseBit_rz s f (292 + n)

section
variable {n : Nat} (s : State) {f : Field} (hn : n < 48) (hf : f.addr = Reg.RZ_NODE_STAT n)
include hn hf

/-- A condition of a node is raised: its bit reads 1, and so does the sticky bit of the node's event (R215). -/
theorem State.nodeRaise_spec (hfits : f.fits = true) (hwidth : f.width = 1) :
    (s.nodeRaise f n).flag f = true ∧ (s.nodeRaise f n).sticky (292 + n) = true := by
  have hevent : 292 + n < 512 := by omega
  have hrange := nodeReg_range hn (o := 0) (by decide)
  exact ⟨State.flag_raiseBit_same s _ hevent (eventSafe_of_rhizome (hf ▸ hrange.1) (hf ▸ hrange.2)) hfits hwidth,
    State.sticky_raiseBit_same s f _ hevent⟩

theorem State.reg_nodeRaise_other {a : Nat} (hlow : 0x4000000 ≤ a) (hhigh : a < 0x5000000) (ha : a ≠ Reg.RZ_NODE_STAT n) :
    (s.nodeRaise f n).reg a = s.reg a :=
  State.reg_raiseBit_other s (by omega) (eventSafe_of_rhizome hlow hhigh) (hf ▸ ha)

/-- The requests outstanding at an endpoint stay counted. -/
theorem State.outst_nodeRaise {e : Nat} (he : e < 5) :
    (s.nodeRaise f n).fld (Fld.RZ_OUTST_COUNT n e) = s.fld (Fld.RZ_OUTST_COUNT n e) :=
  congrArg (Field.get (Fld.RZ_OUTST_COUNT n e)) (s.reg_nodeRaise_other hn hf (a := Reg.RZ_OUTST n e)
    (by simp only [Reg.RZ_OUTST]; omega) (by simp only [Reg.RZ_OUTST]; omega) (by simp only [Reg.RZ_OUTST, Reg.RZ_NODE_STAT]; omega))

/-- A packet dropped at a node is counted, and its condition raised (R196, R199). -/
theorem State.dropRaise_spec (hfits : f.fits = true) (hwidth : f.width = 1) (hdrop : s.reg (Reg.RZ_NODE_DROP n) ≠ 0xFFFFFFFF) :
    let t := (s.countReg (Reg.RZ_NODE_DROP n)).nodeRaise f n
    t.rz = s.rz ∧ t.flag f = true ∧ t.sticky (292 + n) = true ∧ t.reg (Reg.RZ_NODE_DROP n) = s.reg (Reg.RZ_NODE_DROP n) + 1 := by
  obtain ⟨hflag, hsticky⟩ := (s.countReg (Reg.RZ_NODE_DROP n)).nodeRaise_spec hn hf hfits hwidth
  refine ⟨by simp, hflag, hsticky, ?_⟩
  obtain ⟨hlow, hhigh⟩ := nodeReg_range hn (o := 8) (by decide)
  rw [State.reg_nodeRaise_other _ hn hf hlow hhigh (by simp only [Reg.RZ_NODE_STAT]; omega), State.countReg_of_ne hdrop,
    State.reg_setReg_same]

end

/-! ## Packets in flight (R194) -/

/-- The packet in flight of a number. -/
abbrev State.flightAt (s : State) (id : Nat) : Option Flight := Sparse.get none s.rz.flights id

section
variable (s : State) (id : Nat)

theorem State.flightAt_setFlight_same (f : Flight) : (s.setFlight id f).flightAt id = some f := by
  simp [State.flightAt, State.setFlight]

theorem State.flightAt_setFlight_other (f : Flight) {k : Nat} (h : k ≠ id) : (s.setFlight id f).flightAt k = s.flightAt k := by
  simp [State.flightAt, State.setFlight, Sparse.get_put_other, h]

theorem State.flightAt_dropFlight_same : (s.dropFlight id).flightAt id = none := by
  simp [State.flightAt, State.dropFlight]

/-- A packet put on the plane stands at its node, with the injection epoch, and has crossed no link. -/
theorem State.flightAt_sendFlight_new (node : Nat) (p : Packet) : (s.sendFlight node p).flightAt s.rz.nextId =
    some { pkt := p, node := node, hops := 0, epoch := s.fld Fld.RZ_EPOCH_GP_EPOCH, marked := false, held := false, arrived := false } := by
  simp [State.flightAt, State.sendFlight]

theorem State.flightAt_sendFlight_other (node : Nat) (p : Packet) {k : Nat} (h : k ≠ s.rz.nextId) :
    (s.sendFlight node p).flightAt k = s.flightAt k := by
  simp [State.flightAt, State.sendFlight, Sparse.get_put_other, h]

end

/-! ## The end of a packet at a node (R195) -/

section
variable {s : State} {id node : Nat} {p : Packet} {code : Status} {data : List (BitVec 256)}

theorem State.endPacket_of_req (h : p.cls = 0) : s.endPacket id node p code data =
    (s.dropFlight id).sendFlight node (packetAnswer p node p.dep.toNat code data) := if_pos h

theorem State.endPacket_of_not_req (h : p.cls ≠ 0) : s.endPacket id node p code data = s.dropFlight id := if_neg h

@[simp] theorem State.reg_endPacket (a : Nat) : (s.endPacket id node p code data).reg a = s.reg a := by
  by_cases h : p.cls = 0
  · rw [State.endPacket_of_req h]; rfl
  · rw [State.endPacket_of_not_req h]; rfl

/-- A request that ends at a node leaves the plane, and its answer enters it. -/
theorem State.endPacket_answers (h : p.cls = 0) (hid : id ≠ s.rz.nextId) :
    let t := s.endPacket id node p code data
    t.flightAt id = none ∧ t.rz.nextId = s.rz.nextId + 1 ∧
      ∃ g, t.flightAt s.rz.nextId = some g ∧ g.node = node ∧ g.pkt = packetAnswer p node p.dep.toNat code data := by
  rw [State.endPacket_of_req h]
  refine ⟨?_, rfl, _, State.flightAt_sendFlight_new (s.dropFlight id) _ _, rfl, rfl⟩
  rw [State.flightAt_sendFlight_other (s.dropFlight id) _ _ hid, State.flightAt_dropFlight_same]

end

end Sys2Proof.Machine

/-! PROOFS.  Injection into the general plane (R200, R204, R205). -/

namespace Sys2Proof.Machine

/-! ## Buckets -/

theorem levelField_addr (n e : Nat) (mgt : Bool) : (levelField n e mgt).addr = Reg.RZ_TB_LEVEL n e := by
  cases mgt <;> rfl

/-- A refill changes the level of its bucket and the time of its refill, and nothing else. -/
theorem State.refill_eq (s : State) (n e : Nat) (mgt : Bool) : ∃ times level,
    s.refill n e mgt = ({ s with rz := { s.rz with refilled := times } } : State).setFld (levelField n e mgt) level := ⟨_, _, rfl⟩

theorem State.refills_spec (s : State) (n e : Nat) : ∃ times,
    ((s.refill n e false).refill n e true).rz = { s.rz with refilled := times } ∧
    ∀ f : Field, f.addr ≠ Reg.RZ_TB_LEVEL n e → ((s.refill n e false).refill n e true).fld f = s.fld f := by
  obtain ⟨r1, v1, h1⟩ := s.refill_eq n e false
  obtain ⟨r2, v2, h2⟩ := (s.refill n e false).refill_eq n e true
  refine ⟨r2, by rw [h2, h1]; rfl, fun f hf => ?_⟩
  rw [h2, State.setFld, State.fld_setReg_other _ _ _ (by rwa [levelField_addr]), h1]
  exact State.fld_setReg_other _ _ _ (by rwa [levelField_addr])

/-- No bucket regulates a packet: its class has none, or the bucket of its class has RATE 0 (R204). -/
def State.unregulated (s : State) (n e : Nat) (p : Packet) : Bool :=
  (p.cls != 0 && p.cls != 2) || s.fld (rateField n e (p.cls == 2)) == 0

section
variable {s : State} {n e : Nat} {p : Packet} (h : s.unregulated n e p = true)
include h

theorem State.hasTokens_of_unregulated : s.hasTokens n e p = true := by
  rw [State.unregulated] at h
  rw [State.hasTokens, h, Bool.true_or, Bool.true_or]

theorem State.takeTokens_of_unregulated : s.takeTokens n e p = s := if_pos h

end

/-- A response has no bucket, and a request passes where its bucket has RATE 0. -/
theorem State.unregulated_of {s : State} {n e : Nat} {p : Packet} (h : p.cls = 1 ∨ p.cls = 0 ∧ s.fld (rateField n e false) = 0) :
    s.unregulated n e p = true := by
  rcases h with hcls | ⟨hcls, hrate⟩
  · rw [State.unregulated, hcls]; rfl
  · simp [State.unregulated, hcls, hrate]

theorem State.unregulated_congr {s t : State} {n e : Nat} {p : Packet}
    (h : ∀ f : Field, f.addr ≠ Reg.RZ_TB_LEVEL n e → t.fld f = s.fld f) : t.unregulated n e p = s.unregulated n e p := by
  rw [State.unregulated, State.unregulated, h]
  cases p.cls == 2 <;> simp [rateField]

/-! ## The queue of an endpoint -/

/-- The packets that wait replaced. -/
def State.withWaiting (s : State) (l : List (Nat × Packet)) : State := { s with rz := { s.rz with waiting := l } }

theorem State.unregulated_withWaiting (s : State) (l : List (Nat × Packet)) (n e : Nat) (p : Packet) :
    (s.withWaiting l).unregulated n e p = s.unregulated n e p := State.unregulated_congr fun f _ => State.fld_congr rfl f

/-- A packet that no bucket regulates, where none waits, is sent at once: the queue is as it was (R204). -/
theorem State.queuePacket_sends {s : State} {n e : Nat} {p : Packet} (hfree : ∀ w ∈ s.rz.waiting, w.1 ≠ n * 8 + e)
    (hpass : s.unregulated n e p = true) :
    ∃ (u : State) (times : Pairs Nat), s.queuePacket n e p = u.sendFlight n p ∧ u.rz = { s.rz with refilled := times } ∧
      ∀ f : Field, f.addr ≠ Reg.RZ_TB_LEVEL n e → u.fld f = s.fld f := by
  let key := n * 8 + e
  let queued := s.withWaiting (s.rz.waiting ++ [(key, p)])
  have hqueue : s.queuePacket n e p = queued.injectPacket n e := rfl
  obtain ⟨times, hrz, hfld⟩ := queued.refills_spec n e
  rw [hqueue, State.injectPacket]
  generalize (queued.refill n e false).refill n e true = s0 at hrz hfld ⊢
  have hwaiting : s0.rz.waiting = s.rz.waiting ++ [(key, p)] := by rw [hrz]; rfl
  have hfind : s0.rz.waiting.find? (fun w => w.1 == key) = some (key, p) := by
    have hrest : s.rz.waiting.find? (fun w => w.1 == key) = none := by simpa [List.find?_eq_none] using hfree
    simp [hwaiting, List.find?_append, hrest]
  have herase : s0.rz.waiting.erase (key, p) = s.rz.waiting := by
    rw [hwaiting, List.erase_append_right _ fun h => hfree _ h rfl, List.erase_cons_head, List.append_nil]
  have hpass0 : s0.unregulated n e p = true :=
    (State.unregulated_congr hfld).trans ((State.unregulated_withWaiting _ _ _ _ _).trans hpass)
  have htaken : (s0.withWaiting s.rz.waiting).takeTokens n e p = s0.withWaiting s.rz.waiting :=
    State.takeTokens_of_unregulated ((State.unregulated_withWaiting _ _ _ _ _).trans hpass0)
  refine ⟨s0.withWaiting s.rz.waiting, times, ?_, ?_, fun f hf => (hfld f hf).trans (State.fld_congr rfl f)⟩
  · dsimp only
    rw [hfind]
    dsimp only
    rw [if_pos (State.hasTokens_of_unregulated hpass0), herase]
    exact congrArg (State.sendFlight · n p) htaken
  · rw [State.withWaiting, hrz]
    rfl

/-- What a packet that is sent at once leaves: its flight, and the rest of the plane as it was. -/
theorem State.queuePacket_spec {s : State} {n e : Nat} {p : Packet} (hfree : ∀ w ∈ s.rz.waiting, w.1 ≠ n * 8 + e)
    (hpass : s.unregulated n e p = true) :
    let t := s.queuePacket n e p
    t.flightAt s.rz.nextId = some { pkt := p, node := n, hops := 0, epoch := s.fld Fld.RZ_EPOCH_GP_EPOCH, marked := false,
                                    held := false, arrived := false } ∧
    (∀ k, k ≠ s.rz.nextId → t.flightAt k = s.flightAt k) ∧ t.rz.nextId = s.rz.nextId + 1 ∧ t.rz.waiting = s.rz.waiting ∧
    t.rz.tags = s.rz.tags ∧ ∀ f : Field, f.addr ≠ Reg.RZ_TB_LEVEL n e → t.fld f = s.fld f := by
  obtain ⟨u, times, hsent, hrz, hfld⟩ := State.queuePacket_sends hfree hpass
  have hid : u.rz.nextId = s.rz.nextId := by rw [hrz]
  have hepoch : u.fld Fld.RZ_EPOCH_GP_EPOCH = s.fld Fld.RZ_EPOCH_GP_EPOCH :=
    hfld _ (by simp only [Reg.RZ_EPOCH, Reg.RZ_TB_LEVEL]; omega)
  have hflights : ∀ k, u.flightAt k = s.flightAt k := fun k => by rw [State.flightAt, hrz]
  have hrest : (u.sendFlight n p).rz.nextId = u.rz.nextId + 1 ∧ (u.sendFlight n p).rz.waiting = u.rz.waiting ∧
      (u.sendFlight n p).rz.tags = u.rz.tags := ⟨rfl, rfl, rfl⟩
  rw [hrz] at hrest
  rw [hsent]
  refine ⟨?_, fun k hk => ?_, hrest.1, hrest.2.1, hrest.2.2, fun f hf => (State.fld_congr rfl f).trans (hfld f hf)⟩
  · rw [← hid, State.flightAt_sendFlight_new, hepoch]
  · rw [State.flightAt_sendFlight_other _ _ _ (hid ▸ hk), hflights]

/-! ## Tags (R200) -/

section
variable (s : State) (n e t : Nat)

theorem State.holdTag_tags_same (x : RzTag) : Sparse.get none (s.holdTag n e t x).rz.tags (tagKey n e t) = some x := by
  simp [State.holdTag, tagKey]

theorem State.freeUp_tags_same : Sparse.get none (s.freeUp n e t).rz.tags (tagKey n e t) = none := by
  simp [State.freeUp]

theorem State.freeUp_tags_other {k : Nat} (h : k ≠ tagKey n e t) :
    Sparse.get none (s.freeUp n e t).rz.tags k = Sparse.get none s.rz.tags k := by
  simp [State.freeUp, Sparse.get_put_other, h]

end

/-! ## New packets -/

/-- A packet with the stamp of its injection point (R195). -/
def stamped (n ep : Nat) (m : Mid) (p : Packet) : Packet := { p with snode := BitVec.ofNat 6 n, sep := BitVec.ofNat 3 ep, mid := m }

section
variable {node : Fin 48} {ep : Fin 5} {p : Packet} {m : Mid} {s : State}

theorem State.stampPacket_of {n e : Nat} (h : s.stampOf n e = some m) : s.stampPacket n e p = (stamped n e m p, s) := by
  rw [State.stampPacket]
  dsimp only
  rw [h]
  rfl

theorem completes_packetInjection {P : State → Prop} (hserves : serves node ep = true) (hlen : p.data.length ≤ 15)
    (h : P (s.newPacket node ep p)) : Completes (.packetInjection node ep (some p)) s P := by
  refine ⟨_, rfl, ?_⟩
  rw [if_pos hserves]
  dsimp only
  rwa [if_pos hlen]

variable (hserves : serves node ep = true) (hlen : p.data.length ≤ 15)
include hserves hlen

/-- A response passes its injection point with the stamp (R195, R204). -/
theorem responseInjection_completes (hfree : ∀ w ∈ s.rz.waiting, w.1 ≠ node.val * 8 + ep.val) (hcls : p.cls = 1)
    (hstamp : s.stampOf node ep = some m) : Completes (.packetInjection node ep (some p)) s fun t =>
      t.flightAt s.rz.nextId = some
        { pkt := stamped node ep m p, node := node, hops := 0, epoch := s.fld Fld.RZ_EPOCH_GP_EPOCH, marked := false, held := false,
          arrived := false } ∧
      t.rz.nextId = s.rz.nextId + 1 ∧ t.rz.waiting = s.rz.waiting ∧ ∀ k, k ≠ s.rz.nextId → t.flightAt k = s.flightAt k := by
  have hnew : s.newPacket node ep p = s.queuePacket node ep (stamped node ep m p) := by
    rw [State.newPacket, State.stampPacket_of hstamp]
    exact if_neg (by rw [hcls]; decide)
  obtain ⟨hflight, hothers, hid, hwaiting, -, -⟩ :=
    State.queuePacket_spec (p := stamped node ep m p) hfree (State.unregulated_of (Or.inl hcls))
  refine completes_packetInjection hserves hlen ?_
  rw [hnew]
  exact ⟨hflight, hid, hwaiting, hothers⟩

/-- A request within its quota takes a free tag, counts as outstanding and is sent (R200, R204, R205).  That it holds its tag from its
queueing on is the model's choice (log 83). -/
theorem requestInjection_completes (hfree : ∀ w ∈ s.rz.waiting, w.1 ≠ node.val * 8 + ep.val) (hcls : p.cls = 0)
    (hstamp : s.stampOf node ep = some m) (hquota : s.rzOverQuota node ep = false) (hcount : s.fld (Fld.RZ_OUTST_COUNT node ep) < 64)
    (hrate : s.fld (rateField node ep false) = 0) : Completes (.packetInjection node ep (some p)) s fun t =>
      (∃ f, t.flightAt s.rz.nextId = some f ∧ f.pkt.tag = BitVec.ofNat 10 (s.freeTag node ep) ∧ f.pkt.mid = m ∧ f.node = node) ∧
      Sparse.get none t.rz.tags (tagKey node ep (s.freeTag node ep)) =
        some { mid := m, addr := p.addr.toNat, write := p.opc == 1, timedOut := false } ∧
      t.fld (Fld.RZ_OUTST_COUNT node ep) = s.fld (Fld.RZ_OUTST_COUNT node ep) + 1 := by
  have hnew : s.newPacket node ep p = s.admitReq node ep (stamped node ep m p) := by
    rw [State.newPacket, State.stampPacket_of hstamp]
    dsimp only
    rw [if_pos hcls, hquota, if_neg Bool.false_ne_true, if_neg (Nat.not_le.2 hcount)]
  let tag := s.freeTag node ep
  let held := s.holdTag node ep tag { mid := m, addr := p.addr.toNat, write := p.opc == 1, timedOut := false }
  let counted := held.setFld (Fld.RZ_OUTST_COUNT node ep) (s.fld (Fld.RZ_OUTST_COUNT node ep) + 1)
  let q : Packet := { stamped node ep m p with tag := BitVec.ofNat 10 tag }
  have hadmit : s.admitReq node ep (stamped node ep m p) = counted.queuePacket node ep q := rfl
  have hrate' : counted.fld (rateField node ep false) = 0 := by
    refine (State.fld_setReg_other _ _ _ ?_).trans hrate
    change Reg.RZ_TB_REQ node ep ≠ Reg.RZ_OUTST node ep
    simp only [Reg.RZ_TB_REQ, Reg.RZ_OUTST]
    omega
  obtain ⟨hflight, -, -, -, htags, hfld⟩ :=
    State.queuePacket_spec (s := counted) (p := q) hfree (State.unregulated_of (Or.inr ⟨hcls, hrate'⟩))
  refine completes_packetInjection hserves hlen ?_
  rw [hnew, hadmit]
  refine ⟨⟨_, hflight, rfl, rfl, rfl⟩, ?_, ?_⟩
  · rw [htags]
    exact State.holdTag_tags_same s node ep tag _
  · rw [hfld _ (by simp only [Reg.RZ_OUTST, Reg.RZ_TB_LEVEL]; omega), State.fld_setFld_same _ _ _ rfl]
    exact Nat.mod_eq_of_lt (by dsimp only; omega)

/-- A request over its quota is refused, and not sent (R205). -/
theorem overQuotaInjection_completes (hcls : p.cls = 0) (hquota : s.rzOverQuota node ep = true) :
    Completes (.packetInjection node ep (some p)) s fun t =>
      t.flag (Fld.RZ_NODE_STAT_OVER_QUOTA node) = true ∧ t.sticky (292 + node.val) = true ∧
      t.out.getLast? = some (.packetDone node ep 0 Code.overQuota []) ∧ OnlyEv [Fld.RZ_NODE_STAT_OVER_QUOTA node] s t := by
  have hnew : s.newPacket node ep p = s.overQuota node ep := by
    rw [State.newPacket, if_pos hcls, if_pos hquota]
  obtain ⟨hflag, hsticky⟩ := s.nodeRaise_spec node.isLt (f := Fld.RZ_NODE_STAT_OVER_QUOTA node) rfl rfl rfl
  refine completes_packetInjection hserves hlen ?_
  rw [hnew]
  exact ⟨hflag, hsticky, List.getLast?_concat .., ((OnlyEv.refl _ s).raiseBit _ _ rfl List.mem_cons_self (by omega)).emit _⟩

end

end Sys2Proof.Machine
/-! PROOFS.  Hops of the general plane (R196, R199, R210). -/

namespace Sys2Proof.Machine

/-! ## The checks of a node (R199) -/

theorem State.checkData_clean (s : State) (f : Flight) : s.checkData f .clean = (s, f) := by
  rw [State.checkData]
  split <;> rfl

/-! ## The route of a packet (R196) -/

section
variable {s : State} {id n : Nat} {f : Flight}

theorem State.route_of_link {m : Nat} (hnode : f.node = n) (hhops : f.hops < 15) (hlow : 1 ≤ s.routeCode f) (hhigh : s.routeCode f ≤ 4)
    (hm : neighbour n (s.routeCode f) = some m) : s.route id f = s.hopTo id f m := by
  rw [State.route]
  rw [if_neg fun h => by omega, if_neg (by omega), if_neg (by omega), hnode, hm]

theorem State.route_of_endpoint (hhops : f.hops < 15) (hcode : s.routeCode f = 5) (hhere : f.pkt.dnode.toNat = f.node)
    (hserves : serves f.node f.pkt.dep.toNat = true) : s.route id f = s.arrive id f := by
  rw [State.route]
  rw [if_neg fun h => by omega, if_neg (by omega), if_pos hcode, hserves, Bool.and_true, if_pos (beq_iff_eq.2 hhere)]

theorem State.route_of_none (hhops : f.hops < 15) (hcode : s.routeCode f = 0) : s.route id f = s.noRoute id f := by
  rw [State.route]
  rw [if_neg fun h => by omega, if_pos hcode]

/-- An endpoint whose block takes requests, or any endpoint for a response, has a well-formed packet in hand (R195, R210). -/
theorem State.arrive_of_open (hwf : packetMalformed f.pkt = false)
    (hopen : ∀ d, s.endpointDomain f.node f.pkt.dep.toNat = some d → f.pkt.cls = 1 ∨ s.domState d = 0 ∨ s.domState d = 5) :
    s.arrive id f = s.setFlight id { f with arrived := true } := by
  rw [State.arrive, hwf, if_neg Bool.false_ne_true]
  split
  next d hd => exact if_pos (hopen d hd)
  next => rfl

theorem State.hopTo_of_open {m : Nat} (hopen : s.domState (58 + m % 8) = 0 ∨ s.domState (58 + m % 8) = 5) :
    s.hopTo id f m = s.setFlight id { f with node := m, hops := f.hops + 1 } :=
  if_pos (hopen.imp_right Or.inl)

end

/-! ## The hops -/

section
variable {s : State} {id n : Nat} {f : Flight} (hflight : s.flightAt id = some f)
  (hheld : f.held = false) (harrived : f.arrived = false)
include hflight hheld harrived

theorem completes_packetHop {hdr data : EccFind} {P : State → Prop}
    (h : P (let x := s.checkHeader id f.node hdr
            if x.2 then (let y := x.1.checkData f data; y.1.route id y.2) else x.1)) :
    Completes (.packetHop id hdr data) s P := by
  refine ⟨_, rfl, ?_⟩
  rw [State.flightAt] at hflight
  rw [hflight]
  dsimp only
  rwa [hheld, harrived, Bool.or_false, if_neg Bool.false_ne_true]

theorem completes_cleanHop {P : State → Prop} (h : P (s.route id f)) : Completes (.packetHop id .clean .clean) s P := by
  refine completes_packetHop hflight hheld harrived ?_
  rw [State.checkHeader]
  dsimp only
  rwa [if_pos rfl, State.checkData_clean]

/-- A packet goes to the neighbour that its route names (R196). -/
theorem linkHop_completes {m : Nat} (hnode : f.node = n) (hhops : f.hops < 15) (hlow : 1 ≤ s.routeCode f) (hhigh : s.routeCode f ≤ 4)
    (hm : neighbour n (s.routeCode f) = some m) (hopen : s.domState (58 + m % 8) = 0 ∨ s.domState (58 + m % 8) = 5) :
    Completes (.packetHop id .clean .clean) s fun t =>
      t.flightAt id = some { f with node := m, hops := f.hops + 1 } ∧ (∀ k, k ≠ id → t.flightAt k = s.flightAt k) ∧
      t = { s with rz := { s.rz with flights := t.rz.flights } } := by
  refine completes_cleanHop hflight hheld harrived ?_
  rw [State.route_of_link hnode hhops hlow hhigh hm, State.hopTo_of_open hopen]
  exact ⟨s.flightAt_setFlight_same id _, fun k hk => s.flightAt_setFlight_other id _ hk, rfl⟩

/-- A packet reaches its endpoint (R195, R210). -/
theorem endpointHop_completes (hnode : f.node = n) (hhops : f.hops < 15) (hcode : s.routeCode f = 5) (hhere : f.pkt.dnode.toNat = n)
    (hserves : serves n f.pkt.dep.toNat = true) (hwf : packetMalformed f.pkt = false)
    (hopen : ∀ d, s.endpointDomain n f.pkt.dep.toNat = some d → f.pkt.cls = 1 ∨ s.domState d = 0 ∨ s.domState d = 5) :
    Completes (.packetHop id .clean .clean) s fun t =>
      t.flightAt id = some { f with arrived := true } ∧ t = { s with rz := { s.rz with flights := t.rz.flights } } := by
  subst hnode
  refine completes_cleanHop hflight hheld harrived ?_
  rw [State.route_of_endpoint hhops hcode hhere hserves, State.arrive_of_open hwf hopen]
  exact ⟨s.flightAt_setFlight_same id _, rfl⟩

/-- A packet without a route is dropped, and a request answered RZ_NOROUTE (R196). -/
theorem noRouteHop_completes (hn : n < 48) (hnode : f.node = n) (hhops : f.hops < 15) (hcode : s.routeCode f = 0)
    (hdrop : s.reg (Reg.RZ_NODE_DROP n) ≠ 0xFFFFFFFF) (hid : id ≠ s.rz.nextId) :
    Completes (.packetHop id .clean .clean) s fun t =>
      t.flightAt id = none ∧ t.flag (Fld.RZ_NODE_STAT_NOROUTE n) = true ∧ t.sticky (292 + n) = true ∧
      t.reg (Reg.RZ_NODE_DROP n) = s.reg (Reg.RZ_NODE_DROP n) + 1 ∧
      (f.pkt.cls = 0 → ∃ g, t.flightAt s.rz.nextId = some g ∧ g.pkt.status = Code.rzNoroute ∧ g.pkt.dnode = f.pkt.snode) ∧
      (f.pkt.cls ≠ 0 → t.rz.nextId = s.rz.nextId) := by
  subst hnode
  refine completes_cleanHop hflight hheld harrived ?_
  rw [State.route_of_none hhops hcode]
  obtain ⟨hrz, hflag, hsticky, hreg⟩ := (s.endPacket id f.node f.pkt Code.rzNoroute []).dropRaise_spec hn
    (f := Fld.RZ_NODE_STAT_NOROUTE f.node) rfl rfl rfl (by rwa [State.reg_endPacket])
  rw [State.reg_endPacket] at hreg
  change (s.noRoute id f).rz = _ at hrz
  refine ⟨?_, hflag, hsticky, hreg, fun hcls => ?_, fun hcls => ?_⟩
  · rw [State.flightAt, hrz]
    by_cases hcls : f.pkt.cls = 0
    · exact (State.endPacket_answers hcls hid).1
    · rw [State.endPacket_of_not_req hcls]
      exact s.flightAt_dropFlight_same id
  · obtain ⟨-, -, g, hg, -, hpkt⟩ := State.endPacket_answers (data := []) (code := Code.rzNoroute) (node := f.node) hcls hid
    exact ⟨g, by rw [State.flightAt, hrz]; exact hg, by rw [hpkt]; rfl, by rw [hpkt]; rfl⟩
  · rw [hrz, State.endPacket_of_not_req hcls]
    rfl

/-- A packet whose header is uncorrectable is discarded (R199). -/
theorem headerFaultHop_completes (hn : n < 48) (hnode : f.node = n) (hdrop : s.reg (Reg.RZ_NODE_DROP n) ≠ 0xFFFFFFFF) :
    Completes (.packetHop id .uncorrectable .clean) s fun t =>
      t.flightAt id = none ∧ t.flag (Fld.RZ_NODE_STAT_HDR_UNC n) = true ∧ t.sticky (292 + n) = true ∧
      t.reg (Reg.RZ_NODE_DROP n) = s.reg (Reg.RZ_NODE_DROP n) + 1 ∧ t.rz.nextId = s.rz.nextId := by
  subst hnode
  obtain ⟨hrz, hflag, hsticky, hreg⟩ :=
    (s.dropFlight id).dropRaise_spec hn (f := Fld.RZ_NODE_STAT_HDR_UNC f.node) rfl rfl rfl hdrop
  refine completes_packetHop hflight hheld harrived ?_
  refine ⟨?_, hflag, hsticky, hreg, (congrArg (fun r : RzSt => r.nextId) hrz :)⟩
  exact (congrArg (fun r : RzSt => Sparse.get none r.flights id) hrz :).trans (s.flightAt_dropFlight_same id)

end

end Sys2Proof.Machine
/-! PROOFS.  Requests and messages at their endpoint (R195, R199). -/

namespace Sys2Proof.Machine

/-! ## Answers -/

/-- The request `f` of number `id`, at its endpoint at node `n`, has left the plane, and its answer has entered it (R195). -/
def State.Answered (s : State) (id n : Nat) (f : Flight) (t : State) (opc : BitVec 4) (code : Status) (data : List (BitVec 256)) : Prop :=
  t.flightAt id = none ∧ t.rz.nextId = s.rz.nextId + 1 ∧ ∃ g, t.flightAt s.rz.nextId = some g ∧ g.node = n ∧ g.pkt.opc = opc ∧
    g.pkt.cls = 1 ∧ g.pkt.dnode = f.pkt.snode ∧ g.pkt.dep = f.pkt.sep ∧ g.pkt.tag = f.pkt.tag ∧ g.pkt.status = code ∧
    g.pkt.data = data

/-- A request carried out without an effect on the plane is answered. -/
theorem State.endPacket_answered {s u : State} {id n : Nat} {f : Flight} {code : Status} {data : List (BitVec 256)} (hrz : u.rz = s.rz)
    (hcls : f.pkt.cls = 0) (hid : id ≠ s.rz.nextId) (hnode : f.node = n) :
    s.Answered id n f (u.endPacket id f.node f.pkt code data) (if f.pkt.opc = 0 then 2 else 3) code data := by
  obtain ⟨hgone, hnext, g, hg, hgnode, hpkt⟩ :=
    State.endPacket_answers (s := u) (node := f.node) (code := code) (data := data) hcls (hrz ▸ hid)
  rw [hrz] at hnext hg
  refine ⟨hgone, hnext, g, hg, hgnode.trans hnode, ?_⟩
  rw [hpkt]
  exact ⟨rfl, rfl, rfl, rfl, rfl, rfl, rfl⟩

/-! ## Reads of the memory (R326, R327, R338, R339) -/

section
variable {s : State} {mid : Mid} {a n : Nat}

/-- A request that no condition refuses raises none. -/
theorem State.hbmConditions_of_none {write held : Bool} (h : (s.hbmConditions mid a n write held).2 = none) :
    s.hbmConditions mid a n write held = (s, none) := by
  rw [State.hbmConditions] at h ⊢
  dsimp only at h ⊢
  generalize (!(s.hbmMay mid a write && s.hbmMay mid (a + n - 1) write) || decide (2 ^ 34 < a + n)) = denied at h ⊢
  generalize (if held = true then none else s.atQuota a) = quota at h ⊢
  generalize (!s.flag Fld.HBM_STATUS_READY) = cold at h ⊢
  cases denied
  case true => exact absurd h (by simp)
  case false =>
    cases quota
    case some r => exact absurd h (by simp)
    case none =>
      cases cold
      case true => exact absurd h (by simp)
      case false => rfl

/-- A read that no condition refuses, of words that check clean, returns the bytes. -/
theorem State.hbmReadWords_of_none (h : (s.hbmConditions mid a n false).2 = none) :
    s.hbmReadWords mid a n [] = (s, Code.ok, s.hbmBytes a n) := by
  rw [State.hbmReadWords, State.hbmConditions_of_none h]
  dsimp only
  rw [List.take_nil, State.hbmEccs]

end

/-! ## Registers as plain storage -/

section
variable (s : State)

@[simp] theorem State.persist_rz : s.persist.rz = s.rz := by
  have halarms : ((List.range 80).foldl (fun s i => if s.alarming i then s.setFlag (alarmField i) true else s) s).rz = s.rz :=
    foldl_keeps (fun t : State => t.rz) _ _ s fun t i _ => by split <;> rfl
  rw [State.persist]
  generalize List.foldl _ s (List.range 80) = s1 at halarms ⊢
  rw [← halarms]
  (repeat' split) <;> simp

@[simp] theorem State.lockViolation_rz (a : Nat) : (s.lockViolation a).rz = s.rz := by
  rw [State.lockViolation]
  (repeat' split) <;> simp

@[simp] theorem State.storeReg_rz (a : Nat) (v : Word32) : (s.storeReg a v).rz = s.rz := by
  rw [State.storeReg]
  dsimp only
  (repeat' split) <;> simp

end

/-! ## Writes of the carrel block's own registers (R508) -/

theorem seqAlias_of_lt {a : Nat} (h : a < 0x0C000000) : seqAlias a = none := if_neg fun hin => by omega

section
variable {s : State} {mid : Mid} {a : Nat} (v : Word32) (hlow : 0x01200000 ≤ a) (hhigh : a < 0x01200100) (hmid : isManager mid = true)
include hlow hhigh hmid

theorem State.blockWrite_carrelControl : s.blockWrite mid a v = s.storeReg a v := by
  have hnot : ¬ (a = Reg.LIB_BERR 0 ∨ a = Reg.LIB_BERR 1) := by simp only [Reg.LIB_BERR]; omega
  rw [State.blockWrite, if_neg (by omega), if_neg (by omega), if_neg (by omega), if_neg (by omega), if_neg (by omega), if_neg hnot,
    if_neg (by omega), if_neg (by omega), if_pos (by omega), State.crlRegWrite, if_pos hhigh, if_pos hmid]

theorem State.endpointReg_carrelControl : s.endpointReg mid a (some v) = s.storeReg a v := by
  unfold State.endpointReg
  rw [if_neg (by omega), seqAlias_of_lt (by omega)]
  exact State.blockWrite_carrelControl v hlow hhigh hmid

theorem exec_registerWrite_carrelControl (halign : a % 4 = 0) (hawake : s.awake a) :
    exec (.registerWrite mid (BitVec.ofNat 28 a) v) s = .next (s.storeReg a v) := by
  have haddr : alignReg (BitVec.ofNat 28 a).toNat = a := by
    rw [BitVec.toNat_ofNat, Nat.mod_eq_of_lt (by omega), alignReg]
    omega
  refine congrArg Host.Outcome.next ?_
  rw [State.busWrite, haddr, seqAlias_of_lt (by omega)]
  dsimp only
  rw [State.gate_of_awake hawake, State.blockWrite_carrelControl v hlow hhigh hmid]

end

/-! ## The registers of a packet (R194) -/

/-- Registers whose lanes are off are not accessed. -/
theorem State.regUnits_of_off (s : State) (mid : Mid) {l : List (Nat × Option Word32 × Bool)} (h : ∀ x ∈ l, x.2.2 = false) :
    (s.regUnits mid l).1 = s ∧ (s.regUnits mid l).2.1 = Code.ok := by
  induction l with
  | nil => exact ⟨rfl, rfl⟩
  | cons x r ih =>
    obtain ⟨a, w, on⟩ := x
    obtain rfl : on = false := h _ List.mem_cons_self
    exact ih fun y hy => h y (List.mem_cons_of_mem _ hy)

/-- Where one lane alone is on, the access to its register is the whole. -/
theorem State.regUnits_of_first (s : State) (mid : Mid) (a : Nat) (w : Option Word32) {l : List (Nat × Option Word32 × Bool)}
    (h : ∀ x ∈ l, x.2.2 = false) :
    (s.regUnits mid ((a, w, true) :: l)).1 = s.endpointReg mid a w ∧
      (s.regUnits mid ((a, w, true) :: l)).2.1 = (s.endpointReg mid a w).done.status := by
  obtain ⟨hstate, hok⟩ := (s.endpointReg mid a w).regUnits_of_off mid h
  refine ⟨hstate, ?_⟩
  rw [State.regUnits, if_pos rfl]
  dsimp only
  rw [hok]
  split
  next hstatus => exact hstatus.symm
  next => rfl

/-- The access of lane `i` of a write of `n` data units (R194, R195). -/
def laneWrite (p : Packet) (n i : Nat) : Nat × Option Word32 × Bool :=
  (packetAddr p (i / 8) + 4 * (i % 8), some (BitVec.ofNat 32 ((p.data.getD (i / 8) 0).toNat >>> (32 * (i % 8)))),
   laneBe (packetEnables p (i / 8) n) (i % 8) == 15)

/-- The registers of a write are accessed lane by lane. -/
theorem State.wrRun_of_registers {s : State} {f : Flight} (ecc : List EccFind) (hmarked : f.marked = false) (hdep : f.pkt.dep ≠ 2) :
    let x := s.regUnits f.pkt.mid ((List.range (8 * f.pkt.data.length)).map (laneWrite f.pkt f.pkt.data.length))
    s.wrRun f ecc = (x.1, x.2.1) := by
  rw [State.wrRun, hmarked, if_neg Bool.false_ne_true, if_neg hdep]
  rfl

section
variable {p : Packet} (hbe : p.firstBe = 0xF)
include hbe

theorem laneWrite_first : laneWrite p 1 0 = (packetAddr p 0, some (BitVec.ofNat 32 (p.data.headD 0).toNat), true) := by
  have hdata : p.data.getD 0 0 = p.data.headD 0 := by cases p.data <;> rfl
  have hon : (laneBe (packetEnables p 0 1) 0 == 15) = true := by
    rw [packetEnables, if_pos rfl, hbe]
    decide
  simp only [laneWrite, Nat.zero_div, Nat.zero_mod, hdata, hon]
  rfl

theorem laneWrite_rest {i : Nat} (h : i < 7) : (laneWrite p 1 (i + 1)).2.2 = false := by
  have hoff : ∀ i < 7, (laneBe 0xF (i + 1) == 15) = false := by decide
  rw [laneWrite, Nat.div_eq_of_lt (by omega), Nat.mod_eq_of_lt (by omega), packetEnables, if_pos rfl, hbe]
  exact hoff i h

end

/-- One data unit with the enables of its first lane alone writes one register (DEDUCED, log 84). -/
theorem State.wrRun_of_first_lane {s : State} {f : Flight} (ecc : List EccFind) (hmarked : f.marked = false) (hdep : f.pkt.dep ≠ 2)
    (hlen : f.pkt.data.length = 1) (hbe : f.pkt.firstBe = 0xF) :
    let u := s.endpointReg f.pkt.mid (packetAddr f.pkt 0) (some (BitVec.ofNat 32 (f.pkt.data.headD 0).toNat))
    s.wrRun f ecc = (u, u.done.status) := by
  have hlanes : (List.range (8 * 1)).map (laneWrite f.pkt 1) =
      laneWrite f.pkt 1 0 :: (List.range 7).map (laneWrite f.pkt 1 ∘ Nat.succ) := by
    rw [Nat.mul_one, List.range_succ_eq_map, List.map_cons, List.map_map]
  have hrest : ∀ x ∈ (List.range 7).map (laneWrite f.pkt 1 ∘ Nat.succ), x.2.2 = false := by
    simp only [List.mem_map, List.mem_range, Function.comp_apply]
    rintro _ ⟨i, hi, rfl⟩
    exact laneWrite_rest hbe hi
  obtain ⟨hstate, hstatus⟩ := s.regUnits_of_first f.pkt.mid (packetAddr f.pkt 0)
    (some (BitVec.ofNat 32 (f.pkt.data.headD 0).toNat)) hrest
  rw [State.wrRun_of_registers ecc hmarked hdep, hlen, hlanes, laneWrite_first hbe]
  exact Prod.ext hstate hstatus

/-! ## The commands -/

section
variable {s : State} {id n : Nat} {f : Flight} (hflight : s.flightAt id = some f) (harrived : f.arrived = true)
include hflight harrived

theorem State.atEndpoint_of_arrived {opc : Nat} (hopc : f.pkt.opc.toNat = opc) : s.atEndpoint id opc = some f := by
  rw [State.flightAt] at hflight
  rw [State.atEndpoint, hflight]
  dsimp only
  rw [harrived, Bool.true_and, if_pos (beq_iff_eq.2 hopc)]

/-- A message is taken (R195, R199). -/
theorem rzMsg_completes (hnode : f.node = n) (hopc : f.pkt.opc = 4) : Completes (.rzMsg id) s fun t =>
    t.flightAt id = none ∧
    t.out = s.out ++ [.packetMsg n f.pkt.dep.toNat f.pkt.mid (if f.marked then Code.eccFatal else Code.ok) f.pkt.data] ∧
    t = { s with rz := { s.rz with flights := t.rz.flights }, out := t.out } := by
  subst hnode
  refine ⟨_, rfl, ?_⟩
  rw [State.atEndpoint_of_arrived (opc := 4) hflight harrived (congrArg BitVec.toNat hopc)]
  exact ⟨s.flightAt_dropFlight_same id, rfl, rfl⟩

variable (hnode : f.node = n) (hid : id ≠ s.rz.nextId) (hcls : f.pkt.cls = 0)
include hnode hid hcls

/-- A write is carried out and answered (R195). -/
theorem completes_rzWr (hopc : f.pkt.opc = 1) {ecc : List EccFind} {u : State} {code : Status} (hrun : s.wrRun f ecc = (u, code))
    (hrz : u.rz = s.rz) {P : State → Prop}
    (h : ∀ t : State, s.Answered id n f t 3 code [] → t.regs = u.regs → t.hbm = u.hbm → P t) : Completes (.rzWr id ecc) s P := by
  refine ⟨_, rfl, ?_⟩
  rw [State.atEndpoint_of_arrived (opc := 1) hflight harrived (congrArg BitVec.toNat hopc)]
  dsimp only
  rw [hrun]
  have hanswered := State.endPacket_answered (code := code) (data := []) hrz hcls hid hnode
  rw [hopc] at hanswered
  refine h _ hanswered ?_ ?_
  · rw [State.endPacket_of_req hcls]; rfl
  · rw [State.endPacket_of_req hcls]; rfl

/-- A read of the memory returns its bytes (R195, R326).  The finding of the controller's check is an operand of the command (log 84). -/
theorem rzRd_hbm_completes (hopc : f.pkt.opc = 0) (hdep : f.pkt.dep = 2)
    (hreadable : (s.hbmConditions f.pkt.mid (packetAddr f.pkt 0) (32 * (f.pkt.rdlen.toNat + 1)) false).2 = none) :
    Completes (.rzRd id []) s fun t =>
      s.Answered id n f t 2 Code.ok (unitsOfBytes (s.hbmBytes (packetAddr f.pkt 0) (32 * (f.pkt.rdlen.toNat + 1)))) ∧
      t.hbm.words = s.hbm.words := by
  have hrun : s.rdRun f.pkt [] =
      (s, Code.ok, unitsOfBytes (s.hbmBytes (packetAddr f.pkt 0) (32 * (f.pkt.rdlen.toNat + 1)))) := by
    rw [State.rdRun, if_pos hdep, State.hbmReadWords_of_none hreadable]
  refine ⟨_, rfl, ?_⟩
  rw [State.atEndpoint_of_arrived (opc := 0) hflight harrived (congrArg BitVec.toNat hopc)]
  dsimp only
  rw [hrun]
  have hanswered := State.endPacket_answered (s := s) (code := Code.ok)
    (data := unitsOfBytes (s.hbmBytes (packetAddr f.pkt 0) (32 * (f.pkt.rdlen.toNat + 1)))) rfl hcls hid hnode
  rw [hopc] at hanswered
  refine ⟨hanswered, ?_⟩
  rw [State.endPacket_of_req hcls]
  rfl

/-- No part of a write with a marked data unit is carried out (R199). -/
theorem rzWr_marked_completes (hopc : f.pkt.opc = 1) (hmarked : f.marked = true) (ecc : List EccFind) :
    Completes (.rzWr id ecc) s fun t => s.Answered id n f t 3 Code.eccFatal [] ∧ t.regs = s.regs ∧ t.hbm = s.hbm :=
  completes_rzWr hflight harrived hnode hid hcls hopc (if_pos hmarked) rfl fun _ hanswered hregs hhbm => ⟨hanswered, hregs, hhbm⟩

/-- A write to a register of the carrel block does what the register write of its MID does, and is answered with its status (R184, R195).
The register accesses of a packet follow its byte enables (log 84). -/
theorem rzWr_register_completes (ecc : List EccFind) {a : Nat} (hopc : f.pkt.opc = 1) (hmarked : f.marked = false)
    (hdep : f.pkt.dep = 4) (hlen : f.pkt.data.length = 1) (hbe : f.pkt.firstBe = 0xF) (ha : packetAddr f.pkt 0 = a)
    (hlow : 0x01200000 ≤ a) (hhigh : a < 0x01200100) (hmid : isManager f.pkt.mid = true) (hawake : s.awake a) :
    Completes (.rzWr id ecc) s fun t => ∃ u,
      exec (.registerWrite f.pkt.mid (BitVec.ofNat 28 a) (BitVec.ofNat 32 (f.pkt.data.headD 0).toNat)) s = .next u ∧
      s.Answered id n f t 3 u.done.status [] ∧ t.regs = u.regs := by
  have halign : a % 4 = 0 := by rw [← ha, packetAddr]; omega
  have hrun := State.wrRun_of_first_lane (s := s) ecc hmarked (by rw [hdep]; decide) hlen hbe
  rw [ha, State.endpointReg_carrelControl _ hlow hhigh hmid] at hrun
  exact completes_rzWr hflight harrived hnode hid hcls hopc hrun (State.storeReg_rz _ _ _) fun t hanswered hregs _ =>
    ⟨_, exec_registerWrite_carrelControl _ hlow hhigh hmid halign hawake, hanswered, hregs⟩

end

end Sys2Proof.Machine

/-! PROOFS.  Responses at their requester, and requests without one (R199, R200, R203). -/

namespace Sys2Proof.Machine

/-! ## Frames over the plane's own state -/

theorem Only.withRz {w : List Field} {s t : State} {r : RzSt} (h : Only w { s with rz := r } t) : Only w { s with rz := t.rz } t := by
  have hrz : t.rz = r := (congrArg (fun x : State => x.rz) h.1 :)
  rw [hrz]
  exact h

theorem OnlyEv.withRz {w : List Field} {s t : State} {r : RzSt} (h : OnlyEv w { s with rz := r } t) :
    OnlyEv w { s with rz := t.rz } t := by
  have hrz : t.rz = r := (congrArg (fun x : State => x.rz) h.1 :)
  rw [hrz]
  exact h

/-! ## The completion of a request (R200, R329, R330) -/

section
variable {s : State} {n ep tag : Nat} {x : RzTag} {code : Status} {data : List (BitVec 256)}

/-- A requester without a memory port is told, and its request counts no more. -/
theorem State.requestDone_of_told (h : x.mid.toNat < 0x20) : s.requestDone n ep tag x code data =
    (s.setFld (Fld.RZ_OUTST_COUNT n ep) (s.fld (Fld.RZ_OUTST_COUNT n ep) - 1)).emit (.packetDone n ep tag code data) :=
  if_neg (Nat.not_le.2 h)

theorem State.requestDone_count (h : x.mid.toNat < 0x20) :
    (s.requestDone n ep tag x code data).fld (Fld.RZ_OUTST_COUNT n ep) = s.fld (Fld.RZ_OUTST_COUNT n ep) - 1 := by
  have hwidth : s.fld (Fld.RZ_OUTST_COUNT n ep) < 2 ^ 7 := Nat.mod_lt _ (Nat.two_pow_pos _)
  rw [State.requestDone_of_told h, State.fld_emit, State.fld_setFld_same _ _ _ rfl]
  exact Nat.mod_eq_of_lt (by dsimp only; omega)

/-- A memory port takes the response: nothing but its requests changes. -/
theorem State.requestDone_of_port (h : 0x20 ≤ x.mid.toNat) :
    let t := s.requestDone n ep tag x code data
    (∃ reqs, t = { s with hbm := { s.hbm with reqs := reqs } }) ∧
      ∀ r ∈ s.hbm.reqs, r.tag = some tag → nodeOfVirtual r.virt = n → r.resp = none →
        ∃ q ∈ t.hbm.reqs, q.tag = r.tag ∧ q.virt = r.virt ∧ q.served = true ∧ q.resp ≠ none := by
  rw [State.requestDone, if_pos h]
  refine ⟨⟨_, rfl⟩, fun r hr hrtag hvirt hresp => ⟨_, List.mem_map_of_mem hr, ?_⟩⟩
  rw [if_pos ⟨hrtag, hvirt, by rw [hresp]; rfl⟩]
  exact ⟨rfl, rfl, rfl, Option.some_ne_none _⟩

end

/-! ## Responses -/

section
variable {s : State} {id n : Nat} {f : Flight} {c : Instr} {x : RzTag} (hflight : s.flightAt id = some f) (harrived : f.arrived = true)
  (hnode : f.node = n) (hc : (c = .rzRdrsp id ∧ f.pkt.opc = 2) ∨ (c = .rzWrrsp id ∧ f.pkt.opc = 3))
  (htag : Sparse.get none s.rz.tags (tagKey n f.pkt.dep.toNat f.pkt.tag.toNat) = some x)
include hflight harrived hnode hc htag

/-- A response finds the request that holds its tag: one in time completes it, and a late one is discarded. -/
theorem completes_response {P : State → Prop}
    (h : P (let s1 := (s.dropFlight id).freeUp n f.pkt.dep.toNat f.pkt.tag.toNat
            if x.timedOut then s1.countReg (Reg.RZ_NODE_DROP n)
            else s1.requestDone n f.pkt.dep.toNat f.pkt.tag.toNat x (if f.marked then Code.eccFatal else f.pkt.status) f.pkt.data)) :
    Completes c s P := by
  subst hnode
  have hresponse : P (s.response id f) := by
    rw [State.response, htag]
    exact h
  rcases hc with ⟨rfl, hopc⟩ | ⟨rfl, hopc⟩
  · refine ⟨_, rfl, ?_⟩
    rwa [State.atEndpoint_of_arrived (opc := 2) hflight harrived (congrArg BitVec.toNat hopc)]
  · refine ⟨_, rfl, ?_⟩
    rwa [State.atEndpoint_of_arrived (opc := 3) hflight harrived (congrArg BitVec.toNat hopc)]

/-- A response in time completes the request, and lets go of its tag. -/
theorem response_completes (hintime : x.timedOut = false) (hmid : x.mid.toNat < 0x20) : Completes c s fun t =>
    t.flightAt id = none ∧ Sparse.get none t.rz.tags (tagKey n f.pkt.dep.toNat f.pkt.tag.toNat) = none ∧
    t.fld (Fld.RZ_OUTST_COUNT n f.pkt.dep.toNat) = s.fld (Fld.RZ_OUTST_COUNT n f.pkt.dep.toNat) - 1 ∧
    t.out = s.out ++ [.packetDone n f.pkt.dep.toNat f.pkt.tag.toNat (if f.marked then Code.eccFatal else f.pkt.status) f.pkt.data] ∧
    Only [Fld.RZ_OUTST_COUNT n f.pkt.dep.toNat] { s with rz := t.rz } t := by
  refine completes_response hflight harrived hnode hc htag ?_
  dsimp only
  rw [hintime, if_neg Bool.false_ne_true]
  have hcount := State.requestDone_count (s := (s.dropFlight id).freeUp n f.pkt.dep.toNat f.pkt.tag.toNat) (n := n)
    (ep := f.pkt.dep.toNat) (tag := f.pkt.tag.toNat) (code := if f.marked then Code.eccFatal else f.pkt.status) (data := f.pkt.data) hmid
  rw [State.requestDone_of_told hmid] at hcount ⊢
  exact ⟨s.flightAt_dropFlight_same id, (s.dropFlight id).freeUp_tags_same _ _ _, hcount, rfl,
    Only.withRz (((Only.refl _ _).setFld _ _ rfl List.mem_cons_self).emit _)⟩

/-- A memory port that waits takes the response. -/
theorem portResponse_completes (hintime : x.timedOut = false) (hmid : 0x20 ≤ x.mid.toNat) : Completes c s fun t =>
    t.flightAt id = none ∧ Sparse.get none t.rz.tags (tagKey n f.pkt.dep.toNat f.pkt.tag.toNat) = none ∧ t.regs = s.regs ∧
    ∀ r ∈ s.hbm.reqs, r.tag = some f.pkt.tag.toNat → nodeOfVirtual r.virt = n → r.resp = none →
      ∃ q ∈ t.hbm.reqs, q.tag = r.tag ∧ q.virt = r.virt ∧ q.served = true ∧ q.resp ≠ none := by
  refine completes_response hflight harrived hnode hc htag ?_
  dsimp only
  rw [hintime, if_neg Bool.false_ne_true]
  obtain ⟨⟨reqs, hdone⟩, hport⟩ :=
    State.requestDone_of_port (s := (s.dropFlight id).freeUp n f.pkt.dep.toNat f.pkt.tag.toNat) (n := n) (ep := f.pkt.dep.toNat)
      (tag := f.pkt.tag.toNat) (code := if f.marked then Code.eccFatal else f.pkt.status) (data := f.pkt.data) hmid
  refine ⟨?_, ?_, ?_, hport⟩
  all_goals rw [hdone]
  · exact s.flightAt_dropFlight_same id
  · exact (s.dropFlight id).freeUp_tags_same _ _ _
  · rfl

/-- A late response is discarded, and its tag is free again (R203). -/
theorem lateResponse_completes (hlate : x.timedOut = true) (hdrop : s.reg (Reg.RZ_NODE_DROP n) ≠ 0xFFFFFFFF) : Completes c s fun t =>
    t.flightAt id = none ∧ Sparse.get none t.rz.tags (tagKey n f.pkt.dep.toNat f.pkt.tag.toNat) = none ∧ t.out = s.out ∧
    t.reg (Reg.RZ_NODE_DROP n) = s.reg (Reg.RZ_NODE_DROP n) + 1 ∧ Only [wholeReg (Reg.RZ_NODE_DROP n)] { s with rz := t.rz } t := by
  refine completes_response hflight harrived hnode hc htag ?_
  dsimp only
  rw [if_pos hlate, State.countReg_of_ne (s := (s.dropFlight id).freeUp n f.pkt.dep.toNat f.pkt.tag.toNat) hdrop]
  exact ⟨s.flightAt_dropFlight_same id, (s.dropFlight id).freeUp_tags_same _ _ _, rfl, State.reg_setReg_same _ _ _,
    Only.withRz ((Only.refl _ _).setReg _ _ List.mem_cons_self)⟩

end

/-! ## Timeouts (R203) -/

section
variable {s : State} {node : Fin 48} {ep : Fin 5} {tag : BitVec 10} {x : RzTag}
  (htag : Sparse.get none s.rz.tags (tagKey node ep tag.toNat) = some x)
include htag

/-- A request whose response does not come completes with TIMEOUT, and keeps its tag. -/
theorem rspTmo_completes (hopen : x.timedOut = false) (htime : s.fld Fld.RZ_RSP_TMO_US ≠ 0) (hmid : x.mid.toNat < 0x20) :
    Completes (.rspTmo node ep tag) s fun t =>
      Sparse.get none t.rz.tags (tagKey node ep tag.toNat) = some { x with timedOut := true } ∧
      t.flag (Fld.RZ_NODE_STAT_RSP_TMO node) = true ∧ t.sticky (292 + node.val) = true ∧
      t.fld (Fld.RZ_OUTST_COUNT node ep) = s.fld (Fld.RZ_OUTST_COUNT node ep) - 1 ∧
      t.out.getLast? = some (.packetDone node ep tag.toNat Code.timeout []) ∧
      OnlyEv [Fld.RZ_NODE_STAT_RSP_TMO node, Fld.RZ_OUTST_COUNT node ep] { s with rz := t.rz } t := by
  let held := s.holdTag node ep tag.toNat { x with timedOut := true }
  let raised := held.nodeRaise (Fld.RZ_NODE_STAT_RSP_TMO node) node
  obtain ⟨hflag, hsticky⟩ := held.nodeRaise_spec node.isLt (f := Fld.RZ_NODE_STAT_RSP_TMO node) rfl rfl rfl
  have hrz : raised.rz = held.rz := held.nodeRaise_rz _ _
  have hcount : raised.fld (Fld.RZ_OUTST_COUNT node ep) = s.fld (Fld.RZ_OUTST_COUNT node ep) :=
    held.outst_nodeRaise node.isLt rfl ep.isLt
  have hrun : exec (.rspTmo node ep tag) s = .next (raised.requestDone node ep tag.toNat x Code.timeout []) := by
    refine congrArg Host.Outcome.next ?_
    rw [htag]
    dsimp only
    rw [hopen, Bool.false_or, if_neg (by simpa using htime)]
  have hdone := State.requestDone_count (s := raised) (n := node) (ep := ep) (tag := tag.toNat) (code := Code.timeout) (data := []) hmid
  rw [hcount] at hdone
  refine ⟨_, hrun, ?_⟩
  rw [State.requestDone_of_told hmid] at hdone ⊢
  refine ⟨?_, ?_, ?_, hdone, List.getLast?_concat .., OnlyEv.withRz (r := held.rz) ?_⟩
  · rw [State.emit_rz, State.setFld_rz, hrz]
    exact s.holdTag_tags_same _ _ _ _
  · rw [State.flag_emit, State.flag_setFld_apart _ _ _ _ rfl (Or.inl ?_)]
    · exact hflag
    · simp only [Reg.RZ_OUTST, Reg.RZ_NODE_STAT]
      omega
  · refine (State.sticky_congr _ ?_).trans hsticky
    rw [State.reg_emit, State.reg_setFld_other]
    simp only [Reg.EVT_STICKY, Reg.RZ_OUTST]
    omega
  · exact (((OnlyEv.refl _ held).raiseBit _ _ rfl List.mem_cons_self (by omega)).setFld _ _ rfl
      (List.mem_cons_of_mem _ List.mem_cons_self)).emit _

/-- A further timeout frees the tag. -/
theorem tagFree_completes (hlate : x.timedOut = true) : Completes (.tagFree node ep tag) s fun t =>
    Sparse.get none t.rz.tags (tagKey node ep tag.toNat) = none ∧
    (∀ k, k ≠ tagKey node ep tag.toNat → Sparse.get none t.rz.tags k = Sparse.get none s.rz.tags k) ∧
    t = { s with rz := { s.rz with tags := t.rz.tags } } := by
  refine ⟨_, rfl, ?_⟩
  rw [htag]
  dsimp only
  rw [if_pos hlate]
  exact ⟨s.freeUp_tags_same _ _ _, fun k hk => s.freeUp_tags_other _ _ _ hk, rfl⟩

end

end Sys2Proof.Machine

/-! PROOFS.  The clauses of O35 together. -/

namespace Sys2Proof.Machine

/-- Settles O35, clause by clause: injection, hops, the endpoint, timeouts.  That a request holds its tag from its queueing on is the
model's choice (log 83), and so are the findings of the memory's check as an operand and the lanes a register write reaches (log 84). -/
theorem generalPlane : Obligations.GeneralPlane := by
  intro node ep pkt id tag ecc s
  dsimp only
  refine ⟨fun hserves hlen hfree => ⟨fun _ => responseInjection_completes hserves hlen hfree,
    fun _ => requestInjection_completes hserves hlen hfree, overQuotaInjection_completes hserves hlen⟩, ?_, ?_, ?_, ?_⟩
  · intro f hflight hnode hheld harrived hhops
    exact ⟨fun _ => linkHop_completes hflight hheld harrived hnode hhops,
      endpointHop_completes hflight hheld harrived hnode hhops,
      noRouteHop_completes hflight hheld harrived node.isLt hnode hhops,
      headerFaultHop_completes hflight hheld harrived node.isLt hnode⟩
  · intro f hflight harrived hnode hid
    refine ⟨fun hopc hcls => rzRd_hbm_completes hflight harrived hnode hid hcls hopc,
      fun hopc hcls hmarked => rzWr_marked_completes hflight harrived hnode hid hcls hopc hmarked ecc,
      fun _ hopc hcls => rzWr_register_completes hflight harrived hnode hid hcls ecc hopc,
      rzMsg_completes hflight harrived hnode, fun _ _ hc htag => ?_⟩
    exact ⟨response_completes hflight harrived hnode hc htag, portResponse_completes hflight harrived hnode hc htag,
      lateResponse_completes hflight harrived hnode hc htag⟩
  · exact fun _ => rspTmo_completes
  · exact fun _ => tagFree_completes

end Sys2Proof.Machine

/-! PROOFS.  The serial lanes: what their operations write, and what says whether a lane runs (R217 to R229, R240). -/

namespace Sys2Proof.Machine

/-! ## Registers that an operation may write -/

/-- From `s` to `t` the clocks stay, and only registers at addresses of `A` and those of the event machinery change. -/
def WritesAt (A : Nat → Prop) (s t : State) : Prop :=
  t.clock = s.clock ∧ ∀ f : Field, eventSafe f = true → ¬ A f.addr → t.fld f = s.fld f

section
variable {A B : Nat → Prop} {s t u : State}

theorem WritesAt.refl (A : Nat → Prop) (s : State) : WritesAt A s s := ⟨rfl, fun _ _ _ => rfl⟩

theorem WritesAt.trans (h : WritesAt A s t) (h' : WritesAt A t u) : WritesAt A s u :=
  ⟨h'.1.trans h.1, fun f hs ha => (h'.2 f hs ha).trans (h.2 f hs ha)⟩

theorem WritesAt.mono (h : WritesAt A s t) (hsub : ∀ a, A a → B a) : WritesAt B s t :=
  ⟨h.1, fun f hs ha => h.2 f hs fun hf => ha (hsub _ hf)⟩

theorem WritesAt.of_reg (hclock : t.clock = s.clock) (hreg : ∀ a, ¬ A a → t.reg a = s.reg a) : WritesAt A s t :=
  ⟨hclock, fun f _ ha => congrArg f.get (hreg _ ha)⟩

theorem WritesAt.setReg (h : WritesAt A s t) {a : Nat} (v : Word32) (ha : A a) : WritesAt A s (t.setReg a v) :=
  ⟨h.1, fun f hs hf => (State.fld_setReg_other t v f fun e => hf (e ▸ ha)).trans (h.2 f hs hf)⟩

theorem WritesAt.setFlag (h : WritesAt A s t) {f : Field} (b : Bool) (ha : A f.addr) : WritesAt A s (t.setFlag f b) :=
  h.setReg _ ha

theorem WritesAt.raiseBit (h : WritesAt A s t) {f : Field} {n : Nat} (ha : A f.addr) (hn : n < 512) : WritesAt A s (t.raiseBit f n) :=
  ⟨(State.raiseBit_clock t f n).trans h.1, fun g hs hg =>
    (State.fld_raise _ n hn hs).trans ((h.setFlag true ha).2 g hs hg)⟩

theorem WritesAt.ite {c : Prop} [Decidable c] (ht : WritesAt A s t) (hu : WritesAt A s u) : WritesAt A s (if c then t else u) := by
  split
  · exact ht
  · exact hu

theorem WritesAt.foldl {α : Type} (g : State → α → State) (l : List α) (hg : ∀ t, ∀ x ∈ l, WritesAt A t (g t x))
    (h : WritesAt A s t) : WritesAt A s (l.foldl g t) :=
  List.foldlRecOn l g h fun u hu x hx => hu.trans (hg u x hx)

theorem WritesAt.flag_eq (h : WritesAt A s t) {f : Field} (hs : eventSafe f = true) (ha : ¬ A f.addr) : t.flag f = s.flag f := by
  rw [State.flag, State.flag, h.2 f hs ha]

theorem WritesAt.reg_eq (h : WritesAt A s t) {a : Nat} (hs : eventSafe (wholeReg a) = true) (ha : ¬ A a) : t.reg a = s.reg a :=
  State.reg_eq_of_fld_wholeReg (h.2 _ hs ha)

end

/-- What one element of a list brings about and no other undoes holds after the whole list; `Q` holds all along. -/
theorem foldl_reaches {σ α : Type} {Q P : σ → Prop} {g : σ → α → σ} {l : List α} {x : α} (hx : x ∈ l)
    (hQ : ∀ t, ∀ y ∈ l, Q t → Q (g t y)) (hreach : ∀ t, Q t → P (g t x)) (hP : ∀ t, ∀ y ∈ l, y ≠ x → P t → P (g t y))
    {s : σ} (h : Q s) : P (l.foldl g s) := by
  induction l generalizing s with
  | nil => cases hx
  | cons y r ih =>
    by_cases hr : x ∈ r
    · exact ih hr (fun t z hz => hQ t z (List.mem_cons_of_mem _ hz)) (fun t z hz => hP t z (List.mem_cons_of_mem _ hz))
        (hQ s y List.mem_cons_self h)
    · obtain rfl : x = y := (List.mem_cons.1 hx).resolve_right hr
      exact List.foldlRecOn r g (hreach s h) fun t ht z hz =>
        hP t z (List.mem_cons_of_mem _ hz) (fun e => hr (e ▸ hz)) ht

/-! ## The registers of lanes and PLLs -/

/-- The registers of the lanes, PLLs and acquisition engine lie apart from those of the event machinery (R25). -/
theorem eventSafe_of_serial {f : Field} (hlow : 0x5000000 ≤ f.addr) (hhigh : f.addr < 0x8000000) : eventSafe f = true := by
  simp only [eventSafe, Reg.LIB_LOG_WP, Reg.LIB_LOG_DROP, Reg.LIB_STATUS, Reg.PWR_STATUS, Bool.and_eq_true, Bool.or_eq_true,
    Bool.not_eq_true', Bool.and_eq_false_iff, bne_iff_ne, decide_eq_true_eq, decide_eq_false_iff_not]
  omega

/-- A register of the window of a lane (R241). -/
theorem eventSafe_of_lane {f : Field} {i o : Nat} (hi : i < 103) (ho : o < 0x10000) (hf : f.addr = 0x5000000 + o + i * 0x10000) :
    eventSafe f = true := eventSafe_of_serial (by omega) (by omega)

/-- The addresses at which a receiver reports: LN_STAT and LN_ES_STAT of its lane. -/
def laneStatus (i a : Nat) : Prop := a = Reg.LN_STAT i ∨ a = Reg.LN_ES_STAT i

/-- Addresses of the lanes, PLLs and acquisition engine apart from LN_CFG, LN_LE_CFG and LN_PLL: what lanes report lies there, and no
setting that says whether a lane runs. -/
def laneOutput (a : Nat) : Prop := 0x5000000 ≤ a ∧ a < 0xC000000 ∧ (a % 0x100 ≠ 0 ∨ 0x6000000 ≤ a)

theorem laneOutput_of_laneStatus {i a : Nat} (hi : i < 103) (h : laneStatus i a) : laneOutput a := by
  simp only [laneStatus, Reg.LN_STAT, Reg.LN_ES_STAT] at h
  simp only [laneOutput]
  omega

theorem not_laneStatus_LN_STAT {i j : Nat} (h : j ≠ i) : ¬ laneStatus j (Reg.LN_STAT i) := by
  simp only [laneStatus, Reg.LN_STAT, Reg.LN_ES_STAT]
  omega

theorem not_laneStatus_LN_PLL_STAT {j k : Nat} (hj : j < 103) : ¬ laneStatus j (Reg.LN_PLL_STAT k) := by
  simp only [laneStatus, Reg.LN_STAT, Reg.LN_ES_STAT, Reg.LN_PLL_STAT]
  omega

theorem not_laneStatus_sticky {j n : Nat} (hn : n < 512) : ¬ laneStatus j (Reg.EVT_STICKY (n / 32)) := by
  simp only [laneStatus, Reg.LN_STAT, Reg.LN_ES_STAT, Reg.EVT_STICKY]
  omega

/-- The lanes that a PLL clocks, and the PLL that clocks them (R217, R218). -/
theorem pllOfLane_of_mem {k : Nat} (hk : k < 28) {j : Nat} (hj : j ∈ lanesOfPll k) : j < 103 ∧ pllOfLane j = k := by
  have hall : ∀ k < 28, ∀ j ∈ lanesOfPll k, j < 103 ∧ pllOfLane j = k := by decide
  exact hall k hk j hj

theorem pllOfLane_lt (i : Nat) : pllOfLane i < 28 := by
  unfold pllOfLane
  repeat' split
  all_goals omega

/-! ## Whether a lane runs (R219 to R222, R227) -/

section
variable {s t : State} (h : WritesAt laneOutput s t)
include h

theorem WritesAt.fld_outside {f : Field} (hs : eventSafe f = true) (ha : f.addr < 0x5000000 ∨ 0xC000000 ≤ f.addr) :
    t.fld f = s.fld f := h.2 f hs fun hout => by simp only [laneOutput] at hout; omega

theorem WritesAt.flag_outside {f : Field} (hs : eventSafe f = true) (ha : f.addr < 0x5000000 ∨ 0xC000000 ≤ f.addr) :
    t.flag f = s.flag f := by rw [State.flag, State.flag, h.fld_outside hs ha]

theorem WritesAt.fld_setting {f : Field} (ha : 0x5000000 ≤ f.addr ∧ f.addr < 0x6000000 ∧ f.addr % 0x100 = 0) : t.fld f = s.fld f := by
  obtain ⟨hlow, hhigh, hmod⟩ := ha
  exact h.2 f (eventSafe_of_serial hlow (by omega)) fun hout => by simp only [laneOutput] at hout; omega

theorem WritesAt.flag_setting {f : Field} (ha : 0x5000000 ≤ f.addr ∧ f.addr < 0x6000000 ∧ f.addr % 0x100 = 0) :
    t.flag f = s.flag f := by rw [State.flag, State.flag, h.fld_setting ha]

theorem WritesAt.rootHz_eq : t.rootHz = s.rootHz := by
  rw [State.rootHz, State.rootHz, h.1, h.flag_outside (f := Fld.CLK_STATUS_LOCK) rfl (by decide),
    h.flag_outside (f := Fld.CLK_STATUS_HOLDOVER) rfl (by decide), h.fld_outside (f := Fld.CLK_RPLL_MULT) rfl (by decide)]

theorem WritesAt.timingPort_eq {p : Nat} (hp : p < 2) : t.fld (Fld.TU_TP_CFG_STD p) = s.fld (Fld.TU_TP_CFG_STD p) := by
  obtain rfl | rfl : p = 0 ∨ p = 1 := by omega
  · exact h.fld_outside rfl (by decide)
  · exact h.fld_outside rfl (by decide)

theorem WritesAt.laneScheduled_eq {j : Nat} (hj : j < 103) : t.laneScheduled j = s.laneScheduled j := by
  have haddr : 0x5000000 ≤ Reg.LN_LE_CFG j ∧ Reg.LN_LE_CFG j < 0x6000000 ∧ Reg.LN_LE_CFG j % 0x100 = 0 := by
    simp only [Reg.LN_LE_CFG]
    omega
  rw [State.laneScheduled, State.laneScheduled, h.flag_setting (f := Fld.LN_LE_CFG_TO_ARR j) haddr,
    h.fld_setting (f := Fld.LN_LE_CFG_TX_SRC j) haddr]

theorem WritesAt.refForced_eq {k : Nat} (hk : k < 28) : t.refForced k = s.refForced k := by
  have hlanes : (lanesOfPll k).any t.laneScheduled = (lanesOfPll k).any s.laneScheduled := by
    rw [Bool.eq_iff_iff, List.any_eq_true, List.any_eq_true]
    exact exists_congr fun j => and_congr_right fun hj => by rw [h.laneScheduled_eq (pllOfLane_of_mem hk hj).1]
  rw [State.refForced, State.refForced, hlanes, State.lockedSchedule, State.lockedSchedule,
    h.flag_outside (f := Fld.SEQ_CFG_DISC) rfl (by decide)]

theorem WritesAt.systemVco_eq (k : Nat) : t.systemVco k = s.systemVco k := by
  simp only [State.systemVco, h.timingPort_eq (p := 0) (by decide), h.timingPort_eq (p := 1) (by decide)]

theorem WritesAt.pllSetting_eq {k : Nat} (hk : k < 28) : t.pllSetting k = s.pllSetting k := by
  have haddr : 0x5000000 ≤ Reg.LN_PLL k ∧ Reg.LN_PLL k < 0x6000000 ∧ Reg.LN_PLL k % 0x100 = 0 := by
    simp only [Reg.LN_PLL]
    omega
  rw [State.pllSetting, State.pllSetting, h.rootHz_eq, h.systemVco_eq, h.refForced_eq hk,
    h.flag_setting (f := Fld.LN_PLL_REFSEL k) haddr, h.fld_setting (f := Fld.LN_PLL_R_M1 k) haddr,
    h.fld_setting (f := Fld.LN_PLL_N k) haddr, h.fld_setting (f := Fld.LN_PLL_FRAC k) haddr]

theorem WritesAt.pllInRange_eq {k : Nat} (hk : k < 28) : t.pllInRange k = s.pllInRange k := by
  rw [State.pllInRange, State.pllInRange, State.pllVco, State.pllVco, h.pllSetting_eq hk]

variable {i : Nat} (hi : i < 103)
include hi

theorem WritesAt.lnCfg_eq {f : Field} (hf : f.addr = Reg.LN_CFG i) : t.fld f = s.fld f := by
  refine h.fld_setting ?_
  simp only [hf, Reg.LN_CFG]
  omega

theorem WritesAt.laneDivCode_eq : t.laneDivCode i = s.laneDivCode i := by
  rw [State.laneDivCode, State.laneDivCode, h.lnCfg_eq hi rfl]
  split
  · rfl
  · split
    · rfl
    · split
      · rw [h.timingPort_eq (p := i - 100) (by omega)]
      · rfl

theorem WritesAt.lanePam4_eq : t.lanePam4 i = s.lanePam4 i := by
  rw [State.lanePam4, State.lanePam4, State.flag, State.flag, h.lnCfg_eq hi rfl]

theorem WritesAt.symbolsWithin_eq (low high : Nat) : t.symbolsWithin i low high = s.symbolsWithin i low high := by
  rw [State.symbolsWithin, State.symbolsWithin, State.pllVco, State.pllVco, h.pllSetting_eq (pllOfLane_lt i), h.laneDivCode_eq hi]

theorem WritesAt.laneBad_eq : t.laneBad i = s.laneBad i := by
  rw [State.laneBad, State.laneBad, h.pllInRange_eq (pllOfLane_lt i), h.symbolsWithin_eq hi, h.symbolsWithin_eq hi,
    h.laneDivCode_eq hi, h.lanePam4_eq hi, h.lnCfg_eq hi (f := Fld.LN_CFG_ADAPT i) rfl]

theorem WritesAt.laneOn_eq : t.laneOn i = s.laneOn i := by
  have hdomain : ∀ i < 103, ∀ d ∈ domainOfAddr (Reg.LN_CFG i), d < 88 := by decide
  rw [State.laneOn, State.laneOn]
  congr 1
  split
  next d hd =>
    have hd88 : d < 88 := hdomain i hi d hd
    have hsafe : ∀ d < 88, eventSafe (Fld.PWR_DSTAT_STATE d) = true := by decide
    rw [State.domOn, State.domOn, State.domState, State.domState,
      h.fld_outside (hsafe d hd88) (Or.inl (by simp only [Reg.PWR_DSTAT]; omega))]
  next => rfl

/-- No report of a lane changes whether a lane runs. -/
theorem WritesAt.laneRuns_eq : t.laneRuns i = s.laneRuns i := by
  rw [State.laneRuns, State.laneRuns, h.laneOn_eq hi, h.laneBad_eq hi, State.flag, State.flag, h.lnCfg_eq hi rfl]

end

end Sys2Proof.Machine

/-! PROOFS.  The operations of a lane: restarts, conditions, adaptation, and the checks of lanes, PLLs and descriptors. -/

namespace Sys2Proof.Machine

/-! ## Bits that are cleared -/

theorem Field.get_put_zero {f g : Field} (hf : f.fits = true) {w : Word32} (h : g.get w = 0) : g.get (f.put w 0) = 0 := by
  apply Nat.eq_of_testBit_eq
  intro k
  have hbit := congrArg (fun n => n.testBit k) h
  have hput := Field.put_bit f hf w 0 (g.lo + k)
  simp only [Field.get_testBit, Nat.zero_testBit, BitVec.getLsbD] at hbit hput ⊢
  rw [hput]
  split
  · exact Bool.and_false _
  · exact hbit

/-- A bit that is 0 stays 0 when any field is cleared. -/
theorem State.flag_setFlag_false_keep {s : State} {f g : Field} (hf : f.fits = true) (h : s.flag g = false) :
    (s.setFlag f false).flag g = false := by
  by_cases haddr : g.addr = f.addr
  · simp only [State.flag, State.fld, bne_eq_false_iff_eq] at h ⊢
    rw [haddr] at h ⊢
    rw [State.setFlag, State.setFld, State.reg_setReg_same]
    exact Field.get_put_zero hf h
  · rw [State.flag_setFlag_apart _ _ _ _ hf (Or.inl (Ne.symm haddr))]
    exact h

/-! ## Restarts (R227, R235) -/

section
variable (s : State) {i : Nat}

theorem State.reg_abortScan {a : Nat} (h : a ≠ Reg.LN_ES_STAT i) : (s.abortScan i).reg a = s.reg a := by
  unfold State.abortScan
  split
  · exact State.reg_setFlag_other _ _ _ _ h
  · rfl

theorem State.abortScan_clock : (s.abortScan i).clock = s.clock := by
  unfold State.abortScan
  split <;> rfl

theorem State.abortScan_slipped : (s.abortScan i).lane.slipped = s.lane.slipped := by
  unfold State.abortScan
  split <;> rfl

/-- The end of a scan is reported, and nothing else changes. -/
theorem State.abortScan_frame {w : List Field} (hm : Fld.LN_ES_STAT_ABORTED i ∈ w) :
    Only w { s with lane := (s.abortScan i).lane } (s.abortScan i) := by
  unfold State.abortScan
  split
  · exact (Only.refl _ _).setFlag _ true rfl hm
  · exact Only.refl _ s

theorem State.reg_restartCdr {a : Nat} (h : ¬ laneStatus i a) : (s.restartCdr i).reg a = s.reg a := by
  obtain ⟨hstat, hscan⟩ := not_or.1 h
  rw [State.restartCdr, State.reg_setFlag_other _ _ _ _ hstat, State.reg_setFlag_other _ _ _ _ hstat,
    State.reg_setFlag_other _ _ _ _ hstat, State.reg_setFlag_other _ _ _ _ hstat, State.reg_abortScan _ hscan]

theorem State.restartCdr_writes (i : Nat) : WritesAt (laneStatus i) s (s.restartCdr i) :=
  .of_reg s.abortScan_clock fun _ h => s.reg_restartCdr h

theorem State.restartSig_writes (i : Nat) : WritesAt (laneStatus i) s (s.restartSig i) :=
  (s.restartCdr_writes i).setFlag _ (Or.inl rfl)

theorem State.restartLane_writes (i : Nat) : WritesAt (laneStatus i) s (s.restartLane i) :=
  (s.restartCdr_writes i).setFlag _ (Or.inl rfl)

theorem State.sticky_restartLane {n : Nat} (hn : n < 512) : (s.restartLane i).sticky n = s.sticky n := by
  have hoff := not_laneStatus_sticky (j := i) hn
  refine State.sticky_congr n ?_
  rw [State.restartLane, State.reg_setFlag_other _ _ _ _ (not_or.1 hoff).1, State.reg_restartCdr _ hoff]

/-- A restart takes back the rows of R227 after signal detection. -/
theorem State.restartCdr_cleared : (s.restartCdr i).flag (Fld.LN_STAT_CDR_LOCK i) = false ∧
    (s.restartCdr i).flag (Fld.LN_STAT_ADAPT_DONE i) = false ∧ (s.restartCdr i).flag (Fld.LN_STAT_READY i) = false := by
  rw [State.restartCdr]
  refine ⟨?_, ?_, ?_⟩
  · rw [State.flag_setFlag_apart _ _ _ _ rfl (by simp [Field.apart]), State.flag_setFlag_apart _ _ _ _ rfl (by simp [Field.apart]),
      State.flag_setFlag_apart _ _ _ _ rfl (by simp [Field.apart]), State.flag_setFlag_same _ _ _ rfl rfl]
  · rw [State.flag_setFlag_apart _ _ _ _ rfl (by simp [Field.apart]), State.flag_setFlag_apart _ _ _ _ rfl (by simp [Field.apart]),
      State.flag_setFlag_same _ _ _ rfl rfl]
  · rw [State.flag_setFlag_apart _ _ _ _ rfl (by simp [Field.apart]), State.flag_setFlag_same _ _ _ rfl rfl]

theorem State.restartSig_cleared : (s.restartSig i).flag (Fld.LN_STAT_SIGDET i) = false ∧
    (s.restartSig i).flag (Fld.LN_STAT_CDR_LOCK i) = false ∧ (s.restartSig i).flag (Fld.LN_STAT_ADAPT_DONE i) = false ∧
    (s.restartSig i).flag (Fld.LN_STAT_READY i) = false := by
  obtain ⟨hcdr, hadapt, hready⟩ := s.restartCdr_cleared (i := i)
  exact ⟨State.flag_setFlag_same _ _ _ rfl rfl, (State.flag_setFlag_apart _ _ _ _ rfl (by simp [Field.apart])).trans hcdr,
    (State.flag_setFlag_apart _ _ _ _ rfl (by simp [Field.apart])).trans hadapt,
    (State.flag_setFlag_apart _ _ _ _ rfl (by simp [Field.apart])).trans hready⟩

/-- A restart leaves the first rows alone: PLL_OK and SIGDET are the bits below CDR_LOCK. -/
theorem State.flag_restartCdr_low {f : Field} (haddr : f.addr = Reg.LN_STAT i) (hlow : f.lo + f.width ≤ 2) :
    (s.restartCdr i).flag f = s.flag f := by
  have hreg : (s.abortScan i).reg f.addr = s.reg f.addr := by
    refine s.reg_abortScan ?_
    rw [haddr]
    simp only [Reg.LN_STAT, Reg.LN_ES_STAT]
    omega
  have hbits {g : Field} (hg : 2 ≤ g.lo) : g.apart f := Or.inr (Or.inr (by omega))
  rw [State.restartCdr, State.flag_setFlag_apart _ _ _ _ rfl (hbits (by simp)), State.flag_setFlag_apart _ _ _ _ rfl (hbits (by simp)),
    State.flag_setFlag_apart _ _ _ _ rfl (hbits (by simp)), State.flag_setFlag_apart _ _ _ _ rfl (hbits (by simp)),
    State.flag_of_reg hreg]

end

/-- A restart sets no bit of LN_STAT. -/
theorem State.flag_restartSig_false {s : State} {i : Nat} {f : Field} (hf : f.addr = Reg.LN_STAT i) (h : s.flag f = false) :
    (s.restartSig i).flag f = false := by
  have hscan : (s.abortScan i).flag f = false := by
    refine (State.flag_of_reg (s.reg_abortScan ?_)).trans h
    rw [hf]
    simp only [Reg.LN_STAT, Reg.LN_ES_STAT]
    omega
  exact State.flag_setFlag_false_keep rfl (State.flag_setFlag_false_keep rfl (State.flag_setFlag_false_keep rfl
    (State.flag_setFlag_false_keep rfl (State.flag_setFlag_false_keep rfl hscan))))

/-! ## Conditions of a lane (R228, R240) -/

section
variable (s : State) {i : Nat} (hi : i < 103) {f : Field} (hf : f.addr = Reg.LN_STAT i)

theorem State.sticky_laneRaise (f : Field) (i : Nat) : (s.laneRaise f i).sticky (laneEvent i) = true :=
  State.sticky_raiseBit_same s f _ (laneEvent_lt i)

include hf

theorem State.laneRaise_writes : WritesAt (laneStatus i) s (s.laneRaise f i) :=
  (WritesAt.refl _ s).raiseBit (Or.inl hf) (laneEvent_lt i)

include hi

theorem eventSafe_of_LN_STAT : eventSafe f = true := eventSafe_of_lane hi (o := 4) (by decide) hf

theorem State.flag_laneRaise_same (hfits : f.fits = true) (hwidth : f.width = 1) : (s.laneRaise f i).flag f = true :=
  State.flag_raiseBit_same s _ (laneEvent_lt i) (eventSafe_of_LN_STAT hi hf) hfits hwidth

/-- A condition leaves the other bits of LN_STAT alone. -/
theorem State.flag_laneRaise_other {g : Field} (hfits : g.fits = true) (hapart : g.apart f) : (s.laneRaise g i).flag f = s.flag f :=
  State.flag_raiseBit_apart s g _ (laneEvent_lt i) (eventSafe_of_LN_STAT hi hf) hfits hapart

end

/-! ## Lanes without a PLL (R219, R227, R228) -/

/-- The lane reports neither READY nor PLL_OK. -/
def State.laneDown (s : State) (i : Nat) : Prop := s.flag (Fld.LN_STAT_READY i) = false ∧ s.flag (Fld.LN_STAT_PLL_OK i) = false

section
variable {s t : State} {i : Nat}

theorem State.laneDown.of_writes {A : Nat → Prop} (h : s.laneDown i) (ht : WritesAt A s t) (hi : i < 103) (ha : ¬ A (Reg.LN_STAT i)) :
    t.laneDown i :=
  ⟨(ht.flag_eq (eventSafe_of_LN_STAT hi rfl) ha).trans h.1, (ht.flag_eq (eventSafe_of_LN_STAT hi rfl) ha).trans h.2⟩

theorem State.laneDown.laneRaise (h : s.laneDown i) (hi : i < 103) {f : Field} (hfits : f.fits = true) (hlo : 8 ≤ f.lo) :
    (s.laneRaise f i).laneDown i :=
  ⟨(s.flag_laneRaise_other hi rfl hfits (Or.inr (Or.inr (by simp only; omega)))).trans h.1,
    (s.flag_laneRaise_other hi rfl hfits (Or.inr (Or.inr (by simp only; omega)))).trans h.2⟩

theorem State.restartLane_down (h : s.flag (Fld.LN_PLL_STAT_LOCK (pllOfLane i)) = false) : (s.restartLane i).laneDown i := by
  obtain ⟨-, -, hready⟩ := s.restartCdr_cleared (i := i)
  rw [State.restartLane, h]
  exact ⟨(State.flag_setFlag_apart _ _ _ _ rfl (by simp [Field.apart])).trans hready, State.flag_setFlag_same _ _ _ rfl rfl⟩

end

/-! ## The checks of a lane, a PLL and a descriptor (R219, R220, R288) -/

/-- The addresses that the check of a PLL writes: LN_PLL_STAT, and LN_STAT of its lanes. -/
def pllStatus (k a : Nat) : Prop := a = Reg.LN_PLL_STAT k ∨ ∃ j ∈ lanesOfPll k, a = Reg.LN_STAT j

/-- The addresses of the acquisition engine and above, up to those of the array. -/
def acqOutput (a : Nat) : Prop := 0x6000000 ≤ a ∧ a < 0xC000000

theorem laneOutput_of_acqOutput {a : Nat} (h : acqOutput a) : laneOutput a := ⟨by have := h.1; omega, h.2, Or.inr h.1⟩

theorem laneOutput_of_pllStatus {k a : Nat} (hk : k < 28) (h : pllStatus k a) : laneOutput a := by
  obtain rfl | ⟨j, hj, rfl⟩ := h
  · simp only [laneOutput, Reg.LN_PLL_STAT]
    omega
  · exact laneOutput_of_laneStatus (pllOfLane_of_mem hk hj).1 (Or.inl rfl)

theorem not_acqOutput_LN_STAT {i : Nat} (hi : i < 103) : ¬ acqOutput (Reg.LN_STAT i) := by
  simp only [acqOutput, Reg.LN_STAT]
  omega

theorem not_acqOutput_LN_PLL_STAT {k : Nat} (hk : k < 28) : ¬ acqOutput (Reg.LN_PLL_STAT k) := by
  simp only [acqOutput, Reg.LN_PLL_STAT]
  omega

section
variable (s : State) {i k : Nat}

theorem State.checkLane_writes (i : Nat) : WritesAt (laneStatus i) s (s.checkLane i) :=
  .ite ((s.restartSig_writes i).trans (State.laneRaise_writes _ rfl)) (.refl _ s)

theorem State.checkPll_writes (k : Nat) : WritesAt (pllStatus k) s (s.checkPll k) := by
  refine .ite (.foldl _ _ (fun t j hj => ?_) ?_) (.refl _ s)
  · exact ((WritesAt.refl _ t).setFlag _ (Or.inr ⟨j, hj, rfl⟩)).raiseBit (Or.inr ⟨j, hj, rfl⟩) (laneEvent_lt j)
  · exact ((WritesAt.refl _ s).setFlag _ (Or.inl rfl)).setFlag _ (Or.inl rfl)

theorem State.acqRecheck_writes (i : Nat) : WritesAt acqOutput s (s.acqRecheck i) := by
  have hrefused : acqOutput (Fld.ACQ_STATUS_CFG_REFUSED).addr := by simp only [acqOutput, Reg.ACQ_STATUS]; omega
  unfold State.acqRecheck State.acqCheck
  split
  next hcheck =>
    have hi : i < 96 := by
      simp only [Bool.and_eq_true, decide_eq_true_eq] at hcheck
      exact hcheck.1
    have hstat : acqOutput (Reg.ACQ_LN_STAT i) := by simp only [acqOutput, Reg.ACQ_LN_STAT]; omega
    exact .ite (((((WritesAt.refl _ s).setFlag _ hstat).setReg _ hstat).setFlag _ hstat).raiseBit hrefused (by decide))
      ((WritesAt.refl _ s).setFlag _ hstat)
  next => exact .refl _ s

variable {s}

/-- The check of a lane sets none of the rows of R227. -/
theorem State.flag_checkLane_false (hi : i < 103) {f : Field} (hf : f.addr = Reg.LN_STAT i) (hlow : f.lo + f.width ≤ 8)
    (h : s.flag f = false) : (s.checkLane i).flag f = false := by
  unfold State.checkLane
  split
  · rw [State.flag_laneRaise_other _ hi hf rfl (Or.inr (Or.inr (by simp only; omega)))]
    exact State.flag_restartSig_false hf h
  · exact h

theorem State.laneDown.checkLane (h : s.laneDown i) (hi : i < 103) : (s.checkLane i).laneDown i :=
  ⟨State.flag_checkLane_false hi rfl (by simp) h.1, State.flag_checkLane_false hi rfl (by simp) h.2⟩

theorem State.laneDown.checkPll (h : s.laneDown i) (hi : i < 103) (hk : k < 28) : (s.checkPll k).laneDown i := by
  have hstat : Reg.LN_STAT i ≠ Reg.LN_PLL_STAT k := by simp only [Reg.LN_STAT, Reg.LN_PLL_STAT]; omega
  have hpll (t : State) (b : Bool) (f : Field) (hf : f.addr = Reg.LN_PLL_STAT k) (ht : t.laneDown i) : (t.setFlag f b).laneDown i :=
    ht.of_writes (A := fun a => a = Reg.LN_PLL_STAT k) ((WritesAt.refl _ t).setFlag b hf) hi hstat
  unfold State.checkPll
  split
  · have hbits := hpll _ true (Fld.LN_PLL_STAT_RANGE k) rfl (hpll s false (Fld.LN_PLL_STAT_LOCK k) rfl h)
    refine List.foldlRecOn (motive := fun t : State => t.laneDown i) _ _ hbits fun t ht j _ => ?_
    by_cases hj : j = i
    · subst hj
      exact State.laneDown.laneRaise ⟨(State.flag_setFlag_apart _ _ _ _ rfl (by simp [Field.apart])).trans ht.1,
        State.flag_setFlag_same _ _ _ rfl rfl⟩ hi rfl (by simp)
    · exact ht.of_writes (((WritesAt.refl _ t).setFlag false (Or.inl rfl)).trans (State.laneRaise_writes _ rfl)) hi
        (not_laneStatus_LN_STAT hj)
  · exact h

theorem State.checkPll_unlocked (h : s.flag (Fld.LN_PLL_STAT_LOCK k) = false) (hk : k < 28) :
    (s.checkPll k).flag (Fld.LN_PLL_STAT_LOCK k) = false := by
  have hsafe : eventSafe (Fld.LN_PLL_STAT_LOCK k) = true :=
    eventSafe_of_serial (by simp only [Reg.LN_PLL_STAT]; omega) (by simp only [Reg.LN_PLL_STAT]; omega)
  unfold State.checkPll
  split
  · refine List.foldlRecOn (motive := fun t : State => t.flag (Fld.LN_PLL_STAT_LOCK k) = false) _ _ ?_ fun t ht j hj => ?_
    · rw [State.flag_setFlag_apart _ _ _ _ rfl (by simp [Field.apart]), State.flag_setFlag_same _ _ _ rfl rfl]
    · exact ((((WritesAt.refl _ t).setFlag false (Or.inl rfl)).trans (State.laneRaise_writes _ rfl)).flag_eq hsafe
        (not_laneStatus_LN_PLL_STAT (pllOfLane_of_mem hk hj).1)).trans ht
  · exact h

end

/-! ## Adaptation (R227, R233) -/

/-- What the end of adaptation writes. -/
def adaptFields (i : Nat) : List Field :=
  [Fld.LN_STAT_ADAPT_DONE i, Fld.LN_STAT_READY i, wholeReg (Reg.LN_RXEQ_ST i)] ++
    (List.range 3).map fun x => wholeReg (Reg.LN_DFE_ST i x)

/-- From `s` to `t` only the fields of `w`, the last completion, the outputs and the count of free values taken change. -/
def OnlyFree (w : List Field) (s t : State) : Prop := Only w { s with freeIdx := t.freeIdx } t

section
variable {w : List Field} {s t : State} (h : OnlyFree w s t)
include h

theorem OnlyFree.setReg (a : Nat) (v : Word32) (hm : wholeReg a ∈ w) : OnlyFree w s (t.setReg a v) := Only.setReg h a v hm

theorem OnlyFree.setFlag (f : Field) (b : Bool) (hf : f.fits = true) (hm : f ∈ w) : OnlyFree w s (t.setFlag f b) :=
  Only.setFlag h f b hf hm

theorem OnlyFree.takeFree : OnlyFree w s t.takeFree.2 :=
  ⟨congrArg (fun x : State => { x with freeIdx := t.freeIdx + 1 }) h.1, h.2⟩

theorem OnlyFree.lane_eq : t.lane = s.lane := (congrArg (fun x : State => x.lane) h.1 :)

theorem OnlyFree.writesAt {A : Nat → Prop} (hw : ∀ f ∈ w, A f.addr) : WritesAt A s t :=
  ⟨(congrArg (fun x : State => x.clock) h.1 :), fun g _ hg => h.2 g fun f hf => Or.inl fun e => hg (e ▸ hw f hf)⟩

end

section
variable (s : State) {i : Nat}

theorem State.eqFixed_frame (i : Nat) : OnlyFree (adaptFields i) s (s.eqFixed i) := by
  have hfirst : OnlyFree (adaptFields i) s (s.setReg (Reg.LN_RXEQ_ST i) (s.reg (Reg.LN_RXEQ i) &&& 0x3FF)) :=
    OnlyFree.setReg (Only.refl _ s) _ _ (List.mem_append_left _ (by simp))
  exact List.foldlRecOn _ _ hfirst fun t ht x hx => ht.setReg _ _ (List.mem_append_right _ (List.mem_map.2 ⟨x, hx, rfl⟩))

theorem State.eqAdapted_frame (i : Nat) : OnlyFree (adaptFields i) s (s.eqAdapted i) := by
  have hfirst : OnlyFree (adaptFields i) s
      (s.takeFree.2.setReg (Reg.LN_RXEQ_ST i) (BitVec.ofNat 32 (s.takeFree.1.toNat % 1024))) :=
    (OnlyFree.takeFree (Only.refl _ s)).setReg _ _ (List.mem_append_left _ (by simp))
  exact List.foldlRecOn _ _ hfirst fun t ht x hx =>
    ht.takeFree.setReg _ _ (List.mem_append_right _ (List.mem_map.2 ⟨x, hx, rfl⟩))

/-- The end of adaptation changes the values in use and sets ADAPT_DONE and READY. -/
theorem State.adapted_frame (i : Nat) : OnlyFree (adaptFields i) s (s.adapted i) := by
  have hvalues : OnlyFree (adaptFields i) s (if s.fld (Fld.LN_CFG_ADAPT i) = 2 then s.eqFixed i else s.eqAdapted i) := by
    split
    · exact s.eqFixed_frame i
    · exact s.eqAdapted_frame i
  exact (hvalues.setFlag _ true rfl (List.mem_append_left _ (by simp))).setFlag _ true rfl (List.mem_append_left _ (by simp))

theorem State.adapted_done (i : Nat) :
    (s.adapted i).flag (Fld.LN_STAT_ADAPT_DONE i) = true ∧ (s.adapted i).flag (Fld.LN_STAT_READY i) = true :=
  ⟨(State.flag_setFlag_apart _ _ _ _ rfl (by simp [Field.apart])).trans (State.flag_setFlag_same _ _ _ rfl rfl),
    State.flag_setFlag_same _ _ _ rfl rfl⟩

theorem State.flag_adapted_CDR_LOCK (i : Nat) : (s.adapted i).flag (Fld.LN_STAT_CDR_LOCK i) = s.flag (Fld.LN_STAT_CDR_LOCK i) := by
  have hdfe : ∀ x < 3, Reg.LN_DFE_ST i x ≠ Reg.LN_STAT i := by
    intro x hx
    simp only [Reg.LN_DFE_ST, Reg.LN_STAT]
    omega
  have hapart : ∀ f ∈ adaptFields i, f.apart (Fld.LN_STAT_CDR_LOCK i) := by
    simpa [adaptFields, Field.apart, wholeReg] using hdfe
  exact congrArg (· != 0) ((s.adapted_frame i).2 _ hapart)

end

end Sys2Proof.Machine

/-! PROOFS.  The bring-up of a lane and its losses (R227 to R229, R236, R237). -/

namespace Sys2Proof.Machine

/-! ## What the lanes of a PLL do one after the other -/

/-- The addresses at which the receivers of a PLL's lanes report. -/
def lanesStatus (k a : Nat) : Prop := ∃ j ∈ lanesOfPll k, laneStatus j a

section
variable {k : Nat} (hk : k < 28) {g : State → Nat → State} (hg : ∀ t, ∀ j ∈ lanesOfPll k, WritesAt (laneStatus j) t (g t j))

include hk in
theorem laneOutput_of_lanesStatus {a : Nat} (h : lanesStatus k a) : laneOutput a := by
  obtain ⟨j, hj, ha⟩ := h
  exact laneOutput_of_laneStatus (pllOfLane_of_mem hk hj).1 ha

include hk in
theorem WritesAt.flag_LN_PLL_STAT {s t : State} (h : WritesAt (lanesStatus k) s t) {f : Field} (hf : f.addr = Reg.LN_PLL_STAT k) :
    t.flag f = s.flag f := by
  refine h.flag_eq (eventSafe_of_serial ?_ ?_) ?_
  · simp only [hf, Reg.LN_PLL_STAT]
    omega
  · simp only [hf, Reg.LN_PLL_STAT]
    omega
  · rintro ⟨j, hj, ha⟩
    exact not_laneStatus_LN_PLL_STAT (pllOfLane_of_mem hk hj).1 (hf ▸ ha)

include hg

theorem foldl_lanes_writes (s : State) : WritesAt (lanesStatus k) s ((lanesOfPll k).foldl g s) :=
  .foldl _ _ (fun t j hj => (hg t j hj).mono fun _ ha => ⟨j, hj, ha⟩) (.refl _ s)

/-- What lane `i` of a PLL brings about and the other lanes leave alone holds after all of them. -/
theorem foldl_lanes_reaches {i : Nat} (hi : i ∈ lanesOfPll k) {s : State} {P : State → Prop}
    (hreach : ∀ t, WritesAt (lanesStatus k) s t → P (g t i)) (hkeep : ∀ t, ∀ j ∈ lanesOfPll k, j ≠ i → P t → P (g t j)) :
    P ((lanesOfPll k).foldl g s) :=
  foldl_reaches (Q := WritesAt (lanesStatus k) s) hi (fun t j hj ht => ht.trans ((hg t j hj).mono fun _ ha => ⟨j, hj, ha⟩)) hreach hkeep
    (.refl _ s)

end

/-! ## Bring-up (R227) -/

/-- PLL_OK, as a lane that runs reports it. -/
def State.reportPllOk (s : State) (j : Nat) : State := if s.laneRuns j then s.setFlag (Fld.LN_STAT_PLL_OK j) true else s

theorem State.reportPllOk_writes (s : State) (j : Nat) : WritesAt (laneStatus j) s (s.reportPllOk j) :=
  .ite ((WritesAt.refl _ s).setFlag true (Or.inl rfl)) (.refl _ s)

theorem pllLock_completes {s : State} {k : Fin 28} (hruns : s.pllRuns k = true) (hrange : s.pllInRange k = true) :
    Completes (.pllLock k) s fun t =>
      t.flag (Fld.LN_PLL_STAT_LOCK k) = true ∧ (∀ j ∈ lanesOfPll k, s.laneRuns j = true → t.flag (Fld.LN_STAT_PLL_OK j) = true) ∧
      Only (Fld.LN_PLL_STAT_LOCK k :: (lanesOfPll k).map Fld.LN_STAT_PLL_OK) s t := by
  have hrun : exec (.pllLock k) s =
      .next ((lanesOfPll k).foldl State.reportPllOk (s.setFlag (Fld.LN_PLL_STAT_LOCK k) true)) :=
    congrArg Host.Outcome.next (if_pos (by rw [hruns, hrange, Bool.and_self]))
  have hlock : Only (Fld.LN_PLL_STAT_LOCK k :: (lanesOfPll k).map Fld.LN_STAT_PLL_OK) s (s.setFlag (Fld.LN_PLL_STAT_LOCK k) true) :=
    (Only.refl _ s).setFlag _ true rfl List.mem_cons_self
  refine ⟨_, hrun, ?_, fun j hj hj' => ?_, ?_⟩
  · rw [(foldl_lanes_writes (fun t j _ => t.reportPllOk_writes j) _).flag_LN_PLL_STAT k.isLt rfl]
    exact State.flag_setFlag_same _ _ _ rfl rfl
  · have hj103 := (pllOfLane_of_mem k.isLt hj).1
    refine foldl_lanes_reaches (fun t j _ => t.reportPllOk_writes j) hj (P := fun t => t.flag (Fld.LN_STAT_PLL_OK j) = true)
      (fun t ht => ?_) fun t i _ hne ht => ?_
    · have hwrites : WritesAt laneOutput s t :=
        ((WritesAt.refl _ s).setFlag true (laneOutput_of_pllStatus k.isLt (Or.inl rfl))).trans
          (ht.mono fun _ => laneOutput_of_lanesStatus k.isLt)
      rw [State.reportPllOk, if_pos ((hwrites.laneRuns_eq hj103).trans hj')]
      exact State.flag_setFlag_same _ _ _ rfl rfl
    · exact ((t.reportPllOk_writes i).flag_eq (eventSafe_of_LN_STAT hj103 rfl) (not_laneStatus_LN_STAT hne)).trans ht
  · refine List.foldlRecOn _ _ hlock fun t ht j hj => ?_
    unfold State.reportPllOk
    split
    · exact ht.setFlag _ true rfl (List.mem_cons_of_mem _ (List.mem_map.2 ⟨j, hj, rfl⟩))
    · exact ht

section
variable {s : State} {i : Fin 103} (hruns : s.laneRuns i = true)
include hruns

theorem sigdet_completes : Completes (.sigdet i) s fun t =>
    t.flag (Fld.LN_STAT_SIGDET i) = true ∧ Only [Fld.LN_STAT_SIGDET i] s t :=
  ⟨_, congrArg Host.Outcome.next (if_pos hruns), State.flag_setFlag_same _ _ _ rfl rfl,
    (Only.refl _ s).setFlag _ true rfl List.mem_cons_self⟩

theorem adaptDone_completes (hcdr : s.flag (Fld.LN_STAT_CDR_LOCK i) = true) : Completes (.adaptDone i) s fun t =>
    t.flag (Fld.LN_STAT_ADAPT_DONE i) = true ∧ t.flag (Fld.LN_STAT_READY i) = true ∧
    Only ([Fld.LN_STAT_ADAPT_DONE i, Fld.LN_STAT_READY i, wholeReg (Reg.LN_RXEQ_ST i)] ++
      (List.range 3).map fun x => wholeReg (Reg.LN_DFE_ST i x)) { s with freeIdx := t.freeIdx } t := by
  obtain ⟨hdone, hready⟩ := s.adapted_done i
  exact ⟨_, congrArg Host.Outcome.next (if_pos (by rw [hruns, hcdr, Bool.and_self])), hdone, hready, s.adapted_frame i⟩

/-- CDR lock centres the buffer, and under ADAPT FIXED it ends the bring-up. -/
theorem cdrLock_completes (hpll : s.flag (Fld.LN_STAT_PLL_OK i) = true) (hsig : s.flag (Fld.LN_STAT_SIGDET i) = true) :
    Completes (.cdrLock i) s fun t =>
      t.flag (Fld.LN_STAT_CDR_LOCK i) = true ∧ Sparse.get false t.lane.slipped i = false ∧
      (s.fld (Fld.LN_CFG_ADAPT i) = 2 → t.flag (Fld.LN_STAT_ADAPT_DONE i) = true ∧ t.flag (Fld.LN_STAT_READY i) = true) ∧
      (s.fld (Fld.LN_CFG_ADAPT i) ≠ 2 →
        Only [Fld.LN_STAT_CDR_LOCK i] { s with lane := { s.lane with slipped := t.lane.slipped } } t) := by
  let centred : State := { s with lane := { s.lane with slipped := Sparse.put false s.lane.slipped i false } }
  let locked := centred.setFlag (Fld.LN_STAT_CDR_LOCK i) true
  have hrun : exec (.cdrLock i) s = .next (if locked.fld (Fld.LN_CFG_ADAPT i) = 2 then locked.adapted i else locked) :=
    congrArg Host.Outcome.next (if_pos (by rw [hruns, hpll, hsig]; rfl))
  have hadapt : locked.fld (Fld.LN_CFG_ADAPT i) = s.fld (Fld.LN_CFG_ADAPT i) :=
    State.fld_setFlag_apart centred _ _ _ rfl (by simp [Field.apart])
  have hlock : locked.flag (Fld.LN_STAT_CDR_LOCK i) = true := State.flag_setFlag_same _ _ _ rfl rfl
  have hslipped : Sparse.get false locked.lane.slipped i = false :=
    Sparse.get_put_same false s.lane.slipped i false
  rw [hadapt] at hrun
  by_cases hfixed : s.fld (Fld.LN_CFG_ADAPT i) = 2
  · rw [if_pos hfixed] at hrun
    exact ⟨_, hrun, (locked.flag_adapted_CDR_LOCK i).trans hlock,
      (congrArg (fun l : LaneSt => Sparse.get false l.slipped i) (locked.adapted_frame i).lane_eq).trans hslipped,
      fun _ => locked.adapted_done i, fun h => absurd hfixed h⟩
  · rw [if_neg hfixed] at hrun
    exact ⟨_, hrun, hlock, hslipped, fun h => absurd h hfixed,
      fun _ => (Only.refl _ centred).setFlag _ true rfl List.mem_cons_self⟩

theorem prbsLock_completes (hready : s.flag (Fld.LN_STAT_READY i) = true) (hlow : 1 ≤ s.fld (Fld.LN_PRBS_CTRL_RX_PAT i))
    (hhigh : s.fld (Fld.LN_PRBS_CTRL_RX_PAT i) ≤ 5) : Completes (.prbsLock i) s fun t =>
      t.flag (Fld.LN_STAT_PRBS_LOCK i) = true ∧ Only [Fld.LN_STAT_PRBS_LOCK i] s t := by
  have hpattern : (s.fld (Fld.LN_PRBS_CTRL_RX_PAT i) != 0 && decide (s.fld (Fld.LN_PRBS_CTRL_RX_PAT i) < 6)) = true := by
    simp only [Bool.and_eq_true, bne_iff_ne, decide_eq_true_eq]
    omega
  refine ⟨_, congrArg Host.Outcome.next (if_pos ?_), State.flag_setFlag_same _ _ _ rfl rfl,
    (Only.refl _ s).setFlag _ true rfl List.mem_cons_self⟩
  rw [hruns, hready, Bool.and_self, Bool.and_assoc, Bool.true_and, hpattern]

/-! ## Losses (R228, R229, R236) -/

theorem los_completes : Completes (.los i) s fun t =>
    t.flag (Fld.LN_STAT_LOS i) = true ∧ t.sticky (laneEvent i) = true ∧ t.flag (Fld.LN_STAT_SIGDET i) = false ∧
    t.flag (Fld.LN_STAT_CDR_LOCK i) = false ∧ t.flag (Fld.LN_STAT_ADAPT_DONE i) = false ∧ t.flag (Fld.LN_STAT_READY i) = false ∧
    t.flag (Fld.LN_STAT_PLL_OK i) = s.flag (Fld.LN_STAT_PLL_OK i) := by
  obtain ⟨hsig, hcdr, hadapt, hready⟩ := s.restartSig_cleared (i := i)
  have hpll : (s.restartSig i).flag (Fld.LN_STAT_PLL_OK i) = s.flag (Fld.LN_STAT_PLL_OK i) :=
    (State.flag_setFlag_apart _ _ _ _ rfl (by simp [Field.apart])).trans (s.flag_restartCdr_low rfl (by simp))
  have hother {f : Field} (hf : f.addr = Reg.LN_STAT i) (hlow : f.lo + f.width ≤ 8) :
      ((s.restartSig i).laneRaise (Fld.LN_STAT_LOS i) i).flag f = (s.restartSig i).flag f :=
    State.flag_laneRaise_other _ i.isLt hf rfl (Or.inr (Or.inr hlow))
  exact ⟨_, congrArg Host.Outcome.next (if_pos hruns), State.flag_laneRaise_same _ i.isLt rfl rfl rfl, State.sticky_laneRaise ..,
    (hother rfl (by simp)).trans hsig, (hother rfl (by simp)).trans hcdr, (hother rfl (by simp)).trans hadapt,
    (hother rfl (by simp)).trans hready, (hother rfl (by simp)).trans hpll⟩

theorem lol_completes : Completes (.lol i) s fun t =>
    t.flag (Fld.LN_STAT_LOL i) = true ∧ t.sticky (laneEvent i) = true ∧ t.flag (Fld.LN_STAT_CDR_LOCK i) = false ∧
    t.flag (Fld.LN_STAT_ADAPT_DONE i) = false ∧ t.flag (Fld.LN_STAT_READY i) = false ∧
    t.flag (Fld.LN_STAT_SIGDET i) = s.flag (Fld.LN_STAT_SIGDET i) := by
  obtain ⟨hcdr, hadapt, hready⟩ := s.restartCdr_cleared (i := i)
  have hother {f : Field} (hf : f.addr = Reg.LN_STAT i) (hlow : f.lo + f.width ≤ 9) :
      ((s.restartCdr i).laneRaise (Fld.LN_STAT_LOL i) i).flag f = (s.restartCdr i).flag f :=
    State.flag_laneRaise_other _ i.isLt hf rfl (Or.inr (Or.inr hlow))
  exact ⟨_, congrArg Host.Outcome.next (if_pos hruns), State.flag_laneRaise_same _ i.isLt rfl rfl rfl, State.sticky_laneRaise ..,
    (hother rfl (by simp)).trans hcdr, (hother rfl (by simp)).trans hadapt, (hother rfl (by simp)).trans hready,
    (hother rfl (by simp)).trans (s.flag_restartCdr_low rfl (by simp))⟩

/-- A slip re-centres the buffer: READY stays, and a running scan is aborted (R229, R235). -/
theorem slip_completes (hcdr : s.flag (Fld.LN_STAT_CDR_LOCK i) = true) : Completes (.slip i) s fun t =>
    t.flag (Fld.LN_STAT_SLIP i) = true ∧ t.sticky (laneEvent i) = true ∧ Sparse.get false t.lane.slipped i = true ∧
    t.flag (Fld.LN_STAT_READY i) = s.flag (Fld.LN_STAT_READY i) ∧
    OnlyEv [Fld.LN_STAT_SLIP i, Fld.LN_ES_STAT_ABORTED i] { s with lane := t.lane } t := by
  let moved : State := { s with lane := { s.lane with slipped := Sparse.put false s.lane.slipped i true } }
  let aborted := moved.abortScan i
  have hlane : (aborted.laneRaise (Fld.LN_STAT_SLIP i) i).lane = aborted.lane := State.raiseBit_lane ..
  have hreg : aborted.reg (Reg.LN_STAT i) = s.reg (Reg.LN_STAT i) :=
    moved.reg_abortScan (by simp only [Reg.LN_STAT, Reg.LN_ES_STAT]; omega)
  have hready : aborted.flag (Fld.LN_STAT_READY i) = s.flag (Fld.LN_STAT_READY i) := State.flag_of_reg hreg
  refine ⟨aborted.laneRaise (Fld.LN_STAT_SLIP i) i, congrArg Host.Outcome.next (if_pos (by rw [hruns, hcdr, Bool.and_self])),
    State.flag_laneRaise_same _ i.isLt rfl rfl rfl, State.sticky_laneRaise .., ?_,
    (State.flag_laneRaise_other _ i.isLt rfl rfl (by simp [Field.apart])).trans hready, ?_⟩
  · rw [hlane, moved.abortScan_slipped]
    exact Sparse.get_put_same false s.lane.slipped i true
  · rw [hlane]
    have habort : Only [Fld.LN_STAT_SLIP i, Fld.LN_ES_STAT_ABORTED i] { s with lane := aborted.lane } aborted :=
      moved.abortScan_frame (List.mem_cons_of_mem _ List.mem_cons_self)
    exact habort.ev.raiseBit _ _ rfl List.mem_cons_self (laneEvent_lt i)

theorem feSlip_completes (hloop : s.fld (Fld.LN_CFG_LPBK i) = 3) (hdata : i.val < 96) : Completes (.feSlip i) s fun t =>
    t.flag (Fld.LN_STAT_FE_SLIP i) = true ∧ t.sticky (laneEvent i) = true ∧ OnlyEv [Fld.LN_STAT_FE_SLIP i] s t :=
  ⟨_, congrArg Host.Outcome.next (if_pos (by rw [hruns, hloop, decide_eq_true hdata]; rfl)),
    State.flag_laneRaise_same _ i.isLt rfl rfl rfl, State.sticky_laneRaise ..,
    (OnlyEv.refl _ s).raiseBit _ _ rfl List.mem_cons_self (laneEvent_lt i)⟩

end

/-- The loss of a PLL, as a lane that runs reports it. -/
def State.losePll (s : State) (j : Nat) : State :=
  if s.laneRuns j then (s.restartLane j).laneRaise (Fld.LN_STAT_PLL_LOST j) j else s

theorem State.losePll_writes (s : State) (j : Nat) : WritesAt (laneStatus j) s (s.losePll j) :=
  .ite ((s.restartLane_writes j).trans (State.laneRaise_writes _ rfl)) (.refl _ s)

theorem State.sticky_losePll_keep {s : State} (j : Nat) {n : Nat} (hn : n < 512) (h : s.sticky n = true) :
    (s.losePll j).sticky n = true := by
  unfold State.losePll
  split
  · refine State.sticky_raise_keep _ _ hn ?_
    rw [State.sticky_congr n (State.reg_setFlag_other _ _ _ _ (not_or.1 (not_laneStatus_sticky (j := j) hn)).1),
      State.sticky_restartLane _ hn]
    exact h
  · exact h

/-- A lane that has reported the loss of its PLL. -/
def State.lostPll (s : State) (i : Nat) : Prop :=
  s.flag (Fld.LN_STAT_PLL_LOST i) = true ∧ s.sticky (laneEvent i) = true ∧ s.laneDown i

theorem State.losePll_lost {s : State} {i : Nat} (hi : i < 103) (hruns : s.laneRuns i = true)
    (hlock : s.flag (Fld.LN_PLL_STAT_LOCK (pllOfLane i)) = false) : (s.losePll i).lostPll i := by
  rw [State.losePll, if_pos hruns]
  exact ⟨State.flag_laneRaise_same _ hi rfl rfl rfl, State.sticky_laneRaise ..,
    (State.restartLane_down hlock).laneRaise hi rfl (by simp)⟩

theorem State.lostPll.losePll {s : State} {i j : Nat} (h : s.lostPll i) (hi : i < 103) (hne : j ≠ i) : (s.losePll j).lostPll i :=
  ⟨((s.losePll_writes j).flag_eq (eventSafe_of_LN_STAT hi rfl) (not_laneStatus_LN_STAT hne)).trans h.1,
    State.sticky_losePll_keep j (laneEvent_lt i) h.2.1, h.2.2.of_writes (s.losePll_writes j) hi (not_laneStatus_LN_STAT hne)⟩

theorem pllLost_completes {s : State} {i : Fin 103} (hruns : s.laneRuns i = true) {k : Fin 28} (hi : i.val ∈ lanesOfPll k) :
    Completes (.pllLost k) s fun t =>
      t.flag (Fld.LN_PLL_STAT_LOCK k) = false ∧ t.flag (Fld.LN_STAT_PLL_LOST i) = true ∧ t.sticky (laneEvent i) = true ∧
      t.flag (Fld.LN_STAT_READY i) = false ∧ t.flag (Fld.LN_STAT_PLL_OK i) = false := by
  have hpll := (pllOfLane_of_mem k.isLt hi).2
  have hunlocked : (s.setFlag (Fld.LN_PLL_STAT_LOCK k) false).flag (Fld.LN_PLL_STAT_LOCK k) = false :=
    State.flag_setFlag_same _ _ _ rfl rfl
  have hlost : ((lanesOfPll k).foldl State.losePll (s.setFlag (Fld.LN_PLL_STAT_LOCK k) false)).lostPll i := by
    refine foldl_lanes_reaches (P := fun t => t.lostPll i) (fun t j _ => t.losePll_writes j) hi (fun t ht => ?_)
      fun t j _ hne ht => ht.losePll i.isLt hne
    have hwrites : WritesAt laneOutput s t :=
      ((WritesAt.refl _ s).setFlag false (laneOutput_of_pllStatus k.isLt (Or.inl rfl))).trans
        (ht.mono fun _ => laneOutput_of_lanesStatus k.isLt)
    refine State.losePll_lost i.isLt ((hwrites.laneRuns_eq i.isLt).trans hruns) ?_
    rw [hpll]
    exact (ht.flag_LN_PLL_STAT k.isLt rfl).trans hunlocked
  obtain ⟨hbit, hsticky, hready, hok⟩ := hlost
  exact ⟨_, rfl, ((foldl_lanes_writes (fun t j _ => t.losePll_writes j) _).flag_LN_PLL_STAT k.isLt rfl).trans hunlocked,
    hbit, hsticky, hready, hok⟩

/-- Settles O19, clause by clause: the rows of the bring-up, then the losses of a lane that runs. -/
theorem laneStates : Obligations.LaneStates :=
  ⟨fun _ _ => ⟨fun _ => pllLock_completes, fun hruns => ⟨sigdet_completes hruns, cdrLock_completes hruns, adaptDone_completes hruns,
      prbsLock_completes hruns⟩⟩,
    fun _ _ hruns => ⟨los_completes hruns, lol_completes hruns, fun _ => pllLost_completes hruns, slip_completes hruns,
      feSlip_completes hruns⟩⟩

end Sys2Proof.Machine

/-! PROOFS.  Writes of lane, PLL and transmit registers, and the eye scan (R219, R227, R232, R234, R235, R238). -/

namespace Sys2Proof.Machine

/-! ## Assigning writes (R173, R238) -/

section
variable {s : State} {mid : Mid} {i : Nat} (hi : i < 96) (f : State → State)
include hi

/-- A lane that the image does not own takes any write. -/
theorem State.laneAssign_of_free (hfree : s.imageOwner 0x04 i = 0) : s.laneAssign mid i f = f s := by
  rw [State.laneAssign, if_pos hi]
  exact if_neg fun h => h.2 hfree

theorem State.laneAssign_of_refused (hmid : mid ≠ 0x10) (howned : s.imageOwner 0x04 i ≠ 0) (hmay : s.mayAssign mid 0x04 i = false) :
    s.laneAssign mid i f = s.claimRefuse := by
  rw [State.laneAssign, if_pos hi]
  exact (if_pos ⟨hmid, howned⟩).trans (if_neg (by rw [hmay]; exact Bool.false_ne_true))

end

/-- A refused assigning write (R173). -/
theorem State.claimRefuse_spec (s : State) :
    s.claimRefuse.done.status = Code.conflict ∧ s.claimRefuse.flag Fld.LDR_CHK_STAT_CLAIM_CONFLICT = true ∧
    s.claimRefuse.sticky 407 = true ∧ OnlyEv [Fld.LDR_CHK_STAT_CLAIM_CONFLICT] s s.claimRefuse :=
  ⟨rfl, State.flag_raiseBit_same s 407 (by decide) rfl rfl rfl, State.sticky_raiseBit_same s _ 407 (by decide),
    ((OnlyEv.refl _ s).raiseBit _ _ rfl List.mem_cons_self (by decide)).reply _⟩

/-! ## Masks of written values -/

/-- A mask that holds every bit of a field keeps the field. -/
theorem Field.get_and_mask {f : Field} (hfits : f.fits = true) {m : Word32} (hm : f.mask &&& m = f.mask) (w : Word32) :
    f.get (w &&& m) = f.get w := by
  apply Nat.eq_of_testBit_eq
  intro k
  rw [Field.get_testBit, Field.get_testBit, BitVec.toNat_and, Nat.testBit_and]
  by_cases hk : k < f.width
  · have hbit := congrArg (fun x : Word32 => x.getLsbD (f.lo + k)) hm
    have hmask : f.mask.getLsbD (f.lo + k) = true := by
      rw [Field.mask_bit f hfits, decide_eq_true (Nat.le_add_right ..), decide_eq_true (Nat.add_lt_add_left hk _), Bool.and_self]
    simp only [BitVec.getLsbD_and, hmask, Bool.true_and] at hbit
    rw [BitVec.testBit_toNat m, hbit, Bool.and_true]
  · rw [decide_eq_false hk, Bool.false_and, Bool.false_and]

theorem State.fld_setReg_masked (s : State) {f : Field} (hfits : f.fits = true) {m : Word32} (hm : f.mask &&& m = f.mask) (v : Word32) :
    (s.setReg f.addr (v &&& m)).fld f = f.get v := by
  rw [State.fld, State.reg_setReg_same, Field.get_and_mask hfits hm]

theorem State.flag_eq_bitOf (s : State) {f : Field} (hwidth : f.width = 1) : s.flag f = bitOf (s.reg f.addr).toNat f.lo := by
  rw [State.flag, State.fld, Field.get, hwidth, bitOf, Nat.testBit, Nat.one_and_eq_mod_two, pow_one]

/-! ## Writes of LN_CFG (R220, R227, R235, R238) -/

/-- What a write of LN_CFG does to the rows of R227: a lane switched off, switched on, or changed while it is on. -/
def State.laneSwitched (s : State) (i : Nat) (old new : Word32) : State :=
  if !bitOf new.toNat 0 then (if bitOf old.toNat 0 then (s.restartSig i).setFlag (Fld.LN_STAT_PLL_OK i) false else s)
  else if !bitOf old.toNat 0 then (s.restartLane i).checkPll (pllOfLane i)
  else if (old ^^^ new) &&& 0x61E ≠ 0 then s.restartCdr i
  else s

/-- A lane that has CDR lock under ADAPT FIXED is ready at once. -/
def State.laneSettled (s : State) (i : Nat) : State :=
  if s.laneRuns i && s.flag (Fld.LN_STAT_CDR_LOCK i) && s.fld (Fld.LN_CFG_ADAPT i) == 2 then s.adapted i else s

/-- LN_CFG of lane `i` written, before its receiver acts on it. -/
def State.laneConfigured (s : State) (i : Nat) (v : Word32) : State := (s.abortScan i).setReg (Reg.LN_CFG i) (v &&& 0x3FFF)

section
variable (s : State) {i : Nat} (v : Word32)

theorem State.lnCfgStore_eq (hi : i < 96) : s.lnCfgStore i v =
    ((((s.laneConfigured i v).laneSwitched i (s.reg (Reg.LN_CFG i)) (v &&& 0x3FFF)).checkLane i).acqRecheck i).laneSettled i := by
  have hfixed : fixedLaneCfg i (v &&& 0x3FFF) = v &&& 0x3FFF := by
    rw [fixedLaneCfg, if_neg (by omega), if_neg (by omega)]
  rw [State.lnCfgStore, hfixed]
  rfl

theorem State.laneSwitched_writes (hi : i < 103) (old new : Word32) : WritesAt laneOutput s (s.laneSwitched i old new) := by
  have hlane : ∀ a, laneStatus i a → laneOutput a := fun _ => laneOutput_of_laneStatus hi
  have hoff : WritesAt laneOutput s ((s.restartSig i).setFlag (Fld.LN_STAT_PLL_OK i) false) :=
    ((s.restartSig_writes i).mono hlane).setFlag _ (hlane _ (Or.inl rfl))
  have hon : WritesAt laneOutput s ((s.restartLane i).checkPll (pllOfLane i)) :=
    ((s.restartLane_writes i).mono hlane).trans
      ((State.checkPll_writes _ _).mono fun _ => laneOutput_of_pllStatus (pllOfLane_lt i))
  exact .ite (.ite hoff (.refl _ s)) (.ite hon (.ite ((s.restartCdr_writes i).mono hlane) (.refl _ s)))

theorem adaptFields_output {i : Nat} (hi : i < 103) : ∀ f ∈ adaptFields i, laneOutput f.addr := by
  have hdfe : ∀ x < 3, laneOutput (Reg.LN_DFE_ST i x) := by
    intro x hx
    simp only [laneOutput, Reg.LN_DFE_ST]
    omega
  have hstat : laneOutput (Reg.LN_STAT i) := laneOutput_of_laneStatus hi (Or.inl rfl)
  have hrxeq : laneOutput (Reg.LN_RXEQ_ST i) := by
    simp only [laneOutput, Reg.LN_RXEQ_ST]
    omega
  simpa [adaptFields, wholeReg, hstat, hrxeq] using hdfe

theorem State.laneSettled_writes (hi : i < 103) : WritesAt laneOutput s (s.laneSettled i) :=
  .ite ((s.adapted_frame i).writesAt (adaptFields_output hi)) (.refl _ s)

/-- A write of LN_CFG leaves the value written, and every other setting as it was. -/
theorem State.lnCfgStore_writes (hi : i < 96) : WritesAt laneOutput (s.laneConfigured i v) (s.lnCfgStore i v) := by
  have hlane : i < 103 := by omega
  rw [s.lnCfgStore_eq v hi]
  exact (((State.laneSwitched_writes _ hlane _ _).trans ((State.checkLane_writes _ i).mono fun _ => laneOutput_of_laneStatus hlane)).trans
    ((State.acqRecheck_writes _ i).mono fun _ => laneOutput_of_acqOutput)).trans (State.laneSettled_writes _ hlane)

theorem State.reg_lnCfgStore (hi : i < 96) : (s.lnCfgStore i v).reg (Reg.LN_CFG i) = v &&& 0x3FFF := by
  rw [(s.lnCfgStore_writes v hi).reg_eq (eventSafe_of_lane (i := i) (o := 0) (by omega) (by decide) rfl)
    (by simp only [laneOutput]; omega)]
  exact State.reg_setReg_same ..

theorem State.laneSettled_of_unlocked {s : State} (h : s.flag (Fld.LN_STAT_CDR_LOCK i) = false) : s.laneSettled i = s :=
  if_neg (by rw [h, Bool.and_false, Bool.false_and]; exact Bool.false_ne_true)

/-- A lane switched off shows no row of R227. -/
theorem State.lnCfgStore_off (hi : i < 96) (hwas : s.flag (Fld.LN_CFG_EN i) = true) (hoff : v.getLsbD 0 = false) :
    (s.lnCfgStore i v).flag (Fld.LN_STAT_READY i) = false ∧ (s.lnCfgStore i v).flag (Fld.LN_STAT_CDR_LOCK i) = false ∧
    (s.lnCfgStore i v).flag (Fld.LN_STAT_SIGDET i) = false ∧ (s.lnCfgStore i v).flag (Fld.LN_STAT_PLL_OK i) = false := by
  have hlane : i < 103 := by omega
  let configured := s.laneConfigured i v
  let off := (configured.restartSig i).setFlag (Fld.LN_STAT_PLL_OK i) false
  let checked := (off.checkLane i).acqRecheck i
  have hold : bitOf (s.reg (Reg.LN_CFG i)).toNat 0 = true := (s.flag_eq_bitOf (f := Fld.LN_CFG_EN i) rfl).symm.trans hwas
  have hnew : bitOf (v &&& 0x3FFF).toNat 0 = false := by
    rw [bitOf, BitVec.testBit_toNat, BitVec.getLsbD_and, hoff, Bool.false_and]
  have hswitched : configured.laneSwitched i (s.reg (Reg.LN_CFG i)) (v &&& 0x3FFF) = off := by
    rw [State.laneSwitched, if_pos (by rw [hnew]; rfl), if_pos hold]
  have hkeep {f : Field} (hf : f.addr = Reg.LN_STAT i) (hlow : f.lo + f.width ≤ 8) (h : off.flag f = false) : checked.flag f = false :=
    ((State.acqRecheck_writes _ i).flag_eq (eventSafe_of_LN_STAT hlane hf) (hf ▸ not_acqOutput_LN_STAT hlane)).trans
      (State.flag_checkLane_false hlane hf hlow h)
  obtain ⟨hsig, hcdr, -, hready⟩ := configured.restartSig_cleared (i := i)
  have hunlocked : checked.flag (Fld.LN_STAT_CDR_LOCK i) = false := hkeep rfl (by simp) (State.flag_setFlag_false_keep rfl hcdr)
  have hstore : s.lnCfgStore i v = checked := by
    rw [s.lnCfgStore_eq v hi, hswitched, State.laneSettled_of_unlocked hunlocked]
  rw [hstore]
  exact ⟨hkeep rfl (by simp) (State.flag_setFlag_false_keep rfl hready), hunlocked,
    hkeep rfl (by simp) (State.flag_setFlag_false_keep rfl hsig), hkeep rfl (by simp) (State.flag_setFlag_same _ _ _ rfl rfl)⟩

end

/-! ## The transmit taps (R232) -/

/-- The sum of the taps of a value for LN_TXFIR. -/
def tapSum (i : Nat) (value : Word32) : Nat :=
  (Fld.LN_TXFIR_PRE2 i).get value + (Fld.LN_TXFIR_PRE1 i).get value + (Fld.LN_TXFIR_MAIN i).get value +
    (Fld.LN_TXFIR_POST1 i).get value + (Fld.LN_TXFIR_POST2 i).get value

/-- LN_TXFIR of lane `i` written. -/
def State.firConfigured (s : State) (i : Nat) (v : Word32) : State := s.setReg (Reg.LN_TXFIR i) (v &&& 0x1FFFFF)

/-- The taps of lane `i` in use. -/
def State.tapsUsed (s : State) (i : Nat) (v : Word32) : State :=
  { s with lane := { s.lane with taps := Sparse.put 0x1F80 s.lane.taps i (v &&& 0x1FFFFF) } }

theorem State.fld_firConfigured (s : State) {i : Nat} (v : Word32) {f : Field} (hf : f.addr = Reg.LN_TXFIR i) (hfits : f.fits = true)
    (hm : f.mask &&& 0x1FFFFF = f.mask) : (s.firConfigured i v).fld f = f.get v := by
  rw [State.firConfigured, ← hf, State.fld_setReg_masked s hfits hm]

theorem State.lnTxfirStore_eq (s : State) (i : Nat) (v : Word32) : s.lnTxfirStore i v =
    if 63 < tapSum i v then (s.firConfigured i v).laneRaise (Fld.LN_STAT_FIR_BAD i) i else (s.firConfigured i v).tapsUsed i v := by
  rw [tapSum, ← s.fld_firConfigured v (f := Fld.LN_TXFIR_PRE2 i) rfl rfl (by dsimp only [Field.mask]; decide),
    ← s.fld_firConfigured v (f := Fld.LN_TXFIR_PRE1 i) rfl rfl (by dsimp only [Field.mask]; decide),
    ← s.fld_firConfigured v (f := Fld.LN_TXFIR_MAIN i) rfl rfl (by dsimp only [Field.mask]; decide),
    ← s.fld_firConfigured v (f := Fld.LN_TXFIR_POST1 i) rfl rfl (by dsimp only [Field.mask]; decide),
    ← s.fld_firConfigured v (f := Fld.LN_TXFIR_POST2 i) rfl rfl (by dsimp only [Field.mask]; decide)]
  rfl

/-! ## The commands that write LN_CFG and LN_TXFIR -/

section
variable {s : State} {mid : Mid} {i : Fin 96} (value : Word32) (lane : Fin 103) (hlane : lane.val = i.val)
include hlane

theorem lnCfgWrite_completes (hawake : s.awake (Reg.LN_CFG i)) (hfree : s.imageOwner 0x04 i = 0) :
    Completes (.lnCfgWrite mid lane value) s fun t =>
      t.reg (Reg.LN_CFG i) = value &&& 0x3FFF ∧ t.done.status = Code.ok ∧
      (s.flag (Fld.LN_CFG_EN i) = true → value.getLsbD 0 = false → t.flag (Fld.LN_STAT_READY i) = false ∧
        t.flag (Fld.LN_STAT_CDR_LOCK i) = false ∧ t.flag (Fld.LN_STAT_SIGDET i) = false ∧ t.flag (Fld.LN_STAT_PLL_OK i) = false) := by
  have hrun : exec (.lnCfgWrite mid lane value) s = .next ((s.lnCfgStore i value).reply Code.ok) := by
    refine congrArg Host.Outcome.next ?_
    rw [hlane, State.gate_of_awake hawake, State.lnCfgWrite, State.laneAssign_of_free i.isLt _ hfree]
  exact ⟨_, hrun, s.reg_lnCfgStore value i.isLt, rfl, s.lnCfgStore_off value i.isLt⟩

section
variable (hawake : s.awake (Reg.LN_TXFIR i)) (hfree : s.imageOwner 0x04 i = 0)
include hawake hfree

theorem exec_lnTxfirWrite : exec (.lnTxfirWrite mid lane value) s = .next ((s.lnTxfirStore i value).reply Code.ok) := by
  refine congrArg Host.Outcome.next ?_
  rw [hlane, State.gate_of_awake hawake, State.lnTxfirWrite, State.laneAssign_of_free i.isLt _ hfree]

theorem lnTxfirWrite_completes (hsum : tapSum i value ≤ 63) : Completes (.lnTxfirWrite mid lane value) s fun t =>
    t.reg (Reg.LN_TXFIR i) = value &&& 0x1FFFFF ∧ Sparse.get 0x1F80 t.lane.taps i = value &&& 0x1FFFFF ∧
    t.done.status = Code.ok ∧ Only [wholeReg (Reg.LN_TXFIR i)] { s with lane := { s.lane with taps := t.lane.taps } } t := by
  refine ⟨_, exec_lnTxfirWrite value lane hlane hawake hfree, ?_⟩
  rw [s.lnTxfirStore_eq, if_neg (Nat.not_lt.2 hsum)]
  exact ⟨State.reg_setReg_same .., Sparse.get_put_same .., rfl,
    ((Only.refl _ _).setReg _ _ List.mem_cons_self).reply _⟩

/-- Taps that sum above 63 are stored but not used. -/
theorem lnTxfirWrite_unused_completes (hsum : 63 < tapSum i value) : Completes (.lnTxfirWrite mid lane value) s fun t =>
    t.reg (Reg.LN_TXFIR i) = value &&& 0x1FFFFF ∧ t.lane = s.lane ∧ t.flag (Fld.LN_STAT_FIR_BAD i) = true ∧
    t.sticky (laneEvent i) = true ∧ OnlyEv [wholeReg (Reg.LN_TXFIR i), Fld.LN_STAT_FIR_BAD i] s t := by
  have hi : i.val < 103 := by omega
  refine ⟨_, exec_lnTxfirWrite value lane hlane hawake hfree, ?_⟩
  rw [s.lnTxfirStore_eq, if_pos hsum]
  refine ⟨?_, State.raiseBit_lane .., State.flag_laneRaise_same _ hi rfl rfl rfl, State.sticky_laneRaise .., ?_⟩
  · rw [State.reg_reply, (State.laneRaise_writes _ rfl).reg_eq (eventSafe_of_lane hi (o := 8) (by decide) rfl)]
    · exact State.reg_setReg_same ..
    · simp only [laneStatus, Reg.LN_STAT, Reg.LN_ES_STAT]
      omega
  · exact ((((OnlyEv.refl _ s).setReg _ _ List.mem_cons_self).raiseBit _ _ rfl (by simp) (laneEvent_lt i)).reply _)

end

/-- A write of a lane that the image owns is refused (R173, R238). -/
theorem laneWrite_refused (hcfg : s.awake (Reg.LN_CFG i)) (hfir : s.awake (Reg.LN_TXFIR i)) (hmid : mid ≠ 0x10)
    (howned : s.imageOwner 0x04 i ≠ 0) (hmay : s.mayAssign mid 0x04 i = false) {c : Instr}
    (hc : c = .lnCfgWrite mid lane value ∨ c = .lnTxfirWrite mid lane value) : Completes c s fun t =>
      t.done.status = Code.conflict ∧ t.flag Fld.LDR_CHK_STAT_CLAIM_CONFLICT = true ∧ t.sticky 407 = true ∧
      OnlyEv [Fld.LDR_CHK_STAT_CLAIM_CONFLICT] s t := by
  refine ⟨s.claimRefuse, ?_, s.claimRefuse_spec⟩
  obtain rfl | rfl := hc
  · refine congrArg Host.Outcome.next ?_
    rw [hlane, State.gate_of_awake hcfg, State.lnCfgWrite, State.laneAssign_of_refused i.isLt _ hmid howned hmay]
  · refine congrArg Host.Outcome.next ?_
    rw [hlane, State.gate_of_awake hfir, State.lnTxfirWrite, State.laneAssign_of_refused i.isLt _ hmid howned hmay]

end

/-! ## Writes of LN_PLL (R219, R222, R227) -/

/-- A lane begins again after a new setting of its PLL. -/
def State.refitLane (s : State) (i : Nat) : State := (s.restartLane i).checkLane i

theorem State.refitLane_writes (s : State) (i : Nat) : WritesAt (laneStatus i) s (s.refitLane i) :=
  (s.restartLane_writes i).trans (State.checkLane_writes _ i)

/-- A new setting of a PLL takes its lock, and with it READY and PLL_OK of its lanes. -/
theorem State.lnPllStore_spec {s : State} {k : Fin 28} {value : Word32} (hk : k.val < 24) (hnew : s.reg (Reg.LN_PLL k) ≠ value) :
    (s.lnPllStore k value).reg (Reg.LN_PLL k) = value ∧ (s.lnPllStore k value).flag (Fld.LN_PLL_STAT_LOCK k) = false ∧
    ∀ j ∈ lanesOfPll k, (s.lnPllStore k value).laneDown j := by
  let written := (s.setReg (Reg.LN_PLL k) value).setFlag (Fld.LN_PLL_STAT_LOCK k) false
  let refit := (lanesOfPll k).foldl State.refitLane written
  let checked := refit.checkPll k
  have hstore : s.lnPllStore k value = (lanesOfPll k).foldl State.acqRecheck checked := by
    rw [State.lnPllStore, if_neg (Nat.not_le.2 hk), if_neg hnew]
    rfl
  have hrefit : WritesAt (lanesStatus k) written refit := foldl_lanes_writes (fun t j _ => t.refitLane_writes j) written
  have hacq : WritesAt acqOutput checked (s.lnPllStore k value) :=
    hstore ▸ .foldl _ _ (fun t j _ => t.acqRecheck_writes j) (.refl _ checked)
  have hset : written.flag (Fld.LN_PLL_STAT_LOCK k) = false := State.flag_setFlag_same _ _ _ rfl rfl
  refine ⟨?_, ?_, fun j hj => ?_⟩
  · have hall : WritesAt laneOutput written (s.lnPllStore k value) :=
      ((hrefit.mono fun _ => laneOutput_of_lanesStatus k.isLt).trans
        ((State.checkPll_writes _ k).mono fun _ => laneOutput_of_pllStatus k.isLt)).trans (hacq.mono fun _ => laneOutput_of_acqOutput)
    have hsafe : eventSafe (wholeReg (Reg.LN_PLL k)) = true :=
      eventSafe_of_serial (by simp only [wholeReg, Reg.LN_PLL]; omega) (by simp only [wholeReg, Reg.LN_PLL]; omega)
    rw [hall.reg_eq hsafe (by simp only [laneOutput, Reg.LN_PLL]; omega),
      State.reg_setFlag_other _ _ _ _ (by simp only [Reg.LN_PLL, Reg.LN_PLL_STAT]; omega)]
    exact State.reg_setReg_same ..
  · have hsafe : eventSafe (Fld.LN_PLL_STAT_LOCK k) = true :=
      eventSafe_of_serial (by simp only [Reg.LN_PLL_STAT]; omega) (by simp only [Reg.LN_PLL_STAT]; omega)
    exact (hacq.flag_eq hsafe (not_acqOutput_LN_PLL_STAT k.isLt)).trans
      (State.checkPll_unlocked ((hrefit.flag_LN_PLL_STAT k.isLt rfl).trans hset) k.isLt)
  · obtain ⟨hj103, hpll⟩ := pllOfLane_of_mem k.isLt hj
    have hdown : refit.laneDown j := by
      refine foldl_lanes_reaches (P := fun t => t.laneDown j) (fun t i _ => t.refitLane_writes i) hj (fun t ht => ?_)
        fun t i _ hne ht => ht.of_writes (t.refitLane_writes i) hj103 (not_laneStatus_LN_STAT hne)
      have hlock : t.flag (Fld.LN_PLL_STAT_LOCK (pllOfLane j)) = false := by
        rw [hpll]
        exact (ht.flag_LN_PLL_STAT k.isLt rfl).trans hset
      exact (State.restartLane_down hlock).checkLane hj103
    exact (hdown.checkPll hj103 k.isLt).of_writes hacq hj103 (not_acqOutput_LN_STAT hj103)

section
variable {s : State} {mid : Mid} {k : Fin 28} {value : Word32} (hawake : s.awake (Reg.LN_PLL k))
include hawake

/-- PLLs 24 to 27 ignore a write. -/
theorem lnPllWrite_system_completes (hk : 24 ≤ k.val) : Completes (.lnPllWrite mid k value) s fun t =>
    t.done.status = Code.ok ∧ Only [] s t := by
  have hrun : exec (.lnPllWrite mid k value) s = .next (s.reply Code.ok) := by
    refine congrArg Host.Outcome.next ?_
    rw [State.gate_of_awake hawake, State.lnPllWrite]
    dsimp only
    rw [if_neg fun h => absurd h.1 (Nat.not_lt.2 hk), State.lnPllStore, if_pos hk]
  exact ⟨_, hrun, rfl, (Only.refl _ s).reply _⟩

theorem lnPllWrite_completes (hk : k.val < 24) (hfree : s.imageOwner 0x05 k = 0) (hnew : s.reg (Reg.LN_PLL k) ≠ value) :
    Completes (.lnPllWrite mid k value) s fun t =>
      t.reg (Reg.LN_PLL k) = value ∧ t.flag (Fld.LN_PLL_STAT_LOCK k) = false ∧ t.done.status = Code.ok ∧
      ∀ j ∈ lanesOfPll k, t.flag (Fld.LN_STAT_READY j) = false ∧ t.flag (Fld.LN_STAT_PLL_OK j) = false := by
  have hrun : exec (.lnPllWrite mid k value) s = .next ((s.lnPllStore k value).reply Code.ok) := by
    refine congrArg Host.Outcome.next ?_
    rw [State.gate_of_awake hawake, State.lnPllWrite]
    exact if_neg fun h => h.2.2 hfree
  obtain ⟨hreg, hlock, hdown⟩ := State.lnPllStore_spec hk hnew
  exact ⟨_, hrun, hreg, hlock, rfl, hdown⟩

end

/-! ## The eye scan (R234, R235) -/

/-- LN_ES_CTRL of a lane written. -/
def State.scanConfigured (s : State) (i : Nat) (v : Word32) : State := s.setReg (Reg.LN_ES_CTRL i) (v &&& 0x1FFFFC)

/-- A scan that runs or not. -/
def State.scanning (s : State) (i : Nat) (on : Bool) : State :=
  { s with lane := { s.lane with scan := Sparse.put false s.lane.scan i on } }

/-- LN_ES_ERR of a scan that starts or has ended. -/
def State.scanCount (s : State) (i : Nat) (on : Bool) (errors : Word32) : State := (s.scanning i on).setReg (Reg.LN_ES_ERR i) errors

theorem State.scan_scanCount (s : State) (i : Nat) (on : Bool) (errors : Word32) :
    Sparse.get false (s.scanCount i on errors).lane.scan i = on := Sparse.get_put_same ..

theorem State.lnEsCtrlWrite_start {s : State} {i : Nat} {v : Word32} (hstart : v.getLsbD 0 = true)
    (hidle : Sparse.get false s.lane.scan i = false) : s.lnEsCtrlWrite i v =
      if (s.scanConfigured i v).fld (Fld.LN_ES_CTRL_EYE i) = 3 ∨
          ((s.scanConfigured i v).fld (Fld.LN_ES_CTRL_EYE i) ≠ 0 ∧ (s.scanConfigured i v).lanePam4 i = false) then
        ((s.scanConfigured i v).setFlag (Fld.LN_ES_STAT_ABORTED i) true).reply Code.ok
      else ((s.scanConfigured i v).scanCount i true 0).reply Code.ok := by
  have hidle' : Sparse.get false (s.scanConfigured i v).lane.scan i = false := hidle
  have hnone : ¬ (!bitOf v.toNat 0 || Sparse.get false (s.scanConfigured i v).lane.scan i) = true := by
    rw [hidle', bitOf, BitVec.testBit_toNat, hstart]
    exact Bool.false_ne_true
  exact if_neg hnone

theorem State.scanConfigured_start (s : State) (i : Nat) (v : Word32) : s.scanConfigured i (v ||| 1) = s.scanConfigured i v := by
  have hnone : (1 : Word32) &&& 0x1FFFFC = 0 := by decide
  have hctrl : (v ||| 1) &&& 0x1FFFFC = v &&& 0x1FFFFC := by
    rw [BitVec.and_or_distrib_right, hnone]
    exact BitVec.or_zero
  rw [State.scanConfigured, hctrl, State.scanConfigured]

section
variable {s : State} {mid : Mid} {i : Fin 103} {value : Word32} (hawake : s.awake (Reg.LN_ES_CTRL i))
  (hidle : Sparse.get false s.lane.scan i = false)
include hawake hidle

/-- A start without a running scan, by what the eye asks for. -/
theorem exec_eyeScanStart : exec (.eyeScanStart mid i value) s = .next
    (if (Fld.LN_ES_CTRL_EYE i).get value = 3 ∨ ((Fld.LN_ES_CTRL_EYE i).get value ≠ 0 ∧ s.lanePam4 i = false) then
      ((s.scanConfigured i value).setFlag (Fld.LN_ES_STAT_ABORTED i) true).reply Code.ok
    else ((s.scanConfigured i value).scanCount i true 0).reply Code.ok) := by
  have hstart : (value ||| 1).getLsbD 0 = true := by
    rw [BitVec.getLsbD_or, show (1 : Word32).getLsbD 0 = true by decide, Bool.or_true]
  have heye : (s.scanConfigured i value).fld (Fld.LN_ES_CTRL_EYE i) = (Fld.LN_ES_CTRL_EYE i).get value :=
    s.fld_setReg_masked (f := Fld.LN_ES_CTRL_EYE i) rfl (by dsimp only [Field.mask]; decide) value
  have hpam : (s.scanConfigured i value).lanePam4 i = s.lanePam4 i :=
    ((WritesAt.refl laneOutput s).setReg _ (by simp only [laneOutput, Reg.LN_ES_CTRL]; omega)).lanePam4_eq i.isLt
  refine congrArg Host.Outcome.next ?_
  rw [State.gate_of_awake hawake, State.lnEsCtrlWrite_start hstart hidle, s.scanConfigured_start, heye, hpam]

theorem eyeScanStart_completes
    (heye : (Fld.LN_ES_CTRL_EYE i).get value = 0 ∨ ((Fld.LN_ES_CTRL_EYE i).get value < 3 ∧ s.lanePam4 i = true)) :
    Completes (.eyeScanStart mid i value) s fun t =>
      Sparse.get false t.lane.scan i = true ∧ t.reg (Reg.LN_ES_ERR i) = 0 ∧ t.done.status = Code.ok ∧
      Only [wholeReg (Reg.LN_ES_CTRL i), wholeReg (Reg.LN_ES_ERR i)] { s with lane := { s.lane with scan := t.lane.scan } } t := by
  have hhas : ¬ ((Fld.LN_ES_CTRL_EYE i).get value = 3 ∨ ((Fld.LN_ES_CTRL_EYE i).get value ≠ 0 ∧ s.lanePam4 i = false)) := by
    rintro (h | ⟨h, hpam⟩)
    · omega
    · obtain h0 | ⟨-, h4⟩ := heye
      · exact h h0
      · exact absurd (h4.symm.trans hpam) (by decide)
  refine ⟨_, exec_eyeScanStart hawake hidle, ?_⟩
  rw [if_neg hhas]
  exact ⟨(s.scanConfigured i value).scan_scanCount i true 0, State.reg_setReg_same .., rfl,
    (((Only.refl _ _).setReg _ _ List.mem_cons_self).setReg _ _ (by simp)).reply _⟩

theorem eyeScanStart_aborts_completes
    (heye : (Fld.LN_ES_CTRL_EYE i).get value = 3 ∨ ((Fld.LN_ES_CTRL_EYE i).get value ≠ 0 ∧ s.lanePam4 i = false)) :
    Completes (.eyeScanStart mid i value) s fun t =>
      t.lane = s.lane ∧ t.flag (Fld.LN_ES_STAT_ABORTED i) = true ∧
      Only [wholeReg (Reg.LN_ES_CTRL i), Fld.LN_ES_STAT_ABORTED i] s t := by
  refine ⟨_, exec_eyeScanStart hawake hidle, ?_⟩
  rw [if_pos heye]
  exact ⟨rfl, (State.flag_reply ..).trans (State.flag_setFlag_same _ _ _ rfl rfl),
    (((Only.refl _ s).setReg _ _ List.mem_cons_self).setFlag _ true rfl (by simp)).reply _⟩

end

theorem eyeScanDone_completes {s : State} {i : Fin 103} (errors : Word32) (hscan : Sparse.get false s.lane.scan i = true) :
    Completes (.eyeScanDone i errors) s fun t =>
      t.reg (Reg.LN_ES_ERR i) = errors ∧ t.flag (Fld.LN_ES_STAT_DONE i) = true ∧ Sparse.get false t.lane.scan i = false ∧
      Only [wholeReg (Reg.LN_ES_ERR i), Fld.LN_ES_STAT_DONE i] { s with lane := { s.lane with scan := t.lane.scan } } t := by
  refine ⟨(s.scanCount i false errors).setFlag (Fld.LN_ES_STAT_DONE i) true, congrArg Host.Outcome.next (if_pos hscan), ?_,
    State.flag_setFlag_same _ _ _ rfl rfl, s.scan_scanCount i false errors, ?_⟩
  · rw [State.reg_setFlag_other _ _ _ _ (by simp only [Reg.LN_ES_ERR, Reg.LN_ES_STAT]; omega)]
    exact State.reg_setReg_same ..
  · exact ((Only.refl _ (s.scanning i false)).setReg _ _ List.mem_cons_self).setFlag _ true rfl (by simp)

/-- Settles O20, clause by clause: LN_CFG, LN_TXFIR, the refusals, LN_PLL, and the eye scan. -/
theorem laneWrites : Obligations.LaneWrites := by
  refine ⟨fun mid i value s hcfg hfir => ⟨fun hfree => ⟨lnCfgWrite_completes value _ rfl hcfg hfree,
    lnTxfirWrite_completes value _ rfl hfir hfree, lnTxfirWrite_unused_completes value _ rfl hfir hfree⟩, ?_, ?_⟩, ?_⟩
  · exact fun hmid howned hmay c => laneWrite_refused value _ rfl hcfg hfir hmid howned hmay
  · exact fun k hawake => ⟨lnPllWrite_system_completes hawake, lnPllWrite_completes hawake⟩
  · exact fun mid i value errors s => ⟨eyeScanStart_completes, eyeScanStart_aborts_completes, eyeScanDone_completes errors⟩

end Sys2Proof.Machine

/-! PROOFS.  The link engines: their own state, the registers that a condition of a link writes, and the settings of a group (R244 to
R246, R252, R278). -/

namespace Sys2Proof.Machine

/-! ## Engines -/

section
variable (s : State) (i : Nat) (e : LinkEng)

@[simp] theorem State.engOf_setEng_same : (s.setEng i e).engOf i = e := Sparse.get_put_same ..

theorem State.engOf_setEng_other {k : Nat} (h : k ≠ i) : (s.setEng i e).engOf k = s.engOf k := Sparse.get_put_other _ _ _ _ h

theorem State.engOf_congr {s t : State} (h : t.eng = s.eng) (k : Nat) : t.engOf k = s.engOf k := by
  rw [State.engOf, h, State.engOf]

@[simp] theorem State.reg_setEng (a : Nat) : (s.setEng i e).reg a = s.reg a := rfl
@[simp] theorem State.flag_setEng (f : Field) : (s.setEng i e).flag f = s.flag f := rfl

end

/-- The engines of several lanes changed in one way. -/
def State.mapEngs (s : State) (l : List Nat) (g : LinkEng → LinkEng) : State := l.foldl (fun s i => s.setEng i (g (s.engOf i))) s

section
variable (s : State) (l : List Nat) (g : LinkEng → LinkEng)

theorem State.mapEngs_eq : s.mapEngs l g = { s with eng := (s.mapEngs l g).eng } := by
  induction l generalizing s with
  | nil => rfl
  | cons i r ih => exact ih (s.setEng i (g (s.engOf i)))

theorem State.reg_mapEngs (a : Nat) : (s.mapEngs l g).reg a = s.reg a := by rw [State.mapEngs_eq]; rfl

theorem State.engOf_mapEngs_other {k : Nat} (h : k ∉ l) : (s.mapEngs l g).engOf k = s.engOf k := by
  induction l generalizing s with
  | nil => rfl
  | cons i r ih =>
    obtain ⟨hi, hr⟩ := not_or.1 fun hk => h (List.mem_cons.2 hk)
    exact (ih (s.setEng i (g (s.engOf i))) hr).trans (s.engOf_setEng_other i _ hi)

theorem State.engOf_mapEngs_mem (hl : l.Nodup) {k : Nat} (h : k ∈ l) : (s.mapEngs l g).engOf k = g (s.engOf k) := by
  induction l generalizing s with
  | nil => cases h
  | cons i r ih =>
    obtain ⟨hi, hr⟩ := List.nodup_cons.1 hl
    obtain rfl | hk := List.mem_cons.1 h
    · exact ((s.setEng k (g (s.engOf k))).engOf_mapEngs_other r g hi).trans (s.engOf_setEng_same k _)
    · have hne : k ≠ i := fun e => hi (e ▸ hk)
      exact (ih (s.setEng i (g (s.engOf i))) hr hk).trans (congrArg g (s.engOf_setEng_other i _ hne))

end

/-! ## Groups (R246) -/

section
variable (s : State) (i : Nat)

theorem State.baseOf_le : s.baseOf i ≤ i := Nat.div_mul_le_self ..

theorem State.baseOf_lt (lane : Fin 103) : s.baseOf lane < 103 := Nat.lt_of_le_of_lt (s.baseOf_le lane) lane.isLt

theorem State.members_nodup : (s.members i).Nodup := List.nodup_range.map fun _ _ h => Nat.add_left_cancel h

variable {s} {t : State} {i}

theorem State.fld_of_reg {f : Field} (h : t.reg f.addr = s.reg f.addr) : t.fld f = s.fld f := congrArg f.get h

section
variable (h : t.reg (Reg.LN_LE_CFG i) = s.reg (Reg.LN_LE_CFG i))
include h

/-- The protocol, the group and the plan's use follow from LN_LE_CFG. -/
theorem State.quire_congr : t.quire i = s.quire i := by
  rw [State.quire, State.fld_of_reg (f := Fld.LN_LE_CFG_MODE i) h, State.quire]

theorem State.reliable_congr : t.reliable i = s.reliable i := by
  rw [State.reliable, State.fld_of_reg (f := Fld.LN_LE_CFG_MODE i) h, State.reliable]

theorem State.byPlan_congr : t.byPlan i = s.byPlan i := by
  rw [State.byPlan, State.quire_congr h, State.flag_of_reg (f := Fld.LN_LE_CFG_RELEASE i) h, State.byPlan]

theorem State.groupSize_congr : t.groupSize i = s.groupSize i := by
  rw [State.groupSize, State.quire_congr h, State.fld_of_reg (f := Fld.LN_LE_CFG_GROUP i) h, State.groupSize]

theorem State.baseOf_congr : t.baseOf i = s.baseOf i := by rw [State.baseOf, State.groupSize_congr h, State.baseOf]

end

theorem State.quire_of_reliable (h : s.reliable i = true) : s.quire i = true := by
  rw [State.reliable] at h
  rw [State.quire, h, Bool.or_true]

/-- A raw mode is no Quire link and has no plan. -/
theorem State.quire_of_mode {n : Nat} (h : s.fld (Fld.LN_LE_CFG_MODE i) = n) (h1 : n ≠ 1) (h2 : n ≠ 2) : s.quire i = false := by
  rw [State.quire, h, beq_false_of_ne h1, beq_false_of_ne h2, Bool.or_self]

theorem State.byPlan_of_not_quire (h : s.quire i = false) : s.byPlan i = false := by rw [State.byPlan, h, Bool.false_and]

theorem State.fast_of_mode_one (h : s.fld (Fld.LN_LE_CFG_MODE i) = 1) : s.quire i = true ∧ s.reliable i = false := by
  rw [State.quire, State.reliable, h]
  exact ⟨rfl, rfl⟩

end

/-! ## Conditions of a link (R278) -/

theorem linkEvent_lt (i : Nat) : linkEvent i < 512 := by
  unfold linkEvent
  repeat' split
  all_goals omega

section
variable (s : State) (f : Field) {i : Nat}

@[simp] theorem State.linkRaise_eng : (s.linkRaise f i).eng = s.eng := State.raiseBit_eng ..
@[simp] theorem State.linkRaise_acq : (s.linkRaise f i).acq = s.acq := State.raiseBit_acq ..

theorem State.sticky_linkRaise : (s.linkRaise f i).sticky (linkEvent i) = true := State.sticky_raiseBit_same s f _ (linkEvent_lt i)

variable {f} {b : Nat} (hb : b < 103)
include hb

theorem State.flag_linkRaise_same (hf : f.addr = Reg.LN_LE_STAT b) (hfits : f.fits = true) (hwidth : f.width = 1) :
    (s.linkRaise f i).flag f = true :=
  State.flag_raiseBit_same s _ (linkEvent_lt i) (eventSafe_of_lane hb (o := 0x1004) (by decide) hf) hfits hwidth

/-- A condition leaves the other fields of LN_LE_STAT alone. -/
theorem State.fld_linkRaise_other {g : Field} (hg : g.addr = Reg.LN_LE_STAT b) (hfits : f.fits = true) (hapart : f.apart g) :
    (s.linkRaise f i).fld g = s.fld g :=
  State.fld_raiseBit_apart s f _ (linkEvent_lt i) (eventSafe_of_lane hb (o := 0x1004) (by decide) hg) hfits hapart

theorem State.flag_linkRaise_other {g : Field} (hg : g.addr = Reg.LN_LE_STAT b) (hfits : f.fits = true) (hapart : f.apart g) :
    (s.linkRaise f i).flag g = s.flag g := by
  rw [State.flag, State.fld_linkRaise_other s hb hg hfits hapart, State.flag]

/-- The other registers of a lane's window keep their values. -/
theorem State.reg_linkRaise {a o : Nat} (ha : a = 0x5000000 + o + b * 0x10000) (ho : o < 0x10000) (hne : a ≠ f.addr) :
    (s.linkRaise f i).reg a = s.reg a :=
  State.reg_raiseBit_other s (linkEvent_lt i) (eventSafe_of_lane (f := wholeReg a) hb ho ha) hne

end

theorem OnlyEv.linkRaise {w : List Field} {s t : State} (h : OnlyEv w s t) (f : Field) (i : Nat) (hfits : f.fits = true) (hm : f ∈ w) :
    OnlyEv w s (t.linkRaise f i) := h.raiseBit f _ hfits hm (linkEvent_lt i)

/-! ## Frames over the engines and the acquisition engine's input -/

/-- From `s` to `t` only the fields of `w`, the last completion, the outputs, the link engines and the acquisition engine change. -/
def OnlyLink (w : List Field) (s t : State) : Prop := Only w { s with eng := t.eng, acq := t.acq } t

section
variable {w : List Field} {s t : State}

theorem OnlyLink.refl (w : List Field) (s : State) : OnlyLink w s s := Only.refl w s

theorem OnlyLink.setReg (h : OnlyLink w s t) (a : Nat) (v : Word32) (hm : wholeReg a ∈ w) : OnlyLink w s (t.setReg a v) :=
  Only.setReg h a v hm

theorem OnlyLink.setFld (h : OnlyLink w s t) (f : Field) (n : Nat) (hf : f.fits = true) (hm : f ∈ w) : OnlyLink w s (t.setFld f n) :=
  Only.setFld h f n hf hm

theorem OnlyLink.setFlag (h : OnlyLink w s t) (f : Field) (b : Bool) (hf : f.fits = true) (hm : f ∈ w) : OnlyLink w s (t.setFlag f b) :=
  Only.setFlag h f b hf hm

theorem OnlyLink.countReg (h : OnlyLink w s t) (a : Nat) (hm : wholeReg a ∈ w) : OnlyLink w s (t.countReg a) := by
  unfold State.countReg
  split
  · exact h
  · exact h.setReg a _ hm

theorem OnlyLink.emit (h : OnlyLink w s t) (o : Output) : OnlyLink w s (t.emit o) := Only.emit h o

theorem OnlyLink.reply (h : OnlyLink w s t) (c : Status) (d : Word32 := 0) : OnlyLink w s (t.reply c d) := Only.reply h c d

theorem OnlyLink.setEng (h : OnlyLink w s t) (i : Nat) (e : LinkEng) : OnlyLink w s (t.setEng i e) :=
  ⟨congrArg (fun x : State => { x with eng := (t.setEng i e).eng }) h.1, h.2⟩

theorem OnlyLink.toAcq (h : OnlyLink w s t) (i : Nat) (x : Word64) (valid : Bool) (r : Option Nat) : OnlyLink w s (t.toAcq i x valid r) :=
  ⟨congrArg (fun u : State => { u with acq := (t.toAcq i x valid r).acq }) h.1, h.2⟩

/-- A frame in which the acquisition engine keeps its state. -/
theorem OnlyLink.eng (h : OnlyLink w s t) (hacq : t.acq = s.acq) : Only w { s with eng := t.eng } t := by
  rw [OnlyLink, hacq] at h
  exact h

/-- A frame in which the link engines keep their state. -/
theorem OnlyLink.acq (h : OnlyLink w s t) (heng : t.eng = s.eng) : Only w { s with acq := t.acq } t := by
  rw [OnlyLink, heng] at h
  exact h

end

/-- A state with its outputs replaced. -/
def State.withOut (s : State) (o : List Output) : State := { s with out := o }

section
variable (s : State) (o : List Output)

@[simp] theorem State.withOut_out : (s.withOut o).out = o := rfl
@[simp] theorem State.reg_withOut (a : Nat) : (s.withOut o).reg a = s.reg a := rfl
@[simp] theorem State.fld_withOut (f : Field) : (s.withOut o).fld f = s.fld f := rfl
@[simp] theorem State.flag_withOut (f : Field) : (s.withOut o).flag f = s.flag f := rfl
@[simp] theorem State.engOf_withOut (k : Nat) : (s.withOut o).engOf k = s.engOf k := rfl

variable {s} in
theorem OnlyLink.withOut {w : List Field} {t : State} (h : OnlyLink w s t) : OnlyLink w s (t.withOut o) := ⟨h.1, h.2⟩

end

/-! ## The fall and the rise of UP (R252, R258, R261) -/

/-- Where a link reports: LN_LE_STAT, LN_LE_XLAT and QL_REL_STAT of its base lane. -/
def linkStatus (b a : Nat) : Prop := a = Reg.LN_LE_STAT b ∨ a = Reg.LN_LE_XLAT b ∨ a = Reg.QL_REL_STAT b

theorem not_linkStatus_LN_LE_CFG (b i : Nat) : ¬ linkStatus b (Reg.LN_LE_CFG i) := by
  simp only [linkStatus, Reg.LN_LE_STAT, Reg.LN_LE_XLAT, Reg.QL_REL_STAT, Reg.LN_LE_CFG]
  omega

theorem not_linkStatus_LN_LE_STAT {b i : Nat} (h : i ≠ b) : ¬ linkStatus b (Reg.LN_LE_STAT i) := by
  simp only [linkStatus, Reg.LN_LE_STAT, Reg.LN_LE_XLAT, Reg.QL_REL_STAT]
  omega

theorem eventSafe_of_LN_LE_CFG {i : Nat} (hi : i < 103) : eventSafe (wholeReg (Reg.LN_LE_CFG i)) = true :=
  eventSafe_of_lane hi (o := 0x1000) (by decide) rfl

theorem eventSafe_of_LN_LE_STAT {f : Field} {i : Nat} (hi : i < 103) (hf : f.addr = Reg.LN_LE_STAT i) : eventSafe f = true :=
  eventSafe_of_lane hi (o := 0x1004) (by decide) hf

theorem State.linkRaise_writes (s : State) {f : Field} (i : Nat) {b : Nat} (hf : f.addr = Reg.LN_LE_STAT b) :
    WritesAt (linkStatus b) s (s.linkRaise f i) :=
  (WritesAt.refl _ s).raiseBit (Or.inl hf) (linkEvent_lt i)

/-- The registers of a link that is down. -/
def State.downRegs (s : State) (b : Nat) : State :=
  ((((s.setFlag (Fld.LN_LE_STAT_UP b) false).setFlag (Fld.LN_LE_STAT_ALIGNED b) false).setFlag
    (Fld.LN_LE_XLAT_VALID b) false).setFlag (Fld.LN_LE_STAT_RETRYING b) false).setReg (Reg.QL_REL_STAT b) 0

/-- What is left of an engine whose link falls: nothing waits, and its block lock is lost. -/
def LinkEng.dropped (e : LinkEng) : LinkEng := { e.fallen with blockLock := false }

section
variable {s : State} {b : Nat}

theorem State.linkDown_of_up (h : s.linkUp b = true) (hb : b ≠ 96) :
    s.linkDown b = ((s.mapEngs (s.members b) LinkEng.dropped).downRegs b).linkRaise (Fld.LN_LE_STAT_DOWN b) b := by
  rw [State.linkDown, if_pos h, beq_false_of_ne hb]
  rfl

theorem State.linkDown_of_down (h : s.linkUp b = false) : s.linkDown b = s := if_neg (by rw [h]; exact Bool.false_ne_true)

variable (s) in
theorem State.downRegs_writes (b : Nat) : WritesAt (linkStatus b) s (s.downRegs b) :=
  (((((WritesAt.refl _ s).setFlag _ (Or.inl rfl)).setFlag _ (Or.inl rfl)).setFlag _ (Or.inr (Or.inl rfl))).setFlag _
    (Or.inl rfl)).setReg _ (Or.inr (Or.inr rfl))

variable (s) in
theorem State.linkDown_writes (hb : b ≠ 96) : WritesAt (linkStatus b) s (s.linkDown b) := by
  by_cases h : s.linkUp b = true
  · rw [State.linkDown_of_up h hb, State.mapEngs_eq]
    exact (State.downRegs_writes { s with eng := _ } b).trans (State.linkRaise_writes _ _ rfl)
  · rw [State.linkDown_of_down (Bool.eq_false_iff.2 h)]
    exact .refl _ s

theorem State.linkUp_setReg_other (s : State) {a : Nat} (v : Word32) (h : Reg.LN_LE_STAT b ≠ a) :
    (s.setReg a v).linkUp b = s.linkUp b := State.flag_of_reg (s.reg_setReg_other v h)

/-- A link that is down shows neither UP nor ALIGNED. -/
theorem State.downRegs_cleared (s : State) (b : Nat) :
    (s.downRegs b).linkUp b = false ∧ (s.downRegs b).flag (Fld.LN_LE_STAT_ALIGNED b) = false := by
  have hrel : Reg.LN_LE_STAT b ≠ Reg.QL_REL_STAT b := by simp
  constructor
  · refine (State.linkUp_setReg_other _ _ hrel).trans ?_
    exact State.flag_setFlag_false_keep rfl (State.flag_setFlag_false_keep rfl (State.flag_setFlag_false_keep rfl
      (State.flag_setFlag_same _ _ _ rfl rfl)))
  · refine (State.flag_of_reg (State.reg_setReg_other _ _ hrel)).trans ?_
    exact State.flag_setFlag_false_keep rfl (State.flag_setFlag_false_keep rfl (State.flag_setFlag_same _ _ _ rfl rfl))

/-- UP falls, with ALIGNED, and DOWN reports it. -/
theorem State.linkDown_flags (hb : b < 103) (hne : b ≠ 96) (h : s.linkUp b = true) :
    (s.linkDown b).linkUp b = false ∧ (s.linkDown b).flag (Fld.LN_LE_STAT_ALIGNED b) = false ∧
    (s.linkDown b).flag (Fld.LN_LE_STAT_DOWN b) = true ∧ (s.linkDown b).sticky (linkEvent b) = true := by
  obtain ⟨hup, haligned⟩ := (s.mapEngs (s.members b) LinkEng.dropped).downRegs_cleared b
  rw [State.linkDown_of_up h hne]
  exact ⟨(State.flag_linkRaise_other _ hb rfl rfl (by simp [Field.apart])).trans hup,
    (State.flag_linkRaise_other _ hb rfl rfl (by simp [Field.apart])).trans haligned,
    State.flag_linkRaise_same _ hb rfl rfl rfl, State.sticky_linkRaise ..⟩

theorem State.linkDown_linkUp (hb : b < 103) (hne : b ≠ 96) : (s.linkDown b).linkUp b = false := by
  by_cases h : s.linkUp b = true
  · exact (State.linkDown_flags hb hne h).1
  · rw [State.linkDown_of_down (Bool.eq_false_iff.2 h)]
    exact Bool.eq_false_iff.2 h

/-- A link that is down stays down when another one falls. -/
theorem State.linkUp_linkDown_keep {c : Nat} (hb : b < 103) (hne : c ≠ 96) (h : s.linkUp b = false) :
    (s.linkDown c).linkUp b = false := by
  by_cases hbc : b = c
  · subst hbc
    rw [State.linkDown_of_down h]
    exact h
  · exact ((s.linkDown_writes hne).flag_eq (eventSafe_of_LN_LE_STAT hb rfl) (not_linkStatus_LN_LE_STAT hbc)).trans h

theorem State.linkDown_eng (h : s.linkUp b = true) (hne : b ≠ 96) :
    (s.linkDown b).eng = (s.mapEngs (s.members b) LinkEng.dropped).eng := by
  rw [State.linkDown_of_up h hne, State.linkRaise_eng]
  rfl

end

/-- An engine whose link rises: the sequence numbers start, and the measurement begins with the next turn. -/
def LinkEng.risen (e : LinkEng) (turn : Nat) : LinkEng :=
  { e with rxNext := none, alignFrom := turn + 1, maxLat := 0, replay := [], retries := 0, rxSeq := 0, refused := false, freed := 0,
           fell := false }

/-- The credit that the receiver of a reliable link grants when the link rises (R264). -/
def State.startCredit (s : State) (b : Nat) : State :=
  if s.reliable b then (s.setReg (Reg.QL_REL_STAT b) 0).setFld (Fld.QL_REL_STAT_CREDIT b) 2048 else s

/-- A link that has risen, before the mirror port sends its PAIR frame. -/
def State.upState (s : State) (b : Nat) : State :=
  ((s.setEng b ((s.engOf b).risen s.seq.turn)).startCredit b).setFlag (Fld.LN_LE_STAT_UP b) true

section
variable (s : State) (b : Nat)

theorem State.linkRise_eq : s.linkRise b = if b = 96 then (s.upState b).emit (s.upState b).pairFrame else s.upState b := rfl

/-- The mirror port differs in its PAIR frame alone. -/
theorem State.linkRise_eq_upState : ∃ o, s.linkRise b = (s.upState b).withOut o := by
  rw [State.linkRise_eq]
  split
  · exact ⟨_, rfl⟩
  · exact ⟨(s.upState b).out, rfl⟩

theorem State.startCredit_eng : (s.startCredit b).eng = s.eng := by
  unfold State.startCredit
  split <;> rfl

theorem State.startCredit_acq : (s.startCredit b).acq = s.acq := by
  unfold State.startCredit
  split <;> rfl

theorem State.fld_startCredit (h : s.reliable b = true) : (s.startCredit b).fld (Fld.QL_REL_STAT_CREDIT b) = 2048 := by
  rw [State.startCredit, if_pos h]
  exact State.fld_setFld_same _ _ _ rfl

variable {s} in
theorem OnlyLink.startCredit {w : List Field} {t : State} (h : OnlyLink w s t) (hm : wholeReg (Reg.QL_REL_STAT b) ∈ w) :
    OnlyLink w s (t.startCredit b) := by
  unfold State.startCredit
  split
  · exact (h.setReg _ _ hm).setReg _ _ hm
  · exact h

theorem State.upState_engOf : (s.upState b).engOf b = (s.engOf b).risen s.seq.turn :=
  (State.engOf_congr (s := s.setEng b ((s.engOf b).risen s.seq.turn)) (State.startCredit_eng _ b) b).trans (s.engOf_setEng_same b _)

theorem State.upState_acq : (s.upState b).acq = s.acq := State.startCredit_acq _ b

theorem State.upState_linkUp : (s.upState b).linkUp b = true := State.flag_setFlag_same _ _ _ rfl rfl

theorem State.fld_upState_CREDIT (h : s.reliable b = true) : (s.upState b).fld (Fld.QL_REL_STAT_CREDIT b) = 2048 :=
  (State.fld_setFlag_apart _ _ _ _ rfl (by simp [Field.apart])).trans
    (State.fld_startCredit (s.setEng b ((s.engOf b).risen s.seq.turn)) b h)

/-- The rise of UP changes the engine, UP, and the registers of the replay. -/
theorem State.upState_frame : OnlyLink [Fld.LN_LE_STAT_UP b, wholeReg (Reg.QL_REL_STAT b)] s (s.upState b) :=
  (((OnlyLink.refl _ s).setEng b _).startCredit b (by simp)).setFlag _ true rfl List.mem_cons_self

end

end Sys2Proof.Machine

/-! PROOFS.  The state of a link: LN_LE_CFG, block lock, and the rise and fall of UP (R244, R245, R252, R258). -/

namespace Sys2Proof.Machine

/-! ## Writes of LN_LE_CFG (R244, R245) -/

section
variable {s : State} {lane : Fin 103} (value : Word32)

/-- LN_LE_CFG of a data lane written: a change of protocol, group or FEC has taken the link down. -/
def State.linkConfigured (s : State) (i : Nat) (v : Word32) : State :=
  (if (s.reg (Reg.LN_LE_CFG i) ^^^ v) &&& 0x7F ≠ 0 then s.linkDown (s.baseOf i) else s).setReg (Reg.LN_LE_CFG i) v

theorem State.lnLeCfgStore_eq (s : State) {i : Nat} (hi : i < 96) (v : Word32) :
    s.lnLeCfgStore i v = (s.linkConfigured i (v &&& 0xFFFF)).checkEngine i := by
  have hport : ¬ (i = 100 ∨ i = 101) := by omega
  rw [State.lnLeCfgStore, if_neg hport]
  rfl

theorem State.checkEngine_of_bad {i : Nat} (h : s.engineBad i = true) :
    s.checkEngine i = (s.linkDown (s.baseOf i)).linkRaise (Fld.LN_LE_STAT_CFG_BAD i) i := if_pos h

theorem State.checkEngine_of_good {i : Nat} (h : s.engineBad i = false) : s.checkEngine i = s :=
  if_neg (by rw [h]; exact Bool.false_ne_true)

variable {i : Nat} (hi : i < 96)
include hi

theorem State.baseOf_ne_mirror : s.baseOf i ≠ 96 := by
  have := s.baseOf_le i
  omega

/-- The check of an engine writes no configuration. -/
theorem State.reg_checkEngine (s : State) : (s.checkEngine i).reg (Reg.LN_LE_CFG i) = s.reg (Reg.LN_LE_CFG i) := by
  have hsafe := eventSafe_of_LN_LE_CFG (i := i) (by omega)
  by_cases h : s.engineBad i = true
  · rw [State.checkEngine_of_bad h, (State.linkRaise_writes _ _ rfl).reg_eq hsafe (not_linkStatus_LN_LE_CFG i i),
      (s.linkDown_writes (State.baseOf_ne_mirror hi)).reg_eq hsafe (not_linkStatus_LN_LE_CFG _ i)]
  · rw [State.checkEngine_of_good (Bool.eq_false_iff.2 h)]

theorem State.checkEngine_keeps_down {b : Nat} (hb : b < 103) (h : s.linkUp b = false) : (s.checkEngine i).linkUp b = false := by
  by_cases hbad : s.engineBad i = true
  · rw [State.checkEngine_of_bad hbad]
    exact (State.flag_linkRaise_other _ hb rfl rfl (by simp [Field.apart])).trans
      (State.linkUp_linkDown_keep hb (State.baseOf_ne_mirror hi) h)
  · rw [State.checkEngine_of_good (Bool.eq_false_iff.2 hbad)]
    exact h

theorem State.reg_lnLeCfgStore : (s.lnLeCfgStore i value).reg (Reg.LN_LE_CFG i) = value &&& 0xFFFF := by
  rw [s.lnLeCfgStore_eq hi, State.reg_checkEngine hi]
  exact State.reg_setReg_same ..

theorem State.lnLeCfgStore_down (h : (s.reg (Reg.LN_LE_CFG i) ^^^ (value &&& 0xFFFF)) &&& 0x7F ≠ 0) :
    (s.lnLeCfgStore i value).linkUp (s.baseOf i) = false := by
  have hb : s.baseOf i < 103 := by
    have := s.baseOf_le i
    omega
  have hne : Reg.LN_LE_STAT (s.baseOf i) ≠ Reg.LN_LE_CFG i := by
    simp only [Reg.LN_LE_STAT, Reg.LN_LE_CFG]
    omega
  rw [s.lnLeCfgStore_eq hi]
  refine State.checkEngine_keeps_down hi hb ?_
  rw [State.linkConfigured, if_pos h, State.linkUp_setReg_other _ _ hne]
  exact State.linkDown_linkUp hb (State.baseOf_ne_mirror hi)

/-- A transmission source of 3 is refused in every mode. -/
theorem State.lnLeCfgStore_bad (hmode : (Fld.LN_LE_CFG_MODE i).get value ≠ 0) (hsrc : (Fld.LN_LE_CFG_TX_SRC i).get value = 3) :
    (s.lnLeCfgStore i value).flag (Fld.LN_LE_STAT_CFG_BAD i) = true ∧ (s.lnLeCfgStore i value).sticky (linkEvent i) = true := by
  let configured := s.linkConfigured i (value &&& 0xFFFF)
  have hmode' : configured.fld (Fld.LN_LE_CFG_MODE i) = (Fld.LN_LE_CFG_MODE i).get value :=
    State.fld_setReg_masked _ (f := Fld.LN_LE_CFG_MODE i) rfl (by dsimp only [Field.mask]; decide) value
  have hsrc' : configured.fld (Fld.LN_LE_CFG_TX_SRC i) = 3 :=
    (State.fld_setReg_masked _ (f := Fld.LN_LE_CFG_TX_SRC i) rfl (by dsimp only [Field.mask]; decide) value).trans hsrc
  have hself : configured.engineSelfBad i = true := by
    simp only [State.engineSelfBad, hmode', hsrc', bne_iff_ne.2 hmode, BEq.rfl, Bool.or_true, Bool.true_or, Bool.and_self]
  have hbad : configured.engineBad i = true := by rw [State.engineBad, hself, Bool.true_or]
  rw [s.lnLeCfgStore_eq hi, State.checkEngine_of_bad hbad]
  exact ⟨State.flag_linkRaise_same _ (by omega) rfl rfl rfl, State.sticky_linkRaise ..⟩

/-- A new destination or source alone changes nothing but LN_LE_CFG. -/
theorem State.lnLeCfgStore_same (h : (s.reg (Reg.LN_LE_CFG i) ^^^ (value &&& 0xFFFF)) &&& 0x7F = 0)
    (hgood : (s.setReg (Reg.LN_LE_CFG i) (value &&& 0xFFFF)).engineBad i = false) :
    s.lnLeCfgStore i value = s.setReg (Reg.LN_LE_CFG i) (value &&& 0xFFFF) := by
  rw [s.lnLeCfgStore_eq hi, State.linkConfigured, if_neg (not_not.2 h)]
  exact State.checkEngine_of_good hgood

end

section
variable {s : State} {mid : Mid} {lane : Fin 103} (value : Word32) (hawake : s.awake (Reg.LN_LE_CFG lane))
include hawake

theorem lnLeCfgWrite_completes (hdata : lane.val < 96) (hfree : s.imageOwner 0x04 lane = 0) :
    Completes (.lnLeCfgWrite mid lane value) s fun t =>
      t.reg (Reg.LN_LE_CFG lane) = value &&& 0xFFFF ∧ t.done.status = Code.ok ∧
      (s.baseOf lane ≠ 96 → (s.reg (Reg.LN_LE_CFG lane) ^^^ (value &&& 0xFFFF)) &&& 0x7F ≠ 0 → t.linkUp (s.baseOf lane) = false) ∧
      ((Fld.LN_LE_CFG_MODE lane).get value ≠ 0 → (Fld.LN_LE_CFG_TX_SRC lane).get value = 3 →
        t.flag (Fld.LN_LE_STAT_CFG_BAD lane) = true ∧ t.sticky (linkEvent lane) = true) ∧
      ((s.reg (Reg.LN_LE_CFG lane) ^^^ (value &&& 0xFFFF)) &&& 0x7F = 0 →
        (s.setReg (Reg.LN_LE_CFG lane) (value &&& 0xFFFF)).engineBad lane = false → Only [wholeReg (Reg.LN_LE_CFG lane)] s t) := by
  have hrun : exec (.lnLeCfgWrite mid lane value) s = .next ((s.lnLeCfgStore lane value).reply Code.ok) := by
    refine congrArg Host.Outcome.next ?_
    rw [State.gate_of_awake hawake, State.lnLeCfgWrite, if_neg (by omega), State.laneAssign_of_free hdata _ hfree]
  refine ⟨_, hrun, s.reg_lnLeCfgStore value hdata, rfl, fun _ => s.lnLeCfgStore_down value hdata,
    s.lnLeCfgStore_bad value hdata, fun hsame hgood => ?_⟩
  rw [s.lnLeCfgStore_same value hdata hsame hgood]
  exact ((Only.refl _ s).setReg _ _ List.mem_cons_self).reply _

/-- The windows of the mirror port are the twin unit's alone (R535). -/
theorem lnLeCfgWrite_mirror_completes (hlow : 96 ≤ lane.val) (hhigh : lane.val < 100) :
    Completes (.lnLeCfgWrite mid lane value) s fun t => t.done.status = Code.ok ∧ Only [] s t := by
  have hrun : exec (.lnLeCfgWrite mid lane value) s = .next (s.reply Code.ok) := by
    refine congrArg Host.Outcome.next ?_
    rw [State.gate_of_awake hawake, State.lnLeCfgWrite, if_pos ⟨hlow, hhigh⟩]
  exact ⟨_, hrun, rfl, (Only.refl _ s).reply _⟩

end

/-! ## Block lock, and the rise and fall of UP (R252, R253, R258) -/

section
variable {s : State} {lane : Fin 103}

theorem blockLock_completes (hruns : s.laneRuns lane = true) (hready : s.flag (Fld.LN_STAT_READY lane) = true)
    (hgood : s.engineBad lane = false) (hmode : s.fld (Fld.LN_LE_CFG_MODE lane) ≠ 0) : Completes (.blockLock lane) s fun t =>
      (t.engOf lane).blockLock = true ∧ (∀ k, k ≠ lane.val → t.engOf k = s.engOf k) ∧ t = { s with eng := t.eng } := by
  refine ⟨s.setEng lane { s.engOf lane with blockLock := true }, congrArg Host.Outcome.next (if_pos ?_), ?_,
    fun k hk => s.engOf_setEng_other lane _ hk, rfl⟩
  · rw [hruns, hready, hgood, bne_iff_ne.2 hmode]
    rfl
  · rw [State.engOf_setEng_same]

section
variable {skew : Nat}
  (hready : ∀ k ∈ s.members (s.baseOf lane), (s.engOf k).blockLock = true ∧ s.flag (Fld.LN_STAT_READY k) = true)
  (hgood : s.engineBad lane = false) (hmode : s.fld (Fld.LN_LE_CFG_MODE (s.baseOf lane)) ≠ 0) (hdown : s.linkUp (s.baseOf lane) = false)
include hready hgood hmode hdown

theorem exec_linkUp : exec (.linkUp lane skew) s = .next
    (if 1 < s.groupSize (s.baseOf lane) ∧ 16 < skew then s.linkRaise (Fld.LN_LE_STAT_DESKEW (s.baseOf lane)) (s.baseOf lane)
     else s.linkRise (s.baseOf lane)) := by
  have hall : ((s.members (s.baseOf lane)).all fun i => (s.engOf i).blockLock && s.flag (Fld.LN_STAT_READY i)) = true :=
    List.all_eq_true.2 fun k hk => Bool.and_eq_true_iff.2 (hready k hk)
  refine congrArg Host.Outcome.next (if_neg ?_)
  rw [hall, hgood, bne_iff_ne.2 hmode, hdown]
  exact Bool.false_ne_true

theorem linkUp_completes (hskew : s.groupSize (s.baseOf lane) ≤ 1 ∨ skew ≤ 16) : Completes (.linkUp lane skew) s fun t =>
    t.linkUp (s.baseOf lane) = true ∧
    (s.reliable (s.baseOf lane) = true → t.fld (Fld.QL_REL_STAT_CREDIT (s.baseOf lane)) = 2048) ∧
    (t.engOf (s.baseOf lane)).rxSeq = 0 ∧ (t.engOf (s.baseOf lane)).replay = [] ∧
    Only [Fld.LN_LE_STAT_UP (s.baseOf lane), wholeReg (Reg.QL_REL_STAT (s.baseOf lane))] { s with eng := t.eng } t := by
  obtain ⟨o, hrise⟩ := s.linkRise_eq_upState (s.baseOf lane)
  have hengine : ((s.upState (s.baseOf lane)).withOut o).engOf (s.baseOf lane) = (s.engOf (s.baseOf lane)).risen s.seq.turn :=
    s.upState_engOf (s.baseOf lane)
  refine ⟨(s.upState (s.baseOf lane)).withOut o, ?_, s.upState_linkUp _, s.fld_upState_CREDIT _, congrArg LinkEng.rxSeq hengine,
    congrArg LinkEng.replay hengine, ((s.upState_frame _).withOut o).eng (s.upState_acq _)⟩
  rw [exec_linkUp hready hgood hmode hdown, if_neg (by omega), hrise]

theorem linkUp_deskew_completes (hgroup : 1 < s.groupSize (s.baseOf lane)) (hskew : 16 < skew) : Completes (.linkUp lane skew) s fun t =>
    t.linkUp (s.baseOf lane) = false ∧ t.flag (Fld.LN_LE_STAT_DESKEW (s.baseOf lane)) = true ∧
    t.sticky (linkEvent (s.baseOf lane)) = true ∧ OnlyEv [Fld.LN_LE_STAT_DESKEW (s.baseOf lane)] s t := by
  have hb := s.baseOf_lt lane
  refine ⟨_, ?_, (State.flag_linkRaise_other s hb rfl rfl (by simp [Field.apart])).trans hdown,
    State.flag_linkRaise_same s hb rfl rfl rfl, State.sticky_linkRaise .., (OnlyEv.refl _ s).linkRaise _ _ rfl List.mem_cons_self⟩
  rw [exec_linkUp hready hgood hmode hdown, if_pos ⟨hgroup, hskew⟩]

end

theorem State.downRegs_frame {w : List Field} {s t : State} {b : Nat} (h : OnlyEv w s t)
    (hm : ∀ f ∈ [Fld.LN_LE_STAT_UP b, Fld.LN_LE_STAT_ALIGNED b, Fld.LN_LE_XLAT_VALID b, Fld.LN_LE_STAT_RETRYING b,
      wholeReg (Reg.QL_REL_STAT b)], f ∈ w) : OnlyEv w s (t.downRegs b) :=
  ((((h.setFlag _ false rfl (hm _ (by simp))).setFlag _ false rfl (hm _ (by simp))).setFlag _ false rfl (hm _ (by simp))).setFlag _
    false rfl (hm _ (by simp))).setReg _ _ (hm _ (by simp))

theorem linkDown_completes (hne : s.baseOf lane ≠ 96) (hup : s.linkUp (s.baseOf lane) = true) : Completes (.linkDown lane) s fun t =>
    t.linkUp (s.baseOf lane) = false ∧ t.flag (Fld.LN_LE_STAT_ALIGNED (s.baseOf lane)) = false ∧
    t.flag (Fld.LN_LE_STAT_DOWN (s.baseOf lane)) = true ∧ t.sticky (linkEvent (s.baseOf lane)) = true ∧
    (∀ k ∈ s.members (s.baseOf lane), t.engOf k = { (s.engOf k).fallen with blockLock := false }) ∧
    (∀ k, k ∉ s.members (s.baseOf lane) → t.engOf k = s.engOf k) ∧
    OnlyEv [Fld.LN_LE_STAT_UP (s.baseOf lane), Fld.LN_LE_STAT_ALIGNED (s.baseOf lane), Fld.LN_LE_XLAT_VALID (s.baseOf lane),
      Fld.LN_LE_STAT_RETRYING (s.baseOf lane), wholeReg (Reg.QL_REL_STAT (s.baseOf lane)), Fld.LN_LE_STAT_DOWN (s.baseOf lane)]
      { s with eng := t.eng } t := by
  obtain ⟨hdown, haligned, hflag, hsticky⟩ := State.linkDown_flags (s.baseOf_lt lane) hne hup
  have heng := State.linkDown_eng hup hne
  refine ⟨s.linkDown (s.baseOf lane), rfl, hdown, haligned, hflag, hsticky, fun k hk => ?_, fun k hk => ?_, ?_⟩
  · exact (State.engOf_congr heng k).trans (State.engOf_mapEngs_mem s _ LinkEng.dropped (s.members_nodup _) hk)
  · exact (State.engOf_congr heng k).trans (State.engOf_mapEngs_other s _ _ hk)
  · rw [heng, ← State.mapEngs_eq, State.linkDown_of_up hup hne]
    exact (State.downRegs_frame (OnlyEv.refl _ _) (by simp)).linkRaise _ _ rfl (by simp)

end

end Sys2Proof.Machine

/-! PROOFS.  Words that arrive on a link: the count, the acquisition engine's input, and the queue of their release (R248, R249, R251,
R281). -/

namespace Sys2Proof.Machine

theorem State.reg_countReg_same {s : State} {a : Nat} (h : s.reg a ≠ 0xFFFFFFFF) : (s.countReg a).reg a = s.reg a + 1 := by
  rw [State.countReg_of_ne h, State.reg_setReg_same]

theorem State.reg_countReg_other (s : State) {a c : Nat} (h : a ≠ c) : (s.countReg c).reg a = s.reg a := by
  unfold State.countReg
  split
  · rfl
  · exact s.reg_setReg_other _ h

/-- A counter below its end counts one more as a number. -/
theorem State.toNat_reg_countReg {s : State} {a : Nat} (h : (s.reg a).toNat + 1 < 2 ^ 32) :
    ((s.countReg a).reg a).toNat = (s.reg a).toNat + 1 := by
  have hne : s.reg a ≠ 0xFFFFFFFF := fun e => by
    rw [e] at h
    exact absurd h (by decide)
  rw [State.reg_countReg_same hne, BitVec.toNat_add]
  exact Nat.mod_eq_of_lt h

/-! ## Words that a link counts and hands over -/

/-- The counters of received words of the group whose base lane is `b`. -/
def wordCounter (b a : Nat) : Prop := a = Reg.LN_LE_WORDS b ∨ a = Reg.LN_LE_INV b

/-- A word counted, and counted again where it is invalid (R249, R251). -/
def State.countWord (s : State) (b : Nat) (valid : Bool) : State :=
  (s.countReg (Reg.LN_LE_WORDS b)).when (!valid) fun s => s.countReg (Reg.LN_LE_INV b)

/-- What a link hands over with a word: its lane, the word, its flag, and the turn of a READOUT frame. -/
abbrev LinkItem := Nat × Word64 × Bool × Option Nat

/-- A word counted and, where the engine feeds the acquisition engine, handed to it. -/
def State.takeItem (s : State) (b : Nat) (acq : Bool) (x : LinkItem) : State :=
  (s.countWord b x.2.2.1).when acq fun s => s.toAcq x.1 x.2.1 x.2.2.1 x.2.2.2

/-- Several words taken one after the other. -/
def State.takeItems (s : State) (b : Nat) (acq : Bool) (l : List LinkItem) : State := l.foldl (fun s x => s.takeItem b acq x) s

section
variable (s : State) (b : Nat)

theorem State.countWord_eng (valid : Bool) : (s.countWord b valid).eng = s.eng := by
  cases valid
  · exact (State.countReg_eng _ _).trans (State.countReg_eng _ _)
  · exact State.countReg_eng _ _

theorem State.countWord_acq (valid : Bool) : (s.countWord b valid).acq = s.acq := by
  cases valid
  · exact (State.countReg_acq _ _).trans (State.countReg_acq _ _)
  · exact State.countReg_acq _ _

theorem State.countWord_out (valid : Bool) : (s.countWord b valid).out = s.out := by
  cases valid
  · exact (State.countReg_out _ _).trans (State.countReg_out _ _)
  · exact State.countReg_out _ _

theorem State.reg_countWord {a : Nat} (valid : Bool) (h : ¬ wordCounter b a) : (s.countWord b valid).reg a = s.reg a := by
  obtain ⟨hwords, hinv⟩ := not_or.1 h
  cases valid
  · exact (State.reg_countReg_other _ hinv).trans (s.reg_countReg_other hwords)
  · exact s.reg_countReg_other hwords

/-- The count of invalid words is apart from that of words. -/
theorem State.reg_countWord_WORDS (valid : Bool) :
    (s.countWord b valid).reg (Reg.LN_LE_WORDS b) = (s.countReg (Reg.LN_LE_WORDS b)).reg (Reg.LN_LE_WORDS b) := by
  cases valid
  · exact State.reg_countReg_other _ (by simp)
  · rfl

variable {s b} in
/-- An invalid word counts among the invalid ones. -/
theorem State.reg_countWord_INV (h : s.reg (Reg.LN_LE_INV b) ≠ 0xFFFFFFFF) :
    (s.countWord b false).reg (Reg.LN_LE_INV b) = s.reg (Reg.LN_LE_INV b) + 1 := by
  have hcounted : (s.countReg (Reg.LN_LE_WORDS b)).reg (Reg.LN_LE_INV b) = s.reg (Reg.LN_LE_INV b) := s.reg_countReg_other (by simp)
  rw [← hcounted] at h ⊢
  exact State.reg_countReg_same h

variable {s b} in
theorem OnlyLink.countWord {w : List Field} {t : State} (h : OnlyLink w s t) (hm : wholeReg (Reg.LN_LE_WORDS b) ∈ w) :
    OnlyLink w s (t.countWord b true) := h.countReg _ hm

variable (acq : Bool) (x : LinkItem)

theorem State.takeItem_eng : (s.takeItem b acq x).eng = s.eng := by
  cases acq <;> exact s.countWord_eng b x.2.2.1

theorem State.takeItem_out : (s.takeItem b acq x).out = s.out := by
  cases acq <;> exact s.countWord_out b x.2.2.1

theorem State.reg_takeItem (a : Nat) : (s.takeItem b acq x).reg a = (s.countWord b x.2.2.1).reg a := by
  cases acq <;> rfl

theorem State.takeItem_acq_off : (s.takeItem b false x).acq = s.acq := s.countWord_acq b x.2.2.1

theorem State.toAcq_inbox : ∃ full, (s.toAcq x.1 x.2.1 x.2.2.1 x.2.2.2).acq.inbox =
    s.acq.inbox ++ [{ lane := x.1, value := x.2.1, valid := x.2.2.1, full := full, readout := x.2.2.2 }] := ⟨_, rfl⟩

theorem State.takeItem_on : s.takeItem b true x = (s.countWord b x.2.2.1).toAcq x.1 x.2.1 x.2.2.1 x.2.2.2 := by
  rw [State.takeItem, State.when, if_pos rfl]

/-- The word is the last in the acquisition engine's input. -/
theorem State.takeItem_inbox : ∃ full, (s.takeItem b true x).acq.inbox =
    s.acq.inbox ++ [{ lane := x.1, value := x.2.1, valid := x.2.2.1, full := full, readout := x.2.2.2 }] := by
  rw [State.takeItem_on, ← s.countWord_acq b x.2.2.1]
  exact State.toAcq_inbox _ x

variable {s b x} in
theorem OnlyLink.takeItem {w : List Field} {t : State} (h : OnlyLink w s t) (hvalid : x.2.2.1 = true)
    (hm : wholeReg (Reg.LN_LE_WORDS b) ∈ w) : OnlyLink w s (t.takeItem b acq x) := by
  have hcount : OnlyLink w s (t.countWord b x.2.2.1) := hvalid ▸ h.countWord hm
  cases acq
  · exact hcount
  · rw [State.takeItem_on]
    exact hcount.toAcq _ _ _ _

end

section
variable (s : State) (b : Nat) (acq : Bool) (l : List LinkItem)

theorem State.takeItems_eng : (s.takeItems b acq l).eng = s.eng := foldl_keeps State.eng _ _ s fun t x _ => t.takeItem_eng b acq x

theorem State.takeItems_out : (s.takeItems b acq l).out = s.out := foldl_keeps State.out _ _ s fun t x _ => t.takeItem_out b acq x

theorem State.reg_takeItems {a : Nat} (h : ¬ wordCounter b a) : (s.takeItems b acq l).reg a = s.reg a :=
  State.reg_foldl _ _ s fun t x => (t.reg_takeItem b acq x a).trans (t.reg_countWord b _ h)

/-- What a word is without whether it found its queue full. -/
def AcqWord.item (x : AcqWord) : LinkItem := (x.lane, x.value, x.valid, x.readout)

theorem State.takeItems_inbox : (s.takeItems b true l).acq.inbox.map AcqWord.item = s.acq.inbox.map AcqWord.item ++ l := by
  induction l generalizing s with
  | nil => exact (List.append_nil _).symm
  | cons x r ih =>
    obtain ⟨full, hx⟩ := s.takeItem_inbox b x
    refine (ih _).trans ?_
    rw [hx, List.map_append, List.append_assoc]
    rfl

/-- Each word counts once, up to the end of the counter. -/
theorem State.toNat_reg_takeItems (h : (s.reg (Reg.LN_LE_WORDS b)).toNat + l.length < 2 ^ 32) :
    ((s.takeItems b acq l).reg (Reg.LN_LE_WORDS b)).toNat = (s.reg (Reg.LN_LE_WORDS b)).toNat + l.length := by
  induction l generalizing s with
  | nil => rfl
  | cons x r ih =>
    rw [List.length_cons] at h ⊢
    have hone : ((s.takeItem b acq x).reg (Reg.LN_LE_WORDS b)).toNat = (s.reg (Reg.LN_LE_WORDS b)).toNat + 1 := by
      rw [State.reg_takeItem, State.reg_countWord_WORDS, State.toNat_reg_countReg (by omega)]
    refine (ih (s.takeItem b acq x) (by omega)).trans ?_
    omega

theorem OnlyLink.takeItems {s : State} {w : List Field} {t : State} (h : OnlyLink w s t) (hvalid : ∀ x ∈ l, x.2.2.1 = true)
    (hm : wholeReg (Reg.LN_LE_WORDS b) ∈ w) : OnlyLink w s (t.takeItems b acq l) :=
  List.foldlRecOn l _ h fun _ hu x hx => hu.takeItem acq (hvalid x hx) hm

/-- A fold whose steps take items, as long as LN_LE_CFG stays, takes them all. -/
theorem State.foldl_eq_takeItems {α : Type} (step : State → α → State) (item : α → LinkItem) (l : List α)
    (hstep : ∀ t, t.reg (Reg.LN_LE_CFG b) = s.reg (Reg.LN_LE_CFG b) → ∀ x, step t x = t.takeItem b acq (item x)) :
    l.foldl step s = s.takeItems b acq (l.map item) := by
  induction l generalizing s with
  | nil => rfl
  | cons x r ih =>
    have hcfg : (s.takeItem b acq (item x)).reg (Reg.LN_LE_CFG b) = s.reg (Reg.LN_LE_CFG b) :=
      (s.reg_takeItem b acq _ _).trans (s.reg_countWord b _ (by simp [wordCounter]))
    rw [List.foldl_cons, hstep s rfl x]
    exact ih _ fun t ht => hstep t (ht.trans hcfg)

end

/-! ## Delivery outside a plan (R248, R249) -/

section
variable {s : State} {b : Nat} (i : Nat) (w : Word64) (valid : Bool) (tag : Option (BitVec 8))

theorem not_wordCounter_LN_LE_CFG (b : Nat) : ¬ wordCounter b (Reg.LN_LE_CFG b) := by
  simp [wordCounter]

/-- A word that no plan releases is taken, and queued for its release where the array takes the lane's words. -/
theorem State.deliverWord_of_unplanned (h : (s.byPlan b && s.flag (Fld.LN_LE_CFG_TO_ARR b)) = false) :
    s.deliverWord b i w valid tag =
      (s.takeItem b (s.flag (Fld.LN_LE_CFG_TO_ACQ b)) (i, w, valid, none)).when (s.flag (Fld.LN_LE_CFG_TO_ARR b)) fun t =>
        t.queueWord b i w valid tag := by
  have hcfg : (s.countReg (Reg.LN_LE_WORDS b)).reg (Reg.LN_LE_CFG b) = s.reg (Reg.LN_LE_CFG b) := s.reg_countReg_other (by simp)
  have hcount : (s.countWord b valid).reg (Reg.LN_LE_CFG b) = s.reg (Reg.LN_LE_CFG b) :=
    s.reg_countWord b valid (not_wordCounter_LN_LE_CFG b)
  have hplan : ((s.countReg (Reg.LN_LE_WORDS b)).byPlan b && (s.countReg (Reg.LN_LE_WORDS b)).flag (Fld.LN_LE_CFG_TO_ARR b)) = false := by
    rw [State.byPlan_congr hcfg, State.flag_of_reg (f := Fld.LN_LE_CFG_TO_ARR b) hcfg, h]
  have hs2 : (if valid || false then s.countReg (Reg.LN_LE_WORDS b) else
      (s.countReg (Reg.LN_LE_WORDS b)).countReg (Reg.LN_LE_INV b)) = s.countWord b valid := by
    rw [Bool.or_false, State.countWord, State.when]
    cases valid
    · rw [Bool.not_false, if_neg Bool.false_ne_true, if_pos rfl]
    · rw [Bool.not_true, if_neg Bool.false_ne_true, if_pos rfl]
  rw [State.deliverWord, hplan, hs2, State.flag_of_reg (f := Fld.LN_LE_CFG_TO_ACQ b) hcount, Bool.not_false, Bool.and_true]
  have htaken : (if s.flag (Fld.LN_LE_CFG_TO_ACQ b) = true then (s.countWord b valid).toAcq i w valid none else s.countWord b valid) =
      s.takeItem b (s.flag (Fld.LN_LE_CFG_TO_ACQ b)) (i, w, valid, none) := by
    cases s.flag (Fld.LN_LE_CFG_TO_ACQ b)
    · exact if_neg Bool.false_ne_true
    · exact (if_pos rfl).trans (s.takeItem_on b (i, w, valid, none)).symm
  have htarr : (s.takeItem b (s.flag (Fld.LN_LE_CFG_TO_ACQ b)) (i, w, valid, none)).flag (Fld.LN_LE_CFG_TO_ARR b) =
      s.flag (Fld.LN_LE_CFG_TO_ARR b) := State.flag_of_reg ((State.reg_takeItem ..).trans hcount)
  rw [htaken, htarr, State.when]

/-- Words that the array does not take. -/
theorem State.deliverWord_of_toArr_off (h : s.flag (Fld.LN_LE_CFG_TO_ARR b) = false) :
    s.deliverWord b i w valid tag = s.takeItem b (s.flag (Fld.LN_LE_CFG_TO_ACQ b)) (i, w, valid, none) := by
  rw [State.deliverWord_of_unplanned i w valid tag (by rw [h, Bool.and_false]), h]
  rfl

theorem State.queueWord_of_room (h : (s.engOf i).waiting.length < 32) : s.queueWord b i w valid tag =
    s.setEng i { s.engOf i with waiting := (s.engOf i).waiting ++
      [{ value := w, valid := valid, tag := tag, wait := s.fld (Fld.LN_LE_DELAY_DELAY b) }] } := if_neg (Nat.not_le.2 h)

/-- A word waits, or it is dropped. -/
theorem State.queueWord_cases (s : State) (b i : Nat) (w : Word64) (valid : Bool) (tag : Option (BitVec 8)) :
    (∃ e, s.queueWord b i w valid tag = s.setEng i e) ∨
    s.queueWord b i w valid tag = (s.countReg (Reg.LN_LE_DROP b)).linkRaise (Fld.LN_LE_STAT_OVF b) b := by
  obtain h | h := Nat.lt_or_ge (s.engOf i).waiting.length 32
  · exact Or.inl ⟨_, if_neg (Nat.not_le.2 h)⟩
  · exact Or.inr (if_pos h)

theorem State.queueWord_of_full (h : 32 ≤ (s.engOf i).waiting.length) : s.queueWord b i w valid tag =
    (s.countReg (Reg.LN_LE_DROP b)).linkRaise (Fld.LN_LE_STAT_OVF b) b := if_pos h

end

end Sys2Proof.Machine

/-! PROOFS.  Raw words on a link, the release of words, their take for transmission, and the end of the measurement (R248 to R250, R259,
R261). -/

namespace Sys2Proof.Machine

/-! ## Raw words that arrive (R248, R249, R251) -/

/-- What an invalid raw word reports: a control character cut an 8b/10b word short, or the word is damaged. -/
def State.judgeWord (s : State) (i : Nat) (valid cut : Bool) : State :=
  if valid then s
  else if cut && s.fld (Fld.LN_LE_CFG_MODE i) == 3 then s.linkRaise (Fld.LN_LE_STAT_MISALIGN i) i
  else s.damaged i

section
variable (s : State) {i : Nat} (valid cut : Bool)

theorem State.judgeWord_eng : (s.judgeWord i valid cut).eng = s.eng := by
  unfold State.judgeWord
  repeat' split
  · rfl
  · exact State.linkRaise_eng ..
  · exact State.linkRaise_eng ..

theorem State.judgeWord_acq : (s.judgeWord i valid cut).acq = s.acq := by
  unfold State.judgeWord
  repeat' split
  · rfl
  · exact State.linkRaise_acq ..
  · exact State.linkRaise_acq ..

theorem State.reg_judgeWord {a o : Nat} (hi : i < 103) (ha : a = 0x5000000 + o + i * 0x10000) (ho : o < 0x10000)
    (hne : a ≠ Reg.LN_LE_STAT i) : (s.judgeWord i valid cut).reg a = s.reg a := by
  unfold State.judgeWord
  repeat' split
  · rfl
  · exact s.reg_linkRaise hi ha ho hne
  · exact s.reg_linkRaise hi ha ho hne

/-- A damaged word reports MISALIGN or UNC with the engine's event. -/
theorem State.judgeWord_reports (hi : i < 103) : (s.judgeWord i false cut).sticky (linkEvent i) = true ∧
    if cut = true ∧ s.fld (Fld.LN_LE_CFG_MODE i) = 3 then (s.judgeWord i false cut).flag (Fld.LN_LE_STAT_MISALIGN i) = true
    else (s.judgeWord i false cut).flag (Fld.LN_LE_STAT_UNC i) = true := by
  rw [State.judgeWord, if_neg Bool.false_ne_true]
  simp only [Bool.and_eq_true, beq_iff_eq]
  split
  · exact ⟨State.sticky_linkRaise .., State.flag_linkRaise_same s hi rfl rfl rfl⟩
  · exact ⟨State.sticky_linkRaise .., State.flag_linkRaise_same s hi rfl rfl rfl⟩

end

section
variable (s : State) {b : Nat} (w : Word64) (valid : Bool) (tag : Option (BitVec 8))

theorem State.queueWord_acq (i : Nat) : (s.queueWord b i w valid tag).acq = s.acq := by
  obtain ⟨e, h⟩ | h := s.queueWord_cases b i w valid tag
  · rw [h]
    rfl
  · rw [h, State.linkRaise_acq, State.countReg_acq]

/-- A word that waits, or is dropped, leaves the counters of received words alone. -/
theorem State.reg_queueWord (i : Nat) {a o : Nat} (hb : b < 103) (ha : a = 0x5000000 + o + b * 0x10000) (ho : o < 0x10000)
    (hdrop : a ≠ Reg.LN_LE_DROP b) (hstat : a ≠ Reg.LN_LE_STAT b) : (s.queueWord b i w valid tag).reg a = s.reg a := by
  obtain ⟨e, h⟩ | h := s.queueWord_cases b i w valid tag
  · rw [h, State.reg_setEng]
  · rw [h, State.reg_linkRaise _ hb ha ho hstat, State.reg_countReg_other _ hdrop]

/-- A drop sets OVF and no other bit of LN_LE_STAT. -/
theorem State.flag_queueWord (i : Nat) {f : Field} (hb : b < 103) (hf : f.addr = Reg.LN_LE_STAT b)
    (hapart : (Fld.LN_LE_STAT_OVF b).apart f) : (s.queueWord b i w valid tag).flag f = s.flag f := by
  have hdrop : f.addr ≠ Reg.LN_LE_DROP b := by
    rw [hf]
    simp
  obtain ⟨e, h⟩ | h := s.queueWord_cases b i w valid tag
  · rw [h, State.flag_setEng]
  · rw [h, State.flag_linkRaise_other _ hb hf rfl hapart, State.flag_of_reg (s.reg_countReg_other hdrop)]

theorem sticky_ne_lane {n a : Nat} (hn : n < 512) (ha : 0x5000000 ≤ a) : Reg.EVT_STICKY (n / 32) ≠ a := by
  simp only [Reg.EVT_STICKY]
  omega

theorem State.sticky_queueWord_keep {s : State} (i : Nat) {n : Nat} (hn : n < 512) (h : s.sticky n = true) :
    (s.queueWord b i w valid tag).sticky n = true := by
  obtain ⟨e, hqueue⟩ | hqueue := s.queueWord_cases b i w valid tag
  · rw [hqueue]
    exact h
  · rw [hqueue]
    refine State.sticky_raise_keep _ _ hn ?_
    rw [State.sticky_congr n (State.reg_setFlag_other _ _ _ _ (sticky_ne_lane hn (by simp only [Reg.LN_LE_STAT]; omega))),
      State.sticky_congr n (s.reg_countReg_other (sticky_ne_lane hn (by simp only [Reg.LN_LE_DROP]; omega)))]
    exact h

end

section
variable {s : State} {lane : Fin 103} (word : Word64) (valid cut : Bool)

/-- A raw word taken: counted and handed to the acquisition engine. -/
def State.rawTaken (s : State) (i : Nat) (word : Word64) (valid cut : Bool) : State :=
  (s.judgeWord i valid cut).takeItem i (s.flag (Fld.LN_LE_CFG_TO_ACQ i)) (i, word, valid, none)

/-- A raw word taken and, where the array takes the lane's words, queued for its release. -/
def State.rawArrived (s : State) (i : Nat) (word : Word64) (valid cut : Bool) : State :=
  if s.flag (Fld.LN_LE_CFG_TO_ARR i) then (s.rawTaken i word valid cut).queueWord i i word valid none else s.rawTaken i word valid cut

theorem exec_wordAvailable (hup : s.linkUp lane = true)
    (hmode : s.fld (Fld.LN_LE_CFG_MODE lane) = 3 ∨ s.fld (Fld.LN_LE_CFG_MODE lane) = 4) :
    exec (.wordAvailable lane word valid cut) s = .next (s.rawArrived lane word valid cut) := by
  have hraw : (s.linkUp lane && (s.fld (Fld.LN_LE_CFG_MODE lane) == 3 || s.fld (Fld.LN_LE_CFG_MODE lane) == 4)) = true := by
    rw [hup, Bool.true_and, Bool.or_eq_true, beq_iff_eq, beq_iff_eq]
    exact hmode
  have hcfg : (s.judgeWord lane valid cut).reg (Reg.LN_LE_CFG lane) = s.reg (Reg.LN_LE_CFG lane) :=
    s.reg_judgeWord valid cut lane.isLt (o := 0x1000) rfl (by decide) (by simp)
  have hplan : (s.judgeWord lane valid cut).byPlan lane = false := by
    rw [State.byPlan_congr hcfg]
    refine State.byPlan_of_not_quire ?_
    obtain h | h := hmode
    · exact State.quire_of_mode h (by decide) (by decide)
    · exact State.quire_of_mode h (by decide) (by decide)
  refine congrArg Host.Outcome.next ((if_pos hraw).trans ?_)
  refine (State.deliverWord_of_unplanned (s := s.judgeWord lane valid cut) _ _ _ _ (by rw [hplan, Bool.false_and])).trans ?_
  rw [State.flag_of_reg (f := Fld.LN_LE_CFG_TO_ACQ lane) hcfg, State.flag_of_reg (f := Fld.LN_LE_CFG_TO_ARR lane) hcfg, State.when,
    State.rawArrived, State.rawTaken]

variable (s) {i : Nat}

theorem State.rawTaken_eng : (s.rawTaken i word valid cut).eng = s.eng := (State.takeItem_eng ..).trans (s.judgeWord_eng valid cut)

theorem State.rawArrived_acq : (s.rawArrived i word valid cut).acq = (s.rawTaken i word valid cut).acq := by
  unfold State.rawArrived
  split
  · exact State.queueWord_acq ..
  · rfl

theorem State.rawTaken_acq_off (h : s.flag (Fld.LN_LE_CFG_TO_ACQ i) = false) : (s.rawTaken i word valid cut).acq = s.acq := by
  rw [State.rawTaken, h, State.takeItem_acq_off, State.judgeWord_acq]

theorem State.rawTaken_inbox (h : s.flag (Fld.LN_LE_CFG_TO_ACQ i) = true) : ∃ full, (s.rawTaken i word valid cut).acq.inbox =
    s.acq.inbox ++ [{ lane := i, value := word, valid := valid, full := full, readout := none }] := by
  rw [State.rawTaken, h, ← s.judgeWord_acq valid cut]
  exact State.takeItem_inbox _ i (i, word, valid, none)

theorem State.reg_rawTaken_LN_LE_STAT : (s.rawTaken i word valid cut).reg (Reg.LN_LE_STAT i) =
    (s.judgeWord i valid cut).reg (Reg.LN_LE_STAT i) := by
  rw [State.rawTaken, State.reg_takeItem, State.reg_countWord _ _ _ (by simp [wordCounter])]

variable (hi : i < 103)
include hi

theorem State.reg_rawTaken {a o : Nat} (ha : a = 0x5000000 + o + i * 0x10000) (ho : o < 0x10000) (hstat : a ≠ Reg.LN_LE_STAT i)
    (hcount : ¬ wordCounter i a) : (s.rawTaken i word valid cut).reg a = s.reg a := by
  rw [State.rawTaken, State.reg_takeItem, State.reg_countWord _ _ _ hcount, s.reg_judgeWord valid cut hi ha ho hstat]

theorem State.reg_rawTaken_WORDS (h : s.reg (Reg.LN_LE_WORDS i) ≠ 0xFFFFFFFF) :
    (s.rawTaken i word valid cut).reg (Reg.LN_LE_WORDS i) = s.reg (Reg.LN_LE_WORDS i) + 1 := by
  have hjudged : (s.judgeWord i valid cut).reg (Reg.LN_LE_WORDS i) = s.reg (Reg.LN_LE_WORDS i) :=
    s.reg_judgeWord valid cut hi (o := 0x1050) rfl (by decide) (by simp)
  rw [← hjudged] at h ⊢
  rw [State.rawTaken, State.reg_takeItem, State.reg_countWord_WORDS, State.reg_countReg_same h]

theorem State.reg_rawTaken_INV (h : s.reg (Reg.LN_LE_INV i) ≠ 0xFFFFFFFF) :
    (s.rawTaken i word false cut).reg (Reg.LN_LE_INV i) = s.reg (Reg.LN_LE_INV i) + 1 := by
  have hjudged : (s.judgeWord i false cut).reg (Reg.LN_LE_INV i) = s.reg (Reg.LN_LE_INV i) :=
    s.reg_judgeWord false cut hi (o := 0x1054) rfl (by decide) (by simp)
  rw [← hjudged] at h ⊢
  exact (State.reg_takeItem ..).trans (State.reg_countWord_INV h)

theorem State.reg_rawArrived {a o : Nat} (ha : a = 0x5000000 + o + i * 0x10000) (ho : o < 0x10000) (hdrop : a ≠ Reg.LN_LE_DROP i)
    (hstat : a ≠ Reg.LN_LE_STAT i) : (s.rawArrived i word valid cut).reg a = (s.rawTaken i word valid cut).reg a := by
  unfold State.rawArrived
  split
  · exact State.reg_queueWord _ word valid none i hi ha ho hdrop hstat
  · rfl

variable {s}

/-- A word waits where the queue has room. -/
theorem State.rawArrived_of_room (harr : s.flag (Fld.LN_LE_CFG_TO_ARR i) = true) (hroom : (s.engOf i).waiting.length < 32) :
    s.rawArrived i word valid cut = (s.rawTaken i word valid cut).setEng i { s.engOf i with waiting := (s.engOf i).waiting ++
      [{ value := word, valid := valid, tag := none, wait := s.fld (Fld.LN_LE_DELAY_DELAY i) }] } := by
  have hengine : (s.rawTaken i word valid cut).engOf i = s.engOf i := State.engOf_congr (s.rawTaken_eng word valid cut) i
  have hdelay : (s.rawTaken i word valid cut).fld (Fld.LN_LE_DELAY_DELAY i) = s.fld (Fld.LN_LE_DELAY_DELAY i) :=
    State.fld_of_reg (s.reg_rawTaken word valid cut hi (o := 0x1008) rfl (by decide) (by simp) (by simp [wordCounter]))
  rw [← hengine] at hroom
  rw [State.rawArrived, if_pos harr, State.queueWord_of_room _ _ _ _ hroom, hengine, hdelay]

/-- The 33rd word is dropped. -/
theorem State.rawArrived_of_full (harr : s.flag (Fld.LN_LE_CFG_TO_ARR i) = true) (hfull : 32 ≤ (s.engOf i).waiting.length)
    (hdrop : s.reg (Reg.LN_LE_DROP i) ≠ 0xFFFFFFFF) :
    (s.rawArrived i word valid cut).eng = s.eng ∧
    (s.rawArrived i word valid cut).reg (Reg.LN_LE_DROP i) = s.reg (Reg.LN_LE_DROP i) + 1 ∧
    (s.rawArrived i word valid cut).flag (Fld.LN_LE_STAT_OVF i) = true ∧ (s.rawArrived i word valid cut).sticky (linkEvent i) = true := by
  have heng := s.rawTaken_eng (i := i) word valid cut
  have hreg : (s.rawTaken i word valid cut).reg (Reg.LN_LE_DROP i) = s.reg (Reg.LN_LE_DROP i) :=
    s.reg_rawTaken word valid cut hi (o := 0x105C) rfl (by decide) (by simp) (by simp [wordCounter])
  rw [← State.engOf_congr heng i] at hfull
  rw [← hreg] at hdrop ⊢
  rw [State.rawArrived, if_pos harr, State.queueWord_of_full _ _ _ _ hfull]
  refine ⟨?_, ?_, State.flag_linkRaise_same _ hi rfl rfl rfl, State.sticky_linkRaise ..⟩
  · rw [State.linkRaise_eng, State.countReg_eng, heng]
  · rw [State.reg_linkRaise _ hi (o := 0x105C) rfl (by decide) (by simp), State.reg_countReg_same hdrop]

/-- A valid word changes the count, the engine's queue and the acquisition engine's input. -/
theorem State.rawArrived_frame (h : s.flag (Fld.LN_LE_CFG_TO_ARR i) = false ∨ (s.engOf i).waiting.length < 32) :
    OnlyLink [wholeReg (Reg.LN_LE_WORDS i)] s (s.rawArrived i word true cut) := by
  have htaken : OnlyLink [wholeReg (Reg.LN_LE_WORDS i)] s (s.rawTaken i word true cut) :=
    (OnlyLink.refl _ s).takeItem _ rfl List.mem_cons_self
  by_cases harr : s.flag (Fld.LN_LE_CFG_TO_ARR i) = true
  · rw [State.rawArrived_of_room word true cut hi harr (h.resolve_left (by rw [harr]; decide))]
    exact htaken.setEng i _
  · rw [State.rawArrived, if_neg harr]
    exact htaken

/-- An invalid word is counted and reported. -/
theorem State.rawArrived_reports (hinv : s.reg (Reg.LN_LE_INV i) ≠ 0xFFFFFFFF) :
    (s.rawArrived i word false cut).reg (Reg.LN_LE_INV i) = s.reg (Reg.LN_LE_INV i) + 1 ∧
    (s.rawArrived i word false cut).sticky (linkEvent i) = true ∧
    if cut = true ∧ s.fld (Fld.LN_LE_CFG_MODE i) = 3 then (s.rawArrived i word false cut).flag (Fld.LN_LE_STAT_MISALIGN i) = true
    else (s.rawArrived i word false cut).flag (Fld.LN_LE_STAT_UNC i) = true := by
  have hn := linkEvent_lt i
  have hflag {f : Field} (hf : f.addr = Reg.LN_LE_STAT i) (hapart : (Fld.LN_LE_STAT_OVF i).apart f) :
      (s.rawArrived i word false cut).flag f = (s.judgeWord i false cut).flag f := by
    have htaken : (s.rawTaken i word false cut).flag f = (s.judgeWord i false cut).flag f :=
      State.flag_of_reg (hf ▸ s.reg_rawTaken_LN_LE_STAT word false cut)
    unfold State.rawArrived
    split
    · exact (State.flag_queueWord _ word false none i hi hf hapart).trans htaken
    · exact htaken
  obtain ⟨hsticky, hreport⟩ := s.judgeWord_reports cut hi
  refine ⟨(s.reg_rawArrived word false cut hi (o := 0x1054) rfl (by decide) (by simp) (by simp)).trans
    (s.reg_rawTaken_INV word cut hi hinv), ?_, ?_⟩
  · have htaken : (s.rawTaken i word false cut).sticky (linkEvent i) = true := by
      refine (State.sticky_congr _ ?_).trans hsticky
      rw [State.rawTaken, State.reg_takeItem, State.reg_countWord]
      simp only [wordCounter, Reg.LN_LE_WORDS, Reg.LN_LE_INV, Reg.EVT_STICKY]
      omega
    unfold State.rawArrived
    split
    · exact State.sticky_queueWord_keep word false none i hn htaken
    · exact htaken
  · rw [hflag rfl (by simp [Field.apart]), hflag rfl (by simp [Field.apart])]
    exact hreport

end

theorem wordAvailable_completes {s : State} {lane : Fin 103} (word : Word64) (valid cut : Bool) (hup : s.linkUp lane = true)
    (hmode : s.fld (Fld.LN_LE_CFG_MODE lane) = 3 ∨ s.fld (Fld.LN_LE_CFG_MODE lane) = 4)
    (hwords : s.reg (Reg.LN_LE_WORDS lane) ≠ 0xFFFFFFFF) : Completes (.wordAvailable lane word valid cut) s fun t =>
      t.reg (Reg.LN_LE_WORDS lane) = s.reg (Reg.LN_LE_WORDS lane) + 1 ∧
      (s.flag (Fld.LN_LE_CFG_TO_ACQ lane) = true → ∃ full, t.acq.inbox = s.acq.inbox ++
        [{ lane := lane, value := word, valid := valid, full := full, readout := none }]) ∧
      (s.flag (Fld.LN_LE_CFG_TO_ACQ lane) = false → t.acq = s.acq) ∧
      (s.flag (Fld.LN_LE_CFG_TO_ARR lane) = true → (s.engOf lane).waiting.length < 32 → (t.engOf lane).waiting =
        (s.engOf lane).waiting ++ [{ value := word, valid := valid, tag := none, wait := s.fld (Fld.LN_LE_DELAY_DELAY lane) }]) ∧
      (s.flag (Fld.LN_LE_CFG_TO_ARR lane) = true → 32 ≤ (s.engOf lane).waiting.length → s.reg (Reg.LN_LE_DROP lane) ≠ 0xFFFFFFFF →
        t.eng = s.eng ∧ t.reg (Reg.LN_LE_DROP lane) = s.reg (Reg.LN_LE_DROP lane) + 1 ∧
        t.flag (Fld.LN_LE_STAT_OVF lane) = true ∧ t.sticky (linkEvent lane) = true) ∧
      (valid = true → s.flag (Fld.LN_LE_CFG_TO_ARR lane) = false ∨ (s.engOf lane).waiting.length < 32 →
        Only [wholeReg (Reg.LN_LE_WORDS lane)] { s with eng := t.eng, acq := t.acq } t) ∧
      (valid = false → s.reg (Reg.LN_LE_INV lane) ≠ 0xFFFFFFFF →
        t.reg (Reg.LN_LE_INV lane) = s.reg (Reg.LN_LE_INV lane) + 1 ∧ t.sticky (linkEvent lane) = true ∧
        (if cut = true ∧ s.fld (Fld.LN_LE_CFG_MODE lane) = 3 then t.flag (Fld.LN_LE_STAT_MISALIGN lane) = true
         else t.flag (Fld.LN_LE_STAT_UNC lane) = true)) := by
  have hacq := s.rawArrived_acq (i := lane) word valid cut
  refine ⟨_, exec_wordAvailable word valid cut hup hmode, ?_, fun h => ?_, fun h => hacq.trans (s.rawTaken_acq_off word valid cut h),
    fun harr hroom => ?_, State.rawArrived_of_full word valid cut lane.isLt, ?_, ?_⟩
  · rw [s.reg_rawArrived word valid cut lane.isLt (o := 0x1050) rfl (by decide) (by simp) (by simp),
      s.reg_rawTaken_WORDS word valid cut lane.isLt hwords]
  · rw [hacq]
    exact s.rawTaken_inbox word valid cut h
  · rw [State.rawArrived_of_room word valid cut lane.isLt harr hroom, State.engOf_setEng_same]
  · rintro rfl h
    exact State.rawArrived_frame word cut lane.isLt h
  · rintro rfl h
    exact State.rawArrived_reports word cut lane.isLt h

/-! ## The release of a word (R248 to R250) -/

theorem State.release_of_valid (s : State) (i : Nat) (w : Word64) (tag : Option (BitVec 8)) : s.release i w true tag =
    s.setEng i { s.engOf i with outWord := w, outValid := true, outTag := tag, released := true } := rfl

section
variable (s : State) (i : Nat) (w : Word64) (valid : Bool) (tag : Option (BitVec 8))

theorem State.release_eng : (s.release i w valid tag).eng =
    (s.setEng i { s.engOf i with outWord := w, outValid := valid, outTag := tag, released := true }).eng := by
  unfold State.release State.when
  split <;> rfl

end

section
variable {s : State} {lane : Fin 103} (hrun : s.seqState = 2) (hfirst : (s.engOf lane).released = false)
  (harr : s.flag (Fld.LN_LE_CFG_TO_ARR (s.baseOf lane)) = true) (hgood : s.engineBad lane = false)
include hrun hfirst harr hgood

/-- The first release of a step. -/
theorem exec_wordRelease : exec (.wordRelease lane) s = .next (s.releaseLane lane) ∧
    ¬ ((s.engOf lane).released || !s.flag (Fld.LN_LE_CFG_TO_ARR (s.baseOf lane)) || s.engineBad lane) = true := by
  refine ⟨congrArg Host.Outcome.next (if_pos hrun), ?_⟩
  rw [hfirst, harr, hgood]
  exact Bool.false_ne_true

theorem wordRelease_arrival_completes {w : LinkWord} {rest : List LinkWord} (hplan : s.byPlan (s.baseOf lane) = false)
    (hwaiting : (s.engOf lane).waiting = w :: rest) (hdue : w.wait = 0) : Completes (.wordRelease lane) s fun t =>
      t.engOf lane = { s.engOf lane with waiting := rest, outWord := w.value, outValid := w.valid, outTag := w.tag, released := true } ∧
      (∀ k, k ≠ lane.val → t.engOf k = s.engOf k) ∧ (w.valid = true → t = { s with eng := t.eng }) := by
  let popped := s.setEng lane { s.engOf lane with waiting := rest }
  have heng := popped.release_eng lane w.value w.valid w.tag
  refine ⟨popped.release lane w.value w.valid w.tag, ?_, ?_, fun k hk => ?_, fun hvalid => ?_⟩
  · obtain ⟨hexec, hopen⟩ := exec_wordRelease hrun hfirst harr hgood
    rw [hexec, State.releaseLane, if_neg hopen, hplan, if_neg Bool.false_ne_true, hwaiting]
    exact congrArg Host.Outcome.next (if_pos hdue)
  · rw [State.engOf_congr heng, State.engOf_setEng_same, State.engOf_setEng_same]
  · rw [State.engOf_congr heng, State.engOf_setEng_other _ _ _ hk, State.engOf_setEng_other _ _ _ hk]
  · rw [hvalid, State.release_of_valid]
    rfl

theorem wordRelease_plan_completes {x row : Nat} {w : PlanWord} (hplan : s.byPlan (s.baseOf lane) = true)
    (hdue : s.planDue (s.baseOf lane) = some (x, row))
    (hfound : (s.engOf (s.baseOf lane)).plan.find? (fun w => w.turn == x && w.index == row * s.groupSize (s.baseOf lane) +
      (lane.val - s.baseOf lane)) = some w) (hintact : w.intact = true) : Completes (.wordRelease lane) s fun t =>
      (t.engOf lane).outWord = w.value ∧ (t.engOf lane).outValid = true ∧ (t.engOf lane).outTag = some (BitVec.ofNat 8 x) ∧
      t = { s with eng := t.eng } := by
  let k := row * s.groupSize (s.baseOf lane) + (lane.val - s.baseOf lane)
  let e := s.engOf (s.baseOf lane)
  let taken := s.setEng (s.baseOf lane) { e with plan := e.plan.filter (fun w => !(w.turn == x && w.index == k)) }
  have hrelease : s.releasePlanned (s.baseOf lane) lane x k = taken.release lane w.value true (some (BitVec.ofNat 8 x)) := by
    rw [State.releasePlanned, hfound]
    dsimp only
    rw [hintact]
    rfl
  have hout := taken.engOf_setEng_same lane { taken.engOf lane with
    outWord := w.value, outValid := true, outTag := some (BitVec.ofNat 8 x), released := true }
  refine ⟨taken.release lane w.value true (some (BitVec.ofNat 8 x)), ?_, congrArg LinkEng.outWord hout, congrArg LinkEng.outValid hout,
    congrArg LinkEng.outTag hout, rfl⟩
  obtain ⟨hexec, hopen⟩ := exec_wordRelease hrun hfirst harr hgood
  rw [hexec, State.releaseLane, if_neg hopen, if_pos hplan, hdue]
  exact congrArg Host.Outcome.next hrelease

end

/-! ## Words taken for transmission (R259) -/

/-- The row of the plan that a step of the turn belongs to. -/
def State.planRow (s : State) (b : Nat) : Nat := ((List.range s.seq.step).filter (fun q => s.planBit b q)).length

/-- The word of lane `i` that group `b` takes in this step. -/
def State.txWordOf (s : State) (b row i : Nat) : TxWord :=
  { turn := s.seq.turn, index := row * s.groupSize b + (i - b), value := (s.engOf i).txIn }

/-- The word of one lane put behind those taken, or dropped as the 65th. -/
def State.takeTxWord (b row : Nat) (s : State) (i : Nat) : State :=
  if 64 ≤ (s.engOf b).txWords.length then (s.countReg (Reg.LN_LE_DROP b)).linkRaise (Fld.LN_LE_STAT_OVF b) b
  else s.setEng b { s.engOf b with txWords := (s.engOf b).txWords ++ [s.txWordOf b row i] }

theorem State.txTake_eq (s : State) (b : Nat) : s.txTake b = (s.members b).foldl (State.takeTxWord b (s.planRow b)) s := rfl

/-- Where there is room, the words of all lanes are taken in order, and nothing else changes. -/
theorem State.foldl_takeTxWord {s : State} {b row : Nat} {l : List Nat} (h : (s.engOf b).txWords.length + l.length ≤ 64) :
    ((l.foldl (State.takeTxWord b row) s).engOf b).txWords = (s.engOf b).txWords ++ l.map (s.txWordOf b row) ∧
    l.foldl (State.takeTxWord b row) s = { s with eng := (l.foldl (State.takeTxWord b row) s).eng } := by
  induction l generalizing s with
  | nil => exact ⟨(List.append_nil _).symm, rfl⟩
  | cons i r ih =>
    rw [List.length_cons] at h
    let next := s.setEng b { s.engOf b with txWords := (s.engOf b).txWords ++ [s.txWordOf b row i] }
    have hnext : State.takeTxWord b row s i = next := if_neg (by omega)
    have hwords : (next.engOf b).txWords = (s.engOf b).txWords ++ [s.txWordOf b row i] := by rw [State.engOf_setEng_same]
    have htxIn : next.txWordOf b row = s.txWordOf b row := by
      funext k
      have hk : (next.engOf k).txIn = (s.engOf k).txIn := by
        by_cases hkb : k = b
        · rw [hkb, State.engOf_setEng_same]
        · rw [State.engOf_setEng_other _ _ _ hkb]
      rw [State.txWordOf, hk]
      rfl
    obtain ⟨hrest, hframe⟩ := ih (s := next) (by rw [hwords, List.length_append, List.length_singleton]; omega)
    rw [List.foldl_cons, hnext]
    refine ⟨?_, hframe⟩
    rw [hrest, hwords, htxIn, List.map_cons, List.append_assoc, List.singleton_append]

section
variable {s : State} {lane : Fin 103} (hrun : s.seqState = 2) (hfirst : (s.engOf (s.baseOf lane)).took = false)
  (hsrc : s.fld (Fld.LN_LE_CFG_TX_SRC (s.baseOf lane)) = 1) (hgood : s.engineBad (s.baseOf lane) = false)
include hrun hfirst hsrc hgood

theorem exec_txWordTake : exec (.txWordTake lane) s = .next
    (if s.quire (s.baseOf lane) then
      if decide (s.seq.step < s.turnLen) && s.planBit (s.baseOf lane) s.seq.step then
        (s.txTake (s.baseOf lane)).setEng (s.baseOf lane) { (s.txTake (s.baseOf lane)).engOf (s.baseOf lane) with took := true }
      else s
    else if (s.engOf (s.baseOf lane)).txNew then
      (s.setEng (s.baseOf lane) { s.engOf (s.baseOf lane) with took := true, txNew := false }).emit
        (.rawWord (s.baseOf lane) (s.engOf (s.baseOf lane)).txIn)
    else s) := by
  refine congrArg Host.Outcome.next (if_neg ?_)
  rw [hfirst, hsrc, hgood, hrun]
  exact Bool.false_ne_true

theorem txWordTake_raw_completes (hraw : s.quire (s.baseOf lane) = false) (hnew : (s.engOf (s.baseOf lane)).txNew = true) :
    Completes (.txWordTake lane) s fun t =>
      t.engOf (s.baseOf lane) = { s.engOf (s.baseOf lane) with took := true, txNew := false } ∧
      t = { s with eng := t.eng, out := s.out ++ [.rawWord (s.baseOf lane) (s.engOf (s.baseOf lane)).txIn] } := by
  refine ⟨(s.setEng (s.baseOf lane) { s.engOf (s.baseOf lane) with took := true, txNew := false }).emit
    (.rawWord (s.baseOf lane) (s.engOf (s.baseOf lane)).txIn), ?_, s.engOf_setEng_same (s.baseOf lane) _, rfl⟩
  rw [exec_txWordTake hrun hfirst hsrc hgood, hraw, if_neg Bool.false_ne_true, if_pos hnew]

theorem txWordTake_plan_completes (hquire : s.quire (s.baseOf lane) = true) (hstep : s.seq.step < s.turnLen)
    (hbit : s.planBit (s.baseOf lane) s.seq.step = true)
    (hroom : (s.engOf (s.baseOf lane)).txWords.length + s.groupSize (s.baseOf lane) ≤ 64) : Completes (.txWordTake lane) s fun t =>
      (t.engOf (s.baseOf lane)).took = true ∧ t = { s with eng := t.eng } ∧
      (t.engOf (s.baseOf lane)).txWords = (s.engOf (s.baseOf lane)).txWords ++
        (s.members (s.baseOf lane)).map (s.txWordOf (s.baseOf lane) (s.planRow (s.baseOf lane))) := by
  have hlength : (s.members (s.baseOf lane)).length = s.groupSize (s.baseOf lane) := by
    rw [State.members, List.length_map, List.length_range]
  obtain ⟨hwords, hframe⟩ := State.foldl_takeTxWord (row := s.planRow (s.baseOf lane)) (hlength ▸ hroom)
  rw [← State.txTake_eq] at hwords hframe
  have hengine := (s.txTake (s.baseOf lane)).engOf_setEng_same (s.baseOf lane)
    { (s.txTake (s.baseOf lane)).engOf (s.baseOf lane) with took := true }
  refine ⟨_, (exec_txWordTake hrun hfirst hsrc hgood).trans ?_, congrArg LinkEng.took hengine, ?_,
    (congrArg LinkEng.txWords hengine).trans hwords⟩
  · rw [if_pos hquire, if_pos (by rw [decide_eq_true hstep, hbit, Bool.and_self])]
  · rw [hframe]
    rfl

end

/-! ## The end of the measurement (R261) -/

/-- The latency that a measurement gives. -/
def State.measured (s : State) (b : Nat) : State :=
  ((s.setFld (Fld.LN_LE_XLAT_XLAT b) (s.engOf b).maxLat).setFlag (Fld.LN_LE_XLAT_VALID b) true).setFlag (Fld.LN_LE_STAT_ALIGNED b) true

section
variable (s : State) (b : Nat)

theorem State.measured_spec : (s.measured b).fld (Fld.LN_LE_XLAT_XLAT b) = (s.engOf b).maxLat % 2 ^ (Fld.LN_LE_XLAT_XLAT b).width ∧
    (s.measured b).flag (Fld.LN_LE_XLAT_VALID b) = true ∧ (s.measured b).flag (Fld.LN_LE_STAT_ALIGNED b) = true := by
  rw [State.measured]
  refine ⟨?_, ?_, State.flag_setFlag_same _ _ _ rfl rfl⟩
  · rw [State.fld_setFlag_apart _ _ _ _ rfl (by simp [Field.apart]), State.fld_setFlag_apart _ _ _ _ rfl (by simp [Field.apart]),
      State.fld_setFld_same _ _ _ rfl]
  · rw [State.flag_setFlag_apart _ _ _ _ rfl (by simp [Field.apart]), State.flag_setFlag_same _ _ _ rfl rfl]

theorem State.fld_measured_DELAY : (s.measured b).fld (Fld.LN_LE_DELAY_DELAY b) = s.fld (Fld.LN_LE_DELAY_DELAY b) := by
  rw [State.measured, State.fld_setFlag_apart _ _ _ _ rfl (by simp [Field.apart]),
    State.fld_setFlag_apart _ _ _ _ rfl (by simp [Field.apart]), State.fld_setFld_apart _ _ _ _ rfl (by simp [Field.apart])]

theorem State.measured_frame : Only [Fld.LN_LE_XLAT_XLAT b, Fld.LN_LE_XLAT_VALID b, Fld.LN_LE_STAT_ALIGNED b] s (s.measured b) :=
  (((Only.refl _ s).setFld _ _ rfl (by simp)).setFlag _ true rfl (by simp)).setFlag _ true rfl (by simp)

end

theorem alignmentWindowEnd_completes {s : State} {lane : Fin 103} (hplan : s.byPlan (s.baseOf lane) = true)
    (hup : s.linkUp (s.baseOf lane) = true) (hopen : s.flag (Fld.LN_LE_STAT_ALIGNED (s.baseOf lane)) = false)
    (hend : (s.engOf (s.baseOf lane)).alignFrom + 2 ^ s.fld (Fld.QL_CFG_ALIGN_EXP (s.baseOf lane)) ≤ s.seq.turn) :
    Completes (.alignmentWindowEnd lane) s fun t =>
      t.fld (Fld.LN_LE_XLAT_XLAT (s.baseOf lane)) =
        (s.engOf (s.baseOf lane)).maxLat % 2 ^ (Fld.LN_LE_XLAT_XLAT (s.baseOf lane)).width ∧
      t.flag (Fld.LN_LE_XLAT_VALID (s.baseOf lane)) = true ∧ t.flag (Fld.LN_LE_STAT_ALIGNED (s.baseOf lane)) = true ∧
      (if s.fld (Fld.LN_LE_DELAY_DELAY (s.baseOf lane)) < (s.engOf (s.baseOf lane)).maxLat then
        t.flag (Fld.LN_LE_STAT_LATE (s.baseOf lane)) = true ∧ t.sticky (linkEvent (s.baseOf lane)) = true
       else Only [Fld.LN_LE_XLAT_XLAT (s.baseOf lane), Fld.LN_LE_XLAT_VALID (s.baseOf lane),
         Fld.LN_LE_STAT_ALIGNED (s.baseOf lane)] s t) := by
  have hb := s.baseOf_lt lane
  have hrun : exec (.alignmentWindowEnd lane) s = .next
      (if s.fld (Fld.LN_LE_DELAY_DELAY (s.baseOf lane)) < (s.engOf (s.baseOf lane)).maxLat then
        (s.measured (s.baseOf lane)).linkRaise (Fld.LN_LE_STAT_LATE (s.baseOf lane)) (s.baseOf lane)
       else s.measured (s.baseOf lane)) := by
    rw [← s.fld_measured_DELAY]
    refine congrArg Host.Outcome.next (if_pos ?_)
    rw [hplan, hup, hopen, decide_eq_true hend]
    rfl
  obtain ⟨hxlat, hvalid, haligned⟩ := s.measured_spec (s.baseOf lane)
  refine ⟨_, hrun, ?_⟩
  split
  · have hsafe : eventSafe (Fld.LN_LE_XLAT_XLAT (s.baseOf lane)) = true ∧ eventSafe (Fld.LN_LE_XLAT_VALID (s.baseOf lane)) = true :=
      ⟨eventSafe_of_lane hb (o := 0x100C) (by decide) rfl, eventSafe_of_lane hb (o := 0x100C) (by decide) rfl⟩
    exact ⟨(State.fld_raiseBit_apart _ _ _ (linkEvent_lt _) hsafe.1 rfl (by simp [Field.apart])).trans hxlat,
      (State.flag_raiseBit_apart _ _ _ (linkEvent_lt _) hsafe.2 rfl (by simp [Field.apart])).trans hvalid,
      (State.flag_linkRaise_other _ hb rfl rfl (by simp [Field.apart])).trans haligned,
      State.flag_linkRaise_same _ hb rfl rfl rfl, State.sticky_linkRaise ..⟩
  · exact ⟨hxlat, hvalid, haligned, s.measured_frame _⟩

/-- Settles O21, clause by clause: the state of a link, then its words.  What a fall of UP discards, the tag of a word released by the
plan, and where words are counted are the model's choices (log 37, 39 and 40). -/
theorem linkWords : Obligations.LinkWords :=
  ⟨fun _ _ value _ _ => ⟨fun hdata hawake hfree => lnLeCfgWrite_completes value hawake hdata hfree,
      fun hlow hhigh hawake => lnLeCfgWrite_mirror_completes value hawake hlow hhigh, blockLock_completes,
      fun hready hgood hmode hdown => ⟨linkUp_completes hready hgood hmode hdown, linkUp_deskew_completes hready hgood hmode hdown⟩,
      linkDown_completes⟩,
    fun _ word valid cut _ => ⟨wordAvailable_completes word valid cut,
      fun hrun hfirst harr hgood => ⟨fun _ _ => wordRelease_arrival_completes hrun hfirst harr hgood,
        fun _ _ _ => wordRelease_plan_completes hrun hfirst harr hgood⟩,
      fun hrun hfirst hsrc hgood => ⟨txWordTake_raw_completes hrun hfirst hsrc hgood, txWordTake_plan_completes hrun hfirst hsrc hgood⟩,
      alignmentWindowEnd_completes⟩⟩

end Sys2Proof.Machine

/-! PROOFS.  The Ethernet subset (R272, R274, R275). -/

namespace Sys2Proof.Machine

/-! ## Refusals (R272, R275) -/

/-- What a refused transmission leaves: its code, TX_REFUSED, and the engine's event. -/
def State.txRefused (s : State) (i : Nat) (code : Status) (t : State) : Prop :=
  t.done.status = code ∧ t.fld (Fld.LN_LE_STAT_TX_CODE i) = code.toNat ∧ t.flag (Fld.LN_LE_STAT_TX_REFUSED i) = true ∧
  t.sticky (linkEvent i) = true ∧ OnlyEv [Fld.LN_LE_STAT_TX_CODE i, Fld.LN_LE_STAT_TX_REFUSED i] s t

section
variable (s : State) {i : Nat} (hi : i < 103) (code : Status)
include hi

theorem State.txRefuse_spec : s.txRefused i code (s.txRefuse i code) := by
  refine ⟨rfl, ?_, State.flag_linkRaise_same _ hi rfl rfl rfl, State.sticky_linkRaise .., ?_⟩
  · refine (State.fld_linkRaise_other _ hi rfl rfl (by simp [Field.apart])).trans ?_
    rw [State.fld_setFld_same _ _ _ rfl]
    exact Nat.mod_eq_of_lt code.isLt
  · exact (((OnlyEv.refl _ s).setFld _ _ rfl (by simp)).linkRaise _ _ rfl (by simp)).reply code

theorem State.txRefuse_emit_spec (o : Output) :
    s.txRefused i code ((s.txRefuse i code).emit o) ∧ ((s.txRefuse i code).emit o).out.getLast? = some o := by
  obtain ⟨hdone, hcode, hrefused, hsticky, hframe⟩ := s.txRefuse_spec hi code
  exact ⟨⟨hdone, hcode, hrefused, hsticky, hframe.emit o⟩, List.getLast?_concat ..⟩

end

/-- The engine of lane `i` runs Ethernet and its link is up. -/
def State.ethUp (s : State) (i : Nat) : Prop := s.ethernet i = true ∧ s.linkUp i = true

theorem State.ethUp_iff (s : State) (i : Nat) : s.ethUp i ↔ ¬ (!(s.ethernet i && s.linkUp i)) = true := by
  rw [State.ethUp, ← Bool.and_eq_true, Bool.not_eq_true', Bool.not_eq_false]

theorem State.not_ethUp_iff (s : State) (i : Nat) : ¬ s.ethUp i ↔ (!(s.ethernet i && s.linkUp i)) = true := by
  rw [s.ethUp_iff, not_not]

/-! ## Datagrams sent (R272) -/

/-- A datagram by an entry in use is sent unless it is longer than the MTU in force. -/
theorem State.sendDatagram_of_used {s : State} {lane : Fin 103} {dest : Fin 8} {payload : List Byte} (hup : s.ethUp lane)
    (hused : ((s.ethDst lane dest).getD 6 0).getLsbD 0 = true) : s.sendDatagram lane dest payload =
    if s.mtu lane < (if ((s.ethDst lane dest).getD 6 0).getLsbD 1 then 48 else 28) + payload.length then
      s.txRefuse lane Code.lnMtu
    else ((s.emit (.ethFrame lane (s.datagram lane (s.ethDst lane dest) payload))).setEng lane
      { s.engOf lane with ipId := ((s.engOf lane).ipId + 1) % 65536 }).reply Code.ok := by
  have hon : ¬ (!bitOf ((s.ethDst lane dest).getD 6 0).toNat 0) = true := by
    rw [bitOf, BitVec.testBit_toNat, hused]
    exact Bool.false_ne_true
  exact (if_neg ((s.ethUp_iff lane).1 hup)).trans (if_neg hon)

section
variable {s : State} {lane : Fin 103} {dest : Fin 8} {payload : List Byte} (hsrc : s.fld (Fld.LN_LE_CFG_TX_SRC lane) = 2)
  (hmin : 8 ≤ payload.length) (hmax : payload.length ≤ 8192)
include hsrc hmin hmax

theorem exec_udpDatagram : exec (.udpDatagram lane dest payload) s = .next (s.sendDatagram lane dest payload) :=
  congrArg Host.Outcome.next (if_pos ⟨hsrc, hmin, hmax⟩)

theorem udpDatagram_down_completes (hdown : ¬ s.ethUp lane) :
    Completes (.udpDatagram lane dest payload) s (s.txRefused lane Code.lnDown) :=
  ⟨_, (exec_udpDatagram hsrc hmin hmax).trans (congrArg Host.Outcome.next (if_pos ((s.not_ethUp_iff lane).1 hdown))),
    s.txRefuse_spec lane.isLt _⟩

section
variable (hup : s.ethUp lane)
include hup

theorem udpDatagram_unused_completes (hunused : ((s.ethDst lane dest).getD 6 0).getLsbD 0 = false) :
    Completes (.udpDatagram lane dest payload) s (s.txRefused lane Code.lnMode) := by
  have hoff : (!bitOf ((s.ethDst lane dest).getD 6 0).toNat 0) = true := by
    rw [bitOf, BitVec.testBit_toNat, hunused]
    rfl
  refine ⟨_, (exec_udpDatagram hsrc hmin hmax).trans (congrArg Host.Outcome.next ?_), s.txRefuse_spec lane.isLt Code.lnMode⟩
  exact (if_neg ((s.ethUp_iff lane).1 hup)).trans (if_pos hoff)

variable (hused : ((s.ethDst lane dest).getD 6 0).getLsbD 0 = true)
include hused

theorem udpDatagram_mtu_completes
    (hlong : s.mtu lane < (if ((s.ethDst lane dest).getD 6 0).getLsbD 1 then 48 else 28) + payload.length) :
    Completes (.udpDatagram lane dest payload) s (s.txRefused lane Code.lnMtu) := by
  refine ⟨_, ?_, s.txRefuse_spec lane.isLt Code.lnMtu⟩
  rw [exec_udpDatagram hsrc hmin hmax, State.sendDatagram_of_used hup hused, if_pos hlong]

theorem udpDatagram_completes
    (hfits : (if ((s.ethDst lane dest).getD 6 0).getLsbD 1 then 48 else 28) + payload.length ≤ s.mtu lane) :
    Completes (.udpDatagram lane dest payload) s fun t =>
      t.out = s.out ++ [.ethFrame lane (s.datagram lane (s.ethDst lane dest) payload)] ∧ t.done.status = Code.ok ∧
      t.engOf lane = { s.engOf lane with ipId := ((s.engOf lane).ipId + 1) % 65536 } ∧ Only [] { s with eng := t.eng } t := by
  let sent := s.emit (.ethFrame lane (s.datagram lane (s.ethDst lane dest) payload))
  let next := sent.setEng lane { s.engOf lane with ipId := ((s.engOf lane).ipId + 1) % 65536 }
  refine ⟨next.reply Code.ok, ?_, rfl, rfl, sent.engOf_setEng_same lane _, ?_⟩
  · rw [exec_udpDatagram hsrc hmin hmax, State.sendDatagram_of_used hup hused, if_neg (Nat.not_lt.2 hfits)]
  · exact ((((OnlyLink.refl [] s).emit _).setEng lane _).reply Code.ok).eng rfl

end

end

/-! ## Frames received (R274) -/

/-- The first word of a message to a core: the length, the port, and the time of arrival. -/
def State.ethHead (s : State) (i : Nat) (f : List Byte) (count : Word64) (frac : Byte) : List Byte :=
  padTo 32 (bytesOfNat 2 f.length ++ [BitVec.ofNat 8 (i % 4 + (if ptpEvent f then 4 else 0)), 0, 0, 0, 0, 0] ++
    s.tsBytes i false count frac)

theorem ethHead_length (s : State) (i : Nat) (f : List Byte) (count : Word64) (frac : Byte) :
    (s.ethHead i f count frac).length = 32 ∧
    (s.ethHead i f count frac).take 3 = bytesOfNat 2 f.length ++ [BitVec.ofNat 8 (i % 4 + (if ptpEvent f then 4 else 0))] := by
  constructor
  · simp [State.ethHead, padTo, bytesOfNat, State.tsBytes]
  · rfl

/-- The words of a UDP stream, as the engine takes them. -/
def udpItems (i : Nat) (p : List Byte) : List LinkItem := (wordsOfBytes p).map fun w => (i, w, true, none)

theorem length_udpItems (i : Nat) (p : List Byte) : (udpItems i p).length = (p.length + 7) / 8 := by
  rw [udpItems, List.length_map, wordsOfBytes, List.length_map, List.length_range]

section
variable {s : State} {lane : Fin 103} {bytes : List Byte} {fcsOk : Bool} {count : Word64} {frac : Byte} (hup : s.ethUp lane)
include hup

/-- A frame too short or too long. -/
theorem exec_ethernetFrameReceive_of_length (h : bytes.length < 60 ∨ 9212 < bytes.length) :
    exec (.ethernetFrameReceive lane bytes fcsOk count frac) s = .next (s.countReg (Reg.LN_LE_DROP lane)) :=
  congrArg Host.Outcome.next ((if_neg ((s.ethUp_iff lane).1 hup)).trans (if_pos h))

/-- A frame without a UDP datagram is for firmware, or dropped. -/
theorem exec_ethernetFrameReceive_of_no_udp (hmin : 60 ≤ bytes.length) (hmax : bytes.length ≤ 9212) (hudp : udpOf bytes = none) :
    exec (.ethernetFrameReceive lane bytes fcsOk count frac) s = .next
      (if !fcsOk || be16At bytes (etherAt bytes) == 0x8808 || !s.forThis lane bytes || decide (448 < bytes.length) then
        s.countReg (Reg.LN_LE_DROP lane)
      else s.emit (.coreMsg (s.fld (Fld.ETH_CFG_RX_CORE lane))
        (s.ethHead lane bytes count frac ++ padTo (32 * ((bytes.length + 31) / 32)) bytes))) := by
  have hlength : ¬ (bytes.length < 60 ∨ 9212 < bytes.length) := by omega
  refine congrArg Host.Outcome.next ?_
  rw [State.ethReceive, if_neg ((s.ethUp_iff lane).1 hup), if_neg hlength, hudp]
  rfl

theorem ethernetFrameReceive_dropped_completes (hdrop : s.reg (Reg.LN_LE_DROP lane) ≠ 0xFFFFFFFF)
    (h : bytes.length < 60 ∨ 9212 < bytes.length ∨ (udpOf bytes = none ∧ fcsOk = false) ∨
      (udpOf bytes = none ∧ 448 < bytes.length)) :
    Completes (.ethernetFrameReceive lane bytes fcsOk count frac) s fun t =>
      t.reg (Reg.LN_LE_DROP lane) = s.reg (Reg.LN_LE_DROP lane) + 1 ∧ Only [wholeReg (Reg.LN_LE_DROP lane)] s t := by
  refine ⟨s.countReg (Reg.LN_LE_DROP lane), ?_, State.reg_countReg_same hdrop, (Only.refl _ s).countReg _ List.mem_cons_self⟩
  by_cases hlength : bytes.length < 60 ∨ 9212 < bytes.length
  · exact exec_ethernetFrameReceive_of_length hup hlength
  · obtain ⟨hmin, hmax⟩ := not_or.1 hlength
    obtain ⟨hudp, hbad⟩ : udpOf bytes = none ∧ (fcsOk = false ∨ 448 < bytes.length) := by tauto
    rw [exec_ethernetFrameReceive_of_no_udp hup (Nat.not_lt.1 hmin) (Nat.not_lt.1 hmax) hudp, if_pos]
    simp only [Bool.or_eq_true, Bool.not_eq_true', decide_eq_true_eq]
    exact hbad.imp (fun hfcs => Or.inl (Or.inl hfcs)) id

theorem ethernetFrameReceive_firmware_completes (hmin : 60 ≤ bytes.length) (hmax : bytes.length ≤ 448) (hudp : udpOf bytes = none)
    (hfcs : fcsOk = true) (htype : be16At bytes (etherAt bytes) ≠ 0x8808) (hmac : bytes.take 6 = s.ethMac lane) :
    Completes (.ethernetFrameReceive lane bytes fcsOk count frac) s fun t =>
      ∃ head : List Byte, head.length = 32 ∧
        head.take 3 = bytesOfNat 2 bytes.length ++ [BitVec.ofNat 8 (lane.val % 4 + (if ptpEvent bytes then 4 else 0))] ∧
        t = { s with out := s.out ++ [.coreMsg (s.fld (Fld.ETH_CFG_RX_CORE lane))
          (head ++ padTo (32 * ((bytes.length + 31) / 32)) bytes)] } := by
  obtain ⟨hlength, htake⟩ := ethHead_length s lane bytes count frac
  have hthis : s.forThis lane bytes = true := by
    rw [State.forThis, hmac, BEq.rfl, Bool.true_or, Bool.true_or]
  refine ⟨_, (exec_ethernetFrameReceive_of_no_udp hup hmin (by omega) hudp).trans (congrArg Host.Outcome.next (if_neg ?_)),
    s.ethHead lane bytes count frac, hlength, htake, rfl⟩
  rw [hfcs, hthis, beq_false_of_ne htype, decide_eq_false (Nat.not_lt.2 hmax)]
  exact Bool.false_ne_true

/-- A UDP stream that the entry names becomes words. -/
theorem exec_ethernetFrameReceive_udp {dst p : List Byte} {port : Nat} (hmin : 60 ≤ bytes.length) (hmax : bytes.length ≤ 9212)
    (hudp : udpOf bytes = some (dst, port, p)) (hon : s.fld (Fld.ETH_CFG_RX_PORT lane) ≠ 0)
    (hport : port = s.fld (Fld.ETH_CFG_RX_PORT lane)) (hdst : dst = s.ethIp4 lane ∨ dst = s.ethIp6 lane)
    (harr : s.flag (Fld.LN_LE_CFG_TO_ARR lane) = false) :
    exec (.ethernetFrameReceive lane bytes true count frac) s = .next
      (s.takeItems lane (s.flag (Fld.LN_LE_CFG_TO_ACQ lane)) (udpItems lane p)) := by
  have hlength : ¬ (bytes.length < 60 ∨ 9212 < bytes.length) := by omega
  refine congrArg Host.Outcome.next ?_
  rw [State.ethReceive, if_neg ((s.ethUp_iff lane).1 hup), if_neg hlength, hudp]
  dsimp only
  rw [if_pos ⟨hon, hport, hdst⟩]
  refine s.foldl_eq_takeItems lane _ _ _ _ fun t ht w => ?_
  rw [t.deliverWord_of_toArr_off lane w true none ((State.flag_of_reg (f := Fld.LN_LE_CFG_TO_ARR lane) ht).trans harr),
    State.flag_of_reg (f := Fld.LN_LE_CFG_TO_ACQ lane) ht]

theorem ethernetFrameReceive_udp_completes (dst : List Byte) (port : Nat) (p : List Byte) (hmin : 60 ≤ bytes.length)
    (hmax : bytes.length ≤ 9212) (hudp : udpOf bytes = some (dst, port, p)) (hon : s.fld (Fld.ETH_CFG_RX_PORT lane) ≠ 0)
    (hport : port = s.fld (Fld.ETH_CFG_RX_PORT lane)) (hdst : dst = s.ethIp4 lane ∨ dst = s.ethIp6 lane)
    (hwords : (s.reg (Reg.LN_LE_WORDS lane)).toNat + (p.length + 7) / 8 < 2 ^ 32) (harr : s.flag (Fld.LN_LE_CFG_TO_ARR lane) = false)
    (hfcs : fcsOk = true) : Completes (.ethernetFrameReceive lane bytes fcsOk count frac) s fun t =>
      (t.reg (Reg.LN_LE_WORDS lane)).toNat = (s.reg (Reg.LN_LE_WORDS lane)).toNat + (p.length + 7) / 8 ∧
      (s.flag (Fld.LN_LE_CFG_TO_ACQ lane) = true → t.acq.inbox.map (fun x => (x.lane, x.value)) =
        s.acq.inbox.map (fun x => (x.lane, x.value)) ++ (wordsOfBytes p).map (fun w => (lane.val, w))) ∧
      Only [wholeReg (Reg.LN_LE_WORDS lane)] { s with acq := t.acq } t := by
  subst hfcs
  have hlength := length_udpItems lane p
  refine ⟨_, exec_ethernetFrameReceive_udp hup hmin hmax hudp hon hport hdst harr, ?_, fun hacq => ?_, ?_⟩
  · rw [State.toNat_reg_takeItems _ _ _ _ (hlength ▸ hwords), hlength]
  · have hinbox := congrArg (List.map fun x : LinkItem => (x.1, x.2.1)) (s.takeItems_inbox lane (udpItems lane p))
    rw [List.map_append, List.map_map, List.map_map, udpItems, List.map_map] at hinbox
    rw [hacq]
    exact hinbox
  · refine ((OnlyLink.refl _ s).takeItems lane _ _ (fun x hx => ?_) List.mem_cons_self).acq (s.takeItems_eng lane _ _)
    obtain ⟨w, -, rfl⟩ := List.mem_map.1 hx
    rfl

end

/-! ## Firmware's frames (R275) -/

section
variable {s : State} {lane : Fin 103} {core : Fin 2} {tag : BitVec 16} {wantTs : Bool} {bytes : List Byte}

theorem frameTransmitRequest_down_completes (hdown : ¬ s.ethUp lane) : Completes (.frameTransmitRequest lane core tag wantTs bytes) s
    fun t => s.txRefused lane Code.lnDown t ∧ t.out.getLast? = some (.coreMsg core (sentAnswer tag.toNat Code.lnDown.toNat [])) :=
  ⟨_, congrArg Host.Outcome.next (if_pos ((s.not_ethUp_iff lane).1 hdown)), s.txRefuse_emit_spec lane.isLt Code.lnDown _⟩

section
variable (hup : s.ethUp lane)
include hup

theorem frameTransmitRequest_full_completes (hfull : 8 ≤ (s.engOf lane).jobs.length) :
    Completes (.frameTransmitRequest lane core tag wantTs bytes) s fun t =>
      s.txRefused lane Code.lnFull t ∧ t.out.getLast? = some (.coreMsg core (sentAnswer tag.toNat Code.lnFull.toNat [])) :=
  ⟨_, congrArg Host.Outcome.next ((if_neg ((s.ethUp_iff lane).1 hup)).trans (if_pos hfull)),
    s.txRefuse_emit_spec lane.isLt Code.lnFull _⟩

theorem frameTransmitRequest_completes (hroom : (s.engOf lane).jobs.length < 8) :
    Completes (.frameTransmitRequest lane core tag wantTs bytes) s fun t =>
      t.engOf lane = { s.engOf lane with
        jobs := (s.engOf lane).jobs ++ [{ core := core, tag := tag.toNat, wantTs := wantTs, bytes := bytes }] } ∧
      t = { s with eng := t.eng } :=
  ⟨s.setEng lane { s.engOf lane with
      jobs := (s.engOf lane).jobs ++ [{ core := core, tag := tag.toNat, wantTs := wantTs, bytes := bytes }] },
    congrArg Host.Outcome.next ((if_neg ((s.ethUp_iff lane).1 hup)).trans (if_neg (Nat.not_le.2 hroom))),
    s.engOf_setEng_same lane _, rfl⟩

end

theorem frameSent_completes (count : Word64) (frac : Byte) {j : EthJob} {rest : List EthJob} (hjobs : (s.engOf lane).jobs = j :: rest) :
    Completes (.frameSent lane count frac) s fun t =>
      t.engOf lane = { s.engOf lane with jobs := rest } ∧
      t = { s with
            eng := t.eng
            out := s.out ++ [.ethFrame lane (padTo 60 j.bytes), .coreMsg j.core
              (sentAnswer j.tag 0 (if j.wantTs then s.tsBytes lane true count frac else []))] } := by
  let sent := ((s.setEng lane { s.engOf lane with jobs := rest }).emit (.ethFrame lane (padTo 60 j.bytes))).emit
    (.coreMsg j.core (sentAnswer j.tag 0 (if j.wantTs then s.tsBytes lane true count frac else [])))
  have hrun : exec (.frameSent lane count frac) s = .next sent := by
    refine congrArg Host.Outcome.next ?_
    rw [State.ethSent, hjobs]
  have hout : sent.out = s.out ++ [.ethFrame lane (padTo 60 j.bytes), .coreMsg j.core
      (sentAnswer j.tag 0 (if j.wantTs then s.tsBytes lane true count frac else []))] := List.append_assoc ..
  refine ⟨sent, hrun, s.engOf_setEng_same lane _, ?_⟩
  rw [← hout]
  rfl

end

/-- Settles O23, clause by clause.  That an engine outside the Ethernet modes answers LN_DOWN is the model's choice (log 45 and 110). -/
theorem ethernetFrames : Obligations.EthernetFrames :=
  fun _ _ _ _ _ _ count frac _ _ _ => ⟨fun hsrc hmin hmax => ⟨udpDatagram_down_completes hsrc hmin hmax,
      udpDatagram_unused_completes hsrc hmin hmax, udpDatagram_mtu_completes hsrc hmin hmax, udpDatagram_completes hsrc hmin hmax⟩,
    fun hup hdrop => ⟨ethernetFrameReceive_dropped_completes hup hdrop, ethernetFrameReceive_firmware_completes hup,
      ethernetFrameReceive_udp_completes hup⟩,
    frameTransmitRequest_down_completes, frameTransmitRequest_full_completes, frameTransmitRequest_completes,
    fun _ _ => frameSent_completes count frac⟩

end Sys2Proof.Machine

/-! PROOFS.  Data frames that a Quire link receives (R255 to R257, R263). -/

namespace Sys2Proof.Machine

/-! ## The words of a frame (R257) -/

theorem length_frameWords (l : List (Word64 × Bool)) : (frameWords l).length = l.length := by
  induction l with
  | nil => rfl
  | cons x r ih =>
    rw [frameWords]
    split
    · rw [List.length_cons, ih, List.length_cons]
    · exact List.length_map _

/-- Nothing of an intact frame turns invalid. -/
theorem frameWords_of_intact {l : List (Word64 × Bool)} (h : ∀ w ∈ l, w.2 = true) : frameWords l = l := by
  induction l with
  | nil => rfl
  | cons x r ih =>
    obtain ⟨w, ok⟩ := x
    obtain ⟨rfl, hr⟩ : ok = true ∧ ∀ w ∈ r, w.2 = true :=
      ⟨h _ List.mem_cons_self, fun w hw => h w (List.mem_cons_of_mem _ hw)⟩
    rw [frameWords, if_pos rfl, ih hr]

/-- What a group hands over with the words of a frame: READOUT words at the base lane with their turn, others at their lanes. -/
def State.frameItems (s : State) (b ftype turn first : Nat) (ws : List (Word64 × Bool)) : List LinkItem :=
  ws.zipIdx.map fun w =>
    (if ftype = 4 then b else b + (first + w.2) % s.groupSize b, w.1.1, w.1.2, if ftype = 4 then some turn else none)

section
variable (s : State) (b ftype turn first : Nat) (ws : List (Word64 × Bool))

theorem State.length_frameItems : (s.frameItems b ftype turn first ws).length = ws.length := by
  rw [State.frameItems, List.length_map, List.length_zipIdx]

theorem State.frameItems_valid (h : ∀ w ∈ ws, w.2 = true) : ∀ x ∈ s.frameItems b ftype turn first ws, x.2.2.1 = true := by
  intro x hx
  obtain ⟨w, hw, rfl⟩ := List.mem_map.1 hx
  exact h w.1 (List.fst_mem_of_mem_zipIdx hw)

theorem State.frameItems_readout : s.frameItems b 4 turn first ws = ws.map fun w => (b, w.1, w.2, some turn) := by
  conv_rhs => rw [← List.zipIdx_map_fst 0 ws, List.map_map]
  rfl

/-- The words of a frame by their position. -/
theorem State.frameItems_range (h : ftype ≠ 4) : s.frameItems b ftype turn first ws = (List.range ws.length).map fun j =>
    (b + (first + j) % s.groupSize b, (ws.getD j (0, false)).1, (ws.getD j (0, false)).2, none) := by
  refine List.ext_getElem (by simp [State.frameItems]) fun j hj _ => ?_
  have hjw : j < ws.length := s.length_frameItems b ftype turn first ws ▸ hj
  simp [State.frameItems, h, hjw]

variable {s b ftype}

/-- Where the array does not take the words of a group, the acquisition engine does. -/
theorem State.frameDeliver_eq_takeItems (harr : s.flag (Fld.LN_LE_CFG_TO_ARR b) = false)
    (hacq : s.flag (Fld.LN_LE_CFG_TO_ACQ b) = true ∨ ftype = 4) (hplan : s.byPlan b = false ∨ ftype = 4) :
    s.frameDeliver b ftype turn first ws = s.takeItems b true (s.frameItems b ftype turn first ws) := by
  by_cases hreadout : ftype = 4
  · subst hreadout
    rw [State.frameItems_readout]
    refine (if_pos rfl).trans (s.foldl_eq_takeItems b true _ _ _ fun t _ w => ?_)
    rw [State.takeItem_on, State.countWord]
  · have hnoplan : ¬ s.byPlan b = true := by
      rw [hplan.resolve_right hreadout]
      exact Bool.false_ne_true
    rw [s.frameItems_range b ftype turn first ws hreadout, State.frameDeliver, if_neg hreadout, if_neg hnoplan]
    refine s.foldl_eq_takeItems b true _ _ _ fun t ht j => ?_
    have hon : t.flag (Fld.LN_LE_CFG_TO_ACQ b) = true :=
      (State.flag_of_reg (f := Fld.LN_LE_CFG_TO_ACQ b) ht).trans (hacq.resolve_right hreadout)
    rw [State.deliverWord_of_toArr_off _ _ _ _ ((State.flag_of_reg (f := Fld.LN_LE_CFG_TO_ARR b) ht).trans harr), hon,
      State.groupSize_congr ht]

end

/-! ## Frames (R255, R256, R263) -/

/-- A data frame of one of the four kinds arrives, as its FTYPE. -/
def isFrame (lane : Fin 103) (f : QuireFrame) (c : Instr) (ft : Nat) : Prop :=
  (c = .xdevFrame lane f ∧ ft = 1) ∨ (c = .feedFrame lane f ∧ ft = 2) ∨ (c = .trigFrame lane f ∧ ft = 3) ∨
    (c = .readoutFrame lane f ∧ ft = 4)

theorem exec_of_isFrame {lane : Fin 103} {f : QuireFrame} {c : Instr} {ft : Nat} (h : isFrame lane f c ft) (s : State) :
    exec c s = .next (s.quireFrame lane ft f) := by
  obtain ⟨rfl, rfl⟩ | ⟨rfl, rfl⟩ | ⟨rfl, rfl⟩ | ⟨rfl, rfl⟩ := h
  · rfl
  · rfl
  · rfl
  · rfl

/-- No part of the frame is damaged. -/
def frameIntact (f : QuireFrame) : Prop := f.headerOk = true ∧ ∀ w ∈ f.words, w.2 = true

theorem frameIntact_iff (f : QuireFrame) : (f.headerOk && f.words.all fun w => w.2) = true ↔ frameIntact f := by
  rw [Bool.and_eq_true, List.all_eq_true, frameIntact]

theorem any_damaged_iff {f : QuireFrame} (h : f.headerOk = true) : (f.words.any fun w => !w.2) = true ↔ ¬ frameIntact f := by
  rw [← frameIntact_iff, h, Bool.true_and, List.any_eq_not_all_not, Bool.not_eq_true']
  simp

/-! ## Delivered frames (R255, R257) -/

/-- The words of a frame taken by the acquisition engine. -/
def State.frameTaken (s : State) (b ft : Nat) (f : QuireFrame) (ws : List (Word64 × Bool)) : State :=
  s.takeItems b true (s.frameItems b ft f.turn.toNat f.first.toNat ws)

/-- The reliable receiver's engine after a frame in order. -/
def LinkEng.accepted (e : LinkEng) : LinkEng := { e with rxSeq := (e.rxSeq + 1) % 4096, refused := false, freed := 0 }

/-- A frame in order on a reliable link, before its words are delivered. -/
def State.frameAccepted (s : State) (b : Nat) : State := s.setEng b (s.engOf b).accepted

/-- A frame on a fast link, before its words are delivered: a damaged word is reported. -/
def State.frameJudged (s : State) (b : Nat) (f : QuireFrame) : State := s.when (f.words.any fun w => !w.2) fun s => s.damaged b

section
variable (s : State) (b : Nat) {f : QuireFrame}

theorem State.frameJudged_of_intact (h : frameIntact f) : s.frameJudged b f = s :=
  if_neg fun hany => (any_damaged_iff h.1).1 hany h

theorem State.frameJudged_of_damaged (hheader : f.headerOk = true) (h : ¬ frameIntact f) : s.frameJudged b f = s.damaged b :=
  if_pos ((any_damaged_iff hheader).2 h)

variable (f)

theorem State.frameJudged_cases : s.frameJudged b f = s ∨ s.frameJudged b f = s.damaged b := by
  unfold State.frameJudged State.when
  split
  · exact Or.inr rfl
  · exact Or.inl rfl

theorem State.frameJudged_acq : (s.frameJudged b f).acq = s.acq := by
  obtain h | h := s.frameJudged_cases b f
  · rw [h]
  · rw [h, State.damaged, State.linkRaise_acq]

theorem State.frameJudged_eng : (s.frameJudged b f).eng = s.eng := by
  obtain h | h := s.frameJudged_cases b f
  · rw [h]
  · rw [h, State.damaged, State.linkRaise_eng]

variable {b} in
theorem State.reg_frameJudged {a o : Nat} (hb : b < 103) (ha : a = 0x5000000 + o + b * 0x10000) (ho : o < 0x10000)
    (hne : a ≠ Reg.LN_LE_STAT b) : (s.frameJudged b f).reg a = s.reg a := by
  obtain h | h := s.frameJudged_cases b f
  · rw [h]
  · rw [h, State.damaged, s.reg_linkRaise hb ha ho hne]

end

section
variable {s u : State} {b : Nat} (ft : Nat) (f : QuireFrame)

/-- The acquisition engine's input and the count of words after a frame. -/
theorem State.frameTaken_spec (hacq : u.acq = s.acq) (hcfg : u.reg (Reg.LN_LE_CFG b) = s.reg (Reg.LN_LE_CFG b))
    (hwords : u.reg (Reg.LN_LE_WORDS b) = s.reg (Reg.LN_LE_WORDS b)) :
    (u.frameTaken b ft f (frameWords f.words)).acq.inbox.map AcqWord.item = s.acq.inbox.map AcqWord.item ++
      s.frameItems b ft f.turn.toNat f.first.toNat (frameWords f.words) ∧
    ((s.reg (Reg.LN_LE_WORDS b)).toNat + f.words.length < 2 ^ 32 →
      ((u.frameTaken b ft f (frameWords f.words)).reg (Reg.LN_LE_WORDS b)).toNat =
        (s.reg (Reg.LN_LE_WORDS b)).toNat + f.words.length) := by
  constructor
  · rw [State.frameTaken, State.takeItems_inbox, hacq, State.frameItems, State.groupSize_congr hcfg, State.frameItems]
  · have hlength := (u.length_frameItems b ft f.turn.toNat f.first.toNat (frameWords f.words)).trans (length_frameWords f.words)
    intro h
    rw [← hwords, ← hlength] at h ⊢
    exact State.toNat_reg_takeItems _ _ _ _ h

variable {ft} in
theorem OnlyLink.frameTaken {w : List Field} {t : State} (h : OnlyLink w s t) (hintact : frameIntact f)
    (hm : wholeReg (Reg.LN_LE_WORDS b) ∈ w) : OnlyLink w s (t.frameTaken b ft f (frameWords f.words)) := by
  rw [frameWords_of_intact hintact.2]
  exact h.takeItems b true _ (t.frameItems_valid b ft _ _ _ hintact.2) hm

/-- The words counted after a damaged one leave its report. -/
theorem State.frameTaken_keeps_report (s : State) (hb : b < 103) :
    ((s.damaged b).frameTaken b ft f (frameWords f.words)).flag (Fld.LN_LE_STAT_UNC b) = true ∧
    ((s.damaged b).frameTaken b ft f (frameWords f.words)).sticky (linkEvent b) = true := by
  have hn := linkEvent_lt b
  constructor
  · exact (State.flag_of_reg (State.reg_takeItems _ _ _ _ (by simp [wordCounter]))).trans (State.flag_linkRaise_same s hb rfl rfl rfl)
  · refine (State.sticky_congr _ (State.reg_takeItems _ _ _ _ ?_)).trans (s.sticky_linkRaise _)
    simp only [wordCounter, Reg.LN_LE_WORDS, Reg.LN_LE_INV, Reg.EVT_STICKY]
    omega

end

/-! ## The commands -/

section
variable {s : State} {lane : Fin 103} {f : QuireFrame} {c : Instr} {ft : Nat} (hc : isFrame lane f c ft)
  (hquire : s.quire (s.baseOf lane) = true) (hup : s.linkUp (s.baseOf lane) = true)
include hc hquire hup

theorem exec_frame : exec c s = .next
    (if f.headerOk && (f.words.length == 0 || decide (16 < f.words.length)) then
      (s.countReg (Reg.LN_LE_DROP (s.baseOf lane))).linkRaise (Fld.LN_LE_STAT_PROTO (s.baseOf lane)) (s.baseOf lane)
    else if s.reliable (s.baseOf lane) then s.reliableFrame (s.baseOf lane) ft f
    else if !f.headerOk then ((s.addReg (Reg.LN_LE_DROP (s.baseOf lane)) f.words.length).damaged (s.baseOf lane)).linkRaise
      (Fld.LN_LE_STAT_PROTO (s.baseOf lane)) (s.baseOf lane)
    else (s.when (f.words.any fun w => !w.2) fun s' => s'.damaged (s.baseOf lane)).frameDeliver (s.baseOf lane) ft f.turn.toNat
      f.first.toNat (frameWords f.words)) := by
  refine (exec_of_isFrame hc s).trans (congrArg Host.Outcome.next (if_neg ?_))
  rw [hquire, hup]
  exact Bool.false_ne_true

theorem frame_of_length_completes (hheader : f.headerOk = true) (hlength : f.words.length = 0 ∨ 16 < f.words.length)
    (hdrop : s.reg (Reg.LN_LE_DROP (s.baseOf lane)) ≠ 0xFFFFFFFF) : Completes c s fun t =>
      t.reg (Reg.LN_LE_DROP (s.baseOf lane)) = s.reg (Reg.LN_LE_DROP (s.baseOf lane)) + 1 ∧
      t.flag (Fld.LN_LE_STAT_PROTO (s.baseOf lane)) = true ∧ t.sticky (linkEvent (s.baseOf lane)) = true ∧
      OnlyEv [wholeReg (Reg.LN_LE_DROP (s.baseOf lane)), Fld.LN_LE_STAT_PROTO (s.baseOf lane)] s t := by
  have hb := s.baseOf_lt lane
  have hbad : (f.headerOk && (f.words.length == 0 || decide (16 < f.words.length))) = true := by
    rw [hheader, Bool.true_and, Bool.or_eq_true, beq_iff_eq, decide_eq_true_eq]
    exact hlength
  refine ⟨_, (exec_frame hc hquire hup).trans (congrArg Host.Outcome.next (if_pos hbad)), ?_,
    State.flag_linkRaise_same _ hb rfl rfl rfl, State.sticky_linkRaise ..,
    ((OnlyEv.refl _ s).countReg _ (by simp)).linkRaise _ _ rfl (by simp)⟩
  rw [State.reg_linkRaise _ hb (o := 0x105C) rfl (by decide) (by simp), State.reg_countReg_same hdrop]

/-- In fast mode a damaged header costs the frame. -/
theorem frame_of_header_completes (hfast : s.reliable (s.baseOf lane) = false) (hheader : f.headerOk = false) : Completes c s fun t =>
    t.acq = s.acq ∧ t.eng = s.eng ∧ t.flag (Fld.LN_LE_STAT_UNC (s.baseOf lane)) = true ∧
    t.flag (Fld.LN_LE_STAT_PROTO (s.baseOf lane)) = true ∧
    OnlyEv [wholeReg (Reg.LN_LE_DROP (s.baseOf lane)), Fld.LN_LE_STAT_UNC (s.baseOf lane), Fld.LN_LE_STAT_PROTO (s.baseOf lane)] s t := by
  have hb := s.baseOf_lt lane
  let counted := s.addReg (Reg.LN_LE_DROP (s.baseOf lane)) f.words.length
  refine ⟨(counted.damaged (s.baseOf lane)).linkRaise (Fld.LN_LE_STAT_PROTO (s.baseOf lane)) (s.baseOf lane), ?_, ?_, ?_, ?_,
    State.flag_linkRaise_same _ hb rfl rfl rfl, ?_⟩
  · rw [exec_frame hc hquire hup, hheader, Bool.false_and, if_neg Bool.false_ne_true, hfast, if_neg Bool.false_ne_true, Bool.not_false,
      if_pos rfl]
  · rw [State.linkRaise_acq, State.damaged, State.linkRaise_acq]
    rfl
  · rw [State.linkRaise_eng, State.damaged, State.linkRaise_eng]
    rfl
  · rw [State.flag_linkRaise_other _ hb rfl rfl (by simp [Field.apart])]
    exact State.flag_linkRaise_same _ hb rfl rfl rfl
  · exact (((OnlyEv.refl _ s).setReg _ _ (by simp)).linkRaise _ _ rfl (by simp)).linkRaise _ _ rfl (by simp)

section
variable (hmin : 1 ≤ f.words.length) (hmax : f.words.length ≤ 16)
include hmin hmax

/-- A frame of 1 to 16 words of a reliable link. -/
theorem exec_frame_reliable (hreliable : s.reliable (s.baseOf lane) = true) :
    exec c s = .next (s.reliableFrame (s.baseOf lane) ft f) := by
  rw [exec_frame hc hquire hup, hreliable, if_neg, if_pos rfl]
  simp only [Bool.and_eq_true, Bool.or_eq_true, beq_iff_eq, decide_eq_true_eq]
  omega

/-- In reliable mode a frame out of order is refused with one NAK. -/
theorem frame_refused_completes (hreliable : s.reliable (s.baseOf lane) = true) (hintact : frameIntact f)
    (horder : f.crcOk = false ∨ f.seq.toNat ≠ (s.engOf (s.baseOf lane)).rxSeq) : Completes c s fun t =>
      ((s.engOf (s.baseOf lane)).refused = false →
        t.engOf (s.baseOf lane) = { s.engOf (s.baseOf lane) with refused := true, freed := 0 } ∧
        t = { s with
              eng := t.eng
              out := s.out ++ [.quireAck (s.baseOf lane) (((s.engOf (s.baseOf lane)).rxSeq + 4095) % 4096) true
                (s.engOf (s.baseOf lane)).freed] }) ∧
      ((s.engOf (s.baseOf lane)).refused = true → t = s) := by
  have hrefuse : ¬ ((f.headerOk && f.words.all fun w => w.2) && f.crcOk &&
      f.seq.toNat == (s.engOf (s.baseOf lane)).rxSeq) = true := by
    rw [Bool.and_eq_true, Bool.and_eq_true, beq_iff_eq]
    rintro ⟨⟨-, hcrc⟩, hseq⟩
    obtain h | h := horder
    · exact absurd (hcrc.symm.trans h) (by decide)
    · exact h hseq
  have hrun : exec c s = .next (s.frameNak (s.baseOf lane)) := by
    rw [exec_frame_reliable hc hquire hup hmin hmax hreliable, State.reliableFrame, if_neg hrefuse,
      (frameIntact_iff f).2 hintact, State.when, Bool.not_true, if_neg Bool.false_ne_true]
  refine ⟨_, hrun, fun h => ?_, fun h => if_pos h⟩
  have hnak : s.frameNak (s.baseOf lane) =
      (s.setEng (s.baseOf lane) { s.engOf (s.baseOf lane) with refused := true, freed := 0 }).emit
        (.quireAck (s.baseOf lane) (((s.engOf (s.baseOf lane)).rxSeq + 4095) % 4096) true (s.engOf (s.baseOf lane)).freed) :=
    if_neg (by rw [h]; exact Bool.false_ne_true)
  rw [hnak]
  exact ⟨s.engOf_setEng_same _ _, rfl⟩

end

section
variable (hmin : 1 ≤ f.words.length) (hmax : f.words.length ≤ 16)
  (harr : s.flag (Fld.LN_LE_CFG_TO_ARR (s.baseOf lane)) = false)
  (hacq : s.flag (Fld.LN_LE_CFG_TO_ACQ (s.baseOf lane)) = true ∨ ft = 4) (hplan : s.byPlan (s.baseOf lane) = false ∨ ft = 4)
include hmin hmax harr hacq hplan

theorem exec_frame_accepted (hreliable : s.reliable (s.baseOf lane) = true) (hintact : frameIntact f) (hcrc : f.crcOk = true)
    (hseq : f.seq.toNat = (s.engOf (s.baseOf lane)).rxSeq) : exec c s = .next
      (((s.frameAccepted (s.baseOf lane)).frameTaken (s.baseOf lane) ft f (frameWords f.words)).emit
        (.quireAck (s.baseOf lane) (s.engOf (s.baseOf lane)).rxSeq false ((s.engOf (s.baseOf lane)).freed + 2 + f.words.length))) := by
  have hnext : ((f.headerOk && f.words.all fun w => w.2) && f.crcOk && f.seq.toNat == (s.engOf (s.baseOf lane)).rxSeq) = true := by
    rw [(frameIntact_iff f).2 hintact, hcrc, beq_iff_eq.2 hseq]
    rfl
  rw [exec_frame_reliable hc hquire hup hmin hmax hreliable, State.reliableFrame, if_pos hnext, frameWords_of_intact hintact.2]
  exact congrArg (fun t : State => Host.Outcome.next (t.emit _))
    (State.frameDeliver_eq_takeItems (s := s.frameAccepted (s.baseOf lane)) _ _ _ harr hacq hplan)

theorem exec_frame_fast (hheader : f.headerOk = true) (hfast : s.reliable (s.baseOf lane) = false) :
    exec c s = .next ((s.frameJudged (s.baseOf lane) f).frameTaken (s.baseOf lane) ft f (frameWords f.words)) := by
  have hcfg := s.reg_frameJudged f (s.baseOf_lt lane) (o := 0x1000) rfl (by decide) (by simp)
  have hlength : ¬ (f.headerOk && (f.words.length == 0 || decide (16 < f.words.length))) = true := by
    simp only [Bool.and_eq_true, Bool.or_eq_true, beq_iff_eq, decide_eq_true_eq]
    omega
  rw [exec_frame hc hquire hup, if_neg hlength, hfast, if_neg Bool.false_ne_true, hheader, Bool.not_true, if_neg Bool.false_ne_true]
  refine congrArg Host.Outcome.next (State.frameDeliver_eq_takeItems (s := s.frameJudged (s.baseOf lane) f) _ _ _ ?_ ?_ ?_)
  · exact (State.flag_of_reg (f := Fld.LN_LE_CFG_TO_ARR _) hcfg).trans harr
  · exact hacq.imp_left (State.flag_of_reg (f := Fld.LN_LE_CFG_TO_ACQ _) hcfg).trans
  · exact hplan.imp_left (State.byPlan_congr hcfg).trans

/-- The words of a frame that is not refused go to the acquisition engine, and in reliable mode the frame is acknowledged. -/
theorem frame_delivered_completes (hheader : f.headerOk = true) (haccept : s.reliable (s.baseOf lane) = false ∨
      (frameIntact f ∧ f.crcOk = true ∧ f.seq.toNat = (s.engOf (s.baseOf lane)).rxSeq)) : Completes c s fun t =>
    t.acq.inbox.map AcqWord.item = s.acq.inbox.map AcqWord.item ++
      s.frameItems (s.baseOf lane) ft f.turn.toNat f.first.toNat (frameWords f.words) ∧
    ((s.reg (Reg.LN_LE_WORDS (s.baseOf lane))).toNat + f.words.length < 2 ^ 32 →
      (t.reg (Reg.LN_LE_WORDS (s.baseOf lane))).toNat = (s.reg (Reg.LN_LE_WORDS (s.baseOf lane))).toNat + f.words.length) ∧
    (frameIntact f → Only [wholeReg (Reg.LN_LE_WORDS (s.baseOf lane))] { s with eng := t.eng, acq := t.acq } t) ∧
    (¬ frameIntact f → t.flag (Fld.LN_LE_STAT_UNC (s.baseOf lane)) = true ∧ t.sticky (linkEvent (s.baseOf lane)) = true) ∧
    (s.reliable (s.baseOf lane) = true →
      (t.engOf (s.baseOf lane)).rxSeq = ((s.engOf (s.baseOf lane)).rxSeq + 1) % 4096 ∧ (t.engOf (s.baseOf lane)).refused = false ∧
      t.out = s.out ++ [.quireAck (s.baseOf lane) (s.engOf (s.baseOf lane)).rxSeq false
        ((s.engOf (s.baseOf lane)).freed + 2 + f.words.length)]) ∧
    (s.reliable (s.baseOf lane) = false → t.eng = s.eng) := by
  have hb := s.baseOf_lt lane
  by_cases hreliable : s.reliable (s.baseOf lane) = true
  · obtain ⟨hintact, hcrc, hseq⟩ := haccept.resolve_left (by rw [hreliable]; decide)
    obtain ⟨hinbox, hwords⟩ := State.frameTaken_spec (u := s.frameAccepted (s.baseOf lane)) (s := s) ft f rfl rfl rfl
    have hengine : ((s.frameAccepted (s.baseOf lane)).frameTaken (s.baseOf lane) ft f (frameWords f.words)).engOf (s.baseOf lane) =
        (s.engOf (s.baseOf lane)).accepted :=
      (State.engOf_congr (State.takeItems_eng ..) _).trans (s.engOf_setEng_same (s.baseOf lane) _)
    refine ⟨_, exec_frame_accepted hc hquire hup hmin hmax harr hacq hplan hreliable hintact hcrc hseq, hinbox, hwords, fun _ => ?_,
      fun h => absurd hintact h, fun _ => ⟨congrArg LinkEng.rxSeq hengine, congrArg LinkEng.refused hengine, ?_⟩,
      fun h => absurd (hreliable.symm.trans h) (by decide)⟩
    · exact (((OnlyLink.refl _ s).setEng _ _).frameTaken f hintact List.mem_cons_self).emit _
    · exact congrArg (· ++ [_]) (State.takeItems_out ..)
  · have hfast := Bool.eq_false_iff.2 hreliable
    have hwords := s.reg_frameJudged f hb (o := 0x1050) rfl (by decide) (by simp)
    obtain ⟨hinbox, hwords⟩ := State.frameTaken_spec (u := s.frameJudged (s.baseOf lane) f) (s := s) ft f
      (s.frameJudged_acq _ f) (s.reg_frameJudged f hb (o := 0x1000) rfl (by decide) (by simp)) hwords
    refine ⟨_, exec_frame_fast hc hquire hup hmin hmax harr hacq hplan hheader hfast, hinbox, hwords, fun hintact => ?_, fun hbad => ?_,
      fun h => absurd h hreliable, fun _ => (State.takeItems_eng ..).trans (s.frameJudged_eng _ f)⟩
    · rw [s.frameJudged_of_intact _ hintact]
      exact (OnlyLink.refl _ s).frameTaken f hintact List.mem_cons_self
    · rw [s.frameJudged_of_damaged _ hheader hbad]
      exact State.frameTaken_keeps_report ft f s hb

end

end

end Sys2Proof.Machine

/-! PROOFS.  What a Quire engine sends: acknowledgements taken, replays, and frames (R259, R263, R264, R266). -/

namespace Sys2Proof.Machine

/-! ## Acknowledgements (R263, R264) -/

/-- The replay buffer holds a frame with the acknowledged SEQ. -/
def LinkEng.holds (e : LinkEng) (ackseq : Nat) : Bool := e.replay.any fun f => f.seq == ackseq

/-- The frames that stay after an acknowledgement. -/
def LinkEng.unacked (e : LinkEng) (ackseq : Nat) : List TxFrame :=
  if e.holds ackseq then (e.replay.dropWhile fun f => f.seq != ackseq).drop 1 else e.replay

/-- The engine after an acknowledgement. -/
def LinkEng.acked (e : LinkEng) (ackseq : Nat) : LinkEng :=
  { e with replay := e.unacked ackseq, retries := if e.holds ackseq then 0 else e.retries }

/-- QL_REL_STAT after an acknowledgement with credit. -/
def State.credited (s : State) (b ackseq credit : Nat) : State :=
  ((s.setEng b ((s.engOf b).acked ackseq)).setFld (Fld.QL_REL_STAT_CREDIT b)
    (min 2048 (s.fld (Fld.QL_REL_STAT_CREDIT b) + credit))).setFld (Fld.QL_REL_STAT_UNACK b) ((s.engOf b).unacked ackseq).length

section
variable (s : State) (b ackseq credit : Nat)

theorem State.ackFrames_eq : s.ackFrames b ackseq credit =
    if (s.engOf b).holds ackseq then (s.credited b ackseq credit).setFlag (Fld.LN_LE_STAT_RETRYING b) false
    else s.credited b ackseq credit := rfl

/-- RETRYING ends with the progress, or stays. -/
theorem State.ackFrames_cases :
    (s.ackFrames b ackseq credit = (s.credited b ackseq credit).setFlag (Fld.LN_LE_STAT_RETRYING b) false) ∨
    s.ackFrames b ackseq credit = s.credited b ackseq credit := by
  rw [State.ackFrames_eq]
  split
  · exact Or.inl rfl
  · exact Or.inr rfl

theorem State.ackFrames_eng : (s.ackFrames b ackseq credit).eng = (s.setEng b ((s.engOf b).acked ackseq)).eng := by
  obtain h | h := s.ackFrames_cases b ackseq credit
  · rw [h]
    rfl
  · rw [h]
    rfl

theorem State.reg_ackFrames {a : Nat} (hrel : a ≠ Reg.QL_REL_STAT b) (hstat : a ≠ Reg.LN_LE_STAT b) :
    (s.ackFrames b ackseq credit).reg a = s.reg a := by
  have hcredited : (s.credited b ackseq credit).reg a = s.reg a :=
    (State.reg_setFld_other _ _ _ _ hrel).trans (State.reg_setFld_other _ _ _ _ hrel)
  obtain h | h := s.ackFrames_cases b ackseq credit
  · rw [h, State.reg_setFlag_other _ _ _ _ hstat, hcredited]
  · rw [h, hcredited]

theorem State.fld_ackFrames_rel {f : Field} (hf : f.addr = Reg.QL_REL_STAT b) :
    (s.ackFrames b ackseq credit).fld f = (s.credited b ackseq credit).fld f := by
  obtain h | h := s.ackFrames_cases b ackseq credit
  · rw [h, State.fld_setFlag_apart _ _ _ _ rfl (Or.inl (by rw [hf]; simp))]
  · rw [h]

theorem State.credited_spec : (s.credited b ackseq credit).fld (Fld.QL_REL_STAT_CREDIT b) =
      min 2048 (s.fld (Fld.QL_REL_STAT_CREDIT b) + credit) ∧
    (s.credited b ackseq credit).fld (Fld.QL_REL_STAT_UNACK b) =
      ((s.engOf b).unacked ackseq).length % 2 ^ (Fld.QL_REL_STAT_UNACK b).width := by
  constructor
  · rw [State.credited, State.fld_setFld_apart _ _ _ _ rfl (by simp [Field.apart]), State.fld_setFld_same _ _ _ rfl]
    exact Nat.mod_eq_of_lt (Nat.lt_of_le_of_lt (Nat.min_le_left ..) (by simp))
  · exact State.fld_setFld_same _ _ _ rfl

theorem State.linkUp_ackFrames : (s.ackFrames b ackseq credit).linkUp b = s.linkUp b := by
  have hcredited : (s.credited b ackseq credit).linkUp b = s.linkUp b :=
    State.flag_of_reg ((State.reg_setFld_other _ _ _ _ (by simp)).trans (State.reg_setFld_other _ _ _ _ (by simp)))
  obtain h | h := s.ackFrames_cases b ackseq credit
  · rw [h, State.linkUp, State.flag_setFlag_apart _ _ _ _ rfl (by simp [Field.apart])]
    exact hcredited
  · rw [h, hcredited]

theorem State.ackFrames_frame : OnlyLink [Fld.QL_REL_STAT_CREDIT b, Fld.QL_REL_STAT_UNACK b, Fld.LN_LE_STAT_RETRYING b] s
    (s.ackFrames b ackseq credit) := by
  have hcredited : OnlyLink [Fld.QL_REL_STAT_CREDIT b, Fld.QL_REL_STAT_UNACK b, Fld.LN_LE_STAT_RETRYING b] s
      (s.credited b ackseq credit) :=
    (((OnlyLink.refl _ s).setEng b _).setFld _ _ rfl (by simp)).setFld _ _ rfl (by simp)
  obtain h | h := s.ackFrames_cases b ackseq credit
  · rw [h]
    exact hcredited.setFlag _ false rfl (by simp)
  · rw [h]
    exact hcredited

theorem State.ackFrames_acq : (s.ackFrames b ackseq credit).acq = s.acq := by
  obtain h | h := s.ackFrames_cases b ackseq credit
  · rw [h]
    rfl
  · rw [h]
    rfl

end

/-! ## Replays of a link (R264) -/

/-- Replays without progress before the link goes down and up. -/
def State.retryLimit (s : State) (b : Nat) : Nat :=
  if s.fld (Fld.QL_REL_CFG_MAXRETRY b) = 0 then 16 else s.fld (Fld.QL_REL_CFG_MAXRETRY b)

/-- A frame of the replay buffer as it is sent. -/
def TxFrame.output (b : Nat) (f : TxFrame) : Output := .quireFrame b f.ftype f.seq f.turn f.first f.kind f.vote f.words

theorem State.foldl_emit {α : Type} (g : α → Output) (l : List α) (s : State) :
    l.foldl (fun s x => s.emit (g x)) s = s.withOut (s.out ++ l.map g) := by
  induction l generalizing s with
  | nil => rw [List.map_nil, List.append_nil]; rfl
  | cons x r ih =>
    rw [List.foldl_cons, ih, List.map_cons]
    exact congrArg s.withOut (List.append_assoc s.out [g x] _)

/-- One more replay, before its frames are sent. -/
def State.retrying (s : State) (b : Nat) : State :=
  ((s.setEng b { s.engOf b with retries := (s.engOf b).retries + 1 }).countReg (Reg.QL_RETRY b)).setFlag (Fld.LN_LE_STAT_RETRYING b) true

/-- An engine that has block lock again. -/
def LinkEng.locked (e : LinkEng) : LinkEng := { e with blockLock := true }

/-- A link that has given up its replays, before it rises again. -/
def State.relocked (s : State) (b : Nat) : State :=
  ((s.linkDown b).linkRaise (Fld.LN_LE_STAT_RETRY_FAIL b) b).mapEngs
    (((s.linkDown b).linkRaise (Fld.LN_LE_STAT_RETRY_FAIL b) b).members b) LinkEng.locked

section
variable {s : State} {b : Nat}

section
variable (hheld : (s.engOf b).replay ≠ [])
include hheld

theorem State.replay_of_more (hmore : (s.engOf b).retries < s.retryLimit b) : s.replay b =
    (s.retrying b).withOut ((s.retrying b).out ++ (s.engOf b).replay.map (TxFrame.output b)) :=
  ((if_neg fun h => hheld (List.isEmpty_iff.1 h)).trans (if_neg (Nat.not_le.2 hmore))).trans
    (State.foldl_emit (TxFrame.output b) (s.engOf b).replay (s.retrying b))

theorem State.replay_of_last (hlast : s.retryLimit b ≤ (s.engOf b).retries) :
    ∃ o, s.replay b = ((s.relocked b).upState b).withOut o := by
  obtain ⟨o, hrise⟩ := (s.relocked b).linkRise_eq_upState b
  exact ⟨o, ((if_neg fun h => hheld (List.isEmpty_iff.1 h)).trans (if_pos hlast)).trans hrise⟩

end

variable (s b)

theorem State.retrying_engOf : (s.retrying b).engOf b = { s.engOf b with retries := (s.engOf b).retries + 1 } :=
  (State.engOf_congr (t := s.retrying b) (State.countReg_eng ..) b).trans (s.engOf_setEng_same b _)

theorem State.flag_retrying_RETRYING : (s.retrying b).flag (Fld.LN_LE_STAT_RETRYING b) = true := State.flag_setFlag_same _ _ _ rfl rfl

theorem State.retrying_out : (s.retrying b).out = s.out := State.countReg_out ..

theorem State.retrying_acq : (s.retrying b).acq = s.acq := State.countReg_acq ..

theorem State.retrying_frame : OnlyLink [wholeReg (Reg.QL_RETRY b), Fld.LN_LE_STAT_RETRYING b] s (s.retrying b) :=
  (((OnlyLink.refl _ s).setEng b _).countReg _ (by simp)).setFlag _ true rfl (by simp)

variable {s b}

theorem State.reg_retrying_QL_RETRY (hcount : s.reg (Reg.QL_RETRY b) ≠ 0xFFFFFFFF) :
    (s.retrying b).reg (Reg.QL_RETRY b) = s.reg (Reg.QL_RETRY b) + 1 :=
  (State.reg_setFlag_other _ _ _ _ (by simp)).trans
    (State.reg_countReg_same (s := s.setEng b { s.engOf b with retries := (s.engOf b).retries + 1 }) hcount)

variable (s) in
/-- The protocol stays, and the failure is reported. -/
theorem State.relocked_spec (hb : b < 103) (hne : b ≠ 96) :
    (s.relocked b).reliable b = s.reliable b ∧ (s.relocked b).flag (Fld.LN_LE_STAT_RETRY_FAIL b) = true := by
  have hsafe := eventSafe_of_LN_LE_CFG hb
  constructor
  · refine State.reliable_congr ?_
    rw [State.relocked, State.reg_mapEngs, (State.linkRaise_writes _ b rfl).reg_eq hsafe (not_linkStatus_LN_LE_CFG b b),
      (s.linkDown_writes hne).reg_eq hsafe (not_linkStatus_LN_LE_CFG b b)]
  · exact (State.flag_of_reg (State.reg_mapEngs ..)).trans (State.flag_linkRaise_same _ hb rfl rfl rfl)

/-- The rise of UP leaves the other bits of LN_LE_STAT alone. -/
theorem State.flag_upState_other (s : State) (b : Nat) {f : Field} (hf : f.addr = Reg.LN_LE_STAT b)
    (hapart : (Fld.LN_LE_STAT_UP b).apart f) : (s.upState b).flag f = s.flag f := by
  have hstart : ((s.setEng b ((s.engOf b).risen s.seq.turn)).startCredit b).reg (Reg.LN_LE_STAT b) = s.reg (Reg.LN_LE_STAT b) := by
    unfold State.startCredit
    split
    · exact (State.reg_setFld_other _ _ _ _ (by simp)).trans (State.reg_setReg_other _ _ (by simp))
    · rfl
  exact (State.flag_setFlag_apart _ _ _ _ rfl hapart).trans (State.flag_of_reg (hf ▸ hstart))

end

/-! ## Acknowledgements, and the time-out of a replay -/

/-- A reliable link that is up takes acknowledgements and replays its frames. -/
theorem reliable_and_linkUp {s : State} {b : Nat} (hreliable : s.reliable b = true) (hup : s.linkUp b = true) :
    (s.reliable b && s.linkUp b) = true := by rw [hreliable, hup, Bool.and_self]

section
variable {s : State} {lane : Fin 103} (hup : s.linkUp (s.baseOf lane) = true) (hreliable : s.reliable (s.baseOf lane) = true)
include hup hreliable

section
variable (ackseq credit : BitVec 12)

theorem exec_qlAck : exec (.qlAck lane ackseq credit) s = .next (s.ackFrames (s.baseOf lane) ackseq.toNat credit.toNat) :=
  congrArg Host.Outcome.next (if_pos (reliable_and_linkUp hreliable hup))

theorem qlAck_completes : Completes (.qlAck lane ackseq credit) s fun t =>
    t.engOf (s.baseOf lane) = (s.engOf (s.baseOf lane)).acked ackseq.toNat ∧
    t.fld (Fld.QL_REL_STAT_CREDIT (s.baseOf lane)) = min 2048 (s.fld (Fld.QL_REL_STAT_CREDIT (s.baseOf lane)) + credit.toNat) ∧
    t.fld (Fld.QL_REL_STAT_UNACK (s.baseOf lane)) =
      ((s.engOf (s.baseOf lane)).unacked ackseq.toNat).length % 2 ^ (Fld.QL_REL_STAT_UNACK (s.baseOf lane)).width ∧
    ((s.engOf (s.baseOf lane)).holds ackseq.toNat = true → t.flag (Fld.LN_LE_STAT_RETRYING (s.baseOf lane)) = false) ∧
    Only [Fld.QL_REL_STAT_CREDIT (s.baseOf lane), Fld.QL_REL_STAT_UNACK (s.baseOf lane), Fld.LN_LE_STAT_RETRYING (s.baseOf lane)]
      { s with eng := t.eng } t := by
  obtain ⟨hcredit, hunack⟩ := s.credited_spec (s.baseOf lane) ackseq.toNat credit.toNat
  refine ⟨_, exec_qlAck hup hreliable ackseq credit, ?_, (s.fld_ackFrames_rel _ _ _ rfl).trans hcredit,
    (s.fld_ackFrames_rel _ _ _ rfl).trans hunack, fun hheld => ?_, (s.ackFrames_frame _ _ _).eng (s.ackFrames_acq _ _ _)⟩
  · exact (State.engOf_congr (s.ackFrames_eng _ _ _) _).trans (s.engOf_setEng_same _ _)
  · rw [State.ackFrames_eq, if_pos hheld]
    exact State.flag_setFlag_same _ _ _ rfl rfl

/-- A NAK is an acknowledgement followed by what the time-out does. -/
theorem qlNak_completes : Completes (.qlNak lane ackseq credit) s fun t =>
    ∃ u, exec (.qlAck lane ackseq credit) s = .next u ∧ exec (.replayTimeout lane) u = .next t := by
  let b := s.baseOf lane
  let acked := s.ackFrames b ackseq.toNat credit.toNat
  have hreg (i : Nat) : acked.reg (Reg.LN_LE_CFG i) = s.reg (Reg.LN_LE_CFG i) :=
    s.reg_ackFrames _ _ _ (by simp only [Reg.LN_LE_CFG, Reg.QL_REL_STAT]; omega) (by simp only [Reg.LN_LE_CFG, Reg.LN_LE_STAT]; omega)
  have hbase : acked.baseOf lane = b := State.baseOf_congr (hreg lane)
  have hactive : (acked.reliable (acked.baseOf lane) && acked.linkUp (acked.baseOf lane)) = true := by
    rw [hbase]
    exact reliable_and_linkUp ((State.reliable_congr (hreg b)).trans hreliable) ((s.linkUp_ackFrames _ _ _).trans hup)
  have hreplay : exec (.replayTimeout lane) acked = .next (acked.replay b) := by
    refine (congrArg Host.Outcome.next (if_pos hactive)).trans ?_
    rw [hbase]
  exact ⟨acked.replay b, congrArg Host.Outcome.next (if_pos (reliable_and_linkUp hreliable hup)), acked,
    exec_qlAck hup hreliable ackseq credit, hreplay⟩

end

theorem exec_replayTimeout : exec (.replayTimeout lane) s = .next (s.replay (s.baseOf lane)) :=
  congrArg Host.Outcome.next (if_pos (reliable_and_linkUp hreliable hup))

section
variable (hheld : (s.engOf (s.baseOf lane)).replay ≠ [])
include hheld

theorem replayTimeout_again_completes (hmore : (s.engOf (s.baseOf lane)).retries < s.retryLimit (s.baseOf lane))
    (hcount : s.reg (Reg.QL_RETRY (s.baseOf lane)) ≠ 0xFFFFFFFF) : Completes (.replayTimeout lane) s fun t =>
      t.engOf (s.baseOf lane) = { s.engOf (s.baseOf lane) with retries := (s.engOf (s.baseOf lane)).retries + 1 } ∧
      t.reg (Reg.QL_RETRY (s.baseOf lane)) = s.reg (Reg.QL_RETRY (s.baseOf lane)) + 1 ∧
      t.flag (Fld.LN_LE_STAT_RETRYING (s.baseOf lane)) = true ∧
      t.out = s.out ++ (s.engOf (s.baseOf lane)).replay.map (TxFrame.output (s.baseOf lane)) ∧
      Only [wholeReg (Reg.QL_RETRY (s.baseOf lane)), Fld.LN_LE_STAT_RETRYING (s.baseOf lane)] { s with eng := t.eng } t := by
  refine ⟨_, (exec_replayTimeout hup hreliable).trans (congrArg Host.Outcome.next (State.replay_of_more hheld hmore)), ?_⟩
  beta_reduce
  rw [State.engOf_withOut, State.reg_withOut, State.flag_withOut, State.withOut_out, s.retrying_out]
  exact ⟨s.retrying_engOf _, State.reg_retrying_QL_RETRY hcount, s.flag_retrying_RETRYING _, rfl,
    ((s.retrying_frame _).withOut _).eng (s.retrying_acq _)⟩

/-- The last replay has brought no progress. -/
theorem replayTimeout_fails_completes (hne : s.baseOf lane ≠ 96)
    (hlast : s.retryLimit (s.baseOf lane) ≤ (s.engOf (s.baseOf lane)).retries) : Completes (.replayTimeout lane) s fun t =>
      t.linkUp (s.baseOf lane) = true ∧ t.flag (Fld.LN_LE_STAT_RETRY_FAIL (s.baseOf lane)) = true ∧
      (t.engOf (s.baseOf lane)).replay = [] ∧ t.fld (Fld.QL_REL_STAT_CREDIT (s.baseOf lane)) = 2048 := by
  obtain ⟨o, hreplay⟩ := State.replay_of_last hheld hlast
  obtain ⟨hrel, hfail⟩ := s.relocked_spec (s.baseOf_lt lane) hne
  refine ⟨_, (exec_replayTimeout hup hreliable).trans (congrArg Host.Outcome.next hreplay), ?_⟩
  beta_reduce
  rw [State.linkUp, State.flag_withOut, State.flag_withOut, State.engOf_withOut, State.fld_withOut]
  exact ⟨State.upState_linkUp _ _, (State.flag_upState_other _ _ rfl (by simp [Field.apart])).trans hfail,
    congrArg LinkEng.replay (State.upState_engOf _ _), State.fld_upState_CREDIT _ _ (hrel.trans hreliable)⟩

end

end

/-! ## Frames sent (R259, R262, R264, R266) -/

/-- A frame sent takes a SEQ, credit and a place in the replay buffer (R264). -/
theorem State.putFrame_reliable_spec {s : State} {b : Nat} (h : s.reliable b = true) (ft turn first : Nat) (kind vote : Bool)
    (ws : List Word64) :
    let seq := s.fld (Fld.QL_REL_STAT_TXSEQ b)
    let t := s.putFrame b ft turn first kind vote ws
    t.out = s.out ++ [.quireFrame b ft seq turn first kind vote ws] ∧
    t.engOf b = { s.engOf b with replay := (s.engOf b).replay ++
      [{ ftype := ft, seq := seq, turn := turn, first := first, kind := kind, vote := vote, words := ws }] } ∧
    t.fld (Fld.QL_REL_STAT_TXSEQ b) = (seq + 1) % 4096 ∧
    t.fld (Fld.QL_REL_STAT_CREDIT b) = s.fld (Fld.QL_REL_STAT_CREDIT b) - (2 + ws.length) := by
  have hcredit : s.fld (Fld.QL_REL_STAT_CREDIT b) < 2 ^ (Fld.QL_REL_STAT_CREDIT b).width := Nat.mod_lt _ (Nat.two_pow_pos _)
  rw [State.putFrame, if_pos h]
  refine ⟨rfl, s.engOf_setEng_same b _, ?_, ?_⟩
  · rw [State.fld_emit, State.fld_setFld_apart _ _ _ _ rfl (by simp [Field.apart]),
      State.fld_setFld_apart _ _ _ _ rfl (by simp [Field.apart]), State.fld_setFld_same _ _ _ rfl]
    rfl
  · rw [State.fld_emit, State.fld_setFld_apart _ _ _ _ rfl (by simp [Field.apart]), State.fld_setFld_same _ _ _ rfl]
    exact Nat.mod_eq_of_lt (Nat.lt_of_le_of_lt (Nat.sub_le ..) hcredit)

theorem State.putFrame_fast {s : State} {b : Nat} (h : s.reliable b = false) (ft turn first : Nat) (kind vote : Bool)
    (ws : List Word64) : s.putFrame b ft turn first kind vote ws = s.emit (.quireFrame b ft 0 turn first kind vote ws) :=
  if_neg (by rw [h]; exact Bool.false_ne_true)

theorem State.mayFrame_of_fast {s : State} {b : Nat} (h : s.reliable b = false) (n : Nat) : s.mayFrame b n = true := by
  rw [State.mayFrame, h, Bool.not_false, Bool.true_or]

theorem txRun_one (w : TxWord) (ws : List TxWord) : txRun 1 (w :: ws) = [w] := by
  cases ws with
  | nil => rfl
  | cons x r =>
    rw [txRun, txRun]
    exact ite_self _

section
variable {s : State} {b : Nat} (hup : s.linkUp b = true) (hquire : s.quire b = true)
include hup hquire

theorem sendFrame_allowed : ¬ (!s.quire b || !s.linkUp b) = true := by
  rw [hquire, hup]
  exact Bool.false_ne_true

/-- A waiting BAR frame goes first. -/
theorem State.sendFrame_of_bar {kind vote : Bool} {turn : Nat} {rest : List (Bool × Bool × Nat)}
    (hbars : (s.engOf b).bars = (kind, vote, turn) :: rest) (hmay : s.mayFrame b 0 = true) :
    s.sendFrame b = (s.setEng b { s.engOf b with bars := rest }).putFrame b 5 turn 0 kind vote [] := by
  rw [State.sendFrame, if_neg (sendFrame_allowed hup hquire), hbars]
  exact if_pos hmay

/-- The last word that the plan owes in a turn is a frame of its own. -/
theorem State.sendFrame_of_last_word {w : TxWord} {ws : List TxWord} (hbars : (s.engOf b).bars = [])
    (hwords : (s.engOf b).txWords = w :: ws) (howed : s.planWords b - w.index = 1) (hmay : s.mayFrame b 1 = true) :
    s.sendFrame b = (s.setEng b { s.engOf b with txWords := ws }).putFrame b (s.fld (Fld.LN_LE_CFG_TX_FTYPE b)) w.turn
      (if s.byPlan b then w.index else 0) false false [w.value] := by
  have hone : max 1 (min 16 (s.planWords b - w.index)) = 1 := by rw [howed]; rfl
  rw [State.sendFrame, if_neg (sendFrame_allowed hup hquire), hbars]
  dsimp only
  rw [hwords]
  dsimp only
  rw [hone, txRun_one, List.length_singleton, hmay, List.drop_one, List.tail_cons, List.map_singleton]
  refine (if_pos rfl).trans ?_
  rw [← hbars]

end

section
variable {s : State} {lane : Fin 103} (hup : s.linkUp (s.baseOf lane) = true)
include hup

theorem frameSend_reliable_completes (hreliable : s.reliable (s.baseOf lane) = true) (kind vote : Bool) (turn : Nat)
    (rest : List (Bool × Bool × Nat)) (hbars : (s.engOf (s.baseOf lane)).bars = (kind, vote, turn) :: rest)
    (hcredit : 2 ≤ s.fld (Fld.QL_REL_STAT_CREDIT (s.baseOf lane))) (hroom : (s.engOf (s.baseOf lane)).replay.length < 64) :
    Completes (.frameSend lane) s fun t =>
      t.out = s.out ++ [.quireFrame (s.baseOf lane) 5 (s.fld (Fld.QL_REL_STAT_TXSEQ (s.baseOf lane))) turn 0 kind vote []] ∧
      (t.engOf (s.baseOf lane)).bars = rest ∧
      (t.engOf (s.baseOf lane)).replay = (s.engOf (s.baseOf lane)).replay ++
        [{ ftype := 5, seq := s.fld (Fld.QL_REL_STAT_TXSEQ (s.baseOf lane)), turn := turn, first := 0, kind := kind, vote := vote,
           words := [] }] ∧
      t.fld (Fld.QL_REL_STAT_TXSEQ (s.baseOf lane)) = (s.fld (Fld.QL_REL_STAT_TXSEQ (s.baseOf lane)) + 1) % 4096 ∧
      t.fld (Fld.QL_REL_STAT_CREDIT (s.baseOf lane)) = s.fld (Fld.QL_REL_STAT_CREDIT (s.baseOf lane)) - 2 := by
  have hmay : s.mayFrame (s.baseOf lane) 0 = true := by
    rw [State.mayFrame, decide_eq_true hcredit, decide_eq_true hroom, Bool.and_self, Bool.or_true]
  let popped := s.setEng (s.baseOf lane) { s.engOf (s.baseOf lane) with bars := rest }
  obtain ⟨hout, hengine, hseq, hleft⟩ :=
    State.putFrame_reliable_spec (s := popped) (b := s.baseOf lane) hreliable 5 turn 0 kind vote []
  have hpopped : popped.engOf (s.baseOf lane) = { s.engOf (s.baseOf lane) with bars := rest } := s.engOf_setEng_same _ _
  rw [hpopped] at hengine
  exact ⟨_, congrArg Host.Outcome.next (State.sendFrame_of_bar hup (State.quire_of_reliable hreliable) hbars hmay), hout,
    congrArg LinkEng.bars hengine, congrArg LinkEng.replay hengine, hseq, hleft⟩

section
variable (hmode : s.fld (Fld.LN_LE_CFG_MODE (s.baseOf lane)) = 1)
include hmode

theorem frameSend_fast_bar_completes (kind vote : Bool) (turn : Nat) (rest : List (Bool × Bool × Nat))
    (hbars : (s.engOf (s.baseOf lane)).bars = (kind, vote, turn) :: rest) : Completes (.frameSend lane) s fun t =>
      t.engOf (s.baseOf lane) = { s.engOf (s.baseOf lane) with bars := rest } ∧
      t = { s with eng := t.eng, out := s.out ++ [.quireFrame (s.baseOf lane) 5 0 turn 0 kind vote []] } := by
  obtain ⟨hquire, hfast⟩ := State.fast_of_mode_one hmode
  let popped := s.setEng (s.baseOf lane) { s.engOf (s.baseOf lane) with bars := rest }
  have hput := State.putFrame_fast (s := popped) hfast 5 turn 0 kind vote []
  exact ⟨popped.emit (.quireFrame (s.baseOf lane) 5 0 turn 0 kind vote []),
    congrArg Host.Outcome.next ((State.sendFrame_of_bar hup hquire hbars (State.mayFrame_of_fast hfast 0)).trans hput),
    s.engOf_setEng_same (s.baseOf lane) _, rfl⟩

/-- The last word of the plan's turn is a frame of its own. -/
theorem frameSend_fast_word_completes (w : TxWord) (ws : List TxWord) (hbars : (s.engOf (s.baseOf lane)).bars = [])
    (hwords : (s.engOf (s.baseOf lane)).txWords = w :: ws) (howed : s.planWords (s.baseOf lane) - w.index = 1) :
    Completes (.frameSend lane) s fun t =>
      t.engOf (s.baseOf lane) = { s.engOf (s.baseOf lane) with txWords := ws } ∧
      t = { s with eng := t.eng, out := s.out ++ [.quireFrame (s.baseOf lane) (s.fld (Fld.LN_LE_CFG_TX_FTYPE (s.baseOf lane))) 0 w.turn
        (if s.byPlan (s.baseOf lane) then w.index else 0) false false [w.value]] } := by
  obtain ⟨hquire, hfast⟩ := State.fast_of_mode_one hmode
  let popped := s.setEng (s.baseOf lane) { s.engOf (s.baseOf lane) with txWords := ws }
  have hput := State.putFrame_fast (s := popped) hfast (s.fld (Fld.LN_LE_CFG_TX_FTYPE (s.baseOf lane))) w.turn
    (if s.byPlan (s.baseOf lane) then w.index else 0) false false [w.value]
  have hsend := State.sendFrame_of_last_word hup hquire hbars hwords howed (State.mayFrame_of_fast hfast 1)
  exact ⟨popped.emit (.quireFrame (s.baseOf lane) (s.fld (Fld.LN_LE_CFG_TX_FTYPE (s.baseOf lane))) 0 w.turn
    (if s.byPlan (s.baseOf lane) then w.index else 0) false false [w.value]), congrArg Host.Outcome.next (hsend.trans hput),
    s.engOf_setEng_same (s.baseOf lane) _, rfl⟩

end

end

/-- Settles O22, clause by clause: frames received, then what the engine sends.  The ACK that goes out with the acceptance, where
words are counted, and the length of a frame that is sent are the model's choices (log 42, 40 and 89). -/
theorem quireFrames : Obligations.QuireFrames := by
  refine ⟨fun lane f s c ft hc hquire hup => ⟨frame_of_length_completes hc hquire hup, fun hheader hmin hmax harr hacq hplan =>
      frame_delivered_completes hc hquire hup hmin hmax harr hacq hplan hheader, fun hreliable hintact hmin hmax =>
      frame_refused_completes hc hquire hup hmin hmax hreliable hintact, frame_of_header_completes hc hquire hup⟩, ?_⟩
  exact fun lane ackseq credit s hup => ⟨fun hreliable => ⟨qlAck_completes hup hreliable ackseq credit,
      qlNak_completes hup hreliable ackseq credit, replayTimeout_again_completes hup hreliable,
      fun hne hheld => replayTimeout_fails_completes hup hreliable hheld hne, frameSend_reliable_completes hup hreliable⟩,
    fun hmode => ⟨frameSend_fast_bar_completes hup hmode, frameSend_fast_word_completes hup hmode⟩⟩

end Sys2Proof.Machine

/-! PROOFS.  The acquisition engine: the registers that its operations write, and a context's fields (R283 to R293, R317). -/

namespace Sys2Proof.Machine

/-! ## Registers and sticky bits -/

/-- Writing a register of the lanes or of the acquisition engine leaves the sticky store alone (R25, R498). -/
theorem State.sticky_setFld_above (s : State) {f : Field} (v : Nat) (hf : 0x5000000 ≤ f.addr) {n : Nat} (hn : n < 512) :
    (s.setFld f v).sticky n = s.sticky n :=
  State.sticky_congr n (State.reg_setFld_other _ _ _ _ (sticky_ne_lane hn hf))

/-- A bit of ACQ_STATUS is raised with its event (R316). -/
theorem State.raiseStatus_spec (s : State) {f : Field} (hf : f.addr = Reg.ACQ_STATUS) (hfits : f.fits = true) (hwidth : f.width = 1)
    {n : Nat} (hn : n < 512) : (s.raiseBit f n).flag f = true ∧ (s.raiseBit f n).sticky n = true :=
  ⟨State.flag_raiseBit_same s n hn (eventSafe_of_serial (by rw [hf]; decide) (by rw [hf]; decide)) hfits hwidth,
    State.sticky_raiseBit_same s f n hn⟩

/-- The other registers of the engine keep their values when a bit of ACQ_STATUS is raised. -/
theorem State.fld_raiseStatus (s : State) {f g : Field} (hf : f.addr = Reg.ACQ_STATUS) (hfits : f.fits = true) {n : Nat} (hn : n < 512)
    (hlow : 0x6000000 ≤ g.addr) (hhigh : g.addr < 0x8000000) (hg : g.addr ≠ Reg.ACQ_STATUS) : (s.raiseBit f n).fld g = s.fld g :=
  State.fld_raiseBit_apart s f n hn (eventSafe_of_serial (by omega) hhigh) hfits (Or.inl fun e => hg (e ▸ hf))

theorem State.reg_raiseStatus (s : State) {f : Field} (hf : f.addr = Reg.ACQ_STATUS) (hfits : f.fits = true) {n : Nat} (hn : n < 512)
    {a : Nat} (hlow : 0x6000000 ≤ a) (hhigh : a < 0x8000000) (ha : a ≠ Reg.ACQ_STATUS) : (s.raiseBit f n).reg a = s.reg a :=
  State.reg_eq_of_fld_wholeReg (s.fld_raiseStatus hf hfits hn (g := wholeReg a) hlow hhigh ha)

/-! ## Lanes and contexts -/

section
variable (s : State) (i : Nat) (l : AcqLane)

theorem State.acqLane_setAcqLane_same : (s.setAcqLane i l).acqLane i = l := Sparse.get_put_same ..

theorem State.acqLane_setAcqLane_other {k : Nat} (h : k ≠ i) : (s.setAcqLane i l).acqLane k = s.acqLane k :=
  Sparse.get_put_other _ _ _ _ h

end

theorem State.acqLane_congr {s t : State} (h : t.acq = s.acq) (k : Nat) : t.acqLane k = s.acqLane k := by
  rw [State.acqLane, State.acqLane, h]

@[simp] theorem State.ctxOf_setCtx_same (s : State) (c : Nat) (v : BitVec 512) : (s.setCtx c v).ctxOf c = v := Sparse.get_put_same ..

theorem State.ctxOf_setCtx_other (s : State) {c k : Nat} (v : BitVec 512) (h : k ≠ c) : (s.setCtx c v).ctxOf k = s.ctxOf k :=
  Sparse.get_put_other _ _ _ _ h

theorem State.ctxOf_congr {s t : State} (h : t.acq = s.acq) (c : Nat) : t.ctxOf c = s.ctxOf c := by
  rw [State.ctxOf, State.ctxOf, h]

/-- A field of a context keeps its value when one above it is put. -/
theorem ctxGet_ctxPut_below {x : BitVec 512} {lo w v lo' w' : Nat} (h : lo' + w' ≤ lo) :
    ctxGet (ctxPut x lo w v) lo' w' = ctxGet x lo' w' := by
  have hle : ctxGet x lo w * 2 ^ lo ≤ x.toNat := by
    rw [ctxGet, Nat.shiftRight_eq_div_pow]
    exact (Nat.mul_le_mul_right _ (Nat.mod_le _ _)).trans (Nat.div_mul_le_self _ _)
  have hlow : (x.toNat - ctxGet x lo w * 2 ^ lo + v % 2 ^ w * 2 ^ lo) % 2 ^ lo = x.toNat % 2 ^ lo := by
    rw [Nat.add_mul_mod_self_right, Nat.mul_comm (ctxGet x lo w), Nat.sub_mul_mod (by rwa [Nat.mul_comm])]
  apply Nat.eq_of_testBit_eq
  intro k
  rw [ctxGet, ctxGet, ctxPut, BitVec.toNat_ofNat]
  simp only [Nat.testBit_mod_two_pow, Nat.testBit_shiftRight]
  by_cases hk : k < w'
  · have hbit := congrArg (fun y => y.testBit (lo' + k)) hlow
    simp only [Nat.testBit_mod_two_pow, show lo' + k < lo by omega, decide_true, Bool.true_and] at hbit
    rw [hbit]
    by_cases hsize : lo' + k < 512
    · rw [decide_eq_true hsize, Bool.true_and]
    · have hout : x.toNat.testBit (lo' + k) = false := BitVec.getLsbD_of_ge x _ (Nat.not_lt.1 hsize)
      rw [hout, Bool.and_false]
  · rw [decide_eq_false hk, Bool.false_and, Bool.false_and]

/-- The reductions leave the settings of a context, which lie below them, alone (R289, R292). -/
theorem ctxGet_ctxReduce_setting {x : BitVec 512} {v : Int} {lo w : Nat} (h : lo + w ≤ 88) :
    ctxGet (ctxReduce x v).1 lo w = ctxGet x lo w := by
  unfold ctxReduce
  dsimp only
  split
  · rfl
  · rw [ctxGet_ctxPut_below (by omega), ctxGet_ctxPut_below (by omega), ctxGet_ctxPut_below (by omega),
      ctxGet_ctxPut_below (by omega), ctxGet_ctxPut_below (by omega), ctxGet_ctxPut_below h]

end Sys2Proof.Machine

/-! PROOFS.  Words that the acquisition engine captures, and a rise of ACQ_CTRL.EN (R283 to R292, R298). -/

namespace Sys2Proof.Machine

/-! ## What a captured word does -/

/-- A lane after a further word (R283, R286). -/
def AcqLane.next (l : AcqLane) (cycle : Nat) : AcqLane := { l with count := l.count + 1, pos := some (l.count % cycle) }

/-- The front word of the inbox is taken, and its lane counts it. -/
def State.indexed (s : State) (i : Nat) (rest : List AcqWord) : State :=
  ({ s with acq := { s.acq with inbox := rest } } : State).setAcqLane i ((s.acqLane i).next (s.acqCycle i))

/-- The word's samples, where it is valid, in their contexts (R283 orders 3 and 4). -/
def State.sampled (s : State) (x : AcqWord) (n p : Nat) (eccs : List EccFind) : State :=
  if x.valid then s.samples x.lane n p x.value eccs else s

/-- The word goes to the archive while the lane's ring runs, and is lost there where `drop` says so (R297, R298). -/
def State.toArchive (s : State) (x : AcqWord) (n : Nat) (drop : Bool) : State :=
  if s.flag (Fld.ACQ_LN_CFG_ARCH x.lane) && !s.acqStopped x.lane then
    (if drop then s.archiveDrop x.lane n else s.archiveWrite x.lane n x.value x.valid) else s

section
variable {s : State} {i : Nat}

theorem State.acqLane_indexed (rest : List AcqWord) : (s.indexed i rest).acqLane i = (s.acqLane i).next (s.acqCycle i) :=
  State.acqLane_setAcqLane_same ..

theorem State.sampled_of_invalid {x : AcqWord} (h : x.valid = false) (n p : Nat) (eccs : List EccFind) : s.sampled x n p eccs = s :=
  if_neg (by rw [h]; exact Bool.false_ne_true)

theorem State.sampled_of_valid {x : AcqWord} (h : x.valid = true) (n p : Nat) (eccs : List EccFind) :
    s.sampled x n p eccs = s.samples x.lane n p x.value eccs := if_pos h

theorem State.toArchive_of_off {x : AcqWord} (h : s.flag (Fld.ACQ_LN_CFG_ARCH x.lane) = false) (n : Nat) (drop : Bool) :
    s.toArchive x n drop = s := if_neg (by rw [h, Bool.false_and]; exact Bool.false_ne_true)

theorem State.toArchive_lost {x : AcqWord} (harch : s.flag (Fld.ACQ_LN_CFG_ARCH x.lane) = true) (hruns : s.acqStopped x.lane = false)
    (n : Nat) : s.toArchive x n true = s.archiveDrop x.lane n := by
  rw [State.toArchive, harch, hruns]
  rfl

/-- With no stop index and no pending record a word has no further effect. -/
theorem State.settled_of_idle (hstop : (s.acqLane i).stop = none) (hrecs : s.acq.recs = []) : (s.stopReached i).buildCheck = s := by
  rw [State.stopReached, hstop]
  dsimp only
  rw [State.buildCheck, hrecs, List.foldl_nil]

/-- A word of one sample of a lane, in a context that is enabled, in its envelope and below saturation (R290 to R292). -/
theorem State.samples_one {n p bank offset : Nat} {w : Word64} (hspw : s.fld (Fld.ACQ_LN_CFG_SPW i) = 1) (hfixed : s.laneFixed i = false)
    (hbank : s.fld (Fld.ACQ_LN_CFG_BANK i) = bank) (hoffset : s.fld (Fld.ACQ_LN_MAP_OFFSET i) = offset)
    {c : Nat} (hc : c = bank * 4096 + offset + p) {ctx : BitVec 512} (hctx : s.ctxOf c = ctx) {y : Int}
    (hy : y = calibrate ctx (sampleOf (s.flag (Fld.ACQ_LN_CFG_SIGNED i)) (sampleWidth (s.fld (Fld.ACQ_LN_CFG_W i))) w 0))
    (hen : bitOf (ctxGet ctx 49 1) 0 = true) (hviol : s.violates c ctx y = false) {r : BitVec 512 × Bool}
    (hr : ctxReduce ctx y = r) (hsat : r.2 = false) :
    s.samples i n p w [.clean] = (s.setCtx c r.1).setCtx c (ctxPut r.1 44 5 0) := by
  let reduced := s.setCtx c r.1
  have hreduced : reduced.ctxOf c = r.1 := State.ctxOf_setCtx_same ..
  have hsample : s.sample i n c (sampleOf (s.flag (Fld.ACQ_LN_CFG_SIGNED i)) (sampleWidth (s.fld (Fld.ACQ_LN_CFG_W i))) w 0) =
      reduced := by
    rw [State.sample]
    dsimp only
    rw [hctx, ← hy, hen, hviol, hr, hsat]
    rfl
  have hstill : bitOf (ctxGet (reduced.ctxOf c) 49 1) 0 = true := by
    rw [hreduced, ← hr, ctxGet_ctxReduce_setting (by decide), hen]
  have hstillFixed : reduced.laneFixed i = false := hfixed
  have hphase : reduced.setRphase i c = reduced.setCtx c (ctxPut r.1 44 5 0) := by
    rw [State.setRphase, hstill, hstillFixed, hreduced]
    rfl
  rw [State.samples, hspw]
  dsimp only [List.range, List.range.loop, List.foldl, List.getD, State.ctxCheck]
  rw [Nat.add_zero, hbank, hoffset, ← hc]
  exact (congrArg (fun t : State => t.setRphase i c) hsample).trans hphase

end

section
variable {s : State} {x : AcqWord} {rest : List AcqWord} (hinbox : s.acq.inbox = x :: rest) (hreadout : x.readout = none)
  (hfull : x.full = false) (hen : s.flag Fld.ACQ_CTRL_EN = true) (hadmitted : s.admitted x.lane = true)
  (hsync : s.flag (Fld.ACQ_LN_CFG_SYNC x.lane) = false)
include hinbox hreadout hfull hen hadmitted hsync

/-- A word that found room in its queue, of a lane whose position counts words: the orders of R283. -/
theorem State.captureNext_eq (eccs : List EccFind) (drop : Bool) : s.captureNext eccs drop =
    (((((s.indexed x.lane rest).sampled x (s.acqLane x.lane).count ((s.acqLane x.lane).count % s.acqCycle x.lane) eccs).toArchive x
      (s.acqLane x.lane).count drop).stopReached x.lane).buildCheck) := by
  let taken : State := { s with acq := { s.acq with inbox := rest } }
  have htakensync : taken.flag (Fld.ACQ_LN_CFG_SYNC x.lane) = false := hsync
  have hpos : taken.acqPos x.lane (taken.acqLane x.lane).count x.value x.valid =
      some ((s.acqLane x.lane).count % s.acqCycle x.lane) := by
    rw [State.acqPos]
    exact if_pos (by rw [htakensync]; rfl)
  have hon : ¬ (!taken.flag Fld.ACQ_CTRL_EN || !taken.admitted x.lane) = true := by
    rw [show taken.flag Fld.ACQ_CTRL_EN = true from hen, show taken.admitted x.lane = true from hadmitted]
    exact Bool.false_ne_true
  have hcapture : s.captureNext eccs drop = taken.captureWord x eccs drop := by
    rw [State.captureNext, hinbox]
    dsimp only
    rw [hreadout]
  rw [hcapture, State.captureWord]
  dsimp only
  rw [if_neg hon, hpos, htakensync, hfull]
  rfl

variable (hstop : (s.acqLane x.lane).stop = none) (hrecs : s.acq.recs = [])
include hstop hrecs

/-- A word of a lane without archive only moves the lane on. -/
theorem captureWord_invalid_completes (hvalid : x.valid = false) (harch : s.flag (Fld.ACQ_LN_CFG_ARCH x.lane) = false) :
    Completes (.captureWord []) s fun t => t = s.indexed x.lane rest := by
  have hlane : ((s.indexed x.lane rest).acqLane x.lane).stop = none := (congrArg AcqLane.stop (State.acqLane_indexed rest)).trans hstop
  have hrun : s.captureNext [] false = s.indexed x.lane rest := by
    rw [State.captureNext_eq hinbox hreadout hfull hen hadmitted hsync, State.sampled_of_invalid hvalid,
      State.toArchive_of_off (s := s.indexed x.lane rest) harch, State.settled_of_idle hlane hrecs]
  exact ⟨_, congrArg Host.Outcome.next hrun, rfl⟩

theorem captureWord_sample_completes (hvalid : x.valid = true) (harch : s.flag (Fld.ACQ_LN_CFG_ARCH x.lane) = false)
    (hspw : s.fld (Fld.ACQ_LN_CFG_SPW x.lane) = 1) (hfixed : s.laneFixed x.lane = false) {c : Nat}
    (hc : c = s.fld (Fld.ACQ_LN_CFG_BANK x.lane) * 4096 + s.fld (Fld.ACQ_LN_MAP_OFFSET x.lane) +
      (s.acqLane x.lane).count % s.acqCycle x.lane) {y : Int}
    (hy : y = calibrate (s.ctxOf c) (sampleOf (s.flag (Fld.ACQ_LN_CFG_SIGNED x.lane))
      (sampleWidth (s.fld (Fld.ACQ_LN_CFG_W x.lane))) x.value 0))
    (hctxen : bitOf (ctxGet (s.ctxOf c) 49 1) 0 = true) (hviol : s.violates c (s.ctxOf c) y = false)
    {r : BitVec 512 × Bool} (hr : ctxReduce (s.ctxOf c) y = r) (hsat : r.2 = false) {ctx : BitVec 512}
    (hctx : ctxPut r.1 44 5 0 = ctx) : Completes (.captureWord [.clean]) s fun t =>
      t.ctxOf c = ctx ∧ (∀ k, k ≠ c → t.ctxOf k = s.ctxOf k) ∧
      t = { s with acq := { (s.indexed x.lane rest).acq with ctx := t.acq.ctx } } := by
  let indexed := s.indexed x.lane rest
  let phased := (indexed.setCtx c r.1).setCtx c ctx
  have hsampled : indexed.sampled x (s.acqLane x.lane).count ((s.acqLane x.lane).count % s.acqCycle x.lane) [.clean] = phased := by
    rw [State.sampled_of_valid hvalid, State.samples_one (s := indexed) hspw hfixed rfl rfl hc rfl hy hctxen hviol hr hsat, hctx]
  have hlane : (phased.acqLane x.lane).stop = none :=
    (congrArg AcqLane.stop (State.acqLane_indexed (s := s) (i := x.lane) rest)).trans hstop
  have hrun : s.captureNext [.clean] false = phased := by
    rw [State.captureNext_eq hinbox hreadout hfull hen hadmitted hsync, hsampled, State.toArchive_of_off (s := phased) harch,
      State.settled_of_idle hlane hrecs]
  refine ⟨phased, congrArg Host.Outcome.next hrun, State.ctxOf_setCtx_same .., fun k hk => ?_, rfl⟩
  exact (State.ctxOf_setCtx_other _ _ hk).trans (State.ctxOf_setCtx_other _ _ hk)

/-- A word whose archive write is lost is counted, adds to the lane's runs and raises EV341 (R298). -/
theorem archiveDrop_completes (hvalid : x.valid = false) (harch : s.flag (Fld.ACQ_LN_CFG_ARCH x.lane) = true)
    (hruns : s.acqStopped x.lane = false) (hcount : s.reg Reg.ACQ_ARCH_DROP ≠ 0xFFFFFFFF) : Completes .archiveDrop s fun t =>
      t.reg Reg.ACQ_ARCH_DROP = s.reg Reg.ACQ_ARCH_DROP + 1 ∧ t.flag Fld.ACQ_STATUS_ARCH_DROP = true ∧ t.sticky 341 = true ∧
      (t.acqLane x.lane).gaps = gapAdd (s.acqLane x.lane).count (s.acqLane x.lane).gaps ∧
      (t.acqLane x.lane).count = (s.acqLane x.lane).count + 1 ∧ t.acq.inbox = rest ∧
      OnlyEv [wholeReg Reg.ACQ_ARCH_DROP, Fld.ACQ_STATUS_ARCH_DROP] { s with acq := t.acq } t := by
  let indexed := s.indexed x.lane rest
  let lane := { indexed.acqLane x.lane with gaps := gapAdd (s.acqLane x.lane).count (indexed.acqLane x.lane).gaps }
  let gapped := indexed.setAcqLane x.lane lane
  let t := (gapped.countReg Reg.ACQ_ARCH_DROP).raiseBit Fld.ACQ_STATUS_ARCH_DROP 341
  have hacq : t.acq = gapped.acq := (State.raiseBit_acq ..).trans (State.countReg_acq ..)
  have hindexed : indexed.acqLane x.lane = (s.acqLane x.lane).next (s.acqCycle x.lane) := State.acqLane_indexed rest
  have hlane : t.acqLane x.lane = lane := (State.acqLane_congr hacq _).trans (State.acqLane_setAcqLane_same ..)
  have hstill : (t.acqLane x.lane).stop = none := by
    rw [hlane]
    exact (congrArg AcqLane.stop hindexed).trans hstop
  have hrun : s.captureNext [] true = t := by
    rw [State.captureNext_eq hinbox hreadout hfull hen hadmitted hsync, State.sampled_of_invalid hvalid,
      State.toArchive_lost (s := s.indexed x.lane rest) harch hruns]
    exact State.settled_of_idle hstill ((congrArg AcqSt.recs hacq).trans hrecs)
  obtain ⟨hflag, hsticky⟩ := (gapped.countReg Reg.ACQ_ARCH_DROP).raiseStatus_spec (f := Fld.ACQ_STATUS_ARCH_DROP) rfl rfl rfl
    (n := 341) (by decide)
  refine ⟨t, congrArg Host.Outcome.next hrun, ?_, hflag, hsticky, ?_, ?_, congrArg AcqSt.inbox hacq, ?_⟩
  · rw [State.reg_raiseStatus _ rfl rfl (by decide) (by decide) (by decide) (by decide)]
    exact State.reg_countReg_same (s := gapped) hcount
  · rw [hlane]
    show gapAdd _ (indexed.acqLane x.lane).gaps = _
    rw [hindexed]
    rfl
  · rw [hlane]
    exact congrArg AcqLane.count hindexed
  · rw [hacq]
    exact ((OnlyEv.refl _ _).countReg _ (by simp)).raiseBit _ _ rfl (by simp) (by decide)

end

/-! ## A rise of EN (R283, R317) -/

/-- SYNCED and STOPPED of every lane cleared. -/
def State.lanesCleared (s : State) : State :=
  (List.range 96).foldl (fun s k => (s.setFlag (Fld.ACQ_LN_STAT_SYNCED k) false).setFlag (Fld.ACQ_LN_STAT_STOPPED k) false) s

/-- The bits that a rise of EN clears. -/
def laneBits : List Field := (List.range 96).flatMap fun k => [Fld.ACQ_LN_STAT_SYNCED k, Fld.ACQ_LN_STAT_STOPPED k]

theorem mem_laneBits {k : Nat} (h : k ∈ List.range 96) : Fld.ACQ_LN_STAT_SYNCED k ∈ laneBits ∧ Fld.ACQ_LN_STAT_STOPPED k ∈ laneBits :=
  ⟨List.mem_flatMap.2 ⟨k, h, by simp⟩, List.mem_flatMap.2 ⟨k, h, by simp⟩⟩

theorem laneBits_apart {g : Field} (h : g.addr < 0x6001000) : ∀ f ∈ laneBits, f.apart g := by
  intro f hf
  obtain ⟨k, -, hk⟩ := List.mem_flatMap.1 hf
  refine Or.inl (Nat.ne_of_gt (Nat.lt_of_lt_of_le h ?_))
  simp only [List.mem_cons, List.not_mem_nil, or_false] at hk
  rcases hk with rfl | rfl <;> simp only [Reg.ACQ_LN_STAT] <;> omega

theorem Only.lanesCleared {w : List Field} {s t : State} (h : Only w s t) (hm : ∀ f ∈ laneBits, f ∈ w) : Only w s t.lanesCleared :=
  List.foldlRecOn _ _ h fun _ hu _ hk =>
    (hu.setFlag _ _ rfl (hm _ (mem_laneBits hk).1)).setFlag _ _ rfl (hm _ (mem_laneBits hk).2)

theorem State.lanesCleared_flags (s : State) {k : Nat} (hk : k < 96) :
    s.lanesCleared.flag (Fld.ACQ_LN_STAT_SYNCED k) = false ∧ s.lanesCleared.flag (Fld.ACQ_LN_STAT_STOPPED k) = false := by
  let cleared (t : State) : Prop := t.flag (Fld.ACQ_LN_STAT_SYNCED k) = false ∧ t.flag (Fld.ACQ_LN_STAT_STOPPED k) = false
  refine foldl_reaches (Q := fun _ => True) (P := cleared) (List.mem_range.2 hk) (fun _ _ _ _ => trivial) (fun t _ => ⟨?_, ?_⟩)
    (fun t j _ hj h => ⟨?_, ?_⟩) trivial
  · exact (State.flag_setFlag_apart _ _ _ _ rfl (by simp [Field.apart])).trans (State.flag_setFlag_same _ _ _ rfl rfl)
  · exact State.flag_setFlag_same _ _ _ rfl rfl
  all_goals
    have hne : Reg.ACQ_LN_STAT j ≠ Reg.ACQ_LN_STAT k := by simp only [Reg.ACQ_LN_STAT]; omega
    rw [State.flag_setFlag_apart _ _ _ _ rfl (Or.inl hne), State.flag_setFlag_apart _ _ _ _ rfl (Or.inl hne)]
  · exact h.1
  · exact h.2

theorem acqEnable_completes {s : State} (mid : Mid) (value : Word32) (hawake : s.awake Reg.ACQ_CTRL)
    (hoff : s.flag Fld.ACQ_CTRL_EN = false) : Completes (.acqEnable mid value) s fun t =>
      t.reg Reg.ACQ_CTRL = (value ||| 1) &&& 0xFFFF0003 ∧ t.flag Fld.ACQ_STATUS_RUN = true ∧ t.flag Fld.ACQ_STATUS_STOPPED = false ∧
      (∀ k < 96, t.flag (Fld.ACQ_LN_STAT_SYNCED k) = false ∧ t.flag (Fld.ACQ_LN_STAT_STOPPED k) = false) ∧
      Only ([wholeReg Reg.ACQ_CTRL, Fld.ACQ_STATUS_RUN, Fld.ACQ_STATUS_STOPPED] ++ laneBits)
        { s with acq := { s.acq with lanes := [], nextSeq := 0 } } t := by
  have hbit : bitOf (value ||| 1).toNat 0 = true := by
    rw [bitOf, BitVec.testBit_toNat, BitVec.getLsbD_or]
    simp
  let fresh : State := { s with acq := { s.acq with lanes := [], nextSeq := 0 } }
  let running := (fresh.setReg Reg.ACQ_CTRL ((value ||| 1) &&& 0xFFFF0003)).setFlag Fld.ACQ_STATUS_RUN true
  let archiving := running.setFlag Fld.ACQ_STATUS_STOPPED false
  have hrun : exec (.acqEnable mid value) s = .next (archiving.lanesCleared.reply Code.ok) := by
    refine congrArg Host.Outcome.next ?_
    rw [State.gate_of_awake hawake, State.acqCtrlWrite, hbit, hoff]
    rfl
  have hframe : Only laneBits archiving (archiving.lanesCleared.reply Code.ok) :=
    ((Only.refl _ _).lanesCleared fun _ h => h).reply _
  have hkeep {f : Field} (hf : f.addr < 0x6001000) : (archiving.lanesCleared.reply Code.ok).flag f = archiving.flag f := by
    rw [State.flag, State.flag, hframe.2 f (laneBits_apart hf)]
  refine ⟨_, hrun, ?_, ?_, ?_, fun k hk => ?_, ?_⟩
  · rw [hframe.reg_eq (a := Reg.ACQ_CTRL) (laneBits_apart (by decide)), State.reg_setFlag_other _ _ _ _ (by decide),
      State.reg_setFlag_other _ _ _ _ (by decide), State.reg_setReg_same]
  · rw [hkeep (by decide)]
    exact (State.flag_setFlag_apart _ _ _ _ rfl (by simp [Field.apart])).trans (State.flag_setFlag_same _ _ _ rfl rfl)
  · rw [hkeep (by decide)]
    exact State.flag_setFlag_same _ _ _ rfl rfl
  · rw [State.flag_reply, State.flag_reply]
    exact archiving.lanesCleared_flags hk
  · refine (Only.lanesCleared ?_ fun f hf => List.mem_append_right _ hf).reply _
    exact (((Only.refl _ fresh).setReg _ _ (by simp)).setFlag _ _ rfl (by simp)).setFlag _ _ rfl (by simp)

/-- Settles O36, clause by clause.  That a rise of EN clears STOPPED and the lanes' bits is the model's choice (log 107). -/
theorem captureOfWords : Obligations.CaptureOfWords := by
  intro mid value x rest s
  dsimp only
  refine ⟨fun hinbox hreadout hfull hen hadmitted hsync hstop hrecs =>
    ⟨captureWord_invalid_completes hinbox hreadout hfull hen hadmitted hsync hstop hrecs, fun hvalid harch hspw hfixed =>
      fun hctxen hviol hsat =>
      captureWord_sample_completes hinbox hreadout hfull hen hadmitted hsync hstop hrecs hvalid harch hspw hfixed rfl rfl hctxen hviol
        rfl hsat rfl,
    archiveDrop_completes hinbox hreadout hfull hen hadmitted hsync hstop hrecs⟩, acqEnable_completes mid value⟩

end Sys2Proof.Machine

/-! PROOFS.  Lane descriptors of the acquisition engine (R288, R318). -/

namespace Sys2Proof.Machine

/-! ## Registers that are plain storage -/

/-- A register of the manual whose fields are all RW or RO: no write clears a bit of it and no lock governs it (R9, R11). -/
def Reg.plain (a : Nat) : Bool := (Reg.row a).any fun r => r.w1c == 0 && r.rwl == 0

/-- A write of a plain register stores some value and completes with OK. -/
theorem State.storeReg_of_plain (s : State) {a : Nat} (v : Word32) (h : Reg.plain a = true) :
    ∃ w, s.storeReg a v = (s.setReg a w).reply Code.ok := by
  obtain ⟨r, hrow, hr⟩ := (Option.any_eq_true _ _).1 h
  obtain ⟨hw1c, hrwl⟩ : r.w1c = 0 ∧ r.rwl = 0 := by simpa using hr
  have hattempt (locked : Bool) (old : Word32) : r.attempt locked old v = false := by
    rw [RegRow.attempt, hrwl]
    cases locked <;> simp
  refine ⟨r.written (s.flag (lockOf a)) (s.reg a) v, ?_⟩
  rw [State.storeReg, hrow]
  dsimp only
  rw [hattempt, hw1c]
  rfl

/-- The register of word `word` of a lane's descriptor (R318). -/
def descriptorReg (lane : Fin 96) (word : Fin 3) : Nat := Reg.ACQ_LN_CFG lane + 4 * word.val

theorem plain_descriptorReg : ∀ (lane : Fin 96) (word : Fin 3), Reg.plain (descriptorReg lane word) = true := by decide +kernel

theorem descriptorReg_range (lane : Fin 96) (word : Fin 3) :
    0x6001000 ≤ descriptorReg lane word ∧ descriptorReg lane word < 0x6002000 := by
  simp only [descriptorReg, Reg.ACQ_LN_CFG]
  omega

theorem descriptorReg_ne_STAT (lane : Fin 96) (word : Fin 3) : descriptorReg lane word ≠ Reg.ACQ_LN_STAT lane := by
  simp only [descriptorReg, Reg.ACQ_LN_CFG, Reg.ACQ_LN_STAT]
  omega

/-! ## The check of a descriptor -/

section
variable (s : State) {i : Nat} (hi : i < 96)

theorem State.acqCheck_of_good (h : s.acqLaneBad i = false) :
    s.acqCheck i = (s.setFlag (Fld.ACQ_LN_STAT_ADMITTED i) true).reply Code.ok := if_neg (by rw [h]; exact Bool.false_ne_true)

/-- The bits of ACQ_LN_STAT of a lane whose descriptor is refused. -/
def State.laneRefused (s : State) (i : Nat) : State :=
  ((s.setFlag (Fld.ACQ_LN_STAT_ADMITTED i) false).setFld (Fld.ACQ_LN_STAT_CODE i) Code.acqCfg.toNat).setFlag (Fld.ACQ_LN_STAT_REFUSED i) true

theorem State.acqCheck_of_bad (h : s.acqLaneBad i = true) :
    s.acqCheck i = ((s.laneRefused i).raiseBit Fld.ACQ_STATUS_CFG_REFUSED 352).reply Code.acqCfg := if_pos h

theorem State.laneRefused_spec : (s.laneRefused i).flag (Fld.ACQ_LN_STAT_ADMITTED i) = false ∧
    (s.laneRefused i).flag (Fld.ACQ_LN_STAT_REFUSED i) = true ∧
    (s.laneRefused i).fld (Fld.ACQ_LN_STAT_CODE i) = Code.acqCfg.toNat := by
  refine ⟨?_, State.flag_setFlag_same _ _ _ rfl rfl, ?_⟩
  · rw [State.laneRefused, State.flag_setFlag_apart _ _ _ _ rfl (by simp [Field.apart]),
      State.flag_setFld_apart _ _ _ _ rfl (by simp [Field.apart])]
    exact State.flag_setFlag_same _ _ _ rfl rfl
  · rw [State.laneRefused, State.fld_setFlag_apart _ _ _ _ rfl (by simp [Field.apart]), State.fld_setFld_same _ _ _ rfl]
    exact Nat.mod_eq_of_lt Code.acqCfg.isLt

theorem State.reg_laneRefused {a : Nat} (h : a ≠ Reg.ACQ_LN_STAT i) : (s.laneRefused i).reg a = s.reg a := by
  rw [State.laneRefused, State.reg_setFlag_other _ _ _ _ h, State.reg_setFld_other _ _ _ _ h, State.reg_setFlag_other _ _ _ _ h]

/-- The lane's own registers keep their values when the refusal is reported. -/
theorem State.fld_refusalReported {f : Field} (hlow : 0x6001000 ≤ f.addr) (hhigh : f.addr < 0x6002000) :
    (s.raiseBit Fld.ACQ_STATUS_CFG_REFUSED 352).fld f = s.fld f :=
  s.fld_raiseStatus rfl rfl (by decide) (by omega) (by omega) (by simp only [Reg.ACQ_STATUS]; omega)

end

section
variable {s : State} {mid : Mid} {lane : Fin 96} {word : Fin 3} (value : Word32) (hawake : s.awake (descriptorReg lane word))
  (hmid : mid = 0x10)
include hawake hmid

/-- The loader's write of a descriptor is stored and checked. -/
theorem exec_laneDescriptorWrite : exec (.laneDescriptorWrite mid lane word value) s =
    .next ((s.storeReg (descriptorReg lane word) value).acqCheck lane) := by
  refine congrArg Host.Outcome.next ?_
  rw [← descriptorReg, State.gate_of_awake hawake, State.acqLaneWrite, if_neg fun h => h.2.1 hmid]
  rfl

theorem laneDescriptorWrite_admitted_completes (hgood : (s.storeReg (descriptorReg lane word) value).acqLaneBad lane = false) :
    Completes (.laneDescriptorWrite mid lane word value) s fun t =>
      t.reg (descriptorReg lane word) = (s.storeReg (descriptorReg lane word) value).reg (descriptorReg lane word) ∧
      t.flag (Fld.ACQ_LN_STAT_ADMITTED lane) = true ∧ t.done.status = Code.ok ∧
      Only [wholeReg (descriptorReg lane word), Fld.ACQ_LN_STAT_ADMITTED lane] s t := by
  obtain ⟨w, hstore⟩ := s.storeReg_of_plain value (plain_descriptorReg lane word)
  refine ⟨_, exec_laneDescriptorWrite value hawake hmid, ?_⟩
  rw [State.acqCheck_of_good _ hgood, hstore]
  refine ⟨?_, ?_, rfl, ?_⟩
  · rw [State.reg_reply, State.reg_setFlag_other _ _ _ _ (descriptorReg_ne_STAT lane word)]
  · rw [State.flag_reply, State.flag_setFlag_same _ _ _ rfl rfl]
  · exact ((((Only.refl _ s).setReg _ _ (by simp)).reply _).setFlag _ _ rfl (by simp)).reply _

theorem laneDescriptorWrite_refused_completes (hbad : (s.storeReg (descriptorReg lane word) value).acqLaneBad lane = true) :
    Completes (.laneDescriptorWrite mid lane word value) s fun t =>
      t.reg (descriptorReg lane word) = (s.storeReg (descriptorReg lane word) value).reg (descriptorReg lane word) ∧
      t.flag (Fld.ACQ_LN_STAT_ADMITTED lane) = false ∧ t.flag (Fld.ACQ_LN_STAT_REFUSED lane) = true ∧
      t.fld (Fld.ACQ_LN_STAT_CODE lane) = Code.acqCfg.toNat ∧ t.sticky 352 = true ∧ t.done.status = Code.acqCfg ∧
      OnlyEv [wholeReg (descriptorReg lane word), Fld.ACQ_LN_STAT_ADMITTED lane, Fld.ACQ_LN_STAT_CODE lane,
        Fld.ACQ_LN_STAT_REFUSED lane, Fld.ACQ_STATUS_CFG_REFUSED] s t := by
  obtain ⟨w, hstore⟩ := s.storeReg_of_plain value (plain_descriptorReg lane word)
  refine ⟨_, exec_laneDescriptorWrite value hawake hmid, ?_⟩
  rw [State.acqCheck_of_bad _ hbad]
  obtain ⟨hlow, hhigh⟩ := descriptorReg_range lane word
  generalize hstored : s.storeReg (descriptorReg lane word) value = stored at hstore
  have hkeep {f : Field} (hf : f.addr = Reg.ACQ_LN_STAT lane) :
      ((stored.laneRefused lane).raiseBit Fld.ACQ_STATUS_CFG_REFUSED 352).fld f = (stored.laneRefused lane).fld f :=
    State.fld_refusalReported _ (by rw [hf]; simp only [Reg.ACQ_LN_STAT]; omega) (by rw [hf]; simp only [Reg.ACQ_LN_STAT]; omega)
  obtain ⟨hadmitted, hrefused, hcode⟩ := stored.laneRefused_spec (i := lane)
  refine ⟨?_, (congrArg (· != 0) (hkeep rfl)).trans hadmitted, (congrArg (· != 0) (hkeep rfl)).trans hrefused, (hkeep rfl).trans hcode,
    State.sticky_raiseBit_same _ _ _ (by decide), rfl, ?_⟩
  · rw [State.reg_reply, State.reg_raiseStatus _ rfl rfl (by decide) (by omega) (by omega)
      (by simp only [Reg.ACQ_STATUS]; omega),
      State.reg_laneRefused _ (descriptorReg_ne_STAT lane word)]
  · rw [hstore]
    exact ((((((Only.refl _ s).setReg _ _ (by simp)).reply _).setFlag _ _ rfl (by simp)).setFld _ _ rfl (by simp)).setFlag _ _ rfl
      (by simp)).ev.raiseBit _ _ rfl (by simp) (by decide) |>.reply _

end

end Sys2Proof.Machine

/-! PROOFS.  Triggers and records of the acquisition engine (R300 to R304, R308 to R310, R314). -/

namespace Sys2Proof.Machine

/-! ## Commands accepted and refused (R314) -/

section
variable (s : State)

theorem State.acqAccept_spec : s.acqAccept.done.status = Code.ok ∧ s.acqAccept.fld Fld.ACQ_CMD_STAT_CODE = 0 ∧
    Only [Fld.ACQ_CMD_STAT_CODE] s s.acqAccept := by
  refine ⟨rfl, ?_, ((Only.refl _ s).setFld _ _ rfl (by simp)).reply _⟩
  rw [State.acqAccept, State.fld_reply, State.fld_setFld_same _ _ _ rfl]
  rfl

theorem State.reg_acqAccept {a : Nat} (h : a ≠ Reg.ACQ_CMD_STAT) : s.acqAccept.reg a = s.reg a := State.reg_setFld_other _ _ _ _ h

theorem State.acqRefuse_spec (code : Status) : (s.acqRefuse code).done.status = code ∧
    (s.acqRefuse code).fld Fld.ACQ_CMD_STAT_CODE = code.toNat ∧ (s.acqRefuse code).flag Fld.ACQ_STATUS_CMD_REFUSED = true ∧
    (s.acqRefuse code).sticky 354 = true ∧
    OnlyEv [Fld.ACQ_CMD_STAT_CODE, Fld.ACQ_STATUS_CMD_REFUSED] s (s.acqRefuse code) := by
  obtain ⟨hflag, hsticky⟩ := (s.setFld Fld.ACQ_CMD_STAT_CODE code.toNat).raiseStatus_spec (f := Fld.ACQ_STATUS_CMD_REFUSED) rfl rfl rfl
    (n := 354) (by decide)
  refine ⟨rfl, ?_, hflag, hsticky, ?_⟩
  · rw [State.acqRefuse, State.fld_reply, State.fld_raiseStatus _ rfl rfl (by decide) (by decide) (by decide) (by decide),
      State.fld_setFld_same _ _ _ rfl]
    exact Nat.mod_eq_of_lt code.isLt
  · exact (((OnlyEv.refl _ s).setFld _ _ rfl (by simp)).raiseBit _ _ rfl (by simp) (by decide)).reply _

end

/-! ## Records lost (R304) -/

/-- A lost record counted, with its code and its class. -/
def State.lossRecorded (s : State) (cls : Nat) (code : Status) : State :=
  ((s.countReg Reg.ACQ_REC_LOST).setFld Fld.ACQ_REC_STAT_CODE code.toNat).setFld Fld.ACQ_REC_STAT_CLASS cls

section
variable (s : State) (cls : Nat) (code : Status)

theorem State.recLost_refused : s.recLost cls code false = (s.lossRecorded cls code).raiseBit Fld.ACQ_STATUS_REC_REFUSED 345 := rfl

theorem State.recLost_link : s.recLost cls code true = (s.lossRecorded cls code).raiseBit Fld.ACQ_STATUS_TX_REFUSED 347 := rfl

/-- A record lost with a bit of ACQ_STATUS and its event. -/
theorem State.lossRaised_spec {f : Field} (hf : f.addr = Reg.ACQ_STATUS) (hfits : f.fits = true) (hwidth : f.width = 1) {n : Nat}
    (hn : n < 512) (hlost : s.reg Reg.ACQ_REC_LOST ≠ 0xFFFFFFFF) :
    let t := (s.lossRecorded cls code).raiseBit f n
    t.reg Reg.ACQ_REC_LOST = s.reg Reg.ACQ_REC_LOST + 1 ∧ t.fld Fld.ACQ_REC_STAT_CODE = code.toNat ∧
    t.fld Fld.ACQ_REC_STAT_CLASS = cls % 16 ∧ t.flag f = true ∧ t.sticky n = true ∧ t.acq = s.acq := by
  obtain ⟨hflag, hsticky⟩ := (s.lossRecorded cls code).raiseStatus_spec hf hfits hwidth hn
  refine ⟨?_, ?_, ?_, hflag, hsticky, ?_⟩
  · rw [State.reg_raiseStatus _ hf hfits hn (by decide) (by decide) (by decide), State.lossRecorded,
      State.reg_setFld_other _ _ _ _ (by decide), State.reg_setFld_other _ _ _ _ (by decide), State.reg_countReg_same hlost]
  · rw [State.fld_raiseStatus _ hf hfits hn (by decide) (by decide) (by decide), State.lossRecorded,
      State.fld_setFld_apart _ _ _ _ rfl (by simp [Field.apart]), State.fld_setFld_same _ _ _ rfl]
    exact Nat.mod_eq_of_lt code.isLt
  · rw [State.fld_raiseStatus _ hf hfits hn (by decide) (by decide) (by decide), State.lossRecorded, State.fld_setFld_same _ _ _ rfl]
    rfl
  · rw [State.raiseBit_acq, State.lossRecorded, State.setFld_acq, State.setFld_acq, State.countReg_acq]

end

/-! ## Triggers (R300, R301) -/

/-- With no lane of fixed latency the residual phases of a record are 0, and no free value is used (R231). -/
theorem State.phases_of_unfixed {s : State} {l : List Nat} (h : ∀ i ∈ l, s.laneFixed i = false) :
    s.phases l = (l.map fun i => (i, (s.acqLane i).count - 1, 0), s) := by
  induction l with
  | nil => rfl
  | cons i r ih =>
    rw [State.phases, h i List.mem_cons_self, if_neg Bool.false_ne_true, ih fun j hj => h j (List.mem_cons_of_mem _ hj)]
    rfl

/-- The record that a trigger of class `k` makes in this step where no lane of it has a fixed latency. -/
def State.recordMade (s : State) (k : Nat) : AcqRec :=
  { cls := k, seq := s.acq.nextSeq, turn := s.seq.turn, step := s.seq.step, time := s.now, cfg := s.reg (Reg.ACQ_CLS_CFG k),
    win := s.reg (Reg.ACQ_CLS_WIN k), meas := (s.reg (Reg.ACQ_CLS_MEAS k)).toNat % 2 ^ 18,
    lanes := (s.classLanes k).map fun i => (i, (s.acqLane i).count - 1, 0), complete := false, incomplete := false }

/-- The next SEQ is taken (R301). -/
def State.seqTaken (s : State) : State := { s with acq := { s.acq with nextSeq := (s.acq.nextSeq + 1) % 2 ^ 32 } }

section
variable {s : State} {k : Nat} (hen : s.flag (Fld.ACQ_CLS_CFG_EN k) = true) (hunfixed : ∀ i ∈ s.classLanes k, s.laneFixed i = false)
include hen hunfixed

theorem State.triggerClass_eq : s.triggerClass k s.seq.turn s.seq.step =
    match s.seqTaken.recRefusal (s.recordMade k) with
    | some c => s.seqTaken.recLost k c false
    | none => { s.seqTaken with acq := { s.seqTaken.acq with recs := s.seqTaken.acq.recs ++ [s.recordMade k] } } := by
  rw [State.triggerClass, hen, State.phases_of_unfixed hunfixed]
  rfl

theorem State.triggerClass_recorded (h : s.recRefusal (s.recordMade k) = none) : s.triggerClass k s.seq.turn s.seq.step =
    { s.seqTaken with acq := { s.seqTaken.acq with recs := s.acq.recs ++ [s.recordMade k] } } := by
  rw [State.triggerClass_eq hen hunfixed, show s.seqTaken.recRefusal (s.recordMade k) = none from h]
  rfl

theorem State.triggerClass_lost {c : Status} (h : s.recRefusal (s.recordMade k) = some c) : s.triggerClass k s.seq.turn s.seq.step =
    s.seqTaken.recLost k c false := by
  rw [State.triggerClass_eq hen hunfixed, show s.seqTaken.recRefusal (s.recordMade k) = some c from h]

end

section
variable {s : State} {mid : Mid} {cls : Fin 16}

theorem exec_acqTrigger (hawake : s.awake Reg.ACQ_CMD) : exec (.acqTrigger mid cls) s = .next (s.acqTrigger cls) :=
  congrArg Host.Outcome.next (State.gate_of_awake hawake _ _ _)

/-- A class that is off, or that another source triggers, takes no TRIGGER (R300, R314). -/
theorem acqTrigger_refused_completes (hawake : s.awake Reg.ACQ_CMD)
    (hoff : s.flag (Fld.ACQ_CLS_CFG_EN cls) = false ∨ s.fld (Fld.ACQ_CLS_CFG_SRC cls) ≠ 0) : Completes (.acqTrigger mid cls) s fun t =>
      t.done.status = Code.acqCfg ∧ t.fld Fld.ACQ_CMD_STAT_CODE = Code.acqCfg.toNat ∧ t.flag Fld.ACQ_STATUS_CMD_REFUSED = true ∧
      t.sticky 354 = true ∧ OnlyEv [Fld.ACQ_CMD_STAT_CODE, Fld.ACQ_STATUS_CMD_REFUSED] s t := by
  have hrun : s.acqTrigger cls = s.acqRefuse Code.acqCfg := by
    refine if_pos ?_
    rcases hoff with h | h
    · rw [h]; rfl
    · rw [bne_iff_ne.2 h, Bool.or_true]
  exact ⟨_, exec_acqTrigger hawake, hrun ▸ s.acqRefuse_spec Code.acqCfg⟩

section
variable (hunfixed : ∀ i ∈ s.classLanes cls, s.laneFixed i = false) (hen : s.flag (Fld.ACQ_CLS_CFG_EN cls) = true)
include hunfixed hen

section
variable (hawake : s.awake Reg.ACQ_CMD) (hsrc : s.fld (Fld.ACQ_CLS_CFG_SRC cls) = 0)
include hawake hsrc

omit hunfixed in
theorem exec_acqTrigger_taken : exec (.acqTrigger mid cls) s = .next (s.triggerClass cls s.seq.turn s.seq.step).acqAccept := by
  rw [exec_acqTrigger hawake, State.acqTrigger, hen, hsrc]
  rfl

theorem acqTrigger_completes (hnone : s.recRefusal (s.recordMade cls) = none) : Completes (.acqTrigger mid cls) s fun t =>
    t.done.status = Code.ok ∧ t.fld Fld.ACQ_CMD_STAT_CODE = 0 ∧
    Only [Fld.ACQ_CMD_STAT_CODE] { s with acq := { s.acq with
      nextSeq := (s.acq.nextSeq + 1) % 2 ^ 32, recs := s.acq.recs ++ [s.recordMade cls] } } t := by
  refine ⟨_, exec_acqTrigger_taken hen hawake hsrc, ?_⟩
  rw [State.triggerClass_recorded hen hunfixed hnone]
  exact State.acqAccept_spec _

theorem acqTrigger_lost_completes (c : Status) (hsome : s.recRefusal (s.recordMade cls) = some c)
    (hlost : s.reg Reg.ACQ_REC_LOST ≠ 0xFFFFFFFF) : Completes (.acqTrigger mid cls) s fun t =>
      t.reg Reg.ACQ_REC_LOST = s.reg Reg.ACQ_REC_LOST + 1 ∧ t.fld Fld.ACQ_REC_STAT_CODE = c.toNat ∧
      t.fld Fld.ACQ_REC_STAT_CLASS = cls ∧ t.flag Fld.ACQ_STATUS_REC_REFUSED = true ∧ t.sticky 345 = true ∧
      t.acq = { s.acq with nextSeq := (s.acq.nextSeq + 1) % 2 ^ 32 } := by
  refine ⟨_, exec_acqTrigger_taken hen hawake hsrc, ?_⟩
  rw [State.triggerClass_lost hen hunfixed hsome, State.recLost_refused]
  obtain ⟨hcount, hcode, hclass, hflag, hsticky, hacq⟩ :=
    s.seqTaken.lossRaised_spec cls c (f := Fld.ACQ_STATUS_REC_REFUSED) rfl rfl rfl (n := 345) (by decide) hlost
  generalize (s.seqTaken.lossRecorded cls c).raiseBit Fld.ACQ_STATUS_REC_REFUSED 345 = lost at *
  exact ⟨(lost.reg_acqAccept (by decide)).trans hcount, (State.fld_of_reg (lost.reg_acqAccept (by decide))).trans hcode,
    ((State.fld_of_reg (lost.reg_acqAccept (by decide))).trans hclass).trans (Nat.mod_eq_of_lt cls.isLt),
    (State.flag_of_reg (lost.reg_acqAccept (by decide))).trans hflag,
    (State.sticky_congr _ (lost.reg_acqAccept (by decide))).trans hsticky, hacq⟩

end

/-- A class whose source fires triggers once in a step. -/
theorem recordTrigger_completes (hrun : s.seqState = 2) (hfires : s.classFires cls = true)
    (hfirst : Sparse.get false s.acq.triggered cls = false) (hnone : s.recRefusal (s.recordMade cls) = none) :
    Completes (.recordTrigger cls) s fun t => Sparse.get false t.acq.triggered cls = true ∧
      t = { s with acq := { s.acq with triggered := t.acq.triggered, nextSeq := (s.acq.nextSeq + 1) % 2 ^ 32,
                                       recs := s.acq.recs ++ [s.recordMade cls] } } := by
  let noted : State := { s with acq := { s.acq with triggered := Sparse.put false s.acq.triggered cls true } }
  have htrigger := State.triggerClass_recorded (s := noted) (k := cls) hen hunfixed hnone
  have hstep : s.triggerStep cls = _ := (if_pos ⟨hrun, hfires, hfirst⟩).trans htrigger
  have hnoted : Sparse.get false (Sparse.put false s.acq.triggered cls true) cls = true := Sparse.get_put_same ..
  exact ⟨_, congrArg Host.Outcome.next hstep, hnoted, rfl⟩

end

end

/-! ## Records complete, and sent (R303, R308 to R310) -/

/-- The record taken from the pending ones. -/
def State.recordsGone (s : State) : State := { s with acq := { s.acq with recs := [] } }

/-- The frames of a link that is down wait (R264). -/
theorem State.pumpReadout_of_down {u : State} (h : ∀ f ∈ u.acq.readout, u.linkUp f.1 = false) : u.pumpReadout = u := by
  refine List.foldlRecOn (motive := fun t => t = u) _ _ rfl fun t ht f hf => ?_
  subst ht
  exact if_neg (by rw [h f hf, Bool.and_false, Bool.false_and, Bool.false_and]; exact Bool.false_ne_true)

theorem lane_of_mem_readoutFrames {lane turn : Nat} {ws : List Word64} {f : Nat × Nat × List Word64}
    (h : f ∈ readoutFrames lane turn ws) : f.1 = lane := by
  obtain ⟨k, -, rfl⟩ := List.mem_map.1 h
  rfl

/-- A transmission refused on a link leaves the count of lost records (R272). -/
theorem State.reg_txRefuse_recLost (s : State) (c : Status) {i : Nat} (hi : i < 128) :
    (s.txRefuse i c).reg Reg.ACQ_REC_LOST = s.reg Reg.ACQ_REC_LOST := by
  have hcode : Reg.ACQ_REC_LOST ≠ (Fld.LN_LE_STAT_TX_CODE i).addr := by
    show 0x06000044 ≠ 0x05001004 + i * 0x10000
    omega
  have hrefused : Reg.ACQ_REC_LOST ≠ (Fld.LN_LE_STAT_TX_REFUSED i).addr := hcode
  rw [State.txRefuse, State.reg_reply, State.linkRaise,
    State.reg_raiseBit_other _ (linkEvent_lt i) (eventSafe_of_serial (by decide) (by decide)) hrefused,
    State.reg_setFld_other _ _ _ _ hcode]

theorem State.txRefuse_acq (s : State) (c : Status) (i : Nat) : (s.txRefuse i c).acq = s.acq := by
  show (State.linkRaise ..).acq = s.acq
  rw [State.linkRaise_acq, State.setFld_acq]

section
variable {s : State} {r : AcqRec} {seq : Word32} (hrecs : s.acq.recs = [r]) (hseq : r.seq = seq.toNat)
include hrecs hseq

theorem recordComplete_completes (hready : s.recReady r = true) : Completes (.recordComplete seq) s fun t =>
    t = { s with acq := { s.acq with recs := [{ r with complete := true }] } } := by
  refine ⟨_, rfl, ?_⟩
  rw [hrecs, List.map_cons, if_pos ⟨hseq, hready⟩, List.map_nil]

theorem recordTimeout_completes (hready : s.recReady r = false) (hopen : r.complete = false) : Completes (.recordTimeout seq) s fun t =>
    t.acq = { s.acq with recs := [{ r with complete := true, incomplete := true }] } ∧
    t.flag Fld.ACQ_STATUS_REC_INCOMPLETE = true ∧ t.sticky 346 = true ∧
    OnlyEv [Fld.ACQ_STATUS_REC_INCOMPLETE] { s with acq := t.acq } t := by
  let closed : State := { s with acq := { s.acq with recs := [{ r with complete := true, incomplete := true }] } }
  have hrun : exec (.recordTimeout seq) s = .next (closed.raiseBit Fld.ACQ_STATUS_REC_INCOMPLETE 346) := by
    refine congrArg Host.Outcome.next ?_
    have hwaits : (r.seq == seq.toNat && !r.complete && !s.recReady r) = true := by
      rw [hready, hopen, hseq, beq_self_eq_true]
      rfl
    rw [hrecs, List.any_cons, hwaits, Bool.true_or, if_pos rfl, List.map_cons, if_pos hseq, List.map_nil]
  have hacq : (closed.raiseBit Fld.ACQ_STATUS_REC_INCOMPLETE 346).acq = closed.acq := State.raiseBit_acq ..
  obtain ⟨hflag, hsticky⟩ := closed.raiseStatus_spec (f := Fld.ACQ_STATUS_REC_INCOMPLETE) rfl rfl rfl (n := 346) (by decide)
  refine ⟨_, hrun, hacq, hflag, hsticky, ?_⟩
  rw [hacq]
  exact (OnlyEv.refl _ closed).raiseBit _ _ rfl (by simp) (by decide)

section
variable (hcomplete : r.complete = true)
include hcomplete

omit hseq hcomplete in
theorem filter_recs_eq_nil : s.acq.recs.filter (fun x => x.seq != r.seq) = [] := by
  rw [hrecs, List.filter_cons, bne_self_eq_false, if_neg Bool.false_ne_true, List.filter_nil]

/-- A complete record that is the only one leaves. -/
theorem exec_recordSend : exec (.recordSend seq) s = .next (s.sendRecord r) := by
  refine congrArg Host.Outcome.next ?_
  have hfound : (r.seq == seq.toNat) = true := beq_iff_eq.2 hseq
  rw [hrecs, List.find?_cons, hfound]
  dsimp only
  rw [List.find?_cons, beq_self_eq_true, hcomplete]
  simp

/-- A twin that does not own the outputs counts the record as sent (R310). -/
theorem recordSend_kept_completes (hhands : s.handsRecords = false) (hsent : s.reg Reg.ACQ_REC_SENT ≠ 0xFFFFFFFF) :
    Completes (.recordSend seq) s fun t =>
      t.reg Reg.ACQ_REC_SENT = s.reg Reg.ACQ_REC_SENT + 1 ∧ t.out = s.out ∧
      Only [wholeReg Reg.ACQ_REC_SENT] { s with acq := { s.acq with recs := [] } } t := by
  have hrun : s.sendRecord r = s.recordsGone.countReg Reg.ACQ_REC_SENT := by
    rw [State.sendRecord, filter_recs_eq_nil hrecs, hhands]
    rfl
  refine ⟨_, (exec_recordSend hrecs hseq hcomplete).trans (congrArg Host.Outcome.next hrun), State.reg_countReg_same (s := s.recordsGone) hsent,
    State.countReg_out .., (Only.refl _ _).countReg _ (by simp)⟩

section
variable (hhands : s.handsRecords = true)
include hhands

/-- A record for a Quire link that is down waits as READOUT frames (R309). -/
theorem recordSend_readout_completes (hkind : s.flag (Fld.ACQ_DEST_KIND (r.cfg.toNat / 2 ^ 24 % 16)) = true)
    (hdown : s.linkUp (s.fld (Fld.ACQ_DEST_LANE (r.cfg.toNat / 2 ^ 24 % 16))) = false) (hidle : s.acq.readout = []) :
    Completes (.recordSend seq) s fun t =>
      t.acq = { s.acq with
        recs := []
        readout := readoutFrames (s.fld (Fld.ACQ_DEST_LANE (r.cfg.toNat / 2 ^ 24 % 16))) r.turn (wordsOfBytes (s.recBytes r)) } ∧
      Only [wholeReg Reg.ACQ_REC_SENT] { s with acq := t.acq } t := by
  let ln := s.fld (Fld.ACQ_DEST_LANE (r.cfg.toNat / 2 ^ 24 % 16))
  let waiting : State := { s with acq := { s.acq with
    recs := [], readout := readoutFrames ln r.turn (wordsOfBytes (s.recBytes r)) } }
  have hpump : waiting.pumpReadout = waiting :=
    State.pumpReadout_of_down fun f hf => by rw [lane_of_mem_readoutFrames hf]; exact hdown
  have hrun : s.sendRecord r = waiting.countReg Reg.ACQ_REC_SENT := by
    rw [State.sendRecord]
    dsimp only
    rw [filter_recs_eq_nil hrecs, hhands, Bool.not_true, if_neg Bool.false_ne_true, if_pos hkind, hidle, List.nil_append]
    exact congrArg (State.countReg · Reg.ACQ_REC_SENT) hpump
  have hacq : (waiting.countReg Reg.ACQ_REC_SENT).acq = waiting.acq := State.countReg_acq ..
  refine ⟨_, (exec_recordSend hrecs hseq hcomplete).trans (congrArg Host.Outcome.next hrun), hacq, ?_⟩
  rw [hacq]
  exact (Only.refl _ waiting).countReg _ (by simp)

/-- A record whose datagrams the link engine refuses is lost (R304, R308). -/
theorem recordSend_refused_completes (c : Status) (hkind : s.flag (Fld.ACQ_DEST_KIND (r.cfg.toNat / 2 ^ 24 % 16)) = false)
    (hrefusal : s.udpRefusal (s.fld (Fld.ACQ_DEST_LANE (r.cfg.toNat / 2 ^ 24 % 16)))
      (s.fld (Fld.ACQ_DEST_ETH (r.cfg.toNat / 2 ^ 24 % 16))) = some c)
    (hlost : s.reg Reg.ACQ_REC_LOST ≠ 0xFFFFFFFF) : Completes (.recordSend seq) s fun t =>
      t.acq = { s.acq with recs := [] } ∧ t.reg Reg.ACQ_REC_LOST = s.reg Reg.ACQ_REC_LOST + 1 ∧
      t.fld Fld.ACQ_REC_STAT_CODE = c.toNat ∧ t.flag Fld.ACQ_STATUS_TX_REFUSED = true ∧ t.sticky 347 = true := by
  let ln := s.fld (Fld.ACQ_DEST_LANE (r.cfg.toNat / 2 ^ 24 % 16))
  have hlane : ln < 128 := Nat.mod_lt _ (Nat.two_pow_pos 7)
  have hrun : s.sendRecord r = (s.recordsGone.txRefuse ln c).recLost r.cls c true := by
    rw [State.sendRecord]
    dsimp only
    rw [filter_recs_eq_nil hrecs, hhands, Bool.not_true, if_neg Bool.false_ne_true, hkind, if_neg Bool.false_ne_true, hrefusal]
    rfl
  have hreg := s.recordsGone.reg_txRefuse_recLost c hlane
  refine ⟨_, (exec_recordSend hrecs hseq hcomplete).trans (congrArg Host.Outcome.next hrun), ?_⟩
  rw [State.recLost_link]
  obtain ⟨hcount, hcode, -, hflag, hsticky, hkept⟩ := (s.recordsGone.txRefuse ln c).lossRaised_spec r.cls c (f := Fld.ACQ_STATUS_TX_REFUSED)
    rfl rfl rfl (n := 347) (by decide) (by rw [hreg]; exact hlost)
  exact ⟨hkept.trans (State.txRefuse_acq ..), hcount.trans (congrArg (· + 1) hreg), hcode, hflag, hsticky⟩

end

end

end

end Sys2Proof.Machine

/-! PROOFS.  The lane descriptors, triggers and records of the acquisition engine: O37. -/

namespace Sys2Proof.Machine

/-- Settles O37, clause by clause.  That a written descriptor alone is checked again and that a trigger latches the registers of its class
(log 107), and how a destination is judged when the record is handed over (log 110), are the model's choices where the rules are silent. -/
theorem recordsAndTriggers : Obligations.RecordsAndTriggers := by
  intro mid lane word value seq cls r s
  refine ⟨fun hawake hmid => ⟨laneDescriptorWrite_admitted_completes value hawake hmid,
      laneDescriptorWrite_refused_completes value hawake hmid⟩,
    fun hunfixed hen => ⟨acqTrigger_completes hunfixed hen, fun c hawake hsrc => acqTrigger_lost_completes hunfixed hen hawake hsrc c,
      recordTrigger_completes hunfixed hen⟩,
    acqTrigger_refused_completes, fun hrecs hseq => ⟨recordComplete_completes hrecs hseq, recordTimeout_completes hrecs hseq,
      fun hcomplete => ⟨recordSend_kept_completes hrecs hseq hcomplete, recordSend_readout_completes hrecs hseq hcomplete,
        fun c hhands => recordSend_refused_completes hrecs hseq hcomplete hhands c⟩⟩⟩

end Sys2Proof.Machine

/-! PROOFS.  RESTART, DUMP, CLEAR and PRB_REARM of the acquisition engine (R294, R299, R313, R314). -/

namespace Sys2Proof.Machine

/-! ## Every archive runs on (R299) -/

theorem State.acqAccept_acq (s : State) : s.acqAccept.acq = s.acq := rfl

/-- From `s` to `t` only the fields of `w`, the engine's lanes, the last completion and the outputs change. -/
def OnlyLanes (w : List Field) (s t : State) : Prop := Only w { s with acq := { s.acq with lanes := t.acq.lanes } } t

/-- A lane runs on: its stop index and its STOPPED bit are gone. -/
def State.laneRestarted (s : State) (i : Nat) : State :=
  (s.setAcqLane i { s.acqLane i with stop := none }).setFlag (Fld.ACQ_LN_STAT_STOPPED i) false

theorem State.acqRestart_eq (s : State) :
    s.acqRestart = (List.range 96).foldl State.laneRestarted (s.setFlag Fld.ACQ_STATUS_STOPPED false) := rfl

theorem OnlyLanes.laneRestarted {w : List Field} {s t : State} (h : OnlyLanes w s t) (i : Nat) (hm : Fld.ACQ_LN_STAT_STOPPED i ∈ w) :
    OnlyLanes w s (t.laneRestarted i) :=
  ⟨congrArg (fun x : State => { x with acq := { x.acq with lanes := (t.laneRestarted i).acq.lanes } }) h.1,
    fun g hg => (State.fld_setFlag_apart _ _ _ _ rfl (hg _ hm)).trans (h.2 g hg)⟩

theorem OnlyLanes.acqAccept {w : List Field} {s t : State} (h : OnlyLanes w s t) (hm : Fld.ACQ_CMD_STAT_CODE ∈ w) :
    OnlyLanes w s t.acqAccept := (Only.setFld h _ _ rfl hm).reply Code.ok

section
variable (s : State) (i : Nat)

theorem State.acqLane_laneRestarted_same : (s.laneRestarted i).acqLane i = { s.acqLane i with stop := none } :=
  State.acqLane_setAcqLane_same ..

theorem State.acqLane_laneRestarted_other {k : Nat} (h : k ≠ i) : (s.laneRestarted i).acqLane k = s.acqLane k :=
  State.acqLane_setAcqLane_other _ _ _ h

theorem State.flag_laneRestarted_other {f : Field} (h : Reg.ACQ_LN_STAT i ≠ f.addr) : (s.laneRestarted i).flag f = s.flag f :=
  State.flag_setFlag_apart _ _ _ _ rfl (Or.inl h)

/-- A lane that RESTART has let run on. -/
def State.runsOn (s t : State) (k : Nat) : Prop :=
  t.acqLane k = { s.acqLane k with stop := none } ∧ t.flag (Fld.ACQ_LN_STAT_STOPPED k) = false

theorem State.runsOn_acqRestart {k : Nat} (hk : k < 96) : s.runsOn s.acqRestart k := by
  let untouched (t : State) : Prop := { t.acqLane k with stop := none } = { s.acqLane k with stop := none }
  rw [State.acqRestart_eq]
  refine foldl_reaches (Q := untouched) (P := fun t => s.runsOn t k) (List.mem_range.2 hk) (fun t i _ h => ?_) (fun t h => ⟨?_, ?_⟩)
    (fun t i _ hne h => ⟨?_, ?_⟩) rfl
  · show { (t.laneRestarted i).acqLane k with stop := none } = _
    by_cases hi : k = i
    · rw [← hi, State.acqLane_laneRestarted_same]
      exact h
    · rw [State.acqLane_laneRestarted_other _ _ hi]
      exact h
  · exact (State.acqLane_laneRestarted_same ..).trans h
  · exact State.flag_setFlag_same _ _ _ rfl rfl
  · exact (State.acqLane_laneRestarted_other _ _ hne.symm).trans h.1
  · have haddr : Reg.ACQ_LN_STAT i ≠ Reg.ACQ_LN_STAT k := by simp only [Reg.ACQ_LN_STAT]; omega
    exact (State.flag_laneRestarted_other _ _ haddr).trans h.2

theorem State.flag_acqRestart_STOPPED : s.acqRestart.flag Fld.ACQ_STATUS_STOPPED = false := by
  rw [State.acqRestart_eq, foldl_keeps (fun t => t.flag Fld.ACQ_STATUS_STOPPED) State.laneRestarted]
  · exact State.flag_setFlag_same _ _ _ rfl rfl
  · intro t i _
    refine State.flag_laneRestarted_other _ _ ?_
    simp only [Reg.ACQ_LN_STAT, Reg.ACQ_STATUS]
    omega

theorem State.acqRestart_frame {w : List Field} (hstopped : Fld.ACQ_STATUS_STOPPED ∈ w)
    (hlanes : ∀ k < 96, Fld.ACQ_LN_STAT_STOPPED k ∈ w) : OnlyLanes w s s.acqRestart := by
  rw [State.acqRestart_eq]
  exact List.foldlRecOn (motive := OnlyLanes w s) _ _ (Only.setFlag (Only.refl w s) _ _ rfl hstopped)
    fun t h k hk => h.laneRestarted k (hlanes k (List.mem_range.1 hk))

end

section
variable {s : State} {mid : Mid} (hawake : s.awake Reg.ACQ_CMD)
include hawake

theorem acqRestart_completes : Completes (.acqRestart mid) s fun t =>
    (∀ k < 96, t.acqLane k = { s.acqLane k with stop := none } ∧ t.flag (Fld.ACQ_LN_STAT_STOPPED k) = false) ∧
    t.flag Fld.ACQ_STATUS_STOPPED = false ∧ t.fld Fld.ACQ_CMD_STAT_CODE = 0 ∧ t.done.status = Code.ok ∧
    Only ([Fld.ACQ_STATUS_STOPPED, Fld.ACQ_CMD_STAT_CODE] ++ (List.range 96).map (fun k => Fld.ACQ_LN_STAT_STOPPED k))
      { s with acq := { s.acq with lanes := t.acq.lanes } } t := by
  obtain ⟨hdone, hcode, -⟩ := s.acqRestart.acqAccept_spec
  refine ⟨_, congrArg Host.Outcome.next (State.gate_of_awake hawake _ _ _), fun k hk => ?_, ?_, hcode, hdone, ?_⟩
  · obtain ⟨hlane, hflag⟩ := s.runsOn_acqRestart hk
    have haddr : Reg.ACQ_LN_STAT k ≠ Reg.ACQ_CMD_STAT := by simp only [Reg.ACQ_LN_STAT, Reg.ACQ_CMD_STAT]; omega
    exact ⟨(State.acqLane_congr (State.acqAccept_acq _) k).trans hlane, (State.flag_of_reg (State.reg_acqAccept _ haddr)).trans hflag⟩
  · exact (State.flag_of_reg (State.reg_acqAccept _ (by decide))).trans s.flag_acqRestart_STOPPED
  · exact OnlyLanes.acqAccept (s.acqRestart_frame (by simp) fun k hk => List.mem_append_right _ (List.mem_map_of_mem (List.mem_range.2 hk)))
      (by simp)

/-- PRB_REARM ends a freeze (R313). -/
theorem prbRearm_completes : Completes (.prbRearm mid) s fun t =>
    t.flag Fld.ACQ_PRB_STAT_FROZEN = false ∧ t.fld Fld.ACQ_CMD_STAT_CODE = 0 ∧ t.done.status = Code.ok ∧
    Only [Fld.ACQ_PRB_STAT_FROZEN, Fld.ACQ_CMD_STAT_CODE] { s with acq := { s.acq with freeze := none } } t := by
  obtain ⟨hdone, hcode, -⟩ := s.prbRearm.acqAccept_spec
  refine ⟨_, congrArg Host.Outcome.next (State.gate_of_awake hawake _ _ _), ?_, hcode, hdone, ?_⟩
  · exact (State.flag_of_reg (State.reg_acqAccept _ (by decide))).trans (State.flag_setFlag_same _ _ _ rfl rfl)
  · exact (((Only.refl _ _).setFlag Fld.ACQ_PRB_STAT_FROZEN false rfl (by simp)).setFld Fld.ACQ_CMD_STAT_CODE 0 rfl (by simp)).reply Code.ok

end

/-! ## A job begins, or is refused (R294, R314) -/

/-- The range of a dump, as the registers give it, lies in its region and in the engine's 64 banks. -/
def State.dumpFits (s : State) : Prop :=
  s.regionHolds (dumpRegion (s.reg Reg.ACQ_DUMP_CFG)) 0x12 ((s.reg Reg.ACQ_DUMP_BASE).toNat % 2 ^ 18 * 65536)
    (dumpBanks (s.reg Reg.ACQ_DUMP_CFG) * 262144) = true ∧
  dumpFirst (s.reg Reg.ACQ_DUMP_CFG) + dumpBanks (s.reg Reg.ACQ_DUMP_CFG) ≤ 64

/-- DUMP or CLEAR. -/
def jobCommand (mid : Mid) (copy : Bool) : Instr := if copy then .acqDump mid else .acqClear mid

/-- A job noted with the registers' range. -/
def State.jobNoted (s : State) (copy : Bool) : State :=
  { s with acq := { s.acq with
    job := some { copy := copy, cfg := s.reg Reg.ACQ_DUMP_CFG, base := (s.reg Reg.ACQ_DUMP_BASE).toNat % 2 ^ 18 } } }

section
variable {s : State} {mid : Mid} (hawake : s.awake Reg.ACQ_CMD)

include hawake in
theorem exec_jobCommand (copy : Bool) : exec (jobCommand mid copy) s = .next (s.startJob copy) := by
  cases copy
  all_goals exact congrArg Host.Outcome.next (State.gate_of_awake hawake _ _ _)

theorem State.startJob_busy (hjob : s.acq.job ≠ none) (copy : Bool) : s.startJob copy = s.acqRefuse Code.acqBusy :=
  if_pos (Option.isSome_iff_ne_none.2 hjob)

theorem State.dumpFits_iff : (!s.regionHolds (dumpRegion (s.reg Reg.ACQ_DUMP_CFG)) 0x12
      ((s.reg Reg.ACQ_DUMP_BASE).toNat % 2 ^ 18 * 65536) (dumpBanks (s.reg Reg.ACQ_DUMP_CFG) * 262144) ||
    decide (64 < dumpFirst (s.reg Reg.ACQ_DUMP_CFG) + dumpBanks (s.reg Reg.ACQ_DUMP_CFG))) = false ↔ s.dumpFits := by
  rw [State.dumpFits, Bool.or_eq_false_iff, Bool.not_eq_false', decide_eq_false_iff_not, Nat.not_lt]

section
variable (hjob : s.acq.job = none)
include hjob

theorem State.startJob_begins {copy : Bool} (hfits : copy = true → s.dumpFits) :
    s.startJob copy = ((s.jobNoted copy).setFlag Fld.ACQ_CMD_STAT_PENDING true).acqAccept := by
  rw [State.startJob, hjob]
  refine (if_neg Bool.false_ne_true).trans (if_neg ?_)
  cases copy with
  | false => exact Bool.false_ne_true
  | true =>
    rw [Bool.true_and, State.dumpFits_iff.2 (hfits rfl)]
    exact Bool.false_ne_true

theorem State.startJob_range (hfits : ¬ s.dumpFits) :
    s.startJob true = (s.raiseBit Fld.ACQ_STATUS_DUMP_FAIL 351).acqRefuse Code.acqRange := by
  rw [State.startJob, hjob]
  refine (if_neg Bool.false_ne_true).trans (if_pos ?_)
  rw [Bool.true_and]
  exact Bool.of_not_eq_false fun h => hfits (State.dumpFits_iff.1 h)

include hawake

theorem jobCommand_completes {copy : Bool} (hfits : copy = true → s.dumpFits) : Completes (jobCommand mid copy) s fun t =>
    t.flag Fld.ACQ_CMD_STAT_PENDING = true ∧ t.fld Fld.ACQ_CMD_STAT_CODE = 0 ∧ t.done.status = Code.ok ∧
    Only [Fld.ACQ_CMD_STAT_PENDING, Fld.ACQ_CMD_STAT_CODE] (s.jobNoted copy) t := by
  let begun := (s.jobNoted copy).setFlag Fld.ACQ_CMD_STAT_PENDING true
  obtain ⟨hdone, hcode, -⟩ := begun.acqAccept_spec
  refine ⟨_, (exec_jobCommand hawake copy).trans (congrArg Host.Outcome.next (State.startJob_begins hjob hfits)), ?_, hcode, hdone, ?_⟩
  · rw [State.acqAccept, State.flag_reply, State.flag_setFld_apart _ _ _ _ rfl (by simp [Field.apart])]
    exact State.flag_setFlag_same _ _ _ rfl rfl
  · exact (((Only.refl _ _).setFlag _ _ rfl (by simp)).setFld Fld.ACQ_CMD_STAT_CODE 0 rfl (by simp)).reply Code.ok

/-- A dump whose range does not fit is refused (R294). -/
theorem acqDump_range_completes (hfits : ¬ s.dumpFits) : Completes (.acqDump mid) s fun t =>
    t.done.status = Code.acqRange ∧ t.flag Fld.ACQ_STATUS_DUMP_FAIL = true ∧ t.sticky 351 = true ∧ t.sticky 354 = true ∧
    OnlyEv [Fld.ACQ_STATUS_DUMP_FAIL, Fld.ACQ_CMD_STAT_CODE, Fld.ACQ_STATUS_CMD_REFUSED] s t := by
  let failed := s.raiseBit Fld.ACQ_STATUS_DUMP_FAIL 351
  let coded := failed.setFld Fld.ACQ_CMD_STAT_CODE Code.acqRange.toNat
  obtain ⟨hflag, hsticky⟩ := s.raiseStatus_spec (f := Fld.ACQ_STATUS_DUMP_FAIL) rfl rfl rfl (n := 351) (by decide)
  obtain ⟨hdone, -, -, hrefused, -⟩ := failed.acqRefuse_spec Code.acqRange
  refine ⟨_, (exec_jobCommand hawake true).trans (congrArg Host.Outcome.next (State.startJob_range hjob hfits)), hdone, ?_, ?_, hrefused, ?_⟩
  · rw [State.acqRefuse, State.flag_reply,
      State.flag_raiseBit_apart _ _ _ (by decide) (eventSafe_of_serial (by decide) (by decide)) rfl (by simp [Field.apart]),
      State.flag_setFld_apart _ _ _ _ rfl (by simp [Field.apart])]
    exact hflag
  · have hcoded : coded.sticky 351 = true := (failed.sticky_setFld_above _ (by decide) (by decide)).trans hsticky
    have hmarked : (coded.setFlag Fld.ACQ_STATUS_CMD_REFUSED true).sticky 351 = true :=
      (coded.sticky_setFld_above _ (by decide) (by decide)).trans hcoded
    exact State.sticky_raise_keep _ 354 (by decide) hmarked
  · exact ((((OnlyEv.refl _ s).raiseBit _ _ rfl (by simp) (by decide)).setFld _ _ rfl (by simp)).raiseBit _ _ rfl (by simp)
      (by decide)).reply _

end

include hawake in
theorem jobCommand_busy_completes (hjob : s.acq.job ≠ none) (copy : Bool) : Completes (jobCommand mid copy) s fun t =>
    t.done.status = Code.acqBusy ∧ t.fld Fld.ACQ_CMD_STAT_CODE = Code.acqBusy.toNat ∧ t.sticky 354 = true ∧
    OnlyEv [Fld.ACQ_CMD_STAT_CODE, Fld.ACQ_STATUS_CMD_REFUSED] s t := by
  obtain ⟨hdone, hcode, -, hsticky, hframe⟩ := s.acqRefuse_spec Code.acqBusy
  exact ⟨_, (exec_jobCommand hawake copy).trans (congrArg Host.Outcome.next (State.startJob_busy hjob copy)), hdone, hcode, hsticky, hframe⟩

end

end Sys2Proof.Machine

/-! PROOFS.  Jobs of the acquisition engine that end (R293, R294). -/

namespace Sys2Proof.Machine

/-! ## Bytes beyond those stored -/

theorem hbmByte_setHbmBytes_above (s : State) {a b : Nat} (l : List Byte) (h : a + l.length ≤ b) :
    (s.setHbmBytes a l).hbmByte b = s.hbmByte b := by
  induction l generalizing s a with
  | nil => rfl
  | cons v r ih =>
    rw [List.length_cons] at h
    rw [State.setHbmBytes, ih _ (by omega), hbmByte_setHbmByte, if_neg (by omega)]

theorem length_bytesOfNat (n v : Nat) : (bytesOfNat n v).length = n := by
  rw [bytesOfNat, List.length_map, List.length_range]

/-- A number stored as `n` bytes reads back. -/
theorem hbmBytes_setHbmBytes_bytesOfNat (s : State) (a n v : Nat) :
    (s.setHbmBytes a (bytesOfNat n v)).hbmBytes a n = bytesOfNat n v := by
  have hread := hbmBytes_setHbmBytes s a (bytesOfNat n v)
  rwa [length_bytesOfNat] at hread

/-- Bytes stored from `a` on leave a range that ends before `a`. -/
theorem hbmBytes_setHbmBytes_below (s : State) {a b n : Nat} (l : List Byte) (h : b + n ≤ a) :
    (s.setHbmBytes a l).hbmBytes b n = s.hbmBytes b n := by
  refine List.map_congr_left fun i hi => hbmByte_setHbmBytes_below s l ?_
  have := List.mem_range.1 hi
  omega

theorem State.setHbmBytes_acq (s : State) (a : Nat) (l : List Byte) : (s.setHbmBytes a l).acq = s.acq := by
  obtain ⟨h, heq⟩ := s.setHbmBytes_eq a l
  rw [heq]

/-! ## One context of a job -/

/-- The job returns the contexts of its range to the empty state: CLEAR, or DUMP with CLR. -/
def AcqJob.empties (j : AcqJob) : Prop := j.copy = false ∨ bitOf j.cfg.toNat 17 = true

/-- A dump copies context `k` of its range, which begins at context `c0`, to its 64 bytes of the HBM from `addr` on. -/
def State.jobCopied (j : AcqJob) (c0 addr : Nat) (s : State) (k : Nat) : State :=
  if j.copy then s.setHbmBytes (addr + k * 64) (bytesOfNat 64 (s.ctxOf (c0 + k)).toNat) else s

/-- A job's work on context `k` of its range. -/
def State.jobStep (j : AcqJob) (c0 addr : Nat) (s : State) (k : Nat) : State :=
  if !j.copy || bitOf j.cfg.toNat 17 then (s.jobCopied j c0 addr k).setCtx (c0 + k) (ctxEmpty (s.ctxOf (c0 + k)))
  else s.jobCopied j c0 addr k

theorem State.setCtx_hbm (s : State) (c : Nat) (v : BitVec 512) : (s.setCtx c v).hbm = s.hbm := rfl

/-- The first `n` contexts of a job's range. -/
def State.jobSteps (s : State) (j : AcqJob) (c0 addr n : Nat) : State := (List.range n).foldl (State.jobStep j c0 addr) s

section
variable {j : AcqJob} {c0 addr : Nat}

theorem AcqJob.empties_iff : (!j.copy || bitOf j.cfg.toNat 17) = true ↔ j.empties := by
  rw [AcqJob.empties, Bool.or_eq_true, Bool.not_eq_true']

section
variable (s : State) (k : Nat)

theorem State.jobStep_of_empties (h : j.empties) :
    s.jobStep j c0 addr k = (s.jobCopied j c0 addr k).setCtx (c0 + k) (ctxEmpty (s.ctxOf (c0 + k))) := if_pos (AcqJob.empties_iff.2 h)

theorem State.jobStep_of_keeps (h : ¬ j.empties) : s.jobStep j c0 addr k = s.jobCopied j c0 addr k :=
  if_neg fun e => h (AcqJob.empties_iff.1 e)

theorem State.jobCopied_eq : ∃ h, s.jobCopied j c0 addr k = { s with hbm := h } := by
  rw [State.jobCopied]
  split
  · exact s.setHbmBytes_eq ..
  · exact ⟨_, rfl⟩

theorem State.jobStep_eq : ∃ c h, s.jobStep j c0 addr k = { s with acq := { s.acq with ctx := c }, hbm := h } := by
  obtain ⟨h, heq⟩ := s.jobCopied_eq (j := j) (c0 := c0) (addr := addr) k
  by_cases hempties : j.empties
  · rw [State.jobStep_of_empties s k hempties, heq]
    exact ⟨_, _, rfl⟩
  · rw [State.jobStep_of_keeps s k hempties, heq]
    exact ⟨_, _, rfl⟩

theorem State.hbm_jobStep : (s.jobStep j c0 addr k).hbm = (s.jobCopied j c0 addr k).hbm := by
  by_cases hempties : j.empties
  · rw [State.jobStep_of_empties s k hempties, State.setCtx_hbm]
  · rw [State.jobStep_of_keeps s k hempties]

theorem State.ctxOf_jobStep_same (h : j.empties) : (s.jobStep j c0 addr k).ctxOf (c0 + k) = ctxEmpty (s.ctxOf (c0 + k)) := by
  rw [State.jobStep_of_empties s k h, State.ctxOf_setCtx_same]

theorem State.ctxOf_jobStep_other {c : Nat} (h : c ≠ c0 + k ∨ ¬ j.empties) : (s.jobStep j c0 addr k).ctxOf c = s.ctxOf c := by
  obtain ⟨x, heq⟩ := s.jobCopied_eq (j := j) (c0 := c0) (addr := addr) k
  by_cases hempties : j.empties
  · rw [State.jobStep_of_empties s k hempties, State.ctxOf_setCtx_other _ _ (h.resolve_right fun hn => hn hempties), heq]
    rfl
  · rw [State.jobStep_of_keeps s k hempties, heq]
    rfl

end

/-! ## A job's range -/

section
variable (s : State) (n : Nat)

theorem State.jobSteps_succ : s.jobSteps j c0 addr (n + 1) = (s.jobSteps j c0 addr n).jobStep j c0 addr n := by
  rw [State.jobSteps, List.range_succ, List.foldl_append]
  rfl

theorem State.jobSteps_eq : ∃ c h, s.jobSteps j c0 addr n = { s with acq := { s.acq with ctx := c }, hbm := h } := by
  induction n with
  | zero => exact ⟨_, _, rfl⟩
  | succ n ih =>
    obtain ⟨c, h, heq⟩ := ih
    obtain ⟨c', h', heq'⟩ := (s.jobSteps j c0 addr n).jobStep_eq (j := j) (c0 := c0) (addr := addr) n
    refine ⟨c', h', ?_⟩
    rw [State.jobSteps_succ, heq', heq]

/-- A context outside what the job has reached keeps its value. -/
theorem State.ctxOf_jobSteps_other {c : Nat} (h : c < c0 ∨ c0 + n ≤ c ∨ ¬ j.empties) : (s.jobSteps j c0 addr n).ctxOf c = s.ctxOf c := by
  induction n with
  | zero => rfl
  | succ n ih =>
    have hstep : c ≠ c0 + n ∨ ¬ j.empties := by
      rcases h with h | h | h
      · exact Or.inl (by omega)
      · exact Or.inl (by omega)
      · exact Or.inr h
    rw [State.jobSteps_succ, State.ctxOf_jobStep_other _ _ hstep]
    exact ih (h.imp_right (Or.imp_left (by omega)))

theorem State.ctxOf_jobSteps_empty (hempties : j.empties) {k : Nat} (hk : k < n) :
    (s.jobSteps j c0 addr n).ctxOf (c0 + k) = ctxEmpty (s.ctxOf (c0 + k)) := by
  induction n with
  | zero => exact absurd hk (Nat.not_lt_zero k)
  | succ n ih =>
    rw [State.jobSteps_succ]
    by_cases hlast : k = n
    · rw [hlast, State.ctxOf_jobStep_same _ _ hempties, State.ctxOf_jobSteps_other s n (Or.inr (Or.inl (Nat.le_refl _)))]
    · rw [State.ctxOf_jobStep_other _ _ (Or.inl (by omega))]
      exact ih (by omega)

theorem State.hbm_jobSteps_of_clear (h : j.copy = false) : (s.jobSteps j c0 addr n).hbm = s.hbm :=
  foldl_keeps State.hbm _ _ s fun t k _ => by
    rw [State.hbm_jobStep, State.jobCopied, h]
    rfl

/-- The contexts that a dump has reached lie in the HBM, 64 bytes each, with the values they had. -/
theorem State.hbmBytes_jobSteps (hcopy : j.copy = true) {k : Nat} (hk : k < n) :
    (s.jobSteps j c0 addr n).hbmBytes (addr + k * 64) 64 = bytesOfNat 64 (s.ctxOf (c0 + k)).toNat := by
  induction n with
  | zero => exact absurd hk (Nat.not_lt_zero k)
  | succ n ih =>
    rw [State.jobSteps_succ, State.hbmBytes_congr (State.hbm_jobStep ..), State.jobCopied, if_pos hcopy]
    by_cases hlast : k = n
    · rw [hlast, hbmBytes_setHbmBytes_bytesOfNat, State.ctxOf_jobSteps_other s n (Or.inr (Or.inl (Nat.le_refl _)))]
    · rw [hbmBytes_setHbmBytes_below _ _ (by omega)]
      exact ih (by omega)

end

end

/-! ## The end of a job -/

/-- The first context of a job's range, its size in contexts, and the HBM address of a dump. -/
def AcqJob.first (j : AcqJob) : Nat := dumpFirst j.cfg * 4096
def AcqJob.size (j : AcqJob) : Nat := dumpBanks j.cfg * 4096
def AcqJob.addr (j : AcqJob) (s : State) : Nat := (s.fld (Fld.HBM_RGN_BASE_BASE (dumpRegion j.cfg)) + j.base) * 65536

/-- The job leaves the engine. -/
def State.jobGone (s : State) : State := { s with acq := { s.acq with job := none } }

section
variable {s : State} {j : AcqJob}

theorem AcqJob.size_le (j : AcqJob) : j.size ≤ 262144 := by
  have := Nat.mod_lt (j.cfg.toNat / 2048) (show 0 < 64 by decide)
  unfold AcqJob.size dumpBanks
  omega

theorem State.runJob_eq (s : State) (j : AcqJob) (n : Nat) : s.runJob j n = s.jobSteps j j.first (j.addr s) (min n j.size) := rfl

/-- A job that is gone clears PENDING and raises the bit and the event of its end. -/
theorem State.jobEnd_spec (s : State) {f : Field} (hf : f.addr = Reg.ACQ_STATUS) (hfits : f.fits = true) (hwidth : f.width = 1) {n : Nat}
    (hn : n < 512) : let t := (s.jobGone.setFlag Fld.ACQ_CMD_STAT_PENDING false).raiseBit f n
    t.acq = { s.acq with job := none } ∧ t.hbm = s.hbm ∧ t.flag Fld.ACQ_CMD_STAT_PENDING = false ∧ t.flag f = true ∧ t.sticky n = true ∧
    OnlyEv [Fld.ACQ_CMD_STAT_PENDING, f] s.jobGone t := by
  obtain ⟨hflag, hsticky⟩ := (s.jobGone.setFlag Fld.ACQ_CMD_STAT_PENDING false).raiseStatus_spec hf hfits hwidth hn
  have hframe : OnlyEv [Fld.ACQ_CMD_STAT_PENDING, f] s.jobGone
      ((s.jobGone.setFlag Fld.ACQ_CMD_STAT_PENDING false).raiseBit f n) :=
    ((OnlyEv.refl _ _).setFlag _ _ rfl (by simp)).raiseBit _ _ hfits (by simp) hn
  refine ⟨State.raiseBit_acq .., (congrArg (fun x : State => x.hbm) hframe.1 :), ?_, hflag, hsticky, hframe⟩
  rw [State.flag_of_reg (State.reg_raiseStatus _ hf hfits hn (by decide) (by decide) (by decide))]
  exact State.flag_setFlag_same _ _ _ rfl rfl

/-- What a job that has run over `n` contexts and is gone leaves. -/
theorem OnlyEv.ofJob {w : List Field} {c0 addr n : Nat} {t : State} (hacq : t.acq = { (s.jobSteps j c0 addr n).acq with job := none })
    (hhbm : t.hbm = (s.jobSteps j c0 addr n).hbm) (h : OnlyEv w (s.jobSteps j c0 addr n).jobGone t) :
    OnlyEv w { s with acq := t.acq, hbm := t.hbm } t := by
  obtain ⟨c, x, heq⟩ := s.jobSteps_eq (j := j) (c0 := c0) (addr := addr) n
  rw [heq] at hacq hhbm h
  rw [hacq, hhbm]
  exact h

variable (hjob : s.acq.job = some j)
include hjob

/-- A job that is done has worked on its whole range (R294). -/
theorem dumpDone_completes : Completes .dumpDone s fun t =>
    t.acq.job = none ∧ t.flag Fld.ACQ_CMD_STAT_PENDING = false ∧ t.flag Fld.ACQ_STATUS_DUMP_DONE = true ∧ t.sticky 350 = true ∧
    (∀ k < j.size, (j.empties → t.ctxOf (j.first + k) = ctxEmpty (s.ctxOf (j.first + k))) ∧
      (j.copy = true → t.hbmBytes (j.addr s + k * 64) 64 = bytesOfNat 64 (s.ctxOf (j.first + k)).toNat)) ∧
    (∀ c, c < j.first ∨ j.first + j.size ≤ c ∨ ¬ j.empties → t.ctxOf c = s.ctxOf c) ∧ (j.copy = false → t.hbm = s.hbm) ∧
    OnlyEv [Fld.ACQ_CMD_STAT_PENDING, Fld.ACQ_STATUS_DUMP_DONE] { s with acq := t.acq, hbm := t.hbm } t := by
  let ran := s.jobSteps j j.first (j.addr s) j.size
  have hran : s.runJob j 262144 = ran := by rw [State.runJob_eq, Nat.min_eq_right j.size_le]
  have hrun : exec .dumpDone s = .next ((ran.jobGone.setFlag Fld.ACQ_CMD_STAT_PENDING false).raiseBit Fld.ACQ_STATUS_DUMP_DONE 350) := by
    refine congrArg Host.Outcome.next ?_
    rw [hjob, ← hran]
    rfl
  obtain ⟨hacq, hhbm, hpending, hflag, hsticky, hframe⟩ := ran.jobEnd_spec (f := Fld.ACQ_STATUS_DUMP_DONE) rfl rfl rfl (n := 350) (by decide)
  refine ⟨_, hrun, congrArg AcqSt.job hacq, hpending, hflag, hsticky, fun k hk => ⟨fun hempties => ?_, fun hcopy => ?_⟩, fun c hc => ?_,
    fun hclear => ?_, OnlyEv.ofJob hacq hhbm hframe⟩
  · exact (congrArg (fun a : AcqSt => Sparse.get 0 a.ctx (j.first + k)) hacq).trans (s.ctxOf_jobSteps_empty j.size hempties hk)
  · exact (State.hbmBytes_congr hhbm _ _).trans (s.hbmBytes_jobSteps j.size hcopy hk)
  · exact (congrArg (fun a : AcqSt => Sparse.get 0 a.ctx c) hacq).trans (s.ctxOf_jobSteps_other j.size hc)
  · exact hhbm.trans (s.hbm_jobSteps_of_clear j.size hclear)

/-- A dump that fails leaves the contexts that it had not reached (R294). -/
theorem dumpFail_completes {copied : Nat} (hcopy : j.copy = true) : Completes (.dumpFail copied) s fun t =>
    t.acq.job = none ∧ t.flag Fld.ACQ_CMD_STAT_PENDING = false ∧ t.flag Fld.ACQ_STATUS_DUMP_FAIL = true ∧ t.sticky 351 = true ∧
    (∀ c, c < j.first ∨ j.first + copied ≤ c → t.ctxOf c = s.ctxOf c) ∧
    OnlyEv [Fld.ACQ_CMD_STAT_PENDING, Fld.ACQ_STATUS_DUMP_FAIL] { s with acq := t.acq, hbm := t.hbm } t := by
  let n := min copied j.size
  let ran := s.jobSteps j j.first (j.addr s) n
  have hrun : exec (.dumpFail copied) s =
      .next ((ran.jobGone.setFlag Fld.ACQ_CMD_STAT_PENDING false).raiseBit Fld.ACQ_STATUS_DUMP_FAIL 351) := by
    refine congrArg Host.Outcome.next ?_
    rw [hjob]
    dsimp only
    rw [hcopy]
    rfl
  obtain ⟨hacq, hhbm, hpending, hflag, hsticky, hframe⟩ := ran.jobEnd_spec (f := Fld.ACQ_STATUS_DUMP_FAIL) rfl rfl rfl (n := 351) (by decide)
  refine ⟨_, hrun, congrArg AcqSt.job hacq, hpending, hflag, hsticky, fun c hc => ?_, OnlyEv.ofJob hacq hhbm hframe⟩
  have hreach : n ≤ copied := Nat.min_le_left ..
  refine (congrArg (fun a : AcqSt => Sparse.get 0 a.ctx c) hacq).trans (s.ctxOf_jobSteps_other n ?_)
  exact hc.imp_right fun h => Or.inl (by omega)

end

end Sys2Proof.Machine

/-! PROOFS.  The context window and the probe buffers of the acquisition engine, and its jobs: O38 (R294 to R296, R299, R312 to R314). -/

namespace Sys2Proof.Machine

/-! ## The context window (R295, R296) -/

/-- An uncorrectable context is cleared, and the record takes it (R295). -/
theorem State.ctxUnc_spec (s : State) (c : Nat) : (s.ctxUnc c).ctxOf c = 0 ∧ (∀ k, k ≠ c → (s.ctxUnc c).ctxOf k = s.ctxOf k) ∧
    (s.ctxUnc c).fld Fld.ACQ_ECC_CTX_CTX = c % 2 ^ 18 ∧ (s.ctxUnc c).flag Fld.ACQ_ECC_CTX_VALID = true ∧ (s.ctxUnc c).sticky 342 = true := by
  let noted := (s.setCtx c 0).setFld Fld.ACQ_ECC_CTX_CTX c
  let valid := noted.setFlag Fld.ACQ_ECC_CTX_VALID true
  have hacq : (s.ctxUnc c).acq = (s.setCtx c 0).acq := State.raiseBit_acq ..
  have hreg : (s.ctxUnc c).reg Reg.ACQ_ECC_CTX = valid.reg Reg.ACQ_ECC_CTX :=
    valid.reg_raiseStatus rfl rfl (by decide) (by decide) (by decide) (by decide)
  refine ⟨(State.ctxOf_congr hacq c).trans (State.ctxOf_setCtx_same ..),
    fun k hk => (State.ctxOf_congr hacq k).trans (State.ctxOf_setCtx_other _ _ hk), ?_, ?_, State.sticky_raiseBit_same _ _ _ (by decide)⟩
  · rw [State.fld_of_reg (f := Fld.ACQ_ECC_CTX_CTX) hreg]
    exact (State.fld_setFlag_apart _ _ _ _ rfl (by simp [Field.apart])).trans (State.fld_setFld_same _ _ _ rfl)
  · rw [State.flag_of_reg (f := Fld.ACQ_ECC_CTX_VALID) hreg]
    exact State.flag_setFlag_same _ _ _ rfl rfl

section
variable (s : State) (w : Nat)

/-- The context of word `w` of the window. -/
def State.wordCtx : Nat := 131072 * s.fld Fld.ACQ_CTX_WIN_HALF + w / 16

/-- Word `w` of the window, of a context `x`. -/
def ctxWord (w : Nat) (x : BitVec 512) : Word32 := BitVec.ofNat 32 (x.toNat >>> (32 * (w % 16)))

theorem State.windowCtx_word : s.windowCtx (4 * w) = s.wordCtx w := by
  rw [State.windowCtx, State.wordCtx, show 4 * w / 64 = w / 16 by omega]

theorem wordShift : 8 * (4 * w % 64) = 32 * (w % 16) := by omega

/-- The state in which a read has latched the window's context. -/
def State.latched (s u : State) : State := { u with acq := { u.acq with latch := some (s.wordCtx w, u.ctxOf (s.wordCtx w)) } }

theorem State.ctxWindowRead_first (hfirst : w % 16 = 0) : s.ctxWindowRead (4 * w) .clean =
    (s.latched w s).reply Code.ok (ctxWord w (s.ctxOf (s.wordCtx w))) := by
  rw [State.ctxWindowRead]
  dsimp only
  rw [if_pos (by omega), State.windowCtx_word, wordShift]
  rfl

theorem State.ctxWindowRead_uncorrectable (hfirst : w % 16 = 0) : s.ctxWindowRead (4 * w) .uncorrectable =
    (s.latched w (s.ctxUnc (s.wordCtx w))).reply Code.eccFatal := by
  rw [State.ctxWindowRead]
  dsimp only
  rw [if_pos (by omega), State.windowCtx_word]
  rfl

theorem State.ctxWindowRead_latched {x : BitVec 512} (hlater : w % 16 ≠ 0) (hlatch : s.acq.latch = some (s.wordCtx w, x)) :
    s.ctxWindowRead (4 * w) .clean = s.reply Code.ok (ctxWord w x) := by
  rw [State.ctxWindowRead]
  dsimp only
  rw [if_neg (by omega), hlatch, State.windowCtx_word, wordShift]
  exact if_pos rfl

/-- The staging buffer with a word of the window put in it. -/
def State.stagedWith (value : Word32) : BitVec 512 := ctxPut s.acq.staged (32 * (w % 16)) 32 value.toNat

/-- The state in which the staging buffer holds `x`. -/
def State.withStaged (s : State) (x : BitVec 512) : State := { s with acq := { s.acq with staged := x } }

theorem State.ctxWindowWrite_word (value : Word32) : s.ctxWindowWrite (4 * w) value =
    (if w % 16 = 15 then (s.withStaged (s.stagedWith w value)).setCtx (s.wordCtx w) (s.stagedWith w value)
      else s.withStaged (s.stagedWith w value)).reply Code.ok := by
  have hplace : 8 * (4 * w % 64 / 4 * 4) = 32 * (w % 16) := by omega
  have hlast : 4 * w % 64 = 60 ↔ w % 16 = 15 := by omega
  rw [State.ctxWindowWrite]
  dsimp only
  rw [hplace]
  simp only [hlast]
  rw [show State.windowCtx _ (4 * w) = s.wordCtx w from s.windowCtx_word w]
  rfl

end

section
variable {s : State} {mid : Mid} {word : Fin 2097152} (hawake : s.awake (0x06800000 + 4 * word.val))
include hawake

theorem exec_contextWindowRead (ecc : EccFind) : exec (.contextWindowRead mid word ecc) s = .next (s.ctxWindowRead (4 * word.val) ecc) :=
  congrArg Host.Outcome.next (State.gate_of_awake hawake _ _ _)

theorem contextWindowRead_first_completes (hfirst : word.val % 16 = 0) : Completes (.contextWindowRead mid word .clean) s fun t =>
    t = { s with
      acq := { s.acq with latch := some (s.wordCtx word, s.ctxOf (s.wordCtx word)) }
      done := { status := Code.ok, data := ctxWord word (s.ctxOf (s.wordCtx word)) } } := by
  refine ⟨_, exec_contextWindowRead hawake _, ?_⟩
  rw [State.ctxWindowRead_first s word hfirst]
  rfl

theorem contextWindowRead_latched_completes (x : BitVec 512) (hlater : word.val % 16 ≠ 0)
    (hlatch : s.acq.latch = some (s.wordCtx word, x)) : Completes (.contextWindowRead mid word .clean) s fun t =>
      t = { s with done := { status := Code.ok, data := ctxWord word x } } := by
  refine ⟨_, exec_contextWindowRead hawake _, ?_⟩
  rw [State.ctxWindowRead_latched s word hlater hlatch]
  rfl

theorem contextWindowRead_uncorrectable_completes (hfirst : word.val % 16 = 0) :
    Completes (.contextWindowRead mid word .uncorrectable) s fun t =>
      t.done.status = Code.eccFatal ∧ t.ctxOf (s.wordCtx word) = 0 ∧ (∀ k, k ≠ s.wordCtx word → t.ctxOf k = s.ctxOf k) ∧
      t.fld Fld.ACQ_ECC_CTX_CTX = s.wordCtx word % 2 ^ 18 ∧ t.flag Fld.ACQ_ECC_CTX_VALID = true ∧ t.sticky 342 = true := by
  refine ⟨_, exec_contextWindowRead hawake _, ?_⟩
  rw [State.ctxWindowRead_uncorrectable s word hfirst]
  have hspec := s.ctxUnc_spec (s.wordCtx word)
  generalize s.ctxUnc (s.wordCtx word) = cleared at hspec
  exact ⟨rfl, hspec⟩

/-- A word written is staged; the last word of a context commits it (R296). -/
theorem contextWindowWrite_completes (value : Word32) : Completes (.contextWindowWrite mid word value) s fun t =>
    t.acq.staged = s.stagedWith word value ∧
    (word.val % 16 = 15 → t.ctxOf (s.wordCtx word) = s.stagedWith word value ∧ ∀ k, k ≠ s.wordCtx word → t.ctxOf k = s.ctxOf k) ∧
    (word.val % 16 ≠ 15 → t.acq.ctx = s.acq.ctx) ∧
    t = { s with
      acq := { s.acq with staged := s.stagedWith word value, ctx := t.acq.ctx }
      done := { status := Code.ok, data := 0 } } := by
  refine ⟨_, congrArg Host.Outcome.next (State.gate_of_awake hawake _ _ _), ?_⟩
  rw [State.ctxWindowWrite_word]
  generalize s.stagedWith word value = x
  split
  · next hlast =>
    exact ⟨rfl, fun _ => ⟨State.ctxOf_setCtx_same (s.withStaged x) _ x, fun k hk => State.ctxOf_setCtx_other (s.withStaged x) x hk⟩,
      fun h => absurd hlast h, rfl⟩
  · next hearlier => exact ⟨rfl, fun h => absurd h hearlier, fun _ => rfl, rfl⟩

end

/-! ## Probe buffers (R312) -/

/-- The right to write a byte rests on the region registers alone (R325, R326). -/
theorem State.hbmMay_congr {s t : State} (h : ∀ f : Field, 0x7000000 ≤ f.addr → t.fld f = s.fld f) (mid : Mid) (a : Nat) (write : Bool) :
    t.hbmMay mid a write = s.hbmMay mid a write := by
  have hflag {f : Field} (hf : 0x7000000 ≤ f.addr) : t.flag f = s.flag f := by rw [State.flag, State.flag, h f hf]
  have hin (r : Nat) : t.inRegion r a = s.inRegion r a := by
    rw [State.inRegion, State.inRegion, hflag (f := Fld.HBM_RGN_OWN_EN r) (Nat.le_add_right_of_le (by decide)),
      h (Fld.HBM_RGN_BASE_BASE r) (Nat.le_add_right_of_le (by decide)), h (Fld.HBM_RGN_SIZE_SIZE r) (Nat.le_add_right_of_le (by decide))]
  have hregion : t.regionOf a = s.regionOf a := by
    rw [State.regionOf, State.regionOf]
    simp only [hin]
  rw [State.hbmMay, State.hbmMay, hregion]
  cases s.regionOf a with
  | none => rfl
  | some r =>
    dsimp only
    rw [h (Fld.HBM_RGN_OWN_OWNER r) (Nat.le_add_right_of_le (by decide)),
      hflag (f := Fld.HBM_RGN_OWN_MIRROR r) (Nat.le_add_right_of_le (by decide)),
      h (Fld.HBM_RGN_CFG_MGTACC r) (Nat.le_add_right_of_le (by decide))]

theorem hbmByte_setHbmBytes_outside (s : State) {a b : Nat} (l : List Byte) (h : b < a ∨ a + l.length ≤ b) :
    (s.setHbmBytes a l).hbmByte b = s.hbmByte b :=
  h.elim (hbmByte_setHbmBytes_below s l) (hbmByte_setHbmBytes_above s l)

/-- The oldest buffer free again. -/
def State.bufferFreed (s : State) (rest : List ProbeBuf) : State :=
  ({ s with acq := { s.acq with probes := rest } } : State).setFld Fld.ACQ_PRB_STAT_FREE (s.fld Fld.ACQ_PRB_STAT_FREE + 1)

section
variable {s : State} {b : ProbeBuf} {rest : List ProbeBuf}

theorem State.bufferFreed_frame (s : State) (rest : List ProbeBuf) :
    Only [Fld.ACQ_PRB_STAT_FREE] { s with acq := { s.acq with probes := rest } } (s.bufferFreed rest) :=
  (Only.refl _ _).setFld _ _ rfl (by simp)

theorem State.fld_bufferFreed (hroom : s.fld Fld.ACQ_PRB_STAT_FREE < 15) :
    (s.bufferFreed rest).fld Fld.ACQ_PRB_STAT_FREE = s.fld Fld.ACQ_PRB_STAT_FREE + 1 :=
  (State.fld_setFld_same _ _ _ rfl).trans (Nat.mod_eq_of_lt (Nat.add_lt_of_lt_sub hroom))

theorem State.hbmMay_bufferFreed (mid : Mid) (a : Nat) (write : Bool) :
    (s.bufferFreed rest).hbmMay mid a write = s.hbmMay mid a write :=
  State.hbmMay_congr (fun f hf => (s.bufferFreed_frame rest).2 f (List.forall_mem_singleton.2 (Or.inl (by
    show 0x600003C ≠ f.addr
    omega)))) mid a write

/-- The record of a buffer written to its slot, with the turn beside it. -/
def State.bufferWritten (s : State) (b : ProbeBuf) (a w : Nat) : State :=
  (s.setHbmBytes a (bytesOfNat 8192 b.bits)).setHbmBytes w (bytesOfNat 8 b.turn)

theorem State.bufferWritten_eq (s : State) (b : ProbeBuf) (a w : Nat) : ∃ h, s.bufferWritten b a w = { s with hbm := h } := by
  obtain ⟨x, hx⟩ := s.setHbmBytes_eq a (bytesOfNat 8192 b.bits)
  obtain ⟨y, hy⟩ := State.setHbmBytes_eq { s with hbm := x } w (bytesOfNat 8 b.turn)
  exact ⟨y, by rw [State.bufferWritten, hx, hy]⟩

theorem State.hbmByte_bufferWritten (s : State) (b : ProbeBuf) {a w k : Nat} (ha : k < a ∨ a + 8192 ≤ k) (hw : k < w ∨ w + 8 ≤ k) :
    (s.bufferWritten b a w).hbmByte k = s.hbmByte k := by
  rw [State.bufferWritten, hbmByte_setHbmBytes_outside _ _ (by rwa [length_bytesOfNat]),
    hbmByte_setHbmBytes_outside _ _ (by rwa [length_bytesOfNat])]

variable (hprobes : s.acq.probes = b :: rest) (hroom : s.fld Fld.ACQ_PRB_STAT_FREE < 15)
include hprobes

theorem exec_probeBufferFree (failed : Bool) : exec (.probeBufferFree failed) s = .next (match b.place with
    | none => s.bufferFreed rest
    | some (a, w) => if failed || !(s.bufferFreed rest).hbmMay 0x12 a true then (s.bufferFreed rest).probeLost
      else (s.bufferFreed rest).bufferWritten b a w) := by
  refine congrArg Host.Outcome.next ?_
  rw [hprobes]
  rfl

include hroom

/-- A buffer whose record the frozen ring discarded has nothing to write. -/
theorem probeBufferFree_discarded_completes (failed : Bool) (hplace : b.place = none) : Completes (.probeBufferFree failed) s fun t =>
    t.fld Fld.ACQ_PRB_STAT_FREE = s.fld Fld.ACQ_PRB_STAT_FREE + 1 ∧
    Only [Fld.ACQ_PRB_STAT_FREE] { s with acq := { s.acq with probes := rest } } t := by
  refine ⟨_, exec_probeBufferFree hprobes failed, ?_⟩
  rw [hplace]
  exact ⟨State.fld_bufferFreed hroom, s.bufferFreed_frame rest⟩

theorem probeBufferFree_written_completes (a w : Nat) (hplace : b.place = some (a, w)) (hmay : s.hbmMay 0x12 a true = true)
    (hbeyond : a + 8192 ≤ w) : Completes (.probeBufferFree false) s fun t =>
      t.fld Fld.ACQ_PRB_STAT_FREE = s.fld Fld.ACQ_PRB_STAT_FREE + 1 ∧ t.hbmBytes a 8192 = bytesOfNat 8192 b.bits ∧
      t.hbmBytes w 8 = bytesOfNat 8 b.turn ∧ (∀ k, (k < a ∨ a + 8192 ≤ k) → (k < w ∨ w + 8 ≤ k) → t.hbmByte k = s.hbmByte k) ∧
      Only [Fld.ACQ_PRB_STAT_FREE] { s with acq := { s.acq with probes := rest }, hbm := t.hbm } t := by
  let freed := s.bufferFreed rest
  refine ⟨freed.bufferWritten b a w, (exec_probeBufferFree hprobes false).trans ?_, ?_, ?_, hbmBytes_setHbmBytes_bytesOfNat ..,
    fun k ha hw => freed.hbmByte_bufferWritten b ha hw, ?_⟩
  · rw [hplace]
    dsimp only
    rw [State.hbmMay_bufferFreed, hmay, Bool.not_true, Bool.or_false, if_neg Bool.false_ne_true]
  · obtain ⟨h, heq⟩ := freed.bufferWritten_eq b a w
    rw [heq]
    exact State.fld_bufferFreed hroom
  · exact (hbmBytes_setHbmBytes_below _ _ hbeyond).trans (hbmBytes_setHbmBytes_bytesOfNat ..)
  · obtain ⟨h, heq⟩ := freed.bufferWritten_eq b a w
    rw [heq]
    exact ⟨congrArg (fun x : State => { x with hbm := h }) (s.bufferFreed_frame rest).1, (s.bufferFreed_frame rest).2⟩

/-- A record whose HBM write failed is lost and counted (R312). -/
theorem probeBufferFree_failed_completes (hplace : b.place ≠ none) (hlost : s.reg Reg.ACQ_PRB_LOST ≠ 0xFFFFFFFF) :
    Completes (.probeBufferFree true) s fun t =>
      t.fld Fld.ACQ_PRB_STAT_FREE = s.fld Fld.ACQ_PRB_STAT_FREE + 1 ∧ t.reg Reg.ACQ_PRB_LOST = s.reg Reg.ACQ_PRB_LOST + 1 ∧
      t.flag Fld.ACQ_STATUS_PRB_LOST = true ∧ t.sticky 348 = true ∧ t.hbm = s.hbm := by
  let freed := s.bufferFreed rest
  let counted := freed.countReg Reg.ACQ_PRB_LOST
  have hrun : exec (.probeBufferFree true) s = .next freed.probeLost := by
    rw [exec_probeBufferFree hprobes]
    cases hb : b.place with
    | none => exact absurd hb hplace
    | some p =>
      dsimp only
      rw [Bool.true_or, if_pos rfl]
  have hunlost : freed.reg Reg.ACQ_PRB_LOST = s.reg Reg.ACQ_PRB_LOST := State.reg_setFld_other _ _ _ _ (by decide)
  obtain ⟨hflag, hsticky⟩ := counted.raiseStatus_spec (f := Fld.ACQ_STATUS_PRB_LOST) rfl rfl rfl (n := 348) (by decide)
  refine ⟨_, hrun, ?_, ?_, hflag, hsticky, (State.raiseBit_hbm ..).trans (State.countReg_hbm ..)⟩
  · rw [State.probeLost, State.fld_raiseStatus _ rfl rfl (by decide) (by decide) (by decide) (by decide),
      State.fld_countReg_apart _ (Or.inl (by decide))]
    exact State.fld_bufferFreed hroom
  · rw [State.probeLost, State.reg_raiseStatus _ rfl rfl (by decide) (by decide) (by decide) (by decide),
      State.reg_countReg_same (by rwa [hunlost]), hunlost]

end

/-- Settles O38, clause by clause.  What a job has copied and emptied when it ends, the refusal of a dump past bank 64 with EV351 and
CMD_REFUSED (log 108), the one staging buffer of the window and the record of each new context in ACQ_ECC_CTX (log 109) are the model's
choices where the rules are silent. -/
theorem acquisitionJobs : Obligations.AcquisitionJobs := by
  intro mid copied word value failed s
  refine ⟨fun hawake => ⟨acqRestart_completes hawake, fun copy hfits =>
      ⟨fun hjob => jobCommand_completes hawake hjob hfits, fun hjob => jobCommand_busy_completes hawake hjob copy⟩,
      acqDump_range_completes hawake, prbRearm_completes hawake⟩,
    fun j hjob => ⟨dumpDone_completes hjob, dumpFail_completes hjob⟩,
    fun hawake => ⟨contextWindowRead_first_completes hawake, contextWindowRead_latched_completes hawake,
      contextWindowRead_uncorrectable_completes hawake, contextWindowWrite_completes hawake value⟩,
    fun b rest hprobes hroom => ⟨probeBufferFree_discarded_completes hprobes hroom failed, probeBufferFree_written_completes hprobes hroom,
      probeBufferFree_failed_completes hprobes hroom⟩⟩

end Sys2Proof.Machine

/-! PROOFS.  Commands that store nothing leave the words of the HBM and of the SRAM alone (R323, R453). -/

namespace Sys2Proof.Machine

/-- Blowing fuses changes registers and the thermometer's fuses only, so the memories keep their words (R427, R428). -/
@[simp] theorem State.burn_memories (s : State) (code : Nat) (arg : Word32) (ext : List Byte) :
    (s.burn code arg ext).kept.2 = s.kept.2 := by
  unfold State.burn
  split
  · rw [State.setReg_kept]
  · rfl
  · rw [State.setRegBytes_kept, State.setReg_kept]
  · rfl

theorem execFuseBurnDone_memories {s t : State} (h : execFuseBurnDone s = .next t) : t.kept.2 = s.kept.2 := by
  obtain rfl := Host.Outcome.next.inj h
  split
  · split
    · simp
    · rfl
  · rfl

/-- A command that stores nothing and burns no fuse keeps the memories, with the queue, the thermometer and the root counter. -/
theorem exec_kept_of_not_mayStore {c : Instr} (hstore : mayStore c = false) (hburn : c ≠ .fuseBurnDone) (s : State) :
    keptOf (exec c s) = some s.kept := by
  cases c with
  | fuseBurnDone => exact absurd rfl hburn
  | porstN | powerOnReset | wakeN | wakeComplete | exitComplete | registerWrite | stickyClear | memoryRead | memoryWrite | ringWr | rzRd | rzWr
  | twinReg | debugTransaction | sramError | captureWord | archiveDrop | dumpDone | dumpFail | probeBufferFree | captureCopyDone
  | turnBoundary | stallEnd | barReady | barGo | seqStart | seqStop | seqPause | seqResume | seqStep | seqLevel | seqCapture | loadFull
  | loadPartial | ldrRepair | ldrSwap | ldrAbort | phyTrainingDone | imageFrame | partialLoadComplete | progStartSeq | twinLog | twinHbmcopy
  | sensorSample | voltageInForce | voltageTimeout | throttleEnd | firmwareLoaded | firmwareArrival =>
    exact absurd hstore.symm Bool.false_ne_true
  | _ => simp [exec]

/-- Settles O58: the burning of fuses changes its fuses and registers, and every other command that stores nothing keeps the memories
with all else that `State.kept` lists. -/
theorem memoriesKept : Obligations.MemoriesKept := by
  intro c s t hstore hexec
  have hkept : t.kept.2 = s.kept.2 := by
    by_cases hburn : c = .fuseBurnDone
    · subst hburn
      exact execFuseBurnDone_memories hexec
    · have hkept := exec_kept_of_not_mayStore hstore hburn s
      rw [hexec, keptOf_next, Option.some_inj] at hkept
      exact congrArg Prod.snd hkept
  exact Prod.mk.inj hkept

end Sys2Proof.Machine

/-! PROOFS.  An issue entry of a memory port fires (R329, R330). -/

namespace Sys2Proof.Machine

/-! ## The request of an entry -/

/-- The request word that an entry reads from its outbound group QG (R330). -/
abbrev State.requestWord (s : State) (v n e : Nat) : Nat := (s.outGroup v ((s.issueEntry n e >>> 10) % 4)).toNat

/-- The request that an entry issues in the step being executed: the WR bit, the data of group DG and the address of its request word. -/
def State.entryRequest (s : State) (v n e : Nat) (ecc : EccFind) : PortReq :=
  { sorus := n, entry := e, virt := v, turn := s.seq.turn, step := s.seq.step, page := s.pageB n, age := 0,
    write := if bitOf (s.requestWord v n e) 31 then some (s.outGroup v ((s.issueEntry n e >>> 12) % 4)) else none,
    addr := s.requestWord v n e % 2 ^ 31 * 8, tag := none, ecc := ecc, dead := false, served := false, counted := false, region := none,
    resp := none }

@[simp] theorem State.entryRequest_virt (s : State) (v n e : Nat) (ecc : EccFind) : (s.entryRequest v n e ecc).virt = v := rfl

/-- The gateway of a virtual sorus is one of the 48 nodes (R182). -/
theorem nodeOfVirtual_lt {v : Nat} (hv : v < 32) : nodeOfVirtual v < 48 := by
  unfold nodeOfVirtual nodeAt
  split
  · omega
  · split <;> omega

theorem State.virtOf_lt {s : State} {n v : Nat} (h : s.virtOf n = some v) : v < 32 :=
  List.mem_range.1 (List.mem_of_find?_eq_some h)

/-! ## Where a request goes -/

section
variable {s : State} {r : PortReq} {v : Nat}

/-- A request over its sorus's quota is refused where it would enter the plane (R205). -/
theorem State.portIssue_of_overQuota (hvirt : r.virt = v) (hquota : s.rzOverQuota (nodeOfVirtual v) 0 = true) :
    s.portIssue r = (s.nodeRaise (Fld.RZ_NODE_STAT_OVER_QUOTA (nodeOfVirtual v)) (nodeOfVirtual v)).pushReq
      { r with served := true, resp := some (Code.overQuota, 0) } := by
  subst hvirt
  exact if_pos hquota

@[simp] theorem State.fld_pushReq (s : State) (r : PortReq) (f : Field) : (s.pushReq r).fld f = s.fld f := rfl
@[simp] theorem State.flag_pushReq (s : State) (r : PortReq) (f : Field) : (s.pushReq r).flag f = s.flag f := rfl
@[simp] theorem State.sticky_pushReq (s : State) (r : PortReq) (n : Nat) : (s.pushReq r).sticky n = s.sticky n := rfl

theorem Only.pushReq {w : List Field} {t : State} (h : Only w s t) (r : PortReq) : Only w (s.pushReq r) (t.pushReq r) :=
  ⟨(congrArg (State.pushReq · r) h.1 :), fun g hg => h.2 g hg⟩

theorem OnlyEv.pushReq {w : List Field} {t : State} (h : OnlyEv w s t) (r : PortReq) : OnlyEv w (s.pushReq r) (t.pushReq r) :=
  ⟨(congrArg (State.pushReq · r) h.1 :), fun g hsafe hg => h.2 g hsafe hg⟩

/-- One more request outstanding at the gateway of a virtual sorus (R205). -/
def State.portCounted (s : State) (v : Nat) : State :=
  s.setFld (Fld.RZ_OUTST_COUNT (nodeOfVirtual v) 0) (s.fld (Fld.RZ_OUTST_COUNT (nodeOfVirtual v) 0) + 1)

/-- The count of a gateway lies below the registers of the HBM and of the sequencer (R25). -/
theorem State.reg_portCounted (s : State) {v a : Nat} (hv : v < 32) (ha : 0x7000000 ≤ a) : (s.portCounted v).reg a = s.reg a := by
  have hnode := nodeOfVirtual_lt hv
  exact State.reg_setFld_other _ _ _ _ (by simp only [Reg.RZ_OUTST]; omega)

theorem State.inRegion_congr {s t : State} (h : ∀ a, 0x7000000 ≤ a → t.reg a = s.reg a) (g a : Nat) :
    t.inRegion g a = s.inRegion g a := by
  have hfld (f : Field) (hf : 0x7000000 ≤ f.addr) : t.fld f = s.fld f := congrArg f.get (h _ hf)
  rw [State.inRegion, State.inRegion, State.flag, State.flag, hfld _ (Nat.le_add_right_of_le (by decide)),
    hfld _ (Nat.le_add_right_of_le (by decide)), hfld _ (Nat.le_add_right_of_le (by decide))]

/-- The region of an address rests on the region registers alone (R325). -/
theorem State.regionOf_congr {s t : State} (h : ∀ a, 0x7000000 ≤ a → t.reg a = s.reg a) (a : Nat) : t.regionOf a = s.regionOf a := by
  simp only [State.regionOf, State.inRegion_congr h]

/-- A request for an address in no region counts against no region (R327). -/
theorem State.portArrive_of_unmapped (hregion : s.regionOf r.addr = none) : s.portArrive r = s.pushReq r := by
  simp only [State.portArrive, hregion]

/-- Under a locked schedule a request within the quota is counted, and held for its command slot (R205, R334). -/
theorem State.portIssue_of_locked (hvirt : r.virt = v) (hv : v < 32) (hquota : s.rzOverQuota (nodeOfVirtual v) 0 = false)
    (hlock : s.lockedSchedule = true) (hregion : s.regionOf r.addr = none) :
    s.portIssue r = (s.portCounted v).pushReq { r with counted := true } := by
  subst hvirt
  have hreg : ∀ a, 0x7000000 ≤ a → (s.portCounted r.virt).reg a = s.reg a := fun a ha => s.reg_portCounted hv ha
  have hlock' : (s.portCounted r.virt).lockedSchedule = true := by
    rwa [State.lockedSchedule, State.flag_of_reg (hreg Fld.SEQ_CFG_DISC.addr (by decide))]
  calc s.portIssue r = (s.portCounted r.virt).portArrive { r with counted := true } :=
        (if_neg (ne_true_of_eq_false hquota)).trans (if_pos hlock')
    _ = _ := State.portArrive_of_unmapped ((State.regionOf_congr hreg _).trans hregion)

end

/-! ## The command -/

section
variable {s : State} {sorus : Fin 34} {entry : Fin 16} {v : Nat} (ecc : EccFind) (hvirt : s.virtOf sorus = some v)
  (hfires : s.entryFires sorus entry = true) (hfirst : s.hasFired sorus entry = false)
include hvirt hfires hfirst

theorem exec_issueEntryFire : exec (.issueEntryFire sorus entry ecc) s =
    .next (if bitOf (s.requestWord v sorus entry) 32 then s.portIssue (s.entryRequest v sorus entry ecc) else s) := by
  refine congrArg Host.Outcome.next ?_
  rw [State.fireEntry, hvirt]
  dsimp only
  rw [hfires, hfirst, if_neg (by decide)]
  cases bitOf (s.requestWord v sorus entry) 32 <;> rfl

theorem issueEntryFire_idle_completes (hgo : bitOf (s.requestWord v sorus entry) 32 = false) :
    Completes (.issueEntryFire sorus entry ecc) s fun t => t = s := by
  refine ⟨_, exec_issueEntryFire ecc hvirt hfires hfirst, ?_⟩
  rw [hgo, if_neg Bool.false_ne_true]

theorem issueEntryFire_locked_completes (hgo : bitOf (s.requestWord v sorus entry) 32 = true)
    (hquota : s.rzOverQuota (nodeOfVirtual v) 0 = false) (hlock : s.lockedSchedule = true)
    (hregion : s.regionOf (s.entryRequest v sorus entry ecc).addr = none) (hroom : s.fld (Fld.RZ_OUTST_COUNT (nodeOfVirtual v) 0) < 64) :
    Completes (.issueEntryFire sorus entry ecc) s fun t =>
      t.fld (Fld.RZ_OUTST_COUNT (nodeOfVirtual v) 0) = s.fld (Fld.RZ_OUTST_COUNT (nodeOfVirtual v) 0) + 1 ∧
      Only [Fld.RZ_OUTST_COUNT (nodeOfVirtual v) 0]
        { s with hbm := { s.hbm with reqs := s.hbm.reqs ++ [{ s.entryRequest v sorus entry ecc with counted := true }] } } t := by
  refine ⟨_, exec_issueEntryFire ecc hvirt hfires hfirst, ?_⟩
  rw [if_pos hgo, State.portIssue_of_locked (s.entryRequest_virt v sorus entry ecc) (State.virtOf_lt hvirt) hquota hlock hregion]
  refine ⟨?_, ((Only.refl _ s).setFld _ _ rfl List.mem_cons_self).pushReq _⟩
  rw [State.fld_pushReq, State.portCounted, State.fld_setFld_same _ _ _ rfl]
  exact Nat.mod_eq_of_lt (by dsimp only; omega)

theorem issueEntryFire_overQuota_completes (hgo : bitOf (s.requestWord v sorus entry) 32 = true)
    (hquota : s.rzOverQuota (nodeOfVirtual v) 0 = true) : Completes (.issueEntryFire sorus entry ecc) s fun t =>
      t.hbm.reqs = s.hbm.reqs ++ [{ s.entryRequest v sorus entry ecc with served := true, resp := some (Code.overQuota, 0) }] ∧
      t.flag (Fld.RZ_NODE_STAT_OVER_QUOTA (nodeOfVirtual v)) = true ∧ t.sticky (292 + nodeOfVirtual v) = true ∧
      OnlyEv [Fld.RZ_NODE_STAT_OVER_QUOTA (nodeOfVirtual v)] { s with hbm := { s.hbm with reqs := t.hbm.reqs } } t := by
  have hnode := nodeOfVirtual_lt (State.virtOf_lt hvirt)
  let f := Fld.RZ_NODE_STAT_OVER_QUOTA (nodeOfVirtual v)
  let raised := s.nodeRaise f (nodeOfVirtual v)
  let refused : PortReq := { s.entryRequest v sorus entry ecc with served := true, resp := some (Code.overQuota, 0) }
  obtain ⟨hflag, hsticky⟩ := s.nodeRaise_spec hnode (f := f) rfl rfl rfl
  have hframe : OnlyEv [f] s raised := (OnlyEv.refl _ s).raiseBit _ _ rfl List.mem_cons_self (by omega)
  have hreqs : (raised.pushReq refused).hbm.reqs = s.hbm.reqs ++ [refused] :=
    congrArg (fun h : HbmSt => h.reqs ++ [refused]) (State.raiseBit_hbm ..)
  refine ⟨raised.pushReq refused, (exec_issueEntryFire ecc hvirt hfires hfirst).trans ?_, hreqs, (State.flag_pushReq ..).trans hflag,
    (State.sticky_pushReq ..).trans hsticky, ?_⟩
  · rw [if_pos hgo, State.portIssue_of_overQuota (s.entryRequest_virt v sorus entry ecc) hquota]
  · rw [hreqs]
    exact hframe.pushReq refused

end

end Sys2Proof.Machine

/-! PROOFS.  The responses of a memory port at their release, and its overruns (R122, R331). -/

namespace Sys2Proof.Machine

/-! ## The record of an overrun (R122, R123) -/

/-- The first overrun, attributed to a sorus, recorded. -/
def State.overrunRecorded (s : State) (cause n : Nat) : State :=
  ((((({ s with seq := { s.seq with overrun := true } } : State).setFld Fld.SEQ_OVR_CAUSE_CAUSE cause).setFlag Fld.SEQ_OVR_CAUSE_VALID
    true).setFld Fld.SEQ_OVR_CAUSE_SORUS n).setFlag Fld.SEQ_OVR_CAUSE_SVALID true).setReg Reg.SEQ_OVR_TURN
    (BitVec.ofNat 32 s.seq.turn)

section
variable (s : State) (cause n : Nat)

theorem State.reg_overrunRecorded {a : Nat} (hcause : a ≠ Reg.SEQ_OVR_CAUSE) (hturn : a ≠ Reg.SEQ_OVR_TURN) :
    (s.overrunRecorded cause n).reg a = s.reg a := by
  rw [State.overrunRecorded, State.reg_setReg_other _ _ hturn, State.reg_setFlag_other _ _ _ _ hcause,
    State.reg_setFld_other _ _ _ _ hcause, State.reg_setFlag_other _ _ _ _ hcause]
  exact State.reg_setFld_other _ _ _ _ hcause

/-- What the record says: cause, sorus and turn. -/
theorem State.overrunRecorded_spec (hcause : cause < 16) (hn : n < 64) :
    let t := s.overrunRecorded cause n
    t.fld Fld.SEQ_OVR_CAUSE_CAUSE = cause ∧ t.fld Fld.SEQ_OVR_CAUSE_SORUS = n ∧ t.flag Fld.SEQ_OVR_CAUSE_SVALID = true ∧
      t.reg Reg.SEQ_OVR_TURN = BitVec.ofNat 32 s.seq.turn := by
  refine ⟨?_, ?_, ?_, State.reg_setReg_same ..⟩
  · rw [State.overrunRecorded, State.fld_setReg_other _ _ _ (by decide),
      State.fld_setFlag_apart _ _ _ _ rfl (Or.inr (Or.inr (by decide))), State.fld_setFld_apart _ _ _ _ rfl (Or.inr (Or.inr (by decide))),
      State.fld_setFlag_apart _ _ _ _ rfl (Or.inr (Or.inr (by decide))), State.fld_setFld_same _ _ _ rfl]
    exact Nat.mod_eq_of_lt hcause
  · rw [State.overrunRecorded, State.fld_setReg_other _ _ _ (by decide),
      State.fld_setFlag_apart _ _ _ _ rfl (Or.inr (Or.inr (by decide))), State.fld_setFld_same _ _ _ rfl]
    exact Nat.mod_eq_of_lt hn
  · rw [State.flag, State.overrunRecorded, State.fld_setReg_other _ _ _ (by decide)]
    exact State.flag_setFlag_same _ _ _ rfl rfl

variable {s}

/-- An overrun with no record held: the record, the count, the event, and a fault of the sorus. -/
theorem State.turnOverrun_of_unrecorded (hvalid : s.flag Fld.SEQ_OVR_CAUSE_VALID = false) : s.turnOverrun cause (some n) =
    (((s.overrunRecorded cause n).countReg Reg.SEQ_OVR_COUNT).raiseBit Fld.SEQ_STATUS_OVR 68).fault n 0xC 0 0 7 0 := by
  have hrecord : (if ({ s with seq := { s.seq with overrun := true } } : State).flag Fld.SEQ_OVR_CAUSE_VALID then
      ({ s with seq := { s.seq with overrun := true } } : State).setFlag Fld.SEQ_OVR_CAUSE_OVF true
      else s.overrunRecorded cause n) = s.overrunRecorded cause n := if_neg (ne_true_of_eq_false hvalid)
  exact congrArg (fun x : State => ((x.countReg Reg.SEQ_OVR_COUNT).raiseBit Fld.SEQ_STATUS_OVR 68).fault n 0xC 0 0 7 0) hrecord

variable (hvalid : s.flag Fld.SEQ_OVR_CAUSE_VALID = false)
include hvalid

/-- Besides the record, an overrun writes the count of overruns, SEQ_STATUS and what its event writes. -/
theorem State.reg_turnOverrun {a : Nat} (hsafe : eventSafe (wholeReg a) = true) (hstatus : a ≠ Reg.SEQ_STATUS)
    (hcount : a ≠ Reg.SEQ_OVR_COUNT) : (s.turnOverrun cause (some n)).reg a = (s.overrunRecorded cause n).reg a := by
  rw [State.turnOverrun_of_unrecorded cause n hvalid]
  refine (State.reg_raiseBit_other _ (by decide) hsafe hstatus).trans ?_
  exact State.reg_countReg_other _ hcount

/-- What an overrun leaves: the record, OVR with EV068, and the memory ports and the plane as they were (R122, R123). -/
theorem State.turnOverrun_spec (hcause : cause < 16) (hn : n < 64) :
    let t := s.turnOverrun cause (some n)
    t.hbm = s.hbm ∧ t.rz = s.rz ∧ t.seq.overrun = true ∧ t.flag Fld.SEQ_STATUS_OVR = true ∧ t.sticky 68 = true ∧
      t.fld Fld.SEQ_OVR_CAUSE_CAUSE = cause ∧ t.fld Fld.SEQ_OVR_CAUSE_SORUS = n ∧ t.flag Fld.SEQ_OVR_CAUSE_SVALID = true ∧
      t.reg Reg.SEQ_OVR_TURN = BitVec.ofNat 32 s.seq.turn := by
  obtain ⟨hcauseFld, hsorus, hsvalid, hturn⟩ := s.overrunRecorded_spec cause n hcause hn
  have hcauseReg := State.reg_turnOverrun cause n hvalid (a := Reg.SEQ_OVR_CAUSE) (by decide) (by decide) (by decide)
  have hturnReg := State.reg_turnOverrun cause n hvalid (a := Reg.SEQ_OVR_TURN) (by decide) (by decide) (by decide)
  have hfld (f : Field) (hf : f.addr = Reg.SEQ_OVR_CAUSE) :
      (s.turnOverrun cause (some n)).fld f = (s.overrunRecorded cause n).fld f := congrArg f.get (hf ▸ hcauseReg)
  let counted := (s.overrunRecorded cause n).countReg Reg.SEQ_OVR_COUNT
  have hrun := State.turnOverrun_of_unrecorded cause n hvalid
  refine ⟨?_, ?_, ?_, ?_, ?_, (hfld _ rfl).trans hcauseFld, (hfld _ rfl).trans hsorus, ?_, hturnReg.trans hturn⟩
  · rw [hrun]
    exact (State.raiseBit_hbm ..).trans (State.countReg_hbm ..)
  · rw [hrun]
    exact (State.raiseBit_rz ..).trans (State.countReg_rz ..)
  · have hseq : (s.turnOverrun cause (some n)).seq = (s.overrunRecorded cause n).seq := by
      rw [hrun]
      exact (State.raiseBit_seq ..).trans (State.countReg_seq ..)
    rw [hseq]
    rfl
  · rw [hrun]
    exact counted.flag_raiseBit_same 68 (by decide) (by decide) rfl rfl
  · rw [hrun]
    exact counted.sticky_raiseBit_same _ 68 (by decide)
  · rwa [State.flag, hfld _ rfl]

end

/-! ## What a response lands (R331) -/

/-- An issue entry rests on its two registers (R343). -/
theorem State.issueEntry_congr {s t : State} {n e : Nat} (hn : n < 34) (he : e < 16)
    (h : ∀ a, 0x7000000 ≤ a → a < 0x8000000 → t.reg a = s.reg a) : t.issueEntry n e = s.issueEntry n e := by
  have hreg (k : Nat) (hk : k < 2) : t.reg (Reg.HBM_ISSUE n e k) = s.reg (Reg.HBM_ISSUE n e k) :=
    h _ (by simp only [Reg.HBM_ISSUE]; omega) (by simp only [Reg.HBM_ISSUE]; omega)
  rw [State.issueEntry, State.issueEntry, hreg 0 (by decide), hreg 1 (by decide)]

/-- An overrun leaves the issue entries alone (R343). -/
theorem State.issueEntry_turnOverrun {s : State} {m e : Nat} (cause n : Nat) (hvalid : s.flag Fld.SEQ_OVR_CAUSE_VALID = false)
    (hm : m < 34) (he : e < 16) : (s.turnOverrun cause (some n)).issueEntry m e = s.issueEntry m e := by
  refine State.issueEntry_congr hm he fun a hlow hhigh => ?_
  have hbelow {b : Nat} (hb : 0x8000000 ≤ b) : a ≠ b := by omega
  rw [State.reg_turnOverrun cause n hvalid (eventSafe_of_serial (f := wholeReg a) (Nat.le_trans (by decide) hlow) hhigh)
    (hbelow (by decide)) (hbelow (by decide)), State.reg_overrunRecorded _ _ _ (hbelow (by decide)) (hbelow (by decide))]

/-- The inbound group that takes an entry's read data (R329). -/
abbrev State.readGroup (s : State) (n e : Nat) : Nat := (s.issueEntry n e >>> 14) % 4

/-- The inbound position that takes an entry's status bit (R329). -/
abbrev State.statusPos (s : State) (n e : Nat) : Nat := (s.issueEntry n e >>> 16) % 256

/-- The position of a status bit within its group. -/
abbrev statusMask (st : Nat) : Word64 := BitVec.ofNat 64 (2 ^ (st % 64))

/-- The landings of a read: its data on one group of a virtual sorus, and its status bit on another, without tags (R133). -/
def readLandings (v rg st : Nat) (data bits : Word64) : List Landing :=
  [.group v rg (BitVec.allOnes 64) data none true 0, .group v (st / 64) (statusMask st) bits none true 0]

/-- The landings of a read put among those of the step (R331). -/
def State.readLanded (s : State) (v rg st : Nat) (data bits : Word64) : State :=
  { s with rz := { s.rz with landings := s.rz.landings ++ readLandings v rg st data bits } }

section
variable (s : State) (v rg st : Nat) (data bits : Word64)

@[simp] theorem State.readLanded_hbm : (s.readLanded v rg st data bits).hbm = s.hbm := rfl
@[simp] theorem State.readLanded_seq : (s.readLanded v rg st data bits).seq = s.seq := rfl
@[simp] theorem State.reg_readLanded (a : Nat) : (s.readLanded v rg st data bits).reg a = s.reg a := rfl
@[simp] theorem State.fld_readLanded (f : Field) : (s.readLanded v rg st data bits).fld f = s.fld f := rfl
@[simp] theorem State.flag_readLanded (f : Field) : (s.readLanded v rg st data bits).flag f = s.flag f := rfl
@[simp] theorem State.sticky_readLanded (n : Nat) : (s.readLanded v rg st data bits).sticky n = s.sticky n := rfl
@[simp] theorem State.readLanded_landings :
    (s.readLanded v rg st data bits).rz.landings = s.rz.landings ++ readLandings v rg st data bits := rfl

end

section
variable {s : State} {r : PortReq} (hread : r.write = none)
  (hapart : s.statusPos r.sorus r.entry / 64 ≠ s.readGroup r.sorus r.entry)
include hread hapart

theorem State.stageResponse_of_ok {d : Word64} (hresp : r.resp = some (Code.ok, d)) : s.stageResponse r =
    s.readLanded r.virt (s.readGroup r.sorus r.entry) (s.statusPos r.sorus r.entry) d (statusMask (s.statusPos r.sorus r.entry)) := by
  rw [State.stageResponse, hread, hresp]
  refine (if_neg Bool.false_ne_true).trans ((if_neg hapart).trans ?_)
  simp [State.stage, State.readLanded, readLandings]

theorem State.stageResponse_of_missing (hresp : r.resp = none) : s.stageResponse r =
    s.readLanded r.virt (s.readGroup r.sorus r.entry) (s.statusPos r.sorus r.entry) 0 0 := by
  rw [State.stageResponse, hread, hresp]
  refine (if_neg Bool.false_ne_true).trans ((if_neg hapart).trans ?_)
  simp [State.stage, State.readLanded, readLandings]

end

/-! ## Releases (R331) -/

section
variable {s : State} {r : PortReq} (hlive : r.dead = false)
include hlive

theorem State.releaseReq_of_answered {x : Status × Word64} (hresp : r.resp = some x) :
    s.releaseReq r = (s.portDone r).stageResponse r := by
  refine (if_neg (ne_true_of_eq_false hlive)).trans (congrArg (State.stageResponse · r) (if_neg ?_))
  rw [hresp, Option.isNone_some, Bool.false_and]
  exact Bool.false_ne_true

/-- A response missing at its release under a locked schedule is an overrun of cause MEM (R122, R331). -/
theorem State.releaseReq_of_missing (hresp : r.resp = none) (hlock : (s.portDone r).lockedSchedule = true) :
    s.releaseReq r = ((s.portDone r).turnOverrun 1 (some r.sorus)).stageResponse r := by
  refine (if_neg (ne_true_of_eq_false hlive)).trans (congrArg (State.stageResponse · r) (if_pos ?_))
  rw [hresp, hlock, Option.isNone_none, Bool.and_true]

end

/-- A state whose memory ports hold no request. -/
def State.portsEmpty (s : State) : State := { s with hbm := { s.hbm with reqs := [] } }

section
variable {s : State} {r : PortReq} {sorus : Fin 34} {entry : Fin 16} (hrun : s.seqState = 2) (hreqs : s.hbm.reqs = [r])
  (hsorus : r.sorus = sorus) (hentry : r.entry = entry) (hdue : s.releaseDue r = true) (hlive : r.dead = false)
  (hread : r.write = none) (hplain : r.counted = false)
  (hapart : s.statusPos sorus entry / 64 ≠ s.readGroup sorus entry)

include hreqs hplain in
theorem State.portDone_of_only : s.portDone r = s.portsEmpty := by
  rw [State.portDone, hplain, hreqs]
  refine (if_neg Bool.false_ne_true).trans ?_
  simp [State.portsEmpty]

include hrun hreqs hsorus hentry hdue in
/-- The one request that is due is released. -/
theorem exec_memoryPortRelease : exec (.memoryPortRelease sorus entry) s = .next (s.releaseReq r) := by
  have hfilter : s.hbm.reqs.filter (fun x => s.releaseDue x && (x.sorus == sorus.val && x.entry == entry.val)) = [r] := by
    simp [hreqs, hdue, hsorus, hentry]
  refine congrArg Host.Outcome.next ((if_pos hrun).trans ?_)
  rw [State.releasePorts, hfilter]
  rfl

include hrun hreqs hsorus hentry hdue hlive hread hplain hapart

/-- A response that is present lands its data and a status bit of 1. -/
theorem memoryPortRelease_ok_completes {d : Word64} (hresp : r.resp = some (Code.ok, d)) :
    Completes (.memoryPortRelease sorus entry) s fun t =>
      t = s.portsEmpty.readLanded r.virt (s.readGroup sorus entry) (s.statusPos sorus entry) d (statusMask (s.statusPos sorus entry)) := by
  refine ⟨_, exec_memoryPortRelease hrun hreqs hsorus hentry hdue, ?_⟩
  rw [← hsorus, ← hentry] at hapart ⊢
  rw [State.releaseReq_of_answered hlive hresp, State.portDone_of_only hreqs hplain]
  exact State.stageResponse_of_ok (s := s.portsEmpty) hread hapart hresp

/-- A response that is missing is an overrun of cause MEM, and its positions take 0. -/
theorem memoryPortRelease_missing_completes (hresp : r.resp = none) (hvalid : s.flag Fld.SEQ_OVR_CAUSE_VALID = false) :
    Completes (.memoryPortRelease sorus entry) s fun t =>
      t.hbm.reqs = [] ∧ t.seq.overrun = true ∧ t.flag Fld.SEQ_STATUS_OVR = true ∧ t.sticky 68 = true ∧
      t.fld Fld.SEQ_OVR_CAUSE_CAUSE = 1 ∧ t.fld Fld.SEQ_OVR_CAUSE_SORUS = sorus ∧ t.flag Fld.SEQ_OVR_CAUSE_SVALID = true ∧
      t.reg Reg.SEQ_OVR_TURN = BitVec.ofNat 32 s.seq.turn ∧
      t.rz.landings = s.rz.landings ++ readLandings r.virt (s.readGroup sorus entry) (s.statusPos sorus entry) 0 0 := by
  let overrun := s.portsEmpty.turnOverrun 1 (some sorus)
  have hlock : s.portsEmpty.lockedSchedule = true := (Bool.and_eq_true_iff.1 hdue).1
  have hentryReg : overrun.issueEntry sorus entry = s.issueEntry sorus entry :=
    State.issueEntry_turnOverrun (s := s.portsEmpty) 1 sorus hvalid sorus.isLt entry.isLt
  have hexec : s.releaseReq r = overrun.readLanded r.virt (s.readGroup sorus entry) (s.statusPos sorus entry) 0 0 := by
    have hstage := State.stageResponse_of_missing (s := overrun) hread
      (by rwa [hsorus, hentry, State.statusPos, State.readGroup, hentryReg]) hresp
    rw [hsorus, hentry, State.statusPos, State.readGroup, hentryReg] at hstage
    have hdone := State.portDone_of_only hreqs hplain
    rw [State.releaseReq_of_missing hlive hresp (by rwa [hdone]), hdone, hsorus]
    exact hstage
  obtain ⟨hhbm, hrz, hseq, hflag, hsticky, hcause, hnamed, hsvalid, hturn⟩ :=
    State.turnOverrun_spec (s := s.portsEmpty) 1 sorus hvalid (by decide) (by omega)
  refine ⟨_, exec_memoryPortRelease hrun hreqs hsorus hentry hdue, ?_⟩
  simp only [hexec, State.readLanded_hbm, State.readLanded_seq, State.flag_readLanded, State.sticky_readLanded, State.fld_readLanded,
    State.reg_readLanded, State.readLanded_landings]
  exact ⟨congrArg HbmSt.reqs hhbm, hseq, hflag, hsticky, hcause, hnamed, hsvalid, hturn, congrArg (fun x => x.landings ++ _) hrz⟩

end

end Sys2Proof.Machine

/-! PROOFS.  Refresh and temperature of the HBM stack, and the clauses of O39 together (R336, R339). -/

namespace Sys2Proof.Machine

/-- Refresh is held back only in a locked run outside a quiet window of its pseudo-channel (R336). -/
theorem refresh_completes (pc : Fin 16) (s : State) : Completes (.refresh pc) s fun t =>
    Sparse.get 0 t.hbm.refreshes pc.val = Sparse.get 0 s.hbm.refreshes pc.val +
      (if s.flag Fld.HBM_STATUS_READY = true ∧ (s.lockedSchedule = false ∨ s.seqState ≠ 2 ∨ s.quietNow pc = true) then 1 else 0) ∧
    t = { s with hbm := { s.hbm with refreshes := t.hbm.refreshes } } := by
  have hmay : (s.flag Fld.HBM_STATUS_READY && (!s.lockedSchedule || s.seqState != 2 || s.quietNow pc)) = true ↔
      s.flag Fld.HBM_STATUS_READY = true ∧ (s.lockedSchedule = false ∨ s.seqState ≠ 2 ∨ s.quietNow pc = true) := by
    simp [or_assoc]
  refine ⟨_, rfl, ?_⟩
  by_cases h : s.flag Fld.HBM_STATUS_READY = true ∧ (s.lockedSchedule = false ∨ s.seqState ≠ 2 ∨ s.quietNow pc = true)
  · rw [if_pos (hmay.2 h), if_pos h]
    exact ⟨Sparse.get_put_same 0 s.hbm.refreshes pc.val (Sparse.get 0 s.hbm.refreshes pc.val + 1), rfl⟩
  · rw [if_neg (mt hmay.1 h), if_neg h]
    exact ⟨rfl, rfl⟩

section
variable {s : State} {temp : BitVec 8} (hon : s.domOn 71 = true)
include hon

theorem exec_stackTemperaturePoll : exec (.stackTemperaturePoll temp) s =
    .next (if 85 < temp.toInt then (s.setReg Reg.HBM_TEMP (BitVec.ofNat 32 temp.toNat)).raiseBit Fld.HBM_STATUS_TEMP_HI 377
      else s.setReg Reg.HBM_TEMP (BitVec.ofNat 32 temp.toNat)) := congrArg Host.Outcome.next (if_pos hon)

theorem stackTemperaturePoll_cool_completes (htemp : temp.toInt ≤ 85) : Completes (.stackTemperaturePoll temp) s fun t =>
    t.reg Reg.HBM_TEMP = BitVec.ofNat 32 temp.toNat ∧ Only [wholeReg Reg.HBM_TEMP] s t := by
  refine ⟨_, exec_stackTemperaturePoll hon, ?_⟩
  rw [if_neg (Int.not_lt.2 htemp)]
  exact ⟨State.reg_setReg_same .., (Only.refl _ s).setReg _ _ List.mem_cons_self⟩

theorem stackTemperaturePoll_hot_completes (htemp : 85 < temp.toInt) : Completes (.stackTemperaturePoll temp) s fun t =>
    t.reg Reg.HBM_TEMP = BitVec.ofNat 32 temp.toNat ∧ t.flag Fld.HBM_STATUS_TEMP_HI = true ∧ t.sticky 377 = true ∧
    OnlyEv [wholeReg Reg.HBM_TEMP, Fld.HBM_STATUS_TEMP_HI] s t := by
  let polled := s.setReg Reg.HBM_TEMP (BitVec.ofNat 32 temp.toNat)
  refine ⟨_, exec_stackTemperaturePoll hon, ?_⟩
  rw [if_pos htemp]
  refine ⟨?_, polled.flag_raiseBit_same 377 (by decide) (by decide) rfl rfl, polled.sticky_raiseBit_same _ 377 (by decide),
    ((OnlyEv.refl _ s).setReg _ _ (by simp)).raiseBit _ _ rfl (by simp) (by decide)⟩
  rw [State.reg_raiseBit_other _ (by decide) (by decide) (by decide), State.reg_setReg_same]

end

/-- Settles O39, clause by clause.  That a locked request takes no packet on its way to its command slot (log 50) and that refresh waits for
a quiet window only while the sequencer runs (log 53) are the model's choices where the rules are silent. -/
theorem memoryPorts : Obligations.MemoryPorts := by
  intro sorus entry pc temp ecc s
  refine ⟨fun v hvirt hfires hfirst => ⟨issueEntryFire_idle_completes ecc hvirt hfires hfirst,
      issueEntryFire_locked_completes ecc hvirt hfires hfirst, issueEntryFire_overQuota_completes ecc hvirt hfires hfirst⟩,
    fun r hrun hreqs hsorus hentry hdue hlive hread hplain hapart =>
      ⟨fun d => memoryPortRelease_ok_completes hrun hreqs hsorus hentry hdue hlive hread hplain hapart,
        memoryPortRelease_missing_completes hrun hreqs hsorus hentry hdue hlive hread hplain hapart⟩,
    refresh_completes pc s,
    fun hon => ⟨stackTemperaturePoll_cool_completes hon, stackTemperaturePoll_hot_completes hon⟩⟩

end Sys2Proof.Machine


/-! PROOFS.  The thermometer (R419). -/

namespace Sys2Proof.Machine

/-! ## The highest blown bit -/

/-- One more than the index of the highest bit set among the `n` lowest, and 0 where none is (R419). -/
def topBit (w : BitVec 64) (n : Nat) : Nat := (List.range n).foldl (fun a i => if w.getLsbD i then i + 1 else a) 0

theorem topBit_succ (w : BitVec 64) (n : Nat) : topBit w (n + 1) = if w.getLsbD n then n + 1 else topBit w n := by
  rw [topBit, List.range_succ, List.foldl_append]
  rfl

theorem topBit_le (w : BitVec 64) (n : Nat) : topBit w n ≤ n := by
  induction n with
  | zero => exact Nat.le_refl 0
  | succ n ih =>
    rw [topBit_succ]
    split <;> omega

/-- No bit at or above the value is set. -/
theorem getLsbD_of_topBit_le {w : BitVec 64} {n j : Nat} (hj : topBit w n ≤ j) (hn : j < n) : w.getLsbD j = false := by
  induction n with
  | zero => omega
  | succ n ih =>
    rw [topBit_succ] at hj
    split at hj
    next => omega
    next hclear =>
      rcases Nat.lt_succ_iff_lt_or_eq.1 hn with h | rfl
      · exact ih hj h
      · exact Bool.eq_false_iff.2 hclear

/-- The bit just below the value is set. -/
theorem getLsbD_of_topBit_eq_succ {w : BitVec 64} {n i : Nat} (h : topBit w n = i + 1) : w.getLsbD i = true := by
  induction n with
  | zero => exact absurd h (by simp [topBit])
  | succ n ih =>
    rw [topBit_succ] at h
    split at h
    next hset => rwa [← Nat.succ.inj h]
    next => exact ih h

theorem topBit_eq_succ_iff {w : BitVec 64} {n i : Nat} (hi : i < n) :
    topBit w n = i + 1 ↔ w.getLsbD i = true ∧ ∀ j, i < j → j < n → w.getLsbD j = false := by
  refine ⟨fun h => ⟨getLsbD_of_topBit_eq_succ h, fun j hj hn => getLsbD_of_topBit_le (by omega) hn⟩, fun ⟨hset, habove⟩ => ?_⟩
  have hlow : i < topBit w n := by
    by_contra hle
    rw [getLsbD_of_topBit_le (Nat.le_of_not_lt hle) hi] at hset
    exact Bool.false_ne_true hset
  obtain ⟨k, hk⟩ := Nat.exists_eq_add_one_of_ne_zero (by omega : topBit w n ≠ 0)
  have hle := topBit_le w n
  by_contra hne
  have hclear := habove k (by omega) (by omega)
  rw [getLsbD_of_topBit_eq_succ hk] at hclear
  exact Bool.noConfusion hclear

theorem topBit_eq_zero_iff {w : BitVec 64} {n : Nat} : topBit w n = 0 ↔ ∀ j < n, w.getLsbD j = false := by
  refine ⟨fun h j hn => getLsbD_of_topBit_le (by omega) hn, fun h => ?_⟩
  by_contra hne
  obtain ⟨k, hk⟩ := Nat.exists_eq_add_one_of_ne_zero hne
  have hle := topBit_le w n
  have hclear := h k (by omega)
  rw [getLsbD_of_topBit_eq_succ hk] at hclear
  exact Bool.noConfusion hclear

/-- More bits set give no smaller value. -/
theorem topBit_mono {v w : BitVec 64} (h : ∀ i, v.getLsbD i = true → w.getLsbD i = true) (n : Nat) : topBit v n ≤ topBit w n := by
  induction n with
  | zero => exact Nat.le_refl 0
  | succ n ih =>
    have hle := topBit_le v n
    simp only [topBit_succ]
    split
    next hv => rw [if_pos (h n hv)]
    next => split <;> omega

/-! ## No step unblows a bit -/

/-- From `s` to `t` no bit of the thermometer is unblown (R419). -/
def ThermGrows (s t : State) : Prop := ∀ i, s.sec.therm.getLsbD i = true → t.sec.therm.getLsbD i = true

theorem ThermGrows.of_eq {s t : State} (h : t.sec.therm = s.sec.therm) : ThermGrows s t := fun i hi => by rwa [h]

theorem State.thermValue_eq_topBit (s : State) : s.thermValue = topBit s.sec.therm 64 := rfl

theorem State.therm_eq_kept (s : State) : s.sec.therm = s.kept.1.2.1 := rfl

/-- ADVANCE adds bits to the thermometer, and no other command of the security unit changes them (R420). -/
theorem State.burn_therm (s : State) (code : Nat) (arg : Word32) (ext : List Byte) : ThermGrows s (s.burn code arg ext) := by
  unfold State.burn
  split
  · exact .of_eq rfl
  · intro i hi
    simp [State.setFld, State.setReg, hi]
  · refine .of_eq ?_
    rw [State.therm_eq_kept, State.setRegBytes_kept]
    rfl
  · exact .of_eq rfl

theorem execFuseBurnDone_therm {s t : State} (h : execFuseBurnDone s = .next t) : ThermGrows s t := by
  obtain rfl := Host.Outcome.next.inj h
  split
  next code arg ext _ =>
    split
    · intro i hi
      have hburn := s.burn_therm code arg ext i hi
      rw [State.therm_eq_kept] at hburn ⊢
      simpa using hburn
    · exact .of_eq rfl
  next => exact .of_eq rfl

/-- No command unblows a bit: the resets keep the fuses, blowing adds to them, and every other command leaves them (R344, R419). -/
theorem exec_therm {c : Instr} {s t : State} (h : exec c s = .next t) : ThermGrows s t := by
  by_cases hreset : c = .porstN ∨ c = .powerOnReset
  · have hlow : s.porstLow = t := by rcases hreset with rfl | rfl <;> exact Host.Outcome.next.inj h
    exact .of_eq (hlow ▸ rfl)
  · by_cases hburn : c = .fuseBurnDone
    · subst hburn
      exact execFuseBurnDone_therm h
    · have hqueue := exec_keeps_queue (not_or.1 hreset).1 (not_or.1 hreset).2 hburn s
      rw [h, queueOf_next, Option.some_inj] at hqueue
      exact .of_eq (congrArg (·.2.1) hqueue)

theorem State.tick_therm (s : State) : ThermGrows s s.tick := by
  by_cases h : s.rootStopped = true
  · rw [State.tick_of_rootStopped h]
    exact .of_eq rfl
  · rw [State.rootStopped] at h
    rw [State.tick, if_neg h]
    exact .of_eq (by simp [State.therm_eq_kept, State.rootAdvance])

theorem step_therm {s t : State} (h : step s = .next t) : ThermGrows s t := by
  cases hp : s.pending with
  | nil =>
    rw [step_of_pending_nil hp] at h
    exact Host.Outcome.next.inj h ▸ s.tick_therm
  | cons c rest =>
    rw [step_of_pending_cons hp] at h
    exact (exec_therm h : ThermGrows { s with pending := rest } t)

/-- Settles O56: the value is that of the highest blown bit, and a step only adds blown bits. -/
theorem thermometerNeverFalls : Obligations.ThermometerNeverFalls := by
  refine ⟨fun s i hi => ?_, fun s => ?_, fun s t h => ⟨step_therm h, ?_⟩⟩
  · rw [State.thermValue_eq_topBit, topBit_eq_succ_iff hi]
  · rw [State.thermValue_eq_topBit, topBit_eq_zero_iff]
  · rw [State.thermValue_eq_topBit, State.thermValue_eq_topBit]
    exact topBit_mono (step_therm h) 64

end Sys2Proof.Machine


/-! PROOFS.  Reads of fields, registers and events after the plain updates, where a decision says that the two lie apart. -/

namespace Sys2Proof.Machine

/-! ## Fields that lie apart -/

/-- The decision that a field lies within its register and apart from another. -/
def Field.sep (f g : Field) : Bool :=
  f.fits && (f.addr != g.addr || decide (f.lo + f.width ≤ g.lo) || decide (g.lo + g.width ≤ f.lo))

theorem Field.fits_of_sep {f g : Field} (h : f.sep g = true) : f.fits = true := (Bool.and_eq_true_iff.1 h).1

theorem Field.apart_of_sep {f g : Field} (h : f.sep g = true) : f.apart g := by
  simp only [Field.sep, Bool.and_eq_true, Bool.or_eq_true, bne_iff_ne, decide_eq_true_eq, or_assoc] at h
  exact h.2

/-- Registers above those of the event machinery and apart from the vectors' pending bits (R25, R569). -/
theorem eventSafe_of_above {f : Field} (hlow : 0x2000000 ≤ f.addr) (hpba : f.addr < 0x8102000 ∨ 0x8103000 ≤ f.addr) :
    eventSafe f = true := by
  simp only [eventSafe, Reg.LIB_LOG_WP, Reg.LIB_LOG_DROP, Reg.LIB_STATUS, Reg.PWR_STATUS, Bool.and_eq_true, Bool.or_eq_true,
    Bool.not_eq_true', Bool.and_eq_false_iff, bne_iff_ne, decide_eq_true_eq, decide_eq_false_iff_not]
  omega

section
variable (s : State) {f g : Field}

theorem State.fld_setFld_sep (n : Nat) (h : f.sep g = true) : (s.setFld f n).fld g = s.fld g :=
  State.fld_setFld_apart s f g n (Field.fits_of_sep h) (Field.apart_of_sep h)

theorem State.fld_setFlag_sep (b : Bool) (h : f.sep g = true) : (s.setFlag f b).fld g = s.fld g := State.fld_setFld_sep s _ h

theorem State.flag_setFld_sep (n : Nat) (h : f.sep g = true) : (s.setFld f n).flag g = s.flag g := by
  rw [State.flag, State.fld_setFld_sep s n h, State.flag]

theorem State.flag_setFlag_sep (b : Bool) (h : f.sep g = true) : (s.setFlag f b).flag g = s.flag g := State.flag_setFld_sep s _ h

theorem State.fld_raiseBit_sep {n : Nat} (hn : n < 512) (h : eventSafe g = true) (hs : f.sep g = true) :
    (s.raiseBit f n).fld g = s.fld g := by
  rw [State.raiseBit, State.fld_raise _ _ hn h, State.fld_setFlag_sep _ _ hs]

theorem State.flag_raiseBit_sep {n : Nat} (hn : n < 512) (h : eventSafe g = true) (hs : f.sep g = true) :
    (s.raiseBit f n).flag g = s.flag g := by
  rw [State.flag, State.fld_raiseBit_sep s hn h hs, State.flag]

/-- A status bit set with its event: both read 1. -/
theorem State.raiseBit_spec {n : Nat} (hn : n < 512) (h : eventSafe f = true) (hf : f.fits = true) (hw : f.width = 1) :
    (s.raiseBit f n).flag f = true ∧ (s.raiseBit f n).sticky n = true :=
  ⟨State.flag_raiseBit_same s n hn h hf hw, State.sticky_raiseBit_same s f n hn⟩

theorem State.flag_setReg_other {a : Nat} (v : Word32) (h : g.addr ≠ a) : (s.setReg a v).flag g = s.flag g := by
  rw [State.flag, State.fld_setReg_other s v g h, State.flag]

end

/-! ## Parts of a state replaced

What a register reads does not depend on the other parts of a state. -/

section
variable (s : State) {x0 : List Instr} {x2 : ClockSt} {x3 : TimeSt} {x4 : DispatcherSt} {x5 : LibrarianSt} {x6 : CarrelSt} {x7 : PowerSt}
  {x8 : HostSt} {x9 : OwnSt} {x10 : LoaderSt} {x11 : SecSt} {x12 : IobSt} {x13 : ArraySt} {x14 : SeqSt} {x15 : HbmSt} {x16 : CnsSt}
  {x17 : RzSt} {x18 : LaneSt} {x19 : Pairs LinkEng} {x20 : AcqSt} {x21 : TwinSt} {x22 : Completion} {x23 : Origin} {x24 : List Output}
  {x25 : Nat}

theorem State.reg_parts (a : Nat) : (State.mk x0 s.regs x2 x3 x4 x5 x6 x7 x8 x9 x10 x11 x12 x13 x14 x15 x16 x17 x18 x19 x20 x21 x22 x23 x24
    x25).reg a = s.reg a := rfl

theorem State.fld_parts (f : Field) : (State.mk x0 s.regs x2 x3 x4 x5 x6 x7 x8 x9 x10 x11 x12 x13 x14 x15 x16 x17 x18 x19 x20 x21 x22 x23
    x24 x25).fld f = s.fld f := rfl

theorem State.flag_parts (f : Field) : (State.mk x0 s.regs x2 x3 x4 x5 x6 x7 x8 x9 x10 x11 x12 x13 x14 x15 x16 x17 x18 x19 x20 x21 x22 x23
    x24 x25).flag f = s.flag f := rfl

theorem State.sticky_parts (n : Nat) : (State.mk x0 s.regs x2 x3 x4 x5 x6 x7 x8 x9 x10 x11 x12 x13 x14 x15 x16 x17 x18 x19 x20 x21 x22 x23
    x24 x25).sticky n = s.sticky n := rfl

end

/-! ## Events -/

theorem State.sticky_setReg_other (s : State) {a n : Nat} (v : Word32) (h : a ≠ Reg.EVT_STICKY (n / 32)) :
    (s.setReg a v).sticky n = s.sticky n :=
  State.sticky_congr n (State.reg_setReg_other s v h.symm)

theorem State.sticky_setFld_other (s : State) {f : Field} {n : Nat} (m : Nat) (h : f.addr ≠ Reg.EVT_STICKY (n / 32)) :
    (s.setFld f m).sticky n = s.sticky n := State.sticky_setReg_other s _ h

theorem State.sticky_setFlag_other (s : State) {f : Field} {n : Nat} (b : Bool) (h : f.addr ≠ Reg.EVT_STICKY (n / 32)) :
    (s.setFlag f b).sticky n = s.sticky n := State.sticky_setReg_other s _ h

theorem State.sticky_emit (s : State) (o : Output) (n : Nat) : (s.emit o).sticky n = s.sticky n := rfl

/-! ## Refusals -/

/-- A status bit and its event, and an answer: what a block's refusal leaves (R33). -/
theorem State.raiseBit_reply_spec (s : State) {f : Field} {n : Nat} (c : Status) (hn : n < 512) (hs : eventSafe f = true)
    (hf : f.fits = true) (hw : f.width = 1) :
    ((s.raiseBit f n).reply c).done.status = c ∧ ((s.raiseBit f n).reply c).flag f = true ∧
      ((s.raiseBit f n).reply c).sticky n = true ∧ OnlyEv [f] s ((s.raiseBit f n).reply c) :=
  ⟨rfl, State.flag_raiseBit_same s n hn hs hf hw, State.sticky_raiseBit_same s f n hn,
    ((OnlyEv.refl _ s).raiseBit f n hf List.mem_cons_self hn).reply _⟩

/-! ## Commands -/

/-- A command completes with the state that its meaning is equal to. -/
theorem Completes.of_eq {c : Instr} {s t u : State} {P : State → Prop} (hexec : exec c s = .next u) (hu : u = t) (hP : P t) :
    Completes c s P :=
  ⟨t, hexec.trans (congrArg _ hu), hP⟩

/-- An exit source changes the device state alone, besides the power manager's own part of the state (R524, R525). -/
theorem OnlyEv.exitSource {w : List Field} {s t : State} (h : OnlyEv w s t) (src idx : Nat) (a b c : Bool) :
    OnlyEv w s (t.exitSource src idx a b c) :=
  ⟨(State.core_exitSource t src idx a b c).trans h.1, fun g he hg =>
    (State.fld_exitSource t src idx a b c (eventSafe_state he)).trans (h.2 g he hg)⟩

theorem OnlyEv.ite {w : List Field} {s t u : State} {c : Prop} [Decidable c] (ht : OnlyEv w s t) (hu : OnlyEv w s u) :
    OnlyEv w s (if c then t else u) := by
  split
  · exact ht
  · exact hu

/-- What only a frame's fields can have changed. -/
theorem OnlyEv.fld_eq {w : List Field} {s t : State} (h : OnlyEv w s t) {g : Field} (hs : eventSafe g = true)
    (hw : ∀ f ∈ w, f.apart g) : t.fld g = s.fld g := h.2 g hs hw

theorem OnlyEv.flag_eq {w : List Field} {s t : State} (h : OnlyEv w s t) {g : Field} (hs : eventSafe g = true)
    (hw : ∀ f ∈ w, f.apart g) : t.flag g = s.flag g := by rw [State.flag, h.2 g hs hw, State.flag]

/-! ## Ownership (R173) -/

/-- A claim changes the ownership tables alone. -/
theorem State.takeClaim_eq (s : State) (mid : Mid) (cls idx : Nat) :
    s.takeClaim mid cls idx = { s with own := (s.takeClaim mid cls idx).own } := by
  unfold State.takeClaim
  split <;> rfl

theorem State.assign_of_may {s : State} {mid : Mid} {cls idx : Nat} (h : s.mayAssign mid cls idx = true) (f : State → State) :
    s.assign mid cls idx f = f { s with own := (s.takeClaim mid cls idx).own } := by
  rw [State.assign, if_pos h, ← State.takeClaim_eq]

/-! ## Lists kept by key -/

theorem Sparse.find_replace_same {α : Type} (l : List (Nat × α)) (k : Nat) (v : α) :
    Sparse.find (Sparse.insert (Sparse.erase l k) k v) k = some v :=
  Sparse.find_insert_same _ _ _ (Sparse.find_erase_same l k)

theorem Sparse.find_replace_other {α : Type} (l : List (Nat × α)) {k j : Nat} (v : α) (h : j ≠ k) :
    Sparse.find (Sparse.insert (Sparse.erase l k) k v) j = Sparse.find l j := by
  rw [Sparse.find_insert_other _ _ h, Sparse.find_erase_other _ h]

end Sys2Proof.Machine


/-! PROOFS.  The time unit: its reads, its refusals and its comparators (R351, R362 to R368). -/

namespace Sys2Proof.Machine

/-! ## Reads and refusals -/

/-- Settles O1: six registers, written one after the other from one count. -/
theorem tuReadLatches : Obligations.TuReadLatches := by
  intro mid s
  refine ⟨_, rfl, ?_⟩
  have hread : s.tuRegRead Reg.TU_RAW_LO = s.tuLatch.reply Code.ok (s.tuLatch.reg Reg.TU_RAW_LO) := if_pos rfl
  have honly : Only [wholeReg Reg.TU_RAW_LO, wholeReg Reg.TU_RAW_HI, wholeReg Reg.TU_TIME_FNS, wholeReg Reg.TU_TIME_NS,
      wholeReg Reg.TU_TIME_S_LO, wholeReg Reg.TU_TIME_S_HI] s s.tuLatch :=
    ((((((Only.refl _ s).setReg _ _ (by simp)).setReg _ _ (by simp)).setReg _ _ (by simp)).setReg _ _ (by simp)).setReg _ _
      (by simp)).setReg _ _ (by simp)
  have hlow : s.tuLatch.reg Reg.TU_RAW_LO = BitVec.ofNat 32 s.count := by
    simp (disch := decide) only [State.tuLatch, State.reg_setReg_other, State.reg_setReg_same]
  rw [hread, hlow]
  refine ⟨rfl, hlow, ?_, ?_, ?_, ?_, ?_, honly.reply _ _⟩ <;> rw [State.reg_reply] <;>
    simp (disch := decide) only [State.tuLatch, State.reg_setReg_other, State.reg_setReg_same]

theorem State.tuWrite_of_writer {mid : Mid} (h : tuWriter mid = true) (s : State) (f : State → State) : s.tuWrite mid f = f s :=
  if_pos h

theorem State.tuWrite_refused {mid : Mid} (h : tuWriter mid = false) (s : State) (f : State → State) :
    s.tuWrite mid f = (s.raiseBit Fld.TU_STATUS_DENIED 396).reply Code.denied :=
  if_neg (ne_true_of_eq_false h)

/-- Settles O3: all nine writes go through the one check of the writer. -/
theorem tuRefusal : Obligations.TuRefusal := by
  intro mid s c hmid hc
  have hexec : ∃ f, exec c s = .next (s.tuWrite mid f) := by
    rcases hc with rfl | rfl | rfl | rfl | ⟨v, rfl⟩ | ⟨v, rfl⟩ | ⟨p, v, rfl⟩ | ⟨n, rfl⟩ | ⟨n, rfl⟩ <;> exact ⟨_, rfl⟩
  obtain ⟨f, hf⟩ := hexec
  exact ⟨_, hf.trans (congrArg _ (State.tuWrite_refused hmid s f)),
    State.raiseBit_reply_spec s Code.denied (by decide) (by decide) rfl rfl⟩

/-! ## Arming and disarming (R362, R366) -/

theorem State.tcWrite_of_may {s : State} {mid : Mid} {n : Nat} (hmid : tuWriter mid = true) (hmay : s.mayAssign mid 3 n = true)
    (f : State → State) : s.tcWrite mid n f = (f { s with own := (s.takeClaim mid 3 n).own }).reply Code.ok := by
  rw [State.tcWrite, State.tuWrite_of_writer hmid, State.assign_of_may hmay]

theorem tcArm_completes {s : State} {mid : Mid} {tc : Fin 16} (hmid : tuWriter mid = true) (hmay : s.mayAssign mid 3 tc = true) :
    Completes (.tcArm mid tc) s fun t =>
      Sparse.find t.time.live tc = some (s.staged tc) ∧ t.flag (Fld.TU_TC_CTRL_ARMED tc) = true ∧ t.done.status = Code.ok ∧
      (∀ k, k ≠ tc.val → Sparse.find t.time.live k = Sparse.find s.time.live k) ∧
      Only [Fld.TU_TC_CTRL_ARMED tc] { s with time := { s.time with live := t.time.live }, own := (s.takeClaim mid 3 tc).own } t := by
  refine .of_eq rfl (State.tcWrite_of_may hmid hmay _) ?_
  generalize (s.takeClaim mid 3 tc).own = own
  refine ⟨Sparse.find_replace_same _ _ _, ?_, rfl, fun _ hk => Sparse.find_replace_other _ _ hk, ?_⟩
  · rw [State.flag_reply]
    exact State.flag_setFlag_same _ _ _ rfl rfl
  · exact ((Only.refl _ _).setFlag (Fld.TU_TC_CTRL_ARMED tc) true rfl List.mem_cons_self).reply Code.ok

theorem tcDisarm_completes {s : State} {mid : Mid} {tc : Fin 16} (hmid : tuWriter mid = true) (hmay : s.mayAssign mid 3 tc = true) :
    Completes (.tcDisarm mid tc) s fun t =>
      t.flag (Fld.TU_TC_CTRL_ARMED tc) = false ∧ t.done.status = Code.ok ∧
      Only [Fld.TU_TC_CTRL_ARMED tc] { s with own := (s.takeClaim mid 3 tc).own } t := by
  refine .of_eq rfl (State.tcWrite_of_may hmid hmay _) ?_
  generalize (s.takeClaim mid 3 tc).own = own
  rw [State.flag_reply]
  exact ⟨State.flag_setFlag_same _ _ _ rfl rfl, rfl,
    ((Only.refl _ _).setFlag (Fld.TU_TC_CTRL_ARMED tc) false rfl List.mem_cons_self).reply Code.ok⟩

/-! ## Fires (R363, R364, R366) -/

/-- A fire is recorded. -/
def State.tcCounted (s : State) (n : Nat) : State := (s.setFlag (Fld.TU_TC_CTRL_FIRED n) true).countReg (Reg.TU_TC_COUNT n)

/-- A comparator that repeats. -/
def Comparator.repeats (c : Comparator) : Bool := c.periodic && c.period != 0

/-- The target moves past a compare value, or the comparator disarms. -/
def State.tcMoved (s : State) (n : Nat) (c : Comparator) (v : Int) : State :=
  if c.repeats then
    { s with time := { s.time with
      live := Sparse.insert (Sparse.erase s.time.live n) n { c with target := nextTarget c.target v c.period } } }
  else s.disarmTc n

/-- LATE and its event, where a fire is late. -/
def State.tcJudged (s : State) (n : Nat) (late : Bool) : State :=
  if late then (s.setFlag (Fld.TU_TC_CTRL_LATE n) true).raiseBit Fld.TU_STATUS_TC_LATE 394 else s

/-- The time bit of a fire. -/
def State.tcNoted (s : State) (n : Nat) : State :=
  { s with time := { s.time with firedSince := s.time.firedSince ||| BitVec.ofNat 16 (2 ^ n) } }

/-- The pin pulse of a fire. -/
def State.tcPulsed (s : State) (n : Nat) : State :=
  if s.flag (Fld.TU_TC_CFG_PIN_EN n) && decide (s.fld (Fld.TU_TC_CFG_PIN n) < 192) && s.fld (Fld.TU_TC_PW_PW n) != 0 then
    { s with time := { s.time with pulses := Sparse.insert (Sparse.erase s.time.pulses n) n (s.fld (Fld.TU_TC_CFG_PIN n)) } }
  else s

/-- A fire as an exit source. -/
def State.tcWakes (s : State) (n : Nat) : State :=
  if s.flag (Fld.TU_TC_CFG_WAKE_EN n) then s.exitSource 4 n (s.flag Fld.PWR_WAKE_EN_TC) true true else s

/-- More than a period of the time clock past the target (R364). -/
def State.tcLate (s : State) (c : Comparator) : Bool :=
  decide ((if c.raw then (1 : Int) else (s.period : Int)) < s.compareValue c - c.target)

/-- The fields that a fire may write. -/
def fireFields (n : Nat) : List Field :=
  [Fld.TU_TC_CTRL_FIRED n, wholeReg (Reg.TU_TC_COUNT n), Fld.TU_TC_CTRL_ARMED n, Fld.TU_TC_CTRL_LATE n, Fld.TU_STATUS_TC_LATE]

section
variable {s : State} {n : Nat}

theorem State.fireTc_eq {c : Comparator} (hlive : Sparse.find s.time.live n = some c) (harmed : s.flag (Fld.TU_TC_CTRL_ARMED n) = true)
    (hdue : c.target ≤ s.compareValue c) :
    s.fireTc n = (((((s.tcCounted n).tcMoved n c (s.compareValue c)).tcJudged n (s.tcLate c)).tcNoted n).tcPulsed n).tcWakes n := by
  have hgo : (!s.flag (Fld.TU_TC_CTRL_ARMED n) || decide (s.compareValue c < c.target)) = false := by
    simp only [harmed, Bool.not_true, Bool.false_or, decide_eq_false_iff_not]
    omega
  rw [State.fireTc, hlive]
  refine (if_neg (ne_true_of_eq_false hgo)).trans ?_
  extract_lets _ _ _ _ moved judged _ _ _ _ pulsed
  have hmoved : moved = (s.tcCounted n).tcMoved n c (s.compareValue c) := rfl
  have hjudged : judged = moved.tcJudged n (s.tcLate c) := rfl
  have hpulsed : pulsed = (judged.tcNoted n).tcPulsed n := rfl
  rw [← hmoved, ← hjudged, ← hpulsed]
  rfl

theorem State.tcCounted_fired : (s.tcCounted n).flag (Fld.TU_TC_CTRL_FIRED n) = true := by
  rw [State.tcCounted, State.flag, State.fld_countReg _ _ (by simp [Reg.TU_TC_CTRL, Reg.TU_TC_COUNT]), ← State.flag]
  exact State.flag_setFlag_same _ _ _ rfl rfl

theorem State.tcCounted_count (h : s.reg (Reg.TU_TC_COUNT n) ≠ 0xFFFFFFFF) :
    (s.tcCounted n).reg (Reg.TU_TC_COUNT n) = s.reg (Reg.TU_TC_COUNT n) + 1 := by
  have hkeep (b : Bool) : (s.setFlag (Fld.TU_TC_CTRL_FIRED n) b).reg (Reg.TU_TC_COUNT n) = s.reg (Reg.TU_TC_COUNT n) :=
    State.reg_setFlag_other _ _ _ _ (by simp [Reg.TU_TC_CTRL, Reg.TU_TC_COUNT])
  rw [State.tcCounted, State.countReg, hkeep, if_neg h, State.reg_setReg_same]

theorem State.tcMoved_armed (c : Comparator) (v : Int) (h : s.flag (Fld.TU_TC_CTRL_ARMED n) = true) :
    (s.tcMoved n c v).flag (Fld.TU_TC_CTRL_ARMED n) = c.repeats := by
  unfold State.tcMoved
  split
  next hr => exact h.trans hr.symm
  next hr => exact (State.flag_setFlag_same _ _ _ rfl rfl).trans (Bool.eq_false_iff.2 hr).symm

theorem State.fld_tcMoved {g : Field} (c : Comparator) (v : Int) (h : (Fld.TU_TC_CTRL_ARMED n).apart g) :
    (s.tcMoved n c v).fld g = s.fld g := by
  unfold State.tcMoved
  split
  · rfl
  · exact State.fld_setFlag_apart _ _ _ _ rfl h

theorem State.fld_tcJudged {g : Field} (late : Bool) (hs : eventSafe g = true) (hlate : (Fld.TU_TC_CTRL_LATE n).apart g)
    (hbit : Fld.TU_STATUS_TC_LATE.apart g) : (s.tcJudged n late).fld g = s.fld g := by
  unfold State.tcJudged
  split
  · rw [State.fld_raiseBit_apart _ _ _ (by decide) hs rfl hbit, State.fld_setFlag_apart _ _ _ _ rfl hlate]
  · rfl

theorem State.tcJudged_time (late : Bool) : (s.tcJudged n late).time = s.time := by
  unfold State.tcJudged
  split
  · rw [State.raiseBit_time, State.setFlag_time]
  · rfl

theorem State.tcJudged_late (hn : n < 16) : (s.tcJudged n true).flag (Fld.TU_TC_CTRL_LATE n) = true ∧
    (s.tcJudged n true).flag Fld.TU_STATUS_TC_LATE = true ∧ (s.tcJudged n true).sticky 394 = true := by
  obtain ⟨hflag, hsticky⟩ := (s.setFlag (Fld.TU_TC_CTRL_LATE n) true).raiseBit_spec (f := Fld.TU_STATUS_TC_LATE) (n := 394) (by decide)
    (by decide) rfl rfl
  refine ⟨?_, hflag, hsticky⟩
  refine (State.flag_raiseBit_apart _ _ _ (by decide) (eventSafe_of_above ?_ (Or.inl ?_)) rfl (Or.inl ?_)).trans
    (State.flag_setFlag_same _ _ _ rfl rfl) <;> simp only [Reg.TU_STATUS, Reg.TU_TC_CTRL] <;> omega

theorem State.tcPulsed_regs : (s.tcPulsed n).regs = s.regs := by
  unfold State.tcPulsed
  split <;> rfl

theorem State.tcPulsed_live : (s.tcPulsed n).time.live = s.time.live ∧ (s.tcPulsed n).time.firedSince = s.time.firedSince := by
  unfold State.tcPulsed
  split <;> exact ⟨rfl, rfl⟩

@[simp] theorem State.exitSource_time (s : State) (src idx : Nat) (x y z : Bool) : (s.exitSource src idx x y z).time = s.time := by
  have hstill := State.exitSource_still s src idx x y z
  exact congrArg (fun x => x.2.2.1) hstill

theorem State.tcPulsed_clock : (s.tcPulsed n).clock = s.clock := by
  unfold State.tcPulsed
  split <;> rfl

@[simp] theorem State.exitSource_clock (s : State) (src idx : Nat) (x y z : Bool) : (s.exitSource src idx x y z).clock = s.clock := by
  have hstill := State.exitSource_still s src idx x y z
  exact congrArg (fun x => x.2.1) hstill

theorem State.tcWakes_clock : (s.tcWakes n).clock = s.clock := by
  unfold State.tcWakes
  split
  · exact State.exitSource_clock _ _ _ _ _ _
  · rfl

theorem State.tcWakes_time : (s.tcWakes n).time = s.time := by
  unfold State.tcWakes
  split
  · exact State.exitSource_time _ _ _ _ _ _
  · rfl

theorem State.reg_tcWakes {a : Nat} (h : a ≠ Reg.PWR_STATUS) : (s.tcWakes n).reg a = s.reg a := by
  unfold State.tcWakes
  split
  · exact State.reg_exitSource_other _ _ _ _ _ _ h
  · rfl

end

/-- What the end of a fire leaves alone: the time bit, the pulse and the exit source change no register but PWR_STATUS. -/
theorem State.reg_tcNoted_tcPulsed_tcWakes (s : State) (n : Nat) {a : Nat} (h : a ≠ Reg.PWR_STATUS) :
    (((s.tcNoted n).tcPulsed n).tcWakes n).reg a = s.reg a := by
  rw [State.reg_tcWakes h, State.reg_congr State.tcPulsed_regs]
  rfl

theorem eventSafe_of_tc {f : Field} {n o : Nat} (hn : n < 16) (ho : o < 0x40) (hf : f.addr = 0x3001000 + o + n * 0x40) :
    eventSafe f = true := eventSafe_of_above (by omega) (by omega)

/-- The target after a fire: whole periods on, the first place past the compare value (R363). -/
theorem nextTarget_spec {target value : Int} {period : Nat} (hp : period ≠ 0) (hdue : target ≤ value) : ∃ n : Int, 1 ≤ n ∧
    nextTarget target value period = target + n * period ∧ value < nextTarget target value period ∧
      nextTarget target value period - period ≤ value := by
  have hpos : (0 : Int) < period := by omega
  have hq : 0 ≤ (value - target) / period := Int.ediv_nonneg (by omega) (by omega)
  have hlow : (value - target) / period * period ≤ value - target := Int.ediv_mul_le _ (by omega)
  have hhigh : value - target < ((value - target) / period + 1) * period := Int.lt_ediv_add_one_mul_self _ hpos
  have hsum : ((value - target) / period + 1) * period = (value - target) / period * period + period := by ring
  refine ⟨(value - target) / period + 1, by omega, rfl, ?_, ?_⟩ <;> simp only [nextTarget] <;> omega

/-- The addresses that a fire may write: those of the time unit, and the device state's. -/
def fireAddr (a : Nat) : Prop := (0x3000000 ≤ a ∧ a < 0x4000000) ∨ a = Reg.PWR_STATUS

theorem fireAddr_tc {n : Nat} (hn : n < 16) {o : Nat} (ho : o < 0x40) : fireAddr (0x3001000 + o + n * 0x40) := by
  simp only [fireAddr]
  omega

section
variable (s : State) {n : Nat} (hn : n < 16)
include hn

theorem State.tcCounted_writes : WritesAt fireAddr s (s.tcCounted n) :=
  ((WritesAt.refl _ s).setFlag _ (fireAddr_tc hn (o := 4) (by decide))).trans
    (.ite (.refl _ _) ((WritesAt.refl _ _).setReg _ (fireAddr_tc hn (o := 0x24) (by decide))))

theorem State.tcMoved_writes (c : Comparator) (v : Int) : WritesAt fireAddr s (s.tcMoved n c v) :=
  .ite (.of_reg rfl fun _ _ => rfl) ((WritesAt.refl _ s).setFlag _ (fireAddr_tc hn (o := 4) (by decide)))

theorem State.tcJudged_writes (late : Bool) : WritesAt fireAddr s (s.tcJudged n late) :=
  .ite (((WritesAt.refl _ s).setFlag _ (fireAddr_tc hn (o := 4) (by decide))).raiseBit (by simp [fireAddr, Reg.TU_STATUS]) (by decide)) (.refl _ s)

omit hn in
/-- The pulse and the exit source of a fire. -/
theorem State.tcEnded_writes : WritesAt fireAddr s (((s.tcNoted n).tcPulsed n).tcWakes n) :=
  .of_reg (State.tcWakes_clock.trans State.tcPulsed_clock) fun _ h =>
    State.reg_tcNoted_tcPulsed_tcWakes s n fun ha => h (Or.inr ha)

end

section
variable {s : State} {n : Nat} (hn : n < 16) {c : Comparator} (hlive : Sparse.find s.time.live n = some c)
  (harmed : s.flag (Fld.TU_TC_CTRL_ARMED n) = true) (hdue : c.target ≤ s.compareValue c)
include hn hlive harmed hdue

theorem State.fireTc_spec (hcount : s.reg (Reg.TU_TC_COUNT n) ≠ 0xFFFFFFFF) :
    (s.fireTc n).flag (Fld.TU_TC_CTRL_FIRED n) = true ∧ (s.fireTc n).reg (Reg.TU_TC_COUNT n) = s.reg (Reg.TU_TC_COUNT n) + 1 ∧
    (s.fireTc n).flag (Fld.TU_TC_CTRL_ARMED n) = c.repeats ∧ (s.fireTc n).time.firedSince.toNat.testBit n = true ∧
    (c.repeats = true → Sparse.find (s.fireTc n).time.live n = some { c with target := nextTarget c.target (s.compareValue c) c.period }) ∧
    (s.tcLate c = true → (s.fireTc n).flag (Fld.TU_TC_CTRL_LATE n) = true ∧ (s.fireTc n).flag Fld.TU_STATUS_TC_LATE = true ∧
      (s.fireTc n).sticky 394 = true) := by
  have hend (v : State) {f : Field} (hf : 0x3000000 ≤ f.addr) : (((v.tcNoted n).tcPulsed n).tcWakes n).fld f = v.fld f :=
    State.fld_of_reg (State.reg_tcNoted_tcPulsed_tcWakes v n (by simp only [Reg.PWR_STATUS]; omega))
  have hkeep (v : State) (late : Bool) {f : Field} {o : Nat} (ho : o < 0x40) (hf : f.addr = 0x3001000 + o + n * 0x40)
      (hlate : (Fld.TU_TC_CTRL_LATE n).apart f) : ((((v.tcJudged n late).tcNoted n).tcPulsed n).tcWakes n).fld f = v.fld f := by
    rw [hend _ (by omega), State.fld_tcJudged late (eventSafe_of_tc hn ho hf) hlate (Or.inl (by simp only [Reg.TU_STATUS]; omega))]
  have hlive' (v : State) (late : Bool) : ((((v.tcJudged n late).tcNoted n).tcPulsed n).tcWakes n).time.live = v.time.live := by
    rw [State.tcWakes_time, State.tcPulsed_live.1]
    exact (congrArg TimeSt.live (State.tcJudged_time late) : (v.tcJudged n late).time.live = v.time.live)
  rw [State.fireTc_eq hlive harmed hdue]
  refine ⟨?_, ?_, ?_, ?_, fun hr => ?_, fun hl => ?_⟩
  · rw [State.flag, hkeep _ _ (o := 4) (by decide) rfl (by simp [Field.apart]), State.fld_tcMoved _ _ (by simp [Field.apart])]
    exact State.tcCounted_fired
  · rw [← State.tcCounted_count hcount]
    refine State.reg_eq_of_fld_wholeReg ((hkeep _ _ (o := 0x24) (by decide) rfl ?_).trans (State.fld_tcMoved _ _ ?_)) <;>
      simp [Field.apart, wholeReg, Reg.TU_TC_CTRL, Reg.TU_TC_COUNT]
  · rw [State.flag, hkeep _ _ (o := 4) (by decide) rfl (by simp [Field.apart]), ← State.flag]
    refine State.tcMoved_armed _ _ ?_
    rw [State.flag, State.tcCounted, State.fld_countReg _ _ (by simp [Reg.TU_TC_CTRL, Reg.TU_TC_COUNT]),
      State.fld_setFlag_apart _ _ _ _ rfl (by simp [Field.apart])]
    exact harmed
  · rw [State.tcWakes_time, State.tcPulsed_live.2]
    simp only [State.tcNoted, BitVec.toNat_or, Nat.testBit_or, BitVec.toNat_ofNat, Bool.or_eq_true]
    right
    rw [Nat.mod_eq_of_lt (Nat.pow_lt_pow_right (by decide) hn), Nat.testBit_two_pow_self]
  · rw [hlive', State.tcMoved, if_pos hr]
    exact Sparse.find_replace_same _ _ _
  · rw [hl]
    obtain ⟨hlate, hstatus, hsticky⟩ := ((s.tcCounted n).tcMoved n c (s.compareValue c)).tcJudged_late (n := n) hn
    refine ⟨?_, ?_, ?_⟩
    · rwa [State.flag, hend _ (by simp only [Reg.TU_TC_CTRL]; omega)]
    · rwa [State.flag, hend _ (by decide)]
    · rwa [State.sticky_congr 394 (State.reg_tcNoted_tcPulsed_tcWakes _ n (by decide))]

theorem State.fireTc_writes : WritesAt fireAddr s (s.fireTc n) := by
  rw [State.fireTc_eq hlive harmed hdue]
  exact (((s.tcCounted_writes hn).trans (State.tcMoved_writes _ hn _ _)).trans (State.tcJudged_writes _ hn _)).trans
    (State.tcEnded_writes _)

end

/-- A comparator that no class and no dump waits for is nothing to the acquisition engine (R294, R300). -/
theorem State.acqComparator_of_none {s : State} {n : Nat}
    (hclass : ∀ k < 16, ¬ (s.fld (Fld.ACQ_CLS_CFG_SRC k) = 2 ∧ s.fld (Fld.ACQ_CLS_CFG_SEL k) = n))
    (hdump : s.flag Fld.ACQ_DUMP_CFG_TC_EN = false) : s.acqComparator n = s := by
  have hfold : (List.range 16).foldl (fun s k =>
      if s.fld (Fld.ACQ_CLS_CFG_SRC k) = 2 ∧ s.fld (Fld.ACQ_CLS_CFG_SEL k) = n then s.triggerClass k s.seq.turn s.seq.step else s) s = s :=
    List.foldlRecOn (motive := fun t => t = s) _ _ rfl fun t ht k hk => by
      subst ht
      exact if_neg (hclass k (List.mem_range.1 hk))
  rw [State.acqComparator, hfold, hdump, Bool.false_and]
  rfl

/-- Settles O5: the fire's own effects, and the acquisition engine and the sequencer not waiting for it. -/
theorem comparators : Obligations.Comparators := by
  refine ⟨fun mid tc s => ⟨fun hmid hmay => ⟨tcArm_completes hmid hmay, tcDisarm_completes hmid hmay⟩, ?_⟩, ?_⟩
  · exact ⟨_, rfl, Sparse.find_erase_same _ _, fun k hk => Sparse.find_erase_other _ hk, rfl⟩
  · intro tc s c hlive harmed hdue hcount hclass hdump hseq
    have hframe := State.fireTc_writes tc.isLt hlive harmed hdue
    obtain ⟨hfired, hcounted, harm, hbit, hmoved, hlate⟩ := State.fireTc_spec tc.isLt hlive harmed hdue hcount
    have hkeep {f : Field} (h : 0x4000000 ≤ f.addr) (hs : eventSafe f = true) : (s.fireTc tc).fld f = s.fld f :=
      hframe.2 f hs (by simp only [fireAddr, Reg.PWR_STATUS]; omega)
    have hacq : (s.fireTc tc).acqComparator tc = s.fireTc tc := by
      refine State.acqComparator_of_none (fun k hk => ?_) ?_
      · have haddr : 0x4000000 ≤ Reg.ACQ_CLS_CFG k ∧ Reg.ACQ_CLS_CFG k < 0x8102000 := by simp only [Reg.ACQ_CLS_CFG]; omega
        have hsafe {f : Field} (hf : f.addr = Reg.ACQ_CLS_CFG k) : eventSafe f = true := eventSafe_of_above (by omega) (by omega)
        rw [hkeep haddr.1 (hsafe rfl), hkeep haddr.1 (hsafe rfl)]
        exact hclass k hk
      · rw [State.flag, hkeep (by decide) (by decide), ← State.flag]
        exact hdump
    have hfire : s.fire tc = s.fireTc tc := by
      have hstate : (s.fireTc tc).seqState ≠ 1 := by
        rw [State.seqState, hkeep (by decide) (by decide)]
        exact hseq
      have hdue' : s.tcDue tc = true := by simp [State.tcDue, hlive, harmed, hdue]
      rw [State.fire, if_pos hdue', hacq]
      exact if_neg fun h => hstate h.1
    refine .of_eq rfl hfire ⟨hfired, hcounted, harm, hbit, fun hp hper => ?_, fun hl => hlate (decide_eq_true hl)⟩
    obtain ⟨n, hn, htarget, hpast, hfirst⟩ := nextTarget_spec hper hdue
    exact ⟨n, _, hn, hmoved (by simp [Comparator.repeats, hp, hper]), htarget, hpast, hfirst⟩

end Sys2Proof.Machine


/-! PROOFS.  Sticky bits that stay, and what a doorbell of a carrel may change (R491, R498). -/

namespace Sys2Proof.Machine

/-! ## Sticky bits that stay -/

/-- From `s` to `t` no sticky bit of an event is cleared (R498). -/
def StickyUp (s t : State) : Prop := ∀ n < 512, s.sticky n = true → t.sticky n = true

section
variable {s t u : State}

theorem StickyUp.refl (s : State) : StickyUp s s := fun _ _ h => h

theorem StickyUp.trans (h : StickyUp s t) (h' : StickyUp t u) : StickyUp s u := fun n hn hs => h' n hn (h n hn hs)

theorem StickyUp.of_reg (h : ∀ a, stickyAddr a → t.reg a = s.reg a) : StickyUp s t := fun n hn hs => by
  rwa [State.sticky_congr n (h _ (stickyAddr_of hn))]

theorem StickyUp.setReg (h : StickyUp s t) {a : Nat} (v : Word32) (ha : ¬ stickyAddr a) : StickyUp s (t.setReg a v) :=
  h.trans (.of_reg fun _ hb => State.reg_setReg_other _ _ fun e => ha (e ▸ hb))

theorem StickyUp.raise (h : StickyUp s t) (n : Nat) : StickyUp s (t.raise n) :=
  h.trans fun _ hm hs => State.sticky_raise_keep t n hm hs

theorem StickyUp.dspFlags (h : StickyUp s t) (n : Nat) (bits : Word32) : StickyUp s (t.dspFlags n bits) :=
  h.trans (.of_reg fun _ ha => State.reg_dspSettle_sticky _ ha)

theorem StickyUp.exitSource (h : StickyUp s t) (src idx : Nat) (x y z : Bool) : StickyUp s (t.exitSource src idx x y z) :=
  h.trans (.of_reg fun _ ha => State.reg_exitSource_sticky _ _ _ _ _ _ ha)

theorem StickyUp.ite {c : Prop} [Decidable c] (ht : StickyUp s t) (hu : StickyUp s u) : StickyUp s (if c then t else u) := by
  split
  · exact ht
  · exact hu

theorem StickyUp.foldl {α : Type} (g : State → α → State) (l : List α) (hg : ∀ t, ∀ x ∈ l, StickyUp t (g t x)) (h : StickyUp s t) :
    StickyUp s (l.foldl g t) :=
  List.foldlRecOn l g h fun u hu x hx => hu.trans (hg u x hx)

theorem not_stickyAddr_of_above {a : Nat} (h : 0x100040 ≤ a) : ¬ stickyAddr a := by
  simp only [stickyAddr]
  omega

end

/-! ## Frames -/

section
variable {w : List Field} {s t u : State}

theorem OnlyEv.trans (h : OnlyEv w s t) (h' : OnlyEv w t u) : OnlyEv w s u :=
  ⟨h'.1.trans h.1, fun g he hg => (h'.2 g he hg).trans (h.2 g he hg)⟩

theorem OnlyEv.mono {v : List Field} (h : OnlyEv v s t) (hv : ∀ f ∈ v, f ∈ w) : OnlyEv w s t :=
  ⟨h.1, fun g he hg => h.2 g he fun f hf => hg f (hv f hf)⟩

theorem OnlyEv.dspFlags (h : OnlyEv w s t) (n : Nat) (bits : Word32) : OnlyEv w s (t.dspFlags n bits) :=
  ⟨(State.core_dspFlags t n bits).trans h.1, fun g he hg => (State.fld_dspFlags t n bits he).trans (h.2 g he hg)⟩

theorem OnlyEv.when (h : OnlyEv w s t) (c : Bool) {f : State → State} (hf : OnlyEv w s (f t)) : OnlyEv w s (t.when c f) := hf.ite h

theorem OnlyEv.reg_eq (h : OnlyEv w s t) {a : Nat} (hs : eventSafe (wholeReg a) = true) (ha : ∀ f ∈ w, f.apart (wholeReg a)) :
    t.reg a = s.reg a := State.reg_eq_of_fld_wholeReg (h.2 _ hs ha)

/-- A wake of a domain writes the domain's state register (R517). -/
theorem OnlyEv.wakeDomain (h : OnlyEv w s t) (d src idx : Nat) (hm : wholeReg (Reg.PWR_DSTAT d) ∈ w) :
    OnlyEv w s (t.wakeDomain d src idx) := by
  refine .ite h (.ite ?_ h)
  exact ((h.setReg (Reg.PWR_DSTAT d) _ hm).setReg (Reg.PWR_DSTAT d) _ hm).setReg (Reg.PWR_DSTAT d) _ hm

end

theorem StickyUp.wakeDomain {s t : State} (h : StickyUp s t) (d src idx : Nat) : StickyUp s (t.wakeDomain d src idx) := by
  have ha : ¬ stickyAddr (Reg.PWR_DSTAT d) := not_stickyAddr_of_above (by simp only [Reg.PWR_DSTAT]; omega)
  refine .ite h (.ite ?_ h)
  exact ((h.setReg (a := Reg.PWR_DSTAT d) _ ha).setReg (a := Reg.PWR_DSTAT d) _ ha).setReg (a := Reg.PWR_DSTAT d) _ ha

/-! ## Doorbells (R491) -/

/-- A bit of CRL_STATc. -/
abbrev crlBit (c n : Nat) : Field := ⟨Reg.CRL_STAT c, n, 1⟩

/-- The registers of the cores' domains, which a doorbell may wake. -/
def coreDomains : List Field := [wholeReg (Reg.PWR_DSTAT 78), wholeReg (Reg.PWR_DSTAT 79)]

/-- The registers that a doorbell of carrel `c` may write. -/
def bellFields (c : Nat) : List Field := wholeReg (Reg.CRL_STAT c) :: coreDomains

theorem CRL_STAT_safe {c : Nat} (hc : c < 32) {f : Field} (hf : f.addr = Reg.CRL_STAT c) : eventSafe f = true := by
  simp only [Reg.CRL_STAT] at hf
  simp only [eventSafe, Reg.LIB_LOG_WP, Reg.LIB_LOG_DROP, Reg.LIB_STATUS, Reg.PWR_STATUS, Bool.and_eq_true, Bool.or_eq_true,
    Bool.not_eq_true', Bool.and_eq_false_iff, bne_iff_ne, decide_eq_true_eq, decide_eq_false_iff_not]
  omega

theorem coreDomains_apart {f : Field} (h : 0x1000000 ≤ f.addr) : ∀ g ∈ coreDomains, g.apart f := by
  simp only [coreDomains, List.forall_mem_cons, List.not_mem_nil, false_implies, implies_true, and_true, Field.apart, wholeReg,
    Reg.PWR_DSTAT]
  omega

/-- The dispatcher's flag of a doorbell. -/
def State.bellFlag (s : State) (c e : Nat) (flag : Option Nat) : State :=
  match flag with
  | some fl => if s.flag (Fld.CRL_NOTIFY_EN c e) then s.dspFlags (s.fld (Fld.CRL_NOTIFY_TASK c e)) (BitVec.ofNat 32 (2 ^ fl)) else s
  | none => s

/-- The wake of a doorbell to core `mid`. -/
def State.bellWake (s : State) (c e mid : Nat) (flag : Option Nat) : State :=
  if flag.isSome && s.flag (Fld.CRL_NOTIFY_WAKE c e) then
    (s.wakeDomain (78 + mid) 6 c).exitSource 6 c (s.flag Fld.PWR_WAKE_EN_CARREL) true true
  else s

/-- What a doorbell does once its bits are set: the dispatcher's flag, and a wake. -/
def State.bellRings (s : State) (c e : Nat) (flag : Option Nat) : State :=
  if s.boundTo c e ≤ 1 then (s.bellFlag c e flag).bellWake c e (s.boundTo c e) flag else s

/-- The sticky bits of a doorbell. -/
def State.bellBits (s : State) (c e : Nat) (bits : List Nat) : State := bits.foldl (fun s b => s.carrelBit c (b + 8 * e)) s

theorem State.doorbell_eq (s : State) (c e : Nat) (bits : List Nat) (flag : Option Nat) :
    s.doorbell c e bits flag = (s.bellBits c e bits).bellRings c e flag := rfl

/-- A doorbell past its bits: the domain of a core, and the event machinery. -/
theorem State.bellRings_frame (s : State) (c e : Nat) (flag : Option Nat) :
    OnlyEv coreDomains s (s.bellRings c e flag) ∧ StickyUp s (s.bellRings c e flag) := by
  have hflag : OnlyEv coreDomains s (s.bellFlag c e flag) ∧ StickyUp s (s.bellFlag c e flag) := by
    cases flag with
    | none => exact ⟨.refl _ _, .refl _⟩
    | some fl => exact ⟨.ite ((OnlyEv.refl _ _).dspFlags _ _) (.refl _ _), .ite ((StickyUp.refl _).dspFlags _ _) (.refl _)⟩
  unfold State.bellRings
  obtain ⟨hframe, hup⟩ := hflag
  split
  next hmid =>
    have hm : wholeReg (Reg.PWR_DSTAT (78 + s.boundTo c e)) ∈ coreDomains := by
      rcases Nat.le_one_iff_eq_zero_or_eq_one.1 hmid with h | h <;> simp [coreDomains, h]
    exact ⟨.ite ((hframe.wakeDomain _ _ _ hm).exitSource _ _ _ _ _) hframe, .ite ((hup.wakeDomain _ _ _).exitSource _ _ _ _ _) hup⟩
  next => exact ⟨.refl _ _, .refl _⟩

theorem State.carrelBit_frame (s : State) {c : Nat} (hc : c < 32) (b : Nat) :
    OnlyEv [wholeReg (Reg.CRL_STAT c)] s (s.carrelBit c b) :=
  .ite (.refl _ _) (((OnlyEv.refl _ s).setReg (crlBit c b).addr _ List.mem_cons_self).raise _ (by omega))

theorem State.carrelBit_stickyUp (s : State) (c b : Nat) : StickyUp s (s.carrelBit c b) := by
  have hbit : ¬ stickyAddr (crlBit c b).addr := not_stickyAddr_of_above (by simp only [Reg.CRL_STAT]; omega)
  exact .ite (.refl _) (((StickyUp.refl s).setReg _ hbit).raise _)

theorem State.bellBits_frame (s : State) {c : Nat} (hc : c < 32) (e : Nat) (bits : List Nat) :
    OnlyEv [wholeReg (Reg.CRL_STAT c)] s (s.bellBits c e bits) ∧ StickyUp s (s.bellBits c e bits) :=
  ⟨.foldl _ _ (fun t _ _ h => h.trans (t.carrelBit_frame hc _)) (.refl _ _),
    .foldl _ _ (fun t _ _ => t.carrelBit_stickyUp c _) (.refl _)⟩

/-- A doorbell changes CRL_STATc, the domain of a core, and the event machinery. -/
theorem State.doorbell_frame (s : State) {c : Nat} (hc : c < 32) (e : Nat) (bits : List Nat) (flag : Option Nat) :
    OnlyEv (bellFields c) s (s.doorbell c e bits flag) ∧ StickyUp s (s.doorbell c e bits flag) := by
  rw [State.doorbell_eq]
  obtain ⟨hbits, hup⟩ := s.bellBits_frame hc e bits
  obtain ⟨hrings, hup'⟩ := (s.bellBits c e bits).bellRings_frame c e flag
  exact ⟨(hbits.mono (by simp [bellFields])).trans (hrings.mono fun f hf => List.mem_cons_of_mem _ hf), hup.trans hup'⟩

/-- A bit of a doorbell has risen: it reads 1, and EV436 + c was raised unless it did before (R491). -/
def State.Rung (s t : State) (c n : Nat) : Prop :=
  t.flag (crlBit c n) = true ∧ (s.flag (crlBit c n) = false → t.sticky (436 + c) = true)

section
variable {s t u : State} {c n : Nat} (hc : c < 32)
include hc

/-- What keeps CRL_STATc and clears no sticky bit keeps a risen bit. -/
theorem State.Rung.keep (h : s.Rung t c n) (hflag : t.flag (crlBit c n) = true → u.flag (crlBit c n) = true) (hup : StickyUp t u) :
    s.Rung u c n := ⟨hflag h.1, fun hs => hup _ (by omega) (h.2 hs)⟩

theorem State.flag_carrelBit_other (t : State) {m : Nat} (hm : m < 32) (h : n ≠ m) :
    (t.carrelBit c m).flag (crlBit c n) = t.flag (crlBit c n) := by
  unfold State.carrelBit
  dsimp only
  split
  · rfl
  · exact State.flag_raiseBit_apart _ _ _ (by omega) (CRL_STAT_safe hc rfl) (by simp [Field.fits]; omega) (Or.inr (by dsimp only; omega))

/-- A bit that had not changed before it is set has risen. -/
theorem State.carrelBit_rung (t : State) (hn : n < 32) (h : s.Rung t c n ∨ t.flag (crlBit c n) = s.flag (crlBit c n)) :
    s.Rung (t.carrelBit c n) c n := by
  by_cases hset : t.flag (crlBit c n) = true
  · have hid : t.carrelBit c n = t := if_pos hset
    rw [hid]
    rcases h with h | h
    · exact h
    · exact ⟨hset, fun hs => absurd (h ▸ hset) (by rw [hs]; exact Bool.false_ne_true)⟩
  · have hraise : t.carrelBit c n = t.raiseBit (crlBit c n) (436 + c) := if_neg hset
    obtain ⟨hflag, hsticky⟩ := t.raiseBit_spec (f := crlBit c n) (n := 436 + c) (by omega) (CRL_STAT_safe hc rfl)
      (by simp [Field.fits]; omega) rfl
    rw [hraise]
    exact ⟨hflag, fun _ => hsticky⟩

theorem State.bellBits_rung {bits : List Nat} {b e : Nat} (hb : b ∈ bits) (hlow : ∀ x ∈ bits, x + 8 * e < 32) :
    s.Rung (s.bellBits c e bits) c (b + 8 * e) := by
  refine foldl_reaches (g := fun t x => t.carrelBit c (x + 8 * e)) (Q := fun t => s.Rung t c (b + 8 * e) ∨ t.flag (crlBit c (b + 8 * e)) = s.flag (crlBit c (b + 8 * e)))
    (P := fun t => s.Rung t c (b + 8 * e)) hb (fun t x hx hq => ?_)
    (fun t hq => ?_) (fun t x hx hne hp => ?_) (Or.inr rfl)
  · by_cases hne : x = b
    · subst hne
      exact Or.inl (State.carrelBit_rung hc t (hlow _ hb) hq)
    · have hkeep := State.flag_carrelBit_other (n := b + 8 * e) hc t (hlow x hx) (by omega)
      exact hq.imp (fun h => h.keep hc (fun hf => hkeep.trans hf) (t.carrelBit_stickyUp c _)) fun h => hkeep.trans h
  · exact State.carrelBit_rung hc t (hlow b hb) hq
  · have hkeep := State.flag_carrelBit_other (n := b + 8 * e) hc t (hlow x hx) (by omega)
    exact hp.keep hc (fun hf => hkeep.trans hf) (t.carrelBit_stickyUp c _)

/-- Every bit of a doorbell has risen after it. -/
theorem State.doorbell_rung {bits : List Nat} {b e : Nat} (flag : Option Nat) (hb : b ∈ bits) (hlow : ∀ x ∈ bits, x + 8 * e < 32) :
    s.Rung (s.doorbell c e bits flag) c (b + 8 * e) := by
  rw [State.doorbell_eq]
  obtain ⟨hframe, hup⟩ := (s.bellBits c e bits).bellRings_frame c e flag
  refine (State.bellBits_rung hc hb hlow).keep hc (fun hf => (hframe.flag_eq (CRL_STAT_safe hc rfl) ?_).trans hf) hup
  exact coreDomains_apart (by simp only [Reg.CRL_STAT]; omega)

end

end Sys2Proof.Machine


/-! PROOFS.  Slots, ends and resets of carrels (R484, R488 to R495). -/

namespace Sys2Proof.Machine

/-! ## Slots and ends -/

section
variable (s : State) {c e k f : Nat}

@[simp] theorem State.slot_setSlot_same (v : Slot) : (s.setSlot c e v).slot c e = v := Sparse.get_put_same _ _ _ _

theorem State.slot_setSlot_other (v : Slot) (h : 2 * k + f ≠ 2 * c + e) : (s.setSlot c e v).slot k f = s.slot k f :=
  Sparse.get_put_other _ _ _ _ h

@[simp] theorem State.cEnd_setSlot (v : Slot) : (s.setSlot c e v).cEnd k f = s.cEnd k f := rfl

@[simp] theorem State.cEnd_setCEnd_same (v : CarrelEnd) : (s.setCEnd c e v).cEnd c e = v := Sparse.get_put_same _ _ _ _

theorem State.cEnd_setCEnd_other (v : CarrelEnd) (h : 2 * k + f ≠ 2 * c + e) : (s.setCEnd c e v).cEnd k f = s.cEnd k f :=
  Sparse.get_put_other _ _ _ _ h

@[simp] theorem State.slot_setCEnd (v : CarrelEnd) : (s.setCEnd c e v).slot k f = s.slot k f := rfl

end

theorem State.slot_congr {s t : State} (h : t.crl = s.crl) (c e : Nat) : t.slot c e = s.slot c e := by
  rw [State.slot, h, State.slot]

theorem State.cEnd_congr {s t : State} (h : t.crl = s.crl) (c e : Nat) : t.cEnd c e = s.cEnd c e := by
  rw [State.cEnd, h, State.cEnd]

/-- An end is end A or end B. -/
theorem State.endOf_lt {s : State} {c e : Nat} {mid : Mid} (h : s.endOf c mid = some e) : e < 2 := by
  unfold State.endOf at h
  split at h
  · exact Option.some.inj h ▸ Nat.zero_lt_two
  · split at h
    · exact Option.some.inj h ▸ Nat.one_lt_two
    · exact absurd h (by simp)

/-! ## Frames over the carrels' own state -/

/-- From `s` to `t` the carrels change, the fields of `w`, and what raising events changes. -/
def OnlyCrl (w : List Field) (s t : State) : Prop := OnlyEv w { s with crl := t.crl } t

section
variable {w : List Field} {s t u : State}

theorem OnlyEv.crl_eq (h : OnlyEv w s t) : t.crl = s.crl := (congrArg (fun x : State => x.crl) h.1 :)

theorem OnlyEv.withCrl (h : OnlyEv w s t) (x : CarrelSt) : OnlyEv w { s with crl := x } { t with crl := x } :=
  ⟨(congrArg (fun y : State => { y with crl := x }) h.1 :), fun g he hg => h.2 g he hg⟩

theorem OnlyCrl.refl (w : List Field) (s : State) : OnlyCrl w s s := OnlyEv.refl w s

theorem OnlyCrl.setSlot (h : OnlyCrl w s t) (c e : Nat) (v : Slot) : OnlyCrl w s (t.setSlot c e v) := OnlyEv.withCrl h _

theorem OnlyCrl.setCEnd (h : OnlyCrl w s t) (c e : Nat) (v : CarrelEnd) : OnlyCrl w s (t.setCEnd c e v) := OnlyEv.withCrl h _

theorem OnlyCrl.ev (h : OnlyCrl w s t) (h' : OnlyEv w t u) : OnlyCrl w s u := by
  have hcrl : OnlyEv w { s with crl := u.crl } t := h'.crl_eq ▸ h
  exact hcrl.trans h'

theorem OnlyCrl.trans (h : OnlyCrl w s t) (h' : OnlyCrl w t u) : OnlyCrl w s u := (OnlyEv.withCrl h u.crl).trans h'

theorem OnlyCrl.of_ev (h : OnlyEv w s t) : OnlyCrl w s t := (OnlyCrl.refl w s).ev h

theorem OnlyCrl.mono {v : List Field} (h : OnlyCrl v s t) (hv : ∀ f ∈ v, f ∈ w) : OnlyCrl w s t := OnlyEv.mono h hv

theorem OnlyCrl.ite {c : Prop} [Decidable c] (ht : OnlyCrl w s t) (hu : OnlyCrl w s u) : OnlyCrl w s (if c then t else u) := by
  split
  · exact ht
  · exact hu

theorem OnlyCrl.foldl {α : Type} (g : State → α → State) (l : List α) (hg : ∀ t, ∀ x ∈ l, OnlyCrl w t (g t x)) (h : OnlyCrl w s t) :
    OnlyCrl w s (l.foldl g t) :=
  List.foldlRecOn l g h fun u hu x hx => hu.trans (hg u x hx)

/-- A field apart from those written and from the event machinery keeps its value. -/
theorem OnlyCrl.fld_eq (h : OnlyCrl w s t) {g : Field} (hs : eventSafe g = true) (hw : ∀ f ∈ w, f.apart g) : t.fld g = s.fld g :=
  h.2 g hs hw

theorem OnlyCrl.flag_eq (h : OnlyCrl w s t) {g : Field} (hs : eventSafe g = true) (hw : ∀ f ∈ w, f.apart g) : t.flag g = s.flag g := by
  rw [State.flag, h.fld_eq hs hw, State.flag]

end

theorem State.doorbell_crl (s : State) {c : Nat} (hc : c < 32) (e : Nat) (bits : List Nat) (flag : Option Nat) :
    (s.doorbell c e bits flag).crl = s.crl := (s.doorbell_frame hc e bits flag).1.crl_eq

/-! ## The reset of an end (R494) -/

/-- A full slot discarded: it is empty, and its sender hears of it. -/
def State.discarded (s : State) (c o : Nat) : State :=
  let t := (s.setSlot c o { s.slot c o with full := false, timed := false }).setCEnd c o { s.cEnd c o with code := Code.discard }
  t.doorbell c o [3, 2] (t.ackFlag c o)

section
variable (s : State) {c : Nat} (hc : c < 32)

theorem State.resetEnd_eq (e : Nat) : s.resetEnd c e =
    let t := if (s.slot c (1 - e)).full then s.discarded c (1 - e) else s
    t.setCEnd c e { t.cEnd c e with epoch := (t.cEnd c e).epoch + 1 } := rfl

theorem State.resetEnd_of_empty {e : Nat} (h : (s.slot c (1 - e)).full = false) :
    s.resetEnd c e = s.setCEnd c e { s.cEnd c e with epoch := (s.cEnd c e).epoch + 1 } := by
  rw [State.resetEnd_eq, h]
  rfl

theorem State.resetEnd_of_full {e : Nat} (h : (s.slot c (1 - e)).full = true) : s.resetEnd c e =
    (s.discarded c (1 - e)).setCEnd c e { (s.discarded c (1 - e)).cEnd c e with epoch := ((s.discarded c (1 - e)).cEnd c e).epoch + 1 } := by
  rw [State.resetEnd_eq, h]
  rfl

include hc

theorem State.discarded_frame (o : Nat) : OnlyCrl (bellFields c) s (s.discarded c o) ∧ StickyUp s (s.discarded c o) := by
  obtain ⟨hframe, hup⟩ := State.doorbell_frame ((s.setSlot c o { s.slot c o with full := false, timed := false }).setCEnd c o
    { s.cEnd c o with code := Code.discard }) hc o [3, 2] (some (s.fld (Fld.CRL_NOTIFY_ACKFLAG c o)))
  exact ⟨(((OnlyCrl.refl _ s).setSlot _ _ _).setCEnd _ _ _).ev hframe, hup⟩

theorem State.slot_discarded (o k f : Nat) : (s.discarded c o).slot k f =
    (s.setSlot c o { s.slot c o with full := false, timed := false }).slot k f :=
  State.slot_congr (State.doorbell_crl _ hc _ _ _) k f

theorem State.cEnd_discarded (o k f : Nat) : (s.discarded c o).cEnd k f =
    (s.setCEnd c o { s.cEnd c o with code := Code.discard }).cEnd k f :=
  State.cEnd_congr (State.doorbell_crl _ hc _ _ _) k f

theorem State.discarded_rung {o b : Nat} (ho : o < 2) (hb : b ∈ [3, 2]) : s.Rung (s.discarded c o) c (b + 8 * o) :=
  State.doorbell_rung (s := (s.setSlot c o _).setCEnd c o _) hc _ hb (by simp; omega)

/-- The reset of an end changes the carrels, CRL_STATc and the domain of a core. -/
theorem State.resetEnd_frame (e : Nat) : OnlyCrl (bellFields c) s (s.resetEnd c e) ∧ StickyUp s (s.resetEnd c e) := by
  obtain ⟨hframe, hup⟩ := s.discarded_frame hc (1 - e)
  rw [State.resetEnd_eq]
  exact ⟨(OnlyCrl.ite hframe (.refl _ s)).setCEnd _ _ _, StickyUp.ite hup (.refl s)⟩

/-- The epoch of an end that is reset advances; the other end's stays. -/
theorem State.cEnd_resetEnd_epoch {e f : Nat} (he : e < 2) :
    ((s.resetEnd c e).cEnd c f).epoch = if f = e then (s.cEnd c f).epoch + 1 else (s.cEnd c f).epoch := by
  have hcode (o : Nat) : ((s.discarded c o).cEnd c f).epoch = (s.cEnd c f).epoch := by
    rw [s.cEnd_discarded hc]
    by_cases ho : f = o
    · subst ho
      rw [State.cEnd_setCEnd_same]
    · rw [State.cEnd_setCEnd_other _ _ (by omega)]
  rw [State.resetEnd_eq]
  dsimp only
  have ht : ((if (s.slot c (1 - e)).full then s.discarded c (1 - e) else s).cEnd c f).epoch = (s.cEnd c f).epoch := by
    split
    · exact hcode _
    · rfl
  generalize (if (s.slot c (1 - e)).full then s.discarded c (1 - e) else s) = t at ht ⊢
  split
  next h =>
    subst h
    rw [State.cEnd_setCEnd_same, ht]
  next h => rw [State.cEnd_setCEnd_other _ _ (by omega), ht]

end

/-! ## Resets of every end of a MID (R495) -/

/-- The registers that the doorbells of all carrels may write. -/
def allBells : List Field := (List.range 32).map (fun c => wholeReg (Reg.CRL_STAT c)) ++ coreDomains

theorem bellFields_allBells {c : Nat} (hc : c < 32) : ∀ f ∈ bellFields c, f ∈ allBells := by
  intro f hf
  rcases List.mem_cons.1 hf with rfl | h
  · exact List.mem_append_left _ (List.mem_map.2 ⟨c, List.mem_range.2 hc, rfl⟩)
  · exact List.mem_append_right _ h

/-- The registers of the carrels' doorbells, and those of the cores' domains, lie below the loader's and above the identity's. -/
theorem allBells_apart {g : Field} (h : g.addr < 0x201338 ∨ (0x201340 ≤ g.addr ∧ g.addr < 0x1200400) ∨ 0x1200480 ≤ g.addr) :
    ∀ f ∈ allBells, f.apart g := by
  intro f hf
  rcases List.mem_append.1 hf with hf | hf
  · obtain ⟨c, hc, rfl⟩ := List.mem_map.1 hf
    have := List.mem_range.1 hc
    exact Or.inl (by simp only [wholeReg, Reg.CRL_STAT]; omega)
  · simp only [coreDomains, List.mem_cons, List.not_mem_nil, or_false] at hf
    rcases hf with rfl | rfl <;> exact Or.inl (by simp only [wholeReg, Reg.PWR_DSTAT]; omega)

theorem State.resetEndsOf_frame (s : State) (mid : Nat) :
    OnlyCrl allBells s (s.resetEndsOf mid) ∧ StickyUp s (s.resetEndsOf mid) := by
  have hone (t : State) {c : Nat} (hc : c < 32) (e : Nat) : OnlyCrl allBells t (t.resetEnd c e) :=
    (t.resetEnd_frame hc e).1.mono (bellFields_allBells hc)
  constructor
  · refine .foldl _ _ (fun t c hc => ?_) (.refl _ s)
    have hA : OnlyCrl allBells t (if t.boundTo c 0 = mid then t.resetEnd c 0 else t) := .ite (hone t (List.mem_range.1 hc) 0) (.refl _ t)
    exact .ite (hA.trans (hone _ (List.mem_range.1 hc) 1)) hA
  · refine .foldl _ _ (fun t c hc => ?_) (.refl s)
    have hA : StickyUp t (if t.boundTo c 0 = mid then t.resetEnd c 0 else t) := .ite (t.resetEnd_frame (List.mem_range.1 hc) 0).2 (.refl t)
    exact .ite (hA.trans (State.resetEnd_frame _ (List.mem_range.1 hc) 1).2) hA

end Sys2Proof.Machine


/-! PROOFS.  Carrels: bindings, posts, acknowledgements, withdrawals, resets and timeouts (R485 to R495). -/

namespace Sys2Proof.Machine

/-! ## Refusals and full slots -/

section
variable (s : State) {c : Nat} (hc : c < 32)

include hc in
/-- A refusal of a carrel (R485, R487). -/
theorem State.carrelDeny_spec : (s.carrelDeny c).done.status = Code.denied ∧ (s.carrelDeny c).flag (Fld.CRL_STAT_DENIED c) = true ∧
    (s.carrelDeny c).sticky (436 + c) = true ∧ OnlyEv [Fld.CRL_STAT_DENIED c] s (s.carrelDeny c) :=
  s.raiseBit_reply_spec _ (by omega) (CRL_STAT_safe hc rfl) rfl rfl

include hc in
/-- What a full slot answers to its sender (R489). -/
theorem State.carrelFull_spec {e : Nat} (he : e < 2) :
    let t := (s.raiseBit ⟨Reg.CRL_STAT c, 4 + 8 * e, 1⟩ (436 + c)).reply Code.crlFull
    t.done.status = Code.crlFull ∧ t.flag ⟨Reg.CRL_STAT c, 4 + 8 * e, 1⟩ = true ∧ t.sticky (436 + c) = true ∧
      OnlyEv [⟨Reg.CRL_STAT c, 4 + 8 * e, 1⟩] s t :=
  s.raiseBit_reply_spec _ (by omega) (CRL_STAT_safe hc rfl) (by simp [Field.fits]; omega) rfl

variable {s} {mid : Mid} {e : Nat}

theorem State.carrelTxd_of_none (h : s.endOf c mid = none) (n : Nat) (v : Word32) : s.carrelTxd mid c n v = s.carrelDeny c := by
  rw [State.carrelTxd, h]

theorem State.carrelPost_of_none (h : s.endOf c mid = none) (n : Nat) (tag : BitVec 16) : s.carrelPost mid c n tag = s.carrelDeny c := by
  rw [State.carrelPost, h]

theorem State.carrelWithdraw_of_none (h : s.endOf c mid = none) : s.carrelWithdraw mid c = s.carrelDeny c := by
  rw [State.carrelWithdraw, h]

theorem State.carrelAck_of_none (h : s.endOf c mid = none) (r : BitVec 16) : s.carrelAck mid c r = s.carrelDeny c := by
  rw [State.carrelAck, h]

theorem State.carrelEndReset_of_none (h : s.endOf c mid = none) : s.carrelEndReset mid c = s.carrelDeny c := by
  rw [State.carrelEndReset, h]

theorem State.carrelTxd_of_full (h : s.endOf c mid = some e) (hf : (s.slot c e).full = true) (n : Nat) (v : Word32) :
    s.carrelTxd mid c n v = (s.raiseBit ⟨Reg.CRL_STAT c, 4 + 8 * e, 1⟩ (436 + c)).reply Code.crlFull := by
  rw [State.carrelTxd, h]
  exact if_pos hf

theorem State.carrelPost_of_full (h : s.endOf c mid = some e) (hf : (s.slot c e).full = true) (n : Nat) (tag : BitVec 16) :
    s.carrelPost mid c n tag = (s.raiseBit ⟨Reg.CRL_STAT c, 4 + 8 * e, 1⟩ (436 + c)).reply Code.crlFull := by
  rw [State.carrelPost, h]
  exact if_pos hf

theorem State.carrelTxd_of_empty (h : s.endOf c mid = some e) (hf : (s.slot c e).full = false) (n : Nat) (v : Word32) :
    s.carrelTxd mid c n v = (s.setSlot c e { s.slot c e with words := Sparse.put 0 (s.slot c e).words n v }).reply Code.ok := by
  rw [State.carrelTxd, h]
  exact if_neg (by rw [hf]; exact Bool.false_ne_true)

/-- The slot that a post leaves (R488). -/
def State.postedSlot (s : State) (c e len : Nat) (tag : BitVec 16) : Slot :=
  { s.slot c e with
    len := if len = 0 ∨ 16 < len then 16 else len, tag := tag, epoch := (s.cEnd c e).epoch, full := true,
    tmo := s.fld Fld.CRL_TMO_US, timed := false }

/-- A slot emptied. -/
def State.emptySlot (s : State) (c e : Nat) : State := s.setSlot c e { s.slot c e with full := false, timed := false }

theorem State.carrelPost_of_empty (h : s.endOf c mid = some e) (hf : (s.slot c e).full = false) (n : Nat) (tag : BitVec 16) :
    s.carrelPost mid c n tag = ((s.setSlot c e (s.postedSlot c e n tag)).doorbell c (1 - e) [0]
      (some (s.fld (Fld.CRL_NOTIFY_RXFLAG c (1 - e))))).reply Code.ok := by
  rw [State.carrelPost, h]
  exact if_neg (by rw [hf]; exact Bool.false_ne_true)

theorem State.carrelWithdraw_of_full (h : s.endOf c mid = some e) (hf : (s.slot c e).full = true) :
    s.carrelWithdraw mid c = ((s.emptySlot c e).doorbell c (1 - e) [5] none).reply Code.ok := by
  rw [State.carrelWithdraw, h]
  exact if_pos hf

theorem State.carrelWithdraw_of_empty (h : s.endOf c mid = some e) (hf : (s.slot c e).full = false) :
    s.carrelWithdraw mid c = s.reply Code.ok := by
  rw [State.carrelWithdraw, h]
  exact if_neg (by rw [hf]; exact Bool.false_ne_true)

/-- A slot released: it is empty, and the end that filled it has an answer. -/
def State.releasedSlot (s : State) (c o : Nat) (r : BitVec 16) : State :=
  (s.emptySlot c o).setCEnd c o { s.cEnd c o with code := Code.ok, reply := r }

theorem State.carrelAck_of_full (h : s.endOf c mid = some e) (hf : (s.slot c (1 - e)).full = true) (r : BitVec 16) :
    s.carrelAck mid c r = ((s.releasedSlot c (1 - e) r).doorbell c (1 - e) [1]
      (some (s.fld (Fld.CRL_NOTIFY_ACKFLAG c (1 - e))))).reply Code.ok := by
  rw [State.carrelAck, h]
  exact if_pos hf

theorem State.carrelAck_of_empty (h : s.endOf c mid = some e) (hf : (s.slot c (1 - e)).full = false) (r : BitVec 16) :
    s.carrelAck mid c r = s.reply Code.ok := by
  rw [State.carrelAck, h]
  exact if_neg (by rw [hf]; exact Bool.false_ne_true)

theorem State.carrelEndReset_of_end (h : s.endOf c mid = some e) : s.carrelEndReset mid c = (s.resetEnd c e).reply Code.ok := by
  rw [State.carrelEndReset, h]

end

/-! ## Bindings (R485, R486) -/

theorem Field.get_lt (f : Field) (w : Word32) : f.get w < 2 ^ f.width := Nat.mod_lt _ (Nat.two_pow_pos _)


section
variable (s : State) {c : Nat} (hc : c < 32)

/-- The registers of a doorbell lie apart from the bindings. -/
theorem bellFields_apart_bind : ∀ f ∈ bellFields c, f.apart (wholeReg (Reg.CRL_BIND c)) := by
  intro f hf
  rcases List.mem_cons.1 hf with rfl | h
  · exact Or.inl (by simp only [wholeReg, Reg.CRL_STAT, Reg.CRL_BIND]; omega)
  · exact coreDomains_apart (by simp only [wholeReg, Reg.CRL_BIND]; omega) f h

/-- The carrels' registers lie above those of the event machinery (R508). -/
theorem eventSafe_of_carrel {f : Field} (hlow : 0x1200000 ≤ f.addr) (hhigh : f.addr < 0x2000000) : eventSafe f = true := by
  simp only [eventSafe, Reg.LIB_LOG_WP, Reg.LIB_LOG_DROP, Reg.LIB_STATUS, Reg.PWR_STATUS, Bool.and_eq_true, Bool.or_eq_true,
    Bool.not_eq_true', Bool.and_eq_false_iff, bne_iff_ne, decide_eq_true_eq, decide_eq_false_iff_not]
  omega

theorem CRL_BIND_safe (hc : c < 32) : eventSafe (wholeReg (Reg.CRL_BIND c)) = true :=
  eventSafe_of_carrel (by simp only [wholeReg, Reg.CRL_BIND]; omega) (by simp only [wholeReg, Reg.CRL_BIND]; omega)

/-- An end that is reset where its MID changes. -/
def State.rebound (s : State) (c e : Nat) (changed : Bool) : State := if changed then s.resetEnd c e else s

include hc in
theorem State.rebound_spec (e : Nat) (he : e < 2) (changed : Bool) :
    (s.rebound c e changed).reg (Reg.CRL_BIND c) = s.reg (Reg.CRL_BIND c) ∧
    ((s.rebound c e changed).cEnd c e).epoch = (if changed then (s.cEnd c e).epoch + 1 else (s.cEnd c e).epoch) ∧
    ((s.rebound c e changed).cEnd c (1 - e)).epoch = (s.cEnd c (1 - e)).epoch := by
  cases changed with
  | false => exact ⟨rfl, rfl, rfl⟩
  | true =>
    refine ⟨?_, ?_, ?_⟩
    · exact OnlyEv.reg_eq (s := { s with crl := (s.resetEnd c e).crl }) (s.resetEnd_frame hc e).1 (CRL_BIND_safe hc)
        bellFields_apart_bind
    · exact (s.cEnd_resetEnd_epoch hc he).trans (if_pos rfl)
    · exact (s.cEnd_resetEnd_epoch hc he).trans (if_neg (by omega))

end

/-- Both ends written and then reset where their MID changed. -/
def State.rebind (s : State) (c a b : Nat) (ca cb : Bool) : State :=
  (((s.setFld (Fld.CRL_BIND_MID_A c) a).setFld (Fld.CRL_BIND_MID_B c) b).rebound c 0 ca).rebound c 1 cb

section
variable (s : State) {c a b : Nat} (hc : c < 32) (ha : a < 256) (hb : b < 256)
include hc

theorem State.rebind_epochs (ca cb : Bool) :
    ((s.rebind c a b ca cb).cEnd c 0).epoch = (if ca then (s.cEnd c 0).epoch + 1 else (s.cEnd c 0).epoch) ∧
    ((s.rebind c a b ca cb).cEnd c 1).epoch = (if cb then (s.cEnd c 1).epoch + 1 else (s.cEnd c 1).epoch) := by
  obtain ⟨-, hA, hB⟩ := ((s.setFld (Fld.CRL_BIND_MID_A c) a).setFld (Fld.CRL_BIND_MID_B c) b).rebound_spec hc 0 (by omega) ca
  obtain ⟨-, hB', hA'⟩ := State.rebound_spec
    (((s.setFld (Fld.CRL_BIND_MID_A c) a).setFld (Fld.CRL_BIND_MID_B c) b).rebound c 0 ca) hc 1 (by omega) cb
  refine ⟨hA'.trans hA, hB'.trans ?_⟩
  rw [hB]
  rfl

include ha hb

theorem State.rebind_bound (ca cb : Bool) : (s.rebind c a b ca cb).boundTo c 0 = a ∧ (s.rebind c a b ca cb).boundTo c 1 = b := by
  obtain ⟨hreg, -⟩ := ((s.setFld (Fld.CRL_BIND_MID_A c) a).setFld (Fld.CRL_BIND_MID_B c) b).rebound_spec hc 0 (by omega) ca
  obtain ⟨hreg', -⟩ := State.rebound_spec
    (((s.setFld (Fld.CRL_BIND_MID_A c) a).setFld (Fld.CRL_BIND_MID_B c) b).rebound c 0 ca) hc 1 (by omega) cb
  have hkeep := hreg'.trans hreg
  constructor
  · have hA : ((s.setFld (Fld.CRL_BIND_MID_A c) a).setFld (Fld.CRL_BIND_MID_B c) b).fld (Fld.CRL_BIND_MID_A c) = a := by
      rw [State.fld_setFld_apart _ _ _ _ rfl (Or.inr (Or.inr (Nat.le_refl _))), State.fld_setFld_same _ _ _ rfl]
      exact Nat.mod_eq_of_lt ha
    exact (State.fld_of_reg hkeep).trans hA
  · have hB : ((s.setFld (Fld.CRL_BIND_MID_A c) a).setFld (Fld.CRL_BIND_MID_B c) b).fld (Fld.CRL_BIND_MID_B c) = b :=
      (State.fld_setFld_same _ _ _ rfl).trans (Nat.mod_eq_of_lt hb)
    exact (State.fld_of_reg hkeep).trans hB

end

section
variable {s : State} {c : Nat} {mid : Mid} {v : Word32} {a b : Nat} (ha : (Fld.CRL_BIND_MID_A c).get v = a)
  (hb : (Fld.CRL_BIND_MID_B c).get v = b)
include ha hb

theorem State.carrelBind_allowed (hallowed : bindable a = true ∧ bindable b = true ∧ (a ≠ b ∨ a = 0xFF))
    (hlock : s.flag Fld.CRL_CTRL_LOCK = false) (hmay : s.mayAssign mid 0x0A c = true) :
    s.carrelBind mid c v = (State.rebind { s with own := (s.takeClaim mid 0x0A c).own } c a b (a != s.boundTo c 0)
      (b != s.boundTo c 1)).reply Code.ok := by
  obtain ⟨hba, hbb, hne⟩ := hallowed
  have hpair : (a == b && a != 0xFF) = false := by simpa [not_and_or, or_iff_not_imp_left] using hne
  subst ha hb
  rw [State.carrelBind, hlock, hba, hbb, hpair, State.assign_of_may hmay]
  rfl

theorem State.carrelBind_locked_same (hallowed : bindable a = true ∧ bindable b = true ∧ (a ≠ b ∨ a = 0xFF))
    (hlock : s.flag Fld.CRL_CTRL_LOCK = true) (hsame : a = s.boundTo c 0 ∧ b = s.boundTo c 1) :
    s.carrelBind mid c v = s.reply Code.ok := by
  obtain ⟨hba, hbb, hne⟩ := hallowed
  have hpair : (a == b && a != 0xFF) = false := by simpa [not_and_or, or_iff_not_imp_left] using hne
  subst ha hb
  rw [State.carrelBind, hlock, hba, hbb, hpair, ← hsame.1, ← hsame.2]
  simp

theorem State.carrelBind_denied (h : ¬ (bindable a = true ∧ bindable b = true ∧ (a ≠ b ∨ a = 0xFF)) ∨
    (s.flag Fld.CRL_CTRL_LOCK = true ∧ ¬ (a = s.boundTo c 0 ∧ b = s.boundTo c 1))) : s.carrelBind mid c v = s.carrelDeny c := by
  subst ha hb
  rw [State.carrelBind]
  dsimp only
  by_cases hbad : (!bindable ((Fld.CRL_BIND_MID_A c).get v) || !bindable ((Fld.CRL_BIND_MID_B c).get v) ||
      ((Fld.CRL_BIND_MID_A c).get v == (Fld.CRL_BIND_MID_B c).get v && (Fld.CRL_BIND_MID_A c).get v != 0xFF)) = true
  · exact if_pos hbad
  · have hok : bindable ((Fld.CRL_BIND_MID_A c).get v) = true ∧ bindable ((Fld.CRL_BIND_MID_B c).get v) = true ∧
        ((Fld.CRL_BIND_MID_A c).get v ≠ (Fld.CRL_BIND_MID_B c).get v ∨ (Fld.CRL_BIND_MID_A c).get v = 0xFF) := by
      simpa [not_or, and_assoc, or_iff_not_imp_left] using hbad
    obtain ⟨hlock, hdiff⟩ := h.resolve_left fun hn => hn hok
    rw [if_neg hbad, if_pos]
    simpa [hlock, ← not_and_or] using hdiff

end

/-- Settles O43: each refusal by its condition, and a binding through the two ends' resets. -/
theorem carrelBindings : Obligations.CarrelBindings := by
  intro mid c word value len tag reply s a b allowed same denied
  have hdeny {i : Instr} (hi : exec i s = .next (s.carrelDeny c)) : denied i := ⟨_, hi, s.carrelDeny_spec c.isLt⟩
  refine ⟨fun hawake => ?_, fun hawake => ?_⟩
  · have hexec : exec (.crlBindWrite mid c value) s = .next (s.carrelBind mid c value) :=
      congrArg Host.Outcome.next (State.gate_of_awake hawake _ _ _)
    refine ⟨fun hallowed hlock hmay => ?_, fun hallowed hlock hsame => ?_, fun h => ?_⟩
    · refine .of_eq hexec (State.carrelBind_allowed rfl rfl hallowed hlock hmay) ?_
      obtain ⟨hA, hB⟩ := State.rebind_bound { s with own := (s.takeClaim mid 0x0A c).own } c.isLt (Field.get_lt (Fld.CRL_BIND_MID_A c) value)
        (Field.get_lt (Fld.CRL_BIND_MID_B c) value) (a != s.boundTo c 0) (b != s.boundTo c 1)
      obtain ⟨heA, heB⟩ := State.rebind_epochs { s with own := (s.takeClaim mid 0x0A c).own } (a := a) (b := b) c.isLt
        (a != s.boundTo c 0) (b != s.boundTo c 1)
      refine ⟨hA, hB, rfl, heA.trans ?_, heB.trans ?_⟩
      · by_cases h : a = s.boundTo c 0 <;> simp [h] <;> rfl
      · by_cases h : b = s.boundTo c 1 <;> simp [h] <;> rfl
    · exact .of_eq hexec (State.carrelBind_locked_same rfl rfl hallowed hlock hsame) rfl
    · exact hdeny (hexec.trans (congrArg _ (State.carrelBind_denied rfl rfl h)))
  · have hword : (4 * word.val) < 256 := by omega
    have htxd : exec (.crlTxdWrite mid c word value) s = .next (s.carrelTxd mid c word value) :=
      congrArg Host.Outcome.next (State.gate_of_awake (hawake _ hword) _ _ _)
    have hpost : exec (.crlPost mid c len tag) s = .next (s.carrelPost mid c len.toNat tag) :=
      congrArg Host.Outcome.next (State.gate_of_awake (hawake 0x80 (by omega)) _ _ _)
    have hwd : exec (.crlWithdraw mid c) s = .next (s.carrelWithdraw mid c) :=
      congrArg Host.Outcome.next (State.gate_of_awake (hawake 0x80 (by omega)) _ _ _)
    have hack : exec (.crlAck mid c reply) s = .next (s.carrelAck mid c reply) :=
      congrArg Host.Outcome.next (State.gate_of_awake (hawake 0x84 (by omega)) _ _ _)
    have hreset : exec (.endReset mid c) s = .next (s.carrelEndReset mid c) :=
      congrArg Host.Outcome.next (State.gate_of_awake (hawake 0x94 (by omega)) _ _ _)
    refine ⟨fun hnone => ?_, fun e hend => ⟨fun hempty => ?_, fun hfull => ?_⟩⟩
    · simp only [List.forall_mem_cons, List.not_mem_nil, false_implies, implies_true, and_true]
      exact ⟨hdeny (htxd.trans (congrArg _ (State.carrelTxd_of_none hnone _ _))),
        hdeny (hpost.trans (congrArg _ (State.carrelPost_of_none hnone _ _))),
        hdeny (hwd.trans (congrArg _ (State.carrelWithdraw_of_none hnone))),
        hdeny (hack.trans (congrArg _ (State.carrelAck_of_none hnone _))),
        hdeny (hreset.trans (congrArg _ (State.carrelEndReset_of_none hnone)))⟩
    · refine .of_eq htxd (State.carrelTxd_of_empty hend hempty _ _) ⟨State.slot_setSlot_same _ _, fun k f hne hf => ?_, rfl,
        (Only.refl _ _).reply _ _⟩
      have he := State.endOf_lt hend
      exact State.slot_setSlot_other _ _ fun h => hne (by rw [Prod.mk.injEq]; omega)
    · have hspec := s.carrelFull_spec c.isLt (State.endOf_lt hend)
      simp only [List.forall_mem_cons, List.not_mem_nil, false_implies, implies_true, and_true]
      exact ⟨.of_eq htxd (State.carrelTxd_of_full hend hfull _ _) hspec, .of_eq hpost (State.carrelPost_of_full hend hfull _ _) hspec⟩

end Sys2Proof.Machine


/-! PROOFS.  Traffic of carrels: posts, releases, resets, time-outs and withdrawals (R488 to R495). -/

namespace Sys2Proof.Machine

/-! ## What a command of a carrel keeps -/

/-- From `s` to `t` only carrel `c`, CRL_STATc, the cores' domains and what raising events changes do change. -/
def State.CarrelKept (s : State) (c : Nat) (t : State) : Prop :=
  OnlyCrl (bellFields c) s t ∧ ∀ k f, k ≠ c → f < 2 → t.slot k f = s.slot k f ∧ t.cEnd k f = s.cEnd k f

section
variable {s t : State} {c e : Nat}

theorem State.CarrelKept.refl (s : State) (c : Nat) : s.CarrelKept c s := ⟨.refl _ s, fun _ _ _ _ => ⟨rfl, rfl⟩⟩

theorem State.CarrelKept.setSlot (h : s.CarrelKept c t) (he : e < 2) (v : Slot) : s.CarrelKept c (t.setSlot c e v) := by
  refine ⟨h.1.setSlot _ _ _, fun k f hk hf => ⟨?_, (h.2 k f hk hf).2⟩⟩
  exact (State.slot_setSlot_other _ _ (by omega)).trans (h.2 k f hk hf).1

theorem State.CarrelKept.setCEnd (h : s.CarrelKept c t) (he : e < 2) (v : CarrelEnd) : s.CarrelKept c (t.setCEnd c e v) := by
  refine ⟨h.1.setCEnd _ _ _, fun k f hk hf => ⟨(h.2 k f hk hf).1, ?_⟩⟩
  exact (State.cEnd_setCEnd_other _ _ (by omega)).trans (h.2 k f hk hf).2

theorem State.CarrelKept.doorbell (h : s.CarrelKept c t) (hc : c < 32) (e : Nat) (bits : List Nat) (flag : Option Nat) :
    s.CarrelKept c (t.doorbell c e bits flag) := by
  have hcrl := t.doorbell_crl hc e bits flag
  refine ⟨h.1.ev (t.doorbell_frame hc e bits flag).1, fun k f hk hf => ?_⟩
  rw [State.slot_congr hcrl, State.cEnd_congr hcrl]
  exact h.2 k f hk hf

theorem State.CarrelKept.reply (h : s.CarrelKept c t) (code : Status) : s.CarrelKept c (t.reply code) :=
  ⟨OnlyEv.reply h.1 _, h.2⟩

theorem State.CarrelKept.discarded (h : s.CarrelKept c t) (hc : c < 32) (he : e < 2) : s.CarrelKept c (t.discarded c e) :=
  ((h.setSlot he _).setCEnd he _).doorbell hc _ _ _

theorem State.CarrelKept.resetEnd (h : s.CarrelKept c t) (hc : c < 32) (he : e < 2) : s.CarrelKept c (t.resetEnd c e) := by
  cases hf : (t.slot c (1 - e)).full with
  | true =>
    rw [State.resetEnd_of_full _ hf]
    exact (h.discarded hc (by omega)).setCEnd he _
  | false =>
    rw [State.resetEnd_of_empty _ hf]
    exact h.setCEnd he _

end

/-! ## Each command -/

section
variable {s : State} {c e : Nat} (hc : c < 32) (he : e < 2)
include hc he

/-- A doorbell to an end with one bit: the bit has risen, and the carrels are as before. -/
theorem State.doorbell_one (t : State) (bit : Nat) (hbit : bit < 24) (flag : Option Nat) :
    t.Rung (t.doorbell c e [bit] flag) c (bit + 8 * e) ∧ (t.doorbell c e [bit] flag).crl = t.crl :=
  ⟨State.doorbell_rung hc flag List.mem_cons_self (by simp; omega), t.doorbell_crl hc e [bit] flag⟩

theorem State.posted_spec (len : Nat) (tag : BitVec 16) (flag : Option Nat) :
    let t := ((s.setSlot c e (s.postedSlot c e len tag)).doorbell c (1 - e) [0] flag).reply Code.ok
    t.slot c e = s.postedSlot c e len tag ∧ t.slot c (1 - e) = s.slot c (1 - e) ∧ s.Rung t c (0 + 8 * (1 - e)) ∧
      t.done.status = Code.ok ∧ s.CarrelKept c t := by
  obtain ⟨hrung, hcrl⟩ := State.doorbell_one hc (show 1 - e < 2 by omega) (s.setSlot c e (s.postedSlot c e len tag)) 0 (by omega) flag
  refine ⟨?_, ?_, hrung, rfl, (((State.CarrelKept.refl s c).setSlot he _).doorbell hc _ _ _).reply _⟩
  · exact (State.slot_congr hcrl c e).trans (State.slot_setSlot_same _ _)
  · exact (State.slot_congr hcrl c _).trans (State.slot_setSlot_other _ _ (by omega))

theorem State.withdrawn_spec :
    let t := ((s.emptySlot c e).doorbell c (1 - e) [5] none).reply Code.ok
    t.slot c e = { s.slot c e with full := false, timed := false } ∧ t.slot c (1 - e) = s.slot c (1 - e) ∧
      s.Rung t c (5 + 8 * (1 - e)) ∧ t.done.status = Code.ok ∧ s.CarrelKept c t ∧ t.cEnd c e = s.cEnd c e := by
  obtain ⟨hrung, hcrl⟩ := State.doorbell_one hc (show 1 - e < 2 by omega) (s.emptySlot c e) 5 (by omega) none
  refine ⟨?_, ?_, hrung, rfl, (((State.CarrelKept.refl s c).setSlot he _).doorbell hc _ _ _).reply _, ?_⟩
  · exact (State.slot_congr hcrl c e).trans (State.slot_setSlot_same _ _)
  · exact (State.slot_congr hcrl c _).trans (State.slot_setSlot_other _ _ (by omega))
  · exact State.cEnd_congr hcrl c e

/-- A release of the slot of end `e`, which the other end reads. -/
theorem State.released_spec (r : BitVec 16) (flag : Option Nat) :
    let t := ((s.releasedSlot c e r).doorbell c e [1] flag).reply Code.ok
    t.slot c e = { s.slot c e with full := false, timed := false } ∧ t.slot c (1 - e) = s.slot c (1 - e) ∧
      t.cEnd c e = { s.cEnd c e with code := Code.ok, reply := r } ∧ t.cEnd c (1 - e) = s.cEnd c (1 - e) ∧
      s.Rung t c (1 + 8 * e) ∧ t.done.status = Code.ok ∧ s.CarrelKept c t := by
  obtain ⟨hrung, hcrl⟩ := State.doorbell_one hc he (s.releasedSlot c e r) 1 (by omega) flag
  refine ⟨?_, ?_, ?_, ?_, hrung, rfl, ((((State.CarrelKept.refl s c).setSlot he _).setCEnd he _).doorbell hc _ _ _).reply _⟩
  · exact (State.slot_congr hcrl c e).trans (State.slot_setSlot_same s _)
  · exact (State.slot_congr hcrl c _).trans (State.slot_setSlot_other s _ (by omega))
  · exact (State.cEnd_congr hcrl c e).trans (State.cEnd_setCEnd_same _ _)
  · exact (State.cEnd_congr hcrl c _).trans (State.cEnd_setCEnd_other _ _ (by omega))

/-- The post of end `e` whose time has run out. -/
def State.timedOut (s : State) (c e : Nat) : State :=
  (s.setSlot c e { s.slot c e with timed := true }).setCEnd c e { s.cEnd c e with code := Code.timeout }

theorem State.timedOut_spec (flag : Option Nat) :
    let t := (s.timedOut c e).doorbell c e [2] flag
    t.slot c e = { s.slot c e with timed := true } ∧ (t.cEnd c e).code = Code.timeout ∧ t.slot c (1 - e) = s.slot c (1 - e) ∧
      t.cEnd c (1 - e) = s.cEnd c (1 - e) ∧ s.Rung t c (2 + 8 * e) ∧ s.CarrelKept c t := by
  obtain ⟨hrung, hcrl⟩ := State.doorbell_one hc he (s.timedOut c e) 2 (by omega) flag
  refine ⟨?_, ?_, ?_, ?_, hrung, (((State.CarrelKept.refl s c).setSlot he _).setCEnd he _).doorbell hc _ _ _⟩
  · exact (State.slot_congr hcrl c e).trans (State.slot_setSlot_same s _)
  · rw [State.cEnd_congr hcrl]
    exact congrArg CarrelEnd.code (State.cEnd_setCEnd_same _ _)
  · exact (State.slot_congr hcrl c _).trans (State.slot_setSlot_other s _ (by omega))
  · exact (State.cEnd_congr hcrl c _).trans (State.cEnd_setCEnd_other _ _ (by omega))

omit hc he in
theorem State.carrelTimeout_of_due (hfull : (s.slot c e).full = true) (htimed : (s.slot c e).timed = false) (htmo : (s.slot c e).tmo ≠ 0) :
    s.carrelTimeout c e = (s.timedOut c e).doorbell c e [2] (some (s.fld (Fld.CRL_NOTIFY_ACKFLAG c e))) :=
  if_pos (by simpa [hfull, htimed] using htmo)

/-- The reset of end `e` discards a full slot of the other end. -/
theorem State.resetEnd_full_spec (hfull : (s.slot c (1 - e)).full = true) :
    ((s.resetEnd c e).slot c (1 - e)).full = false ∧ (s.resetEnd c e).slot c e = s.slot c e ∧
      ((s.resetEnd c e).cEnd c (1 - e)).code = Code.discard ∧ s.Rung (s.resetEnd c e) c (3 + 8 * (1 - e)) ∧
      s.Rung (s.resetEnd c e) c (2 + 8 * (1 - e)) := by
  rw [s.resetEnd_of_full hfull]
  refine ⟨?_, ?_, ?_, s.discarded_rung hc (by omega) (by simp), s.discarded_rung hc (by omega) (by simp)⟩
  · rw [State.slot_setCEnd, s.slot_discarded hc, State.slot_setSlot_same]
  · rw [State.slot_setCEnd, s.slot_discarded hc, State.slot_setSlot_other _ _ (by omega)]
  · rw [State.cEnd_setCEnd_other _ _ (by omega), s.cEnd_discarded hc, State.cEnd_setCEnd_same]

end

theorem State.resetEnd_empty_spec {s : State} {c e : Nat} (he : e < 2) (hempty : (s.slot c (1 - e)).full = false) :
    ((s.resetEnd c e).slot c (1 - e)).full = false ∧ (s.resetEnd c e).slot c e = s.slot c e ∧
      (s.resetEnd c e).cEnd c (1 - e) = s.cEnd c (1 - e) ∧ (s.resetEnd c e).regs = s.regs := by
  rw [s.resetEnd_of_empty hempty]
  exact ⟨hempty, rfl, State.cEnd_setCEnd_other _ _ (by omega), rfl⟩

/-- Settles O44: each command by what it leaves of the slot and the end, and the doorbell that follows. -/
theorem carrelTraffic : Obligations.CarrelTraffic := by
  intro mid c len tag reply fromB e s o bit rung frame
  refine ⟨fun hawake hend => ?_, fun hfrom hfull htimed htmo => ?_⟩
  · have he := State.endOf_lt hend
    have hpost : exec (.crlPost mid c len tag) s = .next (s.carrelPost mid c len.toNat tag) :=
      congrArg Host.Outcome.next (State.gate_of_awake (hawake 0x80 (by omega)) _ _ _)
    have hwd : exec (.crlWithdraw mid c) s = .next (s.carrelWithdraw mid c) :=
      congrArg Host.Outcome.next (State.gate_of_awake (hawake 0x80 (by omega)) _ _ _)
    have hack : exec (.crlAck mid c reply) s = .next (s.carrelAck mid c reply) :=
      congrArg Host.Outcome.next (State.gate_of_awake (hawake 0x84 (by omega)) _ _ _)
    have hreset : exec (.endReset mid c) s = .next (s.carrelEndReset mid c) :=
      congrArg Host.Outcome.next (State.gate_of_awake (hawake 0x94 (by omega)) _ _ _)
    refine ⟨fun hempty => ?_, fun hfull => ?_, fun hempty => ?_, fun hfull => ?_, fun hempty => ?_, ?_⟩
    · exact .of_eq hpost (State.carrelPost_of_empty hend hempty _ _) (State.posted_spec c.isLt he _ _ _)
    · obtain ⟨hslot, hother, hrung, hok, hkept, -⟩ := State.withdrawn_spec (s := s) c.isLt he
      exact .of_eq hwd (State.carrelWithdraw_of_full hend hfull) ⟨hslot, hother, hrung, hok, hkept⟩
    · exact .of_eq hwd (State.carrelWithdraw_of_empty hend hempty) rfl
    · have ho : 1 - (1 - e) = e := by omega
      obtain ⟨hslot, hother, hcode, hend', hrest⟩ := State.released_spec (s := s) (e := 1 - e) c.isLt (by omega) reply
        (some (s.fld (Fld.CRL_NOTIFY_ACKFLAG c (1 - e))))
      rw [ho] at hother hend'
      exact .of_eq hack (State.carrelAck_of_full hend hfull _) ⟨hslot, hother, hcode, hend', hrest⟩
    · exact .of_eq hack (State.carrelAck_of_empty hend hempty _) rfl
    · refine .of_eq hreset (State.carrelEndReset_of_end hend) ?_
      have hepoch : ((s.resetEnd c e).cEnd c e).epoch = (s.cEnd c e).epoch + 1 :=
        (s.cEnd_resetEnd_epoch c.isLt he).trans (if_pos rfl)
      have hkept : s.CarrelKept c (s.resetEnd c e) := (State.CarrelKept.refl s c).resetEnd c.isLt he
      cases hf : (s.slot c o).full with
      | true =>
        obtain ⟨hempty, hslot, hcode, hrung, hrung'⟩ := State.resetEnd_full_spec c.isLt he hf
        exact ⟨hempty, hslot, hepoch, fun _ => ⟨hcode, hrung, hrung'⟩, fun h => absurd h (by simp), rfl, hkept.reply _⟩
      | false =>
        obtain ⟨hempty, hslot, hend', hregs⟩ := State.resetEnd_empty_spec he hf
        exact ⟨hempty, hslot, hepoch, fun h => absurd h (by simp), fun _ => ⟨hend', hregs⟩, rfl, hkept.reply _⟩
  · have he : e < 2 := by rw [hfrom]; split <;> omega
    subst hfrom
    exact .of_eq rfl (State.carrelTimeout_of_due hfull htimed htmo) (State.timedOut_spec c.isLt he _)

/-! ## A withdrawal through the register file -/

/-- A write of CRL_POST with WITHDRAW 1 is a withdrawal (R493, R509). -/
theorem exec_registerWrite_withdraw {s : State} {mid : Mid} {c : Nat} {v : Word32} {addr : BitVec 28} (hc : c < 32)
    (haddr : addr.toNat = endWindow c 0x80) (hv : v.getLsbD 31 = true) (hawake : s.awake (endWindow c 0x80)) :
    exec (.registerWrite mid addr v) s = .next (s.carrelWithdraw mid c) := by
  have hw : endWindow c 0x80 = 0x01210000 + c * 0x100 + 0x80 := rfl
  have halign : alignReg addr.toNat = endWindow c 0x80 := by
    rw [haddr, alignReg]
    omega
  have hnot : ¬ (endWindow c 0x80 = Reg.LIB_BERR 0 ∨ endWindow c 0x80 = Reg.LIB_BERR 1) := by simp only [Reg.LIB_BERR]; omega
  have hidx : (endWindow c 0x80 - 0x01210000) / 0x100 = c := by omega
  have hoff : endWindow c 0x80 % 0x100 = 0x80 := by omega
  have hbit : bitOf v.toNat 31 = true := hv
  refine congrArg Host.Outcome.next ?_
  rw [State.busWrite, halign, seqAlias_of_lt (by omega)]
  dsimp only
  rw [State.gate_of_awake hawake, State.blockWrite, if_neg (by omega), if_neg (by omega), if_neg (by omega), if_neg (by omega),
    if_neg (by omega), if_neg hnot, if_neg (by omega), if_neg (by omega), if_pos (by omega), State.crlRegWrite, if_neg (by omega),
    if_neg (by omega), if_neg (by omega), if_pos (by omega)]
  dsimp only
  rw [hidx, hoff, hbit]
  rfl

/-- A slot that is empty has no time to run out (R492). -/
theorem State.carrelTimeout_of_empty {s : State} {c e : Nat} (h : (s.slot c e).full = false) : s.carrelTimeout c e = s :=
  if_neg (by simp [h])

/-- Settles O59: both ways to the withdrawal end in the same meaning. -/
theorem carrelWithdrawal : Obligations.CarrelWithdrawal := by
  intro mid c e v addr s haddr hv hawake hend i hi
  have he := State.endOf_lt hend
  have hexec : exec i s = .next (s.carrelWithdraw mid c) := by
    rcases hi with rfl | rfl
    · exact congrArg Host.Outcome.next (State.gate_of_awake hawake _ _ _)
    · exact exec_registerWrite_withdraw c.isLt haddr hv hawake
  refine ⟨fun hfull => ?_, fun hempty => .of_eq hexec (State.carrelWithdraw_of_empty hend hempty) rfl⟩
  obtain ⟨hslot, -, ⟨hflag, -⟩, hok, -, hcode⟩ := State.withdrawn_spec (s := s) c.isLt he
  refine .of_eq hexec (State.carrelWithdraw_of_full hend hfull) ⟨hslot, congrArg CarrelEnd.code hcode, ?_, hok, ?_⟩
  · obtain rfl | rfl : e = 0 ∨ e = 1 := by omega
    · exact hflag
    · exact hflag
  · have hidx : (if (e == 1) = true then 1 else 0) = e := by
      obtain rfl | rfl : e = 0 ∨ e = 1 := by omega
      · rfl
      · rfl
    refine .of_eq rfl (State.carrelTimeout_of_empty ?_) rfl
    rw [hidx, hslot]

end Sys2Proof.Machine


/-! PROOFS.  A device in RUN, OFF or LEAVING, whose state no event changes (R524, R525). -/

namespace Sys2Proof.Machine

/-- No exit source acts in RUN, in OFF and in LEAVING. -/
def State.steady (s : State) : Prop := s.devState = 0 ∨ s.devState = 4 ∨ s.devState = 6

/-- From `s` to `t` the device state and the power manager's own part of the state stay, where no exit source acts. -/
def ExitKept (s t : State) : Prop := s.steady → t.devState = s.devState ∧ t.pwr = s.pwr

section
variable {s t u : State}

theorem ExitKept.refl (s : State) : ExitKept s s := fun _ => ⟨rfl, rfl⟩

theorem ExitKept.trans (h : ExitKept s t) (h' : ExitKept t u) : ExitKept s u := fun hs => by
  obtain ⟨hdev, hpwr⟩ := h hs
  obtain ⟨hdev', hpwr'⟩ := h' (by rw [State.steady, hdev]; exact hs)
  exact ⟨hdev'.trans hdev, hpwr'.trans hpwr⟩

theorem ExitKept.of_parts (hreg : t.reg Reg.PWR_STATUS = s.reg Reg.PWR_STATUS) (hpwr : t.pwr = s.pwr) : ExitKept s t :=
  fun _ => ⟨State.fld_of_reg (f := Fld.PWR_STATUS_STATE) hreg, hpwr⟩

theorem ExitKept.ite {c : Prop} [Decidable c] (ht : ExitKept s t) (hu : ExitKept s u) : ExitKept s (if c then t else u) := by
  split
  · exact ht
  · exact hu

theorem ExitKept.foldl {α : Type} (g : State → α → State) (l : List α) (hg : ∀ t, ∀ x ∈ l, ExitKept t (g t x)) (h : ExitKept s t) :
    ExitKept s (l.foldl g t) :=
  List.foldlRecOn l g h fun u hu x hx => hu.trans (hg u x hx)

theorem ExitKept.setReg (h : ExitKept s t) {a : Nat} (v : Word32) (ha : a ≠ Reg.PWR_STATUS) : ExitKept s (t.setReg a v) :=
  h.trans (.of_parts (State.reg_setReg_other _ _ ha.symm) rfl)

/-- A bit or field of PWR_STATUS apart from STATE. -/
theorem ExitKept.setFld (h : ExitKept s t) {f : Field} (n : Nat) (hf : f.sep Fld.PWR_STATUS_STATE = true) : ExitKept s (t.setFld f n) :=
  h.trans fun _ => ⟨State.fld_setFld_sep _ _ hf, rfl⟩

theorem ExitKept.countReg (h : ExitKept s t) {a : Nat} (ha : a ≠ Reg.PWR_STATUS) : ExitKept s (t.countReg a) := .ite h (h.setReg _ ha)

theorem ExitKept.exitSource (h : ExitKept s t) (src idx : Nat) (x y z : Bool) : ExitKept s (t.exitSource src idx x y z) := by
  refine h.trans fun ht => ?_
  have hstay : t.exitSource src idx x y z = t := by
    rcases ht with h | h | h <;> simp [State.exitSource, h]
  rw [hstay]
  exact ⟨rfl, rfl⟩

theorem State.timeoutMatched_pwr (s : State) (n : Nat) : (s.timeoutMatched n).pwr = s.pwr := by
  unfold State.timeoutMatched
  dsimp only
  split
  · split <;> rfl
  · rfl

theorem ExitKept.withDsp (h : ExitKept s t) (x : DispatcherSt) : ExitKept s { t with dsp := x } :=
  h.trans (.of_parts (t := { t with dsp := x }) rfl rfl)

theorem ExitKept.timeoutMatched (h : ExitKept s t) (n : Nat) : ExitKept s (t.timeoutMatched n) :=
  h.trans (.of_parts (State.reg_congr (State.regs_timeoutMatched t n) _) (t.timeoutMatched_pwr n))

theorem ExitKept.dspSettle (h : ExitKept s t) : ExitKept s t.dspSettle := by
  have hmatched : ExitKept s (taskNumbers.foldl State.timeoutMatched t) :=
    .foldl _ _ (fun u n _ => (ExitKept.refl u).timeoutMatched n) h
  unfold State.dspSettle
  extract_lets s1 kept fresh dsp s2 en s3
  change ExitKept s s1 at hmatched
  clear_value s1
  have h2 : ExitKept s s2 := hmatched.withDsp dsp
  have h3 : ExitKept s s3 := .ite (h2.exitSource _ _ _ _ _) h2
  exact .ite (h3.exitSource _ _ _ _ _) h3

theorem ExitKept.dspFlags (h : ExitKept s t) (n : Nat) (bits : Word32) : ExitKept s (t.dspFlags n bits) :=
  ExitKept.dspSettle (t := t.setTask n { t.task n with flags := (t.task n).flags ||| bits }) (h.withDsp _)

theorem ExitKept.emit (h : ExitKept s t) (o : Output) : ExitKept s (t.emit o) :=
  h.trans (.of_parts (t := t.emit o) rfl rfl)

theorem ExitKept.withLib (h : ExitKept s t) (x : LibrarianSt) : ExitKept s { t with lib := x } :=
  h.trans (.of_parts (t := { t with lib := x }) rfl rfl)

theorem ExitKept.logPut (h : ExitKept s t) (k v c m : Nat) (p : List Nat) : ExitKept s (t.logPut k v c m p) :=
  (h.withLib _).setReg _ (by decide)

theorem ExitKept.logDrop {al : State → State} (hal : ∀ x, ExitKept x (al x)) (h : ExitKept s t) : ExitKept s (t.logDrop al) :=
  (((h.withLib _).countReg (by decide)).setReg _ (by decide)).trans (hal _)

theorem ExitKept.logAppend {al : State → State} (hal : ∀ x, ExitKept x (al x)) (h : ExitKept s t) (k v c m : Nat) (p : List Nat) :
    ExitKept s (t.logAppend al k v c m p) := by
  have h1 : ExitKept s (if t.lib.dropped = 0 then t else
      ({ t with lib := { t.lib with dropped := 0 } } : State).logPut 3 0 0 0 [t.lib.dropped]) := .ite h ((h.withLib _).logPut _ _ _ _ _)
  exact .ite (h.logDrop hal) (.ite (h1.logDrop hal) (h1.logPut _ _ _ _ _))

theorem ExitKept.msixFire (h : ExitKept s t) (v : Nat) : ExitKept s (t.msixFire v) := by
  unfold State.msixFire
  extract_lets masked
  exact .ite (h.setReg _ (by simp only [Reg.HST_MSIX_PBA, Reg.PWR_STATUS]; omega)) (h.emit _)

theorem ExitKept.deliver (h : ExitKept s t) (n : Nat) : ExitKept s (t.deliver n) := by
  unfold State.deliver
  extract_lets sev vec s1 s2 s3
  have h1 : ExitKept s s1 := .ite (h.dspFlags _ _) h
  have h2 : ExitKept s s2 := .ite (.ite (h1.emit _) (h1.msixFire _)) h1
  have h3 : ExitKept s s3 := .ite (h2.emit _) h2
  exact .ite (h3.exitSource _ _ _ _ _) h3

theorem ExitKept.raiseWith {al : State → State} (hal : ∀ x, ExitKept x (al x)) (h : ExitKept s t) {n : Nat} (hn : n < 512) :
    ExitKept s (State.raiseWith al t n) := by
  have hsticky : ExitKept s (t.setSticky n) := h.setReg _ (by simp only [Reg.EVT_STICKY, Reg.PWR_STATUS]; omega)
  unfold State.raiseWith
  extract_lets s1 sev s2
  have h2 : ExitKept s s2 := .ite (hsticky.logAppend hal _ _ _ _ _) hsticky
  exact .ite h (h2.deliver n)

/-- An event changes neither the device state nor the power manager's part of the state, where no exit source acts. -/
theorem ExitKept.raise (h : ExitKept s t) {n : Nat} (hn : n < 512) : ExitKept s (t.raise n) :=
  h.raiseWith (fun x => (ExitKept.refl x).raiseWith (fun y => .refl y) (by decide)) hn

theorem ExitKept.raiseBit (h : ExitKept s t) {f : Field} {n : Nat} (hf : f.sep Fld.PWR_STATUS_STATE = true) (hn : n < 512) :
    ExitKept s (t.raiseBit f n) := (h.setFld _ hf).raise hn

/-- A wake of a domain writes the domain's register alone. -/
theorem ExitKept.wakeDomain (h : ExitKept s t) (d src idx : Nat) : ExitKept s (t.wakeDomain d src idx) := by
  have hd : Reg.PWR_DSTAT d ≠ Reg.PWR_STATUS := by simp only [Reg.PWR_DSTAT, Reg.PWR_STATUS]; omega
  exact .ite h (.ite (((h.setReg _ hd).setReg _ hd).setReg _ hd) h)

/-! ## Doorbells and resets of carrels -/

theorem ExitKept.carrelBit (h : ExitKept s t) {c : Nat} (hc : c < 32) (b : Nat) : ExitKept s (t.carrelBit c b) :=
  .ite h ((h.setReg _ (by simp only [Reg.CRL_STAT, Reg.PWR_STATUS]; omega)).raise (by omega))

theorem ExitKept.doorbell (h : ExitKept s t) {c : Nat} (hc : c < 32) (e : Nat) (bits : List Nat) (flag : Option Nat) :
    ExitKept s (t.doorbell c e bits flag) := by
  have hbits : ExitKept s (t.bellBits c e bits) := .foldl _ _ (fun u b _ => (ExitKept.refl u).carrelBit hc _) h
  rw [State.doorbell_eq]
  generalize t.bellBits c e bits = u at hbits ⊢
  have hflag : ExitKept s (u.bellFlag c e flag) := by
    cases flag with
    | none => exact hbits
    | some fl => exact .ite (hbits.dspFlags _ _) hbits
  exact .ite (.ite ((hflag.wakeDomain _ _ _).exitSource _ _ _ _ _) hflag) hbits

theorem ExitKept.setCEnd (h : ExitKept s t) (c e : Nat) (v : CarrelEnd) : ExitKept s (t.setCEnd c e v) :=
  h.trans (.of_parts (t := t.setCEnd c e v) rfl rfl)

theorem ExitKept.setSlot (h : ExitKept s t) (c e : Nat) (v : Slot) : ExitKept s (t.setSlot c e v) :=
  h.trans (.of_parts (t := t.setSlot c e v) rfl rfl)

theorem ExitKept.resetEnd (h : ExitKept s t) {c : Nat} (hc : c < 32) (e : Nat) : ExitKept s (t.resetEnd c e) := by
  have hdiscarded : ExitKept s (t.discarded c (1 - e)) := ((h.setSlot _ _ _).setCEnd _ _ _).doorbell hc _ _ _
  rw [State.resetEnd_eq]
  exact (ExitKept.ite hdiscarded h).setCEnd _ _ _

theorem ExitKept.resetEndsOf (h : ExitKept s t) (mid : Nat) : ExitKept s (t.resetEndsOf mid) := by
  refine .foldl _ _ (fun u c hc => ?_) h
  have hc := List.mem_range.1 hc
  have hA : ExitKept u (if u.boundTo c 0 = mid then u.resetEnd c 0 else u) := .ite ((ExitKept.refl u).resetEnd hc 0) (.refl u)
  exact .ite (hA.resetEnd hc 1) hA

end

end Sys2Proof.Machine


/-! PROOFS.  PORST_N, its release, and the fall of the mirror port (R20, R252, R543, R588). -/

namespace Sys2Proof.Machine

/-! ## What the fall of a link may write (R252, R542, R543) -/

/-- What neither an event nor the fall of a link has to do with. -/
def State.bystanders (s : State) : LoaderSt × SecSt × List Instr × Pairs Nat := (s.ldr, s.sec, s.pending, s.lib.entry)

/-- From `s` to `t` the clocks and the bystanders stay, no sticky bit is cleared, no exit source acts in a steady device, and only registers
at addresses of `A` and those of the event machinery change. -/
structure CalmAt (A : Nat → Prop) (s t : State) : Prop where
  writes : WritesAt A s t
  rest : t.bystanders = s.bystanders
  sticky : StickyUp s t
  exit : ExitKept s t

theorem CalmAt.ldr {A : Nat → Prop} {s t : State} (h : CalmAt A s t) : t.ldr = s.ldr := congrArg (·.1) h.rest

/-- The addresses that the fall of a link may write: the link's and the twin unit's, the carrels' status, and the state of a core's
domain. -/
def fallReg (a : Nat) : Prop := laneOutput a ∨ (0x1200400 ≤ a ∧ a < 0x1200480) ∨ (0x201338 ≤ a ∧ a < 0x201340)

theorem not_stickyAddr_of_fallReg {a : Nat} (h : fallReg a) : ¬ stickyAddr a :=
  not_stickyAddr_of_above (by simp only [fallReg, laneOutput] at h; omega)

theorem ne_PWR_STATUS_of_fallReg {a : Nat} (h : fallReg a) : a ≠ Reg.PWR_STATUS := by
  simp only [fallReg, laneOutput, Reg.PWR_STATUS] at h ⊢
  omega

section
variable {A : Nat → Prop} {s t u : State}

theorem CalmAt.refl (A : Nat → Prop) (s : State) : CalmAt A s s := ⟨.refl A s, rfl, .refl s, .refl s⟩

theorem CalmAt.trans (h : CalmAt A s t) (h' : CalmAt A t u) : CalmAt A s u :=
  ⟨h.writes.trans h'.writes, h'.rest.trans h.rest, h.sticky.trans h'.sticky, h.exit.trans h'.exit⟩

theorem CalmAt.ite {c : Prop} [Decidable c] (ht : CalmAt A s t) (hu : CalmAt A s u) : CalmAt A s (if c then t else u) := by
  split
  · exact ht
  · exact hu

theorem CalmAt.foldl {α : Type} (g : State → α → State) (l : List α) (hg : ∀ t, ∀ x ∈ l, CalmAt A t (g t x)) (h : CalmAt A s t) :
    CalmAt A s (l.foldl g t) :=
  List.foldlRecOn l g h fun u hu x hx => hu.trans (hg u x hx)

theorem CalmAt.setReg (h : CalmAt A s t) {a : Nat} (v : Word32) (ha : A a) (hs : ¬ stickyAddr a) (hp : a ≠ Reg.PWR_STATUS) :
    CalmAt A s (t.setReg a v) := ⟨h.writes.setReg v ha, h.rest, h.sticky.setReg v hs, h.exit.setReg v hp⟩

theorem State.bystanders_of_core (h : t.core = s.core) : t.bystanders = s.bystanders :=
  (congrArg (fun x : State => (x.ldr, x.sec, x.pending, x.lib.entry)) h :)

theorem CalmAt.raiseBit (h : CalmAt A s t) {f : Field} {n : Nat} (ha : A f.addr) (hs : ¬ stickyAddr f.addr) (hp : f.addr ≠ Reg.PWR_STATUS)
    (hn : n < 512) : CalmAt A s (t.raiseBit f n) := by
  obtain ⟨hwrites, hrest, hsticky, hexit⟩ := h
  exact ⟨hwrites.raiseBit ha hn, (State.bystanders_of_core (s := t.setFlag f true) (State.core_raise _ n)).trans hrest, (hsticky.setReg _ hs).raise n,
    (hexit.setReg (a := f.addr) _ hp).raise hn⟩

theorem CalmAt.of_onlyCrl {w : List Field} (h : OnlyCrl w s t) (hup : StickyUp s t) (hexit : ExitKept s t)
    (hw : ∀ f ∈ w, ∃ a, A a ∧ f = wholeReg a) : CalmAt A s t := by
  refine ⟨⟨(congrArg (fun x : State => x.clock) h.1 :), fun g hg ha => h.2 g hg fun f hf => ?_⟩,
    State.bystanders_of_core (s := { s with crl := t.crl }) h.1, hup, hexit⟩
  obtain ⟨a, haA, rfl⟩ := hw f hf
  exact Or.inl fun e => ha (e ▸ haA)

end

section
variable {s t : State} (h : CalmAt fallReg s t)
include h

theorem CalmAt.fallSet {a : Nat} (v : Word32) (ha : fallReg a) : CalmAt fallReg s (t.setReg a v) :=
  h.setReg v ha (not_stickyAddr_of_fallReg ha) (ne_PWR_STATUS_of_fallReg ha)

theorem CalmAt.fallRaise {f : Field} {n : Nat} (ha : fallReg f.addr) (hn : n < 512) : CalmAt fallReg s (t.raiseBit f n) :=
  h.raiseBit ha (not_stickyAddr_of_fallReg ha) (ne_PWR_STATUS_of_fallReg ha) hn

theorem CalmAt.withTwin (x : TwinSt) : CalmAt fallReg s { t with twin := x } :=
  ⟨h.writes, h.rest, h.sticky, h.exit.trans (.of_parts (t := { t with twin := x }) rfl rfl)⟩

end

/-- Registers of the twin unit. -/
theorem fallReg_of_twin {a : Nat} (hlow : 0x8000000 ≤ a) (hhigh : a < 0x8000100) : fallReg a :=
  Or.inl (by simp only [laneOutput]; omega)

theorem State.resetEndsOf_calm (s : State) (mid : Nat) : CalmAt fallReg s (s.resetEndsOf mid) := by
  obtain ⟨hframe, hup⟩ := s.resetEndsOf_frame mid
  refine .of_onlyCrl hframe hup ((ExitKept.refl s).resetEndsOf mid) fun f hf => ?_
  rcases List.mem_append.1 hf with hf | hf
  · obtain ⟨c, hc, rfl⟩ := List.mem_map.1 hf
    have := List.mem_range.1 hc
    exact ⟨_, Or.inr (Or.inl (by simp only [Reg.CRL_STAT]; omega)), rfl⟩
  · simp only [coreDomains, List.mem_cons, List.not_mem_nil, or_false] at hf
    rcases hf with rfl | rfl
    · exact ⟨_, Or.inr (Or.inr (by decide)), rfl⟩
    · exact ⟨_, Or.inr (Or.inr (by decide)), rfl⟩

section
variable {s t : State} (h : CalmAt fallReg s t)
include h

theorem CalmAt.rsClear : CalmAt fallReg s t.rsClear := (h.withTwin _).fallSet _ (fallReg_of_twin (by decide) (by decide))

theorem CalmAt.setMode (m : Nat) : CalmAt fallReg s (t.setMode m) := by
  have hmode : CalmAt fallReg s (t.setFld Fld.TWN_STATUS_MODE m) := h.fallSet _ (fallReg_of_twin (by decide) (by decide))
  exact .ite (hmode.fallRaise (f := Fld.TWN_STATUS_LS_ENT) (fallReg_of_twin (by decide) (by decide)) (by decide)) hmode

theorem CalmAt.rsFail (c : Nat) : CalmAt fallReg s (t.rsFail c) :=
  .ite (((h.rsClear.setMode 1).fallSet _ (fallReg_of_twin (by decide) (by decide))).fallRaise (f := Fld.TWN_STATUS_RS_FAIL)
    (fallReg_of_twin (by decide) (by decide)) (by decide)) h

theorem CalmAt.sendEnd : CalmAt fallReg s t.sendEnd := .ite (h.rsClear.fallSet _ (fallReg_of_twin (by decide) (by decide))) h

theorem CalmAt.twinLost : CalmAt fallReg s t.twinLost := by
  have hpaired : CalmAt fallReg s (t.setFlag Fld.TWN_STATUS_PAIRED false) := h.fallSet _ (fallReg_of_twin (by decide) (by decide))
  have hlost := hpaired.fallRaise (f := Fld.TWN_STATUS_LOST) (n := 486) (fallReg_of_twin (by decide) (by decide)) (by decide)
  exact .ite (((((hlost.trans (State.resetEndsOf_calm _ _)).rsFail 3).sendEnd).setMode 0).withTwin _) h

theorem CalmAt.mirrorDown : CalmAt fallReg s t.mirrorDown := h.twinLost.withTwin _

theorem CalmAt.linkRaise {f : Field} (hf : fallReg f.addr) (i : Nat) : CalmAt fallReg s (t.linkRaise f i) :=
  h.fallRaise hf (linkEvent_lt i)

theorem CalmAt.linkDown {b : Nat} (hb : b < 103) : CalmAt fallReg s (t.linkDown b) := by
  have hstat : fallReg (Reg.LN_LE_STAT b) := Or.inl (by simp only [laneOutput, Reg.LN_LE_STAT]; omega)
  have hxlat : fallReg (Reg.LN_LE_XLAT b) := Or.inl (by simp only [laneOutput, Reg.LN_LE_XLAT]; omega)
  have hrel : fallReg (Reg.QL_REL_STAT b) := Or.inl (by simp only [laneOutput, Reg.QL_REL_STAT]; omega)
  refine .ite ?_ h
  have hdropped : CalmAt fallReg s (t.mapEngs (t.members b) LinkEng.dropped) := by
    rw [State.mapEngs_eq]
    exact ⟨h.writes, h.rest, h.sticky, h.exit.trans (.of_parts rfl rfl)⟩
  have hregs : CalmAt fallReg s ((t.mapEngs (t.members b) LinkEng.dropped).downRegs b) :=
    ((((hdropped.fallSet _ hstat).fallSet _ hstat).fallSet _ hxlat).fallSet _ hstat).fallSet _ hrel
  have hdown := hregs.linkRaise (f := Fld.LN_LE_STAT_DOWN b) hstat b
  exact .ite hdown.mirrorDown hdown

theorem CalmAt.checkEngine {i : Nat} (hi : i < 103) : CalmAt fallReg s (t.checkEngine i) := by
  have := t.baseOf_le i
  have hstat : fallReg (Reg.LN_LE_STAT i) := Or.inl (by simp only [laneOutput, Reg.LN_LE_STAT]; omega)
  exact .ite ((h.linkDown (by omega)).linkRaise hstat i) h

end

/-- The configuration of a link written: besides what the fall of the link writes, LN_LE_CFG alone changes. -/
theorem State.lnLeCfgStore_calm (s : State) {i : Nat} (hi : i < 103) (v : Word32) :
    CalmAt (fun a => fallReg a ∨ a = Reg.LN_LE_CFG i) s (s.lnLeCfgStore i v) := by
  have hbase := s.baseOf_le i
  have hmono {t u : State} (h : CalmAt fallReg t u) : CalmAt (fun a => fallReg a ∨ a = Reg.LN_LE_CFG i) t u :=
    ⟨h.writes.mono fun _ => Or.inl, h.rest, h.sticky, h.exit⟩
  have hcfg : ¬ stickyAddr (Reg.LN_LE_CFG i) := not_stickyAddr_of_above (by simp only [Reg.LN_LE_CFG]; omega)
  have hdown : CalmAt fallReg s (s.linkDown (s.baseOf i)) := (CalmAt.refl _ s).linkDown (by omega)
  exact (CalmAt.setReg (CalmAt.ite (hmono hdown) (.refl _ s)) _ (Or.inr rfl) hcfg (by simp only [Reg.LN_LE_CFG, Reg.PWR_STATUS]; omega)).trans (hmono ((CalmAt.refl _ _).checkEngine hi))

/-- The mirror's engines configured (R535): nothing below the carrels' registers changes but the state of a core's domain. -/
theorem State.mirrorConfig_calm (s : State) :
    CalmAt (fun a => 0x1000000 ≤ a ∨ (0x201338 ≤ a ∧ a < 0x201340)) s s.mirrorConfig := by
  refine .foldl _ _ (fun t k hk => ?_) (.refl _ s)
  have hk := List.mem_range.1 hk
  have hstore (v : Word32) := t.lnLeCfgStore_calm (i := 96 + k) (by omega) v
  refine ⟨(hstore _).writes.mono fun a ha => ?_, (hstore _).rest, (hstore _).sticky, (hstore _).exit⟩
  simp only [fallReg, laneOutput, Reg.LN_LE_CFG] at ha
  omega

end Sys2Proof.Machine


/-! PROOFS.  PORST_N and its release (R19, R20, R29, R344, R373, R588, R589). -/

namespace Sys2Proof.Machine

/-! ## PORST_N low (R588) -/

/-- Of a register that no fuse holds nothing is left, and of one that a fuse holds the value. -/
theorem State.reg_porstLow (s : State) (a : Nat) : s.porstLow.reg a = if fuseReg a then s.reg a else Reg.resetOf a := by
  by_cases h : fuseReg a = true
  · rw [if_pos h]
    exact congrArg (fun o => o.getD (Reg.resetOf a)) (Sparse.find_filter (fun e : Nat × Word32 => fuseReg e.1) s.regs fun _ => h)
  · rw [if_neg h]
    have hnone : Sparse.find (s.regs.filter fun e => fuseReg e.1) a = none := by
      induction s.regs with
      | nil => rfl
      | cons e r ih =>
        by_cases he : fuseReg e.1 = true
        · have hne : e.1 ≠ a := fun heq => h (heq ▸ he)
          obtain ⟨k, v⟩ := e
          simp only [List.filter_cons, he, if_true, Sparse.find]
          rw [if_neg hne]
          exact ih
        · rw [List.filter_cons_of_neg (by simpa using he)]
          exact ih
    exact congrArg (fun o => o.getD (Reg.resetOf a)) hnone

theorem State.count_porstLow (s : State) : s.porstLow.count = 0 := by
  have hclock : s.porstLow.clock = ClockSt.reset := rfl
  rw [State.count, hclock]
  decide

/-! ## The release of PORST_N -/

/-- Registers below those of the event machinery (R25). -/
theorem eventSafe_of_low {f : Field} (h : f.addr < 0x100000) : eventSafe f = true := by
  simp only [eventSafe, Reg.LIB_LOG_WP, Reg.LIB_LOG_DROP, Reg.LIB_STATUS, Reg.PWR_STATUS, Bool.and_eq_true, Bool.or_eq_true,
    Bool.not_eq_true', Bool.and_eq_false_iff, bne_iff_ne, decide_eq_true_eq, decide_eq_false_iff_not]
  omega

section
variable {s : State}

/-- The state at the release, with the straps sampled. -/
def State.strapped (s : State) (bootsel devnum : Nat) (role : Bool) : State :=
  ({ s with clock := { s.clock with porst := false } } : State).sampleStraps bootsel devnum role

theorem State.strapped_flds (s : State) {b d : Nat} (hb : b < 8) (hd : d < 64) (role : Bool) :
    (s.strapped b d role).fld Fld.DEV_STRAPS_BOOTSEL = b ∧ (s.strapped b d role).fld Fld.DEV_STRAPS_DEVNUM = d ∧
      (s.strapped b d role).flag Fld.DEV_STRAPS_TWIN_ROLE = role := by
  unfold State.strapped State.sampleStraps
  refine ⟨?_, ?_, ?_⟩
  · rw [State.fld_setFld_sep _ _ (by decide), State.fld_setFld_sep _ _ (by decide), State.fld_setFlag_sep _ _ (by decide),
      State.fld_setFld_sep _ _ (by decide), State.fld_setFld_same _ _ _ rfl]
    exact Nat.mod_eq_of_lt hb
  · rw [State.fld_setFld_sep _ _ (by decide), State.fld_setFld_sep _ _ (by decide), State.fld_setFlag_sep _ _ (by decide),
      State.fld_setFld_same _ _ _ rfl]
    exact Nat.mod_eq_of_lt hd
  · rw [State.flag_setFld_sep _ _ (by decide), State.flag_setFld_sep _ _ (by decide), State.flag_setFlag_same _ _ _ rfl rfl]

theorem State.strapped_grade (s : State) (b d : Nat) (role : Bool) :
    (s.strapped b d role).fld Fld.DEV_IDENT_GRADE = s.fld Fld.DEV_IDENT_GRADE := by
  unfold State.strapped State.sampleStraps
  rw [State.fld_setFld_sep _ _ (by decide), State.fld_setFld_sep _ _ (by decide), State.fld_setFlag_sep _ _ (by decide),
    State.fld_setFld_sep _ _ (by decide), State.fld_setFld_sep _ _ (by decide)]
  rfl

variable {khz f : Nat}

/-- A reference of a class is measured: its multiplier is set, and the RPLL starts (R19, R20). -/
theorem State.measureRef_of_class (h : refClass khz = f) (hf : f ≠ 0) (hm : classMult f < 256) :
    (s.measureRef khz).fld Fld.CLK_RPLL_MULT = classMult f ∧
      (s.measureRef khz).clock = { s.clock with fnom := f, refOk := true, rpllOn := true } ∧ (s.measureRef khz).ldr = s.ldr ∧
      ∀ a, a < 0x100 → (s.measureRef khz).reg a = s.reg a := by
  have heq : s.measureRef khz = ({ s.setFld Fld.CLK_RPLL_REF_KHZ (min khz 65535) with
      clock := { s.clock with fnom := f, refOk := true, rpllOn := true } } : State).setFld Fld.CLK_RPLL_MULT (classMult f) := by
    rw [State.measureRef, h]
    exact if_neg hf
  rw [heq]
  refine ⟨(State.fld_setFld_same _ _ _ rfl).trans (Nat.mod_eq_of_lt hm), rfl, rfl, fun a ha => ?_⟩
  have hne : a ≠ Reg.CLK_RPLL := by simp only [Reg.CLK_RPLL]; omega
  exact (State.reg_setFld_other _ _ _ _ hne).trans (State.reg_setFld_other s Fld.CLK_RPLL_REF_KHZ _ _ hne)

/-- A reference of no class leaves the RPLL off, and REF_UNSUP reports it (R19). -/
theorem State.measureRef_of_none (h : refClass khz = 0) :
    (s.measureRef khz).flag Fld.CLK_STATUS_REF_UNSUP = true ∧ (s.measureRef khz).sticky 469 = true ∧
      (s.measureRef khz).clock = { s.clock with fnom := 0, refOk := false, cfgErr := true, bootStop := true } ∧
      (s.measureRef khz).ldr = s.ldr ∧ ∀ a, a < 0x100 → (s.measureRef khz).reg a = s.reg a := by
  have heq : s.measureRef khz = ({ s.setFld Fld.CLK_RPLL_REF_KHZ (min khz 65535) with
      clock := { s.clock with fnom := 0, refOk := false, cfgErr := true, bootStop := true } } : State).raiseBit
        Fld.CLK_STATUS_REF_UNSUP 469 := by
    rw [State.measureRef]
    exact if_pos h
  rw [heq]
  obtain ⟨hflag, hsticky⟩ := State.raiseBit_spec ({ s.setFld Fld.CLK_RPLL_REF_KHZ (min khz 65535) with
      clock := { s.clock with fnom := 0, refOk := false, cfgErr := true, bootStop := true } } : State)
      (f := Fld.CLK_STATUS_REF_UNSUP) (n := 469) (by decide) (by decide) rfl rfl
  refine ⟨hflag, hsticky, State.raiseBit_clock _ _ _, State.raiseBit_ldr _ _ _, fun a ha => ?_⟩
  have hsafe : eventSafe (wholeReg a) = true := eventSafe_of_low (Nat.lt_trans ha (by decide))
  refine (State.reg_raiseBit_other _ (by decide) hsafe (by simp only [Reg.CLK_STATUS]; omega)).trans ?_
  exact State.reg_setFld_other s _ _ _ (by simp only [Reg.CLK_RPLL]; omega)

theorem State.checkGrade_of_good (h : s.fld Fld.DEV_IDENT_GRADE = 1 ∨ s.fld Fld.DEV_IDENT_GRADE = 2) : s.checkGrade = s := if_pos h

end

section
variable (s : State)

/-- The boot ROM's part of the release: the mirror's engines are configured, and the loader starts where the RPLL does. -/
def State.released (s : State) : State := if s.mirrorConfig.clock.rpllOn then s.mirrorConfig.setPhase 1 else s.mirrorConfig

/-- What the boot ROM's part keeps. -/
theorem State.released_keeps :
    s.released.clock = s.clock ∧ (∀ a, (a < 0x100 ∨ a = Reg.CLK_RPLL ∨ a = Reg.CLK_STATUS) → s.released.reg a = s.reg a) ∧
      (s.sticky 469 = true → s.released.sticky 469 = true) := by
  obtain ⟨hwrites, -, hup, -⟩ := s.mirrorConfig_calm
  have hclock := hwrites.1
  have hmirror (a : Nat) (ha : a < 0x100 ∨ a = Reg.CLK_RPLL ∨ a = Reg.CLK_STATUS) : s.mirrorConfig.reg a = s.reg a := by
    have hsafe : eventSafe (wholeReg a) = true := by
      rcases ha with ha | rfl | rfl
      · exact eventSafe_of_low (Nat.lt_trans ha (by decide))
      · decide
      · decide
    exact hwrites.reg_eq hsafe (by dsimp only [Reg.CLK_RPLL, Reg.CLK_STATUS] at ha ⊢; omega)
  unfold State.released
  split
  · refine ⟨hclock, fun a ha => (State.reg_setFld_other _ _ _ _ ?_).trans (hmirror a ha), fun h => ?_⟩
    · simp only [Reg.CLK_RPLL, Reg.CLK_STATUS, Reg.LDR_STATUS] at ha ⊢
      omega
    · exact (State.sticky_setFld_other _ _ (by decide)).trans (hup 469 (by decide) h)
  · exact ⟨hclock, hmirror, hup 469 (by decide)⟩

theorem State.released_phase : s.released.ldr.phase = if s.clock.rpllOn then 1 else s.ldr.phase := by
  have hclock := s.mirrorConfig_calm.writes.1
  have hldr := s.mirrorConfig_calm.ldr
  unfold State.released
  rw [hclock]
  split
  · rfl
  · rw [hldr]

end

theorem exec_porstNRelease {s : State} (h : s.clock.porst = true) (b : BitVec 3) (d : BitVec 6) (role : Bool) (khz : Nat) :
    exec (.porstNRelease b d role khz) s = .next ((s.strapped b.toNat d.toNat role).measureRef khz).checkGrade.released :=
  congrArg Host.Outcome.next (if_pos h)

/-- What a release leaves where its reference is measured to some state of the clocks. -/
theorem State.measured_released {s u : State} {b d : Nat} {role : Bool} (hb : b < 8) (hd : d < 64)
    (hgrade : s.fld Fld.DEV_IDENT_GRADE = 1 ∨ s.fld Fld.DEV_IDENT_GRADE = 2)
    (hlow : ∀ a, a < 0x100 → u.reg a = (s.strapped b d role).reg a) :
    u.checkGrade = u ∧ u.released.fld Fld.DEV_STRAPS_BOOTSEL = b ∧ u.released.fld Fld.DEV_STRAPS_DEVNUM = d ∧
      u.released.flag Fld.DEV_STRAPS_TWIN_ROLE = role := by
  obtain ⟨hsel, hnum, hrole⟩ := s.strapped_flds hb hd role
  obtain ⟨-, hregs, -⟩ := u.released_keeps
  have hkeep {f : Field} (hf : f.addr < 0x100) : u.released.fld f = (s.strapped b d role).fld f :=
    State.fld_of_reg ((hregs _ (Or.inl hf)).trans (hlow _ hf))
  refine ⟨State.checkGrade_of_good ?_, (hkeep (by decide)).trans hsel, (hkeep (by decide)).trans hnum, ?_⟩
  · rw [State.fld_of_reg (hlow _ (by decide)), s.strapped_grade]
    exact hgrade
  · rw [State.flag, hkeep (by decide)]
    exact hrole

/-- The release with a reference of a class. -/
theorem porstNRelease_of_class {s : State} {b : BitVec 3} {d : BitVec 6} {role : Bool} {khz f m : Nat} (hporst : s.clock.porst = true)
    (hgrade : s.fld Fld.DEV_IDENT_GRADE = 1 ∨ s.fld Fld.DEV_IDENT_GRADE = 2) (hclass : refClass khz = f) (hf : f ≠ 0)
    (hm : classMult f = m) (hlt : m < 256) : ∃ t, exec (.porstNRelease b d role khz) s = .next t ∧
      (t.clock.porst = false ∧ t.fld Fld.DEV_STRAPS_BOOTSEL = b.toNat ∧ t.fld Fld.DEV_STRAPS_DEVNUM = d.toNat ∧
        t.flag Fld.DEV_STRAPS_TWIN_ROLE = role) ∧
      t.fld Fld.CLK_RPLL_MULT = m ∧ t.clock.fnom = f ∧ t.clock.rpllOn = true ∧ t.ldr.phase = 1 := by
  subst hm
  obtain ⟨hmult, hclock, -, hlow⟩ := State.measureRef_of_class (s := s.strapped b.toNat d.toNat role) hclass hf hlt
  obtain ⟨hgood, hsel, hnum, hrole⟩ := State.measured_released b.isLt d.isLt hgrade hlow
  have hexec := exec_porstNRelease hporst b d role khz
  rw [hgood] at hexec
  obtain ⟨hclock', hregs, -⟩ := State.released_keeps ((s.strapped b.toNat d.toNat role).measureRef khz)
  have hphase := State.released_phase ((s.strapped b.toNat d.toNat role).measureRef khz)
  rw [hclock] at hclock' hphase
  refine ⟨_, hexec, ⟨?_, hsel, hnum, hrole⟩, (State.fld_of_reg (hregs _ (Or.inr (Or.inl rfl)))).trans hmult, ?_, ?_, hphase⟩
  · rw [hclock']
    rfl
  · rw [hclock']
  · rw [hclock']

/-- The release with a reference of no class. -/
theorem porstNRelease_of_none {s : State} {b : BitVec 3} {d : BitVec 6} {role : Bool} {khz : Nat} (hporst : s.clock.porst = true)
    (hgrade : s.fld Fld.DEV_IDENT_GRADE = 1 ∨ s.fld Fld.DEV_IDENT_GRADE = 2) (hclass : refClass khz = 0) (hoff : s.clock.rpllOn = false) :
    ∃ t, exec (.porstNRelease b d role khz) s = .next t ∧
      (t.clock.porst = false ∧ t.fld Fld.DEV_STRAPS_BOOTSEL = b.toNat ∧ t.fld Fld.DEV_STRAPS_DEVNUM = d.toNat ∧
        t.flag Fld.DEV_STRAPS_TWIN_ROLE = role) ∧
      t.clock.rpllOn = false ∧ t.ldr.phase = s.ldr.phase ∧ t.clock.cfgErr = true ∧ t.flag Fld.CLK_STATUS_REF_UNSUP = true ∧
      t.sticky 469 = true := by
  obtain ⟨hunsup, hsticky, hclock, hldr, hlow⟩ := State.measureRef_of_none (s := s.strapped b.toNat d.toNat role) hclass
  obtain ⟨hgood, hsel, hnum, hrole⟩ := State.measured_released b.isLt d.isLt hgrade hlow
  have hexec := exec_porstNRelease hporst b d role khz
  rw [hgood] at hexec
  obtain ⟨hclock', hregs, hup⟩ := State.released_keeps ((s.strapped b.toNat d.toNat role).measureRef khz)
  have hphase := State.released_phase ((s.strapped b.toNat d.toNat role).measureRef khz)
  have hrpll : (s.strapped b.toNat d.toNat role).clock.rpllOn = false := hoff
  rw [hclock] at hclock' hphase
  refine ⟨_, hexec, ⟨?_, hsel, hnum, hrole⟩, ?_, ?_, ?_, (State.flag_of_reg (hregs _ (Or.inr (Or.inr rfl)))).trans hunsup, hup hsticky⟩
  · rw [hclock']
    rfl
  · rw [hclock']
    exact hoff
  · rw [hphase, hldr]
    exact if_neg (by rw [hrpll]; exact Bool.false_ne_true)
  · rw [hclock']

/-- Settles O16: the reset by its registers, and the release by the class of the reference. -/
theorem resetPin : Obligations.ResetPin := by
  refine ⟨fun s c hc => ?_, fun b d role khz s hporst hoff hgrade => ?_⟩
  · refine ⟨s.porstLow, by rcases hc with rfl | rfl <;> rfl, fun a ha => ?_, fun a ha => ?_, rfl, rfl, rfl,
      s.count_porstLow, rfl, rfl, rfl, rfl, rfl,
      rfl, rfl, rfl, rfl, rfl, rfl, rfl, rfl, rfl, rfl, rfl⟩
    · rw [s.reg_porstLow, ha]
      rfl
    · rw [s.reg_porstLow, ha]
      rfl
  · have hof {f m : Nat} := porstNRelease_of_class (b := b) (d := d) (role := role) (khz := khz) (f := f) (m := m) hporst hgrade
    by_cases h40 : 38000 ≤ khz ∧ khz ≤ 42000
    · obtain ⟨t, hexec, ⟨hp, hsel, hnum, hrole⟩, hrest⟩ := hof (if_pos h40) (by decide) (m := 120) rfl (by decide)
      exact ⟨t, hexec, hp, hsel, hnum, hrole, fun _ => hrest, by omega, by omega, by omega⟩
    · by_cases h100 : 95000 ≤ khz ∧ khz ≤ 105000
      · obtain ⟨t, hexec, ⟨hp, hsel, hnum, hrole⟩, hrest⟩ := hof ((if_neg h40).trans (if_pos h100)) (by decide) (m := 48) rfl (by decide)
        exact ⟨t, hexec, hp, hsel, hnum, hrole, by omega, fun _ => hrest, by omega, by omega⟩
      · by_cases h156 : 148437500 ≤ khz * 1000 ∧ khz * 1000 ≤ 164062500
        · obtain ⟨t, hexec, ⟨hp, hsel, hnum, hrole⟩, hrest⟩ := hof ((if_neg h40).trans ((if_neg h100).trans (if_pos h156))) (by decide)
            (m := 30) rfl (by decide)
          exact ⟨t, hexec, hp, hsel, hnum, hrole, by omega, by omega, fun _ => hrest, by omega⟩
        · obtain ⟨t, hexec, ⟨hp, hsel, hnum, hrole⟩, hrest⟩ := porstNRelease_of_none (b := b) (d := d) (role := role) hporst hgrade
            ((if_neg h40).trans ((if_neg h100).trans (if_neg h156))) hoff
          exact ⟨t, hexec, hp, hsel, hnum, hrole, by omega, by omega, by omega, fun _ => hrest⟩

end Sys2Proof.Machine


/-! PROOFS.  The lock of the RPLL, the loss of its reference, and a relock (R22, R23, R350). -/

namespace Sys2Proof.Machine

/-! ## The lock (R349, R350) -/

section
variable (s : State)

/-- The period and the reading of the clock depend on four values alone. -/
theorem State.now_congr {s t : State} (htime : t.time.t0 = s.time.t0 ∧ t.time.c0 = s.time.c0) (hclock : t.clock.rootCnt = s.clock.rootCnt)
    (hlo : t.reg Reg.TU_PER_LO = s.reg Reg.TU_PER_LO) (hhi : t.reg Reg.TU_PER_HI = s.reg Reg.TU_PER_HI) :
    t.period = s.period ∧ t.count = s.count ∧ t.now = s.now := by
  obtain ⟨ht0, hc0⟩ := htime
  have hper : t.period = s.period := by rw [State.period, hlo, hhi, State.period]
  have hcount : t.count = s.count := by rw [State.count, hclock, State.count]
  refine ⟨hper, hcount, ?_⟩
  rw [State.now, State.timeOf, hper, hcount, ht0, hc0, State.now, State.timeOf]

/-- A change of the period anchors the time at the count it happens at, and leaves the reading (R349). -/
theorem State.setPeriod_spec {p : Nat} (hp : p < 2 ^ 48) :
    (s.setPeriod p).period = p ∧ (s.setPeriod p).count = s.count ∧ (s.setPeriod p).now = s.now := by
  have hlo : (s.setPeriod p).reg Reg.TU_PER_LO = BitVec.ofNat 32 p :=
    (State.reg_setReg_other _ _ (by decide)).trans (State.reg_setReg_same _ _ _)
  have hhi : (s.setPeriod p).reg Reg.TU_PER_HI = BitVec.ofNat 32 (p / 2 ^ 32 % 2 ^ 16) := State.reg_setReg_same _ _ _
  have hcount : (s.setPeriod p).count = s.count := rfl
  refine ⟨?_, hcount, ?_⟩
  · rw [State.period, hlo, hhi, BitVec.toNat_ofNat, BitVec.toNat_ofNat]
    omega
  · rw [State.now, State.timeOf, hcount]
    change s.now + (((s.count : Int) - (s.count : Int)) * 256 + ((0 : Nat) : Int)) * _ / 256 = s.now
    simp

/-- The multiplier in use, with PNOM and LOCK, before the period follows. -/
def State.pnomSet (s : State) (m p : Nat) : State :=
  let s1 := (s.setFld Fld.CLK_RPLL_MULT m).setFlag Fld.CLK_STATUS_LOCK true
  let s2 := (s1.setReg Reg.TU_PNOM_LO (BitVec.ofNat 32 p)).setReg Reg.TU_PNOM_HI (BitVec.ofNat 32 (p / 2 ^ 32 % 65536))
  { s2 with time := { s2.time with pnom := p } }

theorem State.lockAt_eq {m : Nat} (h : s.clock.fnom * m ≠ 0) : s.lockAt m =
    ((s.pnomSet m (4000000000 * 2 ^ 40 / (s.clock.fnom * m))).setPeriod (4000000000 * 2 ^ 40 / (s.clock.fnom * m))).retick.systemPlls := by
  rw [State.lockAt, if_neg h]
  rfl

theorem State.systemPlls_clock : s.systemPlls.clock = s.clock := foldl_keeps State.clock _ _ s fun _ _ _ => rfl

theorem State.flag_pnomSet_LOCK (m p : Nat) : (s.pnomSet m p).flag Fld.CLK_STATUS_LOCK = true := by
  have hlast : (s.pnomSet m p).reg Reg.CLK_STATUS = ((s.setFld Fld.CLK_RPLL_MULT m).setFlag Fld.CLK_STATUS_LOCK true).reg Reg.CLK_STATUS :=
    (State.reg_setReg_other _ _ (by decide)).trans (State.reg_setReg_other _ _ (by decide))
  exact (State.flag_of_reg hlast).trans (State.flag_setFlag_same _ _ _ rfl rfl)

/-- The reading of the clock does not change as PNOM does. -/
theorem State.now_pnomSet (m p : Nat) : (s.pnomSet m p).count = s.count ∧ (s.pnomSet m p).now = s.now := by
  have hreg {a : Nat} (hlo : a = Reg.TU_PER_LO ∨ a = Reg.TU_PER_HI) : (s.pnomSet m p).reg a = s.reg a := by
    have hne : a ≠ Reg.TU_PNOM_HI ∧ a ≠ Reg.TU_PNOM_LO ∧ a ≠ Reg.CLK_STATUS ∧ a ≠ Reg.CLK_RPLL := by
      rcases hlo with rfl | rfl <;> decide
    obtain ⟨h1, h2, h3, h4⟩ := hne
    exact (((State.reg_setReg_other _ _ h1).trans (State.reg_setReg_other _ _ h2)).trans
      (State.reg_setFlag_other (s.setFld Fld.CLK_RPLL_MULT m) _ _ _ h3)).trans (State.reg_setFld_other s _ _ _ h4)
  exact (State.now_congr (s := s) (t := s.pnomSet m p) ⟨rfl, rfl⟩ rfl (hreg (Or.inl rfl)) (hreg (Or.inr rfl))).2

/-- The lock: PNOM and the period take the rate of the reference, and the reading of the clock stays (R350). -/
theorem State.lockAt_spec {m : Nat} (h : 40000000 ≤ s.clock.fnom * m) :
    (s.lockAt m).time.pnom = 4000000000 * 2 ^ 40 / (s.clock.fnom * m) ∧ (s.lockAt m).period = 4000000000 * 2 ^ 40 / (s.clock.fnom * m) ∧
      (s.lockAt m).flag Fld.CLK_STATUS_LOCK = true ∧ (s.lockAt m).count = s.count ∧ (s.lockAt m).now = s.now := by
  have hp : 4000000000 * 2 ^ 40 / (s.clock.fnom * m) < 2 ^ 48 :=
    Nat.lt_of_le_of_lt (Nat.div_le_div_left h (by decide)) (by decide)
  have hpnom := s.lockAt_pnom (m := m) (by omega)
  rw [s.lockAt_eq (by omega)] at hpnom ⊢
  generalize 4000000000 * 2 ^ 40 / (s.clock.fnom * m) = p at hp hpnom ⊢
  obtain ⟨hcount, hnow⟩ := s.now_pnomSet m p
  have hlock := s.flag_pnomSet_LOCK m p
  generalize s.pnomSet m p = x at hcount hnow hlock hpnom ⊢
  obtain ⟨hper, hcount', hnow'⟩ := x.setPeriod_spec hp
  have hflag : (x.setPeriod p).retick.flag Fld.CLK_STATUS_LOCK = true := by
    have hreg : (x.setPeriod p).retick.reg Reg.CLK_STATUS = x.reg Reg.CLK_STATUS :=
      (State.reg_setReg_other _ _ (by decide)).trans (State.reg_setReg_other _ _ (by decide))
    exact (State.flag_of_reg hreg).trans hlock
  have htime : (x.setPeriod p).retick.systemPlls.time = (x.setPeriod p).retick.time := State.systemPlls_time _
  obtain ⟨hper2, hcount2, hnow2⟩ := State.now_congr (s := x.setPeriod p) (t := (x.setPeriod p).retick.systemPlls)
    ⟨(congrArg TimeSt.t0 htime).trans rfl, (congrArg TimeSt.c0 htime).trans rfl⟩ (congrArg ClockSt.rootCnt (State.systemPlls_clock _))
    (State.reg_systemPlls _ (by decide)) (State.reg_systemPlls _ (by decide))
  exact ⟨hpnom, hper2.trans hper, (State.flag_of_reg (State.reg_systemPlls _ (by decide))).trans hflag,
    hcount2.trans (hcount'.trans hcount), hnow2.trans (hnow'.trans hnow)⟩

end

/-! ## The commands -/

/-- The clock reads the same, with the same rate and the same LOCK. -/
def State.SameTime (s t : State) : Prop :=
  t.time.pnom = s.time.pnom ∧ t.flag Fld.CLK_STATUS_LOCK = s.flag Fld.CLK_STATUS_LOCK ∧ t.period = s.period ∧ t.count = s.count ∧
    t.now = s.now

/-- A measurement register extended leaves the clock as it is (R423). -/
theorem State.extendMr_sameTime (s : State) (l : List Byte) : s.SameTime (s.extendMr 0 l) := by
  have hcore : (s.extendMr 0 l).core = s.core := ((OnlyEv.refl (mrFields 0) s).extendMr 0 l fun _ h => h).1
  have htime : (s.extendMr 0 l).time = s.time := (congrArg (fun t : State => t.time) hcore :)
  have hclock : (s.extendMr 0 l).clock = s.clock := (congrArg (fun t : State => t.clock) hcore :)
  have hreg {a : Nat} (ha : a < Reg.SEC_MR 0 0 ∨ Reg.SEC_MR 0 16 ≤ a) := s.reg_extendMr_other l ha
  exact ⟨congrArg TimeSt.pnom htime, State.flag_of_reg (hreg (by decide)), State.now_congr ⟨congrArg TimeSt.t0 htime, congrArg TimeSt.c0 htime⟩
    (congrArg ClockSt.rootCnt hclock) (hreg (by decide)) (hreg (by decide))⟩

/-- The lock recorded, with where REFCLK0's edges fall. -/
def State.lockSeen (s : State) (phase : BitVec 8) (m : Nat) : State :=
  { s with clock := { s.clock with everLocked := true }, time := { s.time with refPhase := phase.toNat % (max 1 (m / 4)) } }

/-- What the lock leaves besides: it is recorded, and MR0 is extended in the boot ROM's phase (R423). -/
def State.locked (s : State) (phase : BitVec 8) (m : Nat) : State :=
  if (s.lockSeen phase m).ldr.phase = 1 then (s.lockSeen phase m).extendMr 0 (digest64 (s.lockSeen phase m).fuseShadow) else s.lockSeen phase m

theorem State.locked_sameTime (s : State) (phase : BitVec 8) (m : Nat) : s.SameTime (s.locked phase m) := by
  have hseen : s.SameTime (s.lockSeen phase m) := ⟨rfl, rfl, State.now_congr ⟨rfl, rfl⟩ rfl rfl rfl⟩
  unfold State.locked
  split
  · obtain ⟨hpnom, hlock, hper, hcount, hnow⟩ := (s.lockSeen phase m).extendMr_sameTime (digest64 (s.lockSeen phase m).fuseShadow)
    obtain ⟨hpnom', hlock', hper', hcount', hnow'⟩ := hseen
    exact ⟨hpnom.trans hpnom', hlock.trans hlock', hper.trans hper', hcount.trans hcount', hnow.trans hnow'⟩
  · exact hseen

theorem exec_rpllLock_first {s : State} (phase : BitVec 8) (hon : s.clock.rpllOn = true) (hlock : s.flag Fld.CLK_STATUS_LOCK = false)
    (hhold : s.flag Fld.CLK_STATUS_HOLDOVER = false) (hfirst : s.clock.everLocked = false) :
    exec (.rpllLock phase) s = .next ((s.lockAt (s.fld Fld.CLK_RPLL_MULT)).locked phase (s.fld Fld.CLK_RPLL_MULT)) := by
  refine (congrArg Host.Outcome.next (if_pos (by rw [hon, hlock, hhold]; rfl))).trans ?_
  rw [hfirst]
  rfl

/-- The reference is back, and its edges fall where a free value says (R23). -/
def State.rejoined (s : State) : State :=
  let f := s.takeFree
  { f.2 with
    clock := { f.2.clock with refOk := true }, time := { f.2.time with refPhase := f.1.toNat % (max 1 (s.fld Fld.CLK_RPLL_MULT / 4)) } }

/-- A relock that no locked schedule refuses, in holdover. -/
theorem State.clkCtrlWrite_relock {s : State} {v : Word32} (hv : bitOf v.toNat 0 = true)
    (hfree : s.lockedSchedule = false ∨ s.seqState ≠ 2) (hhold : s.flag Fld.CLK_STATUS_HOLDOVER = true) :
    ∃ w : Word32, s.clkCtrlWrite v =
      ((((s.setReg Reg.CLK_CTRL w).reply Code.ok).rejoined.setFlag Fld.CLK_STATUS_HOLDOVER false).setFlag Fld.CLK_STATUS_LOCK true).reply
        Code.ok := by
  obtain ⟨w, hw⟩ := s.storeReg_of_plain (a := Reg.CLK_CTRL) (v &&& 0xFFFFFFFE) (by decide)
  have hbusy : (s.lockedSchedule && s.seqState == 2) = false := by
    rcases hfree with h | h
    · rw [h]; rfl
    · rw [beq_false_of_ne h, Bool.and_false]
  have hflag : ((s.setReg Reg.CLK_CTRL w).reply Code.ok).flag Fld.CLK_STATUS_HOLDOVER = true := by
    rw [State.flag_reply, State.flag_setReg_other _ _ (by decide)]
    exact hhold
  refine ⟨w, ?_⟩
  rw [State.clkCtrlWrite, hv, hbusy, hw]
  exact if_pos (Bool.or_eq_true_iff.2 (Or.inl hflag))

/-- Settles O17: the lock by the period that it sets, the loss and the relock by the bits of CLK_STATUS. -/
theorem rpllLock : Obligations.RpllLock := by
  refine ⟨fun phase s hon hlock hhold hfirst hrate => ?_, fun mid s => ⟨fun hlock => ?_, fun hsched hrun => ?_, fun hfree hhold => ?_⟩⟩
  · obtain ⟨hpnom, hper, hflag, hcount, hnow⟩ := s.lockAt_spec hrate
    obtain ⟨hpnom', hflag', hper', hcount', hnow'⟩ := (s.lockAt (s.fld Fld.CLK_RPLL_MULT)).locked_sameTime phase (s.fld Fld.CLK_RPLL_MULT)
    refine ⟨_, exec_rpllLock_first phase hon hlock hhold hfirst, hpnom'.trans hpnom, ?_, hflag'.trans hflag, hcount'.trans hcount,
      hnow'.trans hnow⟩
    rw [hper', hper, hpnom', hpnom]
  · refine ⟨_, congrArg Host.Outcome.next (if_pos hlock), ?_⟩
    obtain ⟨hloss, hsticky⟩ := State.raiseBit_spec ((({ s with clock := { s.clock with refOk := false } } : State).setFlag
      Fld.CLK_STATUS_LOCK false).setFlag Fld.CLK_STATUS_HOLDOVER true) (f := Fld.CLK_STATUS_REF_LOSS) (n := 468) (by decide) (by decide) rfl rfl
    refine ⟨?_, hloss, ?_, hsticky, ?_⟩
    · rw [State.flag_raiseBit_sep _ (by decide) (by decide) (by decide), State.flag_setFlag_same _ _ _ rfl rfl]
    · rw [State.flag_raiseBit_sep _ (by decide) (by decide) (by decide), State.flag_setFlag_sep _ _ (by decide),
        State.flag_setFlag_same _ _ _ rfl rfl]
    · exact (((OnlyEv.refl _ _).setFlag _ _ rfl (by simp)).setFlag _ _ rfl (by simp)).raiseBit _ _ rfl (by simp) (by decide)
  · have hbit : bitOf (s.reg Reg.CLK_CTRL ||| 1).toNat 0 = true := by simp [bitOf]
    refine .of_eq (t := (s.raiseBit Fld.CLK_STATUS_RELOCK_DENIED 470).reply Code.denied) rfl ?_ (s.raiseBit_reply_spec _ (by decide) (by decide) rfl rfl)
    rw [State.clkCtrlWrite, hbit, hsched, hrun]
    rfl
  · have hbit : bitOf (s.reg Reg.CLK_CTRL ||| 1).toNat 0 = true := by simp [bitOf]
    obtain ⟨w, heq⟩ := State.clkCtrlWrite_relock hbit hfree hhold
    refine .of_eq rfl heq ⟨rfl, ?_, ?_, ?_⟩
    · rw [State.flag_reply, State.flag_setFlag_sep _ _ (by decide), State.flag_setFlag_same _ _ _ rfl rfl]
    · rw [State.flag_reply, State.flag_setFlag_same _ _ _ rfl rfl]
    · rfl

end Sys2Proof.Machine


/-! PROOFS.  What a write of a register without behaviour of its own stores (R9). -/

namespace Sys2Proof.Machine

/-- The bits of `v` under a mask, the others those of `old`. -/
def mergeBits (m old v : Word32) : Word32 := (old &&& ~~~m) ||| (v &&& m)

/-- The register at `a` stores the bits of `m` when it is written, and has no other behaviour. -/
def Reg.storesBits (a m : Nat) : Bool := (Reg.row a).any fun r => r.w1c == 0 && r.w1s == 0 && r.rwl == 0 && r.rw == m

section
variable (s : State) {a m : Nat} (v : Word32)

/-- A write of such a register. -/
theorem State.storeReg_of_storesBits (h : Reg.storesBits a m = true) :
    s.storeReg a v = (s.setReg a (mergeBits (BitVec.ofNat 32 m) (s.reg a) v)).reply Code.ok := by
  obtain ⟨r, hrow, hr⟩ := (Option.any_eq_true _ _).1 h
  obtain ⟨⟨⟨hw1c, hw1s⟩, hrwl⟩, hrw⟩ : ((r.w1c = 0 ∧ r.w1s = 0) ∧ r.rwl = 0) ∧ r.rw = m := by simpa using hr
  have hattempt (locked : Bool) (old : Word32) : r.attempt locked old v = false := by
    rw [RegRow.attempt, hrwl]
    cases locked <;> simp
  have hwritten (locked : Bool) (old : Word32) : r.written locked old v = mergeBits (BitVec.ofNat 32 m) old v := by
    rw [RegRow.written, hw1c, hw1s, hrwl, hrw]
    have hall (x : Word32) : x &&& 4294967295#32 = x := BitVec.and_allOnes
    cases locked <;> simp [mergeBits, hall]
  rw [State.storeReg, hrow]
  dsimp only
  rw [hattempt, hw1c, hwritten]
  rfl

end

section
variable {f : Field} {m : Word32} (hfits : f.fits = true) (old v : Word32)
include hfits

/-- A field within the stored bits takes the value written. -/
theorem Field.get_mergeBits_in (hm : f.mask &&& m = f.mask) : f.get (mergeBits m old v) = f.get v := by
  rw [← Field.get_and_mask hfits (BitVec.and_self) (mergeBits m old v), ← Field.get_and_mask hfits (BitVec.and_self) v]
  congr 1
  ext i hi
  have hbit := congrArg (fun x : Word32 => x[i]) hm
  simp only [mergeBits, BitVec.getElem_and, BitVec.getElem_or, BitVec.getElem_not] at hbit ⊢
  generalize m[i] = a at hbit ⊢
  generalize f.mask[i] = b at hbit ⊢
  cases a <;> cases b <;> simp_all

/-- A field outside the stored bits keeps its value. -/
theorem Field.get_mergeBits_out (hm : f.mask &&& m = 0) : f.get (mergeBits m old v) = f.get old := by
  rw [← Field.get_and_mask hfits (BitVec.and_self) (mergeBits m old v), ← Field.get_and_mask hfits (BitVec.and_self) old]
  congr 1
  ext i hi
  have hbit := congrArg (fun x : Word32 => x[i]) hm
  simp only [mergeBits, BitVec.getElem_and, BitVec.getElem_or, BitVec.getElem_not] at hbit ⊢
  generalize m[i] = a at hbit ⊢
  generalize f.mask[i] = b at hbit ⊢
  cases a <;> cases b <;> simp_all

end

end Sys2Proof.Machine


/-! PROOFS.  The mode of a timing port (R222, R359). -/

namespace Sys2Proof.Machine

/-- The addresses that a change of a timing port's standard may write once its mode is set, besides LN_PLL_STAT: the link's, the
lane's, the PLL's, and the states of the domains. -/
def portReg (a : Nat) : Prop := fallReg a ∨ a % 0x100 = 0 ∧ 0x5F00000 ≤ a ∧ a < 0x6000000 ∨ (0x201200 ≤ a ∧ a < 0x201400)

theorem portReg_of_fallReg {a : Nat} (h : fallReg a) : portReg a := Or.inl h

theorem State.systemPlls_writes (s : State) : WritesAt portReg s s.systemPlls := by
  refine .foldl _ _ (fun t k hk => ?_) (.refl _ s)
  have hk : k < 28 := by simp only [List.mem_cons, List.not_mem_nil, or_false] at hk; omega
  have hpll : portReg (Reg.LN_PLL k) := by simp only [portReg, Reg.LN_PLL]; omega
  exact (((WritesAt.refl _ t).setReg _ hpll).setReg _ hpll).setReg _ hpll

theorem State.wakeHolds_writes (s : State) (mid : Nat) : WritesAt portReg s (s.wakeHolds mid) := by
  refine .ite (.foldl _ _ (fun t d hd => .ite (.ite (.refl _ t) (.ite ?_ (.refl _ t))) (.refl _ t)) (.refl _ s)) (.refl _ s)
  have hd := List.mem_range.1 hd
  have hstat : portReg (Reg.PWR_DSTAT d) := by simp only [portReg, Reg.PWR_DSTAT]; omega
  exact (((WritesAt.refl _ t).setReg _ hstat).setReg _ hstat).setReg _ hstat

section
variable {s t : State} {p : Nat} (hp : p < 2)

theorem not_portReg_TU_TP_CFG (hp : p < 2) : ¬ portReg (Reg.TU_TP_CFG p) := by
  simp only [portReg, fallReg, laneOutput, Reg.TU_TP_CFG]
  omega

theorem not_portReg_LN_LE_CFG (hp : p < 2) : ¬ portReg (Reg.LN_LE_CFG (100 + p)) := by
  simp only [portReg, fallReg, laneOutput, Reg.LN_LE_CFG]
  omega

theorem eventSafe_TU_TP_CFG (hp : p < 2) : eventSafe (wholeReg (Reg.TU_TP_CFG p)) = true :=
  eventSafe_of_above (by dsimp only [wholeReg, Reg.TU_TP_CFG]; omega) (Or.inl (by dsimp only [wholeReg, Reg.TU_TP_CFG]; omega))

theorem eventSafe_portEngine (hp : p < 2) : eventSafe (wholeReg (Reg.LN_LE_CFG (100 + p))) = true :=
  eventSafe_of_LN_LE_CFG (by omega)

/-- The port's link engine in the mode of a standard, its link down. -/
def State.portMoved (s : State) (p m : Nat) : State := ((s.linkDown (100 + p)).setFld (Fld.LN_LE_CFG_MODE (100 + p)) m).checkEngine (100 + p)

/-- The rest of a change of standard: the PLL loses its lock, and the lane starts again. -/
def State.portRestarted (s : State) (p : Nat) : State :=
  ((((s.systemPlls).setFlag (Fld.LN_PLL_STAT_LOCK (25 + p)) false).restartLane (100 + p)).checkPll (25 + p)).wakeHolds 0x13

include hp

theorem State.portMoved_mode {m : Nat} (hm : m < 16) : (s.portMoved p m).fld (Fld.LN_LE_CFG_MODE (100 + p)) = m ∧
    (s.portMoved p m).reg (Reg.TU_TP_CFG p) = s.reg (Reg.TU_TP_CFG p) := by
  have hdown := ((CalmAt.refl fallReg s).linkDown (b := 100 + p) (by omega)).writes
  have hcheck := ((CalmAt.refl fallReg ((s.linkDown (100 + p)).setFld (Fld.LN_LE_CFG_MODE (100 + p)) m)).checkEngine (i := 100 + p)
    (by omega)).writes
  constructor
  · have hreg := hcheck.reg_eq (eventSafe_portEngine hp) fun h => not_portReg_LN_LE_CFG hp (portReg_of_fallReg h)
    refine (State.fld_of_reg (f := Fld.LN_LE_CFG_MODE (100 + p)) hreg).trans ?_
    exact (State.fld_setFld_same _ _ _ rfl).trans (Nat.mod_eq_of_lt hm)
  · refine (hcheck.reg_eq (eventSafe_TU_TP_CFG hp) fun h => not_portReg_TU_TP_CFG hp (portReg_of_fallReg h)).trans ?_
    have hset (x : State) : (x.setFld (Fld.LN_LE_CFG_MODE (100 + p)) m).reg (Reg.TU_TP_CFG p) = x.reg (Reg.TU_TP_CFG p) :=
      x.reg_setFld_other _ _ _ (by simp only [Reg.TU_TP_CFG, Reg.LN_LE_CFG]; omega)
    refine (hset _).trans ?_
    exact hdown.reg_eq (eventSafe_TU_TP_CFG hp) fun h => not_portReg_TU_TP_CFG hp (portReg_of_fallReg h)

theorem State.portRestarted_writes : WritesAt portReg s (s.portRestarted p) := by
  have hpll (k : Nat) (hk : k < 28) : portReg (Reg.LN_PLL_STAT k) := Or.inl (Or.inl (by simp only [laneOutput, Reg.LN_PLL_STAT]; omega))
  have hlane (i : Nat) (hi : i < 103) : ∀ a, laneStatus i a → portReg a := fun a ha =>
    Or.inl (Or.inl (laneOutput_of_laneStatus hi ha))
  have hstat : ∀ a, pllStatus (25 + p) a → portReg a := by
    rintro a (rfl | ⟨j, hj, rfl⟩)
    · exact hpll _ (by omega)
    · exact hlane j (pllOfLane_of_mem (by omega) hj).1 _ (Or.inl rfl)
  exact ((((s.systemPlls_writes.setFlag _ (hpll _ (by omega))).trans ((State.restartLane_writes _ (100 + p)).mono (hlane _ (by omega)))).trans
    ((State.checkPll_writes _ (25 + p)).mono hstat)).trans (State.wakeHolds_writes _ _))

theorem State.portRestarted_unlocked : (s.portRestarted p).flag (Fld.LN_PLL_STAT_LOCK (25 + p)) = false := by
  have hsafe : eventSafe (Fld.LN_PLL_STAT_LOCK (25 + p)) = true :=
    eventSafe_of_serial (by simp only [Reg.LN_PLL_STAT]; omega) (by simp only [Reg.LN_PLL_STAT]; omega)
  have hoff := (State.restartLane_writes ((s.systemPlls).setFlag (Fld.LN_PLL_STAT_LOCK (25 + p)) false) (100 + p)).flag_eq hsafe
    (not_laneStatus_LN_PLL_STAT (by omega))
  have hcheck := State.checkPll_unlocked (hoff.trans (State.flag_setFlag_same _ _ _ rfl rfl)) (by omega)
  have hwake (t : State) (mid : Nat) : (t.wakeHolds mid).reg (Reg.LN_PLL_STAT (25 + p)) = t.reg (Reg.LN_PLL_STAT (25 + p)) := by
    rw [State.wakeHolds]
    split
    · refine foldl_keeps (fun x => x.reg (Reg.LN_PLL_STAT (25 + p))) _ _ t fun x d hd => ?_
      have hd := List.mem_range.1 hd
      split
      · exact State.reg_wakeDomain _ _ _ (by simp only [Reg.LN_PLL_STAT, Reg.PWR_DSTAT]; omega)
      · rfl
    · rfl
  exact (State.flag_of_reg (hwake _ _)).trans hcheck

/-- A write of TU_TP_CFG that changes the standard. -/
theorem State.portConfig_changed {v : Word32} (h : s.fld (Fld.TU_TP_CFG_STD p) ≠ (Fld.TU_TP_CFG_STD p).get v) :
    ∃ u : State, u.fld (Fld.TU_TP_CFG_STD p) = (Fld.TU_TP_CFG_STD p).get v ∧
      s.portConfig p v = (u.portMoved p (portMode ((Fld.TU_TP_CFG_STD p).get v))).portRestarted p := by
  have hstores : Reg.storesBits (Reg.TU_TP_CFG p) 3 = true := by
    obtain rfl | rfl : p = 0 ∨ p = 1 := by omega
    · decide +kernel
    · decide +kernel
  have hstd : (s.storeReg (Reg.TU_TP_CFG p) v).fld (Fld.TU_TP_CFG_STD p) = (Fld.TU_TP_CFG_STD p).get v := by
    rw [s.storeReg_of_storesBits v hstores, State.fld_reply, State.fld, State.reg_setReg_same]
    have hmask : (Fld.TU_TP_CFG_STD p).mask = 3#32 := by simp [Field.mask]
    exact Field.get_mergeBits_in rfl _ _ (by rw [hmask]; decide)
  refine ⟨s.storeReg (Reg.TU_TP_CFG p) v, hstd, ?_⟩
  rw [State.portConfig]
  dsimp only
  rw [hstd, if_neg (Ne.symm h)]
  rfl

end

/-- Settles O18: the mode is written before the lane starts again, and nothing after it writes LN_LE_CFG. -/
theorem timingPortMode : Obligations.TimingPortMode := by
  intro mid p v s hmid howner hchange
  obtain ⟨u, hstd, heq⟩ := State.portConfig_changed p.isLt hchange
  have hexec : exec (.timingPortConfig mid p v) s = .next ((s.portConfig p v).reply Code.ok) := by
    refine congrArg Host.Outcome.next ((State.tuWrite_of_writer hmid _ _).trans (if_neg ?_))
    exact fun h => h.2 howner
  have hmode : portMode ((Fld.TU_TP_CFG_STD p).get v) < 16 := by
    unfold portMode
    repeat' split
    all_goals decide
  obtain ⟨hmoved, hkept⟩ := State.portMoved_mode (s := u) p.isLt hmode
  have hwrites := State.portRestarted_writes (s := u.portMoved p (portMode ((Fld.TU_TP_CFG_STD p).get v))) p.isLt
  have hcfg := (hwrites.reg_eq (eventSafe_TU_TP_CFG p.isLt) (not_portReg_TU_TP_CFG p.isLt)).trans hkept
  have hengine := hwrites.reg_eq (eventSafe_portEngine p.isLt) (not_portReg_LN_LE_CFG p.isLt)
  refine ⟨_, hexec, ?_, rfl, ?_, ?_⟩
  · rw [State.fld_reply, heq]
    exact (State.fld_of_reg (f := Fld.TU_TP_CFG_STD p) hcfg).trans hstd
  · rw [State.fld_reply, heq]
    exact (State.fld_of_reg (f := Fld.LN_LE_CFG_MODE (100 + p)) hengine).trans hmoved
  · rw [State.flag_reply, heq]
    exact State.portRestarted_unlocked p.isLt

end Sys2Proof.Machine


/-! PROOFS.  The trouble log's commits, and the samples of the sensors (R463, R464, R469, R470, R531). -/

namespace Sys2Proof.Machine

/-! ## The trouble log (R469, R470) -/

section
variable {s : State} (mid : Mid) (v : Word32)

/-- A commit into a log that neither is full nor has dropped a record. -/
theorem State.logCommit_of_room (hroom : s.logFull = false) (hnone : s.lib.dropped = 0) :
    s.logCommit mid v = (s.logPut 2 (Fld.LIB_LOG_COMMIT_SEV.get v) (Fld.LIB_LOG_COMMIT_CODE.get v) mid.toNat
      ((s.getRegs (Reg.LIB_LOG_WR 0) 8).map (fun w => w.toNat))).reply Code.ok := by
  rw [State.logCommit, State.logAppend, hroom, if_pos hnone]
  dsimp only
  rw [hroom]
  rfl

/-- The count of dropped records rises, and LOG_DROP reports it. -/
def State.dropSeen (s : State) : State :=
  (({ s with lib := { s.lib with dropped := s.lib.dropped + 1 } } : State).countReg Reg.LIB_LOG_DROP).setFlag Fld.LIB_STATUS_LOG_DROP true

theorem State.sticky_countReg_other (s : State) {a n : Nat} (h : a ≠ Reg.EVT_STICKY (n / 32)) : (s.countReg a).sticky n = s.sticky n :=
  State.sticky_congr n (State.reg_countReg_other s h.symm)

/-- A commit into a full log is dropped; where a drop has been reported before, nothing more is raised. -/
theorem State.logCommit_of_full (hfull : s.logFull = true) (hseen : s.sticky 476 = true) :
    s.logCommit mid v = s.dropSeen.reply Code.ok := by
  have hsticky : s.dropSeen.sticky 476 = true :=
    (State.sticky_setFlag_other _ _ (by decide)).trans ((State.sticky_countReg_other _ (by decide)).trans hseen)
  have hdrop : s.dropSeen.raiseDrop = s.dropSeen := by
    rw [State.raiseDrop, State.raiseWith, if_pos hsticky]
  rw [State.logCommit, State.logAppend, hfull]
  exact congrArg (fun t : State => t.reply Code.ok) hdrop

theorem State.dropSeen_spec (hcount : s.reg Reg.LIB_LOG_DROP ≠ 0xFFFFFFFF) :
    s.dropSeen.reg Reg.LIB_LOG_DROP = s.reg Reg.LIB_LOG_DROP + 1 ∧ s.dropSeen.flag Fld.LIB_STATUS_LOG_DROP = true ∧
      s.dropSeen.lib = { s.lib with dropped := s.lib.dropped + 1 } ∧ s.dropSeen.reg Reg.LIB_LOG_WP = s.reg Reg.LIB_LOG_WP := by
  refine ⟨?_, State.flag_setFlag_same _ _ _ rfl rfl, ?_, ?_⟩
  · exact (State.reg_setFlag_other _ _ _ _ (by decide)).trans (State.reg_countReg_same (s := { s with lib := { s.lib with dropped := s.lib.dropped + 1 } }) hcount)
  · exact State.countReg_lib { s with lib := _ } _
  · exact (State.reg_setFlag_other _ _ _ _ (by decide)).trans (State.reg_countReg_other { s with lib := _ } (by decide))

end

/-! ## What sensors' conditions keep (R10, R464) -/

/-- From `s` to `t` the readings and the alarms of the sensors stay, what they have reported stays reported, and no sticky bit is
cleared. -/
structure SensorKept (s t : State) : Prop where
  alarm : t.lib.alarm = s.lib.alarm
  readings : ∀ a, 0x1000800 ≤ a → a < 0x1000C00 → t.reg a = s.reg a
  alarms : ∀ i, s.flag (alarmField i) = true → t.flag (alarmField i) = true
  status : s.flag Fld.LIB_STATUS_SNS_ALM = true → t.flag Fld.LIB_STATUS_SNS_ALM = true
  sticky : StickyUp s t

theorem State.flag_setFlag_true_keep (s : State) {f g : Field} (hf : f.fits = true) (hfw : f.width = 1) (hgw : g.width = 1)
    (h : s.flag g = true) : (s.setFlag f true).flag g = true := by
  by_cases hsame : f.addr = g.addr ∧ f.lo = g.lo
  · obtain rfl : f = g := by
      obtain ⟨a, l, w⟩ := f
      obtain ⟨a', l', w'⟩ := g
      obtain ⟨rfl, rfl⟩ := hsame
      exact congrArg _ (hfw.trans hgw.symm)
    exact State.flag_setFlag_same _ _ _ hf hfw
  · refine (State.flag_setFlag_apart _ _ _ _ hf ?_).trans h
    rcases not_and_or.1 hsame with h | h
    · exact Or.inl h
    · exact Or.inr (by omega)

theorem alarmField_width (i : Nat) : (alarmField i).width = 1 := by
  unfold alarmField
  repeat' split
  all_goals rfl

theorem alarmField_range (i : Nat) : 0x1000C00 ≤ (alarmField i).addr ∧ (alarmField i).addr < 0x1000C0C := by
  unfold alarmField
  repeat' split
  all_goals simp [Reg.LIB_ALM0, Reg.LIB_ALM1, Reg.LIB_ALM2]

theorem alarmField_fits {i : Nat} (hi : i < 80) : (alarmField i).fits = true := by
  unfold alarmField
  repeat' split
  all_goals simp only [Field.fits, decide_eq_true_eq]; omega

theorem alarmField_safe (i : Nat) : eventSafe (alarmField i) = true := by
  have haddr := alarmField_range i
  simp only [eventSafe, Reg.LIB_LOG_WP, Reg.LIB_LOG_DROP, Reg.LIB_STATUS, Reg.PWR_STATUS, Bool.and_eq_true, Bool.or_eq_true,
    Bool.not_eq_true', Bool.and_eq_false_iff, bne_iff_ne, decide_eq_true_eq, decide_eq_false_iff_not]
  omega

theorem eventSafe_of_reading {a : Nat} (hlow : 0x1000800 ≤ a) (hhigh : a < 0x1000C00) : eventSafe (wholeReg a) = true := by
  have hsafe (f : Field) (hf : f.addr = a) : eventSafe f = true := by
    simp only [eventSafe, Reg.LIB_LOG_WP, Reg.LIB_LOG_DROP, Reg.LIB_STATUS, Reg.PWR_STATUS, Bool.and_eq_true, Bool.or_eq_true,
      Bool.not_eq_true', Bool.and_eq_false_iff, bne_iff_ne, decide_eq_true_eq, decide_eq_false_iff_not]
    omega
  exact hsafe _ rfl

section
variable {s t u : State}

theorem SensorKept.refl (s : State) : SensorKept s s := ⟨rfl, fun _ _ _ => rfl, fun _ h => h, fun h => h, .refl s⟩

theorem SensorKept.trans (h : SensorKept s t) (h' : SensorKept t u) : SensorKept s u :=
  ⟨h'.alarm.trans h.alarm, fun a hl hh => (h'.readings a hl hh).trans (h.readings a hl hh), fun i hi => h'.alarms i (h.alarms i hi),
    fun hs => h'.status (h.status hs), h.sticky.trans h'.sticky⟩

theorem SensorKept.ite {c : Prop} [Decidable c] (ht : SensorKept s t) (hu : SensorKept s u) : SensorKept s (if c then t else u) := by
  split
  · exact ht
  · exact hu

/-- A register apart from those of the sensors' readings, alarms and status. -/
theorem SensorKept.setReg (h : SensorKept s t) {a : Nat} (v : Word32) (ha : a < 0x1000000 ∨ 0x1001000 ≤ a) (hs : ¬ stickyAddr a) :
    SensorKept s (t.setReg a v) := by
  refine h.trans ⟨rfl, fun b hl hh => State.reg_setReg_other _ _ (by omega), fun i hi => ?_, fun hf => ?_, (StickyUp.refl t).setReg v hs⟩
  · refine (State.flag_setReg_other _ _ ?_).trans hi
    have haddr := alarmField_range i
    omega
  · exact (State.flag_setReg_other _ _ (by simp only [Reg.LIB_STATUS]; omega)).trans hf

/-- A bit of the sensors' alarms and status set. -/
theorem SensorKept.setTrue (h : SensorKept s t) {f : Field} (hfits : f.fits = true) (hw : f.width = 1)
    (ha : f.addr < 0x1000800 ∨ 0x1000C00 ≤ f.addr) (hs : ¬ stickyAddr f.addr) : SensorKept s (t.setFlag f true) :=
  h.trans ⟨rfl, fun b hl hh => State.reg_setReg_other _ _ (by omega),
    fun i hi => State.flag_setFlag_true_keep t hfits hw (alarmField_width i) hi, fun hf => State.flag_setFlag_true_keep t hfits hw rfl hf,
    (StickyUp.refl t).setReg _ hs⟩

/-- An event is raised. -/
theorem SensorKept.raise (h : SensorKept s t) {n : Nat} (hn : n < 512) : SensorKept s (t.raise n) := by
  have halarm : (t.raise n).lib.alarm = t.lib.alarm := (congrArg (fun x : State => x.lib.alarm) (State.core_raise t n) :)
  refine h.trans ⟨halarm, fun a hl hh => State.reg_raise t hn (eventSafe_of_reading hl hh), fun i hi => ?_, fun hf => ?_,
    (StickyUp.refl t).raise n⟩
  · exact (State.flag_raise t n hn (alarmField_safe i)).trans hi
  · exact (State.flag_raise t n hn (by decide)).trans hf

theorem SensorKept.raiseBit (h : SensorKept s t) {f : Field} {n : Nat} (hfits : f.fits = true) (hw : f.width = 1)
    (ha : f.addr < 0x1000800 ∨ 0x1000C00 ≤ f.addr) (hs : ¬ stickyAddr f.addr) (hn : n < 512) : SensorKept s (t.raiseBit f n) :=
  (h.setTrue hfits hw ha hs).raise hn

theorem SensorKept.withPwr (h : SensorKept s t) (x : PowerSt) : SensorKept s { t with pwr := x } :=
  ⟨h.alarm, h.readings, h.alarms, h.status, h.sticky⟩

theorem SensorKept.withIob (h : SensorKept s t) (x : IobSt) : SensorKept s { t with iob := x } :=
  ⟨h.alarm, h.readings, h.alarms, h.status, h.sticky⟩

end

/-! ## What a sensor's condition reports (R10, R464) -/

/-- The alarm bits of the sensors whose condition is present, set. -/
def State.alarmsShown (s : State) : State :=
  (List.range 80).foldl (fun s i => if s.alarming i then s.setFlag (alarmField i) true else s) s

/-- The thermal conditions report themselves. -/
def State.thermalShown (s : State) : State :=
  let s3 := if s.pwr.talarm then s.raiseBit Fld.PWR_STATUS_TALARM 477 else s
  if s3.pwr.tshut then s3.raiseBit Fld.PWR_STATUS_TSHUT 478 else s3

/-- Any sensor's condition reports itself. -/
def State.alarmRaised (s : State) : State :=
  if (List.range 80).any (fun i => s.alarming i) then s.raiseBit Fld.LIB_STATUS_SNS_ALM 471 else s

theorem State.persist_eq (s : State) : s.persist = s.alarmsShown.alarmRaised.thermalShown := by
  rw [State.persist, ← State.alarmsShown]
  generalize s.alarmsShown = t
  rw [← State.alarmRaised, ← State.thermalShown]

section
variable (s : State)

theorem State.alarmsShown_kept : SensorKept s s.alarmsShown := by
  refine List.foldlRecOn (motive := SensorKept s) _ _ (.refl s) fun t ht i hi => ?_
  have haddr := alarmField_range i
  exact .ite (ht.setTrue (alarmField_fits (List.mem_range.1 hi)) (alarmField_width i) (by omega)
    (not_stickyAddr_of_above (by omega))) ht

theorem State.thermalShown_kept : SensorKept s s.thermalShown := by
  have hbit {t : State} (h : SensorKept s t) {f : Field} (hf : f.addr = Reg.PWR_STATUS) (hfits : f.fits = true) (hw : f.width = 1) {n : Nat}
      (hn : n < 512) : SensorKept s (t.raiseBit f n) := by
    simp only [Reg.PWR_STATUS] at hf
    exact h.raiseBit hfits hw (by omega) (not_stickyAddr_of_above (by omega)) hn
  have htalarm : SensorKept s (if s.pwr.talarm then s.raiseBit Fld.PWR_STATUS_TALARM 477 else s) :=
    .ite (hbit (.refl s) rfl rfl rfl (by decide)) (.refl s)
  exact .ite (hbit htalarm rfl rfl rfl (by decide)) htalarm

theorem State.alarmRaised_kept : SensorKept s s.alarmRaised :=
  .ite ((SensorKept.refl s).raiseBit rfl rfl (Or.inl (by decide)) (not_stickyAddr_of_above (by decide)) (by decide)) (.refl s)

theorem State.persist_sensorKept : SensorKept s s.persist := by
  rw [State.persist_eq]
  exact (s.alarmsShown_kept.trans (State.alarmRaised_kept _)).trans (State.thermalShown_kept _)

/-- A sensor's condition that is present is reported: its bit, SNS_ALM and EV471. -/
theorem State.persist_reports {i : Nat} (hi : i < 80) (h : s.alarming i = true) :
    s.persist.flag (alarmField i) = true ∧ s.persist.flag Fld.LIB_STATUS_SNS_ALM = true ∧ s.persist.sticky 471 = true := by
  have halarming {t : State} (ht : SensorKept s t) : t.alarming i = true := by rw [State.alarming, ht.alarm]; exact h
  have hshown : s.alarmsShown.flag (alarmField i) = true := by
    refine foldl_reaches (Q := SensorKept s) (P := fun t => SensorKept s t ∧ t.flag (alarmField i) = true) (List.mem_range.2 hi)
      (fun t j hj ht => ?_) (fun t ht => ?_) (fun t j hj _ ht => ?_) (.refl s) |>.2
    · have haddr := alarmField_range j
      exact .ite (ht.setTrue (alarmField_fits (List.mem_range.1 hj)) (alarmField_width j) (by omega)
        (not_stickyAddr_of_above (by omega))) ht
    · have haddr := alarmField_range i
      rw [if_pos (halarming ht)]
      exact ⟨ht.setTrue (alarmField_fits hi) (alarmField_width i) (by omega) (not_stickyAddr_of_above (by omega)),
        State.flag_setFlag_same _ _ _ (alarmField_fits hi) (alarmField_width i)⟩
    · obtain ⟨ht, hflag⟩ := ht
      have haddr := alarmField_range j
      have hset := (SensorKept.refl t).setTrue (alarmField_fits (List.mem_range.1 hj)) (alarmField_width j) (by omega)
        (not_stickyAddr_of_above (by omega))
      have hstep : SensorKept t (if t.alarming j then t.setFlag (alarmField j) true else t) := .ite hset (.refl t)
      exact ⟨ht.trans hstep, hstep.alarms i hflag⟩
  have hany : ((List.range 80).any fun j => s.alarmsShown.alarming j) = true :=
    List.any_eq_true.2 ⟨i, List.mem_range.2 hi, halarming s.alarmsShown_kept⟩
  have hraised : s.alarmsShown.alarmRaised = s.alarmsShown.raiseBit Fld.LIB_STATUS_SNS_ALM 471 := if_pos hany
  obtain ⟨hstatus, hsticky⟩ := s.alarmsShown.raiseBit_spec (f := Fld.LIB_STATUS_SNS_ALM) (n := 471) (by decide) (by decide) rfl rfl
  have hkept := s.alarmsShown.alarmRaised.thermalShown_kept
  rw [State.persist_eq]
  refine ⟨hkept.alarms i (s.alarmsShown.alarmRaised_kept.alarms i hshown), hkept.status ?_, hkept.sticky 471 (by decide) ?_⟩
  · rw [hraised]
    exact hstatus
  · rw [hraised]
    exact hsticky

end

/-! ## The sample -/

section
variable (s : State)

/-- The comparison of a bank's supply writes the bank's status alone (R595). -/
theorem State.vccioSample_sensorKept (x : Sensor) (v : Nat) : SensorKept s (s.vccioSample x v) := by
  have hbank {b : Nat} (hb : b < 8) : SensorKept s (s.bankSample b v) := by
    have hstat : Reg.IOB_STAT b < 0x1000000 ∨ 0x1001000 ≤ Reg.IOB_STAT b := by simp only [Reg.IOB_STAT]; omega
    have hsticky : ¬ stickyAddr (Reg.IOB_STAT b) := not_stickyAddr_of_above (by simp only [Reg.IOB_STAT]; omega)
    have hvok (ok : Bool) : SensorKept s (s.setFlag (Fld.IOB_STAT_VOK b) ok) := (SensorKept.refl s).setReg _ hstat hsticky
    exact .ite ((hvok false).withIob _) (.ite (((hvok _).withIob _).raiseBit (f := Fld.IOB_STAT_VBAD b) rfl rfl
      (Or.inr (by simp only [Reg.IOB_STAT]; omega)) hsticky (by omega)) ((hvok _).withIob _))
  cases x with
  | ts i => exact .refl s
  | cm k => exact .refl s
  | vm j =>
    unfold State.vccioSample
    dsimp only
    split
    · exact hbank (by omega)
    · exact .refl s

/-- The hottest reading, below the thermal shutdown's, writes PWR_TMAX and the thermal conditions alone (R531). -/
theorem State.thermalUpdate_sensorKept (hcool : ∀ i v, s.hottestSensor = some (i, v) → v < 420) : SensorKept s s.thermalUpdate := by
  unfold State.thermalUpdate
  cases hhot : s.hottestSensor with
  | none => exact .refl s
  | some x =>
    obtain ⟨i, v⟩ := x
    have hv := hcool i v hhot
    have hset {t : State} (ht : SensorKept s t) {a : Nat} (ha : a = Reg.PWR_TMAX ∨ a = Reg.PWR_STATUS) (w : Word32) :
        SensorKept s (t.setReg a w) := by
      simp only [Reg.PWR_TMAX, Reg.PWR_STATUS] at ha
      exact ht.setReg w (by omega) (not_stickyAddr_of_above (by omega))
    dsimp only
    rw [if_neg (show ¬ 420 ≤ v by omega), if_neg (by omega)]
    exact ((hset (hset (hset (.refl s) (Or.inl rfl) _) (Or.inl rfl) _) (Or.inr rfl) _).withPwr _).trans (State.persist_sensorKept _)

end

theorem State.hottestSensor_congr {s t : State} (h : ∀ a, 0x1000800 ≤ a → a < 0x1000C00 → t.reg a = s.reg a) :
    t.hottestSensor = s.hottestSensor := by
  have hfld {f : Field} {i : Nat} (hi : i < 48) (hf : f.addr = Reg.LIB_TS i) : t.fld f = s.fld f :=
    State.fld_of_reg (h _ (by rw [hf]; simp only [Reg.LIB_TS]; omega) (by rw [hf]; simp only [Reg.LIB_TS]; omega))
  unfold State.hottestSensor
  refine List.foldl_ext _ _ _ fun b i hi => ?_
  have hi := List.mem_range.1 hi
  rw [State.flag, hfld hi rfl, hfld hi rfl, State.flag]

/-- The sensors' readings, and their numbers among the alarm bits. -/
theorem sensorPlace_range (x : Sensor) :
    0x1000800 ≤ (sensorPlace x).1 ∧ (sensorPlace x).1 < 0x1000A00 ∧ (sensorPlace x).2 < 80 := by
  cases x <;> simp only [sensorPlace, Reg.LIB_TS, Reg.LIB_VM, Reg.LIB_CM] <;> omega

/-- A reading changes none of the limits. -/
theorem State.sensorAlarm_setReg (s : State) {a : Nat} (ha : a < 0x1000A00) (w : Word32) (x : Sensor) (was : Bool) (v : Nat) :
    (s.setReg a w).sensorAlarm x was v = s.sensorAlarm x was v := by
  have hfld {f : Field} (hf : 0x1000A00 ≤ f.addr) : (s.setReg a w).fld f = s.fld f := State.fld_setReg_other s w f (by omega)
  cases x with
  | ts i => rw [State.sensorAlarm, hfld (by simp only [Reg.LIB_TS_HI]; omega), State.sensorAlarm]
  | vm j =>
    rw [State.sensorAlarm, hfld (f := Fld.LIB_VM_WIN_LO j) (by simp only [Reg.LIB_VM_WIN]; omega),
      hfld (f := Fld.LIB_VM_WIN_HI j) (by simp only [Reg.LIB_VM_WIN]; omega), State.sensorAlarm]
  | cm k => rw [State.sensorAlarm, hfld (by simp only [Reg.LIB_CM_HI]; omega), State.sensorAlarm]

/-- The sample in its register, and the condition that it brings about. -/
def State.sensed (s : State) (x : Sensor) (v : Nat) : State :=
  let s1 := s.setReg (sensorPlace x).1 (BitVec.ofNat 32 (2 ^ 31 + v))
  { s1 with lib := { s1.lib with
      alarm := Sparse.put false s1.lib.alarm (sensorPlace x).2 (s1.sensorAlarm x (s1.alarming (sensorPlace x).2) v) } }

theorem State.sensed_spec (s : State) (x : Sensor) (v : Nat) :
    (s.sensed x v).reg (sensorPlace x).1 = BitVec.ofNat 32 (2 ^ 31 + v) ∧
      (s.sensed x v).alarming (sensorPlace x).2 = s.sensorAlarm x (s.alarming (sensorPlace x).2) v := by
  obtain ⟨-, hhigh, -⟩ := sensorPlace_range x
  refine ⟨State.reg_setReg_same _ _ _, ?_⟩
  rw [State.alarming]
  exact (Sparse.get_put_same _ _ _ _).trans (s.sensorAlarm_setReg hhigh _ _ _ _)

theorem sensorSample_completes {s : State} {x : Sensor} {v : BitVec 16} (hlive : s.devState ≠ 4 ∨ x = .ts 46)
    (hcool : ∀ i w, (s.setReg (sensorPlace x).1 (BitVec.ofNat 32 (2 ^ 31 + v.toNat))).hottestSensor = some (i, w) → w < 420) :
    Completes (.sensorSample x v) s fun t =>
      t.reg (sensorPlace x).1 = BitVec.ofNat 32 (2 ^ 31 + v.toNat) ∧
      t.alarming (sensorPlace x).2 = s.sensorAlarm x (s.alarming (sensorPlace x).2) v.toNat ∧
      (t.alarming (sensorPlace x).2 = true →
        t.flag (alarmField (sensorPlace x).2) = true ∧ t.flag Fld.LIB_STATUS_SNS_ALM = true ∧ t.sticky 471 = true) := by
  obtain ⟨hlow, hhigh, hidx⟩ := sensorPlace_range x
  obtain ⟨hreg, halarm⟩ := s.sensed_spec x v.toNat
  have hexec : exec (.sensorSample x v) s = .next ((s.sensed x v.toNat).persist.vccioSample x v.toNat).thermalUpdate :=
    congrArg Host.Outcome.next (if_neg fun h : s.devState = 4 ∧ x ≠ .ts 46 => hlive.elim (fun hne => hne h.1) fun heq => h.2 heq)
  have hbank := (s.sensed x v.toNat).persist_sensorKept.trans (State.vccioSample_sensorKept (s.sensed x v.toNat).persist x v.toNat)
  have hhot : ((s.sensed x v.toNat).persist.vccioSample x v.toNat).hottestSensor =
      (s.setReg (sensorPlace x).1 (BitVec.ofNat 32 (2 ^ 31 + v.toNat))).hottestSensor :=
    State.hottestSensor_congr hbank.readings
  have hthermal := State.thermalUpdate_sensorKept ((s.sensed x v.toNat).persist.vccioSample x v.toNat) (by rw [hhot]; exact hcool)
  have hkept := (State.vccioSample_sensorKept (s.sensed x v.toNat).persist x v.toNat).trans hthermal
  have hall := hbank.trans hthermal
  have halarm' : (((s.sensed x v.toNat).persist.vccioSample x v.toNat).thermalUpdate).alarming (sensorPlace x).2 =
      (s.sensed x v.toNat).alarming (sensorPlace x).2 := by rw [State.alarming, hall.alarm, State.alarming]
  refine ⟨_, hexec, (hall.readings _ hlow (by omega)).trans hreg, halarm'.trans halarm, fun hon => ?_⟩
  obtain ⟨hflag, hstatus, hsticky⟩ := State.persist_reports _ hidx (halarm'.symm.trans hon)
  exact ⟨hkept.alarms _ hflag, hkept.status hstatus, hkept.sticky 471 (by decide) hsticky⟩

/-- Settles O11: a commit by what it writes, a sample through what its condition reports and nothing later takes back. -/
theorem logAndSensors : Obligations.LogAndSensors := by
  refine ⟨fun mid value s => ⟨fun hawake hroom hnone => ?_, fun hawake hfull hcount hseen => ?_, fun hawake => ?_⟩,
    fun x v s hlive hcool => sensorSample_completes hlive hcool⟩
  · refine .of_eq (congrArg Host.Outcome.next (State.gate_of_awake hawake _ _ _)) (State.logCommit_of_room mid value hroom hnone) ?_
    refine ⟨State.reg_setReg_same _ _ _, rfl, Sparse.find_replace_same _ _ _, fun k hk => Sparse.find_replace_other _ _ hk, ?_⟩
    exact ((Only.refl _ _).setReg _ _ List.mem_cons_self).reply _ _
  · obtain ⟨hdrop, hflag, hlib, hwp⟩ := State.dropSeen_spec hcount
    refine .of_eq (congrArg Host.Outcome.next (State.gate_of_awake hawake _ _ _)) (State.logCommit_of_full mid value hfull hseen) ?_
    exact ⟨hdrop, hflag, congrArg LibrarianSt.dropped hlib, (congrArg LibrarianSt.log hlib).trans rfl, hwp⟩
  · refine ⟨_, congrArg Host.Outcome.next (State.gate_of_awake hawake _ _ _), ?_⟩
    unfold State.logFree
    dsimp only
    split
    · exact ⟨rfl, rfl, (Only.refl _ s).reply _ _⟩
    · refine ⟨?_, rfl, ((Only.refl _ s).setReg _ _ List.mem_cons_self).reply _ _⟩
      rw [State.reg_reply, State.reg_setReg_same]

end Sys2Proof.Machine


/-! PROOFS.  The end of a level change and of a throttle interval (R528 to R531). -/

namespace Sys2Proof.Machine

theorem State.stallAgain_of_not_stalled {s : State} (h : s.seqState ≠ 3) : s.stallAgain = s := if_neg h

section
variable (s : State) {level : Nat}

/-- The end of a level change (R529). -/
theorem State.levelEnd_spec (h : level < 4) :
    (s.levelEnd level).pwr = { s.pwr with oldLevel := none, vsel := level, divider := levelDivider level } ∧
      (s.levelEnd level).fld Fld.PWR_STATUS_LEVEL = level ∧ (s.levelEnd level).flag Fld.PWR_STATUS_LEVEL_BUSY = false := by
  refine ⟨rfl, ?_, State.flag_setFlag_same _ _ _ rfl rfl⟩
  rw [State.levelEnd, State.fld_setFlag_sep _ _ (by decide), State.levelInForce, State.fld_setFld_same _ _ _ rfl]
  exact Nat.mod_eq_of_lt h

theorem State.levelEnd_frame (level : Nat) : Only [Fld.PWR_STATUS_LEVEL, Fld.PWR_STATUS_LEVEL_BUSY]
    { s with pwr := { s.pwr with oldLevel := none, vsel := level, divider := levelDivider level } } (s.levelEnd level) :=
  ((Only.refl _ _).setFld _ _ rfl (by simp)).setFlag _ _ rfl (by simp)

/-- The level change is of no concern to the sequencer. -/
theorem State.levelEnd_seqState (level : Nat) : (s.levelEnd level).seqState = s.seqState :=
  (s.levelEnd_frame level).2 Fld.SEQ_STATUS_STATE fun f hf => by
    simp only [List.mem_cons, List.not_mem_nil, or_false] at hf
    rcases hf with rfl | rfl <;> exact Or.inl (by decide)

theorem State.levelEnd_sticky (level : Nat) {n : Nat} (hn : n < 512) : (s.levelEnd level).sticky n = s.sticky n := by
  have hne : Reg.PWR_STATUS ≠ Reg.EVT_STICKY (n / 32) := by simp only [Reg.PWR_STATUS, Reg.EVT_STICKY]; omega
  exact (State.sticky_setFlag_other _ _ hne).trans (State.sticky_setFld_other _ _ hne)

end

/-- Settles O15: each event ends the change at the level that stands. -/
theorem voltageAndThrottle : Obligations.VoltageAndThrottle := by
  intro s hseq
  refine ⟨fun old hold hlevel => ?_, fun old hold hlt hlevel => ?_, fun hthrottle => ?_⟩
  · have hexec : exec .voltageInForce s = .next (s.levelEnd s.pwr.vsel).stallAgain :=
      congrArg Host.Outcome.next (if_pos (Option.isSome_iff_exists.2 ⟨old, hold⟩))
    obtain ⟨hpwr, hfld, hbusy⟩ := s.levelEnd_spec hlevel
    refine .of_eq hexec (State.stallAgain_of_not_stalled (by rwa [s.levelEnd_seqState])) ?_
    exact ⟨congrArg PowerSt.oldLevel hpwr, hfld, hbusy, congrArg PowerSt.divider hpwr, s.levelEnd_frame _⟩
  · have hseq' : (s.raiseBit Fld.PWR_STATUS_VTMO 481).seqState = s.seqState :=
      State.fld_raiseBit_sep s (by decide) (by decide) (by decide)
    have hvsel : (s.raiseBit Fld.PWR_STATUS_VTMO 481).pwr.vsel = s.pwr.vsel := by
      have hcore : (s.raiseBit Fld.PWR_STATUS_VTMO 481).core = s.core :=
        ((OnlyEv.refl [Fld.PWR_STATUS_VTMO] s).raiseBit _ _ rfl (by simp) (by decide)).1
      exact (congrArg (fun t : State => t.pwr.vsel) hcore :)
    obtain ⟨hvtmo, hsticky⟩ := s.raiseBit_spec (f := Fld.PWR_STATUS_VTMO) (n := 481) (by decide) (by decide) rfl rfl
    have hexec : exec .voltageTimeout s =
        .next ((s.raiseBit Fld.PWR_STATUS_VTMO 481).levelEnd (if old < s.pwr.vsel then s.pwr.vsel else old)).stallAgain := by
      have hmeaning : exec .voltageTimeout s = .next ((if old < (s.raiseBit Fld.PWR_STATUS_VTMO 481).pwr.vsel then
          (s.raiseBit Fld.PWR_STATUS_VTMO 481).levelEnd (s.raiseBit Fld.PWR_STATUS_VTMO 481).pwr.vsel
          else (s.raiseBit Fld.PWR_STATUS_VTMO 481).levelEnd old)).stallAgain := by
        change execVoltageTimeout s = _
        rw [execVoltageTimeout, hold]
      rw [hmeaning, hvsel]
      split <;> rfl
    have hlevel' : (if old < s.pwr.vsel then s.pwr.vsel else old) < 4 := by split <;> assumption
    generalize s.raiseBit Fld.PWR_STATUS_VTMO 481 = u at hseq' hvtmo hsticky hexec
    generalize (if old < s.pwr.vsel then s.pwr.vsel else old) = level at hexec hlevel' ⊢
    obtain ⟨hpwr, hfld, hbusy⟩ := u.levelEnd_spec hlevel'
    refine .of_eq hexec (State.stallAgain_of_not_stalled (by rwa [u.levelEnd_seqState, hseq'])) ?_
    refine ⟨?_, (u.levelEnd_sticky _ (by decide)).trans hsticky, congrArg PowerSt.oldLevel hpwr, congrArg PowerSt.vsel hpwr, hfld, hbusy,
      congrArg PowerSt.divider hpwr⟩
    rw [State.levelEnd, State.flag_setFlag_sep _ _ (by decide), State.levelInForce, State.flag_setFld_sep _ _ (by decide)]
    exact hvtmo
  · refine .of_eq (congrArg Host.Outcome.next (if_pos hthrottle)) (State.stallAgain_of_not_stalled hseq) rfl

end Sys2Proof.Machine


/-! PROOFS.  Where the domains stand in a device state, and the exit from it (R522 to R526). -/

namespace Sys2Proof.Machine

/-! ## Entry into a device state (R522) -/

section
variable (s : State) (st : Nat)

/-- One domain put where R522 puts it. -/
def State.putStanding (s : State) (st d : Nat) : State :=
  match s.standing st d with
  | some x => (s.setFld (Fld.PWR_DSTAT_STATE d) x).when (x == 3) (fun s => s.stackOff d)
  | none => s

theorem State.enterStanding_eq : s.enterStanding st = (List.range 88).foldl (fun s d => s.putStanding st d) s := rfl

/-- A register apart from the domain's and the stack's. -/
theorem State.reg_putStanding {d a : Nat} (ha : a ≠ Reg.PWR_DSTAT d) (hstack : a ≠ Reg.HBM_STATUS) : (s.putStanding st d).reg a = s.reg a := by
  have hoff (t : State) : (t.stackOff d).reg a = t.reg a := by
    unfold State.stackOff State.when
    split
    · exact State.reg_setFlag_other t _ _ _ hstack
    · rfl
  unfold State.putStanding
  split
  · unfold State.when
    split
    · exact (hoff _).trans (State.reg_setFld_other s _ _ _ ha)
    · exact State.reg_setFld_other s _ _ _ ha
  · rfl

theorem State.standing_lt {d x : Nat} (h : s.standing st d = some x) : x < 8 := by
  revert h
  unfold State.standing
  repeat' split
  all_goals rintro ⟨⟩
  all_goals decide

/-- The domain stands where R522 puts it. -/
theorem State.domState_putStanding {d : Nat} (hd : d < 88) : (s.putStanding st d).domState d = (s.standing st d).getD (s.domState d) := by
  unfold State.putStanding
  cases h : s.standing st d with
  | none => rfl
  | some x =>
    have hset : (s.setFld (Fld.PWR_DSTAT_STATE d) x).domState d = x :=
      (State.fld_setFld_same _ _ _ rfl).trans (Nat.mod_eq_of_lt (s.standing_lt st h))
    have hne : Reg.PWR_DSTAT d ≠ Reg.HBM_STATUS := by simp only [Reg.PWR_DSTAT, Reg.HBM_STATUS]; omega
    unfold State.when State.stackOff State.when
    dsimp only
    split
    · split
      · exact (State.fld_of_reg (f := Fld.PWR_DSTAT_STATE d) (State.reg_setFlag_other _ _ _ _ hne)).trans hset
      · exact hset
    · exact hset

/-- Where a domain stands depends on MAPPED alone. -/
theorem State.standing_congr {s t : State} (d : Nat) (h : t.reg (Reg.ARR_STATUS d) = s.reg (Reg.ARR_STATUS d)) :
    t.standing st d = s.standing st d := by
  have hflag : t.flag (Fld.ARR_STATUS_MAPPED d) = s.flag (Fld.ARR_STATUS_MAPPED d) := State.flag_of_reg h
  unfold State.standing
  rw [hflag]

theorem State.reg_enterStanding {a : Nat} (ha : ∀ d < 88, a ≠ Reg.PWR_DSTAT d) (hstack : a ≠ Reg.HBM_STATUS) :
    (s.enterStanding st).reg a = s.reg a :=
  foldl_keeps (fun t => t.reg a) _ _ s fun t d hd => t.reg_putStanding st (ha d (List.mem_range.1 hd)) hstack

theorem State.domState_enterStanding {d : Nat} (hd : d < 88) :
    (s.enterStanding st).domState d = (s.standing st d).getD (s.domState d) := by
  have hstanding {t : State} {e : Nat} (he : e < 88) (ht : t.standing st d = s.standing st d) :
      (t.putStanding st e).standing st d = s.standing st d :=
    (State.standing_congr st d (t.reg_putStanding st (by simp only [Reg.ARR_STATUS, Reg.PWR_DSTAT]; omega)
      (by simp only [Reg.ARR_STATUS, Reg.HBM_STATUS]; omega))).trans ht
  have hother {t : State} {e : Nat} (hne : e ≠ d) : (t.putStanding st e).domState d = t.domState d :=
    State.fld_of_reg (f := Fld.PWR_DSTAT_STATE d) (t.reg_putStanding st (by simp only [Reg.PWR_DSTAT]; omega)
      (by simp only [Reg.PWR_DSTAT, Reg.HBM_STATUS]; omega))
  refine foldl_reaches (g := fun (t : State) e => t.putStanding st e)
    (Q := fun t : State => t.standing st d = s.standing st d ∧ (s.standing st d = none → t.domState d = s.domState d))
    (P := fun t : State => t.domState d = (s.standing st d).getD (s.domState d)) (List.mem_range.2 hd)
    (fun t e he ht => ⟨hstanding (List.mem_range.1 he) ht.1, fun hnone => ?_⟩) (fun t ht => ?_) (fun t e _ hne ht => (hother hne).trans ht) ⟨rfl, fun _ => rfl⟩
  · by_cases hne : e = d
    · subst hne
      rw [State.domState_putStanding _ st hd, ht.1, hnone, Option.getD_none]
      exact ht.2 hnone
    · exact (hother hne).trans (ht.2 hnone)
  · rw [State.domState_putStanding _ st hd, ht.1]
    cases hx : s.standing st d with
    | none => exact ht.2 hx
    | some x => rfl

theorem State.enterStanding_clock : (s.enterStanding st).clock = s.clock := by
  refine foldl_keeps State.clock _ _ s fun t d _ => ?_
  split
  · unfold State.when State.stackOff State.when
    split
    · split <;> rfl
    · rfl
  · rfl

/-- Entry into a device state: the domains, the state, and the gate of the step clock. -/
theorem State.entered_spec (hst : st < 8) :
    (s.entered st).devState = st ∧ (s.entered st).flag Fld.PWR_CMD_STAT_PENDING = false ∧ (s.entered st).pwr.gated = true ∧
      (∀ d < 88, (s.entered st).domState d = (s.enterStanding st).domState d) ∧ (st = 4 → (s.entered st).clock.rpllOn = false) ∧
      (st ≠ 4 → (s.entered st).clock = s.clock) ∧ (s.entered st).count = s.count := by
  have hclock := s.enterStanding_clock st
  unfold State.entered
  generalize s.enterStanding st = t at hclock ⊢
  have hcount : t.count = s.count := by rw [State.count, hclock, State.count]
  have hdev : ((t.setFld Fld.PWR_STATUS_STATE st).setFlag Fld.PWR_CMD_STAT_PENDING false).devState = st :=
    (State.fld_setFlag_sep _ _ (by decide)).trans ((State.fld_setFld_same _ _ _ rfl).trans (Nat.mod_eq_of_lt hst))
  have hpending : ((t.setFld Fld.PWR_STATUS_STATE st).setFlag Fld.PWR_CMD_STAT_PENDING false).flag Fld.PWR_CMD_STAT_PENDING = false :=
    State.flag_setFlag_same _ _ _ rfl rfl
  have hdom (d : Nat) (hd : d < 88) : ((t.setFld Fld.PWR_STATUS_STATE st).setFlag Fld.PWR_CMD_STAT_PENDING false).domState d = t.domState d := by
    have hne : Reg.PWR_DSTAT d ≠ Reg.PWR_CMD_STAT ∧ Reg.PWR_DSTAT d ≠ Reg.PWR_STATUS := by
      simp only [Reg.PWR_DSTAT, Reg.PWR_CMD_STAT, Reg.PWR_STATUS]
      omega
    exact State.fld_of_reg (f := Fld.PWR_DSTAT_STATE d)
      ((State.reg_setFlag_other _ _ _ _ hne.1).trans (State.reg_setFld_other t _ _ _ hne.2))
  dsimp only
  generalize hu : (t.setFld Fld.PWR_STATUS_STATE st).setFlag Fld.PWR_CMD_STAT_PENDING false = u at hdev hpending hdom ⊢
  have hcu : u.clock = t.clock := by rw [← hu]; rfl
  split
  next h4 =>
    have hoff (a : Nat) (ha : a ≠ Reg.CLK_STATUS) (x : State) : (x.setFlag Fld.CLK_STATUS_LOCK false).reg a = x.reg a :=
      x.reg_setFlag_other _ _ _ ha
    refine ⟨(State.fld_of_reg (f := Fld.PWR_STATUS_STATE) (hoff _ (by decide) _)).trans hdev,
      (State.flag_of_reg (f := Fld.PWR_CMD_STAT_PENDING) (hoff _ (by decide) _)).trans hpending, rfl, fun d hd => ?_, fun _ => rfl,
      fun h => absurd h4 h, ?_⟩
    · exact (State.fld_of_reg (f := Fld.PWR_DSTAT_STATE d) (hoff _ (by simp only [Reg.PWR_DSTAT, Reg.CLK_STATUS]; omega) _)).trans (hdom d hd)
    · exact (congrArg (fun c : ClockSt => c.rootCnt / 4 % 2 ^ 64) hcu).trans hcount
  next h4 =>
    exact ⟨hdev, hpending, rfl, hdom, fun h => absurd h h4, fun _ => hcu.trans hclock,
      (congrArg (fun c : ClockSt => c.rootCnt / 4 % 2 ^ 64) hcu).trans hcount⟩

end

/-- The state table of R522, domain by domain. -/
theorem State.standing_table (s : State) {st : Nat} (hlow : 2 ≤ st) (hhigh : st ≤ 4) :
    (∀ d < 34, (s.standing st d).getD (s.domState d) =
      if s.flag (Fld.ARR_STATUS_MAPPED d) then (if st = 2 then 5 else if st = 3 then 6 else 3) else 3) ∧
    (∀ d, (34 ≤ d ∧ d < 58) ∨ (60 ≤ d ∧ d < 64) ∨ d = 66 ∨ d = 67 ∨ (70 ≤ d ∧ d ≤ 72) ∨ (75 ≤ d ∧ d ≤ 77) ∨ (80 ≤ d ∧ d < 88) →
      (s.standing st d).getD (s.domState d) = 3) ∧
    (∀ d, d = 58 ∨ d = 59 ∨ d = 64 ∨ d = 65 → (s.standing st d).getD (s.domState d) = if st = 2 then 0 else 3) ∧
    (∀ d, d = 68 ∨ d = 69 → (s.standing st d).getD (s.domState d) = if st = 2 then 5 else 3) ∧
    (∀ d, d = 73 ∨ d = 74 → (s.standing st d).getD (s.domState d) = if st = 2 then s.domState d else 3) ∧
    (∀ d, d = 78 ∨ d = 79 → (s.standing st d).getD (s.domState d) = if st = 2 then 5 else if st = 3 then 6 else 3) := by
  have hcases : st = 2 ∨ st = 3 ∨ st = 4 := by omega
  refine ⟨fun d hd => ?_, fun d hd => ?_, fun d hd => ?_, fun d hd => ?_, fun d hd => ?_, fun d hd => ?_⟩
  · rcases hcases with rfl | rfl | rfl
    · simp only [State.standing, hd]
      cases s.flag (Fld.ARR_STATUS_MAPPED d) <;> rfl
    · simp only [State.standing, hd]
      cases s.flag (Fld.ARR_STATUS_MAPPED d) <;> rfl
    · simp [State.standing]
  · have h1 : ¬ d < 34 := by omega
    have h2 : ¬ (d = 58 ∨ d = 59 ∨ d = 64 ∨ d = 65) := by omega
    have h3 : ¬ (d = 68 ∨ d = 69) := by omega
    have h4 : ¬ (d = 73 ∨ d = 74) := by omega
    have h5 : ¬ (d = 78 ∨ d = 79) := by omega
    rcases hcases with rfl | rfl | rfl <;> simp only [State.standing, if_neg h1, if_neg h2, if_neg h3, if_neg h4, if_neg h5] <;> rfl
  · rcases hcases with rfl | rfl | rfl <;> rcases hd with rfl | rfl | rfl | rfl <;> rfl
  · rcases hcases with rfl | rfl | rfl <;> rcases hd with rfl | rfl <;> rfl
  · rcases hcases with rfl | rfl | rfl <;> rcases hd with rfl | rfl <;> rfl
  · rcases hcases with rfl | rfl | rfl <;> rcases hd with rfl | rfl <;> rfl

end Sys2Proof.Machine


/-! PROOFS.  The exit from a device state (R513, R516, R525, R526). -/

namespace Sys2Proof.Machine

/-! ## Registers reset -/

section
variable (s : State) (p : Nat → Bool)

/-- A reset of registers changes the register file alone. -/
theorem State.resetRegsOf_parts : s.resetRegsOf p = { s with regs := (s.resetRegsOf p).regs } := by
  refine List.foldlRecOn (motive := fun t : State => t = { s with regs := t.regs }) _ _ rfl fun t ht a _ => ?_
  have hset (v : Word32) : t.setReg a v = { s with regs := (t.setReg a v).regs } := by rw [ht]; rfl
  split
  · split
    · exact hset _
    · split
      · exact hset _
      · exact hset _
  · exact ht

/-- A register that is not reset stays. -/
theorem State.reg_resetRegsOf {a : Nat} (h : p a = false) : (s.resetRegsOf p).reg a = s.reg a := by
  refine foldl_keeps (fun t => t.reg a) _ _ s fun t b _ => ?_
  split
  next hb =>
    have hne : a ≠ b := fun e => by rw [e, hb] at h; exact Bool.noConfusion h
    split
    · exact State.reg_setReg_other _ _ hne
    · split
      · exact State.reg_setReg_other _ _ hne
      · exact State.reg_setReg_other _ _ hne
  next => rfl

end

/-! ## The exit from OFF (R526) -/

/-- What is left of a state as the device leaves OFF, its registers reset. -/
def State.fromOff (s : State) : State :=
  { State.reset with
    pending := s.pending, regs := s.regs, out := s.out, freeIdx := s.freeIdx,
    clock := { s.clock with rpllOn := true, cfgErr := false, bootStop := false, everLocked := false },
    pwr := { s.pwr with source := 4, exitSrc := 5, exitIdx := 0 },
    host := { HostSt.reset with lastNum := s.host.lastNum },
    lib := { LibrarianSt.reset with c1Held := !s.flag Fld.LIB_CTRL_C1_RUN },
    sec := { SecSt.reset with therm := s.sec.therm },
    iob := { IobSt.reset with ball := s.iob.ball, tapIr := s.iob.tapIr, tapBlocked := s.iob.tapBlocked, cells := s.iob.cells } }

/-- The device leaving, before its links are configured. -/
def State.leaving (s : State) : State :=
  ((s.fromOff).setFld Fld.LDR_XSPI_ROLE (min (s.fld Fld.DEV_STRAPS_BOOTSEL % 4) 2)).setFld Fld.PWR_STATUS_STATE 6

theorem State.leaveOff_eq (s : State) :
    s.leaveOff = (((s.resetRegsOf (fun a => !keptInOff a)).leaving.mirrorConfig).startCause 0 0).setPhase 1 := rfl

section
variable (s : State)

/-- The configuration of the links, the cause of core 0's start and the loader's phase. -/
theorem State.leaving_ends :
    ((s.leaving.mirrorConfig.startCause 0 0).setPhase 1).devState = 6 ∧
      ((s.leaving.mirrorConfig.startCause 0 0).setPhase 1).count = s.count ∧
      ((s.leaving.mirrorConfig.startCause 0 0).setPhase 1).fld Fld.LIB_RST_CAUSE_C0 = 0 ∧
      Sparse.get 0 ((s.leaving.mirrorConfig.startCause 0 0).setPhase 1).lib.entry 0 = 0 ∧
      ((s.leaving.mirrorConfig.startCause 0 0).setPhase 1).pwr.exitSrc = 5 ∧
      ((s.leaving.mirrorConfig.startCause 0 0).setPhase 1).pwr.source = 4 ∧
      ((s.leaving.mirrorConfig.startCause 0 0).setPhase 1).reg Reg.DEV_STRAPS = s.reg Reg.DEV_STRAPS ∧
      ((s.leaving.mirrorConfig.startCause 0 0).setPhase 1).sec.therm = s.sec.therm ∧
      ((s.leaving.mirrorConfig.startCause 0 0).setPhase 1).pending = s.pending := by
  have hdev : s.leaving.devState = 6 := State.fld_setFld_same _ _ _ rfl
  have hstraps : s.leaving.reg Reg.DEV_STRAPS = s.reg Reg.DEV_STRAPS :=
    (State.reg_setFld_other _ _ _ _ (by decide)).trans (State.reg_setFld_other s.fromOff _ _ _ (by decide))
  obtain ⟨hwrites, hrest, -, hexit⟩ := s.leaving.mirrorConfig_calm
  obtain ⟨hdev', hpwr⟩ := hexit (Or.inr (Or.inr hdev))
  have hstraps' := hwrites.reg_eq (a := Reg.DEV_STRAPS) (by decide) (by decide)
  have hclock := hwrites.1
  generalize s.leaving.mirrorConfig = u at hrest hdev' hpwr hstraps' hclock
  have hreg {a : Nat} (hlib : a ≠ Reg.LIB_RST_CAUSE) (hldr : a ≠ Reg.LDR_STATUS) : ((u.startCause 0 0).setPhase 1).reg a = u.reg a :=
    (State.reg_setFld_other _ _ _ _ hldr).trans (State.reg_setFld_other u _ _ _ hlib)
  refine ⟨?_, ?_, ?_, ?_, ?_, ?_, ?_, ?_, ?_⟩
  · exact (State.fld_of_reg (f := Fld.PWR_STATUS_STATE) (hreg (by decide) (by decide))).trans (hdev'.trans hdev)
  · exact (congrArg (fun c : ClockSt => c.rootCnt / 4 % 2 ^ 64) hclock).trans rfl
  · exact (State.fld_setPhase _ _ (by decide)).trans (State.fld_setFld_same _ _ _ rfl)
  · exact congrArg (fun x => Sparse.get 0 x.2.2.2 0) hrest
  · exact congrArg PowerSt.exitSrc hpwr
  · exact congrArg PowerSt.source hpwr
  · exact ((hreg (by decide) (by decide)).trans hstraps').trans hstraps
  · exact congrArg (fun x => x.2.1.therm) hrest
  · exact congrArg (fun x => x.2.2.1) hrest

end

theorem leaveOff_spec (s : State) :
    s.leaveOff.devState = 6 ∧ s.leaveOff.count = s.count ∧ s.leaveOff.fld Fld.LIB_RST_CAUSE_C0 = 0 ∧ Sparse.get 0 s.leaveOff.lib.entry 0 = 0 ∧
      s.leaveOff.pwr.exitSrc = 5 ∧ s.leaveOff.pwr.source = 4 ∧ s.leaveOff.reg Reg.DEV_STRAPS = s.reg Reg.DEV_STRAPS ∧
      s.leaveOff.sec.therm = s.sec.therm ∧ s.leaveOff.pending = s.pending := by
  have hparts := s.resetRegsOf_parts (fun a => !keptInOff a)
  have hstraps := s.reg_resetRegsOf (fun a => !keptInOff a) (a := Reg.DEV_STRAPS) (by decide)
  rw [s.leaveOff_eq]
  generalize s.resetRegsOf (fun a => !keptInOff a) = u at hparts hstraps ⊢
  obtain ⟨hdev, hcount, hcause, hentry, hsrc, hfrom, hreg, htherm, hpending⟩ := u.leaving_ends
  refine ⟨hdev, hcount.trans ?_, hcause, hentry, hsrc, hfrom, hreg.trans hstraps, htherm.trans ?_, hpending.trans ?_⟩
  · rw [hparts]
    rfl
  · rw [hparts]
  · rw [hparts]

/-! ## The return to RUN (R512, R516, R525) -/

/-- From `s` to `t` the exit that is under way, the requests held and what shuts down after it stay as far as they concern others, and so
do the registers of the power manager apart from one domain's. -/
structure StandKept (d : Nat) (s t : State) : Prop where
  exit : t.pwr.exitSrc = s.pwr.exitSrc ∧ t.pwr.exitIdx = s.pwr.exitIdx ∧ t.pwr.source = s.pwr.source
  held : s.pwr.held = [] → t.pwr.held = []
  shut : ∀ x ∈ t.pwr.shutAfter, x ∈ s.pwr.shutAfter
  regs : ∀ a, a < 0x1000000 → a ≠ Reg.PWR_DSTAT d → t.reg a = s.reg a

section
variable {s t u : State} {d : Nat}

theorem StandKept.refl (d : Nat) (s : State) : StandKept d s s := ⟨⟨rfl, rfl, rfl⟩, id, fun _ h => h, fun _ _ _ => rfl⟩

theorem StandKept.trans (h : StandKept d s t) (h' : StandKept d t u) : StandKept d s u := by
  obtain ⟨⟨hsrc, hidx, hfrom⟩, hheld, hshut, hregs⟩ := h
  obtain ⟨⟨hsrc', hidx', hfrom'⟩, hheld', hshut', hregs'⟩ := h'
  exact ⟨⟨hsrc'.trans hsrc, hidx'.trans hidx, hfrom'.trans hfrom⟩, fun h => hheld' (hheld h), fun x hx => hshut x (hshut' x hx),
    fun a ha hne => (hregs' a ha hne).trans (hregs a ha hne)⟩

/-- What leaves the power manager's part of the state. -/
theorem StandKept.of_regs (hpwr : t.pwr = s.pwr) (hregs : ∀ a, a < 0x1000000 → a ≠ Reg.PWR_DSTAT d → t.reg a = s.reg a) :
    StandKept d s t := by
  refine ⟨?_, fun h => ?_, fun x hx => ?_, hregs⟩
  · rw [hpwr]
    exact ⟨rfl, rfl, rfl⟩
  · rw [hpwr]
    exact h
  · rwa [hpwr] at hx

theorem StandKept.setReg (h : StandKept d s t) {a : Nat} (v : Word32) (ha : a = Reg.PWR_DSTAT d ∨ 0x1000000 ≤ a) :
    StandKept d s (t.setReg a v) :=
  h.trans (.of_regs rfl fun b hb hne => State.reg_setReg_other _ _ (by rcases ha with rfl | ha; exacts [hne, by omega]))

theorem StandKept.foldl {α : Type} (g : State → α → State) (l : List α) (hg : ∀ t, ∀ x ∈ l, StandKept d t (g t x)) (h : StandKept d s t) :
    StandKept d s (l.foldl g t) :=
  List.foldlRecOn l g h fun u hu x hx => hu.trans (hg u x hx)

theorem StandKept.fence (h : StandKept d s t) (on : Bool) : StandKept d s (t.fence d on) :=
  .foldl _ _ (fun u n _ => (StandKept.refl d u).setReg _ (Or.inr (by simp only [Reg.RZ_NODE_STAT]; omega))) h

theorem State.domState_setFld_same (s : State) (d : Nat) {x : Nat} (hx : x < 8) :
    (s.setFld (Fld.PWR_DSTAT_STATE d) x).domState d = x := (State.fld_setFld_same _ _ _ rfl).trans (Nat.mod_eq_of_lt hx)

theorem State.fence_domState (s : State) {d : Nat} (hd : d < 88) (on : Bool) : (s.fence d on).domState d = s.domState d := by
  have hreg : (s.fence d on).reg (Reg.PWR_DSTAT d) = s.reg (Reg.PWR_DSTAT d) :=
    foldl_keeps (fun t => t.reg (Reg.PWR_DSTAT d)) _ _ s fun t n _ => State.reg_setFlag_other _ _ _ _ (by
      simp only [Reg.PWR_DSTAT, Reg.RZ_NODE_STAT]; omega)
  exact State.fld_of_reg (f := Fld.PWR_DSTAT_STATE d) hreg

theorem State.fence_pwr (s : State) (d : Nat) (on : Bool) : (s.fence d on).pwr = s.pwr := foldl_keeps State.pwr _ _ s fun _ _ _ => rfl

/-- A domain that returns to RUN. -/
theorem StandKept.toRun (h : StandKept d s t) : StandKept d s (t.toRun d) := by
  have hrun : StandKept d s ((t.setFld (Fld.PWR_DSTAT_STATE d) 0).fence d false) := (h.setReg _ (Or.inl rfl)).fence false
  have hshut {u : State} : StandKept d u { u with pwr := { u.pwr with shutAfter := u.pwr.shutAfter.filter (fun x => x != d) } } :=
    ⟨⟨rfl, rfl, rfl⟩, id, fun x hx => (List.mem_filter.1 hx).1, fun _ _ _ => rfl⟩
  have hdown {u : State} : StandKept d u (u.startShutdown d) := by
    unfold State.startShutdown
    split
    · exact ((StandKept.refl d u).setReg _ (Or.inl rfl)).fence true
    · exact .refl d u
  unfold State.toRun
  dsimp only
  split
  · exact (hrun.trans hshut).trans hdown
  · exact hrun.trans hshut

/-- A domain that is not to shut down after its wake stands in RUN. -/
theorem State.toRun_domState (s : State) (hd : d < 88) (h : d ∉ s.pwr.shutAfter) : (s.toRun d).domState d = 0 := by
  have hrun : ((s.setFld (Fld.PWR_DSTAT_STATE d) 0).fence d false).domState d = 0 :=
    (State.fence_domState _ hd _).trans (State.domState_setFld_same _ _ (by decide))
  have hpwr : ((s.setFld (Fld.PWR_DSTAT_STATE d) 0).fence d false).pwr = s.pwr := State.fence_pwr _ _ _
  unfold State.toRun
  dsimp only
  rw [if_neg]
  · exact hrun
  · rw [hpwr, Bool.and_eq_true, List.contains_iff_mem]
    exact fun hmem => h hmem.1

/-- Where no request is held, none is delivered. -/
theorem State.deliverAll_of_none (s : State) (d : Nat) (h : s.pwr.held = []) :
    s.deliverAll d = ((s.nodesOfDomain d).foldl (fun s n => s.setFlag (Fld.RZ_NODE_STAT_HOLDING n) false)
      ((({ s with pwr := { s.pwr with held := [] } } : State)).setFlag (Fld.PWR_DSTAT_HELD d) false)) := by
  have hnodes : ({ s with pwr := { s.pwr with held := [] } } : State).nodesOfDomain d = s.nodesOfDomain d := rfl
  rw [State.deliverAll, h]
  exact congrArg (fun l => List.foldl _ _ l) hnodes

theorem StandKept.deliverAll (h : StandKept d s t) (hheld : s.pwr.held = []) : StandKept d s (t.deliverAll d) := by
  have hnone := h.held hheld
  rw [State.deliverAll_of_none _ _ hnone]
  have hclear : StandKept d t { t with pwr := { t.pwr with held := [] } } :=
    ⟨⟨rfl, rfl, rfl⟩, fun _ => rfl, fun _ hx => hx, fun _ _ _ => rfl⟩
  exact .foldl _ _ (fun u n _ => (StandKept.refl d u).setReg _ (Or.inr (by simp only [Reg.RZ_NODE_STAT]; omega)))
    ((h.trans hclear).setReg _ (Or.inl rfl))

theorem State.deliverAll_domState (s : State) (hd : d < 88) (h : s.pwr.held = []) : (s.deliverAll d).domState d = s.domState d := by
  rw [State.deliverAll_of_none _ _ h]
  have hfold (t : State) (l : List Nat) :
      (l.foldl (fun s n => s.setFlag (Fld.RZ_NODE_STAT_HOLDING n) false) t).domState d = t.domState d :=
    foldl_keeps (fun t => t.domState d) _ l t fun u n _ => State.fld_of_reg (f := Fld.PWR_DSTAT_STATE d)
      (State.reg_setFlag_other _ _ _ _ (by simp only [Reg.PWR_DSTAT, Reg.RZ_NODE_STAT]; omega))
  exact (hfold _ _).trans (State.fld_setFlag_apart { s with pwr := { s.pwr with held := [] } } _ (Fld.PWR_DSTAT_STATE d) _ rfl
    (Or.inr (Or.inr (Nat.le_succ 3))))

theorem State.clearSorus_pwr (s : State) (n : Nat) : (s.clearSorus n).pwr = s.pwr := by
  unfold State.clearSorus
  dsimp only
  rw [State.setFlag_pwr]

/-- A domain's reset and the initialising of its memories (R513). -/
theorem StandKept.initDomain (h : StandKept d s t) : StandKept d s (t.initDomain d) := by
  have hreset : StandKept d t (t.resetRegsOf (fun a => domainOfAddr a == some d && !keptReg a)) := by
    refine .of_regs ?_ fun a ha _ => State.reg_resetRegsOf _ _ ?_
    · rw [State.resetRegsOf_parts]
    · have hnone : domainOfAddr a = none := by
        unfold domainOfAddr
        by_cases h1 : a < 0x100000
        · exact if_pos h1
        · rw [if_neg h1]
          by_cases h2 : a < 0x400000
          · exact if_pos h2
          · rw [if_neg h2, if_pos ha]
      rw [hnone]
      rfl
  unfold State.initDomain
  extract_lets s1
  change StandKept d t s1 at hreset
  clear_value s1
  refine (h.trans hreset).trans ?_
  split
  · exact .of_regs (s1.clearSorus_pwr d) fun a ha _ => State.reg_clearSorus s1 d (Nat.lt_trans ha (by decide))
  · split
    · exact .of_regs rfl fun _ _ _ => rfl
    · split
      · exact .of_regs rfl fun _ _ _ => rfl
      · exact .refl d s1

theorem StandKept.wakeDone (h : StandKept d s t) (hheld : s.pwr.held = []) : StandKept d s (t.wakeDone d) :=
  h.initDomain.toRun.deliverAll hheld

/-- A domain takes its standing in RUN. -/
theorem State.standUp_stands (s : State) (d : Nat) (hheld : s.pwr.held = []) : StandKept d s (s.standUp d) := by
  unfold State.standUp
  split
  · split
    · exact StandKept.wakeDone (((StandKept.refl d s).setReg (a := Reg.PWR_DSTAT d) _ (Or.inl rfl)).setReg (a := Reg.PWR_DSTAT d) _
        (Or.inl rfl)) hheld
    · exact .refl d s
  · exact (StandKept.refl d s).wakeDone hheld
  · exact (StandKept.refl d s).toRun.deliverAll hheld
  · exact (StandKept.refl d s).toRun.deliverAll hheld
  · exact .refl d s

/-- A domain whose clocks were stopped stands in RUN, where no shutdown waits for its wake. -/
theorem State.standUp_domState (s : State) (hd : d < 88) (hheld : s.pwr.held = []) (hstopped : s.domState d = 5 ∨ s.domState d = 6)
    (hshut : d ∉ s.pwr.shutAfter) : (s.standUp d).domState d = 0 := by
  have hstand : s.standUp d = (s.toRun d).deliverAll d := by
    unfold State.standUp
    rcases hstopped with h | h <;> rw [h] <;> rfl
  rw [hstand, State.deliverAll_domState _ hd ((StandKept.refl d s).toRun.held hheld)]
  exact s.toRun_domState hd hshut

end

/-- What every domain's return to RUN keeps. -/
structure RunKept (s t : State) : Prop where
  exit : t.pwr.exitSrc = s.pwr.exitSrc ∧ t.pwr.exitIdx = s.pwr.exitIdx ∧ t.pwr.source = s.pwr.source
  held : t.pwr.held = []
  shut : ∀ x ∈ t.pwr.shutAfter, x ∈ s.pwr.shutAfter

theorem State.standUps_kept (s t : State) (l : List Nat) (h : RunKept s t) : RunKept s (l.foldl State.standUp t) := by
  refine List.foldlRecOn (motive := RunKept s) l _ h fun u hu d _ => ?_
  obtain ⟨⟨hsrc, hidx, hfrom⟩, hheld, hshut⟩ := hu
  obtain ⟨⟨hsrc', hidx', hfrom'⟩, hheld', hshut', -⟩ := u.standUp_stands d hheld
  exact ⟨⟨hsrc'.trans hsrc, hidx'.trans hidx, hfrom'.trans hfrom⟩, hheld' hheld, fun x hx => hshut x (hshut' x hx)⟩

/-- A core's domain whose clocks were stopped stands in RUN after every domain's return. -/
theorem State.standUps_core (s : State) {d : Nat} (hd : d = 78 ∨ d = 79) (hheld : s.pwr.held = [])
    (hstopped : s.domState d = 5 ∨ s.domState d = 6) (hshut : d ∉ s.pwr.shutAfter) : (exitOrder.foldl State.standUp s).domState d = 0 := by
  have hother {t : State} {e : Nat} (hne : e ≠ d) (ht : t.pwr.held = []) : (t.standUp e).domState d = t.domState d :=
    State.fld_of_reg (f := Fld.PWR_DSTAT_STATE d) ((t.standUp_stands e ht).regs _ (by simp only [Reg.PWR_DSTAT]; omega)
      (by simp only [Reg.PWR_DSTAT]; omega))
  have hrest {t : State} (ht : RunKept s t) :
      (((List.range 88).filter (fun d => d != 78 && d != 79)).foldl State.standUp t).domState d = t.domState d := by
    refine (List.foldlRecOn (motive := fun u => RunKept s u ∧ u.domState d = t.domState d) _ _ ⟨ht, rfl⟩ fun u hu e he => ?_).2
    obtain ⟨hkept, hdom⟩ := hu
    have hne : e ≠ d := by
      have := (List.mem_filter.1 he).2
      simp only [Bool.and_eq_true, bne_iff_ne] at this
      omega
    exact ⟨State.standUps_kept s u [e] hkept, (hother hne hkept.held).trans hdom⟩
  have hstart : RunKept s s := ⟨⟨rfl, rfl, rfl⟩, hheld, fun _ h => h⟩
  have h78 : RunKept s (s.standUp 78) := State.standUps_kept s s [78] hstart
  have hboth : RunKept s ((s.standUp 78).standUp 79) := State.standUps_kept s s [78, 79] hstart
  rw [exitOrder, List.foldl_cons, List.foldl_cons]
  refine (hrest hboth).trans ?_
  rcases hd with rfl | rfl
  · exact (hother (by decide) h78.held).trans (s.standUp_domState (by decide) hheld hstopped hshut)
  · have hsame : (s.standUp 78).domState 79 = s.domState 79 := hother (by decide) hheld
    exact (s.standUp 78).standUp_domState (by decide) h78.held (by rwa [hsame]) fun h => hshut (h78.shut _ h)

/-- The gate of the step clock lifted, and the level in force selected again (R528). -/
def State.ungated (s : State) : State := { s with pwr := { s.pwr with gated := false, vsel := s.fld Fld.PWR_STATUS_LEVEL } }

/-- The device state RUN, with the exit recorded in PWR_WAKE. -/
def State.wakeRecorded (s : State) (src idx source : Nat) : State :=
  ((((s.setFld Fld.PWR_STATUS_STATE 0).setFld Fld.PWR_WAKE_SRC src).setFld Fld.PWR_WAKE_IDX idx).setFld Fld.PWR_WAKE_FROM source).setFlag
    Fld.PWR_CMD_STAT_PENDING false

theorem State.deviceRuns_eq (s : State) : s.deviceRuns =
    (s.ungated.wakeRecorded s.pwr.exitSrc s.pwr.exitIdx s.pwr.source).raiseBit Fld.PWR_STATUS_WAKE 482 := rfl

theorem eventSafe_of_domain {d : Nat} (hd : d < 88) : eventSafe (wholeReg (Reg.PWR_DSTAT d)) = true := by
  have hsafe (f : Field) (hf : f.addr = Reg.PWR_DSTAT d) : eventSafe f = true := by
    simp only [Reg.PWR_DSTAT] at hf
    simp only [eventSafe, Reg.LIB_LOG_WP, Reg.LIB_LOG_DROP, Reg.LIB_STATUS, Reg.PWR_STATUS, Bool.and_eq_true, Bool.or_eq_true,
      Bool.not_eq_true', Bool.and_eq_false_iff, bne_iff_ne, decide_eq_true_eq, decide_eq_false_iff_not]
    omega
  exact hsafe _ rfl

/-- What PWR_WAKE records, and the registers that its record leaves. -/
theorem State.wakeRecorded_spec (s : State) {src idx source : Nat} (hsrc : src < 32) (hidx : idx < 512) (hfrom : source < 8) :
    (s.wakeRecorded src idx source).devState = 0 ∧ (s.wakeRecorded src idx source).fld Fld.PWR_WAKE_SRC = src ∧
      (s.wakeRecorded src idx source).fld Fld.PWR_WAKE_IDX = idx ∧ (s.wakeRecorded src idx source).fld Fld.PWR_WAKE_FROM = source ∧
      ∀ a, 0x201200 ≤ a → (s.wakeRecorded src idx source).reg a = s.reg a := by
  unfold State.wakeRecorded
  refine ⟨?_, ?_, ?_, ?_, fun a ha => ?_⟩
  · rw [State.devState, State.fld_setFlag_sep _ _ (by decide), State.fld_setFld_sep _ _ (by decide), State.fld_setFld_sep _ _ (by decide),
      State.fld_setFld_sep _ _ (by decide), State.fld_setFld_same _ _ _ rfl]
    rfl
  · rw [State.fld_setFlag_sep _ _ (by decide), State.fld_setFld_sep _ _ (by decide), State.fld_setFld_sep _ _ (by decide),
      State.fld_setFld_same _ _ _ rfl]
    exact Nat.mod_eq_of_lt hsrc
  · rw [State.fld_setFlag_sep _ _ (by decide), State.fld_setFld_sep _ _ (by decide), State.fld_setFld_same _ _ _ rfl]
    exact Nat.mod_eq_of_lt hidx
  · rw [State.fld_setFlag_sep _ _ (by decide), State.fld_setFld_same _ _ _ rfl]
    exact Nat.mod_eq_of_lt hfrom
  · have hne {b : Nat} (hb : b < 0x201200) : a ≠ b := by omega
    rw [State.reg_setFlag_other _ _ _ _ (hne (by decide)), State.reg_setFld_other _ _ _ _ (hne (by decide)),
      State.reg_setFld_other _ _ _ _ (hne (by decide)), State.reg_setFld_other _ _ _ _ (hne (by decide)),
      State.reg_setFld_other _ _ _ _ (hne (by decide))]

/-- The device is back in RUN (R525). -/
theorem State.deviceRuns_spec (s : State) (hsrc : s.pwr.exitSrc < 32) (hidx : s.pwr.exitIdx < 512) (hfrom : s.pwr.source < 5) :
    s.deviceRuns.devState = 0 ∧ s.deviceRuns.fld Fld.PWR_WAKE_SRC = s.pwr.exitSrc ∧ s.deviceRuns.fld Fld.PWR_WAKE_IDX = s.pwr.exitIdx ∧
      s.deviceRuns.fld Fld.PWR_WAKE_FROM = s.pwr.source ∧ s.deviceRuns.flag Fld.PWR_STATUS_WAKE = true ∧ s.deviceRuns.sticky 482 = true ∧
      s.deviceRuns.pwr.gated = false ∧ ∀ d < 88, s.deviceRuns.domState d = s.domState d := by
  obtain ⟨hdev, hsrc', hidx', hfrom', hregs⟩ := s.ungated.wakeRecorded_spec hsrc hidx (Nat.lt_trans hfrom (by decide))
  have hgated : (s.ungated.wakeRecorded s.pwr.exitSrc s.pwr.exitIdx s.pwr.source).pwr.gated = false := rfl
  rw [s.deviceRuns_eq]
  generalize s.ungated.wakeRecorded s.pwr.exitSrc s.pwr.exitIdx s.pwr.source = v at hdev hsrc' hidx' hfrom' hregs hgated ⊢
  obtain ⟨hflag, hsticky⟩ := v.raiseBit_spec (f := Fld.PWR_STATUS_WAKE) (n := 482) (by decide) (by decide) rfl rfl
  obtain ⟨hdev', hpwr⟩ := (ExitKept.refl v).raiseBit (f := Fld.PWR_STATUS_WAKE) (n := 482) (by decide) (by decide) (Or.inl hdev)
  have hkeep {f : Field} (hsafe : eventSafe f = true) (hsep : Fld.PWR_STATUS_WAKE.sep f = true) := v.fld_raiseBit_sep (n := 482) (by decide) hsafe hsep
  refine ⟨hdev'.trans hdev, (hkeep (by decide) (by decide)).trans hsrc', (hkeep (by decide) (by decide)).trans hidx',
    (hkeep (by decide) (by decide)).trans hfrom', hflag, hsticky, by rw [hpwr, hgated], fun d hd => ?_⟩
  have hdom : v.domState d = s.domState d := State.fld_of_reg (f := Fld.PWR_DSTAT_STATE d) (hregs _ (by simp only [Reg.PWR_DSTAT]; omega))
  exact (State.fld_of_reg (f := Fld.PWR_DSTAT_STATE d) (State.reg_raiseBit_other v (by decide) (eventSafe_of_domain hd)
    (by simp only [Reg.PWR_DSTAT, Reg.PWR_STATUS]; omega))).trans hdom

/-- WAKE_N where an exit source acts (R525). -/
theorem State.exitSource_wakeN {s : State} {here : Nat} (hhere : (if s.devState = 5 then s.pwr.target else s.devState) = here)
    (hlow : 1 ≤ here) (hhigh : here ≤ 3) (hdev : s.devState ≠ 6) :
    s.exitSource 5 0 true true true = { (s.setFld Fld.PWR_STATUS_STATE 6) with
      pwr := { s.pwr with source := here, target := 0, exitSrc := 5, exitIdx := 0 } } := by
  rw [State.exitSource, hhere]
  refine if_pos ?_
  obtain rfl | rfl | rfl : here = 1 ∨ here = 2 ∨ here = 3 := by omega
  all_goals simp [hdev]

/-- Settles O14: the table through one fold over the domains, the exit through each domain's return to RUN. -/
theorem stateTableAndExit : Obligations.StateTableAndExit := by
  refine ⟨fun s st hdev htarget hlow hhigh => ?_, fun s => ⟨fun ok hlow hhigh => ?_, fun ok hdev hlow hhigh => ?_, fun ok hdev hbad => ?_,
    fun hdev hcool => ?_, fun hdev hheld hsrc hidx hfrom => ?_⟩⟩
  · have hexec : exec .stateEntered s = .next (s.entered st) := by
      refine (congrArg Host.Outcome.next (if_pos hdev)).trans ?_
      rw [htarget]
    obtain ⟨hst, hpending, hgated, hdom, hoff, hon, hcount⟩ := s.entered_spec st (by omega)
    have hstand {d : Nat} (hd : d < 88) : (s.entered st).domState d = (s.standing st d).getD (s.domState d) :=
      (hdom d hd).trans (s.domState_enterStanding st hd)
    obtain ⟨h1, h2, h3, h4, h5, h6⟩ := s.standing_table hlow hhigh
    exact ⟨_, hexec, hst, hpending, hgated, fun d hd => (hstand (by omega)).trans (h1 d hd), fun d hd => (hstand (by omega)).trans (h2 d hd),
      fun d hd => (hstand (by omega)).trans (h3 d hd), fun d hd => (hstand (by omega)).trans (h4 d hd),
      fun d hd => (hstand (by omega)).trans (h5 d hd), fun d hd => (hstand (by omega)).trans (h6 d hd), hoff, hon, hcount⟩
  · have hexec : exec (.wakeN ok) s = .next (s.exitSource 5 0 true true true) := congrArg Host.Outcome.next (if_neg (by omega))
    refine .of_eq hexec (State.exitSource_wakeN (if_neg (by omega)) hlow hhigh (by omega)) ⟨?_, rfl, rfl, ?_⟩
    · exact State.fld_setFld_same s Fld.PWR_STATUS_STATE _ rfl
    · exact (Only.refl _ _).setFld Fld.PWR_STATUS_STATE _ rfl List.mem_cons_self
  · have hexec : exec (.wakeN ok) s = .next (s.exitSource 5 0 true true true) := congrArg Host.Outcome.next (if_neg (by omega))
    refine .of_eq hexec (State.exitSource_wakeN (if_pos hdev) hlow hhigh (by omega)) ⟨?_, rfl, rfl⟩
    exact State.fld_setFld_same s Fld.PWR_STATUS_STATE _ rfl
  · refine ⟨s, congrArg Host.Outcome.next ((if_pos hdev).trans (if_neg fun h => ?_)), rfl⟩
    obtain ⟨hok, hcool⟩ := (Bool.and_eq_true _ _).mp h
    rcases hbad with rfl | hhot
    · exact Bool.noConfusion hok
    · have := of_decide_eq_true hcool
      omega
  · have hexec : exec (.wakeN true) s = .next s.leaveOff :=
      congrArg Host.Outcome.next ((if_pos hdev).trans (if_pos (by rw [decide_eq_true hcool]; rfl)))
    exact ⟨_, hexec, leaveOff_spec s⟩
  · have hexec : exec .exitComplete s = .next (exitOrder.foldl State.standUp s).deviceRuns := congrArg Host.Outcome.next (if_pos hdev)
    obtain ⟨⟨hsrc', hidx', hfrom'⟩, -, -⟩ := State.standUps_kept s s exitOrder ⟨⟨rfl, rfl, rfl⟩, hheld, fun _ h => h⟩
    obtain ⟨hdev', hws, hwi, hwf, hwake, hsticky, hgated, hdom⟩ := (exitOrder.foldl State.standUp s).deviceRuns_spec
      (by rwa [hsrc']) (by rwa [hidx']) (by rwa [hfrom'])
    exact ⟨_, hexec, hdev', hws.trans hsrc', hwi.trans hidx', hwf.trans hfrom', hwake, hsticky, hgated, fun d hd hstopped hshut =>
      (hdom d (by omega)).trans (s.standUps_core hd hheld hstopped hshut)⟩

end Sys2Proof.Machine


/-! PROOFS.  The task dispatcher's own operations: readiness, queues, the delay list and takes (R472 to R477). -/

namespace Sys2Proof.Machine

/-! ## Tasks -/

/-- A task that a match takes out of the delay list (R474). -/
def Task.leaves (t : Task) : Bool :=
  match t.delay with
  | some d => d.timeout && t.active && t.matched
  | none => false

/-- A task after the readiness of every task has been looked at. -/
def Task.settled (t : Task) : Task := if t.leaves then { t with delay := none } else t

section
variable (t : Task)

@[simp] theorem Task.settled_bind : t.settled.bind = t.bind := by unfold Task.settled; split <;> rfl
@[simp] theorem Task.settled_nextBind : t.settled.nextBind = t.nextBind := by unfold Task.settled; split <;> rfl
@[simp] theorem Task.settled_active : t.settled.active = t.active := by unfold Task.settled; split <;> rfl
@[simp] theorem Task.settled_flags : t.settled.flags = t.flags := by unfold Task.settled; split <;> rfl
@[simp] theorem Task.settled_mask : t.settled.mask = t.mask := by unfold Task.settled; split <;> rfl
@[simp] theorem Task.settled_expired : t.settled.expired = t.expired := by unfold Task.settled; split <;> rfl
@[simp] theorem Task.settled_resumed : t.settled.resumed = t.resumed := by unfold Task.settled; split <;> rfl

theorem Task.settled_delay : t.settled.delay = if t.leaves then none else t.delay := by unfold Task.settled; split <;> rfl

theorem Task.settled_of_none (h : t.delay = none) : t.settled = t := by
  have hstay : t.leaves = false := by rw [Task.leaves, h]
  rw [Task.settled, hstay]
  rfl

end

section
variable (s : State) {n m : Nat}

@[simp] theorem State.task_setTask_same (t : Task) : (s.setTask n t).task n = t := Sparse.get_put_same _ _ _ _

theorem State.task_setTask_other (t : Task) (h : m ≠ n) : (s.setTask n t).task m = s.task m := Sparse.get_put_other _ _ _ _ h

theorem State.task_undelayTask_same : (s.undelayTask n).task n = { s.task n with delay := none } := Sparse.get_put_same _ _ _ _

theorem State.task_undelayTask_other (h : m ≠ n) : (s.undelayTask n).task m = s.task m := Sparse.get_put_other _ _ _ _ h

theorem State.mem_delayList_undelayTask : m ∈ (s.undelayTask n).dsp.delayList ↔ m ∈ s.dsp.delayList ∧ m ≠ n := by
  rw [State.undelayTask, List.mem_filter, bne_iff_ne]
  rfl

theorem State.timeoutMatched_eq : s.timeoutMatched n = if (s.task n).leaves then s.undelayTask n else s := by
  unfold State.timeoutMatched Task.leaves
  cases h : (s.task n).delay with
  | none => simp [h]
  | some d => simp only [h]

theorem State.task_timeoutMatched_same : (s.timeoutMatched n).task n = (s.task n).settled := by
  rw [State.timeoutMatched_eq, Task.settled]
  split
  · exact s.task_undelayTask_same
  · rfl

theorem State.task_timeoutMatched_other (h : m ≠ n) : (s.timeoutMatched n).task m = s.task m := by
  rw [State.timeoutMatched_eq]
  split
  · exact s.task_undelayTask_other h
  · rfl

theorem State.mem_delayList_timeoutMatched :
    m ∈ (s.timeoutMatched n).dsp.delayList ↔ m ∈ s.dsp.delayList ∧ ¬ (m = n ∧ (s.task n).leaves = true) := by
  rw [State.timeoutMatched_eq]
  split
  next h => rw [State.mem_delayList_undelayTask, h]; simp
  next h => simp [h]

/-- A match takes a task's place in the delay list, and nothing else. -/
theorem State.timeoutMatched_dsp : (s.timeoutMatched n).dsp =
    { s.dsp with tasks := (s.timeoutMatched n).dsp.tasks, delayList := (s.timeoutMatched n).dsp.delayList } := by
  rw [State.timeoutMatched_eq]
  split <;> rfl

end

/-! ## The readiness of every task (R473, R474, R476) -/

/-- The first `k` tasks looked at. -/
def State.matchedUpTo (s : State) (k : Nat) : State := (List.range k).foldl State.timeoutMatched s

section
variable (s : State) {m : Nat}

theorem State.matchedUpTo_succ (k : Nat) : s.matchedUpTo (k + 1) = (s.matchedUpTo k).timeoutMatched k := by
  rw [State.matchedUpTo, List.range_succ, List.foldl_append]
  rfl

theorem State.matchedUpTo_spec (k : Nat) :
    (∀ m, (s.matchedUpTo k).task m = if m < k then (s.task m).settled else s.task m) ∧
    (∀ m, m ∈ (s.matchedUpTo k).dsp.delayList ↔ m ∈ s.dsp.delayList ∧ ¬ (m < k ∧ (s.task m).leaves = true)) ∧
    (s.matchedUpTo k).dsp = { s.dsp with tasks := (s.matchedUpTo k).dsp.tasks, delayList := (s.matchedUpTo k).dsp.delayList } := by
  induction k with
  | zero => exact ⟨fun m => rfl, fun m => by simp [State.matchedUpTo], rfl⟩
  | succ k ih =>
    obtain ⟨htask, hlist, hdsp⟩ := ih
    rw [s.matchedUpTo_succ]
    refine ⟨fun m => ?_, fun m => ?_, ?_⟩
    · rcases Nat.lt_trichotomy m k with h | rfl | h
      · rw [State.task_timeoutMatched_other _ (by omega), htask, if_pos h, if_pos (by omega)]
      · rw [State.task_timeoutMatched_same, htask, if_neg (Nat.lt_irrefl m), if_pos (Nat.lt_succ_self m)]
      · rw [State.task_timeoutMatched_other _ (by omega), htask, if_neg (by omega), if_neg (by omega)]
    · rw [State.mem_delayList_timeoutMatched, hlist, htask k, if_neg (Nat.lt_irrefl k)]
      by_cases hmk : m = k
      · subst hmk
        simp
      · have hiff : m < k + 1 ↔ m < k := by omega
        simp [hmk, hiff]
    · rw [State.timeoutMatched_dsp, hdsp]

@[simp] theorem State.exitSource_dsp (src idx : Nat) (x y z : Bool) : (s.exitSource src idx x y z).dsp = s.dsp := by
  unfold State.exitSource
  extract_lets here acts
  split <;> rfl

/-- What the look at every task leaves of the dispatcher. -/
theorem State.dspSettle_dsp : s.dspSettle.dsp = { (s.matchedUpTo 64).dsp with
    queue := (s.matchedUpTo 64).dsp.queue.filter (fun n => (s.matchedUpTo 64).taskReady n) ++ taskNumbers.filter (fun n =>
      (s.matchedUpTo 64).taskReady n && !((s.matchedUpTo 64).dsp.queue.filter (fun n => (s.matchedUpTo 64).taskReady n)).contains n) } := by
  have hfold : taskNumbers.foldl State.timeoutMatched s = s.matchedUpTo 64 := by rw [State.matchedUpTo, taskNumbers]
  unfold State.dspSettle
  rw [hfold]
  generalize s.matchedUpTo 64 = u
  extract_lets s1 kept fresh dsp s2 en s3
  have h3 : s3.dsp = s2.dsp := by
    change (if s2.dispatchIrq 0 then s2.exitSource 8 0 en true false else s2).dsp = s2.dsp
    split
    · exact State.exitSource_dsp ..
    · rfl
  split
  · rw [State.exitSource_dsp, h3]
  · exact h3

/-- Readiness depends on the tasks and on what runs. -/
theorem State.taskReady_congr {s t : State} (htask : t.task m = s.task m) (hrunning : t.dsp.running = s.dsp.running) :
    t.taskReady m = s.taskReady m := by
  have hrun : t.isRunning m = s.isRunning m := by
    simp only [State.isRunning, State.runningOn, hrunning]
  rw [State.taskReady, htask, hrun, State.taskReady]

/-- Each task settled, the delay list without those that a match took out, the queues of what is ready, and the rest as it was. -/
theorem State.dspSettle_spec :
    (∀ m, s.dspSettle.task m = if m < 64 then (s.task m).settled else s.task m) ∧
    (∀ m, m ∈ s.dspSettle.dsp.delayList ↔ m ∈ s.dsp.delayList ∧ ¬ (m < 64 ∧ (s.task m).leaves = true)) ∧
    (∀ m, m ∈ s.dspSettle.dsp.queue ↔ (m ∈ s.dsp.queue ∨ m < 64) ∧ s.dspSettle.taskReady m = true) ∧
    s.dspSettle.dsp = { s.dsp with
      tasks := s.dspSettle.dsp.tasks, delayList := s.dspSettle.dsp.delayList, queue := s.dspSettle.dsp.queue } := by
  obtain ⟨htask, hlist, hdsp⟩ := s.matchedUpTo_spec 64
  have hsettle := s.dspSettle_dsp
  have htasks : s.dspSettle.dsp.tasks = (s.matchedUpTo 64).dsp.tasks := by rw [hsettle]
  have hdelays : s.dspSettle.dsp.delayList = (s.matchedUpTo 64).dsp.delayList := by rw [hsettle]
  have hrunning : s.dspSettle.dsp.running = (s.matchedUpTo 64).dsp.running := by rw [hsettle]
  have hqueue := congrArg DispatcherSt.queue hsettle
  have htask' (m : Nat) : s.dspSettle.task m = (s.matchedUpTo 64).task m := by rw [State.task, htasks, State.task]
  have hold : (s.matchedUpTo 64).dsp.queue = s.dsp.queue := by rw [hdsp]
  refine ⟨fun m => (htask' m).trans (htask m), fun m => ?_, fun m => ?_, ?_⟩
  · rw [hdelays]
    exact hlist m
  · rw [State.taskReady_congr (htask' m) hrunning, ← hold, hqueue]
    generalize s.matchedUpTo 64 = u
    simp only [taskNumbers, List.mem_append, List.mem_filter, List.mem_range, Bool.and_eq_true, Bool.not_eq_true',
      List.contains_eq_mem, decide_eq_false_iff_not]
    by_cases hq : m ∈ u.dsp.queue <;> by_cases hr : u.taskReady m = true <;> simp [hq, hr]
  · rw [hsettle, hdsp]

theorem State.dspSettle_task (m : Nat) : s.dspSettle.task m = if m < 64 then (s.task m).settled else s.task m := s.dspSettle_spec.1 m

theorem State.dspSettle_running : s.dspSettle.dsp.running = s.dsp.running := by
  rw [s.dspSettle_spec.2.2.2]

theorem State.dspSettle_onlyEv : OnlyEv [] s s.dspSettle := ⟨s.core_dspSettle, fun _ he _ => State.fld_dspSettle s he⟩

end

/-- From `s` to `t` a task keeps its binding, activity, flags and mask. -/
def State.taskKept (s t : State) (m : Nat) : Prop :=
  (t.task m).bind = (s.task m).bind ∧ (t.task m).active = (s.task m).active ∧ (t.task m).flags = (s.task m).flags ∧
    (t.task m).mask = (s.task m).mask

theorem State.taskKept_dspSettle (s : State) (m : Nat) : s.taskKept s.dspSettle m := by
  rw [State.taskKept, s.dspSettle_task]
  split <;> simp

theorem State.taskKept.trans {s t u : State} {m : Nat} (h : s.taskKept t m) (h' : t.taskKept u m) : s.taskKept u m := by
  obtain ⟨h1, h2, h3, h4⟩ := h
  obtain ⟨h1', h2', h3', h4'⟩ := h'
  exact ⟨h1'.trans h1, h2'.trans h2, h3'.trans h3, h4'.trans h4⟩

theorem State.taskKept_of_eq {s t : State} {m : Nat} (h : t.task m = s.task m) : s.taskKept t m := by
  rw [State.taskKept, h]
  exact ⟨rfl, rfl, rfl, rfl⟩

end Sys2Proof.Machine


/-! PROOFS.  The commands of the task dispatcher (R474 to R476, R479). -/

namespace Sys2Proof.Machine

/-! ## What a command on one task keeps -/

/-- From `s` to `t` the event machinery and the dispatcher alone change, and every task but `n` keeps its binding, activity, flags and
mask. -/
def State.DspDone (s t : State) (n : Nat) : Prop := OnlyEv [] s t ∧ ∀ m, m ≠ n → s.taskKept t m

section
variable {s t u : State} {n m : Nat}

theorem State.DspDone.refl (s : State) (n : Nat) : s.DspDone s n := ⟨.refl _ s, fun _ _ => State.taskKept_of_eq rfl⟩

theorem OnlyEv.withDsp {w : List Field} (h : OnlyEv w s t) (x : DispatcherSt) : OnlyEv w s { t with dsp := x } := ⟨h.1, h.2⟩

theorem State.DspDone.setTask (h : s.DspDone t n) (x : Task) : s.DspDone (t.setTask n x) n :=
  ⟨h.1.withDsp _, fun m hm => (h.2 m hm).trans (State.taskKept_of_eq (State.task_setTask_other t x hm))⟩

theorem State.DspDone.undelayTask (h : s.DspDone t n) : s.DspDone (t.undelayTask n) n :=
  ⟨h.1.withDsp _, fun m hm => (h.2 m hm).trans (State.taskKept_of_eq (State.task_undelayTask_other t hm))⟩

theorem State.DspDone.dspSettle (h : s.DspDone t n) : s.DspDone t.dspSettle n :=
  ⟨h.1.trans t.dspSettle_onlyEv, fun m hm => (h.2 m hm).trans (t.taskKept_dspSettle m)⟩

/-- What leaves the tasks as they are. -/
theorem State.DspDone.withDsp (h : s.DspDone t n) (x : DispatcherSt) (hx : x.tasks = t.dsp.tasks) : s.DspDone { t with dsp := x } n :=
  ⟨h.1.withDsp x, fun m hm => (h.2 m hm).trans (State.taskKept_of_eq (by rw [State.task, hx, State.task]))⟩

theorem State.isRunning_congr (h : t.dsp.running = s.dsp.running) : t.isRunning n = s.isRunning n := by
  simp only [State.isRunning, State.runningOn, h]

/-- A task stops running. -/
theorem State.task_stopTask_same : (s.stopTask n).task n = { s.task n with bind := (s.task n).nextBind.getD (s.task n).bind, nextBind := none } := by
  unfold State.stopTask
  split
  next b hb => rw [State.task_setTask_same, hb, Option.getD_some]
  next hb =>
    rw [hb, Option.getD_none]
    generalize s.task n = t at hb ⊢
    obtain ⟨bind, nextBind, active, flags, mask, delay, expired, resumed⟩ := t
    exact congrArg (fun x => Task.mk bind x active flags mask delay expired resumed) hb

theorem State.task_stopTask_other (h : m ≠ n) : (s.stopTask n).task m = s.task m := by
  unfold State.stopTask
  split
  · exact State.task_setTask_other s _ h
  · rfl

theorem State.stopTask_dsp : (s.stopTask n).dsp = { s.dsp with tasks := (s.stopTask n).dsp.tasks } := by
  unfold State.stopTask
  split <;> rfl

theorem State.DspDone.stopTask (h : s.DspDone t n) : s.DspDone (t.stopTask n) n := by
  unfold State.stopTask
  split
  · exact h.setTask _
  · exact h

end

/-! ## Each command on one task -/

section
variable (s : State) {n : Nat} (hn : n < 64)

/-- A task replaced, and the readiness of every task looked at. -/
theorem State.setTask_settle_done (x : Task) : s.DspDone (s.setTask n x).dspSettle n := ((State.DspDone.refl s n).setTask x).dspSettle

include hn

theorem State.task_setTask_settle (x : Task) : (s.setTask n x).dspSettle.task n = x.settled := by
  rw [State.dspSettle_task, if_pos hn, State.task_setTask_same]

/-- A task that is active, runs on no core and matches stands in its queue. -/
theorem State.activateTask_ready (hrun : s.isRunning n = false) (hdelay : (s.task n).delay = none) (hmatch : (s.task n).matched = true) :
    n ∈ (s.activateTask n).dsp.queue := by
  rw [State.activateTask]
  generalize hx : ({ s.task n with active := true } : Task) = x
  have hactive : x.active = true := by rw [← hx]
  have hnone : x.delay = none := by rw [← hx]; exact hdelay
  have hfits : x.matched = true := by rw [← hx]; exact hmatch
  have htask : (s.setTask n x).dspSettle.task n = x := (s.task_setTask_settle hn x).trans (Task.settled_of_none x hnone)
  have hidle : (s.setTask n x).dspSettle.isRunning n = false :=
    (State.isRunning_congr (s := s.setTask n x) (s.setTask n x).dspSettle_running).trans hrun
  obtain ⟨-, -, hqueue, -⟩ := (s.setTask n x).dspSettle_spec
  refine (hqueue n).2 ⟨Or.inr hn, ?_⟩
  rw [State.taskReady, htask, hidle, hactive, hfits]
  simp [Task.asleep, hnone]

end

/-- The queues, and the delay list, replaced. -/
def State.withQueue (s : State) (q : List Nat) : State := { s with dsp := { s.dsp with queue := q } }
def State.withDelays (s : State) (l : List Nat) : State := { s with dsp := { s.dsp with delayList := l } }

section
variable (s : State) {n : Nat} {q : List Nat}

@[simp] theorem State.task_withQueue (m : Nat) : (s.withQueue q).task m = s.task m := rfl
@[simp] theorem State.task_withDelays (m : Nat) : (s.withDelays q).task m = s.task m := rfl

theorem State.DspDone.withQueue {s t : State} (h : s.DspDone t n) : s.DspDone (t.withQueue q) n := h.withDsp _ rfl
theorem State.DspDone.withDelays {s t : State} (h : s.DspDone t n) : s.DspDone (t.withDelays q) n := h.withDsp _ rfl

/-- A binding that takes effect at once. -/
theorem State.bindTask_of_idle (b : TaskBind) (h : s.isRunning n = false) :
    s.bindTask n b = ((s.setTask n { s.task n with bind := b }).withQueue (s.dsp.queue.filter (fun m => m != n))).dspSettle :=
  if_neg (by rw [h]; exact Bool.false_ne_true)

theorem State.bindTask_of_running (b : TaskBind) (h : s.isRunning n = true) :
    s.bindTask n b = s.setTask n { s.task n with nextBind := some b } := if_pos h

/-- A task put into the delay list, at its end. -/
def State.delayed (s : State) (n : Nat) (d : TaskDelay) : State :=
  ((s.undelayTask n).setTask n { (s.undelayTask n).task n with delay := some d }).withDelays ((s.undelayTask n).dsp.delayList ++ [n])

theorem State.delayTask_eq (timeout : Bool) (count : Nat) :
    s.delayTask n timeout count = (s.delayed n { timeout := timeout, count := count }).dspSettle := rfl

theorem State.task_delayed (d : TaskDelay) : (s.delayed n d).task n = { s.task n with delay := some d } := by
  rw [State.delayed, State.task_withDelays, State.task_setTask_same, s.task_undelayTask_same]

end

section
variable (s : State) {n : Nat} (hn : n < 64)
include hn

/-- BIND: of a task that does not run it takes effect at once, of one that runs when it stops (R476). -/
theorem State.bindTask_spec (b : TaskBind) :
    (if s.isRunning n then ((s.bindTask n b).task n).bind = (s.task n).bind ∧ ((s.bindTask n b).task n).nextBind = some b
      else ((s.bindTask n b).task n).bind = b) ∧
    ((s.bindTask n b).task n).flags = (s.task n).flags ∧ ((s.bindTask n b).task n).mask = (s.task n).mask ∧
    ((s.bindTask n b).task n).active = (s.task n).active ∧ s.DspDone (s.bindTask n b) n := by
  cases h : s.isRunning n with
  | true =>
    rw [s.bindTask_of_running b h, State.task_setTask_same]
    exact ⟨⟨rfl, rfl⟩, rfl, rfl, rfl, (State.DspDone.refl s n).setTask _⟩
  | false =>
    rw [s.bindTask_of_idle b h, State.dspSettle_task, if_pos hn, State.task_withQueue, State.task_setTask_same]
    simp only [Task.settled_bind, Task.settled_flags, Task.settled_mask, Task.settled_active, true_and, Bool.false_eq_true, if_false]
    exact ((State.DspDone.refl s n).setTask _).withQueue.dspSettle

/-- DELAY: a place in the list, but none for an active task under TIMEOUT whose flags match (R474). -/
theorem State.delayTask_spec (timeout : Bool) (count : Nat) :
    ((s.delayTask n timeout count).task n).delay = (if timeout && (s.task n).active && (s.task n).matched then none
      else some { timeout := timeout, count := count }) ∧
    (n ∈ (s.delayTask n timeout count).dsp.delayList ↔ ¬ (timeout && (s.task n).active && (s.task n).matched) = true) ∧
    s.taskKept (s.delayTask n timeout count) n ∧ s.DspDone (s.delayTask n timeout count) n := by
  have htask := s.task_delayed (n := n) { timeout := timeout, count := count }
  have hlisted : n ∈ (s.delayed n { timeout := timeout, count := count }).dsp.delayList := List.mem_append_right _ List.mem_cons_self
  have hdone : s.DspDone (s.delayed n { timeout := timeout, count := count }) n :=
    ((State.DspDone.refl s n).undelayTask.setTask _).withDelays
  rw [s.delayTask_eq]
  generalize s.delayed n { timeout := timeout, count := count } = x at htask hlisted hdone ⊢
  have hleaves : (x.task n).leaves = (timeout && (s.task n).active && (s.task n).matched) := by rw [htask]; rfl
  obtain ⟨hall, hlist, -, -⟩ := x.dspSettle_spec
  refine ⟨?_, ?_, ?_, hdone.dspSettle⟩
  · rw [hall, if_pos hn, Task.settled_delay, hleaves, htask]
  · rw [hlist, hleaves]
    simp only [hlisted, hn, true_and]
  · rw [State.taskKept, hall, if_pos hn]
    simp only [Task.settled_bind, Task.settled_flags, Task.settled_mask, Task.settled_active, htask, and_self]

/-- UNDELAY (R474). -/
theorem State.undelay_spec :
    ((s.undelay n).task n).delay = none ∧ n ∉ (s.undelay n).dsp.delayList ∧ s.taskKept (s.undelay n) n ∧ s.DspDone (s.undelay n) n := by
  have htask := s.task_undelayTask_same (n := n)
  have hlisted : n ∉ (s.undelayTask n).dsp.delayList := fun h => (s.mem_delayList_undelayTask.1 h).2 rfl
  have hdone : s.DspDone (s.undelayTask n) n := (State.DspDone.refl s n).undelayTask
  rw [State.undelay]
  generalize s.undelayTask n = x at htask hlisted hdone ⊢
  obtain ⟨hall, hlist, -, -⟩ := x.dspSettle_spec
  refine ⟨?_, fun hmem => hlisted ((hlist n).1 hmem).1, ?_, hdone.dspSettle⟩
  · rw [hall, if_pos hn, Task.settled_delay, htask]
    split <;> rfl
  · rw [State.taskKept, hall, if_pos hn, htask]
    simp

end

/-! ## CANCEL (R476) -/

/-- Neither core runs the task. -/
def State.unrun (s : State) (n : Nat) : State :=
  let s2 := if s.runningOn 0 = some n then s.setRunning 0 none else s
  if s2.runningOn 1 = some n then s2.setRunning 1 none else s2

/-- A task made dormant. -/
def State.dormant (s : State) (n : Nat) : State :=
  let s4 := (s.stopTask n).undelayTask n
  s4.setTask n { s4.task n with active := false, expired := false, resumed := false }

theorem State.cancelTask_eq (s : State) (n : Nat) : s.cancelTask n =
    (((s.dspSettle.unrun n).dormant n).withQueue (((s.dspSettle.unrun n).dormant n).dsp.queue.filter (fun m => m != n))).dspSettle := by
  unfold State.cancelTask
  generalize s.dspSettle = s1
  rw [State.unrun, State.dormant, State.withQueue]

section
variable (s : State) {n : Nat}

theorem State.runningOn_setRunning_same (k : Nat) (t : Option Nat) : (s.setRunning k t).runningOn k = t := Sparse.get_put_same _ _ _ _

theorem State.runningOn_setRunning_other {j k : Nat} (t : Option Nat) (h : j ≠ k) : (s.setRunning k t).runningOn j = s.runningOn j :=
  Sparse.get_put_other _ _ _ _ h

theorem State.isRunning_unrun : (s.unrun n).isRunning n = false := by
  have h0 : (if s.runningOn 0 = some n then s.setRunning 0 none else s).runningOn 0 ≠ some n := by
    split
    · rw [State.runningOn_setRunning_same]
      exact fun h => absurd h (by simp)
    next h => exact h
  unfold State.unrun
  dsimp only
  generalize (if s.runningOn 0 = some n then s.setRunning 0 none else s) = u at h0 ⊢
  rw [State.isRunning, Bool.or_eq_false_iff, beq_eq_false_iff_ne, beq_eq_false_iff_ne]
  split
  · rw [State.runningOn_setRunning_same, State.runningOn_setRunning_other _ _ (by decide)]
    exact ⟨h0, fun h => absurd h (by simp)⟩
  next h1 => exact ⟨h0, h1⟩

theorem State.unrun_dsp : (s.unrun n).dsp = { s.dsp with running := (s.unrun n).dsp.running } ∧ s.DspDone (s.unrun n) n := by
  have hone (t : State) (k : Nat) : (if t.runningOn k = some n then t.setRunning k none else t).dsp =
      { t.dsp with running := (if t.runningOn k = some n then t.setRunning k none else t).dsp.running } := by
    split <;> rfl
  have hdone {t : State} (ht : s.DspDone t n) (k : Nat) : s.DspDone (if t.runningOn k = some n then t.setRunning k none else t) n := by
    split
    · exact ht.withDsp _ rfl
    · exact ht
  unfold State.unrun
  refine ⟨?_, hdone (hdone (.refl s n) 0) 1⟩
  dsimp only
  have h0 := hone s 0
  generalize (if s.runningOn 0 = some n then s.setRunning 0 none else s) = u at h0 ⊢
  rw [hone u 1, h0]

theorem State.task_unrun (m : Nat) : (s.unrun n).task m = s.task m := by
  rw [State.task, s.unrun_dsp.1, State.task]

/-- A dormant task. -/
theorem State.dormant_spec :
    (s.dormant n).task n = { s.task n with
      bind := (s.task n).nextBind.getD (s.task n).bind, nextBind := none, delay := none, active := false, expired := false,
      resumed := false } ∧
    n ∉ (s.dormant n).dsp.delayList ∧ (s.dormant n).dsp.running = s.dsp.running ∧ ∀ t : State, t.DspDone s n → t.DspDone (s.dormant n) n := by
  unfold State.dormant
  refine ⟨?_, fun h => ?_, ?_, fun t ht => (ht.stopTask.undelayTask).setTask _⟩
  · rw [State.task_setTask_same, State.task_undelayTask_same, State.task_stopTask_same]
  · exact ((State.mem_delayList_undelayTask (s.stopTask n)).1 h).2 rfl
  · exact (congrArg DispatcherSt.running s.stopTask_dsp).trans rfl

variable (hn : n < 64)
include hn

/-- CANCEL makes the task dormant, wherever it stood (R476). -/
theorem State.cancelTask_spec :
    ((s.cancelTask n).task n).active = false ∧ (s.cancelTask n).isRunning n = false ∧ n ∉ (s.cancelTask n).dsp.queue ∧
      n ∉ (s.cancelTask n).dsp.delayList ∧ ((s.cancelTask n).task n).flags = (s.task n).flags ∧
      ((s.cancelTask n).task n).mask = (s.task n).mask ∧
      ((s.cancelTask n).task n).bind = (s.task n).nextBind.getD (s.task n).bind ∧ s.DspDone (s.cancelTask n) n := by
  have hsettled : s.dspSettle.task n = (s.task n).settled := by rw [s.dspSettle_task, if_pos hn]
  obtain ⟨htask, hlist, hrunning, hdone⟩ := (s.dspSettle.unrun n).dormant_spec (n := n)
  have hidle : ((s.dspSettle.unrun n).dormant n).isRunning n = false := (State.isRunning_congr hrunning).trans (State.isRunning_unrun _)
  have hstart : s.DspDone s.dspSettle n := (State.DspDone.refl s n).dspSettle
  have hunrun : s.DspDone (s.dspSettle.unrun n) n := by
    obtain ⟨hev, hkept⟩ := s.dspSettle.unrun_dsp.2
    exact ⟨hstart.1.trans hev, fun m hm => (hstart.2 m hm).trans (hkept m hm)⟩
  have hdormant := hdone s hunrun
  rw [State.task_unrun, hsettled] at htask
  rw [s.cancelTask_eq]
  generalize (s.dspSettle.unrun n).dormant n = u at htask hlist hidle hdormant ⊢
  have htask' : ((u.withQueue (u.dsp.queue.filter (fun m => m != n))).dspSettle).task n = u.task n := by
    rw [State.dspSettle_task, if_pos hn, State.task_withQueue, Task.settled_of_none _ (by rw [htask])]
  obtain ⟨-, hlist', hqueue, -⟩ := (u.withQueue (u.dsp.queue.filter (fun m => m != n))).dspSettle_spec
  rw [htask', htask]
  refine ⟨rfl, ?_, fun h => ?_, fun h => hlist ((hlist' n).1 h).1, Task.settled_flags _, Task.settled_mask _, ?_, hdormant.withQueue.dspSettle⟩
  · exact (State.isRunning_congr (State.dspSettle_running _)).trans hidle
  · have hready := ((hqueue n).1 h).2
    rw [State.taskReady, htask', htask] at hready
    exact Bool.noConfusion hready
  · rw [Task.settled_nextBind, Task.settled_bind]

end

end Sys2Proof.Machine


/-! PROOFS.  What the writer of a dispatcher command gets (R479). -/

namespace Sys2Proof.Machine

/-! ## A command of a core -/

/-- The answer of a command that a core gives. -/
def State.dspAnswered (s : State) (mid : Mid) : State := (s.dspStat mid Code.ok).reply Code.ok

section
variable {s : State} {mid : Mid} {hosts : Bool} {f : State → State} {c : Instr} {P : State → Prop}

theorem State.dspCmd_of_core (hmid : mid = 0x00 ∨ mid = 0x01) (hawake : s.awake Reg.DSP_CMD) :
    s.dspCmd mid hosts f = (f s).dspAnswered mid := by
  rw [State.dspCmd, State.gate_of_awake hawake, State.dspBy, State.dspAnswered, if_pos (by rcases hmid with rfl | rfl <;> simp)]

/-- What a command of a core leaves of the dispatcher, named `u`. -/
theorem Completes.dspCommand (hmid : mid = 0x00 ∨ mid = 0x01) (hawake : s.awake Reg.DSP_CMD)
    (hexec : exec c s = .next (s.dspCmd mid hosts f)) (h : ∀ u, f s = u → P (u.dspAnswered mid)) : Completes c s P :=
  Completes.of_eq hexec (State.dspCmd_of_core hmid hawake) (h _ rfl)

end

section
variable (s : State) (mid : Mid) (n k : Nat)

@[simp] theorem State.task_dspAnswered : (s.dspAnswered mid).task n = s.task n := rfl
@[simp] theorem State.runningOn_dspAnswered : (s.dspAnswered mid).runningOn k = s.runningOn k := rfl
@[simp] theorem State.isRunning_dspAnswered : (s.dspAnswered mid).isRunning k = s.isRunning k := rfl
@[simp] theorem State.queue_dspAnswered : (s.dspAnswered mid).dsp.queue = s.dsp.queue := rfl
@[simp] theorem State.delayList_dspAnswered : (s.dspAnswered mid).dsp.delayList = s.dsp.delayList := rfl
@[simp] theorem State.next_dspAnswered : (s.dspAnswered mid).dsp.next = s.dsp.next := rfl
@[simp] theorem State.nextFlags_dspAnswered : (s.dspAnswered mid).dsp.nextFlags = s.dsp.nextFlags := rfl
@[simp] theorem State.status_dspAnswered : (s.dspAnswered mid).done.status = Code.ok := rfl
@[simp] theorem State.stat_dspAnswered : Sparse.get 0 (s.dspAnswered mid).dsp.stat mid.toNat = Code.ok :=
  Sparse.get_put_same 0 s.dsp.stat mid.toNat Code.ok

end

/-- What holds of every command of a core on one task: the answer, and what it leaves. -/
theorem State.DspDone.answered {s u : State} {n : Nat} (h : s.DspDone u n) (mid : Mid) :
    (u.dspAnswered mid).done.status = Code.ok ∧ Sparse.get 0 (u.dspAnswered mid).dsp.stat mid.toNat = Code.ok ∧
      OnlyEv [] s (u.dspAnswered mid) ∧ ∀ m, m ≠ n → s.taskKept (u.dspAnswered mid) m :=
  ⟨rfl, u.stat_dspAnswered mid, ⟨h.1.1, h.1.2⟩, h.2⟩

/-! ## Commands that replace one task -/

section
variable (s : State) {n : Nat} (hn : n < 64) (bits : Word32)
include hn

theorem State.activateTask_task : (s.activateTask n).task n = { s.task n with active := true }.settled :=
  s.task_setTask_settle hn _

theorem State.dspFlags_task : (s.dspFlags n bits).task n = { s.task n with flags := (s.task n).flags ||| bits }.settled :=
  s.task_setTask_settle hn _

theorem State.clearFlags_task : (s.clearFlags n bits).task n = { s.task n with flags := (s.task n).flags &&& ~~~ bits }.settled :=
  s.task_setTask_settle hn _

theorem State.setMask_task : (s.setMask n bits).task n = { s.task n with mask := bits }.settled :=
  s.task_setTask_settle hn _

end

/-! ## Takes (R475) -/

/-- What readiness leaves of a take: the running tasks and the results. -/
theorem State.dspSettle_results (s : State) :
    s.dspSettle.dsp.running = s.dsp.running ∧ s.dspSettle.dsp.next = s.dsp.next ∧ s.dspSettle.dsp.nextFlags = s.dsp.nextFlags := by
  obtain ⟨-, -, -, hdsp⟩ := s.dspSettle_spec
  exact ⟨by rw [hdsp], by rw [hdsp], by rw [hdsp]⟩

/-- The flags that a take of a task consumes and returns. -/
def Task.consumed (t : Task) : Word32 := if t.bind.consume then t.flags &&& t.mask else 0

/-- From `s` to `t` core `k` took task `x`. -/
def State.Took (s t : State) (k x : Nat) : Prop :=
  t.runningOn k = some x ∧ (t.task x).flags = (s.task x).flags &&& ~~~ (s.task x).consumed ∧
    Sparse.get 0 t.dsp.nextFlags k = (s.task x).consumed ∧
    (Sparse.get 0 t.dsp.next k).toNat = 2 ^ 31 + (if (s.task x).expired then 2 ^ 29 else 0) + (if (s.task x).resumed then 2 ^ 28 else 0) + x

section
variable (s : State) {k x r : Nat}

theorem State.task_runTask_other {m : Nat} (h : m ≠ x) : (s.runTask k x).task m = s.task m := Sparse.get_put_other _ _ _ _ h

/-- The word of DSP_NEXT, which holds what it is made of. -/
theorem State.takeResult_next (valid same expired resumed : Bool) (flags : Word32) (hx : x < 64) :
    (Sparse.get 0 (s.takeResult k valid same expired resumed x flags).dsp.next k).toNat =
      (if valid then 2 ^ 31 else 0) + (if same then 2 ^ 30 else 0) + (if expired then 2 ^ 29 else 0) + (if resumed then 2 ^ 28 else 0) + x := by
  rw [State.takeResult]
  dsimp only
  rw [Sparse.get_put_same, BitVec.toNat_ofNat, Nat.mod_eq_of_lt]
  have h (b : Bool) (v : Nat) : (if b then v else 0) ≤ v := by split <;> omega
  have := h valid (2 ^ 31)
  have := h same (2 ^ 30)
  have := h expired (2 ^ 29)
  have := h resumed (2 ^ 28)
  omega

theorem State.runningOn_runTask : (s.runTask k x).runningOn k = some x := Sparse.get_put_same none s.dsp.running k (some x)

theorem State.runTask_took (hx : x < 64) : s.Took (s.runTask k x) k x := by
  refine ⟨s.runningOn_runTask, ?_, Sparse.get_put_same 0 s.dsp.nextFlags k _, ?_⟩
  · exact (congrArg Task.flags (State.task_setTask_same s _)).trans rfl
  · rw [State.runTask]
    exact (State.takeResult_next _ true false _ _ _ hx).trans (by simp)

theorem State.Took.dspSettle {s t : State} (h : s.Took t k x) : s.Took t.dspSettle k x := by
  obtain ⟨hrun, hflags, hreturned, hnext⟩ := h
  obtain ⟨hrunning, hnext', hflags'⟩ := t.dspSettle_results
  refine ⟨?_, ?_, ?_, ?_⟩
  · rw [State.runningOn, hrunning]
    exact hrun
  · rw [← hflags]
    obtain ⟨-, -, h, -⟩ := t.taskKept_dspSettle x
    exact h
  · rw [hflags', hreturned]
  · rw [hnext', hnext]

theorem State.Took.answered {s t : State} (h : s.Took t k x) (mid : Mid) : s.Took (t.dspAnswered mid) k x := h

/-- A preempted task reports RESUMED at its next take, and its binding apart the rest stays. -/
theorem State.preempt_spec : ((s.preempt r).task r).resumed = true ∧ (∀ m, m ≠ r → (s.preempt r).task m = s.task m) ∧
    (s.preempt r).dsp.running = s.dsp.running ∧ (s.preempt r).dsp.next = s.dsp.next ∧ (s.preempt r).dsp.nextFlags = s.dsp.nextFlags := by
  have hdsp := s.stopTask_dsp (n := r)
  have hother {m : Nat} (h : m ≠ r) := s.task_stopTask_other (n := r) (m := m) h
  have hfields : (s.stopTask r).dsp.running = s.dsp.running ∧ (s.stopTask r).dsp.next = s.dsp.next ∧
      (s.stopTask r).dsp.nextFlags = s.dsp.nextFlags := ⟨by rw [hdsp], by rw [hdsp], by rw [hdsp]⟩
  unfold State.preempt
  dsimp only
  generalize s.stopTask r = u at hother hfields ⊢
  have hsame : (u.setTask r { u.task r with resumed := true }).task r = { u.task r with resumed := true } := u.task_setTask_same _
  split
  · exact ⟨by rw [hsame], fun m h => (u.task_setTask_other _ h).trans (hother h), hfields⟩
  · exact ⟨(congrArg Task.resumed hsame).trans rfl, fun m h => (u.task_setTask_other _ h).trans (hother h), hfields⟩

/-- The word and the flags of a take that changes nothing. -/
theorem State.take_same (hrun : s.runningOn k = some r)
    (hbest : ∀ x, s.bestReady k = some x → ¬ (s.task x).bind.prio < (s.task r).bind.prio) :
    s.take k = s.takeResult k true true false false r 0 := by
  unfold State.take
  rw [hrun]
  cases h : s.bestReady k with
  | none => rfl
  | some x => exact if_neg (hbest x h)

theorem State.take_free (hrun : s.runningOn k = none) (hbest : s.bestReady k = some x) : s.take k = s.runTask k x := by
  rw [State.take, hrun, hbest]

theorem State.take_preempts (hrun : s.runningOn k = some r) (hbest : s.bestReady k = some x)
    (hprio : (s.task x).bind.prio < (s.task r).bind.prio) : s.take k = (s.runTask k x).preempt r := by
  rw [State.take, hrun, hbest]
  exact if_pos hprio

theorem State.take_nothing (hrun : s.runningOn k = none) (hbest : s.bestReady k = none) :
    s.take k = s.takeResult k false true false false 0 0 := by
  rw [State.take, hrun, hbest]

/-- After the running task has ended the core runs none. -/
theorem State.runningOn_endRunning : (s.endRunning k).runningOn k = none := by
  unfold State.endRunning
  split
  next r h =>
    rw [State.runningOn, State.dspSettle_running, State.stopTask_dsp]
    exact State.runningOn_setRunning_same s k none
  next h => exact h

theorem State.endRunning_of_free (hrun : s.runningOn k = none) : s.endRunning k = s := by rw [State.endRunning, hrun]

/-- A take of a core that runs no task runs the best ready one. -/
theorem State.runningOn_take_of_free (hrun : s.runningOn k = none) : (s.take k).runningOn k = s.bestReady k := by
  cases h : s.bestReady k with
  | none => rw [s.take_nothing hrun h]; exact hrun
  | some x => rw [s.take_free hrun h]; exact s.runningOn_runTask

theorem State.Took.preempt {s t : State} (h : s.Took t k x) (hx : r ≠ x) : s.Took (t.preempt r) k x := by
  obtain ⟨hrun, hflags, hreturned, hnext⟩ := h
  obtain ⟨-, hother, hrunning, hnext', hflags'⟩ := t.preempt_spec (r := r)
  refine ⟨?_, ?_, ?_, ?_⟩
  · rw [State.runningOn, hrunning]
    exact hrun
  · rw [hother x (Ne.symm hx), hflags]
  · rw [hflags', hreturned]
  · rw [hnext', hnext]

end

theorem midOfCore (k : Fin 2) : (BitVec.ofNat 8 k.val = 0x00 ∨ BitVec.ofNat 8 k.val = 0x01) ∧ (BitVec.ofNat 8 k.val).toNat = k.val := by
  match k with
  | 0 => exact ⟨Or.inl rfl, rfl⟩
  | 1 => exact ⟨Or.inr rfl, rfl⟩

end Sys2Proof.Machine


/-! PROOFS.  The commands of the cores to the dispatcher (R474 to R476, R479). -/

namespace Sys2Proof.Machine

/-- What holds of every command of a core on task `n`: the answer, and what the other tasks keep. -/
def State.DspCommon (s t : State) (mid : Mid) (n : Nat) : Prop :=
  t.done.status = Code.ok ∧ Sparse.get 0 t.dsp.stat mid.toNat = Code.ok ∧ OnlyEv [] s t ∧ ∀ m, m ≠ n → s.taskKept t m

section
variable (s : State) {mid : Mid} (hmid : mid = 0x00 ∨ mid = 0x01) (hawake : s.awake Reg.DSP_CMD) (n : Fin 64)
include hmid hawake

theorem completes_dspBind (core : Fin 2) (prio : Fin 16) (all consume : Bool) (b : TaskBind)
    (hb : ({ core := core, prio := prio, all := all, consume := consume } : TaskBind) = b) :
    Completes (.dspBind mid n core prio all consume) s fun t =>
    (if s.isRunning n then (t.task n).bind = (s.task n).bind ∧ (t.task n).nextBind = some b else (t.task n).bind = b) ∧
    (t.task n).flags = (s.task n).flags ∧ (t.task n).mask = (s.task n).mask ∧ (t.task n).active = (s.task n).active ∧
    s.DspCommon t mid n := by
  refine .dspCommand (f := fun s => s.bindTask n b) (hosts := false) hmid hawake (by rw [← hb]; rfl) fun u hu => ?_
  beta_reduce at hu
  obtain ⟨hbind, hflags, hmask, hactive, hdone⟩ := s.bindTask_spec n.isLt b
  rw [hu] at hbind hflags hmask hactive hdone
  exact ⟨hbind, hflags, hmask, hactive, hdone.answered mid⟩

theorem completes_dspActivate : Completes (.dspActivate mid n) s fun t =>
    (t.task n).active = true ∧ (t.task n).flags = (s.task n).flags ∧ (t.task n).mask = (s.task n).mask ∧
    (t.task n).bind = (s.task n).bind ∧
    (s.isRunning n = false → (s.task n).delay = none → (s.task n).matched = true → n.val ∈ t.dsp.queue) ∧ s.DspCommon t mid n := by
  refine .dspCommand (f := fun s => s.activateTask n) (hosts := false) hmid hawake rfl fun u hu => ?_
  beta_reduce at hu
  have htask := s.activateTask_task n.isLt
  have hready := s.activateTask_ready n.isLt
  have hdone : s.DspDone (s.activateTask n) n := s.setTask_settle_done _
  rw [hu] at htask hready hdone
  refine ⟨?_, ?_, ?_, ?_, hready, hdone.answered mid⟩ <;> simp [htask]

theorem completes_dspCancel : Completes (.dspCancel mid n) s fun t =>
    (t.task n).active = false ∧ t.isRunning n = false ∧ n.val ∉ t.dsp.queue ∧ n.val ∉ t.dsp.delayList ∧
    (t.task n).flags = (s.task n).flags ∧ (t.task n).mask = (s.task n).mask ∧
    (t.task n).bind = (s.task n).nextBind.getD (s.task n).bind ∧ s.DspCommon t mid n := by
  refine .dspCommand (f := fun s => s.cancelTask n) (hosts := false) hmid hawake rfl fun u hu => ?_
  beta_reduce at hu
  obtain ⟨hactive, hrun, hqueue, hlist, hflags, hmask, hbind, hdone⟩ := s.cancelTask_spec n.isLt
  rw [hu] at hactive hrun hqueue hlist hflags hmask hbind hdone
  exact ⟨hactive, hrun, hqueue, hlist, hflags, hmask, hbind, hdone.answered mid⟩

theorem completes_dspSetFlags : Completes (.dspSetFlags mid n) s fun t =>
    (t.task n).flags = (s.task n).flags ||| s.dspArg mid ∧ (t.task n).mask = (s.task n).mask ∧ (t.task n).bind = (s.task n).bind ∧
    (t.task n).active = (s.task n).active ∧ s.DspCommon t mid n := by
  refine .dspCommand (f := fun s => s.dspFlags n (s.dspArg mid)) (hosts := true) hmid hawake rfl fun u hu => ?_
  beta_reduce at hu
  have htask := s.dspFlags_task n.isLt (s.dspArg mid)
  have hdone : s.DspDone (s.dspFlags n (s.dspArg mid)) n := s.setTask_settle_done _
  rw [hu] at htask hdone
  refine ⟨?_, ?_, ?_, ?_, hdone.answered mid⟩ <;> simp [htask]

theorem completes_dspClrFlags : Completes (.dspClrFlags mid n) s fun t =>
    (t.task n).flags = (s.task n).flags &&& ~~~ s.dspArg mid ∧ (t.task n).mask = (s.task n).mask ∧
    (t.task n).bind = (s.task n).bind ∧ (t.task n).active = (s.task n).active ∧ s.DspCommon t mid n := by
  refine .dspCommand (f := fun s => s.clearFlags n (s.dspArg mid)) (hosts := false) hmid hawake rfl fun u hu => ?_
  beta_reduce at hu
  have htask := s.clearFlags_task n.isLt (s.dspArg mid)
  have hdone : s.DspDone (s.clearFlags n (s.dspArg mid)) n := s.setTask_settle_done _
  rw [hu] at htask hdone
  refine ⟨?_, ?_, ?_, ?_, hdone.answered mid⟩ <;> simp [htask]

theorem completes_dspSetMask : Completes (.dspSetMask mid n) s fun t =>
    (t.task n).mask = s.dspArg mid ∧ (t.task n).flags = (s.task n).flags ∧ (t.task n).bind = (s.task n).bind ∧
    (t.task n).active = (s.task n).active ∧ s.DspCommon t mid n := by
  refine .dspCommand (f := fun s => s.setMask n (s.dspArg mid)) (hosts := false) hmid hawake rfl fun u hu => ?_
  beta_reduce at hu
  have htask := s.setMask_task n.isLt (s.dspArg mid)
  have hdone : s.DspDone (s.setMask n (s.dspArg mid)) n := s.setTask_settle_done _
  rw [hu] at htask hdone
  refine ⟨?_, ?_, ?_, ?_, hdone.answered mid⟩ <;> simp [htask]

theorem completes_dspDelay (timeout : Bool) : Completes (.dspDelay mid n timeout) s fun t =>
    (t.task n).delay = (if timeout && (s.task n).active && (s.task n).matched then none
      else some { timeout := timeout, count := (s.dspArg mid).toNat % 65536 }) ∧
    (n.val ∈ t.dsp.delayList ↔ ¬ (timeout && (s.task n).active && (s.task n).matched) = true) ∧
    (t.task n).flags = (s.task n).flags ∧ (t.task n).mask = (s.task n).mask ∧ (t.task n).bind = (s.task n).bind ∧
    (t.task n).active = (s.task n).active ∧ s.DspCommon t mid n := by
  refine .dspCommand (f := fun s => s.delayTask n timeout ((s.dspArg mid).toNat % 65536)) (hosts := false) hmid hawake rfl fun u hu => ?_
  beta_reduce at hu
  obtain ⟨hdelay, hlist, hkept, hdone⟩ := s.delayTask_spec n.isLt timeout ((s.dspArg mid).toNat % 65536)
  rw [hu] at hdelay hlist hkept hdone
  obtain ⟨hbind, hactive, hflags, hmask⟩ := hkept
  exact ⟨hdelay, hlist, hflags, hmask, hbind, hactive, hdone.answered mid⟩

theorem completes_dspUndelay : Completes (.dspUndelay mid n) s fun t =>
    (t.task n).delay = none ∧ n.val ∉ t.dsp.delayList ∧ (t.task n).flags = (s.task n).flags ∧ (t.task n).mask = (s.task n).mask ∧
    (t.task n).bind = (s.task n).bind ∧ (t.task n).active = (s.task n).active ∧ s.DspCommon t mid n := by
  refine .dspCommand (f := fun s => s.undelay n) (hosts := false) hmid hawake rfl fun u hu => ?_
  beta_reduce at hu
  obtain ⟨hdelay, hlist, hkept, hdone⟩ := s.undelay_spec n.isLt
  rw [hu] at hdelay hlist hkept hdone
  obtain ⟨hbind, hactive, hflags, hmask⟩ := hkept
  exact ⟨hdelay, hlist, hflags, hmask, hbind, hactive, hdone.answered mid⟩

end

/-! ## Takes, waits and the reset -/

section
variable (s : State) {mid : Mid} (k : Nat) (hmid : mid = 0x00 ∨ mid = 0x01) (hk : mid.toNat = k) (hawake : s.awake Reg.DSP_CMD)
include hmid hk hawake

/-- A take, by what it leaves. -/
theorem completes_dspTake {P : State → Prop} (t : State) (ht : s.take k = t) (h : P (t.dspSettle.dspAnswered mid)) :
    Completes (.dspTake mid) s P := by
  refine .dspCommand (f := fun s => (s.take mid.toNat).dspSettle) (hosts := false) hmid hawake rfl fun u hu => ?_
  rw [← hu, hk, ht]
  exact h

/-- A wait, by what its take leaves. -/
theorem completes_dspWait {P : State → Prop} (t : State) (ht : (s.endRunning k).take k = t) (h : P (t.dspSettle.dspAnswered mid)) :
    Completes (.dspWait mid) s P := by
  refine .dspCommand (f := fun s => ((s.endRunning mid.toNat).take mid.toNat).dspSettle) (hosts := false) hmid hawake rfl fun u hu => ?_
  rw [← hu, hk, ht]
  exact h

omit hk in
theorem completes_dspReset : Completes (.dspReset mid) s fun t =>
    (∀ n, t.task n = Task.reset) ∧ t.runningOn 0 = none ∧ t.runningOn 1 = none ∧ t.dsp.queue = [] ∧ t.dsp.delayList = [] ∧
    t.done.status = Code.ok ∧ OnlyEv [] s t := by
  refine .dspCommand (f := State.dspClear) (hosts := false) hmid hawake rfl fun u hu => ?_
  rw [← hu]
  exact ⟨fun n => rfl, rfl, rfl, rfl, rfl, rfl, rfl, fun g _ _ => rfl⟩

end

/-- Settles O6: each command replaces its task and has the readiness of every task looked at, which keeps their bindings, flags and
masks, and the results of takes. -/
theorem dispatcherCommands : Obligations.DispatcherCommands := by
  unfold Obligations.DispatcherCommands
  refine ⟨fun mid n s hmid hawake => ?_, fun k s hawake => ?_⟩
  · exact ⟨fun core prio all consume => completes_dspBind s hmid hawake n core prio all consume _ rfl,
      completes_dspActivate s hmid hawake n, completes_dspCancel s hmid hawake n, completes_dspSetFlags s hmid hawake n,
      completes_dspClrFlags s hmid hawake n, completes_dspSetMask s hmid hawake n, completes_dspDelay s hmid hawake n,
      completes_dspUndelay s hmid hawake n⟩
  · obtain ⟨hmid, hk⟩ := midOfCore k
    intro mid runs
    have hruns {t : State} {x : Nat} (h : s.Took t k x) : runs x (t.dspSettle.dspAnswered mid) :=
      h.dspSettle.answered mid
    refine ⟨fun x hx hbest hrun => ⟨?_, ?_⟩, fun x r hx hr hbest hrun hprio => ?_, fun r hr hrun hbest => ?_, fun hbest hrun => ?_, ?_,
      completes_dspReset s hmid hawake⟩
    · exact completes_dspTake s k hmid hk hawake _ (s.take_free hrun hbest) (hruns (s.runTask_took hx))
    · exact completes_dspWait s k hmid hk hawake _ (by rw [s.endRunning_of_free hrun, s.take_free hrun hbest])
        (hruns (s.runTask_took hx))
    · refine completes_dspTake s k hmid hk hawake _ (s.take_preempts hrun hbest hprio) ⟨hruns ((s.runTask_took hx).preempt hr), ?_⟩
      rw [State.task_dspAnswered, State.dspSettle_task]
      obtain ⟨hresumed, -⟩ := (s.runTask k x).preempt_spec (r := r)
      split
      · rw [Task.settled_resumed, hresumed]
      · exact hresumed
    · refine completes_dspTake s k hmid hk hawake _ (s.take_same hrun hbest) ?_
      obtain ⟨hrunning, hnext, hflags⟩ := (s.takeResult k true true false false r 0).dspSettle_results
      rw [State.runningOn_dspAnswered, State.next_dspAnswered, State.nextFlags_dspAnswered, State.runningOn, hrunning, hnext, hflags]
      exact ⟨hrun, s.takeResult_next _ _ _ _ _ hr, Sparse.get_put_same 0 s.dsp.nextFlags k 0⟩
    · refine completes_dspTake s k hmid hk hawake _ (s.take_nothing hrun hbest) ?_
      obtain ⟨hrunning, hnext, -⟩ := (s.takeResult k false true false false 0 0).dspSettle_results
      rw [State.runningOn_dspAnswered, State.next_dspAnswered, State.runningOn, hrunning, hnext]
      exact ⟨hrun, s.takeResult_next _ _ _ _ _ (by omega)⟩
    · refine completes_dspWait s k hmid hk hawake _ rfl ⟨?_, rfl⟩
      rw [State.runningOn_dspAnswered, State.runningOn, State.dspSettle_running]
      exact State.runningOn_take_of_free _ s.runningOn_endRunning

end Sys2Proof.Machine


/-! PROOFS.  Refused writers of the dispatcher, its tick and its delays (R474, R479). -/

namespace Sys2Proof.Machine

/-! ## An event that is not routed to the dispatcher -/

section
variable (s : State) (n : Nat)

theorem State.deliver_dsp (h : s.flag (Fld.EVT_ROUTE_DSP n) = false) : (s.deliver n).dsp = s.dsp := by
  unfold State.deliver
  extract_lets sev vec s1 s2 s3
  have h1 : s1 = s := if_neg (by rw [h]; exact Bool.false_ne_true)
  have h2 : s2.dsp = s1.dsp := by
    change (if s.flag (Fld.EVT_ROUTE_MSIX n) then _ else s1).dsp = s1.dsp
    unfold State.msixFire
    extract_lets masked
    split_ifs <;> rfl
  have h3 : s3.dsp = s2.dsp := by
    change (if s.flag (Fld.EVT_ROUTE_TWIN n) && s.flag Fld.TWN_STATUS_PAIRED then _ else s2).dsp = s2.dsp
    split <;> rfl
  rw [← h1, ← h2, ← h3]
  split
  · exact State.exitSource_dsp ..
  · rfl

theorem State.logDrop_dsp {al : State → State} (hal : ∀ x : State, x.flag (Fld.EVT_ROUTE_DSP 476) = false → (al x).dsp = x.dsp)
    (h : s.flag (Fld.EVT_ROUTE_DSP 476) = false) : (s.logDrop al).dsp = s.dsp := by
  unfold State.logDrop
  rw [hal]
  · exact State.countReg_dsp _ _
  · rw [State.flag_setFlag_sep _ _ rfl, State.flag, State.fld, State.reg_countReg_other _ (by decide)]
    exact h

theorem State.logAppend_dsp {al : State → State} (hal : ∀ x : State, x.flag (Fld.EVT_ROUTE_DSP 476) = false → (al x).dsp = x.dsp)
    (h : s.flag (Fld.EVT_ROUTE_DSP 476) = false) (k v c m : Nat) (p : List Nat) : (s.logAppend al k v c m p).dsp = s.dsp := by
  unfold State.logAppend
  extract_lets kept s1
  have h1 : s1.dsp = s.dsp ∧ s1.flag (Fld.EVT_ROUTE_DSP 476) = false := by
    change (if s.lib.dropped = 0 then s else _ : State).dsp = s.dsp ∧ (if s.lib.dropped = 0 then s else _ : State).flag _ = false
    split
    · exact ⟨rfl, h⟩
    · exact ⟨rfl, (State.flag_setReg_other _ _ (by decide)).trans h⟩
  clear_value s1
  obtain ⟨hdsp, hroute⟩ := h1
  split
  · exact s.logDrop_dsp hal h
  · rw [← hdsp]
    split
    · exact s1.logDrop_dsp hal hroute
    · rfl

theorem State.raiseWith_dsp {al : State → State} (hal : ∀ x : State, x.flag (Fld.EVT_ROUTE_DSP 476) = false → (al x).dsp = x.dsp)
    (hroutes : ∀ x f, eventSafe f = true → (al x).fld f = x.fld f) (hn : n < 512) (h : s.flag (Fld.EVT_ROUTE_DSP n) = false)
    (hdrop : s.flag (Fld.EVT_ROUTE_DSP 476) = false) : (State.raiseWith al s n).dsp = s.dsp := by
  have hsafe {m : Nat} (hm : m < 512) : eventSafe (Fld.EVT_ROUTE_DSP m) = true := by simp [eventSafe, Reg.EVT_ROUTE, Reg.LIB_LOG_WP, Reg.LIB_LOG_DROP, Reg.LIB_STATUS, Reg.PWR_STATUS]; omega
  have hset {m : Nat} (hm : m < 512) : (s.setSticky n).flag (Fld.EVT_ROUTE_DSP m) = s.flag (Fld.EVT_ROUTE_DSP m) := by
    rw [State.flag, State.flag, State.fld_setSticky _ _ hn (hsafe hm)]
  unfold State.raiseWith
  extract_lets s1 sev s2
  have hs1 : s1.dsp = s.dsp := rfl
  have h2 : s2.dsp = s1.dsp ∧ s2.flag (Fld.EVT_ROUTE_DSP n) = false := by
    change (if _ then s1.logAppend al 1 sev n 0 [] else s1).dsp = s1.dsp ∧ (if _ then s1.logAppend al 1 sev n 0 [] else s1).flag _ = false
    split
    · refine ⟨State.logAppend_dsp _ hal ((hset (by decide)).trans hdrop) .., ?_⟩
      rw [State.flag, State.fld_logAppend al _ _ _ _ _ _ (fun x => hroutes x _ (hsafe hn)) (hsafe hn)]
      exact (hset hn).trans h
    · exact ⟨rfl, (hset hn).trans h⟩
  split
  · rfl
  · rw [s2.deliver_dsp n h2.2, h2.1, hs1]

/-- An event that is routed to no task leaves the dispatcher, its own alarm on the log included. -/
theorem State.raise_dsp (hn : n < 512) (h : s.flag (Fld.EVT_ROUTE_DSP n) = false) (hdrop : s.flag (Fld.EVT_ROUTE_DSP 476) = false) :
    (s.raise n).dsp = s.dsp :=
  s.raiseWith_dsp n
    (fun x hx => x.raiseWith_dsp 476 (fun _ _ => rfl) (fun _ _ _ => rfl) (by decide) hx hx)
    (fun x _ hf => State.fld_raiseWith id x 476 (by decide) (fun _ => rfl) hf) hn h hdrop

/-- The refusal of the Librarian, where its event goes to no task (R479). -/
theorem State.libRefuse_dsp (h : s.flag (Fld.EVT_ROUTE_DSP 475) = false) (hdrop : s.flag (Fld.EVT_ROUTE_DSP 476) = false) :
    s.libRefuse.dsp = s.dsp :=
  State.raise_dsp _ 475 (by decide) ((s.flag_setFlag_sep true rfl).trans h) ((s.flag_setFlag_sep true rfl).trans hdrop)

theorem State.libRefuse_spec : s.libRefuse.done.status = Code.denied ∧ s.libRefuse.flag Fld.LIB_STATUS_REFUSED = true ∧
    s.libRefuse.sticky 475 = true := by
  obtain ⟨hflag, hsticky⟩ := s.raiseBit_spec (f := Fld.LIB_STATUS_REFUSED) (n := 475) (by decide) rfl rfl rfl
  exact ⟨rfl, hflag, hsticky⟩

end

/-! ## A refused writer (R479) -/

/-- What a refused command leaves of the dispatcher. -/
def State.DspRefused (s t : State) (mid : Mid) : Prop :=
  t.done.status = Code.denied ∧ t.flag Fld.LIB_STATUS_REFUSED = true ∧ t.sticky 475 = true ∧
  t.dsp.tasks = s.dsp.tasks ∧ t.dsp.queue = s.dsp.queue ∧ t.dsp.running = s.dsp.running ∧
  t.dsp.delayList = s.dsp.delayList ∧ (isManager mid = true → Sparse.get 0 t.dsp.stat mid.toNat = Code.denied)

theorem State.dspCmd_refused (s : State) {mid : Mid} {hosts : Bool} {f : State → State} (hawake : s.awake Reg.DSP_CMD)
    (h0 : mid ≠ 0x00) (h1 : mid ≠ 0x01) (hhost : hosts = true → mid ≠ 0x08 ∧ mid ≠ 0x09)
    (hroute : s.flag (Fld.EVT_ROUTE_DSP 475) = false) (hdrop : s.flag (Fld.EVT_ROUTE_DSP 476) = false) :
    s.DspRefused (s.dspCmd mid hosts f) mid := by
  have hmid : (mid == 0x00 || mid == 0x01 || (hosts && (mid == 0x08 || mid == 0x09))) = false := by
    have hcore : (mid == 0x00) = false ∧ (mid == 0x01) = false := ⟨beq_eq_false_iff_ne.2 h0, beq_eq_false_iff_ne.2 h1⟩
    rw [hcore.1, hcore.2]
    cases hosts with
    | false => rfl
    | true =>
      obtain ⟨h8, h9⟩ := hhost rfl
      rw [beq_eq_false_iff_ne.2 h8, beq_eq_false_iff_ne.2 h9]
      rfl
  rw [State.dspCmd, State.gate_of_awake hawake, State.dspBy, hmid, if_neg Bool.false_ne_true]
  split
  · obtain ⟨hstatus, hflag, hsticky⟩ := (s.dspStat mid Code.denied).libRefuse_spec
    have hdsp : (s.dspStat mid Code.denied).libRefuse.dsp = (s.dspStat mid Code.denied).dsp :=
      (s.dspStat mid Code.denied).libRefuse_dsp hroute hdrop
    refine ⟨hstatus, hflag, hsticky, ?_⟩
    rw [hdsp]
    exact ⟨rfl, rfl, rfl, rfl, fun _ => Sparse.get_put_same 0 s.dsp.stat mid.toNat Code.denied⟩
  next hmanager =>
    obtain ⟨hstatus, hflag, hsticky⟩ := s.libRefuse_spec
    refine ⟨hstatus, hflag, hsticky, ?_⟩
    rw [s.libRefuse_dsp hroute hdrop]
    exact ⟨rfl, rfl, rfl, rfl, fun h => absurd h hmanager⟩

/-! ## The tick (R474) -/

/-- A count that falls by 1. -/
def Task.ticked (t : Task) : Task :=
  match t.delay with
  | some d => { t with delay := some { d with count := d.count - 1 } }
  | none => t

/-- A task whose delay expires. -/
def Task.expire (t : Task) : Task :=
  match t.delay with
  | some d => if d.timeout && t.active then { t with delay := none, expired := true } else { t with delay := none }
  | none => t

/-- A task whose count has run down expires. -/
def Task.due (t : Task) : Task :=
  match t.delay with
  | some d => if d.count = 0 then t.expire else t
  | none => t

def State.countDown (s : State) (n : Nat) : State :=
  match (s.task n).delay with
  | some d => s.setTask n { s.task n with delay := some { d with count := d.count - 1 } }
  | none => s

def State.expireDue (s : State) (n : Nat) : State :=
  match (s.task n).delay with
  | some d => if d.count = 0 then s.expireTask n else s
  | none => s

theorem State.dspTick_eq (s : State) : s.dspTick =
    ((s.dsp.delayList.foldl State.countDown s).dsp.delayList.foldl State.expireDue (s.dsp.delayList.foldl State.countDown s)).dspSettle := by
  unfold State.dspTick
  rfl

section
variable (s : State) {n m : Nat}

theorem State.task_countDown_same : (s.countDown n).task n = (s.task n).ticked := by
  unfold State.countDown Task.ticked
  split
  next d h => rw [State.task_setTask_same]
  next h => rfl

theorem State.countDown_other (h : m ≠ n) : (s.countDown n).task m = s.task m := by
  unfold State.countDown
  split
  · exact s.task_setTask_other _ h
  · rfl

theorem State.delayList_countDown : (s.countDown n).dsp.delayList = s.dsp.delayList := by
  unfold State.countDown
  split <;> rfl

theorem State.task_expireTask_same : (s.expireTask n).task n = (s.task n).expire := by
  have hout := s.task_undelayTask_same (n := n)
  unfold State.expireTask Task.expire
  cases h : (s.task n).delay with
  | none => rfl
  | some d =>
    dsimp only
    have hactive : ((s.undelayTask n).task n).active = (s.task n).active := by rw [hout]
    rw [hactive]
    split
    · rw [State.task_setTask_same, hout]
    · exact hout

theorem State.expireTask_other (h : m ≠ n) : (s.expireTask n).task m = s.task m := by
  have hout := s.task_undelayTask_other (n := n) h
  unfold State.expireTask
  split
  · rfl
  · dsimp only
    split
    · exact (State.task_setTask_other _ _ h).trans hout
    · exact hout

theorem State.task_expireDue_same : (s.expireDue n).task n = (s.task n).due := by
  unfold State.expireDue Task.due
  split
  · split
    · exact s.task_expireTask_same
    · rfl
  · rfl

theorem State.expireDue_other (h : m ≠ n) : (s.expireDue n).task m = s.task m := by
  unfold State.expireDue
  split
  · split
    · exact s.expireTask_other h
    · rfl
  · rfl

end

/-- A walk over different tasks does to each what it does to one. -/
theorem State.task_foldl {g : State → Nat → State} {h : Task → Task} (hsame : ∀ (s : State) (n : Nat), (g s n).task n = h (s.task n))
    (hother : ∀ (s : State) (n m : Nat), m ≠ n → (g s n).task m = s.task m) (l : List Nat) (hl : l.Nodup) (s : State) (n : Nat)
    (hn : n ∈ l) : (l.foldl g s).task n = h (s.task n) := by
  have houtside (l : List Nat) (s : State) (hn : n ∉ l) : (l.foldl g s).task n = s.task n := by
    induction l generalizing s with
    | nil => rfl
    | cons x l ih =>
      obtain ⟨hx, hl⟩ := List.ne_and_not_mem_of_not_mem_cons hn
      exact (ih _ hl).trans (hother s x n hx)
  induction l generalizing s with
  | nil => exact absurd hn List.not_mem_nil
  | cons x l ih =>
    obtain ⟨hx, hl⟩ := List.nodup_cons.1 hl
    rcases List.mem_cons.1 hn with rfl | hmem
    · exact (houtside l _ hx).trans (hsame s n)
    · exact (ih hl _ hmem).trans (congrArg h (hother s x n (fun hnx => hx (hnx ▸ hmem))))

theorem State.delayList_countDowns (l : List Nat) (s : State) : (l.foldl State.countDown s).dsp.delayList = s.dsp.delayList :=
  List.foldlRecOn (motive := fun u : State => u.dsp.delayList = s.dsp.delayList) l State.countDown rfl
    fun u hu _ _ => u.delayList_countDown.trans hu

/-- A delayed task after a tick. -/
theorem State.task_dspTick (s : State) (hnodup : s.dsp.delayList.Nodup) {n : Nat} (hn : n < 64) (hmem : n ∈ s.dsp.delayList) :
    s.dspTick.task n = (s.task n).ticked.due.settled := by
  rw [s.dspTick_eq, State.dspSettle_task, if_pos hn, State.delayList_countDowns,
    State.task_foldl State.task_expireDue_same (fun u _ _ h => u.expireDue_other h) _ hnodup _ _ hmem,
    State.task_foldl State.task_countDown_same (fun u _ _ h => u.countDown_other h) _ hnodup _ _ hmem]

/-- What a tick makes of a task whose count is at least 1. -/
theorem Task.tick_spec (t : Task) (d : TaskDelay) (hd : t.delay = some d) (hcount : 1 ≤ d.count) :
    t.ticked.due.settled.delay = (if d.count = 1 ∨ (d.timeout && t.active && t.matched) = true then none
      else some { d with count := d.count - 1 }) ∧
    (d.count = 1 → d.timeout = true → t.active = true → t.ticked.due.settled.expired = true) ∧
    t.ticked.due.settled.flags = t.flags ∧ t.ticked.due.settled.bind = t.bind := by
  have hticked : t.ticked = { t with delay := some { d with count := d.count - 1 } } := by rw [Task.ticked, hd]
  by_cases hone : d.count = 1
  · have hdue : t.ticked.due = t.ticked.expire := by
      rw [Task.due, hticked, hone]
      rfl
    have hexpire : t.ticked.expire = if d.timeout && t.active then { t with delay := none, expired := true } else { t with delay := none } := by
      rw [Task.expire, hticked]
    rw [hdue, hexpire, if_pos (Or.inl hone)]
    split
    · exact ⟨by rw [Task.settled_of_none _ rfl], fun _ _ _ => Task.settled_expired _, Task.settled_flags _, Task.settled_bind _⟩
    next h =>
      refine ⟨by rw [Task.settled_of_none _ rfl], fun _ htimeout hactive => absurd ?_ h, Task.settled_flags _, Task.settled_bind _⟩
      rw [htimeout, hactive]
      rfl
  · have hdue : t.ticked.due = t.ticked := by
      rw [Task.due, hticked]
      exact if_neg (by change ¬ d.count - 1 = 0; omega)
    rw [hdue, Task.settled_delay, Task.settled_flags, Task.settled_bind, hticked]
    refine ⟨?_, fun h => absurd h hone, rfl, rfl⟩
    simp only [hone, false_or]
    rfl

/-! ## The obligation -/

theorem completes_delayExpiry (s : State) (n : Fin 64) (d : TaskDelay) (hd : (s.task n).delay = some d) (hcount : d.count = 0) :
    Completes (.delayExpiry n) s fun t => (t.task n).delay = none ∧ n.val ∉ t.dsp.delayList ∧ OnlyEv [] s t := by
  have hexec : exec (.delayExpiry n) s = .next (s.expireTask n).dspSettle := by
    change Host.Outcome.next _ = _
    rw [hd]
    exact congrArg Host.Outcome.next (if_pos hcount)
  have htask := s.task_expireTask_same (n := n)
  have hnone : ((s.expireTask n).task n).delay = none := by
    rw [htask, Task.expire, hd]
    dsimp only
    split <;> rfl
  have hlist : n.val ∉ (s.expireTask n).dsp.delayList ∧ OnlyEv [] s (s.expireTask n) := by
    have hout : n.val ∉ (s.undelayTask n).dsp.delayList := fun h => (s.mem_delayList_undelayTask.1 h).2 rfl
    have hev : OnlyEv [] s (s.undelayTask n) := (OnlyEv.refl [] s).withDsp _
    rw [State.expireTask, hd]
    dsimp only
    split
    · exact ⟨hout, hev.withDsp _⟩
    · exact ⟨hout, hev⟩
  obtain ⟨hmem, hev⟩ := hlist
  generalize s.expireTask n = u at hexec hnone hmem hev
  obtain ⟨hall, hsettled, -, -⟩ := u.dspSettle_spec
  refine ⟨_, hexec, ?_, fun h => hmem ((hsettled n).1 h).1, hev.trans u.dspSettle_onlyEv⟩
  rw [hall, if_pos n.isLt, Task.settled_of_none _ hnone, hnone]

/-- Settles O7: a refused writer reaches no task, and a tick walks over the delay list twice. -/
theorem dispatcherRefusal : Obligations.DispatcherRefusal := by
  unfold Obligations.DispatcherRefusal
  refine ⟨fun mid n s c hawake h0 h1 hc hroute hdrop => ?_, fun s htick hnodup => ⟨?_, fun n d => completes_delayExpiry s n d⟩⟩
  · have hany {f : State → State} {c : Instr} (hexec : exec c s = .next (s.dspCmd mid false f)) :
        Completes c s fun t => s.DspRefused t mid :=
      ⟨_, hexec, s.dspCmd_refused hawake h0 h1 (fun h => absurd h (by decide)) hroute hdrop⟩
    rcases hc with rfl | rfl | rfl | rfl | rfl | rfl | rfl | rfl | ⟨d, rfl⟩ | ⟨a, b, d, e, rfl⟩ | ⟨rfl, h8, h9⟩
    iterate 10 exact hany rfl
    exact ⟨_, rfl, s.dspCmd_refused hawake h0 h1 (fun _ => ⟨h8, h9⟩) hroute hdrop⟩
  · have hexec : exec .dispatcherTick s = .next s.dspTick :=
      congrArg Host.Outcome.next (if_neg fun h => htick (BitVec.eq_of_toNat_eq h))
    refine ⟨_, hexec, fun n hn hmem d hd hcount => ?_⟩
    rw [s.task_dspTick hnodup hn hmem]
    exact (s.task n).tick_spec d hd hcount

end Sys2Proof.Machine


/-! PROOFS.  A start of a core: the dispatcher under the resets of carrel ends, and the wakes that LIB_CTRL asks for (R452, R494, R512). -/

namespace Sys2Proof.Machine

/-! ## What the cores run, under events and doorbells -/

/-- From `s` to `t` each core runs the task that it ran. -/
def RunsKept (s t : State) : Prop := t.dsp.running = s.dsp.running

section
variable {s t u : State}

theorem RunsKept.refl (s : State) : RunsKept s s := rfl

theorem RunsKept.trans (h : RunsKept s t) (h' : RunsKept t u) : RunsKept s u := Eq.trans h' h

theorem RunsKept.of_dsp (h : t.dsp = s.dsp) : RunsKept s t := congrArg DispatcherSt.running h

theorem RunsKept.ite {c : Prop} [Decidable c] (ht : RunsKept s t) (hu : RunsKept s u) : RunsKept s (if c then t else u) := by
  split
  · exact ht
  · exact hu

theorem RunsKept.foldl {α : Type} (g : State → α → State) (l : List α) (hg : ∀ t, ∀ x ∈ l, RunsKept t (g t x)) (h : RunsKept s t) :
    RunsKept s (l.foldl g t) :=
  List.foldlRecOn l g h fun u hu x hx => hu.trans (hg u x hx)

theorem RunsKept.setReg (h : RunsKept s t) (a : Nat) (v : Word32) : RunsKept s (t.setReg a v) := h

theorem RunsKept.exitSource (h : RunsKept s t) (src idx : Nat) (x y z : Bool) : RunsKept s (t.exitSource src idx x y z) :=
  h.trans (.of_dsp (State.exitSource_dsp ..))

theorem RunsKept.dspFlags (h : RunsKept s t) (n : Nat) (bits : Word32) : RunsKept s (t.dspFlags n bits) :=
  h.trans (by rw [RunsKept, State.dspFlags, State.dspSettle_running]; rfl)

theorem RunsKept.logDrop {al : State → State} (hal : ∀ x, RunsKept x (al x)) (h : RunsKept s t) : RunsKept s (t.logDrop al) := by
  have hcount : RunsKept s (({ t with lib := { t.lib with dropped := t.lib.dropped + 1 } } : State).countReg Reg.LIB_LOG_DROP) :=
    h.trans (.of_dsp (State.countReg_dsp _ _))
  exact (hcount.setReg _ _).trans (hal _)

theorem RunsKept.logAppend {al : State → State} (hal : ∀ x, RunsKept x (al x)) (h : RunsKept s t) (k v c m : Nat) (p : List Nat) :
    RunsKept s (t.logAppend al k v c m p) := by
  unfold State.logAppend
  extract_lets kept s1
  have h1 : RunsKept s s1 := .ite h h
  exact .ite (h.logDrop hal) (.ite (h1.logDrop hal) h1)

theorem RunsKept.deliver (h : RunsKept s t) (n : Nat) : RunsKept s (t.deliver n) := by
  unfold State.deliver
  extract_lets sev vec s1 s2 s3
  have h1 : RunsKept s s1 := .ite (h.dspFlags _ _) h
  have hfire : RunsKept s (s1.msixFire vec) := by
    unfold State.msixFire
    extract_lets masked
    exact .ite h1 h1
  have h2 : RunsKept s s2 := .ite (.ite h1 hfire) h1
  have h3 : RunsKept s s3 := .ite h2 h2
  exact .ite (h3.exitSource _ _ _ _ _) h3

theorem RunsKept.raiseWith {al : State → State} (hal : ∀ x, RunsKept x (al x)) (h : RunsKept s t) (n : Nat) :
    RunsKept s (State.raiseWith al t n) := by
  have hsticky : RunsKept s (t.setSticky n) := h
  unfold State.raiseWith
  extract_lets s1 sev s2
  have h2 : RunsKept s s2 := .ite (hsticky.logAppend hal _ _ _ _ _) hsticky
  exact .ite h (h2.deliver n)

theorem RunsKept.raise (h : RunsKept s t) (n : Nat) : RunsKept s (t.raise n) :=
  h.raiseWith (fun x => (RunsKept.refl x).raiseWith (fun y => .refl y) 476) n

theorem RunsKept.carrelBit (h : RunsKept s t) (c b : Nat) : RunsKept s (t.carrelBit c b) :=
  .ite h ((h.setReg _ _).raise _)

theorem RunsKept.wakeDomain (h : RunsKept s t) (d src idx : Nat) : RunsKept s (t.wakeDomain d src idx) := .ite h (.ite h h)

theorem RunsKept.doorbell (h : RunsKept s t) (c e : Nat) (bits : List Nat) (flag : Option Nat) : RunsKept s (t.doorbell c e bits flag) := by
  have hbits : RunsKept s (t.bellBits c e bits) := .foldl _ _ (fun u b _ => (RunsKept.refl u).carrelBit c _) h
  rw [State.doorbell_eq]
  generalize t.bellBits c e bits = u at hbits ⊢
  have hflag : RunsKept s (u.bellFlag c e flag) := by
    cases flag with
    | none => exact hbits
    | some fl => exact .ite (hbits.dspFlags _ _) hbits
  exact .ite (.ite ((hflag.wakeDomain _ _ _).exitSource _ _ _ _ _) hflag) hbits

theorem RunsKept.resetEnd (h : RunsKept s t) (c e : Nat) : RunsKept s (t.resetEnd c e) := by
  have hset : RunsKept s ((t.setSlot c (1 - e) { t.slot c (1 - e) with full := false, timed := false }).setCEnd c (1 - e)
      { t.cEnd c (1 - e) with code := Code.discard }) := h
  have hdiscarded : RunsKept s (t.discarded c (1 - e)) := hset.doorbell _ _ _ _
  rw [State.resetEnd_eq]
  have hrun : RunsKept s (if (t.slot c (1 - e)).full then t.discarded c (1 - e) else t) := .ite hdiscarded h
  exact hrun

theorem RunsKept.resetEndsOf (h : RunsKept s t) (mid : Nat) : RunsKept s (t.resetEndsOf mid) := by
  refine .foldl _ _ (fun u c _ => ?_) h
  have hA : RunsKept u (if u.boundTo c 0 = mid then u.resetEnd c 0 else u) := .ite ((RunsKept.refl u).resetEnd c 0) (.refl u)
  exact .ite (hA.resetEnd c 1) hA

end

/-! ## Resets of ends that read no full slot (R494) -/

/-- No carrel's slot is full. -/
def State.slotsEmpty (s : State) : Prop := ∀ c < 32, ∀ e < 2, (s.slot c e).full = false

/-- From `s` to `t` the slots stay empty, and then the dispatcher is as it was. -/
def HushKept (s t : State) : Prop := s.slotsEmpty → t.slotsEmpty ∧ t.dsp = s.dsp

section
variable {s t u : State}

theorem HushKept.refl (s : State) : HushKept s s := fun h => ⟨h, rfl⟩

theorem HushKept.trans (h : HushKept s t) (h' : HushKept t u) : HushKept s u := fun hs => by
  obtain ⟨ht, hdsp⟩ := h hs
  obtain ⟨hu, hdsp'⟩ := h' ht
  exact ⟨hu, hdsp'.trans hdsp⟩

theorem HushKept.of_parts (hcrl : t.crl = s.crl) (hdsp : t.dsp = s.dsp) : HushKept s t :=
  fun h => ⟨fun c hc e he => by rw [State.slot_congr hcrl]; exact h c hc e he, hdsp⟩

theorem HushKept.ite {c : Prop} [Decidable c] (ht : HushKept s t) (hu : HushKept s u) : HushKept s (if c then t else u) := by
  split
  · exact ht
  · exact hu

theorem HushKept.foldl {α : Type} (g : State → α → State) (l : List α) (hg : ∀ t, ∀ x ∈ l, HushKept t (g t x)) (h : HushKept s t) :
    HushKept s (l.foldl g t) :=
  List.foldlRecOn l g h fun u hu x hx => hu.trans (hg u x hx)

theorem HushKept.resetEnd (s : State) {c e : Nat} (hc : c < 32) : HushKept s (s.resetEnd c e) := fun h => by
  rw [s.resetEnd_of_empty (h c hc (1 - e) (by omega))]
  exact ⟨h, rfl⟩

theorem HushKept.resetEndsOf (s : State) (mid : Nat) : HushKept s (s.resetEndsOf mid) := by
  refine .foldl _ _ (fun u c hc => ?_) (.refl s)
  have hc := List.mem_range.1 hc
  have hA : HushKept u (if u.boundTo c 0 = mid then u.resetEnd c 0 else u) := .ite (.resetEnd u hc) (.refl u)
  exact .ite (hA.trans (.resetEnd _ hc)) hA

end

/-! ## The wakes of the domains that a hold has risen for (R512) -/

/-- The states of the domains. -/
def wakeFields : List Field := (List.range 88).map fun d => wholeReg (Reg.PWR_DSTAT d)

theorem wakeFields_apart {g : Field} (h : g.addr < 0x201200 ∨ 0x201360 ≤ g.addr) : ∀ f ∈ wakeFields, f.apart g := by
  intro f hf
  obtain ⟨d, hd, rfl⟩ := List.mem_map.1 hf
  have := List.mem_range.1 hd
  exact Or.inl (by simp only [wholeReg, Reg.PWR_DSTAT]; omega)

section
variable (s : State) (mid : Nat)

theorem State.wakeHolds_onlyEv : OnlyEv wakeFields s (s.wakeHolds mid) :=
  .ite (OnlyEv.foldl _ _ (fun _ d hd h => .ite (h.wakeDomain d 3 mid (List.mem_map.2 ⟨d, hd, rfl⟩)) h) (.refl _ s)) (.refl _ s)

theorem State.wakeHolds_runsKept : RunsKept s (s.wakeHolds mid) :=
  .ite (.foldl _ _ (fun u d _ => .ite ((RunsKept.refl u).wakeDomain d 3 mid) (.refl u)) (.refl s)) (.refl s)

theorem State.wakeHolds_hushKept : HushKept s (s.wakeHolds mid) :=
  .ite (.foldl _ _ (fun u _ _ => .ite (.ite (.refl u) (.ite (.of_parts rfl rfl) (.refl u))) (.refl u)) (.refl s)) (.refl s)

end

end Sys2Proof.Machine


/-! PROOFS.  Start, hold and restart of the cores, and their bus and SRAM errors (R452, R456, R457, R461). -/

namespace Sys2Proof.Machine

/-! ## The word that a command writes to LIB_CTRL -/

/-- LIB_CTRL with bits set and cleared, its write-only bits else 0. -/
def ctrlWord (old set clear : Word32) : Word32 := (old &&& ~~~ (clear ||| 0x26)) ||| set

theorem bitOf_ctrlWord (old set clear : Word32) {i : Nat} (hi : i < 32) :
    bitOf (ctrlWord old set clear).toNat i = ((old.getLsbD i && !(clear.getLsbD i || (0x26 : Word32).getLsbD i)) || set.getLsbD i) := by
  change (ctrlWord old set clear).getLsbD i = _
  rw [ctrlWord, BitVec.getLsbD_or, BitVec.getLsbD_and, BitVec.getLsbD_not, BitVec.getLsbD_or, decide_eq_true hi, Bool.true_and]

/-- A write of LIB_CTRL that leaves DBG_EN stores, and C1_RUN takes the value written. -/
theorem State.storeReg_LIB_CTRL (s : State) (v : Word32) (hdbg : v.getLsbD 30 = (s.reg Reg.LIB_CTRL).getLsbD 30) :
    ∃ w : Word32, s.storeReg Reg.LIB_CTRL v = (s.setReg Reg.LIB_CTRL w).reply Code.ok ∧ w.getLsbD 0 = v.getLsbD 0 := by
  have hrow : Reg.row Reg.LIB_CTRL = some ⟨0x1000000, [], 0x0, 0x19, 0x0, 0x80000000, 0x40000000, false⟩ := by decide +kernel
  have hsame : (s.reg Reg.LIB_CTRL ^^^ v) &&& BitVec.ofNat 32 (2 ^ 30) = 0 := by
    ext i hi
    rw [← BitVec.getLsbD_eq_getElem, BitVec.getLsbD_and, BitVec.getLsbD_xor, getLsbD_ofNat_two_pow (by decide)]
    by_cases h : 30 = i
    · subst h
      rw [hdbg, Bool.xor_self, Bool.false_and]
      simp
    · simp [h]
  have hattempt (locked : Bool) : (⟨0x1000000, [], 0x0, 0x19, 0x0, 0x80000000, 0x40000000, false⟩ : RegRow).attempt locked
      (s.reg Reg.LIB_CTRL) v = false :=
    (congrArg (fun x : Word32 => locked && x != 0) hsame).trans (by cases locked <;> rfl)
  rw [State.storeReg, hrow]
  dsimp only
  rw [hattempt]
  refine ⟨_, rfl, ?_⟩
  rw [RegRow.written]
  generalize s.flag (lockOf Reg.LIB_CTRL) = locked
  cases locked <;> simp

/-! ## What follows the write of LIB_CTRL -/

/-- What the resets of carrel ends and the wakes of domains may write. -/
def restartFields : List Field := allBells ++ wakeFields

theorem restartFields_apart {g : Field} (h : 0x1000000 ≤ g.addr) (hhigh : g.addr < 0x1200400) : ∀ f ∈ restartFields, f.apart g := by
  intro f hf
  rcases List.mem_append.1 hf with hf | hf
  · exact allBells_apart (Or.inr (Or.inl ⟨by omega, hhigh⟩)) f hf
  · exact wakeFields_apart (Or.inr (by omega)) f hf

/-- What of the cores a command of LIB_CTRL sets itself, and what its resets and wakes leave. -/
structure CoreSet (s t : State) : Prop where
  frame : OnlyCrl restartFields s t
  hush : HushKept s t
  run : RunsKept s t

section
variable {s t u : State}

theorem CoreSet.refl (s : State) : CoreSet s s := ⟨.refl _ s, .refl s, .refl s⟩

theorem CoreSet.trans (h : CoreSet s t) (h' : CoreSet t u) : CoreSet s u :=
  ⟨h.frame.trans h'.frame, h.hush.trans h'.hush, h.run.trans h'.run⟩

theorem CoreSet.lib (h : CoreSet s t) {α : Type} (g : LibrarianSt → α) (hg : ∀ l : LibrarianSt, g { l with log := [], dropped := 0 } = g l) :
    g t.lib = g s.lib :=
  (hg _).symm.trans ((congrArg (fun x : State => g x.lib) h.frame.1).trans (hg _))

theorem CoreSet.fld (h : CoreSet s t) {g : Field} (hlow : 0x1000000 ≤ g.addr) (hhigh : g.addr < 0x1200400) (hs : eventSafe g = true) :
    t.fld g = s.fld g := h.frame.2 g hs (restartFields_apart hlow hhigh)

theorem CoreSet.flag (h : CoreSet s t) {g : Field} (hlow : 0x1000000 ≤ g.addr) (hhigh : g.addr < 0x1200400) (hs : eventSafe g = true) :
    t.flag g = s.flag g := by rw [State.flag, h.fld hlow hhigh hs, State.flag]

end

theorem State.resetEndsOf_coreSet (s : State) (mid : Nat) : CoreSet s (s.resetEndsOf mid) :=
  ⟨(s.resetEndsOf_frame mid).1.mono fun _ h => List.mem_append_left _ h, .resetEndsOf s mid, (RunsKept.refl s).resetEndsOf mid⟩

theorem State.wakeHolds_coreSet (s : State) (mid : Nat) : CoreSet s (s.wakeHolds mid) :=
  ⟨.of_ev ((s.wakeHolds_onlyEv mid).mono fun _ h => List.mem_append_right _ h), s.wakeHolds_hushKept mid, s.wakeHolds_runsKept mid⟩

/-! ## Writes of LIB_CTRL -/

/-- LIB_CTRL written. -/
def State.controlled (s : State) (w : Word32) : State := (s.setReg Reg.LIB_CTRL w).reply Code.ok

/-- LIB_CTRL written with some bits set and cleared, as the steps that follow it. -/
theorem State.libCtrlBits_eq (s : State) {mid : Mid} (hmid : isManager mid = true) (hawake : s.awake Reg.LIB_CTRL) (set clear : Word32)
    (hset : set.getLsbD 30 = false) (hclear : clear.getLsbD 30 = false) :
    ∃ w : Word32, w.getLsbD 0 = (((s.reg Reg.LIB_CTRL).getLsbD 0 && !clear.getLsbD 0) || set.getLsbD 0) ∧
      s.libCtrlBits mid set clear =
        (let s1 := (s.controlled w).coreOneRun (s.flag Fld.LIB_CTRL_C1_RUN) (((s.reg Reg.LIB_CTRL).getLsbD 0 && !clear.getLsbD 0) || set.getLsbD 0)
         let s2 := if set.getLsbD 1 then s1.coreRestart 0 1 else s1
         let s3 := if set.getLsbD 2 then s2.coreRestart 1 1 else s2
         let s4 := s3.wakeHolds mid.toNat
         if set.getLsbD 5 then s4.fwReload else s4) := by
  have hbit {i : Nat} (hi : i < 32) := bitOf_ctrlWord (s.reg Reg.LIB_CTRL) set clear hi
  have hmasked {i : Nat} (hi : i < 32) : ((ctrlWord (s.reg Reg.LIB_CTRL) set clear) &&& ~~~ (0x26 : Word32)).getLsbD i =
      (bitOf (ctrlWord (s.reg Reg.LIB_CTRL) set clear).toNat i && !(0x26 : Word32).getLsbD i) := by
    rw [BitVec.getLsbD_and, BitVec.getLsbD_not, decide_eq_true hi, Bool.true_and]
    rfl
  obtain ⟨w, hstore, hw⟩ := s.storeReg_LIB_CTRL (ctrlWord (s.reg Reg.LIB_CTRL) set clear &&& ~~~ (0x26 : Word32)) (by
    rw [hmasked (by decide), hbit (by decide), hset, hclear]
    simp)
  refine ⟨w, ?_, ?_⟩
  · rw [hw, hmasked (by decide), hbit (by decide)]
    simp
  · have h0 : bitOf (ctrlWord (s.reg Reg.LIB_CTRL) set clear).toNat 0 =
        (((s.reg Reg.LIB_CTRL).getLsbD 0 && !clear.getLsbD 0) || set.getLsbD 0) := by
      rw [hbit (by decide)]
      simp
    have h1 : bitOf (ctrlWord (s.reg Reg.LIB_CTRL) set clear).toNat 1 = set.getLsbD 1 := by rw [hbit (by decide)]; simp
    have h2 : bitOf (ctrlWord (s.reg Reg.LIB_CTRL) set clear).toNat 2 = set.getLsbD 2 := by rw [hbit (by decide)]; simp
    have h5 : bitOf (ctrlWord (s.reg Reg.LIB_CTRL) set clear).toNat 5 = set.getLsbD 5 := by rw [hbit (by decide)]; simp
    rw [State.libCtrlBits]
    change s.gate mid Reg.LIB_CTRL _ (fun s' => s'.libCtrlWrite mid (ctrlWord (s.reg Reg.LIB_CTRL) set clear)) = _
    rw [State.gate_of_awake hawake, State.libCtrlWrite, hmid, hstore, h0, h1, h2, h5]
    rfl

/-- C1_RUN as LIB_CTRL holds it. -/
theorem State.flag_C1_RUN (s : State) : s.flag Fld.LIB_CTRL_C1_RUN = (s.reg Reg.LIB_CTRL).getLsbD 0 := s.flag_eq_bitOf rfl

theorem State.flag_C1_RUN_controlled (s : State) (w : Word32) : (s.controlled w).flag Fld.LIB_CTRL_C1_RUN = w.getLsbD 0 := by
  rw [State.flag_C1_RUN, State.controlled, State.reg_reply, State.reg_setReg_same]

end Sys2Proof.Machine


/-! PROOFS.  The commands of LIB_CTRL (R452, R461, R482), and the errors of the cores' buses and SRAM (R456, R457). -/

namespace Sys2Proof.Machine

/-! ## The parts of a start -/

/-- A core's entry, before the ends bound to it are reset. -/
def State.withEntry (s : State) (k addr : Nat) : State :=
  { s with lib := { s.lib with entry := Sparse.put 0 s.lib.entry k addr, halted := Sparse.put false s.lib.halted k false } }

/-- Core 1 held in reset, or let go. -/
def State.withHeld (s : State) (b : Bool) : State := { s with lib := { s.lib with c1Held := b } }

/-- The restart cause of a core. -/
def causeField (k : Nat) : Field := if k = 0 then Fld.LIB_RST_CAUSE_C0 else Fld.LIB_RST_CAUSE_C1

section
variable (s : State) (k : Nat)

theorem State.coreAt_coreSet (addr : Nat) : CoreSet (s.withEntry k addr) (s.coreAt k addr) := State.resetEndsOf_coreSet (s.withEntry k addr) k

theorem State.entry_withEntry (addr : Nat) : Sparse.get 0 (s.withEntry k addr).lib.entry k = addr :=
  Sparse.get_put_same 0 s.lib.entry k addr

theorem causeField_sep : (causeField k).sep Fld.LIB_CTRL_C1_RUN = true := by
  unfold causeField
  split <;> rfl

theorem State.fld_startCause {c : Nat} (hc : c < 8) : (s.startCause k c).fld (causeField k) = c := by
  change (s.setFld (causeField k) c).fld (causeField k) = c
  refine (State.fld_setFld_same s (causeField k) c ?_).trans (Nat.mod_eq_of_lt ?_)
  · unfold causeField
    split <;> rfl
  · unfold causeField
    split <;> exact hc

theorem State.flag_C1_RUN_startCause (c : Nat) : (s.startCause k c).flag Fld.LIB_CTRL_C1_RUN = s.flag Fld.LIB_CTRL_C1_RUN :=
  s.flag_setFld_sep c (causeField_sep k)

theorem causeField_low : 0x1000000 ≤ (causeField k).addr := by unfold causeField; split <;> decide
theorem causeField_high : (causeField k).addr < 0x1200400 := by unfold causeField; split <;> decide
theorem causeField_safe : eventSafe (causeField k) = true := by unfold causeField; split <;> decide

end

section
variable {s t : State} (h : CoreSet s t)
include h

theorem CoreSet.c1Run : t.flag Fld.LIB_CTRL_C1_RUN = s.flag Fld.LIB_CTRL_C1_RUN := h.flag (by decide) (by decide) rfl

theorem CoreSet.cause (k : Nat) : t.fld (causeField k) = s.fld (causeField k) :=
  h.fld (causeField_low k) (causeField_high k) (causeField_safe k)

theorem CoreSet.c1Held : t.lib.c1Held = s.lib.c1Held := h.lib LibrarianSt.c1Held fun _ => rfl
theorem CoreSet.entry : t.lib.entry = s.lib.entry := h.lib LibrarianSt.entry fun _ => rfl
theorem CoreSet.sram : t.lib.sram = s.lib.sram := h.lib LibrarianSt.sram fun _ => rfl
theorem CoreSet.romWait : t.lib.romWait = s.lib.romWait := h.lib LibrarianSt.romWait fun _ => rfl
theorem CoreSet.seq : t.seq = s.seq := (congrArg (fun x : State => x.seq) h.frame.1 :)
theorem CoreSet.arr : t.arr = s.arr := (congrArg (fun x : State => x.arr) h.frame.1 :)

end

section
variable {s : State} {mid : Mid} (hmid : isManager mid = true) (hawake : s.awake Reg.LIB_CTRL)
include hmid hawake

/-! ## C1_RUN, RST0 and RST1 (R452) -/

theorem completes_c1Run_start (hrun : s.flag Fld.LIB_CTRL_C1_RUN = false) : Completes (.c1Run mid true) s fun t =>
    t.flag Fld.LIB_CTRL_C1_RUN = true ∧ t.lib.c1Held = false ∧ Sparse.get 0 t.lib.entry 1 = (s.reg Reg.LIB_C1_ENTRY).toNat ∧
    t.lib.sram = s.lib.sram ∧ (s.slotsEmpty → t.dsp = s.dsp) := by
  obtain ⟨w, hw, heq⟩ := s.libCtrlBits_eq hmid hawake 1 0 rfl rfl
  have hwas := s.flag_C1_RUN.symm.trans hrun
  rw [hwas] at hw
  have hentry : (s.controlled w).coreEntry 1 = (s.reg Reg.LIB_C1_ENTRY).toNat :=
    congrArg BitVec.toNat (State.reg_setReg_other (a := Reg.LIB_CTRL) (b := Reg.LIB_C1_ENTRY) s w (by decide))
  have hset : CoreSet (((s.controlled w).withHeld false).withEntry 1 (s.reg Reg.LIB_C1_ENTRY).toNat)
      ((((s.controlled w).withHeld false).coreAt 1 (s.reg Reg.LIB_C1_ENTRY).toNat).wakeHolds mid.toNat) :=
    (State.coreAt_coreSet _ 1 _).trans (State.wakeHolds_coreSet _ _)
  refine .of_eq (t := (((s.controlled w).withHeld false).coreAt 1 (s.reg Reg.LIB_C1_ENTRY).toNat).wakeHolds mid.toNat) rfl
    (heq.trans (by rw [hrun, hwas, ← hentry]; rfl)) ⟨?_, hset.c1Held, ?_, hset.sram, fun hs => (hset.hush hs).2⟩
  · exact hset.c1Run.trans ((s.flag_C1_RUN_controlled w).trans hw)
  · rw [hset.entry]
    exact State.entry_withEntry _ _ _

theorem completes_c1Run_hold (hrun : s.flag Fld.LIB_CTRL_C1_RUN = true) : Completes (.c1Run mid false) s fun t =>
    t.flag Fld.LIB_CTRL_C1_RUN = false ∧ t.lib.c1Held = true ∧ t.fld Fld.LIB_RST_CAUSE_C1 = 4 ∧
    t.lib.sram = s.lib.sram ∧ (s.slotsEmpty → t.dsp = s.dsp) := by
  obtain ⟨w, hw, heq⟩ := s.libCtrlBits_eq hmid hawake 0 1 rfl rfl
  have hwas := s.flag_C1_RUN.symm.trans hrun
  rw [hwas] at hw
  have hset := (((s.controlled w).withHeld true).startCause 1 4).wakeHolds_coreSet mid.toNat
  refine .of_eq (t := (((s.controlled w).withHeld true).startCause 1 4).wakeHolds mid.toNat) rfl
    (heq.trans (by rw [hrun, hwas]; rfl)) ⟨?_, hset.c1Held, ?_, hset.sram, fun hs => (hset.hush hs).2⟩
  · exact hset.c1Run.trans ((State.flag_C1_RUN_startCause _ 1 4).trans ((s.flag_C1_RUN_controlled w).trans hw))
  · exact (hset.cause 1).trans (State.fld_startCause _ 1 (by decide))

omit hmid hawake in
/-- A core restarted by a write of LIB_CTRL, from what the write left. -/
theorem State.restarted_spec {w : Word32} (hw : w.getLsbD 0 = s.flag Fld.LIB_CTRL_C1_RUN) (k : Nat) :
    let t := (((s.controlled w).startCause k 1).coreAt k (s.coreEntry k)).wakeHolds mid.toNat
    Sparse.get 0 t.lib.entry k = s.coreEntry k ∧ t.fld (causeField k) = 1 ∧
      t.flag Fld.LIB_CTRL_C1_RUN = s.flag Fld.LIB_CTRL_C1_RUN ∧ t.lib.sram = s.lib.sram ∧ (s.slotsEmpty → t.dsp = s.dsp) := by
  intro t
  have hset : CoreSet (((s.controlled w).startCause k 1).withEntry k (s.coreEntry k)) t :=
    (State.coreAt_coreSet _ k _).trans (State.wakeHolds_coreSet _ _)
  refine ⟨?_, ?_, ?_, hset.sram, fun hs => (hset.hush hs).2⟩
  · rw [hset.entry]
    exact State.entry_withEntry _ _ _
  · exact (hset.cause k).trans (State.fld_startCause _ k (by decide))
  · exact hset.c1Run.trans ((State.flag_C1_RUN_startCause _ k 1).trans ((s.flag_C1_RUN_controlled w).trans hw))

theorem completes_coreReset (core : Fin 2) (hheld : core = 1 → s.lib.c1Held = false) : Completes (.coreReset mid core) s fun t =>
    Sparse.get 0 t.lib.entry core = s.coreEntry core ∧ t.fld (causeField core) = 1 ∧
    t.flag Fld.LIB_CTRL_C1_RUN = s.flag Fld.LIB_CTRL_C1_RUN ∧ t.lib.sram = s.lib.sram ∧ (s.slotsEmpty → t.dsp = s.dsp) := by
  have hsame (x : State) (b : Bool) : x.coreOneRun b b = x := by cases b <;> rfl
  have hentry (w : Word32) (k : Nat) : (s.controlled w).coreEntry k = s.coreEntry k := by
    unfold State.coreEntry
    split <;> exact congrArg BitVec.toNat (State.reg_setReg_other s w (by decide))
  match core with
  | 0 =>
    obtain ⟨w, hw, heq⟩ := s.libCtrlBits_eq hmid hawake 2 0 rfl rfl
    rw [← s.flag_C1_RUN] at hw heq
    refine .of_eq rfl (heq.trans ?_) (State.restarted_spec (mid := mid) (by rw [hw]; simp) 0)
    simp [hsame, State.coreRestart, hentry]
  | 1 =>
    obtain ⟨w, hw, heq⟩ := s.libCtrlBits_eq hmid hawake 4 0 rfl rfl
    rw [← s.flag_C1_RUN] at hw heq
    refine .of_eq rfl (heq.trans ?_) (State.restarted_spec (mid := mid) (by rw [hw]; simp) 1)
    have hheld' : (s.controlled w).lib.c1Held = false := hheld rfl
    simp [hsame, State.coreRestart, hentry, hheld']

/-! ## FW_RELOAD (R461) -/

/-- Core 0 on its way into the ROM, core 1 held, and the dispatcher cleared. -/
def State.reloaded (s : State) : State :=
  let s1 := ((s.setFlag Fld.LIB_CTRL_C1_RUN false).startCause 0 3).startCause 1 3
  ({ s1 with lib := { s1.lib with c1Held := true, romWait := false, fwSecond := false, fwBuf := [] } } : State).dspClear

omit hmid hawake in
theorem State.fwReload_eq (hrole : s.fld Fld.LDR_XSPI_ROLE = 0) :
    s.fwReload = ((s.reloaded.coreAt 0 0).resetEndsOf 1).reply Code.ok := if_neg (fun h => h hrole)

omit hmid hawake in
theorem State.reloaded_spec (s : State) : s.reloaded.flag Fld.LIB_CTRL_C1_RUN = false ∧ s.reloaded.fld Fld.LIB_RST_CAUSE_C0 = 3 := by
  constructor
  · change ((((s.setFlag Fld.LIB_CTRL_C1_RUN false).startCause 0 3).startCause 1 3).flag Fld.LIB_CTRL_C1_RUN) = false
    rw [State.flag_C1_RUN_startCause, State.flag_C1_RUN_startCause]
    exact State.flag_setFlag_same s _ _ rfl rfl
  · change (((s.setFlag Fld.LIB_CTRL_C1_RUN false).startCause 0 3).setFld Fld.LIB_RST_CAUSE_C1 3).fld Fld.LIB_RST_CAUSE_C0 = 3
    rw [State.fld_setFld_sep _ _ (by decide)]
    exact State.fld_startCause _ 0 (by decide)

omit hmid hawake in
/-- What is left once the ends bound to both cores are reset. -/
theorem State.fwReload_spec (hrole : s.fld Fld.LDR_XSPI_ROLE = 0) :
    s.fwReload.lib.c1Held = true ∧ s.fwReload.flag Fld.LIB_CTRL_C1_RUN = false ∧ Sparse.get 0 s.fwReload.lib.entry 0 = 0 ∧
    s.fwReload.lib.romWait = false ∧ (s.slotsEmpty → ∀ n, s.fwReload.task n = Task.reset) ∧ s.fwReload.runningOn 0 = none ∧
    s.fwReload.runningOn 1 = none ∧ s.fwReload.fld Fld.LIB_RST_CAUSE_C0 = 3 ∧ s.fwReload.lib.sram = s.lib.sram ∧
    s.fwReload.seq = s.seq ∧ s.fwReload.arr = s.arr ∧ s.fwReload.done.status = Code.ok := by
  obtain ⟨hflag, hcause⟩ := s.reloaded_spec
  have hset : CoreSet (s.reloaded.withEntry 0 0) ((s.reloaded.coreAt 0 0).resetEndsOf 1) :=
    (State.coreAt_coreSet _ 0 0).trans (State.resetEndsOf_coreSet _ 1)
  have hstart : s.reloaded.lib.c1Held = true ∧ s.reloaded.lib.romWait = false ∧ s.reloaded.lib.sram = s.lib.sram ∧
      s.reloaded.seq = s.seq ∧ s.reloaded.arr = s.arr ∧ s.reloaded.dsp.running = [] ∧ s.reloaded.dsp.tasks = [] ∧
      s.reloaded.crl = s.crl := ⟨rfl, rfl, rfl, rfl, rfl, rfl, rfl, rfl⟩
  rw [s.fwReload_eq hrole]
  generalize s.reloaded = u at hflag hcause hset hstart
  obtain ⟨hheld, hrom, hsram, hseq, harr, hrunning, htasks, hcrl⟩ := hstart
  generalize (u.coreAt 0 0).resetEndsOf 1 = t at hset
  have hrun : t.dsp.running = [] := Eq.trans hset.run hrunning
  refine ⟨hset.c1Held.trans hheld, hset.c1Run.trans hflag, ?_, hset.romWait.trans hrom, fun hs n => ?_, ?_, ?_, (hset.cause 0).trans hcause,
    hset.sram.trans hsram, hset.seq.trans hseq, hset.arr.trans harr, rfl⟩
  · change Sparse.get 0 t.lib.entry 0 = 0
    rw [hset.entry]
    exact State.entry_withEntry _ _ _
  · have hempty : (u.withEntry 0 0).slotsEmpty := fun c hc e he => (State.slot_congr (s := s) (t := u) hcrl c e).symm ▸ hs c hc e he
    have hdsp : t.dsp = u.dsp := (hset.hush hempty).2
    change t.task n = _
    rw [State.task, hdsp, htasks]
    rfl
  · change t.runningOn 0 = none
    rw [State.runningOn, hrun]
    rfl
  · change t.runningOn 1 = none
    rw [State.runningOn, hrun]
    rfl

/-- FW_RELOAD, as the reload that follows the write of LIB_CTRL and the wakes. -/
theorem exec_fwReload : ∃ u, exec (.fwReload mid) s = .next u.fwReload ∧ OnlyEv wakeFields (s.controlled (u.reg Reg.LIB_CTRL)) u ∧
    u.crl = s.crl := by
  obtain ⟨w, -, heq⟩ := s.libCtrlBits_eq hmid hawake 0x20 0 rfl rfl
  have hsame (x : State) (b : Bool) : x.coreOneRun b b = x := by cases b <;> rfl
  have hev := (s.controlled w).wakeHolds_onlyEv mid.toNat
  have hw : ((s.controlled w).wakeHolds mid.toNat).reg Reg.LIB_CTRL = w := by
    refine (hev.reg_eq (by decide) (wakeFields_apart (Or.inr (by decide)))).trans ?_
    rw [State.controlled, State.reg_reply, State.reg_setReg_same]
  refine ⟨(s.controlled w).wakeHolds mid.toNat, congrArg Host.Outcome.next (heq.trans ?_), by rw [hw]; exact hev, hev.crl_eq⟩
  rw [s.flag_C1_RUN]
  simp [hsame]

theorem completes_fwReload (hrole : s.fld Fld.LDR_XSPI_ROLE = 0) : Completes (.fwReload mid) s fun t =>
    t.lib.c1Held = true ∧ t.flag Fld.LIB_CTRL_C1_RUN = false ∧ Sparse.get 0 t.lib.entry 0 = 0 ∧ t.lib.romWait = false ∧
    (s.slotsEmpty → ∀ n, t.task n = Task.reset) ∧ t.runningOn 0 = none ∧ t.runningOn 1 = none ∧ t.fld Fld.LIB_RST_CAUSE_C0 = 3 ∧
    t.lib.sram = s.lib.sram ∧ t.seq = s.seq ∧ t.arr = s.arr ∧ t.done.status = Code.ok := by
  obtain ⟨u, hexec, hev, hcrl⟩ := exec_fwReload hmid hawake
  have hrole' : u.fld Fld.LDR_XSPI_ROLE = 0 := by
    rw [hev.fld_eq rfl (wakeFields_apart (Or.inr (by decide))), State.controlled, State.fld_reply, State.fld,
      State.reg_setReg_other _ _ (by decide)]
    exact hrole
  obtain ⟨hheld, hflag, hentry, hrom, htask, hrun0, hrun1, hcause, hsram, hseq, harr, hdone⟩ := u.fwReload_spec hrole'
  refine ⟨_, hexec, hheld, hflag, hentry, hrom, fun hs => htask fun c hc e he => ?_, hrun0, hrun1, hcause, hsram.trans ?_, hseq.trans ?_,
    harr.trans ?_, hdone⟩
  · rw [State.slot_congr hcrl]
    exact hs c hc e he
  · exact (congrArg (fun x : State => x.lib.sram) hev.1 :)
  · exact (congrArg (fun x : State => x.seq) hev.1 :)
  · exact (congrArg (fun x : State => x.arr) hev.1 :)

theorem completes_fwReload_refused (hrole : s.fld Fld.LDR_XSPI_ROLE ≠ 0) : Completes (.fwReload mid) s fun t =>
    t.done.status = Code.denied ∧ t.flag Fld.LIB_STATUS_REFUSED = true ∧ t.sticky 475 = true ∧
    t.lib.c1Held = s.lib.c1Held ∧ t.lib.entry = s.lib.entry := by
  obtain ⟨u, hexec, hev, -⟩ := exec_fwReload hmid hawake
  have hrole' : u.fld Fld.LDR_XSPI_ROLE ≠ 0 := by
    rw [hev.fld_eq rfl (wakeFields_apart (Or.inr (by decide))), State.controlled, State.fld_reply, State.fld,
      State.reg_setReg_other _ _ (by decide)]
    exact hrole
  have hrefuse : u.fwReload = u.libRefuse := if_pos hrole'
  obtain ⟨hdone, hflag, hsticky⟩ := u.libRefuse_spec
  have hcore : (u.raiseBit Fld.LIB_STATUS_REFUSED 475).core = u.core := State.core_raiseBit u _ _
  rw [hrefuse] at hexec
  refine ⟨_, hexec, hdone, hflag, hsticky, ?_, ?_⟩
  · exact (congrArg (fun x : State => x.lib.c1Held) (hcore.trans hev.1) :)
  · exact (congrArg (fun x : State => x.lib.entry) (hcore.trans hev.1) :)

end

end Sys2Proof.Machine


/-! PROOFS.  Bus and SRAM errors of the cores (R456, R457), and the commands of LIB_CTRL together. -/

namespace Sys2Proof.Machine

section
variable (s : State) (core : Fin 2)

/-! ## Bus errors (R456) -/

/-- A bus error recorded. -/
def State.busRecorded (s : State) (k : Nat) (isStore : Bool) (addr : Word32) (code : Status) : State :=
  (((s.setReg (Reg.LIB_BERR_ADDR k) addr).setFld (Fld.LIB_BERR_CODE k) code.toNat).setFlag (Fld.LIB_BERR_WRITE k) isStore).setFlag
    (Fld.LIB_BERR_VALID k) true

/-- What a core's record of a bus error takes. -/
def busFields (k : Nat) : List Field :=
  [wholeReg (Reg.LIB_BERR_ADDR k), Fld.LIB_BERR_CODE k, Fld.LIB_BERR_WRITE k, Fld.LIB_BERR_VALID k]

theorem State.busRecorded_spec (k : Nat) (isStore : Bool) (addr : Word32) (code : Status) :
    (s.busRecorded k isStore addr code).reg (Reg.LIB_BERR_ADDR k) = addr ∧
    (s.busRecorded k isStore addr code).fld (Fld.LIB_BERR_CODE k) = code.toNat ∧
    (s.busRecorded k isStore addr code).flag (Fld.LIB_BERR_WRITE k) = isStore ∧
    (s.busRecorded k isStore addr code).flag (Fld.LIB_BERR_VALID k) = true ∧
    Only (busFields k) s (s.busRecorded k isStore addr code) := by
  have hne : Reg.LIB_BERR_ADDR k ≠ Reg.LIB_BERR k := by simp only [Reg.LIB_BERR_ADDR, Reg.LIB_BERR]; omega
  have hwrite : (Fld.LIB_BERR_VALID k).sep (Fld.LIB_BERR_WRITE k) = true := by simp [Field.sep, Field.fits]
  have hcode : (Fld.LIB_BERR_VALID k).sep (Fld.LIB_BERR_CODE k) = true ∧ (Fld.LIB_BERR_WRITE k).sep (Fld.LIB_BERR_CODE k) = true := by
    simp [Field.sep, Field.fits]
  refine ⟨?_, ?_, ?_, State.flag_setFlag_same _ _ _ rfl rfl, ?_⟩
  · unfold State.busRecorded
    rw [State.setFlag, State.reg_setFld_other _ _ _ _ hne, State.setFlag, State.reg_setFld_other _ _ _ _ hne,
      State.reg_setFld_other _ _ _ _ hne, State.reg_setReg_same]
  · unfold State.busRecorded
    rw [State.fld_setFlag_sep _ _ hcode.1, State.fld_setFlag_sep _ _ hcode.2, State.fld_setFld_same _ _ _ rfl]
    exact Nat.mod_eq_of_lt code.isLt
  · unfold State.busRecorded
    rw [State.flag_setFlag_sep _ _ hwrite, State.flag_setFlag_same _ _ _ rfl rfl]
  · exact ((((Only.refl _ s).setReg _ _ (by simp [busFields])).setFld _ _ rfl (by simp [busFields])).setFlag _ _ rfl
      (by simp [busFields])).setFlag _ _ rfl (by simp [busFields])

theorem State.busRecorded_out (k : Nat) (isStore : Bool) (addr : Word32) (code : Status) :
    (s.busRecorded k isStore addr code).out = s.out := rfl

/-- LIB_CTRL lies apart from the records. -/
theorem State.busRecorded_flag (k : Nat) (isStore : Bool) (addr : Word32) (code : Status) {f : Field} (hf : f.addr = Reg.LIB_CTRL) :
    (s.busRecorded k isStore addr code).flag f = s.flag f := by
  obtain ⟨-, -, -, -, honly⟩ := s.busRecorded_spec k isStore addr code
  rw [State.flag, honly.2 f fun g hg => ?_, State.flag]
  refine Or.inl ?_
  simp only [busFields, List.mem_cons, List.not_mem_nil, or_false] at hg
  rw [hf]
  rcases hg with rfl | rfl | rfl | rfl <;> simp only [wholeReg, Reg.LIB_BERR_ADDR, Reg.LIB_BERR, Reg.LIB_CTRL] <;> omega

/-- Whether the core ignores the faults of its stores. -/
def State.quietCore (s : State) (core : Fin 2) : Bool := s.flag (if core = 0 then Fld.LIB_CTRL_QUIET0 else Fld.LIB_CTRL_QUIET1)

theorem exec_busError (isStore : Bool) (addr : Word32) (code : Status) (hcode : code ≠ Code.ok) :
    exec (.busError core isStore addr code) s = .next (if isStore && s.quietCore core then s.busRecorded core isStore addr code
      else (s.busRecorded core isStore addr code).emit (.coreException core (if isStore then 7 else 5) addr.toNat)) := by
  have haddr : (if core = 0 then Fld.LIB_CTRL_QUIET0 else Fld.LIB_CTRL_QUIET1).addr = Reg.LIB_CTRL := by split <;> rfl
  have hquiet : s.quietCore core = if core = 0 then (s.busRecorded core isStore addr code).flag Fld.LIB_CTRL_QUIET0
      else (s.busRecorded core isStore addr code).flag Fld.LIB_CTRL_QUIET1 :=
    (s.busRecorded_flag core isStore addr code haddr).symm.trans (apply_ite _ _ _ _)
  rw [hquiet]
  exact congrArg Host.Outcome.next (if_neg hcode)

theorem completes_busError (isStore : Bool) (addr : Word32) (code : Status) (hcode : code ≠ Code.ok) :
    Completes (.busError core isStore addr code) s fun t =>
      t.reg (Reg.LIB_BERR_ADDR core) = addr ∧ t.fld (Fld.LIB_BERR_CODE core) = code.toNat ∧
      t.flag (Fld.LIB_BERR_WRITE core) = isStore ∧ t.flag (Fld.LIB_BERR_VALID core) = true ∧
      t.out = (if isStore = true ∧ s.quietCore core = true then s.out
        else s.out ++ [.coreException core (if isStore then 7 else 5) addr.toNat]) ∧
      Only (busFields core) s t := by
  obtain ⟨haddr, hfield, hwrite, hvalid, honly⟩ := s.busRecorded_spec core isStore addr code
  have hout := s.busRecorded_out core isStore addr code
  have hexec := exec_busError s core isStore addr code hcode
  generalize s.busRecorded core isStore addr code = u at haddr hfield hwrite hvalid honly hout hexec
  by_cases h : isStore = true ∧ s.quietCore core = true
  · rw [if_pos (Bool.and_eq_true_iff.2 h)] at hexec
    exact ⟨u, hexec, haddr, hfield, hwrite, hvalid, by rw [if_pos h, hout], honly⟩
  · rw [if_neg (fun hb => h (Bool.and_eq_true_iff.1 hb))] at hexec
    refine ⟨_, hexec, ?_, ?_, ?_, ?_, by rw [if_neg h, ← hout]; rfl, honly.emit _⟩
    · rw [State.reg_emit, haddr]
    · rw [State.fld_emit, hfield]
    · rw [State.flag_emit, hwrite]
    · rw [State.flag_emit, hvalid]

/-! ## SRAM errors (R457) -/

theorem State.sramWord_setSram_same (w : Nat) (v : Word32) : (s.setSram w v).sramWord w = v := Sparse.get_put_same 0 s.lib.sram w v

theorem State.sramWord_setSram_other {w a : Nat} (v : Word32) (h : a ≠ w) : (s.setSram w v).sramWord a = s.sramWord a :=
  Sparse.get_put_other 0 0 s.lib.sram v h

theorem Only.setSram {w : List Field} {s t : State} (h : Only w s t) (hlib : t.lib = s.lib) (a : Nat) (v : Word32) :
    Only w { s with lib := { s.lib with sram := (t.setSram a v).lib.sram } } (t.setSram a v) := by
  have hbare := congrArg (fun x : State => { x with lib := (t.setSram a v).lib }) h.1
  have hsame : (t.setSram a v).lib = { s.lib with sram := (t.setSram a v).lib.sram } := by rw [← hlib]; rfl
  refine ⟨?_, h.2⟩
  rw [← hsame]
  exact hbare

theorem completes_sramError_unc (access : SramAccess) (word : Fin 131072) : Completes (.sramError core access word true) s fun t =>
    t.flag Fld.LIB_STATUS_SRAM_UNC = true ∧ t.sticky 472 = true ∧ t.lib.sram = s.lib.sram ∧
    (∃ before, t.out = before ++ [.coreException core
      (match access with | .fetch => 1 | .load => 5 | .partStore _ _ => 7) (0x10000000 + 4 * word.val)]) ∧
    OnlyEv [Fld.LIB_STATUS_SRAM_UNC] s t := by
  obtain ⟨hflag, hsticky⟩ := s.raiseBit_spec (f := Fld.LIB_STATUS_SRAM_UNC) (n := 472) (by decide) rfl rfl rfl
  have hev : OnlyEv [Fld.LIB_STATUS_SRAM_UNC] s (s.raiseBit Fld.LIB_STATUS_SRAM_UNC 472) :=
    (OnlyEv.refl _ s).raiseBit _ _ rfl List.mem_cons_self (by decide)
  refine ⟨(s.raiseBit Fld.LIB_STATUS_SRAM_UNC 472).emit _, rfl, ?_, hsticky, ?_, ⟨_, rfl⟩, hev.emit _⟩
  · rw [State.flag_emit, hflag]
  · exact (congrArg (fun x : State => x.lib.sram) hev.1 :)

theorem completes_sramError_corrected (access : SramAccess) (word : Fin 131072) (hcount : s.reg Reg.LIB_ECC_CNT ≠ 0xFFFFFFFF) :
    Completes (.sramError core access word false) s fun t =>
      t.reg Reg.LIB_ECC_CNT = s.reg Reg.LIB_ECC_CNT + 1 ∧
      t.sramWord word = (match access with
        | .partStore m v => (s.sramWord word &&& ~~~ byteBits m) ||| (v &&& byteBits m)
        | _ => s.sramWord word) ∧
      (∀ a, a ≠ word.val → t.sramWord a = s.sramWord a) ∧
      Only [wholeReg Reg.LIB_ECC_CNT] { s with lib := { s.lib with sram := t.lib.sram } } t := by
  have hreg : (s.countReg Reg.LIB_ECC_CNT).reg Reg.LIB_ECC_CNT = s.reg Reg.LIB_ECC_CNT + 1 := by
    rw [State.countReg, if_neg hcount, State.reg_setReg_same]
  have hlib : (s.countReg Reg.LIB_ECC_CNT).lib = s.lib := State.countReg_lib _ _
  have honly : Only [wholeReg Reg.LIB_ECC_CNT] s (s.countReg Reg.LIB_ECC_CNT) := (Only.refl _ s).countReg _ List.mem_cons_self
  have hword (a : Nat) : (s.countReg Reg.LIB_ECC_CNT).sramWord a = s.sramWord a := by rw [State.sramWord, hlib, State.sramWord]
  have hexec (x : State) (h : (match access with
      | .partStore m v => (s.countReg Reg.LIB_ECC_CNT).setSram word
          (((s.countReg Reg.LIB_ECC_CNT).sramWord word &&& ~~~ byteBits m) ||| (v &&& byteBits m))
      | _ => s.countReg Reg.LIB_ECC_CNT) = x) : exec (.sramError core access word false) s = .next x := congrArg Host.Outcome.next h
  generalize s.countReg Reg.LIB_ECC_CNT = u at hreg hlib honly hword hexec
  have hplain : Only [wholeReg Reg.LIB_ECC_CNT] { s with lib := { s.lib with sram := u.lib.sram } } u := by
    rw [hlib]
    exact honly
  cases access with
  | fetch => exact ⟨u, hexec u rfl, hreg, hword _, fun a _ => hword a, hplain⟩
  | load => exact ⟨u, hexec u rfl, hreg, hword _, fun a _ => hword a, hplain⟩
  | partStore m v =>
    have hsram : Only [wholeReg Reg.LIB_ECC_CNT] { s with lib := { s.lib with sram := (u.setSram word
        ((u.sramWord word &&& ~~~ byteBits m) ||| (v &&& byteBits m))).lib.sram } } (u.setSram word
        ((u.sramWord word &&& ~~~ byteBits m) ||| (v &&& byteBits m))) := honly.setSram hlib _ _
    refine ⟨_, hexec _ rfl, hreg, ?_, fun a ha => ?_, hsram⟩
    · rw [State.sramWord_setSram_same, hword]
    · rw [State.sramWord_setSram_other _ _ ha, hword]

end

theorem causeField_fin (core : Fin 2) : causeField core = if core = 0 then Fld.LIB_RST_CAUSE_C0 else Fld.LIB_RST_CAUSE_C1 :=
  match core with
  | 0 => rfl
  | 1 => rfl

/-- Settles O8: the commands of LIB_CTRL by what they set before the resets of carrel ends and the wakes of domains, which leave the
cores and the SRAM. -/
theorem coreControl : Obligations.CoreControl := by
  unfold Obligations.CoreControl
  refine ⟨fun mid s hmid hawake => ⟨fun run hrun => ?_, fun core hheld => ?_, fun hrole => ?_, fun hrole => ?_⟩,
    fun core s => ⟨completes_busError s core, completes_sramError_unc s core, completes_sramError_corrected s core⟩⟩
  · cases run with
    | true =>
      obtain ⟨t, hexec, hflag, hc1, hentry, hsram, hdsp⟩ := completes_c1Run_start hmid hawake hrun
      exact ⟨t, hexec, hflag, hc1, fun _ => hentry, fun h => absurd h (by decide), hsram, hdsp⟩
    | false =>
      obtain ⟨t, hexec, hflag, hc1, hcause, hsram, hdsp⟩ := completes_c1Run_hold hmid hawake hrun
      exact ⟨t, hexec, hflag, hc1, fun h => absurd h (by decide), fun _ => hcause, hsram, hdsp⟩
  · obtain ⟨t, hexec, hentry, hcause, hflag, hsram, hdsp⟩ := completes_coreReset hmid hawake core hheld
    exact ⟨t, hexec, hentry, by rw [← causeField_fin, hcause], hflag, hsram, hdsp⟩
  · exact completes_fwReload hmid hawake hrole
  · exact completes_fwReload_refused hmid hawake hrole

end Sys2Proof.Machine


/-! PROOFS.  The timers of the cores, their watchdogs and debug transactions (R454, R455, R462). -/

namespace Sys2Proof.Machine

section
variable (s : State) (core : Fin 2)

theorem completes_timerInterrupt (hdue : (Sparse.get (BitVec.allOnes 64) s.lib.mtimecmp core).toNat ≤ s.count) :
    Completes (.timerInterrupt core) s fun t => t = { s with out := s.out ++ [.coreInterrupt core 7] } :=
  ⟨_, congrArg Host.Outcome.next (if_pos (decide_eq_true hdue)), rfl⟩

theorem completes_mtimeLoRead : Completes (.mtimeLoRead core) s fun t =>
    t.done = { status := Code.ok, data := BitVec.ofNat 32 s.count } ∧
    Sparse.get 0 t.lib.mtimeHi core = BitVec.ofNat 32 (s.count / 2 ^ 32) ∧ t.regs = s.regs ∧ t.lib.sram = s.lib.sram :=
  ⟨_, rfl, rfl, Sparse.get_put_same 0 s.lib.mtimeHi core.val _, rfl, rfl⟩

theorem State.count_of_clock {s t : State} (h : t.clock = s.clock) : t.count = s.count := by rw [State.count, h, State.count]

/-! ## Watchdogs (R462) -/

/-- The bit of LIB_STATUS that a watchdog sets. -/
def dogField (k : Nat) : Field := if k = 0 then Fld.LIB_STATUS_WDT0 else Fld.LIB_STATUS_WDT1

omit s in
theorem dogField_fin : dogField core = if core = 0 then Fld.LIB_STATUS_WDT0 else Fld.LIB_STATUS_WDT1 :=
  match core with
  | 0 => rfl
  | 1 => rfl

/-- A watchdog that has run down, before its count starts again. -/
def State.barked (s : State) (k : Nat) : State :=
  let s1 := s.raiseBit (dogField k) 473
  if s1.flag (Fld.LIB_WDT_ACT k) then s1.coreRestart k 2 else s1

theorem dogField_spec (k : Nat) : eventSafe (dogField k) = true ∧ (dogField k).fits = true ∧ (dogField k).width = 1 ∧
    (dogField k).addr = Reg.LIB_STATUS := by
  unfold dogField
  split <;> decide

theorem State.coreRestart_of_runs (k cause : Nat) (h : k = 1 → s.lib.c1Held = false) :
    s.coreRestart k cause = (s.startCause k cause).coreAt k (s.coreEntry k) :=
  if_neg fun ⟨hk, hheld⟩ => absurd ((h hk).symm.trans hheld) (by decide)

/-- A restart of a core leaves the registers of the Librarian but the causes, the sticky bits, the SRAM and the count. -/
theorem State.coreRestart_leaves (k cause : Nat) : (∀ f : Field, f.addr = Reg.LIB_STATUS → eventSafe f = true →
      (s.coreRestart k cause).flag f = s.flag f) ∧ StickyUp s (s.coreRestart k cause) ∧
    (s.coreRestart k cause).lib.sram = s.lib.sram ∧ (s.coreRestart k cause).clock = s.clock := by
  unfold State.coreRestart
  split
  · exact ⟨fun _ _ _ => rfl, .refl s, rfl, rfl⟩
  · have hset := (s.startCause k cause).coreAt_coreSet k (s.coreEntry k)
    obtain ⟨-, hup⟩ := State.resetEndsOf_frame ((s.startCause k cause).withEntry k (s.coreEntry k)) k
    have haddr : (causeField k).addr = Reg.LIB_RST_CAUSE := by unfold causeField; split <;> rfl
    have hstart : StickyUp s (s.startCause k cause) :=
      (StickyUp.refl s).setReg (a := (causeField k).addr) _ (by rw [haddr]; exact not_stickyAddr_of_above (by decide))
    refine ⟨fun f hf hs => ?_, hstart.trans hup, hset.sram, (congrArg (fun x : State => x.clock) hset.frame.1 :)⟩
    rw [hset.flag (by rw [hf]; decide) (by rw [hf]; decide) hs]
    change ((s.setFld (causeField k) cause).withEntry k (s.coreEntry k)).flag f = s.flag f
    exact State.flag_setReg_other s _ (by rw [hf, haddr]; decide)

theorem State.barked_spec (k : Nat) : (s.barked k).flag (dogField k) = true ∧ (s.barked k).sticky 473 = true ∧
    (s.barked k).lib.sram = s.lib.sram ∧ (s.barked k).clock = s.clock := by
  obtain ⟨hsafe, hfits, hwidth, haddr⟩ := dogField_spec k
  obtain ⟨hflag, hsticky⟩ := s.raiseBit_spec (f := dogField k) (n := 473) (by decide) hsafe hfits hwidth
  have hsram : (s.raiseBit (dogField k) 473).lib.sram = s.lib.sram :=
    (congrArg (fun x : State => x.lib.sram) (State.core_raiseBit s (dogField k) 473) :)
  have hclock : (s.raiseBit (dogField k) 473).clock = s.clock := State.raiseBit_clock s _ _
  unfold State.barked
  dsimp only
  generalize s.raiseBit (dogField k) 473 = u at hflag hsticky hsram hclock
  split
  · obtain ⟨hkept, hup, hsram', hclock'⟩ := u.coreRestart_leaves k 2
    exact ⟨(hkept _ haddr hsafe).trans hflag, hup 473 (by decide) hsticky, hsram'.trans hsram, hclock'.trans hclock⟩
  · exact ⟨hflag, hsticky, hsram, hclock⟩

/-- ACT 1 restarts the core, with the cause of its watchdog. -/
theorem State.barked_restarts {k : Nat} (hk : k < 2) (hact : s.flag (Fld.LIB_WDT_ACT k) = true) (hheld : k = 1 → s.lib.c1Held = false) :
    Sparse.get 0 (s.barked k).lib.entry k = s.coreEntry k ∧ (s.barked k).fld (causeField k) = 2 := by
  obtain ⟨-, hfits, -, haddr⟩ := dogField_spec k
  have hev : OnlyEv [dogField k] s (s.raiseBit (dogField k) 473) := (OnlyEv.refl _ s).raiseBit _ _ hfits List.mem_cons_self (by decide)
  have hreg {a : Nat} (hsafe : eventSafe (wholeReg a) = true) (ha : a ≠ Reg.LIB_STATUS) : (s.raiseBit (dogField k) 473).reg a = s.reg a :=
    hev.reg_eq hsafe fun f hf => Or.inl (by rw [List.mem_singleton.1 hf, haddr]; exact ha.symm)
  have hact' : (s.raiseBit (dogField k) 473).flag (Fld.LIB_WDT_ACT k) = true := by
    have hk : k = 0 ∨ k = 1 := by omega
    rw [State.flag, State.fld, hreg (by rcases hk with rfl | rfl <;> rfl) (by rcases hk with rfl | rfl <;> decide)]
    exact hact
  have hentry : (s.raiseBit (dogField k) 473).coreEntry k = s.coreEntry k := by
    unfold State.coreEntry
    split <;> rw [hreg (by decide) (by decide)]
  have hheld' : k = 1 → (s.raiseBit (dogField k) 473).lib.c1Held = false := fun h =>
    (congrArg (fun x : State => x.lib.c1Held) (State.core_raiseBit s (dogField k) 473) :).trans (hheld h)
  unfold State.barked
  dsimp only
  rw [if_pos hact', State.coreRestart_of_runs _ _ _ hheld', hentry]
  generalize s.raiseBit (dogField k) 473 = u
  have hset := (u.startCause k 2).coreAt_coreSet k (s.coreEntry k)
  refine ⟨?_, (hset.cause k).trans (State.fld_startCause _ k (by decide))⟩
  rw [hset.entry]
  exact State.entry_withEntry _ _ _

theorem completes_watchdogExpiry (hus : s.fld (Fld.LIB_WDT_US core) ≠ 0) (hhalt : Sparse.get false s.lib.halted core = false)
    (hdue : s.wdtDue core = true) : Completes (.watchdogExpiry core) s fun t =>
      t.flag (dogField core) = true ∧ t.sticky 473 = true ∧ Sparse.get 0 t.lib.wdtStart core = s.count ∧ t.lib.sram = s.lib.sram ∧
      (s.flag (Fld.LIB_WDT_ACT core) = true → (core = 1 → s.lib.c1Held = false) →
        Sparse.get 0 t.lib.entry core = s.coreEntry core ∧ t.fld (causeField core) = 2) := by
  have hcond : ¬ (s.fld (Fld.LIB_WDT_US core) = 0 ∨ Sparse.get false s.lib.halted core = true ∨ s.wdtDue core = false) := by
    simp [hus, hhalt, hdue]
  have hexec : exec (.watchdogExpiry core) s = .next ((s.barked core).wdtRestart core) := by
    refine (congrArg Host.Outcome.next (if_neg hcond)).trans ?_
    rw [State.barked, dogField_fin]
  obtain ⟨hflag, hsticky, hsram, hclock⟩ := s.barked_spec core
  refine ⟨_, hexec, hflag, hsticky, ?_, hsram, fun hact hheld => s.barked_restarts core.isLt hact fun h => hheld (Fin.ext h)⟩
  exact (Sparse.get_put_same 0 (s.barked core).lib.wdtStart core.val _).trans (State.count_of_clock hclock)

theorem completes_wdtKick (mid : Mid) (hawake : s.awake (Reg.LIB_WDT_KICK core)) : Completes (.wdtKick mid core) s fun t =>
    Sparse.get 0 t.lib.wdtStart core = s.count ∧ t.done.status = Code.ok ∧
    Only [] { s with lib := { s.lib with wdtStart := t.lib.wdtStart } } t :=
  .of_eq rfl (State.gate_of_awake hawake _ _ _) ⟨Sparse.get_put_same 0 s.lib.wdtStart core.val _, rfl, rfl, fun _ _ => rfl⟩

/-! ## Debug transactions (R455) -/

theorem completes_debug_closed (op : DebugOp) (hclosed : s.debugOpen core = false) : Completes (.debugTransaction core op) s fun t =>
    t = { s with out := s.out ++ [.debug false 0] } :=
  ⟨_, congrArg Host.Outcome.next (if_pos (by rw [hclosed]; rfl)), rfl⟩

theorem State.setHalted_spec (s : State) (k : Nat) (b : Bool) : Sparse.get false (s.setHalted k b).lib.halted k = b ∧
    (s.setHalted k b).regs = s.regs ∧ (s.setHalted k b).out = s.out ++ [.debug true 0] :=
  ⟨Sparse.get_put_same false s.lib.halted k b, rfl, rfl⟩

theorem completes_debug_halt (hopen : s.debugOpen core = true) : Completes (.debugTransaction core .halt) s fun t =>
    Sparse.get false t.lib.halted core = true ∧ t.regs = s.regs ∧ t.out = s.out ++ [.debug true 0] := by
  refine ⟨_, congrArg Host.Outcome.next (if_neg (by rw [hopen]; exact Bool.false_ne_true)), ?_⟩
  obtain ⟨hhalt, hregs, hout⟩ := (s.when (!Sparse.get false s.lib.halted core) (fun s => s.wdtHalt core)).setHalted_spec core true
  have hwhen (b : Bool) : (s.when b (fun s => s.wdtHalt core)).regs = s.regs ∧ (s.when b (fun s => s.wdtHalt core)).out = s.out := by
    cases b <;> exact ⟨rfl, rfl⟩
  exact ⟨hhalt, hregs.trans (hwhen _).1, hout.trans (congrArg (· ++ _) (hwhen _).2)⟩

theorem completes_debug_resume (hopen : s.debugOpen core = true) : Completes (.debugTransaction core .resume) s fun t =>
    Sparse.get false t.lib.halted core = false ∧ t.regs = s.regs ∧ t.out = s.out ++ [.debug true 0] := by
  refine ⟨_, congrArg Host.Outcome.next (if_neg (by rw [hopen]; exact Bool.false_ne_true)), ?_⟩
  obtain ⟨hhalt, hregs, hout⟩ := (s.when (Sparse.get false s.lib.halted core) (fun s => s.wdtResume core)).setHalted_spec core false
  have hwhen (b : Bool) : (s.when b (fun s => s.wdtResume core)).regs = s.regs ∧ (s.when b (fun s => s.wdtResume core)).out = s.out := by
    cases b <;> exact ⟨rfl, rfl⟩
  exact ⟨hhalt, hregs.trans (hwhen _).1, hout.trans (congrArg (· ++ _) (hwhen _).2)⟩

end

/-- Settles O9: a watchdog restarts its core as RST0 and RST1 do, and only a halt and a resume reach a core's state. -/
theorem timersAndDebug : Obligations.TimersAndDebug := by
  unfold Obligations.TimersAndDebug
  refine ⟨fun core s => ⟨completes_timerInterrupt s core, completes_mtimeLoRead s core, fun hus hhalt hdue => ?_, fun mid => completes_wdtKick s core mid⟩,
    fun core s => ⟨fun op => completes_debug_closed s core op, fun hopen => ⟨completes_debug_halt s core hopen, completes_debug_resume s core hopen⟩⟩⟩
  obtain ⟨t, hexec, hflag, hsticky, hstart, hsram, hrestart⟩ := completes_watchdogExpiry s core hus hhalt hdue
  rw [dogField_fin] at hflag
  rw [causeField_fin] at hrestart
  exact ⟨t, hexec, hflag, hsticky, hstart, hsram, hrestart⟩

end Sys2Proof.Machine


/-! PROOFS.  The pins of the I/O banks and the test access port (R591, R596, R612, R613). -/

namespace Sys2Proof.Machine

/-! ## Numbers made of bits -/

section
variable (p : Nat → Prop) [DecidablePred p]

/-- The number whose bits below `n` say where `p` holds. -/
def pickedBits (n : Nat) : Nat := (List.range n).foldl (fun a i => if p i then a + 2 ^ i else a) 0

theorem pickedBits_succ (n : Nat) : pickedBits p (n + 1) = if p n then pickedBits p n + 2 ^ n else pickedBits p n := by
  rw [pickedBits, List.range_succ, List.foldl_append]
  rfl

theorem pickedBits_lt (n : Nat) : pickedBits p n < 2 ^ n := by
  induction n with
  | zero => exact Nat.one_pos
  | succ n ih =>
    rw [pickedBits_succ, Nat.pow_succ]
    split <;> omega

theorem testBit_pickedBits (n k : Nat) : (pickedBits p n).testBit k = decide (k < n ∧ p k) := by
  induction n with
  | zero => simp [pickedBits]
  | succ n ih =>
    have hlt := pickedBits_lt p n
    rw [pickedBits_succ]
    rcases Nat.lt_trichotomy k n with h | rfl | h
    · have hk : decide (k < n + 1 ∧ p k) = decide (k < n ∧ p k) :=
        decide_eq_decide.2 (and_congr_left fun _ => ⟨fun _ => h, fun _ => Nat.lt_succ_of_lt h⟩)
      rw [hk, ← ih]
      split
      · rw [Nat.add_comm, Nat.testBit_two_pow_add_gt h]
      · rfl
    · have hzero : (pickedBits p k).testBit k = false := Nat.testBit_lt_two_pow hlt
      split
      next hp => rw [Nat.add_comm, Nat.testBit_two_pow_add_eq, hzero]; simp [hp]
      next hp => rw [hzero]; simp [hp]
    · have hbig : (if p n then pickedBits p n + 2 ^ n else pickedBits p n) < 2 ^ k := by
        have hpow : 2 ^ (n + 1) ≤ 2 ^ k := Nat.pow_le_pow_right (by decide) h
        rw [Nat.pow_succ] at hpow
        split <;> omega
      rw [Nat.testBit_lt_two_pow hbig]
      exact (decide_eq_false (by omega)).symm

theorem getLsbD_pickedBits {n k : Nat} (hn : n ≤ 32) (hk : k < n) : (BitVec.ofNat 32 (pickedBits p n)).getLsbD k = decide (p k) := by
  rw [BitVec.getLsbD_ofNat, testBit_pickedBits]
  simp [hk, Nat.lt_of_lt_of_le hk hn]

end

/-! ## Configurations of pins (R591) -/

section
variable (s : State) {b p : Nat} (hb : b < 8) (hp : p < 24)

theorem eventSafe_of_bank {f : Field} (hlow : 0x8300000 ≤ f.addr) : eventSafe f = true :=
  eventSafe_of_above (by omega) (Or.inr (by omega))

/-- The pins of a bank whose configuration the device refuses. -/
def State.badPins (s : State) (b : Nat) : Nat := pickedBits (fun p => s.pinBad b p = true) 24

theorem State.checkBank_eq : s.checkBank b =
    let s1 := s.setReg (Reg.IOB_BAD b) (BitVec.ofNat 32 (s.badPins b))
    if s.badPins b &&& (2 ^ 24 - 1 - (s.reg (Reg.IOB_BAD b)).toNat % 2 ^ 24) ≠ 0 then s1.raiseBit (Fld.IOB_STAT_CFG_BAD b) (504 + b)
    else s1 := rfl

/-- A newly refused pin is one that the old IOB_BAD does not show. -/
theorem State.badPins_new {k : Nat} (hk : k < 24) (hbad : s.pinBad b k = true) (hold : (s.reg (Reg.IOB_BAD b)).getLsbD k = false) :
    s.badPins b &&& (2 ^ 24 - 1 - (s.reg (Reg.IOB_BAD b)).toNat % 2 ^ 24) ≠ 0 := fun h => by
  have hbit := congrArg (Nat.testBit · k) h
  have hlt : (s.reg (Reg.IOB_BAD b)).toNat % 2 ^ 24 < 2 ^ 24 := Nat.mod_lt _ (by decide)
  have hcompl : (2 ^ 24 - 1 - (s.reg (Reg.IOB_BAD b)).toNat % 2 ^ 24).testBit k = true := by
    rw [Nat.sub_sub, Nat.add_comm, Nat.testBit_two_pow_sub_succ hlt, Nat.testBit_mod_two_pow]
    change (decide (k < 24) && !(decide (k < 24) && (s.reg (Reg.IOB_BAD b)).getLsbD k)) = true
    rw [hold]
    simp [hk]
  simp only [Nat.testBit_and, State.badPins, testBit_pickedBits, hcompl, Nat.zero_testBit, Bool.and_true] at hbit
  exact absurd ⟨hk, hbad⟩ (of_decide_eq_false hbit)

include hb in
/-- IOB_BAD shows the refused pins, and a newly refused one raises its event. -/
theorem State.checkBank_spec :
    (∀ k < 24, ((s.checkBank b).reg (Reg.IOB_BAD b)).getLsbD k = s.pinBad b k) ∧
    ((∃ k < 24, s.pinBad b k = true ∧ (s.reg (Reg.IOB_BAD b)).getLsbD k = false) →
      (s.checkBank b).flag (Fld.IOB_STAT_CFG_BAD b) = true ∧ (s.checkBank b).sticky (504 + b) = true) ∧
    OnlyEv [wholeReg (Reg.IOB_BAD b), Fld.IOB_STAT_CFG_BAD b] s (s.checkBank b) := by
  have hset : OnlyEv [wholeReg (Reg.IOB_BAD b), Fld.IOB_STAT_CFG_BAD b] s (s.setReg (Reg.IOB_BAD b) (BitVec.ofNat 32 (s.badPins b))) :=
    (OnlyEv.refl _ s).setReg _ _ (by simp)
  have hshown {k : Nat} (hk : k < 24) : (BitVec.ofNat 32 (s.badPins b)).getLsbD k = s.pinBad b k := by
    rw [State.badPins, getLsbD_pickedBits _ (by decide) hk]
    simp
  have hsafe : eventSafe (wholeReg (Reg.IOB_BAD b)) = true := eventSafe_of_bank (by simp only [wholeReg, Reg.IOB_BAD]; omega)
  have hstat : eventSafe (Fld.IOB_STAT_CFG_BAD b) = true := eventSafe_of_bank (by simp only [Reg.IOB_STAT]; omega)
  rw [s.checkBank_eq]
  dsimp only
  split
  · refine ⟨fun k hk => ?_, fun _ => State.raiseBit_spec _ (by omega) hstat rfl rfl, hset.raiseBit _ _ rfl (by simp) (by omega)⟩
    have hreg : ((s.setReg (Reg.IOB_BAD b) (BitVec.ofNat 32 (s.badPins b))).raiseBit (Fld.IOB_STAT_CFG_BAD b) (504 + b)).reg (Reg.IOB_BAD b) =
        (s.setReg (Reg.IOB_BAD b) (BitVec.ofNat 32 (s.badPins b))).reg (Reg.IOB_BAD b) := by
      refine ((OnlyEv.refl [Fld.IOB_STAT_CFG_BAD b] _).raiseBit _ _ rfl List.mem_cons_self (by omega)).reg_eq hsafe fun f hf => Or.inl ?_
      rw [List.mem_singleton.1 hf]
      simp only [wholeReg, Reg.IOB_BAD, Reg.IOB_STAT]
      omega
    rw [hreg, State.reg_setReg_same, hshown hk]
  next hnone =>
    refine ⟨fun k hk => by rw [State.reg_setReg_same, hshown hk], fun ⟨k, hk, hbad, hold⟩ => ?_, hset⟩
    exact absurd (s.badPins_new hk hbad hold) hnone

theorem Reg.storesBits_IOB_PIN : ∀ (b : Fin 8) (p : Fin 24), Reg.storesBits (Reg.IOB_PIN b p) 0x3FF7 = true := by decide +kernel

theorem completes_iobPinWrite (mid : Mid) (b : Fin 8) (p : Fin 24) (value : Word32) (hfree : s.imageOwner 1 (b.val * 24 + p.val) = 0) :
    Completes (.iobPinWrite mid b p value) s fun t =>
      t.reg (Reg.IOB_PIN b p) = (s.storeReg (Reg.IOB_PIN b p) value).reg (Reg.IOB_PIN b p) ∧
      (∀ k < 24, (t.reg (Reg.IOB_BAD b)).getLsbD k = (s.storeReg (Reg.IOB_PIN b p) value).pinBad b k) ∧
      ((∃ k < 24, (s.storeReg (Reg.IOB_PIN b p) value).pinBad b k = true ∧ (s.reg (Reg.IOB_BAD b)).getLsbD k = false) →
        t.flag (Fld.IOB_STAT_CFG_BAD b) = true ∧ t.sticky (504 + b.val) = true) ∧
      t.done.status = Code.ok ∧ OnlyEv [wholeReg (Reg.IOB_PIN b p), wholeReg (Reg.IOB_BAD b), Fld.IOB_STAT_CFG_BAD b] s t := by
  have hexec : exec (.iobPinWrite mid b p value) s = .next (((s.storeReg (Reg.IOB_PIN b p) value).checkBank b).reply Code.ok) :=
    congrArg Host.Outcome.next (if_pos hfree)
  have hstore := s.storeReg_of_storesBits value (Reg.storesBits_IOB_PIN b p)
  have hev : OnlyEv [wholeReg (Reg.IOB_PIN b p), wholeReg (Reg.IOB_BAD b), Fld.IOB_STAT_CFG_BAD b] s (s.storeReg (Reg.IOB_PIN b p) value) := by
    rw [hstore]
    exact ((OnlyEv.refl _ s).setReg _ _ List.mem_cons_self).reply _ _
  have hp := p.isLt
  have hold : (s.storeReg (Reg.IOB_PIN b p) value).reg (Reg.IOB_BAD b) = s.reg (Reg.IOB_BAD b) := by
    rw [hstore, State.reg_reply, State.reg_setReg_other _ _ (by simp only [Reg.IOB_BAD, Reg.IOB_PIN]; omega)]
  obtain ⟨hshown, hnew, hframe⟩ := (s.storeReg (Reg.IOB_PIN b p) value).checkBank_spec b.isLt
  have hpin : ((s.storeReg (Reg.IOB_PIN b p) value).checkBank b).reg (Reg.IOB_PIN b p) =
      (s.storeReg (Reg.IOB_PIN b p) value).reg (Reg.IOB_PIN b p) := by
    refine hframe.reg_eq (eventSafe_of_bank (by simp only [wholeReg, Reg.IOB_PIN]; omega)) fun f hf => Or.inl ?_
    simp only [List.mem_cons, List.not_mem_nil, or_false] at hf
    rcases hf with rfl | rfl <;> simp only [wholeReg, Reg.IOB_BAD, Reg.IOB_STAT, Reg.IOB_PIN] <;> omega
  refine ⟨_, hexec, ?_, ?_, ?_, rfl, (hev.trans (hframe.mono (by simp))).reply _ _⟩
  · rw [State.reg_reply, hpin]
  · rw [State.reg_reply]
    exact hshown
  · rw [State.flag_reply, ← hold]
    exact hnew

theorem completes_iobPinWrite_refused (mid : Mid) (b : Fin 8) (p : Fin 24) (value : Word32) (howned : s.imageOwner 1 (b.val * 24 + p.val) ≠ 0)
    (hmay : s.mayAssign mid 0x01 (b.val * 24 + p.val) = false) : Completes (.iobPinWrite mid b p value) s fun t =>
      t.done.status = Code.conflict ∧ t.flag Fld.LDR_CHK_STAT_CLAIM_CONFLICT = true ∧ t.sticky 407 = true ∧
      OnlyEv [Fld.LDR_CHK_STAT_CLAIM_CONFLICT] s t :=
  ⟨s.claimRefuse, congrArg Host.Outcome.next ((if_neg howned).trans (if_neg (by rw [hmay]; exact Bool.false_ne_true))), s.claimRefuse_spec⟩

/-! ## Outputs (R596) -/

/-- The bits of a bank's IOB_OUT that the image owns. -/
def State.ownedPins (s : State) (b : Nat) : Word32 := BitVec.ofNat 32 (pickedBits (fun p => s.imageOwner 1 (b * 24 + p) ≠ 0) 24)

/-- IOB_OUT after a write. -/
def State.outWord (s : State) (b : Nat) (v : Word32) : Word32 :=
  (s.reg (Reg.IOB_OUT b) &&& s.ownedPins b) ||| (v &&& ~~~ s.ownedPins b &&& 0x00FFFFFF)

theorem State.iobOutWrite_eq {mid : Mid} (hmid : mid ≠ 0x10) (b : Nat) (v : Word32) : s.iobOutWrite mid b v =
    if (s.reg (Reg.IOB_OUT b) ^^^ v) &&& s.ownedPins b ≠ 0 then (s.setReg (Reg.IOB_OUT b) (s.outWord b v)).claimRefuse
    else (s.setReg (Reg.IOB_OUT b) (s.outWord b v)).reply Code.ok := by
  unfold State.iobOutWrite
  simp only [if_neg hmid]
  rfl

theorem State.getLsbD_ownedPins (b k : Nat) : (s.ownedPins b).getLsbD k = decide (k < 24 ∧ s.imageOwner 1 (b * 24 + k) ≠ 0) := by
  rw [State.ownedPins, BitVec.getLsbD_ofNat, testBit_pickedBits]
  by_cases hk : k < 24
  · rw [decide_eq_true (by omega : k < 32), Bool.true_and]
  · simp [hk]

theorem State.getLsbD_outWord (b : Nat) (v : Word32) {k : Nat} (hk : k < 24) : (s.outWord b v).getLsbD k =
    if s.imageOwner 1 (b * 24 + k) ≠ 0 then (s.reg (Reg.IOB_OUT b)).getLsbD k else v.getLsbD k := by
  have hlow : (0x00FFFFFF : Word32).getLsbD k = true := by
    have : ∀ k : Fin 24, (0x00FFFFFF : Word32).getLsbD k = true := by decide
    exact this ⟨k, hk⟩
  rw [State.outWord, BitVec.getLsbD_or, BitVec.getLsbD_and, BitVec.getLsbD_and, BitVec.getLsbD_and, BitVec.getLsbD_not, hlow,
    State.getLsbD_ownedPins]
  by_cases h : s.imageOwner 1 (b * 24 + k) ≠ 0
  · simp [h, hk]
  · simp [h, hk, show k < 32 by omega]

/-- A write would change an owned bit where it differs there. -/
theorem State.ownedPins_differ (b : Nat) (v : Word32) : (s.reg (Reg.IOB_OUT b) ^^^ v) &&& s.ownedPins b ≠ 0 ↔
    ∃ k < 24, s.imageOwner 1 (b * 24 + k) ≠ 0 ∧ (s.reg (Reg.IOB_OUT b)).getLsbD k ≠ v.getLsbD k := by
  have hbit (k : Nat) : ((s.reg (Reg.IOB_OUT b) ^^^ v) &&& s.ownedPins b).getLsbD k = true ↔
      k < 24 ∧ s.imageOwner 1 (b * 24 + k) ≠ 0 ∧ (s.reg (Reg.IOB_OUT b)).getLsbD k ≠ v.getLsbD k := by
    rw [BitVec.getLsbD_and, BitVec.getLsbD_xor, State.getLsbD_ownedPins, Bool.and_eq_true, decide_eq_true_iff, bne_iff_ne.symm.symm]
    exact ⟨fun ⟨h, hk, ho⟩ => ⟨hk, ho, by simpa using h⟩, fun ⟨hk, ho, h⟩ => ⟨by simpa using h, hk, ho⟩⟩
  constructor
  · intro h
    by_contra hnone
    refine h (BitVec.eq_of_getLsbD_eq fun k _ => ?_)
    change _ = (0#32).getLsbD k
    rw [BitVec.getLsbD_zero]
    by_contra hk
    exact hnone ⟨k, (hbit k).1 (by simpa using hk)⟩
  · rintro ⟨k, hk⟩ h
    have := (hbit k).2 hk
    rw [h] at this
    exact absurd this (by simp)

theorem completes_iobOutWrite (mid : Mid) (b : Fin 8) (value : Word32) (hmid : mid ≠ 0x10) : Completes (.iobOutWrite mid b value) s fun t =>
    (∀ k < 24, (t.reg (Reg.IOB_OUT b)).getLsbD k =
      if s.imageOwner 1 (b.val * 24 + k) ≠ 0 then (s.reg (Reg.IOB_OUT b)).getLsbD k else value.getLsbD k) ∧
    ((∀ k < 24, s.imageOwner 1 (b.val * 24 + k) ≠ 0 → (s.reg (Reg.IOB_OUT b)).getLsbD k = value.getLsbD k) →
      t.done.status = Code.ok ∧ Only [wholeReg (Reg.IOB_OUT b)] s t) ∧
    ((∃ k < 24, s.imageOwner 1 (b.val * 24 + k) ≠ 0 ∧ (s.reg (Reg.IOB_OUT b)).getLsbD k ≠ value.getLsbD k) →
      t.done.status = Code.conflict ∧ t.sticky 407 = true ∧
      OnlyEv [wholeReg (Reg.IOB_OUT b), Fld.LDR_CHK_STAT_CLAIM_CONFLICT] s t) := by
  have honly : Only [wholeReg (Reg.IOB_OUT b)] s (s.setReg (Reg.IOB_OUT b) (s.outWord b value)) :=
    (Only.refl _ s).setReg _ _ List.mem_cons_self
  have hdiffer := s.ownedPins_differ b value
  refine .of_eq rfl (s.iobOutWrite_eq hmid b value) ?_
  by_cases h : (s.reg (Reg.IOB_OUT b) ^^^ value) &&& s.ownedPins b ≠ 0
  · rw [if_pos h]
    obtain ⟨hstatus, -, hsticky, hev⟩ := (s.setReg (Reg.IOB_OUT b) (s.outWord b value)).claimRefuse_spec
    have hreg : (s.setReg (Reg.IOB_OUT b) (s.outWord b value)).claimRefuse.reg (Reg.IOB_OUT b) = s.outWord b value := by
      refine (hev.reg_eq (eventSafe_of_bank (by simp only [wholeReg, Reg.IOB_OUT]; omega)) fun f hf => Or.inl ?_).trans
        (State.reg_setReg_same _ _ _)
      rw [List.mem_singleton.1 hf]
      simp only [wholeReg, Reg.IOB_OUT, Reg.LDR_CHK_STAT]
      omega
    refine ⟨fun k hk => by rw [hreg, s.getLsbD_outWord b value hk], fun hsame => ?_,
      fun _ => ⟨hstatus, hsticky, (honly.ev.mono (by simp)).trans (hev.mono (by simp))⟩⟩
    obtain ⟨k, hk, howned, hne⟩ := hdiffer.1 h
    exact absurd (hsame k hk howned) hne
  · rw [if_neg h]
    refine ⟨fun k hk => by rw [State.reg_reply, State.reg_setReg_same, s.getLsbD_outWord b value hk], fun _ => ⟨rfl, honly.reply _ _⟩,
      fun hex => absurd (hdiffer.2 hex) h⟩

end

/-! ## The test access port (R612, R613) -/

section
variable (s : State)

/-- What Capture-IR shows. -/
def State.captured (s : State) : Output := .tap (if s.iob.tapBlocked then 5 else 1)

theorem State.tapTake_of_free (h : s.imageRuns = false) (ir : Nat) : s.captureIr.tapTake ir =
    { s with iob := { s.iob with tapIr := ir, tapBlocked := false }, out := s.out ++ [s.captured] } :=
  if_neg (show ¬ s.captureIr.imageRuns = true by rw [show s.captureIr.imageRuns = s.imageRuns from rfl, h]; exact Bool.false_ne_true)

theorem State.tapTake_of_running (h : s.imageRuns = true) (ir : Nat) : s.captureIr.tapTake ir =
    { s with iob := { s.iob with tapIr := 0xFF, tapBlocked := true }, out := s.out ++ [s.captured] } :=
  if_pos (show s.captureIr.imageRuns = true from h)

theorem completes_tapTake (c : Instr) (ir : Nat)
    (h : (c, ir) ∈ [(Instr.tapExtest, 3), (.tapExtestPulse, 4), (.tapExtestTrain, 5), (.tapHighz, 6), (.tapClamp, 7)]) :
    (s.imageRuns = false → Completes c s fun t =>
      t = { s with iob := { s.iob with tapIr := ir, tapBlocked := false }, out := s.out ++ [s.captured] }) ∧
    (s.imageRuns = true → Completes c s fun t =>
      t = { s with iob := { s.iob with tapIr := 0xFF, tapBlocked := true }, out := s.out ++ [s.captured] }) := by
  have hexec : exec c s = .next (s.captureIr.tapTake ir) := by
    simp only [List.mem_cons, Prod.mk.injEq, List.not_mem_nil, or_false] at h
    rcases h with ⟨rfl, rfl⟩ | ⟨rfl, rfl⟩ | ⟨rfl, rfl⟩ | ⟨rfl, rfl⟩ | ⟨rfl, rfl⟩ <;> rfl
  exact ⟨fun h => ⟨_, hexec, s.tapTake_of_free h ir⟩, fun h => ⟨_, hexec, s.tapTake_of_running h ir⟩⟩

end

/-- Settles O45: IOB_BAD and IOB_OUT bit by bit, and the instructions of the test access port by their states. -/
theorem pinsAndTestPort : Obligations.PinsAndTestPort := by
  unfold Obligations.PinsAndTestPort
  refine ⟨fun mid b p value s => ⟨completes_iobPinWrite s mid b p value, completes_iobPinWrite_refused s mid b p value,
    completes_iobOutWrite s mid b value⟩, fun cells s => ⟨⟨_, rfl, ?_⟩, ⟨_, rfl, ?_⟩, completes_tapTake s, ⟨_, rfl, rfl⟩, ⟨_, rfl, rfl⟩⟩⟩
  · simp only [State.captureIr, State.emit, List.append_assoc, List.singleton_append]
  · simp only [State.captureIr, State.emit, List.append_assoc, List.singleton_append]

end Sys2Proof.Machine


/-! PROOFS.  The enumeration of the Ledger ring (R573 to R576). -/

namespace Sys2Proof.Machine

/-! ## What the resets and wakes of an enumeration leave -/

section
variable (s : State)

/-- A register of the ring, or another that the resets of carrel ends do not write, keeps its fields. -/
theorem State.fld_resetEndsOf (mid : Nat) {f : Field} (hf : 0x8200000 ≤ f.addr) : (s.resetEndsOf mid).fld f = s.fld f :=
  (s.resetEndsOf_frame mid).1.fld_eq (eventSafe_of_above (by omega) (Or.inr (by omega))) (allBells_apart (Or.inr (Or.inr (by omega))))

theorem State.flag_resetEndsOf (mid : Nat) {f : Field} (hf : 0x8200000 ≤ f.addr) : (s.resetEndsOf mid).flag f = s.flag f := by
  rw [State.flag, s.fld_resetEndsOf mid hf, State.flag]

theorem State.resetEndsOf_host (mid : Nat) : (s.resetEndsOf mid).host = s.host :=
  (congrArg (fun x : State => x.host) (s.resetEndsOf_frame mid).1.1 :)

theorem State.wakeHolds_stickyUp (mid : Nat) : StickyUp s (s.wakeHolds mid) :=
  .ite (.foldl _ _ (fun u d _ => .ite ((StickyUp.refl u).wakeDomain d 3 mid) (.refl u)) (.refl s)) (.refl s)

theorem State.fld_wakeHolds (mid : Nat) {f : Field} (hf : 0x8200000 ≤ f.addr) : (s.wakeHolds mid).fld f = s.fld f :=
  (s.wakeHolds_onlyEv mid).fld_eq (eventSafe_of_above (by omega) (Or.inr (by omega))) (wakeFields_apart (Or.inr (by omega)))

theorem State.wakeHolds_host (mid : Nat) : (s.wakeHolds mid).host = s.host :=
  (congrArg (fun x : State => x.host) (s.wakeHolds_onlyEv mid).1 :)

/-! ## The end of an enumeration -/

/-- With no request held, an enumeration that is over clears ENUM and goes no further. -/
theorem State.enumOver_eq (hheld : s.host.heldBar2 = []) : s.enumOver =
    ({ s with host := { s.host with enumWait := false, enumSent := false } } : State).setFlag Fld.LRG_CTRL_ENUM false := by
  unfold State.enumOver State.ringGo
  have hnone : ((({ s with host := { s.host with enumWait := false, enumSent := false } } : State).setFlag Fld.LRG_CTRL_ENUM
      false).host.heldBar2) = [] := hheld
  rw [hnone]
  rfl

theorem State.enumOver_spec (hheld : s.host.heldBar2 = []) : s.enumOver.flag Fld.LRG_CTRL_ENUM = false ∧
    s.enumOver.host = { s.host with enumWait := false, enumSent := false } ∧
    (∀ f : Field, f.addr ≠ Reg.LRG_CTRL → s.enumOver.fld f = s.fld f) ∧ StickyUp s s.enumOver := by
  rw [s.enumOver_eq hheld]
  refine ⟨State.flag_setFlag_same _ _ _ rfl rfl, rfl, fun f hf => ?_, ?_⟩
  · rw [State.fld, State.setFlag, State.reg_setFld_other _ _ _ _ hf]
    rfl
  · exact StickyUp.setReg (t := { s with host := { s.host with enumWait := false, enumSent := false } }) (.refl s) (a := Reg.LRG_CTRL) _
      (not_stickyAddr_of_above (by decide))

end

/-! ## ENUM written (R575) -/

section
variable (s : State) {mid : Mid} (hawake : s.awake Reg.LRG_CTRL)

/-- LRG_CTRL and the head's status as a write of ENUM leaves them. -/
def State.enumAsked (s : State) : State :=
  let s1 := (s.setFlag Fld.LRG_CTRL_ENUM true).setFlag Fld.LRG_STATUS_HEAD true
  { s1 with host := { s1.host with enumWait := true } }

theorem State.enumAsked_spec : s.enumAsked.flag Fld.LRG_CTRL_ENUM = true ∧ s.enumAsked.flag Fld.LRG_STATUS_HEAD = true ∧
    s.enumAsked.host = { s.host with enumWait := true } ∧ s.enumAsked.out = s.out := by
  refine ⟨?_, State.flag_setFlag_same (s.setFlag Fld.LRG_CTRL_ENUM true) _ _ rfl rfl, rfl, rfl⟩
  exact (State.flag_setFlag_sep (s.setFlag Fld.LRG_CTRL_ENUM true) true rfl).trans (State.flag_setFlag_same s _ _ rfl rfl)

/-- The frame goes once nothing is outstanding. -/
theorem State.enumSend_spec (u : State) (hwait : u.host.enumWait = true) :
    u.enumSend.flag Fld.LRG_CTRL_ENUM = u.flag Fld.LRG_CTRL_ENUM ∧ u.enumSend.flag Fld.LRG_STATUS_HEAD = u.flag Fld.LRG_STATUS_HEAD ∧
    (u.host.reqs = [] → u.enumSend.fld Fld.LRG_STATUS_NUM = 0 ∧ u.enumSend.host.enumSent = true ∧ u.enumSend.host.enumWait = false ∧
      u.enumSend.out.getLast? = some (.ringFrame 1 0 0 false 1 [])) ∧
    (u.host.reqs ≠ [] → u.enumSend = u) := by
  by_cases hreqs : u.host.reqs = []
  · have heq : u.enumSend = (({ (u.setFld Fld.LRG_STATUS_NUM 0).resetEndsOf 9 with
        host := { ((u.setFld Fld.LRG_STATUS_NUM 0).resetEndsOf 9).host with
          enumWait := false, enumSent := true, lastNum := 0, loadSeq := 0, loadExp := 0 } } : State).emit (.ringFrame 1 0 0 false 1 [])) :=
      if_pos (by rw [hwait, hreqs]; rfl)
    have hctrl : ((u.setFld Fld.LRG_STATUS_NUM 0).resetEndsOf 9).flag Fld.LRG_CTRL_ENUM = u.flag Fld.LRG_CTRL_ENUM := by
      rw [State.flag_resetEndsOf _ _ (by decide), State.flag_setFld_sep _ _ rfl]
    have hhead : ((u.setFld Fld.LRG_STATUS_NUM 0).resetEndsOf 9).flag Fld.LRG_STATUS_HEAD = u.flag Fld.LRG_STATUS_HEAD := by
      rw [State.flag_resetEndsOf _ _ (by decide), State.flag_setFld_sep _ _ rfl]
    have hnum : ((u.setFld Fld.LRG_STATUS_NUM 0).resetEndsOf 9).fld Fld.LRG_STATUS_NUM = 0 := by
      rw [State.fld_resetEndsOf _ _ (by decide), State.fld_setFld_same _ _ _ rfl, Nat.zero_mod]
    rw [heq]
    exact ⟨hctrl, hhead, fun _ => ⟨hnum, rfl, rfl, List.getLast?_concat⟩, fun h => absurd hreqs h⟩
  · have heq : u.enumSend = u := if_neg (by simp [hreqs])
    rw [heq]
    exact ⟨rfl, rfl, fun h => absurd h hreqs, fun _ => rfl⟩

include hawake

theorem completes_ringEnumStart (hmid : mid = 0x00 ∨ mid = 0x01 ∨ mid = 0x08) (hidle : s.flag Fld.LRG_CTRL_ENUM = false) :
    Completes (.ringEnumStart mid) s fun t =>
      t.flag Fld.LRG_CTRL_ENUM = true ∧ t.flag Fld.LRG_STATUS_HEAD = true ∧ t.done.status = Code.ok ∧
      (s.host.reqs = [] → t.fld Fld.LRG_STATUS_NUM = 0 ∧ t.host.enumSent = true ∧ t.host.enumWait = false ∧
        t.out.getLast? = some (.ringFrame 1 0 0 false 1 [])) ∧
      (s.host.reqs ≠ [] → t.host = { s.host with enumWait := true } ∧ t.out = s.out) := by
  have hwrite : s.lrgCtrlWrite mid 1 = s.enumAsked.enumSend.reply Code.ok := by
    have hallowed : (mid == 0x00 || mid == 0x01 || mid == 0x08) = true := by rcases hmid with rfl | rfl | rfl <;> rfl
    unfold State.lrgCtrlWrite
    rw [hallowed, hidle]
    rfl
  obtain ⟨hctrl, hhead, hhost, hout⟩ := s.enumAsked_spec
  obtain ⟨hctrl', hhead', hsent, hwaits⟩ := s.enumAsked.enumSend_spec (by rw [hhost])
  refine .of_eq rfl ((State.gate_of_awake hawake _ _ _).trans hwrite) ⟨?_, ?_, rfl, fun hreqs => ?_, fun hreqs => ?_⟩
  · rw [State.flag_reply, hctrl', hctrl]
  · rw [State.flag_reply, hhead', hhead]
  · rw [State.fld_reply]
    exact hsent (by rw [hhost]; exact hreqs)
  · rw [hwaits (by rw [hhost]; exact hreqs)]
    exact ⟨hhost, hout⟩

theorem completes_ringEnumStart_denied (h0 : mid ≠ 0x00) (h1 : mid ≠ 0x01) (h8 : mid ≠ 0x08) : Completes (.ringEnumStart mid) s fun t =>
    t.done.status = Code.denied ∧ t.flag Fld.LRG_STATUS_DENIED = true ∧ t.sticky 502 = true ∧ OnlyEv [Fld.LRG_STATUS_DENIED] s t := by
  have hwrite : s.lrgCtrlWrite mid 1 = (s.raiseBit Fld.LRG_STATUS_DENIED 502).reply Code.denied := by
    have hrefused : (mid == 0x00 || mid == 0x01 || mid == 0x08) = false := by
      rw [beq_eq_false_iff_ne.2 h0, beq_eq_false_iff_ne.2 h1, beq_eq_false_iff_ne.2 h8]
      rfl
    unfold State.lrgCtrlWrite
    rw [hrefused]
    rfl
  exact .of_eq rfl ((State.gate_of_awake hawake _ _ _).trans hwrite)
    (s.raiseBit_reply_spec _ (by decide) rfl rfl rfl)

end

/-! ## ENUM frames (R575, R576) -/

/-- A frame that is discarded is counted. -/
theorem State.ringCrc_spec (s : State) (h : s.reg Reg.LRG_CRC_CNT ≠ 0xFFFFFFFF) :
    s.ringCrc.reg Reg.LRG_CRC_CNT = s.reg Reg.LRG_CRC_CNT + 1 ∧ s.ringCrc.flag Fld.LRG_STATUS_CRC = true ∧ s.ringCrc.sticky 500 = true ∧
    OnlyEv [wholeReg Reg.LRG_CRC_CNT, Fld.LRG_STATUS_CRC] s s.ringCrc := by
  have hcount : s.countReg Reg.LRG_CRC_CNT = s.setReg Reg.LRG_CRC_CNT (s.reg Reg.LRG_CRC_CNT + 1) := if_neg h
  have hev : OnlyEv [wholeReg Reg.LRG_CRC_CNT, Fld.LRG_STATUS_CRC] s (s.setReg Reg.LRG_CRC_CNT (s.reg Reg.LRG_CRC_CNT + 1)) :=
    (OnlyEv.refl _ s).setReg _ _ List.mem_cons_self
  rw [State.ringCrc, hcount]
  have hone : OnlyEv [Fld.LRG_STATUS_CRC] (s.setReg Reg.LRG_CRC_CNT (s.reg Reg.LRG_CRC_CNT + 1))
      ((s.setReg Reg.LRG_CRC_CNT (s.reg Reg.LRG_CRC_CNT + 1)).raiseBit Fld.LRG_STATUS_CRC 500) :=
    (OnlyEv.refl _ _).raiseBit _ _ rfl List.mem_cons_self (by decide)
  obtain ⟨hflag, hsticky⟩ := (s.setReg Reg.LRG_CRC_CNT (s.reg Reg.LRG_CRC_CNT + 1)).raiseBit_spec (f := Fld.LRG_STATUS_CRC) (n := 500)
    (by decide) rfl rfl rfl
  refine ⟨?_, hflag, hsticky, hev.trans (hone.mono (by simp))⟩
  rw [hone.reg_eq rfl (by simp [Field.apart, wholeReg]), State.reg_setReg_same]

/-- A device takes its number and passes the frame on. -/
theorem State.enumTakes_spec (s : State) {n : Nat} (hn : n ≤ 63) :
    (s.enumTakes n).fld Fld.LRG_STATUS_NUM = n ∧ (s.enumTakes n).flag Fld.LRG_STATUS_ENUMERATED = true ∧
    (s.enumTakes n).host.lastNum = n ∧ (s.enumTakes n).host.loadExp = 0 ∧
    (s.enumTakes n).out.getLast? = some (.ringFrame 1 0 0 false (n + 1) []) := by
  have heq : s.enumTakes n = (({ ((s.setFld Fld.LRG_STATUS_NUM n).setFlag Fld.LRG_STATUS_ENUMERATED true).resetEndsOf 9 with
      host := { (((s.setFld Fld.LRG_STATUS_NUM n).setFlag Fld.LRG_STATUS_ENUMERATED true).resetEndsOf 9).host with
        lastNum := n, loadExp := 0 } } : State).emit (.ringFrame 1 0 0 false (n + 1) [])) := if_neg (by omega)
  have hnum : (((s.setFld Fld.LRG_STATUS_NUM n).setFlag Fld.LRG_STATUS_ENUMERATED true).resetEndsOf 9).fld Fld.LRG_STATUS_NUM = n := by
    rw [State.fld_resetEndsOf _ _ (by decide), State.fld_setFlag_sep _ _ rfl, State.fld_setFld_same _ _ _ rfl]
    exact Nat.mod_eq_of_lt (by change n < 64; omega)
  have henum : (((s.setFld Fld.LRG_STATUS_NUM n).setFlag Fld.LRG_STATUS_ENUMERATED true).resetEndsOf 9).flag Fld.LRG_STATUS_ENUMERATED =
      true := by
    rw [State.flag_resetEndsOf _ _ (by decide), State.flag_setFlag_same _ _ _ rfl rfl]
  rw [heq]
  exact ⟨hnum, henum, rfl, rfl, List.getLast?_concat⟩

/-- The head's frame returns: COUNT shows the devices of the ring. -/
theorem State.enumReturns_spec (s : State) {n : Nat} (hheld : s.host.heldBar2 = []) (hlow : 1 ≤ n) (hhigh : n ≤ 64) :
    (s.enumReturns n).fld Fld.LRG_STATUS_COUNT = n - 1 ∧ (s.enumReturns n).flag Fld.LRG_STATUS_ENUMERATED = true ∧
    (s.enumReturns n).flag Fld.LRG_STATUS_ENUM_DONE = true ∧ (s.enumReturns n).sticky 501 = true ∧
    (s.enumReturns n).flag Fld.LRG_CTRL_ENUM = false ∧
    (s.enumReturns n).host = { s.host with enumWait := false, enumSent := false } := by
  have heq : s.enumReturns n = ((((s.setFld Fld.LRG_STATUS_COUNT (n - 1)).setFlag Fld.LRG_STATUS_ENUMERATED true).raiseBit
      Fld.LRG_STATUS_ENUM_DONE 501).wakeHolds 0x08).enumOver := if_neg (by omega)
  obtain ⟨hdone, hsticky⟩ := ((s.setFld Fld.LRG_STATUS_COUNT (n - 1)).setFlag Fld.LRG_STATUS_ENUMERATED true).raiseBit_spec
    (f := Fld.LRG_STATUS_ENUM_DONE) (n := 501) (by decide) rfl rfl rfl
  have hcount : (((s.setFld Fld.LRG_STATUS_COUNT (n - 1)).setFlag Fld.LRG_STATUS_ENUMERATED true).raiseBit Fld.LRG_STATUS_ENUM_DONE
      501).fld Fld.LRG_STATUS_COUNT = n - 1 := by
    rw [State.fld_raiseBit_sep _ (by decide) rfl rfl, State.fld_setFlag_sep _ _ rfl, State.fld_setFld_same _ _ _ rfl]
    exact Nat.mod_eq_of_lt (by change n - 1 < 64; omega)
  have henum : (((s.setFld Fld.LRG_STATUS_COUNT (n - 1)).setFlag Fld.LRG_STATUS_ENUMERATED true).raiseBit Fld.LRG_STATUS_ENUM_DONE
      501).flag Fld.LRG_STATUS_ENUMERATED = true := by
    rw [State.flag_raiseBit_sep _ (by decide) rfl rfl, State.flag_setFlag_same _ _ _ rfl rfl]
  have hhost : (((s.setFld Fld.LRG_STATUS_COUNT (n - 1)).setFlag Fld.LRG_STATUS_ENUMERATED true).raiseBit Fld.LRG_STATUS_ENUM_DONE
      501).host = s.host := State.raiseBit_host _ _ _
  rw [heq]
  generalize ((s.setFld Fld.LRG_STATUS_COUNT (n - 1)).setFlag Fld.LRG_STATUS_ENUMERATED true).raiseBit Fld.LRG_STATUS_ENUM_DONE 501 = u
    at hdone hsticky hcount henum hhost
  have hhost' : (u.wakeHolds 0x08).host = s.host := (u.wakeHolds_host 0x08).trans hhost
  obtain ⟨hctrl, hover, hkept, hup⟩ := (u.wakeHolds 0x08).enumOver_spec (by rw [hhost', hheld])
  have hflag {f : Field} (hf : f.addr = Reg.LRG_STATUS) : (u.wakeHolds 0x08).enumOver.fld f = u.fld f := by
    rw [hkept f (by rw [hf]; decide), State.fld_wakeHolds _ _ (by rw [hf]; decide)]
  refine ⟨(hflag rfl).trans hcount, ?_, ?_, hup 501 (by decide) (u.wakeHolds_stickyUp _ 501 (by decide) hsticky), hctrl,
    hover.trans (by rw [hhost'])⟩
  · rw [State.flag, hflag rfl]
    exact henum
  · rw [State.flag, hflag rfl]
    exact hdone

/-- An enumeration that fails. -/
theorem State.enumFails_spec (s : State) (hheld : s.host.heldBar2 = []) :
    s.enumFails.flag Fld.LRG_STATUS_ENUMERATED = false ∧ s.enumFails.flag Fld.LRG_STATUS_ENUM_FAIL = true ∧
    s.enumFails.sticky 502 = true ∧ s.enumFails.flag Fld.LRG_CTRL_ENUM = false ∧
    s.enumFails.host = { s.host with enumWait := false, enumSent := false } := by
  obtain ⟨hfail, hsticky⟩ := (s.setFlag Fld.LRG_STATUS_ENUMERATED false).raiseBit_spec (f := Fld.LRG_STATUS_ENUM_FAIL) (n := 502)
    (by decide) rfl rfl rfl
  have henum : ((s.setFlag Fld.LRG_STATUS_ENUMERATED false).raiseBit Fld.LRG_STATUS_ENUM_FAIL 502).flag Fld.LRG_STATUS_ENUMERATED =
      false := by
    rw [State.flag_raiseBit_sep _ (by decide) rfl rfl, State.flag_setFlag_same _ _ _ rfl rfl]
  have hhost : ((s.setFlag Fld.LRG_STATUS_ENUMERATED false).raiseBit Fld.LRG_STATUS_ENUM_FAIL 502).host = s.host :=
    State.raiseBit_host _ _ _
  rw [State.enumFails]
  generalize (s.setFlag Fld.LRG_STATUS_ENUMERATED false).raiseBit Fld.LRG_STATUS_ENUM_FAIL 502 = u at hfail hsticky henum hhost
  obtain ⟨hctrl, hover, hkept, hup⟩ := u.enumOver_spec (by rw [hhost, hheld])
  refine ⟨?_, ?_, hup 502 (by decide) hsticky, hctrl, hover.trans (by rw [hhost])⟩
  · rw [State.flag, hkept _ (by decide)]
    exact henum
  · rw [State.flag, hkept _ (by decide)]
    exact hfail

section
variable (s : State) (arg : Word32) (hops : BitVec 6) (hon : s.ringBypassed = false)
include hon

/-- A whole frame at a head. -/
theorem exec_ringEnum_head (hhead : s.flag Fld.LRG_STATUS_HEAD = true) (own : Bool) : exec (.ringEnum arg own hops true) s =
    .next (if own && s.host.enumSent then s.enumReturns arg.toNat else s.raiseBit Fld.LRG_STATUS_CONFLICT 502) := by
  refine congrArg Host.Outcome.next ?_
  rw [hon, hhead]
  rfl

theorem completes_ringEnum_member (own : Bool) (hhead : s.flag Fld.LRG_STATUS_HEAD = false) (hhops : hops.toNat ≠ 63)
    (hn : arg.toNat ≤ 63) : Completes (.ringEnum arg own hops true) s fun t =>
      t.fld Fld.LRG_STATUS_NUM = arg.toNat ∧ t.flag Fld.LRG_STATUS_ENUMERATED = true ∧ t.host.lastNum = arg.toNat ∧ t.host.loadExp = 0 ∧
      t.out.getLast? = some (.ringFrame 1 0 0 false (arg.toNat + 1) []) := by
  have hexec : exec (.ringEnum arg own hops true) s = .next (s.enumTakes arg.toNat) := by
    refine congrArg Host.Outcome.next ?_
    rw [hon, hhead, if_neg Bool.false_ne_true, if_neg (by decide), if_neg Bool.false_ne_true, if_neg hhops]
  exact ⟨_, hexec, s.enumTakes_spec hn⟩

end

/-- Settles O51: the head's and the members' steps of an enumeration, which the resets of carrel ends and the wakes do not touch. -/
theorem ringEnumeration : Obligations.RingEnumeration := by
  unfold Obligations.RingEnumeration
  intro mid arg own hops s
  refine ⟨fun hawake => ⟨completes_ringEnumStart s hawake, completes_ringEnumStart_denied s hawake⟩, fun hoff hhops => ?_,
    fun hon => ⟨fun hcount => ?_, completes_ringEnum_member s arg hops hon own, fun hhead hown hsent hheld hlow hhigh => ?_,
      fun hhead hother => ?_⟩, fun hsent hheld => ?_⟩
  · refine ⟨_, congrArg Host.Outcome.next ?_, rfl⟩
    rw [hoff, if_pos rfl, if_neg hhops]
    rfl
  · refine ⟨s.ringCrc, congrArg Host.Outcome.next ?_, s.ringCrc_spec hcount⟩
    rw [hon]
    rfl
  · refine .of_eq (exec_ringEnum_head s arg hops hon hhead own) ?_ (s.enumReturns_spec hheld hlow hhigh)
    rw [hown, hsent]
    rfl
  · obtain ⟨hflag, hsticky⟩ := s.raiseBit_spec (f := Fld.LRG_STATUS_CONFLICT) (n := 502) (by decide) rfl rfl rfl
    refine .of_eq (exec_ringEnum_head s arg hops hon hhead own) (if_neg ?_)
      ⟨hflag, hsticky, (OnlyEv.refl _ s).raiseBit _ _ rfl List.mem_cons_self (by decide)⟩
    rcases hother with h | h <;> simp [h]
  · exact .of_eq rfl (if_pos hsent) (s.enumFails_spec hheld)

end Sys2Proof.Machine


/-! PROOFS.  Accesses of others to the identity registers, and the frames of the ring (R573, R577 to R579). -/

namespace Sys2Proof.Machine

/-! ## Numbers and bytes -/

theorem natOfBytes_bytesOf32 (v : Word32) : natOfBytes (bytesOf32 v) = v.toNat := by
  have hlt : v.toNat < 4294967296 := v.isLt
  have hbyte (n : Nat) : (BitVec.ofNat 8 n).toNat = n % 256 := BitVec.toNat_ofNat n 8
  have hlist : bytesOf32 v = [BitVec.ofNat 8 (v.toNat >>> 0), BitVec.ofNat 8 (v.toNat >>> 8), BitVec.ofNat 8 (v.toNat >>> 16),
    BitVec.ofNat 8 (v.toNat >>> 24)] := rfl
  rw [hlist]
  simp only [natOfBytes, hbyte, Nat.shiftRight_eq_div_pow]
  omega

/-! ## The identity registers and DEV_SCRATCH over the bus (R8, R25) -/

section
variable (s : State) (mid : Mid) {a : Nat}

theorem alignReg_of_aligned (ha : a % 4 = 0) : alignReg a = a := by
  rw [alignReg]
  omega

theorem seqAlias_of_low (ha : a < 0x0C000000) : seqAlias a = none := if_neg (by omega)

/-- A read of an identity register, or of DEV_SCRATCH. -/
theorem State.loadReg_of_ident (ha : a % 4 = 0) (hle : a ≤ Reg.DEV_SCRATCH) : s.loadReg a = s.reply Code.ok (s.reg a) := by
  have hplain : ∀ k : Fin 5, ((Reg.row (4 * k.val)).any fun r => !r.rc) = true := by decide +kernel
  have hrow := hplain ⟨a / 4, by change a ≤ 0x10 at hle; omega⟩
  rw [show 4 * (⟨a / 4, by change a ≤ 0x10 at hle; omega⟩ : Fin 5).val = a by change 4 * (a / 4) = a; omega] at hrow
  obtain ⟨r, hr, hrc⟩ := (Option.any_eq_true _ _).1 hrow
  rw [State.loadReg, hr]
  exact if_neg (by simpa using hrc)

theorem State.busRead_ident (ha : a % 4 = 0) (hle : a ≤ Reg.DEV_SCRATCH) (hawake : s.awake a) :
    s.busRead mid a = s.reply Code.ok (s.reg a) := by
  have hlow : a ≤ 0x10 := hle
  rw [State.busRead, alignReg_of_aligned ha, seqAlias_of_low (by omega)]
  dsimp only
  rw [State.gate_of_awake hawake, State.blockRead, if_pos (by omega), s.loadReg_of_ident ha hle]

/-- DEV_SCRATCH takes every bit. -/
theorem State.storeReg_scratch (v : Word32) : s.storeReg Reg.DEV_SCRATCH v = (s.setReg Reg.DEV_SCRATCH v).reply Code.ok := by
  have hall : mergeBits (BitVec.ofNat 32 0xFFFFFFFF) (s.reg Reg.DEV_SCRATCH) v = v := by
    ext i hi
    simp [mergeBits, show (4294967295#32)[i] = true from BitVec.getElem_allOnes i hi]
  rw [s.storeReg_of_storesBits v (show Reg.storesBits Reg.DEV_SCRATCH 0xFFFFFFFF = true by decide +kernel), hall]

theorem State.busWrite_scratch (v : Word32) (hawake : s.awake Reg.DEV_SCRATCH) :
    s.busWrite mid Reg.DEV_SCRATCH v = (s.setReg Reg.DEV_SCRATCH v).reply Code.ok := by
  rw [State.busWrite, alignReg_of_aligned (by decide), seqAlias_of_low (by decide)]
  dsimp only
  rw [State.gate_of_awake hawake, State.blockWrite, if_pos (by decide), s.storeReg_scratch]

/-- The origin of an access noted. -/
def State.callBy (s : State) (o : Origin) : State := { s with caller := o }

/-- An access that is not held on its way completes at once. -/
theorem State.access_of_done (o : Origin) (f : State → State) {u : State} (hu : f (s.callBy o) = u) (hcaller : u.caller = o) :
    s.access o f = u.finishReg o := by
  change (if (f (s.callBy o)).caller = o then (f (s.callBy o)).finishReg o else f (s.callBy o)) = _
  rw [hu, if_pos hcaller]

/-- A register access of another device of the ring that completes with OK is answered with its data. -/
theorem State.finishReg_ring (tag src : Nat) (h : s.done.status = Code.ok) : s.finishReg (.ring tag src) =
    (s.callBy .direct).emit (.ringFrame 4 src (s.fld Fld.LRG_STATUS_NUM) false tag [s.done.data.toNat]) := by
  rw [State.finishReg, h, if_pos rfl, ← natOfBytes_bytesOf32 s.done.data]
  rfl

theorem State.fld_callBy (o : Origin) (f : Field) : (s.callBy o).fld f = s.fld f := rfl

end

/-! ## Frames that reach the device (R573, R574) -/

section
variable {s : State} {dst hops : Nat} (hon : s.ringBypassed = false) (hrun : s.devState = 0) (pass take : State → State)
include hrun

/-- In RUN no exit source acts. -/
theorem State.exitSource_of_run (src idx : Nat) (x y z : Bool) : s.exitSource src idx x y z = s := by
  simp [State.exitSource, hrun]

theorem State.ringWake_of_run (n : Nat) : s.ringWake n = s := by
  rw [State.ringWake, State.exitSource_of_run hrun]
  exact ite_self s

include hon

theorem State.ringFrame_taken (hmine : s.ringMine dst false = true) : s.ringFrame dst hops false true pass take = take s := by
  rw [State.ringFrame, hon]
  simp only [Bool.false_eq_true, if_false, State.ringWake_of_run hrun, hmine, Bool.not_true, if_true, Bool.false_and]

theorem State.ringFrame_passed (hother : s.ringMine dst false = false) (hhops : hops < 63) :
    s.ringFrame dst hops false true pass take = pass s := by
  rw [State.ringFrame, hon]
  simp only [Bool.false_eq_true, if_false, State.ringWake_of_run hrun, hother, Bool.not_true]
  exact if_neg (by omega)

end

/-- What a frame needs to be taken or passed on by a device in RUN. -/
def State.ringUp (s : State) (hdr : RingHeader) : Prop := s.ringBypassed = false ∧ s.devState = 0 ∧ hdr.bcast = false

/-! ## Requests of another device (R577) -/

section
variable (s : State) (hdr : RingHeader) (addr : BitVec 28) (value : Word32)

theorem completes_ringRd (hup : s.ringUp hdr) (hmine : s.ringMine hdr.dst false = true) (hawake : s.awake addr.toNat)
    (ha : addr.toNat % 4 = 0) (hle : addr.toNat ≤ Reg.DEV_SCRATCH) : Completes (.ringRd hdr addr true) s fun t =>
      t = { s with caller := .direct, done := { status := Code.ok, data := s.reg addr.toNat },
                   out := s.out ++ [.ringFrame 4 hdr.src (s.fld Fld.LRG_STATUS_NUM) false hdr.tag.toNat [(s.reg addr.toNat).toNat]] } := by
  obtain ⟨hon, hrun, hbcast⟩ := hup
  have hread : (s.callBy (.ring hdr.tag.toNat hdr.src)).busRead 0x09 addr.toNat =
      (s.callBy (.ring hdr.tag.toNat hdr.src)).reply Code.ok (s.reg addr.toNat) := State.busRead_ident _ _ ha hle hawake
  refine .of_eq rfl ?_ rfl
  rw [hbcast, State.ringFrame_taken hon hrun _ _ hmine]
  refine (s.access_of_done _ (fun u => u.busRead 0x09 addr.toNat) hread rfl).trans ?_
  rw [State.finishReg_ring _ _ _ rfl, State.fld_reply, State.fld_callBy]
  rfl

theorem completes_ringWr (hup : s.ringUp hdr) (hmine : s.ringMine hdr.dst false = true) (hawake : s.awake addr.toNat)
    (ha : addr.toNat = Reg.DEV_SCRATCH) : Completes (.ringWr hdr addr value true) s fun t =>
      t.reg Reg.DEV_SCRATCH = value ∧
      t.out = s.out ++ [.ringFrame 4 hdr.src (s.fld Fld.LRG_STATUS_NUM) false hdr.tag.toNat [0]] ∧
      Only [wholeReg Reg.DEV_SCRATCH] { s with caller := .direct } t := by
  obtain ⟨hon, hrun, hbcast⟩ := hup
  have hwrite : (s.callBy (.ring hdr.tag.toNat hdr.src)).busWrite 0x09 addr.toNat value =
      ((s.callBy (.ring hdr.tag.toNat hdr.src)).setReg Reg.DEV_SCRATCH value).reply Code.ok := by
    rw [ha] at hawake ⊢
    exact State.busWrite_scratch _ _ value hawake
  have honly : Only [wholeReg Reg.DEV_SCRATCH] (s.callBy .direct) (((s.callBy .direct).setReg Reg.DEV_SCRATCH value).reply Code.ok) :=
    ((Only.refl _ _).setReg _ _ List.mem_cons_self).reply _ _
  refine .of_eq (t := (((s.callBy .direct).setReg Reg.DEV_SCRATCH value).reply Code.ok).emit
    (.ringFrame 4 hdr.src (s.fld Fld.LRG_STATUS_NUM) false hdr.tag.toNat [0])) rfl ?_ ⟨?_, rfl, honly.emit _⟩
  · rw [hbcast, State.ringFrame_taken hon hrun _ _ hmine]
    refine (s.access_of_done _ (fun u => u.busWrite 0x09 addr.toNat value) hwrite rfl).trans ?_
    rw [State.finishReg_ring _ _ _ rfl, State.fld_reply, State.fld, State.reg_setReg_other _ _ (by decide)]
    rfl
  · rw [State.reg_emit, State.reg_reply, State.reg_setReg_same]

theorem completes_ring_passed (hup : s.ringUp hdr) (hother : s.ringMine hdr.dst false = false) (hhops : hdr.hops.val ≠ 63) :
    (Completes (.ringRd hdr addr true) s fun t =>
      t = { s with out := s.out ++ [.ringFrame 2 hdr.dst hdr.src false hdr.tag.toNat [addr.toNat]] }) ∧
    (Completes (.ringWr hdr addr value true) s fun t =>
      t = { s with out := s.out ++ [.ringFrame 3 hdr.dst hdr.src false hdr.tag.toNat [addr.toNat, value.toNat]] }) := by
  obtain ⟨hon, hrun, hbcast⟩ := hup
  have hhops := Nat.lt_of_le_of_ne (Nat.lt_succ_iff.1 hdr.hops.isLt) hhops
  constructor
  · refine .of_eq rfl (t := s.emit (.ringFrame 2 hdr.dst hdr.src false hdr.tag.toNat [addr.toNat])) ?_ rfl
    rw [hbcast, State.ringFrame_passed hon hrun _ _ hother hhops]
  · refine .of_eq rfl (t := s.emit (.ringFrame 3 hdr.dst hdr.src false hdr.tag.toNat [addr.toNat, value.toNat])) ?_ rfl
    rw [hbcast, State.ringFrame_passed hon hrun _ _ hother hhops]

end

end Sys2Proof.Machine


/-! PROOFS.  Answers, events and broadcast loads of the ring (R577 to R579). -/

namespace Sys2Proof.Machine

/-! ## The answer to a request of the head (R577) -/

section
variable (s : State) (r : RingReq) (b : BarReq)

/-- The only request inside the device, which waits for the only request on the ring. -/
structure State.OneRequest (s : State) (r : RingReq) (b : BarReq) : Prop where
  reqs : s.host.reqs = [r]
  bars : s.host.bars = [b]
  same : r.bar = b.id
  parts : b.parts = 1
  status : b.status = Code.ok
  data : b.data = []
  read : b.write = false
  plain : r.write = none
  held : s.host.heldBar2 = []
  idle : s.host.enumWait = false

/-- The host's and the ring's requests are all done. -/
def State.requestsDone (s : State) : State := { s with host := { s.host with reqs := [], bars := [] }, caller := .direct }

variable {s r b} (h : s.OneRequest r b)
include h

/-- The last part of the request completes with a status. -/
theorem State.OneRequest.done (code : Status) (value : Word32) : s.ringDone r code value =
    s.requestsDone.barDone { b with parts := 0, status := code, data := bytesOf32 value } := by
  obtain ⟨hreqs, hbars, hsame, hparts, hstatus, hdata, hread, hplain, hheld, hidle⟩ := h
  have hend (u : State) (hheld : u.host.heldBar2 = []) (hidle : u.host.enumWait = false) : u.enumSend.ringGo = u := by
    have hsend : u.enumSend = u := if_neg (by rw [hidle]; exact Bool.false_ne_true)
    rw [hsend, State.ringGo, hheld]
    rfl
  have hpart : (({ s with host := { s.host with reqs := [] }, caller := .direct } : State).barPart r.bar code (bytesOf32 value)) =
      s.requestsDone.barDone { b with parts := 0, status := code, data := bytesOf32 value } := by
    have hfind : s.host.bars.find? (fun x => x.id == r.bar) = some b := by rw [hbars]; simp [hsame]
    have hgone : s.host.bars.filter (fun x => x.id != r.bar) = [] := by rw [hbars]; simp [hsame]
    rw [State.barPart, hfind]
    dsimp only
    rw [hgone, hstatus, if_pos rfl, hdata, List.nil_append, hparts, if_pos rfl]
    rfl
  have hfinish : s.ringDone r code value = ((({ s with host := { s.host with reqs := [] }, caller := .direct } : State).barPart r.bar code
      (bytesOf32 value)).enumSend).ringGo := by
    rw [State.ringDone, hplain, hreqs]
    simp only [List.filter_cons, List.filter_nil, bne_self_eq_false, Bool.false_eq_true, if_false, Option.isSome_none]
    rfl
  rw [hfinish, hpart]
  refine hend _ ?_ ?_
  · unfold State.barDone
    simp only [hread, Bool.false_eq_true, if_false]
    split <;> exact hheld
  · unfold State.barDone
    simp only [hread, Bool.false_eq_true, if_false]
    split <;> exact hidle

theorem completes_ringRsp (hdr : RingHeader) (value : Word32) (hup : s.ringUp hdr) (hmine : s.ringMine hdr.dst false = true)
    (htag : r.tag = hdr.tag.toNat) (hdst : r.dst = hdr.src.val) : Completes (.ringRsp hdr Code.ok value true) s fun t =>
      t = { s with host := { s.host with reqs := [], bars := [] }, caller := .direct, out := s.out ++ [.barData (bytesOf32 value)] } := by
  obtain ⟨hon, hrun, hbcast⟩ := hup
  have hfind : s.host.reqs.find? (fun x => x.tag == hdr.tag.toNat && x.dst == hdr.src.val) = some r := by
    rw [h.reqs]
    simp [htag, hdst]
  refine .of_eq rfl ?_ rfl
  rw [hbcast, State.ringFrame_taken hon hrun _ _ hmine, hfind]
  dsimp only
  rw [h.done, State.barDone]
  simp only [h.read, Bool.false_eq_true, if_false, if_true]
  rfl

theorem completes_ringTimeout (tag : BitVec 8) (htag : r.tag = tag.toNat) : Completes (.ringTimeout tag) s fun t =>
    t.flag Fld.LRG_STATUS_RTMO = true ∧ t.sticky 502 = true ∧ t.out.getLast? = some .completerAbort ∧ t.host.reqs = [] ∧
    t.host.bars = [] ∧ OnlyEv [Fld.LRG_STATUS_RTMO] { s with host := t.host, caller := .direct } t := by
  have hfind : s.host.reqs.find? (fun x => x.tag == tag.toNat) = some r := by
    rw [h.reqs]
    simp [htag]
  obtain ⟨hflag, hsticky⟩ := s.raiseBit_spec (f := Fld.LRG_STATUS_RTMO) (n := 502) (by decide) rfl rfl rfl
  have hev : OnlyEv [Fld.LRG_STATUS_RTMO] s (s.raiseBit Fld.LRG_STATUS_RTMO 502) :=
    (OnlyEv.refl _ s).raiseBit _ _ rfl List.mem_cons_self (by decide)
  have hhost : (s.raiseBit Fld.LRG_STATUS_RTMO 502).host = s.host := State.raiseBit_host _ _ _
  have hexec : exec (.ringTimeout tag) s = .next ((s.raiseBit Fld.LRG_STATUS_RTMO 502).ringDone r Code.timeout 0) := by
    refine congrArg Host.Outcome.next ?_
    rw [hfind]
  generalize s.raiseBit Fld.LRG_STATUS_RTMO 502 = u at hflag hsticky hev hhost hexec
  have hu : u.OneRequest r b := by
    obtain ⟨hreqs, hbars, hsame, hparts, hstatus, hdata, hread, hplain, hheld, hidle⟩ := h
    exact ⟨hhost ▸ hreqs, hhost ▸ hbars, hsame, hparts, hstatus, hdata, hread, hplain, hhost ▸ hheld, hhost ▸ hidle⟩
  have habort : u.ringDone r Code.timeout 0 = u.requestsDone.abortRead b.bar b.offset := by
    rw [hu.done, State.barDone]
    simp only [h.read, Bool.false_eq_true, if_false]
    exact if_neg (by decide)
  rw [habort] at hexec
  refine ⟨_, hexec, hflag, hsticky, List.getLast?_concat, rfl, rfl, ?_, hev.2⟩
  exact (congrArg (fun x : State => { x with host := (u.requestsDone.abortRead b.bar b.offset).host, caller := .direct }) hev.1 :)

end

/-! ## Events, loads and the queues (R578, R579) -/

section
variable (s : State)

theorem completes_ringEvent (hdr : RingHeader) (event : Fin 512) (sev : BitVec 2) (vec : Fin 64) (hup : s.ringUp hdr)
    (hmine : s.ringMine hdr.dst false = true) (hhead : s.flag Fld.LRG_STATUS_HEAD = true) (hroom : s.host.evtq.length < 64)
    (hmask : (s.reg (Reg.HST_MSIX_TBL (4 * vec.val + 3))).getLsbD 0 = false) (hmsix : s.host.msixEnable = true)
    (hmaster : s.host.busMaster = true) : Completes (.ringEvent hdr event sev vec true) s fun t =>
      t = { s with host := { s.host with evtq := s.host.evtq ++ [(hdr.src.val, sev.toNat, event.val)] }, out := s.out ++ [.msix vec.val] } := by
  obtain ⟨hon, hrun, hbcast⟩ := hup
  have hfire (u : State) (hmask : (u.reg (Reg.HST_MSIX_TBL (4 * vec.val + 3))).getLsbD 0 = false) (hmsix : u.host.msixEnable = true)
      (hmaster : u.host.busMaster = true) : u.msixFire vec = u.emit (.msix vec) := by
    have hbit : bitOf (u.reg (Reg.HST_MSIX_TBL (4 * vec.val + 3))).toNat 0 = false := hmask
    rw [State.msixFire, hbit, hmsix, hmaster]
    rfl
  refine .of_eq rfl ?_ rfl
  rw [hbcast, State.ringFrame_taken hon hrun _ _ hmine, hhead, if_pos rfl, State.ringEventIn, if_pos hroom]
  exact hfire { s with host := { s.host with evtq := s.host.evtq ++ [(hdr.src.val, sev.toNat, event.val)] } } hmask hmsix hmaster

/-- A LOAD frame at a device that takes them. -/
theorem exec_ringLoad (hdr : RingHeader) (seq : Word32) (bytes : List Byte) (hon : s.ringBypassed = false)
    (hhead : s.flag Fld.LRG_STATUS_HEAD = false) (htakes : s.takesLoad = true) (hhops : hdr.hops.val ≠ 63) :
    exec (.ringLoad hdr seq bytes false true) s = .next (s.loadIn seq.toNat bytes false) := by
  have hhops : ¬ 63 ≤ hdr.hops.val := by have := hdr.hops.isLt; omega
  refine congrArg Host.Outcome.next ?_
  rw [hon, hhead, htakes, if_neg Bool.false_ne_true, if_neg (by decide), if_neg Bool.false_ne_true, if_pos rfl]
  exact if_neg hhops

theorem State.loadIn_next (bytes : List Byte) (hroom : (Sparse.get [] s.ldr.stream 2).length + 128 ≤ 65536) :
    s.loadIn s.host.loadExp bytes false =
      ({ s with ldr := { s.ldr with stream := Sparse.put [] s.ldr.stream 2 (Sparse.get [] s.ldr.stream 2 ++ bytes) },
                host := { s.host with loadExp := s.host.loadExp + 1 } } : State).emit (.ringLoad s.host.loadExp bytes false) := by
  rw [State.loadIn]
  dsimp only
  rw [if_neg (Nat.lt_irrefl _), if_pos ⟨rfl, hroom⟩]

theorem State.loadIn_stall {seq : Nat} (bytes : List Byte)
    (h : s.host.loadExp < seq ∨ (seq = s.host.loadExp ∧ 65536 < (Sparse.get [] s.ldr.stream 2).length + 128)) :
    s.loadIn seq bytes false = s.emit (.ringLoad seq bytes true) := by
  rw [State.loadIn]
  dsimp only
  rw [if_neg (by omega), if_neg (by omega)]

/-- One more LOAD frame under way. -/
def State.withSent (s : State) (bytes : List Byte) : State :=
  { s with host := { s.host with
    loadSeq := (s.host.loadSeq + 1) % 2 ^ 32, loadSent := s.host.loadSent ++ [(s.host.loadSeq, bytes)] } }

/-- The bytes that wait in the aperture. -/
def State.withBuf (s : State) (l : List Byte) : State := { s with host := { s.host with loadBuf := l } }

/-- Bytes of one frame leave at once, and the buffer is empty again. -/
theorem State.lrgLoad_frame (bytes : List Byte) (hhead : s.flag Fld.LRG_STATUS_HEAD = true) (hempty : s.host.loadBuf = [])
    (hbytes : bytes ≠ []) (hlen : bytes.length ≤ 128) (hsent : s.host.loadSent.length < 128) : ∃ w : Word32, s.lrgLoad bytes =
      ((((s.withSent bytes).setReg Reg.LRG_LOAD_FREE w).reply Code.ok).setReg Reg.LRG_LOAD_FREE 65536).loadSend s.host.loadSeq bytes := by
  have htake : bytes.take 128 = bytes := List.take_of_length_le hlen
  have hdrop : bytes.drop 128 = [] := List.drop_of_length_le hlen
  have hnone (k : Nat) (u : State) (hu : u.host.loadBuf = []) : State.loadPump k u = u := by
    cases k with
    | zero => rfl
    | succ k => exact if_neg (by simp [hu])
  have hfirst (k : Nat) (u : State) (hh : u.flag Fld.LRG_STATUS_HEAD = true) (hbuf : u.host.loadBuf = bytes)
      (hs : u.host.loadSent.length < 128) : State.loadPump (k + 1) u =
        (((u.withBuf []).withSent bytes).setReg Reg.LRG_LOAD_FREE 65536).loadSend
          u.host.loadSeq bytes := by
    rw [State.loadPump, if_pos (by simp [hh, hbuf, hs, hbytes])]
    dsimp only
    rw [hbuf, htake, hdrop]
    exact hnone k _ rfl
  have hn : ¬ 65536 < s.host.loadBuf.length + bytes.length := by rw [hempty]; simp only [List.length_nil]; omega
  refine ⟨BitVec.ofNat 32 (65536 - (s.host.loadBuf.length + bytes.length)), ?_⟩
  rw [State.lrgLoad]
  dsimp only
  rw [if_neg hn]
  refine (hfirst ((s.host.loadBuf.length + bytes.length) / 128)
    (((s.withBuf (s.host.loadBuf ++ bytes)).setReg Reg.LRG_LOAD_FREE _).reply Code.ok) ?_ ?_ hsent).trans ?_
  · rw [State.flag_reply, State.flag_setReg_other _ _ (by decide)]
    exact hhead
  · change s.host.loadBuf ++ bytes = bytes
    rw [hempty, List.nil_append]
  · have hsame : s.withBuf [] = s := by rw [State.withBuf, ← hempty]
    generalize BitVec.ofNat 32 (65536 - (s.host.loadBuf.length + bytes.length)) = w
    conv_rhs => rw [← hsame]
    rfl

theorem completes_lrgLoadWrite (mid : Mid) (bytes : List Byte) (hawake : s.awake 0x08210000) (hhead : s.flag Fld.LRG_STATUS_HEAD = true)
    (hempty : s.host.loadBuf = []) (hbytes : bytes ≠ []) (hlen : bytes.length ≤ 128) (hsent : s.host.loadSent.length < 128) :
    Completes (.lrgLoadWrite mid bytes) s fun t =>
      t.out = s.out ++ [.ringLoad s.host.loadSeq bytes false] ∧ t.reg Reg.LRG_LOAD_FREE = 65536 ∧ t.done.status = Code.ok ∧
      Only [wholeReg Reg.LRG_LOAD_FREE]
        { s with host := { s.host with
          loadSeq := (s.host.loadSeq + 1) % 2 ^ 32, loadSent := s.host.loadSent ++ [(s.host.loadSeq, bytes)] } } t := by
  obtain ⟨w, heq⟩ := s.lrgLoad_frame bytes hhead hempty hbytes hlen hsent
  refine .of_eq rfl ((State.gate_of_awake hawake _ _ _).trans heq) ⟨rfl, ?_, rfl, ?_⟩
  · rw [State.loadSend, State.reg_emit, State.reg_setReg_same]
  · exact ((((Only.refl _ _).setReg _ _ List.mem_cons_self).reply _ _).setReg _ _ List.mem_cons_self).emit _

/-- A read of another device's register through BAR2. -/
theorem completes_memoryRead_ring (off : BitVec 34) (hlink : s.flag Fld.HST_STATUS_LINK_UP = true) (hoff : off.toNat % 4 = 0)
    (hdev : off.toNat / 2 ^ 28 ≠ 0) (hheld : s.host.heldBar2 = []) (hholds : s.ringHolds = false)
    (hnodev : s.ringNoDev (off.toNat / 2 ^ 28) = false) : Completes (.memoryRead .ring off 4 []) s fun t =>
      t.host.reqs = s.host.reqs ++
        [{ tag := s.ringTag, dst := off.toNat / 2 ^ 28, addr := off.toNat % 2 ^ 28, write := none, bar := s.host.nextBar }] ∧
      t.out = s.out ++ [.ringFrame 2 (off.toNat / 2 ^ 28) 0 false s.ringTag [off.toNat % 2 ^ 28]] ∧ t.regs = s.regs := by
  have haligned : barAligned off.toNat 4 = true := by rw [barAligned, hoff]; rfl
  have hreg : (s.barBegin .ring off.toNat 1 false).barReg s.host.nextBar .ring off.toNat none =
      (s.barBegin .ring off.toNat 1 false).ringSend
        { tag := 0, dst := off.toNat / 2 ^ 28, addr := off.toNat % 2 ^ 28, write := none, bar := s.host.nextBar } := by
    have hheld' : (s.barBegin .ring off.toNat 1 false).ringHolds = false := hholds
    have hempty : (s.barBegin .ring off.toNat 1 false).host.heldBar2 = [] := hheld
    have hnodev' : (s.barBegin .ring off.toNat 1 false).ringNoDev (off.toNat / 2 ^ 28) = false := hnodev
    rw [State.barReg]
    dsimp only
    rw [beq_eq_false_iff_ne.2 hdev, Bool.false_and, if_neg Bool.false_ne_true, State.ringRequest, hheld', hempty, hnodev']
    rfl
  have hexec : exec (.memoryRead .ring off 4 []) s = .next ((s.barBegin .ring off.toNat 1 false).barReg s.host.nextBar .ring off.toNat none) := by
    refine congrArg Host.Outcome.next ?_
    rw [hlink]
    exact if_pos haligned
  exact .of_eq hexec hreg ⟨rfl, rfl, rfl⟩

end

/-- Settles O52: frames that are taken or passed on, the access that an answer completes, and the loads' one frame at a time. -/
theorem ringTraffic : Obligations.RingTraffic := by
  unfold Obligations.RingTraffic
  intro mid hdr addr off value seq event sev vec bytes s
  refine ⟨fun hmine hawake => ⟨fun ha hle => completes_ringRd s hdr addr hmine.1 hmine.2 hawake ha hle,
      fun ha => completes_ringWr s hdr addr value hmine.1 hmine.2 hawake ha⟩,
    fun hup hother hhops => completes_ring_passed s hdr addr value hup hother hhops,
    fun r b hreqs hbars hsame hparts hstatus hdata hread hplain hheld hidle => ?_,
    fun hmine hhead hroom hmask hmsix hmaster =>
      completes_ringEvent s hdr event sev vec hmine.1 hmine.2 hhead hroom hmask hmsix hmaster,
    fun hon hhead htakes hhops => ⟨fun hseq hroom => ?_, fun hlate => ?_⟩, fun hawake => ⟨fun hlong => ?_, ?_⟩, fun hawake d v e rest hq => ?_,
    completes_memoryRead_ring s off⟩
  · have hone : s.OneRequest r b := ⟨hreqs, hbars, hsame, hparts, hstatus, hdata, hread, hplain, hheld, hidle⟩
    exact ⟨fun hmine htag hdst => completes_ringRsp hone hdr value hmine.1 hmine.2 htag hdst, completes_ringTimeout hone hdr.tag⟩
  · refine .of_eq (exec_ringLoad s hdr seq bytes hon hhead htakes hhops) (by rw [hseq, s.loadIn_next bytes hroom]) ⟨?_, ?_⟩
    · exact Sparse.get_put_same [] s.ldr.stream 2 _
    · rw [hseq]
      rfl
  · exact .of_eq (exec_ringLoad s hdr seq bytes hon hhead htakes hhops) (s.loadIn_stall bytes hlate) rfl
  · exact .of_eq rfl ((State.gate_of_awake hawake _ _ _).trans (if_pos hlong)) rfl
  · exact completes_lrgLoadWrite s mid bytes hawake
  · refine .of_eq rfl ((State.gate_of_awake hawake _ _ _).trans ?_) rfl
    rw [State.evtqRead, hq]
    rfl

end Sys2Proof.Machine


/-! PROOFS.  Requests of the host through its BARs (R566 to R568). -/

namespace Sys2Proof.Machine

/-! ## Requests that one part completes -/

section
variable {s : State}

/-- A request through a BAR that is done: its number is used up, and nobody waits. -/
def State.barServed (u : State) (s : State) : State :=
  { u with host := { s.host with nextBar := s.host.nextBar + 1 }, caller := .direct }

/-- The request that a BAR access of one part puts into the device. -/
def State.newBar (s : State) (bar : Bar) (off : Nat) (write : Bool) : BarReq :=
  { id := s.host.nextBar, bar := barNumber bar, offset := off, write := write, parts := 1, status := Code.ok, data := [] }

/-- The only part completes: the request leaves the device, and is answered. -/
theorem State.finish_bar (hids : ∀ b ∈ s.host.bars, b.id < s.host.nextBar) {bar : Bar} {off : Nat} {write : Bool} {u : State}
    (hu : u.host = (s.barBegin bar off 1 write).host) (code : Status) (data : List Byte) : u.finish (.bar s.host.nextBar) code data =
      (u.barServed s).barDone { s.newBar bar off write with parts := 0, status := code, data := data } := by
  have hold : ∀ b ∈ s.host.bars, (b.id == s.host.nextBar) = false := fun b hb => beq_eq_false_iff_ne.2 (Nat.ne_of_lt (hids b hb))
  have hbars : u.host.bars = s.host.bars ++ [s.newBar bar off write] := by rw [hu]; rfl
  have hfind : u.host.bars.find? (fun b => b.id == s.host.nextBar) = some (s.newBar bar off write) := by
    rw [hbars, List.find?_append, List.find?_eq_none.2 (by simpa using hold), Option.none_or]
    simp [State.newBar]
  have hrest : u.host.bars.filter (fun b => b.id != s.host.nextBar) = s.host.bars := by
    rw [hbars, List.filter_append, List.filter_eq_self.2 (fun b hb => by simp [bne, hold b hb])]
    simp [State.newBar]
  have hpart : ({ u with caller := .direct } : State).barPart s.host.nextBar code data =
      ({ u with caller := .direct, host := { u.host with bars := s.host.bars } } : State).barDone
        { s.newBar bar off write with parts := 0, status := code, data := data } := by
    rw [State.barPart, hfind]
    dsimp only
    rw [hrest]
    rfl
  have hhost : { u.host with bars := s.host.bars } = { s.host with nextBar := s.host.nextBar + 1 } := by rw [hu]; rfl
  rw [hhost] at hpart
  exact hpart

end

/-! ## BAR4 (R567, R568) -/

section
variable (s : State)

/-- The host interface's own state has no part in the conditions of an access to the memory. -/
theorem State.hbmConditions_barBegin (bar : Bar) (off parts : Nat) (w : Bool) (mid : Mid) (a n : Nat) (write : Bool) :
    ((s.barBegin bar off parts w).hbmConditions mid a n write).2 = (s.hbmConditions mid a n write).2 := rfl

theorem completes_memoryRead_hbm (off : BitVec 34) (len : Nat) (hlink : s.flag Fld.HST_STATUS_LINK_UP = true)
    (hids : ∀ b ∈ s.host.bars, b.id < s.host.nextBar) (hanswers : s.hbmAnswers = true) (hlen : len ≤ 4096)
    (hmay : (s.hbmConditions 0x08 off.toNat len false).2 = none) : Completes (.memoryRead .hbm off len []) s fun t =>
      t = { s with host := { s.host with nextBar := s.host.nextBar + 1 }, caller := .direct, done := { status := Code.ok, data := 0 },
                   out := s.out ++ [.barData (s.hbmBytes off.toNat len)] } := by
  have hbegin : (s.barBegin .hbm off.toNat 1 false).hbmReadFor (.bar s.host.nextBar) 0x08 off.toNat len [] =
      ((s.barBegin .hbm off.toNat 1 false).reply Code.ok).finish (.bar s.host.nextBar) Code.ok (s.hbmBytes off.toNat len) := by
    have hanswers' : (s.barBegin .hbm off.toNat 1 false).hbmAnswers = true := hanswers
    rw [State.hbmReadFor, if_pos hanswers', State.hbmReadWords_of_none ((s.hbmConditions_barBegin ..).trans hmay)]
    rfl
  have hexec : exec (.memoryRead .hbm off len []) s =
      .next ((s.barBegin .hbm off.toNat 1 false).hbmReadFor (.bar s.host.nextBar) 0x08 off.toNat len []) := by
    refine congrArg Host.Outcome.next ?_
    rw [hlink, if_neg (by decide)]
    exact if_neg (show ¬ 4096 < len by omega)
  refine .of_eq hexec hbegin ?_
  rw [State.finish_bar (bar := .hbm) (off := off.toNat) (write := false) (u := (s.barBegin .hbm off.toNat 1 false).reply Code.ok) hids rfl]
  rfl

/-! ### Words stored (R338) -/

theorem State.hbmStore_append (l r : List (Byte × Bool)) (a : Nat) : s.hbmStore a (l ++ r) = (s.hbmStore a l).hbmStore (a + l.length) r := by
  induction l generalizing s a with
  | nil => rfl
  | cons x l ih =>
    obtain ⟨v, en⟩ := x
    rw [List.cons_append, State.hbmStore, ih, State.hbmStore, List.length_cons, Nat.add_assoc, Nat.add_comm 1]

/-- Bytes whose enables are 0 are not stored. -/
theorem State.hbmStore_disabled (l : List (Byte × Bool)) (hl : ∀ x ∈ l, x.2 = false) (a : Nat) : s.hbmStore a l = s := by
  induction l generalizing a with
  | nil => rfl
  | cons x l ih =>
    obtain ⟨v, en⟩ := x
    have hen : en = false := hl _ List.mem_cons_self
    rw [State.hbmStore, hen]
    exact ih (fun y hy => hl y (List.mem_cons_of_mem _ hy)) _

theorem State.hbmStore_enabled (l : List Byte) (a : Nat) : s.hbmStore a (l.zip (List.replicate l.length true)) = s.setHbmBytes a l := by
  induction l generalizing s a with
  | nil => rfl
  | cons v l ih =>
    rw [List.length_cons, List.replicate_succ, List.zip_cons_cons, State.hbmStore, if_pos rfl, ih, State.setHbmBytes]

/-- One word of a write that checks clean, if its check is needed. -/
def State.hbmStoreWord (mid : Mid) (w : Nat) (p : List (Byte × Bool)) : State × Bool :=
  if p.length = 8 ∧ p.all (fun b => b.2) = true then (s.hbmStore (8 * w) p, true)
  else if p.any (fun b => b.2) then
    (match s.hbmEcc mid (8 * w) .clean with
     | (s1, true) => (s1.hbmStore (8 * w) p, true)
     | (s1, false) => (s1, false))
  else (s, true)

theorem State.hbmStoreWord_eq (mid : Mid) (w : Nat) (p : List (Byte × Bool)) : s.hbmStoreWord mid w p = (s.hbmStore (8 * w) p, true) := by
  unfold State.hbmStoreWord
  split
  · rfl
  · split
    · rfl
    next hnone =>
      rw [s.hbmStore_disabled _ fun x hx => ?_]
      by_contra hen
      exact hnone (List.any_eq_true.2 ⟨x, hx, by simpa using hen⟩)

theorem State.hbmStoreWords_succ (mid : Mid) (w k : Nat) (l : List (Byte × Bool)) : s.hbmStoreWords mid w (k + 1) l [] =
    (((s.hbmStoreWord mid w (l.take 8)).1.hbmStoreWords mid (w + 1) k (l.drop 8) []).1,
      (s.hbmStoreWord mid w (l.take 8)).2 && ((s.hbmStoreWord mid w (l.take 8)).1.hbmStoreWords mid (w + 1) k (l.drop 8) []).2) := rfl

/-- Words that check clean are all stored. -/
theorem State.hbmStoreWords_clean (mid : Mid) (k : Nat) (w : Nat) (l : List (Byte × Bool)) (hl : l.length ≤ 8 * k) :
    s.hbmStoreWords mid w k l [] = (s.hbmStore (8 * w) l, true) := by
  induction k generalizing s w l with
  | zero =>
    have hnil : l = [] := List.length_eq_zero_iff.1 (by omega)
    rw [hnil]
    rfl
  | succ k ih =>
    have hsplit : s.hbmStore (8 * w) l = (s.hbmStore (8 * w) (l.take 8)).hbmStore (8 * (w + 1)) (l.drop 8) := by
      by_cases hlong : 8 ≤ l.length
      · conv_lhs => rw [← List.take_append_drop 8 l]
        rw [State.hbmStore_append, List.length_take, Nat.min_eq_left hlong, Nat.mul_succ]
      · rw [List.take_of_length_le (by omega), List.drop_of_length_le (by omega)]
        rfl
    rw [State.hbmStoreWords_succ, State.hbmStoreWord_eq, ih _ _ _ (by rw [List.length_drop]; omega), hsplit]
    rfl

/-- A write of whole bytes that no condition refuses, outside the mirrored regions. -/
theorem State.hbmWriteWords_of_none (mid : Mid) (a : Nat) (bytes : List Byte) (hpos : 0 < bytes.length)
    (hmay : (s.hbmConditions mid a bytes.length true).2 = none) (hmirror : s.mirrored a = false) :
    s.hbmWriteWords mid a (bytes.zip (List.replicate bytes.length true)) [] = (s.setHbmBytes a bytes, Code.ok) := by
  have hlen : (bytes.zip (List.replicate bytes.length true)).length = bytes.length := by
    rw [List.length_zip, List.length_replicate, Nat.min_self]
  have hwords : s.hbmStoreWords mid (a / 8) (wordCount a bytes.length)
      (List.replicate (a % 8) (0, false) ++ bytes.zip (List.replicate bytes.length true)) [] = (s.setHbmBytes a bytes, true) := by
    have hskip : s.hbmStore (8 * (a / 8)) (List.replicate (a % 8) (0, false)) = s :=
      s.hbmStore_disabled _ (fun x hx => by rw [List.eq_of_mem_replicate hx]) _
    rw [State.hbmStoreWords_clean, State.hbmStore_append, hskip, List.length_replicate, State.hbmStore_enabled, Nat.div_add_mod]
    · rw [List.length_append, List.length_replicate, hlen, wordCount, if_neg (by omega)]
      omega
  obtain ⟨x, hx⟩ := s.setHbmBytes_eq a bytes
  have hmirror' : (s.setHbmBytes a bytes).mirrored a = false := by rw [hx]; exact hmirror
  have hplain : (s.setHbmBytes a bytes).twinMirror mid a bytes.length = s.setHbmBytes a bytes := by
    unfold State.twinMirror
    extract_lets lock sent
    rw [hmirror', Bool.false_and]
    exact if_neg Bool.false_ne_true
  rw [State.hbmWriteWords, hlen, State.hbmConditions_of_none hmay]
  dsimp only
  rw [hmirror, Bool.and_false, if_neg Bool.false_ne_true, hwords]
  dsimp only
  rw [hplain]
  rfl

theorem completes_memoryWrite_hbm (off : BitVec 34) (bytes : List Byte) (hlink : s.flag Fld.HST_STATUS_LINK_UP = true)
    (hids : ∀ b ∈ s.host.bars, b.id < s.host.nextBar) (hanswers : s.hbmAnswers = true) (hpos : 0 < bytes.length)
    (hlen : bytes.length ≤ 512) (hmay : (s.hbmConditions 0x08 off.toNat bytes.length true).2 = none)
    (hmirror : s.mirrored off.toNat = false) :
    Completes (.memoryWrite .hbm off (List.replicate bytes.length true) bytes []) s fun t =>
      t.hbmBytes off.toNat bytes.length = bytes ∧
      (∀ a, a < off.toNat ∨ off.toNat + bytes.length ≤ a → t.hbmByte a = s.hbmByte a) ∧
      t = { s with host := { s.host with nextBar := s.host.nextBar + 1 }, caller := .direct, done := { status := Code.ok, data := 0 },
                   hbm := t.hbm } := by
  obtain ⟨x, hx⟩ := (s.barBegin .hbm off.toNat 1 true).setHbmBytes_eq off.toNat bytes
  have hbegin : (s.barBegin .hbm off.toNat 1 true).hbmWriteFor (.bar s.host.nextBar) 0x08 off.toNat
      (bytes.zip (List.replicate bytes.length true)) [] =
      (((s.barBegin .hbm off.toNat 1 true).setHbmBytes off.toNat bytes).reply Code.ok).finish (.bar s.host.nextBar) Code.ok [] := by
    have hanswers' : (s.barBegin .hbm off.toNat 1 true).hbmAnswers = true := hanswers
    have hmirror' : (s.barBegin .hbm off.toNat 1 true).mirrored off.toNat = false := hmirror
    rw [State.hbmWriteFor, if_pos hanswers', State.hbmWriteWords_of_none _ _ _ _ hpos ((s.hbmConditions_barBegin ..).trans hmay) hmirror']
  have hexec : exec (.memoryWrite .hbm off (List.replicate bytes.length true) bytes []) s =
      .next ((s.barBegin .hbm off.toNat 1 true).hbmWriteFor (.bar s.host.nextBar) 0x08 off.toNat
        (bytes.zip (List.replicate bytes.length true)) []) := by
    refine congrArg Host.Outcome.next ?_
    rw [hlink, if_neg (by decide)]
    exact if_neg (show ¬ 512 < bytes.length by omega)
  have hread := hbmBytes_setHbmBytes (s.barBegin .hbm off.toNat 1 true) off.toNat bytes
  have houtside {a : Nat} (ha : a < off.toNat ∨ off.toNat + bytes.length ≤ a) :=
    hbmByte_setHbmBytes_outside (s.barBegin .hbm off.toNat 1 true) bytes ha
  rw [hx] at hbegin hread houtside
  refine .of_eq hexec (hbegin.trans (State.finish_bar (bar := .hbm) (off := off.toNat) (write := true) hids (by rfl) _ _)) ?_
  exact ⟨hread, fun a ha => houtside ha, rfl⟩

end

end Sys2Proof.Machine


/-! PROOFS.  Register accesses through BAR0, malformed requests, MSI-X and the host link (R566 to R570). -/

namespace Sys2Proof.Machine

/-! ## BAR0 (R567) -/

section
variable (s : State) (off : BitVec 34)

/-- A request through BAR0 for one register of this device. -/
theorem State.barRegs_one (id : Nat) {a : Nat} (ha : a < 2 ^ 28) (write : Option Word32) :
    s.barRegs id .regs a [write] = s.access (.bar id) (fun s => match write with
      | some v => s.busWrite 0x08 a v
      | none => s.busRead 0x08 a) := by
  have hlow : a % 2 ^ 28 = a := Nat.mod_eq_of_lt ha
  change s.barReg id .regs a write = _
  unfold State.barReg
  rw [hlow]
  exact if_pos rfl

theorem pieces_four (a b c d : Byte) : pieces 4 [a, b, c, d] = [[a, b, c, d]] := by
  simp [pieces]

theorem completes_memoryRead_ident (hlink : s.flag Fld.HST_STATUS_LINK_UP = true) (hids : ∀ b ∈ s.host.bars, b.id < s.host.nextBar)
    (hawake : s.awake off.toNat) (ha : off.toNat % 4 = 0) (hle : off.toNat ≤ Reg.DEV_SCRATCH) :
    Completes (.memoryRead .regs off 4 []) s fun t =>
      t = { s with host := { s.host with nextBar := s.host.nextBar + 1 }, caller := .direct,
                   done := { status := Code.ok, data := s.reg off.toNat }, out := s.out ++ [.barData (bytesOf32 (s.reg off.toNat))] } := by
  have hlow : off.toNat ≤ 0x10 := hle
  have halign : barAligned off.toNat 4 = true := by simp [barAligned, ha]
  have hread : ((s.barBegin .regs off.toNat 1 false).callBy (.bar s.host.nextBar)).busRead 0x08 off.toNat =
      ((s.barBegin .regs off.toNat 1 false).callBy (.bar s.host.nextBar)).reply Code.ok (s.reg off.toNat) :=
    State.busRead_ident _ _ ha hle hawake
  have hexec : exec (.memoryRead .regs off 4 []) s =
      .next ((s.barBegin .regs off.toNat 1 false).barRegs s.host.nextBar .regs off.toNat [none]) := by
    refine congrArg Host.Outcome.next ?_
    rw [hlink, if_neg (by decide)]
    exact if_pos halign
  refine .of_eq hexec ((State.barRegs_one _ _ (by omega) _).trans ?_) rfl
  refine (State.access_of_done _ _ (fun u => u.busRead 0x08 off.toNat) hread rfl).trans ?_
  refine (State.finish_bar (bar := .regs) (off := off.toNat) (write := false) hids (by rfl) _ _).trans ?_
  rfl

theorem completes_memoryWrite_scratch (value : Word32) (hlink : s.flag Fld.HST_STATUS_LINK_UP = true)
    (hids : ∀ b ∈ s.host.bars, b.id < s.host.nextBar) (hawake : s.awake off.toNat) (ha : off.toNat = Reg.DEV_SCRATCH) :
    Completes (.memoryWrite .regs off [true, true, true, true] (bytesOf32 value) []) s fun t =>
      t.reg Reg.DEV_SCRATCH = value ∧
      Only [wholeReg Reg.DEV_SCRATCH] { s with host := { s.host with nextBar := s.host.nextBar + 1 }, caller := .direct } t := by
  have hpieces : (pieces 4 (bytesOf32 value)).map (fun p => some (BitVec.ofNat 32 (natOfBytes p))) = [some value] := by
    have hone : pieces 4 (bytesOf32 value) = [bytesOf32 value] := pieces_four _ _ _ _
    rw [hone, List.map_singleton, natOfBytes_bytesOf32, BitVec.ofNat_toNat, BitVec.setWidth_eq]
  have hlen : (bytesOf32 value).length = 4 := by simp [bytesOf32]
  have hexec : exec (.memoryWrite .regs off [true, true, true, true] (bytesOf32 value) []) s =
      .next ((s.barBegin .regs off.toNat 1 true).barRegs s.host.nextBar .regs off.toNat [some value]) := by
    refine congrArg Host.Outcome.next ?_
    rw [hlink, if_neg (by decide), ← hpieces]
    dsimp only
    rw [hlen, ha]
    rfl
  have hwrite : ((s.barBegin .regs off.toNat 1 true).callBy (.bar s.host.nextBar)).busWrite 0x08 off.toNat value =
      (((s.barBegin .regs off.toNat 1 true).callBy (.bar s.host.nextBar)).setReg Reg.DEV_SCRATCH value).reply Code.ok := by
    rw [ha] at hawake ⊢
    exact State.busWrite_scratch _ _ value hawake
  refine .of_eq hexec (((State.barRegs_one _ _ (by rw [ha]; decide) _).trans
    (State.access_of_done _ _ (fun u => u.busWrite 0x08 off.toNat value) hwrite rfl)).trans
    (State.finish_bar (bar := .regs) (off := off.toNat) (write := true) hids (by rfl) _ _)) ?_
  have honly : Only [wholeReg Reg.DEV_SCRATCH] { s with host := { s.host with nextBar := s.host.nextBar + 1 }, caller := .direct }
      ((({ s with host := { s.host with nextBar := s.host.nextBar + 1 }, caller := .direct } : State).setReg Reg.DEV_SCRATCH value).reply
        Code.ok) := ((Only.refl _ _).setReg _ _ List.mem_cons_self).reply _ _
  exact ⟨State.reg_setReg_same _ _ _, honly⟩

end

/-! ## Malformed requests (R567) -/

section
variable (s : State)

theorem State.malformed_spec (h : s.reg Reg.HST_MAL_CNT ≠ 0xFFFFFFFF) :
    s.malformed.reg Reg.HST_MAL_CNT = s.reg Reg.HST_MAL_CNT + 1 ∧ s.malformed.flag Fld.HST_STATUS_MALFORMED = true ∧
    s.malformed.sticky 497 = true ∧ OnlyEv [wholeReg Reg.HST_MAL_CNT, Fld.HST_STATUS_MALFORMED] s s.malformed := by
  have hcount : s.countReg Reg.HST_MAL_CNT = s.setReg Reg.HST_MAL_CNT (s.reg Reg.HST_MAL_CNT + 1) := if_neg h
  have hev : OnlyEv [wholeReg Reg.HST_MAL_CNT, Fld.HST_STATUS_MALFORMED] s (s.setReg Reg.HST_MAL_CNT (s.reg Reg.HST_MAL_CNT + 1)) :=
    (OnlyEv.refl _ s).setReg _ _ List.mem_cons_self
  rw [State.malformed, hcount]
  have hone : OnlyEv [Fld.HST_STATUS_MALFORMED] (s.setReg Reg.HST_MAL_CNT (s.reg Reg.HST_MAL_CNT + 1))
      ((s.setReg Reg.HST_MAL_CNT (s.reg Reg.HST_MAL_CNT + 1)).raiseBit Fld.HST_STATUS_MALFORMED 497) :=
    (OnlyEv.refl _ _).raiseBit _ _ rfl List.mem_cons_self (by decide)
  obtain ⟨hflag, hsticky⟩ := (s.setReg Reg.HST_MAL_CNT (s.reg Reg.HST_MAL_CNT + 1)).raiseBit_spec (f := Fld.HST_STATUS_MALFORMED)
    (n := 497) (by decide) rfl rfl rfl
  refine ⟨?_, hflag, hsticky, hev.trans (hone.mono (by simp))⟩
  rw [hone.reg_eq rfl (by simp [Field.apart, wholeReg]), State.reg_setReg_same]

theorem OnlyEv.withHost {w : List Field} {s t : State} (h : OnlyEv w s t) (x : HostSt) :
    OnlyEv w { s with host := x } { t with host := x } :=
  ⟨(congrArg (fun u : State => { u with host := x }) h.1 :), h.2⟩

theorem State.malformed_host : s.malformed.host = s.host := by
  rw [State.malformed, State.raiseBit_host, State.countReg_host]

/-- A read that is aborted: AER keeps the header that it holds. -/
theorem State.abortRead_eq (bar off : Nat) : s.abortRead bar off =
    ({ s with host := { s.host with aer := some (s.host.aer.getD (bar, off)) } } : State).emit .completerAbort := by
  rw [State.abortRead]
  cases s.host.aer <;> rfl

theorem exec_memoryRead_malformed {bar : Bar} {off : BitVec 34} {len : Nat} (hlink : s.flag Fld.HST_STATUS_LINK_UP = true)
    (hbar : bar ≠ .hbm) (hbad : barAligned off.toNat len = false) :
    exec (.memoryRead bar off len []) s = .next (s.malformed.abortRead (barNumber bar) off.toNat) := by
  refine congrArg Host.Outcome.next ?_
  rw [hlink, if_neg (by decide)]
  cases bar with
  | regs => exact if_neg (by rw [hbad]; decide)
  | ring => exact if_neg (by rw [hbad]; decide)
  | hbm => exact absurd rfl hbar

theorem exec_memoryWrite_malformed {bar : Bar} {off : BitVec 34} {be : List Bool} {bytes : List Byte}
    (hlink : s.flag Fld.HST_STATUS_LINK_UP = true) (hbar : bar ≠ .hbm) (hbad : barAligned off.toNat bytes.length = false) :
    exec (.memoryWrite bar off be bytes []) s = .next s.malformed := by
  refine congrArg Host.Outcome.next ?_
  rw [hlink, if_neg (by decide)]
  cases bar with
  | regs => exact if_neg (by simp [hbad])
  | ring => exact if_neg (by simp [hbad])
  | hbm => exact absurd rfl hbar

end

/-! ## MSI-X (R569) -/

section
variable (s : State)

/-- A bit of a register cleared by its mask. -/
theorem and_not_two_pow (a : Nat) {i : Nat} (w : Word32) : w &&& ~~~ BitVec.ofNat 32 (2 ^ i) = (⟨a, i, 1⟩ : Field).put w 0 := by
  simp [Field.put, Field.mask, Nat.shiftLeft_eq]

theorem State.setReg_clearBit (a i : Nat) :
    s.setReg a (s.reg a &&& ~~~ BitVec.ofNat 32 (2 ^ i)) = s.setFlag ⟨a, i, 1⟩ false := by
  rw [and_not_two_pow a]
  rfl

theorem State.getLsbD_setFlag_bit (a : Nat) {i : Nat} (hi : i < 32) (b : Bool) :
    ((s.setFlag ⟨a, i, 1⟩ b).reg a).getLsbD i = b :=
  ((s.setFlag ⟨a, i, 1⟩ b).flag_eq_bitOf (f := ⟨a, i, 1⟩) rfl).symm.trans
    (State.flag_setFlag_same _ _ _ (decide_eq_true (by change i + 1 ≤ 32; omega)) rfl)

/-- A bit of a register under its mask is 0 exactly when the bit is. -/
theorem and_two_pow_eq_zero {i : Nat} (hi : i < 32) (w : Word32) : (w &&& BitVec.ofNat 32 (2 ^ i) == 0) = !w.getLsbD i := by
  cases hbit : w.getLsbD i with
  | true =>
    refine beq_eq_false_iff_ne.2 fun h => ?_
    have := congrArg (fun v : Word32 => v.getLsbD i) h
    rw [BitVec.getLsbD_and, hbit, getLsbD_ofNat_two_pow hi] at this
    simp at this
  | false =>
    refine beq_iff_eq.2 (BitVec.eq_of_getLsbD_eq fun j _ => ?_)
    rw [BitVec.getLsbD_and, getLsbD_ofNat_two_pow hi]
    by_cases hj : i = j
    · simp [← hj, hbit]
    · simp [hj]

/-- The mask of a vector cleared. -/
def State.unmasked (s : State) (vec : Fin 64) : State := s.setFlag ⟨Reg.HST_MSIX_TBL (4 * vec + 3), 0, 1⟩ false

theorem exec_msixUnmask (vec : Fin 64) : exec (.msixUnmask vec) s = .next ((s.unmasked vec).msixSend vec) := by
  have hmask : s.setReg (Reg.HST_MSIX_TBL (4 * vec + 3)) (s.reg (Reg.HST_MSIX_TBL (4 * vec + 3)) &&& 0xFFFFFFFE) = s.unmasked vec :=
    s.setReg_clearBit (Reg.HST_MSIX_TBL (4 * vec + 3)) 0
  rw [← hmask]
  rfl

theorem State.unmasked_mask (vec : Fin 64) : ((s.unmasked vec).reg (Reg.HST_MSIX_TBL (4 * vec + 3))).getLsbD 0 = false :=
  s.getLsbD_setFlag_bit _ (by decide) _

theorem State.unmasked_pending (vec : Fin 64) :
    (s.unmasked vec).reg (Reg.HST_MSIX_PBA (vec / 32)) = s.reg (Reg.HST_MSIX_PBA (vec / 32)) := by
  refine State.reg_setFld_other _ _ _ _ ?_
  simp only [Reg.HST_MSIX_PBA, Reg.HST_MSIX_TBL]
  omega

theorem State.msixSend_unmasked (vec : Fin 64) : (s.unmasked vec).msixSend vec =
    if s.host.msixEnable = true ∧ s.host.busMaster = true ∧ (s.reg (Reg.HST_MSIX_PBA (vec / 32))).getLsbD (vec % 32) = true
    then ((s.unmasked vec).setFlag ⟨Reg.HST_MSIX_PBA (vec / 32), vec % 32, 1⟩ false).emit (.msix vec) else s.unmasked vec := by
  have hmask : bitOf ((s.unmasked vec).reg (Reg.HST_MSIX_TBL (4 * vec + 3))).toNat 0 = false := s.unmasked_mask vec
  have hhost : (s.unmasked vec).host = s.host := rfl
  rw [State.msixSend, State.setReg_clearBit, hmask, hhost, and_two_pow_eq_zero (Nat.mod_lt _ (by decide)), s.unmasked_pending]
  cases s.host.msixEnable <;> cases s.host.busMaster <;> cases (s.reg (Reg.HST_MSIX_PBA (vec / 32))).getLsbD (vec % 32) <;> rfl

theorem completes_msixUnmask_sends (vec : Fin 64) (h : s.host.msixEnable = true ∧ s.host.busMaster = true ∧
    (s.reg (Reg.HST_MSIX_PBA (vec / 32))).getLsbD (vec % 32) = true) : Completes (.msixUnmask vec) s fun t =>
      (t.reg (Reg.HST_MSIX_TBL (4 * vec + 3))).getLsbD 0 = false ∧ (t.reg (Reg.HST_MSIX_PBA (vec / 32))).getLsbD (vec % 32) = false ∧
      t.out = s.out ++ [.msix vec] ∧
      Only [⟨Reg.HST_MSIX_TBL (4 * vec + 3), 0, 1⟩, ⟨Reg.HST_MSIX_PBA (vec / 32), vec % 32, 1⟩] s t := by
  have hbit : vec.val % 32 < 32 := Nat.mod_lt _ (by decide)
  refine .of_eq (exec_msixUnmask s vec) ((s.msixSend_unmasked vec).trans (if_pos h)) ⟨?_, ?_, rfl, ?_⟩
  · rw [State.reg_emit, State.setFlag, State.reg_setFld_other]
    · exact s.unmasked_mask vec
    · simp only [Reg.HST_MSIX_PBA, Reg.HST_MSIX_TBL]
      omega
  · rw [State.reg_emit]
    exact State.getLsbD_setFlag_bit _ _ hbit _
  · exact (((Only.refl _ s).setFlag _ false rfl List.mem_cons_self).setFlag ⟨_, _, 1⟩ false
      (decide_eq_true (by change vec.val % 32 + 1 ≤ 32; omega)) (by simp)).emit _

theorem completes_msixUnmask_quiet (vec : Fin 64) (h : ¬ (s.host.msixEnable = true ∧ s.host.busMaster = true ∧
    (s.reg (Reg.HST_MSIX_PBA (vec / 32))).getLsbD (vec % 32) = true)) : Completes (.msixUnmask vec) s fun t =>
      (t.reg (Reg.HST_MSIX_TBL (4 * vec + 3))).getLsbD 0 = false ∧ t.out = s.out ∧ Only [⟨Reg.HST_MSIX_TBL (4 * vec + 3), 0, 1⟩] s t :=
  .of_eq (exec_msixUnmask s vec) ((s.msixSend_unmasked vec).trans (if_neg h))
    ⟨s.unmasked_mask vec, rfl, (Only.refl _ s).setFlag _ false rfl List.mem_cons_self⟩

end

/-! ## The link (R566, R570) -/

section
variable (s : State)

/-- The host link shown in L0. -/
def State.linkShown (s : State) (speed width : Nat) : State :=
  ((s.setFld Fld.HST_STATUS_SPEED speed).setFld Fld.HST_STATUS_WIDTH width).setFlag Fld.HST_STATUS_LINK_UP true

theorem State.linkShown_spec {speed width : Nat} (hspeed : speed < 8) (hwidth : width < 16) :
    (s.linkShown speed width).flag Fld.HST_STATUS_LINK_UP = true ∧ (s.linkShown speed width).fld Fld.HST_STATUS_SPEED = speed ∧
    (s.linkShown speed width).fld Fld.HST_STATUS_WIDTH = width ∧
    Only [Fld.HST_STATUS_LINK_UP, Fld.HST_STATUS_SPEED, Fld.HST_STATUS_WIDTH] s (s.linkShown speed width) := by
  refine ⟨State.flag_setFlag_same _ _ _ rfl rfl, ?_, ?_, ?_⟩
  · rw [State.linkShown, State.fld_setFlag_sep _ _ rfl, State.fld_setFld_sep _ _ rfl, State.fld_setFld_same _ _ _ rfl]
    exact Nat.mod_eq_of_lt hspeed
  · rw [State.linkShown, State.fld_setFlag_sep _ _ rfl, State.fld_setFld_same _ _ _ rfl]
    exact Nat.mod_eq_of_lt hwidth
  · exact (((Only.refl _ s).setFld _ _ rfl (by simp)).setFld _ _ rfl (by simp)).setFlag _ _ rfl (by simp)

theorem completes_linkInL0 {speed : Fin 5} {width : Fin 9} (msix master : Bool) (hspeed : speed.val ≠ 0)
    (hwidth : width.val = 1 ∨ width.val = 2 ∨ width.val = 4 ∨ width.val = 8) (hon : s.domState 73 = 0) :
    Completes (.linkInL0 speed width msix master) s fun t =>
      t.flag Fld.HST_STATUS_LINK_UP = true ∧ t.fld Fld.HST_STATUS_SPEED = speed ∧ t.fld Fld.HST_STATUS_WIDTH = width ∧
      Only [Fld.HST_STATUS_LINK_UP, Fld.HST_STATUS_SPEED, Fld.HST_STATUS_WIDTH]
        { s with host := { s.host with msixEnable := msix, busMaster := master } } t := by
  have hcond : speed.val ≠ 0 ∧ width.val ∈ [1, 2, 4, 8] ∧ s.domState 73 = 0 := ⟨hspeed, by simpa using hwidth, hon⟩
  exact .of_eq (t := ({ s with host := { s.host with msixEnable := msix, busMaster := master } } : State).linkShown speed width) rfl
    (if_pos hcond) (State.linkShown_spec _ (by omega) (by omega))

/-! ### A reset of the interface -/

theorem Sparse.get_filter_out {α : Type} (d : α) (p : Nat × α → Bool) (l : List (Nat × α)) {k : Nat} (h : ∀ v, p (k, v) = false) :
    Sparse.get d (l.filter p) k = d := by
  have hnone : Sparse.find (l.filter p) k = none := by
    induction l with
    | nil => rfl
    | cons x l ih =>
      obtain ⟨a, v⟩ := x
      rw [List.filter_cons]
      split
      next hp =>
        rw [Sparse.find, if_neg fun e => by rw [e, h] at hp; exact absurd hp Bool.false_ne_true]
        exact ih
      · exact ih
  rw [Sparse.get, hnone, Option.getD_none]

/-- The configuration of the host interface cleared. -/
def State.hostCleared (s : State) : State := { s with
  regs := s.regs.filter (fun e => !(decide (0x08101000 ≤ e.1) && decide (e.1 < 0x08102008))),
  host := { s.host with msixEnable := false, busMaster := false, bars := [], aer := none } }

theorem State.reg_hostCleared_status : s.hostCleared.reg Reg.HST_STATUS = s.reg Reg.HST_STATUS :=
  congrArg (fun x => Option.getD x _) (Sparse.find_filter _ _ fun _ => rfl)

theorem State.reg_hostCleared_table {j : Nat} (hj : j < 256) :
    s.hostCleared.reg (Reg.HST_MSIX_TBL j) = Reg.resetOf (Reg.HST_MSIX_TBL j) :=
  Sparse.get_filter_out _ _ _ fun _ => by simp [Reg.HST_MSIX_TBL]; omega

/-- The reset of the interface, the link apart. -/
def State.hostFlr (s : State) : State := (s.hostCleared.resetEndsOf 8).raiseBit Fld.HST_STATUS_HRESET 499

theorem State.fld_hostFlr {f : Field} (hlow : 0x2000000 ≤ f.addr) (hpba : f.addr < 0x8102000 ∨ 0x8103000 ≤ f.addr)
    (hsep : Fld.HST_STATUS_HRESET.sep f = true) : s.hostFlr.fld f = s.hostCleared.fld f := by
  have hsafe : eventSafe f = true := eventSafe_of_above hlow hpba
  rw [State.hostFlr, State.fld_raiseBit_sep _ (by decide) hsafe hsep]
  exact (State.resetEndsOf_frame _ 8).1.fld_eq hsafe (allBells_apart (Or.inr (Or.inr (by omega))))

theorem State.hostFlr_host : s.hostFlr.host = { s.host with msixEnable := false, busMaster := false, bars := [], aer := none } := by
  rw [State.hostFlr, State.raiseBit_host, State.resetEndsOf_host]
  rfl

theorem State.reg_hostFlr_table {j : Nat} (hj : j < 256) :
    s.hostFlr.reg (Reg.HST_MSIX_TBL j) = Reg.resetOf (Reg.HST_MSIX_TBL j) := by
  rw [← s.reg_hostCleared_table hj]
  refine State.reg_eq_of_fld_wholeReg (s.fld_hostFlr ?_ ?_ ?_)
  · simp only [wholeReg, Reg.HST_MSIX_TBL]
    omega
  · simp only [wholeReg, Reg.HST_MSIX_TBL]
    omega
  · have : Reg.HST_STATUS ≠ Reg.HST_MSIX_TBL j := by simp only [Reg.HST_STATUS, Reg.HST_MSIX_TBL]; omega
    simp [Field.sep, Field.fits, wholeReg, this]

theorem State.flag_hostFlr_up : s.hostFlr.flag Fld.HST_STATUS_LINK_UP = s.flag Fld.HST_STATUS_LINK_UP := by
  rw [State.flag, s.fld_hostFlr (by decide) (by decide) (by decide), State.flag, State.fld, s.reg_hostCleared_status, State.fld]

/-- What a reset of the interface leaves, however the link goes on. -/
def HostReset (s t : State) : Prop :=
  t.host = { s.host with msixEnable := false, busMaster := false, bars := [], aer := none } ∧
  (∀ j < 256, t.reg (Reg.HST_MSIX_TBL j) = Reg.resetOf (Reg.HST_MSIX_TBL j)) ∧
  t.flag Fld.HST_STATUS_HRESET = true ∧ t.sticky 499 = true

theorem State.hostFlr_spec : HostReset s s.hostFlr := by
  obtain ⟨hflag, hsticky⟩ := (s.hostCleared.resetEndsOf 8).raiseBit_spec (f := Fld.HST_STATUS_HRESET) (n := 499) (by decide) rfl rfl rfl
  exact ⟨s.hostFlr_host, fun j hj => s.reg_hostFlr_table hj, hflag, hsticky⟩

end

/-- The fields that change when the link leaves L0. -/
def linkFields : List Field :=
  [Fld.HST_STATUS_SPEED, Fld.HST_STATUS_WIDTH, Fld.HST_STATUS_LINK_UP, Fld.HST_STATUS_LINK_DOWN]

section
variable (s : State)

theorem State.linkLeaves_onlyEv : OnlyEv linkFields s s.linkLeaves :=
  .ite (((((OnlyEv.refl _ s).setFld Fld.HST_STATUS_SPEED 0 rfl (by simp [linkFields])).setFld Fld.HST_STATUS_WIDTH 0 rfl
    (by simp [linkFields])).setFlag Fld.HST_STATUS_LINK_UP false rfl (by simp [linkFields])).raiseBit Fld.HST_STATUS_LINK_DOWN 498 rfl
    (by simp [linkFields]) (by decide)) (.refl _ s)

theorem State.linkLeaves_stickyUp : StickyUp s s.linkLeaves :=
  .ite ((((((StickyUp.refl s).setReg _ (not_stickyAddr_of_above (by decide))).setReg _ (not_stickyAddr_of_above (by decide))).setReg _
    (not_stickyAddr_of_above (by decide))).setReg _ (not_stickyAddr_of_above (by decide))).raise _) (.refl s)

theorem State.linkLeaves_spec : s.linkLeaves.flag Fld.HST_STATUS_LINK_UP = false ∧ (s.flag Fld.HST_STATUS_LINK_UP = true →
    s.linkLeaves.flag Fld.HST_STATUS_LINK_DOWN = true ∧ s.linkLeaves.sticky 498 = true) := by
  by_cases hup : s.flag Fld.HST_STATUS_LINK_UP = true
  · rw [State.linkLeaves, if_pos hup]
    obtain ⟨hflag, hsticky⟩ := (((s.setFld Fld.HST_STATUS_SPEED 0).setFld Fld.HST_STATUS_WIDTH 0).setFlag Fld.HST_STATUS_LINK_UP
      false).raiseBit_spec (f := Fld.HST_STATUS_LINK_DOWN) (n := 498) (by decide) rfl rfl rfl
    exact ⟨by rw [State.flag_raiseBit_sep _ (by decide) rfl rfl, State.flag_setFlag_same _ _ _ rfl rfl], fun _ => ⟨hflag, hsticky⟩⟩
  · rw [State.linkLeaves, if_neg hup]
    exact ⟨Bool.not_eq_true _ ▸ hup, fun h => absurd h hup⟩

theorem State.linkLeaves_host : s.linkLeaves.host = s.host := by
  unfold State.linkLeaves
  split
  · rw [State.raiseBit_host]
    rfl
  · rfl

theorem HostReset.linkLeaves {s t : State} (h : HostReset s t) : HostReset s t.linkLeaves := by
  obtain ⟨hhost, htable, hflag, hsticky⟩ := h
  refine ⟨(t.linkLeaves_host).trans hhost, fun j hj => ?_, ?_, t.linkLeaves_stickyUp 499 (by decide) hsticky⟩
  · rw [t.linkLeaves_onlyEv.reg_eq, htable j hj]
    · exact eventSafe_of_above (by simp only [wholeReg, Reg.HST_MSIX_TBL]; omega) (by simp only [wholeReg, Reg.HST_MSIX_TBL]; omega)
    · have : Reg.HST_STATUS ≠ Reg.HST_MSIX_TBL j := by simp only [Reg.HST_STATUS, Reg.HST_MSIX_TBL]; omega
      simp [linkFields, Field.apart, wholeReg, this]
  · rw [t.linkLeaves_onlyEv.flag_eq rfl (by simp [linkFields, Field.apart]), hflag]

theorem exec_hostReset (cause : HostResetCause) :
    exec (.hostReset cause) s = .next (if cause = .flr then s.hostFlr else s.hostFlr.linkLeaves) := by
  cases cause <;> rfl

theorem completes_hostReset (cause : HostResetCause) : Completes (.hostReset cause) s fun t =>
    t.host = { s.host with msixEnable := false, busMaster := false, bars := [], aer := none } ∧
    (∀ j < 256, t.reg (Reg.HST_MSIX_TBL j) = Reg.resetOf (Reg.HST_MSIX_TBL j)) ∧
    t.flag Fld.HST_STATUS_HRESET = true ∧ t.sticky 499 = true ∧
    (cause = .flr → t.flag Fld.HST_STATUS_LINK_UP = s.flag Fld.HST_STATUS_LINK_UP) ∧
    (cause ≠ .flr → t.flag Fld.HST_STATUS_LINK_UP = false ∧
      (s.flag Fld.HST_STATUS_LINK_UP = true → t.flag Fld.HST_STATUS_LINK_DOWN = true ∧ t.sticky 498 = true)) := by
  by_cases hflr : cause = .flr
  · obtain ⟨hhost, htable, hflag, hsticky⟩ := s.hostFlr_spec
    exact .of_eq (exec_hostReset s cause) (if_pos hflr)
      ⟨hhost, htable, hflag, hsticky, fun _ => s.flag_hostFlr_up, fun h => absurd hflr h⟩
  · obtain ⟨hhost, htable, hflag, hsticky⟩ := s.hostFlr_spec.linkLeaves
    obtain ⟨hdown, hleft⟩ := s.hostFlr.linkLeaves_spec
    exact .of_eq (exec_hostReset s cause) (if_neg hflr)
      ⟨hhost, htable, hflag, hsticky, fun h => absurd h hflr, fun _ => ⟨hdown, fun hup => hleft (s.flag_hostFlr_up.trans hup)⟩⟩

end

/-! ## The obligation -/

/-- Settles O50: each request is one access, or one refusal, of the host interface. -/
theorem hostAccess : Obligations.HostAccess := by
  unfold Obligations.HostAccess
  intro bar off len bytes value vec speed width msix master s
  refine ⟨fun hlink hids hanswers => ⟨fun hlen hmay => ?_, fun hpos hlen hmay hmirror => ?_⟩,
    fun hlink hids hawake => ⟨fun ha hle => ?_, fun ha => ?_⟩, fun hlink hbar hbad hcount => ?_, fun hlink hbar hbad hcount => ?_,
    ⟨completes_msixUnmask_sends s vec, completes_msixUnmask_quiet s vec⟩, completes_linkInL0 s msix master, completes_hostReset s⟩
  · exact completes_memoryRead_hbm s off len hlink hids hanswers hlen hmay
  · exact completes_memoryWrite_hbm s off bytes hlink hids hanswers hpos hlen hmay hmirror
  · exact completes_memoryRead_ident s off hlink hids hawake ha hle
  · exact completes_memoryWrite_scratch s off value hlink hids hawake ha
  · obtain ⟨hreg, hflag, hsticky, honly⟩ := s.malformed_spec hcount
    refine .of_eq (exec_memoryRead_malformed s hlink hbar hbad) (State.abortRead_eq _ _ _)
      ⟨hreg, hflag, hsticky, List.getLast?_concat, ?_, ?_⟩
    · rw [← s.malformed_host]
      rfl
    · exact (honly.withHost _).emit _
  · exact ⟨s.malformed, exec_memoryWrite_malformed s hlink hbar hbad, s.malformed_spec hcount⟩

end Sys2Proof.Machine


/-! PROOFS.  The moves of the twin unit: modes, ownership, and the end of a resynchronisation (R536, R545, R559). -/

namespace Sys2Proof.Machine

/-- The twin unit's own state replaced. -/
def State.withTwin (s : State) (x : TwinSt) : State := { s with twin := x }

section
variable (s : State) {g : Field}

@[simp] theorem State.fld_withTwin (x : TwinSt) (f : Field) : (s.withTwin x).fld f = s.fld f := rfl
@[simp] theorem State.flag_withTwin (x : TwinSt) (f : Field) : (s.withTwin x).flag f = s.flag f := rfl
@[simp] theorem State.reg_withTwin (x : TwinSt) (a : Nat) : (s.withTwin x).reg a = s.reg a := rfl
@[simp] theorem State.sticky_withTwin (x : TwinSt) (n : Nat) : (s.withTwin x).sticky n = s.sticky n := rfl
@[simp] theorem State.withTwin_twin (x : TwinSt) : (s.withTwin x).twin = x := rfl
@[simp] theorem State.withTwin_seq (x : TwinSt) : (s.withTwin x).seq = s.seq := rfl

/-! ## What a resynchronisation holds, given up -/

/-- The twin unit without a resynchronisation. -/
def TwinSt.rsEnded (x : TwinSt) : TwinSt :=
  { x with ping := none, align := none, joinAt := none, suppress := false, agreed := 0, snap := [], blocks := [], log := [], wrote := [] }

theorem State.rsClear_twin : s.rsClear.twin = s.twin.rsEnded := rfl

theorem State.rsClear_phase : s.rsClear.fld Fld.TWN_RS_STAT_PHASE = 0 :=
  (State.fld_setFld_same _ _ _ rfl).trans (Nat.zero_mod _)

theorem State.fld_rsClear_sep (h : Fld.TWN_RS_STAT_PHASE.sep g = true) : s.rsClear.fld g = s.fld g := State.fld_setFld_sep _ _ h

theorem State.flag_rsClear_sep (h : Fld.TWN_RS_STAT_PHASE.sep g = true) : s.rsClear.flag g = s.flag g := State.flag_setFld_sep _ _ h

/-! ## Modes (R544, R545) -/

theorem State.setMode_of_ne {m : Nat} (h : m ≠ 3) : s.setMode m = s.setFld Fld.TWN_STATUS_MODE m := if_neg fun hm => h hm.1

theorem State.setMode_twin (m : Nat) : (s.setMode m).twin = s.twin := by
  unfold State.setMode
  split
  · rw [State.raiseBit_twin]
    rfl
  · rfl

theorem State.fld_setMode_sep (m : Nat) (hsafe : eventSafe g = true) (hmode : Fld.TWN_STATUS_MODE.sep g = true)
    (hent : Fld.TWN_STATUS_LS_ENT.sep g = true) : (s.setMode m).fld g = s.fld g := by
  unfold State.setMode
  split
  · rw [State.fld_raiseBit_sep _ (by decide) hsafe hent, State.fld_setFld_sep _ _ hmode]
  · exact State.fld_setFld_sep _ _ hmode

theorem State.flag_setMode_sep (m : Nat) (hsafe : eventSafe g = true) (hmode : Fld.TWN_STATUS_MODE.sep g = true)
    (hent : Fld.TWN_STATUS_LS_ENT.sep g = true) : (s.setMode m).flag g = s.flag g := by
  rw [State.flag, s.fld_setMode_sep m hsafe hmode hent, State.flag]

theorem State.twinMode_setMode {m : Nat} (hm : m < 4) : (s.setMode m).twinMode = m := by
  have hset : (s.setFld Fld.TWN_STATUS_MODE m).fld Fld.TWN_STATUS_MODE = m :=
    (State.fld_setFld_same _ _ _ rfl).trans (Nat.mod_eq_of_lt hm)
  unfold State.setMode State.twinMode
  split
  · rw [State.fld_raiseBit_sep _ (by decide) rfl rfl, hset]
  · exact hset

theorem State.setMode_stickyUp (m : Nat) : StickyUp s (s.setMode m) := ((CalmAt.refl fallReg s).setMode m).sticky

/-- LOCKSTEP entered from another mode is recorded. -/
theorem State.setMode_lockstep (h : s.twinMode ≠ 3) :
    (s.setMode 3).flag Fld.TWN_STATUS_LS_ENT = true ∧ (s.setMode 3).sticky 490 = true := by
  have hset : s.setMode 3 = (s.setFld Fld.TWN_STATUS_MODE 3).raiseBit Fld.TWN_STATUS_LS_ENT 490 := if_pos ⟨rfl, h⟩
  rw [hset]
  exact State.raiseBit_spec _ (by decide) rfl rfl rfl

/-! ## Ownership (R536) -/

theorem State.flag_setOwn (b : Bool) : (s.setOwn b).flag Fld.TWN_STATUS_OWN = b := by
  unfold State.setOwn
  split
  next h => exact h
  · rw [State.flag_raiseBit_sep _ (by decide) rfl rfl, State.flag_setFlag_same _ _ _ rfl rfl]

theorem State.fld_setOwn_sep (b : Bool) (hsafe : eventSafe g = true) (hown : Fld.TWN_STATUS_OWN.sep g = true)
    (hchg : Fld.TWN_STATUS_OWN_CHG.sep g = true) : (s.setOwn b).fld g = s.fld g := by
  unfold State.setOwn
  split
  · rfl
  · rw [State.fld_raiseBit_sep _ (by decide) hsafe hchg, State.fld_setFlag_sep _ _ hown]
    rfl

/-! ## The ends of a resynchronisation (R559) -/

/-- The state of a receiver whose resynchronisation has failed, before it is reported. -/
def State.rsFailed (s : State) (cause : Nat) : State := (s.rsClear.setMode 1).setFld Fld.TWN_RS_STAT_CAUSE cause

theorem State.rsFail_receiver (h : s.twinMode = 2) (cause : Nat) :
    s.rsFail cause = (s.rsFailed cause).raiseBit Fld.TWN_STATUS_RS_FAIL 492 := if_pos h

theorem State.rsFail_other (h : s.twinMode ≠ 2) (cause : Nat) : s.rsFail cause = s := if_neg h

theorem State.rsFail_spec (h : s.twinMode = 2) {cause : Nat} (hc : cause < 8) :
    (s.rsFail cause).twinMode = 1 ∧ (s.rsFail cause).fld Fld.TWN_RS_STAT_CAUSE = cause ∧
    (s.rsFail cause).fld Fld.TWN_RS_STAT_PHASE = 0 ∧ (s.rsFail cause).flag Fld.TWN_STATUS_RS_FAIL = true ∧
    (s.rsFail cause).sticky 492 = true ∧ (s.rsFail cause).twin = s.twin.rsEnded := by
  rw [s.rsFail_receiver h]
  obtain ⟨hflag, hsticky⟩ := (s.rsFailed cause).raiseBit_spec (f := Fld.TWN_STATUS_RS_FAIL) (n := 492) (by decide) rfl rfl rfl
  refine ⟨?_, ?_, ?_, hflag, hsticky, ?_⟩
  · rw [State.twinMode, State.fld_raiseBit_sep _ (by decide) rfl rfl, State.rsFailed, State.fld_setFld_sep _ _ rfl]
    exact State.twinMode_setMode _ (by decide)
  · rw [State.fld_raiseBit_sep _ (by decide) rfl rfl, State.rsFailed, State.fld_setFld_same _ _ _ rfl]
    exact Nat.mod_eq_of_lt hc
  · rw [State.fld_raiseBit_sep _ (by decide) rfl rfl, State.rsFailed, State.fld_setFld_sep _ _ rfl,
      State.fld_setMode_sep _ _ rfl rfl rfl, State.rsClear_phase]
  · rw [State.raiseBit_twin]
    exact (State.setMode_twin _ _).trans s.rsClear_twin

/-- What ends on the sender leaves alone. -/
theorem State.fld_sendEnd_sep (hphase : Fld.TWN_RS_STAT_PHASE.sep g = true) (hsending : Fld.TWN_STATUS_SENDING.sep g = true) :
    s.sendEnd.fld g = s.fld g := by
  unfold State.sendEnd
  split
  · rw [State.fld_setFlag_sep _ _ hsending, s.fld_rsClear_sep hphase]
  · rfl

theorem State.flag_sendEnd_sep (hphase : Fld.TWN_RS_STAT_PHASE.sep g = true) (hsending : Fld.TWN_STATUS_SENDING.sep g = true) :
    s.sendEnd.flag g = s.flag g := by
  rw [State.flag, s.fld_sendEnd_sep hphase hsending, State.flag]

theorem State.sendEnd_sending : s.sendEnd.flag Fld.TWN_STATUS_SENDING = false := by
  unfold State.sendEnd
  split
  · exact State.flag_setFlag_same _ _ _ rfl rfl
  next h => exact Bool.not_eq_true _ ▸ h

/-- The sender's part ended. -/
theorem State.sendEnd_of_sending (h : s.flag Fld.TWN_STATUS_SENDING = true) :
    s.sendEnd = s.rsClear.setFlag Fld.TWN_STATUS_SENDING false := if_pos h

theorem State.sendEnd_phase (h : s.fld Fld.TWN_RS_STAT_PHASE = 0) : s.sendEnd.fld Fld.TWN_RS_STAT_PHASE = 0 := by
  unfold State.sendEnd
  split
  · rw [State.fld_setFlag_sep _ _ rfl, s.rsClear_phase]
  · exact h

theorem State.sendEnd_twin : s.sendEnd.twin = s.twin ∨ s.sendEnd.twin = s.twin.rsEnded := by
  unfold State.sendEnd
  split
  · exact Or.inr rfl
  · exact Or.inl rfl

theorem State.sendEnd_stickyUp : StickyUp s s.sendEnd := (CalmAt.refl fallReg s).sendEnd.sticky

end

end Sys2Proof.Machine


/-! PROOFS.  TWN_CMD, remote accesses and notices (R541, R545, R552, R554, R559, R561, R562). -/

namespace Sys2Proof.Machine

section
variable (s : State)

/-! ## Commands that are refused or accepted (R562) -/

theorem State.twinRefuseCmd_spec (code : Status) :
    (s.twinRefuseCmd code).done.status = code ∧ (s.twinRefuseCmd code).fld Fld.TWN_CMD_STAT_CODE = code.toNat ∧
    (s.twinRefuseCmd code).flag Fld.TWN_STATUS_CMD_REFUSED = true ∧ (s.twinRefuseCmd code).sticky 494 = true ∧
    OnlyEv [Fld.TWN_CMD_STAT_CODE, Fld.TWN_STATUS_CMD_REFUSED] s (s.twinRefuseCmd code) := by
  obtain ⟨hstatus, hflag, hsticky, honly⟩ := (s.setFld Fld.TWN_CMD_STAT_CODE code.toNat).raiseBit_reply_spec
    (f := Fld.TWN_STATUS_CMD_REFUSED) (n := 494) code (by decide) rfl rfl rfl
  refine ⟨hstatus, ?_, hflag, hsticky, ((OnlyEv.refl _ s).setFld _ _ rfl List.mem_cons_self).trans (honly.mono (by simp))⟩
  rw [State.twinRefuseCmd, State.fld_reply, State.fld_raiseBit_sep _ (by decide) rfl rfl, State.fld_setFld_same _ _ _ rfl]
  exact Nat.mod_eq_of_lt code.isLt

theorem State.twinAccept_code : s.twinAccept.fld Fld.TWN_CMD_STAT_CODE = 0 :=
  (State.fld_setFld_same _ _ _ rfl).trans (Nat.zero_mod _)

theorem State.twinAccept_onlyEv : Only [Fld.TWN_CMD_STAT_CODE] s s.twinAccept :=
  ((Only.refl _ s).setFld _ _ rfl List.mem_cons_self).reply _ _

theorem State.fld_twinAccept_sep {g : Field} (h : Fld.TWN_CMD_STAT_CODE.sep g = true) : s.twinAccept.fld g = s.fld g := by
  rw [State.twinAccept, State.fld_reply, State.fld_setFld_sep _ _ h]

theorem State.flag_twinAccept_sep {g : Field} (h : Fld.TWN_CMD_STAT_CODE.sep g = true) : s.twinAccept.flag g = s.flag g := by
  rw [State.flag, s.fld_twinAccept_sep h, State.flag]

theorem State.twinAccept_stickyUp : StickyUp s s.twinAccept :=
  (StickyUp.refl s).setReg (a := Reg.TWN_CMD_STAT) _ (not_stickyAddr_of_above (by decide))

/-! ## RESYNC and HANDOVER (R552, R554) -/

/-- The receiver in phase 1 of a resynchronisation, before it asks. -/
def State.rsBegun (s : State) : State :=
  (((s.rsClear.setMode 2).setFld Fld.TWN_RS_STAT_PHASE 1).setFld Fld.TWN_RS_STAT_CAUSE 0).setReg Reg.TWN_RS_BYTES 0

/-- The fields of the receiver that a RESYNC writes. -/
def resyncFields : List Field :=
  [Fld.TWN_STATUS_MODE, Fld.TWN_RS_STAT_PHASE, Fld.TWN_RS_STAT_CAUSE, wholeReg Reg.TWN_RS_BYTES, Fld.TWN_CMD_STAT_CODE]

theorem State.rsBegun_only : Only resyncFields (s.withTwin s.twin.rsEnded) s.rsBegun := by
  rw [State.rsBegun, State.setMode_of_ne _ (by decide)]
  exact (((((Only.refl _ (s.withTwin s.twin.rsEnded)).setFld _ _ rfl (by simp [resyncFields])).setFld _ _ rfl
    (by simp [resyncFields])).setFld _ _ rfl (by simp [resyncFields])).setFld _ _ rfl (by simp [resyncFields])).setReg _ _
    (by simp [resyncFields])

theorem State.rsBegun_twin : s.rsBegun.twin = s.twin.rsEnded := by
  rw [State.rsBegun, State.setMode_of_ne _ (by decide)]
  rfl

theorem State.rsBegun_mode : s.rsBegun.twinMode = 2 := by
  rw [State.rsBegun, State.twinMode, State.fld_setReg_other _ _ _ (by decide), State.fld_setFld_sep _ _ rfl, State.fld_setFld_sep _ _ rfl]
  exact State.twinMode_setMode _ (by decide)

theorem State.rsBegun_phase : s.rsBegun.fld Fld.TWN_RS_STAT_PHASE = 1 := by
  rw [State.rsBegun, State.fld_setReg_other _ _ _ (by decide), State.fld_setFld_sep _ _ rfl, State.fld_setFld_same _ _ _ rfl]
  rfl

theorem State.rsBegun_cause : s.rsBegun.fld Fld.TWN_RS_STAT_CAUSE = 0 := by
  rw [State.rsBegun, State.fld_setReg_other _ _ _ (by decide), State.fld_setFld_same _ _ _ rfl]
  rfl

theorem State.rsBegun_out : s.rsBegun.out = s.out := by
  rw [State.rsBegun, State.setMode_of_ne _ (by decide)]
  rfl

/-- The frames with which the receiver asks. -/
def State.resyncAsks (u : State) (n : Nat) : State := ((u.twinCtrl 1 0).emit (.twinFrame 10 (n % 2 ^ 32) [])).twinAccept

theorem State.resyncCmd_accepted (hpaired : s.flag Fld.TWN_STATUS_PAIRED = true) (hmode : s.twinMode = 1)
    (hidle : s.seqState = 0 ∨ s.seqState = 5) : s.resyncCmd = s.rsBegun.resyncAsks s.count := by
  have hseq : s.rsBegun.seqState = s.seqState := by
    rw [State.seqState, s.rsBegun_only.2 _ (by simp [resyncFields, Field.apart, wholeReg]), State.seqState]
    rfl
  have hcount : s.rsBegun.count = s.count := by
    rw [State.rsBegun, State.setMode_of_ne _ (by decide)]
    rfl
  have hstop : (if s.rsBegun.seqState = 5 ∨ s.rsBegun.seqState = 0 then s.rsBegun else s.rsBegun.seqStop 1) = s.rsBegun :=
    if_pos (by rw [hseq]; exact hidle.symm)
  have hrun : s.resyncCmd =
      (if s.rsBegun.seqState = 5 ∨ s.rsBegun.seqState = 0 then s.rsBegun else s.rsBegun.seqStop 1).resyncAsks
        (if s.rsBegun.seqState = 5 ∨ s.rsBegun.seqState = 0 then s.rsBegun else s.rsBegun.seqStop 1).count := by
    rw [State.resyncCmd, hpaired, if_neg (by decide), if_neg (not_not.2 hmode)]
    rfl
  rw [hrun, hstop, hcount]

theorem State.handoverCmd_accepted (hpaired : s.flag Fld.TWN_STATUS_PAIRED = true) (hmode : s.twinMode = 3)
    (hown : s.flag Fld.TWN_STATUS_OWN = true) : s.handoverCmd =
      (((s.withTwin { s.twin with handover := some (s.turnNear (s.reg Reg.TWN_CMD_TURN).toNat) }).setFlag Fld.TWN_CMD_STAT_PENDING true).twinCtrl
        4 (s.turnNear (s.reg Reg.TWN_CMD_TURN).toNat)).twinAccept := by
  rw [State.handoverCmd, hpaired, if_neg (by decide), if_neg (by simp [hmode, hown])]
  rfl

/-! ## ABORT (R559) -/

theorem State.abortCmd_receiver (h : s.twinMode = 2) : s.abortCmd = ((s.twinCtrl 6 5).rsFail 5).sendEnd.twinAccept :=
  if_neg fun hboth => hboth.1 h

theorem State.abortCmd_sender (hmode : s.twinMode ≠ 2) (hsending : s.flag Fld.TWN_STATUS_SENDING = true) :
    s.abortCmd = ((s.twinCtrl 6 5).rsClear.setFlag Fld.TWN_STATUS_SENDING false).twinAccept := by
  have hrun : s.abortCmd = ((s.twinCtrl 6 5).rsFail 5).sendEnd.twinAccept := if_neg (by simp [hsending])
  rw [hrun, (s.twinCtrl 6 5).rsFail_other hmode, (s.twinCtrl 6 5).sendEnd_of_sending hsending]

/-- What an ABORT on the twin being brought level leaves. -/
theorem State.abortCmd_receiver_spec (h : s.twinMode = 2) :
    s.abortCmd.twinMode = 1 ∧ s.abortCmd.fld Fld.TWN_RS_STAT_CAUSE = 5 ∧ s.abortCmd.fld Fld.TWN_RS_STAT_PHASE = 0 ∧
    s.abortCmd.flag Fld.TWN_STATUS_RS_FAIL = true ∧ s.abortCmd.sticky 492 = true ∧ s.abortCmd.flag Fld.TWN_STATUS_SENDING = false ∧
    s.abortCmd.twin.joinAt = none ∧ s.abortCmd.twin.suppress = false ∧ s.abortCmd.fld Fld.TWN_CMD_STAT_CODE = 0 ∧
    s.abortCmd.done.status = Code.ok := by
  obtain ⟨hmode, hcause, hphase, hflag, hsticky, htwin⟩ := (s.twinCtrl 6 5).rsFail_spec h (cause := 5) (by decide)
  rw [s.abortCmd_receiver h]
  have htwin' : ((s.twinCtrl 6 5).rsFail 5).sendEnd.twin.joinAt = none ∧ ((s.twinCtrl 6 5).rsFail 5).sendEnd.twin.suppress = false := by
    rcases ((s.twinCtrl 6 5).rsFail 5).sendEnd_twin with hend | hend
    · rw [hend, htwin]
      exact ⟨rfl, rfl⟩
    · rw [hend]
      exact ⟨rfl, rfl⟩
  generalize (s.twinCtrl 6 5).rsFail 5 = u at *
  refine ⟨?_, ?_, ?_, ?_, ?_, ?_, htwin'.1, htwin'.2, State.twinAccept_code _, rfl⟩
  · rw [State.twinMode, State.fld_twinAccept_sep _ rfl, State.fld_sendEnd_sep _ rfl rfl]
    exact hmode
  · rw [State.fld_twinAccept_sep _ rfl, State.fld_sendEnd_sep _ rfl rfl, hcause]
  · rw [State.fld_twinAccept_sep _ rfl, u.sendEnd_phase hphase]
  · rw [State.flag_twinAccept_sep _ rfl, State.flag_sendEnd_sep _ rfl rfl, hflag]
  · exact u.sendEnd.twinAccept_stickyUp 492 (by decide) (u.sendEnd_stickyUp 492 (by decide) hsticky)
  · rw [State.flag_twinAccept_sep _ rfl, u.sendEnd_sending]

/-! ## The commands -/

variable {s} {mid : Mid}

theorem completes_twin_denied (hawake : s.awake Reg.TWN_CMD) (hmid : isManager mid = false) {c : Instr}
    (hc : c ∈ [Instr.twinResync mid, .twinHandover mid, .twinAbort mid, .twinClaim mid]) : Completes c s fun t =>
      t = s.twinRefuseCmd Code.denied := by
  have hdenied (k : Nat) : s.twinCmd mid k = s.twinRefuseCmd Code.denied := by
    rw [State.twinCmd, State.gate_of_awake hawake]
    exact if_pos (by rw [hmid]; rfl)
  simp only [List.mem_cons, List.not_mem_nil, or_false] at hc
  obtain rfl | rfl | rfl | rfl := hc
  · exact ⟨_, congrArg Host.Outcome.next (hdenied 1), rfl⟩
  · exact ⟨_, congrArg Host.Outcome.next (hdenied 2), rfl⟩
  · exact ⟨_, congrArg Host.Outcome.next (hdenied 3), rfl⟩
  · exact ⟨_, congrArg Host.Outcome.next (hdenied 4), rfl⟩

section
variable (hawake : s.awake Reg.TWN_CMD) (hmid : isManager mid = true)
include hawake hmid

theorem State.twinCmd_of_manager (code : Nat) : s.twinCmd mid code = match code with
    | 0 => s.reply Code.ok
    | 1 => s.resyncCmd
    | 2 => s.handoverCmd
    | 3 => s.abortCmd
    | 4 => s.claimCmd
    | _ => s.twinRefuseCmd Code.twnState := by
  rw [State.twinCmd, State.gate_of_awake hawake]
  exact if_neg (by rw [hmid]; decide)

theorem exec_twinResync : exec (.twinResync mid) s = .next s.resyncCmd :=
  congrArg Host.Outcome.next (State.twinCmd_of_manager hawake hmid 1)

theorem exec_twinHandover : exec (.twinHandover mid) s = .next s.handoverCmd :=
  congrArg Host.Outcome.next (State.twinCmd_of_manager hawake hmid 2)

theorem exec_twinAbort : exec (.twinAbort mid) s = .next s.abortCmd :=
  congrArg Host.Outcome.next (State.twinCmd_of_manager hawake hmid 3)

theorem exec_twinClaim : exec (.twinClaim mid) s = .next s.claimCmd :=
  congrArg Host.Outcome.next (State.twinCmd_of_manager hawake hmid 4)

end

end

/-! ## Remote accesses (R561) -/

section
variable (s : State) (mid : Mid) (value : Word32)

/-- WRITE of a GO is the one written. -/
theorem raccGo_write : Fld.TWN_RACC_CTRL_WRITE.get (Fld.TWN_RACC_CTRL_GO.put value 1) = Fld.TWN_RACC_CTRL_WRITE.get value :=
  Field.get_put_apart Fld.TWN_RACC_CTRL_GO Fld.TWN_RACC_CTRL_WRITE value 1 rfl (by decide)

/-- A remote access begun: WRITE as written, and GO. -/
def State.raccBegun (s : State) (w : Nat) : State :=
  ((s.withTwin { s.twin with racc := true }).setFld Fld.TWN_RACC_CTRL_WRITE w).setFlag Fld.TWN_RACC_CTRL_GO true

/-- The request that the partner receives. -/
def State.raccRequest (s : State) (w : Nat) : Output :=
  .twinReg (.request (BitVec.ofNat 28 (s.reg Reg.TWN_RACC_ADDR).toNat) (if w = 1 then some (s.reg Reg.TWN_RACC_DATA) else none))

theorem State.raccSend_paired (hpaired : s.flag Fld.TWN_STATUS_PAIRED = true) {w : Nat} (hw : w < 2) :
    (s.setFld Fld.TWN_RACC_CTRL_WRITE w).raccSend = (s.raccBegun w).emit (s.raccRequest w) := by
  have hup : (s.raccBegun w).flag Fld.TWN_STATUS_PAIRED = true := by
    rw [State.raccBegun, State.flag_setFlag_sep _ _ rfl, State.flag_setFld_sep _ _ rfl]
    exact hpaired
  have hwrite : (s.setFld Fld.TWN_RACC_CTRL_WRITE w).flag Fld.TWN_RACC_CTRL_WRITE = decide (w = 1) := by
    rw [State.flag, State.fld_setFld_same _ _ _ rfl]
    interval_cases w <;> rfl
  have haddr : (s.setFld Fld.TWN_RACC_CTRL_WRITE w).reg Reg.TWN_RACC_ADDR = s.reg Reg.TWN_RACC_ADDR :=
    State.reg_setFld_other _ _ _ _ (by decide)
  have hdata : (s.setFld Fld.TWN_RACC_CTRL_WRITE w).reg Reg.TWN_RACC_DATA = s.reg Reg.TWN_RACC_DATA :=
    State.reg_setFld_other _ _ _ _ (by decide)
  have hsend : (s.setFld Fld.TWN_RACC_CTRL_WRITE w).raccSend = (s.raccBegun w).when ((s.raccBegun w).flag Fld.TWN_STATUS_PAIRED) fun u =>
      u.emit (.twinReg (.request (BitVec.ofNat 28 ((s.setFld Fld.TWN_RACC_CTRL_WRITE w).reg Reg.TWN_RACC_ADDR).toNat)
        (if (s.setFld Fld.TWN_RACC_CTRL_WRITE w).flag Fld.TWN_RACC_CTRL_WRITE then
          some ((s.setFld Fld.TWN_RACC_CTRL_WRITE w).reg Reg.TWN_RACC_DATA) else none))) := rfl
  rw [hsend, hup, hwrite, haddr, hdata, State.raccRequest]
  simp only [decide_eq_true_eq]
  rfl

theorem exec_raccGo (hawake : s.awake Reg.TWN_RACC_CTRL) (hfree : s.twin.racc = false) : exec (.raccGo mid value) s =
    .next ((s.setFld Fld.TWN_RACC_CTRL_WRITE (Fld.TWN_RACC_CTRL_WRITE.get value)).raccSend.reply Code.ok) := by
  have hgo : bitOf (Fld.TWN_RACC_CTRL_GO.put value 1).toNat 31 = true := by
    have hbit := Fld.TWN_RACC_CTRL_GO.put_bit rfl value 1 31
    exact hbit
  refine congrArg Host.Outcome.next ((State.gate_of_awake hawake _ _ _).trans ?_)
  rw [State.twnRegWrite, if_neg (by decide), if_pos rfl, raccGo_write, hgo]
  dsimp only
  rw [if_pos (by rw [Bool.true_and, Bool.not_eq_true']; exact hfree)]

theorem completes_raccGo (hawake : s.awake Reg.TWN_RACC_CTRL) (hfree : s.twin.racc = false)
    (hpaired : s.flag Fld.TWN_STATUS_PAIRED = true) : Completes (.raccGo mid value) s fun t =>
      t.fld Fld.TWN_RACC_CTRL_WRITE = Fld.TWN_RACC_CTRL_WRITE.get value ∧ t.flag Fld.TWN_RACC_CTRL_GO = true ∧ t.done.status = Code.ok ∧
      t.out = s.out ++ [s.raccRequest (Fld.TWN_RACC_CTRL_WRITE.get value)] ∧
      Only [Fld.TWN_RACC_CTRL_WRITE, Fld.TWN_RACC_CTRL_GO] (s.withTwin { s.twin with racc := true }) t := by
  have hexec := exec_raccGo s mid value hawake hfree
  have hw : Fld.TWN_RACC_CTRL_WRITE.get value < 2 := Nat.mod_lt _ (by decide)
  generalize Fld.TWN_RACC_CTRL_WRITE.get value = w at *
  rw [s.raccSend_paired hpaired hw] at hexec
  refine ⟨_, hexec, ?_, ?_, rfl, rfl, ?_⟩
  · rw [State.fld_reply, State.fld_emit, State.raccBegun, State.fld_setFlag_sep _ _ rfl, State.fld_setFld_same _ _ _ rfl]
    exact Nat.mod_eq_of_lt hw
  · rw [State.flag_reply, State.flag_emit]
    exact State.flag_setFlag_same _ _ _ rfl rfl
  · exact ((((Only.refl _ _).setFld _ _ rfl (by simp)).setFlag _ _ rfl (by simp)).emit _).reply _ _

theorem completes_raccTimeout (hwait : s.twin.racc = true) : Completes .raccTimeout s fun t =>
    t.flag Fld.TWN_RACC_CTRL_GO = false ∧ t.fld Fld.TWN_RACC_CTRL_CODE = Code.timeout.toNat ∧
    Only [Fld.TWN_RACC_CTRL_GO, Fld.TWN_RACC_CTRL_CODE] (s.withTwin { s.twin with racc := false }) t := by
  refine .of_eq (t := ((s.withTwin { s.twin with racc := false }).setFlag Fld.TWN_RACC_CTRL_GO false).setFld Fld.TWN_RACC_CTRL_CODE
    Code.timeout.toNat) rfl (if_pos hwait) ⟨?_, ?_, ?_⟩
  · rw [State.flag_setFld_sep _ _ rfl]
    exact State.flag_setFlag_same _ _ _ rfl rfl
  · rw [State.fld_setFld_same _ _ _ rfl]
    rfl
  · exact ((Only.refl _ _).setFlag _ _ rfl (by simp)).setFld _ _ rfl (by simp)

theorem completes_twnNoticeRead (hawake : s.awake Reg.TWN_NOTICE) {e v : Nat} {rest : List (Nat × Nat)}
    (hnotices : s.twin.notices = (e, v) :: rest) : Completes (.twnNoticeRead mid) s fun t =>
      t = { s with twin := { s.twin with notices := rest },
                   done := { status := Code.ok, data := BitVec.ofNat 32 (2 ^ 31 + v * 2 ^ 16 + e) } } := by
  refine .of_eq (u := s.twnRegRead Reg.TWN_NOTICE) (congrArg Host.Outcome.next (State.gate_of_awake hawake _ _ _)) ?_ rfl
  rw [State.twnRegRead, if_neg (by decide), if_pos rfl, hnotices]
  rfl

end

/-! ## The obligation -/

section
variable {s : State} {mid : Mid} (hawake : s.awake Reg.TWN_CMD) (hmid : isManager mid = true)
include hawake hmid

theorem completes_twinResync (hpaired : s.flag Fld.TWN_STATUS_PAIRED = true) (hmode : s.twinMode = 1)
    (hidle : s.seqState = 0 ∨ s.seqState = 5) : Completes (.twinResync mid) s fun t =>
      t.twinMode = 2 ∧ t.fld Fld.TWN_RS_STAT_PHASE = 1 ∧ t.fld Fld.TWN_RS_STAT_CAUSE = 0 ∧ t.reg Reg.TWN_RS_BYTES = 0 ∧
      t.out = s.out ++ [.twinFrame 3 0 [1, 0], .twinFrame 10 (s.count % 2 ^ 32) []] ∧
      (t.fld Fld.TWN_CMD_STAT_CODE = 0 ∧ t.done.status = Code.ok) ∧ Only resyncFields { s with twin := t.twin } t := by
  have hout : (s.rsBegun.resyncAsks s.count).out = s.out ++ [.twinFrame 3 0 [1, 0], .twinFrame 10 (s.count % 2 ^ 32) []] := by
    rw [← s.rsBegun_out, State.resyncAsks]
    exact List.append_assoc _ _ _
  have htwin : ({ s with twin := (s.rsBegun.resyncAsks s.count).twin } : State) = s.withTwin s.twin.rsEnded :=
    congrArg s.withTwin s.rsBegun_twin
  refine .of_eq (exec_twinResync hawake hmid) (s.resyncCmd_accepted hpaired hmode hidle)
    ⟨?_, ?_, ?_, ?_, hout, ⟨State.twinAccept_code _, rfl⟩, ?_⟩
  · rw [State.twinMode, State.resyncAsks, State.fld_twinAccept_sep _ rfl, State.fld_emit, State.twinCtrl, State.fld_emit]
    exact s.rsBegun_mode
  · rw [State.resyncAsks, State.fld_twinAccept_sep _ rfl, State.fld_emit, State.twinCtrl, State.fld_emit, s.rsBegun_phase]
  · rw [State.resyncAsks, State.fld_twinAccept_sep _ rfl, State.fld_emit, State.twinCtrl, State.fld_emit, s.rsBegun_cause]
  · rw [State.resyncAsks, State.twinAccept, State.reg_reply, State.reg_setFld_other _ _ _ _ (by decide), State.reg_emit, State.twinCtrl,
      State.reg_emit, State.rsBegun, State.reg_setReg_same]
  · rw [htwin]
    exact (((s.rsBegun_only.emit _).emit _).setFld _ _ rfl (by simp [resyncFields])).reply _ _

theorem completes_twinHandover (hpaired : s.flag Fld.TWN_STATUS_PAIRED = true) (hmode : s.twinMode = 3)
    (hown : s.flag Fld.TWN_STATUS_OWN = true) : Completes (.twinHandover mid) s fun t =>
      t.flag Fld.TWN_CMD_STAT_PENDING = true ∧
      t.out = s.out ++ [.twinFrame 3 0 [4, BitVec.ofNat 64 (s.turnNear (s.reg Reg.TWN_CMD_TURN).toNat)]] ∧
      (t.fld Fld.TWN_CMD_STAT_CODE = 0 ∧ t.done.status = Code.ok) ∧
      Only [Fld.TWN_CMD_STAT_PENDING, Fld.TWN_CMD_STAT_CODE]
        (s.withTwin { s.twin with handover := some (s.turnNear (s.reg Reg.TWN_CMD_TURN).toNat) }) t := by
  refine .of_eq (exec_twinHandover hawake hmid) (s.handoverCmd_accepted hpaired hmode hown) ⟨?_, rfl, ⟨State.twinAccept_code _, rfl⟩, ?_⟩
  · rw [State.flag_twinAccept_sep _ rfl, State.twinCtrl, State.flag_emit]
    exact State.flag_setFlag_same _ _ _ rfl rfl
  · exact ((((Only.refl _ _).setFlag _ _ rfl (by simp)).emit _).setFld _ _ rfl (by simp)).reply _ _

theorem completes_twinAbort_sender (hmode : s.twinMode ≠ 2) (hsending : s.flag Fld.TWN_STATUS_SENDING = true) :
    Completes (.twinAbort mid) s fun t =>
      t.twinMode = s.twinMode ∧ t.flag Fld.TWN_STATUS_SENDING = false ∧ t.fld Fld.TWN_RS_STAT_PHASE = 0 ∧ t.twin.snap = [] ∧
      t.twin.log = [] ∧ t.out = s.out ++ [.twinFrame 3 0 [6, 5]] ∧ (t.fld Fld.TWN_CMD_STAT_CODE = 0 ∧ t.done.status = Code.ok) := by
  refine .of_eq (exec_twinAbort hawake hmid) (s.abortCmd_sender hmode hsending) ⟨?_, ?_, ?_, rfl, rfl, rfl, State.twinAccept_code _, rfl⟩
  · rw [State.twinMode, State.fld_twinAccept_sep _ rfl, State.fld_setFlag_sep _ _ rfl, State.fld_rsClear_sep _ rfl]
    rfl
  · rw [State.flag_twinAccept_sep _ rfl]
    exact State.flag_setFlag_same _ _ _ rfl rfl
  · rw [State.fld_twinAccept_sep _ rfl, State.fld_setFlag_sep _ _ rfl, State.rsClear_phase]

theorem completes_twinClaim (hpaired : s.flag Fld.TWN_STATUS_PAIRED = false) (hmode : s.twinMode = 0)
    (hown : s.flag Fld.TWN_STATUS_OWN = false) : Completes (.twinClaim mid) s fun t =>
      (t.fld Fld.TWN_CMD_STAT_CODE = 0 ∧ t.done.status = Code.ok) ∧
      Only [Fld.TWN_CMD_STAT_CODE] (s.withTwin { s.twin with ownPlan := some (true, s.seq.turn + 1) }) t := by
  refine .of_eq (t := (s.withTwin { s.twin with ownPlan := some (true, s.seq.turn + 1) }).twinAccept) (exec_twinClaim hawake hmid)
    (if_neg ?_) ⟨⟨State.twinAccept_code _, rfl⟩, State.twinAccept_onlyEv _⟩
  simp [hpaired, hmode, hown]

end

/-- Settles O48: each command is accepted with its effect, or refused with its code. -/
theorem twinCommands : Obligations.TwinCommands := by
  unfold Obligations.TwinCommands
  intro mid value s
  refine ⟨fun hawake hmid c hc => ?_, fun hawake hmid => ⟨completes_twinResync hawake hmid, fun hpaired => ⟨?_, ?_⟩, fun hpaired hmode => ?_,
    completes_twinHandover hawake hmid, fun hpaired hstate => ?_, fun hmode => ?_, completes_twinAbort_sender hawake hmid,
    fun hmode hsending => ?_, completes_twinClaim hawake hmid, fun hstate => ?_⟩, fun hawake hfree hpaired => ?_, fun hwait => ?_,
    fun hawake e v rest hnotices => ?_⟩
  · obtain ⟨t, ht, rfl⟩ := completes_twin_denied hawake hmid hc
    exact ⟨_, ht, s.twinRefuseCmd_spec _⟩
  · exact .of_eq (exec_twinResync hawake hmid) (if_pos (by simp [hpaired])) (s.twinRefuseCmd_spec _)
  · exact .of_eq (exec_twinHandover hawake hmid) (if_pos (by simp [hpaired])) (s.twinRefuseCmd_spec _)
  · exact .of_eq (exec_twinResync hawake hmid) ((if_neg (by simp [hpaired])).trans (if_pos hmode)) (s.twinRefuseCmd_spec _)
  · exact .of_eq (exec_twinHandover hawake hmid) ((if_neg (by simp [hpaired])).trans (if_pos hstate)) (s.twinRefuseCmd_spec _)
  · exact ⟨_, exec_twinAbort hawake hmid, s.abortCmd_receiver_spec hmode⟩
  · exact .of_eq (exec_twinAbort hawake hmid) (if_pos ⟨hmode, hsending⟩) (s.twinRefuseCmd_spec _)
  · exact .of_eq (exec_twinClaim hawake hmid) (if_pos hstate) (s.twinRefuseCmd_spec _)
  · exact completes_raccGo s mid value hawake hfree hpaired
  · exact completes_raccTimeout s hwait
  · exact completes_twnNoticeRead s mid hawake hnotices

end Sys2Proof.Machine


/-! PROOFS.  Pairing of twins, and its loss at a third miss (R540 to R543, R545, R550). -/

namespace Sys2Proof.Machine

section
variable (s : State)

/-! ## What a PAIR frame shows (R542) -/

/-- The fields that show the partner. -/
def pairInfo : List Field := [Fld.TWN_PAIR_INFO_VALID, Fld.TWN_PAIR_INFO_P_ROLE, Fld.TWN_PAIR_INFO_P_MODE, Fld.TWN_PAIR_INFO_P_OWN,
  Fld.TWN_PAIR_INFO_P_STEP]

/-- A PAIR frame recorded. -/
def State.pairShown (s : State) (ident straps : Word32) (mode : Nat) (own : Bool) : State :=
  ((((s.setFlag Fld.TWN_PAIR_INFO_VALID true).setFld Fld.TWN_PAIR_INFO_P_ROLE
    (Fld.DEV_STRAPS_TWIN_ROLE.get straps)).setFld Fld.TWN_PAIR_INFO_P_MODE mode).setFlag Fld.TWN_PAIR_INFO_P_OWN own).setFld
    Fld.TWN_PAIR_INFO_P_STEP (Fld.DEV_IDENT_STEP.get ident)

/-- The partner as a state shows it. -/
def PairShows (t : State) (ident straps : Word32) (mode : Nat) (own : Bool) : Prop :=
  t.flag Fld.TWN_PAIR_INFO_VALID = true ∧ t.fld Fld.TWN_PAIR_INFO_P_ROLE = Fld.DEV_STRAPS_TWIN_ROLE.get straps ∧
  t.fld Fld.TWN_PAIR_INFO_P_MODE = mode ∧ t.flag Fld.TWN_PAIR_INFO_P_OWN = own ∧
  t.fld Fld.TWN_PAIR_INFO_P_STEP = Fld.DEV_IDENT_STEP.get ident

theorem PairShows.of_fld {t u : State} {ident straps : Word32} {mode : Nat} {own : Bool} (h : PairShows u ident straps mode own)
    (hfld : ∀ f ∈ pairInfo, t.fld f = u.fld f) : PairShows t ident straps mode own := by
  obtain ⟨hvalid, hrole, hmode, hown, hstep⟩ := h
  have hflag {f : Field} (hf : f ∈ pairInfo) : t.flag f = u.flag f := by rw [State.flag, hfld f hf, State.flag]
  exact ⟨(hflag (by simp [pairInfo])).trans hvalid, (hfld _ (by simp [pairInfo])).trans hrole, (hfld _ (by simp [pairInfo])).trans hmode,
    (hflag (by simp [pairInfo])).trans hown, (hfld _ (by simp [pairInfo])).trans hstep⟩

variable (ident straps : Word32) {mode : Nat} (hmode : mode < 4) (own : Bool)

theorem State.pairShown_only : Only pairInfo s (s.pairShown ident straps mode own) :=
  (((((Only.refl _ s).setFlag _ _ rfl (by simp [pairInfo])).setFld _ _ rfl (by simp [pairInfo])).setFld _ _ rfl
    (by simp [pairInfo])).setFlag _ _ rfl (by simp [pairInfo])).setFld _ _ rfl (by simp [pairInfo])

include hmode in
theorem State.pairShown_shows : PairShows (s.pairShown ident straps mode own) ident straps mode own := by
  refine ⟨?_, ?_, ?_, ?_, ?_⟩
  · rw [State.pairShown, State.flag_setFld_sep _ _ rfl, State.flag_setFlag_sep _ _ rfl, State.flag_setFld_sep _ _ rfl,
      State.flag_setFld_sep _ _ rfl]
    exact State.flag_setFlag_same _ _ _ rfl rfl
  · rw [State.pairShown, State.fld_setFld_sep _ _ rfl, State.fld_setFlag_sep _ _ rfl, State.fld_setFld_sep _ _ rfl,
      State.fld_setFld_same _ _ _ rfl]
    exact Nat.mod_mod _ _
  · rw [State.pairShown, State.fld_setFld_sep _ _ rfl, State.fld_setFlag_sep _ _ rfl, State.fld_setFld_same _ _ _ rfl]
    exact Nat.mod_eq_of_lt hmode
  · rw [State.pairShown, State.flag_setFld_sep _ _ rfl]
    exact State.flag_setFlag_same _ _ _ rfl rfl
  · rw [State.pairShown, State.fld_setFld_same _ _ _ rfl]
    exact Nat.mod_mod _ _

/-- The registers of other units are those from before the frame. -/
theorem State.reg_pairShown {a : Nat} (h : a ≠ Reg.TWN_PAIR_INFO) : (s.pairShown ident straps mode own).reg a = s.reg a :=
  (s.pairShown_only ident straps own).reg_eq (by simp [pairInfo, Field.apart, wholeReg, h.symm])

theorem State.flag_pairShown {f : Field} (h : f.addr ≠ Reg.TWN_PAIR_INFO) : (s.pairShown ident straps mode own).flag f = s.flag f := by
  rw [State.flag, State.fld, s.reg_pairShown ident straps own h, State.flag, State.fld]

theorem State.pairCause_pairShown (i2 s2 : Word32) (en disc : Bool) (identity : List Byte) :
    (s.pairShown ident straps mode own).pairCause i2 s2 en disc identity = s.pairCause i2 s2 en disc identity := by
  have hbytes : (s.pairShown ident straps mode own).regBytes (Reg.LDR_ID 0) 16 = s.regBytes (Reg.LDR_ID 0) 16 := by
    refine congrArg (List.flatMap bytesOf32) (List.map_congr_left fun k hk => s.reg_pairShown ident straps own ?_)
    have := List.mem_range.1 hk
    simp only [Reg.LDR_ID, Reg.TWN_PAIR_INFO]
    omega
  have hrole : (s.pairShown ident straps mode own).fld Fld.DEV_STRAPS_TWIN_ROLE = s.fld Fld.DEV_STRAPS_TWIN_ROLE := by
    rw [State.fld, s.reg_pairShown ident straps own (by decide), State.fld]
  rw [State.pairCause, State.pairCause, s.reg_pairShown ident straps own (by decide), s.flag_pairShown ident straps own (by decide), hbytes,
    hrole]

theorem State.pairCause_lt (en disc : Bool) (identity : List Byte) : s.pairCause ident straps en disc identity < 8 := by
  unfold State.pairCause
  extract_lets mine
  repeat' split
  all_goals omega

/-! ## The pair formed (R542, R545) -/

/-- The state in which the modes and the ownership of a new pair are found. -/
def State.pairFormed (u : State) : State :=
  (((u.setFlag Fld.TWN_STATUS_PAIRED true).raiseBit Fld.TWN_STATUS_PAIR_UP 484).withTwin
    { u.twin with heard := u.seq.turn, miss := 0, hbSent := none }).setFld Fld.TWN_LAG_MAX 0

end

section
variable (u : State)

theorem State.pairFormed_eq : u.pairFormed =
    ({ ((u.setFlag Fld.TWN_STATUS_PAIRED true).raiseBit Fld.TWN_STATUS_PAIR_UP 484) with
        twin := { ((u.setFlag Fld.TWN_STATUS_PAIRED true).raiseBit Fld.TWN_STATUS_PAIR_UP 484).twin with
          heard := ((u.setFlag Fld.TWN_STATUS_PAIRED true).raiseBit Fld.TWN_STATUS_PAIR_UP 484).seq.turn, miss := 0, hbSent := none } }
      : State).setFld Fld.TWN_LAG_MAX 0 := by
  rw [State.raiseBit_twin, State.raiseBit_seq]
  rfl

theorem State.fld_pairFormed_sep {g : Field} (hsafe : eventSafe g = true) (hpaired : Fld.TWN_STATUS_PAIRED.sep g = true)
    (hup : Fld.TWN_STATUS_PAIR_UP.sep g = true) (hlag : Fld.TWN_LAG_MAX.sep g = true) : u.pairFormed.fld g = u.fld g := by
  rw [State.pairFormed, State.fld_setFld_sep _ _ hlag, State.fld_withTwin, State.fld_raiseBit_sep _ (by decide) hsafe hup,
    State.fld_setFlag_sep _ _ hpaired]

theorem State.pairFormed_paired : u.pairFormed.flag Fld.TWN_STATUS_PAIRED = true := by
  rw [State.pairFormed, State.flag_setFld_sep _ _ rfl, State.flag_withTwin, State.flag_raiseBit_sep _ (by decide) rfl rfl,
    State.flag_setFlag_same _ _ _ rfl rfl]

theorem State.pairFormed_up : u.pairFormed.flag Fld.TWN_STATUS_PAIR_UP = true ∧ u.pairFormed.sticky 484 = true := by
  obtain ⟨hflag, hsticky⟩ := (u.setFlag Fld.TWN_STATUS_PAIRED true).raiseBit_spec (f := Fld.TWN_STATUS_PAIR_UP) (n := 484)
    (by decide) rfl rfl rfl
  refine ⟨by rw [State.pairFormed, State.flag_setFld_sep _ _ rfl, State.flag_withTwin, hflag], ?_⟩
  exact (StickyUp.refl _).setReg (a := Reg.TWN_LAG) _ (not_stickyAddr_of_above (by decide)) 484 (by decide) hsticky

theorem State.pairFormed_lag : u.pairFormed.fld Fld.TWN_LAG_MAX = 0 := (State.fld_setFld_same _ _ _ rfl).trans (Nat.zero_mod _)

theorem State.pairFormed_twin : u.pairFormed.twin = { u.twin with heard := u.seq.turn, miss := 0, hbSent := none } := rfl

theorem State.pairFormed_seq : u.pairFormed.seq = u.seq := (State.raiseBit_seq _ _ _).trans rfl

theorem State.pairFormed_ldr : u.pairFormed.ldr = u.ldr := (State.raiseBit_ldr _ _ _).trans rfl

/-! ## Modes and ownership of a new pair (R545) -/

theorem CalmAt.setOwn {s t : State} (h : CalmAt fallReg s t) (b : Bool) : CalmAt fallReg s (t.setOwn b) :=
  .ite h (((h.withTwin { t.twin with pinWait := some 4 }).fallSet (a := Reg.TWN_STATUS) _ (fallReg_of_twin (by decide) (by decide))).fallRaise
    (f := Fld.TWN_STATUS_OWN_CHG) (fallReg_of_twin (by decide) (by decide)) (by decide))

theorem State.setOwn_twin (b : Bool) : (u.setOwn b).twin = u.twin ∨ (u.setOwn b).twin = { u.twin with pinWait := some 4 } := by
  unfold State.setOwn
  split
  · exact Or.inl rfl
  · exact Or.inr ((State.raiseBit_twin _ _ _).trans rfl)

/-- The receiver's half of an ownership that passes on: STANDBY, with the release planned. -/
def State.ownPasses (u : State) : State :=
  { u.setMode 1 with twin := { (u.setMode 1).twin with ownPlan := some (false, u.seq.turn + 1) } }

/-- Both twins start in LOCKSTEP. -/
def State.pairStarts (u : State) : State :=
  if u.ldr.phase = 10 ∧ (u.setMode 3).flag Fld.TWN_STATUS_OWN ≠ (u.fld Fld.DEV_STRAPS_TWIN_ROLE == 0) then
    (u.setMode 3).setOwn (u.fld Fld.DEV_STRAPS_TWIN_ROLE == 0)
  else u.setMode 3

theorem State.pairModes_eq (own : Bool) (seq : Nat) : u.pairModes own seq =
    if u.seqState ≤ 1 ∧ seq ≤ 1 ∧ u.flag Fld.TWN_CFG_LS_START = true then u.pairStarts
    else if u.flag Fld.TWN_STATUS_OWN then
      (if own && !(u.fld Fld.DEV_STRAPS_TWIN_ROLE == 0) then u.ownPasses else u)
    else u.setMode 1 := rfl

theorem State.pairModes_calm (own : Bool) (seq : Nat) : CalmAt fallReg u (u.pairModes own seq) := by
  have hr := CalmAt.refl fallReg u
  rw [u.pairModes_eq]
  exact .ite (.ite ((hr.setMode 3).setOwn _) (hr.setMode 3)) (.ite (.ite ((hr.setMode 1).withTwin _) hr) (hr.setMode 1))

theorem State.fld_pairModes_sep (own : Bool) (seq : Nat) {g : Field} (hsafe : eventSafe g = true)
    (hmode : Fld.TWN_STATUS_MODE.sep g = true) (hent : Fld.TWN_STATUS_LS_ENT.sep g = true) (hown : Fld.TWN_STATUS_OWN.sep g = true)
    (hchg : Fld.TWN_STATUS_OWN_CHG.sep g = true) : (u.pairModes own seq).fld g = u.fld g := by
  have hset (m : Nat) : (u.setMode m).fld g = u.fld g := u.fld_setMode_sep m hsafe hmode hent
  rw [u.pairModes_eq, State.pairStarts]
  split
  · split
    · rw [State.fld_setOwn_sep _ _ hsafe hown hchg, hset]
    · exact hset 3
  · split
    · split
      · exact hset 1
      · rfl
    · exact hset 1

theorem State.flag_pairModes_sep (own : Bool) (seq : Nat) {g : Field} (hsafe : eventSafe g = true)
    (hmode : Fld.TWN_STATUS_MODE.sep g = true) (hent : Fld.TWN_STATUS_LS_ENT.sep g = true) (hown : Fld.TWN_STATUS_OWN.sep g = true)
    (hchg : Fld.TWN_STATUS_OWN_CHG.sep g = true) : (u.pairModes own seq).flag g = u.flag g := by
  rw [State.flag, u.fld_pairModes_sep own seq hsafe hmode hent hown hchg, State.flag]

/-- Heartbeats count from the pairing on, whatever the modes. -/
theorem State.pairModes_twin (own : Bool) (seq : Nat) :
    (u.pairModes own seq).twin.heard = u.twin.heard ∧ (u.pairModes own seq).twin.miss = u.twin.miss := by
  rw [u.pairModes_eq, State.pairStarts]
  split
  · split
    · rcases (u.setMode 3).setOwn_twin (u.fld Fld.DEV_STRAPS_TWIN_ROLE == 0) with h | h <;> simp [h, u.setMode_twin]
    · simp [u.setMode_twin]
  · split
    · split
      · simp [State.ownPasses, u.setMode_twin]
      · exact ⟨rfl, rfl⟩
    · simp [u.setMode_twin]

/-- LOCKSTEP from the start, owned by the twin in role A once the configuration is loaded. -/
theorem State.pairStarts_spec : u.pairStarts.twinMode = 3 ∧
    (u.ldr.phase = 10 → u.pairStarts.flag Fld.TWN_STATUS_OWN = (u.fld Fld.DEV_STRAPS_TWIN_ROLE == 0)) := by
  have hmode : (u.setMode 3).twinMode = 3 := u.twinMode_setMode (by decide)
  unfold State.pairStarts
  split
  · exact ⟨(State.fld_setOwn_sep _ _ rfl rfl rfl).trans hmode, fun _ => State.flag_setOwn _ _⟩
  next h => exact ⟨hmode, fun hphase => by_contra fun hne => h ⟨hphase, hne⟩⟩

theorem State.pairModes_plain (own : Bool) (seq : Nat) (h : u.flag Fld.TWN_CFG_LS_START = false) : u.pairModes own seq =
    if u.flag Fld.TWN_STATUS_OWN then (if own && !(u.fld Fld.DEV_STRAPS_TWIN_ROLE == 0) then u.ownPasses else u) else u.setMode 1 :=
  if_neg (by simp [h])

theorem State.pairModes_plain_spec (own : Bool) (seq : Nat) (h : u.flag Fld.TWN_CFG_LS_START = false) :
    (u.flag Fld.TWN_STATUS_OWN = false →
      (u.pairModes own seq).twinMode = 1 ∧ (u.pairModes own seq).twin.ownPlan = u.twin.ownPlan) ∧
    (u.flag Fld.TWN_STATUS_OWN = true → own = true → u.fld Fld.DEV_STRAPS_TWIN_ROLE ≠ 0 →
      (u.pairModes own seq).twinMode = 1 ∧ (u.pairModes own seq).twin.ownPlan = some (false, u.seq.turn + 1)) ∧
    (u.flag Fld.TWN_STATUS_OWN = true → own = false ∨ u.fld Fld.DEV_STRAPS_TWIN_ROLE = 0 →
      (u.pairModes own seq).twinMode = u.twinMode) := by
  rw [u.pairModes_plain own seq h]
  refine ⟨fun hown => ?_, fun hown hpartner hrole => ?_, fun hown hkeeps => ?_⟩
  · rw [hown, if_neg (by decide), u.setMode_twin]
    exact ⟨u.twinMode_setMode (by decide), rfl⟩
  · rw [hown, if_pos rfl, if_pos (by simp [hpartner, hrole])]
    exact ⟨(u.twinMode_setMode (m := 1) (by decide) :), rfl⟩
  · rw [hown, if_pos rfl, if_neg (by rcases hkeeps with h | h <;> simp [h])]

end

/-! ## The state of a new pair -/

/-- A pair just formed from `s`, before its modes are found. -/
structure PairReady (s p : State) (ident straps : Word32) (mode : Nat) (own : Bool) : Prop where
  shows : PairShows p ident straps mode own
  paired : p.flag Fld.TWN_STATUS_PAIRED = true
  up : p.flag Fld.TWN_STATUS_PAIR_UP = true ∧ p.sticky 484 = true
  lag : p.fld Fld.TWN_LAG_MAX = 0
  twin : p.twin = { s.twin with heard := s.seq.turn, miss := 0, hbSent := none }
  seq : p.seq = s.seq
  ldr : p.ldr = s.ldr
  seqState : p.seqState = s.seqState
  start : p.flag Fld.TWN_CFG_LS_START = s.flag Fld.TWN_CFG_LS_START
  owner : p.flag Fld.TWN_STATUS_OWN = s.flag Fld.TWN_STATUS_OWN
  role : p.fld Fld.DEV_STRAPS_TWIN_ROLE = s.fld Fld.DEV_STRAPS_TWIN_ROLE
  mode : p.twinMode = s.twinMode

theorem State.pairReady (s : State) (ident straps : Word32) {mode : Nat} (hmode : mode < 4) (own : Bool) :
    PairReady s ((s.pairShown ident straps mode own).setFld Fld.TWN_PAIR_INFO_CAUSE 0).pairFormed ident straps mode own := by
  have hstay {g : Field} (ha : g.addr ≠ Reg.TWN_PAIR_INFO) (hsafe : eventSafe g = true) (hpaired : Fld.TWN_STATUS_PAIRED.sep g = true)
      (hup : Fld.TWN_STATUS_PAIR_UP.sep g = true) (hlag : Fld.TWN_LAG_MAX.sep g = true) :
      ((s.pairShown ident straps mode own).setFld Fld.TWN_PAIR_INFO_CAUSE 0).pairFormed.fld g = s.fld g := by
    rw [State.fld_pairFormed_sep _ hsafe hpaired hup hlag, State.fld, State.reg_setFld_other _ _ _ _ ha,
      s.reg_pairShown ident straps own ha, State.fld]
  have hflag {g : Field} (ha : g.addr ≠ Reg.TWN_PAIR_INFO) (hsafe : eventSafe g = true) (hpaired : Fld.TWN_STATUS_PAIRED.sep g = true)
      (hup : Fld.TWN_STATUS_PAIR_UP.sep g = true) (hlag : Fld.TWN_LAG_MAX.sep g = true) :
      ((s.pairShown ident straps mode own).setFld Fld.TWN_PAIR_INFO_CAUSE 0).pairFormed.flag g = s.flag g := by
    rw [State.flag, hstay ha hsafe hpaired hup hlag, State.flag]
  refine ⟨(s.pairShown_shows ident straps hmode own).of_fld fun f hf => ?_, State.pairFormed_paired _, State.pairFormed_up _,
    State.pairFormed_lag _, ?_, ?_, ?_, hstay (by decide) rfl rfl rfl rfl, hflag (by decide) rfl rfl rfl rfl,
    hflag (by decide) rfl rfl rfl rfl, hstay (by decide) rfl rfl rfl rfl, hstay (by decide) rfl rfl rfl rfl⟩
  · obtain ⟨hsafe, hcause, hpaired, hup, hlag⟩ : eventSafe f = true ∧ Fld.TWN_PAIR_INFO_CAUSE.sep f = true ∧
        Fld.TWN_STATUS_PAIRED.sep f = true ∧ Fld.TWN_STATUS_PAIR_UP.sep f = true ∧ Fld.TWN_LAG_MAX.sep f = true := by
      revert f
      decide
    rw [State.fld_pairFormed_sep _ hsafe hpaired hup hlag, State.fld_setFld_sep _ _ hcause]
  · exact State.pairFormed_twin _
  · exact State.pairFormed_seq _
  · exact State.pairFormed_ldr _

/-- The modes and the ownership of a new pair (R545). -/
theorem PairReady.pairModes {s p : State} {ident straps : Word32} {mode : Nat} {own : Bool} (h : PairReady s p ident straps mode own)
    (seq : Nat) : PairShows (p.pairModes own seq) ident straps mode own ∧
    (p.pairModes own seq).flag Fld.TWN_STATUS_PAIRED = true ∧ (p.pairModes own seq).flag Fld.TWN_STATUS_PAIR_UP = true ∧
    (p.pairModes own seq).sticky 484 = true ∧ (p.pairModes own seq).fld Fld.TWN_LAG_MAX = 0 ∧
    (p.pairModes own seq).twin.heard = s.seq.turn ∧ (p.pairModes own seq).twin.miss = 0 ∧
    (s.seqState ≤ 1 → seq ≤ 1 → s.flag Fld.TWN_CFG_LS_START = true → (p.pairModes own seq).twinMode = 3 ∧
      (s.ldr.phase = 10 → (p.pairModes own seq).flag Fld.TWN_STATUS_OWN = (s.fld Fld.DEV_STRAPS_TWIN_ROLE == 0))) ∧
    (s.flag Fld.TWN_CFG_LS_START = false →
      (s.flag Fld.TWN_STATUS_OWN = false →
        (p.pairModes own seq).twinMode = 1 ∧ (p.pairModes own seq).twin.ownPlan = s.twin.ownPlan) ∧
      (s.flag Fld.TWN_STATUS_OWN = true → own = true → s.fld Fld.DEV_STRAPS_TWIN_ROLE ≠ 0 →
        (p.pairModes own seq).twinMode = 1 ∧ (p.pairModes own seq).twin.ownPlan = some (false, s.seq.turn + 1)) ∧
      (s.flag Fld.TWN_STATUS_OWN = true → own = false ∨ s.fld Fld.DEV_STRAPS_TWIN_ROLE = 0 →
        (p.pairModes own seq).twinMode = s.twinMode)) := by
  obtain ⟨hheard, hmiss⟩ := p.pairModes_twin own seq
  refine ⟨h.shows.of_fld fun f hf => ?_, ?_, ?_, (p.pairModes_calm own seq).sticky 484 (by decide) h.up.2, ?_, ?_, ?_,
    fun hidle hother hstart => ?_, fun hstart => ?_⟩
  · obtain ⟨hsafe, hmode, hent, hown, hchg⟩ : eventSafe f = true ∧ Fld.TWN_STATUS_MODE.sep f = true ∧
        Fld.TWN_STATUS_LS_ENT.sep f = true ∧ Fld.TWN_STATUS_OWN.sep f = true ∧ Fld.TWN_STATUS_OWN_CHG.sep f = true := by
      revert f
      decide
    exact p.fld_pairModes_sep own seq hsafe hmode hent hown hchg
  · rw [p.flag_pairModes_sep _ _ rfl rfl rfl rfl rfl, h.paired]
  · rw [p.flag_pairModes_sep _ _ rfl rfl rfl rfl rfl, h.up.1]
  · rw [p.fld_pairModes_sep _ _ rfl rfl rfl rfl rfl, h.lag]
  · rw [hheard, h.twin]
  · rw [hmiss, h.twin]
  · have hlock : p.pairModes own seq = p.pairStarts :=
      (p.pairModes_eq own seq).trans (if_pos ⟨h.seqState.trans_le hidle, hother, h.start.trans hstart⟩)
    rw [hlock, ← h.ldr, ← h.role]
    exact p.pairStarts_spec
  · have hplain := p.pairModes_plain_spec own seq (h.start.trans hstart)
    rw [h.owner, h.role, h.twin, h.seq, h.mode] at hplain
    exact hplain

/-! ## PAIR frames -/

section
variable (s : State) (ident straps : Word32) {mode : BitVec 2} (own en disc : Bool) {seq : BitVec 3} (identity : List Byte)

theorem State.pairIn_eq (mode seq : Nat) : s.pairIn ident straps mode own en disc seq identity =
    if !(s.pairShown ident straps mode own).flag Fld.TWN_CFG_EN || (s.pairShown ident straps mode own).twin.refused then
      s.pairShown ident straps mode own
    else if (s.pairShown ident straps mode own).pairCause ident straps en disc identity ≠ 0 then
      ((((s.pairShown ident straps mode own).setFld Fld.TWN_PAIR_INFO_CAUSE
        ((s.pairShown ident straps mode own).pairCause ident straps en disc identity)).withTwin
          { s.twin with refused := true }).raiseBit Fld.TWN_STATUS_PAIR_REF 485).twinCtrl 7 Code.twnState.toNat
    else ((s.pairShown ident straps mode own).setFld Fld.TWN_PAIR_INFO_CAUSE
      ((s.pairShown ident straps mode own).pairCause ident straps en disc identity)).pairFormed.pairModes own seq := by
  simp only [State.pairFormed_eq]
  rfl

variable (hunpaired : s.flag Fld.TWN_STATUS_PAIRED = false)
include hunpaired

theorem exec_twinPair : exec (.twinPair ident straps mode own en disc seq identity) s =
    .next (s.pairIn ident straps mode.toNat own en disc seq.toNat identity) :=
  congrArg Host.Outcome.next (if_neg (by simp [hunpaired]))

theorem completes_twinPair_idle (h : s.flag Fld.TWN_CFG_EN = false ∨ s.twin.refused = true) :
    Completes (.twinPair ident straps mode own en disc seq identity) s fun t =>
      PairShows t ident straps mode.toNat own ∧ Only pairInfo s t := by
  refine .of_eq (exec_twinPair s ident straps own en disc identity hunpaired) ((s.pairIn_eq ..).trans (if_pos ?_))
    ⟨s.pairShown_shows ident straps mode.isLt own, s.pairShown_only ident straps own⟩
  rw [s.flag_pairShown ident straps own (by decide)]
  rcases h with h | h
  · simp [h]
  · exact Bool.or_eq_true_iff.2 (Or.inr h)

theorem completes_twinPair_refused (hen : s.flag Fld.TWN_CFG_EN = true) (hfirst : s.twin.refused = false)
    (hcause : s.pairCause ident straps en disc identity ≠ 0) :
    Completes (.twinPair ident straps mode own en disc seq identity) s fun t =>
      PairShows t ident straps mode.toNat own ∧
      t.fld Fld.TWN_PAIR_INFO_CAUSE = s.pairCause ident straps en disc identity ∧ t.flag Fld.TWN_STATUS_PAIR_REF = true ∧
      t.sticky 485 = true ∧ t.twin = { s.twin with refused := true } ∧ t.flag Fld.TWN_STATUS_PAIRED = false ∧
      t.out.getLast? = some (.twinFrame 3 0 [7, BitVec.ofNat 64 Code.twnState.toNat]) := by
  have hshows := s.pairShown_shows ident straps mode.isLt own
  have hrefused : (s.pairShown ident straps mode.toNat own).twin.refused = false := hfirst
  have hkept : (s.pairShown ident straps mode.toNat own).flag Fld.TWN_STATUS_PAIRED = false :=
    (s.flag_pairShown ident straps own (by decide)).trans hunpaired
  have hexec := exec_twinPair s ident straps (mode := mode) own en disc (seq := seq) identity hunpaired
  rw [s.pairIn_eq, if_neg (by rw [s.flag_pairShown ident straps own (by decide), hen, hrefused]; decide),
    if_pos (by rwa [s.pairCause_pairShown]), s.pairCause_pairShown] at hexec
  have hcauseLt := s.pairCause_lt ident straps en disc identity
  generalize s.pairCause ident straps en disc identity = cause at *
  generalize s.pairShown ident straps mode.toNat own = u at *
  obtain ⟨hflag, hsticky⟩ := ((u.setFld Fld.TWN_PAIR_INFO_CAUSE cause).withTwin { s.twin with refused := true }).raiseBit_spec
    (f := Fld.TWN_STATUS_PAIR_REF) (n := 485) (by decide) rfl rfl rfl
  refine ⟨_, hexec, hshows.of_fld fun f hf => ?_, ?_, ?_, hsticky, ?_, ?_, List.getLast?_concat⟩
  · obtain ⟨hsafe, hcauseSep, href⟩ : eventSafe f = true ∧ Fld.TWN_PAIR_INFO_CAUSE.sep f = true ∧ Fld.TWN_STATUS_PAIR_REF.sep f = true := by
      revert f
      decide
    rw [State.twinCtrl, State.fld_emit, State.fld_raiseBit_sep _ (by decide) hsafe href, State.fld_withTwin,
      State.fld_setFld_sep _ _ hcauseSep]
  · rw [State.twinCtrl, State.fld_emit, State.fld_raiseBit_sep _ (by decide) rfl rfl, State.fld_withTwin, State.fld_setFld_same _ _ _ rfl]
    exact Nat.mod_eq_of_lt hcauseLt
  · rw [State.twinCtrl, State.flag_emit, hflag]
  · exact (State.raiseBit_twin _ _ _).trans rfl
  · rw [State.twinCtrl, State.flag_emit, State.flag_raiseBit_sep _ (by decide) rfl rfl, State.flag_withTwin, State.flag_setFld_sep _ _ rfl,
      hkept]

theorem exec_twinPair_formed (hen : s.flag Fld.TWN_CFG_EN = true) (hfirst : s.twin.refused = false)
    (hcause : s.pairCause ident straps en disc identity = 0) : exec (.twinPair ident straps mode own en disc seq identity) s =
      .next (((s.pairShown ident straps mode.toNat own).setFld Fld.TWN_PAIR_INFO_CAUSE 0).pairFormed.pairModes own seq.toNat) := by
  have hrefused : (s.pairShown ident straps mode.toNat own).twin.refused = false := hfirst
  rw [exec_twinPair s ident straps own en disc identity hunpaired, s.pairIn_eq,
    if_neg (by rw [s.flag_pairShown ident straps own (by decide), hen, hrefused]; decide),
    if_neg (by rwa [s.pairCause_pairShown, not_not]), s.pairCause_pairShown, hcause]

end

/-! ## Loss of pairing (R543, R550) -/

section
variable (u : State)

theorem State.fld_rsFail_sep (cause : Nat) {g : Field} (hsafe : eventSafe g = true) (hphase : Fld.TWN_RS_STAT_PHASE.sep g = true)
    (hmode : Fld.TWN_STATUS_MODE.sep g = true) (hent : Fld.TWN_STATUS_LS_ENT.sep g = true)
    (hcause : Fld.TWN_RS_STAT_CAUSE.sep g = true) (hfail : Fld.TWN_STATUS_RS_FAIL.sep g = true) : (u.rsFail cause).fld g = u.fld g := by
  by_cases h : u.twinMode = 2
  · rw [u.rsFail_receiver h, State.fld_raiseBit_sep _ (by decide) hsafe hfail, State.rsFailed, State.fld_setFld_sep _ _ hcause,
      State.fld_setMode_sep _ _ hsafe hmode hent, u.fld_rsClear_sep hphase]
  · rw [u.rsFail_other h]

theorem State.rsFail_twin (cause : Nat) : (u.rsFail cause).twin = u.twin ∨ (u.rsFail cause).twin = u.twin.rsEnded := by
  by_cases h : u.twinMode = 2
  · rw [u.rsFail_receiver h, State.raiseBit_twin]
    exact Or.inr ((State.setMode_twin _ _).trans u.rsClear_twin)
  · rw [u.rsFail_other h]
    exact Or.inl rfl

/-- A twin alone again: no resynchronisation, in SOLO. -/
def State.aloneAgain (u : State) : State := (u.rsFail 3).sendEnd.setMode 0

theorem State.fld_aloneAgain_sep {g : Field} (hsafe : eventSafe g = true) (hphase : Fld.TWN_RS_STAT_PHASE.sep g = true)
    (hmode : Fld.TWN_STATUS_MODE.sep g = true) (hent : Fld.TWN_STATUS_LS_ENT.sep g = true)
    (hcause : Fld.TWN_RS_STAT_CAUSE.sep g = true) (hfail : Fld.TWN_STATUS_RS_FAIL.sep g = true)
    (hsending : Fld.TWN_STATUS_SENDING.sep g = true) : u.aloneAgain.fld g = u.fld g := by
  rw [State.aloneAgain, State.fld_setMode_sep _ _ hsafe hmode hent, State.fld_sendEnd_sep _ hphase hsending,
    u.fld_rsFail_sep 3 hsafe hphase hmode hent hcause hfail]

theorem State.aloneAgain_mode : u.aloneAgain.twinMode = 0 := State.twinMode_setMode _ (by decide)

theorem State.aloneAgain_stickyUp : StickyUp u u.aloneAgain := ((((CalmAt.refl fallReg u).rsFail 3).sendEnd).setMode 0).sticky

theorem State.aloneAgain_ownPlan : u.aloneAgain.twin.ownPlan = u.twin.ownPlan := by
  rw [State.aloneAgain, State.setMode_twin]
  rcases (u.rsFail 3).sendEnd_twin with h | h <;> rcases u.rsFail_twin 3 with h' | h' <;> rw [h, h'] <;> rfl

/-- The pairing given up and reported, with the carrels of the partner reset. -/
def State.pairLost (u : State) : State := ((u.setFlag Fld.TWN_STATUS_PAIRED false).raiseBit Fld.TWN_STATUS_LOST 486).resetEndsOf 0x0A

/-- Whether a twin takes ownership when the pairing is lost. -/
def State.takesOver (u : State) : Bool := u.twinMode == 3 && !u.flag Fld.TWN_STATUS_OWN

theorem State.twinLost_paired (h : u.flag Fld.TWN_STATUS_PAIRED = true) : u.twinLost =
    u.pairLost.aloneAgain.withTwin { u.pairLost.aloneAgain.twin with
      handover := none, miss := 0, ownPlan := if u.takesOver then some (true, u.seq.turn + 1) else u.pairLost.aloneAgain.twin.ownPlan } :=
  if_pos h

theorem State.fld_resetEndsOf_twin (mid : Nat) {g : Field} (hlow : 0x8000000 ≤ g.addr) (hhigh : g.addr < 0x8000100) :
    (u.resetEndsOf mid).fld g = u.fld g :=
  (u.resetEndsOf_frame mid).1.fld_eq (eventSafe_of_above (by omega) (Or.inl (by omega))) (allBells_apart (Or.inr (Or.inr (by omega))))

theorem State.pairLost_twin : u.pairLost.twin = u.twin :=
  ((congrArg (fun x : State => x.twin) (State.resetEndsOf_frame _ 0x0A).1.1 :)).trans ((State.raiseBit_twin _ _ _).trans rfl)

theorem State.fld_pairLost_sep {g : Field} (hlow : 0x8000000 ≤ g.addr) (hhigh : g.addr < 0x8000100)
    (hpaired : Fld.TWN_STATUS_PAIRED.sep g = true) (hlost : Fld.TWN_STATUS_LOST.sep g = true) : u.pairLost.fld g = u.fld g := by
  rw [State.pairLost, State.fld_resetEndsOf_twin _ _ hlow hhigh,
    State.fld_raiseBit_sep _ (by decide) (eventSafe_of_above (by omega) (Or.inl (by omega))) hlost, State.fld_setFlag_sep _ _ hpaired]

theorem State.pairLost_status : u.pairLost.flag Fld.TWN_STATUS_PAIRED = false ∧ u.pairLost.flag Fld.TWN_STATUS_LOST = true ∧
    u.pairLost.sticky 486 = true := by
  obtain ⟨hflag, hsticky⟩ := (u.setFlag Fld.TWN_STATUS_PAIRED false).raiseBit_spec (f := Fld.TWN_STATUS_LOST) (n := 486) (by decide) rfl
    rfl rfl
  refine ⟨?_, ?_, (State.resetEndsOf_frame _ 0x0A).2 486 (by decide) hsticky⟩
  · rw [State.pairLost, State.flag, State.fld_resetEndsOf_twin _ _ (by decide) (by decide), ← State.flag,
      State.flag_raiseBit_sep _ (by decide) rfl rfl, State.flag_setFlag_same _ _ _ rfl rfl]
  · rw [State.pairLost, State.flag, State.fld_resetEndsOf_twin _ _ (by decide) (by decide), ← State.flag, hflag]

theorem State.pairLost_stickyUp : StickyUp u u.pairLost :=
  ((StickyUp.refl u).setReg (a := Reg.TWN_STATUS) _ (not_stickyAddr_of_above (by decide))).setReg (a := Reg.TWN_STATUS) _
    (not_stickyAddr_of_above (by decide)) |>.raise 486 |>.trans (State.resetEndsOf_frame _ 0x0A).2

/-- The loss of a pairing. -/
theorem State.twinLost_spec (h : u.flag Fld.TWN_STATUS_PAIRED = true) :
    u.twinLost.flag Fld.TWN_STATUS_PAIRED = false ∧ u.twinLost.flag Fld.TWN_STATUS_HB_LOSS = u.flag Fld.TWN_STATUS_HB_LOSS ∧
    u.twinLost.flag Fld.TWN_STATUS_LOST = true ∧ u.twinLost.sticky 486 = true ∧ u.twinLost.twinMode = 0 ∧
    u.twinLost.flag Fld.TWN_STATUS_OWN = u.flag Fld.TWN_STATUS_OWN ∧ u.twinLost.twin.handover = none ∧ u.twinLost.twin.miss = 0 ∧
    u.twinLost.twin.ownPlan = (if u.takesOver then some (true, u.seq.turn + 1) else u.twin.ownPlan) ∧ StickyUp u u.twinLost := by
  obtain ⟨hpaired, hlost, hsticky⟩ := u.pairLost_status
  have hkept {g : Field} (hsafe : eventSafe g = true) (hphase : Fld.TWN_RS_STAT_PHASE.sep g = true)
      (hmode : Fld.TWN_STATUS_MODE.sep g = true) (hent : Fld.TWN_STATUS_LS_ENT.sep g = true)
      (hcause : Fld.TWN_RS_STAT_CAUSE.sep g = true) (hfail : Fld.TWN_STATUS_RS_FAIL.sep g = true)
      (hsending : Fld.TWN_STATUS_SENDING.sep g = true) : u.pairLost.aloneAgain.flag g = u.pairLost.flag g := by
    rw [State.flag, State.fld_aloneAgain_sep _ hsafe hphase hmode hent hcause hfail hsending, State.flag]
  have hstay {g : Field} (hlow : 0x8000000 ≤ g.addr) (hhigh : g.addr < 0x8000100) (hp : Fld.TWN_STATUS_PAIRED.sep g = true)
      (hl : Fld.TWN_STATUS_LOST.sep g = true) : u.pairLost.flag g = u.flag g := by
    rw [State.flag, u.fld_pairLost_sep hlow hhigh hp hl, State.flag]
  rw [u.twinLost_paired h]
  refine ⟨?_, ?_, ?_, ?_, ?_, ?_, rfl, rfl, ?_, ?_⟩
  · rw [State.flag_withTwin, hkept rfl rfl rfl rfl rfl rfl rfl, hpaired]
  · rw [State.flag_withTwin, hkept rfl rfl rfl rfl rfl rfl rfl, hstay (by decide) (by decide) rfl rfl]
  · rw [State.flag_withTwin, hkept rfl rfl rfl rfl rfl rfl rfl, hlost]
  · exact u.pairLost.aloneAgain_stickyUp 486 (by decide) hsticky
  · exact u.pairLost.aloneAgain_mode
  · rw [State.flag_withTwin, hkept rfl rfl rfl rfl rfl rfl rfl, hstay (by decide) (by decide) rfl rfl]
  · rw [State.withTwin_twin, State.aloneAgain_ownPlan, State.pairLost_twin]
  · exact u.pairLost_stickyUp.trans u.pairLost.aloneAgain_stickyUp

theorem completes_twinHbLoss (hpaired : u.flag Fld.TWN_STATUS_PAIRED = true) (hmiss : 3 ≤ u.twin.miss) : Completes .twinHbLoss u fun t =>
    t.flag Fld.TWN_STATUS_PAIRED = false ∧ t.flag Fld.TWN_STATUS_HB_LOSS = true ∧ t.flag Fld.TWN_STATUS_LOST = true ∧
    t.sticky 488 = true ∧ t.sticky 486 = true ∧ t.twinMode = 0 ∧ t.flag Fld.TWN_STATUS_OWN = u.flag Fld.TWN_STATUS_OWN ∧
    t.twin.handover = none ∧ t.twin.miss = 0 ∧
    t.twin.ownPlan = (if u.twinMode = 3 ∧ u.flag Fld.TWN_STATUS_OWN = false then some (true, u.seq.turn + 1) else u.twin.ownPlan) := by
  obtain ⟨hflag, hsticky⟩ := u.raiseBit_spec (f := Fld.TWN_STATUS_HB_LOSS) (n := 488) (by decide) rfl rfl rfl
  have hpaired' : (u.raiseBit Fld.TWN_STATUS_HB_LOSS 488).flag Fld.TWN_STATUS_PAIRED = true := by
    rw [State.flag_raiseBit_sep _ (by decide) rfl rfl, hpaired]
  have hown : (u.raiseBit Fld.TWN_STATUS_HB_LOSS 488).flag Fld.TWN_STATUS_OWN = u.flag Fld.TWN_STATUS_OWN :=
    State.flag_raiseBit_sep _ (by decide) rfl rfl
  have hmode : (u.raiseBit Fld.TWN_STATUS_HB_LOSS 488).twinMode = u.twinMode := State.fld_raiseBit_sep _ (by decide) rfl rfl
  obtain ⟨h1, h2, h3, h4, h5, h6, h7, h8, h9, hup⟩ := (u.raiseBit Fld.TWN_STATUS_HB_LOSS 488).twinLost_spec hpaired'
  refine ⟨_, congrArg Host.Outcome.next (if_pos (by simp [hpaired, hmiss])), h1, h2.trans hflag, h3, hup 488 (by decide) hsticky, h4, h5,
    h6.trans hown, h7, h8, h9.trans ?_⟩
  rw [State.takesOver, hmode, hown, State.raiseBit_twin, State.raiseBit_seq]
  simp

end

/-- Settles O46: the frame forms the pair or refuses it, and a third miss dissolves it. -/
theorem twinPairing : Obligations.TwinPairing := by
  unfold Obligations.TwinPairing
  intro ident straps mode own en disc seq identity s
  refine ⟨fun hunpaired => ⟨?_, ?_, fun hen hfirst hcause => ?_⟩, completes_twinHbLoss s⟩
  · exact completes_twinPair_idle s ident straps own en disc identity hunpaired
  · exact completes_twinPair_refused s ident straps own en disc identity hunpaired
  · exact ⟨_, exec_twinPair_formed s ident straps own en disc identity hunpaired hen hfirst hcause,
      (s.pairReady ident straps mode.isLt own).pairModes seq.toNat⟩

end Sys2Proof.Machine


/-! PROOFS.  Heartbeats of twins: what they show, divergence, and verification (R541, R547, R549 to R551, R555, R559). -/

namespace Sys2Proof.Machine

section
variable (s : State) (n : Nat) (own : Bool) (mode : Nat)

/-! ## What an HB shows (R549, R550) -/

/-- The history with the turn of an HB marked as met. -/
def histMet (hist : List TwinTurn) (n : Nat) : List TwinTurn := hist.map (fun x => if x.turn = n then { x with met := true } else x)

/-- The twin unit's own state after an HB. -/
def State.hbTwin (s : State) (n : Nat) : TwinSt := { s.twin with heard := s.seq.turn, miss := 0, hist := histMet s.twin.hist n }

/-- The fields that an HB shows. -/
def hbFields : List Field := [Fld.TWN_PAIR_INFO_P_OWN, Fld.TWN_PAIR_INFO_P_MODE, Fld.TWN_LAG_MAX, Fld.TWN_LAG_VALID]

/-- The registers after an HB. -/
def State.hbShown (u : State) (lag : Nat) (own : Bool) (mode : Nat) : State :=
  (((u.setFlag Fld.TWN_PAIR_INFO_P_OWN own).setFld Fld.TWN_PAIR_INFO_P_MODE mode).setFld Fld.TWN_LAG_MAX
    (max (u.fld Fld.TWN_LAG_MAX) (min lag 63))).setFlag Fld.TWN_LAG_VALID true

/-- An HB taken in, before its digest is judged. -/
def State.hbIn (s : State) (n : Nat) (own : Bool) (mode : Nat) : State :=
  ((((s.setFlag Fld.TWN_PAIR_INFO_P_OWN own).setFld Fld.TWN_PAIR_INFO_P_MODE mode).withTwin
    { s.twin with heard := s.seq.turn, miss := 0 }).hbLag n).hbMet n

theorem State.hbIn_eq (h : s.seq.turn - n ≤ s.hbWait) :
    s.hbIn n own mode = (s.withTwin (s.hbTwin n)).hbShown (s.seq.turn - n) own mode := by
  have hlag (u : State) (hle : u.seq.turn - n ≤ u.hbWait) : u.hbLag n =
      (u.setFld Fld.TWN_LAG_MAX (max (u.fld Fld.TWN_LAG_MAX) (min (u.seq.turn - n) 63))).setFlag Fld.TWN_LAG_VALID true :=
    if_neg (by omega)
  have hwait : (((s.setFlag Fld.TWN_PAIR_INFO_P_OWN own).setFld Fld.TWN_PAIR_INFO_P_MODE mode).withTwin
      { s.twin with heard := s.seq.turn, miss := 0 }).hbWait = s.hbWait := by
    rw [State.hbWait, State.fld_withTwin, State.fld_setFld_sep _ _ rfl, State.fld_setFlag_sep _ _ rfl, State.hbWait]
  have hmax : (((s.setFlag Fld.TWN_PAIR_INFO_P_OWN own).setFld Fld.TWN_PAIR_INFO_P_MODE mode).withTwin
      { s.twin with heard := s.seq.turn, miss := 0 }).fld Fld.TWN_LAG_MAX = s.fld Fld.TWN_LAG_MAX := by
    rw [State.fld_withTwin, State.fld_setFld_sep _ _ rfl, State.fld_setFlag_sep _ _ rfl]
  rw [State.hbIn, hlag _ (by rw [hwait]; exact h), hmax]
  rfl

variable {lag : Nat}

theorem State.hbShown_only : Only hbFields s (s.hbShown lag own mode) :=
  ((((Only.refl _ s).setFlag _ _ rfl (by simp [hbFields])).setFld _ _ rfl (by simp [hbFields])).setFld _ _ rfl
    (by simp [hbFields])).setFlag _ _ rfl (by simp [hbFields])

theorem State.hbShown_shows {mode : Nat} (hmode : mode < 4) :
    (s.hbShown lag own mode).flag Fld.TWN_PAIR_INFO_P_OWN = own ∧ (s.hbShown lag own mode).fld Fld.TWN_PAIR_INFO_P_MODE = mode ∧
    (s.hbShown lag own mode).fld Fld.TWN_LAG_MAX = max (s.fld Fld.TWN_LAG_MAX) (min lag 63) ∧
    (s.hbShown lag own mode).flag Fld.TWN_LAG_VALID = true := by
  refine ⟨?_, ?_, ?_, State.flag_setFlag_same _ _ _ rfl rfl⟩
  · rw [State.hbShown, State.flag_setFlag_sep _ _ rfl, State.flag_setFld_sep _ _ rfl, State.flag_setFld_sep _ _ rfl]
    exact State.flag_setFlag_same _ _ _ rfl rfl
  · rw [State.hbShown, State.fld_setFlag_sep _ _ rfl, State.fld_setFld_sep _ _ rfl, State.fld_setFld_same _ _ _ rfl]
    exact Nat.mod_eq_of_lt hmode
  · have hmax : s.fld Fld.TWN_LAG_MAX < 64 := Nat.mod_lt _ (by decide)
    rw [State.hbShown, State.fld_setFlag_sep _ _ rfl, State.fld_setFld_same _ _ _ rfl]
    exact Nat.mod_eq_of_lt (by change _ < 64; omega)

/-- Fields that an HB does not show. -/
def hbApart (g : Field) : Bool := g.addr != Reg.TWN_PAIR_INFO && g.addr != Reg.TWN_LAG

theorem State.reg_hbShown {a : Nat} (hinfo : a ≠ Reg.TWN_PAIR_INFO) (hlag : a ≠ Reg.TWN_LAG) :
    (s.hbShown lag own mode).reg a = s.reg a :=
  (s.hbShown_only own mode).reg_eq (by simp [hbFields, Field.apart, wholeReg, hinfo.symm, hlag.symm])

/-! ## The history -/

theorem find_histMet (hist : List TwinTurn) (m : Nat) : (histMet hist n).find? (fun x => x.turn == m) =
    (hist.find? (fun x => x.turn == m)).map (fun x => if x.turn = n then { x with met := true } else x) := by
  have hturn : (fun x : TwinTurn => x.turn == m) ∘ (fun x => if x.turn = n then { x with met := true } else x) = fun x => x.turn == m := by
    funext x
    simp only [Function.comp_apply]
    split <;> rfl
  rw [histMet, List.find?_map, hturn]

theorem digestIs_met (d : Word64) {u : State} (hu : u.twin.hist = histMet s.twin.hist n) : u.digestIs n d = s.digestIs n d := by
  rw [State.digestIs, State.digestIs, hu, find_histMet]
  cases s.twin.hist.find? (fun x => x.turn == n) with
  | none => rfl
  | some x =>
    simp only [Option.map_some]
    split <;> rfl

end

/-- HEALTH of a turn as this twin holds it, where it does. -/
def healthIn (hist : List TwinTurn) (n : Nat) : Option Bool := (hist.find? (fun x => x.turn == n)).map (fun x => x.health)

theorem healthIn_met (hist : List TwinTurn) (n m : Nat) : healthIn (histMet hist n) m = healthIn hist m := by
  rw [healthIn, find_histMet, Option.map_map, healthIn]
  congr 1
  funext x
  simp only [Function.comp_apply]
  split <;> rfl

section
variable (u : State) (n : Nat) (health : Bool)

/-! ## Divergence (R551) -/

/-- A divergence reported. -/
def State.divergeShown (u : State) (n : Nat) : State :=
  ((if u.flag Fld.TWN_STATUS_DIVERGE then u else u.setReg Reg.TWN_DIV_TURN (BitVec.ofNat 32 n)).raiseBit Fld.TWN_STATUS_DIVERGE 487).countReg
    Reg.TWN_DIV_CNT

/-- Whether ownership moves at a divergence. -/
def divergeMoves (own mine health : Bool) : Bool := if own then !mine && health else !health && mine

/-- This twin's HEALTH of the turn; the one that leaves ownership where it is when none is held. -/
def State.mineAt (u : State) (n : Nat) : Bool := (healthIn u.twin.hist n).getD (u.flag Fld.TWN_STATUS_OWN)

theorem State.diverge_eq : u.diverge n health =
    if divergeMoves (u.flag Fld.TWN_STATUS_OWN) (u.mineAt n) health then
      ((u.divergeShown n).setMode (if (u.flag Fld.TWN_STATUS_OWN != divergeMoves (u.flag Fld.TWN_STATUS_OWN) (u.mineAt n) health) then 0
        else 1)).withTwin
        { ((u.divergeShown n).setMode (if (u.flag Fld.TWN_STATUS_OWN !=
            divergeMoves (u.flag Fld.TWN_STATUS_OWN) (u.mineAt n) health) then 0 else 1)).twin with
          ownPlan := some (u.flag Fld.TWN_STATUS_OWN != divergeMoves (u.flag Fld.TWN_STATUS_OWN) (u.mineAt n) health,
            u.seq.turn + (if (u.flag Fld.TWN_STATUS_OWN != divergeMoves (u.flag Fld.TWN_STATUS_OWN) (u.mineAt n) health) then 2 else 1)) }
    else (u.divergeShown n).setMode (if (u.flag Fld.TWN_STATUS_OWN != divergeMoves (u.flag Fld.TWN_STATUS_OWN) (u.mineAt n) health) then 0
      else 1) := by
  have hmine : u.mineAt n = (match u.twin.hist.find? (fun x => x.turn == n) with
      | some x => x.health
      | none => u.flag Fld.TWN_STATUS_OWN) := by
    rw [State.mineAt, healthIn]
    cases u.twin.hist.find? (fun x => x.turn == n) <;> rfl
  rw [hmine]
  rfl

theorem State.divergeShown_twin : (u.divergeShown n).twin = u.twin := by
  rw [State.divergeShown, State.countReg_twin, State.raiseBit_twin]
  split <;> rfl

theorem State.divergeShown_spec (hcount : u.reg Reg.TWN_DIV_CNT ≠ 0xFFFFFFFF) :
    (u.divergeShown n).flag Fld.TWN_STATUS_DIVERGE = true ∧ (u.divergeShown n).sticky 487 = true ∧
    (u.divergeShown n).reg Reg.TWN_DIV_CNT = u.reg Reg.TWN_DIV_CNT + 1 ∧
    (u.flag Fld.TWN_STATUS_DIVERGE = false → (u.divergeShown n).reg Reg.TWN_DIV_TURN = BitVec.ofNat 32 n) := by
  have hfirst : (if u.flag Fld.TWN_STATUS_DIVERGE then u else u.setReg Reg.TWN_DIV_TURN (BitVec.ofNat 32 n)).reg Reg.TWN_DIV_CNT =
      u.reg Reg.TWN_DIV_CNT := by
    split
    · rfl
    · exact State.reg_setReg_other _ _ (by decide)
  have hturn : u.flag Fld.TWN_STATUS_DIVERGE = false →
      (if u.flag Fld.TWN_STATUS_DIVERGE then u else u.setReg Reg.TWN_DIV_TURN (BitVec.ofNat 32 n)).reg Reg.TWN_DIV_TURN =
        BitVec.ofNat 32 n := fun h => by
    rw [h, if_neg (by decide), State.reg_setReg_same]
  unfold State.divergeShown
  generalize (if u.flag Fld.TWN_STATUS_DIVERGE then u else u.setReg Reg.TWN_DIV_TURN (BitVec.ofNat 32 n)) = v at *
  obtain ⟨hflag, hsticky⟩ := v.raiseBit_spec (f := Fld.TWN_STATUS_DIVERGE) (n := 487) (by decide) rfl rfl rfl
  have honly : OnlyEv [Fld.TWN_STATUS_DIVERGE] v (v.raiseBit Fld.TWN_STATUS_DIVERGE 487) :=
    (OnlyEv.refl _ v).raiseBit _ _ rfl List.mem_cons_self (by decide)
  have hcnt : (v.raiseBit Fld.TWN_STATUS_DIVERGE 487).reg Reg.TWN_DIV_CNT = u.reg Reg.TWN_DIV_CNT :=
    (honly.reg_eq rfl (by simp [Field.apart, wholeReg])).trans hfirst
  have hone : (v.raiseBit Fld.TWN_STATUS_DIVERGE 487).countReg Reg.TWN_DIV_CNT =
      (v.raiseBit Fld.TWN_STATUS_DIVERGE 487).setReg Reg.TWN_DIV_CNT (u.reg Reg.TWN_DIV_CNT + 1) :=
    (if_neg (by rwa [hcnt])).trans (by rw [hcnt])
  rw [hone]
  refine ⟨?_, ?_, State.reg_setReg_same _ _ _, fun h => ?_⟩
  · rw [State.flag_setReg_other _ _ (by decide), hflag]
  · exact (StickyUp.refl _).setReg _ (not_stickyAddr_of_above (by decide)) 487 (by decide) hsticky
  · rw [State.reg_setReg_other _ _ (by decide), honly.reg_eq rfl (by simp [Field.apart, wholeReg]), hturn h]

/-- The mode after a divergence: SOLO for the owner that follows, STANDBY for the other. -/
def divergeMode (own moves : Bool) : Nat := if own != moves then 0 else 1

theorem divergeMode_lt (own moves : Bool) : divergeMode own moves < 4 := by cases own <;> cases moves <;> decide

theorem divergeMode_ne (own moves : Bool) : divergeMode own moves ≠ 3 := by cases own <;> cases moves <;> decide

/-- A divergence: what is shown, the mode, and the ownership that is planned. -/
theorem State.diverge_spec {own moves : Bool} (hown : u.flag Fld.TWN_STATUS_OWN = own)
    (hmoves : divergeMoves own (u.mineAt n) health = moves) (hcount : u.reg Reg.TWN_DIV_CNT ≠ 0xFFFFFFFF) :
    (u.diverge n health).flag Fld.TWN_STATUS_DIVERGE = true ∧ (u.diverge n health).sticky 487 = true ∧
    (u.diverge n health).reg Reg.TWN_DIV_CNT = u.reg Reg.TWN_DIV_CNT + 1 ∧
    (u.flag Fld.TWN_STATUS_DIVERGE = false → (u.diverge n health).reg Reg.TWN_DIV_TURN = BitVec.ofNat 32 n) ∧
    (u.diverge n health).twinMode = divergeMode own moves ∧
    (u.diverge n health).twin = (if moves then { u.twin with ownPlan := some (own != moves, u.seq.turn + (if own != moves then 2 else 1)) }
      else u.twin) := by
  obtain ⟨hflag, hsticky, hcnt, hturn⟩ := u.divergeShown_spec n hcount
  have heq := u.diverge_eq n health
  rw [hown, hmoves, State.setMode_twin, u.divergeShown_twin] at heq
  have hset : (u.divergeShown n).setMode (divergeMode own moves) = (u.divergeShown n).setFld Fld.TWN_STATUS_MODE (divergeMode own moves) :=
    State.setMode_of_ne _ (divergeMode_ne own moves)
  have hmode : ((u.divergeShown n).setMode (divergeMode own moves)).twinMode = divergeMode own moves :=
    State.twinMode_setMode _ (divergeMode_lt own moves)
  have hparts (v : State) (hv : v.regs = ((u.divergeShown n).setMode (divergeMode own moves)).regs) :
      v.flag Fld.TWN_STATUS_DIVERGE = true ∧ v.sticky 487 = true ∧ v.reg Reg.TWN_DIV_CNT = u.reg Reg.TWN_DIV_CNT + 1 ∧
      (u.flag Fld.TWN_STATUS_DIVERGE = false → v.reg Reg.TWN_DIV_TURN = BitVec.ofNat 32 n) ∧ v.twinMode = divergeMode own moves := by
    refine ⟨?_, ?_, ?_, fun h => ?_, (State.fld_congr hv _).trans hmode⟩
    · rw [State.flag_congr hv, State.flag_setMode_sep _ _ rfl rfl rfl, hflag]
    · rw [State.sticky_congr 487 (State.reg_congr hv _)]
      exact State.setMode_stickyUp _ _ 487 (by decide) hsticky
    · rw [State.reg_congr hv, hset, State.reg_setFld_other _ _ _ _ (by decide), hcnt]
    · rw [State.reg_congr hv, hset, State.reg_setFld_other _ _ _ _ (by decide), hturn h]
  cases moves with
  | true =>
    rw [if_pos rfl] at heq
    obtain ⟨h1, h2, h3, h4, h5⟩ := hparts (u.diverge n health) (by rw [heq]; rfl)
    exact ⟨h1, h2, h3, h4, h5, by rw [heq]; rfl⟩
  | false =>
    rw [if_neg (by decide)] at heq
    obtain ⟨h1, h2, h3, h4, h5⟩ := hparts (u.diverge n health) (congrArg State.regs heq)
    exact ⟨h1, h2, h3, h4, h5, (congrArg State.twin heq).trans ((State.setMode_twin _ _).trans (u.divergeShown_twin n))⟩

end

/-! ## Verification (R555, R559) -/

section
variable (u : State) {n j : Nat} {d : Word64} (hjoin : u.twin.joinAt = some j) (hphase : u.fld Fld.TWN_RS_STAT_PHASE = 5)
  (hturn : j + u.maxSettle < n)
include hjoin hphase hturn

theorem State.verifyHb_eq : u.verifyHb n d =
    if u.digestIs n d then
      (if u.matchN ≤ u.twin.agreed + 1 then (u.rsClear.setFlag Fld.TWN_STATUS_SENDING false).setMode 3
       else u.withTwin { u.twin with agreed := u.twin.agreed + 1 })
    else u.withTwin { u.twin with agreed := 0 } := by
  rw [State.verifyHb, hjoin]
  exact if_pos ⟨hphase, hturn⟩

/-- The last of MATCH_N equal digests. -/
theorem State.verifyHb_last (hmode : u.twinMode ≠ 3) (hdigest : u.digestIs n d = true) (hlast : u.matchN ≤ u.twin.agreed + 1) :
    (u.verifyHb n d).twinMode = 3 ∧ (u.verifyHb n d).flag Fld.TWN_STATUS_SENDING = false ∧
    (u.verifyHb n d).fld Fld.TWN_RS_STAT_PHASE = 0 ∧ (u.verifyHb n d).twin.joinAt = none ∧
    (u.verifyHb n d).flag Fld.TWN_STATUS_LS_ENT = true ∧ (u.verifyHb n d).sticky 490 = true := by
  have hmode' : (u.rsClear.setFlag Fld.TWN_STATUS_SENDING false).twinMode ≠ 3 := by
    rwa [State.twinMode, State.fld_setFlag_sep _ _ rfl, State.fld_rsClear_sep _ rfl]
  obtain ⟨hent, hsticky⟩ := (u.rsClear.setFlag Fld.TWN_STATUS_SENDING false).setMode_lockstep hmode'
  rw [u.verifyHb_eq hjoin hphase hturn, if_pos hdigest, if_pos hlast]
  refine ⟨State.twinMode_setMode _ (by decide), ?_, ?_, ?_, hent, hsticky⟩
  · rw [State.flag_setMode_sep _ _ rfl rfl rfl, State.flag_setFlag_same _ _ _ rfl rfl]
  · rw [State.fld_setMode_sep _ _ rfl rfl rfl, State.fld_setFlag_sep _ _ rfl, State.rsClear_phase]
  · rw [State.setMode_twin]
    rfl

end

/-! ## HB frames -/

section
variable (s : State) {n : Nat} {d : Word64} {health own : Bool} {mode : Nat}

/-- An HB's digest judged (R551, R555). -/
def State.hbJudged (u : State) (n : Nat) (d : Word64) (health dvalid : Bool) : State :=
  if u.twinMode = 3 then (if dvalid && !u.digestIs n d then u.diverge n health else u) else u.verifyHb n d

theorem exec_twinHb (turn digest : Word64) (health own dvalid : Bool) (mode : BitVec 2) (hpaired : s.flag Fld.TWN_STATUS_PAIRED = true)
    (hwait : s.seq.turn - turn.toNat ≤ s.hbWait) : exec (.twinHb turn digest health own mode dvalid) s =
      .next (((s.withTwin (s.hbTwin turn.toNat)).hbShown (s.seq.turn - turn.toNat) own mode.toNat).hbJudged turn.toNat digest health
        dvalid) := by
  have hrun : exec (.twinHb turn digest health own mode dvalid) s =
      .next (if s.flag Fld.TWN_STATUS_PAIRED then (s.hbIn turn.toNat own mode.toNat).hbJudged turn.toNat digest health dvalid else s) := rfl
  rw [hrun, if_pos hpaired, s.hbIn_eq _ _ _ hwait]

/-- What judging an HB of turn `n` finds in a state. -/
structure HbFinds (s u : State) (n : Nat) (d : Word64) : Prop where
  twin : u.twin = s.hbTwin n
  seq : u.seq = s.seq
  reg : ∀ a, a ≠ Reg.TWN_PAIR_INFO → a ≠ Reg.TWN_LAG → u.reg a = s.reg a
  digest : u.digestIs n d = s.digestIs n d

theorem State.hbShown_finds (lag : Nat) : HbFinds s ((s.withTwin (s.hbTwin n)).hbShown lag own mode) n d :=
  ⟨rfl, rfl, fun _ hinfo hlag => State.reg_hbShown _ _ _ hinfo hlag, digestIs_met s n d rfl⟩

theorem HbFinds.fld {s u : State} (h : HbFinds s u n d) {g : Field} (hg : hbApart g = true) : u.fld g = s.fld g := by
  obtain ⟨hinfo, hlag⟩ := Bool.and_eq_true_iff.1 hg
  rw [State.fld, h.reg _ (bne_iff_ne.1 hinfo) (bne_iff_ne.1 hlag), State.fld]

theorem HbFinds.flag {s u : State} (h : HbFinds s u n d) {g : Field} (hg : hbApart g = true) : u.flag g = s.flag g := by
  rw [State.flag, h.fld hg, State.flag]

theorem State.maxSettle_congr {u : State} (h : ∀ a, a ≠ Reg.TWN_PAIR_INFO → a ≠ Reg.TWN_LAG → u.reg a = s.reg a) :
    u.maxSettle = s.maxSettle := by
  have hreg {k : Nat} (hk : k < 8) : u.reg (Reg.LDR_SETTLE k) = s.reg (Reg.LDR_SETTLE k) :=
    h _ (by simp only [Reg.LDR_SETTLE, Reg.TWN_PAIR_INFO]; omega) (by simp only [Reg.LDR_SETTLE, Reg.TWN_LAG]; omega)
  refine List.foldl_ext _ _ _ fun m k hk => ?_
  rw [hreg (List.mem_range.1 hk)]

/-- This twin's HEALTH of a turn that it holds. -/
theorem healthIn_eq {hist : List TwinTurn} {b : Bool} (h : ∃ x, hist.find? (fun x => x.turn == n) = some x ∧ x.health = b) :
    healthIn hist n = some b := by
  obtain ⟨x, hx, hb⟩ := h
  rw [healthIn, hx, Option.map_some, hb]

theorem HbFinds.mineAt {s u : State} (h : HbFinds s u n d) :
    u.mineAt n = (healthIn s.twin.hist n).getD (s.flag Fld.TWN_STATUS_OWN) := by
  rw [State.mineAt, h.twin, State.hbTwin, healthIn_met, h.flag rfl]

/-- A divergence as an HB brings it about. -/
theorem HbFinds.diverge {s u : State} (h : HbFinds s u n d) (health : Bool) (hcount : s.reg Reg.TWN_DIV_CNT ≠ 0xFFFFFFFF) :
    (u.diverge n health).flag Fld.TWN_STATUS_DIVERGE = true ∧ (u.diverge n health).sticky 487 = true ∧
    (u.diverge n health).reg Reg.TWN_DIV_CNT = s.reg Reg.TWN_DIV_CNT + 1 ∧
    (s.flag Fld.TWN_STATUS_DIVERGE = false → (u.diverge n health).reg Reg.TWN_DIV_TURN = BitVec.ofNat 32 n) ∧
    (u.diverge n health).twin.heard = s.seq.turn ∧ (u.diverge n health).twin.miss = 0 ∧
    ∀ own moves, s.flag Fld.TWN_STATUS_OWN = own →
      divergeMoves own ((healthIn s.twin.hist n).getD own) health = moves →
      (u.diverge n health).twinMode = divergeMode own moves ∧ (u.diverge n health).twin.ownPlan =
        if moves then some (own != moves, s.seq.turn + (if own != moves then 2 else 1)) else s.twin.ownPlan := by
  have hcnt : u.reg Reg.TWN_DIV_CNT = s.reg Reg.TWN_DIV_CNT := h.reg _ (by decide) (by decide)
  have hown : u.flag Fld.TWN_STATUS_OWN = s.flag Fld.TWN_STATUS_OWN := h.flag rfl
  obtain ⟨h1, h2, h3, h4, -, h6⟩ := u.diverge_spec n health hown rfl (by rwa [hcnt])
  refine ⟨h1, h2, h3.trans (by rw [hcnt]), fun hfirst => h4 ((h.flag rfl).trans hfirst), ?_, ?_, fun own moves hs hmoves => ?_⟩
  · rw [h6, h.twin]
    split <;> rfl
  · rw [h6, h.twin]
    split <;> rfl
  · obtain ⟨-, -, -, -, hmode, htwin⟩ := u.diverge_spec n health (own := own) (moves := moves) (hown.trans hs)
      (by rw [h.mineAt, hs, hmoves]) (by rwa [hcnt])
    refine ⟨hmode, ?_⟩
    rw [htwin, h.twin, h.seq]
    split <;> rfl

end

/-! ## HB_SEND (R541) -/

section
variable (s : State)

/-- D1 of an HB of a turn (R540). -/
def State.hbD1 (s : State) (x : TwinTurn) : Nat :=
  (if x.health then 1 else 0) + s.fld Fld.TWN_STATUS_OWN * 2 + s.twinMode * 4 + (if s.digestValid then 16 else 0) +
    x.turn / 2 ^ 32 % 2 ^ 32 * 2 ^ 32

theorem State.hbD1_bits (x : TwinTurn) :
    (BitVec.ofNat 64 (s.hbD1 x)).getLsbD 0 = x.health ∧ (BitVec.ofNat 64 (s.hbD1 x)).getLsbD 4 = s.digestValid := by
  have hown : s.fld Fld.TWN_STATUS_OWN < 2 := Nat.mod_lt _ (by decide)
  have hmode : s.twinMode < 4 := Nat.mod_lt _ (by decide)
  rw [BitVec.getLsbD_ofNat, BitVec.getLsbD_ofNat, State.hbD1]
  generalize s.fld Fld.TWN_STATUS_OWN = o at *
  generalize s.twinMode = m at *
  generalize x.turn / 2 ^ 32 % 2 ^ 32 = k
  constructor
  · cases x.health <;> cases s.digestValid <;> simp [Nat.testBit_eq_decide_div_mod_eq] <;> omega
  · cases x.health <;> cases s.digestValid <;> simp [Nat.testBit_eq_decide_div_mod_eq] <;> omega

theorem completes_twinHbSend {x : TwinTurn} (hpaired : s.flag Fld.TWN_STATUS_PAIRED = true) (hdue : s.hbDue = some x) :
    (s.twin.hbSent ≠ some x.turn → Completes .twinHbSend s fun t => ∃ d1 : Word64,
      t = { s with twin := { s.twin with hbSent := some x.turn }, out := s.out ++ [.twinFrame 1 (x.turn % 2 ^ 32) [x.digest, d1]] } ∧
      d1.getLsbD 0 = x.health ∧ d1.getLsbD 4 = s.digestValid) ∧
    (s.twin.hbSent = some x.turn → Completes .twinHbSend s fun t => t = s) := by
  have hsend : s.hbSend = if s.flag Fld.TWN_STATUS_PAIRED && s.twin.hbSent != some x.turn then
      (s.withTwin { s.twin with hbSent := some x.turn }).emit (.twinFrame 1 (x.turn % 2 ^ 32) [x.digest, BitVec.ofNat 64 (s.hbD1 x)])
      else s := by
    rw [State.hbSend, hdue]
    rfl
  refine ⟨fun hnew => ⟨_, congrArg Host.Outcome.next (hsend.trans (if_pos ?_)), BitVec.ofNat 64 (s.hbD1 x), rfl, s.hbD1_bits x⟩,
    fun hold => ⟨_, congrArg Host.Outcome.next (hsend.trans (if_neg ?_)), rfl⟩⟩
  · rw [hpaired, Bool.true_and]
    exact bne_iff_ne.2 hnew
  · rw [hold, bne_self_eq_false, Bool.and_false]
    decide

end

/-! ## The obligation -/

/-- Settles O47: an HB is shown and its digest judged by the mode, and the HB of a turn is sent once. -/
theorem twinHeartbeats : Obligations.TwinHeartbeats := by
  unfold Obligations.TwinHeartbeats
  intro turn digest health own dvalid mode s
  refine ⟨fun hpaired hwait => ?_, fun x hpaired hdue => completes_twinHbSend s hpaired hdue⟩
  have hexec := exec_twinHb s turn digest health own dvalid mode hpaired hwait
  have hshows := (s.withTwin (s.hbTwin turn.toNat)).hbShown_shows own (lag := s.seq.turn - turn.toNat) mode.isLt
  have honly := (s.withTwin (s.hbTwin turn.toNat)).hbShown_only own mode.toNat (lag := s.seq.turn - turn.toNat)
  have hfinds := s.hbShown_finds (n := turn.toNat) (d := digest) (own := own) (mode := mode.toNat) (s.seq.turn - turn.toNat)
  generalize (s.withTwin (s.hbTwin turn.toNat)).hbShown (s.seq.turn - turn.toNat) own mode.toNat = u at *
  have hmode : u.twinMode = s.twinMode := hfinds.fld rfl
  refine ⟨fun hlock hagree => ?_, fun hlock hvalid hdigest hcount => ?_, fun j hother hjoin hphase hturn => ?_⟩
  · refine ⟨u, hexec.trans (congrArg Host.Outcome.next ?_), ?_⟩
    · rw [State.hbJudged, if_pos (hmode.trans hlock), hfinds.digest]
      exact if_neg (by rcases hagree with h | h <;> simp [h])
    · obtain ⟨h1, h2, h3, h4⟩ := hshows
      exact ⟨h1, h2, h3, h4, honly⟩
  · have hjudged : u.hbJudged turn.toNat digest health dvalid = u.diverge turn.toNat health := by
      rw [State.hbJudged, if_pos (hmode.trans hlock), hfinds.digest]
      exact if_pos (by simp [hvalid, hdigest])
    obtain ⟨h1, h2, h3, h4, h5, h6, hplan⟩ := hfinds.diverge health hcount
    refine ⟨_, hexec.trans (congrArg Host.Outcome.next hjudged), h1, h2, h3, h4, h5, h6, fun hown hmine hhealth => ?_, fun hown hkeeps => ?_,
      fun hown hmine hhealth => ?_, fun hown hkeeps => ?_⟩
    · exact hplan true true hown (by rw [healthIn_eq hmine, hhealth]; rfl)
    · refine hplan true false hown ?_
      rcases hkeeps with hmine | hhealth
      · rw [healthIn_eq hmine]
        rfl
      · rw [hhealth]
        exact Bool.and_false _
    · exact hplan false true hown (by rw [healthIn_eq hmine, hhealth]; rfl)
    · refine hplan false false hown ?_
      rcases hkeeps with hmine | hhealth
      · rw [healthIn_eq hmine]
        exact Bool.and_false _
      · rw [hhealth]
        rfl
  · have hjoin' : u.twin.joinAt = some j := by rw [hfinds.twin]; exact hjoin
    have hphase' : u.fld Fld.TWN_RS_STAT_PHASE = 5 := (hfinds.fld rfl).trans hphase
    have hturn' : j + u.maxSettle < turn.toNat := by rwa [s.maxSettle_congr hfinds.reg]
    have hmatch : u.matchN = s.matchN := by rw [State.matchN, hfinds.fld rfl, State.matchN]
    have hagreed : u.twin.agreed = s.twin.agreed := by rw [hfinds.twin, State.hbTwin]
    have hother' : u.twinMode ≠ 3 := by rwa [hmode]
    have hrun := hexec.trans (congrArg Host.Outcome.next (if_neg hother' : u.hbJudged turn.toNat digest health dvalid = _))
    have honly' (k : Nat) : Only hbFields (s.withTwin { s.hbTwin turn.toNat with agreed := k }) (u.withTwin { u.twin with agreed := k }) := by
      rw [hfinds.twin]
      exact ⟨(congrArg (fun x : State => { x with twin := { s.hbTwin turn.toNat with agreed := k } }) honly.1 :), honly.2⟩
    refine ⟨fun hdigest hlast => ⟨_, hrun, ?_⟩, fun hdigest hmore => ⟨_, hrun, ?_⟩, fun hdigest => ⟨_, hrun, ?_⟩⟩
    · exact u.verifyHb_last hjoin' hphase' hturn' hother' (hfinds.digest.trans hdigest) (by rw [hmatch, hagreed]; exact hlast)
    · rw [u.verifyHb_eq hjoin' hphase' hturn', if_pos (hfinds.digest.trans hdigest), if_neg (by rw [hmatch, hagreed]; omega), hagreed]
      exact ⟨rfl, hmode, honly' _⟩
    · rw [u.verifyHb_eq hjoin' hphase' hturn', if_neg (by rw [hfinds.digest, hdigest]; decide)]
      exact ⟨rfl, hmode, honly' 0⟩

end Sys2Proof.Machine


/-! PROOFS.  The Conservator's registers and its injections (R438, R447, R448, R450). -/

namespace Sys2Proof.Machine

theorem Only.trans {w : List Field} {s t u : State} (h : Only w s t) (h' : Only w t u) : Only w s u :=
  ⟨h'.1.trans h.1, fun g hg => (h'.2 g hg).trans (h.2 g hg)⟩

/-! ## CNS_CTRL (R438, R447) -/

/-- A register that clears no bits on a write stores while it is unlocked. -/
theorem State.storeReg_of_unlocked (s : State) {a : Nat} (v : Word32) (hrow : ((Reg.row a).any fun r => r.w1c == 0) = true)
    (hlock : s.flag (lockOf a) = false) : ∃ w, s.storeReg a v = (s.setReg a w).reply Code.ok := by
  obtain ⟨r, hr, hw1c⟩ := (Option.any_eq_true _ _).1 hrow
  refine ⟨r.written false (s.reg a) v, ?_⟩
  rw [State.storeReg, hr, hlock]
  dsimp only
  rw [RegRow.attempt, beq_iff_eq.1 hw1c]
  rfl

section
variable (s : State)

/-- The Conservator's own state replaced. -/
def State.withCns (s : State) (x : CnsSt) : State := { s with cns := x }

/-- The start of a pass noted, with its frame and its run bit. -/
def State.passNoted (s : State) (run : Bool) : State :=
  ((s.withCns { s.cns with passStart := s.count }).setReg Reg.CNS_FRAME 0).setFlag Fld.CNS_STATUS_RUN run

theorem State.passBegin_eq : s.passBegin = s.passNoted s.passRuns := rfl

/-- The fields that a write of CNS_CTRL changes. -/
def cnsCtrlFields : List Field := [wholeReg Reg.CNS_CTRL, wholeReg Reg.CNS_FRAME, Fld.CNS_STATUS_RUN]

theorem State.passNoted_only (run : Bool) :
    Only cnsCtrlFields (s.withCns { s.cns with passStart := s.count }) (s.passNoted run) :=
  ((Only.refl _ _).setReg _ _ (by simp [cnsCtrlFields])).setFlag _ _ rfl (by simp [cnsCtrlFields])

theorem State.cnsRefuse_spec : s.cnsRefuse.done.status = Code.denied ∧ s.cnsRefuse.flag Fld.CNS_STATUS_REFUSED = true ∧
    s.cnsRefuse.sticky 429 = true ∧ OnlyEv [Fld.CNS_STATUS_REFUSED] s s.cnsRefuse :=
  s.raiseBit_reply_spec _ (by decide) rfl rfl rfl

/-- What a refusal leaves alone. -/
theorem OnlyEv.keepsCns {s t : State} {w : List Field} (h : OnlyEv w s t) {a : Nat} (ha : 0x0C000000 ≤ a)
    (hw : ∀ f ∈ w, f.apart (wholeReg a) ∧ f.apart (wholeReg Reg.CNS_CTRL)) :
    (∀ j, t.imemWord j = s.imemWord j) ∧ t.reg a = s.reg a ∧ t.reg Reg.CNS_CTRL = s.reg Reg.CNS_CTRL :=
  ⟨fun j => State.imemWord_congr (congrArg (fun x : State => x.arr) h.1 :) j,
    h.reg_eq (eventSafe_of_above (by simp only [wholeReg]; omega) (by simp only [wholeReg]; omega)) fun f hf => (hw f hf).1,
    h.reg_eq rfl fun f hf => (hw f hf).2⟩

variable {s} {mid : Mid} {value : Word32}

theorem exec_cnsCtrlWrite (hawake : s.awake Reg.CNS_CTRL) :
    exec (.cnsCtrlWrite mid value) s = .next (if cnsWriter mid then s.cnsCtrl value else s.cnsRefuse) := by
  refine congrArg Host.Outcome.next ((State.gate_of_awake hawake _ _ _).trans ?_)
  rw [State.cnsRegWrite, if_pos rfl]
  cases cnsWriter mid with
  | true => rfl
  | false => rfl

theorem exec_cnsInject (hawake : s.awake Reg.CNS_INJ_CHK) :
    exec (.cnsInject mid value) s = .next (if cnsWriter mid then s.inject value else s.cnsRefuse) := by
  refine congrArg Host.Outcome.next ((State.gate_of_awake hawake _ _ _).trans ?_)
  rw [State.cnsRegWrite, if_neg (by decide : Reg.CNS_INJ_CHK ≠ Reg.CNS_CTRL), if_pos rfl]
  cases cnsWriter mid with
  | true => rfl
  | false => rfl

theorem completes_cnsCtrlWrite (hawake : s.awake Reg.CNS_CTRL) (hmid : cnsWriter mid = true) (hlock : s.flag Fld.CNS_CTRL_LOCK = false) :
    Completes (.cnsCtrlWrite mid value) s fun t =>
      t.reg Reg.CNS_CTRL = (s.storeReg Reg.CNS_CTRL value).reg Reg.CNS_CTRL ∧ t.done.status = Code.ok ∧
      ((s.storeReg Reg.CNS_CTRL value).passRuns = true → s.passRuns = false → t.reg Reg.CNS_FRAME = 0 ∧ t.flag Fld.CNS_STATUS_RUN = true ∧
        t.cns = { s.cns with passStart := s.count }) ∧
      ((s.storeReg Reg.CNS_CTRL value).passRuns = false → s.passRuns = true → t.flag Fld.CNS_STATUS_RUN = false ∧ t.cns = s.cns) ∧
      Only cnsCtrlFields { s with cns := t.cns } t := by
  obtain ⟨w, hstore⟩ := s.storeReg_of_unlocked value (a := Reg.CNS_CTRL) (by decide +kernel) hlock
  have hexec := exec_cnsCtrlWrite (mid := mid) (value := value) hawake
  rw [if_pos hmid, State.cnsCtrl, hstore] at hexec
  have honly : Only cnsCtrlFields s ((s.setReg Reg.CNS_CTRL w).reply Code.ok) :=
    ((Only.refl _ s).setReg _ _ (by simp [cnsCtrlFields])).reply _ _
  rw [hstore]
  have hcns : ((s.setReg Reg.CNS_CTRL w).reply Code.ok).cns = s.cns := rfl
  have hdone : ((s.setReg Reg.CNS_CTRL w).reply Code.ok).done.status = Code.ok := rfl
  have hcount : ((s.setReg Reg.CNS_CTRL w).reply Code.ok).count = s.count := rfl
  generalize (s.setReg Reg.CNS_CTRL w).reply Code.ok = u at *
  have honly' (x : CnsSt) : Only cnsCtrlFields (s.withCns x) (u.withCns x) :=
    ⟨(congrArg (fun y : State => { y with cns := x }) honly.1 :), honly.2⟩
  by_cases hsame : u.passRuns = s.passRuns
  · rw [if_pos hsame] at hexec
    refine ⟨u, hexec, rfl, hdone, fun h1 h2 => ?_, fun h1 h2 => ?_, honly' u.cns⟩
    · rw [h1, h2] at hsame
      exact absurd hsame (by decide)
    · rw [h1, h2] at hsame
      exact absurd hsame (by decide)
  · rw [if_neg hsame] at hexec
    cases hruns : u.passRuns with
    | true =>
      rw [hruns, if_pos rfl, State.passBegin_eq, hruns] at hexec
      have htwo := u.passNoted_only true
      refine ⟨_, hexec, ?_, hdone, fun _ _ => ⟨?_, State.flag_setFlag_same _ _ _ rfl rfl, ?_⟩, fun h => absurd h (by decide), ?_⟩
      · rw [State.passNoted, State.setFlag, State.reg_setFld_other _ _ _ _ (by decide), State.reg_setReg_other _ _ (by decide)]
        rfl
      · rw [State.passNoted, State.setFlag, State.reg_setFld_other _ _ _ _ (by decide), State.reg_setReg_same]
      · rw [← hcns, ← hcount]
        rfl
      · exact (honly' _).trans htwo
    | false =>
      rw [hruns, if_neg (by decide)] at hexec
      refine ⟨_, hexec, ?_, hdone, fun h => absurd h (by decide), fun _ _ => ⟨State.flag_setFlag_same _ _ _ rfl rfl, hcns⟩, ?_⟩
      · rw [State.setFlag, State.reg_setFld_other _ _ _ _ (by decide)]
      · exact (honly' u.cns).setFlag _ _ rfl (by simp [cnsCtrlFields])

end

/-! ## Injections (R448) -/

section
variable (s : State) (value : Word32)

/-- The register CNS_INJ_CHK written: nothing else that an injection reads changes. -/
theorem State.injChk_stored : ∃ w, s.storeReg Reg.CNS_INJ_CHK value = (s.setReg Reg.CNS_INJ_CHK w).reply Code.ok :=
  s.storeReg_of_plain value (by decide +kernel)

theorem State.inject_refused {u : State} (hstore : s.storeReg Reg.CNS_INJ_CHK value = u) (hoff : u.flag Fld.CNS_CTRL_INJ_EN = false) :
    s.inject value = (u.setFld Fld.CNS_INJ_STAT_CODE Code.denied.toNat).cnsRefuse := by
  unfold State.inject
  rw [hstore]
  exact if_pos (by simp [hoff])

/-- The instruction memories and the Conservator's own state replaced. -/
def State.withUpset (s : State) (x : ArraySt) (y : CnsSt) : State := { s with arr := x, cns := y }

/-- An injection that is made completes. -/
def State.injectEnds (u : State) (x : ArraySt) (y : CnsSt) : State :=
  ((u.withUpset x y).setFld Fld.CNS_INJ_STAT_CODE 0).reply Code.ok

/-- A location noted as injected. -/
def CnsSt.marked (x : CnsSt) (loc : Nat) : CnsSt := { x with injected := Sparse.put false x.injected loc true }

theorem State.setImem_marked (u : State) (k : Nat) (v : BitVec 72) : u.withUpset (u.setImem k v).arr (u.cns.marked k) =
    { u.setImem k v with cns := { (u.setImem k v).cns with injected := Sparse.put false (u.setImem k v).cns.injected k true } } := rfl

theorem State.setReg_marked (u : State) (a loc : Nat) (v : Word32) : (u.setReg a v).withUpset u.arr (u.cns.marked loc) =
    { u.setReg a v with cns := { (u.setReg a v).cns with injected := Sparse.put false (u.setReg a v).cns.injected loc true } } := rfl

variable {u : State} (hstore : s.storeReg Reg.CNS_INJ_CHK value = u) (hon : u.flag Fld.CNS_CTRL_INJ_EN = true)
  (hn : u.fld Fld.CNS_INJ_SEL_SORUS < 34) (hmapped : u.mapped (u.fld Fld.CNS_INJ_SEL_SORUS) = true)
include hstore hon hn hmapped

theorem State.inject_instr (hkind : u.fld Fld.CNS_INJ_SEL_KIND = 0) {k : Nat} (hk : k = imemLoc (u.fld Fld.CNS_INJ_SEL_SORUS)
      (u.fld Fld.CNS_INJ_SEL_FROND) (u.fld Fld.CNS_INJ_SEL_INDEX / 1024) (u.fld Fld.CNS_INJ_SEL_INDEX % 1024)) :
    s.inject value = u.injectEnds (u.setImem k (u.imemWord k ^^^ (BitVec.ofNat 8 value.toNat ++
      (u.reg Reg.CNS_INJ_HI ++ u.reg Reg.CNS_INJ_LO : Word64)))).arr (u.cns.marked k) := by
  subst hk
  unfold State.inject
  rw [hstore, State.injectEnds, u.setImem_marked]
  exact (if_neg (by simp [hon, hn, hmapped, hkind])).trans (if_pos hkind)

theorem State.inject_config (hkind : u.fld Fld.CNS_INJ_SEL_KIND = 1) (hi : u.fld Fld.CNS_INJ_SEL_INDEX ≤ 0x107F) {a : Nat}
    (ha : a = 0x0C001000 + u.fld Fld.CNS_INJ_SEL_SORUS * 0x100000 + 4 * u.fld Fld.CNS_INJ_SEL_INDEX) :
    s.inject value = (u.setReg a (u.reg a ^^^ u.reg Reg.CNS_INJ_LO)).injectEnds u.arr
      (u.cns.marked (cfgLoc (u.fld Fld.CNS_INJ_SEL_SORUS) (u.fld Fld.CNS_INJ_SEL_INDEX))) := by
  subst ha
  unfold State.inject
  rw [hstore, State.injectEnds, u.setReg_marked]
  exact (if_neg (by simp [hon, hn, hmapped, hkind]; omega)).trans (if_neg fun h => absurd (hkind.symm.trans h) (by decide))

end

/-! ## The obligation -/

section
variable {s : State} {mid : Mid} {value : Word32} {a : Nat} (ha : 0x0C000000 ≤ a)

/-- A refused access of the Conservator's registers. -/
def CnsRefused (s : State) (a : Nat) (t : State) : Prop :=
  t.done.status = Code.denied ∧ t.flag Fld.CNS_STATUS_REFUSED = true ∧ t.sticky 429 = true ∧
  (∀ j, t.imemWord j = s.imemWord j) ∧ t.reg a = s.reg a ∧ t.reg Reg.CNS_CTRL = s.reg Reg.CNS_CTRL

include ha in
theorem State.cnsRefuse_refused {u : State} {w : List Field} (hu : OnlyEv w s u)
    (hw : ∀ f ∈ w, f.addr ≠ Reg.CNS_CTRL ∧ f.addr < 0x0C000000) : CnsRefused s a u.cnsRefuse := by
  obtain ⟨hdone, hflag, hsticky, honly⟩ := u.cnsRefuse_spec
  have hall : OnlyEv (Fld.CNS_STATUS_REFUSED :: w) s u.cnsRefuse :=
    (hu.mono fun f hf => List.mem_cons_of_mem _ hf).trans (honly.mono (by simp))
  refine ⟨hdone, hflag, hsticky, hall.keepsCns ha fun f hf => ?_⟩
  rcases List.mem_cons.1 hf with rfl | hf
  · exact ⟨Or.inl (by change Reg.CNS_STATUS ≠ a; simp only [Reg.CNS_STATUS]; omega), Or.inl (by decide)⟩
  · obtain ⟨hctrl, hlow⟩ := hw f hf
    exact ⟨Or.inl (by change f.addr ≠ a; omega), Or.inl hctrl⟩

include ha in
theorem completes_cnsInject_refused (hawake : s.awake Reg.CNS_INJ_CHK)
    (h : cnsWriter mid = false ∨ s.flag Fld.CNS_CTRL_INJ_EN = false) : Completes (.cnsInject mid value) s (CnsRefused s a) := by
  have hexec := exec_cnsInject (mid := mid) (value := value) hawake
  cases hmid : cnsWriter mid with
  | false =>
    rw [hmid, if_neg (by decide)] at hexec
    exact ⟨_, hexec, State.cnsRefuse_refused ha (OnlyEv.refl [] s) (by simp)⟩
  | true =>
    obtain ⟨w, hstore⟩ := s.injChk_stored value
    have hoff : ((s.setReg Reg.CNS_INJ_CHK w).reply Code.ok).flag Fld.CNS_CTRL_INJ_EN = false := by
      rw [State.flag_reply, State.flag_setReg_other _ _ (by decide)]
      exact h.resolve_left (by simp [hmid])
    rw [hmid, if_pos rfl, s.inject_refused value hstore hoff] at hexec
    refine ⟨_, hexec, State.cnsRefuse_refused ha (w := [wholeReg Reg.CNS_INJ_CHK, Fld.CNS_INJ_STAT_CODE])
      ((((OnlyEv.refl _ s).setReg _ _ (by simp)).reply _ _).setFld _ _ rfl (by simp)) fun f hf => ?_⟩
    revert f
    decide

/-- What an injection reads is not changed by the write of CNS_INJ_CHK. -/
structure InjReads (s u : State) : Prop where
  reg : ∀ b, b ≠ Reg.CNS_INJ_CHK → u.reg b = s.reg b
  arr : u.arr = s.arr
  cns : u.cns = s.cns
  only : Only [wholeReg Reg.CNS_INJ_CHK] s u

theorem InjReads.fld {u : State} (h : InjReads s u) {f : Field} (hf : f.addr ≠ Reg.CNS_INJ_CHK) : u.fld f = s.fld f := by
  rw [State.fld, h.reg _ hf, State.fld]

theorem InjReads.flag {u : State} (h : InjReads s u) {f : Field} (hf : f.addr ≠ Reg.CNS_INJ_CHK) : u.flag f = s.flag f := by
  rw [State.flag, h.fld hf, State.flag]

theorem injReads_stored (w : Word32) : InjReads s ((s.setReg Reg.CNS_INJ_CHK w).reply Code.ok) := by
  refine ⟨fun b hb => ?_, rfl, rfl, ((Only.refl _ s).setReg _ _ List.mem_cons_self).reply _ _⟩
  rw [State.reg_reply, State.reg_setReg_other _ _ hb]

theorem Only.withUpset {u : State} {w : List Field} (h : Only w s u) (x : ArraySt) (y : CnsSt) :
    Only w (s.withUpset x y) (u.withUpset x y) :=
  ⟨(congrArg (fun v : State => v.withUpset x y) h.1 :), h.2⟩

theorem Only.injectEnds {u : State} {w : List Field} (h : Only w s u) (hw : Fld.CNS_INJ_STAT_CODE ∈ w) (x : ArraySt) (y : CnsSt) :
    Only w (s.withUpset x y) (u.injectEnds x y) := ((h.withUpset x y).setFld _ _ rfl hw).reply _ _

theorem State.injectEnds_code (u : State) (x : ArraySt) (y : CnsSt) : (u.injectEnds x y).fld Fld.CNS_INJ_STAT_CODE = 0 :=
  (State.fld_setFld_same _ _ _ rfl).trans (Nat.zero_mod _)

theorem InjReads.only_mono {u : State} (h : InjReads s u) {w : List Field} (hw : wholeReg Reg.CNS_INJ_CHK ∈ w) : Only w s u :=
  ⟨h.only.1, fun g hg => h.only.2 g fun f hf => hg f (by rw [List.mem_singleton.1 hf]; exact hw)⟩

theorem exec_cnsInject_written (hawake : s.awake Reg.CNS_INJ_CHK) (hmid : cnsWriter mid = true) :
    ∃ u, InjReads s u ∧ s.storeReg Reg.CNS_INJ_CHK value = u ∧ exec (.cnsInject mid value) s = .next (s.inject value) := by
  obtain ⟨w, hstore⟩ := s.injChk_stored value
  exact ⟨(s.setReg Reg.CNS_INJ_CHK w).reply Code.ok, injReads_stored w, hstore, (exec_cnsInject hawake).trans (by rw [if_pos hmid])⟩

section
variable (hawake : s.awake Reg.CNS_INJ_CHK) (hmid : cnsWriter mid = true) (hon : s.flag Fld.CNS_CTRL_INJ_EN = true)
  (hn : s.fld Fld.CNS_INJ_SEL_SORUS < 34) (hmapped : s.mapped (s.fld Fld.CNS_INJ_SEL_SORUS) = true)
include hawake hmid hon hn hmapped

theorem completes_cnsInject_instr (hkind : s.fld Fld.CNS_INJ_SEL_KIND = 0) {k : Nat} (hk : k = imemLoc (s.fld Fld.CNS_INJ_SEL_SORUS)
      (s.fld Fld.CNS_INJ_SEL_FROND) (s.fld Fld.CNS_INJ_SEL_INDEX / 1024) (s.fld Fld.CNS_INJ_SEL_INDEX % 1024)) :
    Completes (.cnsInject mid value) s fun t =>
      t.imemWord k = s.imemWord k ^^^ ((value.setWidth 8 : BitVec 8) ++ (s.reg Reg.CNS_INJ_HI ++ s.reg Reg.CNS_INJ_LO : Word64)) ∧
      (∀ j, j ≠ k → t.imemWord j = s.imemWord j) ∧ Sparse.get false t.cns.injected k = true ∧ t.fld Fld.CNS_INJ_STAT_CODE = 0 ∧
      t.done.status = Code.ok ∧ Only [wholeReg Reg.CNS_INJ_CHK, Fld.CNS_INJ_STAT_CODE] { s with arr := t.arr, cns := t.cns } t := by
  obtain ⟨u, hu, hstore, hexec⟩ := exec_cnsInject_written (value := value) hawake hmid
  have hsel {f : Field} (hf : f.addr = Reg.CNS_INJ_SEL) : u.fld f = s.fld f := hu.fld (by rw [hf]; decide)
  have himem (j : Nat) : u.imemWord j = s.imemWord j := State.imemWord_congr hu.arr j
  have hmapped' : u.mapped (u.fld Fld.CNS_INJ_SEL_SORUS) = true := by
    rw [hsel rfl]
    exact (hu.flag (by change Reg.ARR_STATUS _ ≠ _; simp only [Reg.ARR_STATUS, Reg.CNS_INJ_CHK]; omega)).trans hmapped
  rw [s.inject_instr value hstore ((hu.flag (by decide)).trans hon) (by rwa [hsel rfl]) hmapped' ((hsel rfl).trans hkind) (k := k)
    (by rw [hsel rfl, hsel rfl, hsel rfl, hk]), himem, hu.reg _ (by decide), hu.reg _ (by decide)] at hexec
  refine ⟨_, hexec, ?_, fun j hj => ?_, Sparse.get_put_same false u.cns.injected k true, State.injectEnds_code _ _ _, rfl,
    (hu.only_mono (by simp)).injectEnds (by simp) _ _⟩
  · exact (State.imemWord_congr rfl k).trans (State.imemWord_setImem_same u k _)
  · exact (State.imemWord_congr rfl j).trans ((State.imemWord_setImem_other u _ hj).trans (himem j))

theorem completes_cnsInject_config (hkind : s.fld Fld.CNS_INJ_SEL_KIND = 1) (hi : s.fld Fld.CNS_INJ_SEL_INDEX ≤ 0x107F)
    (ha : a = 0x0C001000 + s.fld Fld.CNS_INJ_SEL_SORUS * 0x100000 + 4 * s.fld Fld.CNS_INJ_SEL_INDEX) :
    Completes (.cnsInject mid value) s fun t =>
      t.reg a = s.reg a ^^^ s.reg Reg.CNS_INJ_LO ∧ t.fld Fld.CNS_INJ_STAT_CODE = 0 ∧ t.done.status = Code.ok ∧
      (∀ j, t.imemWord j = s.imemWord j) ∧
      Only [wholeReg Reg.CNS_INJ_CHK, Fld.CNS_INJ_STAT_CODE, wholeReg a] { s with cns := t.cns } t := by
  obtain ⟨u, hu, hstore, hexec⟩ := exec_cnsInject_written (value := value) hawake hmid
  have hsel {f : Field} (hf : f.addr = Reg.CNS_INJ_SEL) : u.fld f = s.fld f := hu.fld (by rw [hf]; decide)
  have hmapped' : u.mapped (u.fld Fld.CNS_INJ_SEL_SORUS) = true := by
    rw [hsel rfl]
    exact (hu.flag (by change Reg.ARR_STATUS _ ≠ _; simp only [Reg.ARR_STATUS, Reg.CNS_INJ_CHK]; omega)).trans hmapped
  rw [s.inject_config value hstore ((hu.flag (by decide)).trans hon) (by rwa [hsel rfl]) hmapped' ((hsel rfl).trans hkind)
    (by rwa [hsel rfl]) (a := a) (by rw [hsel rfl, hsel rfl, ha]), hu.reg a (by simp only [Reg.CNS_INJ_CHK]; omega),
    hu.reg _ (by decide)] at hexec
  refine ⟨_, hexec, ?_, State.injectEnds_code _ _ _, rfl, fun j => State.imemWord_congr hu.arr j, ?_⟩
  · rw [State.injectEnds, State.reg_reply, State.reg_setFld_other _ _ _ _ (by simp only [Reg.CNS_INJ_STAT]; omega)]
    exact State.reg_setReg_same u a _
  · rw [hu.arr]
    exact ((hu.only_mono (by simp)).setReg a _ (by simp)).injectEnds (by simp) s.arr _

end

end

/-- Settles O42: each write is its effect or a refusal, and CNS_REC3 gives the oldest record away. -/
theorem conservatorRegisters : Obligations.ConservatorRegisters := by
  unfold Obligations.ConservatorRegisters
  intro mid value s
  have ha : 0x0C000000 ≤ 0x0C001000 + s.fld Fld.CNS_INJ_SEL_SORUS * 0x100000 + 4 * s.fld Fld.CNS_INJ_SEL_INDEX := by omega
  refine ⟨fun hawake hmid hlock => completes_cnsCtrlWrite hawake hmid hlock, fun hawake hmid => ?_,
    fun hawake h => completes_cnsInject_refused ha hawake h, fun hawake hmid hon hn hmapped => ⟨fun hkind => ?_, fun hkind hi => ?_⟩,
    fun hawake => ?_⟩
  · exact ⟨_, (exec_cnsCtrlWrite hawake).trans (by rw [hmid, if_neg (by decide)]),
      State.cnsRefuse_refused ha (OnlyEv.refl [] s) (by simp)⟩
  · exact completes_cnsInject_instr hawake hmid hon hn hmapped hkind rfl
  · exact completes_cnsInject_config hawake hmid hon hn hmapped hkind hi rfl
  · refine .of_eq (u := s.cnsRegRead Reg.CNS_REC3) (congrArg Host.Outcome.next (State.gate_of_awake hawake _ _ _)) ?_ rfl
    rw [State.cnsRegRead, if_neg (by decide), if_neg (by decide), if_neg (by decide), if_pos rfl]
    rfl

end Sys2Proof.Machine


/-! PROOFS.  The commands of the security unit and their completions (R418, R420, R423 to R428). -/

namespace Sys2Proof.Machine

/-! ## Registers set to bytes -/

/-- Word `j` of a list of bytes. -/
def regWord (l : List Byte) (j : Nat) : Word32 := BitVec.ofNat 32 (natOfBytes ((l.drop (4 * j)).take 4))

section
variable (s : State) {l : List Byte} {n : Nat} (hl : l.length = 4 * n)
include hl

theorem State.setRegBytes_eq (a : Nat) :
    s.setRegBytes a l = (List.range n).foldl (fun s j => s.setReg (a + 4 * j) (regWord l j)) s := by
  have hn : (l.length + 3) / 4 = n := by omega
  rw [State.setRegBytes, hn]
  rfl

theorem State.reg_setRegBytes (a : Nat) {j : Nat} (hj : j < n) : (s.setRegBytes a l).reg (a + 4 * j) = regWord l j := by
  rw [s.setRegBytes_eq hl]
  exact State.reg_foldl_words s a (regWord l) hj

theorem State.reg_setRegBytes_other {a b : Nat} (h : b < a ∨ a + 4 * n ≤ b) : (s.setRegBytes a l).reg b = s.reg b := by
  rw [s.setRegBytes_eq hl]
  refine State.reg_foldl_setReg (fun j => a + 4 * j) (regWord l) _ s fun j hj => ?_
  have := List.mem_range.1 hj
  omega

theorem State.setRegBytes_sec (a : Nat) : (s.setRegBytes a l).sec = s.sec := by
  rw [s.setRegBytes_eq hl]
  exact List.foldlRecOn (motive := fun u : State => u.sec = s.sec) (List.range n) _ rfl fun u hu j _ => hu

theorem Only.setRegBytes {w : List Field} {t : State} (h : Only w s t) {a : Nat} (hm : ∀ j < n, wholeReg (a + 4 * j) ∈ w) :
    Only w s (t.setRegBytes a l) := by
  rw [t.setRegBytes_eq hl]
  exact List.foldlRecOn (motive := fun u : State => Only w s u) (List.range n) _ h fun u hu j hj =>
    hu.setReg _ _ (hm j (List.mem_range.1 hj))

end

section
variable (s : State) (m : Nat) (x : List Byte)

/-- The digest with which a measurement register is extended. -/
def State.mrDigest (s : State) (m : Nat) (x : List Byte) : List Byte := digest64 (s.regBytes (Reg.SEC_MR m 0) 16 ++ x)

theorem State.extendMr_eq : s.extendMr m x = s.setRegBytes (Reg.SEC_MR m 0) (s.mrDigest m x) := rfl

theorem SEC_MR_word (j : Nat) : Reg.SEC_MR m j = Reg.SEC_MR m 0 + 4 * j := by
  simp only [Reg.SEC_MR]
  omega

theorem State.reg_extendMr {j : Nat} (hj : j < 16) : (s.extendMr m x).reg (Reg.SEC_MR m j) = regWord (s.mrDigest m x) j := by
  rw [SEC_MR_word m j, s.extendMr_eq]
  exact s.reg_setRegBytes (length_digest64 _) _ hj

theorem State.extendMr_only : Only (mrFields m) s (s.extendMr m x) := by
  rw [s.extendMr_eq]
  exact Only.setRegBytes s (length_digest64 _) (n := 16) (.refl _ s) fun j hj => wholeReg_SEC_MR_mem hj

theorem State.extendMr_sec : (s.extendMr m x).sec = s.sec := by
  rw [s.extendMr_eq]
  exact s.setRegBytes_sec (n := 16) (length_digest64 _) _

end

/-! ## SEC_CMD (R418, R420, R426, R427) -/

/-- The commands of the security unit, with their codes. -/
inductive SecCode (mid : Mid) : Instr → Nat → Prop
  | verify : SecCode mid (.secVerify mid) 1
  | attest : SecCode mid (.secAttest mid) 2
  | extend : SecCode mid (.secExtend mid) 3
  | revoke : SecCode mid (.secRevoke mid) 4
  | advance : SecCode mid (.secAdvance mid) 5
  | keyprog : SecCode mid (.secKeyprog mid) 6

theorem SecCode.of_mem {mid : Mid} {c : Instr} {code : Nat} (h : (c, code) ∈ [(Instr.secVerify mid, 1), (.secAttest mid, 2),
    (.secExtend mid, 3), (.secRevoke mid, 4), (.secAdvance mid, 5), (.secKeyprog mid, 6)]) : SecCode mid c code := by
  simp only [List.mem_cons, List.not_mem_nil, or_false, Prod.mk.injEq] at h
  obtain ⟨rfl, rfl⟩ | ⟨rfl, rfl⟩ | ⟨rfl, rfl⟩ | ⟨rfl, rfl⟩ | ⟨rfl, rfl⟩ | ⟨rfl, rfl⟩ := h
  · exact .verify
  · exact .attest
  · exact .extend
  · exact .revoke
  · exact .advance
  · exact .keyprog

section
variable {s : State} {mid : Mid} {c : Instr} {code : Nat}

theorem SecCode.bounds (h : SecCode mid c code) : code ≠ 0 ∧ code < 16 := by cases h <;> decide

theorem SecCode.exec_eq (h : SecCode mid c code) : exec c s = .next (s.secCmd mid code) := by cases h <;> rfl

theorem SecCode.exec_of_awake (h : SecCode mid c code) (hawake : s.awake Reg.SEC_CMD) :
    exec c s = .next (if s.secBad mid code then s.secRefuse
      else if code = 3 then
        ((s.extendMr (6 + s.fld Fld.SEC_CMD_ARG_MR) (s.regBytes (Reg.SEC_EXT 0) 16)).setFld Fld.SEC_CMD_STAT_CODE 0).reply Code.ok
      else s.secBegin code) := by
  obtain ⟨hpos, hlt⟩ := h.bounds
  have hcode : (BitVec.ofNat 32 code).toNat % 16 = code := by
    rw [BitVec.toNat_ofNat]
    omega
  rw [h.exec_eq, State.secCmd, State.gate_of_awake hawake, State.secRegWrite, if_pos rfl, hcode, State.secCommand, if_neg hpos]

variable (s)

theorem State.secRefuse_spec : s.secRefuse.done.status = Code.denied ∧ s.secRefuse.fld Fld.SEC_CMD_STAT_CODE = Code.denied.toNat ∧
    s.secRefuse.flag Fld.SEC_STATUS_CMD_REFUSED = true ∧ s.secRefuse.sticky 418 = true ∧
    OnlyEv [Fld.SEC_CMD_STAT_CODE, Fld.SEC_STATUS_CMD_REFUSED] s s.secRefuse := by
  obtain ⟨hstatus, hflag, hsticky, honly⟩ := (s.setFld Fld.SEC_CMD_STAT_CODE Code.denied.toNat).raiseBit_reply_spec
    (f := Fld.SEC_STATUS_CMD_REFUSED) (n := 418) Code.denied (by decide) rfl rfl rfl
  refine ⟨hstatus, ?_, hflag, hsticky, ((OnlyEv.refl _ s).setFld _ _ rfl List.mem_cons_self).trans (honly.mono (by simp))⟩
  rw [State.secRefuse, State.fld_reply, State.fld_raiseBit_sep _ (by decide) rfl rfl, State.fld_setFld_same _ _ _ rfl]
  exact Nat.mod_eq_of_lt Code.denied.isLt

/-- The security unit's own state replaced. -/
def State.withSec (s : State) (x : SecSt) : State := { s with sec := x }

/-- The security unit's own state while a command waits. -/
def State.secWaits (s : State) (code : Nat) : SecSt :=
  { s.sec with
    cmd := some (code, s.reg Reg.SEC_CMD_ARG, s.regBytes (Reg.SEC_EXT 0) 16),
    report := if code = 2 then s.reportBody else s.sec.report,
    counter := if code = 2 then s.sec.counter + 1 else s.sec.counter }

theorem State.secBegin_eq (code : Nat) : s.secBegin code =
    ((((s.withSec (s.secWaits code)).setFlag Fld.SEC_CMD_STAT_PENDING true).setFlag Fld.SEC_STATUS_BUSY true).setFld
      Fld.SEC_CMD_STAT_CODE 0).reply Code.ok := rfl

theorem State.secBegin_spec (code : Nat) :
    (s.secBegin code).flag Fld.SEC_CMD_STAT_PENDING = true ∧ (s.secBegin code).flag Fld.SEC_STATUS_BUSY = true ∧
    (s.secBegin code).fld Fld.SEC_CMD_STAT_CODE = 0 ∧ (s.secBegin code).done.status = Code.ok ∧
    (s.secBegin code).sec = s.secWaits code ∧
    Only [Fld.SEC_CMD_STAT_PENDING, Fld.SEC_STATUS_BUSY, Fld.SEC_CMD_STAT_CODE] (s.withSec (s.secWaits code)) (s.secBegin code) := by
  rw [s.secBegin_eq]
  refine ⟨?_, ?_, ?_, rfl, rfl, ((((Only.refl _ _).setFlag _ _ rfl (by simp)).setFlag _ _ rfl (by simp)).setFld _ _ rfl
    (by simp)).reply _ _⟩
  · rw [State.flag_reply, State.flag_setFld_sep _ _ rfl, State.flag_setFlag_sep _ _ rfl, State.flag_setFlag_same _ _ _ rfl rfl]
  · rw [State.flag_reply, State.flag_setFld_sep _ _ rfl, State.flag_setFlag_same _ _ _ rfl rfl]
  · rw [State.fld_reply, State.fld_setFld_same _ _ _ rfl]
    rfl

/-! ## Completions (R424, R426 to R428) -/

/-- A command that has ended with a status. -/
def SecEnded (t : State) (code : Status) : Prop :=
  t.sec.cmd = none ∧ t.flag Fld.SEC_CMD_STAT_PENDING = false ∧ t.flag Fld.SEC_STATUS_BUSY = false ∧
  t.fld Fld.SEC_CMD_STAT_CODE = code.toNat

/-- The fields that the end of a command writes. -/
def secEndFields : List Field := [Fld.SEC_CMD_STAT_PENDING, Fld.SEC_STATUS_BUSY, Fld.SEC_CMD_STAT_CODE]

theorem State.secDone_eq (code : Status) : s.secDone code =
    (((s.withSec { s.sec with cmd := none }).setFlag Fld.SEC_CMD_STAT_PENDING false).setFlag Fld.SEC_STATUS_BUSY false).setFld
      Fld.SEC_CMD_STAT_CODE code.toNat := rfl

theorem State.secDone_ended (code : Status) : SecEnded (s.secDone code) code := by
  refine ⟨rfl, ?_, ?_, ?_⟩
  · rw [s.secDone_eq, State.flag_setFld_sep _ _ rfl, State.flag_setFlag_sep _ _ rfl, State.flag_setFlag_same _ _ _ rfl rfl]
  · rw [s.secDone_eq, State.flag_setFld_sep _ _ rfl, State.flag_setFlag_same _ _ _ rfl rfl]
  · rw [s.secDone_eq, State.fld_setFld_same _ _ _ rfl]
    exact Nat.mod_eq_of_lt code.isLt

theorem State.secDone_only (code : Status) : Only secEndFields (s.withSec { s.sec with cmd := none }) (s.secDone code) :=
  (((Only.refl _ _).setFlag _ _ rfl (by simp [secEndFields])).setFlag _ _ rfl (by simp [secEndFields])).setFld _ _ rfl
    (by simp [secEndFields])

theorem State.secDone_sec (code : Status) : (s.secDone code).sec = { s.sec with cmd := none } := rfl

theorem State.flag_secDone_sep (code : Status) {g : Field} (hpending : Fld.SEC_CMD_STAT_PENDING.sep g = true)
    (hbusy : Fld.SEC_STATUS_BUSY.sep g = true) (hcode : Fld.SEC_CMD_STAT_CODE.sep g = true) : (s.secDone code).flag g = s.flag g := by
  rw [s.secDone_eq, State.flag_setFld_sep _ _ hcode, State.flag_setFlag_sep _ _ hbusy, State.flag_setFlag_sep _ _ hpending]
  rfl

theorem State.fld_secDone_sep (code : Status) {g : Field} (hpending : Fld.SEC_CMD_STAT_PENDING.sep g = true)
    (hbusy : Fld.SEC_STATUS_BUSY.sep g = true) (hcode : Fld.SEC_CMD_STAT_CODE.sep g = true) : (s.secDone code).fld g = s.fld g := by
  rw [s.secDone_eq, State.fld_setFld_sep _ _ hcode, State.fld_setFlag_sep _ _ hbusy, State.fld_setFlag_sep _ _ hpending]
  rfl

theorem State.reg_secDone (code : Status) {a : Nat} (hstatus : a ≠ Reg.SEC_STATUS) (hstat : a ≠ Reg.SEC_CMD_STAT) :
    (s.secDone code).reg a = s.reg a := by
  rw [s.secDone_eq, State.reg_setFld_other _ _ _ _ hstat, State.setFlag, State.reg_setFld_other _ _ _ _ hstatus, State.setFlag,
    State.reg_setFld_other _ _ _ _ hstat]
  rfl

theorem State.secDone_stickyUp (code : Status) : StickyUp s (s.secDone code) := by
  have hsec : StickyUp s (s.withSec { s.sec with cmd := none }) := .of_reg fun _ _ => rfl
  exact ((hsec.setReg (a := Reg.SEC_CMD_STAT) _ (not_stickyAddr_of_above (by decide))).setReg (a := Reg.SEC_STATUS) _
    (not_stickyAddr_of_above (by decide))).setReg (a := Reg.SEC_CMD_STAT) _ (not_stickyAddr_of_above (by decide))

/-! ### VERIFY (R414, R426) -/

theorem State.sigStep_lt (fw : Bool) (msg : List Byte) (version : Nat) (block : List Byte) : s.sigStep fw msg version block < 8 := by
  unfold State.sigStep
  extract_lets slot pk sig skip
  repeat' split
  all_goals decide

/-- What a failed verification shows. -/
theorem State.sigFailed_spec {step : Nat} (hstep : step < 8) :
    (s.sigFailed step).fld Fld.SEC_STATUS_FAIL_STEP = step ∧
    (step = 6 → (s.sigFailed step).flag Fld.SEC_STATUS_ROLLBACK = true ∧ (s.sigFailed step).sticky 417 = true) ∧
    (step ≠ 6 → (s.sigFailed step).flag Fld.SEC_STATUS_SIG_FAIL = true ∧ (s.sigFailed step).sticky 416 = true) ∧
    OnlyEv [wholeReg Reg.SEC_STATUS] s (s.sigFailed step) := by
  have hshown : (s.setFld Fld.SEC_STATUS_FAIL_STEP step).fld Fld.SEC_STATUS_FAIL_STEP = step :=
    (State.fld_setFld_same _ _ _ rfl).trans (Nat.mod_eq_of_lt hstep)
  have hset : OnlyEv [wholeReg Reg.SEC_STATUS] s (s.setFld Fld.SEC_STATUS_FAIL_STEP step) :=
    (OnlyEv.refl _ s).setReg Reg.SEC_STATUS _ List.mem_cons_self
  have hraise (f : Field) (hf : f.addr = Reg.SEC_STATUS) (n : Nat) (hn : n < 512) :
      OnlyEv [wholeReg Reg.SEC_STATUS] s ((s.setFld Fld.SEC_STATUS_FAIL_STEP step).raiseBit f n) :=
    (hset.setReg f.addr _ (by rw [hf]; exact List.mem_cons_self)).raise n hn
  by_cases h : step = 6
  · have heq : s.sigFailed step = (s.setFld Fld.SEC_STATUS_FAIL_STEP step).raiseBit Fld.SEC_STATUS_ROLLBACK 417 := if_pos h
    rw [heq]
    exact ⟨(State.fld_raiseBit_sep _ (by decide) rfl rfl).trans hshown, fun _ => State.raiseBit_spec _ (by decide) rfl rfl rfl,
      fun hne => absurd h hne, hraise _ rfl _ (by decide)⟩
  · have heq : s.sigFailed step = (s.setFld Fld.SEC_STATUS_FAIL_STEP step).raiseBit Fld.SEC_STATUS_SIG_FAIL 416 := if_neg h
    rw [heq]
    exact ⟨(State.fld_raiseBit_sep _ (by decide) rfl rfl).trans hshown, fun he => absurd he h,
      fun _ => State.raiseBit_spec _ (by decide) rfl rfl rfl, hraise _ rfl _ (by decide)⟩

theorem State.sigFailed_sec (step : Nat) : (s.sigFailed step).sec = s.sec := by
  unfold State.sigFailed
  extract_lets s1
  split <;> rw [State.raiseBit_sec] <;> rfl

/-- The step at which the block of an entry fails; 0 where it verifies. -/
def State.entryStep (s : State) (kind : Nat) (bytes : List Byte) : Nat :=
  s.sigStep (entryParts kind bytes).1 (digest64 (entryParts kind bytes).2.1) (entryParts kind bytes).2.2.1 (entryParts kind bytes).2.2.2

/-- The end of a VERIFY whose block fails at a step. -/
def State.verifyEnds (s : State) (step : Nat) : State := (if step = 0 then s else s.sigFailed step).secDone (sigCode step)

/-- TYPE of the flash entry that an argument names. -/
def State.entryKind (s : State) (arg : Word32) : Nat :=
  match s.ldr.entries[arg.toNat % 32]? with
  | some e => e.kind
  | none => 0

theorem exec_verifyDone {arg : Word32} {ext : List Byte} (bytes : List Byte) (hcmd : s.sec.cmd = some (1, arg, ext)) {e : DirEntry}
    (he : s.ldr.entries[arg.toNat % 32]? = some e) :
    exec (.verifyDone bytes) s = .next (s.verifyEnds (s.entryStep e.kind bytes)) := by
  have hkind : s.entryKind arg = e.kind := by rw [State.entryKind, he]
  have hrun : exec (.verifyDone bytes) s = .next (match s.sec.cmd with
      | some (1, arg, _) => s.verifyEnds (s.entryStep (s.entryKind arg) bytes)
      | _ => s) := rfl
  rw [hrun, hcmd, ← hkind]
  rfl

theorem Field.apart_of_whole {f g : Field} (hf : f.fits = true) (h : (wholeReg f.addr).apart g) : f.apart g := by
  have hfits : f.lo + f.width ≤ 32 := of_decide_eq_true hf
  simp only [Field.apart, wholeReg] at h ⊢
  omega

/-- What the security unit's own state, replaced, leaves of a frame. -/
theorem OnlyEv.withSec {w : List Field} {t : State} (h : OnlyEv w s t) (x : SecSt) : OnlyEv w (s.withSec x) (t.withSec x) :=
  ⟨(congrArg (fun u : State => u.withSec x) h.1 :), h.2⟩

/-- A command that ends with a report in SEC_STATUS. -/
theorem OnlyEv.secDone {u : State} (h : OnlyEv [wholeReg Reg.SEC_STATUS] s u) (code : Status) :
    OnlyEv [Fld.SEC_CMD_STAT_PENDING, Fld.SEC_CMD_STAT_CODE, wholeReg Reg.SEC_STATUS] (s.withSec (u.secDone code).sec) (u.secDone code) := by
  have hreport : OnlyEv [Fld.SEC_CMD_STAT_PENDING, Fld.SEC_CMD_STAT_CODE, wholeReg Reg.SEC_STATUS] (s.withSec (u.secDone code).sec)
      (u.withSec (u.secDone code).sec) := (h.withSec s _).mono (by simp)
  refine hreport.trans ⟨(u.secDone_only code).ev.1, fun g hs hg => (u.secDone_only code).ev.2 g hs fun f hf => ?_⟩
  simp only [secEndFields, List.mem_cons, List.not_mem_nil, or_false] at hf
  obtain rfl | rfl | rfl := hf
  · exact hg _ (by simp)
  · exact Field.apart_of_whole rfl (hg _ (by simp))
  · exact hg _ (by simp)

theorem completes_verifyDone {arg : Word32} {ext : List Byte} (bytes : List Byte) (hcmd : s.sec.cmd = some (1, arg, ext)) {e : DirEntry}
    (he : s.ldr.entries[arg.toNat % 32]? = some e) : Completes (.verifyDone bytes) s fun t =>
      (s.entryStep e.kind bytes = 0 → SecEnded t Code.ok ∧ Only secEndFields (s.withSec { s.sec with cmd := none }) t) ∧
      (s.entryStep e.kind bytes ≠ 0 →
        SecEnded t (if s.entryStep e.kind bytes = 6 then Code.rollback else Code.sigFail) ∧
        t.fld Fld.SEC_STATUS_FAIL_STEP = s.entryStep e.kind bytes ∧
        (s.entryStep e.kind bytes = 6 → t.flag Fld.SEC_STATUS_ROLLBACK = true ∧ t.sticky 417 = true) ∧
        (s.entryStep e.kind bytes ≠ 6 → t.flag Fld.SEC_STATUS_SIG_FAIL = true ∧ t.sticky 416 = true) ∧
        OnlyEv [Fld.SEC_CMD_STAT_PENDING, Fld.SEC_CMD_STAT_CODE, wholeReg Reg.SEC_STATUS] { s with sec := t.sec } t) := by
  have hlt : s.entryStep e.kind bytes < 8 := s.sigStep_lt _ _ _ _
  have hexec := exec_verifyDone s bytes hcmd he
  generalize s.entryStep e.kind bytes = step at *
  refine ⟨_, hexec, fun hok => ?_, fun hbad => ?_⟩
  · subst hok
    exact ⟨s.secDone_ended Code.ok, s.secDone_only Code.ok⟩
  · obtain ⟨hstep, hroll, hsig, honly⟩ := s.sigFailed_spec hlt
    have hcode : sigCode step = if step = 6 then Code.rollback else Code.sigFail := if_neg hbad
    have hend : s.verifyEnds step = (s.sigFailed step).secDone (sigCode step) := by rw [State.verifyEnds, if_neg hbad]
    have hup := (s.sigFailed step).secDone_stickyUp (sigCode step)
    rw [hend, ← hcode]
    refine ⟨State.secDone_ended _ _, (State.fld_secDone_sep _ _ rfl rfl rfl).trans hstep, fun h => ⟨?_, hup 417 (by decide) (hroll h).2⟩,
      fun h => ⟨?_, hup 416 (by decide) (hsig h).2⟩, ?_⟩
    · exact (State.flag_secDone_sep _ _ rfl rfl rfl).trans (hroll h).1
    · exact (State.flag_secDone_sep _ _ rfl rfl rfl).trans (hsig h).1
    · exact honly.secDone s _

/-! ### ATTEST (R424, R425) -/

/-- The report that an ATTEST leaves, with its padding. -/
def State.signedReport (s : State) : List Byte :=
  s.sec.report ++ (Config.mldsaSign s.identityXi (ascii "GH9640AR") s.sec.report).take 3309 ++ List.replicate 3312 0

theorem State.length_signedReport (h : s.sec.report.length = 784) : (s.signedReport.take 4096).length = 4 * 1024 := by
  rw [List.length_take, State.signedReport, List.length_append, List.length_append, List.length_replicate, h]
  omega

theorem completes_attestDone {arg : Word32} {ext : List Byte} (hcmd : s.sec.cmd = some (2, arg, ext)) (h : s.sec.report.length = 784) :
    Completes .attestDone s fun t => SecEnded t Code.ok ∧
      (∀ j < 1024, t.reg (Reg.SEC_REPORT j) = regWord (s.signedReport.take 4096) j) ∧ t.sec = { s.sec with cmd := none } := by
  have hlen := s.length_signedReport h
  have hexec : exec .attestDone s = .next ((s.setRegBytes (Reg.SEC_REPORT 0) (s.signedReport.take 4096)).secDone Code.ok) := by
    have hrun : exec .attestDone s = .next (match s.sec.cmd with
      | some (2, _, _) => (s.setRegBytes (Reg.SEC_REPORT 0) (s.signedReport.take 4096)).secDone Code.ok
      | _ => s) := rfl
    rw [hrun, hcmd]
    rfl
  generalize s.signedReport.take 4096 = l at *
  refine ⟨_, hexec, State.secDone_ended _ _, fun j hj => ?_, ?_⟩
  · rw [State.reg_secDone _ _ (by simp only [Reg.SEC_REPORT, Reg.SEC_STATUS]; omega)
      (by simp only [Reg.SEC_REPORT, Reg.SEC_CMD_STAT]; omega)]
    exact (congrArg _ (by simp only [Reg.SEC_REPORT]; omega)).trans (s.reg_setRegBytes hlen (Reg.SEC_REPORT 0) hj)
  · rw [State.secDone_sec, s.setRegBytes_sec hlen]

/-! ### Fuses (R418, R420, R423, R428) -/

/-- The state in which a fuse command ends. -/
def State.fused (s : State) (code : Nat) (arg : Word32) (ext : List Byte) : State :=
  ((((s.burn code arg ext).extendMr 5 (digest64 (bytesOfNat 1 code ++ bytesOf32 arg))).secDone Code.ok).raiseBit Fld.SEC_STATUS_FUSED 419)

theorem exec_fuseBurnDone {code : Nat} {arg : Word32} {ext : List Byte} (hcmd : s.sec.cmd = some (code, arg, ext)) (h : 4 ≤ code) :
    exec .fuseBurnDone s = .next (s.fused code arg ext) := by
  have hrun : exec .fuseBurnDone s = .next (match s.sec.cmd with
    | some (code, arg, ext) => if 4 ≤ code then s.fused code arg ext else s
    | none => s) := rfl
  rw [hrun, hcmd]
  exact congrArg Host.Outcome.next (if_pos h)

variable (code : Nat) (arg : Word32) {ext : List Byte} (hext : ext.length = 64)

/-- The fuses of SEC_SLOTS that a command blows. -/
def burnSlots (code : Nat) (arg : Word32) : Word32 :=
  if code = 4 then BitVec.ofNat 32 (2 ^ (8 + Fld.SEC_CMD_ARG_SLOT.get arg))
  else if code = 6 then BitVec.ofNat 32 (Fld.SEC_CMD_ARG_USE.get arg * 2 ^ (2 * Fld.SEC_CMD_ARG_SLOT.get arg)) else 0

/-- The bits of the thermometer that a command blows. -/
def burnTherm (code : Nat) (arg : Word32) : Word64 :=
  if code = 5 then BitVec.ofNat 64 (2 ^ Fld.SEC_CMD_ARG_N.get arg - 1) else 0

theorem SEC_SLOT_DIG_word (k j : Nat) : Reg.SEC_SLOT_DIG k j = Reg.SEC_SLOT_DIG k 0 + 4 * j := by
  simp only [Reg.SEC_SLOT_DIG]
  omega

/-- What each fuse command burns. -/
structure Burnt (s u : State) (code : Nat) (arg : Word32) (ext : List Byte) : Prop where
  slots : u.reg Reg.SEC_SLOTS = s.reg Reg.SEC_SLOTS ||| burnSlots code arg
  therm : u.sec.therm = s.sec.therm ||| burnTherm code arg
  digest : ∀ k < 4, ∀ j < 16, u.reg (Reg.SEC_SLOT_DIG k j) =
    if code = 6 ∧ k = Fld.SEC_CMD_ARG_SLOT.get arg then regWord ext j else s.reg (Reg.SEC_SLOT_DIG k j)
  mr : u.regBytes (Reg.SEC_MR 5 0) 16 = s.regBytes (Reg.SEC_MR 5 0) 16

theorem regBytes_mr5 {u : State} (h : ∀ a, Reg.SEC_MR 0 0 ≤ a → u.reg a = s.reg a) :
    u.regBytes (Reg.SEC_MR 5 0) 16 = s.regBytes (Reg.SEC_MR 5 0) 16 :=
  State.regBytes_congr fun j _ => h _ (by simp only [Reg.SEC_MR]; omega)

theorem State.burn_revoke : Burnt s (s.burn 4 arg ext) 4 arg ext := by
  refine ⟨State.reg_setReg_same _ _ _, (BitVec.or_zero).symm, fun k hk j hj => ?_, regBytes_mr5 s fun a ha => ?_⟩
  · rw [if_neg (by simp)]
    exact State.reg_setReg_other _ _ (by simp only [Reg.SEC_SLOT_DIG, Reg.SEC_SLOTS]; omega)
  · exact State.reg_setReg_other _ _ (by simp only [Reg.SEC_MR, Reg.SEC_SLOTS] at *; omega)

theorem State.burn_advance : Burnt s (s.burn 5 arg ext) 5 arg ext := by
  have hreg {a : Nat} (ha : a ≠ Reg.SEC_THERM) : (s.burn 5 arg ext).reg a = s.reg a := (State.reg_setFld_other _ _ _ _ ha).trans rfl
  refine ⟨(hreg (by decide)).trans (BitVec.or_zero).symm, rfl, fun k hk j hj => ?_, regBytes_mr5 s fun a ha => ?_⟩
  · rw [if_neg (by simp)]
    exact hreg (by simp only [Reg.SEC_SLOT_DIG, Reg.SEC_THERM]; omega)
  · exact hreg (by simp only [Reg.SEC_MR, Reg.SEC_THERM] at *; omega)

include hext in
theorem State.burn_keyprog : Burnt s (s.burn 6 arg ext) 6 arg ext := by
  have hlen : ext.length = 4 * 16 := hext
  have hslot : Fld.SEC_CMD_ARG_SLOT.get arg < 4 := Nat.mod_lt _ (by decide)
  have hburn : s.burn 6 arg ext = (s.setReg Reg.SEC_SLOTS (s.reg Reg.SEC_SLOTS ||| burnSlots 6 arg)).setRegBytes
      (Reg.SEC_SLOT_DIG (Fld.SEC_CMD_ARG_SLOT.get arg) 0) ext := rfl
  rw [hburn]
  refine ⟨?_, ?_, fun k hk j hj => ?_, regBytes_mr5 s fun a ha => ?_⟩
  · rw [State.reg_setRegBytes_other _ hlen (by simp only [Reg.SEC_SLOT_DIG, Reg.SEC_SLOTS]; omega), State.reg_setReg_same]
  · rw [State.setRegBytes_sec _ hlen]
    exact (BitVec.or_zero).symm
  · by_cases hk' : k = Fld.SEC_CMD_ARG_SLOT.get arg
    · rw [if_pos ⟨rfl, hk'⟩, hk', SEC_SLOT_DIG_word (Fld.SEC_CMD_ARG_SLOT.get arg) j]
      exact State.reg_setRegBytes _ hlen _ hj
    · rw [if_neg fun h => hk' h.2, State.reg_setRegBytes_other _ hlen (by simp only [Reg.SEC_SLOT_DIG]; omega),
        State.reg_setReg_other _ _ (by simp only [Reg.SEC_SLOT_DIG, Reg.SEC_SLOTS]; omega)]
  · rw [State.reg_setRegBytes_other _ hlen (by simp only [Reg.SEC_SLOT_DIG, Reg.SEC_MR] at *; omega),
      State.reg_setReg_other _ _ (by simp only [Reg.SEC_MR, Reg.SEC_SLOTS] at *; omega)]

include hext in
theorem State.burn_spec {code : Nat} (hlow : 4 ≤ code) (hhigh : code ≤ 6) : Burnt s (s.burn code arg ext) code arg ext := by
  obtain rfl | rfl | rfl : code = 4 ∨ code = 5 ∨ code = 6 := by omega
  · exact s.burn_revoke arg
  · exact s.burn_advance arg
  · exact s.burn_keyprog arg hext

/-- Registers that the end of a fuse command leaves as the fuses do. -/
theorem State.reg_fused {a : Nat} (hsafe : eventSafe (wholeReg a) = true) (hstatus : a ≠ Reg.SEC_STATUS) (hstat : a ≠ Reg.SEC_CMD_STAT) :
    (s.fused code arg ext).reg a =
      ((s.burn code arg ext).extendMr 5 (digest64 (bytesOfNat 1 code ++ bytesOf32 arg))).reg a := by
  rw [State.fused, State.reg_raiseBit_other _ (by decide) hsafe hstatus, State.reg_secDone _ _ hstatus hstat]

include hext in
theorem completes_fuseBurnDone {code : Nat} (hcmd : s.sec.cmd = some (code, arg, ext)) (hlow : 4 ≤ code) (hhigh : code ≤ 6) :
    Completes .fuseBurnDone s fun t =>
      SecEnded t Code.ok ∧ t.flag Fld.SEC_STATUS_FUSED = true ∧ t.sticky 419 = true ∧
      (∀ j < 16, t.reg (Reg.SEC_MR 5 j) = regWord (s.mrDigest 5 (digest64 (bytesOfNat 1 code ++ bytesOf32 arg))) j) ∧
      t.reg Reg.SEC_SLOTS = s.reg Reg.SEC_SLOTS ||| burnSlots code arg ∧ t.sec.therm = s.sec.therm ||| burnTherm code arg ∧
      (∀ k < 4, ∀ j < 16, t.reg (Reg.SEC_SLOT_DIG k j) =
        if code = 6 ∧ k = Fld.SEC_CMD_ARG_SLOT.get arg then regWord ext j else s.reg (Reg.SEC_SLOT_DIG k j)) := by
  obtain ⟨hslots, htherm, hdigest, hmr⟩ := s.burn_spec arg hext hlow hhigh
  have hreg {a : Nat} (hsec : 0x2020010 ≤ a) (hhi : a < 0x2021000) := s.reg_fused code arg (ext := ext) (a := a)
    (eventSafe_of_above (by simp only [wholeReg]; omega) (by simp only [wholeReg]; omega)) (by simp only [Reg.SEC_STATUS]; omega)
    (by simp only [Reg.SEC_CMD_STAT]; omega)
  have hmd : (s.burn code arg ext).mrDigest 5 (digest64 (bytesOfNat 1 code ++ bytesOf32 arg)) =
      s.mrDigest 5 (digest64 (bytesOfNat 1 code ++ bytesOf32 arg)) := by rw [State.mrDigest, hmr, State.mrDigest]
  have hsec : (s.fused code arg ext).sec = { (s.burn code arg ext).sec with cmd := none } := by
    rw [State.fused, State.raiseBit_sec, State.secDone_sec, State.extendMr_sec]
  obtain ⟨hcmd0, hpending, hbusy, hcode⟩ := ((s.burn code arg ext).extendMr 5 (digest64 (bytesOfNat 1 code ++
    bytesOf32 arg))).secDone_ended Code.ok
  obtain ⟨hflag, hsticky⟩ := (((s.burn code arg ext).extendMr 5 (digest64 (bytesOfNat 1 code ++ bytesOf32 arg))).secDone
    Code.ok).raiseBit_spec (f := Fld.SEC_STATUS_FUSED) (n := 419) (by decide) rfl rfl rfl
  refine ⟨_, exec_fuseBurnDone s hcmd hlow, ⟨by rw [hsec], ?_, ?_, ?_⟩, hflag, hsticky, fun j hj => ?_, ?_, by rw [hsec, htherm],
    fun k hk j hj => ?_⟩
  · exact (State.flag_raiseBit_sep _ (by decide) rfl rfl).trans hpending
  · exact (State.flag_raiseBit_sep _ (by decide) rfl rfl).trans hbusy
  · exact (State.fld_raiseBit_sep _ (by decide) rfl rfl).trans hcode
  · rw [hreg (by simp only [Reg.SEC_MR]; omega) (by simp only [Reg.SEC_MR]; omega), State.reg_extendMr _ _ _ hj, hmd]
  · rw [hreg (by decide) (by decide), State.reg_extendMr_other _ _ (by decide), hslots]
  · rw [hreg (by simp only [Reg.SEC_SLOT_DIG]; omega) (by simp only [Reg.SEC_SLOT_DIG]; omega),
      State.reg_extendMr_other _ _ (by simp only [Reg.SEC_SLOT_DIG, Reg.SEC_MR]; omega), hdigest k hk j hj]

end

/-- Settles O40: a command is begun, extends a measurement register, or is refused, and each completion ends its command. -/
theorem securityCommands : Obligations.SecurityCommands := by
  unfold Obligations.SecurityCommands
  intro mid arg ext bytes s
  refine ⟨fun hawake c code hmem => ?_, fun hcmd e he => completes_verifyDone s bytes hcmd he, fun hcmd hlen => completes_attestDone s hcmd hlen,
    fun code hcmd hlow hhigh hext => completes_fuseBurnDone s arg hext hcmd hlow hhigh⟩
  have hexec := (SecCode.of_mem hmem).exec_of_awake hawake
  refine ⟨fun hgood hwaits => ?_, fun hgood hextend => ?_, fun hbad => ?_⟩
  · rw [hgood, if_neg (by decide), if_neg hwaits] at hexec
    obtain ⟨hpending, hbusy, hstat, hdone, hsec, honly⟩ := s.secBegin_spec code
    refine ⟨_, hexec, hpending, hbusy, hstat, hdone, by rw [hsec]; rfl, fun h => ?_, fun h => ?_, ?_⟩
    · rw [hsec, State.secWaits, if_pos h, if_pos h]
      exact ⟨rfl, rfl⟩
    · rw [hsec, State.secWaits, if_neg h, if_neg h]
    · rw [hsec]
      exact honly
  · rw [hgood, if_neg (by decide), if_pos hextend] at hexec
    refine ⟨_, hexec, fun j hj => ?_, ?_, rfl, ?_⟩
    · rw [State.reg_reply, State.reg_setFld_other _ _ _ _ (by simp only [Reg.SEC_MR, Reg.SEC_CMD_STAT]; omega)]
      exact s.reg_extendMr _ _ hj
    · rw [State.fld_reply, State.fld_setFld_same _ _ _ rfl, Nat.zero_mod]
    · have honly := s.extendMr_only (6 + s.fld Fld.SEC_CMD_ARG_MR) (s.regBytes (Reg.SEC_EXT 0) 16)
      have hwide : Only (Fld.SEC_CMD_STAT_CODE :: mrFields (6 + s.fld Fld.SEC_CMD_ARG_MR)) s
          (s.extendMr (6 + s.fld Fld.SEC_CMD_ARG_MR) (s.regBytes (Reg.SEC_EXT 0) 16)) :=
        ⟨honly.1, fun g hg => honly.2 g fun f hf => hg f (List.mem_cons_of_mem _ hf)⟩
      exact (hwide.setFld _ _ rfl List.mem_cons_self).reply _ _
  · rw [hbad, if_pos rfl] at hexec
    exact ⟨_, hexec, s.secRefuse_spec⟩

end Sys2Proof.Machine


/-! PROOFS.  Scrubbing of instruction memories and passes over the configuration (R435 to R446). -/

namespace Sys2Proof.Machine

/-! ## What the report of an upset leaves alone (R441 to R444) -/

/-- From `s` to `t` the array's stored words stay, no sticky bit is cleared, and UNC is not taken back. -/
structure UpsetKept (s t : State) : Prop where
  imem : t.arr.imem = s.arr.imem
  sorcfg : t.arr.sorcfg = s.arr.sorcfg
  consumers : t.arr.consumers = s.arr.consumers
  sticky : StickyUp s t
  unc : s.flag Fld.CNS_STATUS_UNC = true → t.flag Fld.CNS_STATUS_UNC = true

section
variable {s t u : State}

theorem UpsetKept.refl (s : State) : UpsetKept s s := ⟨rfl, rfl, rfl, .refl s, id⟩

theorem UpsetKept.trans (h : UpsetKept s t) (h' : UpsetKept t u) : UpsetKept s u :=
  ⟨h'.imem.trans h.imem, h'.sorcfg.trans h.sorcfg, h'.consumers.trans h.consumers, h.sticky.trans h'.sticky, fun hu => h'.unc (h.unc hu)⟩

theorem UpsetKept.ite {c : Prop} [Decidable c] (ht : UpsetKept s t) (hu : UpsetKept s u) : UpsetKept s (if c then t else u) := by
  split
  · exact ht
  · exact hu

/-- A state with the same registers and stored words. -/
theorem UpsetKept.of_regs (hregs : t.regs = s.regs) (himem : t.arr.imem = s.arr.imem) (hsorcfg : t.arr.sorcfg = s.arr.sorcfg)
    (hconsumers : t.arr.consumers = s.arr.consumers) : UpsetKept s t :=
  ⟨himem, hsorcfg, hconsumers, .of_reg fun a _ => State.reg_congr hregs a, fun hu => (State.flag_congr hregs _).trans hu⟩

variable (s)

/-- A register of the Conservator, other than CNS_STATUS, written. -/
theorem UpsetKept.setReg {a : Nat} (v : Word32) (ha : 0x2000000 ≤ a) (hne : a ≠ Reg.CNS_STATUS) : UpsetKept s (s.setReg a v) :=
  ⟨rfl, rfl, rfl, (StickyUp.refl s).setReg v (not_stickyAddr_of_above (by omega)),
    fun hu => (State.flag_setReg_other s v (fun e => hne e.symm)).trans hu⟩

theorem UpsetKept.countReg {a : Nat} (ha : 0x2000000 ≤ a) (hne : a ≠ Reg.CNS_STATUS) : UpsetKept s (s.countReg a) :=
  .ite (.refl s) (.setReg s _ ha hne)

/-- A status bit of the Conservator raised. -/
theorem UpsetKept.raiseBit {f : Field} {n : Nat} (hn : n < 512) (ha : f.addr = Reg.CNS_STATUS)
    (hunc : f.sep Fld.CNS_STATUS_UNC = true ∨ f = Fld.CNS_STATUS_UNC) : UpsetKept s (s.raiseBit f n) := by
  have hsticky : StickyUp s (s.raiseBit f n) :=
    ((StickyUp.refl s).setReg _ (not_stickyAddr_of_above (by rw [ha]; decide))).raise n
  have harr : (s.raiseBit f n).arr = s.arr := State.raiseBit_arr _ _ _
  refine ⟨by rw [harr], by rw [harr], by rw [harr], hsticky, fun hu => ?_⟩
  rcases hunc with hsep | rfl
  · exact (State.flag_raiseBit_sep s hn rfl hsep).trans hu
  · exact State.flag_raiseBit_same s n hn rfl rfl rfl

theorem UpsetKept.ill : UpsetKept s s.ill := .of_regs rfl rfl rfl rfl

theorem UpsetKept.withCns (x : CnsSt) : UpsetKept s (s.withCns x) := .of_regs rfl rfl rfl rfl

theorem UpsetKept.countCorrection (loc sorus : Nat) : UpsetKept s (s.countCorrection loc sorus) := by
  unfold State.countCorrection
  extract_lets lim t c1 s1
  have hrecur : UpsetKept s s1 := .withCns s _
  exact .ite (.refl s) (.ite ((hrecur.trans (.setReg _ (a := Reg.CNS_RECUR_LOC) _ (by decide) (by decide))).trans
    (.raiseBit _ (by decide) rfl (Or.inl rfl))) (.withCns s _))

/-! ### The stages of a report -/

/-- An upset counted by its class. -/
def State.upsetClassed (s : State) (ess : Bool) : State :=
  if ess then (s.countReg Reg.CNS_ESS_CNT).raiseBit Fld.CNS_STATUS_ESS 420
  else (s.countReg Reg.CNS_BEN_CNT).raiseBit Fld.CNS_STATUS_BEN 421

/-- An uncorrectable upset counted besides. -/
def State.upsetUnc (s : State) (unc : Bool) : State :=
  if unc then (s.countReg Reg.CNS_UNC_CNT).raiseBit Fld.CNS_STATUS_UNC 422 else s

theorem State.upsetClassed_kept (ess : Bool) : UpsetKept s (s.upsetClassed ess) :=
  .ite ((UpsetKept.countReg s (by decide) (by decide)).trans (.raiseBit _ (by decide) rfl (Or.inl rfl)))
    ((UpsetKept.countReg s (by decide) (by decide)).trans (.raiseBit _ (by decide) rfl (Or.inl rfl)))

theorem State.upsetClassed_sticky (ess : Bool) : (s.upsetClassed ess).sticky 420 = true ∨ (s.upsetClassed ess).sticky 421 = true := by
  cases ess with
  | true => exact Or.inl (State.raiseBit_spec _ (by decide) rfl rfl rfl).2
  | false => exact Or.inr (State.raiseBit_spec _ (by decide) rfl rfl rfl).2

theorem State.upsetUnc_kept (unc : Bool) : UpsetKept s (s.upsetUnc unc) :=
  .ite ((UpsetKept.countReg s (by decide) (by decide)).trans (.raiseBit _ (by decide) rfl (Or.inr rfl))) (.refl s)

theorem State.upsetUnc_spec : (s.upsetUnc true).flag Fld.CNS_STATUS_UNC = true ∧ (s.upsetUnc true).sticky 422 = true :=
  State.raiseBit_spec _ (by decide) rfl rfl rfl

/-- The rest of a report, from its second stage on. -/
theorem State.upset_rest (x : Upset) :
    UpsetKept ((s.upsetClassed (s.classify x).1).upsetUnc x.unc) (s.upset x) := by
  unfold State.upset
  extract_lets cl fail r s1 s2 s3 c3 s4 c4 s5 s6 seen arr6
  have h3 : UpsetKept s2 s3 := .ite (.raiseBit _ (by decide) rfl (Or.inl rfl)) (.refl _)
  have h4 : UpsetKept s3 s4 := .ite (.raiseBit _ (by decide) rfl (Or.inl rfl)) (.withCns _ _)
  have h5 : UpsetKept s4 s5 := .withCns _ _
  have hcount : UpsetKept s5 (if (x.unc && !x.restored) = true then s5 else s5.countCorrection x.loc x.sorus) :=
    .ite (.refl _) (.countCorrection _ _ _)
  have h6 : UpsetKept s5 s6 := hcount.trans (.ite (.ill _) (.refl _))
  have hlast : UpsetKept s2 s6 := ((h3.trans h4).trans h5).trans h6
  exact .ite (hlast.trans (.of_regs rfl rfl rfl rfl)) hlast

theorem State.upset_words (x : Upset) : UpsetKept s (s.upset x) :=
  ((s.upsetClassed_kept _).trans (State.upsetUnc_kept _ _)).trans (s.upset_rest x)

theorem State.upset_sticky (x : Upset) : (s.upset x).sticky 420 = true ∨ (s.upset x).sticky 421 = true := by
  have hup := ((State.upsetUnc_kept (s.upsetClassed (s.classify x).1) x.unc).trans (s.upset_rest x)).sticky
  exact (s.upsetClassed_sticky (s.classify x).1).imp (hup 420 (by decide)) (hup 421 (by decide))

theorem State.upset_unc {x : Upset} (h : x.unc = true) :
    (s.upset x).flag Fld.CNS_STATUS_UNC = true ∧ (s.upset x).sticky 422 = true := by
  have hrest := s.upset_rest x
  rw [h] at hrest
  obtain ⟨hflag, hsticky⟩ := (s.upsetClassed (s.classify x).1).upsetUnc_spec
  exact ⟨hrest.unc hflag, hrest.sticky 422 (by decide) hsticky⟩

end

end Sys2Proof.Machine


/-! PROOFS.  Scrub ports, golden reads and the comparison pass (R435 to R440, R445, R446). -/

namespace Sys2Proof.Machine

/-! ## Scrub ports (R435 to R437) -/

section
variable (s : State) (n f b w : Nat)

/-- An upset whose location waits from now on. -/
def State.upsetWaits (s : State) (x : Upset) (loc : Nat) (unc : Bool) : State :=
  (s.upset x).withCns { (s.upset x).cns with pend := Sparse.put none (s.upset x).cns.pend loc (some unc) }

theorem State.upsetWaits_waits (x : Upset) (loc : Nat) (unc : Bool) : Sparse.get none (s.upsetWaits x loc unc).cns.pend loc = some unc :=
  Sparse.get_put_same none (s.upset x).cns.pend loc (some unc)

/-- The check of a word found it uncorrectable. -/
def EccKind.fatal : EccKind → Bool
  | .uncorrectable => true
  | _ => false

/-- The bits that a check named. -/
def EccKind.bits : EccKind → List Nat
  | .corrected bit => [bit]
  | _ => []

/-- The upset of an instruction word as its check reports it. -/
def State.wordUpset (s : State) (target n f b w : Nat) (kind : EccKind) : Upset :=
  { target := target, sorus := n, frond := f, bp := b, offset := w, bits := kind.bits, unc := kind.fatal,
    restored := kind.fatal && (s.goldenInstr n f b w).isSome, hbmFail := kind.fatal && !(s.goldenInstr n f b w).isSome,
    loc := imemLoc n f b w }

/-- An error found where none waits is reported, and waits. -/
theorem State.wordError_found {kind : EccKind} (hkind : kind ≠ .clean) (hon : s.cnsOn = true)
    (hfree : Sparse.get none s.cns.pend (imemLoc n f b w) = none) (target : Nat) : s.wordError target n f b w kind =
      s.upsetWaits (s.wordUpset target n f b w kind) (imemLoc n f b w) kind.fatal := by
  have hgo : (!s.cnsOn || (Sparse.get none s.cns.pend (imemLoc n f b w)).isSome) = false := by rw [hon, hfree]; rfl
  cases kind with
  | clean => exact absurd rfl hkind
  | corrected bit => exact if_neg (by rw [hgo]; decide)
  | uncorrectable => exact if_neg (by rw [hgo]; decide)

variable (p : BpId)

/-- A scrub port walked on. -/
def State.walked (t : State) (p : BpId) (w : Nat) : State := t.withCns { t.cns with walk := Sparse.put 0 t.cns.walk (scrubKey p) w }

theorem State.walked_walk (t : State) (p : BpId) (w : Nat) : Sparse.get 0 (t.walked p w).cns.walk (scrubKey p) = w :=
  Sparse.get_put_same 0 t.cns.walk _ _

/-- The scrub port of a BP after a word that is not its last. -/
theorem State.scrubWord_eq (h : Sparse.get 0 s.cns.walk (scrubKey p) < 1023) {t : State}
    (ht : s.wordError 1 p.sorus p.frond p.bp (Sparse.get 0 s.cns.walk (scrubKey p))
      (eccFix (s.imemWord (scrubKey p * 1024 + Sparse.get 0 s.cns.walk (scrubKey p)))).2 = t) :
    s.scrubWord p = t.walked p (Sparse.get 0 s.cns.walk (scrubKey p) + 1) := by
  subst ht
  have hwrap : (Sparse.get 0 s.cns.walk (scrubKey p) + 1 == 1024) = false := beq_eq_false_iff_ne.2 (by omega)
  unfold State.scrubWord
  extract_lets k w s1 wrap c1
  have hw : wrap = false := hwrap
  rw [hw, if_neg (by decide), if_neg (by decide)]
  rfl

/-- A port's word as the walk numbers it. -/
theorem imemLoc_scrub (w : Nat) : imemLoc p.sorus p.frond p.bp w = scrubKey p * 1024 + w := rfl

/-- The word that a scrub port reads next, and what its check finds. -/
def State.scrubAt (s : State) (p : BpId) : Nat := Sparse.get 0 s.cns.walk (scrubKey p)
def State.scrubFound (s : State) (p : BpId) : EccKind := (eccFix (s.imemWord (scrubKey p * 1024 + s.scrubAt p))).2

variable {p} (hruns : s.scrubs p = true) (hfree : s.portTaken p = false) (hwalk : s.scrubAt p < 1023)
include hruns hfree hwalk

theorem exec_scrubRead {t : State} (ht : s.wordError 1 p.sorus p.frond p.bp (s.scrubAt p) (s.scrubFound p) = t) :
    exec (.scrubRead p) s = .next (t.walked p (s.scrubAt p + 1)) := by
  refine congrArg Host.Outcome.next ((if_pos ?_).trans (s.scrubWord_eq p hwalk ht))
  rw [hruns, hfree]
  rfl

theorem completes_scrubRead_clean (hclean : s.scrubFound p = .clean) : Completes (.scrubRead p) s fun t =>
    Sparse.get 0 t.cns.walk (scrubKey p) = s.scrubAt p + 1 ∧
    Sparse.get 0 t.cns.clean (scrubKey p * 1024 + s.scrubAt p) = s.seq.turn ∧
    Sparse.get none t.cns.pend (scrubKey p * 1024 + s.scrubAt p) = Sparse.get none s.cns.pend (scrubKey p * 1024 + s.scrubAt p) ∧
    t = { s with cns := { s.cns with walk := t.cns.walk, clean := t.cns.clean } } := by
  have hexec := exec_scrubRead s hruns hfree hwalk (t := s.cleanCheck (imemLoc p.sorus p.frond p.bp (s.scrubAt p))) (by
    rw [hclean]
    rfl)
  exact ⟨_, hexec, State.walked_walk _ _ _, Sparse.get_put_same 0 s.cns.clean _ _, rfl, rfl⟩

theorem completes_scrubRead_found (hfound : s.scrubFound p ≠ .clean) (hon : s.cnsOn = true)
    (hnone : Sparse.get none s.cns.pend (scrubKey p * 1024 + s.scrubAt p) = none) : Completes (.scrubRead p) s fun t =>
      Sparse.get 0 t.cns.walk (scrubKey p) = s.scrubAt p + 1 ∧ (t.sticky 420 = true ∨ t.sticky 421 = true) ∧
      (∀ j, t.imemWord j = s.imemWord j) ∧
      Sparse.get none t.cns.pend (scrubKey p * 1024 + s.scrubAt p) = some (s.scrubFound p).fatal ∧
      ((s.scrubFound p).fatal = true → t.flag Fld.CNS_STATUS_UNC = true ∧ t.sticky 422 = true) := by
  have hexec := exec_scrubRead s hruns hfree hwalk (s.wordError_found _ _ _ _ hfound hon hnone 1)
  have hunc : (s.wordUpset 1 p.sorus p.frond p.bp (s.scrubAt p) (s.scrubFound p)).unc = (s.scrubFound p).fatal := rfl
  generalize s.wordUpset 1 p.sorus p.frond p.bp (s.scrubAt p) (s.scrubFound p) = x at *
  refine ⟨_, hexec, State.walked_walk _ _ _, s.upset_sticky x, fun j => ?_, ?_, fun hfatal => s.upset_unc (hunc.trans hfatal)⟩
  · exact congrArg (fun l => Sparse.get 0 l j) (s.upset_words x).imem
  · rw [← imemLoc_scrub]
    exact s.upsetWaits_waits x _ _

end

/-! ### Write-backs and golden copies -/

section
variable (s : State) {p : BpId} {word : Fin 1024} (hruns : s.scrubs p = true)
include hruns

/-- A word that a port writes, with nothing waiting for it any longer. -/
def State.portWrites (s : State) (k : Nat) (d : Word64) : State :=
  (s.setImem k (eccJoin d (eccChk d))).withCns { s.cns with pend := Sparse.put none s.cns.pend k none }

theorem completes_scrubWriteback (hwaits : Sparse.get none s.cns.pend (scrubKey p * 1024 + word.val) = some false) :
    Completes (.scrubWriteback p word) s fun t =>
      t = s.portWrites (scrubKey p * 1024 + word.val) (eccFix (s.imemWord (scrubKey p * 1024 + word.val))).1 :=
  .of_eq rfl (if_pos ⟨hwaits, hruns⟩) rfl

/-- The place of a word's golden copy (R440). -/
def goldenWord (base v : Nat) (p : BpId) (word : Fin 1024) : Nat :=
  base + v * 0x810000 + (p.frond.val * 64 + p.bp.val) * 8192 + word.val * 8

variable {base v : Nat} (hwaits : Sparse.get none s.cns.pend (scrubKey p * 1024 + word.val) = some true)
  (hbase : s.regionBase 4 = some base) (hvirt : s.virtOf p.sorus = some v)
include hwaits hbase hvirt

theorem exec_goldenRestore (ecc : EccFind) : exec (.goldenRestore p word ecc) s = .next
    (match s.hbmRead 0x11 (goldenWord base v p word) 8 ecc with
     | (s1, code, bytes) =>
       if code = Code.ok then s1.portWrites (scrubKey p * 1024 + word.val) (BitVec.ofNat 64 (natOfBytes bytes))
       else s1.raiseBit Fld.CNS_STATUS_HBM_FAIL 426) := by
  have hrun : exec (.goldenRestore p word ecc) s = execGoldenRestore p word ecc s := rfl
  rw [hrun, execGoldenRestore]
  dsimp only
  rw [hwaits, hbase, hvirt]
  exact congrArg Host.Outcome.next (if_neg (by rw [hruns]; decide))

end

theorem State.hbmRead_clean (s : State) {mid : Mid} {a n : Nat} (h : (s.hbmConditions mid a n false).2 = none) :
    s.hbmRead mid a n .clean = (s, Code.ok, s.hbmBytes a n) := by
  rw [State.hbmRead, State.hbmConditions_of_none h]
  rfl

theorem State.hbmRead_uncorrectable (s : State) {mid : Mid} {a n : Nat} (h : (s.hbmConditions mid a n false).2 = none) :
    ∃ u, s.hbmRead mid a n .uncorrectable = (u, Code.eccFatal, []) ∧ u.arr = s.arr ∧ u.cns = s.cns := by
  refine ⟨(s.hbmEcc mid a .uncorrectable).1, ?_, ?_, ?_⟩
  · rw [State.hbmRead, State.hbmConditions_of_none h]
    rfl
  · rw [State.hbmEcc]
    refine (State.raiseBit_arr _ _ _).trans ?_
    split
    · exact State.countReg_arr _ _
    · exact State.countReg_arr _ _
  · rw [State.hbmEcc]
    refine (State.raiseBit_cns _ _ _).trans ?_
    split
    · exact State.countReg_cns _ _
    · exact State.countReg_cns _ _

/-- What a port's write of a word leaves. -/
theorem State.portWrites_spec (s : State) (k : Nat) (d : Word64) :
    (s.portWrites k d).imemWord k = eccJoin d (eccChk d) ∧ (∀ j, j ≠ k → (s.portWrites k d).imemWord j = s.imemWord j) ∧
    Sparse.get none (s.portWrites k d).cns.pend k = none := by
  refine ⟨?_, fun j hj => ?_, Sparse.get_put_same none s.cns.pend k none⟩
  · exact (State.imemWord_congr rfl k).trans (State.imemWord_setImem_same s k _)
  · exact (State.imemWord_congr rfl j).trans (State.imemWord_setImem_other s _ hj)

/-! ## The comparison pass (R438, R439) -/

section
variable (s : State)

/-- The pass after the frame that it has judged. -/
def State.frameDone (u : State) (nxt : Nat) : State :=
  if passFrames ≤ nxt then u.passDone else u.setReg Reg.CNS_FRAME (BitVec.ofNat 32 nxt)

theorem State.frameDone_next (u : State) {nxt : Nat} (h : nxt < passFrames) :
    u.frameDone nxt = u.setReg Reg.CNS_FRAME (BitVec.ofNat 32 nxt) := if_neg (Nat.not_le.2 h)

section
variable (hpass : s.passRuns = true) (hrun : s.flag Fld.CNS_STATUS_RUN = true)
include hpass hrun

theorem exec_frameCompare (ecc : EccFind) : exec (.frameCompare ecc) s = .next
    ((match (s.passAt (s.reg Reg.CNS_FRAME).toNat).1 with
      | some (p, loc) => s.compareWord p loc ecc
      | none => s).frameDone (s.passAt (s.reg Reg.CNS_FRAME).toNat).2) :=
  congrArg Host.Outcome.next (if_pos (by rw [hpass, hrun]; rfl))

theorem exec_frameCompare_none {nxt : Nat} (hat : s.passAt (s.reg Reg.CNS_FRAME).toNat = (none, nxt)) (ecc : EccFind) :
    exec (.frameCompare ecc) s = .next (s.frameDone nxt) := by
  rw [exec_frameCompare s hpass hrun, hat]

theorem exec_frameCompare_some {nxt l : Nat} {p : PassWord} (hat : s.passAt (s.reg Reg.CNS_FRAME).toNat = (some (p, l), nxt))
    (ecc : EccFind) : exec (.frameCompare ecc) s = .next ((s.compareWord p l ecc).frameDone nxt) := by
  rw [exec_frameCompare s hpass hrun, hat]

end

/-- A pass that ends starts again. -/
theorem State.passDone_spec : s.passDone.reg Reg.CNS_FRAME = 0 ∧ s.passDone.reg Reg.CNS_PASS = s.reg Reg.CNS_PASS + 1 ∧
    s.passDone.flag Fld.CNS_STATUS_PASS_DONE = true ∧ s.passDone.sticky 428 = true ∧ s.passDone.cns.passStart = s.count := by
  unfold State.passDone
  extract_lets us c1 s1
  generalize BitVec.ofNat 32 us = time
  have hpass : s1.reg Reg.CNS_PASS = s.reg Reg.CNS_PASS := rfl
  have hcount : s1.count = s.count := rfl
  obtain ⟨hflag, hsticky⟩ := ((s1.setReg Reg.CNS_PASS (s1.reg Reg.CNS_PASS + 1)).setReg Reg.CNS_PASS_TIME time).raiseBit_spec
    (f := Fld.CNS_STATUS_PASS_DONE) (n := 428) (by decide) rfl rfl rfl
  have hreg : (((s1.setReg Reg.CNS_PASS (s1.reg Reg.CNS_PASS + 1)).setReg Reg.CNS_PASS_TIME time).raiseBit
      Fld.CNS_STATUS_PASS_DONE 428).reg Reg.CNS_PASS = s.reg Reg.CNS_PASS + 1 := by
    rw [State.reg_raiseBit_other _ (by decide) rfl (by decide), State.reg_setReg_other _ _ (by decide), State.reg_setReg_same, hpass]
  have hclock : (((s1.setReg Reg.CNS_PASS (s1.reg Reg.CNS_PASS + 1)).setReg Reg.CNS_PASS_TIME time).raiseBit
      Fld.CNS_STATUS_PASS_DONE 428).count = s.count := by
    rw [State.count_of_clock (State.raiseBit_clock _ _ _)]
    exact hcount
  generalize ((s1.setReg Reg.CNS_PASS (s1.reg Reg.CNS_PASS + 1)).setReg Reg.CNS_PASS_TIME time).raiseBit Fld.CNS_STATUS_PASS_DONE 428 = u
    at *
  rw [u.passBegin_eq, State.passNoted]
  refine ⟨?_, ?_, ?_, ?_, hclock⟩
  · rw [State.setFlag, State.reg_setFld_other _ _ _ _ (by decide), State.reg_setReg_same]
  · rw [State.setFlag, State.reg_setFld_other _ _ _ _ (by decide), State.reg_setReg_other _ _ (by decide)]
    exact hreg
  · rw [State.flag_setFlag_sep _ _ rfl, State.flag_setReg_other _ _ (by decide)]
    exact hflag
  · exact ((StickyUp.refl (u.withCns { u.cns with passStart := u.count })).setReg (a := Reg.CNS_FRAME) 0
      (not_stickyAddr_of_above (by decide))).setReg (a := Reg.CNS_STATUS) _ (not_stickyAddr_of_above (by decide)) 428 (by decide) hsticky

/-! ### Guarded words compared with their golden copies -/

/-- The bits in which a guarded word differs from a golden copy. -/
def State.passDiff (s : State) (p : PassWord) (g : Word32) : Word32 := ((s.passLive p).1 ^^^ g) &&& (s.passLive p).2

/-- The upset of a guarded word. -/
def State.passUpset (s : State) (p : PassWord) (l : Nat) (g : Word32) : Upset :=
  { target := p.target, sorus := p.sorus, frond := passFrond p, bp := 0, offset := p.index,
    bits := (List.range 32).filter (fun b => bitOf (s.passDiff p g).toNat b), unc := false, restored := false, hbmFail := false, loc := l }

theorem State.compareWord_eq {p : PassWord} {l base : Nat} (hbase : s.regionBase 4 = some base)
    (hmay : (s.hbmConditions 0x11 (base + p.golden) 4 false).2 = none) {g : Word32}
    (hg : g = BitVec.ofNat 32 (natOfBytes (s.hbmBytes (base + p.golden) 4))) : s.compareWord p l .clean =
      if (s.passDiff p g).toNat = 0 then s.cleanCheck l
      else (s.passRewrite p (((s.passLive p).1 &&& ~~~ (s.passLive p).2) ||| (g &&& (s.passLive p).2))).upset (s.passUpset p l g) := by
  subst hg
  rw [State.compareWord, hbase]
  dsimp only
  rw [s.hbmRead_clean hmay]
  rfl

theorem unitLo_append (hi lo : Word32) : unitLo (hi ++ lo) = lo := by
  refine BitVec.eq_of_getLsbD_eq fun i hi' => ?_
  rw [unitLo, BitVec.getLsbD_setWidth, BitVec.getLsbD_append]
  simp [hi']

theorem unitHi_append (hi lo : Word32) : unitHi (hi ++ lo) = hi := by
  refine BitVec.eq_of_getLsbD_eq fun i hi' => ?_
  rw [unitHi, BitVec.getLsbD_setWidth, BitVec.getLsbD_ushiftRight, BitVec.getLsbD_append]
  simp [hi']

theorem State.sorcfgWrite_sorcfg (n u : Nat) (w : Word64) : (s.sorcfgWrite n u w false).arr.sorcfg =
    Sparse.put 0 (Sparse.put 0 s.arr.sorcfg (n * 80 + 2 * u) (unitLo w)) (n * 80 + 2 * u + 1) (unitHi w) := by
  unfold State.sorcfgWrite
  extract_lets a1 s1
  have hput : s1.arr.sorcfg =
    Sparse.put 0 (Sparse.put 0 s.arr.sorcfg (n * 80 + 2 * u) (unitLo w)) (n * 80 + 2 * u + 1) (unitHi w) := rfl
  have hratio (l : List Nat) : (l.foldl (fun s j => s.setFld (Fld.ARR_BM_CFG_RATIO n (8 * (u - 1) + j)) (unitByte w j)) s1).arr = s1.arr :=
    List.foldlRecOn (motive := fun t : State => t.arr = s1.arr) l _ rfl fun t ht j _ => (State.setFld_arr _ _ _).trans ht
  clear_value s1
  split
  · rw [if_neg (by decide), State.setFlag_arr, State.setFlag_arr, State.setFlag_arr, hput]
  · split
    · rw [hratio, hput]
    · split
      · exact hput
      · exact hput

/-- A sorus's configuration word written. -/
theorem State.get_sorcfg_rewrite {p : PassWord} (hp : p.target = 6) (v : Word32) :
    Sparse.get 0 (s.passRewrite p v).arr.sorcfg (p.sorus * 80 + p.index) = v := by
  simp only [State.passRewrite, hp]
  rw [State.sorcfgWrite_sorcfg]
  by_cases heven : p.index % 2 = 0
  · have hlo : p.sorus * 80 + p.index = p.sorus * 80 + 2 * (p.index / 2) := by omega
    rw [if_pos heven, hlo, Sparse.get_put_other _ _ _ _ (by omega), Sparse.get_put_same, unitLo_append]
  · have hhi : p.sorus * 80 + p.index = p.sorus * 80 + 2 * (p.index / 2) + 1 := by omega
    rw [if_neg heven, hhi, Sparse.get_put_same, unitHi_append]

/-- A half of a consumer's entry written. -/
theorem State.get_consumers_rewrite {p : PassWord} (hp : p.target = 9) (v : Word32) :
    (if p.index % 2 = 0 then unitLo (Sparse.get 0 (s.passRewrite p v).arr.consumers (p.index / 2))
      else unitHi (Sparse.get 0 (s.passRewrite p v).arr.consumers (p.index / 2))) = v := by
  simp only [State.passRewrite, hp]
  rw [Sparse.get_put_same]
  split
  · exact unitLo_append _ _
  · exact unitHi_append _ _

/-- A guarded word that is written whole: of a sorus's configuration, or of the consumer table. -/
theorem State.passLive_rewrite {p : PassWord} (hp : p.target = 6 ∨ p.target = 9) (v : Word32) {t : State}
    (hsorcfg : t.arr.sorcfg = (s.passRewrite p v).arr.sorcfg) (hconsumers : t.arr.consumers = (s.passRewrite p v).arr.consumers) :
    t.passLive p = (v, BitVec.allOnes 32) := by
  rcases hp with h | h
  · have hlive : t.passLive p = (Sparse.get 0 t.arr.sorcfg (p.sorus * 80 + p.index), BitVec.allOnes 32) := by
      simp only [State.passLive, h]
    rw [hlive, hsorcfg, s.get_sorcfg_rewrite h]
  · have hlive : t.passLive p = (if p.index % 2 = 0 then unitLo (Sparse.get 0 t.arr.consumers (p.index / 2))
        else unitHi (Sparse.get 0 t.arr.consumers (p.index / 2)), BitVec.allOnes 32) := by
      simp only [State.passLive, h]
    rw [hlive, hconsumers, s.get_consumers_rewrite h]

theorem State.passLive_mask {p : PassWord} (hp : p.target = 6 ∨ p.target = 9) : (s.passLive p).2 = BitVec.allOnes 32 := by
  rcases hp with h | h <;> simp [State.passLive, h]

end

end Sys2Proof.Machine


/-! PROOFS.  The Conservator's clauses as the obligation states them (R435 to R446). -/

namespace Sys2Proof.Machine

/-! ## Golden copies (R440) -/

section
variable (s : State) {p : BpId} {word : Fin 1024} (hruns : s.scrubs p = true) {base v : Nat}
  (hwaits : Sparse.get none s.cns.pend (scrubKey p * 1024 + word.val) = some true) (hbase : s.regionBase 4 = some base)
  (hvirt : s.virtOf p.sorus = some v) (hmay : (s.hbmConditions 0x11 (goldenWord base v p word) 8 false).2 = none)
include hruns hwaits hbase hvirt hmay

theorem completes_goldenRestore_clean : Completes (.goldenRestore p word .clean) s fun t =>
    t = s.portWrites (scrubKey p * 1024 + word.val) (BitVec.ofNat 64 (natOfBytes (s.hbmBytes (goldenWord base v p word) 8))) := by
  have hexec := exec_goldenRestore s hruns hwaits hbase hvirt .clean
  rw [s.hbmRead_clean hmay] at hexec
  exact ⟨_, hexec, rfl⟩

theorem completes_goldenRestore_uncorrectable : Completes (.goldenRestore p word .uncorrectable) s fun t =>
    t.flag Fld.CNS_STATUS_HBM_FAIL = true ∧ t.sticky 426 = true ∧ t.arr = s.arr ∧ t.cns = s.cns := by
  obtain ⟨u, hread, harr, hcns⟩ := s.hbmRead_uncorrectable hmay
  have hexec := exec_goldenRestore s hruns hwaits hbase hvirt .uncorrectable
  rw [hread] at hexec
  obtain ⟨hflag, hsticky⟩ := u.raiseBit_spec (f := Fld.CNS_STATUS_HBM_FAIL) (n := 426) (by decide) rfl rfl rfl
  exact ⟨_, hexec, hflag, hsticky, (State.raiseBit_arr _ _ _).trans harr, (State.raiseBit_cns _ _ _).trans hcns⟩

end

/-! ## Frames of the pass (R438, R439) -/

section
variable (s : State) (hpass : s.passRuns = true) (hrun : s.flag Fld.CNS_STATUS_RUN = true)
include hpass hrun

theorem completes_frameCompare_skip {nxt : Nat} (hat : s.passAt (s.reg Reg.CNS_FRAME).toNat = (none, nxt)) (hnxt : nxt < passFrames) :
    Completes (.frameCompare .clean) s fun t =>
      t.reg Reg.CNS_FRAME = BitVec.ofNat 32 nxt ∧ Only [wholeReg Reg.CNS_FRAME] s t :=
  .of_eq (exec_frameCompare_none s hpass hrun hat .clean) (s.frameDone_next hnxt)
    ⟨State.reg_setReg_same _ _ _, (Only.refl _ s).setReg _ _ List.mem_cons_self⟩

theorem completes_frameCompare_last {nxt : Nat} (hat : s.passAt (s.reg Reg.CNS_FRAME).toNat = (none, nxt)) (hnxt : passFrames ≤ nxt) :
    Completes (.frameCompare .clean) s fun t =>
      t.reg Reg.CNS_FRAME = 0 ∧ t.reg Reg.CNS_PASS = s.reg Reg.CNS_PASS + 1 ∧ t.flag Fld.CNS_STATUS_PASS_DONE = true ∧
      t.sticky 428 = true ∧ t.cns.passStart = s.count :=
  .of_eq (exec_frameCompare_none s hpass hrun hat .clean) (if_pos hnxt) s.passDone_spec

variable {nxt l base : Nat} {p : PassWord} (hat : s.passAt (s.reg Reg.CNS_FRAME).toNat = (some (p, l), nxt)) (hnxt : nxt < passFrames)
  (hbase : s.regionBase 4 = some base) (hmay : (s.hbmConditions 0x11 (base + p.golden) 4 false).2 = none) {g : Word32}
  (hg : g = BitVec.ofNat 32 (natOfBytes (s.hbmBytes (base + p.golden) 4)))
include hat hnxt hbase hmay hg

theorem exec_frameCompare_word {t : State} (ht : (if (s.passDiff p g).toNat = 0 then s.cleanCheck l
      else (s.passRewrite p (((s.passLive p).1 &&& ~~~ (s.passLive p).2) ||| (g &&& (s.passLive p).2))).upset (s.passUpset p l g)) = t) :
    exec (.frameCompare .clean) s = .next (t.setReg Reg.CNS_FRAME (BitVec.ofNat 32 nxt)) := by
  rw [exec_frameCompare_some s hpass hrun hat, s.compareWord_eq hbase hmay hg, ht, t.frameDone_next hnxt]

theorem completes_frameCompare_equal (heq : s.passDiff p g = 0) : Completes (.frameCompare .clean) s fun t =>
    t.reg Reg.CNS_FRAME = BitVec.ofNat 32 nxt ∧ Sparse.get 0 t.cns.clean l = s.seq.turn ∧
    Only [wholeReg Reg.CNS_FRAME] { s with cns := t.cns } t := by
  have hzero : (s.passDiff p g).toNat = 0 := by
    rw [heq]
    rfl
  exact ⟨_, exec_frameCompare_word s hpass hrun hat hnxt hbase hmay hg (if_pos hzero), State.reg_setReg_same _ _ _,
    Sparse.get_put_same 0 s.cns.clean l _, (Only.refl _ (s.cleanCheck l)).setReg _ _ List.mem_cons_self⟩

theorem completes_frameCompare_differs (hp : p.target = 6 ∨ p.target = 9) (hne : s.passDiff p g ≠ 0) :
    Completes (.frameCompare .clean) s fun t =>
      t.passLive p = (g, (s.passLive p).2) ∧ (t.sticky 420 = true ∨ t.sticky 421 = true) ∧
      t.reg Reg.CNS_FRAME = BitVec.ofNat 32 nxt := by
  have hnonzero : ¬ (s.passDiff p g).toNat = 0 := fun h => hne (BitVec.eq_of_toNat_eq h)
  have hmask := s.passLive_mask hp
  have hvalue : ((s.passLive p).1 &&& ~~~ (s.passLive p).2) ||| (g &&& (s.passLive p).2) = g := by
    rw [hmask, BitVec.not_allOnes, BitVec.and_zero, BitVec.zero_or, BitVec.and_allOnes]
  have hkept := (s.passRewrite p g).upset_words (s.passUpset p l g)
  have hreport := (s.passRewrite p g).upset_sticky (s.passUpset p l g)
  have hexec := exec_frameCompare_word s hpass hrun hat hnxt hbase hmay hg (if_neg hnonzero)
  rw [hvalue] at hexec
  generalize (s.passRewrite p g).upset (s.passUpset p l g) = u at *
  have hup : StickyUp u (u.setReg Reg.CNS_FRAME (BitVec.ofNat 32 nxt)) :=
    (StickyUp.refl u).setReg _ (not_stickyAddr_of_above (by decide))
  refine ⟨_, hexec, ?_, hreport.imp (hup 420 (by decide)) (hup 421 (by decide)), State.reg_setReg_same _ _ _⟩
  rw [s.passLive_rewrite hp g (t := u.setReg Reg.CNS_FRAME (BitVec.ofNat 32 nxt)) hkept.sorcfg hkept.consumers, hmask]

end

/-! ## Copies that disagree (R445, R446) -/

section
variable (s : State)

theorem completes_passRestart (hrun : s.flag Fld.CNS_STATUS_RUN = true) : Completes .passRestart s fun t =>
    t.reg Reg.CNS_FRAME = 0 ∧ t.cns = { s.cns with passStart := s.count } ∧ t.flag Fld.CNS_STATUS_RESTART = true ∧
    t.sticky 425 = true ∧
    OnlyEv [wholeReg Reg.CNS_FRAME, Fld.CNS_STATUS_RUN, Fld.CNS_STATUS_RESTART] { s with cns := t.cns } t := by
  have hexec : exec .passRestart s = .next ((s.passNoted s.passRuns).raiseBit Fld.CNS_STATUS_RESTART 425) :=
    congrArg Host.Outcome.next ((if_pos hrun).trans (by rw [s.passBegin_eq]))
  have hframe : (s.passNoted s.passRuns).reg Reg.CNS_FRAME = 0 := by
    rw [State.passNoted, State.setFlag, State.reg_setFld_other _ _ _ _ (by decide), State.reg_setReg_same]
  have honly : OnlyEv [wholeReg Reg.CNS_FRAME, Fld.CNS_STATUS_RUN, Fld.CNS_STATUS_RESTART]
      (s.withCns { s.cns with passStart := s.count }) (s.passNoted s.passRuns) :=
    ((OnlyEv.refl _ _).setReg _ _ (by simp)).setFlag _ _ rfl (by simp)
  have hcns : (s.passNoted s.passRuns).cns = { s.cns with passStart := s.count } := rfl
  generalize s.passNoted s.passRuns = u at *
  obtain ⟨hflag, hsticky⟩ := u.raiseBit_spec (f := Fld.CNS_STATUS_RESTART) (n := 425) (by decide) rfl rfl rfl
  have hcns' : (u.raiseBit Fld.CNS_STATUS_RESTART 425).cns = { s.cns with passStart := s.count } :=
    (State.raiseBit_cns _ _ _).trans hcns
  refine ⟨_, hexec, ?_, hcns', hflag, hsticky, ?_⟩
  · rw [State.reg_raiseBit_other _ (by decide) rfl (by decide)]
    exact hframe
  · rw [hcns']
    exact honly.raiseBit _ _ rfl (by simp) (by decide)

theorem completes_selfUpset (hon : s.domOn 77 = true) (hcnt : s.reg Reg.CNS_SELF_CNT ≠ 0xFFFFFFFF) :
    Completes .selfUpset s fun t =>
      t.reg Reg.CNS_SELF_CNT = s.reg Reg.CNS_SELF_CNT + 1 ∧ t.flag Fld.CNS_STATUS_SELF = true ∧ t.sticky 424 = true ∧
      OnlyEv [wholeReg Reg.CNS_SELF_CNT, Fld.CNS_STATUS_SELF] s t := by
  have hcount : s.countReg Reg.CNS_SELF_CNT = s.setReg Reg.CNS_SELF_CNT (s.reg Reg.CNS_SELF_CNT + 1) := if_neg hcnt
  have hexec : exec .selfUpset s = .next ((s.setReg Reg.CNS_SELF_CNT (s.reg Reg.CNS_SELF_CNT + 1)).raiseBit Fld.CNS_STATUS_SELF 424) :=
    congrArg Host.Outcome.next ((if_pos hon).trans (by rw [hcount]))
  have honly : OnlyEv [wholeReg Reg.CNS_SELF_CNT, Fld.CNS_STATUS_SELF] s (s.setReg Reg.CNS_SELF_CNT (s.reg Reg.CNS_SELF_CNT + 1)) :=
    (OnlyEv.refl _ s).setReg _ _ (by simp)
  obtain ⟨hflag, hsticky⟩ := (s.setReg Reg.CNS_SELF_CNT (s.reg Reg.CNS_SELF_CNT + 1)).raiseBit_spec (f := Fld.CNS_STATUS_SELF)
    (n := 424) (by decide) rfl rfl rfl
  refine ⟨_, hexec, ?_, hflag, hsticky, honly.raiseBit _ _ rfl (by simp) (by decide)⟩
  rw [State.reg_raiseBit_other _ (by decide) rfl (by decide), State.reg_setReg_same]

end

/-! ## The clauses one by one -/

/-- What waits after a check, as its finding says. -/
theorem EccKind.fatal_eq (kind : EccKind) : some kind.fatal = if kind = .uncorrectable then some true else some false := by
  cases kind <;> rfl

theorem EccKind.fatal_of {kind : EccKind} (h : kind = .uncorrectable) : kind.fatal = true := congrArg EccKind.fatal h

theorem State.portWrites_eq (s : State) (k : Nat) (d : Word64) : s.portWrites k d =
    { s with arr := { s.arr with imem := (s.portWrites k d).arr.imem }, cns := { s.cns with pend := (s.portWrites k d).cns.pend } } := rfl

theorem State.portWrites_regs (s : State) (k : Nat) (d : Word64) : (s.portWrites k d).regs = s.regs := rfl

/-- Settles O41: a scrub port, a golden read and the pass write the words back that they find wrong, and report each.  Of a guarded word the
sorus configuration and the consumer table stand for the targets that the pass rewrites whole. -/
theorem scrubbingAndPasses : Obligations.ScrubbingAndPasses := by
  intro bp word s key k w loc found waits
  refine ⟨fun hruns hfree hwalk => ⟨completes_scrubRead_clean s hruns hfree hwalk, fun hfound hon hnone => ?_⟩,
    fun hwaits hruns => ?_, fun base v hwaits hbase hvirt hruns => ?_,
    fun hpass hrun => ⟨fun nxt => completes_frameCompare_skip s hpass hrun, fun nxt => completes_frameCompare_last s hpass hrun,
      fun p l nxt base hat hnxt hbase hmay => ?_⟩, completes_passRestart s, completes_selfUpset s⟩
  · obtain ⟨t, hexec, hwalked, hsticky, hwords, hpend, hfatal⟩ := completes_scrubRead_found s hruns hfree hwalk hfound hon hnone
    refine ⟨t, hexec, hwalked, hsticky, hwords, hpend.trans (EccKind.fatal_eq found), fun hunc => hfatal (EccKind.fatal_of hunc)⟩
  · obtain ⟨t, hexec, rfl⟩ := completes_scrubWriteback s hruns hwaits
    obtain ⟨hsame, hother, hnone⟩ := s.portWrites_spec k (eccFix (s.imemWord k)).1
    exact ⟨_, hexec, hsame, hother, hnone, s.portWrites_eq _ _⟩
  · intro a hmay
    refine ⟨?_, completes_goldenRestore_uncorrectable s hruns hwaits hbase hvirt hmay⟩
    obtain ⟨t, hexec, rfl⟩ := completes_goldenRestore_clean s hruns hwaits hbase hvirt hmay
    obtain ⟨hsame, hother, hnone⟩ := s.portWrites_spec k (BitVec.ofNat 64 (natOfBytes (s.hbmBytes a 8)))
    exact ⟨_, hexec, hsame, hother, hnone, s.portWrites_regs _ _⟩
  · exact ⟨completes_frameCompare_equal s hpass hrun hat hnxt hbase hmay rfl,
      completes_frameCompare_differs s hpass hrun hat hnxt hbase hmay rfl⟩

end Sys2Proof.Machine


/-! PROOFS.  The start-up program's entries and the OUT phase (R388 to R392, R403). -/

namespace Sys2Proof.Machine

/-! ## Entries (R390) -/

section
variable {s : State} {e : ProgEntry} (hentry : s.progEntry = some e)
include hentry

theorem State.progStep_done {op : Nat} {done : ProgEntry → Bool} (hop : e.op = op) (hdone : done e = true) (f : State → State) :
    s.progStep op done f = (f s).progNext := by
  rw [State.progStep, hentry]
  exact if_pos ⟨hop, hdone⟩

/-- An entry of the operation that `c` runs, whose condition holds, completes. -/
theorem completes_progStep {c : Instr} {op : Nat} {done : ProgEntry → Bool} {f : State → State}
    (hexec : exec c s = .next (s.progStep op done f)) (hop : e.op = op) (hdone : done e = true) :
    Completes c s fun t => t = (f s).progNext :=
  .of_eq hexec (State.progStep_done hentry hop hdone f) rfl

/-- An entry past its time that goes on (R390). -/
theorem completes_entryTimeout_goOn (htimed : 1 ≤ e.op ∧ e.op ≤ 6) (htmo : e.tmo ≠ 0) (hgo : e.goOn = true) :
    Completes .entryTimeout s fun t =>
      t.ldr.progAt = s.ldr.progAt + 1 ∧ t.ldr.doneOut = (s.ldr.doneOut || e.op == 6) ∧ t.flag Fld.LDR_STATUS_WAIT_TMO = true ∧
      t.sticky 413 = true ∧ OnlyEv [Fld.LDR_STATUS_WAIT_TMO] { s with ldr := t.ldr } t := by
  let u : State := { s with ldr := { s.ldr with doneOut := s.ldr.doneOut || e.op == 6 } }
  have hldr : (u.raiseBit Fld.LDR_STATUS_WAIT_TMO 413).ldr = u.ldr := State.raiseBit_ldr _ _ _
  have hone : OnlyEv [Fld.LDR_STATUS_WAIT_TMO] u (u.raiseBit Fld.LDR_STATUS_WAIT_TMO 413) :=
    (OnlyEv.refl _ u).raiseBit _ _ rfl List.mem_cons_self (by decide)
  have hbit : (u.raiseBit Fld.LDR_STATUS_WAIT_TMO 413).flag Fld.LDR_STATUS_WAIT_TMO = true ∧
      (u.raiseBit Fld.LDR_STATUS_WAIT_TMO 413).sticky 413 = true := State.raiseBit_spec _ (by decide) rfl rfl rfl
  have hexec : exec .entryTimeout s = .next (u.raiseBit Fld.LDR_STATUS_WAIT_TMO 413).progNext := by
    refine congrArg Host.Outcome.next ?_
    rw [hentry]
    exact (if_neg (by omega)).trans (if_pos hgo)
  generalize u.raiseBit Fld.LDR_STATUS_WAIT_TMO 413 = v at *
  refine ⟨_, hexec, congrArg (fun l => l.progAt + 1) hldr, congrArg LoaderSt.doneOut hldr, hbit.1, hbit.2, ?_⟩
  exact hone.withLdr { v.ldr with progAt := v.ldr.progAt + 1 }

/-- A program of a full load runs in PROGRAM and after OUT, where no failure falls back (R394). -/
theorem State.fallbackSlot_of_progEntry (hchange : s.ldr.change = none) : s.fallbackSlot = none := by
  have hruns : s.progRuns = true := by
    by_contra hno
    rw [State.progEntry, if_neg hno] at hentry
    exact absurd hentry (by simp)
  have hphase : 8 ≤ s.ldr.phase := by
    rw [State.progRuns, hchange] at hruns
    simp only [Bool.or_eq_true, beq_iff_eq] at hruns
    omega
  rw [State.fallbackSlot]
  split
  · rfl
  · exact if_neg fun ⟨_, _, _, _, _, _, _, h7⟩ => absurd h7 (by omega)

/-- An entry past its time that does not go on fails the load (R390, R393). -/
theorem completes_entryTimeout_fails (htimed : 1 ≤ e.op ∧ e.op ≤ 6) (htmo : e.tmo ≠ 0) (hgo : e.goOn = false)
    (hchange : s.ldr.change = none) : Completes .entryTimeout s (s.LoadFailed Code.timeout) := by
  have hexec : exec .entryTimeout s = .next (s.loadFails Code.timeout) := by
    refine congrArg Host.Outcome.next ?_
    rw [hentry]
    exact (if_neg (by omega)).trans (if_neg (by rw [hgo]; decide))
  exact .of_eq hexec (State.loadFails_of_no_change hchange _)
    (State.fullFails_failed (State.fallbackSlot_of_progEntry hentry hchange) _)

end

/-! ## What the way to OUT leaves alone (R392) -/

/-- The place of the program, and whether the image drives the pins. -/
def State.outView (s : State) : Nat × Bool := (s.ldr.progAt, s.iob.active)

section
variable (s : State)

theorem State.outView_congr {s t : State} (hldr : t.ldr = s.ldr) (hiob : t.iob = s.iob) : t.outView = s.outView := by
  rw [State.outView, hldr, hiob, State.outView]

theorem State.outView_setFlag (f : Field) (b : Bool) : (s.setFlag f b).outView = s.outView :=
  State.outView_congr (State.setFlag_ldr _ _ _) (State.setFlag_iob _ _ _)

theorem State.outView_raiseBit (f : Field) (n : Nat) : (s.raiseBit f n).outView = s.outView :=
  State.outView_congr (State.raiseBit_ldr _ _ _) (State.raiseBit_iob _ _ _)

theorem State.outView_checkBank (b : Nat) : (s.checkBank b).outView = s.outView := by
  unfold State.checkBank
  extract_lets bad s1
  split
  · exact State.outView_raiseBit _ _ _
  · rfl

theorem State.outView_loaderStore (a : Nat) (v : Word32) : (s.loaderStore a v).outView = s.outView := by
  unfold State.loaderStore
  extract_lets m
  split
  · rfl
  · rfl

theorem State.outView_banksOut : s.banksOut.outView = (s.ldr.progAt, true) := by
  have hstored := foldl_keeps State.outView (fun (t : State) (p : Nat × Word32) => t.loaderStore p.1 p.2) s.ldr.iobHeld s
    fun t p _ => t.outView_loaderStore p.1 p.2
  have hchecked := foldl_keeps State.outView (fun (t : State) (b : Nat) => t.checkBank b) (List.range 8)
    (s.ldr.iobHeld.foldl (fun t p => t.loaderStore p.1 p.2) s) fun t b _ => t.outView_checkBank b
  exact congrArg (fun v : Nat × Bool => (v.1, true)) (hchecked.trans hstored)

theorem State.outView_setOwn (b : Bool) : (s.setOwn b).outView = s.outView := by
  rw [State.setOwn]
  split
  · rfl
  · exact State.outView_raiseBit _ _ _

theorem State.outView_ownOut : s.ownOut.outView = s.outView := by
  have hown : (if s.ownsFromOut then s.setOwn true else s).outView = s.outView := by
    split
    · exact s.outView_setOwn true
    · rfl
  exact hown

theorem State.outView_acqCtrlWrite (v : Word32) : (s.acqCtrlWrite v).outView = s.outView := by
  unfold State.acqCtrlWrite
  extract_lets rise s1 s2
  split
  · exact foldl_keeps State.outView _ _ _ fun _ _ _ => rfl
  · rfl

theorem State.outView_sendFail (cause : Nat) : (s.sendFail cause).outView = s.outView := by
  have hend : s.sendEnd.outView = s.outView := by
    rw [State.sendEnd]
    split
    · rfl
    · rfl
  rw [State.sendFail]
  split
  · exact hend
  · rfl

theorem State.outView_runBits : s.runBits.outView = s.outView := by
  unfold State.runBits
  exact foldl_keeps State.outView _ _ s fun t _ _ => t.outView_setFlag _ _

theorem State.outView_causes {c : State} (hc : Only causeFields (s.setFld Fld.SEQ_STATUS_STATE 1) c) : c.outView = s.outView :=
  State.outView_congr (congrArg (fun x : State => x.ldr) hc.1 :) (congrArg (fun x : State => x.iob) hc.1 :)

theorem State.outView_armed : (s.seqEnter 1).outView = s.outView := by
  obtain ⟨c, hc, heq⟩ := s.seqEnter_causes 1
  have hraise : ¬ ((1 = 2 ∨ 1 = 4 ∨ 1 = 5) ∧ s.seqState ≠ 1) := fun h => absurd h.1 (by decide)
  rw [heq]
  dsimp only
  rw [if_neg hraise, if_neg (by decide), State.outView_sendFail, State.outView_runBits, s.outView_causes hc]

theorem State.outView_withArr (x : ArraySt) : ({ s with arr := x } : State).outView = s.outView := rfl

theorem State.outView_withSeq (x : SeqSt) : ({ s with seq := x } : State).outView = s.outView := rfl

theorem State.outView_safeAll : s.safeAll.outView = s.outView := by
  obtain ⟨x, hx⟩ := s.safeAll_eq
  rw [hx, State.outView_withArr]

theorem State.outView_seqArm : s.seqArm.outView = s.outView := by
  unfold State.seqArm
  extract_lets s1
  rw [State.outView_withSeq, State.outView_safeAll, State.outView_armed]

theorem State.turn_seqArm : s.seqArm.seq.turn = s.seq.turn := by
  unfold State.seqArm
  extract_lets s1
  have hseq : s1.seq = s.seq := by rw [State.safeAll_seq, State.seqEnter_seq _ (by decide)]
  clear_value s1
  exact (congrArg SeqSt.turn hseq :)

/-! ## The end of the OUT phase -/

/-- The load in USER: DONE, CFG_ERR_N released, and its command ended (R392, R393). -/
def State.inUser (u : State) : State :=
  (((({ u with ldr := { u.ldr with doneOut := true }, clock := { u.clock with cfgErr := false } } : State).setPhase 10).setFlag
    Fld.LDR_CMD_STAT_PENDING false).raiseBit Fld.LDR_STATUS_OUT_DONE 409)

/-- The Conservator starts (R433). -/
def State.consStarts (u : State) : State := (u.withCns { u.cns with started := true }).passBegin

/-- The sequencer's way to OUT (R112, R392). -/
def State.outArmed (s : State) : State :=
  let s1 := s.banksOut.ownOut
  let s2 := s1.acqCtrlWrite s1.ldr.acqCtrl
  ({ s2 with seq := { s2.seq with turn := 0, step := 0 } } : State).seqArm

theorem State.outPhase_eq : s.outPhase = s.outArmed.inUser.consStarts := rfl

theorem State.outArmed_spec : s.outArmed.outView = (s.ldr.progAt, true) ∧ s.outArmed.seqState = 1 ∧ s.outArmed.seq.turn = 0 := by
  unfold State.outArmed
  extract_lets s1 s2
  have hview : s2.outView = (s.ldr.progAt, true) :=
    ((s1.outView_acqCtrlWrite s1.ldr.acqCtrl).trans s.banksOut.outView_ownOut).trans s.outView_banksOut
  clear_value s2
  refine ⟨?_, State.seqState_seqArm _, State.turn_seqArm _⟩
  exact (State.outView_seqArm _).trans hview

/-- What OUT leaves in USER. -/
structure State.InUser (u t : State) : Prop where
  phase : t.ldr.phase = 10
  doneOut : t.ldr.doneOut = true
  progAt : t.ldr.progAt = u.ldr.progAt
  cfgErr : t.clock.cfgErr = false
  iob : t.iob = u.iob
  seq : t.seq = u.seq
  state : t.seqState = u.seqState
  outDone : t.flag Fld.LDR_STATUS_OUT_DONE = true
  sticky : t.sticky 409 = true
  pending : t.flag Fld.LDR_CMD_STAT_PENDING = false

theorem State.inUser_spec (u : State) : u.InUser u.inUser := by
  unfold State.inUser
  let v : State := (({ u with ldr := { u.ldr with doneOut := true }, clock := { u.clock with cfgErr := false } } : State).setPhase
    10).setFlag Fld.LDR_CMD_STAT_PENDING false
  have hldr : (v.raiseBit Fld.LDR_STATUS_OUT_DONE 409).ldr = { u.ldr with doneOut := true, phase := 10 } := State.raiseBit_ldr _ _ _
  have hclock : (v.raiseBit Fld.LDR_STATUS_OUT_DONE 409).clock = { u.clock with cfgErr := false } := State.raiseBit_clock _ _ _
  obtain ⟨hflag, hsticky⟩ := v.raiseBit_spec (f := Fld.LDR_STATUS_OUT_DONE) (n := 409) (by decide) rfl rfl rfl
  have hiob : (v.raiseBit Fld.LDR_STATUS_OUT_DONE 409).iob = u.iob := State.raiseBit_iob _ _ _
  have hseq : (v.raiseBit Fld.LDR_STATUS_OUT_DONE 409).seq = u.seq := State.raiseBit_seq _ _ _
  refine ⟨by rw [hldr], by rw [hldr], by rw [hldr], by rw [hclock], hiob, hseq, ?_, hflag, hsticky, ?_⟩
  · rw [State.seqState, State.fld_raiseBit_sep _ (by decide) rfl rfl, State.fld_setFlag_sep _ _ rfl, State.fld_setPhase _ _ (by decide)]
    rfl
  · rw [State.flag_raiseBit_sep _ (by decide) rfl rfl]
    exact State.flag_setFlag_same _ _ _ rfl rfl

theorem State.consStarts_only (u : State) : Only cnsCtrlFields (u.withCns u.consStarts.cns) u.consStarts :=
  (u.withCns { u.cns with started := true }).passNoted_only (u.withCns { u.cns with started := true }).passRuns

theorem State.InUser.consStarts {u v : State} (h : u.InUser v) : u.InUser v.consStarts := by
  have honly := v.consStarts_only
  have hfld (f : Field) (hf : ∀ g ∈ cnsCtrlFields, g.apart f) : v.consStarts.fld f = v.fld f := honly.2 f hf
  have hflag (f : Field) (hf : ∀ g ∈ cnsCtrlFields, g.apart f) : v.consStarts.flag f = v.flag f := by
    rw [State.flag, hfld f hf, State.flag]
  have hsticky : v.consStarts.sticky 409 = v.sticky 409 :=
    State.sticky_of_only honly fun f hf => Or.inl (by
      revert f
      decide)
  have hldr : v.consStarts.ldr = v.ldr := rfl
  have hclock : v.consStarts.clock = v.clock := rfl
  have hiob : v.consStarts.iob = v.iob := rfl
  have hseq : v.consStarts.seq = v.seq := rfl
  generalize v.consStarts = t at *
  obtain ⟨hphase, hdone, hprog, herr, hiob', hseq', hstate, hout, hbit, hpend⟩ := h
  refine ⟨by rw [hldr, hphase], by rw [hldr, hdone], by rw [hldr, hprog], by rw [hclock, herr], hiob.trans hiob', hseq.trans hseq', ?_, ?_,
    hsticky.trans hbit, ?_⟩
  · exact (hfld Fld.SEQ_STATUS_STATE (by simp [cnsCtrlFields, Field.apart, wholeReg])).trans hstate
  · exact (hflag _ (by simp [cnsCtrlFields, Field.apart, wholeReg])).trans hout
  · exact (hflag _ (by simp [cnsCtrlFields, Field.apart, wholeReg])).trans hpend

/-- OUT lets the image drive the outputs and enters USER (R392). -/
theorem State.outPhase_spec : s.outPhase.ldr.phase = 10 ∧ s.outPhase.ldr.doneOut = true ∧ s.outPhase.clock.cfgErr = false ∧
    s.outPhase.iob.active = true ∧ s.outPhase.seqState = 1 ∧ s.outPhase.seq.turn = 0 ∧
    s.outPhase.flag Fld.LDR_STATUS_OUT_DONE = true ∧ s.outPhase.sticky 409 = true ∧
    s.outPhase.flag Fld.LDR_CMD_STAT_PENDING = false ∧ s.outPhase.ldr.progAt = s.ldr.progAt := by
  have huser := s.outArmed.inUser_spec.consStarts
  obtain ⟨hview, hstate, hturn⟩ := s.outArmed_spec
  rw [s.outPhase_eq]
  generalize s.outArmed.inUser.consStarts = t at *
  generalize s.outArmed = u at *
  have hprog : u.ldr.progAt = s.ldr.progAt := congrArg Prod.fst hview
  have hactive : u.iob.active = true := congrArg Prod.snd hview
  exact ⟨huser.phase, huser.doneOut, huser.cfgErr, by rw [huser.iob, hactive], huser.state.trans hstate, by rw [huser.seq, hturn],
    huser.outDone, huser.sticky, huser.pending, huser.progAt.trans hprog⟩

end

end Sys2Proof.Machine


/-! PROOFS.  The boot ROM: the directory, and firmware judged and started (R376, R458 to R460). -/

namespace Sys2Proof.Machine

/-! ## The directory (R376) -/

/-- A flag in the lowest bit of a byte. -/
theorem bitOf_numAt_byte (b : List Byte) (i : Nat) : bitOf (numAt b i 1) 0 = (b.getD i 0).getLsbD 0 := by
  have hbyte : b.getD i 0 = (b.drop i).head?.getD 0 := by rw [List.head?_drop, List.getD_eq_getElem?_getD]
  rw [hbyte, numAt]
  cases b.drop i with
  | nil => rfl
  | cons x r => exact congrArg (fun n => bitOf n 0) (Nat.add_zero x.toNat)

/-- The fields of LDR_XSPI that the directory sets. -/
def xspiFields : List Field :=
  [Fld.LDR_XSPI_XDIV, Fld.LDR_XSPI_DUMMY, Fld.LDR_XSPI_STRIPE, Fld.LDR_XSPI_PORT0, Fld.LDR_XSPI_PORT1, Fld.LDR_XSPI_OCTAL]

section
variable (s : State)

theorem State.xspiSet_spec (b : List Byte) : (s.xspiSet b).flag Fld.LDR_XSPI_STRIPE = bitOf (numAt b 10 1) 0 ∧
    (s.xspiSet b).flag Fld.LDR_XSPI_PORT0 = true ∧ (s.xspiSet b).flag Fld.LDR_XSPI_PORT1 = bitOf (numAt b 10 1) 0 ∧
    Only xspiFields s (s.xspiSet b) := by
  unfold State.xspiSet
  extract_lets code xdiv dummy stripe
  have hdivided : Only xspiFields s (s.setFld Fld.LDR_XSPI_XDIV xdiv) := (Only.refl _ s).setFld _ _ rfl (by simp [xspiFields])
  have htimed := hdivided.setFld Fld.LDR_XSPI_DUMMY (if 8 ≤ dummy ∧ dummy ≤ 30 then dummy else 20) rfl (by simp [xspiFields])
  generalize (s.setFld Fld.LDR_XSPI_XDIV xdiv).setFld Fld.LDR_XSPI_DUMMY (if 8 ≤ dummy ∧ dummy ≤ 30 then dummy else 20) = u at htimed
  refine ⟨?_, ?_, ?_, ?_⟩
  · rw [State.flag_setFlag_sep _ _ rfl, State.flag_setFlag_sep _ _ rfl, State.flag_setFlag_sep _ _ rfl]
    exact State.flag_setFlag_same _ _ _ rfl rfl
  · rw [State.flag_setFlag_sep _ _ rfl, State.flag_setFlag_sep _ _ rfl]
    exact State.flag_setFlag_same _ _ _ rfl rfl
  · rw [State.flag_setFlag_sep _ _ rfl]
    exact State.flag_setFlag_same _ _ _ rfl rfl
  · exact (((htimed.setFlag _ _ rfl (by simp [xspiFields])).setFlag _ _ rfl (by simp [xspiFields])).setFlag _ _ rfl
      (by simp [xspiFields])).setFlag _ _ rfl (by simp [xspiFields])

/-- The directory's entries, and the flash that they guard. -/
def State.withDir (s : State) (es : List DirEntry) (guard : List (Nat × Nat × Nat)) : State :=
  { s with ldr := { s.ldr with entries := es }, lib := { s.lib with flashGuard := guard } }

theorem State.flag_withDir (es : List DirEntry) (guard : List (Nat × Nat × Nat)) (f : Field) : (s.withDir es guard).flag f = s.flag f :=
  State.flag_congr rfl f

theorem State.entries_withDir (es : List DirEntry) (guard : List (Nat × Nat × Nat)) : (s.withDir es guard).ldr.entries = es := rfl

theorem Only.withDir {w : List Field} {t : State} (h : Only w s t) (es : List DirEntry) (guard : List (Nat × Nat × Nat)) :
    Only w (s.withDir es guard) (t.withDir es guard) := ⟨(congrArg (fun u : State => u.withDir es guard) h.1 :), h.2⟩

theorem State.dirTake_spec (b : List Byte) (k : Bool) : ∃ guard, s.dirTake b k = s.withDir ((List.range 32).map (dirEntry b)) guard :=
  ⟨_, rfl⟩

variable {first second : List Byte} (hrom : s.inRom = true) (hidle : s.lib.romWait = false) (hrole : s.fld Fld.LDR_XSPI_ROLE ≤ 1)
include hrom hidle hrole

theorem completes_directoryRead_good {b : List Byte} {k : Bool} (hdir : dirChoice first second = some (b, k)) :
    Completes (.directoryRead first second) s fun t =>
      t.ldr.entries = (List.range 32).map (dirEntry b) ∧ t.flag Fld.LDR_XSPI_STRIPE = (b.getD 10 0).getLsbD 0 ∧
      t.flag Fld.LDR_XSPI_PORT0 = true ∧ t.flag Fld.LDR_XSPI_PORT1 = (b.getD 10 0).getLsbD 0 ∧
      Only xspiFields (s.withDir t.ldr.entries t.lib.flashGuard) t := by
  have hexec : exec (.directoryRead first second) s = .next ((s.xspiSet b).dirTake b k) := by
    refine congrArg Host.Outcome.next ((if_pos ?_).trans ?_)
    · rw [hrom, hidle, decide_eq_true hrole]
      rfl
    · rw [hdir]
  obtain ⟨hstripe, hport0, hport1, honly⟩ := s.xspiSet_spec b
  rw [bitOf_numAt_byte] at hstripe hport1
  generalize s.xspiSet b = u at *
  obtain ⟨guard, htake⟩ := u.dirTake_spec b k
  rw [htake] at hexec
  generalize (List.range 32).map (dirEntry b) = es at hexec ⊢
  exact ⟨_, hexec, u.entries_withDir es guard, (u.flag_withDir es guard _).trans hstripe, (u.flag_withDir es guard _).trans hport0,
    (u.flag_withDir es guard _).trans hport1, honly.withDir s es guard⟩

theorem completes_directoryRead_bad (hdir : dirChoice first second = none) :
    Completes (.directoryRead first second) s fun t => t.lib.romWait = true := by
  have hexec : exec (.directoryRead first second) s =
      .next (if s.booting then (s.checkFails 1 0 0).romWaits else s.romWaits) := by
    refine congrArg Host.Outcome.next ((if_pos ?_).trans ?_)
    · rw [hrom, hidle, decide_eq_true hrole]
      rfl
    · rw [hdir]
  refine ⟨_, hexec, ?_⟩
  split
  · rfl
  · rfl

end

/-! ## Firmware started (R458, R459) -/

/-- Verified firmware runs at its entry; at boot the loader is in HEADER. -/
structure State.FwStarted (s : State) (b : List Byte) (t : State) : Prop where
  entry : Sparse.get 0 t.lib.entry 0 = numAt b 12 4
  reg : t.reg Reg.LIB_C0_ENTRY = BitVec.ofNat 32 (numAt b 12 4)
  romWait : t.lib.romWait = false
  phase : s.ldr.phase = 1 → t.ldr.phase = 2

section
variable (s : State)

theorem State.sramLoad_ldr (b : List Byte) (clear : Nat) : (s.sramLoad b clear).ldr = s.ldr := by
  unfold State.sramLoad
  extract_lets s1 s2
  have h1 : s1.ldr = s.ldr := foldl_keeps (fun t : State => t.ldr) _ _ s fun _ _ _ => rfl
  have h2 : s2.ldr = s1.ldr := foldl_keeps (fun t : State => t.ldr) _ _ s1 fun _ _ _ => rfl
  have h3 : ((List.range 8192).foldl (fun s j => s.setSram (122880 + j) 0) s2).ldr = s2.ldr :=
    foldl_keeps (fun t : State => t.ldr) _ _ s2 fun _ _ _ => rfl
  exact h3.trans (h2.trans h1)

theorem State.extendMr_ldr (i : Nat) (x : List Byte) : (s.extendMr i x).ldr = s.ldr :=
  (congrArg (fun t : State => t.ldr) (s.extendMr_only i x).1 :)

theorem State.core_raiseDrop : s.raiseDrop.core = s.core := State.core_raiseWith id s 476 fun _ => rfl

/-- Core 0 jumps to an entry (R452). -/
theorem State.coreAt_zero_spec (addr : Nat) : Sparse.get 0 (s.coreAt 0 addr).lib.entry 0 = addr ∧
    (s.coreAt 0 addr).lib.romWait = s.lib.romWait ∧ (s.coreAt 0 addr).ldr = s.ldr ∧
    (s.coreAt 0 addr).reg Reg.LIB_C0_ENTRY = s.reg Reg.LIB_C0_ENTRY := by
  have hset := s.coreAt_coreSet 0 addr
  refine ⟨(hset.lib (fun l => Sparse.get 0 l.entry 0) fun _ => rfl).trans (s.entry_withEntry 0 addr),
    hset.lib (fun l => l.romWait) fun _ => rfl, (congrArg (fun x : State => x.ldr) hset.frame.1 :), ?_⟩
  exact State.reg_eq_of_fld_wholeReg (hset.fld (by decide) (by decide) rfl)

theorem State.bootLoad_spec : s.bootLoad.lib = s.lib ∧ s.bootLoad.reg Reg.LIB_C0_ENTRY = s.reg Reg.LIB_C0_ENTRY ∧
    s.bootLoad.ldr.phase = 2 := by
  unfold State.bootLoad
  extract_lets src index
  refine ⟨rfl, ?_, rfl⟩
  rw [State.reg_setPhase _ _ (by decide), State.beginStream, State.reg_setReg_other _ _ (by decide), State.reg_setReg_other _ _ (by decide)]
  rfl

/-! ### The stages of a start -/

/-- The firmware noted as the running one (R424, R460). -/
def State.fwNoted (s : State) (slot v : Nat) : State :=
  ({ s with
    sec := { s.sec with fw := some (slot, v) },
    lib := { s.lib with fwVersion := v, romWait := false, fwSecond := false, fwBuf := [] } } : State).setRun

/-- The boot record (R458, R469). -/
def State.fwLogged (s : State) (v : Nat) : State :=
  s.logAppend State.raiseDrop 4 0 0 0
    [(s.reg Reg.DEV_STRAPS).toNat, (s.reg Reg.LDR_IMG_SRC).toNat, (s.reg Reg.LIB_RST_CAUSE).toNat, v]

/-- The jump to the firmware's entry. -/
def State.fwJumped (s : State) (entry : Nat) : State := (s.setReg Reg.LIB_C0_ENTRY (BitVec.ofNat 32 entry)).coreAt 0 entry

/-- At boot the loader goes on. -/
def State.fwBooted (s : State) : State := if s.booting then s.bootLoad else s

theorem State.fwStart_eq (b : List Byte) : s.fwStart b =
    (((((s.sramLoad (fwParts b).1 (numAt b 16 4)).extendMr 1 (digest64 (fwParts b).1)).fwNoted (s.fwSlot (fwParts b).2) (numAt b 6 1)).fwLogged
      (numAt b 6 1)).fwJumped (numAt b 12 4)).fwBooted := rfl

theorem State.setRun_spec : s.setRun.ldr = s.ldr ∧ s.setRun.lib = s.lib := by
  unfold State.setRun
  extract_lets f g
  exact ⟨State.setReg_ldr _ _ _, State.setReg_lib _ _ _⟩

theorem State.fwNoted_spec (slot v : Nat) : (s.fwNoted slot v).ldr = s.ldr ∧ (s.fwNoted slot v).lib.romWait = false := by
  unfold State.fwNoted
  obtain ⟨hldr, hlib⟩ := State.setRun_spec { s with
    sec := { s.sec with fw := some (slot, v) },
    lib := { s.lib with fwVersion := v, romWait := false, fwSecond := false, fwBuf := [] } }
  exact ⟨by rw [hldr], by rw [hlib]⟩

theorem State.fwLogged_spec (v : Nat) : (s.fwLogged v).ldr = s.ldr ∧ (s.fwLogged v).lib.romWait = s.lib.romWait := by
  have hcore : (s.fwLogged v).core = s.core := State.core_logAppend _ s 4 0 0 0 _ State.core_raiseDrop
  exact ⟨(congrArg (fun x : State => x.ldr) hcore :), (congrArg (fun x : State => x.lib.romWait) hcore :)⟩

theorem State.fwJumped_spec (entry : Nat) : Sparse.get 0 (s.fwJumped entry).lib.entry 0 = entry ∧
    (s.fwJumped entry).lib.romWait = s.lib.romWait ∧ (s.fwJumped entry).ldr = s.ldr ∧
    (s.fwJumped entry).reg Reg.LIB_C0_ENTRY = BitVec.ofNat 32 entry := by
  obtain ⟨hentry, hwait, hldr, hreg⟩ := (s.setReg Reg.LIB_C0_ENTRY (BitVec.ofNat 32 entry)).coreAt_zero_spec entry
  exact ⟨hentry, hwait, hldr, hreg.trans (State.reg_setReg_same _ _ _)⟩

theorem State.fwBooted_spec : s.fwBooted.lib = s.lib ∧ s.fwBooted.reg Reg.LIB_C0_ENTRY = s.reg Reg.LIB_C0_ENTRY ∧
    (s.ldr.phase = 1 → s.fwBooted.ldr.phase = 2) := by
  unfold State.fwBooted
  split
  case isTrue hboot =>
    obtain ⟨hlib, hreg, hphase⟩ := s.bootLoad_spec
    exact ⟨hlib, hreg, fun _ => hphase⟩
  case isFalse hno => exact ⟨rfl, rfl, fun hphase => absurd (beq_iff_eq.2 hphase) hno⟩

theorem State.fwStart_spec (b : List Byte) : s.FwStarted b (s.fwStart b) := by
  rw [s.fwStart_eq b]
  have hloaded := (State.extendMr_ldr _ 1 (digest64 (fwParts b).1)).trans (s.sramLoad_ldr (fwParts b).1 (numAt b 16 4))
  generalize (s.sramLoad (fwParts b).1 (numAt b 16 4)).extendMr 1 (digest64 (fwParts b).1) = s1 at hloaded ⊢
  obtain ⟨hldr2, hwait2⟩ := s1.fwNoted_spec (s.fwSlot (fwParts b).2) (numAt b 6 1)
  generalize s1.fwNoted (s.fwSlot (fwParts b).2) (numAt b 6 1) = s2 at *
  obtain ⟨hldr3, hwait3⟩ := s2.fwLogged_spec (numAt b 6 1)
  generalize s2.fwLogged (numAt b 6 1) = s3 at *
  obtain ⟨hentry, hwait4, hldr4, hreg⟩ := s3.fwJumped_spec (numAt b 12 4)
  generalize s3.fwJumped (numAt b 12 4) = s4 at *
  obtain ⟨hlib, hreg5, hphase⟩ := s4.fwBooted_spec
  refine ⟨by rw [hlib, hentry], hreg5.trans hreg, by rw [hlib, hwait4, hwait3, hwait2], fun hboot => hphase ?_⟩
  rw [hldr4, hldr3, hldr2, hloaded, hboot]

/-! ## Firmware that fails (R459, R460) -/

theorem State.core_fwRecord (verdict : Nat) : (s.fwRecord verdict).core = s.core := by
  rw [State.fwRecord]
  split
  · exact State.core_raiseBit _ _ _
  · unfold State.sigFailed
    extract_lets s1
    split
    · exact State.core_raiseBit _ _ _
    · exact State.core_raiseBit _ _ _

theorem State.fullFails_entry (code : Status) : (s.fullFails code).lib.entry = s.lib.entry := by
  cases hslot : s.fallbackSlot with
  | none =>
    obtain ⟨-, -, -, -, -, -, -, -, honly⟩ := State.fullFails_failed hslot code
    exact (congrArg (fun x : State => x.lib.entry) honly.1 :)
  | some i =>
    rw [State.fullFails_fallback hslot]
    exact (congrArg (fun x : State => x.lib.entry) (State.core_raiseBit (s.fallsBack i) Fld.LDR_STATUS_FALLBACK 414) :)

theorem State.romWaits_spec : s.romWaits.lib.romWait = true ∧ s.romWaits.lib.fwBuf = [] ∧ s.romWaits.lib.entry = s.lib.entry :=
  ⟨rfl, rfl, rfl⟩

theorem State.fwRecord_entry (verdict : Nat) : (s.fwRecord verdict).lib.entry = s.lib.entry :=
  (congrArg (fun x : State => x.lib.entry) (s.core_fwRecord verdict) :)

/-- Firmware that fails where no fallback entry is left leaves core 0 in the ROM, waiting. -/
theorem State.fwFails_spec (hlast : s.fwFallback = false) (verdict : Nat) :
    (s.fwFails verdict).lib.romWait = true ∧ (s.fwFails verdict).lib.entry = s.lib.entry := by
  rw [State.fwFails, hlast]
  dsimp only
  rw [if_neg (by decide)]
  split
  · exact ⟨rfl, (State.fullFails_entry _ _).trans (s.fwRecord_entry verdict)⟩
  · exact ⟨rfl, s.fwRecord_entry verdict⟩

/-! ## Firmware judged -/

theorem completes_firmwareLoaded {bytes : List Byte} (hrom : s.inRom = true) (hidle : s.lib.romWait = false)
    (hrole : s.fld Fld.LDR_XSPI_ROLE ≤ 1) (hentry : s.fwEntry = true) (hlast : s.fwFallback = false) :
    Completes (.firmwareLoaded bytes) s fun t =>
      (s.fwVerdict bytes = 0 → s.FwStarted bytes t) ∧
      (s.fwVerdict bytes ≠ 0 → t.lib.romWait = true ∧ t.lib.entry = s.lib.entry) := by
  have hexec : exec (.firmwareLoaded bytes) s = .next (s.fwJudge bytes) := by
    refine congrArg Host.Outcome.next ((if_pos ?_).trans ((if_pos hrole).trans (if_pos hentry)))
    rw [hrom, hidle]
    rfl
  by_cases hgood : s.fwVerdict bytes = 0
  · exact .of_eq hexec (if_pos hgood) ⟨fun _ => s.fwStart_spec bytes, fun hbad => absurd hgood hbad⟩
  · exact .of_eq hexec (if_neg hgood) ⟨fun hok => absurd hok hgood, fun _ => s.fwFails_spec hlast _⟩

section
variable (hrom : s.inRom = true) (hwait : s.lib.romWait = true) (hfifo : Sparse.get [] s.ldr.stream 1 ≠ [])
include hrom hwait hfifo

theorem exec_firmwareArrival : exec .firmwareArrival s = .next (s.fwArrives 1) := by
  have hgo : (s.inRom && s.lib.romWait) = true := by
    rw [hrom, hwait]
    rfl
  have hsource : ((Sparse.get [] s.ldr.stream 1).isEmpty && s.lib.fwBuf.isEmpty) = false := by
    rw [List.isEmpty_eq_false_iff.2 hfifo, Bool.false_and]
  refine congrArg Host.Outcome.next ((if_pos hgo).trans ?_)
  rw [hsource]
  rfl

theorem completes_firmwareArrival_partial (hpart : (s.fwTake 1).fwWhole = false) :
    Completes .firmwareArrival s fun t => t = s.fwTake 1 :=
  .of_eq (exec_firmwareArrival s hrom hwait hfifo) (if_neg (by rw [hpart]; decide)) rfl

/-- What a whole image comes to. -/
theorem completes_firmwareArrival_whole {u : State} (hu : s.fwTake 1 = u) (hwhole : u.fwWhole = true) :
    Completes .firmwareArrival s fun t =>
      (u.fwVerdict u.lib.fwBuf = 0 → u.FwStarted u.lib.fwBuf t) ∧
      (u.fwVerdict u.lib.fwBuf ≠ 0 → t.lib.romWait = true ∧ t.lib.fwBuf = [] ∧ t.lib.entry = u.lib.entry) := by
  have hexec : exec .firmwareArrival s = .next
      (if u.fwVerdict u.lib.fwBuf = 0 then u.fwStart u.lib.fwBuf else (u.fwRecord (u.fwVerdict u.lib.fwBuf)).romWaits) := by
    rw [exec_firmwareArrival s hrom hwait hfifo, State.fwArrives, hu]
    exact congrArg Host.Outcome.next (if_pos hwhole)
  by_cases hgood : u.fwVerdict u.lib.fwBuf = 0
  · exact .of_eq hexec (if_pos hgood) ⟨fun _ => u.fwStart_spec _, fun hbad => absurd hgood hbad⟩
  · exact .of_eq hexec (if_neg hgood) ⟨fun hok => absurd hok hgood, fun _ => ⟨rfl, rfl, u.fwRecord_entry _⟩⟩

end

theorem State.fwTake_entry (src : Nat) : (s.fwTake src).lib.entry = s.lib.entry := by
  unfold State.fwTake
  extract_lets all n rest s1
  split
  · rfl
  · rfl

end

/-- An entry that has only its condition (R390). -/
theorem completes_progEntry {s : State} {e : ProgEntry} (hentry : s.progEntry = some e) {c : Instr} {op : Nat} {done : ProgEntry → Bool}
    (hexec : exec c s = .next (s.progStep op done id)) (hdone : done e = true) (hop : e.op = op) :
    Completes c s fun t => t = { s with ldr := { s.ldr with progAt := s.ldr.progAt + 1 } } :=
  .of_eq hexec (State.progStep_done hentry hop hdone id) rfl

/-- SYNC_DONE releases DONE (R390). -/
theorem completes_syncDone {s : State} {e : ProgEntry} (hentry : s.progEntry = some e) (hop : e.op = 6) :
    Completes .syncDone s fun t => t = { s with ldr := { s.ldr with progAt := s.ldr.progAt + 1, doneOut := true } } := by
  have hexec : exec .syncDone s =
      .next (s.progStep 6 (fun _ => true) fun u => { u with ldr := { u.ldr with doneOut := true } }) := rfl
  rw [State.progStep_done hentry hop rfl] at hexec
  exact ⟨_, hexec, rfl⟩

/-! ## The obligation -/

/-- Settles O32: the ROM's steps by the outcome of the directory and of the firmware, and each entry of the start-up program by its
operation; OUT by the chain of its parts. -/
theorem startUp : Obligations.StartUp := by
  intro first second bytes s
  refine ⟨fun hrom hidle hrole => ⟨fun b k hdir => completes_directoryRead_good s hrom hidle hrole hdir,
    fun hdir => completes_directoryRead_bad s hrom hidle hrole hdir, fun hentry hlast => ?_⟩, fun hrom hwait hfifo => ?_,
    fun e hentry => ?_⟩
  · obtain ⟨t, hexec, hgood, hbad⟩ := completes_firmwareLoaded s (bytes := bytes) hrom hidle hrole hentry hlast
    refine ⟨t, hexec, fun hok => ?_, hbad⟩
    obtain ⟨hstart, hreg, hwait, hphase⟩ := hgood hok
    exact ⟨hstart, hreg, hwait, hphase⟩
  · intro u
    refine ⟨completes_firmwareArrival_partial s hrom hwait hfifo, fun hwhole => ?_⟩
    obtain ⟨t, hexec, hgood, hbad⟩ := completes_firmwareArrival_whole s hrom hwait hfifo rfl hwhole
    refine ⟨t, hexec, fun hok => ⟨(hgood hok).entry, (hgood hok).romWait⟩, fun hno => ?_⟩
    obtain ⟨hwaits, hbuf, hkept⟩ := hbad hno
    exact ⟨hwaits, hbuf, hkept.trans (s.fwTake_entry 1)⟩
  · intro next
    refine ⟨completes_progEntry hentry rfl rfl, fun hop hready => completes_progEntry hentry rfl hready hop,
      fun hop hlock => completes_progEntry hentry rfl (beq_iff_eq.2 hlock) hop,
      fun hop hpin => completes_progEntry hentry rfl (beq_iff_eq.2 hpin) hop, fun hop hpair => completes_progEntry hentry rfl hpair hop,
      completes_progEntry hentry rfl rfl, completes_syncDone hentry, fun hop hchange hphase => ?_,
      fun hop => ?_, fun hlo hhi htmo => ⟨completes_entryTimeout_goOn hentry ⟨hlo, hhi⟩ htmo, fun hgo hchange => ?_⟩⟩
    · have hdone : (s.ldr.change.isNone && s.ldr.phase == 8) = true := by
        rw [hchange, hphase]
        rfl
      obtain ⟨t, hexec, rfl⟩ := completes_progStep (c := .progOut) (f := State.outPhase) hentry rfl hop hdone
      obtain ⟨hp, hd, herr, hiob, hstate, hturn, hout, hbit, hpend, hprog⟩ := s.outPhase_spec
      generalize s.outPhase = u at *
      exact ⟨_, hexec, hp, hd, herr, hiob, hstate, hturn, hout, hbit, hpend, congrArg (· + 1) hprog⟩
    · obtain ⟨t, hexec, rfl⟩ := completes_progStep (c := .progStartSeq) hentry rfl hop rfl
      exact ⟨_, hexec, s.seqCmd 0 1, rfl, rfl⟩
    · obtain ⟨t, hexec, hphase, -, -, hcode, hsticky, -⟩ := completes_entryTimeout_fails hentry ⟨hlo, hhi⟩ htmo hgo hchange
      exact ⟨t, hexec, hphase, hcode, hsticky⟩

end Sys2Proof.Machine
